-- ==== Sys2Proof/Word.lean ====
section
/-! DEFINITION. The words of the Yogal's register space and of the structures its commands carry, and their byte order (R4: little-endian). -/

namespace Sys2Proof

/-- One byte. -/
abbrev Byte := BitVec 8

/-- One register of the register space (R457): a 32-bit word. -/
abbrev Word := BitVec 32

/-- The 64 data bytes of one DRAM line, byte 0 in bits 7..0. -/
abbrev LineData := BitVec 512

/-- The 16 host check bytes of one DRAM line, byte 0 in bits 7..0 (R86). -/
abbrev CheckBytes := BitVec 128

/-- A packet as it stands in its 64-byte aperture line (Table 4-1), byte 0 in bits 7..0. -/
abbrev PacketBits := BitVec 512

/-- A 32-byte status slot (Table 4-2), byte 0 in bits 7..0. -/
abbrev SlotBits := BitVec 256

/-- A SHA-256 digest, byte 0 (the first of its big-endian bytes) in bits 7..0. -/
abbrev Digest := BitVec 256

/-- The little-endian number that a list of bytes spells (R4). -/
def leNat : List Byte → Nat
  | [] => 0
  | b :: bs => b.toNat + 256 * leNat bs

/-- The `n` little-endian bytes of a number, high bits dropped (R4). -/
def leBytes : Nat → Nat → List Byte
  | 0, _ => []
  | n + 1, x => BitVec.ofNat 8 x :: leBytes n (x / 256)

/-- Bits `lo` to `lo + w - 1` of a number. -/
def natBits (x lo w : Nat) : Nat := x / 2 ^ lo % 2 ^ w

/-- The bytes `off` to `off + n - 1` of a list, missing bytes read as zero. -/
def sliceBytes (bs : List Byte) (off n : Nat) : List Byte :=
  let t := (bs.drop off).take n
  t ++ List.replicate (n - t.length) 0

/-- The little-endian field of `n` bytes at byte `off`. -/
def leField (bs : List Byte) (off n : Nat) : Nat := leNat (sliceBytes bs off n)

/-- The number whose bits a list gives, bit 0 first. -/
def leBits : List Bool → Nat
  | [] => 0
  | b :: bs => (if b then 1 else 0) + 2 * leBits bs

/-- Round a quotient up. -/
def ceilDiv (a b : Nat) : Nat := (a + b - 1) / b

/-- An addition that stops at `top`, as a saturating counter does. -/
def satAdd (a b top : Nat) : Nat := min (a + b) top

end Sys2Proof
end

