-- ==== Sys2Proof/Syntax.lean ====
section
/-! DEFINITION. The commands the Yogal takes (spec/opcode_table.json), one constructor per row, and the plain types their operands carry. -/

namespace Sys2Proof

/-- Severities (Tables 14-1 and 15-1). -/
inductive Sev where
  | trace | note | fault | critical
deriving DecidableEq, Repr

/-- The two bits of a severity. -/
def sevCode : Sev → Nat
  | .trace => 0
  | .note => 1
  | .fault => 2
  | .critical => 3

/-- The severity that two bits name. -/
def sevOfCode (n : Nat) : Sev :=
  if n = 0 then .trace else if n = 1 then .note else if n = 2 then .fault else .critical

/-- The kinds of fault message (Table 14-3). -/
inductive FaultKind where
  | paceLow | xtalFail | cornerCrc | sptSelf | feedAOv | feedBLow
  | feedBOv | coreLost | coresLost | linkDown | coreNoKite | sramUe
  | unitError | pairWire | unitNotReady | domainFault | laneFault | parityBlockLong
  | dirtyTapOverrun | trainFail | clockDiscontinuity | clockLoss | pllNoLock | sscRefused
  | dramHot | handbackEarly | handbackLate | harvestRecheck | gleanHostchk | rationExceeded
  | checkMismatch | flashTimeout | flashTrainFail | flashUnsupported | dieRetired | swathShort
  | waitRefused | wearShort | packShort | packTestFail | railNoStart | railFault
  | mbFault | attachLoop
deriving DecidableEq, Repr

/-- The code of a kind (Table 14-3). -/
def kindCode : FaultKind → Nat
  | .paceLow => 0x01
  | .xtalFail => 0x02
  | .cornerCrc => 0x03
  | .sptSelf => 0x04
  | .feedAOv => 0x05
  | .feedBLow => 0x06
  | .feedBOv => 0x07
  | .coreLost => 0x08
  | .coresLost => 0x09
  | .linkDown => 0x0A
  | .coreNoKite => 0x0B
  | .sramUe => 0x0C
  | .unitError => 0x0D
  | .pairWire => 0x0E
  | .unitNotReady => 0x0F
  | .domainFault => 0x10
  | .laneFault => 0x11
  | .parityBlockLong => 0x12
  | .dirtyTapOverrun => 0x13
  | .trainFail => 0x14
  | .clockDiscontinuity => 0x15
  | .clockLoss => 0x16
  | .pllNoLock => 0x17
  | .sscRefused => 0x18
  | .dramHot => 0x19
  | .handbackEarly => 0x1A
  | .handbackLate => 0x1B
  | .harvestRecheck => 0x1C
  | .gleanHostchk => 0x1D
  | .rationExceeded => 0x1E
  | .checkMismatch => 0x1F
  | .flashTimeout => 0x20
  | .flashTrainFail => 0x21
  | .flashUnsupported => 0x22
  | .dieRetired => 0x23
  | .swathShort => 0x24
  | .waitRefused => 0x25
  | .wearShort => 0x26
  | .packShort => 0x27
  | .packTestFail => 0x28
  | .railNoStart => 0x29
  | .railFault => 0x2A
  | .mbFault => 0x2B
  | .attachLoop => 0x2C

/-- The kind that a code names; none where the code is not used (Table 14-3). -/
def kindOfCode (n : Nat) : Option FaultKind :=
  match n with
  | 0x01 => some .paceLow
  | 0x02 => some .xtalFail
  | 0x03 => some .cornerCrc
  | 0x04 => some .sptSelf
  | 0x05 => some .feedAOv
  | 0x06 => some .feedBLow
  | 0x07 => some .feedBOv
  | 0x08 => some .coreLost
  | 0x09 => some .coresLost
  | 0x0A => some .linkDown
  | 0x0B => some .coreNoKite
  | 0x0C => some .sramUe
  | 0x0D => some .unitError
  | 0x0E => some .pairWire
  | 0x0F => some .unitNotReady
  | 0x10 => some .domainFault
  | 0x11 => some .laneFault
  | 0x12 => some .parityBlockLong
  | 0x13 => some .dirtyTapOverrun
  | 0x14 => some .trainFail
  | 0x15 => some .clockDiscontinuity
  | 0x16 => some .clockLoss
  | 0x17 => some .pllNoLock
  | 0x18 => some .sscRefused
  | 0x19 => some .dramHot
  | 0x1A => some .handbackEarly
  | 0x1B => some .handbackLate
  | 0x1C => some .harvestRecheck
  | 0x1D => some .gleanHostchk
  | 0x1E => some .rationExceeded
  | 0x1F => some .checkMismatch
  | 0x20 => some .flashTimeout
  | 0x21 => some .flashTrainFail
  | 0x22 => some .flashUnsupported
  | 0x23 => some .dieRetired
  | 0x24 => some .swathShort
  | 0x25 => some .waitRefused
  | 0x26 => some .wearShort
  | 0x27 => some .packShort
  | 0x28 => some .packTestFail
  | 0x29 => some .railNoStart
  | 0x2A => some .railFault
  | 0x2B => some .mbFault
  | 0x2C => some .attachLoop
  | _ => none

/-- A fault message (Table 14-1). -/
structure FaultMsg where
  source : Fin 1024
  kind : FaultKind
  sev : Sev
  qual : Fin 16384
  follow : Word
  inj : Bool
deriving DecidableEq, Repr

/-- An event record as it reaches the recorder: what its source gives of Table 15-1. -/
structure EvRecord where
  sev : Sev
  inj : Bool
  code : Nat
  source : Fin 1024
  tick : BitVec 64
  payload : List Byte
deriving DecidableEq, Repr

/-- The two control cores. -/
inductive CoreId where
  | a | b
deriving DecidableEq, Repr

/-- The two sub-channels of the host port. -/
inductive Sub where
  | a | b
deriving DecidableEq, Repr

/-- The three reset outputs (R390). -/
inductive ResetPin where
  | pmic | pack | aux
deriving DecidableEq, Repr

/-- What step 3 of a capacitance test finds (Table 13-10): the pack's voltage V0 in millivolts, and whether the pack answers PK_LOAD 1 (R391). -/
structure SettledSample where
  v0 : BitVec 16
  answered : Bool
deriving DecidableEq, Repr

/-- An answer to PK_STATUS (Table 13-9). -/
structure PackStatus where
  charged : Bool
  charging : Bool
  fault : Bool
deriving DecidableEq, Repr

/-- A command as it crosses the CA input: its sub-channel, package rank and logical rank, and each UI it was sampled in, as the seven CA bits and the parity bit (R38, R43). -/
structure CaCmd where
  sub : Sub
  rank : Fin 2
  lrank : Fin 4
  uis : List (BitVec 7 × Bool)
deriving DecidableEq, Repr

/-- A bank as a command names it. -/
structure BankAddr where
  bg : Fin 8
  ba : Fin 4
deriving DecidableEq, Repr

/-- The burst length a column command asks for (Table 2-6). -/
inductive Burst where
  | bl16 | bc8 | bl32
deriving DecidableEq, Repr

/-- The precharge commands of R42. -/
inductive PreKind where
  | one | sameBank | allBanks
deriving DecidableEq, Repr

/-- Which of the taps whose FIFO depth the spec does not give are full when the command's entry arrives (R13). -/
structure TapFull where
  dirty : Bool
  packet : Bool
deriving DecidableEq, Repr

/-- Where a DRAM-side training run found no passing window (R80, R500). -/
structure TrainFailAt where
  rank : Fin 2
  step : Fin 9
  sub : Sub
  lane : Fin 32
deriving DecidableEq, Repr

/-- Where a packet came from: a ring of the packet aperture, or the sideband mailbox (R133). -/
inductive PktSrc where
  | ring (r : Fin 32768)
  | mailbox
deriving DecidableEq, Repr

/-- The loops of the clock unit (R350, R352). -/
inductive PllLoop where
  | h | d | f
deriving DecidableEq, Repr

/-- What a status poll and the transfer after it show of an operation that has ended (Tables 10-4, 10-6): for a SUSPEND, whether the erase is suspended and not finished; `mismatch` is the checker's kind, expected and observed CRC. -/
structure Poll where
  status : Byte
  fail : Bool
  suspended : Bool
  busyNs : BitVec 32
  maxCorr : Fin 121
  bad : BitVec 16
  erased : BitVec 16
  mismatch : Option (Fin 4 × Word × Word)
deriving DecidableEq, Repr

/-- What the sequencer finds in flash at boot: the sheaves of the twins that fail their SHA-256 (twin × 3 + sheaf), and for a blank module the dies per channel and the factory-marked bad blocks by channel, die index and row. -/
structure BootEnv where
  twinBad : BitVec 6
  dies : Fin 5
  factoryBad : List (Fin 17 × Fin 4 × Fin 1372)
  anchorBad : List Nat
deriving DecidableEq, Repr

/-- What a die's ONFI parameter page reports of the properties of Table 9-1: bits per cell and density in Gb, an SLC mode, planes and multi-plane program, read and erase, data and spare bytes of a page, pages per block in TLC and SLC mode, blocks per plane, NV-LPDDR4 with its highest rate in MT/s and its width, VCCQ in mV, erase suspend and resume, the maximum SLC-mode tPROG and the maximum tR in SLC and TLC mode in ns, and the endurance in cycles in SLC and TLC mode. -/
structure DiePage where
  cellBits : Nat
  density : Nat
  slc : Bool
  planes : Nat
  multiPlane : Bool
  pageData : Nat
  pageSpare : Nat
  tlcPages : Nat
  slcPages : Nat
  blocks : Nat
  nvLpddr4 : Bool
  rate : Nat
  width : Nat
  vccq : Nat
  suspend : Bool
  tprog : Nat
  trSlc : Nat
  trTlc : Nat
  cyclesSlc : Nat
  cyclesTlc : Nat
deriving DecidableEq, Repr

/-- What the DECIDE phase finds: the dies' parameter pages by channel × 4 + die (what they report, and the first 32 identity bytes), channels whose interface training fails, the centre settings that each channel's training finds (FCE_TRN), ledger records that are chaff, GENs whose index sheaves cannot be read or fail their digest, positions of the anchor logs (log × 4,352 + position) whose codeword fails its CRC, and whether the chain head fails its check. -/
structure DecideEnv where
  dies : List (Fin 68 × DiePage × BitVec 256)
  trainFail : BitVec 17
  trn : List (Fin 17 × Word)
  chaff : List Nat
  indexUnread : List Nat
  indexBad : List Nat
  anchorBad : List Nat
  chainBad : Bool
deriving DecidableEq, Repr

/-- What the end of a pace window shows: the count, VDD_CORE at its start in mV, the junction temperature in °C (two's complement), the crystal's deviation in 0.01 % (two's complement) and whether it stopped, and the feeds' voltages in mV. -/
structure PaceEnv where
  count : BitVec 16
  vdd : BitVec 16
  temp : BitVec 16
  xtal : BitVec 16
  stopped : Bool
  feedA : BitVec 16
  feedB : BitVec 16
deriving DecidableEq, Repr

/-- The paths of Table 16-2 whose accesses are commands of their own; REG_READ, REG_WRITE and snapshots are other commands' parts. -/
inductive RegPath where
  | sideband
  | core (c : CoreId)
deriving DecidableEq, Repr

/-- What the failing word of an SRAM_UE holds (R404): the granules a map word covers, the granule of a staged ear in service or lull, a ring-tail line, and so on. `retried` stands for a staging word in save or restore, which the mover reads again. -/
inductive SramUse where
  | maps (gs : List (Fin 0x80000))
  | retried
  | gleanStaging (g : Fin 0x80000)
  | ringTail (ring : Fin 32768) (seq : BitVec 16)
  | coreMemory (c : CoreId)
  | recorder
  | planStore
  | other (dom : Fin 148)
deriving DecidableEq, Repr


/-- The commands of the block, one constructor per row of spec/opcode_table.json. -/
inductive Instr where
  /-- POWER_ON_RESET_RELEASE (R368). The always-on power-on reset is released once VAON is present, feed A has been above 10.8 V for 10 ms and the start timer has expired, and power-up begins. -/
  | powerOnResetRelease (bGood : Bool) (mbBad : BitVec 6) (mbRetries : BitVec 16)
  /-- START_TIMER_EXPIRY (R368). The start timer of 100 ms x 2^k expires, which permits the power-on reset to be released. -/
  | startTimerExpiry
  /-- VAON_FALL (R367). VAON falls below 1.55 V, and domain 0 with its kept registers and the backoff count is lost. -/
  | vaonFall
  /-- FEED_A_GOOD (R369). Feed A has stayed above 10.8 V for its GOOD_MS dwell, which enables power-up, rebound and pack tests. -/
  | feedAGood
  /-- FEED_A_LOW_TRIGGER (R24). Feed A has stayed below SAVE_TH for the 2 µs filter, which is a save trigger, or a shut-down without save in power-up, in attach and with NO_PLAN = 1. -/
  | feedALowTrigger
  /-- FEED_A_OV (R369). Feed A has stayed above 13.6 V for 2 µs; GATE_A turns off and the safety partition decides to save. -/
  | feedAOv
  /-- FEED_B_LOW (R369). Feed B has stayed below 8.0 V for 2 µs; the Yogal goes to off in save or shut-down, and reports FEED_B_LOW elsewhere. -/
  | feedBLow
  /-- FEED_B_OV (R369). Feed B has stayed above 13.6 V for 2 µs; GATE_B is held off and the pack's usable energy counts as 0. -/
  | feedBOv
  /-- FEED_B_OV_RECOVERY (R369). Feed B has been back in range for 1 s after an over-voltage, so the pack's energy counts again. -/
  | feedBOvRecovery
  /-- SUPPLY_LOST (R387). Neither feed holds the supply, and the Yogal goes to off at once. -/
  | supplyLost
  /-- SAVE_N_ASSERTED (R493). A fall of SAVE_n passes its 25-sample filter, and the safety partition decides to save or records the trigger as ignored. -/
  | saveNAsserted
  /-- DRAM_HANDOVER_TO_BDC (R71). When the last data transfer forwarded before the freeze ends, the HBP hands the DRAM to the BDC, which moves it to PLL_S and takes ownership. -/
  | dramHandoverToBdc
  /-- SAVE_SHEAF_CONFIRMED (R202). Every ear of a save sheaf has passed its ready-sample, so its staging buffers are freed and the next ears are staged. -/
  | saveSheafConfirmed
  /-- IMAGE_ANCHORED (R195). The first anchor copy is confirmed, the image is anchored, the dirty map is updated and the mode becomes rebound or shut-down. -/
  | imageAnchored
  /-- SECOND_ANCHOR_CONFIRMED (R208). The second anchor copy of an image is confirmed on a second channel. -/
  | secondAnchorConfirmed
  /-- RAIL_DISCHARGED (R384). Every rail of a shut-down stage is discharged, so the next lower stage's enables are lowered, or off is entered after stage 0. -/
  | railDischarged (rail : Fin 33)
  /-- DISCHARGE_STUCK (R384). A rail is not discharged within DISCH_MS, so a FAULT record is written and shut-down goes on with the next stage. -/
  | dischargeStuck (rail : Fin 33)
  /-- GATE_B_OFF_DELAY (R373). 1 ms after GATE_A turns on in rebound, GATE_B is turned off. -/
  | gateBOffDelay
  /-- REBOUND_STAGE_RETRY (R389). Each second, a persistence stage that failed in the rebound re-sequence is tried again. -/
  | reboundStageRetry
  /-- RAIL_GOOD (R380). A rail's power-good has held for DWELL_US, and when its stage is complete the next stage or step of power-up begins. -/
  | railGood (rail : Fin 33) (boot : BootEnv)
  /-- RAIL_NO_START (R381). A rail is not good within RISE_MS of its enable, and is handled by its class. -/
  | railNoStart (rail : Fin 33) (boot : BootEnv)
  /-- RAIL_CHATTER (R380). A rail's power-good shows more than 3 transitions within 2 ms before it is good, so the rail fails to come up. -/
  | railChatter (rail : Fin 33) (boot : BootEnv)
  /-- RAIL_FAULT (R383). A good rail's power-good is deasserted for more than 2 µs, which raises RAIL_FAULT with the rail's action as its reaction. -/
  | railFault (rail : Fin 33)
  /-- RAIL_GLITCH (R383). A power-good deassertion of 2 µs or less is counted as a glitch. -/
  | railGlitch (rail : Fin 33)
  /-- RAIL_RETRY_TRY (R383). Under RETRY, a rail that was turned off is turned on again after its discharge and judged as at power-up. -/
  | railRetryTry (rail : Fin 33)
  /-- TELEMETRY_POLL (R378). Once every TEL_MS the Yogal reads TELEM and STATUS of every marionette, and a latched STATUS bit on a good rail is a running fault. -/
  | telemetryPoll (samples : List (Fin 16 × BitVec 16 × BitVec 16)) (latched : BitVec 16) (mbBad : BitVec 6) (mbRetries : BitVec 16)
  /-- RESET_OUTPUT_RISE (R390). A reset output's stretch has run after its last cause ended, so the output rises. -/
  | resetOutputRise (pin : ResetPin)
  /-- DOMAIN_FAULT (R398). A power domain's check of its supply or isolation fails, which sets its DOM_FLT bit and reports DOMAIN_FAULT. -/
  | domainFault (dom : Fin 148)
  /-- FIRST_KITE_GRANT (R379). Once the boot test has ended, the safety partition grants the first kite and the mode becomes attach. -/
  | firstKiteGrant (core : CoreId) (env : DecideEnv)
  /-- DRAM_TRAINING_DONE (R80). A DRAM-side training run ends, which sets DRAM_READY and a VALID record, or DRAM_FAIL, a FAILED record and TRAIN_FAIL. -/
  | dramTrainingDone (pass : Bool) (failAt : TrainFailAt) (results : List (Fin 0x80000 × Word))
  /-- HANDOVER (R31). A write of CFG_MODE.HANDOVER = 1 ends the TRAIN or LEARN phase and enters restore or service, or ends rebound. -/
  | handover
  /-- RESTORE_DONE (R217). The last granule and check group are written, the dirty map is set CLEAN and the mode becomes service. -/
  | restoreDone (bad : List (Word × BitVec 17))
  /-- HOST_WRITE (R58). A host WRITE crosses the CA input, is stamped and re-driven, and feeds the dirty marker, glean, packet and learner taps. -/
  | hostWrite (c : CaCmd) (b : BankAddr) (col : BitVec 7) (burst : Burst) (ap : Bool) (data : LineData) (chk : CheckBytes) (full : TapFull)
  /-- HOST_WRITE_PATTERN (R59). A host WRITE PATTERN crosses, is stamped and re-driven, marked dirty, and recorded by the glean tap with the held pattern. -/
  | hostWritePattern (c : CaCmd) (b : BankAddr) (col : BitVec 7) (ap : Bool) (full : TapFull)
  /-- HOST_READ (R62). A host READ crosses and is forwarded, with its data substituted from the status image when it addresses the status aperture. -/
  | hostRead (c : CaCmd) (b : BankAddr) (col : BitVec 7) (burst : Burst) (ap : Bool)
  /-- HOST_ACT (R42). A host ACT opens a row in the HBP's open-row table and is counted for row disturbance. -/
  | hostAct (c : CaCmd) (b : BankAddr) (row : BitVec 17)
  /-- HOST_PRECHARGE (R42). A host PRE, PREsb or PREab closes rows in the HBP's open-row table. -/
  | hostPrecharge (c : CaCmd) (kind : PreKind) (b : BankAddr)
  /-- HOST_REFRESH (R73). A host all-bank, per-bank or same-bank refresh is forwarded to the DRAM. -/
  | hostRefresh (c : CaCmd)
  /-- HOST_RFM (R332). A host RFM or DRFM is forwarded unchanged. -/
  | hostRfm (c : CaCmd)
  /-- HOST_MPC (R73). A host MPC command to the DRAM is forwarded. -/
  | hostMpc (c : CaCmd) (op : Byte)
  /-- HOST_MRW (R73). A host MRW addressed to the DRAM is forwarded, and an MRW to the pattern mode register updates the held pattern. -/
  | hostMrw (c : CaCmd) (mr : Byte) (op : Byte) (lane : Option (Fin 10))
  /-- HOST_MRR (R51). A host MRR is forwarded to the DRAM, or returns no data when it addresses the register's control words. -/
  | hostMrr (c : CaCmd) (toRegister : Bool) (ret : LineData)
  /-- HOST_POWER_DOWN (R73). A host power-down or clock-stop command is forwarded. -/
  | hostPowerDown (c : CaCmd)
  /-- SELF_REFRESH_ENTRY (R23). A host self-refresh entry is forwarded, and completion on every rank moves service to lull. -/
  | selfRefreshEntry (c : CaCmd)
  /-- SELF_REFRESH_EXIT (R23). A host self-refresh exit ends lull, and is re-driven, or handled by the harvest handback. -/
  | selfRefreshExit (c : CaCmd) (ns : BitVec 16)
  /-- ALERT_PULSE_END (R47). The ALERT_n pulse width has run from the alert point, so ALERT_n rises unless a block or a held-low condition remains. -/
  | alertPulseEnd
  /-- PARITY_BLOCK_LONG (R49). A parity block lasts longer than 7.8 µs, which sets BLOCK_LONG and reports an incident. -/
  | parityBlockLong (sub : Sub)
  /-- DRAM_ALERT (R50). A DRAM package asserts ALERT_n, which is logged and produces one host ALERT_n pulse. -/
  | dramAlert (sub : Sub) (rank : Fin 2)
  /-- CW_PARITY_CONFIG (R51). A write to control word 0x00 sets parity enable and parity policy. -/
  | cwParityConfig (c : CaCmd) (v : Byte)
  /-- CW_CA_LATENCY (R41). A write to control word 0x01 sets CA latency and 2N timing, which take effect at the next self-refresh exit or reset deassertion. -/
  | cwCaLatency (c : CaCmd) (v : Byte)
  /-- CW_ALERT_WIDTH (R51). A write to control word 0x02 sets the ALERT_n pulse width code. -/
  | cwAlertWidth (c : CaCmd) (v : Byte)
  /-- CW_END_PARITY_BLOCK (R45). A write of 1 to control word 0x03 ends the parity block on its sub-channel. -/
  | cwEndParityBlock (c : CaCmd) (v : Byte)
  /-- CW_IGNORED (R51). A control-word write to an unimplemented index, or to a training mode where it is not honoured, is ignored and traced. -/
  | cwIgnored (c : CaCmd) (index v : Byte)
  /-- CA_TRAINING_MODE (R82). Control word 0x10 enters CA training, in which ALERT_n carries the XOR of each sampled CA UI. -/
  | caTrainingMode (c : CaCmd) (v : Byte)
  /-- CS_TRAINING_MODE (R82). Control word 0x11 enters CS training, in which ALERT_n follows the selected chip select. -/
  | csTrainingMode (c : CaCmd) (v : Byte)
  /-- READ_ENABLE_MODE (R82). Control word 0x12 enters read-enable training, in which READs return a preamble and the 0101 pattern. -/
  | readEnableMode (c : CaCmd) (v : Byte)
  /-- WRITE_LEVELING_MODE (R82). Control word 0x13 enters write leveling, in which each lane returns H_CK sampled on its strobe. -/
  | writeLevelingMode (c : CaCmd) (v : Byte)
  /-- READ_DQ_MODE (R82). Control word 0x14 enters read DQ training, in which READs return a per-lane PRBS15 sequence. -/
  | readDqMode (c : CaCmd) (v : Byte)
  /-- WRITE_DQ_MODE (R82). Control word 0x15 enters write DQ training, which centres the receivers and compares later WRITEs. -/
  | writeDqMode (c : CaCmd) (v : Byte)
  /-- HOST_TRAINING_MODE_EXIT (R83). A control-word write with bit 0 = 0 leaves the active host training mode, and leaving mode 0x15 judges the host-side record. -/
  | hostTrainingModeExit (c : CaCmd) (index : Fin 6)
  /-- LANE_FAULT (R66). A lane's health events within WINDOW_MS exceed THRESH, which sets the lane's fault bit and reports LANE_FAULT. -/
  | laneFault (lane : Fin 40) (events : BitVec 16)
  /-- LOOPBACK_START (R67). 10 µs after lull entry, idle PRBS15 loopback starts on the enabled lanes. -/
  | loopbackStart
  /-- LOOPBACK_END (R67). A loopback run ends after DURATION_US, and its bit errors are added to the lane counters. -/
  | loopbackEnd (errors : List (Fin 40 × BitVec 16))
  /-- HOST_RESET_ASSERT (R72). An assertion of H_RESET_n returns HBP_CTL and the ring-state table to reset, sets ALL_DIRTY and returns to TRAIN, or is held or ignored by mode. -/
  | hostResetAssert
  /-- HOST_RESET_DEASSERT (R72). At the deassertion of H_RESET_n the reset CA latency and command timing take effect. -/
  | hostResetDeassert
  /-- HBP_CTL_WRITE (R41). A write to HBP_CTL takes effect at once, except CA_LAT and CMD_2N, which wait for the next self-refresh exit or reset deassertion. -/
  | hbpCtlWrite (v : Word)
  /-- PAR_ERR_CLEAR (R45). A write of 1 to HBP_PAR_STS.ERR_A or ERR_B clears the bit and ends a parity block on that sub-channel. -/
  | parErrClear (sub : Sub)
  /-- DIRTY_MARK_APPLY (R150). The persistence unit applies a dirty-marker entry in device order and moves the granule's dirty-map state. -/
  | dirtyMarkApply
  /-- FORCE_FULL (R151). A write of 1 to PER_CTL.FORCE_FULL sets ALL_DIRTY with cause FORCE. -/
  | forceFull
  /-- PER_MAP_SEL_WRITE (R162). A write to PER_MAP_SEL samples the selected granule's state and map entries together. -/
  | perMapSelWrite (v : Word)
  /-- LO_REGISTER_READ (R463). A read of the LO register of a LO/HI pair latches the HI half into the reading path's own latch. -/
  | loRegisterRead (path : RegPath) (a : BitVec 32)
  /-- SP_GO (R78). A write of TRN_CTL.SP_GO = 1 hops PLL_H to the requested set point, loads its records and sets HBP_LAT, or is refused. -/
  | spGo (v : Word)
  /-- LEARN_START (R89). A LEARN_START through the mailbox discards any learned code, starts COLLECTING and the pass timer, and enters the LEARN phase. -/
  | learnStart (src : PktSrc)
  /-- LEARNER_CAPTURE (R90). The learner takes a captured burst from its FIFO and classifies or verifies it. -/
  | learnerCapture
  /-- LEARN_SOLVE_DONE (R91). SOLVING forms G, F and c0, checks the pair classes and moves to VERIFYING, or ends with NONAFFINE_ADDR. -/
  | learnSolveDone
  /-- LEARN_TIMEOUT (R94). TIMEOUT_MS elapses before LEARNED, so the pass ends with reason TIMEOUT. -/
  | learnTimeout
  /-- LEARN_ABORT (R94). A write of 1 to CLN_CTL.ABORT ends the pass with reason ABORTED. -/
  | learnAbort
  /-- PACKET_CAPTURE (R115). The packet engine checks a captured aperture line for mode, ring, host check bits, CRC, slot and sequence window. -/
  | packetCapture
  /-- RING_GAP (R118). The oldest held packet has waited GAP_US without NEXT_SEQ arriving, so OUT_OF_ORDER is posted to every held packet. -/
  | ringGap (ring : Fin 32768)
  /-- PACKET_DISPATCH (R120). A current packet whose predecessor's status is posted is dispatched, NEXT_SEQ advances, and the dispatch checks apply. -/
  | packetDispatch
  /-- MAILBOX_GO (R133). A write of PKT_MBX_CTL.GO = 1 from the sideband checks and executes the mailbox packet and posts its status to the mailbox. -/
  | mailboxGo
  /-- RING_CFG_WRITE (R108). A write to a ring's RING_CFG enables, disables or reconfigures the ring between two packets, or is refused. -/
  | ringCfgWrite (ring : Fin 32768) (v : Word)
  /-- NOP (R127). The packet engine posts OK for a NOP. -/
  | nop (src : PktSrc)
  /-- REG_READ (R127). The active core reads 1 to 4 registers and returns their values. -/
  | regRead (src : PktSrc)
  /-- REG_WRITE (R127). The active core writes 1 to 4 registers in order. -/
  | regWrite (src : PktSrc)
  /-- CAPTURE_DEFINE_DEFINE (R164). A FREE region is installed with its range and priority, its capture stamp is returned, and its DIRTY granules are queued for flush. -/
  | captureDefineDefine (src : PktSrc)
  /-- CAPTURE_DEFINE_DELETE (R165). A CAPTURING region is deleted, its slots are dropped, and its GLEAN_PENDING granules become DIRTY. -/
  | captureDefineDelete (src : PktSrc)
  /-- SEAL_OPEN (R181). A CAPTURING region opens a seal at the packet's stamp, and its coverage bits are cleared. -/
  | sealOpen (src : PktSrc)
  /-- SEAL_CLOSE (R183). An OPEN region moves to CLOSING, and the seal close waits at its barrier. -/
  | sealClose (src : PktSrc)
  /-- SEAL_BARRIER_PASS (R183). Every capture stamped below the close stamp has been taken or lost, so the range's slots close for SEAL and repair bits are checked. -/
  | sealBarrierPass (region : Fin 1024)
  /-- SEAL_CONTENT_READY (R183). Every covered granule's sheaf is programmed, so CONTENT is computed, the chain entry is numbered and signed, and its commit is issued. -/
  | sealContentReady (region : Fin 1024)
  /-- SEAL_COMMIT_DONE (R183). The seal entry and manifest are committed, the region becomes SEALED and SEAL_CLOSE posts OK. -/
  | sealCommitDone
  /-- GLEAN_RELEASE (R186). A SEALED region's latest seal is released by a RELEASE chain entry. -/
  | gleanRelease (src : PktSrc)
  /-- RELEASE_COMMIT_DONE (R186). The release is in the ledger, so the manifest's sheaves are freed, the region returns to CAPTURING and the status is posted. -/
  | releaseCommitDone
  /-- FLUSH_GRANULES (R153). The DIRTY granules of a range are queued for the next harvest flush, and the status counts them. -/
  | flushGranules (src : PktSrc)
  /-- SAVE_NOW (R24). A SAVE_NOW packet triggers a save through the safety partition. -/
  | saveNow (src : PktSrc)
  /-- IMAGE_QUERY_NEWEST (R127). IMAGE_QUERY with SELECT 0x00 returns the newest image's generation, epoch, anchor sequence and chain position. -/
  | imageQueryNewest (src : PktSrc)
  /-- IMAGE_QUERY_DIRTY_MAP (R127). IMAGE_QUERY with SELECT 0x01 returns the dirty-map counts and the dirty data time. -/
  | imageQueryDirtyMap (src : PktSrc)
  /-- TIME_SET (R449). TIME_SET moves wall time forward at dispatch, or builds a TIME_STEP chain entry for a step back. -/
  | timeSet (src : PktSrc)
  /-- TIME_STEP_COMMIT (R449). The TIME_STEP chain entry is confirmed, so the new wall time takes effect and the TIME_STEP record is written. -/
  | timeStepCommit
  /-- CONFIG_STAGE (R248). A configuration chunk is buffered and programmed into the inactive twin, and the final chunk is read back and checked. -/
  | configStage (src : PktSrc)
  /-- CONFIG_ACTIVATE (R249). The staged generation is checked, admitted, anchored as active and loaded. -/
  | configActivate (src : PktSrc)
  /-- CONFIG_REVERT (R251). The previous generation is made active by a new boot anchor and loaded. -/
  | configRevert (src : PktSrc)
  /-- LOG_READ_HEADER (R447). LOG_READ with OFFSET 0xFFFF returns the header of the first held record at or after SEQ. -/
  | logReadHeader (src : PktSrc)
  /-- LOG_READ_DATA (R447). LOG_READ with another OFFSET returns 16 bytes of the named record. -/
  | logReadData (src : PktSrc)
  /-- FAULT_CLEAR (R421). The fault collector frees a named GONE incident, or every GONE incident for INCIDENT 0. -/
  | faultClear (src : PktSrc)
  /-- FAULT_INJECT (R424). The collector takes an injected fault message from the given source with INJ = 1. -/
  | faultInject (src : PktSrc)
  /-- FLASH_DESC (R311). A raw descriptor is checked against protected and sealed blocks and queued on the named channel engine. -/
  | flashDesc (src : PktSrc)
  /-- PACK_TEST (R392). PACK_TEST starts, or joins, a capacitance test and completes with its results. -/
  | packTest (src : PktSrc) (answer : Option PackStatus)
  /-- GLEAN_CAPTURE_APPLY (R167). The glean unit takes a capture entry in stamp order and writes it into its granule's assembly slot. -/
  | gleanCaptureApply
  /-- STAGING_OVERFLOW (R167). A capture entry cannot be placed within 20 µs, which is a loss for its granule. -/
  | stagingOverflow
  /-- SLOT_IDLE_CLOSE (R169). No capture has reached a granule for IDLE_US, so its slot closes and its partial ears are merged. -/
  | slotIdleClose (g : Fin 0x80000)
  /-- GLEAN_EAR_PROGRAMMED (R168). A glean ear's program completes, so its data-ear buffer is freed. -/
  | gleanEarProgrammed (slot : Nat) (ear : Fin 17)
  /-- GLEAN_SHEAF_PROGRAMMED (R169). All ears of a closed slot's sheaf are programmed, so a confirmation up to its covered stamp goes to the persistence unit. -/
  | gleanSheafProgrammed (slot : Nat)
  /-- FLASH_REPAIR (R173). The glean unit copies a CLEAN granule's sheaf flash to flash into a new glean sheaf, which clears its repair bit. -/
  | flashRepair (g : Fin 0x80000)
  /-- FOLD_COMPLETE (R177). A fold copy of a glean sheaf to TLC is done, its references move to the copy, and the SLC stook may be released. -/
  | foldComplete (sheaf : Word)
  /-- RATION_HOUR (R178). At each hour boundary the 24-hour landed average is computed, and a ration overrun raises RATION_EXCEEDED. -/
  | rationHour
  /-- SEA_ENT_FETCH (R191). A write to SEA_ENT_SEL_HI starts the fetch of the chain entry with the selected SEQ. -/
  | seaEntFetch (v : Word)
  /-- SEA_ENT_FETCH_DONE (R191). A chain-entry fetch ends with the entry READY, or with ABSENT. -/
  | seaEntFetchDone
  /-- THRESH_START (R226). In lull, with threshing enabled and the chain deep enough, the Yogal starts or resumes copying the newest image. -/
  | threshStart
  /-- THRESH_COPIES_DONE (R227). Every thresh copy is confirmed, so the threshed index and anchors are written and the image starts a new chain. -/
  | threshCopiesDone
  /-- PACE_WINDOW_END (R237). At the end of each 64 µs window the pace count is judged against the promises, which may raise PACE_LOW. -/
  | paceWindowEnd (env : PaceEnv)
  /-- LEDGER_COMMIT (R274). Pending ledger records are committed as a mirrored ear, at once for guarded types or at most 10 ms after the first record. -/
  | ledgerCommit
  /-- ERASE_INTENT_CONFIRMED (R280). A confirmed ERASE_INTENT commit lets the organiser issue the erase on the stook's 17 columns. -/
  | eraseIntentConfirmed (stook : Fin 8192)
  /-- FCE_DESCRIPTOR_QUEUE (R294). A writer places a descriptor in one of the engine's die and priority queues, waiting while the queue is full. -/
  | fceDescriptorQueue (ch : Fin 17) (die : Fin 4) (low : Bool) (desc : BitVec 256)
  /-- FCE_READ (R305). A READ descriptor starts, transferring and decoding codewords, or returns READ_AS_STATUS on a busy die. -/
  | fceRead (ch : Fin 17) (die : Fin 4) (low : Bool)
  /-- FCE_PROGRAM (R302). A PROGRAM descriptor starts after the program-once check and writes all 16 codewords of its ear. -/
  | fceProgram (ch : Fin 17) (die : Fin 4) (low : Bool)
  /-- FCE_ERASE (R307). An ERASE descriptor starts on a permitted die and block. -/
  | fceErase (ch : Fin 17) (die : Fin 4) (low : Bool)
  /-- FCE_SUSPEND (R306). A SUSPEND descriptor suspends the die's running erase, or completes with NOT_SUSPENDABLE or SUSPEND_LIMIT. -/
  | fceSuspend (ch : Fin 17) (die : Fin 4) (low : Bool) (poll : Option Poll)
  /-- FCE_RESUME (R306). A RESUME descriptor restarts a suspended erase, waiting for any nested operation to end first. -/
  | fceResume (ch : Fin 17) (die : Fin 4) (low : Bool)
  /-- FCE_ABORT (R309). An ABORT polls its target's die once and resets the die, or loses to the ready-sample with TOO_LATE. -/
  | fceAbort (ch : Fin 17) (die : Fin 4) (low : Bool) (poll : Option Poll)
  /-- FCE_STATUS (R305). A STATUS descriptor returns the die's 64-byte status block. -/
  | fceStatus (ch : Fin 17) (die : Fin 4) (low : Bool)
  /-- FCE_PARAM (R299). A PARAM descriptor returns the die's ONFI parameter page. -/
  | fceParam (ch : Fin 17) (die : Fin 4) (low : Bool)
  /-- FCE_READY_SAMPLE (R316). A status poll shows the die ready, which commits the operation's result, and the completion is posted once the checker has compared. -/
  | fceReadySample (ch : Fin 17) (die : Fin 4) (poll : Poll)
  /-- FCE_TIMEOUT (R316). No ready-sample comes within FCE_TMO, so the descriptor completes with TIMEOUT, the pointer becomes UNKNOWN and the die is reset. -/
  | fceTimeout (ch : Fin 17) (die : Fin 4)
  /-- FCE_AGE_PROMOTE (R296). A low-priority queue head has waited AGE_US outside save and is treated as high priority for its next grant. -/
  | fceAgePromote (ch : Fin 17) (die : Fin 4)
  /-- FCE_FENCE (R320). A write of 1 to FCE_CTL.FENCE fences the channel as a software fence. -/
  | fceFence (ch : Fin 17)
  /-- FCE_UNFENCE (R321). A write of 1 to FCE_CTL.UNFENCE ends a software fence at the next plan boundary. -/
  | fceUnfence (ch : Fin 17)
  /-- FCE_IF_WRITE (R314). A write to FCE_IF, FCE_WAIT0 or FCE_WAIT1 is checked against the wait-state minima and applied when the engine is idle, or refused. -/
  | fceIfWrite (ch : Fin 17) (reg : Fin 4) (v : Word)
  /-- BDC_PORT_REQUEST (R326). A port's 64-byte request reaches the BDC and is granted by urgency. -/
  | bdcPortRequest (port : Fin 21) (line : BitVec 33) (wait : Bool)
  /-- BDC_REQUEST_LATE (R326). A waiting request reaches urgency level 3, which is counted, with a BDC_LATE record for the first real-time one in a save. -/
  | bdcRequestLate
  /-- REFRESH_DUE (R329). A refresh interval boundary raises a target's owed count, and the refresh is issued by the plan or at the next request boundary. -/
  | refreshDue (target : Fin 4) (planStep : Bool)
  /-- MR4_POLL (R327). At least once per 1 ms the BDC reads MR4 after a refresh and sets the target's refresh interval. -/
  | mr4Poll (target : Fin 4) (field : Byte) (above1 above2 : Bool)
  /-- RD_WINDOW_END (R331). At each row-disturbance window boundary the internal activation counters are recorded and zeroed, and throttles end. -/
  | rdWindowEnd
  /-- HOST_ACT_HIGH (R332). At each window boundary the highest host activation count is recorded, and a count at or above THRESH writes a note. -/
  | hostActHigh
  /-- HARVEST_ENTRY_CHECK (R338). ENTRY_US after lull entry, or every ENTRY_US after, the BDC starts harvest if DRAM work exists and harvest is permitted. -/
  | harvestEntryCheck
  /-- HARVEST_RETURN (R344). With no harvest DRAM work left, the BDC returns the DRAM to self-refresh on its own. -/
  | harvestReturn
  /-- HARVEST_RECHECK (R335). The seal hasher's second read of a repaired granule confirms the repair, or voids it and reports HARVEST_RECHECK. -/
  | harvestRecheck (g : Fin 0x80000) (agree : Bool)
  /-- HARVEST_SHEAF_CONFIRMED (R150). A harvest flush or repair sheaf is confirmed, so a FLUSHING granule becomes CLEAN. -/
  | harvestSheafConfirmed (g : Fin 0x80000)
  /-- LULL_RETRAIN_DONE (R85). A lull retrain of a STALE record ends, which makes the record VALID or FAILED, and the DRAM returns to self-refresh. -/
  | lullRetrainDone (pass : Bool) (failAt : TrainFailAt) (results : List (Fin 0x80000 × Word))
  /-- DCT_WINDOW_READ (R345). A write to DCT_WIN_ADDR_HI starts a control-core window read of one DRAM line, or sets REFUSED. -/
  | dctWindowRead (v : Word)
  /-- DCT_WINDOW_READ_DONE (R345). The window read completes with the line and check bytes in the window registers and READY set. -/
  | dctWindowReadDone
  /-- HOST_CLOCK_STOP (R351). The host clock stops while every rank is in self-refresh, and PLL_H stops its outputs cleanly. -/
  | hostClockStop
  /-- HOST_CLOCK_RESTART (R351). After an expected stop the host clock returns and PLL_H relocks from the band record. -/
  | hostClockRestart
  /-- HOST_CLOCK_LOSS (R360). An unexpected loss of the host clock for 8 periods makes PLL_H coast and the HBP drop commands. -/
  | hostClockLoss
  /-- HOST_CLOCK_RETURN (R361). Host clock edges return within 20 µs, and the phase step is measured and judged. -/
  | hostClockReturn (step : Fin 32768) (late : Bool) (duration : BitVec 16)
  /-- SLEW_DONE (R361). PLL_H has slewed out a small phase step, so SLEWING clears. -/
  | slewDone
  /-- HOST_CLOCK_LOSS_TIMEOUT (R364). No host clock returns within 20 µs, so the DRAM enters self-refresh and a save is decided, or CLOCK_LOSS is reported. -/
  | hostClockLossTimeout
  /-- DISC_END (R363). A write of CLK_CTL.DISC_END = 1 with PLL_H locked ends a clock discontinuity and hands the DRAM back to the HBP. -/
  | discEnd
  /-- PLL_LOCK (R356). A PLL loop reports lock at its set point, and a full search writes a new band record. -/
  | pllLock (loop : PllLoop) (band : BitVec 6) (fine : BitVec 10) (temp : Byte)
  /-- PLL_LOCK_TIMEOUT (R356). A loop loaded from a band record has not locked after 4 µs, so it runs a full band search. -/
  | pllLockTimeout (loop : PllLoop)
  /-- PLL_NO_LOCK (R356). A loop has not locked by the end of its full search, which reports PLL_NO_LOCK. -/
  | pllNoLock (loop : PllLoop)
  /-- CLK_SP_USER_WRITE (R354). A write to CLK_SP_USERu defines or undefines a user set point and resets its records, or is refused. -/
  | clkSpUserWrite (u : Fin 3) (v : Word)
  /-- CAP_TEST_PERIODIC (R392). 86,400 s after the last capacitance test in service or lull, a periodic test starts. -/
  | capTestPeriodic (answer : Option PackStatus)
  /-- PACK_CHARGED (R392). The first PK_STATUS.CHARGED = 1 after a LOW boot test starts a catch-up test. -/
  | packCharged (answer : Option PackStatus)
  /-- CAP_TEST_SETTLED (R392). 100 ms after the charger is turned off, V0 is sampled and the test load is turned on, or the test ends LOW. -/
  | capTestSettled (v : SettledSample)
  /-- CAP_TEST_V1_SAMPLE (R392). 1 ms after the load is turned on, V1 is sampled. -/
  | capTestV1Sample (v1 : BitVec 16)
  /-- CAP_TEST_V2_SAMPLE (R393). T_MS after V1, V2 is sampled, the load is turned off, and ESR, C and E are computed and stored. `iT`: none where the pack did not answer PK_LOAD_I, or PK_LOAD 0 or PK_CHG_EN 1 after it (R391). -/
  | capTestV2Sample (v2 : BitVec 16) (iT : Option (BitVec 16)) (temp : BitVec 16)
  /-- VOLTAGE_TEST (R395). Every VT_S seconds, V0 is sampled and E is recomputed with the stored C and ESR. -/
  | voltageTest (v0 : BitVec 16)
  /-- C_VALID_EXPIRY (R394). The last successful capacitance test becomes more than 172,800 s old, so C_VALID clears and E is 0. -/
  | cValidExpiry
  /-- FAULT_MESSAGE_ARRIVAL (R408). A FAULT or CRITICAL message reaches the collector and is merged, overtakes an injected incident, or opens a new incident. -/
  | faultMessageArrival (own : Option FaultMsg) (holds : SramUse)
  /-- UNIT_ERROR_PAIR (R406). A unit's error pair reads error, or equal levels, in two consecutive samples, which forms PAIR_WIRE. -/
  | unitErrorPair (dom : Fin 148) (equal : Bool)
  /-- UNIT_ERROR (R406). No coded message follows an error pair within 2 µs, so the collector forms UNIT_ERROR. -/
  | unitError (dom : Fin 148)
  /-- SHADOW_CLOSE (R414). A fenced or reset unit reports ready, and its shadow closes 2 µs later. -/
  | shadowClose (inc : BitVec 32)
  /-- UNIT_NOT_READY (R414). A unit has not reported ready within its bound, so UNIT_NOT_READY is formed and the shadow closes. -/
  | unitNotReady (inc : BitVec 32)
  /-- INCIDENT_CAUSE_GONE (R410). An incident's cause ends, so it moves from HELD to GONE, and is freed when AUTOCLR applies. -/
  | incidentCauseGone (slot : Fin 64)
  /-- FAULT_PULSE_END (R419). A FAULT_n pulse has lasted its 10 µs, after which the pin follows FLT_PIN.MODE. -/
  | faultPulseEnd
  /-- FLT_PIN_WRITE (R420). A write to FLT_PIN.MODE changes how FAULT_n is driven, after any pulse in progress. -/
  | fltPinWrite (v : Word)
  /-- SPT_SELF (R403). Every 1 ms the safety partition runs its self-check, and a failure reports SPT_SELF. -/
  | sptSelf (fail : Fin 5)
  /-- CORE_HB (R426). A control core writes CORE_HB, which is its heartbeat. -/
  | coreHb (core : CoreId)
  /-- CORE_DEAD (R426). A core's latest heartbeat becomes older than 60 µs, so the core is judged dead and lost. -/
  | coreDead (core : CoreId)
  /-- CORE_START_TIMEOUT (R426). A released core sends no first heartbeat within 50 ms, so it is judged dead. -/
  | coreStartTimeout (core : CoreId)
  /-- KITE_RENEW (R427). The holder writes CORE_KITE.RENEW and renews its lease, while a renewal from another core raises CORE_NO_KITE. -/
  | kiteRenew (core : CoreId)
  /-- KITE_REQUEST (R428). The standby writes CORE_KITE.REQUEST, which the safety partition holds until the holder's next heartbeat or its death. -/
  | kiteRequest (core : CoreId)
  /-- KITE_LEASE_EXPIRY (R428). The kite lease expires unrenewed, so the kite is granted to the other live core and a switch-over gap begins. -/
  | kiteLeaseExpiry
  /-- LINK_TEST_PASS (R429). Each core has seen the other's heartbeats without a gap for 1 ms, so the cause of LINK_DOWN is gone. -/
  | linkTestPass
  /-- SWITCHOVER_COMPLETE (R431). The new holder has applied the journal and reports active, so the gap ends and statuses are posted. -/
  | switchoverComplete
  /-- RECORD_ARRIVAL (R445). An event record arrives at the recorder, takes its sequence number and is placed in the log or dropped. -/
  | recordArrival (own : Option EvRecord) (queueFull chaff : Bool) (running : BitVec 64)
  /-- REGISTER_WRITE (R9). A write to a register field with no behaviour of its own is applied as its access code gives. -/
  | registerWrite (path : RegPath) (a : BitVec 32) (v : Word)
  /-- SB_PRIVATE_WRITE (R474). A sideband private write sets the address pointer and writes each further word in turn. -/
  | sbPrivateWrite (addr : BitVec 7) (bytes : List Byte)
  /-- SB_PRIVATE_READ (R474). A sideband private read returns words from the pointer, or is not acknowledged before the first word is ready. -/
  | sbPrivateRead (addr : BitVec 7) (words : Fin 65) (early : Bool)
  /-- ENTDAA (R473). ENTDAA assigns the sideband target a dynamic address and resets its pointer and latch. -/
  | entdaa (addr : BitVec 7)
  /-- SETDASA (R473). SETDASA assigns a dynamic address from the static address. -/
  | setdasa (static addr : BitVec 7)
  /-- SETNEWDA (R473). SETNEWDA changes the target's dynamic address. -/
  | setnewda (old addr : BitVec 7)
  /-- RSTDAA (R473). RSTDAA resets the dynamic address, and the target returns to I2C mode at its static address. -/
  | rstdaa
  /-- GETPID (R473). GETPID returns the provisional ID built from ID_UID0. -/
  | getpid
  /-- GETBCR (R473). GETBCR returns 0x00. -/
  | getbcr
  /-- GETDCR (R473). GETDCR returns 0x00. -/
  | getdcr
  /-- GETSTATUS (R473). GETSTATUS returns a status with bit 5 set while the mode is save or shut-down. -/
  | getstatus
  /-- GETMWL (R473). GETMWL returns a maximum write length of 260 bytes. -/
  | getmwl
  /-- GETMRL (R473). GETMRL returns a maximum read length of 256 bytes. -/
  | getmrl
  /-- SETMWL (R473). SETMWL is acknowledged and changes nothing. -/
  | setmwl (v : BitVec 16)
  /-- SETMRL (R473). SETMRL is acknowledged and changes nothing. -/
  | setmrl (v : BitVec 16)
  /-- PTAB_BURN (R470). A write of 0x5054 to SPT_PTAB_CTL.BURN in blank hold burns the power table and key digest, or is refused. -/
  | ptabBurn (v : Word)
  /-- BYPASS (R497). The JTAG BYPASS instruction selects the bypass register. -/
  | bypass
  /-- IDCODE (R497). The JTAG IDCODE instruction returns 0x2971_6001. -/
  | idcode
  /-- SAMPLE_PRELOAD (R497). The JTAG SAMPLE/PRELOAD instruction samples or preloads the boundary register. -/
  | samplePreload (sample preload : List Bool)
  /-- EXTEST (R497). The JTAG EXTEST instruction drives the pins from the boundary register, limited on VAON pins, and yields to a save decision. -/
  | extest
  /-- BOOT_TEST (R392). 10 ms after RSTO_PACK_n rises in power-up, the boot capacitance test starts: it reads PK_STATUS and turns the charger off. -/
  | bootTest (answer : Option PackStatus)
  /-- FEED_A_GOOD_LOST (R369). Feed A falls below 10.8 V without reaching SAVE_TH, which ends feed A good: A_GOOD clears, a running capacitance test ends FEED_A, and rebound and pack tests are no longer enabled. -/
  | feedAGoodLost
  /-- STRAY_CYCLE (R318). The channel checker sees a command cycle outside any descriptor, or Fn_WP_n high outside a PROGRAM or ERASE, which is a kind-3 mismatch that raises CHECK_MISMATCH. -/
  | strayCycle (ch : Fin 17) (die : Fin 4) (exp obs : Word)
  /-- HOST_TRAINING_SAMPLE (R82). In CA, CS or write-leveling training, each sampled CA UI, chip-select level or H_DQS_t rising edge produces the trained response on ALERT_n or on the lane's DQ bits. -/
  | hostTrainingSample (c : CaCmd) (cs : BitVec 2) (ck : BitVec 20)
deriving DecidableEq, Repr

end Sys2Proof
end

