-- ==== Sys2Proof/Machine/Hash.lean ====
section
/-! DEFINITION. CRC-32C as R111 gives it, and SHA-256. The spec names SHA-256 (R171, R187, R189) and leaves its computation to its standard: the constants and the round function here are PRESUMED from that standard (log entry 3). -/

namespace Sys2Proof.Machine

/-- One bit of the reflected Castagnoli register (polynomial 0x1EDC_6F41, reflected 0x82F6_3B78). -/
def crcBit (r : Word) : Word := if r.getLsbD 0 then (r >>> 1) ^^^ 0x82F63B78#32 else r >>> 1

/-- One byte of the reflected Castagnoli register. -/
def crcByte (r : Word) (b : Byte) : Word :=
  let x := r ^^^ b.setWidth 32
  crcBit (crcBit (crcBit (crcBit (crcBit (crcBit (crcBit (crcBit x)))))))

/-- CRC-32C of a list of bytes (R111). -/
def crc32c (bs : List Byte) : Word := (bs.foldl crcByte 0xFFFFFFFF#32) ^^^ 0xFFFFFFFF#32

/-- Whether a number has no divisor from 2 up to itself, but for itself. -/
def isPrime (n : Nat) : Bool := decide (2 ≤ n) && (List.range n).all (fun d => decide (d < 2) || decide (n % d ≠ 0))

/-- The largest number of `bits` bits above `acc` whose power `e` does not pass `top`: a root taken bit by bit, the highest first. -/
def rootBits (e top : Nat) : Nat → Nat → Nat
  | 0, acc => acc
  | b + 1, acc => rootBits e top b (if (acc + 2 ^ b) ^ e ≤ top then acc + 2 ^ b else acc)

/-- The first 32 bits of the fraction of the `e`-th root of a number, which the standard takes its constants from. -/
def rootFraction (e n : Nat) : Word := BitVec.ofNat 32 (rootBits e (n * 2 ^ (32 * e)) 35 0)

/-- The 64 round constants: the cube roots of the first 64 primes. -/
def shaK : List Word := ((List.range 312).filter isPrime).map (rootFraction 3)

/-- What a digest is carried in between blocks: the last four values of each of the standard's two recurrences, the newest first. -/
structure ShaChain where
  as : List Word
  es : List Word
deriving DecidableEq, Repr

/-- The chain before the first block: the square roots of the first eight primes. -/
def shaInit : ShaChain :=
  let h := ((List.range 20).filter isPrime).map (rootFraction 2)
  ⟨h.take 4, h.drop 4⟩

/-- The XOR of a word's rotations to the right. -/
def rotXor (w : Word) (ns : List Nat) : Word := ns.foldl (fun acc n => acc ^^^ w.rotateRight n) 0

/-- The word that follows a window of 16 message words, the oldest first. -/
def shaNext (win : List Word) : Word :=
  let w := fun (i : Nat) => win.getD i 0
  w 0 + (rotXor (w 1) [7, 18] ^^^ (w 1 >>> 3)) + w 9 + (rotXor (w 14) [17, 19] ^^^ (w 14 >>> 10))

/-- One step of both recurrences with the round constant `k` and the oldest word of the window, which slides on by one. -/
def shaStep (x : ShaChain × List Word) (k : Word) : ShaChain × List Word :=
  let a := fun (i : Nat) => x.1.as.getD i 0
  let e := fun (i : Nat) => x.1.es.getD i 0
  let choose := e 2 ^^^ (e 0 &&& (e 1 ^^^ e 2))
  let most := (a 0 &&& a 1) ||| (a 2 &&& (a 0 ||| a 1))
  let t := e 3 + rotXor (e 0) [6, 11, 25] + choose + k + x.2.getD 0 0
  (⟨(t + rotXor (a 0) [2, 13, 22] + most) :: x.1.as.take 3, (a 3 + t) :: x.1.es.take 3⟩, x.2.drop 1 ++ [shaNext x.2])

/-- The big-endian words of a block. -/
def beWords (bs : List Byte) : List Word :=
  (List.range 16).map (fun i => BitVec.ofNat 32 (leNat (sliceBytes bs (4 * i) 4).reverse))

/-- One block: the 64 steps, and the sum with the chain it began from. -/
def shaBlock (c : ShaChain) (blk : List Byte) : ShaChain :=
  let r := (shaK.foldl shaStep (c, beWords blk)).1
  ⟨List.zipWith (· + ·) c.as r.as, List.zipWith (· + ·) c.es r.es⟩

/-- The `n` big-endian bytes of a number. -/
def beBytes (n x : Nat) : List Byte := (leBytes n x).reverse

/-- The message as the standard pads it: one set bit, zeros, and the length in bits in the last eight bytes of a block. -/
def shaPad (bs : List Byte) : List Byte :=
  bs ++ 0x80#8 :: List.replicate ((119 - bs.length % 64) % 64) 0#8 ++ beBytes 8 (8 * bs.length)

/-- The 32 bytes of SHA-256 over a list of bytes. -/
def sha256 (bs : List Byte) : List Byte :=
  let m := shaPad bs
  let c := (List.range (m.length / 64)).foldl (fun acc i => shaBlock acc (sliceBytes m (64 * i) 64)) shaInit
  (c.as ++ c.es).flatMap (fun w => beBytes 4 w.toNat)

end Sys2Proof.Machine
end

