-- ==== Sys2Proof/Config.lean ====
section
/-! DEFINITION. What the spec leaves open: values that each device or each occasion has and that no rule of the spec fixes. They have no body, so nothing can be proved of them but what holds of every value. -/

namespace Sys2Proof

/-- R393: the ESR of a capacitance test whose V1 lies above its V0; the spec states no register value (log entry 20). -/
opaque Config.negativeEsr (v0 v1 iT : Nat) : Nat

/-- R73: the content of a line after a burst of a length the part does not support; the DRAM's own behaviour, which the spec does not give (log entry 9). -/
opaque Config.oddBurst (bl : Nat) (old new : LineData × CheckBytes) : LineData × CheckBytes

/-- R73: what a READ of a burst length the part does not support returns on the host lanes, from what a supported one would return (log entry 9). -/
opaque Config.oddRead (bl : Nat) (line : LineData × CheckBytes) : LineData × CheckBytes

/-- R42, R62: the data of a READ to a bank with no open row, by its order stamp (log entry 9). -/
opaque Config.readNoRow (stamp : Nat) : LineData × CheckBytes

/-- R82: the nibble of beat `beat` of the PRBS15 sequence of host-side lane `lane`, seeded with the lane number plus 1; the spec does not give the polynomial or the order of the bits (log entry 10). -/
opaque Config.prbs15 (lane beat : Nat) : BitVec 4

/-- R190: the device's signing key, which is generated in the part and never leaves it: a number that R189 takes modulo the order of the group (log entry 11). -/
opaque Config.deviceSecret : Nat

/-- Table 8-3: whether an OPERATION code is one that Zarzan emits for an engine; the spec lists no codes (log entry 33). -/
opaque Config.stepOpDefined (engine op : Nat) : Bool

/-- R240: the deadline in µs, for the energy `e`, under a power of 0, which check 0x0C of Table 8-7 refuses and the spec gives no result for (log entry 34). -/
opaque Config.zeroPowerUs (e : Nat) : Nat

/-- R246: the slots that a budget pays for under a plan whose slot takes no time; the spec states no result (log entry 34). -/
opaque Config.freeSlots (plan : Nat) : Nat

/-- R289, R316: the nominal program time of a die in ns, from its parameter page, by channel × 4 + die and mode (log entry 35). -/
opaque Config.nominalProgNs (die : Nat) (tlc : Bool) : Nat

/-- R314, Table 10-17: whether a value of FCE_TMO lies below a maximum time of the channel's dies, which their parameter pages give (log entry 35). -/
opaque Config.tmoTooShort (ch : Nat) (v : BitVec 32) : Bool

/-- R453, R454: the SRAM bank that holds the log's original region, or the spare one; the spec places them in different banks and gives no number (log entry 50). -/
opaque Config.logBank (spare : Bool) : Nat

/-- R237: the promise, V index and T index for a window whose VDD_CORE sample (mV) lies below the grid or whose junction (°C, two's complement) lies above it; Table 8-6 then names no grid point (log entry 53). -/
opaque Config.pacePromise (vdd temp : BitVec 16) : BitVec 16 × Fin 6 × Fin 6

/-- R73: the check lanes that an MRR returns beside its data, by the order stamp of the MRR; the DRAM's own answer, which the spec does not give (log entry 9). -/
opaque Config.mrrCheck (stamp : Nat) : CheckBytes

/-- R75, Table 3-9: the record word, by its TRN_RES_SEL, that centring the host-side receivers has found at a tick; a measurement (log entry 83). -/
opaque Config.centred (sel tick : Nat) : Word

/-- R79, R144: the lines that the `n`-th use of a training pattern covers, of which the part takes at most 16; the spec gives no addresses (log entry 84). -/
opaque Config.patternLines (n : Nat) : List Nat

/-- R79: the burst that the `n`-th use of a training pattern writes to a line; the spec does not give the PRBS15 polynomial (log entry 84). -/
opaque Config.patternData (n line : Nat) : LineData × CheckBytes

/-- R303: byte `i` of the PRBS31 stream seeded with a place of the array (channel, die, block and page as one number) and a codeword; the spec gives neither the polynomial nor how the seed is made (log entry 96). -/
opaque Config.prbs31 (place cw i : Nat) : Byte

/-- R303, Table 9-2: check byte `i` of the LDPC code over the payload and metadata given; the spec gives no code (log entry 96). -/
opaque Config.ldpcParity (plain : List Byte) (i : Nat) : Byte

/-- R301, R304: line `i` of what a read delivers of a codeword whose program failed or was cut off (log entry 96). -/
opaque Config.voidLine (place i : Nat) : LineData

/-- Table 10-3: line `i` of the parameter page of a die, by channel × 4 + die (log entry 38). -/
opaque Config.paramLine (die i : Nat) : LineData

/-- µs that the plan store's reload from the active twin takes, less than 20 ms and 1 µs (R404); `n` is the tick of its start (log entry 21). -/
opaque Config.planReloadUs (n : Nat) : Nat

/-- R315, R321: the training settings that a channel finds when its interface is retrained at a tick; none where a die finds no passing window. A measurement (log entry 113). -/
opaque Config.retrained (ch tick : Nat) : Option Word

end Sys2Proof
end

