-- ==== Sys2Proof/Machine/SMap.lean ====
section
/-! DEFINITION. Sparse maps from numbers (addresses, granule indices, slot numbers) to data, held as lists in one canonical form: keys strictly rising, and, where unlisted keys have a default, no entry equal to that default. -/

namespace Sys2Proof.Machine

/-- A sparse map as plain data. -/
abbrev SMap (α : Type) := List (Nat × α)

/-- A sparse map over a whole range with one value for every unlisted key: set-all is the change of one field. -/
structure FMap (α : Type) where
  /-- what every unlisted key holds -/
  all : α
  /-- the keys that hold something else -/
  kv : SMap α
deriving DecidableEq, Repr

variable {α : Type}

/-- The entry of a key, if it is listed. -/
def smapFind (m : SMap α) (k : Nat) : Option α :=
  match m with
  | [] => none
  | (k', v) :: t => if k' = k then some v else smapFind t k

/-- Put an entry at its place in the rising order. -/
def smapPut (m : SMap α) (k : Nat) (v : α) : SMap α :=
  match m with
  | [] => [(k, v)]
  | (k', v') :: t =>
    if k < k' then (k, v) :: (k', v') :: t
    else if k = k' then (k, v) :: t
    else (k', v') :: smapPut t k v

/-- Remove a key. -/
def smapDel (m : SMap α) (k : Nat) : SMap α := m.filter (fun e => decide (e.1 ≠ k))

/-- What a key reads as: its entry, or the default of the key. -/
def smapGet (d : Nat → α) (m : SMap α) (k : Nat) : α := (smapFind m k).getD (d k)

/-- Write a key; writing the default removes the entry. -/
def smapSet [DecidableEq α] (d : Nat → α) (m : SMap α) (k : Nat) (v : α) : SMap α :=
  if v = d k then smapDel m k else smapPut m k v

/-- Keys strictly rising. -/
def smapSorted (m : SMap α) : Bool :=
  match m with
  | [] => true
  | (k, _) :: t => t.all (fun e => decide (k < e.1)) && smapSorted t

/-- The canonical form of a map whose unlisted keys read as `d`. -/
def smapWf [DecidableEq α] (d : Nat → α) (m : SMap α) : Bool :=
  smapSorted m && m.all (fun e => decide (e.2 ≠ d e.1))

/-- What a key of a whole-range map holds. -/
def fmapGet (m : FMap α) (k : Nat) : α := smapGet (fun _ => m.all) m.kv k

/-- Write one key of a whole-range map. -/
def fmapSet [DecidableEq α] (m : FMap α) (k : Nat) (v : α) : FMap α :=
  { m with kv := smapSet (fun _ => m.all) m.kv k v }

/-- Write every key of a whole-range map. -/
def fmapAll (v : α) : FMap α := ⟨v, []⟩

/-- The canonical form of a whole-range map. -/
def fmapWf [DecidableEq α] (m : FMap α) : Bool := smapWf (fun _ => m.all) m.kv

/-- How many of the `n` keys of a whole-range map satisfy `p`: the listed ones, and the unlisted ones through the default. -/
def fmapCount (m : FMap α) (n : Nat) (p : α → Bool) : Nat :=
  let listed := (m.kv.filter (fun e => p e.2)).length
  if p m.all then n - m.kv.length + listed else listed

/-- Change every key of a whole-range map by one function. -/
def fmapMap [DecidableEq α] (f : α → α) (m : FMap α) : FMap α :=
  let d := f m.all
  ⟨d, (m.kv.map (fun e => (e.1, f e.2))).filter (fun e => decide (e.2 ≠ d))⟩

/-- Write the keys `lo`, `lo + 1`, … for `n` keys with one value. -/
def fmapFill [DecidableEq α] (m : FMap α) (lo : Nat) : Nat → α → FMap α
  | 0, _ => m
  | n + 1, v => fmapFill (fmapSet m lo v) (lo + 1) n v

end Sys2Proof.Machine
end

