-- ==== Sys2Proof/Machine/Regs.lean ====
section
/-! DEFINITION. The register space (R457 to R460): one constant per field of the field tables of spec/, with its address, place and width; and the table of all fields with the access code, the reset value and the values a write may give. -/

namespace Sys2Proof.Machine

/-- A field of a register: the register's address, the lowest bit and the width. -/
structure Fld where
  addr : Nat
  lo : Nat
  w : Nat
deriving DecidableEq, Repr

/-- The access codes of R9. `w1cCount` is the W1C of CFG_SB_STS: a write of any non-zero value zeroes the count (Table 16-4). -/
inductive Acc where
  | ro | rw | w1c | w1cCount | wo | ws | sp
deriving DecidableEq, Repr

/-- A row of the field tables: a field, repeated `cnt` times at `stride` bytes, its access code, its reset value, and the range outside which a write of it is ignored. -/
structure FRow where
  fld : Fld
  cnt : Nat
  stride : Nat
  acc : Acc
  rst : Nat
  vmin : Nat
  vmax : Nat
deriving DecidableEq, Repr

namespace Reg

/-- ID_PART, 16_register_map.md, Table 16-3. -/
def ID_PART : Fld := ⟨0x0, 0, 32⟩
/-- ID_REV_MAJOR, 16_register_map.md, Table 16-3. -/
def ID_REV_MAJOR : Fld := ⟨0x4, 8, 8⟩
/-- ID_REV_MINOR, 16_register_map.md, Table 16-3. -/
def ID_REV_MINOR : Fld := ⟨0x4, 0, 8⟩
/-- ID_VENDOR, 16_register_map.md, Table 16-3. -/
def ID_VENDOR : Fld := ⟨0x8, 0, 32⟩
/-- ID_ROM, 16_register_map.md, Table 16-3. -/
def ID_ROM : Fld := ⟨0xC, 0, 32⟩
/-- ID_TRACE0, 16_register_map.md, Table 16-3. -/
def ID_TRACE0 : Fld := ⟨0x10, 0, 32⟩
/-- ID_TRACE1, 16_register_map.md, Table 16-3. -/
def ID_TRACE1 : Fld := ⟨0x14, 0, 32⟩
/-- ID_UID, 16_register_map.md, Table 16-3. -/
def ID_UID (n : Nat) : Fld := ⟨0x20 + 4 * n, 0, 32⟩
/-- CFG_MODE_LAST_MODE, 01_architecture.md, Table 1-5. -/
def CFG_MODE_LAST_MODE : Fld := ⟨0x1000, 24, 4⟩
/-- CFG_MODE_ATTACH_PHASE, 01_architecture.md, Table 1-5. -/
def CFG_MODE_ATTACH_PHASE : Fld := ⟨0x1000, 16, 3⟩
/-- CFG_MODE_HANDOVER, 01_architecture.md, Table 1-5. -/
def CFG_MODE_HANDOVER : Fld := ⟨0x1000, 8, 1⟩
/-- CFG_MODE_NO_PLAN, 01_architecture.md, Table 1-5. -/
def CFG_MODE_NO_PLAN : Fld := ⟨0x1000, 5, 1⟩
/-- CFG_MODE_KEEPER, 01_architecture.md, Table 1-5. -/
def CFG_MODE_KEEPER : Fld := ⟨0x1000, 4, 1⟩
/-- CFG_MODE_MODE, 01_architecture.md, Table 1-5. -/
def CFG_MODE_MODE : Fld := ⟨0x1000, 0, 4⟩
/-- CFG_CAUSE_POWERUPS, 16_register_map.md, Table 16-4. -/
def CFG_CAUSE_POWERUPS : Fld := ⟨0x1004, 16, 16⟩
/-- CFG_CAUSE_OFF_MODE, 16_register_map.md, Table 16-4. -/
def CFG_CAUSE_OFF_MODE : Fld := ⟨0x1004, 8, 4⟩
/-- CFG_CAUSE_OFF_CAUSE, 16_register_map.md, Table 16-4. -/
def CFG_CAUSE_OFF_CAUSE : Fld := ⟨0x1004, 0, 4⟩
/-- CFG_SB_ADDR_DYN, 16_register_map.md, Table 16-4. -/
def CFG_SB_ADDR_DYN : Fld := ⟨0x1008, 16, 7⟩
/-- CFG_SB_ADDR_STATIC, 16_register_map.md, Table 16-4. -/
def CFG_SB_ADDR_STATIC : Fld := ⟨0x1008, 0, 7⟩
/-- CFG_SB_STS_BAD_ADDR, 16_register_map.md, Table 16-4. -/
def CFG_SB_STS_BAD_ADDR : Fld := ⟨0x100C, 24, 8⟩
/-- CFG_SB_STS_SHORT_WR, 16_register_map.md, Table 16-4. -/
def CFG_SB_STS_SHORT_WR : Fld := ⟨0x100C, 16, 8⟩
/-- CFG_SB_STS_READ_NACK, 16_register_map.md, Table 16-4. -/
def CFG_SB_STS_READ_NACK : Fld := ⟨0x100C, 8, 8⟩
/-- CFG_SB_STS_I2C, 16_register_map.md, Table 16-4. -/
def CFG_SB_STS_I2C : Fld := ⟨0x100C, 0, 1⟩
/-- CFG_SCRATCH, 16_register_map.md, Table 16-4. -/
def CFG_SCRATCH (n : Nat) : Fld := ⟨0x1010 + 4 * n, 0, 32⟩
/-- HBP_CTL_ALERT_WIDTH, 02_host_buffer_path.md, Table 2-7. -/
def HBP_CTL_ALERT_WIDTH : Fld := ⟨0x2000, 8, 3⟩
/-- HBP_CTL_CMD_2N, 02_host_buffer_path.md, Table 2-7. -/
def HBP_CTL_CMD_2N : Fld := ⟨0x2000, 5, 1⟩
/-- HBP_CTL_CA_LAT, 02_host_buffer_path.md, Table 2-7. -/
def HBP_CTL_CA_LAT : Fld := ⟨0x2000, 4, 1⟩
/-- HBP_CTL_PAR_POLICY, 02_host_buffer_path.md, Table 2-7. -/
def HBP_CTL_PAR_POLICY : Fld := ⟨0x2000, 1, 1⟩
/-- HBP_CTL_PAR_EN, 02_host_buffer_path.md, Table 2-7. -/
def HBP_CTL_PAR_EN : Fld := ⟨0x2000, 0, 1⟩
/-- HBP_LAT_SET_POINT, 02_host_buffer_path.md, Table 2-8. -/
def HBP_LAT_SET_POINT : Fld := ⟨0x2004, 12, 3⟩
/-- HBP_LAT_RD_ADD, 02_host_buffer_path.md, Table 2-8. -/
def HBP_LAT_RD_ADD : Fld := ⟨0x2004, 8, 4⟩
/-- HBP_LAT_WR_DELAY, 02_host_buffer_path.md, Table 2-8. -/
def HBP_LAT_WR_DELAY : Fld := ⟨0x2004, 4, 4⟩
/-- HBP_LAT_CA_LAT_EFF, 02_host_buffer_path.md, Table 2-8. -/
def HBP_LAT_CA_LAT_EFF : Fld := ⟨0x2004, 0, 4⟩
/-- HBP_GEOM_ROW3Q, 02_host_buffer_path.md, Table 2-9. -/
def HBP_GEOM_ROW3Q : Fld := ⟨0x2008, 7, 1⟩
/-- HBP_GEOM_ROW17, 02_host_buffer_path.md, Table 2-9. -/
def HBP_GEOM_ROW17 : Fld := ⟨0x2008, 6, 1⟩
/-- HBP_GEOM_LRANKS, 02_host_buffer_path.md, Table 2-9. -/
def HBP_GEOM_LRANKS : Fld := ⟨0x2008, 4, 2⟩
/-- HBP_GEOM_RANK2, 02_host_buffer_path.md, Table 2-9. -/
def HBP_GEOM_RANK2 : Fld := ⟨0x2008, 0, 1⟩
/-- HBP_PAR_STS_COUNT_B, 02_host_buffer_path.md, Table 2-10. -/
def HBP_PAR_STS_COUNT_B : Fld := ⟨0x200C, 24, 8⟩
/-- HBP_PAR_STS_COUNT_A, 02_host_buffer_path.md, Table 2-10. -/
def HBP_PAR_STS_COUNT_A : Fld := ⟨0x200C, 16, 8⟩
/-- HBP_PAR_STS_BLOCK_LONG, 02_host_buffer_path.md, Table 2-10. -/
def HBP_PAR_STS_BLOCK_LONG : Fld := ⟨0x200C, 5, 1⟩
/-- HBP_PAR_STS_HELD, 02_host_buffer_path.md, Table 2-10. -/
def HBP_PAR_STS_HELD : Fld := ⟨0x200C, 4, 1⟩
/-- HBP_PAR_STS_BLOCK_B, 02_host_buffer_path.md, Table 2-10. -/
def HBP_PAR_STS_BLOCK_B : Fld := ⟨0x200C, 3, 1⟩
/-- HBP_PAR_STS_BLOCK_A, 02_host_buffer_path.md, Table 2-10. -/
def HBP_PAR_STS_BLOCK_A : Fld := ⟨0x200C, 2, 1⟩
/-- HBP_PAR_STS_ERR_B, 02_host_buffer_path.md, Table 2-10. -/
def HBP_PAR_STS_ERR_B : Fld := ⟨0x200C, 1, 1⟩
/-- HBP_PAR_STS_ERR_A, 02_host_buffer_path.md, Table 2-10. -/
def HBP_PAR_STS_ERR_A : Fld := ⟨0x200C, 0, 1⟩
/-- HBP_PAR_LOG, 02_host_buffer_path.md, Table 2-11. -/
def HBP_PAR_LOG (n : Nat) : Fld := ⟨0x2010 + 4 * n, 0, 32⟩
/-- HBP_ORDER_LO, 02_host_buffer_path.md, Table 2-11. -/
def HBP_ORDER_LO : Fld := ⟨0x2018, 0, 32⟩
/-- HBP_ORDER_HI, 02_host_buffer_path.md, Table 2-11. -/
def HBP_ORDER_HI : Fld := ⟨0x201C, 0, 32⟩
/-- HBP_LANE_FLT_H, 02_host_buffer_path.md, Table 2-11. -/
def HBP_LANE_FLT_H : Fld := ⟨0x2020, 0, 20⟩
/-- HBP_LANE_FLT_D, 02_host_buffer_path.md, Table 2-11. -/
def HBP_LANE_FLT_D : Fld := ⟨0x2024, 0, 20⟩
/-- HBP_LANE_CTL_THRESH, 02_host_buffer_path.md, Table 2-11. -/
def HBP_LANE_CTL_THRESH : Fld := ⟨0x2028, 16, 16⟩
/-- HBP_LANE_CTL_WINDOW_MS, 02_host_buffer_path.md, Table 2-11. -/
def HBP_LANE_CTL_WINDOW_MS : Fld := ⟨0x2028, 0, 16⟩
/-- HBP_LOOP_CTL_DURATION_US, 02_host_buffer_path.md, Table 2-11. -/
def HBP_LOOP_CTL_DURATION_US : Fld := ⟨0x202C, 8, 8⟩
/-- HBP_LOOP_CTL_DRAM_EN, 02_host_buffer_path.md, Table 2-11. -/
def HBP_LOOP_CTL_DRAM_EN : Fld := ⟨0x202C, 1, 1⟩
/-- HBP_LOOP_CTL_HOST_EN, 02_host_buffer_path.md, Table 2-11. -/
def HBP_LOOP_CTL_HOST_EN : Fld := ⟨0x202C, 0, 1⟩
/-- HBP_LOOP_STS_RUNS, 02_host_buffer_path.md, Table 2-11. -/
def HBP_LOOP_STS_RUNS : Fld := ⟨0x2030, 16, 16⟩
/-- HBP_LOOP_STS_LAST_ABORTED, 02_host_buffer_path.md, Table 2-11. -/
def HBP_LOOP_STS_LAST_ABORTED : Fld := ⟨0x2030, 1, 1⟩
/-- HBP_LOOP_STS_BUSY, 02_host_buffer_path.md, Table 2-11. -/
def HBP_LOOP_STS_BUSY : Fld := ⟨0x2030, 0, 1⟩
/-- HBP_TAP_STS_PACKET, 02_host_buffer_path.md, Table 2-11. -/
def HBP_TAP_STS_PACKET : Fld := ⟨0x2034, 16, 8⟩
/-- HBP_TAP_STS_GLEAN, 02_host_buffer_path.md, Table 2-11. -/
def HBP_TAP_STS_GLEAN : Fld := ⟨0x2034, 8, 8⟩
/-- HBP_TAP_STS_DIRTY, 02_host_buffer_path.md, Table 2-11. -/
def HBP_TAP_STS_DIRTY : Fld := ⟨0x2034, 0, 8⟩
/-- HBP_LANE_CNT_SLIP, 02_host_buffer_path.md, Table 2-11. -/
def HBP_LANE_CNT_SLIP (n : Nat) : Fld := ⟨0x2100 + 4 * n, 16, 16⟩
/-- HBP_LANE_CNT_LOOP, 02_host_buffer_path.md, Table 2-11. -/
def HBP_LANE_CNT_LOOP (n : Nat) : Fld := ⟨0x2100 + 4 * n, 0, 16⟩
/-- TRN_CTL_DRAM_FULL, 03_training_and_code_learning.md, Table 3-6. -/
def TRN_CTL_DRAM_FULL : Fld := ⟨0x3000, 15, 1⟩
/-- TRN_CTL_SP_REQ, 03_training_and_code_learning.md, Table 3-6. -/
def TRN_CTL_SP_REQ : Fld := ⟨0x3000, 8, 3⟩
/-- TRN_CTL_SP_GO, 03_training_and_code_learning.md, Table 3-6. -/
def TRN_CTL_SP_GO : Fld := ⟨0x3000, 0, 1⟩
/-- TRN_STS_ACTIVE_SP, 03_training_and_code_learning.md, Table 3-7. -/
def TRN_STS_ACTIVE_SP : Fld := ⟨0x3004, 16, 3⟩
/-- TRN_STS_STEP, 03_training_and_code_learning.md, Table 3-7. -/
def TRN_STS_STEP : Fld := ⟨0x3004, 8, 4⟩
/-- TRN_STS_SP_REFUSED, 03_training_and_code_learning.md, Table 3-7. -/
def TRN_STS_SP_REFUSED : Fld := ⟨0x3004, 5, 1⟩
/-- TRN_STS_ABANDONED, 03_training_and_code_learning.md, Table 3-7. -/
def TRN_STS_ABANDONED : Fld := ⟨0x3004, 4, 1⟩
/-- TRN_STS_HOST_MODE, 03_training_and_code_learning.md, Table 3-7. -/
def TRN_STS_HOST_MODE : Fld := ⟨0x3004, 3, 1⟩
/-- TRN_STS_GATHERING, 03_training_and_code_learning.md, Table 3-7. -/
def TRN_STS_GATHERING : Fld := ⟨0x3004, 2, 1⟩
/-- TRN_STS_DRAM_FAIL, 03_training_and_code_learning.md, Table 3-7. -/
def TRN_STS_DRAM_FAIL : Fld := ⟨0x3004, 1, 1⟩
/-- TRN_STS_DRAM_READY, 03_training_and_code_learning.md, Table 3-7. -/
def TRN_STS_DRAM_READY : Fld := ⟨0x3004, 0, 1⟩
/-- TRN_SP_STS_HOST0, 03_training_and_code_learning.md, Table 3-8. -/
def TRN_SP_STS_HOST0 : Fld := ⟨0x3008, 2, 2⟩
/-- TRN_SP_STS_DRAM0, 03_training_and_code_learning.md, Table 3-8. -/
def TRN_SP_STS_DRAM0 : Fld := ⟨0x3008, 0, 2⟩
/-- TRN_SP_STS_HOST1, 03_training_and_code_learning.md, Table 3-8. -/
def TRN_SP_STS_HOST1 : Fld := ⟨0x3008, 6, 2⟩
/-- TRN_SP_STS_DRAM1, 03_training_and_code_learning.md, Table 3-8. -/
def TRN_SP_STS_DRAM1 : Fld := ⟨0x3008, 4, 2⟩
/-- TRN_SP_STS_HOST2, 03_training_and_code_learning.md, Table 3-8. -/
def TRN_SP_STS_HOST2 : Fld := ⟨0x3008, 10, 2⟩
/-- TRN_SP_STS_DRAM2, 03_training_and_code_learning.md, Table 3-8. -/
def TRN_SP_STS_DRAM2 : Fld := ⟨0x3008, 8, 2⟩
/-- TRN_SP_STS_HOST3, 03_training_and_code_learning.md, Table 3-8. -/
def TRN_SP_STS_HOST3 : Fld := ⟨0x3008, 14, 2⟩
/-- TRN_SP_STS_DRAM3, 03_training_and_code_learning.md, Table 3-8. -/
def TRN_SP_STS_DRAM3 : Fld := ⟨0x3008, 12, 2⟩
/-- TRN_SP_STS_HOST4, 03_training_and_code_learning.md, Table 3-8. -/
def TRN_SP_STS_HOST4 : Fld := ⟨0x3008, 18, 2⟩
/-- TRN_SP_STS_DRAM4, 03_training_and_code_learning.md, Table 3-8. -/
def TRN_SP_STS_DRAM4 : Fld := ⟨0x3008, 16, 2⟩
/-- TRN_SP_STS_HOST5, 03_training_and_code_learning.md, Table 3-8. -/
def TRN_SP_STS_HOST5 : Fld := ⟨0x3008, 22, 2⟩
/-- TRN_SP_STS_DRAM5, 03_training_and_code_learning.md, Table 3-8. -/
def TRN_SP_STS_DRAM5 : Fld := ⟨0x3008, 20, 2⟩
/-- TRN_SP_STS_HOST6, 03_training_and_code_learning.md, Table 3-8. -/
def TRN_SP_STS_HOST6 : Fld := ⟨0x3008, 26, 2⟩
/-- TRN_SP_STS_DRAM6, 03_training_and_code_learning.md, Table 3-8. -/
def TRN_SP_STS_DRAM6 : Fld := ⟨0x3008, 24, 2⟩
/-- TRN_SP_STS_HOST7, 03_training_and_code_learning.md, Table 3-8. -/
def TRN_SP_STS_HOST7 : Fld := ⟨0x3008, 30, 2⟩
/-- TRN_SP_STS_DRAM7, 03_training_and_code_learning.md, Table 3-8. -/
def TRN_SP_STS_DRAM7 : Fld := ⟨0x3008, 28, 2⟩
/-- TRN_EARLY, 03_training_and_code_learning.md, Table 3-9. -/
def TRN_EARLY : Fld := ⟨0x300C, 0, 32⟩
/-- TRN_RES_SEL_SP, 03_training_and_code_learning.md, Table 3-9. -/
def TRN_RES_SEL_SP : Fld := ⟨0x3010, 16, 3⟩
/-- TRN_RES_SEL_SIDE, 03_training_and_code_learning.md, Table 3-9. -/
def TRN_RES_SEL_SIDE : Fld := ⟨0x3010, 15, 1⟩
/-- TRN_RES_SEL_RANK, 03_training_and_code_learning.md, Table 3-9. -/
def TRN_RES_SEL_RANK : Fld := ⟨0x3010, 14, 1⟩
/-- TRN_RES_SEL_LANE, 03_training_and_code_learning.md, Table 3-9. -/
def TRN_RES_SEL_LANE : Fld := ⟨0x3010, 8, 5⟩
/-- TRN_RES_SEL_WORD, 03_training_and_code_learning.md, Table 3-9. -/
def TRN_RES_SEL_WORD : Fld := ⟨0x3010, 0, 4⟩
/-- TRN_RES_DATA, 03_training_and_code_learning.md, Table 3-9. -/
def TRN_RES_DATA : Fld := ⟨0x3014, 0, 32⟩
/-- CLN_CTL_TIMEOUT_MS, 03_training_and_code_learning.md, Table 3-10. -/
def CLN_CTL_TIMEOUT_MS : Fld := ⟨0x4000, 16, 16⟩
/-- CLN_CTL_VERIFY_SAVE, 03_training_and_code_learning.md, Table 3-10. -/
def CLN_CTL_VERIFY_SAVE : Fld := ⟨0x4000, 2, 1⟩
/-- CLN_CTL_VERIFY_GLEAN, 03_training_and_code_learning.md, Table 3-10. -/
def CLN_CTL_VERIFY_GLEAN : Fld := ⟨0x4000, 1, 1⟩
/-- CLN_CTL_ABORT, 03_training_and_code_learning.md, Table 3-10. -/
def CLN_CTL_ABORT : Fld := ⟨0x4000, 0, 1⟩
/-- CLN_STS_REASON, 03_training_and_code_learning.md, Table 3-11. -/
def CLN_STS_REASON : Fld := ⟨0x4004, 24, 4⟩
/-- CLN_STS_FOLDED, 03_training_and_code_learning.md, Table 3-11. -/
def CLN_STS_FOLDED : Fld := ⟨0x4004, 17, 1⟩
/-- CLN_STS_AFFINE, 03_training_and_code_learning.md, Table 3-11. -/
def CLN_STS_AFFINE : Fld := ⟨0x4004, 16, 1⟩
/-- CLN_STS_STATE, 03_training_and_code_learning.md, Table 3-11. -/
def CLN_STS_STATE : Fld := ⟨0x4004, 0, 3⟩
/-- CLN_PROGRESS_STRAY, 03_training_and_code_learning.md, Table 3-12. -/
def CLN_PROGRESS_STRAY : Fld := ⟨0x4008, 24, 8⟩
/-- CLN_PROGRESS_VERIF, 03_training_and_code_learning.md, Table 3-12. -/
def CLN_PROGRESS_VERIF : Fld := ⟨0x4008, 17, 7⟩
/-- CLN_PROGRESS_ZERO, 03_training_and_code_learning.md, Table 3-12. -/
def CLN_PROGRESS_ZERO : Fld := ⟨0x4008, 16, 1⟩
/-- CLN_PROGRESS_FOLDS, 03_training_and_code_learning.md, Table 3-12. -/
def CLN_PROGRESS_FOLDS : Fld := ⟨0x4008, 10, 6⟩
/-- CLN_PROGRESS_UNITS, 03_training_and_code_learning.md, Table 3-12. -/
def CLN_PROGRESS_UNITS : Fld := ⟨0x4008, 0, 10⟩
/-- CLN_BASE_LO, 03_training_and_code_learning.md, Table 3-13. -/
def CLN_BASE_LO : Fld := ⟨0x400C, 6, 26⟩
/-- CLN_BASE_HI, 03_training_and_code_learning.md, Table 3-13. -/
def CLN_BASE_HI : Fld := ⟨0x4010, 0, 7⟩
/-- CLN_FOLD_PRES, 03_training_and_code_learning.md, Table 3-13. -/
def CLN_FOLD_PRES : Fld := ⟨0x4014, 0, 32⟩
/-- CLN_FOLD_NZ, 03_training_and_code_learning.md, Table 3-13. -/
def CLN_FOLD_NZ : Fld := ⟨0x4018, 0, 32⟩
/-- CLN_FOLD_HI_NZ32, 03_training_and_code_learning.md, Table 3-13. -/
def CLN_FOLD_HI_NZ32 : Fld := ⟨0x401C, 8, 1⟩
/-- CLN_FOLD_HI_PRES, 03_training_and_code_learning.md, Table 3-13. -/
def CLN_FOLD_HI_PRES : Fld := ⟨0x401C, 0, 8⟩
/-- CLN_COLL_SEL_CLASS, 03_training_and_code_learning.md, Table 3-13. -/
def CLN_COLL_SEL_CLASS : Fld := ⟨0x4020, 10, 1⟩
/-- CLN_COLL_SEL_INDEX, 03_training_and_code_learning.md, Table 3-13. -/
def CLN_COLL_SEL_INDEX : Fld := ⟨0x4020, 0, 10⟩
/-- CLN_COLL_BIT, 03_training_and_code_learning.md, Table 3-13. -/
def CLN_COLL_BIT : Fld := ⟨0x4024, 0, 1⟩
/-- CLN_MAT_SEL_MATRIX, 03_training_and_code_learning.md, Table 3-13. -/
def CLN_MAT_SEL_MATRIX : Fld := ⟨0x4028, 12, 2⟩
/-- CLN_MAT_SEL_COLUMN, 03_training_and_code_learning.md, Table 3-13. -/
def CLN_MAT_SEL_COLUMN : Fld := ⟨0x4028, 0, 10⟩
/-- CLN_MAT_DATA, 03_training_and_code_learning.md, Table 3-13. -/
def CLN_MAT_DATA (n : Nat) : Fld := ⟨0x4030 + 4 * n, 0, 32⟩
/-- CLN_DIGEST, 03_training_and_code_learning.md, Table 3-13. -/
def CLN_DIGEST : Fld := ⟨0x4040, 0, 32⟩
/-- CLN_FAIL_MA_LO, 03_training_and_code_learning.md, Table 3-13. -/
def CLN_FAIL_MA_LO : Fld := ⟨0x4044, 6, 26⟩
/-- CLN_FAIL_MA_HI, 03_training_and_code_learning.md, Table 3-13. -/
def CLN_FAIL_MA_HI : Fld := ⟨0x4048, 0, 7⟩
/-- CLN_OVR, 03_training_and_code_learning.md, Table 3-13. -/
def CLN_OVR : Fld := ⟨0x404C, 0, 32⟩
/-- PKT_CTL_GAP_US, 04_packet_interface.md, Table 4-9. -/
def PKT_CTL_GAP_US : Fld := ⟨0x5000, 16, 16⟩
/-- PKT_CTL_TRACE_ALL, 04_packet_interface.md, Table 4-9. -/
def PKT_CTL_TRACE_ALL : Fld := ⟨0x5000, 1, 1⟩
/-- PKT_CTL_CHK_HOST, 04_packet_interface.md, Table 4-9. -/
def PKT_CTL_CHK_HOST : Fld := ⟨0x5000, 0, 1⟩
/-- PKT_PAP_EN, 04_packet_interface.md, Table 4-10. -/
def PKT_PAP_EN : Fld := ⟨0x5004, 31, 1⟩
/-- PKT_PAP_BASE, 04_packet_interface.md, Table 4-10. -/
def PKT_PAP_BASE : Fld := ⟨0x5004, 0, 19⟩
/-- PKT_SAP_EN, 04_packet_interface.md, Table 4-10. -/
def PKT_SAP_EN : Fld := ⟨0x5008, 31, 1⟩
/-- PKT_SAP_BASE, 04_packet_interface.md, Table 4-10. -/
def PKT_SAP_BASE : Fld := ⟨0x5008, 0, 19⟩
/-- PKT_STS_DEPTH_USED, 04_packet_interface.md, Table 4-11. -/
def PKT_STS_DEPTH_USED : Fld := ⟨0x500C, 16, 16⟩
/-- PKT_STS_NO_KITE_HOLD, 04_packet_interface.md, Table 4-11. -/
def PKT_STS_NO_KITE_HOLD : Fld := ⟨0x500C, 2, 1⟩
/-- PKT_STS_LOCKED, 04_packet_interface.md, Table 4-11. -/
def PKT_STS_LOCKED : Fld := ⟨0x500C, 1, 1⟩
/-- PKT_STS_INBAND, 04_packet_interface.md, Table 4-11. -/
def PKT_STS_INBAND : Fld := ⟨0x500C, 0, 1⟩
/-- PKT_DISCARD_DISABLED_RING, 04_packet_interface.md, Table 4-12. -/
def PKT_DISCARD_DISABLED_RING : Fld := ⟨0x5010, 24, 8⟩
/-- PKT_DISCARD_UNLEARNED, 04_packet_interface.md, Table 4-12. -/
def PKT_DISCARD_UNLEARNED : Fld := ⟨0x5010, 12, 12⟩
/-- PKT_DISCARD_MODE, 04_packet_interface.md, Table 4-12. -/
def PKT_DISCARD_MODE : Fld := ⟨0x5010, 0, 12⟩
/-- PKT_DISPATCHED, 04_packet_interface.md, Table 4-12. -/
def PKT_DISPATCHED : Fld := ⟨0x5014, 0, 32⟩
/-- PKT_MBX_IN, 04_packet_interface.md, Table 4-12. -/
def PKT_MBX_IN (n : Nat) : Fld := ⟨0x5100 + 4 * n, 0, 32⟩
/-- PKT_MBX_CTL_GO, 04_packet_interface.md, Table 4-12. -/
def PKT_MBX_CTL_GO : Fld := ⟨0x5140, 0, 1⟩
/-- PKT_MBX_STS_OVERRUN, 04_packet_interface.md, Table 4-12. -/
def PKT_MBX_STS_OVERRUN : Fld := ⟨0x5144, 2, 1⟩
/-- PKT_MBX_STS_DONE, 04_packet_interface.md, Table 4-12. -/
def PKT_MBX_STS_DONE : Fld := ⟨0x5144, 1, 1⟩
/-- PKT_MBX_STS_BUSY, 04_packet_interface.md, Table 4-12. -/
def PKT_MBX_STS_BUSY : Fld := ⟨0x5144, 0, 1⟩
/-- PKT_MBX_OUT, 04_packet_interface.md, Table 4-12. -/
def PKT_MBX_OUT (n : Nat) : Fld := ⟨0x5180 + 4 * n, 0, 32⟩
/-- PER_CTL_FORCE_FULL, 05_persistence_model.md, Table 5-7. -/
def PER_CTL_FORCE_FULL : Fld := ⟨0x6000, 0, 1⟩
/-- PER_STS_CAUSE, 05_persistence_model.md, Table 5-8. -/
def PER_STS_CAUSE : Fld := ⟨0x6004, 16, 6⟩
/-- PER_STS_CHAIN_POS, 05_persistence_model.md, Table 5-8. -/
def PER_STS_CHAIN_POS : Fld := ⟨0x6004, 8, 4⟩
/-- PER_STS_NARROWED, 05_persistence_model.md, Table 5-8. -/
def PER_STS_NARROWED : Fld := ⟨0x6004, 3, 1⟩
/-- PER_STS_FULL_NEXT, 05_persistence_model.md, Table 5-8. -/
def PER_STS_FULL_NEXT : Fld := ⟨0x6004, 2, 1⟩
/-- PER_STS_ALL_DIRTY, 05_persistence_model.md, Table 5-8. -/
def PER_STS_ALL_DIRTY : Fld := ⟨0x6004, 1, 1⟩
/-- PER_STS_FROZEN, 05_persistence_model.md, Table 5-8. -/
def PER_STS_FROZEN : Fld := ⟨0x6004, 0, 1⟩
/-- PER_FREEZE_LO, 05_persistence_model.md, Table 5-9. -/
def PER_FREEZE_LO : Fld := ⟨0x6008, 0, 32⟩
/-- PER_FREEZE_HI, 05_persistence_model.md, Table 5-9. -/
def PER_FREEZE_HI : Fld := ⟨0x600C, 0, 32⟩
/-- PER_CNT_DIRTY, 05_persistence_model.md, Table 5-9. -/
def PER_CNT_DIRTY : Fld := ⟨0x6010, 0, 20⟩
/-- PER_CNT_GPEND, 05_persistence_model.md, Table 5-9. -/
def PER_CNT_GPEND : Fld := ⟨0x6014, 0, 20⟩
/-- PER_CNT_FLUSH, 05_persistence_model.md, Table 5-9. -/
def PER_CNT_FLUSH : Fld := ⟨0x6018, 0, 20⟩
/-- PER_MAP_STATE, 05_persistence_model.md, Table 5-9. -/
def PER_MAP_STATE : Fld := ⟨0x6024, 0, 2⟩
/-- PER_SMAP_LO, 05_persistence_model.md, Table 5-9. -/
def PER_SMAP_LO : Fld := ⟨0x6028, 0, 32⟩
/-- PER_SMAP_HI, 05_persistence_model.md, Table 5-9. -/
def PER_SMAP_HI : Fld := ⟨0x602C, 0, 16⟩
/-- PER_CMAP_LO, 05_persistence_model.md, Table 5-9. -/
def PER_CMAP_LO : Fld := ⟨0x6030, 0, 32⟩
/-- PER_CMAP_HI, 05_persistence_model.md, Table 5-9. -/
def PER_CMAP_HI : Fld := ⟨0x6034, 0, 16⟩
/-- PER_IMG_GEN, 05_persistence_model.md, Table 5-9. -/
def PER_IMG_GEN : Fld := ⟨0x6038, 0, 32⟩
/-- PER_IMG_EPOCH, 05_persistence_model.md, Table 5-9. -/
def PER_IMG_EPOCH : Fld := ⟨0x603C, 0, 32⟩
/-- PER_IMG_F_LO, 05_persistence_model.md, Table 5-9. -/
def PER_IMG_F_LO : Fld := ⟨0x6040, 0, 32⟩
/-- PER_IMG_F_HI, 05_persistence_model.md, Table 5-9. -/
def PER_IMG_F_HI : Fld := ⟨0x6044, 0, 32⟩
/-- PER_OMITTED, 05_persistence_model.md, Table 5-9. -/
def PER_OMITTED : Fld := ⟨0x6048, 0, 20⟩
/-- PER_MAP_SEL, 05_persistence_model.md, Table 5-9. -/
def PER_MAP_SEL : Fld := ⟨0x6020, 0, 19⟩
/-- GLN_CTL_IDLE_US, 06_glean_and_seal.md, Table 6-8. -/
def GLN_CTL_IDLE_US : Fld := ⟨0x7000, 16, 16⟩
/-- GLN_CTL_REPAIR_EN, 06_glean_and_seal.md, Table 6-8. -/
def GLN_CTL_REPAIR_EN : Fld := ⟨0x7000, 0, 1⟩
/-- GLN_STS_SLOTS, 06_glean_and_seal.md, Table 6-9. -/
def GLN_STS_SLOTS : Fld := ⟨0x7004, 24, 4⟩
/-- GLN_STS_BUFFERS, 06_glean_and_seal.md, Table 6-9. -/
def GLN_STS_BUFFERS : Fld := ⟨0x7004, 8, 10⟩
/-- GLN_STS_RATION_OVER, 06_glean_and_seal.md, Table 6-9. -/
def GLN_STS_RATION_OVER : Fld := ⟨0x7004, 3, 1⟩
/-- GLN_STS_RESERVE_EMPTY, 06_glean_and_seal.md, Table 6-9. -/
def GLN_STS_RESERVE_EMPTY : Fld := ⟨0x7004, 2, 1⟩
/-- GLN_STS_INCOMPLETE, 06_glean_and_seal.md, Table 6-9. -/
def GLN_STS_INCOMPLETE : Fld := ⟨0x7004, 1, 1⟩
/-- GLN_STS_ACTIVE, 06_glean_and_seal.md, Table 6-9. -/
def GLN_STS_ACTIVE : Fld := ⟨0x7004, 0, 1⟩
/-- GLN_RATION_LIFE_Y, 06_glean_and_seal.md, Table 6-10. -/
def GLN_RATION_LIFE_Y : Fld := ⟨0x7008, 16, 8⟩
/-- GLN_RATION_MBS, 06_glean_and_seal.md, Table 6-10. -/
def GLN_RATION_MBS : Fld := ⟨0x7008, 0, 16⟩
/-- GLN_RATION_USED_HOURS, 06_glean_and_seal.md, Table 6-11. -/
def GLN_RATION_USED_HOURS : Fld := ⟨0x700C, 16, 16⟩
/-- GLN_RATION_USED_AVG, 06_glean_and_seal.md, Table 6-11. -/
def GLN_RATION_USED_AVG : Fld := ⟨0x700C, 0, 16⟩
/-- GLN_WEAR_BASIS_ENDURANCE, 06_glean_and_seal.md, Table 6-11. -/
def GLN_WEAR_BASIS_ENDURANCE : Fld := ⟨0x7010, 16, 16⟩
/-- GLN_WEAR_BASIS_STOOKS, 06_glean_and_seal.md, Table 6-11. -/
def GLN_WEAR_BASIS_STOOKS : Fld := ⟨0x7010, 0, 16⟩
/-- GLN_LIFE_PROJ, 06_glean_and_seal.md, Table 6-11. -/
def GLN_LIFE_PROJ : Fld := ⟨0x7014, 0, 32⟩
/-- GLN_RESERVE_STOOKS, 06_glean_and_seal.md, Table 6-11. -/
def GLN_RESERVE_STOOKS : Fld := ⟨0x7018, 16, 16⟩
/-- GLN_RESERVE_FREE, 06_glean_and_seal.md, Table 6-11. -/
def GLN_RESERVE_FREE : Fld := ⟨0x7018, 0, 16⟩
/-- GLN_CNT_LOSS_STAGING, 06_glean_and_seal.md, Table 6-11. -/
def GLN_CNT_LOSS_STAGING : Fld := ⟨0x701C, 16, 16⟩
/-- GLN_CNT_LOSS_DIRTY, 06_glean_and_seal.md, Table 6-11. -/
def GLN_CNT_LOSS_DIRTY : Fld := ⟨0x701C, 0, 16⟩
/-- GLN_CNT_MERGE, 06_glean_and_seal.md, Table 6-11. -/
def GLN_CNT_MERGE : Fld := ⟨0x7020, 0, 32⟩
/-- GLN_CNT_HOSTCHK, 06_glean_and_seal.md, Table 6-11. -/
def GLN_CNT_HOSTCHK : Fld := ⟨0x7024, 0, 32⟩
/-- GLN_REG_SEL, 06_glean_and_seal.md, Table 6-11. -/
def GLN_REG_SEL : Fld := ⟨0x7040, 0, 10⟩
/-- GLN_REG_CFG_STATE, 06_glean_and_seal.md, Table 6-11. -/
def GLN_REG_CFG_STATE : Fld := ⟨0x7044, 29, 3⟩
/-- GLN_REG_CFG_INCOMPLETE, 06_glean_and_seal.md, Table 6-11. -/
def GLN_REG_CFG_INCOMPLETE : Fld := ⟨0x7044, 28, 1⟩
/-- GLN_REG_CFG_PRIORITY, 06_glean_and_seal.md, Table 6-11. -/
def GLN_REG_CFG_PRIORITY : Fld := ⟨0x7044, 24, 3⟩
/-- GLN_REG_CFG_FIRST, 06_glean_and_seal.md, Table 6-11. -/
def GLN_REG_CFG_FIRST : Fld := ⟨0x7044, 0, 19⟩
/-- GLN_REG_COUNT, 06_glean_and_seal.md, Table 6-11. -/
def GLN_REG_COUNT : Fld := ⟨0x7048, 0, 20⟩
/-- GLN_REG_CAP_LO, 06_glean_and_seal.md, Table 6-11. -/
def GLN_REG_CAP_LO : Fld := ⟨0x704C, 0, 32⟩
/-- GLN_REG_CAP_HI, 06_glean_and_seal.md, Table 6-11. -/
def GLN_REG_CAP_HI : Fld := ⟨0x7050, 0, 32⟩
/-- GLN_REG_REPAIR, 06_glean_and_seal.md, Table 6-11. -/
def GLN_REG_REPAIR : Fld := ⟨0x7054, 0, 20⟩
/-- SEA_STS_OPEN, 06_glean_and_seal.md, Table 6-12. -/
def SEA_STS_OPEN : Fld := ⟨0x8000, 16, 11⟩
/-- SEA_STS_KEY_PRESENT, 06_glean_and_seal.md, Table 6-12. -/
def SEA_STS_KEY_PRESENT : Fld := ⟨0x8000, 2, 1⟩
/-- SEA_STS_SIGNING, 06_glean_and_seal.md, Table 6-12. -/
def SEA_STS_SIGNING : Fld := ⟨0x8000, 1, 1⟩
/-- SEA_STS_CHAIN_FAULT, 06_glean_and_seal.md, Table 6-12. -/
def SEA_STS_CHAIN_FAULT : Fld := ⟨0x8000, 0, 1⟩
/-- SEA_HEAD_SEQ_LO, 06_glean_and_seal.md, Table 6-13. -/
def SEA_HEAD_SEQ_LO : Fld := ⟨0x8004, 0, 32⟩
/-- SEA_HEAD_SEQ_HI, 06_glean_and_seal.md, Table 6-13. -/
def SEA_HEAD_SEQ_HI : Fld := ⟨0x8008, 0, 16⟩
/-- SEA_KEY_ID, 06_glean_and_seal.md, Table 6-13. -/
def SEA_KEY_ID : Fld := ⟨0x800C, 0, 32⟩
/-- SEA_PUBKEY, 06_glean_and_seal.md, Table 6-13. -/
def SEA_PUBKEY (n : Nat) : Fld := ⟨0x8010 + 4 * n, 0, 32⟩
/-- SEA_ENT_SEL_LO, 06_glean_and_seal.md, Table 6-13. -/
def SEA_ENT_SEL_LO : Fld := ⟨0x8050, 0, 32⟩
/-- SEA_ENT_SEL_HI, 06_glean_and_seal.md, Table 6-13. -/
def SEA_ENT_SEL_HI : Fld := ⟨0x8054, 0, 16⟩
/-- SEA_ENT_STS_ABSENT, 06_glean_and_seal.md, Table 6-13. -/
def SEA_ENT_STS_ABSENT : Fld := ⟨0x8058, 1, 1⟩
/-- SEA_ENT_STS_READY, 06_glean_and_seal.md, Table 6-13. -/
def SEA_ENT_STS_READY : Fld := ⟨0x8058, 0, 1⟩
/-- SEA_CNT, 06_glean_and_seal.md, Table 6-13. -/
def SEA_CNT : Fld := ⟨0x8060, 0, 32⟩
/-- SEA_HEAD_DIG, 06_glean_and_seal.md, Table 6-13. -/
def SEA_HEAD_DIG (n : Nat) : Fld := ⟨0x8070 + 4 * n, 0, 32⟩
/-- SEA_ENT, 06_glean_and_seal.md, Table 6-13. -/
def SEA_ENT (n : Nat) : Fld := ⟨0x8100 + 4 * n, 0, 32⟩
/-- SAV_CTL_THRESH_AT, 07_save_and_restore.md, Table 7-9. -/
def SAV_CTL_THRESH_AT : Fld := ⟨0x9000, 24, 4⟩
/-- SAV_CTL_THRESH_EN, 07_save_and_restore.md, Table 7-9. -/
def SAV_CTL_THRESH_EN : Fld := ⟨0x9000, 8, 1⟩
/-- SAV_CTL_RST_DISCARD, 07_save_and_restore.md, Table 7-9. -/
def SAV_CTL_RST_DISCARD : Fld := ⟨0x9000, 0, 1⟩
/-- SAV_STS_STAGE, 07_save_and_restore.md, Table 7-10. -/
def SAV_STS_STAGE : Fld := ⟨0x9004, 24, 4⟩
/-- SAV_STS_PLAN, 07_save_and_restore.md, Table 7-10. -/
def SAV_STS_PLAN : Fld := ⟨0x9004, 16, 5⟩
/-- SAV_STS_STALE, 07_save_and_restore.md, Table 7-10. -/
def SAV_STS_STALE : Fld := ⟨0x9004, 7, 1⟩
/-- SAV_STS_REBOUND_WAIT, 07_save_and_restore.md, Table 7-10. -/
def SAV_STS_REBOUND_WAIT : Fld := ⟨0x9004, 6, 1⟩
/-- SAV_STS_RESTORE_DECIDED, 07_save_and_restore.md, Table 7-10. -/
def SAV_STS_RESTORE_DECIDED : Fld := ⟨0x9004, 5, 1⟩
/-- SAV_STS_DEGRADED, 07_save_and_restore.md, Table 7-10. -/
def SAV_STS_DEGRADED : Fld := ⟨0x9004, 4, 1⟩
/-- SAV_STS_ABANDONED, 07_save_and_restore.md, Table 7-10. -/
def SAV_STS_ABANDONED : Fld := ⟨0x9004, 3, 1⟩
/-- SAV_STS_THRESHING, 07_save_and_restore.md, Table 7-10. -/
def SAV_STS_THRESHING : Fld := ⟨0x9004, 2, 1⟩
/-- SAV_STS_RESTORING, 07_save_and_restore.md, Table 7-10. -/
def SAV_STS_RESTORING : Fld := ⟨0x9004, 1, 1⟩
/-- SAV_STS_SAVING, 07_save_and_restore.md, Table 7-10. -/
def SAV_STS_SAVING : Fld := ⟨0x9004, 0, 1⟩
/-- SAV_FENCED, 07_save_and_restore.md, Table 7-11. -/
def SAV_FENCED : Fld := ⟨0x9008, 0, 17⟩
/-- SAV_KMAP0_P0, 07_save_and_restore.md, Table 7-11. -/
def SAV_KMAP0_P0 : Fld := ⟨0x900C, 0, 5⟩
/-- SAV_KMAP0_P1, 07_save_and_restore.md, Table 7-11. -/
def SAV_KMAP0_P1 : Fld := ⟨0x900C, 5, 5⟩
/-- SAV_KMAP0_P2, 07_save_and_restore.md, Table 7-11. -/
def SAV_KMAP0_P2 : Fld := ⟨0x900C, 10, 5⟩
/-- SAV_KMAP0_P3, 07_save_and_restore.md, Table 7-11. -/
def SAV_KMAP0_P3 : Fld := ⟨0x900C, 15, 5⟩
/-- SAV_KMAP0_P4, 07_save_and_restore.md, Table 7-11. -/
def SAV_KMAP0_P4 : Fld := ⟨0x900C, 20, 5⟩
/-- SAV_KMAP0_P5, 07_save_and_restore.md, Table 7-11. -/
def SAV_KMAP0_P5 : Fld := ⟨0x900C, 25, 5⟩
/-- SAV_KMAP1_P6, 07_save_and_restore.md, Table 7-11. -/
def SAV_KMAP1_P6 : Fld := ⟨0x9010, 0, 5⟩
/-- SAV_KMAP1_P7, 07_save_and_restore.md, Table 7-11. -/
def SAV_KMAP1_P7 : Fld := ⟨0x9010, 5, 5⟩
/-- SAV_CNT_SHEAVES, 07_save_and_restore.md, Table 7-11. -/
def SAV_CNT_SHEAVES : Fld := ⟨0x9014, 0, 32⟩
/-- SAV_CNT_GRAN, 07_save_and_restore.md, Table 7-11. -/
def SAV_CNT_GRAN : Fld := ⟨0x9018, 0, 20⟩
/-- SAV_CNT_HOSTCHK, 07_save_and_restore.md, Table 7-11. -/
def SAV_CNT_HOSTCHK : Fld := ⟨0x901C, 0, 32⟩
/-- SAV_CNT_PFAIL_ALL, 07_save_and_restore.md, Table 7-11. -/
def SAV_CNT_PFAIL_ALL : Fld := ⟨0x9020, 16, 16⟩
/-- SAV_CNT_PFAIL_LAST, 07_save_and_restore.md, Table 7-11. -/
def SAV_CNT_PFAIL_LAST : Fld := ⟨0x9020, 0, 16⟩
/-- SAV_T_FIRST, 07_save_and_restore.md, Table 7-11. -/
def SAV_T_FIRST : Fld := ⟨0x9024, 0, 32⟩
/-- SAV_T_ANCHOR, 07_save_and_restore.md, Table 7-11. -/
def SAV_T_ANCHOR : Fld := ⟨0x9028, 0, 32⟩
/-- SAV_RST_DEC_CODE, 07_save_and_restore.md, Table 7-11. -/
def SAV_RST_DEC_CODE : Fld := ⟨0x902C, 28, 4⟩
/-- SAV_RST_DEC_REJECTED, 07_save_and_restore.md, Table 7-11. -/
def SAV_RST_DEC_REJECTED : Fld := ⟨0x902C, 24, 4⟩
/-- SAV_RST_GEN, 07_save_and_restore.md, Table 7-11. -/
def SAV_RST_GEN : Fld := ⟨0x9030, 0, 32⟩
/-- SAV_RST_DONE, 07_save_and_restore.md, Table 7-11. -/
def SAV_RST_DONE : Fld := ⟨0x9034, 0, 20⟩
/-- SAV_RST_LOST, 07_save_and_restore.md, Table 7-11. -/
def SAV_RST_LOST : Fld := ⟨0x9038, 0, 20⟩
/-- SAV_RST_REBUILT, 07_save_and_restore.md, Table 7-11. -/
def SAV_RST_REBUILT : Fld := ⟨0x903C, 0, 32⟩
/-- SAV_THR_GEN, 07_save_and_restore.md, Table 7-11. -/
def SAV_THR_GEN : Fld := ⟨0x9040, 0, 32⟩
/-- SAV_THR_DONE, 07_save_and_restore.md, Table 7-11. -/
def SAV_THR_DONE : Fld := ⟨0x9044, 0, 32⟩
/-- SAV_THR_TOTAL, 07_save_and_restore.md, Table 7-11. -/
def SAV_THR_TOTAL : Fld := ⟨0x9048, 0, 32⟩
/-- PLN_STS_LAST_CODE, 08_plans_and_configuration.md, Table 8-14. -/
def PLN_STS_LAST_CODE : Fld := ⟨0xA000, 24, 8⟩
/-- PLN_STS_LONGEST, 08_plans_and_configuration.md, Table 8-14. -/
def PLN_STS_LONGEST : Fld := ⟨0xA000, 16, 5⟩
/-- PLN_STS_WEAR_SHORT, 08_plans_and_configuration.md, Table 8-14. -/
def PLN_STS_WEAR_SHORT : Fld := ⟨0xA000, 9, 1⟩
/-- PLN_STS_PACK_SHORT, 08_plans_and_configuration.md, Table 8-14. -/
def PLN_STS_PACK_SHORT : Fld := ⟨0xA000, 8, 1⟩
/-- PLN_STS_KEEPER_FITS, 08_plans_and_configuration.md, Table 8-14. -/
def PLN_STS_KEEPER_FITS : Fld := ⟨0xA000, 7, 1⟩
/-- PLN_STS_RELOAD_PENDING, 08_plans_and_configuration.md, Table 8-14. -/
def PLN_STS_RELOAD_PENDING : Fld := ⟨0xA000, 6, 1⟩
/-- PLN_STS_AUTO_REVERTED, 08_plans_and_configuration.md, Table 8-14. -/
def PLN_STS_AUTO_REVERTED : Fld := ⟨0xA000, 5, 1⟩
/-- PLN_STS_ACTIVATING, 08_plans_and_configuration.md, Table 8-14. -/
def PLN_STS_ACTIVATING : Fld := ⟨0xA000, 4, 1⟩
/-- PLN_STS_STAGED, 08_plans_and_configuration.md, Table 8-14. -/
def PLN_STS_STAGED : Fld := ⟨0xA000, 3, 1⟩
/-- PLN_STS_STAGING, 08_plans_and_configuration.md, Table 8-14. -/
def PLN_STS_STAGING : Fld := ⟨0xA000, 2, 1⟩
/-- PLN_STS_CORNER_BAD, 08_plans_and_configuration.md, Table 8-14. -/
def PLN_STS_CORNER_BAD : Fld := ⟨0xA000, 1, 1⟩
/-- PLN_STS_ADMITTED, 08_plans_and_configuration.md, Table 8-14. -/
def PLN_STS_ADMITTED : Fld := ⟨0xA000, 0, 1⟩
/-- PLN_GEN_ACTIVE, 08_plans_and_configuration.md, Table 8-16. -/
def PLN_GEN_ACTIVE : Fld := ⟨0xA004, 0, 32⟩
/-- PLN_GEN_PREV, 08_plans_and_configuration.md, Table 8-16. -/
def PLN_GEN_PREV : Fld := ⟨0xA008, 0, 32⟩
/-- PLN_GEN_STAGED, 08_plans_and_configuration.md, Table 8-16. -/
def PLN_GEN_STAGED : Fld := ⟨0xA00C, 0, 32⟩
/-- PLN_GEN_HIGH, 08_plans_and_configuration.md, Table 8-16. -/
def PLN_GEN_HIGH : Fld := ⟨0xA010, 0, 32⟩
/-- PLN_STAGE_BYTES, 08_plans_and_configuration.md, Table 8-16. -/
def PLN_STAGE_BYTES : Fld := ⟨0xA014, 0, 20⟩
/-- PLN_DEADLINE, 08_plans_and_configuration.md, Table 8-16. -/
def PLN_DEADLINE : Fld := ⟨0xA018, 0, 32⟩
/-- PLN_DEADLINE_K, 08_plans_and_configuration.md, Table 8-16. -/
def PLN_DEADLINE_K : Fld := ⟨0xA01C, 0, 32⟩
/-- PLN_ENERGY, 08_plans_and_configuration.md, Table 8-16. -/
def PLN_ENERGY : Fld := ⟨0xA020, 0, 32⟩
/-- PLN_BUDGET, 08_plans_and_configuration.md, Table 8-16. -/
def PLN_BUDGET : Fld := ⟨0xA024, 0, 20⟩
/-- PLN_BUDGET_K, 08_plans_and_configuration.md, Table 8-16. -/
def PLN_BUDGET_K : Fld := ⟨0xA028, 0, 20⟩
/-- PLN_POWER_KEEPER, 08_plans_and_configuration.md, Table 8-16. -/
def PLN_POWER_KEEPER : Fld := ⟨0xA02C, 16, 16⟩
/-- PLN_POWER_SAVE, 08_plans_and_configuration.md, Table 8-16. -/
def PLN_POWER_SAVE : Fld := ⟨0xA02C, 0, 16⟩
/-- PLN_BOUND_SEL, 08_plans_and_configuration.md, Table 8-16. -/
def PLN_BOUND_SEL : Fld := ⟨0xA030, 0, 5⟩
/-- PLN_BOUND, 08_plans_and_configuration.md, Table 8-16. -/
def PLN_BOUND : Fld := ⟨0xA034, 0, 32⟩
/-- PLN_SLOT, 08_plans_and_configuration.md, Table 8-16. -/
def PLN_SLOT : Fld := ⟨0xA038, 0, 32⟩
/-- PLN_ATTACH, 08_plans_and_configuration.md, Table 8-16. -/
def PLN_ATTACH : Fld := ⟨0xA03C, 0, 4⟩
/-- PLN_REFUSE_CODE, 08_plans_and_configuration.md, Table 8-16. -/
def PLN_REFUSE_CODE : Fld := ⟨0xA040, 24, 6⟩
/-- PLN_REFUSE_DETAIL, 08_plans_and_configuration.md, Table 8-16. -/
def PLN_REFUSE_DETAIL : Fld := ⟨0xA040, 0, 22⟩
/-- PLN_PACE_COUNT, 08_plans_and_configuration.md, Table 8-16. -/
def PLN_PACE_COUNT : Fld := ⟨0xA044, 16, 16⟩
/-- PLN_PACE_PROMISE, 08_plans_and_configuration.md, Table 8-16. -/
def PLN_PACE_PROMISE : Fld := ⟨0xA044, 0, 16⟩
/-- PLN_PACE_STS_MIN_COUNT, 08_plans_and_configuration.md, Table 8-15. -/
def PLN_PACE_STS_MIN_COUNT : Fld := ⟨0xA048, 16, 16⟩
/-- PLN_PACE_STS_T_IDX, 08_plans_and_configuration.md, Table 8-15. -/
def PLN_PACE_STS_T_IDX : Fld := ⟨0xA048, 8, 4⟩
/-- PLN_PACE_STS_V_IDX, 08_plans_and_configuration.md, Table 8-15. -/
def PLN_PACE_STS_V_IDX : Fld := ⟨0xA048, 4, 4⟩
/-- PLN_PACE_STS_RANGE, 08_plans_and_configuration.md, Table 8-15. -/
def PLN_PACE_STS_RANGE : Fld := ⟨0xA048, 2, 1⟩
/-- PLN_PACE_STS_CORNER_LOW, 08_plans_and_configuration.md, Table 8-15. -/
def PLN_PACE_STS_CORNER_LOW : Fld := ⟨0xA048, 1, 1⟩
/-- PLN_PACE_STS_LOCAL_LOW, 08_plans_and_configuration.md, Table 8-15. -/
def PLN_PACE_STS_LOCAL_LOW : Fld := ⟨0xA048, 0, 1⟩
/-- PLN_CORNER_SEL, 08_plans_and_configuration.md, Table 8-16. -/
def PLN_CORNER_SEL : Fld := ⟨0xA050, 0, 8⟩
/-- PLN_CORNER_DATA, 08_plans_and_configuration.md, Table 8-16. -/
def PLN_CORNER_DATA : Fld := ⟨0xA054, 0, 32⟩
/-- FLO_STS_HALF_PENDING, 09_flash_organization.md, Table 9-10. -/
def FLO_STS_HALF_PENDING : Fld := ⟨0xB000, 7, 1⟩
/-- FLO_STS_WITHDRAWN, 09_flash_organization.md, Table 9-10. -/
def FLO_STS_WITHDRAWN : Fld := ⟨0xB000, 6, 1⟩
/-- FLO_STS_SPARE_LOW, 09_flash_organization.md, Table 9-10. -/
def FLO_STS_SPARE_LOW : Fld := ⟨0xB000, 5, 1⟩
/-- FLO_STS_FORMATTING, 09_flash_organization.md, Table 9-10. -/
def FLO_STS_FORMATTING : Fld := ⟨0xB000, 4, 1⟩
/-- FLO_STS_DIE_RETIRED, 09_flash_organization.md, Table 9-10. -/
def FLO_STS_DIE_RETIRED : Fld := ⟨0xB000, 3, 1⟩
/-- FLO_STS_UNSUPPORTED, 09_flash_organization.md, Table 9-10. -/
def FLO_STS_UNSUPPORTED : Fld := ⟨0xB000, 2, 1⟩
/-- FLO_STS_SWATH_SHORT, 09_flash_organization.md, Table 9-10. -/
def FLO_STS_SWATH_SHORT : Fld := ⟨0xB000, 1, 1⟩
/-- FLO_STS_READY, 09_flash_organization.md, Table 9-10. -/
def FLO_STS_READY : Fld := ⟨0xB000, 0, 1⟩
/-- FLO_WEAR_CTL_COUNT_LIMIT, 09_flash_organization.md, Table 9-11. -/
def FLO_WEAR_CTL_COUNT_LIMIT : Fld := ⟨0xB004, 16, 16⟩
/-- FLO_WEAR_CTL_PROG_PCT, 09_flash_organization.md, Table 9-11. -/
def FLO_WEAR_CTL_PROG_PCT : Fld := ⟨0xB004, 8, 8⟩
/-- FLO_WEAR_CTL_LODGE_PCT, 09_flash_organization.md, Table 9-11. -/
def FLO_WEAR_CTL_LODGE_PCT : Fld := ⟨0xB004, 0, 8⟩
/-- FLO_POP, 09_flash_organization.md, Table 9-12. -/
def FLO_POP : Fld := ⟨0xB008, 0, 3⟩
/-- FLO_STOOKS_ROT, 09_flash_organization.md, Table 9-12. -/
def FLO_STOOKS_ROT : Fld := ⟨0xB00C, 16, 16⟩
/-- FLO_STOOKS_ALL, 09_flash_organization.md, Table 9-12. -/
def FLO_STOOKS_ALL : Fld := ⟨0xB00C, 0, 16⟩
/-- FLO_SWATH_ERASED, 09_flash_organization.md, Table 9-12. -/
def FLO_SWATH_ERASED : Fld := ⟨0xB010, 16, 16⟩
/-- FLO_SWATH_TARGET, 09_flash_organization.md, Table 9-12. -/
def FLO_SWATH_TARGET : Fld := ⟨0xB010, 0, 16⟩
/-- FLO_POOLS_TLC, 09_flash_organization.md, Table 9-12. -/
def FLO_POOLS_TLC : Fld := ⟨0xB014, 16, 16⟩
/-- FLO_POOLS_WITHDRAWN, 09_flash_organization.md, Table 9-12. -/
def FLO_POOLS_WITHDRAWN : Fld := ⟨0xB014, 0, 16⟩
/-- FLO_WEAR_HIGH, 09_flash_organization.md, Table 9-12. -/
def FLO_WEAR_HIGH : Fld := ⟨0xB018, 16, 16⟩
/-- FLO_WEAR_MEAN, 09_flash_organization.md, Table 9-12. -/
def FLO_WEAR_MEAN : Fld := ⟨0xB018, 0, 16⟩
/-- FLO_CNT_LODGED, 09_flash_organization.md, Table 9-12. -/
def FLO_CNT_LODGED : Fld := ⟨0xB01C, 16, 16⟩
/-- FLO_CNT_RETIRED, 09_flash_organization.md, Table 9-12. -/
def FLO_CNT_RETIRED : Fld := ⟨0xB01C, 0, 16⟩
/-- FLO_HALF_ERASED, 09_flash_organization.md, Table 9-12. -/
def FLO_HALF_ERASED : Fld := ⟨0xB020, 16, 16⟩
/-- FLO_HALF_FOUND, 09_flash_organization.md, Table 9-12. -/
def FLO_HALF_FOUND : Fld := ⟨0xB020, 0, 16⟩
/-- FLO_LEDGER_STOOK, 09_flash_organization.md, Table 9-12. -/
def FLO_LEDGER_STOOK : Fld := ⟨0xB024, 16, 16⟩
/-- FLO_LEDGER_INDEX, 09_flash_organization.md, Table 9-12. -/
def FLO_LEDGER_INDEX : Fld := ⟨0xB024, 0, 11⟩
/-- FLO_CHAFF, 09_flash_organization.md, Table 9-12. -/
def FLO_CHAFF : Fld := ⟨0xB028, 0, 32⟩
/-- FLO_BOOT, 09_flash_organization.md, Table 9-12. -/
def FLO_BOOT : Fld := ⟨0xB02C, 0, 32⟩
/-- FLO_SPARE_MIN_DIE, 09_flash_organization.md, Table 9-12. -/
def FLO_SPARE_MIN_DIE : Fld := ⟨0xB030, 24, 2⟩
/-- FLO_SPARE_MIN_CH, 09_flash_organization.md, Table 9-12. -/
def FLO_SPARE_MIN_CH : Fld := ⟨0xB030, 16, 5⟩
/-- FLO_SPARE_MIN_LEFT, 09_flash_organization.md, Table 9-12. -/
def FLO_SPARE_MIN_LEFT : Fld := ⟨0xB030, 0, 16⟩
/-- FLO_STK_SEL, 09_flash_organization.md, Table 9-12. -/
def FLO_STK_SEL : Fld := ⟨0xB040, 0, 13⟩
/-- FLO_STK_INFO_ROLE, 09_flash_organization.md, Table 9-12. -/
def FLO_STK_INFO_ROLE : Fld := ⟨0xB044, 28, 4⟩
/-- FLO_STK_INFO_HALF, 09_flash_organization.md, Table 9-12. -/
def FLO_STK_INFO_HALF : Fld := ⟨0xB044, 27, 1⟩
/-- FLO_STK_INFO_MODE, 09_flash_organization.md, Table 9-12. -/
def FLO_STK_INFO_MODE : Fld := ⟨0xB044, 26, 1⟩
/-- FLO_STK_INFO_WEAR, 09_flash_organization.md, Table 9-12. -/
def FLO_STK_INFO_WEAR : Fld := ⟨0xB044, 0, 16⟩
/-- FLO_STK_REMAP, 09_flash_organization.md, Table 9-12. -/
def FLO_STK_REMAP : Fld := ⟨0xB048, 0, 17⟩
/-- FLO_STK_LODGED, 09_flash_organization.md, Table 9-12. -/
def FLO_STK_LODGED : Fld := ⟨0xB04C, 0, 17⟩
/-- FLO_DIE_SEL_CH, 09_flash_organization.md, Table 9-12. -/
def FLO_DIE_SEL_CH : Fld := ⟨0xB050, 2, 5⟩
/-- FLO_DIE_SEL_DIE, 09_flash_organization.md, Table 9-12. -/
def FLO_DIE_SEL_DIE : Fld := ⟨0xB050, 0, 2⟩
/-- FLO_DIE_INFO_PRESENT, 09_flash_organization.md, Table 9-12. -/
def FLO_DIE_INFO_PRESENT : Fld := ⟨0xB054, 31, 1⟩
/-- FLO_DIE_INFO_SUPPORTED, 09_flash_organization.md, Table 9-12. -/
def FLO_DIE_INFO_SUPPORTED : Fld := ⟨0xB054, 30, 1⟩
/-- FLO_DIE_INFO_RETIRED, 09_flash_organization.md, Table 9-12. -/
def FLO_DIE_INFO_RETIRED : Fld := ⟨0xB054, 29, 1⟩
/-- FLO_DIE_INFO_DONORS, 09_flash_organization.md, Table 9-12. -/
def FLO_DIE_INFO_DONORS : Fld := ⟨0xB054, 0, 16⟩
/-- FLO_DIE_DIGEST, 09_flash_organization.md, Table 9-12. -/
def FLO_DIE_DIGEST (n : Nat) : Fld := ⟨0xB060 + 4 * n, 0, 32⟩
/-- FCE_CTL_AGE_US, 10_flash_channel_engines.md, Table 10-13. -/
def FCE_CTL_AGE_US (n : Nat) : Fld := ⟨0x10000 + 0x1000 * n, 16, 16⟩
/-- FCE_CTL_UNFENCE, 10_flash_channel_engines.md, Table 10-13. -/
def FCE_CTL_UNFENCE (n : Nat) : Fld := ⟨0x10000 + 0x1000 * n, 1, 1⟩
/-- FCE_CTL_FENCE, 10_flash_channel_engines.md, Table 10-13. -/
def FCE_CTL_FENCE (n : Nat) : Fld := ⟨0x10000 + 0x1000 * n, 0, 1⟩
/-- FCE_STS_TRAINED, 10_flash_channel_engines.md, Table 10-14. -/
def FCE_STS_TRAINED (n : Nat) : Fld := ⟨0x10004 + 0x1000 * n, 6, 1⟩
/-- FCE_STS_WAIT_REFUSED, 10_flash_channel_engines.md, Table 10-14. -/
def FCE_STS_WAIT_REFUSED (n : Nat) : Fld := ⟨0x10004 + 0x1000 * n, 5, 1⟩
/-- FCE_STS_CPL_STALL, 10_flash_channel_engines.md, Table 10-14. -/
def FCE_STS_CPL_STALL (n : Nat) : Fld := ⟨0x10004 + 0x1000 * n, 4, 1⟩
/-- FCE_STS_TRAIN_FAIL, 10_flash_channel_engines.md, Table 10-14. -/
def FCE_STS_TRAIN_FAIL (n : Nat) : Fld := ⟨0x10004 + 0x1000 * n, 3, 1⟩
/-- FCE_STS_CHECK_FAIL, 10_flash_channel_engines.md, Table 10-14. -/
def FCE_STS_CHECK_FAIL (n : Nat) : Fld := ⟨0x10004 + 0x1000 * n, 2, 1⟩
/-- FCE_STS_SOFT_FENCE, 10_flash_channel_engines.md, Table 10-14. -/
def FCE_STS_SOFT_FENCE (n : Nat) : Fld := ⟨0x10004 + 0x1000 * n, 1, 1⟩
/-- FCE_STS_FENCED, 10_flash_channel_engines.md, Table 10-14. -/
def FCE_STS_FENCED (n : Nat) : Fld := ⟨0x10004 + 0x1000 * n, 0, 1⟩
/-- FCE_IF_RATE, 10_flash_channel_engines.md, Table 10-15. -/
def FCE_IF_RATE (n : Nat) : Fld := ⟨0x10008 + 0x1000 * n, 16, 3⟩
/-- FCE_IF_VCCQ, 10_flash_channel_engines.md, Table 10-15. -/
def FCE_IF_VCCQ (n : Nat) : Fld := ⟨0x10008 + 0x1000 * n, 8, 2⟩
/-- FCE_IF_WPRE, 10_flash_channel_engines.md, Table 10-15. -/
def FCE_IF_WPRE (n : Nat) : Fld := ⟨0x10008 + 0x1000 * n, 4, 4⟩
/-- FCE_IF_RPRE, 10_flash_channel_engines.md, Table 10-15. -/
def FCE_IF_RPRE (n : Nat) : Fld := ⟨0x10008 + 0x1000 * n, 0, 4⟩
/-- FCE_WAIT0_ADL, 10_flash_channel_engines.md, Table 10-16. -/
def FCE_WAIT0_ADL (n : Nat) : Fld := ⟨0x1000C + 0x1000 * n, 16, 9⟩
/-- FCE_WAIT0_WHR, 10_flash_channel_engines.md, Table 10-16. -/
def FCE_WAIT0_WHR (n : Nat) : Fld := ⟨0x1000C + 0x1000 * n, 0, 9⟩
/-- FCE_WAIT1_CCS, 10_flash_channel_engines.md, Table 10-16. -/
def FCE_WAIT1_CCS (n : Nat) : Fld := ⟨0x10010 + 0x1000 * n, 16, 9⟩
/-- FCE_WAIT1_RHW, 10_flash_channel_engines.md, Table 10-16. -/
def FCE_WAIT1_RHW (n : Nat) : Fld := ⟨0x10010 + 0x1000 * n, 0, 9⟩
/-- FCE_TMO_ERASE, 10_flash_channel_engines.md, Table 10-17. -/
def FCE_TMO_ERASE (n : Nat) : Fld := ⟨0x10014 + 0x1000 * n, 20, 12⟩
/-- FCE_TMO_PROG, 10_flash_channel_engines.md, Table 10-17. -/
def FCE_TMO_PROG (n : Nat) : Fld := ⟨0x10014 + 0x1000 * n, 10, 10⟩
/-- FCE_TMO_READ, 10_flash_channel_engines.md, Table 10-17. -/
def FCE_TMO_READ (n : Nat) : Fld := ⟨0x10014 + 0x1000 * n, 0, 10⟩
/-- FCE_DIE_STATE0, 10_flash_channel_engines.md, Table 10-17. -/
def FCE_DIE_STATE0 (n : Nat) : Fld := ⟨0x10018 + 0x1000 * n, 0, 4⟩
/-- FCE_DIE_STATE1, 10_flash_channel_engines.md, Table 10-17. -/
def FCE_DIE_STATE1 (n : Nat) : Fld := ⟨0x10018 + 0x1000 * n, 4, 4⟩
/-- FCE_DIE_STATE2, 10_flash_channel_engines.md, Table 10-17. -/
def FCE_DIE_STATE2 (n : Nat) : Fld := ⟨0x10018 + 0x1000 * n, 8, 4⟩
/-- FCE_DIE_STATE3, 10_flash_channel_engines.md, Table 10-17. -/
def FCE_DIE_STATE3 (n : Nat) : Fld := ⟨0x10018 + 0x1000 * n, 12, 4⟩
/-- FCE_DIE_SUSP0, 10_flash_channel_engines.md, Table 10-17. -/
def FCE_DIE_SUSP0 (n : Nat) : Fld := ⟨0x1001C + 0x1000 * n, 0, 4⟩
/-- FCE_DIE_SUSP1, 10_flash_channel_engines.md, Table 10-17. -/
def FCE_DIE_SUSP1 (n : Nat) : Fld := ⟨0x1001C + 0x1000 * n, 4, 4⟩
/-- FCE_DIE_SUSP2, 10_flash_channel_engines.md, Table 10-17. -/
def FCE_DIE_SUSP2 (n : Nat) : Fld := ⟨0x1001C + 0x1000 * n, 8, 4⟩
/-- FCE_DIE_SUSP3, 10_flash_channel_engines.md, Table 10-17. -/
def FCE_DIE_SUSP3 (n : Nat) : Fld := ⟨0x1001C + 0x1000 * n, 12, 4⟩
/-- FCE_QDEPTH0_D1LOW, 10_flash_channel_engines.md, Table 10-17. -/
def FCE_QDEPTH0_D1LOW (n : Nat) : Fld := ⟨0x10020 + 0x1000 * n, 24, 6⟩
/-- FCE_QDEPTH0_D1HIGH, 10_flash_channel_engines.md, Table 10-17. -/
def FCE_QDEPTH0_D1HIGH (n : Nat) : Fld := ⟨0x10020 + 0x1000 * n, 16, 6⟩
/-- FCE_QDEPTH0_D0LOW, 10_flash_channel_engines.md, Table 10-17. -/
def FCE_QDEPTH0_D0LOW (n : Nat) : Fld := ⟨0x10020 + 0x1000 * n, 8, 6⟩
/-- FCE_QDEPTH0_D0HIGH, 10_flash_channel_engines.md, Table 10-17. -/
def FCE_QDEPTH0_D0HIGH (n : Nat) : Fld := ⟨0x10020 + 0x1000 * n, 0, 6⟩
/-- FCE_QDEPTH1_D3LOW, 10_flash_channel_engines.md, Table 10-17. -/
def FCE_QDEPTH1_D3LOW (n : Nat) : Fld := ⟨0x10024 + 0x1000 * n, 24, 6⟩
/-- FCE_QDEPTH1_D3HIGH, 10_flash_channel_engines.md, Table 10-17. -/
def FCE_QDEPTH1_D3HIGH (n : Nat) : Fld := ⟨0x10024 + 0x1000 * n, 16, 6⟩
/-- FCE_QDEPTH1_D2LOW, 10_flash_channel_engines.md, Table 10-17. -/
def FCE_QDEPTH1_D2LOW (n : Nat) : Fld := ⟨0x10024 + 0x1000 * n, 8, 6⟩
/-- FCE_QDEPTH1_D2HIGH, 10_flash_channel_engines.md, Table 10-17. -/
def FCE_QDEPTH1_D2HIGH (n : Nat) : Fld := ⟨0x10024 + 0x1000 * n, 0, 6⟩
/-- FCE_CPL_FREE, 10_flash_channel_engines.md, Table 10-17. -/
def FCE_CPL_FREE (n : Nat) : Fld := ⟨0x10028 + 0x1000 * n, 0, 7⟩
/-- FCE_CNT_CPL, 10_flash_channel_engines.md, Table 10-17. -/
def FCE_CNT_CPL (n : Nat) : Fld := ⟨0x1002C + 0x1000 * n, 0, 32⟩
/-- FCE_CNT_ERR_PFAIL, 10_flash_channel_engines.md, Table 10-17. -/
def FCE_CNT_ERR_PFAIL (n : Nat) : Fld := ⟨0x10030 + 0x1000 * n, 24, 8⟩
/-- FCE_CNT_ERR_EFAIL, 10_flash_channel_engines.md, Table 10-17. -/
def FCE_CNT_ERR_EFAIL (n : Nat) : Fld := ⟨0x10030 + 0x1000 * n, 16, 8⟩
/-- FCE_CNT_ERR_UNCORR, 10_flash_channel_engines.md, Table 10-17. -/
def FCE_CNT_ERR_UNCORR (n : Nat) : Fld := ⟨0x10030 + 0x1000 * n, 8, 8⟩
/-- FCE_CNT_ERR_TIMEOUT, 10_flash_channel_engines.md, Table 10-17. -/
def FCE_CNT_ERR_TIMEOUT (n : Nat) : Fld := ⟨0x10030 + 0x1000 * n, 0, 8⟩
/-- FCE_CNT_MISC_DOUBLE, 10_flash_channel_engines.md, Table 10-17. -/
def FCE_CNT_MISC_DOUBLE (n : Nat) : Fld := ⟨0x10034 + 0x1000 * n, 24, 8⟩
/-- FCE_CNT_MISC_RAS, 10_flash_channel_engines.md, Table 10-17. -/
def FCE_CNT_MISC_RAS (n : Nat) : Fld := ⟨0x10034 + 0x1000 * n, 16, 8⟩
/-- FCE_CNT_MISC_ABORTED, 10_flash_channel_engines.md, Table 10-17. -/
def FCE_CNT_MISC_ABORTED (n : Nat) : Fld := ⟨0x10034 + 0x1000 * n, 8, 8⟩
/-- FCE_CNT_MISC_TOOLATE, 10_flash_channel_engines.md, Table 10-17. -/
def FCE_CNT_MISC_TOOLATE (n : Nat) : Fld := ⟨0x10034 + 0x1000 * n, 0, 8⟩
/-- FCE_MAXCORR_HIGH, 10_flash_channel_engines.md, Table 10-17. -/
def FCE_MAXCORR_HIGH (n : Nat) : Fld := ⟨0x10038 + 0x1000 * n, 16, 8⟩
/-- FCE_MAXCORR_LAST, 10_flash_channel_engines.md, Table 10-17. -/
def FCE_MAXCORR_LAST (n : Nat) : Fld := ⟨0x10038 + 0x1000 * n, 0, 8⟩
/-- FCE_CHK_STS_COUNT, 10_flash_channel_engines.md, Table 10-17. -/
def FCE_CHK_STS_COUNT (n : Nat) : Fld := ⟨0x10040 + 0x1000 * n, 24, 8⟩
/-- FCE_CHK_STS_KIND, 10_flash_channel_engines.md, Table 10-17. -/
def FCE_CHK_STS_KIND (n : Nat) : Fld := ⟨0x10040 + 0x1000 * n, 4, 2⟩
/-- FCE_CHK_STS_SEEN, 10_flash_channel_engines.md, Table 10-17. -/
def FCE_CHK_STS_SEEN (n : Nat) : Fld := ⟨0x10040 + 0x1000 * n, 0, 1⟩
/-- FCE_CHK_TAG, 10_flash_channel_engines.md, Table 10-17. -/
def FCE_CHK_TAG (n : Nat) : Fld := ⟨0x10044 + 0x1000 * n, 0, 32⟩
/-- FCE_CHK_EXP, 10_flash_channel_engines.md, Table 10-17. -/
def FCE_CHK_EXP (n : Nat) : Fld := ⟨0x10048 + 0x1000 * n, 0, 32⟩
/-- FCE_CHK_OBS, 10_flash_channel_engines.md, Table 10-17. -/
def FCE_CHK_OBS (n : Nat) : Fld := ⟨0x1004C + 0x1000 * n, 0, 32⟩
/-- FCE_PTR_SEL_DIE, 10_flash_channel_engines.md, Table 10-17. -/
def FCE_PTR_SEL_DIE (n : Nat) : Fld := ⟨0x10050 + 0x1000 * n, 24, 2⟩
/-- FCE_PTR_SEL_BLOCK, 10_flash_channel_engines.md, Table 10-17. -/
def FCE_PTR_SEL_BLOCK (n : Nat) : Fld := ⟨0x10050 + 0x1000 * n, 0, 11⟩
/-- FCE_PTR_MODE, 10_flash_channel_engines.md, Table 10-17. -/
def FCE_PTR_MODE (n : Nat) : Fld := ⟨0x10054 + 0x1000 * n, 31, 1⟩
/-- FCE_PTR_UNKNOWN, 10_flash_channel_engines.md, Table 10-17. -/
def FCE_PTR_UNKNOWN (n : Nat) : Fld := ⟨0x10054 + 0x1000 * n, 30, 1⟩
/-- FCE_PTR_PAGE, 10_flash_channel_engines.md, Table 10-17. -/
def FCE_PTR_PAGE (n : Nat) : Fld := ⟨0x10054 + 0x1000 * n, 0, 10⟩
/-- FCE_TRN_RWIN, 10_flash_channel_engines.md, Table 10-17. -/
def FCE_TRN_RWIN (n : Nat) : Fld := ⟨0x10060 + 0x1000 * n, 24, 8⟩
/-- FCE_TRN_RCEN, 10_flash_channel_engines.md, Table 10-17. -/
def FCE_TRN_RCEN (n : Nat) : Fld := ⟨0x10060 + 0x1000 * n, 16, 8⟩
/-- FCE_TRN_WWIN, 10_flash_channel_engines.md, Table 10-17. -/
def FCE_TRN_WWIN (n : Nat) : Fld := ⟨0x10060 + 0x1000 * n, 8, 8⟩
/-- FCE_TRN_WCEN, 10_flash_channel_engines.md, Table 10-17. -/
def FCE_TRN_WCEN (n : Nat) : Fld := ⟨0x10060 + 0x1000 * n, 0, 8⟩
/-- FCE_RAS0, 10_flash_channel_engines.md, Table 10-17. -/
def FCE_RAS0 (n : Nat) : Fld := ⟨0x10100 + 0x1000 * n, 0, 32⟩
/-- FCE_RAS1, 10_flash_channel_engines.md, Table 10-17. -/
def FCE_RAS1 (n : Nat) : Fld := ⟨0x10104 + 0x1000 * n, 0, 32⟩
/-- FCE_RAS2, 10_flash_channel_engines.md, Table 10-17. -/
def FCE_RAS2 (n : Nat) : Fld := ⟨0x10108 + 0x1000 * n, 0, 32⟩
/-- FCE_RAS3, 10_flash_channel_engines.md, Table 10-17. -/
def FCE_RAS3 (n : Nat) : Fld := ⟨0x1010C + 0x1000 * n, 0, 32⟩
/-- FCE_RAS4, 10_flash_channel_engines.md, Table 10-17. -/
def FCE_RAS4 (n : Nat) : Fld := ⟨0x10110 + 0x1000 * n, 0, 32⟩
/-- FCE_RAS5, 10_flash_channel_engines.md, Table 10-17. -/
def FCE_RAS5 (n : Nat) : Fld := ⟨0x10114 + 0x1000 * n, 0, 32⟩
/-- FCE_RAS6, 10_flash_channel_engines.md, Table 10-17. -/
def FCE_RAS6 (n : Nat) : Fld := ⟨0x10118 + 0x1000 * n, 0, 32⟩
/-- FCE_RAS7, 10_flash_channel_engines.md, Table 10-17. -/
def FCE_RAS7 (n : Nat) : Fld := ⟨0x1011C + 0x1000 * n, 0, 32⟩
/-- FCE_RAS8, 10_flash_channel_engines.md, Table 10-17. -/
def FCE_RAS8 (n : Nat) : Fld := ⟨0x10120 + 0x1000 * n, 0, 32⟩
/-- FCE_RAS9, 10_flash_channel_engines.md, Table 10-17. -/
def FCE_RAS9 (n : Nat) : Fld := ⟨0x10124 + 0x1000 * n, 0, 32⟩
/-- FCE_RAS10, 10_flash_channel_engines.md, Table 10-17. -/
def FCE_RAS10 (n : Nat) : Fld := ⟨0x10128 + 0x1000 * n, 0, 32⟩
/-- FCE_RAS11, 10_flash_channel_engines.md, Table 10-17. -/
def FCE_RAS11 (n : Nat) : Fld := ⟨0x1012C + 0x1000 * n, 0, 32⟩
/-- FCE_RAS12, 10_flash_channel_engines.md, Table 10-17. -/
def FCE_RAS12 (n : Nat) : Fld := ⟨0x10130 + 0x1000 * n, 0, 32⟩
/-- FCE_RAS13, 10_flash_channel_engines.md, Table 10-17. -/
def FCE_RAS13 (n : Nat) : Fld := ⟨0x10134 + 0x1000 * n, 0, 32⟩
/-- FCE_RAS14, 10_flash_channel_engines.md, Table 10-17. -/
def FCE_RAS14 (n : Nat) : Fld := ⟨0x10138 + 0x1000 * n, 0, 32⟩
/-- FCE_RAS15, 10_flash_channel_engines.md, Table 10-17. -/
def FCE_RAS15 (n : Nat) : Fld := ⟨0x1013C + 0x1000 * n, 0, 32⟩
/-- DCT_CTL, 11_backside_dram_controller.md, Table 11-12. -/
def DCT_CTL : Fld := ⟨0xD000, 0, 32⟩
/-- DCT_STS_OWNER, 11_backside_dram_controller.md, Table 11-8. -/
def DCT_STS_OWNER : Fld := ⟨0xD004, 24, 4⟩
/-- DCT_STS_POSTPONED_MAX, 11_backside_dram_controller.md, Table 11-8. -/
def DCT_STS_POSTPONED_MAX : Fld := ⟨0xD004, 16, 3⟩
/-- DCT_STS_DOUBLE_REF, 11_backside_dram_controller.md, Table 11-8. -/
def DCT_STS_DOUBLE_REF : Fld := ⟨0xD004, 8, 1⟩
/-- DCT_STS_HOT, 11_backside_dram_controller.md, Table 11-8. -/
def DCT_STS_HOT : Fld := ⟨0xD004, 7, 1⟩
/-- DCT_STS_THROTTLED, 11_backside_dram_controller.md, Table 11-8. -/
def DCT_STS_THROTTLED : Fld := ⟨0xD004, 6, 1⟩
/-- DCT_STS_HANDBACK_LATE, 11_backside_dram_controller.md, Table 11-8. -/
def DCT_STS_HANDBACK_LATE : Fld := ⟨0xD004, 5, 1⟩
/-- DCT_STS_HANDBACK_EARLY, 11_backside_dram_controller.md, Table 11-8. -/
def DCT_STS_HANDBACK_EARLY : Fld := ⟨0xD004, 4, 1⟩
/-- DCT_STS_SPLIT, 11_backside_dram_controller.md, Table 11-8. -/
def DCT_STS_SPLIT : Fld := ⟨0xD004, 3, 1⟩
/-- DCT_STS_RETRAINING, 11_backside_dram_controller.md, Table 11-8. -/
def DCT_STS_RETRAINING : Fld := ⟨0xD004, 2, 1⟩
/-- DCT_STS_HARVESTING, 11_backside_dram_controller.md, Table 11-8. -/
def DCT_STS_HARVESTING : Fld := ⟨0xD004, 1, 1⟩
/-- DCT_STS_OWNED, 11_backside_dram_controller.md, Table 11-8. -/
def DCT_STS_OWNED : Fld := ⟨0xD004, 0, 1⟩
/-- DCT_HARV_CTL_ENTRY_US, 11_backside_dram_controller.md, Table 11-9. -/
def DCT_HARV_CTL_ENTRY_US : Fld := ⟨0xD008, 16, 16⟩
/-- DCT_HARV_CTL_SCRUB_H, 11_backside_dram_controller.md, Table 11-9. -/
def DCT_HARV_CTL_SCRUB_H : Fld := ⟨0xD008, 8, 8⟩
/-- DCT_HARV_CTL_RETRAIN_EN, 11_backside_dram_controller.md, Table 11-9. -/
def DCT_HARV_CTL_RETRAIN_EN : Fld := ⟨0xD008, 4, 1⟩
/-- DCT_HARV_CTL_SCRUB_EN, 11_backside_dram_controller.md, Table 11-9. -/
def DCT_HARV_CTL_SCRUB_EN : Fld := ⟨0xD008, 3, 1⟩
/-- DCT_HARV_CTL_FLUSH_EN, 11_backside_dram_controller.md, Table 11-9. -/
def DCT_HARV_CTL_FLUSH_EN : Fld := ⟨0xD008, 2, 1⟩
/-- DCT_HARV_CTL_HREPAIR_EN, 11_backside_dram_controller.md, Table 11-9. -/
def DCT_HARV_CTL_HREPAIR_EN : Fld := ⟨0xD008, 1, 1⟩
/-- DCT_HARV_CTL_EN, 11_backside_dram_controller.md, Table 11-9. -/
def DCT_HARV_CTL_EN : Fld := ⟨0xD008, 0, 1⟩
/-- DCT_LAT_WIN, 11_backside_dram_controller.md, Table 11-10. -/
def DCT_LAT_WIN : Fld := ⟨0xD00C, 24, 8⟩
/-- DCT_LAT_SCRUB, 11_backside_dram_controller.md, Table 11-10. -/
def DCT_LAT_SCRUB : Fld := ⟨0xD00C, 16, 8⟩
/-- DCT_LAT_HASH, 11_backside_dram_controller.md, Table 11-10. -/
def DCT_LAT_HASH : Fld := ⟨0xD00C, 8, 8⟩
/-- DCT_LAT_HMOVER, 11_backside_dram_controller.md, Table 11-10. -/
def DCT_LAT_HMOVER : Fld := ⟨0xD00C, 0, 8⟩
/-- DCT_RD_CTL_THRESH, 11_backside_dram_controller.md, Table 11-11. -/
def DCT_RD_CTL_THRESH : Fld := ⟨0xD010, 12, 20⟩
/-- DCT_RD_CTL_WINDOW_MS, 11_backside_dram_controller.md, Table 11-11. -/
def DCT_RD_CTL_WINDOW_MS : Fld := ⟨0xD010, 0, 8⟩
/-- DCT_RD_INT_MAX, 11_backside_dram_controller.md, Table 11-12. -/
def DCT_RD_INT_MAX : Fld := ⟨0xD014, 12, 20⟩
/-- DCT_RD_INT_PORT, 11_backside_dram_controller.md, Table 11-12. -/
def DCT_RD_INT_PORT : Fld := ⟨0xD014, 0, 5⟩
/-- DCT_RD_HOST_MAX, 11_backside_dram_controller.md, Table 11-12. -/
def DCT_RD_HOST_MAX : Fld := ⟨0xD018, 12, 20⟩
/-- DCT_RD_HOST_BANK, 11_backside_dram_controller.md, Table 11-12. -/
def DCT_RD_HOST_BANK : Fld := ⟨0xD018, 0, 9⟩
/-- DCT_CNT_REF_ISSUED, 11_backside_dram_controller.md, Table 11-12. -/
def DCT_CNT_REF_ISSUED : Fld := ⟨0xD01C, 16, 16⟩
/-- DCT_CNT_REF_SPLITS, 11_backside_dram_controller.md, Table 11-12. -/
def DCT_CNT_REF_SPLITS : Fld := ⟨0xD01C, 0, 16⟩
/-- DCT_CNT_LATE_RT, 11_backside_dram_controller.md, Table 11-12. -/
def DCT_CNT_LATE_RT : Fld := ⟨0xD020, 16, 16⟩
/-- DCT_CNT_LATE_OTHER, 11_backside_dram_controller.md, Table 11-12. -/
def DCT_CNT_LATE_OTHER : Fld := ⟨0xD020, 0, 16⟩
/-- DCT_MR4_B1, 11_backside_dram_controller.md, Table 11-12. -/
def DCT_MR4_B1 : Fld := ⟨0xD024, 24, 8⟩
/-- DCT_MR4_B0, 11_backside_dram_controller.md, Table 11-12. -/
def DCT_MR4_B0 : Fld := ⟨0xD024, 16, 8⟩
/-- DCT_MR4_A1, 11_backside_dram_controller.md, Table 11-12. -/
def DCT_MR4_A1 : Fld := ⟨0xD024, 8, 8⟩
/-- DCT_MR4_A0, 11_backside_dram_controller.md, Table 11-12. -/
def DCT_MR4_A0 : Fld := ⟨0xD024, 0, 8⟩
/-- DCT_HANDBACK_MAX, 11_backside_dram_controller.md, Table 11-12. -/
def DCT_HANDBACK_MAX : Fld := ⟨0xD028, 16, 16⟩
/-- DCT_HANDBACK_LAST, 11_backside_dram_controller.md, Table 11-12. -/
def DCT_HANDBACK_LAST : Fld := ⟨0xD028, 0, 16⟩
/-- DCT_SCRUB_PTR, 11_backside_dram_controller.md, Table 11-12. -/
def DCT_SCRUB_PTR : Fld := ⟨0xD02C, 0, 19⟩
/-- DCT_SCRUB_CNT_PASSES, 11_backside_dram_controller.md, Table 11-12. -/
def DCT_SCRUB_CNT_PASSES : Fld := ⟨0xD030, 16, 16⟩
/-- DCT_SCRUB_CNT_BAD, 11_backside_dram_controller.md, Table 11-12. -/
def DCT_SCRUB_CNT_BAD : Fld := ⟨0xD030, 0, 16⟩
/-- DCT_HARV_CNT_PERIODS, 11_backside_dram_controller.md, Table 11-12. -/
def DCT_HARV_CNT_PERIODS : Fld := ⟨0xD034, 16, 16⟩
/-- DCT_HARV_CNT_ENDED, 11_backside_dram_controller.md, Table 11-12. -/
def DCT_HARV_CNT_ENDED : Fld := ⟨0xD034, 0, 16⟩
/-- DCT_WIN_STS_REFUSED, 11_backside_dram_controller.md, Table 11-12. -/
def DCT_WIN_STS_REFUSED : Fld := ⟨0xD048, 1, 1⟩
/-- DCT_WIN_STS_READY, 11_backside_dram_controller.md, Table 11-12. -/
def DCT_WIN_STS_READY : Fld := ⟨0xD048, 0, 1⟩
/-- DCT_WIN_ADDR_LO, 11_backside_dram_controller.md, Table 11-12. -/
def DCT_WIN_ADDR_LO : Fld := ⟨0xD040, 6, 26⟩
/-- DCT_WIN_ADDR_HI, 11_backside_dram_controller.md, Table 11-12. -/
def DCT_WIN_ADDR_HI : Fld := ⟨0xD044, 0, 7⟩
/-- DCT_WIN_CHK, 11_backside_dram_controller.md, Table 11-12. -/
def DCT_WIN_CHK (n : Nat) : Fld := ⟨0xD050 + 4 * n, 0, 32⟩
/-- DCT_WIN_DATA, 11_backside_dram_controller.md, Table 11-12. -/
def DCT_WIN_DATA (n : Nat) : Fld := ⟨0xD080 + 4 * n, 0, 32⟩
/-- CLK_CTL_H_BW, 12_clocking.md, Table 12-7. -/
def CLK_CTL_H_BW : Fld := ⟨0xE000, 8, 2⟩
/-- CLK_CTL_DISC_END, 12_clocking.md, Table 12-7. -/
def CLK_CTL_DISC_END : Fld := ⟨0xE000, 0, 1⟩
/-- CLK_STS_XTAL_FAIL, 12_clocking.md, Table 12-8. -/
def CLK_STS_XTAL_FAIL : Fld := ⟨0xE004, 11, 1⟩
/-- CLK_STS_SSC_REFUSED, 12_clocking.md, Table 12-8. -/
def CLK_STS_SSC_REFUSED : Fld := ⟨0xE004, 10, 1⟩
/-- CLK_STS_LOSS, 12_clocking.md, Table 12-8. -/
def CLK_STS_LOSS : Fld := ⟨0xE004, 9, 1⟩
/-- CLK_STS_DISCONT, 12_clocking.md, Table 12-8. -/
def CLK_STS_DISCONT : Fld := ⟨0xE004, 8, 1⟩
/-- CLK_STS_SLEWING, 12_clocking.md, Table 12-8. -/
def CLK_STS_SLEWING : Fld := ⟨0xE004, 7, 1⟩
/-- CLK_STS_COAST, 12_clocking.md, Table 12-8. -/
def CLK_STS_COAST : Fld := ⟨0xE004, 6, 1⟩
/-- CLK_STS_H_STOPPED, 12_clocking.md, Table 12-8. -/
def CLK_STS_H_STOPPED : Fld := ⟨0xE004, 5, 1⟩
/-- CLK_STS_F_LOCK, 12_clocking.md, Table 12-8. -/
def CLK_STS_F_LOCK : Fld := ⟨0xE004, 4, 1⟩
/-- CLK_STS_D_LOCK, 12_clocking.md, Table 12-8. -/
def CLK_STS_D_LOCK : Fld := ⟨0xE004, 3, 1⟩
/-- CLK_STS_D_SRC, 12_clocking.md, Table 12-8. -/
def CLK_STS_D_SRC : Fld := ⟨0xE004, 2, 1⟩
/-- CLK_STS_SEARCHING, 12_clocking.md, Table 12-8. -/
def CLK_STS_SEARCHING : Fld := ⟨0xE004, 1, 1⟩
/-- CLK_STS_H_LOCK, 12_clocking.md, Table 12-8. -/
def CLK_STS_H_LOCK : Fld := ⟨0xE004, 0, 1⟩
/-- CLK_SSC_F_FREQ, 12_clocking.md, Table 12-6. -/
def CLK_SSC_F_FREQ : Fld := ⟨0xE008, 14, 2⟩
/-- CLK_SSC_F_MODE, 12_clocking.md, Table 12-6. -/
def CLK_SSC_F_MODE : Fld := ⟨0xE008, 12, 2⟩
/-- CLK_SSC_F_DEPTH, 12_clocking.md, Table 12-6. -/
def CLK_SSC_F_DEPTH : Fld := ⟨0xE008, 8, 4⟩
/-- CLK_SSC_D_FREQ, 12_clocking.md, Table 12-6. -/
def CLK_SSC_D_FREQ : Fld := ⟨0xE008, 6, 2⟩
/-- CLK_SSC_D_MODE, 12_clocking.md, Table 12-6. -/
def CLK_SSC_D_MODE : Fld := ⟨0xE008, 4, 2⟩
/-- CLK_SSC_D_DEPTH, 12_clocking.md, Table 12-6. -/
def CLK_SSC_D_DEPTH : Fld := ⟨0xE008, 0, 4⟩
/-- CLK_SP_USER, 12_clocking.md, Table 12-9. -/
def CLK_SP_USER (n : Nat) : Fld := ⟨0xE00C + 4 * n, 0, 13⟩
/-- CLK_BAND_SEL_LOOP, 12_clocking.md, Table 12-9. -/
def CLK_BAND_SEL_LOOP : Fld := ⟨0xE018, 3, 1⟩
/-- CLK_BAND_SEL_SP, 12_clocking.md, Table 12-9. -/
def CLK_BAND_SEL_SP : Fld := ⟨0xE018, 0, 3⟩
/-- CLK_BAND_DATA, 12_clocking.md, Table 12-9. -/
def CLK_BAND_DATA : Fld := ⟨0xE01C, 0, 32⟩
/-- CLK_TICK_LO, 12_clocking.md, Table 12-9. -/
def CLK_TICK_LO : Fld := ⟨0xE020, 0, 32⟩
/-- CLK_TICK_HI, 12_clocking.md, Table 12-9. -/
def CLK_TICK_HI : Fld := ⟨0xE024, 0, 32⟩
/-- CLK_COAST_LOSS, 12_clocking.md, Table 12-9. -/
def CLK_COAST_LOSS : Fld := ⟨0xE028, 16, 16⟩
/-- CLK_COAST_SIGN, 12_clocking.md, Table 12-9. -/
def CLK_COAST_SIGN : Fld := ⟨0xE028, 15, 1⟩
/-- CLK_COAST_STEP, 12_clocking.md, Table 12-9. -/
def CLK_COAST_STEP : Fld := ⟨0xE028, 0, 15⟩
/-- CLK_CNT_LOSSES, 12_clocking.md, Table 12-9. -/
def CLK_CNT_LOSSES : Fld := ⟨0xE02C, 24, 8⟩
/-- CLK_CNT_RETURNS, 12_clocking.md, Table 12-9. -/
def CLK_CNT_RETURNS : Fld := ⟨0xE02C, 16, 8⟩
/-- CLK_CNT_DISCONT, 12_clocking.md, Table 12-9. -/
def CLK_CNT_DISCONT : Fld := ⟨0xE02C, 8, 8⟩
/-- CLK_CNT_SEARCHES, 12_clocking.md, Table 12-9. -/
def CLK_CNT_SEARCHES : Fld := ⟨0xE02C, 0, 8⟩
/-- CLK_CNT_DROP, 12_clocking.md, Table 12-9. -/
def CLK_CNT_DROP : Fld := ⟨0xE030, 0, 32⟩
/-- CLK_XTAL, 12_clocking.md, Table 12-9. -/
def CLK_XTAL : Fld := ⟨0xE034, 0, 16⟩
/-- PWR_FEED_CTL_GOOD_MS, 13_power_supervision.md, Table 13-13. -/
def PWR_FEED_CTL_GOOD_MS : Fld := ⟨0xF000, 16, 8⟩
/-- PWR_FEED_CTL_SAVE_TH, 13_power_supervision.md, Table 13-13. -/
def PWR_FEED_CTL_SAVE_TH : Fld := ⟨0xF000, 0, 8⟩
/-- PWR_FEED_STS_B_OV, 13_power_supervision.md, Table 13-14. -/
def PWR_FEED_STS_B_OV : Fld := ⟨0xF004, 7, 1⟩
/-- PWR_FEED_STS_A_OV, 13_power_supervision.md, Table 13-14. -/
def PWR_FEED_STS_A_OV : Fld := ⟨0xF004, 6, 1⟩
/-- PWR_FEED_STS_B_LOW, 13_power_supervision.md, Table 13-14. -/
def PWR_FEED_STS_B_LOW : Fld := ⟨0xF004, 5, 1⟩
/-- PWR_FEED_STS_A_GOOD, 13_power_supervision.md, Table 13-14. -/
def PWR_FEED_STS_A_GOOD : Fld := ⟨0xF004, 4, 1⟩
/-- PWR_FEED_STS_A_BELOW, 13_power_supervision.md, Table 13-14. -/
def PWR_FEED_STS_A_BELOW : Fld := ⟨0xF004, 3, 1⟩
/-- PWR_FEED_STS_GATE_B, 13_power_supervision.md, Table 13-14. -/
def PWR_FEED_STS_GATE_B : Fld := ⟨0xF004, 2, 1⟩
/-- PWR_FEED_STS_GATE_A, 13_power_supervision.md, Table 13-14. -/
def PWR_FEED_STS_GATE_A : Fld := ⟨0xF004, 1, 1⟩
/-- PWR_FEED_STS_SWITCHED, 13_power_supervision.md, Table 13-14. -/
def PWR_FEED_STS_SWITCHED : Fld := ⟨0xF004, 0, 1⟩
/-- PWR_FEED_V_B, 13_power_supervision.md, Table 13-18. -/
def PWR_FEED_V_B : Fld := ⟨0xF008, 16, 16⟩
/-- PWR_FEED_V_A, 13_power_supervision.md, Table 13-18. -/
def PWR_FEED_V_A : Fld := ⟨0xF008, 0, 16⟩
/-- PWR_CTL_TEL_MS, 13_power_supervision.md, Table 13-18. -/
def PWR_CTL_TEL_MS : Fld := ⟨0xF00C, 8, 8⟩
/-- PWR_RAIL_STS, 13_power_supervision.md, Table 13-18. -/
def PWR_RAIL_STS : Fld := ⟨0xF010, 0, 16⟩
/-- PWR_FSW_STS, 13_power_supervision.md, Table 13-18. -/
def PWR_FSW_STS : Fld := ⟨0xF014, 0, 17⟩
/-- PWR_RAIL_FAIL, 13_power_supervision.md, Table 13-18. -/
def PWR_RAIL_FAIL : Fld := ⟨0xF018, 0, 16⟩
/-- PWR_FSW_FAIL, 13_power_supervision.md, Table 13-18. -/
def PWR_FSW_FAIL : Fld := ⟨0xF01C, 0, 17⟩
/-- PWR_SEQ_CTL_DWELL_US, 13_power_supervision.md, Table 13-18. -/
def PWR_SEQ_CTL_DWELL_US : Fld := ⟨0xF020, 16, 16⟩
/-- PWR_SEQ_CTL_RISE_MS, 13_power_supervision.md, Table 13-18. -/
def PWR_SEQ_CTL_RISE_MS : Fld := ⟨0xF020, 8, 8⟩
/-- PWR_SEQ_STS_STATE, 13_power_supervision.md, Table 13-15. -/
def PWR_SEQ_STS_STATE : Fld := ⟨0xF024, 28, 4⟩
/-- PWR_SEQ_STS_STAGE, 13_power_supervision.md, Table 13-15. -/
def PWR_SEQ_STS_STAGE : Fld := ⟨0xF024, 24, 4⟩
/-- PWR_SEQ_STS_STUCK, 13_power_supervision.md, Table 13-15. -/
def PWR_SEQ_STS_STUCK : Fld := ⟨0xF024, 16, 8⟩
/-- PWR_SEQ_STS_CHATTER, 13_power_supervision.md, Table 13-15. -/
def PWR_SEQ_STS_CHATTER : Fld := ⟨0xF024, 8, 8⟩
/-- PWR_SEQ_STS_GLITCH, 13_power_supervision.md, Table 13-15. -/
def PWR_SEQ_STS_GLITCH : Fld := ⟨0xF024, 3, 5⟩
/-- PWR_SEQ_STS_BACKOFF, 13_power_supervision.md, Table 13-15. -/
def PWR_SEQ_STS_BACKOFF : Fld := ⟨0xF024, 0, 3⟩
/-- PWR_RSTO_AUX_MS, 13_power_supervision.md, Table 13-18. -/
def PWR_RSTO_AUX_MS : Fld := ⟨0xF028, 24, 8⟩
/-- PWR_RSTO_PACK_MS, 13_power_supervision.md, Table 13-18. -/
def PWR_RSTO_PACK_MS : Fld := ⟨0xF028, 16, 8⟩
/-- PWR_RSTO_PMIC_MS, 13_power_supervision.md, Table 13-18. -/
def PWR_RSTO_PMIC_MS : Fld := ⟨0xF028, 8, 8⟩
/-- PWR_RSTO_AUX_LOW, 13_power_supervision.md, Table 13-18. -/
def PWR_RSTO_AUX_LOW : Fld := ⟨0xF028, 2, 1⟩
/-- PWR_RSTO_PACK_LOW, 13_power_supervision.md, Table 13-18. -/
def PWR_RSTO_PACK_LOW : Fld := ⟨0xF028, 1, 1⟩
/-- PWR_RSTO_PMIC_LOW, 13_power_supervision.md, Table 13-18. -/
def PWR_RSTO_PMIC_LOW : Fld := ⟨0xF028, 0, 1⟩
/-- PWR_PACK_CTL_ADDR, 13_power_supervision.md, Table 13-18. -/
def PWR_PACK_CTL_ADDR : Fld := ⟨0xF030, 24, 8⟩
/-- PWR_PACK_CTL_VT_S, 13_power_supervision.md, Table 13-18. -/
def PWR_PACK_CTL_VT_S : Fld := ⟨0xF030, 16, 8⟩
/-- PWR_PACK_CTL_T_MS, 13_power_supervision.md, Table 13-18. -/
def PWR_PACK_CTL_T_MS : Fld := ⟨0xF030, 0, 16⟩
/-- PWR_PACK_STS_FAIL, 13_power_supervision.md, Table 13-17. -/
def PWR_PACK_STS_FAIL : Fld := ⟨0xF034, 24, 8⟩
/-- PWR_PACK_STS_CHARGED, 13_power_supervision.md, Table 13-17. -/
def PWR_PACK_STS_CHARGED : Fld := ⟨0xF034, 6, 1⟩
/-- PWR_PACK_STS_TESTING, 13_power_supervision.md, Table 13-17. -/
def PWR_PACK_STS_TESTING : Fld := ⟨0xF034, 5, 1⟩
/-- PWR_PACK_STS_C_VALID, 13_power_supervision.md, Table 13-17. -/
def PWR_PACK_STS_C_VALID : Fld := ⟨0xF034, 4, 1⟩
/-- PWR_PACK_STS_ZERO_E, 13_power_supervision.md, Table 13-17. -/
def PWR_PACK_STS_ZERO_E : Fld := ⟨0xF034, 3, 1⟩
/-- PWR_PACK_STS_TEST_FAIL, 13_power_supervision.md, Table 13-17. -/
def PWR_PACK_STS_TEST_FAIL : Fld := ⟨0xF034, 2, 1⟩
/-- PWR_PACK_STS_PACK_FAULT, 13_power_supervision.md, Table 13-17. -/
def PWR_PACK_STS_PACK_FAULT : Fld := ⟨0xF034, 1, 1⟩
/-- PWR_PACK_STS_PRESENT, 13_power_supervision.md, Table 13-17. -/
def PWR_PACK_STS_PRESENT : Fld := ⟨0xF034, 0, 1⟩
/-- PWR_PACK_C, 13_power_supervision.md, Table 13-18. -/
def PWR_PACK_C : Fld := ⟨0xF038, 0, 32⟩
/-- PWR_PACK_ESR, 13_power_supervision.md, Table 13-18. -/
def PWR_PACK_ESR : Fld := ⟨0xF03C, 0, 32⟩
/-- PWR_PACK_E, 13_power_supervision.md, Table 13-18. -/
def PWR_PACK_E : Fld := ⟨0xF040, 0, 32⟩
/-- PWR_PACK_V0_FLOOR, 13_power_supervision.md, Table 13-18. -/
def PWR_PACK_V0_FLOOR : Fld := ⟨0xF044, 16, 16⟩
/-- PWR_PACK_V0_V0, 13_power_supervision.md, Table 13-18. -/
def PWR_PACK_V0_V0 : Fld := ⟨0xF044, 0, 16⟩
/-- PWR_PACK_AGE, 13_power_supervision.md, Table 13-18. -/
def PWR_PACK_AGE : Fld := ⟨0xF048, 0, 32⟩
/-- PWR_PACK_IT_TEMP, 13_power_supervision.md, Table 13-18. -/
def PWR_PACK_IT_TEMP : Fld := ⟨0xF04C, 16, 16⟩
/-- PWR_PACK_IT_MA, 13_power_supervision.md, Table 13-18. -/
def PWR_PACK_IT_MA : Fld := ⟨0xF04C, 0, 16⟩
/-- PWR_TEL_SEL, 13_power_supervision.md, Table 13-18. -/
def PWR_TEL_SEL : Fld := ⟨0xF050, 0, 4⟩
/-- PWR_TEL_DATA_MV, 13_power_supervision.md, Table 13-18. -/
def PWR_TEL_DATA_MV : Fld := ⟨0xF054, 16, 16⟩
/-- PWR_TEL_DATA_MA, 13_power_supervision.md, Table 13-18. -/
def PWR_TEL_DATA_MA : Fld := ⟨0xF054, 0, 16⟩
/-- PWR_MB_STS_PRESENT, 13_power_supervision.md, Table 13-18. -/
def PWR_MB_STS_PRESENT : Fld := ⟨0xF058, 24, 6⟩
/-- PWR_MB_STS_FAULTED, 13_power_supervision.md, Table 13-18. -/
def PWR_MB_STS_FAULTED : Fld := ⟨0xF058, 16, 6⟩
/-- PWR_MB_STS_RETRIES, 13_power_supervision.md, Table 13-18. -/
def PWR_MB_STS_RETRIES : Fld := ⟨0xF058, 0, 16⟩
/-- PWR_RAIL_CFG_ACT, 13_power_supervision.md, Table 13-16. -/
def PWR_RAIL_CFG_ACT (n : Nat) : Fld := ⟨0xF100 + 4 * n, 30, 2⟩
/-- PWR_RAIL_CFG_ACTX, 13_power_supervision.md, Table 13-16. -/
def PWR_RAIL_CFG_ACTX (n : Nat) : Fld := ⟨0xF138 + 4 * n, 30, 2⟩
/-- PWR_RAIL_CFG_GROUP, 13_power_supervision.md, Table 13-16. -/
def PWR_RAIL_CFG_GROUP (n : Nat) : Fld := ⟨0xF100 + 4 * n, 27, 3⟩
/-- PWR_RAIL_CFG_MB, 13_power_supervision.md, Table 13-16. -/
def PWR_RAIL_CFG_MB (n : Nat) : Fld := ⟨0xF100 + 4 * n, 24, 3⟩
/-- PWR_RAIL_CFG_CH, 13_power_supervision.md, Table 13-16. -/
def PWR_RAIL_CFG_CH (n : Nat) : Fld := ⟨0xF100 + 4 * n, 22, 2⟩
/-- PWR_RAIL_CFG_MULTI, 13_power_supervision.md, Table 13-16. -/
def PWR_RAIL_CFG_MULTI (n : Nat) : Fld := ⟨0xF100 + 4 * n, 21, 1⟩
/-- PWR_RAIL_CFG_DISCH_MS, 13_power_supervision.md, Table 13-16. -/
def PWR_RAIL_CFG_DISCH_MS (n : Nat) : Fld := ⟨0xF100 + 4 * n, 12, 9⟩
/-- PWR_RAIL_CFG_SET_MV, 13_power_supervision.md, Table 13-16. -/
def PWR_RAIL_CFG_SET_MV (n : Nat) : Fld := ⟨0xF100 + 4 * n, 0, 12⟩
/-- PWR_FSW_CFG_ACT, 13_power_supervision.md, Table 13-18. -/
def PWR_FSW_CFG_ACT : Fld := ⟨0xF140, 30, 2⟩
/-- PWR_FSW_CFG_DISCH_MS, 13_power_supervision.md, Table 13-18. -/
def PWR_FSW_CFG_DISCH_MS : Fld := ⟨0xF140, 12, 9⟩
/-- DOM_ON, 13_power_supervision.md, Table 13-18. -/
def DOM_ON (n : Nat) : Fld := ⟨0x25000 + 4 * n, 0, 32⟩
/-- DOM_FLT, 13_power_supervision.md, Table 13-18. -/
def DOM_FLT (n : Nat) : Fld := ⟨0x25020 + 4 * n, 0, 32⟩
/-- FLT_CTL_AUTOCLR, 14_fault_handling_and_redundancy.md, Table 14-14. -/
def FLT_CTL_AUTOCLR : Fld := ⟨0x21000, 0, 1⟩
/-- FLT_STS_OPEN, 14_fault_handling_and_redundancy.md, Table 14-11. -/
def FLT_STS_OPEN : Fld := ⟨0x21004, 16, 9⟩
/-- FLT_STS_BYPASS, 14_fault_handling_and_redundancy.md, Table 14-11. -/
def FLT_STS_BYPASS : Fld := ⟨0x21004, 6, 1⟩
/-- FLT_STS_OVERFLOW, 14_fault_handling_and_redundancy.md, Table 14-11. -/
def FLT_STS_OVERFLOW : Fld := ⟨0x21004, 5, 1⟩
/-- FLT_STS_DEGRADED, 14_fault_handling_and_redundancy.md, Table 14-11. -/
def FLT_STS_DEGRADED : Fld := ⟨0x21004, 4, 1⟩
/-- FLT_STS_SHADOW, 14_fault_handling_and_redundancy.md, Table 14-11. -/
def FLT_STS_SHADOW : Fld := ⟨0x21004, 3, 1⟩
/-- FLT_STS_TOP_SEV, 14_fault_handling_and_redundancy.md, Table 14-11. -/
def FLT_STS_TOP_SEV : Fld := ⟨0x21004, 1, 2⟩
/-- FLT_STS_ANY, 14_fault_handling_and_redundancy.md, Table 14-11. -/
def FLT_STS_ANY : Fld := ⟨0x21004, 0, 1⟩
/-- FLT_PIN_LEVEL, 14_fault_handling_and_redundancy.md, Table 14-12. -/
def FLT_PIN_LEVEL : Fld := ⟨0x21008, 7, 1⟩
/-- FLT_PIN_PULSING, 14_fault_handling_and_redundancy.md, Table 14-12. -/
def FLT_PIN_PULSING : Fld := ⟨0x21008, 6, 1⟩
/-- FLT_PIN_PIN_SEV, 14_fault_handling_and_redundancy.md, Table 14-12. -/
def FLT_PIN_PIN_SEV : Fld := ⟨0x21008, 4, 2⟩
/-- FLT_PIN_MODE, 14_fault_handling_and_redundancy.md, Table 14-12. -/
def FLT_PIN_MODE : Fld := ⟨0x21008, 0, 2⟩
/-- FLT_INJ_REACT_EN, 14_fault_handling_and_redundancy.md, Table 14-14. -/
def FLT_INJ_REACT_EN : Fld := ⟨0x2100C, 1, 1⟩
/-- FLT_INJ_EN, 14_fault_handling_and_redundancy.md, Table 14-14. -/
def FLT_INJ_EN : Fld := ⟨0x2100C, 0, 1⟩
/-- FLT_NEXT_INC, 14_fault_handling_and_redundancy.md, Table 14-14. -/
def FLT_NEXT_INC : Fld := ⟨0x21010, 0, 32⟩
/-- FLT_CNT_OPENED, 14_fault_handling_and_redundancy.md, Table 14-14. -/
def FLT_CNT_OPENED : Fld := ⟨0x21014, 16, 16⟩
/-- FLT_CNT_MERGED, 14_fault_handling_and_redundancy.md, Table 14-14. -/
def FLT_CNT_MERGED : Fld := ⟨0x21014, 0, 16⟩
/-- FLT_INC_SEL, 14_fault_handling_and_redundancy.md, Table 14-14. -/
def FLT_INC_SEL : Fld := ⟨0x21020, 0, 6⟩
/-- FLT_INC_NUM, 14_fault_handling_and_redundancy.md, Table 14-14. -/
def FLT_INC_NUM : Fld := ⟨0x21024, 0, 32⟩
/-- FLT_INC_STS_STATE, 14_fault_handling_and_redundancy.md, Table 14-13. -/
def FLT_INC_STS_STATE : Fld := ⟨0x21028, 29, 3⟩
/-- FLT_INC_STS_INJECTED, 14_fault_handling_and_redundancy.md, Table 14-13. -/
def FLT_INC_STS_INJECTED : Fld := ⟨0x21028, 28, 1⟩
/-- FLT_INC_STS_OVERTAKEN, 14_fault_handling_and_redundancy.md, Table 14-13. -/
def FLT_INC_STS_OVERTAKEN : Fld := ⟨0x21028, 27, 1⟩
/-- FLT_INC_STS_SUBST, 14_fault_handling_and_redundancy.md, Table 14-13. -/
def FLT_INC_STS_SUBST : Fld := ⟨0x21028, 26, 1⟩
/-- FLT_INC_STS_SEV, 14_fault_handling_and_redundancy.md, Table 14-13. -/
def FLT_INC_STS_SEV : Fld := ⟨0x21028, 24, 2⟩
/-- FLT_INC_STS_REACT, 14_fault_handling_and_redundancy.md, Table 14-13. -/
def FLT_INC_STS_REACT : Fld := ⟨0x21028, 20, 3⟩
/-- FLT_INC_STS_CONS, 14_fault_handling_and_redundancy.md, Table 14-13. -/
def FLT_INC_STS_CONS : Fld := ⟨0x21028, 0, 16⟩
/-- FLT_INC_MSG, 14_fault_handling_and_redundancy.md, Table 14-14. -/
def FLT_INC_MSG : Fld := ⟨0x2102C, 0, 32⟩
/-- FLT_INC_FOLLOW, 14_fault_handling_and_redundancy.md, Table 14-14. -/
def FLT_INC_FOLLOW : Fld := ⟨0x21030, 0, 32⟩
/-- FLT_INC_LINK, 14_fault_handling_and_redundancy.md, Table 14-14. -/
def FLT_INC_LINK : Fld := ⟨0x21034, 0, 32⟩
/-- FLT_INC_SEQ_LO, 14_fault_handling_and_redundancy.md, Table 14-14. -/
def FLT_INC_SEQ_LO : Fld := ⟨0x21038, 0, 32⟩
/-- FLT_INC_SEQ_HI, 14_fault_handling_and_redundancy.md, Table 14-14. -/
def FLT_INC_SEQ_HI : Fld := ⟨0x2103C, 0, 16⟩
/-- FLT_CONS_SEL, 14_fault_handling_and_redundancy.md, Table 14-14. -/
def FLT_CONS_SEL : Fld := ⟨0x21040, 0, 4⟩
/-- FLT_CONS_MSG, 14_fault_handling_and_redundancy.md, Table 14-14. -/
def FLT_CONS_MSG : Fld := ⟨0x21044, 0, 32⟩
/-- FLT_CONS_FOLLOW, 14_fault_handling_and_redundancy.md, Table 14-14. -/
def FLT_CONS_FOLLOW : Fld := ⟨0x21048, 0, 32⟩
/-- FLT_CONS_TAG, 14_fault_handling_and_redundancy.md, Table 14-14. -/
def FLT_CONS_TAG : Fld := ⟨0x2104C, 31, 1⟩
/-- FLT_REACT, 14_fault_handling_and_redundancy.md, Table 14-14. -/
def FLT_REACT (n : Nat) : Fld := ⟨0x21100 + 4 * n, 0, 32⟩
/-- FLT_PAIR, 14_fault_handling_and_redundancy.md, Table 14-14. -/
def FLT_PAIR (n : Nat) : Fld := ⟨0x21120 + 4 * n, 0, 32⟩
/-- CORE_STS_JNL_LAG, 14_fault_handling_and_redundancy.md, Table 14-15. -/
def CORE_STS_JNL_LAG : Fld := ⟨0x22000, 16, 16⟩
/-- CORE_STS_HOLDS_KITE, 14_fault_handling_and_redundancy.md, Table 14-15. -/
def CORE_STS_HOLDS_KITE : Fld := ⟨0x22000, 2, 1⟩
/-- CORE_STS_SELF, 14_fault_handling_and_redundancy.md, Table 14-15. -/
def CORE_STS_SELF : Fld := ⟨0x22000, 0, 2⟩
/-- CORE_HB, 14_fault_handling_and_redundancy.md, Table 14-16. -/
def CORE_HB : Fld := ⟨0x22004, 0, 32⟩
/-- CORE_KITE_REQUEST, 14_fault_handling_and_redundancy.md, Table 14-16. -/
def CORE_KITE_REQUEST : Fld := ⟨0x22008, 1, 1⟩
/-- CORE_KITE_RENEW, 14_fault_handling_and_redundancy.md, Table 14-16. -/
def CORE_KITE_RENEW : Fld := ⟨0x22008, 0, 1⟩
/-- CORE_CNT_SWITCH, 14_fault_handling_and_redundancy.md, Table 14-16. -/
def CORE_CNT_SWITCH : Fld := ⟨0x2200C, 16, 16⟩
/-- CORE_CNT_LINK, 14_fault_handling_and_redundancy.md, Table 14-16. -/
def CORE_CNT_LINK : Fld := ⟨0x2200C, 0, 16⟩
/-- SPT_KITE_HOLDER, 14_fault_handling_and_redundancy.md, Table 14-17. -/
def SPT_KITE_HOLDER : Fld := ⟨0x24000, 30, 2⟩
/-- SPT_KITE_COLD_B, 14_fault_handling_and_redundancy.md, Table 14-17. -/
def SPT_KITE_COLD_B : Fld := ⟨0x24000, 29, 1⟩
/-- SPT_KITE_COLD_A, 14_fault_handling_and_redundancy.md, Table 14-17. -/
def SPT_KITE_COLD_A : Fld := ⟨0x24000, 28, 1⟩
/-- SPT_KITE_LINK_DOWN, 14_fault_handling_and_redundancy.md, Table 14-17. -/
def SPT_KITE_LINK_DOWN : Fld := ⟨0x24000, 27, 1⟩
/-- SPT_KITE_GAP, 14_fault_handling_and_redundancy.md, Table 14-17. -/
def SPT_KITE_GAP : Fld := ⟨0x24000, 26, 1⟩
/-- SPT_KITE_GRANTS, 14_fault_handling_and_redundancy.md, Table 14-17. -/
def SPT_KITE_GRANTS : Fld := ⟨0x24000, 16, 8⟩
/-- SPT_KITE_LEASE_LEFT, 14_fault_handling_and_redundancy.md, Table 14-17. -/
def SPT_KITE_LEASE_LEFT : Fld := ⟨0x24000, 0, 8⟩
/-- SPT_HB_B_ALIVE, 14_fault_handling_and_redundancy.md, Table 14-17. -/
def SPT_HB_B_ALIVE : Fld := ⟨0x24004, 31, 1⟩
/-- SPT_HB_A_ALIVE, 14_fault_handling_and_redundancy.md, Table 14-17. -/
def SPT_HB_A_ALIVE : Fld := ⟨0x24004, 30, 1⟩
/-- SPT_HB_B_AGE, 14_fault_handling_and_redundancy.md, Table 14-17. -/
def SPT_HB_B_AGE : Fld := ⟨0x24004, 16, 8⟩
/-- SPT_HB_A_AGE, 14_fault_handling_and_redundancy.md, Table 14-17. -/
def SPT_HB_A_AGE : Fld := ⟨0x24004, 8, 8⟩
/-- SPT_HB_B_STATE, 14_fault_handling_and_redundancy.md, Table 14-17. -/
def SPT_HB_B_STATE : Fld := ⟨0x24004, 4, 4⟩
/-- SPT_HB_A_STATE, 14_fault_handling_and_redundancy.md, Table 14-17. -/
def SPT_HB_A_STATE : Fld := ⟨0x24004, 0, 4⟩
/-- EVR_CTL_SNAP_EN, 15_event_recorder.md, Table 15-4. -/
def EVR_CTL_SNAP_EN : Fld := ⟨0x23000, 8, 1⟩
/-- EVR_CTL_MIRROR_SEV, 15_event_recorder.md, Table 15-4. -/
def EVR_CTL_MIRROR_SEV : Fld := ⟨0x23000, 0, 2⟩
/-- EVR_STS_HELD, 15_event_recorder.md, Table 15-5. -/
def EVR_STS_HELD : Fld := ⟨0x23004, 19, 13⟩
/-- EVR_STS_FENCED, 15_event_recorder.md, Table 15-5. -/
def EVR_STS_FENCED : Fld := ⟨0x23004, 4, 1⟩
/-- EVR_STS_SPARE_IN_USE, 15_event_recorder.md, Table 15-5. -/
def EVR_STS_SPARE_IN_USE : Fld := ⟨0x23004, 3, 1⟩
/-- EVR_STS_WALL_SET, 15_event_recorder.md, Table 15-5. -/
def EVR_STS_WALL_SET : Fld := ⟨0x23004, 2, 1⟩
/-- EVR_STS_EPOCH_SET, 15_event_recorder.md, Table 15-5. -/
def EVR_STS_EPOCH_SET : Fld := ⟨0x23004, 1, 1⟩
/-- EVR_STS_SEQ_READY, 15_event_recorder.md, Table 15-5. -/
def EVR_STS_SEQ_READY : Fld := ⟨0x23004, 0, 1⟩
/-- EVR_DROP_CRITICAL, 15_event_recorder.md, Table 15-7. -/
def EVR_DROP_CRITICAL : Fld := ⟨0x23008, 24, 8⟩
/-- EVR_DROP_FAULT, 15_event_recorder.md, Table 15-7. -/
def EVR_DROP_FAULT : Fld := ⟨0x23008, 16, 8⟩
/-- EVR_DROP_NOTE, 15_event_recorder.md, Table 15-7. -/
def EVR_DROP_NOTE : Fld := ⟨0x23008, 8, 8⟩
/-- EVR_DROP_TRACE, 15_event_recorder.md, Table 15-7. -/
def EVR_DROP_TRACE : Fld := ⟨0x23008, 0, 8⟩
/-- EVR_CHAFF, 15_event_recorder.md, Table 15-7. -/
def EVR_CHAFF : Fld := ⟨0x2300C, 0, 32⟩
/-- EVR_FENCED_CNT, 15_event_recorder.md, Table 15-7. -/
def EVR_FENCED_CNT : Fld := ⟨0x23010, 0, 32⟩
/-- EVR_SEQ_LO, 15_event_recorder.md, Table 15-7. -/
def EVR_SEQ_LO : Fld := ⟨0x23014, 0, 32⟩
/-- EVR_SEQ_HI, 15_event_recorder.md, Table 15-7. -/
def EVR_SEQ_HI : Fld := ⟨0x23018, 0, 16⟩
/-- EVR_EPOCH, 15_event_recorder.md, Table 15-7. -/
def EVR_EPOCH : Fld := ⟨0x2301C, 0, 32⟩
/-- EVR_WALL_LO, 15_event_recorder.md, Table 15-7. -/
def EVR_WALL_LO : Fld := ⟨0x23020, 0, 32⟩
/-- EVR_WALL_HI, 15_event_recorder.md, Table 15-7. -/
def EVR_WALL_HI : Fld := ⟨0x23024, 0, 32⟩
/-- EVR_OLDEST_LO, 15_event_recorder.md, Table 15-7. -/
def EVR_OLDEST_LO : Fld := ⟨0x23028, 0, 32⟩
/-- EVR_OLDEST_HI, 15_event_recorder.md, Table 15-7. -/
def EVR_OLDEST_HI : Fld := ⟨0x2302C, 0, 16⟩
/-- EVR_MIRROR_DONE, 15_event_recorder.md, Table 15-7. -/
def EVR_MIRROR_DONE : Fld := ⟨0x23030, 16, 16⟩
/-- EVR_MIRROR_NOT, 15_event_recorder.md, Table 15-7. -/
def EVR_MIRROR_NOT : Fld := ⟨0x23030, 0, 16⟩
/-- EVR_SNAP_MISS, 15_event_recorder.md, Table 15-7. -/
def EVR_SNAP_MISS : Fld := ⟨0x23034, 0, 32⟩
/-- EVR_SNAP_CTL_EN, 15_event_recorder.md, Table 15-6. -/
def EVR_SNAP_CTL_EN (n : Nat) : Fld := ⟨0x23100 + 4 * n, 31, 1⟩
/-- EVR_SNAP_CTL_ANY_SRC, 15_event_recorder.md, Table 15-6. -/
def EVR_SNAP_CTL_ANY_SRC (n : Nat) : Fld := ⟨0x23100 + 4 * n, 30, 1⟩
/-- EVR_SNAP_CTL_SET, 15_event_recorder.md, Table 15-6. -/
def EVR_SNAP_CTL_SET (n : Nat) : Fld := ⟨0x23100 + 4 * n, 27, 3⟩
/-- EVR_SNAP_CTL_MASK, 15_event_recorder.md, Table 15-6. -/
def EVR_SNAP_CTL_MASK (n : Nat) : Fld := ⟨0x23100 + 4 * n, 19, 8⟩
/-- EVR_SNAP_CTL_SOURCE, 15_event_recorder.md, Table 15-6. -/
def EVR_SNAP_CTL_SOURCE (n : Nat) : Fld := ⟨0x23100 + 4 * n, 8, 10⟩
/-- EVR_SNAP_CTL_CODE, 15_event_recorder.md, Table 15-6. -/
def EVR_SNAP_CTL_CODE (n : Nat) : Fld := ⟨0x23100 + 4 * n, 0, 8⟩
/-- EVR_SNAP_ADDR, 15_event_recorder.md, Table 15-7. -/
def EVR_SNAP_ADDR (n : Nat) : Fld := ⟨0x23200 + 4 * n, 0, 32⟩
/-- SPT_STS_SEQ, 16_register_map.md, Table 16-6. -/
def SPT_STS_SEQ : Fld := ⟨0x24008, 12, 4⟩
/-- SPT_STS_LOG_MAIN_BAD, 16_register_map.md, Table 16-6. -/
def SPT_STS_LOG_MAIN_BAD : Fld := ⟨0x24008, 5, 1⟩
/-- SPT_STS_SP_LOADED, 16_register_map.md, Table 16-6. -/
def SPT_STS_SP_LOADED : Fld := ⟨0x24008, 4, 1⟩
/-- SPT_STS_SAVE_DECIDED, 16_register_map.md, Table 16-6. -/
def SPT_STS_SAVE_DECIDED : Fld := ⟨0x24008, 3, 1⟩
/-- SPT_STS_CORNER_OK, 16_register_map.md, Table 16-6. -/
def SPT_STS_CORNER_OK : Fld := ⟨0x24008, 2, 1⟩
/-- SPT_STS_PTAB_BURNED, 16_register_map.md, Table 16-6. -/
def SPT_STS_PTAB_BURNED : Fld := ⟨0x24008, 1, 1⟩
/-- SPT_STS_PTAB_OK, 16_register_map.md, Table 16-6. -/
def SPT_STS_PTAB_OK : Fld := ⟨0x24008, 0, 1⟩
/-- SPT_TRIG_DECISIONS, 16_register_map.md, Table 16-7. -/
def SPT_TRIG_DECISIONS : Fld := ⟨0x2400C, 24, 8⟩
/-- SPT_TRIG_FIRST, 16_register_map.md, Table 16-7. -/
def SPT_TRIG_FIRST : Fld := ⟨0x2400C, 8, 4⟩
/-- SPT_TRIG_IGNORED, 16_register_map.md, Table 16-7. -/
def SPT_TRIG_IGNORED : Fld := ⟨0x2400C, 7, 1⟩
/-- SPT_TRIG_SEEN, 16_register_map.md, Table 16-7. -/
def SPT_TRIG_SEEN : Fld := ⟨0x2400C, 0, 6⟩
/-- SPT_SELF_RUNS, 16_register_map.md, Table 16-7. -/
def SPT_SELF_RUNS : Fld := ⟨0x24010, 16, 16⟩
/-- SPT_SELF_FAILS, 16_register_map.md, Table 16-7. -/
def SPT_SELF_FAILS : Fld := ⟨0x24010, 8, 8⟩
/-- SPT_SELF_LAST, 16_register_map.md, Table 16-7. -/
def SPT_SELF_LAST : Fld := ⟨0x24010, 0, 3⟩
/-- SPT_PTAB_CTL_BURNED, 16_register_map.md, Table 16-8. -/
def SPT_PTAB_CTL_BURNED : Fld := ⟨0x24014, 31, 1⟩
/-- SPT_PTAB_CTL_BURNING, 16_register_map.md, Table 16-8. -/
def SPT_PTAB_CTL_BURNING : Fld := ⟨0x24014, 30, 1⟩
/-- SPT_PTAB_CTL_REJECTED, 16_register_map.md, Table 16-8. -/
def SPT_PTAB_CTL_REJECTED : Fld := ⟨0x24014, 29, 1⟩
/-- SPT_PTAB_CTL_BURN, 16_register_map.md, Table 16-8. -/
def SPT_PTAB_CTL_BURN : Fld := ⟨0x24014, 0, 16⟩
/-- SPT_CFGKEY, 16_register_map.md, R471. -/
def SPT_CFGKEY (n : Nat) : Fld := ⟨0x24020 + 4 * n, 0, 32⟩
/-- SPT_LASTLOG, 15_event_recorder.md, Table 15-7. -/
def SPT_LASTLOG (n : Nat) : Fld := ⟨0x24100 + 4 * n, 0, 32⟩
/-- SPT_LASTLOG_STS_COUNT, 15_event_recorder.md, Table 15-7. -/
def SPT_LASTLOG_STS_COUNT : Fld := ⟨0x24140, 16, 16⟩
/-- SPT_LASTLOG_STS_NEXT, 15_event_recorder.md, Table 15-7. -/
def SPT_LASTLOG_STS_NEXT : Fld := ⟨0x24140, 0, 4⟩
/-- SPT_PTAB, 16_register_map.md, Table 16-9. -/
def SPT_PTAB (n : Nat) : Fld := ⟨0x24200 + 4 * n, 0, 32⟩
/-- SPT_CORNER, 16_register_map.md, R472. -/
def SPT_CORNER (n : Nat) : Fld := ⟨0x24400 + 4 * n, 0, 32⟩

end Reg

open Reg

/-- The fields of block ID. -/
def idRows : List FRow :=
  [⟨ID_PART, 1, 4, .ro, 0x9716, 0, 4294967295⟩,
   ⟨ID_REV_MAJOR, 1, 4, .ro, 2, 0, 255⟩,
   ⟨ID_REV_MINOR, 1, 4, .ro, 1, 0, 255⟩,
   ⟨ID_VENDOR, 1, 4, .ro, 0x4159444e, 0, 4294967295⟩,
   ⟨ID_ROM, 1, 4, .ro, 0, 0, 4294967295⟩,
   ⟨ID_TRACE0, 1, 4, .ro, 0, 0, 4294967295⟩,
   ⟨ID_TRACE1, 1, 4, .ro, 0, 0, 4294967295⟩,
   ⟨ID_UID 0, 4, 4, .ro, 0, 0, 4294967295⟩]

/-- The fields of block CFG. -/
def cfgRows : List FRow :=
  [⟨CFG_MODE_LAST_MODE, 1, 4, .ro, 0, 0, 15⟩,
   ⟨CFG_MODE_ATTACH_PHASE, 1, 4, .ro, 0, 0, 7⟩,
   ⟨CFG_MODE_HANDOVER, 1, 4, .wo, 0, 0, 1⟩,
   ⟨CFG_MODE_NO_PLAN, 1, 4, .ro, 0, 0, 1⟩,
   ⟨CFG_MODE_KEEPER, 1, 4, .ro, 0, 0, 1⟩,
   ⟨CFG_MODE_MODE, 1, 4, .ro, 1, 0, 15⟩,
   ⟨CFG_CAUSE_POWERUPS, 1, 4, .ro, 0, 0, 65535⟩,
   ⟨CFG_CAUSE_OFF_MODE, 1, 4, .ro, 0, 0, 15⟩,
   ⟨CFG_CAUSE_OFF_CAUSE, 1, 4, .ro, 0, 0, 15⟩,
   ⟨CFG_SB_ADDR_DYN, 1, 4, .ro, 0, 0, 127⟩,
   ⟨CFG_SB_ADDR_STATIC, 1, 4, .ro, 0, 0, 127⟩,
   ⟨CFG_SB_STS_BAD_ADDR, 1, 4, .w1cCount, 0, 0, 255⟩,
   ⟨CFG_SB_STS_SHORT_WR, 1, 4, .w1cCount, 0, 0, 255⟩,
   ⟨CFG_SB_STS_READ_NACK, 1, 4, .ro, 0, 0, 255⟩,
   ⟨CFG_SB_STS_I2C, 1, 4, .ro, 1, 0, 1⟩,
   ⟨CFG_SCRATCH 0, 4, 4, .rw, 0, 0, 4294967295⟩]

/-- The fields of block HBP, part 0. -/
def hbpRows0 : List FRow :=
  [⟨HBP_CTL_ALERT_WIDTH, 1, 4, .rw, 2, 0, 7⟩,
   ⟨HBP_CTL_CMD_2N, 1, 4, .rw, 0, 0, 1⟩,
   ⟨HBP_CTL_CA_LAT, 1, 4, .rw, 1, 0, 1⟩,
   ⟨HBP_CTL_PAR_POLICY, 1, 4, .rw, 1, 0, 1⟩,
   ⟨HBP_CTL_PAR_EN, 1, 4, .rw, 1, 0, 1⟩,
   ⟨HBP_LAT_SET_POINT, 1, 4, .ro, 0, 0, 7⟩,
   ⟨HBP_LAT_RD_ADD, 1, 4, .ro, 2, 0, 15⟩,
   ⟨HBP_LAT_WR_DELAY, 1, 4, .ro, 2, 0, 15⟩,
   ⟨HBP_LAT_CA_LAT_EFF, 1, 4, .ro, 2, 0, 15⟩,
   ⟨HBP_GEOM_ROW3Q, 1, 4, .sp, 0, 0, 1⟩,
   ⟨HBP_GEOM_ROW17, 1, 4, .sp, 1, 0, 1⟩,
   ⟨HBP_GEOM_LRANKS, 1, 4, .sp, 2, 0, 3⟩,
   ⟨HBP_GEOM_RANK2, 1, 4, .sp, 1, 0, 1⟩,
   ⟨HBP_PAR_STS_COUNT_B, 1, 4, .ro, 0, 0, 255⟩,
   ⟨HBP_PAR_STS_COUNT_A, 1, 4, .ro, 0, 0, 255⟩,
   ⟨HBP_PAR_STS_BLOCK_LONG, 1, 4, .w1c, 0, 0, 1⟩,
   ⟨HBP_PAR_STS_HELD, 1, 4, .ro, 1, 0, 1⟩,
   ⟨HBP_PAR_STS_BLOCK_B, 1, 4, .ro, 0, 0, 1⟩,
   ⟨HBP_PAR_STS_BLOCK_A, 1, 4, .ro, 0, 0, 1⟩,
   ⟨HBP_PAR_STS_ERR_B, 1, 4, .w1c, 0, 0, 1⟩,
   ⟨HBP_PAR_STS_ERR_A, 1, 4, .w1c, 0, 0, 1⟩,
   ⟨HBP_PAR_LOG 0, 2, 4, .ro, 0, 0, 4294967295⟩,
   ⟨HBP_ORDER_LO, 1, 4, .ro, 0, 0, 4294967295⟩,
   ⟨HBP_ORDER_HI, 1, 4, .ro, 0, 0, 4294967295⟩]

/-- The fields of block HBP, part 1. -/
def hbpRows1 : List FRow :=
  [⟨HBP_LANE_FLT_H, 1, 4, .w1c, 0, 0, 1048575⟩,
   ⟨HBP_LANE_FLT_D, 1, 4, .w1c, 0, 0, 1048575⟩,
   ⟨HBP_LANE_CTL_THRESH, 1, 4, .rw, 0x10, 0, 65535⟩,
   ⟨HBP_LANE_CTL_WINDOW_MS, 1, 4, .rw, 0x3e8, 0, 65535⟩,
   ⟨HBP_LOOP_CTL_DURATION_US, 1, 4, .rw, 0x32, 1, 255⟩,
   ⟨HBP_LOOP_CTL_DRAM_EN, 1, 4, .rw, 0, 0, 1⟩,
   ⟨HBP_LOOP_CTL_HOST_EN, 1, 4, .rw, 0, 0, 1⟩,
   ⟨HBP_LOOP_STS_RUNS, 1, 4, .ro, 0, 0, 65535⟩,
   ⟨HBP_LOOP_STS_LAST_ABORTED, 1, 4, .ro, 0, 0, 1⟩,
   ⟨HBP_LOOP_STS_BUSY, 1, 4, .ro, 0, 0, 1⟩,
   ⟨HBP_TAP_STS_PACKET, 1, 4, .ro, 0, 0, 255⟩,
   ⟨HBP_TAP_STS_GLEAN, 1, 4, .ro, 0, 0, 255⟩,
   ⟨HBP_TAP_STS_DIRTY, 1, 4, .ro, 0, 0, 255⟩,
   ⟨HBP_LANE_CNT_SLIP 0, 40, 4, .ro, 0, 0, 65535⟩,
   ⟨HBP_LANE_CNT_LOOP 0, 40, 4, .ro, 0, 0, 65535⟩]

/-- The fields of block HBP. -/
def hbpRows : List FRow := hbpRows0 ++ hbpRows1

/-- The fields of block TRN, part 0. -/
def trnRows0 : List FRow :=
  [⟨TRN_CTL_DRAM_FULL, 1, 4, .rw, 0, 0, 1⟩,
   ⟨TRN_CTL_SP_REQ, 1, 4, .rw, 0, 0, 7⟩,
   ⟨TRN_CTL_SP_GO, 1, 4, .wo, 0, 0, 1⟩,
   ⟨TRN_STS_ACTIVE_SP, 1, 4, .ro, 0, 0, 7⟩,
   ⟨TRN_STS_STEP, 1, 4, .ro, 0, 0, 15⟩,
   ⟨TRN_STS_SP_REFUSED, 1, 4, .w1c, 0, 0, 1⟩,
   ⟨TRN_STS_ABANDONED, 1, 4, .w1c, 0, 0, 1⟩,
   ⟨TRN_STS_HOST_MODE, 1, 4, .ro, 0, 0, 1⟩,
   ⟨TRN_STS_GATHERING, 1, 4, .ro, 0, 0, 1⟩,
   ⟨TRN_STS_DRAM_FAIL, 1, 4, .ro, 0, 0, 1⟩,
   ⟨TRN_STS_DRAM_READY, 1, 4, .ro, 0, 0, 1⟩,
   ⟨TRN_SP_STS_HOST0, 1, 4, .ro, 0, 0, 3⟩,
   ⟨TRN_SP_STS_DRAM0, 1, 4, .ro, 0, 0, 3⟩,
   ⟨TRN_SP_STS_HOST1, 1, 4, .ro, 0, 0, 3⟩,
   ⟨TRN_SP_STS_DRAM1, 1, 4, .ro, 0, 0, 3⟩,
   ⟨TRN_SP_STS_HOST2, 1, 4, .ro, 0, 0, 3⟩,
   ⟨TRN_SP_STS_DRAM2, 1, 4, .ro, 0, 0, 3⟩,
   ⟨TRN_SP_STS_HOST3, 1, 4, .ro, 0, 0, 3⟩,
   ⟨TRN_SP_STS_DRAM3, 1, 4, .ro, 0, 0, 3⟩,
   ⟨TRN_SP_STS_HOST4, 1, 4, .ro, 0, 0, 3⟩,
   ⟨TRN_SP_STS_DRAM4, 1, 4, .ro, 0, 0, 3⟩,
   ⟨TRN_SP_STS_HOST5, 1, 4, .ro, 0, 0, 3⟩,
   ⟨TRN_SP_STS_DRAM5, 1, 4, .ro, 0, 0, 3⟩,
   ⟨TRN_SP_STS_HOST6, 1, 4, .ro, 0, 0, 3⟩]

/-- The fields of block TRN, part 1. -/
def trnRows1 : List FRow :=
  [⟨TRN_SP_STS_DRAM6, 1, 4, .ro, 0, 0, 3⟩,
   ⟨TRN_SP_STS_HOST7, 1, 4, .ro, 0, 0, 3⟩,
   ⟨TRN_SP_STS_DRAM7, 1, 4, .ro, 0, 0, 3⟩,
   ⟨TRN_EARLY, 1, 4, .ro, 0, 0, 4294967295⟩,
   ⟨TRN_RES_SEL_SP, 1, 4, .rw, 0, 0, 7⟩,
   ⟨TRN_RES_SEL_SIDE, 1, 4, .rw, 0, 0, 1⟩,
   ⟨TRN_RES_SEL_RANK, 1, 4, .rw, 0, 0, 1⟩,
   ⟨TRN_RES_SEL_LANE, 1, 4, .rw, 0, 0, 31⟩,
   ⟨TRN_RES_SEL_WORD, 1, 4, .rw, 0, 0, 15⟩,
   ⟨TRN_RES_DATA, 1, 4, .ro, 0, 0, 4294967295⟩]

/-- The fields of block TRN. -/
def trnRows : List FRow := trnRows0 ++ trnRows1

/-- The fields of block CLN, part 0. -/
def clnRows0 : List FRow :=
  [⟨CLN_CTL_TIMEOUT_MS, 1, 4, .rw, 0x1f4, 1, 65535⟩,
   ⟨CLN_CTL_VERIFY_SAVE, 1, 4, .rw, 1, 0, 1⟩,
   ⟨CLN_CTL_VERIFY_GLEAN, 1, 4, .rw, 1, 0, 1⟩,
   ⟨CLN_CTL_ABORT, 1, 4, .wo, 0, 0, 1⟩,
   ⟨CLN_STS_REASON, 1, 4, .ro, 0, 0, 15⟩,
   ⟨CLN_STS_FOLDED, 1, 4, .ro, 0, 0, 1⟩,
   ⟨CLN_STS_AFFINE, 1, 4, .ro, 0, 0, 1⟩,
   ⟨CLN_STS_STATE, 1, 4, .ro, 0, 0, 7⟩,
   ⟨CLN_PROGRESS_STRAY, 1, 4, .ro, 0, 0, 255⟩,
   ⟨CLN_PROGRESS_VERIF, 1, 4, .ro, 0, 0, 127⟩,
   ⟨CLN_PROGRESS_ZERO, 1, 4, .ro, 0, 0, 1⟩,
   ⟨CLN_PROGRESS_FOLDS, 1, 4, .ro, 0, 0, 63⟩,
   ⟨CLN_PROGRESS_UNITS, 1, 4, .ro, 0, 0, 1023⟩,
   ⟨CLN_BASE_LO, 1, 4, .rw, 0, 0, 67108863⟩,
   ⟨CLN_BASE_HI, 1, 4, .rw, 0, 0, 127⟩,
   ⟨CLN_FOLD_PRES, 1, 4, .ro, 0, 0, 4294967295⟩,
   ⟨CLN_FOLD_NZ, 1, 4, .ro, 0, 0, 4294967295⟩,
   ⟨CLN_FOLD_HI_NZ32, 1, 4, .ro, 0, 0, 1⟩,
   ⟨CLN_FOLD_HI_PRES, 1, 4, .ro, 0, 0, 255⟩,
   ⟨CLN_COLL_SEL_CLASS, 1, 4, .rw, 0, 0, 1⟩,
   ⟨CLN_COLL_SEL_INDEX, 1, 4, .rw, 0, 0, 1023⟩,
   ⟨CLN_COLL_BIT, 1, 4, .ro, 0, 0, 1⟩,
   ⟨CLN_MAT_SEL_MATRIX, 1, 4, .rw, 0, 0, 3⟩,
   ⟨CLN_MAT_SEL_COLUMN, 1, 4, .rw, 0, 0, 1023⟩]

/-- The fields of block CLN, part 1. -/
def clnRows1 : List FRow :=
  [⟨CLN_MAT_DATA 0, 4, 4, .ro, 0, 0, 4294967295⟩,
   ⟨CLN_DIGEST, 1, 4, .ro, 0, 0, 4294967295⟩,
   ⟨CLN_FAIL_MA_LO, 1, 4, .ro, 0, 0, 67108863⟩,
   ⟨CLN_FAIL_MA_HI, 1, 4, .ro, 0, 0, 127⟩,
   ⟨CLN_OVR, 1, 4, .ro, 0, 0, 4294967295⟩]

/-- The fields of block CLN. -/
def clnRows : List FRow := clnRows0 ++ clnRows1

/-- The fields of block PKT. -/
def pktRows : List FRow :=
  [⟨PKT_CTL_GAP_US, 1, 4, .rw, 0x64, 1, 65535⟩,
   ⟨PKT_CTL_TRACE_ALL, 1, 4, .rw, 0, 0, 1⟩,
   ⟨PKT_CTL_CHK_HOST, 1, 4, .rw, 1, 0, 1⟩,
   ⟨PKT_PAP_EN, 1, 4, .sp, 0, 0, 1⟩,
   ⟨PKT_PAP_BASE, 1, 4, .sp, 0, 0, 524287⟩,
   ⟨PKT_SAP_EN, 1, 4, .sp, 0, 0, 1⟩,
   ⟨PKT_SAP_BASE, 1, 4, .sp, 0, 0, 524287⟩,
   ⟨PKT_STS_DEPTH_USED, 1, 4, .ro, 0x10, 0, 65535⟩,
   ⟨PKT_STS_NO_KITE_HOLD, 1, 4, .ro, 0, 0, 1⟩,
   ⟨PKT_STS_LOCKED, 1, 4, .ro, 0, 0, 1⟩,
   ⟨PKT_STS_INBAND, 1, 4, .ro, 0, 0, 1⟩,
   ⟨PKT_DISCARD_DISABLED_RING, 1, 4, .ro, 0, 0, 255⟩,
   ⟨PKT_DISCARD_UNLEARNED, 1, 4, .ro, 0, 0, 4095⟩,
   ⟨PKT_DISCARD_MODE, 1, 4, .ro, 0, 0, 4095⟩,
   ⟨PKT_DISPATCHED, 1, 4, .ro, 0, 0, 4294967295⟩,
   ⟨PKT_MBX_IN 0, 16, 4, .rw, 0, 0, 4294967295⟩,
   ⟨PKT_MBX_CTL_GO, 1, 4, .wo, 0, 0, 1⟩,
   ⟨PKT_MBX_STS_OVERRUN, 1, 4, .w1c, 0, 0, 1⟩,
   ⟨PKT_MBX_STS_DONE, 1, 4, .ro, 0, 0, 1⟩,
   ⟨PKT_MBX_STS_BUSY, 1, 4, .ro, 0, 0, 1⟩,
   ⟨PKT_MBX_OUT 0, 8, 4, .ro, 0, 0, 4294967295⟩]

/-- The fields of block PER. -/
def perRows : List FRow :=
  [⟨PER_CTL_FORCE_FULL, 1, 4, .wo, 0, 0, 1⟩,
   ⟨PER_STS_CAUSE, 1, 4, .ro, 0, 0, 63⟩,
   ⟨PER_STS_CHAIN_POS, 1, 4, .ro, 0, 0, 15⟩,
   ⟨PER_STS_NARROWED, 1, 4, .ro, 0, 0, 1⟩,
   ⟨PER_STS_FULL_NEXT, 1, 4, .ro, 1, 0, 1⟩,
   ⟨PER_STS_ALL_DIRTY, 1, 4, .ro, 0, 0, 1⟩,
   ⟨PER_STS_FROZEN, 1, 4, .ro, 0, 0, 1⟩,
   ⟨PER_FREEZE_LO, 1, 4, .ro, 0, 0, 4294967295⟩,
   ⟨PER_FREEZE_HI, 1, 4, .ro, 0, 0, 4294967295⟩,
   ⟨PER_CNT_DIRTY, 1, 4, .ro, 0, 0, 1048575⟩,
   ⟨PER_CNT_GPEND, 1, 4, .ro, 0, 0, 1048575⟩,
   ⟨PER_CNT_FLUSH, 1, 4, .ro, 0, 0, 1048575⟩,
   ⟨PER_MAP_STATE, 1, 4, .ro, 0, 0, 3⟩,
   ⟨PER_SMAP_LO, 1, 4, .ro, 0, 0, 4294967295⟩,
   ⟨PER_SMAP_HI, 1, 4, .ro, 0, 0, 65535⟩,
   ⟨PER_CMAP_LO, 1, 4, .ro, 0, 0, 4294967295⟩,
   ⟨PER_CMAP_HI, 1, 4, .ro, 0, 0, 65535⟩,
   ⟨PER_IMG_GEN, 1, 4, .ro, 0, 0, 4294967295⟩,
   ⟨PER_IMG_EPOCH, 1, 4, .ro, 0, 0, 4294967295⟩,
   ⟨PER_IMG_F_LO, 1, 4, .ro, 0, 0, 4294967295⟩,
   ⟨PER_IMG_F_HI, 1, 4, .ro, 0, 0, 4294967295⟩,
   ⟨PER_OMITTED, 1, 4, .ro, 0, 0, 1048575⟩,
   ⟨PER_MAP_SEL, 1, 4, .rw, 0, 0, 524287⟩]

/-- The fields of block GLN, part 0. -/
def glnRows0 : List FRow :=
  [⟨GLN_CTL_IDLE_US, 1, 4, .rw, 0xc8, 1, 65535⟩,
   ⟨GLN_CTL_REPAIR_EN, 1, 4, .rw, 1, 0, 1⟩,
   ⟨GLN_STS_SLOTS, 1, 4, .ro, 0, 0, 15⟩,
   ⟨GLN_STS_BUFFERS, 1, 4, .ro, 0, 0, 1023⟩,
   ⟨GLN_STS_RATION_OVER, 1, 4, .w1c, 0, 0, 1⟩,
   ⟨GLN_STS_RESERVE_EMPTY, 1, 4, .ro, 0, 0, 1⟩,
   ⟨GLN_STS_INCOMPLETE, 1, 4, .ro, 0, 0, 1⟩,
   ⟨GLN_STS_ACTIVE, 1, 4, .ro, 0, 0, 1⟩,
   ⟨GLN_RATION_LIFE_Y, 1, 4, .sp, 5, 1, 20⟩,
   ⟨GLN_RATION_MBS, 1, 4, .sp, 0x1f4, 1, 20000⟩,
   ⟨GLN_RATION_USED_HOURS, 1, 4, .ro, 0, 0, 65535⟩,
   ⟨GLN_RATION_USED_AVG, 1, 4, .ro, 0, 0, 65535⟩,
   ⟨GLN_WEAR_BASIS_ENDURANCE, 1, 4, .ro, 0xc350, 0, 65535⟩,
   ⟨GLN_WEAR_BASIS_STOOKS, 1, 4, .ro, 0, 0, 65535⟩,
   ⟨GLN_LIFE_PROJ, 1, 4, .ro, 0, 0, 4294967295⟩,
   ⟨GLN_RESERVE_STOOKS, 1, 4, .sp, 0, 0, 65535⟩,
   ⟨GLN_RESERVE_FREE, 1, 4, .ro, 0, 0, 65535⟩,
   ⟨GLN_CNT_LOSS_STAGING, 1, 4, .ro, 0, 0, 65535⟩,
   ⟨GLN_CNT_LOSS_DIRTY, 1, 4, .ro, 0, 0, 65535⟩,
   ⟨GLN_CNT_MERGE, 1, 4, .ro, 0, 0, 4294967295⟩,
   ⟨GLN_CNT_HOSTCHK, 1, 4, .ro, 0, 0, 4294967295⟩,
   ⟨GLN_REG_SEL, 1, 4, .rw, 0, 0, 1023⟩,
   ⟨GLN_REG_CFG_STATE, 1, 4, .ro, 0, 0, 7⟩,
   ⟨GLN_REG_CFG_INCOMPLETE, 1, 4, .ro, 0, 0, 1⟩]

/-- The fields of block GLN, part 1. -/
def glnRows1 : List FRow :=
  [⟨GLN_REG_CFG_PRIORITY, 1, 4, .ro, 0, 0, 7⟩,
   ⟨GLN_REG_CFG_FIRST, 1, 4, .ro, 0, 0, 524287⟩,
   ⟨GLN_REG_COUNT, 1, 4, .ro, 0, 0, 1048575⟩,
   ⟨GLN_REG_CAP_LO, 1, 4, .ro, 0, 0, 4294967295⟩,
   ⟨GLN_REG_CAP_HI, 1, 4, .ro, 0, 0, 4294967295⟩,
   ⟨GLN_REG_REPAIR, 1, 4, .ro, 0, 0, 1048575⟩]

/-- The fields of block GLN. -/
def glnRows : List FRow := glnRows0 ++ glnRows1

/-- The fields of block SEA. -/
def seaRows : List FRow :=
  [⟨SEA_STS_OPEN, 1, 4, .ro, 0, 0, 2047⟩,
   ⟨SEA_STS_KEY_PRESENT, 1, 4, .ro, 1, 0, 1⟩,
   ⟨SEA_STS_SIGNING, 1, 4, .ro, 0, 0, 1⟩,
   ⟨SEA_STS_CHAIN_FAULT, 1, 4, .ro, 0, 0, 1⟩,
   ⟨SEA_HEAD_SEQ_LO, 1, 4, .ro, 0, 0, 4294967295⟩,
   ⟨SEA_HEAD_SEQ_HI, 1, 4, .ro, 0, 0, 65535⟩,
   ⟨SEA_KEY_ID, 1, 4, .ro, 0, 0, 4294967295⟩,
   ⟨SEA_PUBKEY 0, 16, 4, .ro, 0, 0, 4294967295⟩,
   ⟨SEA_ENT_SEL_LO, 1, 4, .rw, 0, 0, 4294967295⟩,
   ⟨SEA_ENT_SEL_HI, 1, 4, .rw, 0, 0, 65535⟩,
   ⟨SEA_ENT_STS_ABSENT, 1, 4, .ro, 0, 0, 1⟩,
   ⟨SEA_ENT_STS_READY, 1, 4, .ro, 0, 0, 1⟩,
   ⟨SEA_CNT, 1, 4, .ro, 0, 0, 4294967295⟩,
   ⟨SEA_HEAD_DIG 0, 8, 4, .ro, 0, 0, 4294967295⟩,
   ⟨SEA_ENT 0, 64, 4, .ro, 0, 0, 4294967295⟩]

/-- The fields of block SAV, part 0. -/
def savRows0 : List FRow :=
  [⟨SAV_CTL_THRESH_AT, 1, 4, .rw, 4, 2, 8⟩,
   ⟨SAV_CTL_THRESH_EN, 1, 4, .rw, 1, 0, 1⟩,
   ⟨SAV_CTL_RST_DISCARD, 1, 4, .rw, 0, 0, 1⟩,
   ⟨SAV_STS_STAGE, 1, 4, .ro, 0, 0, 15⟩,
   ⟨SAV_STS_PLAN, 1, 4, .ro, 0x1f, 0, 31⟩,
   ⟨SAV_STS_STALE, 1, 4, .ro, 0, 0, 1⟩,
   ⟨SAV_STS_REBOUND_WAIT, 1, 4, .ro, 0, 0, 1⟩,
   ⟨SAV_STS_RESTORE_DECIDED, 1, 4, .ro, 0, 0, 1⟩,
   ⟨SAV_STS_DEGRADED, 1, 4, .ro, 0, 0, 1⟩,
   ⟨SAV_STS_ABANDONED, 1, 4, .w1c, 0, 0, 1⟩,
   ⟨SAV_STS_THRESHING, 1, 4, .ro, 0, 0, 1⟩,
   ⟨SAV_STS_RESTORING, 1, 4, .ro, 0, 0, 1⟩,
   ⟨SAV_STS_SAVING, 1, 4, .ro, 0, 0, 1⟩,
   ⟨SAV_FENCED, 1, 4, .ro, 0, 0, 131071⟩,
   ⟨SAV_KMAP0_P0, 1, 4, .ro, 0, 0, 31⟩,
   ⟨SAV_KMAP0_P1, 1, 4, .ro, 0, 0, 31⟩,
   ⟨SAV_KMAP0_P2, 1, 4, .ro, 0, 0, 31⟩,
   ⟨SAV_KMAP0_P3, 1, 4, .ro, 0, 0, 31⟩,
   ⟨SAV_KMAP0_P4, 1, 4, .ro, 0, 0, 31⟩,
   ⟨SAV_KMAP0_P5, 1, 4, .ro, 0, 0, 31⟩,
   ⟨SAV_KMAP1_P6, 1, 4, .ro, 0, 0, 31⟩,
   ⟨SAV_KMAP1_P7, 1, 4, .ro, 0, 0, 31⟩,
   ⟨SAV_CNT_SHEAVES, 1, 4, .ro, 0, 0, 4294967295⟩,
   ⟨SAV_CNT_GRAN, 1, 4, .ro, 0, 0, 1048575⟩]

/-- The fields of block SAV, part 1. -/
def savRows1 : List FRow :=
  [⟨SAV_CNT_HOSTCHK, 1, 4, .ro, 0, 0, 4294967295⟩,
   ⟨SAV_CNT_PFAIL_ALL, 1, 4, .ro, 0, 0, 65535⟩,
   ⟨SAV_CNT_PFAIL_LAST, 1, 4, .ro, 0, 0, 65535⟩,
   ⟨SAV_T_FIRST, 1, 4, .ro, 0, 0, 4294967295⟩,
   ⟨SAV_T_ANCHOR, 1, 4, .ro, 0, 0, 4294967295⟩,
   ⟨SAV_RST_DEC_CODE, 1, 4, .ro, 0, 0, 15⟩,
   ⟨SAV_RST_DEC_REJECTED, 1, 4, .ro, 0, 0, 15⟩,
   ⟨SAV_RST_GEN, 1, 4, .ro, 0, 0, 4294967295⟩,
   ⟨SAV_RST_DONE, 1, 4, .ro, 0, 0, 1048575⟩,
   ⟨SAV_RST_LOST, 1, 4, .ro, 0, 0, 1048575⟩,
   ⟨SAV_RST_REBUILT, 1, 4, .ro, 0, 0, 4294967295⟩,
   ⟨SAV_THR_GEN, 1, 4, .ro, 0, 0, 4294967295⟩,
   ⟨SAV_THR_DONE, 1, 4, .ro, 0, 0, 4294967295⟩,
   ⟨SAV_THR_TOTAL, 1, 4, .ro, 0, 0, 4294967295⟩]

/-- The fields of block SAV. -/
def savRows : List FRow := savRows0 ++ savRows1

/-- The fields of block PLN, part 0. -/
def plnRows0 : List FRow :=
  [⟨PLN_STS_LAST_CODE, 1, 4, .ro, 0, 0, 255⟩,
   ⟨PLN_STS_LONGEST, 1, 4, .ro, 0, 0, 31⟩,
   ⟨PLN_STS_WEAR_SHORT, 1, 4, .ro, 0, 0, 1⟩,
   ⟨PLN_STS_PACK_SHORT, 1, 4, .ro, 0, 0, 1⟩,
   ⟨PLN_STS_KEEPER_FITS, 1, 4, .ro, 0, 0, 1⟩,
   ⟨PLN_STS_RELOAD_PENDING, 1, 4, .ro, 0, 0, 1⟩,
   ⟨PLN_STS_AUTO_REVERTED, 1, 4, .w1c, 0, 0, 1⟩,
   ⟨PLN_STS_ACTIVATING, 1, 4, .ro, 0, 0, 1⟩,
   ⟨PLN_STS_STAGED, 1, 4, .ro, 0, 0, 1⟩,
   ⟨PLN_STS_STAGING, 1, 4, .ro, 0, 0, 1⟩,
   ⟨PLN_STS_CORNER_BAD, 1, 4, .ro, 0, 0, 1⟩,
   ⟨PLN_STS_ADMITTED, 1, 4, .ro, 0, 0, 1⟩,
   ⟨PLN_GEN_ACTIVE, 1, 4, .ro, 0, 0, 4294967295⟩,
   ⟨PLN_GEN_PREV, 1, 4, .ro, 0, 0, 4294967295⟩,
   ⟨PLN_GEN_STAGED, 1, 4, .ro, 0, 0, 4294967295⟩,
   ⟨PLN_GEN_HIGH, 1, 4, .ro, 0, 0, 4294967295⟩,
   ⟨PLN_STAGE_BYTES, 1, 4, .ro, 0, 0, 1048575⟩,
   ⟨PLN_DEADLINE, 1, 4, .ro, 0, 0, 4294967295⟩,
   ⟨PLN_DEADLINE_K, 1, 4, .ro, 0, 0, 4294967295⟩,
   ⟨PLN_ENERGY, 1, 4, .ro, 0, 0, 4294967295⟩,
   ⟨PLN_BUDGET, 1, 4, .ro, 0xfffff, 0, 1048575⟩,
   ⟨PLN_BUDGET_K, 1, 4, .ro, 0xfffff, 0, 1048575⟩,
   ⟨PLN_POWER_KEEPER, 1, 4, .ro, 0, 0, 65535⟩,
   ⟨PLN_POWER_SAVE, 1, 4, .ro, 0, 0, 65535⟩]

/-- The fields of block PLN, part 1. -/
def plnRows1 : List FRow :=
  [⟨PLN_BOUND_SEL, 1, 4, .rw, 0, 0, 31⟩,
   ⟨PLN_BOUND, 1, 4, .ro, 0, 0, 4294967295⟩,
   ⟨PLN_SLOT, 1, 4, .ro, 0, 0, 4294967295⟩,
   ⟨PLN_ATTACH, 1, 4, .ro, 0, 0, 15⟩,
   ⟨PLN_REFUSE_CODE, 1, 4, .ro, 0, 0, 63⟩,
   ⟨PLN_REFUSE_DETAIL, 1, 4, .ro, 0, 0, 4194303⟩,
   ⟨PLN_PACE_COUNT, 1, 4, .ro, 0, 0, 65535⟩,
   ⟨PLN_PACE_PROMISE, 1, 4, .ro, 0, 0, 65535⟩,
   ⟨PLN_PACE_STS_MIN_COUNT, 1, 4, .ro, 0xffff, 0, 65535⟩,
   ⟨PLN_PACE_STS_T_IDX, 1, 4, .ro, 0, 0, 15⟩,
   ⟨PLN_PACE_STS_V_IDX, 1, 4, .ro, 0, 0, 15⟩,
   ⟨PLN_PACE_STS_RANGE, 1, 4, .ro, 0, 0, 1⟩,
   ⟨PLN_PACE_STS_CORNER_LOW, 1, 4, .ro, 0, 0, 1⟩,
   ⟨PLN_PACE_STS_LOCAL_LOW, 1, 4, .ro, 0, 0, 1⟩,
   ⟨PLN_CORNER_SEL, 1, 4, .rw, 0, 0, 255⟩,
   ⟨PLN_CORNER_DATA, 1, 4, .ro, 0, 0, 4294967295⟩]

/-- The fields of block PLN. -/
def plnRows : List FRow := plnRows0 ++ plnRows1

/-- The fields of block FLO, part 0. -/
def floRows0 : List FRow :=
  [⟨FLO_STS_HALF_PENDING, 1, 4, .ro, 0, 0, 1⟩,
   ⟨FLO_STS_WITHDRAWN, 1, 4, .ro, 0, 0, 1⟩,
   ⟨FLO_STS_SPARE_LOW, 1, 4, .ro, 0, 0, 1⟩,
   ⟨FLO_STS_FORMATTING, 1, 4, .ro, 0, 0, 1⟩,
   ⟨FLO_STS_DIE_RETIRED, 1, 4, .ro, 0, 0, 1⟩,
   ⟨FLO_STS_UNSUPPORTED, 1, 4, .ro, 0, 0, 1⟩,
   ⟨FLO_STS_SWATH_SHORT, 1, 4, .ro, 0, 0, 1⟩,
   ⟨FLO_STS_READY, 1, 4, .ro, 0, 0, 1⟩,
   ⟨FLO_WEAR_CTL_COUNT_LIMIT, 1, 4, .rw, 0xc350, 1000, 50000⟩,
   ⟨FLO_WEAR_CTL_PROG_PCT, 1, 4, .rw, 0x96, 110, 200⟩,
   ⟨FLO_WEAR_CTL_LODGE_PCT, 1, 4, .rw, 0x3c, 30, 90⟩,
   ⟨FLO_POP, 1, 4, .ro, 0, 0, 7⟩,
   ⟨FLO_STOOKS_ROT, 1, 4, .ro, 0, 0, 65535⟩,
   ⟨FLO_STOOKS_ALL, 1, 4, .ro, 0, 0, 65535⟩,
   ⟨FLO_SWATH_ERASED, 1, 4, .ro, 0, 0, 65535⟩,
   ⟨FLO_SWATH_TARGET, 1, 4, .ro, 0, 0, 65535⟩,
   ⟨FLO_POOLS_TLC, 1, 4, .ro, 0, 0, 65535⟩,
   ⟨FLO_POOLS_WITHDRAWN, 1, 4, .ro, 0, 0, 65535⟩,
   ⟨FLO_WEAR_HIGH, 1, 4, .ro, 0, 0, 65535⟩,
   ⟨FLO_WEAR_MEAN, 1, 4, .ro, 0, 0, 65535⟩,
   ⟨FLO_CNT_LODGED, 1, 4, .ro, 0, 0, 65535⟩,
   ⟨FLO_CNT_RETIRED, 1, 4, .ro, 0, 0, 65535⟩,
   ⟨FLO_HALF_ERASED, 1, 4, .ro, 0, 0, 65535⟩,
   ⟨FLO_HALF_FOUND, 1, 4, .ro, 0, 0, 65535⟩]

/-- The fields of block FLO, part 1. -/
def floRows1 : List FRow :=
  [⟨FLO_LEDGER_STOOK, 1, 4, .ro, 0, 0, 65535⟩,
   ⟨FLO_LEDGER_INDEX, 1, 4, .ro, 0, 0, 2047⟩,
   ⟨FLO_CHAFF, 1, 4, .ro, 0, 0, 4294967295⟩,
   ⟨FLO_BOOT, 1, 4, .ro, 0, 0, 4294967295⟩,
   ⟨FLO_SPARE_MIN_DIE, 1, 4, .ro, 0, 0, 3⟩,
   ⟨FLO_SPARE_MIN_CH, 1, 4, .ro, 0, 0, 31⟩,
   ⟨FLO_SPARE_MIN_LEFT, 1, 4, .ro, 0, 0, 65535⟩,
   ⟨FLO_STK_SEL, 1, 4, .rw, 0, 0, 8191⟩,
   ⟨FLO_STK_INFO_ROLE, 1, 4, .ro, 0, 0, 15⟩,
   ⟨FLO_STK_INFO_HALF, 1, 4, .ro, 0, 0, 1⟩,
   ⟨FLO_STK_INFO_MODE, 1, 4, .ro, 0, 0, 1⟩,
   ⟨FLO_STK_INFO_WEAR, 1, 4, .ro, 0, 0, 65535⟩,
   ⟨FLO_STK_REMAP, 1, 4, .ro, 0, 0, 131071⟩,
   ⟨FLO_STK_LODGED, 1, 4, .ro, 0, 0, 131071⟩,
   ⟨FLO_DIE_SEL_CH, 1, 4, .rw, 0, 0, 31⟩,
   ⟨FLO_DIE_SEL_DIE, 1, 4, .rw, 0, 0, 3⟩,
   ⟨FLO_DIE_INFO_PRESENT, 1, 4, .ro, 0, 0, 1⟩,
   ⟨FLO_DIE_INFO_SUPPORTED, 1, 4, .ro, 0, 0, 1⟩,
   ⟨FLO_DIE_INFO_RETIRED, 1, 4, .ro, 0, 0, 1⟩,
   ⟨FLO_DIE_INFO_DONORS, 1, 4, .ro, 0, 0, 65535⟩,
   ⟨FLO_DIE_DIGEST 0, 8, 4, .ro, 0, 0, 4294967295⟩]

/-- The fields of block FLO. -/
def floRows : List FRow := floRows0 ++ floRows1

/-- The fields of block FCE, part 0. -/
def fceRows0 : List FRow :=
  [⟨FCE_CTL_AGE_US 0, 17, 4096, .rw, 0x3e8, 1, 65535⟩,
   ⟨FCE_CTL_UNFENCE 0, 17, 4096, .wo, 0, 0, 1⟩,
   ⟨FCE_CTL_FENCE 0, 17, 4096, .wo, 0, 0, 1⟩,
   ⟨FCE_STS_TRAINED 0, 17, 4096, .ro, 0, 0, 1⟩,
   ⟨FCE_STS_WAIT_REFUSED 0, 17, 4096, .w1c, 0, 0, 1⟩,
   ⟨FCE_STS_CPL_STALL 0, 17, 4096, .ro, 0, 0, 1⟩,
   ⟨FCE_STS_TRAIN_FAIL 0, 17, 4096, .ro, 0, 0, 1⟩,
   ⟨FCE_STS_CHECK_FAIL 0, 17, 4096, .w1c, 0, 0, 1⟩,
   ⟨FCE_STS_SOFT_FENCE 0, 17, 4096, .ro, 0, 0, 1⟩,
   ⟨FCE_STS_FENCED 0, 17, 4096, .ro, 0, 0, 1⟩,
   ⟨FCE_IF_RATE 0, 17, 4096, .rw, 0, 0, 7⟩,
   ⟨FCE_IF_VCCQ 0, 17, 4096, .rw, 0, 0, 3⟩,
   ⟨FCE_IF_WPRE 0, 17, 4096, .rw, 2, 0, 15⟩,
   ⟨FCE_IF_RPRE 0, 17, 4096, .rw, 4, 0, 15⟩,
   ⟨FCE_WAIT0_ADL 0, 17, 4096, .rw, 0xb4, 0, 511⟩,
   ⟨FCE_WAIT0_WHR 0, 17, 4096, .rw, 0x90, 0, 511⟩,
   ⟨FCE_WAIT1_CCS 0, 17, 4096, .rw, 0x168, 0, 511⟩,
   ⟨FCE_WAIT1_RHW 0, 17, 4096, .rw, 0x78, 0, 511⟩,
   ⟨FCE_TMO_ERASE 0, 17, 4096, .rw, 0x12c, 0, 4095⟩,
   ⟨FCE_TMO_PROG 0, 17, 4096, .rw, 0x64, 0, 1023⟩,
   ⟨FCE_TMO_READ 0, 17, 4096, .rw, 0x3e8, 0, 1023⟩,
   ⟨FCE_DIE_STATE0 0, 17, 4096, .ro, 0, 0, 15⟩,
   ⟨FCE_DIE_STATE1 0, 17, 4096, .ro, 0, 0, 15⟩,
   ⟨FCE_DIE_STATE2 0, 17, 4096, .ro, 0, 0, 15⟩]

/-- The fields of block FCE, part 1. -/
def fceRows1 : List FRow :=
  [⟨FCE_DIE_STATE3 0, 17, 4096, .ro, 0, 0, 15⟩,
   ⟨FCE_DIE_SUSP0 0, 17, 4096, .ro, 0, 0, 15⟩,
   ⟨FCE_DIE_SUSP1 0, 17, 4096, .ro, 0, 0, 15⟩,
   ⟨FCE_DIE_SUSP2 0, 17, 4096, .ro, 0, 0, 15⟩,
   ⟨FCE_DIE_SUSP3 0, 17, 4096, .ro, 0, 0, 15⟩,
   ⟨FCE_QDEPTH0_D1LOW 0, 17, 4096, .ro, 0, 0, 63⟩,
   ⟨FCE_QDEPTH0_D1HIGH 0, 17, 4096, .ro, 0, 0, 63⟩,
   ⟨FCE_QDEPTH0_D0LOW 0, 17, 4096, .ro, 0, 0, 63⟩,
   ⟨FCE_QDEPTH0_D0HIGH 0, 17, 4096, .ro, 0, 0, 63⟩,
   ⟨FCE_QDEPTH1_D3LOW 0, 17, 4096, .ro, 0, 0, 63⟩,
   ⟨FCE_QDEPTH1_D3HIGH 0, 17, 4096, .ro, 0, 0, 63⟩,
   ⟨FCE_QDEPTH1_D2LOW 0, 17, 4096, .ro, 0, 0, 63⟩,
   ⟨FCE_QDEPTH1_D2HIGH 0, 17, 4096, .ro, 0, 0, 63⟩,
   ⟨FCE_CPL_FREE 0, 17, 4096, .ro, 0x40, 0, 127⟩,
   ⟨FCE_CNT_CPL 0, 17, 4096, .ro, 0, 0, 4294967295⟩,
   ⟨FCE_CNT_ERR_PFAIL 0, 17, 4096, .ro, 0, 0, 255⟩,
   ⟨FCE_CNT_ERR_EFAIL 0, 17, 4096, .ro, 0, 0, 255⟩,
   ⟨FCE_CNT_ERR_UNCORR 0, 17, 4096, .ro, 0, 0, 255⟩,
   ⟨FCE_CNT_ERR_TIMEOUT 0, 17, 4096, .ro, 0, 0, 255⟩,
   ⟨FCE_CNT_MISC_DOUBLE 0, 17, 4096, .ro, 0, 0, 255⟩,
   ⟨FCE_CNT_MISC_RAS 0, 17, 4096, .ro, 0, 0, 255⟩,
   ⟨FCE_CNT_MISC_ABORTED 0, 17, 4096, .ro, 0, 0, 255⟩,
   ⟨FCE_CNT_MISC_TOOLATE 0, 17, 4096, .ro, 0, 0, 255⟩,
   ⟨FCE_MAXCORR_HIGH 0, 17, 4096, .ro, 0, 0, 255⟩]

/-- The fields of block FCE, part 2. -/
def fceRows2 : List FRow :=
  [⟨FCE_MAXCORR_LAST 0, 17, 4096, .ro, 0, 0, 255⟩,
   ⟨FCE_CHK_STS_COUNT 0, 17, 4096, .ro, 0, 0, 255⟩,
   ⟨FCE_CHK_STS_KIND 0, 17, 4096, .ro, 0, 0, 3⟩,
   ⟨FCE_CHK_STS_SEEN 0, 17, 4096, .ro, 0, 0, 1⟩,
   ⟨FCE_CHK_TAG 0, 17, 4096, .ro, 0, 0, 4294967295⟩,
   ⟨FCE_CHK_EXP 0, 17, 4096, .ro, 0, 0, 4294967295⟩,
   ⟨FCE_CHK_OBS 0, 17, 4096, .ro, 0, 0, 4294967295⟩,
   ⟨FCE_PTR_SEL_DIE 0, 17, 4096, .rw, 0, 0, 3⟩,
   ⟨FCE_PTR_SEL_BLOCK 0, 17, 4096, .rw, 0, 0, 2047⟩,
   ⟨FCE_PTR_MODE 0, 17, 4096, .ro, 0, 0, 1⟩,
   ⟨FCE_PTR_UNKNOWN 0, 17, 4096, .ro, 0, 0, 1⟩,
   ⟨FCE_PTR_PAGE 0, 17, 4096, .ro, 0, 0, 1023⟩,
   ⟨FCE_TRN_RWIN 0, 17, 4096, .ro, 0, 0, 255⟩,
   ⟨FCE_TRN_RCEN 0, 17, 4096, .ro, 0, 0, 255⟩,
   ⟨FCE_TRN_WWIN 0, 17, 4096, .ro, 0, 0, 255⟩,
   ⟨FCE_TRN_WCEN 0, 17, 4096, .ro, 0, 0, 255⟩,
   ⟨FCE_RAS0 0, 17, 4096, .ro, 0, 0, 4294967295⟩,
   ⟨FCE_RAS1 0, 17, 4096, .ro, 0, 0, 4294967295⟩,
   ⟨FCE_RAS2 0, 17, 4096, .ro, 0, 0, 4294967295⟩,
   ⟨FCE_RAS3 0, 17, 4096, .ro, 0, 0, 4294967295⟩,
   ⟨FCE_RAS4 0, 17, 4096, .ro, 0, 0, 4294967295⟩,
   ⟨FCE_RAS5 0, 17, 4096, .ro, 0, 0, 4294967295⟩,
   ⟨FCE_RAS6 0, 17, 4096, .ro, 0, 0, 4294967295⟩,
   ⟨FCE_RAS7 0, 17, 4096, .ro, 0, 0, 4294967295⟩]

/-- The fields of block FCE, part 3. -/
def fceRows3 : List FRow :=
  [⟨FCE_RAS8 0, 17, 4096, .ro, 0, 0, 4294967295⟩,
   ⟨FCE_RAS9 0, 17, 4096, .ro, 0, 0, 4294967295⟩,
   ⟨FCE_RAS10 0, 17, 4096, .ro, 0, 0, 4294967295⟩,
   ⟨FCE_RAS11 0, 17, 4096, .ro, 0, 0, 4294967295⟩,
   ⟨FCE_RAS12 0, 17, 4096, .ro, 0, 0, 4294967295⟩,
   ⟨FCE_RAS13 0, 17, 4096, .ro, 0, 0, 4294967295⟩,
   ⟨FCE_RAS14 0, 17, 4096, .ro, 0, 0, 4294967295⟩,
   ⟨FCE_RAS15 0, 17, 4096, .ro, 0, 0, 4294967295⟩]

/-- The fields of block FCE. -/
def fceRows : List FRow := fceRows0 ++ fceRows1 ++ fceRows2 ++ fceRows3

/-- The fields of block DCT, part 0. -/
def dctRows0 : List FRow :=
  [⟨DCT_CTL, 1, 4, .ro, 0, 0, 4294967295⟩,
   ⟨DCT_STS_OWNER, 1, 4, .ro, 0, 0, 15⟩,
   ⟨DCT_STS_POSTPONED_MAX, 1, 4, .ro, 0, 0, 7⟩,
   ⟨DCT_STS_DOUBLE_REF, 1, 4, .ro, 0, 0, 1⟩,
   ⟨DCT_STS_HOT, 1, 4, .w1c, 0, 0, 1⟩,
   ⟨DCT_STS_THROTTLED, 1, 4, .ro, 0, 0, 1⟩,
   ⟨DCT_STS_HANDBACK_LATE, 1, 4, .w1c, 0, 0, 1⟩,
   ⟨DCT_STS_HANDBACK_EARLY, 1, 4, .w1c, 0, 0, 1⟩,
   ⟨DCT_STS_SPLIT, 1, 4, .w1c, 0, 0, 1⟩,
   ⟨DCT_STS_RETRAINING, 1, 4, .ro, 0, 0, 1⟩,
   ⟨DCT_STS_HARVESTING, 1, 4, .ro, 0, 0, 1⟩,
   ⟨DCT_STS_OWNED, 1, 4, .ro, 0, 0, 1⟩,
   ⟨DCT_HARV_CTL_ENTRY_US, 1, 4, .rw, 0x32, 1, 65535⟩,
   ⟨DCT_HARV_CTL_SCRUB_H, 1, 4, .rw, 0x18, 1, 255⟩,
   ⟨DCT_HARV_CTL_RETRAIN_EN, 1, 4, .rw, 1, 0, 1⟩,
   ⟨DCT_HARV_CTL_SCRUB_EN, 1, 4, .rw, 1, 0, 1⟩,
   ⟨DCT_HARV_CTL_FLUSH_EN, 1, 4, .rw, 1, 0, 1⟩,
   ⟨DCT_HARV_CTL_HREPAIR_EN, 1, 4, .rw, 1, 0, 1⟩,
   ⟨DCT_HARV_CTL_EN, 1, 4, .rw, 1, 0, 1⟩,
   ⟨DCT_LAT_WIN, 1, 4, .rw, 0x14, 1, 255⟩,
   ⟨DCT_LAT_SCRUB, 1, 4, .rw, 0x32, 1, 255⟩,
   ⟨DCT_LAT_HASH, 1, 4, .rw, 0xa, 1, 255⟩,
   ⟨DCT_LAT_HMOVER, 1, 4, .rw, 5, 1, 255⟩,
   ⟨DCT_RD_CTL_THRESH, 1, 4, .rw, 0x40000, 1024, 1048575⟩]

/-- The fields of block DCT, part 1. -/
def dctRows1 : List FRow :=
  [⟨DCT_RD_CTL_WINDOW_MS, 1, 4, .rw, 0x20, 1, 255⟩,
   ⟨DCT_RD_INT_MAX, 1, 4, .ro, 0, 0, 1048575⟩,
   ⟨DCT_RD_INT_PORT, 1, 4, .ro, 0, 0, 31⟩,
   ⟨DCT_RD_HOST_MAX, 1, 4, .ro, 0, 0, 1048575⟩,
   ⟨DCT_RD_HOST_BANK, 1, 4, .ro, 0, 0, 511⟩,
   ⟨DCT_CNT_REF_ISSUED, 1, 4, .ro, 0, 0, 65535⟩,
   ⟨DCT_CNT_REF_SPLITS, 1, 4, .ro, 0, 0, 65535⟩,
   ⟨DCT_CNT_LATE_RT, 1, 4, .ro, 0, 0, 65535⟩,
   ⟨DCT_CNT_LATE_OTHER, 1, 4, .ro, 0, 0, 65535⟩,
   ⟨DCT_MR4_B1, 1, 4, .ro, 0, 0, 255⟩,
   ⟨DCT_MR4_B0, 1, 4, .ro, 0, 0, 255⟩,
   ⟨DCT_MR4_A1, 1, 4, .ro, 0, 0, 255⟩,
   ⟨DCT_MR4_A0, 1, 4, .ro, 0, 0, 255⟩,
   ⟨DCT_HANDBACK_MAX, 1, 4, .ro, 0, 0, 65535⟩,
   ⟨DCT_HANDBACK_LAST, 1, 4, .ro, 0, 0, 65535⟩,
   ⟨DCT_SCRUB_PTR, 1, 4, .ro, 0, 0, 524287⟩,
   ⟨DCT_SCRUB_CNT_PASSES, 1, 4, .ro, 0, 0, 65535⟩,
   ⟨DCT_SCRUB_CNT_BAD, 1, 4, .ro, 0, 0, 65535⟩,
   ⟨DCT_HARV_CNT_PERIODS, 1, 4, .ro, 0, 0, 65535⟩,
   ⟨DCT_HARV_CNT_ENDED, 1, 4, .ro, 0, 0, 65535⟩,
   ⟨DCT_WIN_STS_REFUSED, 1, 4, .ro, 0, 0, 1⟩,
   ⟨DCT_WIN_STS_READY, 1, 4, .ro, 0, 0, 1⟩,
   ⟨DCT_WIN_ADDR_LO, 1, 4, .rw, 0, 0, 67108863⟩,
   ⟨DCT_WIN_ADDR_HI, 1, 4, .rw, 0, 0, 127⟩]

/-- The fields of block DCT, part 2. -/
def dctRows2 : List FRow :=
  [⟨DCT_WIN_CHK 0, 4, 4, .ro, 0, 0, 4294967295⟩,
   ⟨DCT_WIN_DATA 0, 16, 4, .ro, 0, 0, 4294967295⟩]

/-- The fields of block DCT. -/
def dctRows : List FRow := dctRows0 ++ dctRows1 ++ dctRows2

/-- The fields of block CLK, part 0. -/
def clkRows0 : List FRow :=
  [⟨CLK_CTL_H_BW, 1, 4, .rw, 2, 0, 3⟩,
   ⟨CLK_CTL_DISC_END, 1, 4, .wo, 0, 0, 1⟩,
   ⟨CLK_STS_XTAL_FAIL, 1, 4, .ro, 0, 0, 1⟩,
   ⟨CLK_STS_SSC_REFUSED, 1, 4, .w1c, 0, 0, 1⟩,
   ⟨CLK_STS_LOSS, 1, 4, .w1c, 0, 0, 1⟩,
   ⟨CLK_STS_DISCONT, 1, 4, .ro, 0, 0, 1⟩,
   ⟨CLK_STS_SLEWING, 1, 4, .ro, 0, 0, 1⟩,
   ⟨CLK_STS_COAST, 1, 4, .ro, 0, 0, 1⟩,
   ⟨CLK_STS_H_STOPPED, 1, 4, .ro, 0, 0, 1⟩,
   ⟨CLK_STS_F_LOCK, 1, 4, .ro, 0, 0, 1⟩,
   ⟨CLK_STS_D_LOCK, 1, 4, .ro, 0, 0, 1⟩,
   ⟨CLK_STS_D_SRC, 1, 4, .ro, 0, 0, 1⟩,
   ⟨CLK_STS_SEARCHING, 1, 4, .ro, 0, 0, 1⟩,
   ⟨CLK_STS_H_LOCK, 1, 4, .ro, 0, 0, 1⟩,
   ⟨CLK_SSC_F_FREQ, 1, 4, .sp, 0, 0, 3⟩,
   ⟨CLK_SSC_F_MODE, 1, 4, .sp, 0, 0, 3⟩,
   ⟨CLK_SSC_F_DEPTH, 1, 4, .sp, 0, 0, 15⟩,
   ⟨CLK_SSC_D_FREQ, 1, 4, .sp, 0, 0, 3⟩,
   ⟨CLK_SSC_D_MODE, 1, 4, .sp, 0, 0, 3⟩,
   ⟨CLK_SSC_D_DEPTH, 1, 4, .sp, 0, 0, 15⟩,
   ⟨CLK_SP_USER 0, 3, 4, .rw, 0, 0, 8191⟩,
   ⟨CLK_BAND_SEL_LOOP, 1, 4, .rw, 0, 0, 1⟩,
   ⟨CLK_BAND_SEL_SP, 1, 4, .rw, 0, 0, 7⟩,
   ⟨CLK_BAND_DATA, 1, 4, .ro, 0, 0, 4294967295⟩]

/-- The fields of block CLK, part 1. -/
def clkRows1 : List FRow :=
  [⟨CLK_TICK_LO, 1, 4, .ro, 0, 0, 4294967295⟩,
   ⟨CLK_TICK_HI, 1, 4, .ro, 0, 0, 4294967295⟩,
   ⟨CLK_COAST_LOSS, 1, 4, .ro, 0, 0, 65535⟩,
   ⟨CLK_COAST_SIGN, 1, 4, .ro, 0, 0, 1⟩,
   ⟨CLK_COAST_STEP, 1, 4, .ro, 0, 0, 32767⟩,
   ⟨CLK_CNT_LOSSES, 1, 4, .ro, 0, 0, 255⟩,
   ⟨CLK_CNT_RETURNS, 1, 4, .ro, 0, 0, 255⟩,
   ⟨CLK_CNT_DISCONT, 1, 4, .ro, 0, 0, 255⟩,
   ⟨CLK_CNT_SEARCHES, 1, 4, .ro, 0, 0, 255⟩,
   ⟨CLK_CNT_DROP, 1, 4, .ro, 0, 0, 4294967295⟩,
   ⟨CLK_XTAL, 1, 4, .ro, 0, 0, 65535⟩]

/-- The fields of block CLK. -/
def clkRows : List FRow := clkRows0 ++ clkRows1

/-- The fields of block PWR, part 0. -/
def pwrRows0 : List FRow :=
  [⟨PWR_FEED_CTL_GOOD_MS, 1, 4, .sp, 0xa, 0, 255⟩,
   ⟨PWR_FEED_CTL_SAVE_TH, 1, 4, .sp, 0x66, 0, 255⟩,
   ⟨PWR_FEED_STS_B_OV, 1, 4, .ro, 0, 0, 1⟩,
   ⟨PWR_FEED_STS_A_OV, 1, 4, .w1c, 0, 0, 1⟩,
   ⟨PWR_FEED_STS_B_LOW, 1, 4, .ro, 0, 0, 1⟩,
   ⟨PWR_FEED_STS_A_GOOD, 1, 4, .ro, 0, 0, 1⟩,
   ⟨PWR_FEED_STS_A_BELOW, 1, 4, .ro, 0, 0, 1⟩,
   ⟨PWR_FEED_STS_GATE_B, 1, 4, .ro, 0, 0, 1⟩,
   ⟨PWR_FEED_STS_GATE_A, 1, 4, .ro, 0, 0, 1⟩,
   ⟨PWR_FEED_STS_SWITCHED, 1, 4, .w1c, 0, 0, 1⟩,
   ⟨PWR_FEED_V_B, 1, 4, .ro, 0, 0, 65535⟩,
   ⟨PWR_FEED_V_A, 1, 4, .ro, 0, 0, 65535⟩,
   ⟨PWR_CTL_TEL_MS, 1, 4, .rw, 0xa, 1, 255⟩,
   ⟨PWR_RAIL_STS, 1, 4, .ro, 0, 0, 65535⟩,
   ⟨PWR_FSW_STS, 1, 4, .ro, 0, 0, 131071⟩,
   ⟨PWR_RAIL_FAIL, 1, 4, .w1c, 0, 0, 65535⟩,
   ⟨PWR_FSW_FAIL, 1, 4, .w1c, 0, 0, 131071⟩,
   ⟨PWR_SEQ_CTL_DWELL_US, 1, 4, .sp, 0xc8, 0, 65535⟩,
   ⟨PWR_SEQ_CTL_RISE_MS, 1, 4, .sp, 5, 0, 255⟩,
   ⟨PWR_SEQ_STS_STATE, 1, 4, .ro, 1, 0, 15⟩,
   ⟨PWR_SEQ_STS_STAGE, 1, 4, .ro, 0, 0, 15⟩,
   ⟨PWR_SEQ_STS_STUCK, 1, 4, .ro, 0, 0, 255⟩,
   ⟨PWR_SEQ_STS_CHATTER, 1, 4, .ro, 0, 0, 255⟩,
   ⟨PWR_SEQ_STS_GLITCH, 1, 4, .ro, 0, 0, 31⟩]

/-- The fields of block PWR, part 1. -/
def pwrRows1 : List FRow :=
  [⟨PWR_SEQ_STS_BACKOFF, 1, 4, .ro, 0, 0, 7⟩,
   ⟨PWR_RSTO_AUX_MS, 1, 4, .rw, 0x14, 1, 255⟩,
   ⟨PWR_RSTO_PACK_MS, 1, 4, .rw, 0x14, 1, 255⟩,
   ⟨PWR_RSTO_PMIC_MS, 1, 4, .rw, 0x14, 1, 255⟩,
   ⟨PWR_RSTO_AUX_LOW, 1, 4, .ro, 1, 0, 1⟩,
   ⟨PWR_RSTO_PACK_LOW, 1, 4, .ro, 1, 0, 1⟩,
   ⟨PWR_RSTO_PMIC_LOW, 1, 4, .ro, 1, 0, 1⟩,
   ⟨PWR_PACK_CTL_ADDR, 1, 4, .sp, 0xb, 0, 255⟩,
   ⟨PWR_PACK_CTL_VT_S, 1, 4, .rw, 0xa, 1, 255⟩,
   ⟨PWR_PACK_CTL_T_MS, 1, 4, .sp, 0x7d0, 0, 65535⟩,
   ⟨PWR_PACK_STS_FAIL, 1, 4, .ro, 0, 0, 255⟩,
   ⟨PWR_PACK_STS_CHARGED, 1, 4, .ro, 0, 0, 1⟩,
   ⟨PWR_PACK_STS_TESTING, 1, 4, .ro, 0, 0, 1⟩,
   ⟨PWR_PACK_STS_C_VALID, 1, 4, .ro, 0, 0, 1⟩,
   ⟨PWR_PACK_STS_ZERO_E, 1, 4, .ro, 1, 0, 1⟩,
   ⟨PWR_PACK_STS_TEST_FAIL, 1, 4, .w1c, 0, 0, 1⟩,
   ⟨PWR_PACK_STS_PACK_FAULT, 1, 4, .ro, 0, 0, 1⟩,
   ⟨PWR_PACK_STS_PRESENT, 1, 4, .ro, 0, 0, 1⟩,
   ⟨PWR_PACK_C, 1, 4, .ro, 0, 0, 4294967295⟩,
   ⟨PWR_PACK_ESR, 1, 4, .ro, 0, 0, 4294967295⟩,
   ⟨PWR_PACK_E, 1, 4, .ro, 0, 0, 4294967295⟩,
   ⟨PWR_PACK_V0_FLOOR, 1, 4, .ro, 0, 0, 65535⟩,
   ⟨PWR_PACK_V0_V0, 1, 4, .ro, 0, 0, 65535⟩,
   ⟨PWR_PACK_AGE, 1, 4, .ro, 0, 0, 4294967295⟩]

/-- The fields of block PWR, part 2. -/
def pwrRows2 : List FRow :=
  [⟨PWR_PACK_IT_TEMP, 1, 4, .ro, 0, 0, 65535⟩,
   ⟨PWR_PACK_IT_MA, 1, 4, .ro, 0, 0, 65535⟩,
   ⟨PWR_TEL_SEL, 1, 4, .rw, 0, 0, 15⟩,
   ⟨PWR_TEL_DATA_MV, 1, 4, .ro, 0, 0, 65535⟩,
   ⟨PWR_TEL_DATA_MA, 1, 4, .ro, 0, 0, 65535⟩,
   ⟨PWR_MB_STS_PRESENT, 1, 4, .ro, 0, 0, 63⟩,
   ⟨PWR_MB_STS_FAULTED, 1, 4, .ro, 0, 0, 63⟩,
   ⟨PWR_MB_STS_RETRIES, 1, 4, .ro, 0, 0, 65535⟩,
   ⟨PWR_RAIL_CFG_ACT 0, 14, 4, .sp, 2, 0, 3⟩,
   ⟨PWR_RAIL_CFG_ACTX 0, 2, 4, .sp, 0, 0, 3⟩,
   ⟨PWR_RAIL_CFG_GROUP 0, 16, 4, .sp, 0, 0, 7⟩,
   ⟨PWR_RAIL_CFG_MB 0, 16, 4, .ro, 0, 0, 7⟩,
   ⟨PWR_RAIL_CFG_CH 0, 16, 4, .ro, 0, 0, 3⟩,
   ⟨PWR_RAIL_CFG_MULTI 0, 16, 4, .ro, 0, 0, 1⟩,
   ⟨PWR_RAIL_CFG_DISCH_MS 0, 16, 4, .sp, 0x32, 0, 511⟩,
   ⟨PWR_RAIL_CFG_SET_MV 0, 16, 4, .ro, 0, 0, 4095⟩,
   ⟨PWR_FSW_CFG_ACT, 1, 4, .sp, 1, 0, 3⟩,
   ⟨PWR_FSW_CFG_DISCH_MS, 1, 4, .sp, 0x32, 0, 511⟩]

/-- The fields of block PWR. -/
def pwrRows : List FRow := pwrRows0 ++ pwrRows1 ++ pwrRows2

/-- The fields of block DOM. -/
def domRows : List FRow :=
  [⟨DOM_ON 0, 5, 4, .ro, 0, 0, 4294967295⟩,
   ⟨DOM_FLT 0, 5, 4, .w1c, 0, 0, 4294967295⟩]

/-- The fields of block FLT, part 0. -/
def fltRows0 : List FRow :=
  [⟨FLT_CTL_AUTOCLR, 1, 4, .rw, 1, 0, 1⟩,
   ⟨FLT_STS_OPEN, 1, 4, .ro, 0, 0, 511⟩,
   ⟨FLT_STS_BYPASS, 1, 4, .ro, 0, 0, 1⟩,
   ⟨FLT_STS_OVERFLOW, 1, 4, .w1c, 0, 0, 1⟩,
   ⟨FLT_STS_DEGRADED, 1, 4, .ro, 0, 0, 1⟩,
   ⟨FLT_STS_SHADOW, 1, 4, .ro, 0, 0, 1⟩,
   ⟨FLT_STS_TOP_SEV, 1, 4, .ro, 0, 0, 3⟩,
   ⟨FLT_STS_ANY, 1, 4, .ro, 0, 0, 1⟩,
   ⟨FLT_PIN_LEVEL, 1, 4, .ro, 1, 0, 1⟩,
   ⟨FLT_PIN_PULSING, 1, 4, .ro, 0, 0, 1⟩,
   ⟨FLT_PIN_PIN_SEV, 1, 4, .rw, 2, 0, 3⟩,
   ⟨FLT_PIN_MODE, 1, 4, .rw, 1, 0, 3⟩,
   ⟨FLT_INJ_REACT_EN, 1, 4, .sp, 0, 0, 1⟩,
   ⟨FLT_INJ_EN, 1, 4, .sp, 0, 0, 1⟩,
   ⟨FLT_NEXT_INC, 1, 4, .ro, 1, 0, 4294967295⟩,
   ⟨FLT_CNT_OPENED, 1, 4, .ro, 0, 0, 65535⟩,
   ⟨FLT_CNT_MERGED, 1, 4, .ro, 0, 0, 65535⟩,
   ⟨FLT_INC_SEL, 1, 4, .rw, 0, 0, 63⟩,
   ⟨FLT_INC_NUM, 1, 4, .ro, 0, 0, 4294967295⟩,
   ⟨FLT_INC_STS_STATE, 1, 4, .ro, 0, 0, 7⟩,
   ⟨FLT_INC_STS_INJECTED, 1, 4, .ro, 0, 0, 1⟩,
   ⟨FLT_INC_STS_OVERTAKEN, 1, 4, .ro, 0, 0, 1⟩,
   ⟨FLT_INC_STS_SUBST, 1, 4, .ro, 0, 0, 1⟩,
   ⟨FLT_INC_STS_SEV, 1, 4, .ro, 0, 0, 3⟩]

/-- The fields of block FLT, part 1. -/
def fltRows1 : List FRow :=
  [⟨FLT_INC_STS_REACT, 1, 4, .ro, 0, 0, 7⟩,
   ⟨FLT_INC_STS_CONS, 1, 4, .ro, 0, 0, 65535⟩,
   ⟨FLT_INC_MSG, 1, 4, .ro, 0, 0, 4294967295⟩,
   ⟨FLT_INC_FOLLOW, 1, 4, .ro, 0, 0, 4294967295⟩,
   ⟨FLT_INC_LINK, 1, 4, .ro, 0, 0, 4294967295⟩,
   ⟨FLT_INC_SEQ_LO, 1, 4, .ro, 0, 0, 4294967295⟩,
   ⟨FLT_INC_SEQ_HI, 1, 4, .ro, 0, 0, 65535⟩,
   ⟨FLT_CONS_SEL, 1, 4, .rw, 0, 0, 15⟩,
   ⟨FLT_CONS_MSG, 1, 4, .ro, 0, 0, 4294967295⟩,
   ⟨FLT_CONS_FOLLOW, 1, 4, .ro, 0, 0, 4294967295⟩,
   ⟨FLT_CONS_TAG, 1, 4, .ro, 0, 0, 1⟩,
   ⟨FLT_REACT 0, 1, 4, .sp, 0xff0000, 0, 4294967295⟩,
   ⟨FLT_REACT 1, 1, 4, .sp, 0xf1fff, 0, 4294967295⟩,
   ⟨FLT_REACT 2, 1, 4, .sp, 2, 0, 4294967295⟩,
   ⟨FLT_REACT 3, 1, 4, .sp, 0x20000000, 0, 4294967295⟩,
   ⟨FLT_REACT 4, 1, 4, .sp, 0x20, 0, 4294967295⟩,
   ⟨FLT_REACT 5, 1, 4, .sp, 0xff0, 0, 4294967295⟩,
   ⟨FLT_REACT 6, 1, 4, .sp, 0, 0, 4294967295⟩,
   ⟨FLT_REACT 7, 1, 4, .sp, 0, 0, 4294967295⟩,
   ⟨FLT_PAIR 0, 5, 4, .w1c, 0, 0, 4294967295⟩]

/-- The fields of block FLT. -/
def fltRows : List FRow := fltRows0 ++ fltRows1

/-- The fields of block CORE. -/
def coreRows : List FRow :=
  [⟨CORE_STS_JNL_LAG, 1, 4, .ro, 0, 0, 65535⟩,
   ⟨CORE_STS_HOLDS_KITE, 1, 4, .ro, 0, 0, 1⟩,
   ⟨CORE_STS_SELF, 1, 4, .ro, 0, 0, 3⟩,
   ⟨CORE_HB, 1, 4, .wo, 0, 0, 4294967295⟩,
   ⟨CORE_KITE_REQUEST, 1, 4, .wo, 0, 0, 1⟩,
   ⟨CORE_KITE_RENEW, 1, 4, .wo, 0, 0, 1⟩,
   ⟨CORE_CNT_SWITCH, 1, 4, .ro, 0, 0, 65535⟩,
   ⟨CORE_CNT_LINK, 1, 4, .ro, 0, 0, 65535⟩]

/-- The fields of block SPT, part 0. -/
def sptRows0 : List FRow :=
  [⟨SPT_KITE_HOLDER, 1, 4, .ro, 0, 0, 3⟩,
   ⟨SPT_KITE_COLD_B, 1, 4, .ro, 0, 0, 1⟩,
   ⟨SPT_KITE_COLD_A, 1, 4, .ro, 0, 0, 1⟩,
   ⟨SPT_KITE_LINK_DOWN, 1, 4, .ro, 0, 0, 1⟩,
   ⟨SPT_KITE_GAP, 1, 4, .ro, 0, 0, 1⟩,
   ⟨SPT_KITE_GRANTS, 1, 4, .ro, 0, 0, 255⟩,
   ⟨SPT_KITE_LEASE_LEFT, 1, 4, .ro, 0, 0, 255⟩,
   ⟨SPT_HB_B_ALIVE, 1, 4, .ro, 0, 0, 1⟩,
   ⟨SPT_HB_A_ALIVE, 1, 4, .ro, 0, 0, 1⟩,
   ⟨SPT_HB_B_AGE, 1, 4, .ro, 0xff, 0, 255⟩,
   ⟨SPT_HB_A_AGE, 1, 4, .ro, 0xff, 0, 255⟩,
   ⟨SPT_HB_B_STATE, 1, 4, .ro, 0, 0, 15⟩,
   ⟨SPT_HB_A_STATE, 1, 4, .ro, 0, 0, 15⟩,
   ⟨SPT_STS_SEQ, 1, 4, .ro, 1, 0, 15⟩,
   ⟨SPT_STS_LOG_MAIN_BAD, 1, 4, .ro, 0, 0, 1⟩,
   ⟨SPT_STS_SP_LOADED, 1, 4, .ro, 0, 0, 1⟩,
   ⟨SPT_STS_SAVE_DECIDED, 1, 4, .ro, 0, 0, 1⟩,
   ⟨SPT_STS_CORNER_OK, 1, 4, .ro, 0, 0, 1⟩,
   ⟨SPT_STS_PTAB_BURNED, 1, 4, .ro, 0, 0, 1⟩,
   ⟨SPT_STS_PTAB_OK, 1, 4, .ro, 0, 0, 1⟩,
   ⟨SPT_TRIG_DECISIONS, 1, 4, .ro, 0, 0, 255⟩,
   ⟨SPT_TRIG_FIRST, 1, 4, .ro, 0, 0, 15⟩,
   ⟨SPT_TRIG_IGNORED, 1, 4, .w1c, 0, 0, 1⟩,
   ⟨SPT_TRIG_SEEN, 1, 4, .ro, 0, 0, 63⟩]

/-- The fields of block SPT, part 1. -/
def sptRows1 : List FRow :=
  [⟨SPT_SELF_RUNS, 1, 4, .ro, 0, 0, 65535⟩,
   ⟨SPT_SELF_FAILS, 1, 4, .ro, 0, 0, 255⟩,
   ⟨SPT_SELF_LAST, 1, 4, .ro, 0, 0, 7⟩,
   ⟨SPT_PTAB_CTL_BURNED, 1, 4, .ro, 0, 0, 1⟩,
   ⟨SPT_PTAB_CTL_BURNING, 1, 4, .ro, 0, 0, 1⟩,
   ⟨SPT_PTAB_CTL_REJECTED, 1, 4, .ro, 0, 0, 1⟩,
   ⟨SPT_PTAB_CTL_BURN, 1, 4, .wo, 0, 0, 65535⟩,
   ⟨SPT_CFGKEY 0, 8, 4, .ws, 0, 0, 4294967295⟩,
   ⟨SPT_LASTLOG 0, 16, 4, .sp, 0, 0, 4294967295⟩,
   ⟨SPT_LASTLOG_STS_COUNT, 1, 4, .ro, 0, 0, 65535⟩,
   ⟨SPT_LASTLOG_STS_NEXT, 1, 4, .ro, 0, 0, 15⟩,
   ⟨SPT_PTAB 0, 32, 4, .ws, 0, 0, 4294967295⟩,
   ⟨SPT_CORNER 0, 256, 4, .ro, 0, 0, 4294967295⟩]

/-- The fields of block SPT. -/
def sptRows : List FRow := sptRows0 ++ sptRows1

/-- The fields of block EVR, part 0. -/
def evrRows0 : List FRow :=
  [⟨EVR_CTL_SNAP_EN, 1, 4, .rw, 1, 0, 1⟩,
   ⟨EVR_CTL_MIRROR_SEV, 1, 4, .rw, 2, 0, 3⟩,
   ⟨EVR_STS_HELD, 1, 4, .ro, 0, 0, 8191⟩,
   ⟨EVR_STS_FENCED, 1, 4, .ro, 0, 0, 1⟩,
   ⟨EVR_STS_SPARE_IN_USE, 1, 4, .ro, 0, 0, 1⟩,
   ⟨EVR_STS_WALL_SET, 1, 4, .ro, 0, 0, 1⟩,
   ⟨EVR_STS_EPOCH_SET, 1, 4, .ro, 0, 0, 1⟩,
   ⟨EVR_STS_SEQ_READY, 1, 4, .ro, 0, 0, 1⟩,
   ⟨EVR_DROP_CRITICAL, 1, 4, .ro, 0, 0, 255⟩,
   ⟨EVR_DROP_FAULT, 1, 4, .ro, 0, 0, 255⟩,
   ⟨EVR_DROP_NOTE, 1, 4, .ro, 0, 0, 255⟩,
   ⟨EVR_DROP_TRACE, 1, 4, .ro, 0, 0, 255⟩,
   ⟨EVR_CHAFF, 1, 4, .ro, 0, 0, 4294967295⟩,
   ⟨EVR_FENCED_CNT, 1, 4, .ro, 0, 0, 4294967295⟩,
   ⟨EVR_SEQ_LO, 1, 4, .ro, 0, 0, 4294967295⟩,
   ⟨EVR_SEQ_HI, 1, 4, .ro, 0, 0, 65535⟩,
   ⟨EVR_EPOCH, 1, 4, .ro, 0, 0, 4294967295⟩,
   ⟨EVR_WALL_LO, 1, 4, .ro, 0, 0, 4294967295⟩,
   ⟨EVR_WALL_HI, 1, 4, .ro, 0, 0, 4294967295⟩,
   ⟨EVR_OLDEST_LO, 1, 4, .ro, 0, 0, 4294967295⟩,
   ⟨EVR_OLDEST_HI, 1, 4, .ro, 0, 0, 65535⟩,
   ⟨EVR_MIRROR_DONE, 1, 4, .ro, 0, 0, 65535⟩,
   ⟨EVR_MIRROR_NOT, 1, 4, .ro, 0, 0, 65535⟩,
   ⟨EVR_SNAP_MISS, 1, 4, .ro, 0, 0, 4294967295⟩]

/-- The fields of block EVR, part 1. -/
def evrRows1 : List FRow :=
  [⟨EVR_SNAP_CTL_EN 0, 64, 4, .rw, 0, 0, 1⟩,
   ⟨EVR_SNAP_CTL_ANY_SRC 0, 64, 4, .rw, 0, 0, 1⟩,
   ⟨EVR_SNAP_CTL_SET 0, 64, 4, .rw, 0, 0, 7⟩,
   ⟨EVR_SNAP_CTL_MASK 0, 64, 4, .rw, 0, 0, 255⟩,
   ⟨EVR_SNAP_CTL_SOURCE 0, 64, 4, .rw, 0, 0, 1023⟩,
   ⟨EVR_SNAP_CTL_CODE 0, 64, 4, .rw, 0, 0, 255⟩,
   ⟨EVR_SNAP_ADDR 0, 64, 4, .rw, 0, 0, 4294967295⟩]

/-- The fields of block EVR. -/
def evrRows : List FRow := evrRows0 ++ evrRows1

/-- The rows of the block that holds an address (Table 16-1). -/
def blockRows (a : Nat) : List FRow :=
  match a / 0x1000 with
  | 0x0 => idRows
  | 0x1 => cfgRows
  | 0x2 => hbpRows
  | 0x3 => trnRows
  | 0x4 => clnRows
  | 0x5 => pktRows
  | 0x6 => perRows
  | 0x7 => glnRows
  | 0x8 => seaRows
  | 0x9 => savRows
  | 0xA => plnRows
  | 0xB => floRows
  | 0xD => dctRows
  | 0xE => clkRows
  | 0xF => pwrRows
  | 0x21 => fltRows
  | 0x22 => coreRows
  | 0x23 => evrRows
  | 0x24 => sptRows
  | 0x25 => domRows
  | b => if 0x10 ≤ b ∧ b ≤ 0x20 then fceRows else []

/-- Whether a row has a field in the register at `a`. -/
def frowHas (r : FRow) (a : Nat) : Bool :=
  decide (r.fld.addr ≤ a) && decide ((a - r.fld.addr) % r.stride = 0) && decide ((a - r.fld.addr) / r.stride < r.cnt)

/-- The rows of the register at an address; none where no register occupies it. -/
def rowsAt (a : Nat) : List FRow := (blockRows a).filter (fun r => frowHas r a)

/-- The reset value of the register at an address (the Reset columns; R460). -/
def resetWord (a : Nat) : Word :=
  (rowsAt a).foldl (fun acc r => acc ||| (BitVec.ofNat 32 r.rst <<< r.fld.lo)) 0

/-- Whether an address is inside a block or the ring-state table (R458). -/
def insideBlock (a : Nat) : Bool :=
  decide (a < 0xC000) || (decide (0xD000 ≤ a) && decide (a < 0x26000)) || (decide (0x40000 ≤ a) && decide (a < 0x80000))

end Sys2Proof.Machine
end

