-- ==== Sys2Proof/Machine/State.lean ====
section
/-! DEFINITION. The state of the Yogal as plain data, what can stop a step, and the state after reset. -/

namespace Sys2Proof.Machine

/-- No rule of the spec stops the part: the type has one constructor so that it is inhabited, and nothing raises it. Safe. -/
inductive Fault where
  /-- raised by no meaning; safe -/
  | none
deriving DecidableEq, Repr

/-- Why a command has no meaning here. -/
inductive Refusal where
  /-- raised by the arm of a command that the model does not cover; safe: the run stops -/
  | notModelled (mnemonic : String)
deriving DecidableEq, Repr

/-- The modes (Table 1-4). -/
inductive Mode where
  | off | powerUp | attach | service | lull | save | shutDown | rebound | keeper
deriving DecidableEq, Repr

/-- The code of a mode (Table 1-4); off has none and is 0, as CFG_CAUSE.OFF_MODE and CFG_MODE.LAST_MODE give it. -/
def modeCode : Mode → Nat
  | .off => 0 | .powerUp => 1 | .attach => 2 | .service => 3 | .lull => 4
  | .save => 5 | .shutDown => 6 | .rebound => 7 | .keeper => 8

/-- The phases of attach (Table 1-5). -/
inductive Phase where
  | none | decide | train | learn | restore
deriving DecidableEq, Repr

/-- The code of CFG_MODE.ATTACH_PHASE. -/
def phaseCode : Phase → Nat
  | .none => 0 | .decide => 1 | .train => 2 | .learn => 3 | .restore => 4

/-- Where keeper mode was entered from, which R25, R435 and R436 turn on. `rebound` lasts until that rebound's HANDOVER. -/
inductive KeeperFrom where
  | none | early | rebound | service
deriving DecidableEq, Repr

/-- The mode and what the mode rules of R21 to R36 remember. -/
structure Sys where
  mode : Mode
  phase : Phase
  keeperFrom : KeeperFrom
  /-- level of H_RESET_n: true while it is asserted -/
  hReset : Bool
  /-- R25: in keeper mode after an H_RESET_n, until the first command other than a control-word write -/
  keeperTraining : Bool
  /-- an attach attempt is open: the cores have been released and neither service nor a failure has been reached (R252) -/
  attempt : Bool
deriving DecidableEq, Repr

/-- An event record held in the log (Table 15-1); `seq` is none while its number is pending (R439). -/
structure LogRec where
  ev : EvRecord
  reloaded : Bool
  mirrored : Bool
  seq : Option Nat
  epoch : Nat
  horizon : Nat
  wall : Nat
  /-- its CRC fails: chaff (R446) -/
  chaff : Bool
deriving DecidableEq, Repr

/-- The event recorder (R438 to R455). -/
structure Evr where
  /-- records in transit from their sources -/
  inflight : List EvRecord
  /-- the log, in arrival order, oldest first -/
  log : List LogRec
  /-- the base of the epoch, once fixed (R439) -/
  base : Option Nat
  /-- the next sequence number -/
  nextSeq : Nat
  /-- records just held, which the snapshot triggers have not yet seen (R448) -/
  fresh : List LogRec
  /-- a SEQ_MARK has been issued and is not yet confirmed on flash (R440) -/
  markOpen : Bool
  /-- wall time: the WALL_US and the tick of the most recent TIME_SET (R441) -/
  wall : Option (Nat × Nat)
  /-- the bank of the log region that failed (R454), for LOG_RELOCATED -/
  failedBank : Nat
  /-- both regions have failed (R454) -/
  bothFailed : Bool
deriving DecidableEq, Repr

/-- The states of an incident other than FREE (Table 14-4). -/
inductive IncState where
  | acting | held | gone
deriving DecidableEq, Repr

/-- The reactions of Table 14-5. -/
inductive Reaction where
  | log | fence | fenceDegraded | keeper | saveNow
deriving DecidableEq, Repr

/-- An incident (R409, Tables 14-4 and 14-13). -/
structure Incident where
  num : Nat
  state : IncState
  first : FaultMsg
  seq : Nat
  tick : Nat
  cons : List FaultMsg
  consCount : Nat
  link : Nat
  subst : Bool
  overtaken : Bool
  react : Reaction
  /-- its reaction was LOG, which `react` also shows for a fixed reaction that has no code of its own (R411) -/
  logOnly : Bool
  /-- the cause that no register shows, such as a unit that has not reported ready, has been reported gone -/
  causeGone : Bool
deriving DecidableEq, Repr

/-- The units that have a row in Table 14-6. -/
inductive UnitRow where
  | channel (n : Nat)
  | core (c : CoreId)
  | packet
  | learner
  | training
  | glean
  | seal
  | hmover
  | scrubber
  | recorder
  | sideband
  | rail (r : Nat)
deriving DecidableEq, Repr

/-- An open shadow (R414, R422). `rails` are the rails and load switches a RETRY or GROUP turns off. -/
structure Shadow where
  owner : Nat
  unit : UnitRow
  rails : List Nat
  /-- a return shadow, held under a cleared incident's number (R422) -/
  ret : Bool
deriving DecidableEq, Repr

/-- The fault collector (R400 to R425). -/
structure Flt where
  /-- messages in transit to the collector, each with OPTIONS.SUPPRESS of FAULT_INJECT -/
  inflight : List (FaultMsg × Bool)
  /-- the 64 slots; an unlisted slot is FREE -/
  slots : SMap Incident
  /-- open shadows, oldest first -/
  shadows : List Shadow
  /-- units out under FENCE or FENCE_DEGRADED, with the incident that holds them and whether they wait for its clear (FENCE_DEGRADED) -/
  fenced : List (UnitRow × Nat × Bool)
  /-- domains whose error pair reads error (R406) -/
  errLines : List Nat
  /-- domains whose error pair shows equal levels (R406) -/
  pairLines : List Nat
  /-- domains whose supply or isolation check fails (R398) -/
  domBad : List Nat
  /-- the safety partition's self-check fails (R403) -/
  selfBad : Bool
deriving DecidableEq, Repr

/-- The kite arbiter and the control cores (R426 to R432). -/
structure Kite where
  /-- the core whose REQUEST the safety partition holds (R428) -/
  request : Option CoreId
  /-- the lease has been lost by the holder's death, and expires by its own timer -/
  holderDead : Bool
  /-- the control core memories (Table 1-3): the firmware that each core has loaded, by core, 0 for A; unlisted: none -/
  mem : SMap (List Byte)
  /-- the kite journal (Table 1-9): the changes of firmware state that the standby has not applied, each by the sequence and the opcode of the packet that made it -/
  journal : List (Nat × Nat)
deriving DecidableEq, Repr

/-- A capacitance test in progress (R392). -/
inductive PackTestKind where
  | boot | periodic | catchUp | packet
deriving DecidableEq, Repr

/-- The step a capacitance test has reached (Table 13-10). -/
inductive PackStep where
  | settling
  | loaded (v0 : Nat)
  | v1 (v0 v1 : Nat)
deriving DecidableEq, Repr

/-- The power supervisor (R367 to R398). Rails 0 to 15 are the PMIC rails and 16 to 32 the load switches FSW0 to FSW16. -/
structure Pwr where
  vaon : Bool
  /-- the start timer has expired (R368) -/
  startExpired : Bool
  /-- k of R368 -/
  backoff : Nat
  /-- enables: EN[15:0] in bits 15..0 and FSW_EN[16:0] in bits 32..16 -/
  en : BitVec 33
  /-- rails of the present stage still to be judged -/
  waiting : BitVec 33
  /-- rails that failed to come up and have not been tried again -/
  failed : BitVec 33
  /-- the first stage that shut-down has turned off; 8: none -/
  lowest : Nat
  /-- the DRAM point of the present shut-down is passed (R385) -/
  dramPoint : Bool
  /-- CFG_CAUSE.OFF_CAUSE to be written when off is entered -/
  offCause : Nat
  /-- the shut-down follows a rail that failed to come up (R381) -/
  railFailed : Bool
  /-- tries left under RETRY, by rail (Table 13-7) -/
  retries : SMap Nat
  /-- persistence rails to be turned off when the image anchors (GROUP, Table 13-7) -/
  offAtAnchor : BitVec 33
  /-- rails shut down by an action and not under sequencing -/
  shutByAction : BitVec 33
  /-- channels armed by ARM, by PMIC rail (Table 13-5) -/
  armed : BitVec 16
  /-- latest telemetry by PMIC rail: millivolts and milliamperes -/
  telem : SMap (Nat × Nat)
  /-- feed A is above 13.6 V (Table 14-3, FEED_A_OV) -/
  aHigh : Bool
  /-- feed B over-voltage, or back in range for less than 1 s (Table 13-1) -/
  bUnusable : Bool
  /-- the capacitance test in progress -/
  test : Option (PackTestKind × PackStep)
  /-- the boot test of this power-up has ended (R379) -/
  bootDone : Bool
  /-- the boot test ended LOW and no catch-up test has started (R392) -/
  catchUp : Bool
  /-- a periodic test that fell due in a mode that cannot run it, with what PK_STATUS will answer when it starts (R392) -/
  periodicDue : Option (Option PackStatus)
  /-- a capacitance test has succeeded since cold power-up (R394) -/
  capOk : Bool
  /-- the tick of the last capacitance test that succeeded (PWR_PACK_AGE) -/
  capTick : Nat
  /-- the pack's charger is commanded on (PK_CHG_EN) -/
  charger : Bool
  /-- the pack's test load is commanded on (PK_LOAD) -/
  load : Bool
  /-- what the marionettes will answer at step 5 of Table 13-6: those whose transfers fail, and the retries; none once the step is done -/
  mbEnv : Option (BitVec 6 × BitVec 16)
  /-- what SET_V and SET_LIM have set, by PMIC rail: the rail's power-table word (Tables 13-5, 16-9) -/
  sent : SMap Nat
  /-- MB_SYNC strobes since power-up (R376) -/
  syncs : Nat
deriving DecidableEq, Repr

/-- The fused and one-time stores of the safety partition (R235, R468, R470, R471). -/
structure Nv where
  /-- the power table's 32 words -/
  ptab : List Word
  /-- the 8 key-digest words -/
  cfgkey : List Word
  /-- the fused corner table, 256 entries (R235, R472) -/
  corner : SMap Word
  /-- words of the table and the key digest written in this blank hold (R470): bits 31..0 and 39..32 -/
  wsWritten : BitVec 40
  /-- a burn and a loss of VAON have collided (R470): the one-time store holds a partial table that is not blank and fails its CRC -/
  torn : Bool
deriving DecidableEq, Repr

/-- The host training modes of Table 3-3, by control-word index 0x10 to 0x15. -/
inductive TrainMode where
  | ca | cs | readEnable | writeLevel | readDq | writeDq
deriving DecidableEq, Repr

/-- One observed write in a tap's FIFO: its module address, its order stamp, and its burst. -/
structure TapEntry where
  ma : Nat
  stamp : Nat
  data : LineData
  chk : CheckBytes
deriving DecidableEq, Repr

/-- The host buffer path (R38 to R73). -/
structure Hbp where
  /-- the order stamp of the most recent forwarded command (R39) -/
  stamp : Nat
  /-- open rows, by bank entry in the order of R42 -/
  rows : SMap Nat
  /-- CA_LAT and CMD_2N in force (R41) -/
  caLat : Nat
  cmd2n : Bool
  /-- a pulse of ALERT_n is running (R47) -/
  alertPulse : Bool
  /-- the WRITE PATTERN nibble held per package rank and nibble lane: rank × 20 + lane (R59) -/
  pattern : SMap Nat
  /-- ranks in self-refresh: sub-channel × 2 + rank -/
  selfRef : BitVec 4
  /-- the dirty-marker FIFO: granule index and order stamp (R58) -/
  dirtyQ : List (Nat × Nat)
  /-- the packet capture FIFO (R60) -/
  packetQ : List TapEntry
  /-- a loopback run is in progress, on the host side and on the DRAM side (R67) -/
  loopHost : Bool
  loopDram : Bool
  /-- what the lanes last drove to the host for a READ or an MRR: data and check bytes; none for no data -/
  hostOut : Option (LineData × CheckBytes)
  /-- the level that CA, CS and write-leveling training last returned on ALERT_n or the lanes (R82) -/
  trainOut : Nat
  /-- the host training mode that is active (R82) -/
  train : Option TrainMode
  /-- the sub-channel that a host training mode was entered on -/
  trainSub : Sub
  /-- the running window of a lane's health events: the tick it began at and the events counted in it (R66) -/
  laneWin : SMap (Nat × Nat)
deriving DecidableEq, Repr

/-- The module's DRAM: the lines by MA[38:6], each with its check bytes; an unlisted line reads as zeros (log entry 12). -/
structure Dram where
  lines : SMap (LineData × CheckBytes)
deriving DecidableEq, Repr

/-- Interface training (R75 to R85). -/
structure Trn where
  /-- the training results by TRN_RES_SEL (Table 3-9) -/
  results : SMap Word
  /-- an accepted SP_GO waits for PLL_H (R78) -/
  hop : Bool
  /-- a TRN_HOST_EARLY record has been made in this run (R81) -/
  earlyNoted : Bool
  /-- mode 0x15: write bursts used for centring -/
  centred : Nat
  /-- mode 0x15: a compared burst matched in every bit (R83) -/
  fullMatch : Bool
  /-- mode 0x15, by sub-channel: bits that matched in every compared beat since the previous READ; unlisted: all -/
  matched : SMap (BitVec 40)
  /-- by sub-channel: beats of the PRBS15 sequence of its lanes sent or expected since the mode was entered (modes 0x14 and 0x15) -/
  beats : SMap Nat
  /-- mode 0x11: the chip select that bit [1] selected -/
  csSel : Nat
  /-- the set point that a lull retrain trains (R85) -/
  retrain : Option Nat
  /-- the package rank that a DRAM-side run trains (R79) -/
  rank : Nat
  /-- groups of lines that training patterns have covered -/
  groups : Nat
  /-- the retrain area (R144, R336, Table 1-9): the lines under the pattern, with their check bytes and addresses, which wait to be written back -/
  area : SMap (LineData × CheckBytes)
  /-- the DRAM-side run is a check pass: steps 1 and 2 and then step 9 for each rank, in place of steps 3 to 8 (R79) -/
  check : Bool
  /-- what the centring of mode 0x15 has found, until leaving the mode by a control word judges it (R82, R83) -/
  hostWork : SMap Word
  /-- the set point whose mode registers the DRAM holds (Table 3-2 step 2, R338, Table 11-6 step 6); none before the first are applied -/
  mrSp : Option Nat
deriving DecidableEq, Repr

/-- The host code (R86): columns of G and F by index, c0, and the zero pattern z of the pass; an unlisted column is zero. -/
structure HostCode where
  g : SMap CheckBytes
  f : SMap CheckBytes
  c0 : CheckBytes
  z : CheckBytes
deriving DecidableEq, Repr

/-- A burst in the learner's capture FIFO; `solving` marks one captured in SOLVING, which is a stray (R91). -/
structure LearnEntry where
  ma : Nat
  data : LineData
  chk : CheckBytes
  solving : Bool
deriving DecidableEq, Repr

/-- The code learner (R86 to R98). -/
structure Cln where
  fifo : List LearnEntry
  /-- the base line of the pass -/
  base : Nat
  zero : Option CheckBytes
  units : SMap CheckBytes
  classes : SMap CheckBytes
  /-- what SOLVING formed -/
  work : HostCode
  /-- the code store (R95) -/
  store : HostCode
  /-- verification bursts matched on A and on B -/
  verA : Nat
  verB : Nat
deriving DecidableEq, Repr

/-- One ring of the ring-state table (Tables 4-13 and 4-14); `depth` is the code 0 to 4. -/
structure Ring where
  en : Bool
  priv : Bool
  depth : Nat
  nextSeq : Nat
  badCrc : Nat
  outOfOrder : Nat
  gap : Nat
  dup : Nat
deriving DecidableEq, Repr

/-- A packet line in the ring-tail pool that is not in execution (R106, R116). -/
structure HeldPkt where
  ring : Nat
  seq : Nat
  stamp : Nat
  bytes : List Byte
deriving DecidableEq, Repr

/-- A packet in execution. `started` marks one whose own step has begun and which waits for a later event; `discard` one whose status is not to be posted (R107, R109); `aux` what the later event needs. -/
structure ExecPkt where
  src : PktSrc
  seq : Nat
  stamp : Nat
  bytes : List Byte
  started : Bool
  discard : Bool
  aux : Nat
deriving DecidableEq, Repr

/-- A status on its way to its slot (Table 4-2), withheld while a switch-over gap lasts (R18). -/
structure PostStatus where
  src : PktSrc
  seq : Nat
  code : Nat
  op : Nat
  tag : Nat
  result : List Byte
  detail : Nat
  /-- the slot where it is not SEQ mod D: the slot that a line stopped by Table 4-3 was written to -/
  slot : Option Nat
deriving DecidableEq, Repr

/-- The packet engine (R101 to R133). -/
structure Pkt where
  /-- the ring-state table; an unlisted ring is at its reset value (R107) -/
  rings : SMap Ring
  /-- the ring-tail pool -/
  held : List HeldPkt
  /-- packets in execution, oldest first -/
  exec : List ExecPkt
  /-- the status store by ring × 16 + slot; an unlisted slot reads as zeros (R114) -/
  slots : SMap SlotBits
  /-- completions withheld by a switch-over gap (R18) -/
  withheld : List PostStatus
  /-- dispatch is stopped by a freeze (R130) -/
  halted : Bool
  /-- writes of RING_CFG that take effect once no packet of their ring is in execution, by ring, oldest first (R108) -/
  ringWrites : List (Nat × Word)
deriving DecidableEq, Repr

/-- The states of a granule in the dirty map (Table 5-4). -/
inductive Dirty where
  | clean | dirty | gleanPending | flushing
deriving DecidableEq, Repr

/-- A save-map or check-map entry (Table 5-6). -/
structure MapEntry where
  kind : Nat
  sealed : Bool
  pos : Nat
  sheaf : Nat
deriving DecidableEq, Repr

/-- A glean confirmation that the persistence unit has not yet applied or dropped (R152). -/
structure Confirm where
  g : Nat
  stamp : Nat
  sheaf : Nat
  /-- the tick at which its sheaf was programmed (R170) -/
  tick : Nat
deriving DecidableEq, Repr

/-- The persistence unit (R137 to R162). -/
structure Per where
  dirty : FMap Dirty
  smap : FMap MapEntry
  cmap : FMap MapEntry
  /-- the highest stamp of an applied mark, by granule, since the granule became GLEAN_PENDING -/
  lastMark : SMap Nat
  /-- the stamp of the newest applied mark -/
  marked : Nat
  confirms : List Confirm
  /-- granules queued for the next harvest flush (R153, R164) -/
  flushQ : List Nat
  /-- F of the most recent freeze -/
  freezeF : Nat
  /-- the stamp of the last command before the self-refresh entry that began lull (R143) -/
  lullF : Nat
  /-- LOST granules of the last restore (R210) -/
  lost : SMap Bool
deriving DecidableEq, Repr

/-- The states of a capture region (Table 6-1). -/
inductive RegionSt where
  | free | capturing | opened | closing | sealed
deriving DecidableEq, Repr

/-- A capture region (R163) with what its open or latest seal needs. -/
structure Region where
  st : RegionSt
  first : Nat
  count : Nat
  prio : Nat
  /-- capture stamp, and the boot epoch it belongs to -/
  cap : Nat
  capEpoch : Nat
  /-- o of R181 and its epoch -/
  openStamp : Nat
  openEpoch : Nat
  /-- SEQ of the latest seal; 0: none -/
  sealSeq : Nat
  /-- VERIFIED still holds (R182) -/
  verified : Bool
  /-- bursts and lines counted under R182 since the seal opened -/
  mismatch : Nat
  /-- a release is being committed (R186) -/
  releasing : Bool
deriving DecidableEq, Repr

/-- An assembly slot (R166 to R169), open or closed; its own number names it in ear events. -/
structure Slot where
  id : Nat
  g : Nat
  lines : SMap (LineData × CheckBytes)
  /-- tick of the last capture, and the highest stamp placed -/
  lastTick : Nat
  stamp : Nat
  closed : Bool
  /-- the sheaf position of the slot, once an ear has been handed over -/
  sheaf : Option Nat
  /-- the slot has its parity accumulator (R168) -/
  acc : Bool
  /-- ears whose program has started, and ears programmed; bit 16 is the parity ear -/
  started : BitVec 17
  done : BitVec 17
  /-- the captures placed in the slot, oldest first, from which a close splits it at its stamp (R183, R184) -/
  hist : List TapEntry
deriving DecidableEq, Repr

/-- A region that a packet has changed, until the ledger holds the change (R165, R274): the region as it was, its repair and coverage bits, and the granules that were GLEAN_PENDING. -/
structure Deleted where
  region : Region
  repair : SMap Nat
  cover : SMap Bool
  grans : List Nat
deriving DecidableEq, Repr

/-- The glean unit (R163 to R178). -/
structure Gln where
  regions : SMap Region
  fifo : List TapEntry
  slots : List Slot
  nextSlot : Nat
  /-- coverage map: granules whose bit is set -/
  cover : SMap Bool
  /-- repair map: the epoch and stamp of each set bit, epoch × 2^64 + stamp -/
  repair : SMap Nat
  /-- the most recent programmed glean sheaf of a granule, while no newer sheaf of its save map stands (R168) -/
  newest : SMap Nat
  /-- bytes landed in the current hour, and in the complete hours of the window, newest first -/
  hourBytes : Nat
  hours : List Nat
  /-- what a freeze gives back of the regions whose change the ledger does not yet hold (R130), by region -/
  deleted : SMap Deleted
  /-- the stamp horizon at which the checking of host check bits last began (R182): the learner is LEARNED and CLN_CTL.VERIFY_GLEAN is 1 since then -/
  verFrom : Nat
deriving DecidableEq, Repr

/-- What a chain entry under commit is for. -/
inductive ChainJob where
  /-- the seal of a region at close stamp `c`; `pkt` is its SEAL_CLOSE -/
  | close (region : Nat) (c : Nat) (pkt : ExecPkt)
  /-- the release of a region's seal -/
  | release (region : Nat) (seq : Nat) (pkt : ExecPkt)
  /-- a step back of wall time to `wall` -/
  | timeStep (wall : Nat) (pkt : ExecPkt)
deriving DecidableEq, Repr

/-- The chain entry in flight (R184): its SEQ, its 256 bytes, the manifest and the job. -/
structure ChainFlight where
  seq : Nat
  bytes : List Byte
  manifest : SMap Nat
  job : ChainJob
deriving DecidableEq, Repr

/-- The seal unit (R181 to R194). -/
structure Sea where
  /-- closes between their barrier and step 6 of Table 6-4: region, c, the SEAL_CLOSE, and whether the barrier is passed -/
  closes : List (Nat × Nat × ExecPkt × Bool)
  /-- chain entries that wait for the previous one (R184) -/
  queue : List ChainJob
  flight : Option ChainFlight
  /-- the SEQ of a fetch in progress (R191) -/
  fetch : Option Nat
  /-- writes at or above the close stamp of a CLOSING region, which the seal covers if the close ends without one (R181): region, granule, whether the burst was checked, and whether it mismatched; a repair read, which covers nothing, has no granule (R182) -/
  late : List (Nat × Option Nat × Bool × Bool)
deriving DecidableEq, Repr

/-- A training record as the ledger carries it (R75, R76, R355): its state, the HBP_GEOM word and ID_REV word it was made under, the band record of the side's loop, and its words by TRN_RES_SEL. -/
structure TrainRec where
  st : Nat
  geom : Word
  rev : Word
  band : Word
  words : SMap Word
deriving DecidableEq, Repr

/-- The ledger records (Table 9-8). A CHECKPOINT carries its part; what the parts spell is held as the ledger's base as well. -/
inductive LedgerRec where
  | eraseIntent (es : List (Nat × Bool))
  | eraseDone (stook : Nat) (tlc : Bool) (failed : Bool) (wear : SMap Nat)
  | form (stook page plan : Nat) (kmap : List Nat)
  | remap (stook ch page donor reason : Nat)
  | lodge (stook ch sign value : Nat)
  | retire (stook ch page cause : Nat)
  | retireDie (ch die : Nat)
  | role (stook old new : Nat)
  | region (r : Nat) (v : Region)
  | training (sp side : Nat) (v : TrainRec)
  | service (epoch tick : Nat)
  | attach (fails outcome : Nat)
  | generation (active prev staged high : Nat)
  | sealCommit (seq sheaf ear cw start len : Nat)
  | release (seq region : Nat)
  | chainExtend (stook : Nat)
  | checkpoint (part parts : Nat) (content : List Byte)
  | link (stook : Nat)
  | event (r : LogRec)
deriving DecidableEq, Repr

/-- A ledger record with its number, tick and epoch (Table 9-7). -/
structure LedgerEntry where
  seq : Nat
  tick : Nat
  epoch : Nat
  body : LedgerRec
deriving DecidableEq, Repr

/-- A ledger commit in the head ledger stook (R274): its index, the channels that its copies stand on, and its records. -/
structure Commit where
  index : Nat
  chans : List Nat
  recs : List LedgerEntry
deriving DecidableEq, Repr

/-- A stook of the organiser's table (R263, R270, R288, R289). -/
structure Stook where
  role : Nat
  half : Bool
  tlc : Bool
  /-- wear units by channel -/
  wear : SMap Nat
  /-- remaps: channel, first page, donor row; the newest first -/
  remaps : List (Nat × Nat × Nat)
  /-- columns whose block is lodged, and columns whose block is retired; a remap of the column ends either -/
  lodged : BitVec 17
  retired : BitVec 17
deriving DecidableEq, Repr

/-- What replay of the ledger rebuilds (R272, R276). -/
structure Org where
  /-- dies per channel; 0: no format -/
  dies : Nat
  /-- stooks that differ from their formatted state -/
  stooks : SMap Stook
  regions : SMap Region
  /-- the newest training records, by set point × 2 + side (1: DRAM) -/
  training : SMap TrainRec
  /-- SEQ of the newest SERVICE record; 0: none -/
  service : Nat
  attachFails : Nat
  attachOutcome : Nat
  genActive : Nat
  genPrev : Nat
  genStaged : Nat
  genHigh : Nat
  /-- chain entries on the chain store, by SEQ -/
  chainSeqs : List Nat
  diesRetired : List Nat
  /-- newest ERASE_INTENT without a later ERASE_DONE, with the mode of the erase -/
  intents : SMap Bool
  /-- mirrored event records found in the ledger (R452) -/
  events : List LogRec
  /-- SEQ of the highest record applied -/
  lastSeq : Nat
  /-- SEQ of the newest ERASE_INTENT or ERASE_DONE of each stook that has one (R213, ERASED) -/
  erased : SMap Nat
  /-- the body of the newest SERVICE record: epoch and tick -/
  serviceEpoch : Nat
  serviceTick : Nat
  /-- the stooks that CHAIN_EXTEND has given the chain store, in order (R279) -/
  chainExt : List Nat
deriving DecidableEq, Repr

/-- A sheaf on flash: what its metadata says (Table 9-3) and its payload by lines; unlisted lines are zero. -/
structure Sheaf where
  typ : Nat
  form : Nat
  /-- channels of the keeper positions and j, for a narrow sheaf (R205) -/
  kmap : List Nat
  kj : Nat
  /-- for a narrow sheaf, the row of each of its 17 ears in its channel's column (R205) -/
  krows : List Nat
  object : Nat
  gen : Nat
  stamp : Nat
  epoch : Nat
  digest : List Byte
  /-- its content includes a repair (R188) -/
  rep : Bool
  data : SMap LineData
  chk : SMap CheckBytes
deriving DecidableEq, Repr

/-- An index entry (Table 7-3). -/
structure IndexEntry where
  entry : MapEntry
  st : Nat
  hostchk : Bool
deriving DecidableEq, Repr

/-- An anchored image: its anchor (Table 7-4), its index and its metadata sheaf (R209). -/
structure Image where
  plan : Nat
  pos : Nat
  threshed : Bool
  narrowed : Bool
  keeper : Bool
  degraded : Bool
  gen : Nat
  epoch : Nat
  f : Nat
  configGen : Nat
  geom : Nat
  rev : Nat
  prevGen : Nat
  indexAddr : Nat
  indexSheaves : Nat
  omitted : Nat
  sheaves : Nat
  tick : Nat
  wall : Nat
  seq : Nat
  indexDigest : List Byte
  contentSeq : Nat
  /-- GEN of the first image of the chain -/
  chain : Nat
  copies : Nat
  /-- the positions of the anchor log that its copies stand on: log × 4,352 + position (R208, R283) -/
  copyAt : List Nat
  gran : SMap IndexEntry
  group : SMap IndexEntry
  regions : SMap Region
  cover : SMap Bool
  repair : SMap Nat
  recs : List LedgerEntry
  /-- addresses of its metadata and index sheaves -/
  own : List Nat
deriving DecidableEq, Repr

/-- A chain entry on the chain store (Tables 6-6, 6-7) and its manifest (R279). -/
structure ChainEnt where
  seq : Nat
  bytes : List Byte
  manifest : SMap Nat
  released : Bool
  /-- the positions of the chain store that its ears take -/
  at' : List Nat
deriving DecidableEq, Repr

/-- The boot anchor in force (Table 9-9); `dir` holds LEN, GEN and SHA-256 by twin × 3 + sheaf (0 firmware, 1 slot 0, 2 slot 1), and the page. -/
structure BootAnchor where
  twin : Nat
  slot : Nat
  no : Nat
  fails : Nat
  high : Nat
  ledgerStook : Nat
  ledgerCommit : Nat
  dir : SMap (Nat × Nat × Nat × List Byte)
deriving DecidableEq, Repr

/-- What the codewords that a PROGRAM selected hold (R303): a payload by line of the ear and the metadata template, the PRBS pattern, or nothing that can be told, after a program that failed or was cut off. -/
inductive EarBody where
  | void
  | pattern
  | data (lines : SMap LineData) (template : List Byte)
deriving DecidableEq, Repr

/-- An ear that a channel engine has programmed: the codewords selected by CW_MASK hold the body, and the others the vacant pattern (R303). -/
structure Ear where
  mask : Nat
  body : EarBody
deriving DecidableEq, Repr

/-- The content of the flash array, which outlives power. -/
structure Flash where
  boot : Option BootAnchor
  /-- contents of the twins' sheaves, by twin × 3 + sheaf -/
  twins : SMap (List Byte)
  /-- the checkpoint that starts replay, and the records committed after it -/
  base : Org
  commitLog : List Commit
  /-- commit positions used in the head ledger stook -/
  commits : Nat
  images : List Image
  sheaves : SMap Sheaf
  /-- programmed end of each stook: the pages used -/
  used : SMap Nat
  chain : List ChainEnt
  /-- current anchor log and its next position (R283) -/
  log : Nat
  logPos : Nat
  /-- highest image generation number ever taken (R212) -/
  imageGen : Nat
  /-- ears programmed by descriptors, by physical place: ((channel × 4 + die) × 2,048 + block) × 1,024 + page -/
  ears : SMap Ear
  /-- the codeword payloads of the anchor logs, by log × 4,352 + position (R283) -/
  logs : SMap (List Byte)
  /-- stooks of the swath in their order (R266), and the die index of the next slot -/
  swath : List Nat
  turn : Nat
  /-- the boot anchors that the logs hold, oldest first, each with the positions of its copies (R283) -/
  anchors : List (BootAnchor × List Nat)
  /-- the next position of the chain store, and the manifest updates that stand on it, oldest first: position, granule, the sheaf as it was named and as it is named from then on (R279) -/
  chainNext : Nat
  updates : List (Nat × Nat × Nat × Nat)
deriving DecidableEq, Repr

/-- An erase of a stook under way (R280): `done` marks the columns that are erased. With all of them it waits for its ERASE_DONE to be confirmed. -/
structure EraseJob where
  stook : Nat
  tlc : Bool
  issued : Bool
  done : BitVec 17
  failed : BitVec 17
deriving DecidableEq, Repr

/-- The flash organiser (R257 to R293). -/
structure Flo where
  org : Org
  /-- records made and not yet committed (R274) -/
  pendingRecs : List LedgerEntry
  /-- erases under way -/
  erases : List EraseJob
  /-- the die table (R258): identity bytes and whether the die is supported -/
  dieTable : SMap (Bool × List Byte)
deriving DecidableEq, Repr

/-- One piece of a save's work in plan order (R198, R200, R209). -/
inductive SaveItem where
  | gran (g : Nat)
  | group (c : Nat)
  | metadata
  | index (i : Nat)
deriving DecidableEq, Repr

/-- The sheaf in flight of a save (R199, R202 to R204): its position, the rows of a narrow sheaf's ears, and the ears whose ready-sample has passed. -/
structure SaveFlight where
  addr : Nat
  rows : List Nat
  ears : BitVec 17
deriving DecidableEq, Repr

/-- A save in progress (R195 to R211). -/
structure SaveRun where
  gen : Nat
  f : Nat
  start : Nat
  full : Bool
  narrowed : Bool
  plan : Nat
  kmap : List Nat
  kj : Nat
  work : List SaveItem
  /-- sheaf written for each granule with its HOSTCHK flag, and for each check group -/
  gran : SMap (Nat × Bool)
  group : SMap Nat
  indexAddr : Nat
  own : List Nat
  omitted : List Nat
  sheaves : Nat
  pfail : Nat
  variantUsed : Bool
  regions : SMap Region
  cover : SMap Bool
  repair : SMap Nat
  /-- the backside DRAM controller owns the DRAM -/
  handed : Bool
  /-- the ranked save set, kept and omitted, under PACK_SHORT (R247) -/
  ranked : List Nat
  /-- the next free row of a column that the keeper run has written, by stook × 32 + channel (R205) -/
  narrow : SMap Nat
  /-- the sheaf in flight -/
  flight : Option SaveFlight
  /-- channels on which a save program has been issued -/
  firsts : BitVec 17
  /-- the ledger records that the metadata sheaf carries (R277) -/
  recs : List LedgerEntry
deriving DecidableEq, Repr

/-- The save engine. -/
structure Sav where
  run : Option SaveRun
  /-- GEN of the image whose second anchor copy is not yet confirmed -/
  second : Option Nat
  /-- the position of the anchor copy in flight: log × 4,352 + position (R208) -/
  copyAt : Option Nat
  /-- the selected image is not the candidate with the highest GEN (R216) -/
  older : Bool
  /-- GEN of the image being threshed and the sheaves copied -/
  thresh : Option Nat
  /-- the copies made: from each source sheaf to its copy -/
  threshCopies : SMap Nat
  /-- the rows that narrow copies have taken, and how many there are (R205) -/
  threshRows : SMap Nat
  threshJ : Nat
  /-- GEN of the newest image that has been threshed (R226) -/
  threshed : Nat
  /-- the fences of the present restore: the sheaf number from which each set of fenced channels holds, oldest first (R220, R221) -/
  rstMasks : List (Nat × Nat)
deriving DecidableEq, Repr

/-- A staging in progress (R248): TOTAL, the bytes received, the ear buffer, the data ears programmed, the parity accumulator, the page of the slot-0 sheaf in the twin's stook, and whether the twin's erase is still to be confirmed. -/
structure Staging where
  total : Nat
  got : Nat
  buf : List Byte
  ears : Nat
  parity : SMap LineData
  page : Nat
  erasing : Bool
  /-- GEN of the image, once its chunk has come -/
  gen : Nat
deriving DecidableEq, Repr

/-- The plan store (R231 to R256): the loaded configuration image and the quantities of the latest admission. -/
structure Pln where
  image : List Byte
  /-- pro, epi, slot and bound of plans 0 to 18, by plan code -/
  priced : SMap (Nat × Nat × Nat × Nat)
  staging : Option Staging
  /-- the firmware that the cores run; empty: the loader in ROM (R287) -/
  fw : List Byte
  /-- the tick at which the plan store's reload from the active twin is over (R404); 0: none has run -/
  reloadEnd : Nat
  /-- what a CONFIG_STAGE with OFFSET 0 has put aside, until its twin's erase is under way: the partial staging and the twin's sheaves (R130) -/
  undo : Option (Option Staging × SMap (List Byte))
deriving DecidableEq, Repr

/-- The states of a die (Table 10-7). -/
inductive DieSt where
  | idle | reading | programming | erasing | suspending | suspended | nestedRead | nestedProgram | resumePending | aborting | fenced
deriving DecidableEq, Repr

/-- A descriptor in execution: its 32 bytes, its queue (low) and the tick of its start. -/
structure FRun where
  desc : List Byte
  low : Bool
  start : Nat
deriving DecidableEq, Repr

/-- One die of a channel with its two queues (R294, R304, R307): the first 32 of a list are the queue, and the rest wait with their writers. -/
structure Die where
  st : DieSt
  hi : List (List Byte)
  lo : List (List Byte)
  /-- the read or program in execution -/
  op : Option FRun
  /-- the erase in execution, running or suspended, and its suspensions -/
  erase : Option FRun
  susp : Nat
  /-- a SUSPEND, RESUME or ABORT that has started and waits -/
  suspendD : Option FRun
  resumeD : Option FRun
  abortD : Option FRun
  /-- the first two ears of a TLC triple (R304) -/
  held : List FRun
  /-- the low head is treated as high for its next grant (R296) -/
  promoted : Bool
  /-- write pointers by block: TLC mode and page; none: UNKNOWN -/
  ptrs : SMap (Bool × Option Nat)
  lastStatus : Nat
  /-- the tick at which the erase was last suspended (Table 10-6) -/
  suspAt : Nat
  /-- the die whose queue the ABORT in execution came from (R296) -/
  abortHome : Nat
deriving DecidableEq, Repr

/-- What holds a channel fenced beside software (R320, R321): an incident, a message of a kind and a source that has not reached the collector, or its load switch under RETRY. -/
inductive FenceCause where
  | incident (n : Nat)
  | told (k : FaultKind) (src : Nat)
  | retry
deriving DecidableEq, Repr

/-- One flash channel engine (R294 to R322). The first 64 of `cpl` are the completion queue, and the rest wait with the engine (R297). -/
structure Chan where
  dies : SMap Die
  cpl : List (List Byte)
  cseq : Nat
  lastGrant : Nat
  /-- the causes other than software that hold the channel fenced -/
  causes : List FenceCause
  /-- the software fence has ended and returns at the next plan boundary -/
  softEnded : Bool
  /-- accepted writes of FCE_IF, FCE_WAIT0, FCE_WAIT1 and FCE_TMO (0 to 3) that have not taken effect: the register, the word and the tick of the write (R314) -/
  ifWrites : List (Nat × Word × Nat)
deriving DecidableEq, Repr

/-- A request that waits at the BDC (R326): port, line MA, tick of arrival, and whether its lateness is counted or it follows a split. -/
structure BdcReq where
  port : Nat
  ma : Nat
  tick : Nat
  late : Bool
  split : Bool
deriving DecidableEq, Repr

/-- A granule in harvest (R333, R335): the stamp horizon when its read began, whether the read is complete and rechecked, and what was read. -/
structure HarvestJob where
  g : Nat
  repair : Bool
  stamp : Nat
  read : Bool
  rechecked : Bool
  lines : SMap (LineData × CheckBytes)
  /-- what the seal hasher's own reads through port 18 have returned, and whether they are complete (R335) -/
  again : SMap (LineData × CheckBytes)
  reread : Bool
  /-- the position of its sheaf, and the ears whose ready-sample has passed (R291, R344) -/
  sheaf : Option Nat
  ears : BitVec 17
deriving DecidableEq, Repr

/-- The backside DRAM controller (R323 to R346). -/
structure Bdc where
  reqs : List BdcReq
  /-- owed refreshes by target, sub-channel × 2 + rank -/
  owed : SMap Nat
  /-- targets that refresh at the interval of 1.95 µs -/
  double : BitVec 4
  /-- rows the BDC has open, by bank entry -/
  rows : SMap Nat
  /-- activations of the window by bank entry: the count and the latest port -/
  acts : SMap (Nat × Nat)
  /-- throttled requesters by bank entry × 32 + port: the tick of their last ACT there -/
  throttled : SMap Nat
  hostActs : SMap Nat
  jobs : List HarvestJob
  /-- granules whose repair failed its recheck in this harvest period (R335) -/
  retryNext : List Nat
  /-- tick of the last scrub completion; none before the first -/
  scrubTick : Option Nat
  /-- the line of a window read in progress (R345) -/
  window : Option Nat
  /-- a BDC_LATE record has been written in this save -/
  lateNoted : Bool
  /-- a handback waits for PLL_H to lock (R343): its time in ns -/
  handbackWait : Option Nat
  /-- targets whose last MR4 read asks for more than the 1× rate: their interval changes at its next boundary (R327) -/
  doubleNext : BitVec 4
  /-- the lines of the granule at DCT_SCRUB_PTR that the scrubber has read since it began there (R333) -/
  scrubSeen : SMap Bool
deriving DecidableEq, Repr

/-- What a PLL loop is doing (R356). -/
inductive LockSt where
  | idle | loading | searching | locked | failed
deriving DecidableEq, Repr

/-- The clock unit (R347 to R366). -/
structure Clk where
  /-- band records by loop × 8 + set point (loop 0 PLL_H, 1 DRAM loop) -/
  band : SMap Word
  h : LockSt
  d : LockSt
  f : LockSt
  /-- set point of the DRAM loop -/
  dSp : Nat
  /-- host clock edges are present -/
  present : Bool
  /-- 20 µs have passed since the loss without an edge (R364) -/
  timedOut : Bool
deriving DecidableEq, Repr

/-- The sideband target and the HI latches of the access paths (R463, R473 to R475). -/
structure Sb where
  /-- the sideband's address pointer -/
  ptr : Nat
  /-- the HI halves that each path's LO reads have latched, by address of the HI register -/
  latch : SMap Word
  latchA : SMap Word
  latchB : SMap Word
  /-- the bytes that the target last returned, for a private read or a CCC -/
  out : List Byte
  /-- the last transfer was acknowledged -/
  acked : Bool
  /-- the word that a control core last read -/
  coreOut : Word
deriving DecidableEq, Repr

/-- The instructions of the test access port (R497); Test-Logic-Reset selects IDCODE. -/
inductive TapInstr where
  | bypass | idcode | samplePreload | extest
deriving DecidableEq, Repr

/-- The test access port (R497). -/
structure Tap where
  instr : TapInstr
  /-- the boundary register, in the order of its cells -/
  boundary : List Bool
  /-- the bits that the port last gave out on TDO, first bit first -/
  out : List Bool
deriving DecidableEq, Repr

/-- The whole state of the part. -/
structure State where
  sys : Sys
  hbp : Hbp
  dram : Dram
  trn : Trn
  cln : Cln
  pkt : Pkt
  per : Per
  gln : Gln
  sea : Sea
  sav : Sav
  pln : Pln
  flash : Flash
  flo : Flo
  /-- the 17 flash channel engines, by channel -/
  fce : SMap Chan
  bdc : Bdc
  clk : Clk
  sb : Sb
  tap : Tap
  /-- the lines of the 12 MiB SRAM that descriptors and staging name, by address / 64 (Table 1-3, R303, R305); an unlisted line reads as zeros (log entry 96) -/
  sram : SMap LineData
  /-- the register space where a register is the only home of its content; unlisted registers hold their reset value (R460) -/
  regs : SMap Word
  /-- the device tick (R348) -/
  tick : Nat
  evr : Evr
  flt : Flt
  kite : Kite
  pwr : Pwr
  nv : Nv
  /-- the commands that wait, first in, first out -/
  pending : List Instr
deriving DecidableEq, Repr

/-- An incident collector with nothing open. -/
def Flt.reset : Flt := ⟨[], [], [], [], [], [], [], false⟩

/-- The host buffer path with nothing forwarded: CA_LAT is 1, two host clocks (Table 2-7). -/
def Hbp.reset : Hbp := ⟨0, [], 2, false, false, [], 0, [], [], false, false, none, 0, none, .a, []⟩

/-- A power supervisor whose rails are all off. VAON has just risen, so that the start timer has expired (R368); the pack's charger runs (log entry 42). -/
def Pwr.reset : Pwr :=
  ⟨true, true, 0, 0, 0, 0, 8, false, 0, false, [], 0, 0, 0, [], false, false, none, false, false, none, false, 0, true, false, none, [], 0⟩

/-- The tables of an organiser whose flash has no format. -/
def Org.reset : Org := ⟨0, [], [], [], 0, 0, 0, 0, 0, 0, 0, [], [], [], [], 0, [], 0, 0, []⟩

/-- A part as it leaves final test: a corner table whose CRC holds and whose other entries are zero (log entry 43), and a blank one-time store (R470). -/
def Nv.reset : Nv := ⟨List.replicate 32 0, List.replicate 8 0, [(255, 0xb641cde2#32)], 0, false⟩

/-- A flash array that has never been written (log entry 44). -/
def Flash.reset : Flash := ⟨none, [], Org.reset, [], 0, [], [], [], [], 0, 0, 0, [], [], [], 0, [], 0, []⟩

/-- The machine right after reset: VAON has just risen and the part is off (R367, R368). Every register holds its reset value (R460), which the register table gives for unlisted registers. -/
def State.reset : State where
  sys := ⟨.off, .none, .none, false, false, false⟩
  hbp := Hbp.reset
  dram := ⟨[]⟩
  trn := ⟨[], false, false, 0, false, [], [], 0, none, 0, 0, [], false, [], none⟩
  cln := ⟨[], 0, none, [], [], ⟨[], [], 0, 0⟩, ⟨[], [], 0, 0⟩, 0, 0⟩
  pkt := ⟨[], [], [], [], [], false, []⟩
  per := ⟨⟨.clean, []⟩, ⟨⟨0, false, 0, 0⟩, []⟩, ⟨⟨0, false, 0, 0⟩, []⟩, [], 0, [], [], 0, 0, []⟩
  gln := ⟨[], [], [], 0, [], [], [], 0, [], [], 0⟩
  sea := ⟨[], [], none, none, []⟩
  sav := ⟨none, none, none, false, none, [], [], 0, 0, []⟩
  pln := ⟨[], [], none, [], 0, none⟩
  flash := Flash.reset
  flo := ⟨Org.reset, [], [], []⟩
  fce := []
  bdc := ⟨[], [], 0, [], [], [], [], [], [], none, none, false, none, 0, []⟩
  clk := ⟨[], .idle, .idle, .idle, 0, true, false⟩
  sb := ⟨0, [], [], [], [], true, 0⟩
  tap := ⟨.idcode, [], []⟩
  sram := []
  regs := []
  tick := 0
  evr := ⟨[], [], none, 0, [], false, none, 0, false⟩
  flt := Flt.reset
  kite := ⟨none, false, [], []⟩
  pwr := Pwr.reset
  nv := Nv.reset
  pending := []

end Sys2Proof.Machine
end

