-- ==== Sys2Proof/Machine/Ops.lean ====
section
/-! DEFINITION. The named operations that every family shares: register fields, event records, fault messages and mode changes. -/

namespace Sys2Proof.Machine

open Reg

/-- The bits of a field inside a register word. -/
def fldMask (f : Fld) : Word := BitVec.ofNat 32 (2 ^ f.w - 1) <<< f.lo

/-- The value of a field of a register word. -/
def fldOf (w : Word) (f : Fld) : Nat := w.toNat / 2 ^ f.lo % 2 ^ f.w

/-- A register word with one field replaced, the value taken modulo the field's width. -/
def fldIns (w : Word) (f : Fld) (v : Nat) : Word :=
  (w &&& ~~~(fldMask f)) ||| (BitVec.ofNat 32 (v % 2 ^ f.w) <<< f.lo)

/-- The stored word of a register. -/
def State.word (s : State) (a : Nat) : Word := smapGet resetWord s.regs a

/-- Store a register word. -/
def State.setWord (s : State) (a : Nat) (w : Word) : State := { s with regs := smapSet resetWord s.regs a w }

/-- The stored value of a register field. -/
def State.fld (s : State) (f : Fld) : Nat := fldOf (s.word f.addr) f

/-- Store a register field. -/
def State.setFld (s : State) (f : Fld) (v : Nat) : State := s.setWord f.addr (fldIns (s.word f.addr) f v)

/-- A one-bit field as a truth value. -/
def State.flag (s : State) (f : Fld) : Bool := decide (s.fld f ≠ 0)

/-- Store a one-bit field. -/
def State.setFlag (s : State) (f : Fld) (b : Bool) : State := s.setFld f (if b then 1 else 0)

/-- Add to a counter that saturates at the top of its field. -/
def State.bump (s : State) (f : Fld) (n : Nat) : State := s.setFld f (satAdd (s.fld f) n (2 ^ f.w - 1))

/-- Add to a counter that wraps. -/
def State.wrap (s : State) (f : Fld) (n : Nat) : State := s.setFld f (s.fld f + n)

/-- Set bit `i` of a field that is a bit vector. -/
def State.setBit (s : State) (f : Fld) (i : Nat) (b : Bool) : State :=
  let v := s.fld f
  let cur := v / 2 ^ i % 2 == 1
  if cur = b then s else if b then s.setFld f (v + 2 ^ i) else s.setFld f (v - 2 ^ i)

/-- Bit `i` of a field that is a bit vector. -/
def State.bit (s : State) (f : Fld) (i : Nat) : Bool := decide (s.fld f / 2 ^ i % 2 = 1)

/-- The bytes of a list of numbers as the registers at consecutive addresses hold them: byte 4i in bits 7..0 of register i (Tables 4-12, 6-13). -/
def State.setBytes (s : State) (a : Nat) (bs : List Byte) : Nat → State
  | 0 => s
  | n + 1 => State.setBytes (s.setWord a (BitVec.ofNat 32 (leField bs 0 4))) (a + 4) (bs.drop 4) n

/-- The bytes that `n` registers at consecutive addresses hold. -/
def State.getBytes (s : State) (a : Nat) : Nat → List Byte
  | 0 => []
  | n + 1 => leBytes 4 (s.word a).toNat ++ s.getBytes (a + 4) n

/-- A source sends an event record with its INJ tag: it is then in transit (R402, R409, R424, R443). -/
def State.emitTagged (s : State) (sev : Sev) (inj : Bool) (code src : Nat) (payload : List Byte) : State :=
  { s with evr := { s.evr with inflight := s.evr.inflight ++
      [⟨sev, inj, code, Fin.ofNat 1024 src, BitVec.ofNat 64 s.tick, payload⟩] } }

/-- A record without the INJ tag. -/
def State.emit (s : State) (sev : Sev) (code src : Nat) (payload : List Byte) : State := s.emitTagged sev false code src payload

/-- Whether a unit is out under FENCE or FENCE_DEGRADED (Table 14-6). -/
def State.unitOut (s : State) (u : UnitRow) : Bool := s.flt.fenced.any (fun x => decide (x.1 = u))

/-- A NOTE record. -/
def State.note (s : State) (code src : Nat) (payload : List Byte) : State := s.emit .note code src payload

/-- A unit sends a fault message at the severity its row of Table 14-3 gives or the caller names (R400): it is then in transit to the collector. -/
def State.reportSev (s : State) (sev : Sev) (k : FaultKind) (src qual follow : Nat) : State :=
  { s with flt := { s.flt with inflight := s.flt.inflight ++
      [(⟨Fin.ofNat 1024 src, k, sev, Fin.ofNat 16384 qual, BitVec.ofNat 32 follow, false⟩, false)] } }

/-- The severity that the sources of a kind report (Table 14-3); a rail's class is the caller's. -/
def kindSev : FaultKind → Sev
  | .paceLow | .xtalFail | .cornerCrc | .sptSelf | .feedAOv | .coresLost | .sramUe | .pllNoLock | .flashUnsupported | .attachLoop => .critical
  | _ => .fault

/-- A fault message at the severity of its kind. -/
def State.report (s : State) (k : FaultKind) (src qual follow : Nat) : State := s.reportSev (kindSev k) k src qual follow

/-- FOLLOW and QUALIFIER[13] of a kind that names a module address (R500). -/
def maFollow (ma : Nat) : Nat := natBits ma 6 32

/-- QUALIFIER[13] of a kind that names a module address (R500). -/
def maQual (ma : Nat) : Nat := natBits ma 38 1 * 2 ^ 13

/-- A transition of the mode (R22, R23): LAST_MODE takes the mode left, and a MODE_CHANGE record carries the old and the new code. -/
def State.enterMode (s : State) (m : Mode) : State :=
  let old := modeCode s.sys.mode
  let t := { s with sys := { s.sys with mode := m, phase := .none } }
  (t.setFld CFG_MODE_LAST_MODE old).note 0x0050 0 (leBytes 1 old ++ leBytes 1 (modeCode m))

/-- A transition where the mode differs. -/
def State.setMode (s : State) (m : Mode) : State := if s.sys.mode = m then s else s.enterMode m

/-- A phase of attach is entered (Table 1-5): ATTACH_PHASE shows none outside attach. -/
def State.setPhase (s : State) (p : Phase) : State :=
  if s.sys.mode = .attach then { s with sys := { s.sys with phase := p } } else s

/-- Whether the mode is one of a list. -/
def State.inMode (s : State) (ms : List Mode) : Bool := ms.contains s.sys.mode

/-- Whether a rail's power-good is judged good (PWR_RAIL_STS, PWR_FSW_STS). -/
def State.railGood (s : State) (r : Nat) : Bool := if r < 16 then s.bit PWR_RAIL_STS r else s.bit PWR_FSW_STS (r - 16)

/-- PLL_H is locked to a host clock that is there: not coasting, and not without edges (R356, R360). -/
def State.hReady (s : State) : Bool := decide (s.clk.h = .locked) && s.clk.present && !s.flag CLK_STS_COAST

/-- Rails 0 to 3 are good: stages 0 and 1, which supply the part itself (Table 13-4). -/
def State.coreRailsGood (s : State) : Bool := (List.range 4).all s.railGood

/-- The domains that are switched off only in shut-down are on (Table 13-12): after stage 1 of power-up and until stage 1 of shut-down. Registers can be written then (R461, R476). -/
def State.coreDomains (s : State) : Bool :=
  match s.sys.mode with
  | .off => false
  | .powerUp | .shutDown => s.coreRailsGood
  | _ => true

/-- Whether a domain is on (Table 13-12, R397, R470). -/
def State.domOn (s : State) (i : Nat) : Bool :=
  let core := fun (f : Fld) => decide (s.fld f ≠ 0) && decide (s.fld f ≠ 5)
  let harvest := s.flag DCT_STS_HARVESTING
  let chan := fun (base : Nat) => !s.flag (FCE_STS_FENCED (i - base))
  if i = 0 then s.pwr.vaon
  else if !s.coreDomains then false
  else if s.fld SPT_STS_SEQ = 7 then decide (i = 114) || decide (i = 146) || decide (i = 147)
  else if i < 46 then true
  else if i < 63 then chan 46
  else if i < 80 then chan 63
  else if i < 97 then chan 80
  else if i < 114 then (s.sys.mode = .save || s.sys.phase = .restore) && chan 97
  else if i < 130 then true
  else if i = 130 then core SPT_HB_A_STATE
  else if i = 131 then core SPT_HB_B_STATE
  else if i = 133 then s.sys.mode = .attach
  else if i = 134 then s.inMode [.attach, .rebound] || s.flag DCT_STS_RETRAINING
  else if i = 138 ∨ i = 141 ∨ i = 142 then harvest
  else decide (i < 148)

end Sys2Proof.Machine
end

