-- ==== Sys2Proof/Machine/Operands.lean ====
section
/-! DEFINITION. Operand forms: the module address of a host command (R55 to R57), bank entries, and the parity of a command's UIs (R43). -/

namespace Sys2Proof.Machine

open Reg

/-- The number of a sub-channel: A is 0. -/
def subNum : Sub → Nat
  | .a => 0
  | .b => 1

/-- Bits of the logical-rank field (HBP_GEOM.LRANKS). -/
def State.lrankBits (s : State) : Nat := min (s.fld HBP_GEOM_LRANKS) 2

/-- Bits of the row field. -/
def State.rowBits (s : State) : Nat := if s.flag HBP_GEOM_ROW17 then 17 else 16

/-- Bits of the package-rank field. -/
def State.rankBits (s : State) : Nat := s.fld HBP_GEOM_RANK2

/-- The total width N of the module address (Table 2-5). -/
def State.maWidth (s : State) : Nat := 1 + s.rankBits + s.lrankBits + 3 + 2 + s.rowBits + 7 + 6

/-- The bank entry of a command, in the order of R42: sub-channel, package rank, logical rank, bank group, bank. -/
def bankIndex (sub rank lrank bg ba : Nat) : Nat := (((sub * 2 + rank) * 4 + lrank) * 8 + bg) * 4 + ba

/-- The module address of a burst (R55): the fields of Table 2-5, most significant first. -/
def State.mkMa (s : State) (sub rank lrank bg ba row col : Nat) : Nat :=
  let a := sub
  let a := a * 2 ^ s.rankBits + rank % 2 ^ s.rankBits
  let a := a * 2 ^ s.lrankBits + lrank % 2 ^ s.lrankBits
  let a := a * 8 + bg
  let a := a * 4 + ba
  let a := a * 2 ^ s.rowBits + row % 2 ^ s.rowBits
  (a * 128 + col) * 64

/-- The bank entry that holds a module address. -/
def State.maBank (s : State) (ma : Nat) : Nat :=
  let ba := ma / 2 ^ (13 + s.rowBits) % 4
  let bg := ma / 2 ^ (15 + s.rowBits) % 8
  let lr := ma / 2 ^ (18 + s.rowBits) % 2 ^ s.lrankBits
  let rk := ma / 2 ^ (18 + s.rowBits + s.lrankBits) % 2 ^ s.rankBits
  let sb := ma / 2 ^ (18 + s.rowBits + s.lrankBits + s.rankBits) % 2
  bankIndex sb rk lr bg ba

/-- The row of a module address. -/
def State.maRow (s : State) (ma : Nat) : Nat := ma / 2 ^ 13 % 2 ^ s.rowBits

/-- The granule of a module address: MA[38:20]. -/
def maGranule (ma : Nat) : Nat := ma / 2 ^ 20

/-- The line of a module address: MA[38:6]. -/
def maLine (ma : Nat) : Nat := ma / 64

/-- The number of granule indexes within the geometry's width. -/
def State.granuleCount (s : State) : Nat := 2 ^ (s.maWidth - 20)

/-- A granule is present when its rows exist on the DRAM (R57). -/
def State.present (s : State) (g : Nat) : Bool :=
  decide (g < s.granuleCount) && !(s.flag HBP_GEOM_ROW3Q && decide (g / 256 % 4 = 3))

/-- The number of present granules of the module (R56, R57). -/
def State.presentCount (s : State) : Nat :=
  if s.flag HBP_GEOM_ROW3Q then s.granuleCount / 4 * 3 else s.granuleCount

/-- The present granules, in ascending order. -/
def State.presentGranules (s : State) : List Nat := (List.range s.granuleCount).filter s.present

/-- Whether every granule of a range is present. -/
def State.rangePresent (s : State) (first count : Nat) : Bool := (List.range count).all (fun i => s.present (first + i))

/-- The present granules of a bank entry: those that share its sub-channel, ranks, bank group and bank (R42). -/
def State.bankGranules (s : State) (sub rank lrank bg ba : Nat) : List Nat :=
  let base := maGranule (s.mkMa sub rank lrank bg ba 0 0)
  ((List.range (2 ^ (s.rowBits - 7))).map (fun i => base + i)).filter s.present

/-- A UI has a parity error when its seven CA bits and the parity bit have odd weight (R43). -/
def uiBad (u : BitVec 7 × Bool) : Bool :=
  let w := (List.range 7).foldl (fun n i => if u.1.getLsbD i then n + 1 else n) (if u.2 then 1 else 0)
  decide (w % 2 = 1)

/-- The index of the first UI with a parity error. -/
def firstBadUi : List (BitVec 7 × Bool) → Option Nat
  | [] => none
  | u :: us => if uiBad u then some 0 else (firstBadUi us).map (· + 1)

/-- The content of HBP_PAR_LOG for a failing command (Table 2-11): the UI of the first error, and the CA bits of the two UIs of its clock cycle, the first in [6:0] (DESIGN CHOICE for a command of more than two UIs, log entry 86). -/
def parLogWord (uis : List (BitVec 7 × Bool)) (i : Nat) : Nat :=
  let u0 := (uis.getD (i / 2 * 2) (0, false)).1.toNat
  let u1 := (uis.getD (i / 2 * 2 + 1) (0, false)).1.toNat
  i % 4 * 2 ^ 30 + u1 * 128 + u0

/-- The burst a WRITE PATTERN stores (R59): every beat carries the nibble held for each lane of the rank, two lanes to a byte; the two check lanes make the check bytes. A lane for which no MRW has set the pattern carries 0 (DESIGN CHOICE, log entry 87). -/
def State.patternBurst (s : State) (sub rank : Nat) : LineData × CheckBytes :=
  let nib := fun (k : Nat) => (smapFind s.hbp.pattern (rank * 20 + sub * 10 + k)).getD 0
  let beat : Nat := (List.range 4).foldl (fun acc j => acc + (nib (2 * j) + 16 * nib (2 * j + 1)) * 256 ^ j) 0
  let chk : Nat := nib 8 + 16 * nib 9
  ((List.range 16).foldl (fun (acc : LineData) b => acc ||| (BitVec.ofNat 512 beat <<< (32 * b))) 0,
   (List.range 16).foldl (fun (acc : CheckBytes) b => acc ||| (BitVec.ofNat 128 chk <<< (8 * b))) 0)

/-- What a DRAM line holds; a line nothing has written reads as zeros (log entry 12). -/
def State.line (s : State) (ma : Nat) : LineData × CheckBytes := smapGet (fun _ => (0, 0)) s.dram.lines (maLine ma)

/-- Write a DRAM line. -/
def State.setLine (s : State) (ma : Nat) (v : LineData × CheckBytes) : State :=
  { s with dram := { s.dram with lines := smapSet (fun _ => (0, 0)) s.dram.lines (maLine ma) v } }

end Sys2Proof.Machine
end

