-- ==== Sys2Proof/Machine/Ledger.lean ====
section
/-! DEFINITION. Sequence numbers, the log's records and the ledger: what carries a number, and what replay rebuilds (R138, R273 to R276, R438 to R446, R451). -/

namespace Sys2Proof.Machine

open Reg

/-- The stamp horizon (R138). -/
def State.horizon (s : State) : Nat := s.hbp.stamp

/-- The boot epoch (R438). -/
def State.epoch (s : State) : Nat := s.fld EVR_EPOCH

/-- Wall time in µs; 0 while unset (R441). -/
def State.wallNow (s : State) : Nat :=
  match s.evr.wall with
  | some (w, t) => w + (s.tick - t)
  | none => 0

/-- LEN of a record in 16-byte units (R443). -/
def recLen (e : EvRecord) : Nat := max 4 (ceilDiv (44 + e.payload.length) 16)

/-- The 64-byte units a record takes in the log (R445). -/
def recUnits (r : LogRec) : Nat := ceilDiv (recLen r.ev) 4

/-- The bytes of a held record (Table 15-1). -/
def recBytes (r : LogRec) : List Byte :=
  let len := recLen r.ev
  let flags := sevCode r.ev.sev + (if r.ev.inj then 4 else 0) + (if r.reloaded then 8 else 0) + (if r.mirrored then 16 else 0)
  let body := leBytes 1 len ++ leBytes 1 flags ++ leBytes 2 r.ev.code ++ leBytes 6 (r.seq.getD 0) ++ leBytes 2 r.ev.source.val ++
    leBytes 4 r.epoch ++ leBytes 8 r.ev.tick.toNat ++ leBytes 8 r.horizon ++ leBytes 8 r.wall ++
    sliceBytes r.ev.payload 0 (len * 16 - 44)
  body ++ leBytes 4 (crc32c body).toNat

/-- Units of the log in use. -/
def State.logUnits (s : State) : Nat := (s.evr.log.map recUnits).sum

/-- Free held records of severity at or below `k`, oldest first, until `need` units are free (R445 step 2). -/
def freeOldest (k need : Nat) : List LogRec → List LogRec
  | [] => []
  | r :: rs =>
    if need = 0 then r :: rs
    else if sevCode r.ev.sev ≤ k then freeOldest k (need - recUnits r) rs
    else r :: freeOldest k need rs

/-- Whether a record finds room in the log (R445). -/
def State.logRoom (s : State) (r : LogRec) : Bool :=
  let k := sevCode r.ev.sev
  let low := ((s.evr.log.filter (fun x => decide (sevCode x.ev.sev ≤ k))).map recUnits).sum
  decide (s.logUnits + recUnits r ≤ 4096 + low)

/-- Place a record that finds room (R445 steps 1 and 2). -/
def State.logPlace (s : State) (r : LogRec) : State :=
  let need := s.logUnits + recUnits r - 4096
  { s with evr := { s.evr with log := freeOldest (sevCode r.ev.sev) need s.evr.log ++ [r] } }

/-- A record that opens an incident or makes it real gives it its number where its message could take none at its arrival (R402, R409, log entry 49). -/
def State.incidentSeq (s : State) (r : LogRec) : State :=
  match r.seq with
  | none => s
  | some n =>
    if r.ev.code = 0x0040 || r.ev.code = 0x0041 then
      { s with flt := { s.flt with slots := s.flt.slots.map (fun (x : Nat × Incident) =>
        if x.2.num = leField r.ev.payload 0 4 ∧ x.2.seq = 0 then (x.1, { x.2 with seq := n }) else x) } }
    else s

/-- Place a record that has just arrived; the snapshot triggers are still to see it (R448). -/
def State.logArrive (s : State) (r : LogRec) : State :=
  let t := (s.logPlace r).incidentSeq r
  { t with evr := { t.evr with fresh := t.evr.fresh ++ [r] } }

/-- The drop counter of a severity (EVR_DROP). -/
def dropFld : Sev → Fld
  | .critical => EVR_DROP_CRITICAL
  | .fault => EVR_DROP_FAULT
  | .note => EVR_DROP_NOTE
  | .trace => EVR_DROP_TRACE

/-- A record as it is held: number, epoch, horizon and wall time are those of its arrival. -/
def State.held (s : State) (e : EvRecord) (seq : Option Nat) : LogRec :=
  ⟨e, false, false, seq, s.epoch, s.horizon, s.wallNow, false⟩

/-- A NOTE record that the safety partition makes of itself. -/
def State.ownNote (s : State) (code : Nat) (payload : List Byte) : EvRecord :=
  ⟨.note, false, code, 0, BitVec.ofNat 64 s.tick, payload⟩

/-- A stook number's die index (Table 9-2). -/
def stookDie (n : Nat) : Nat := n / 2048

/-- A stook number's row (Table 9-2). -/
def stookRow (n : Nat) : Nat := n % 2048

/-- System rows of a module with `d` dies per channel (R263). -/
def systemRows (d : Nat) : Nat := if d = 1 then 8 else 4

/-- The role of a freshly formatted stook (R263). Rotation stooks are erased, and the model puts them in the swath (log entry 30). -/
def formatRole (d n : Nat) : Nat :=
  let row := stookRow n
  if row < systemRows d then
    let i := row * d + stookDie n
    if i < 2 then 0x6 else if i < 4 then 0x7 else if i + 1 = systemRows d * d then 0x9 else 0x8
  else if 1354 ≤ row then 0xA else 0x1

/-- A freshly formatted stook: its format erase has added one unit to each column (R288). -/
def formatStook (d n : Nat) : Stook := ⟨formatRole d n, false, false, [], [], 0, 0⟩

/-- The organiser's tables of a module that has no format. -/
def Org.empty : Org := ⟨0, [], [], [], 0, 0, 0, 0, 0, 0, 0, [], [], [], [], 0, [], 0, 0, []⟩

/-- A stook of the table. -/
def Org.stook (o : Org) (n : Nat) : Stook := smapGet (formatStook o.dies) o.stooks n

/-- Store a stook. -/
def Org.setStook (o : Org) (n : Nat) (v : Stook) : Org := { o with stooks := smapSet (formatStook o.dies) o.stooks n v }

/-- The numbers of all stooks (R263): every row of every die index. -/
def Org.all (o : Org) : List Nat := (List.range o.dies).flatMap (fun d => (List.range 1372).map (fun r => d * 2048 + r))

/-- Wear units of a column (R288). -/
def Stook.colWear (v : Stook) (ch : Nat) : Nat := smapGet (fun _ => 1) v.wear ch

/-- The wear of a stook: the highest of its columns (R288). -/
def Stook.wearMax (v : Stook) : Nat := (List.range 17).foldl (fun m c => max m (v.colWear c)) 0

/-- A stook in rotation (R264). -/
def Stook.rotation (v : Stook) : Bool := decide (v.role ≤ 5)

/-- A region that holds nothing (Table 6-1, FREE). -/
def Region.none : Region := ⟨.free, 0, 0, 0, 0, 0, 0, 0, 0, false, 0, false⟩

/-- After an erase the newest remap of a column holds from page 0 (R271): the pages below FIRST_PAGE are no longer on the old block. -/
def collapseRemaps (seen : List Nat) : List (Nat × Nat × Nat) → List (Nat × Nat × Nat)
  | [] => []
  | r :: rs => (if seen.contains r.1 then r else (r.1, 0, r.2.2)) :: collapseRemaps (r.1 :: seen) rs

/-- The remaps of a stook's column, the newest first. -/
def Stook.remapsOf (v : Stook) (ch : Nat) : List (Nat × Nat × Nat) := v.remaps.filter (fun r => decide (r.1 = ch))

/-- The block that a stook's column stands on from now on: the newest donor, else the stook's own row (R270, R271). -/
def Org.columnRow (o : Org) (n ch : Nat) : Nat := (((o.stook n).remapsOf ch).head?.map (fun r => r.2.2)).getD (stookRow n)

/-- The wear of a donor block (R288): that of the withdrawn stook's column that stands on it, and of a spare block what its format left. -/
def Org.donorWear (o : Org) (n ch row : Nat) : Nat :=
  ((o.stooks.find? (fun e => decide (stookDie e.1 = stookDie n) && decide (e.2.role = 0xB) && decide (o.columnRow e.1 ch = row))).map
    (fun e => e.2.colWear ch)).getD 1

/-- What one ledger record does to the tables that replay rebuilds (R273, Table 9-8). An EVENT record acts on nothing (R451). -/
def Org.apply (o : Org) (e : LedgerEntry) : Org :=
  let o := { o with lastSeq := max o.lastSeq e.seq }
  match e.body with
  | .eraseIntent es => { o with intents := es.foldl (fun m x => smapPut m x.1 x.2) o.intents,
                                erased := es.foldl (fun m x => smapPut m x.1 (max e.seq (smapGet (fun _ => 0) m x.1))) o.erased }
  | .eraseDone n tlc failed wear =>
    let v := o.stook n
    let o := { o with intents := smapDel o.intents n, erased := smapPut o.erased n (max e.seq (smapGet (fun _ => 0) o.erased n)) }
    if failed then o else o.setStook n { v with tlc := tlc, half := false, wear := wear, remaps := collapseRemaps [] v.remaps }
  | .form _ _ _ _ => o
  | .remap n ch page donor _ =>
    let v := o.stook n
    o.setStook n { v with remaps := (ch, page, donor) :: v.remaps, wear := smapSet (fun _ => 1) v.wear ch (o.donorWear n ch donor), lodged := v.lodged &&& ~~~(1#17 <<< ch), retired := v.retired &&& ~~~(1#17 <<< ch) }
  | .lodge n ch _ _ => let v := o.stook n; o.setStook n { v with lodged := v.lodged ||| (1#17 <<< ch) }
  | .retire n ch _ _ => let v := o.stook n; o.setStook n { v with retired := v.retired ||| (1#17 <<< ch) }
  | .retireDie ch die => { o with diesRetired := o.diesRetired ++ [ch * 4 + die] }
  | .role n _ new => let v := o.stook n; o.setStook n { v with role := new }
  | .region r v => { o with regions := smapSet (fun _ => Region.none) o.regions r v }
  | .training sp side v => { o with training := smapPut o.training (sp * 2 + side) v }
  | .service ep tk => { o with service := e.seq, serviceEpoch := ep, serviceTick := tk }
  | .attach fails outcome => { o with attachFails := fails, attachOutcome := outcome }
  | .generation a p st h => { o with genActive := a, genPrev := p, genStaged := st, genHigh := h }
  | .sealCommit q _ _ _ _ _ => { o with chainSeqs := o.chainSeqs ++ [q] }
  | .release _ _ => o
  | .chainExtend n => let v := o.stook n; { o.setStook n { v with role := 0x9 } with chainExt := o.chainExt ++ [n] }
  | .checkpoint _ _ _ | .link _ => o
  | .event r => { o with events := o.events ++ [r] }

/-- The next number is a multiple of 2^24 and the previous SEQ_MARK is not confirmed: no number is issued (R440). -/
def State.seqBlocked (s : State) : Bool := s.evr.markOpen && decide (s.evr.nextSeq % 2 ^ 24 = 0)

/-- Take the next number as it stands. -/
def State.rawSeq (s : State) : Nat × State := (s.evr.nextSeq, { s with evr := { s.evr with nextSeq := s.evr.nextSeq + 1 } })

/-- Make a ledger record under the next number: the tables take it, and it is pending until a commit (R274). -/
def State.rawLedger (s : State) (b : LedgerRec) : State :=
  let (n, t) := s.rawSeq
  let e : LedgerEntry := ⟨n, t.tick, t.epoch, b⟩
  { t with flo := { t.flo with org := t.flo.org.apply e, pendingRecs := t.flo.pendingRecs ++ [e] } }

/-- SEQ_MARK (R440): a number that is a multiple of 2^24 goes to a SEQ_MARK record, which is held and mirrored; with the recorder fenced it is written straight to the ledger (R453). -/
def State.ensureMark (s : State) : State :=
  if s.evr.base.isSome && decide (s.evr.nextSeq % 2 ^ 24 = 0) && !s.evr.markOpen then
    let (n, t) := s.rawSeq
    let r := t.held (t.ownNote 0x0045 []) (some n)
    let t := { t with evr := { t.evr with markOpen := true } }
    let t := if t.flag EVR_STS_FENCED then t.bump EVR_FENCED_CNT 1
      else if t.logRoom r then t.logArrive r else t.bump EVR_DROP_NOTE 1
    t.rawLedger (.event r)
  else s

/-- Take a number for a structure that carries one (R439). -/
def State.takeSeq (s : State) : Nat × State := s.ensureMark.rawSeq

/-- Make a ledger record that waits for its number, which 0 stands for (R439, R440). -/
def State.ledgerLater (s : State) (b : LedgerRec) : State :=
  let e : LedgerEntry := ⟨0, s.tick, s.epoch, b⟩
  { s with flo := { s.flo with org := s.flo.org.apply e, pendingRecs := s.flo.pendingRecs ++ [e] } }

/-- Make a ledger record; while no number is issued it waits (R440). -/
def State.ledger (s : State) (b : LedgerRec) : State :=
  if s.seqBlocked || s.evr.base.isNone then s.ledgerLater b
  else s.ensureMark.rawLedger b

/-- Number the ledger records that wait for one, oldest first (R440). -/
def State.numberLedger (s : State) : State :=
  if s.seqBlocked || s.evr.base.isNone then s
  else
    let (out, n) := s.flo.pendingRecs.foldl (fun (acc : List LedgerEntry × Nat) e =>
      if e.seq = 0 then (acc.1 ++ [{ e with seq := acc.2 }], acc.2 + 1) else (acc.1 ++ [e], acc.2)) ([], s.evr.nextSeq)
    { s with flo := { s.flo with pendingRecs := out }, evr := { s.evr with nextSeq := n } }

/-- Mirror a held record (R451): an EVENT ledger record, unless 64 of them wait; a SEQ_MARK and a TIME_STEP always find a place. -/
def State.mirror (s : State) (r : LogRec) : State :=
  let waiting := (s.flo.pendingRecs.filter (fun e => match e.body with | .event _ => true | _ => false)).length
  if 64 ≤ waiting && r.ev.code ≠ 0x0047 then s.bump EVR_MIRROR_NOT 1 else s.ledger (.event r)

/-- Whether a record is mirrored (R451). -/
def State.mirrors (s : State) (e : EvRecord) : Bool :=
  decide (s.fld EVR_CTL_MIRROR_SEV ≤ sevCode e.sev) || [0x0044, 0x0045, 0x0046, 0x0047].contains e.code

/-- Hold a record under a number of its own, and mirror it (R445, R451). With no room it is dropped and takes no number; with the recorder fenced it is only counted (R453). -/
def State.hold (s : State) (e : EvRecord) : State :=
  if s.flag EVR_STS_FENCED then s.bump EVR_FENCED_CNT 1
  else if s.seqBlocked then s.bump (dropFld e.sev) 1
  else if s.evr.base.isNone then
    let r := s.held e none
    if s.logRoom r then s.logArrive r else s.bump (dropFld e.sev) 1
  else
    let t := s.ensureMark
    let (n, u) := t.rawSeq
    let r := u.held e (some n)
    if !t.logRoom r then t.bump (dropFld e.sev) 1
    else
      let u := u.logArrive r
      if u.mirrors e then u.mirror r else u

/-- The number that `hold` gives a record (R439, R445); 0 where it takes none, or none yet. -/
def State.holdNumber (s : State) (e : EvRecord) : Nat :=
  if s.flag EVR_STS_FENCED || s.seqBlocked || s.evr.base.isNone then 0
  else
    let (n, u) := s.ensureMark.rawSeq
    if s.ensureMark.logRoom (u.held e (some n)) then n else 0

/-- A record made in place, held at once. -/
def State.holdNote (s : State) (code src : Nat) (payload : List Byte) : State :=
  s.hold ⟨.note, false, code, Fin.ofNat 1024 src, BitVec.ofNat 64 s.tick, payload⟩

end Sys2Proof.Machine
end

