-- ==== Sys2Proof/Machine/Layout.lean ====
section
/-! DEFINITION. The bytes of what stands on flash: addresses, codewords and their metadata, ears and parity, ledger slots, and the payloads of the image anchor and the boot anchor (R4, R199, R211, R259 to R262, R273, R279, R283, R303, Tables 7-4, 9-2 to 9-4, 9-7 to 9-9). -/

namespace Sys2Proof.Machine

open Reg

/-- A sheaf address (Table 9-4). -/
def sheafAddr (tlc : Bool) (stook page : Nat) : Nat :=
  (if tlc then 2 ^ 31 else 0) + stookDie stook * 2 ^ 21 + stookRow stook * 2 ^ 10 + page

/-- The stook that a sheaf address names. -/
def addrStook (a : Nat) : Nat := natBits a 21 2 * 2048 + natBits a 10 11

/-- The page that a sheaf address names. -/
def addrPage (a : Nat) : Nat := natBits a 0 10

/-- Whether a sheaf address names a TLC-mode stook. -/
def addrTlc (a : Nat) : Bool := decide (natBits a 31 1 = 1)

/-- Pages of a block by mode (Table 9-1). -/
def pagesOf (tlc : Bool) : Nat := if tlc then 768 else 256

/-- The channel of an ear of a base-form sheaf: data ear 0 to 15, or 16 for the parity ear (R262). -/
def earChannel (a ear : Nat) : Nat :=
  let p := addrPage a % 17
  if ear = 16 then p else if ear < p then ear else ear + 1

/-- Lines of one ear, and of one codeword (Table 9-2). -/
def earLines : Nat := 1024

/-- A 64-byte line of the bytes that a list gives. -/
def lineOf (bs : List Byte) : LineData := BitVec.ofNat 512 (leField bs 0 64)

/-- The bytes of a line. -/
def lineBytes (l : LineData) : List Byte := leBytes 64 l.toNat

/-- The lines that a list of bytes fills from line `i` on, with fuel for its length; lines of zeros are unlisted. -/
def linesFrom (i : Nat) (bs : List Byte) : Nat → SMap LineData
  | 0 => []
  | n + 1 =>
    let l := lineOf (bs.take 64)
    let rest := linesFrom (i + 1) (bs.drop 64) n
    if l = 0 then rest else (i, l) :: rest

/-- The lines that a list of bytes fills. -/
def linesOf (bs : List Byte) : SMap LineData := linesFrom 0 bs (ceilDiv bs.length 64)

/-- What a codeword holds (Table 9-2): the 64 lines of its payload and its 64 metadata bytes. -/
structure Codeword where
  payload : List LineData
  metadata : List Byte
deriving DecidableEq, Repr

/-- The metadata of a codeword from the template of its ear (R260, R303): byte 3 (CW) and bytes 60 to 63 (CRC) are its own. -/
def metaFor (template : List Byte) (cw : Nat) : List Byte :=
  let body := sliceBytes template 0 3 ++ leBytes 1 cw ++ sliceBytes (template.drop 4) 0 56
  body ++ leBytes 4 (crc32c body).toNat

/-- The metadata template of an ear (Table 9-3). -/
def metaTemplate (typ form ear object gen stamp epoch : Nat) (digest : List Byte) : List Byte :=
  leBytes 1 typ ++ leBytes 1 form ++ leBytes 1 ear ++ leBytes 1 0 ++ leBytes 4 object ++ leBytes 4 gen ++ leBytes 8 stamp ++ leBytes 4 epoch ++
    sliceBytes digest 0 32 ++ leBytes 8 0

/-- The template of the vacant pattern: TYPE 0xFF and zeros (R303). -/
def vacantTemplate : List Byte := 0xFF#8 :: List.replicate 63 0

/-- A codeword written with the vacant pattern (R303). -/
def vacantCodeword (cw : Nat) : Codeword := ⟨List.replicate 64 0, metaFor vacantTemplate cw⟩

/-- Codeword `cw` of an ear with the lines and the template given. -/
def earCodeword (lines : SMap LineData) (template : List Byte) (cw : Nat) : Codeword :=
  ⟨(List.range 64).map (fun i => smapGet (fun _ => 0) lines (cw * 64 + i)), metaFor template cw⟩

/-- The place of an ear on the array: channel, die, block and page. -/
def earKey (ch d b p : Nat) : Nat := ((ch * 4 + d) * 2048 + b) * 1024 + p

/-- The codeword that a PROGRAM of KIND 0x2 writes: PRBS31 seeded with its place, under vacant metadata (R303). -/
def patternCodeword (key cw : Nat) : Codeword :=
  ⟨(List.range 64).map (fun i => lineOf ((List.range 64).map (fun j => Config.prbs31 key cw (i * 64 + j)))), metaFor vacantTemplate cw⟩

/-- The raw codeword of 4,608 bytes (R303, Table 9-2): payload and metadata XORed with the PRBS31 stream of the place, and the LDPC code's check bytes. -/
def rawCodeword (key cw : Nat) (c : Codeword) : List Byte :=
  let plain := c.payload.flatMap lineBytes ++ c.metadata
  let x := (List.range plain.length).zipWith (fun i b => b ^^^ Config.prbs31 key cw i) plain
  x ++ (List.range 448).map (Config.ldpcParity x)

/-- Zero bits of a byte. -/
def zeroBits (b : Byte) : Nat := ((List.range 8).filter (fun i => !b.getLsbD i)).length

/-- The engine's test for an erased codeword, before it descrambles: fewer than 64 zero bits (R303). -/
def rawErased (bs : List Byte) : Bool := decide ((bs.map zeroBits).sum < 64)

/-- The lines of a check sheaf: the check bytes of each line of the group, 16 bytes each, in granule order (R155, R200). -/
def checkLines (m : SMap CheckBytes) : SMap LineData :=
  m.foldl (fun (acc : SMap LineData) e =>
    let l := e.1 / 4
    smapSet (fun _ => 0#512) acc l (smapGet (fun _ => 0#512) acc l ||| ((e.2.setWidth 512 : LineData) <<< (128 * (e.1 % 4))))) []

/-- The lines of a sheaf's 1 MiB: data, or for the check types the check bytes. -/
def Sheaf.lines (x : Sheaf) : SMap LineData := if x.typ = 2 ∨ x.typ = 4 ∨ x.typ = 6 then checkLines x.chk else x.data

/-- Data ear `k` of a sheaf's lines (R198). -/
def earOf (ls : SMap LineData) (k : Nat) : SMap LineData :=
  (ls.filter (fun e => decide (e.1 / earLines = k))).map (fun e => (e.1 % earLines, e.2))

/-- The parity ear: the bytewise XOR of the 16 data ears (R199). -/
def parityOf (ls : SMap LineData) : SMap LineData :=
  ls.foldl (fun (m : SMap LineData) e =>
    let i := e.1 % earLines
    smapSet (fun _ => 0) m i (smapGet (fun _ => 0) m i ^^^ e.2)) []

/-- The lines of an ear of a sheaf: data ear 0 to 15, or 16 for the parity ear. -/
def earLinesOf (ls : SMap LineData) (k : Nat) : SMap LineData := if k = 16 then parityOf ls else earOf ls k

/-- The metadata template of an ear of a sheaf (R199, Table 9-3): GEN is held by the image types alone. -/
def Sheaf.template (x : Sheaf) (k : Nat) : List Byte :=
  metaTemplate x.typ x.form k x.object (if [1, 2, 7, 8, 9].contains x.typ then x.gen else 0) x.stamp x.epoch x.digest

/-- TYPE of a ledger record (Table 9-8); EVENT is 0x12 (R451). -/
def LedgerRec.typ : LedgerRec → Nat
  | .eraseIntent _ => 0x01 | .eraseDone _ _ _ _ => 0x02 | .form _ _ _ _ => 0x03 | .remap _ _ _ _ _ => 0x04 | .lodge _ _ _ _ => 0x05
  | .retire _ _ _ _ => 0x06 | .retireDie _ _ => 0x06 | .role _ _ _ => 0x07 | LedgerRec.region _ _ => 0x08 | .training _ _ _ => 0x09
  | .service _ _ => 0x0A | .attach _ _ => 0x0B | .generation _ _ _ _ => 0x0C | .sealCommit _ _ _ _ _ _ => 0x0D | .release _ _ => 0x0E
  | .chainExtend _ => 0x0F | .checkpoint _ _ _ => 0x10 | .link _ => 0x11 | .event _ => 0x12

/-- The code of a region's state in a REGION record. -/
def regionCode : RegionSt → Nat
  | .free => 0 | .capturing => 1 | .opened => 2 | .closing => 3 | .sealed => 4

/-- The body of a ledger record (Table 9-8), little-endian (R4). Where the table gives no width the field has the one that holds its values (log entry 81). -/
def LedgerRec.body : LedgerRec → List Byte
  | .eraseIntent es => leBytes 1 es.length ++ es.flatMap (fun x => leBytes 2 x.1 ++ leBytes 1 (if x.2 then 1 else 0))
  | .eraseDone n tlc failed wear =>
    leBytes 2 n ++ leBytes 1 (if tlc then 1 else 0) ++ leBytes 1 (if failed then 1 else 0) ++
      (List.range 17).flatMap (fun c => leBytes 2 (smapGet (fun _ => 1) wear c))
  | .form n page plan kmap => leBytes 2 n ++ leBytes 2 page ++ leBytes 1 plan ++ kmap.flatMap (leBytes 1)
  | .remap n ch page donor reason => leBytes 2 n ++ leBytes 1 ch ++ leBytes 2 page ++ leBytes 2 donor ++ leBytes 1 reason
  | .lodge n ch sign value => leBytes 2 n ++ leBytes 1 ch ++ leBytes 1 sign ++ leBytes 4 value
  | .retire n ch page cause => leBytes 2 n ++ leBytes 1 ch ++ leBytes 2 page ++ leBytes 1 cause
  | .retireDie ch die => leBytes 1 ch ++ leBytes 1 die
  | .role n old new => leBytes 2 n ++ leBytes 1 old ++ leBytes 1 new
  | .region r v => leBytes 2 r ++ leBytes 1 (regionCode v.st) ++ leBytes 1 v.prio ++ leBytes 4 v.first ++ leBytes 4 v.count ++ leBytes 8 v.cap ++
      leBytes 4 v.capEpoch
  | .training sp side v => leBytes 1 sp ++ leBytes 1 side ++ leBytes 1 v.st ++ leBytes 4 v.geom.toNat ++ leBytes 4 v.rev.toNat ++ leBytes 4 v.band.toNat ++
      v.words.flatMap (fun x => leBytes 4 x.2.toNat)
  | .service epoch tick => leBytes 4 epoch ++ leBytes 8 tick
  | .attach fails outcome => leBytes 4 fails ++ leBytes 1 outcome
  | .generation active prev staged high => leBytes 4 active ++ leBytes 4 prev ++ leBytes 4 staged ++ leBytes 4 high
  | .sealCommit seq sheaf ear cw start len => leBytes 6 seq ++ leBytes 4 sheaf ++ leBytes 1 ear ++ leBytes 1 cw ++ leBytes 4 start ++ leBytes 4 len
  | .release seq r => leBytes 6 seq ++ leBytes 2 r
  | .chainExtend n => leBytes 2 n
  | .checkpoint part parts content => leBytes 2 part ++ leBytes 2 parts ++ content
  | .link n => leBytes 2 n
  | .event r => recBytes r

/-- SLOTS of a record (Table 9-7): the first slot holds 40 bytes of the body, and each continuation slot 60. -/
def LedgerEntry.slotCount (e : LedgerEntry) : Nat := 1 + ceilDiv (e.body.body.length - 40) 60

/-- A slot with its CRC (Table 9-7). -/
def slotBytes (body : List Byte) : List Byte :=
  let b := sliceBytes body 0 60
  b ++ leBytes 4 (crc32c b).toNat

/-- The slots of a ledger record, each with its own CRC (R273, Table 9-7). -/
def LedgerEntry.bytes (e : LedgerEntry) : List Byte :=
  let b := e.body.body
  let first := leBytes 1 e.body.typ ++ leBytes 1 e.slotCount ++ leBytes 6 e.seq ++ leBytes 8 e.tick ++ leBytes 4 e.epoch ++ sliceBytes b 0 40
  slotBytes first ++ (List.range (e.slotCount - 1)).flatMap (fun i => slotBytes (b.drop (40 + 60 * i)))

/-- The ear of a ledger commit (R274): its records' slots; the slots after them are empty. -/
def Commit.lines (c : Commit) : SMap LineData := linesOf (c.recs.flatMap LedgerEntry.bytes)

/-- A stook of the checkpoint's table: role, mode and mark, lodged and retired columns, and the wear of each column (R275, Table 9-8, log entry 106). -/
def Stook.bytes (v : Stook) : List Byte :=
  leBytes 1 v.role ++ leBytes 1 ((if v.tlc then 1 else 0) + (if v.half then 2 else 0)) ++ leBytes 3 v.lodged.toNat ++ leBytes 3 v.retired.toNat ++
    (List.range 17).flatMap (fun c => leBytes 2 (v.colWear c))

/-- A body with its TYPE before it and its length. -/
def LedgerRec.tagged (b : LedgerRec) : List Byte := leBytes 1 b.typ ++ leBytes 2 b.body.length ++ b.body

/-- What the parts of a checkpoint carry together (R275, Table 9-8): the full stook table with its wear counts, the remaps, the region table, and the newest records of types 0x09 to 0x0C. -/
def Org.checkpointBytes (o : Org) : List Byte :=
  o.all.flatMap (fun n => (o.stook n).bytes) ++
  o.stooks.flatMap (fun e => e.2.remaps.flatMap (fun r => LedgerRec.tagged (.remap e.1 r.1 r.2.1 r.2.2 0))) ++
  o.regions.flatMap (fun e => LedgerRec.tagged (.region e.1 e.2)) ++
  o.chainExt.flatMap (fun n => LedgerRec.tagged (.chainExtend n)) ++
  o.training.flatMap (fun e => LedgerRec.tagged (.training (e.1 / 2) (e.1 % 2) e.2)) ++
  LedgerRec.tagged (.service o.serviceEpoch o.serviceTick) ++ LedgerRec.tagged (.attach o.attachFails o.attachOutcome) ++
  LedgerRec.tagged (.generation o.genActive o.genPrev o.genStaged o.genHigh)

/-- Cut bytes into pieces of at most `k`, with fuel for their count. -/
def cutBytes (k : Nat) : Nat → List Byte → List (List Byte)
  | 0, _ => []
  | n + 1, bs => bs.take k :: cutBytes k n (bs.drop k)

/-- The CHECKPOINT records of the tables (R275): parts of at most 936 bytes, which with the part number and the count fill 16 slots. -/
def Org.checkpoint (o : Org) : List LedgerRec :=
  let bs := o.checkpointBytes
  let n := max 1 (ceilDiv bs.length 936)
  (cutBytes 936 n bs).zipIdx.map (fun x => .checkpoint x.2 n x.1)

/-- A bitmap of 524,288 bits as lines from line `i` on, for the granules that a map lists (R166, R209). -/
def bitLines (i : Nat) (gs : List Nat) : SMap LineData :=
  gs.foldl (fun (m : SMap LineData) g => smapPut m (i + g / 512) (smapGet (fun _ => 0#512) m (i + g / 512) ||| (1#512 <<< (g % 512)))) []

/-- A region of the metadata sheaf: what its REGION record holds, and what its open or latest seal needs (Table 6-1). -/
def Region.line (r : Nat) (v : Region) : LineData :=
  lineOf ((LedgerRec.region r v).body ++ leBytes 8 v.openStamp ++ leBytes 4 v.openEpoch ++ leBytes 6 v.sealSeq ++ leBytes 4 v.mismatch ++
    leBytes 1 (if v.verified then 1 else 0))

/-- The content of the metadata sheaf of an image (R174, R209, R277): a line for each region, the coverage map, the repair map, and the ledger records' slots (log entry 106). -/
def metadataLines (regions : SMap Region) (cover : SMap Bool) (repair : SMap Nat) (recs : List LedgerEntry) : SMap LineData :=
  regions.map (fun e => (e.1, Region.line e.1 e.2)) ++ bitLines 1024 (cover.map (·.1)) ++ bitLines 2048 (repair.map (·.1)) ++
    linesFrom 3072 (recs.flatMap LedgerEntry.bytes) (recs.map LedgerEntry.slotCount).sum

/-- Cut a list of ledger records into commits of at most 1,024 slots (R274). -/
def commitParts : List LedgerEntry → List (List LedgerEntry)
  | [] => []
  | e :: es => match commitParts es with
    | [] => [[e]]
    | p :: ps => if e.slotCount + (p.map (·.slotCount)).sum ≤ 1024 then (e :: p) :: ps else [e] :: p :: ps

/-- The payload of an image anchor (R211, Table 7-4). -/
def Image.payload (i : Image) : List Byte :=
  let flags := (if i.threshed then 1 else 0) + (if i.narrowed then 2 else 0) + (if i.keeper then 4 else 0) + (if i.degraded then 8 else 0)
  let body := [0x59#8, 0x47, 0x49, 0x41] ++ leBytes 1 1 ++ leBytes 1 i.plan ++ leBytes 1 i.pos ++ leBytes 1 flags ++ leBytes 4 i.gen ++ leBytes 4 i.epoch ++
    leBytes 8 i.f ++ leBytes 4 i.configGen ++ leBytes 4 i.geom ++ leBytes 4 i.rev ++ leBytes 4 i.prevGen ++ leBytes 4 i.indexAddr ++
    leBytes 2 i.indexSheaves ++ leBytes 2 0 ++ leBytes 4 i.omitted ++ leBytes 4 i.sheaves ++ leBytes 8 i.tick ++ leBytes 8 i.wall ++ leBytes 6 i.seq ++
    leBytes 2 0 ++ sliceBytes i.indexDigest 0 32 ++ leBytes 6 i.contentSeq ++ leBytes 6 0
  body ++ leBytes 4 (crc32c body).toNat ++ List.replicate 3968 0

/-- The directory of one twin in a boot anchor (Table 9-9): PAGE, LEN, GEN and SHA-256 of the firmware, slot 0 and slot 1. -/
def BootAnchor.dirBytes (b : BootAnchor) (twin : Nat) : List Byte :=
  (List.range 3).flatMap (fun k => match smapFind b.dir (twin * 3 + k) with
    | some (page, len, gen, sha) => leBytes 2 page ++ leBytes 4 len ++ leBytes 4 gen ++ sliceBytes sha 0 32
    | none => List.replicate 42 0) ++ leBytes 2 0

/-- The metadata template of an ANCHOR codeword (Table 9-3): GEN, F and the boot epoch of an image's anchor, which its payload holds; a boot anchor has none. -/
def anchorTemplate (bs : List Byte) : List Byte :=
  if leField bs 0 4 = 0x41494759 then metaTemplate 0x09 0 0 0 (leField bs 8 4) (leField bs 16 8) (leField bs 12 4) [] else metaTemplate 0x09 0 0 0 0 0 0 []

/-- The payload of a boot anchor (Table 9-9). -/
def BootAnchor.payload (b : BootAnchor) : List Byte :=
  let body := [0x59#8, 0x47, 0x42, 0x41] ++ leBytes 1 1 ++ leBytes 1 (b.twin + 2 * b.slot) ++ leBytes 2 0 ++ leBytes 4 b.no ++ leBytes 4 b.fails ++
    leBytes 4 b.high ++ leBytes 2 b.ledgerStook ++ leBytes 2 b.ledgerCommit ++ leBytes 8 0 ++ b.dirBytes 0 ++ b.dirBytes 1 ++ List.replicate 3804 0
  body ++ leBytes 4 (crc32c body).toNat

/-- The ears that a chain entry and its manifest fill (R279): the entry's 256 bytes, then 8 bytes for each covered granule. -/
def ChainEnt.ears (manifest : SMap Nat) : Nat := ceilDiv (256 + 8 * manifest.length) 65536

/-- The ears of a chain entry and its manifest (R279): the entry's 256 bytes, then for each covered granule its index and its sheaf address. -/
def ChainEnt.lines (c : ChainEnt) : SMap LineData :=
  linesOf (c.bytes ++ c.manifest.flatMap (fun e => leBytes 4 e.1 ++ leBytes 4 e.2))

end Sys2Proof.Machine
end

