-- ==== Sys2Proof/Machine/Stooks.lean ====
section
/-! DEFINITION. The flash organiser: sheaf addresses, stook pools, remap, erases, the swath, anchors and the boot anchor (R259 to R292). -/

namespace Sys2Proof.Machine

open Reg

/-- The organiser's entry of a stook. -/
def State.stook (s : State) (n : Nat) : Stook := s.flo.org.stook n

/-- Pages of a stook that are used. -/
def State.usedOf (s : State) (n : Nat) : Nat := smapGet (fun _ => 0) s.flash.used n

/-- Set the used pages of a stook. -/
def State.setUsed (s : State) (n k : Nat) : State := { s with flash := { s.flash with used := smapSet (fun _ => 0) s.flash.used n k } }

/-- Change a stook's role, with its ROLE record (R263). -/
def State.setRole (s : State) (n role : Nat) : State :=
  if (s.stook n).role = role then s else s.ledger (.role n (s.stook n).role role)

/-- The stooks of a role. -/
def State.ofRole (s : State) (role : Nat) : List Nat := s.flo.org.all.filter (fun n => decide ((s.stook n).role = role))

/-- The erased stooks of a role. -/
def State.erasedOf (s : State) (role : Nat) : List Nat := (s.ofRole role).filter (fun n => decide (s.usedOf n = 0) && !(s.stook n).half)

/-- The stook of a list with the lowest wear; ties go to the lower number (R288). -/
def State.lowestWear (s : State) : List Nat → Option Nat
  | [] => none
  | n :: ns => match s.lowestWear ns with
    | none => some n
    | some m => if (s.stook m).wearMax < (s.stook n).wearMax then some m else some n

/-- A die of a die index is unsupported: no program and no erase is issued to it (R257). -/
def State.dieBarred (s : State) (d : Nat) : Bool := s.flo.dieTable.any (fun e => !e.2.1 && decide (e.1 % 4 = d))

/-- Whether the die of a channel takes programs and erases: its channel is not fenced, and it is not unsupported (R257). -/
def State.dieOpen (s : State) (ch d : Nat) : Bool :=
  !s.flag (FCE_STS_FENCED ch) && !s.flo.dieTable.any (fun e => decide (e.1 = ch * 4 + d) && !e.2.1)

/-- A stook that may take new sheaves: no lodged and no retired column without a remap (R290, R291), and no unsupported die (R257). -/
def State.writable (s : State) (n : Nat) : Bool :=
  decide ((s.stook n).lodged = 0) && decide ((s.stook n).retired = 0) && !(s.stook n).half && !s.dieBarred (stookDie n)

/-- Erased sheaves left in a stook (SLC mode). -/
def State.sheavesLeft (s : State) (n : Nat) : Nat := 256 - s.usedOf n

/-- A stook of the swath with pages left. -/
def State.swathOpen (s : State) (n : Nat) : Bool := decide ((s.stook n).role = 1) && decide (s.usedOf n < 256) && s.writable n

/-- The swath in order (R266): the formatted stooks in number order, then those that an erase has added, as they joined. -/
def State.swathOrder (s : State) : List Nat :=
  ((s.ofRole 1).filter (fun n => !s.flash.swath.contains n && s.swathOpen n)) ++ s.flash.swath.filter s.swathOpen

/-- Erased sheaves of the swath (R269). -/
def State.swathSheaves (s : State) : Nat := (s.swathOrder.map s.sheavesLeft).sum

/-- CAP_GRAN of the active configuration image (Table 8-1). -/
def State.capGran (s : State) : Nat := leField s.pln.image 20 4

/-- The swath target in sheaves: a full image of the active generation, rounded up to whole stook sets (R267). -/
def State.swathTarget (s : State) : Nat :=
  let c := s.capGran
  if c = 0 then 0
  else
    let n := c * 5 / 4
    let total := n + 1 + ceilDiv n 131072
    ceilDiv total (256 * max 1 s.flo.org.dies) * (256 * max 1 s.flo.org.dies)

/-- SWATH_SHORT (R269): set and reported when the swath and the FREE stooks fall below the target; it clears when they suffice. -/
def State.swathCheck (s : State) : State :=
  let short := decide (s.swathSheaves + (s.ofRole 0).length * 256 < s.swathTarget)
  if short && !s.flag FLO_STS_SWATH_SHORT then (s.setFlag FLO_STS_SWATH_SHORT true).report .swathShort 143 0 0
  else if !short then s.setFlag FLO_STS_SWATH_SHORT false
  else s

/-- Take a page of a stook; a full swath stook becomes IMAGE (Table 9-6). -/
def State.takePage (s : State) (n : Nat) : Nat × State :=
  let p := s.usedOf n
  let t := s.setUsed n (p + 1)
  (sheafAddr (s.stook n).tlc n p, if p + 1 = 256 && (s.stook n).role = 1 then t.setRole n 3 else t)

/-- The first die index from the turn on for which `f` finds a stook, with the stook (R266). -/
def State.byTurn (s : State) (f : Nat → Option Nat) : Option (Nat × Nat) :=
  let d := max 1 s.flo.org.dies
  (List.range d).findSome? (fun i =>
    let die := (s.flash.turn + i) % d
    (f die).map (fun n => (n, die)))

/-- The die index after one takes the next turn. -/
def State.turnFrom (s : State) (die : Nat) : State := { s with flash := { s.flash with turn := (die + 1) % max 1 s.flo.org.dies } }

/-- The next sheaf position of the swath: die indexes in turn, at the next free page of the current stook on that die index (R266). -/
def State.allocSwath (s : State) : Option (Nat × State) :=
  (s.byTurn (fun die => s.swathOrder.find? (fun n => decide (stookDie n = die)))).map (fun x =>
    let (a, t) := s.takePage x.1
    (a, t.turnFrom x.2))

/-- The next sheaf position of the glean reserve (R176): the open GLEAN stook, or the erased RESERVE stook of lowest wear. -/
def State.allocGlean (s : State) : Option (Nat × State) :=
  match (s.ofRole 4).find? (fun n => decide (s.usedOf n < 256) && s.writable n) with
  | some n => some (s.takePage n)
  | none => match s.lowestWear ((s.erasedOf 2).filter s.writable) with
    | some n => some ((s.setRole n 4).takePage n)
    | none => none

/-- The next sheaf position in the TLC pool (R265). -/
def State.allocTlc (s : State) : Option (Nat × State) :=
  match s.lowestWear ((s.ofRole 5).filter (fun n => decide (s.usedOf n < 768) && s.writable n)) with
  | some n =>
    let p := s.usedOf n
    some (sheafAddr true n p, s.setUsed n (p + 1))
  | none => none

/-- The TLC stook that a thresh writes on a die index: the one it has begun, else the one of lowest wear (R265, R288). -/
def State.threshStook (s : State) (die : Nat) : Option Nat :=
  let open' := (s.ofRole 5).filter (fun n => decide (stookDie n = die) && decide (s.usedOf n < 768) && s.writable n)
  match open'.find? (fun n => decide (s.usedOf n ≠ 0)) with
  | some n => some n
  | none => s.lowestWear open'

/-- The next position of a threshed copy: die indexes in turn, as a save takes them (R265). -/
def State.allocThresh (s : State) : Option (Nat × State) :=
  (s.byTurn s.threshStook).map (fun x => (sheafAddr true x.1 (s.usedOf x.1), (s.setUsed x.1 (s.usedOf x.1 + 1)).turnFrom x.2))

/-- The rows of a narrow sheaf's ears (R205): ear `q` of the run's `j`-th sheaf lies on keeper position (q + j) mod 8, in the next free row of that channel's column. `m` holds the next free rows by stook × 32 + channel, and a column that the run has not written starts at `base`. -/
def narrowRows (kmap : List Nat) (j n base : Nat) : Nat → Nat → SMap Nat → List Nat × SMap Nat
  | 0, _, m => ([], m)
  | k + 1, q, m =>
    let key := n * 32 + kmap.getD ((q + j) % 8) 0
    let row := (smapFind m key).getD base
    let (rs, m') := narrowRows kmap j n base k (q + 1) (smapPut m key (row + 1))
    (row :: rs, m')

/-- A narrow sheaf placed in a stook: its rows, and the rows then taken. The first row of the run in the stook stands under stook × 32 + 17. -/
def State.narrowIn (s : State) (kmap : List Nat) (j : Nat) (m : SMap Nat) (n : Nat) : List Nat × SMap Nat :=
  let base := (smapFind m (n * 32 + 17)).getD (s.usedOf n)
  narrowRows kmap j n base 17 0 (smapPut m (n * 32 + 17) base)

/-- Whether a narrow sheaf finds rows in a stook. -/
def State.narrowFits (s : State) (tlc : Bool) (kmap : List Nat) (j : Nat) (m : SMap Nat) (n : Nat) : Bool :=
  (s.narrowIn kmap j m n).1.all (fun r => decide (r < pagesOf tlc))

/-- The next position of a narrow sheaf: stooks in the order of R266, its address named by the row of its ear 0 (R205, log entry 40). -/
def State.allocNarrow (s : State) (tlc : Bool) (kmap : List Nat) (j : Nat) (m : SMap Nat) : Option (Nat × List Nat × SMap Nat × State) :=
  let pick := s.byTurn (fun die =>
    if tlc then (s.threshStook die).filter (s.narrowFits true kmap j m)
    else s.swathOrder.find? (fun n => decide (stookDie n = die) && s.narrowFits false kmap j m n))
  pick.map (fun x =>
    let (rows, m') := s.narrowIn kmap j m x.1
    let last := rows.foldl max 0 + 1
    let t := (s.setUsed x.1 (max (s.usedOf x.1) last)).turnFrom x.2
    (sheafAddr tlc x.1 (rows.getD 0 0), rows, m', if !tlc && 256 ≤ last then t.setRole x.1 3 else t))

/-- Store a sheaf at its address. -/
def State.putSheaf (s : State) (a : Nat) (v : Sheaf) : State := { s with flash := { s.flash with sheaves := smapPut s.flash.sheaves a v } }

/-- A sheaf on flash. -/
def State.sheaf (s : State) (a : Nat) : Option Sheaf := smapFind s.flash.sheaves a

/-- The two newest chains' images (R159): the current chain and the chain before it. -/
def State.liveImages (s : State) : List Image :=
  let cur := (s.flash.images.getLast?.map (·.chain)).getD 0
  let before := ((s.flash.images.filter (fun i => decide (i.chain ≠ cur))).getLast?.map (·.chain)).getD 0
  s.flash.images.filter (fun i => decide (i.chain = cur) || decide (i.chain = before))

/-- Whether an index names a sheaf. -/
def Image.names (i : Image) (a : Nat) : Bool :=
  i.gran.any (fun e => decide (e.2.st = 0) && decide (e.2.entry.kind ≠ 0) && decide (e.2.entry.sheaf = a))
  || i.group.any (fun e => decide (e.2.st = 0) && decide (e.2.entry.kind ≠ 0) && decide (e.2.entry.sheaf = a))
  || i.own.contains a

/-- Whether the save map or the check map names a sheaf. -/
def State.mapNames (s : State) (a : Nat) : Bool :=
  (s.per.smap.kv.any (fun e => decide (e.2.kind ≠ 0) && decide (e.2.sheaf = a)))
  || (s.per.cmap.kv.any (fun e => decide (e.2.kind ≠ 0) && decide (e.2.sheaf = a)))

/-- What a manifest says now (R279): as it was confirmed, with the updates that the fold has appended since. -/
def State.manifestOf (s : State) (c : ChainEnt) : SMap Nat :=
  s.flash.updates.foldl (fun (m : SMap Nat) u => m.map (fun e => if e.1 = u.2.1 ∧ e.2 = u.2.2.1 then (e.1, u.2.2.2) else e)) c.manifest

/-- Whether an unreleased seal manifest names a sheaf (R185), on the chain store or under commit. -/
def State.manifestNames (s : State) (a : Nat) : Bool :=
  s.flash.chain.any (fun c => !c.released && (s.manifestOf c).any (fun e => decide (e.2 = a)))
  || s.sea.flight.any (fun f => f.manifest.any (fun e => decide (e.2 = a)))

/-- Whether a sheaf belongs to the glean stream of a region whose seal is open or closing (R152, R183). -/
def State.streamHolds (s : State) (a : Nat) : Bool :=
  (smapFind s.flash.sheaves a).any (fun x => decide (x.typ = 3) && s.gln.regions.any (fun e =>
    (decide (e.2.st = .opened) || decide (e.2.st = .closing)) && decide (e.2.first ≤ x.object) && decide (x.object < e.2.first + e.2.count)))

/-- Whether a sheaf is still held (R159, R185), or is under way. -/
def State.sheafHeld (s : State) (a : Nat) : Bool :=
  s.mapNames a || s.manifestNames a || s.streamHolds a || s.liveImages.any (fun i => i.names a)
  || s.gln.slots.any (fun x => decide (x.sheaf = some a)) || s.per.confirms.any (fun c => decide (c.sheaf = a))
  || s.bdc.jobs.any (fun j => decide (j.sheaf = some a))
  || s.sav.threshCopies.any (fun e => decide (e.2 = a)) || s.sav.run.any (fun r => r.flight.any (fun f => decide (f.addr = a)))

/-- Written stooks that no reference holds become FREE (R159, R268). A stook that is still being filled is left. -/
def State.freeStooks (s : State) : State :=
  s.flo.org.all.foldl (fun (u : State) n =>
    let v := u.stook n
    let full := decide (v.role = 3) || (decide (v.role = 4) && decide (256 ≤ u.usedOf n)) || (decide (v.role = 5) && (decide (768 ≤ u.usedOf n) || !u.writable n))
    if full && !(u.flash.sheaves.any (fun e => decide (addrStook e.1 = n) && u.sheafHeld e.1)) then u.setRole n 0 else u) s

/-- A column of a withdrawn stook that is neither lodged nor retired: its block is a donor (R272). -/
def Stook.freed (v : Stook) (ch : Nat) : Bool := decide (v.role = 0xB) && !v.lodged.getLsbD ch && !v.retired.getLsbD ch

/-- Donor rows of a (die index, channel) pool that are in use, or have been. -/
def Org.usedDonors (o : Org) (die ch : Nat) : List Nat :=
  o.stooks.flatMap (fun e =>
    if stookDie e.1 = die then ((if e.2.freed ch then (e.2.remapsOf ch).drop 1 else e.2.remapsOf ch)).map (fun r => r.2.2) else [])

/-- Donor rows left in a (die index, channel) pool: spare rows whose block is not bad, then the unworn columns of withdrawn stooks (R270, R272). -/
def Org.donors (o : Org) (die ch : Nat) : List Nat :=
  let spare := ((List.range 18).map (fun i => 1354 + i)).filter (fun r => !(o.stook (die * 2048 + r)).retired.getLsbD ch)
  let withdrawn := (o.stooks.filter (fun e => decide (stookDie e.1 = die) && e.2.freed ch)).map (fun e => o.columnRow e.1 ch)
  (spare ++ withdrawn).filter (fun r => !(o.usedDonors die ch).contains r)

/-- SPARE_LOW (R272): some pool holds fewer than 2 donors. -/
def State.spareCheck (s : State) : State :=
  let low := (List.range s.flo.org.dies).any (fun d => (List.range 17).any (fun c => decide ((s.flo.org.donors d c).length < 2)))
  s.setFlag FLO_STS_SPARE_LOW low

/-- Substitute a donor for a column from a page on, with its REMAP record; false where the pool has none (R270 to R272). -/
def State.remapColumn (s : State) (n ch page reason : Nat) : State × Bool :=
  match s.flo.org.donors (stookDie n) ch with
  | [] => (s, false)
  | r :: _ => ((s.ledger (.remap n ch page r reason)).spareCheck, true)

/-- The physical row of a stook's column at a page: the newest remap that starts at or below the page, else the stook's own row (R270, R271). -/
def Org.physRow (o : Org) (n ch page : Nat) : Nat :=
  match (o.stook n).remaps.find? (fun r => decide (r.1 = ch) && decide (r.2.1 ≤ page)) with
  | some r => r.2.2
  | none => stookRow n

/-- The stook whose column on a channel and die index is a physical block, if any: the one whose newest donor it is, else one whose older pages stand on it, else the stook of the row. -/
def Org.stookOfBlock (o : Org) (ch die row : Nat) : Option Nat :=
  let on := fun (p : Stook → Bool) => o.stooks.find? (fun e => decide (stookDie e.1 = die) && p e.2)
  match on (fun v => decide (v.role ≠ 0xB) && decide ((v.remapsOf ch).head?.map (fun r => r.2.2) = some row)),
        on (fun v => (v.remapsOf ch).any (fun r => decide (r.2.2 = row))) with
  | some e, _ => some e.1
  | none, some e => some e.1
  | none, none => if row < 1354 then some (die * 2048 + row) else none

/-- Remap the lodged and retired columns of a stook before its erase (R270, R292); false where one has no donor, and the whole stook is withdrawn (R272). -/
def State.remapWorn (s : State) (n : Nat) : State × Bool :=
  (List.range 17).foldl (fun (acc : State × Bool) ch =>
    let v := acc.1.stook n
    if !acc.2 then acc
    else if v.lodged.getLsbD ch then acc.1.remapColumn n ch 0 1
    else if v.retired.getLsbD ch then acc.1.remapColumn n ch 0 2
    else acc) (s, true)

/-- A stook is withdrawn (R272). -/
def State.withdraw (s : State) (n : Nat) : State := ((s.setRole n 0xB).setFlag FLO_STS_WITHDRAWN true).spareCheck

/-- Plan the erase of a stook (R280): its ERASE_INTENT is made; the erase is issued when the intent is confirmed. A rotation stook with a worn column and no donor is withdrawn (R272), and nothing is erased on an unsupported die (R257). -/
def State.planErase (s : State) (n : Nat) (tlc : Bool) : State :=
  if s.flo.erases.any (fun j => decide (j.stook = n)) || s.dieBarred (stookDie n) then s
  else
    let (t, ok) := s.remapWorn n
    if !ok && (t.stook n).rotation then t.withdraw n
    else
      let t := t.ledger (.eraseIntent [(n, tlc)])
      { t with flo := { t.flo with erases := t.flo.erases ++ [⟨n, tlc, false, 0, 0⟩] } }

/-- Whether the glean reserve is below its configured size. -/
def State.reserveShort (s : State) : Bool := decide ((s.erasedOf 2).length < s.fld GLN_RESERVE_STOOKS)

/-- Move erased swath stooks into the glean reserve while it is short, the lowest wear first (R268: the reserve is filled before the swath). Of stooks that no erase has just added, only those above the swath's target move. -/
def State.fillReserve (s : State) (above : Bool) : Nat → State
  | 0 => s
  | k + 1 =>
    if s.reserveShort && (!above || decide (s.swathTarget + 256 ≤ s.swathSheaves)) then
      match s.lowestWear ((s.erasedOf 1).filter s.writable) with
      | some n => (s.setRole n 2).fillReserve above k
      | none => s
    else s

/-- GLN_STS.RESERVE_EMPTY follows the reserve (R176). -/
def State.reserveFlag (s : State) : State := s.setFlag GLN_STS_RESERVE_EMPTY (decide ((s.erasedOf 2).length = 0))

/-- SLC-mode stooks that the reserve and the swath still need, those being erased counted as there (R268). -/
def State.slcNeed (s : State) : Nat :=
  let coming := (s.flo.erases.filter (fun j => !j.tlc && (s.stook j.stook).rotation)).length
  (s.fld GLN_RESERVE_STOOKS - (s.erasedOf 2).length) + ceilDiv (s.swathTarget - s.swathSheaves) 256 - coming

/-- FREE stooks by rising wear, with no erase planned (R288). -/
def State.freeByWear (s : State) : Nat → List Nat → List Nat
  | 0, _ => []
  | k + 1, l => match s.lowestWear l with
    | some n => n :: s.freeByWear k (l.filter (fun m => decide (m ≠ n)))
    | none => []

/-- The refill of R268: stooks that nothing holds become FREE and their erases are planned, the least worn in SLC mode for the reserve and the swath, and those beyond their need in TLC mode. A half-erased twin or anchor log is erased again (R281). -/
def State.refill (s : State) : State :=
  if !s.flag FLO_STS_READY then s
  else
    let t := s.freeStooks
    let t := t.fillReserve true (t.fld GLN_RESERVE_STOOKS)
    let free := (t.ofRole 0).filter (fun n => !t.flo.erases.any (fun j => decide (j.stook = n)))
    let slc := t.freeByWear t.slcNeed free
    let t := slc.foldl (fun (u : State) n => u.planErase n false) t
    let t := (free.filter (fun n => !slc.contains n)).foldl (fun (u : State) n => u.planErase n true) t
    let t := (t.flo.org.all.filter (fun n => (t.stook n).half && (decide ((t.stook n).role = 6) || decide ((t.stook n).role = 7)))).foldl
      (fun (u : State) n => u.planErase n false) t
    t.swathCheck.reserveFlag

/-- System stooks by their index (R263). -/
def Org.systemStook (o : Org) (i : Nat) : Nat := i % max 1 o.dies * 2048 + i / max 1 o.dies

/-- An erase is complete once its ERASE_DONE is confirmed (R281): what stood in the stook is gone, the half-erased mark with it, and the stook joins its pool (R268): the TLC pool, or the tail of the swath, from which the reserve is filled first. A stook with a block lodged or retired since its intent joins no pool: it is erased again with the column remapped (R289, R290). A raw ERASE, of one column, completes no erase of the organiser's: its stook stays as it was (log entry 107). -/
def State.joinPool (s : State) (n : Nat) (tlc : Bool) : State :=
  if !s.flo.erases.any (fun j => decide (j.stook = n) && decide (j.done = BitVec.allOnes 17)) then s
  else
  let logs := s.flash.logs.filter (fun e => decide (s.flo.org.systemStook (2 + e.1 / 4352) ≠ n))
  let gone : State := { s with
    flash := { s.flash with sheaves := s.flash.sheaves.filter (fun e => decide (addrStook e.1 ≠ n)), logs := logs,
                            anchors := s.flash.anchors.filter (fun x => x.2.any (fun p => (smapFind logs p).isSome)) },
    flo := { s.flo with erases := s.flo.erases.filter (fun j => decide (j.stook ≠ n)), org := s.flo.org.setStook n { (s.stook n) with half := false } } }
  let t := gone.setUsed n 0
  let v := t.stook n
  let t := if v.lodged ≠ 0 ∨ v.retired ≠ 0 then (if v.rotation then t else t.planErase n tlc)
    else if v.role ≠ 0 then t
    else if tlc then t.setRole n 5
    else
      let u := t.setRole n 1
      let u := { u with flash := { u.flash with swath := u.flash.swath.filter (fun x => decide (x ≠ n)) ++ [n] } }
      u.fillReserve false 1
  let half := (t.flo.org.all.any (fun m => (t.stook m).half))
  (t.setFlag FLO_STS_HALF_PENDING half).reserveFlag.swathCheck

/-- Positions of an anchor log: 256 pages on 17 channels (R283). -/
def logPositions : Nat := 256 * 17

/-- The next position from `p` on whose channel is not fenced (R283), nor its die unsupported (R257). -/
def State.logNext (s : State) : Nat → Nat → Nat
  | 0, p => p
  | k + 1, p => if s.dieOpen (p % 17) (stookDie (s.flo.org.systemStook (2 + s.flash.log))) then p else s.logNext k (p + 1)

/-- Take the next position of the current log, as log × 4,352 + position. -/
def State.logTake (s : State) : Nat × State :=
  let p := s.logNext 17 s.flash.logPos
  (s.flash.log * logPositions + p, { s with flash := { s.flash with logPos := p + 1 } })

/-- A codeword stands at a position of an anchor log. -/
def State.logPut (s : State) (at' : Nat) (bs : List Byte) : State := { s with flash := { s.flash with logs := smapPut s.flash.logs at' bs } }

/-- Write two copies of an anchor at the next two positions, the first before the second (R283); that both are confirmed in the step that writes them is the model's (log entry 108). -/
def State.logTwice (s : State) (bs : List Byte) : List Nat × State :=
  let (a, t) := s.logTake
  let (b, u) := (t.logPut a bs).logTake
  ([a, b], u.logPut b bs)

/-- A boot anchor stands in the log and is in force (R283, R285). -/
def State.anchorWrite (s : State) (b : BootAnchor) : State :=
  let (ps, t) := s.logTwice b.payload
  { t with flash := { t.flash with boot := some b, anchors := t.flash.anchors ++ [(b, ps)] } }

/-- A log with fewer than 32 free positions is replaced by the other (R283): the anchors of the images of the current chain and the chain before it are written there, then the boot anchor in force, and the full log is erased. -/
def State.logSwitch (s : State) : State :=
  if s.flash.logPos + 32 ≤ logPositions then s
  else
    let full := s.flo.org.systemStook (2 + s.flash.log)
    let t : State := { s with flash := { s.flash with log := 1 - s.flash.log, logPos := 0 } }
    let t := s.liveImages.foldl (fun (u : State) i =>
      let (ps, w) := u.logTwice i.payload
      { w with flash := { w.flash with images := w.flash.images.map (fun (x : Image) => if x.gen = i.gen then { x with copyAt := ps } else x) } }) t
    let t := match t.flash.boot with
      | some b => t.anchorWrite b
      | none => t
    t.planErase full false

/-- Write a boot anchor (R283, R285, Table 9-9): the next number, and what the caller changes. It takes effect as the first copy is confirmed, in the same step (log entry 108); a torn one is what the next power-up finds (R285, `State.bootPick`). -/
def State.writeBoot (s : State) (f : BootAnchor → BootAnchor) : State :=
  match s.flash.boot with
  | none => s
  | some b =>
    let b' := { f b with no := b.no + 1 }
    ((s.anchorWrite b').logSwitch).setFld FLO_BOOT b'.no

/-- Whether the ledger stook must be exchanged (R285): a FREE ledger stook worn more than 1,000 units above the mean of rotation. -/
def State.rotationMean (s : State) : Nat :=
  let r := s.flo.org.all.filter (fun n => (s.stook n).rotation)
  if r.isEmpty then 0 else (r.map (fun n => (s.stook n).wearMax)).sum / r.length

/-- The ledger stooks other than the head, in order. -/
def State.ledgerStooks (s : State) : List Nat := s.ofRole 8

/-- Exchange a worn ledger stook (R285). -/
def State.exchangeLedger (s : State) (n : Nat) : State :=
  if s.rotationMean + 1000 < (s.stook n).wearMax then
    match s.lowestWear (s.ofRole 0) with
    | some m => (s.setRole n 0).setRole m 8
    | none => s
  else s

/-- The records of the ledger after the checkpoint that starts replay, in order. -/
def Flash.ledger (f : Flash) : List LedgerEntry := f.commitLog.flatMap (·.recs)

/-- The two channels of a mirrored ear in a stook, less the fenced ones (R274) and those whose die is unsupported (R257). -/
def State.mirrorChans (s : State) (n j : Nat) : List Nat :=
  [2 * (j % 8), 2 * (j % 8) + 1].filter (fun c => s.dieOpen c (stookDie n))

/-- The channels of the two copies of commit `j` of the head ledger stook (R274). -/
def State.commitChans (s : State) (j : Nat) : List Nat := s.mirrorChans (s.fld FLO_LEDGER_STOOK) j

/-- The first commit index from `j` on that keeps a copy; a place whose two channels are both fenced is passed over (DESIGN CHOICE, log entry 97). -/
def State.commitNext (s : State) : Nat → Nat → Nat
  | 0, j => j
  | k + 1, j => if (s.commitChans j).isEmpty then s.commitNext k (j + 1) else j

/-- Write one commit in the head ledger stook (R274). -/
def State.writeCommit (s : State) (es : List LedgerEntry) : State :=
  let j := s.commitNext 8 s.flash.commits
  let t : State := { s with flash := { s.flash with commitLog := s.flash.commitLog ++ [⟨j, s.commitChans j, es⟩], commits := j + 1 } }
  t.setFld FLO_LEDGER_INDEX (j + 1)

/-- The CHECKPOINT records of the tables under the next numbers (R273, R275). -/
def State.checkpointRecs (s : State) : List LedgerEntry × State :=
  s.flo.org.checkpoint.foldl (fun (acc : List LedgerEntry × State) b =>
    let (n, u) := acc.2.takeSeq
    (acc.1 ++ [⟨n, u.tick, u.epoch, b⟩], u)) ([], s)

/-- The next ledger stook when fewer than 64 commits are left (R275): the LINK record, a complete checkpoint at its start, and the boot anchor that names it. The ledger stooks before the checkpoint are then FREE: the head is erased before its next use (R280), and the worn ones are exchanged (R285). While no number is issued the link waits. Each commit is confirmed in the step that writes it (log entry 108). -/
def State.linkLedger (s : State) : State :=
  if s.seqBlocked then s
  else
    let head := s.fld FLO_LEDGER_STOOK
    let l := s.ledgerStooks
    let next := ((l.filter (fun n => decide (head < n))).head?).getD ((l.head?).getD head)
    let (n, t) := s.takeSeq
    let t := t.writeCommit [⟨n, t.tick, t.epoch, .link next⟩]
    let (es, t) := t.checkpointRecs
    let t := { t with flash := { t.flash with base := { t.flo.org with events := [] }, commitLog := [], commits := 0 } }
    let t := (commitParts es).foldl State.writeCommit (t.setFld FLO_LEDGER_STOOK next)
    let t := t.writeBoot (fun b => { b with ledgerStook := next, ledgerCommit := 0 })
    let t := if head = next then t else t.planErase head false
    (t.ledgerStooks.filter (fun n => decide (n ≠ next))).foldl (fun (u : State) n => u.exchangeLedger n) t

/-- Mark the records of a confirmed commit (R440, R451): mirrored records are marked, and a confirmed SEQ_MARK lets numbers go on. -/
def State.confirmRecs (s : State) (es : List LedgerEntry) : State :=
  es.foldl (fun (u : State) e =>
    match e.body with
    | .event r =>
      let u := { u with evr := { u.evr with log := u.evr.log.map (fun (x : LogRec) => if x.seq = r.seq && x.epoch = r.epoch then { x with mirrored := true } else x) } }
      let u := u.wrap EVR_MIRROR_DONE 1
      if r.ev.code = 0x0045 then { u with evr := { u.evr with markOpen := false } } else u
    | .eraseDone n tlc failed _ => if failed then u else u.joinPool n tlc
    | _ => u) s

/-- Commit the pending records (R274), at most 1,024 slots in a commit. Records without a number wait (R440). -/
def State.commitLedger (s : State) : State :=
  let s := s.numberLedger
  let es := s.flo.pendingRecs.filter (fun e => decide (e.seq ≠ 0))
  if es.isEmpty then s
  else
    let t : State := { s with flo := { s.flo with pendingRecs := s.flo.pendingRecs.filter (fun e => decide (e.seq = 0)) } }
    let t := (commitParts es).foldl State.writeCommit t
    let t := t.confirmRecs es
    if 2048 - 64 < t.fld FLO_LEDGER_INDEX then t.linkLedger else t

/-- Make a ledger record that is committed at once (R274): GENERATION and ATTACH. During a save it waits for the image's metadata (R277). -/
def State.commitNow (s : State) (b : LedgerRec) : State :=
  let t := s.ledger b
  if t.sys.mode = .save then t else t.commitLedger

/-- The stooks of the chain store in the order in which they joined it: the system stook first (R263, R279). -/
def State.chainStooks (s : State) : List Nat :=
  s.flo.org.systemStook (systemRows s.flo.org.dies * max 1 s.flo.org.dies - 1) :: s.flo.org.chainExt

/-- The stook that position `i` of the chain store lies in: 2,048 positions in each (R274, R279). -/
def State.chainStook (s : State) (i : Nat) : Nat := s.chainStooks.getD (i / 2048) (s.chainStooks.headD 0)

/-- The sheaf address that position `i` of the chain store lies in, eight positions to a page (R274, R279). -/
def State.chainAddr (s : State) (i : Nat) : Nat := sheafAddr false (s.chainStook i) (i % 2048 / 8)

/-- The first position of the chain store from `i` on that keeps a copy, as commits take theirs (R274, R279, log entry 97). -/
def State.chainFrom (s : State) : Nat → Nat → Nat
  | 0, i => i
  | k + 1, i => if (s.mirrorChans (s.chainStook i) i).isEmpty then s.chainFrom k (i + 1) else i

/-- Take the next `n` positions of the chain store. -/
def State.chainTake (s : State) : Nat → List Nat × State
  | 0 => ([], s)
  | n + 1 =>
    let i := s.chainFrom 8 s.flash.chainNext
    let (is, t) := ({ s with flash := { s.flash with chainNext := i + 1 } } : State).chainTake n
    (i :: is, t)

/-- The chain store takes a stook from rotation when fewer than 64 commit positions are left (R279): the lowest-wear erased swath stook above the target, else one of the TLC pool. -/
def State.chainRoom (s : State) : State :=
  let cap := (s.ofRole 9).length * 2048
  if s.flash.chainNext + 64 ≤ cap then s
  else
    let pick := if s.swathTarget + 256 ≤ s.swathSheaves then s.lowestWear ((s.erasedOf 1).filter s.writable) else s.lowestWear (s.erasedOf 5)
    match pick with
    | some n => s.ledger (.chainExtend n)
    | none => s

/-- Replay (R276): the base tables with every committed record applied. -/
def Flash.replay (f : Flash) : Org := f.ledger.foldl Org.apply f.base

end Sys2Proof.Machine
end

