-- ==== Sys2Proof/Machine/Array.lean ====
section
/-! DEFINITION. What the flash array holds at each place, ear by ear and codeword by codeword, and the SRAM lines that descriptors name (R19, R259, R260, R303, R305, Tables 1-3, 9-2). -/

namespace Sys2Proof.Machine

open Reg

/-- What an ear of the array holds: nothing programmed, a program that failed or was cut off, the PRBS pattern, or lines under a metadata template. `mask` gives the codewords that are not vacant. -/
inductive Placed where
  | erased
  | void
  | pattern (mask : Nat)
  | held (mask : Nat) (lines : SMap LineData) (template : List Byte)
deriving DecidableEq, Repr

/-- The data ear or parity ear of a sheaf that stands on a channel in the base layout, unless its variant form leaves it out (R203, R262). -/
def earOn (a ch form : Nat) : Option Nat :=
  if form = ch + 1 then none else (List.range 17).find? (fun k => decide (earChannel a k = ch))

/-- The ear of a narrow sheaf that stands in a row of a channel's column (R205). -/
def Sheaf.narrowEar (x : Sheaf) (ch row : Nat) : Option Nat :=
  (List.range 17).find? (fun q => decide (x.kmap.getD ((q + x.kj) % 8) 17 = ch) && decide (x.krows.getD q 1024 = row))

/-- The ear of a sheaf in a stook at a page of a channel's column. -/
def State.sheafEar (s : State) (n ch p : Nat) : Option (Sheaf × Nat) :=
  match smapFind s.flash.sheaves (sheafAddr (s.stook n).tlc n p) with
  | some x => if x.form = 18 then none else (earOn p ch x.form).map (fun k => (x, k))
  | none => none

/-- The narrow ear in a stook at a row of a channel's column. -/
def State.narrowAt (s : State) (n ch p : Nat) : Option (Sheaf × Nat) :=
  s.flash.sheaves.findSome? (fun e =>
    if addrStook e.1 = n ∧ e.2.form = 18 then (e.2.narrowEar ch p).map (fun k => (e.2, k)) else none)

/-- A sheaf of a boot twin in sheaf form (R284): its bytes from data ear 0 on. -/
def State.twinEar (s : State) (twin ch p : Nat) : Option Placed :=
  match s.flash.boot with
  | none => none
  | some b => (List.range 3).findSome? (fun k =>
      match smapFind b.dir (twin * 3 + k), smapFind s.flash.twins (twin * 3 + k), earOn p ch 0 with
      | some (page, _, gen, _), some bs, some ear =>
        if page = p then some (.held 0xFFFF (earLinesOf (linesOf bs) ear) (metaTemplate 0x0C 0 ear 0 gen 0 0 [])) else none
      | _, _, _ => none)

/-- The ear at a position of the chain store (R279): one of an entry with its manifest, or a manifest update, whose granule and sheaf addresses follow one another. -/
def State.chainEar (s : State) (i : Nat) : Option Placed :=
  let ear := fun (ls : SMap LineData) => Placed.held 0xFFFF ls (metaTemplate 0x0B 0 0 0 0 0 0 [])
  match s.flash.chain.find? (fun c => c.at'.contains i), s.flash.updates.find? (fun u => decide (u.1 = i)) with
  | some c, _ => some (ear (earOf c.lines (c.at'.idxOf i)))
  | none, some u => some (ear (linesOf (leBytes 4 u.2.1 ++ leBytes 4 u.2.2.2)))
  | none, none => none

/-- What the structures of the organiser put at a page of a column of a stook: sheaves, twins, anchor logs, ledger commits and chain entries. -/
def State.stookEar (s : State) (n ch p : Nat) : Placed :=
  let o := s.flo.org
  let role := (s.stook n).role
  match s.sheafEar n ch p, s.narrowAt n ch p with
  | some (x, k), _ => .held 0xFFFF (earLinesOf x.lines k) (x.template k)
  | none, some (x, k) => .held 0xFFFF (earLinesOf x.lines k) (x.template k)
  | none, none =>
    if role = 6 then (s.twinEar (if n = o.systemStook 0 then 0 else 1) ch p).getD .erased
    else if role = 7 then
      match smapFind s.flash.logs ((if n = o.systemStook 2 then 0 else 1) * logPositions + p * 17 + ch) with
      | some bs => .held 1 (linesOf bs) (anchorTemplate bs)
      | none => .erased
    else if role = 8 then
      match (if n = s.fld FLO_LEDGER_STOOK then s.flash.commitLog.find? (fun c => decide (c.index / 8 = p) && c.chans.contains ch) else none) with
      | some c => .held 0xFFFF c.lines (metaTemplate 0x0A 0 0 0 0 0 0 [])
      | none => .erased
    else if role = 9 then
      if 16 ≤ ch then .erased else (s.chainEar (s.chainStooks.idxOf n * 2048 + p * 8 + ch / 2)).getD .erased
    else .erased

/-- What stands at a place of the array: what the organiser's structures hold there, else what a descriptor has programmed. -/
def State.placed (s : State) (ch d b p : Nat) : Placed :=
  match (match s.flo.org.stookOfBlock ch d b with | some n => s.stookEar n ch p | none => .erased), smapFind s.flash.ears (earKey ch d b p) with
  | .erased, some e => (match e.body with
    | .void => .void
    | .pattern => .pattern e.mask
    | .data lines template => .held e.mask lines template)
  | x, _ => x

/-- A codeword of a placed ear: none where nothing has been programmed, or nothing can be told of it. -/
def Placed.codeword (x : Placed) (key cw : Nat) : Option Codeword :=
  match x with
  | .erased | .void => none
  | .pattern mask => some (if natBits mask cw 1 = 1 then patternCodeword key cw else vacantCodeword cw)
  | .held mask lines template => some (if natBits mask cw 1 = 1 then earCodeword lines template cw else vacantCodeword cw)

/-- The codewords of a placed ear that are erased (R303): all of an ear that was never programmed, none that can be told of a void one, and else those whose raw bytes hold fewer than 64 zero bits. -/
def Placed.erasedMask (x : Placed) (key : Nat) : Nat :=
  match x with
  | .erased => 0xFFFF
  | .void => 0
  | y => (List.range 16).foldl (fun acc cw => if (y.codeword key cw).any (fun c => rawErased (rawCodeword key cw c)) then acc + 2 ^ cw else acc) 0

/-- A line of the SRAM, by its number (address / 64). -/
def State.sramLine (s : State) (i : Nat) : LineData := smapGet (fun _ => 0) s.sram i

/-- Put lines in the SRAM from line `i` on. -/
def State.sramPut (s : State) (i : Nat) : List LineData → State
  | [] => s
  | l :: ls => State.sramPut { s with sram := smapSet (fun _ => 0) s.sram i l } (i + 1) ls

/-- The lines of an ear buffer at a byte address. -/
def State.sramEar (s : State) (buf : Nat) : SMap LineData :=
  (s.sram.filter (fun e => decide (buf / 64 ≤ e.1) && decide (e.1 < buf / 64 + earLines))).map (fun e => (e.1 - buf / 64, e.2))

/-- Fill an ear buffer at a byte address. -/
def State.fillEar (s : State) (buf : Nat) (ls : SMap LineData) : State :=
  let rest := s.sram.filter (fun e => decide (e.1 < buf / 64) || decide (buf / 64 + earLines ≤ e.1))
  { s with sram := ls.foldl (fun (m : SMap LineData) e => smapSet (fun _ => 0) m (buf / 64 + e.1) e.2) rest }

/-- The two ear buffers of a channel in staging, 17 × 2 × 64 KiB (Table 1-3); the model puts staging at the start of the SRAM (log entry 96). -/
def stagingBuf (ch k : Nat) : Nat := (ch * 2 + k % 2) * 65536

/-- Where a channel's metadata template stands for the ear in a staging buffer (log entry 96). -/
def stagingMeta (ch k : Nat) : Nat := 34 * 65536 + (ch * 2 + k % 2) * 64

/-- An ear stands on the array. -/
def State.putEar (s : State) (key : Nat) (e : Ear) : State := { s with flash := { s.flash with ears := smapPut s.flash.ears key e } }

/-- A program failed or was cut off: the ear is consumed and void (Table 10-5). -/
def State.voidEar (s : State) (key : Nat) : State := s.putEar key ⟨0xFFFF, .void⟩

/-- A block is erased: what descriptors programmed into it is gone. -/
def State.dropEars (s : State) (ch d b : Nat) : State :=
  let lo := earKey ch d b 0
  { s with flash := { s.flash with ears := s.flash.ears.filter (fun e => decide (e.1 < lo) || decide (lo + 1024 ≤ e.1)) } }

end Sys2Proof.Machine
end

