-- ==== Sys2Proof/Machine/Ecdsa.lean ====
section
/-! DEFINITION. ECDSA over P-256 with SHA-256 and the nonce of RFC 6979, as R189 and R231 use it. The spec names the algorithms and leaves them to their standards: the curve's numbers are PRESUMED from those (log entry 11). -/

namespace Sys2Proof.Machine

/-- The field's prime. -/
def ecP : Nat := 2 ^ 256 - 2 ^ 224 + 2 ^ 192 + 2 ^ 96 - 1

/-- The order of the group. -/
def ecN : Nat := 0xffffffff00000000ffffffffffffffffbce6faada7179e84f3b9cac2fc632551

/-- The curve's constant: y² = x³ − 3x + b. -/
def ecB : Nat := 0x5ac635d8aa3a93e7b3ebbd55769886bc651d06b0cc53b0f63bce3c3e27d2604b

/-- A point: none is the neutral one. -/
abbrev EcPoint := Option (Nat × Nat)

/-- The base point. -/
def ecG : EcPoint :=
  some (0x6b17d1f2e12c4247f8bce6e563a440f277037d812deb33a0f4a13945d898c296,
    0x4fe342e2fe1a7f9b8ee7eb4a7c0f9e162bce33576b315ececbb6406837bf51f5)

/-- `b` to the power of the low `n` bits of `e`, modulo `m`. -/
def powMod (m e b : Nat) : Nat → Nat
  | 0 => 1 % m
  | n + 1 =>
    let q := powMod m (e / 2) (b * b % m) n
    if e % 2 = 1 then b * q % m else q

/-- The inverse modulo a prime of 256 bits. -/
def invMod (m a : Nat) : Nat := powMod m (m - 2) (a % m) 256

/-- The difference modulo `m` of two residues. -/
def subMod (m a b : Nat) : Nat := (a + (m - b % m)) % m

/-- The chord or tangent of slope `l` through two points meets the curve again, mirrored, here. -/
def ecChord (l : Nat) (p q : Nat × Nat) : Nat × Nat :=
  let x := subMod ecP (subMod ecP (l * l) p.1) q.1
  (x, subMod ecP (l * subMod ecP p.1 x) p.2)

/-- The sum of two points. -/
def ecAdd (p q : EcPoint) : EcPoint :=
  match p, q with
  | none, q => q
  | p, none => p
  | some a, some b =>
    if a.1 ≠ b.1 then some (ecChord (subMod ecP b.2 a.2 * invMod ecP (subMod ecP b.1 a.1) % ecP) a b)
    else if a.2 ≠ b.2 ∨ a.2 = 0 then none
    else some (ecChord (subMod ecP (3 * a.1 * a.1) 3 * invMod ecP (2 * a.2) % ecP) a b)

/-- The multiple of a point by the low `n` bits of `k`. -/
def ecMul (p : EcPoint) (k : Nat) : Nat → EcPoint
  | 0 => none
  | n + 1 =>
    let q := ecMul (ecAdd p p) (k / 2) n
    if k % 2 = 1 then ecAdd p q else q

/-- A point that lies on the curve, with both coordinates reduced. -/
def ecOn (p : Nat × Nat) : Bool :=
  decide (p.1 < ecP) && decide (p.2 < ecP) && decide (p.2 * p.2 % ecP = (p.1 * p.1 * p.1 + (ecP - 3) * p.1 + ecB) % ecP)

/-- The number that big-endian bytes spell. -/
def beNat (bs : List Byte) : Nat := leNat bs.reverse

/-- The digest of a message as a number modulo the group's order. -/
def ecHash (msg : List Byte) : Nat := beNat (sha256 msg) % ecN

/-- The public key of a private one: X then Y, big-endian. -/
def ecPublic (d : Nat) : List Byte :=
  match ecMul ecG d 256 with
  | some q => beBytes 32 q.1 ++ beBytes 32 q.2
  | none => List.replicate 64 0

/-- HMAC with SHA-256 and a key of at most one block. -/
def hmac (key msg : List Byte) : List Byte :=
  let k := key ++ List.replicate (64 - key.length) 0
  sha256 (k.map (· ^^^ 0x5c) ++ sha256 (k.map (· ^^^ 0x36) ++ msg))

/-- One update of the generator of RFC 6979: `K` takes `V`, a separator and the data, and `V` follows. -/
def drbg (kv : List Byte × List Byte) (sep : Byte) (data : List Byte) : List Byte × List Byte :=
  let k := hmac kv.1 (kv.2 ++ sep :: data)
  (k, hmac k kv.2)

/-- The signature that the generator's state leads to: its next candidate for the nonce that lies in range and gives non-zero r and s. Sixteen candidates are tried; each fails with a chance of about 2⁻³². -/
def ecTry (d h : Nat) : Nat → List Byte × List Byte → Nat × Nat
  | 0, _ => (0, 0)
  | fuel + 1, kv =>
    let v := hmac kv.1 kv.2
    let k := beNat v
    let r := ((ecMul ecG k 256).map (·.1)).getD 0 % ecN
    let s := invMod ecN k * (h + r * d) % ecN
    if k = 0 ∨ ecN ≤ k ∨ r = 0 ∨ s = 0 then ecTry d h fuel (drbg (kv.1, v) 0x00 []) else (r, s)

/-- The signature of a message under a private key: r then s, big-endian (R189). -/
def ecSign (d : Nat) (msg : List Byte) : List Byte :=
  let h := ecHash msg
  let seed := beBytes 32 d ++ beBytes 32 h
  let kv := drbg (drbg (List.replicate 32 0, List.replicate 32 1) 0x00 seed) 0x01 seed
  let q := ecTry d h 16 kv
  beBytes 32 q.1 ++ beBytes 32 q.2

/-- Whether a signature, r then s, verifies under a public key, X then Y (R231). -/
def ecVerify (key msg sig : List Byte) : Bool :=
  let q := (beNat (key.take 32), beNat (sliceBytes key 32 32))
  let r := beNat (sig.take 32)
  let s := beNat (sliceBytes sig 32 32)
  let w := invMod ecN s
  let x := ecAdd (ecMul ecG (ecHash msg * w % ecN) 256) (ecMul (some q) (r * w % ecN) 256)
  ecOn q && decide (0 < r) && decide (r < ecN) && decide (0 < s) && decide (s < ecN)
    && (match x with | some a => decide (a.1 % ecN = r) | none => false)

end Sys2Proof.Machine
end

