-- ==== Sys2Proof/Machine/Learner.lean ====
section
/-! DEFINITION. The code learner and the host code (R86 to R98). -/

namespace Sys2Proof.Machine

open Reg

/-- The states of CLN_STS.STATE (Table 3-11). -/
def clnLearned : Nat := 4

/-- Whether the host code is learned (R86, R96). -/
def State.learned (s : State) : Bool := decide (s.fld CLN_STS_STATE = clnLearned)

/-- A column of a code matrix; an unlisted column is zero. -/
def codeCol (m : SMap CheckBytes) (i : Nat) : CheckBytes := smapGet (fun _ => 0) m i

/-- The check bits a code predicts for a burst at a line: c = G·d ⊕ F·a ⊕ c0. -/
def predict (h : HostCode) (ma : Nat) (d : LineData) : CheckBytes :=
  let a := h.g.foldl (fun acc e => if d.getLsbD e.1 then acc ^^^ e.2 else acc) h.c0
  h.f.foldl (fun acc e => if ma.testBit (e.1 + 6) then acc ^^^ e.2 else acc) a

/-- The check bits the learned code predicts (R95). -/
def State.predict (s : State) (ma : Nat) (d : LineData) : CheckBytes := Machine.predict s.cln.store ma d

/-- Whether a class of Table 3-4 is present: a fold class when its MA bit exists, a pair class always (R87). -/
def State.classPresent (s : State) (k : Nat) : Bool := if k < 33 then decide (k + 6 < s.maWidth) else decide (k < 40)

/-- The MA bits a class inverts (Table 3-4). -/
def classMask (k : Nat) : Nat :=
  if k < 33 then 2 ^ (k + 6)
  else match k with
    | 33 => 2 ^ 6 + 2 ^ 7
    | 34 => 2 ^ 12 + 2 ^ 13
    | 35 => 2 ^ 19 + 2 ^ 20
    | 36 => 2 ^ 29 + 2 ^ 30
    | 37 => 2 ^ 31 + 2 ^ 32
    | 38 => 2 ^ 33 + 2 ^ 34
    | _ => 2 ^ 6 + 2 ^ 34

/-- The fold columns a pair class is checked against (Table 3-4). -/
def pairCols (k : Nat) : Nat × Nat :=
  match k with
  | 33 => (0, 1)
  | 34 => (6, 7)
  | 35 => (13, 14)
  | 36 => (23, 24)
  | 37 => (25, 26)
  | 38 => (27, 28)
  | _ => (0, 28)

/-- The base line that CLN_BASE_LO and CLN_BASE_HI name. -/
def State.clnBase (s : State) : Nat := s.fld CLN_BASE_HI * 2 ^ 32 + s.fld CLN_BASE_LO * 64

/-- The index of the only set bit of a burst, if exactly one is set. -/
def unitIndex (d : LineData) : Option Nat :=
  match (List.range 512).filter (fun i => d.getLsbD i) with
  | [i] => some i
  | _ => none

/-- What a captured burst is (R90). -/
inductive Pattern where
  | zero
  | unit (i : Nat)
  | cls (k : Nat)
  | stray
deriving DecidableEq, Repr

/-- Classify a burst by its content (R90). -/
def State.classify (s : State) (ma : Nat) (d : LineData) : Pattern :=
  if maLine ma = maLine s.cln.base then
    if d = 0 then .zero else match unitIndex d with | some i => .unit i | none => .stray
  else if d = 0 then
    match (List.range 40).find? (fun k => s.classPresent k && decide (maLine ma = maLine (s.cln.base ^^^ classMask k))) with
    | some k => .cls k
    | none => .stray
  else .stray

/-- End a pass without LEARNED (R94): UNLEARNED, the reason, and a LEARN_FAILED record. -/
def State.learnFail (s : State) (reason : Nat) : State :=
  let t := { s with cln := { s.cln with fifo := [] } }
  ((t.setFld CLN_STS_STATE 0).setFld CLN_STS_REASON reason).note 0x0058 133 (leBytes 1 reason)

/-- Whether a pass is running: COLLECTING, SOLVING or VERIFYING. -/
def State.learning (s : State) : Bool := decide (1 ≤ s.fld CLN_STS_STATE) && decide (s.fld CLN_STS_STATE ≤ 3)

/-- End a running pass with a reason. A save trigger, keeper entry and a fence of the learner, for which Table 3-5 names no reason, end it with ABORTED (DESIGN CHOICE, log entry 88). -/
def State.learnStop (s : State) (reason : Nat) : State := if s.learning then s.learnFail reason else s

/-- The learner becomes UNLEARNED because its unit is fenced or its domain is lost (Table 14-6). -/
def State.unlearn (s : State) : State :=
  (({ s with cln := { s.cln with fifo := [] } } : State).setFld CLN_STS_STATE 0).setFld CLN_DIGEST 0

/-- The learner's tap (R90): every forwarded WRITE is copied while a pass runs; a full FIFO of 256 is counted. -/
def State.learnerTap (s : State) (ma : Nat) (v : LineData × CheckBytes) : State :=
  if !s.learning then s
  else if 256 ≤ s.cln.fifo.length then s.bump CLN_OVR 1
  else { s with cln := { s.cln with fifo := s.cln.fifo ++ [⟨ma, v.1, v.2, decide (s.fld CLN_STS_STATE = 2)⟩] } }

/-- Whether every pattern of the pass has been collected (R90). -/
def State.collectedAll (s : State) : Bool :=
  s.cln.zero.isSome && decide (s.cln.units.length = 512) && (List.range 40).all (fun k => !s.classPresent k || (smapFind s.cln.classes k).isSome)

/-- Store a collected pattern, ignore an equal repeat, or end the pass CHECK_UNSTABLE (R90). -/
def State.collect (s : State) (p : Pattern) (c : CheckBytes) : State :=
  let seen := match p with
    | .zero => s.cln.zero
    | .unit i => smapFind s.cln.units i
    | .cls k => smapFind s.cln.classes k
    | .stray => none
  match p, seen with
  | .stray, _ => s.bump CLN_PROGRESS_STRAY 1
  | _, some c' => if c' = c then s else s.learnFail 1
  | .zero, none => ({ s with cln := { s.cln with zero := some c } } : State).setFld CLN_PROGRESS_ZERO 1
  | .unit i, none => ({ s with cln := { s.cln with units := smapPut s.cln.units i c } } : State).setFld CLN_PROGRESS_UNITS (s.cln.units.length + 1)
  | .cls k, none => ({ s with cln := { s.cln with classes := smapPut s.cln.classes k c } } : State).setFld CLN_PROGRESS_FOLDS (s.cln.classes.length + 1)

/-- The bytes of a check-byte vector, byte 0 first. -/
def chkBytes (c : CheckBytes) : List Byte := leBytes 16 c.toNat

/-- CLN_DIGEST (R93): CRC-32C over G, F, c0 and the presence bits. -/
def State.codeDigest (s : State) (h : HostCode) : Word :=
  crc32c ((List.range 512).flatMap (fun i => chkBytes (codeCol h.g i)) ++ (List.range 33).flatMap (fun i => chkBytes (codeCol h.f i))
    ++ chkBytes h.c0 ++ leBytes 4 (s.fld CLN_FOLD_PRES) ++ leBytes 1 (s.fld CLN_FOLD_HI_PRES))

/-- Enter LEARNED (R93, R95). -/
def State.learnedNow (s : State) : State :=
  let h := s.cln.work
  let dg := s.codeDigest h
  let t := { s with cln := { s.cln with store := h, fifo := [] }, gln := { s.gln with verFrom := s.hbp.stamp } }
  let t := (t.setFld CLN_STS_STATE clnLearned).setFld CLN_DIGEST dg.toNat
  t.note 0x0057 133 (leBytes 4 dg.toNat ++ leBytes 1 (t.fld CLN_STS_AFFINE) ++ leBytes 1 (t.fld CLN_STS_FOLDED))

/-- Compare a verification burst (R92). -/
def State.verify (s : State) (e : LearnEntry) : State :=
  if Machine.predict s.cln.work e.ma e.data ≠ e.chk then
    ((s.setFld CLN_FAIL_MA_LO (natBits e.ma 6 26)).setFld CLN_FAIL_MA_HI (natBits e.ma 32 7)).learnFail 3
  else
    let onB := decide (e.ma / 2 ^ (s.maWidth - 1) % 2 = 1)
    let a := if onB then s.cln.verA else min (s.cln.verA + 1) 32
    let b := if onB then min (s.cln.verB + 1) 32 else s.cln.verB
    let t := ({ s with cln := { s.cln with verA := a, verB := b } } : State).setFld CLN_PROGRESS_VERIF (a + b)
    if a = 32 && b = 32 then t.learnedNow else t

/-- LEARNER_CAPTURE (R90 to R93): the learner takes the oldest burst of its FIFO; it takes none in SOLVING. -/
def execLearnerCapture (s : State) : Host.Outcome State Fault Refusal :=
  match s.cln.fifo with
  | [] => .next s
  | e :: rest =>
    let st := s.fld CLN_STS_STATE
    if st = 2 then .next s
    else
      let t := { s with cln := { s.cln with fifo := rest } }
      if e.solving then .next (t.bump CLN_PROGRESS_STRAY 1)
      else if st = 1 then
        let u := t.collect (t.classify e.ma e.data) e.chk
        .next (if u.fld CLN_STS_STATE = 1 && u.collectedAll then u.setFld CLN_STS_STATE 2 else u)
      else if st = 3 then .next (t.verify e)
      else .next t

/-- G, F and c0 of the collected patterns (R91, Table 3-4). -/
def State.solve (s : State) : HostCode :=
  let z := s.cln.zero.getD 0
  let cols := fun (m : SMap CheckBytes) => (m.map (fun e => (e.1, e.2 ^^^ z))).filter (fun e => decide (e.2 ≠ 0))
  let f := cols (s.cln.classes.filter (fun e => decide (e.1 < 33)))
  let c0 := f.foldl (fun acc e => if s.cln.base.testBit (e.1 + 6) then acc ^^^ e.2 else acc) z
  ⟨cols s.cln.units, f, c0, z⟩

/-- Whether every present pair class agrees with its fold columns (R91). -/
def State.pairsAgree (s : State) (h : HostCode) : Bool :=
  (List.range 7).all (fun i =>
    let k := 33 + i
    let p := pairCols k
    match smapFind s.cln.classes k with
    | none => true
    | some c => decide (c ^^^ h.z = codeCol h.f p.1 ^^^ codeCol h.f p.2))

/-- LEARN_SOLVE_DONE (R91): to VERIFYING, or NONAFFINE_ADDR. -/
def execLearnSolveDone (s : State) : Host.Outcome State Fault Refusal :=
  if s.fld CLN_STS_STATE ≠ 2 then .next s
  else
    let h := s.solve
    if !s.pairsAgree h then .next (s.learnFail 2)
    else
      let nz := h.f.foldl (fun acc e => acc + 2 ^ e.1) 0
      let t := { s with cln := { s.cln with work := h, verA := 0, verB := 0 } }
      let t := ((t.setFld CLN_FOLD_NZ (nz % 2 ^ 32)).setFld CLN_FOLD_HI_NZ32 (nz / 2 ^ 32)).setFlag CLN_STS_FOLDED (decide (nz ≠ 0))
      .next ((t.setFlag CLN_STS_AFFINE (decide (h.c0 ≠ 0))).setFld CLN_STS_STATE 3)

/-- LEARN_TIMEOUT (R94). -/
def execLearnTimeout (s : State) : Host.Outcome State Fault Refusal := .next (s.learnStop 4)

/-- LEARN_ABORT (R94). -/
def execLearnAbort (s : State) : Host.Outcome State Fault Refusal := .next (s.learnStop 5)

/-- VERIFIED no longer holds for an open or a closing seal: the code is no longer learned, or VERIFY_GLEAN is cleared (R182). -/
def State.unverifySeals (s : State) : State :=
  { s with gln := { s.gln with regions := s.gln.regions.map (fun (e : Nat × Region) =>
      if e.2.st = .opened ∨ e.2.st = .closing then (e.1, { e.2 with verified := false }) else e) } }

/-- VERIFIED holds only while VERIFY_GLEAN stays 1 (R182); `was` is its value before the write. -/
def State.verifyKept (s : State) (was : Bool) : State :=
  if !s.flag CLN_CTL_VERIFY_GLEAN then s.unverifySeals
  else if was then s else { s with gln := { s.gln with verFrom := s.hbp.stamp } }

/-- Start a pass (R89): the learned code is discarded, COLLECTING begins and the phase is LEARN. -/
def State.learnBegin (s : State) : State :=
  let emptyCode : HostCode := ⟨[], [], 0, 0⟩
  let s := s.unverifySeals
  let t := { s with cln := ⟨[], s.clnBase, none, [], [], emptyCode, emptyCode, 0, 0⟩ }
  let t := ((t.setPhase .learn).setWord 0x4004 0).setWord 0x4008 0
  let t := (t.setFld CLN_STS_STATE 1).setFld CLN_DIGEST 0
  let pres := (List.range 33).foldl (fun acc k => if t.classPresent k then acc + 2 ^ k else acc) 0
  (((t.setFld CLN_FOLD_PRES (pres % 2 ^ 32)).setFld CLN_FOLD_HI_PRES (pres / 2 ^ 32 + 254)).setFld CLN_FOLD_NZ 0).setFld CLN_FOLD_HI_NZ32 0

/-- Whether the base line meets R88, but for the apertures: within the geometry, on a present line, and with MA[29:28] = 0 where ROW3Q = 1 (R57). -/
def State.baseOk (s : State) : Bool :=
  let b := s.clnBase
  decide (b < 2 ^ s.maWidth) && s.present (maGranule b) && !(s.flag HBP_GEOM_ROW3Q && decide (b / 2 ^ 28 % 4 ≠ 0))

end Sys2Proof.Machine
end

