-- ==== Sys2Proof/Machine/Packet.lean ====
section
/-! DEFINITION. The packet engine: rings, capture, holding, dispatch and status posting (R101 to R123, R129 to R136). -/

namespace Sys2Proof.Machine

open Reg

/-- Status codes (Table 4-8). -/
def stOk : Nat := 0x00
def stBusy : Nat := 0x01
def stRefusedDeadline : Nat := 0x02
def stRefusedWear : Nat := 0x03
def stBadCrc : Nat := 0x04
def stBadOpcode : Nat := 0x05
def stOutOfOrder : Nat := 0x06
def stNotPermitted : Nat := 0x07
def stCausePresent : Nat := 0x08
def stTooLate : Nat := 0x09
def stKeeperMode : Nat := 0x0A
def stSealed : Nat := 0x0B
def stCaptureIncomplete : Nat := 0x0C
def stUnlearned : Nat := 0x0D
def stOvertaken : Nat := 0x0E
def stPackShort : Nat := 0x0F

/-- DETAIL[31:24] with no offending byte (Table 4-2). -/
def noByte : Nat := 0xFF000000

/-- DETAIL that names a packet byte. -/
def atByte (b : Nat) : Nat := b * 2 ^ 24

/-- DETAIL.INTERRUPTED (Table 4-2). -/
def detInterrupted : Nat := 0x00800000

/-- The reset value of a ring (R107, Table 4-13). -/
def ringReset (r : Nat) : Ring := ⟨decide (r = 0), decide (r = 0), if r = 0 then 4 else 0, 0, 0, 0, 0, 0⟩

/-- A ring of the ring-state table. -/
def State.ring (s : State) (r : Nat) : Ring := smapGet ringReset s.pkt.rings r

/-- Store a ring. -/
def State.setRing (s : State) (r : Nat) (v : Ring) : State := { s with pkt := { s.pkt with rings := smapSet ringReset s.pkt.rings r v } }

/-- The depth D of a ring. -/
def ringDepth (v : Ring) : Nat := 2 ^ v.depth

/-- The bytes of a status slot (Table 4-2). -/
def statusBytes (p : PostStatus) (nextSeq : Nat) : List Byte :=
  let body := leBytes 1 p.code ++ leBytes 1 p.op ++ leBytes 2 p.seq ++ leBytes 2 p.tag ++ leBytes 2 nextSeq ++
    sliceBytes p.result 0 16 ++ leBytes 4 p.detail
  body ++ leBytes 4 (crc32c body).toNat

/-- The 32 bytes of a slot as a number. -/
def slotOf (bs : List Byte) : SlotBits := BitVec.ofNat 256 (leNat bs)

/-- Write a status to its slot, or to the mailbox (R105, R113, R133). -/
def State.writeStatus (s : State) (p : PostStatus) : State :=
  match p.src with
  | .mailbox =>
    ((s.setBytes 0x5180 (statusBytes p 0) 8).setFlag PKT_MBX_STS_BUSY false).setFlag PKT_MBX_STS_DONE true
  | .ring r =>
    let v := s.ring r.val
    let k := r.val * 16 + p.slot.getD (p.seq % ringDepth v)
    { s with pkt := { s.pkt with slots := smapPut s.pkt.slots k (slotOf (statusBytes p v.nextSeq)) } }

/-- Whether a switch-over gap is in progress (R18, R431). -/
def State.inGap (s : State) : Bool := s.flag SPT_KITE_GAP

/-- Post a status: withheld while a switch-over gap lasts (R18). -/
def State.post (s : State) (p : PostStatus) : State :=
  if s.inGap then { s with pkt := { s.pkt with withheld := s.pkt.withheld ++ [p] } } else s.writeStatus p

/-- Post every withheld status, oldest first (R18). -/
def State.postWithheld (s : State) : State :=
  let ps := s.pkt.withheld
  ps.foldl (fun (u : State) p => u.writeStatus p) { s with pkt := { s.pkt with withheld := [] } }

/-- A packet's field of `n` bytes at byte `off`. -/
def pktField (bs : List Byte) (off n : Nat) : Nat := leField bs off n

/-- The status of a packet in execution. -/
def execStatus (e : ExecPkt) (code : Nat) (result : List Byte) (detail : Nat) : PostStatus :=
  ⟨e.src, e.seq, code, pktField e.bytes 0 1, pktField e.bytes 6 2, result, detail, none⟩

/-- Whether an opcode runs on a control core (Table 4-5); the others run on hard engines (R17). -/
def coreOp (op : Nat) : Bool := decide (op ≠ 0x01) && decide (op ≠ 0x09) && decide (op ≠ 0x0F) && decide (op ≠ 0x10) && decide (op ≠ 0x14)

/-- Whether a packet of a ring is in execution. -/
def State.ringBusy (s : State) (r : Nat) : Bool := s.pkt.exec.any (fun e => decide (e.src = .ring (Fin.ofNat 32768 r)))

/-- Whether a write of RING_CFG is permitted for a ring as it stands (R106, R108, Table 4-13). -/
def State.ringFits (s : State) (r : Nat) (w : Word) : Bool :=
  let v := s.ring r
  let en := w.getLsbD 31
  let priv := w.getLsbD 30
  let depth := natBits w.toNat 24 3
  let seq := natBits w.toNat 0 16
  if depth > 4 then false
  else if !en then true
  else if v.en then decide (depth = v.depth) && decide (priv = v.priv) && decide (seq = v.nextSeq)
  else decide (s.fld PKT_STS_DEPTH_USED + 2 ^ depth ≤ 32768)

/-- The status slots of a ring are cleared (R109, R114). -/
def State.clearSlots (s : State) (r : Nat) : State :=
  { s with pkt := { s.pkt with slots := s.pkt.slots.filter (fun e => decide (e.1 / 16 ≠ r)) } }

/-- A permitted write of RING_CFG takes effect (R108, R109): EN from 0 to 1 assigns buffers and slots and zeroes RING_CNT, EN = 0 discards the held lines and releases them; a write that changes nothing of an enabled ring has no effect. -/
def State.setRingCfg (s : State) (r : Nat) (w : Word) : State :=
  let v := s.ring r
  let en := w.getLsbD 31
  let nv : Ring := ⟨en, w.getLsbD 30, natBits w.toNat 24 3, natBits w.toNat 0 16, 0, 0, 0, 0⟩
  if !s.ringFits r w || (en && v.en) then s
  else
    let t := if v.en then
        let t : State := { s with pkt := { s.pkt with
            held := s.pkt.held.filter (fun h => decide (h.ring ≠ r)),
            withheld := s.pkt.withheld.filter (fun p => decide (p.src ≠ .ring (Fin.ofNat 32768 r))) } }
        (t.clearSlots r).setFld PKT_STS_DEPTH_USED (t.fld PKT_STS_DEPTH_USED - ringDepth v)
      else s
    if en then ((t.clearSlots r).setRing r nv).setFld PKT_STS_DEPTH_USED (t.fld PKT_STS_DEPTH_USED + ringDepth nv)
    else t.setRing r { nv with badCrc := v.badCrc, outOfOrder := v.outOfOrder, gap := v.gap, dup := v.dup }

/-- Writes of RING_CFG in order. -/
def State.applyRings (s : State) (ws : List (Nat × Word)) : State := ws.foldl (fun (u : State) x => u.setRingCfg x.1 x.2) s

/-- A waiting write of RING_CFG takes effect (R108), or goes on waiting: for a packet of its ring, for an earlier write of its ring, or for the buffers that an earlier write releases. -/
def ringStep (acc : State × List (Nat × Word)) (x : Nat × Word) : State × List (Nat × Word) :=
  if acc.1.ringBusy x.1 || acc.2.any (fun y => decide (y.1 = x.1)) || !acc.1.ringFits x.1 x.2 then (acc.1, acc.2 ++ [x])
  else (acc.1.setRingCfg x.1 x.2, acc.2)

/-- The writes that waited take effect in their order, as far as they can (R108). -/
def State.ringDrain (s : State) : State :=
  let r := s.pkt.ringWrites.foldl ringStep (s, [])
  { r.1 with pkt := { r.1.pkt with ringWrites := r.2 } }

/-- A core packet that completes with OK changes firmware state, which the holder writes into the kite journal: a hot standby applies it at once, and a cold standby leaves it there (Table 1-9, R429, log entry 94). -/
def State.journalled (s : State) (e : ExecPkt) (code : Nat) : State :=
  if coreOp (pktField e.bytes 0 1) && decide (code = stOk) && (s.flag SPT_KITE_COLD_A || s.flag SPT_KITE_COLD_B) then
    { s with kite := { s.kite with journal := s.kite.journal ++ [(e.seq, pktField e.bytes 0 1)] } }
  else s

/-- Complete a packet in execution: it leaves execution, its status is posted unless it is to be discarded, and the ring writes that waited for it take effect. -/
def State.complete (s : State) (e : ExecPkt) (code : Nat) (result : List Byte) (detail : Nat) : State :=
  let t := ({ s with pkt := { s.pkt with exec := s.pkt.exec.erase e } } : State).journalled e code
  let t := if e.discard then
      (match e.src with
       | .mailbox => t.setFlag PKT_MBX_STS_BUSY false
       | .ring _ => t)
    else t.post (execStatus e code result detail)
  if t.pkt.ringWrites.isEmpty then t else t.ringDrain

/-- Refuse or complete with no result and no offending byte. -/
def State.completeCode (s : State) (e : ExecPkt) (code : Nat) : State := s.complete e code [] noByte

/-- Whether a core holds the kite. -/
def State.kiteHeld (s : State) : Bool := decide (s.fld SPT_KITE_HOLDER ≠ 0)

/-- A core runs packets: one holds the kite, and no switch-over gap is in progress (R17, R18). -/
def State.coreServes (s : State) : Bool := s.kiteHeld && !s.inGap

/-- The packet in execution from a source with an opcode whose own step has not begun; a packet of a core opcode waits for a core (R17, R133). -/
def State.findExec (s : State) (src : PktSrc) (op : Nat) : Option ExecPkt :=
  if coreOp op && !s.coreServes then none
  else s.pkt.exec.find? (fun e => decide (e.src = src) && decide (pktField e.bytes 0 1 = op) && !e.started)

/-- Replace a packet in execution. -/
def State.setExec (s : State) (e e' : ExecPkt) : State :=
  { s with pkt := { s.pkt with exec := s.pkt.exec.map (fun x => if x = e then e' else x) } }

/-- The packet's own step has begun and it waits for a later event. -/
def State.startExec (s : State) (e : ExecPkt) (aux : Nat) : State := s.setExec e { e with started := true, aux := aux }

/-- The waiting packets of an opcode. -/
def State.waiting (s : State) (op : Nat) : List ExecPkt := s.pkt.exec.filter (fun e => e.started && decide (pktField e.bytes 0 1 = op))

/-- The base MA of an aperture, if it exists (R101, R102). -/
def State.papBase (s : State) : Option Nat := if s.flag PKT_PAP_EN then some (s.fld PKT_PAP_BASE * 2 ^ 20) else none

/-- The base MA of the status aperture, if it exists. -/
def State.sapBase (s : State) : Option Nat := if s.flag PKT_SAP_EN then some (s.fld PKT_SAP_BASE * 2 ^ 20) else none

/-- Whether an MA lies in the packet aperture of 32 MiB. -/
def State.inPap (s : State) (ma : Nat) : Bool :=
  match s.papBase with
  | some b => decide (b ≤ ma) && decide (ma < b + 2 ^ 25)
  | none => false

/-- Whether an MA lies in the status aperture of 16 MiB. -/
def State.inSap (s : State) (ma : Nat) : Bool :=
  match s.sapBase with
  | some b => decide (b ≤ ma) && decide (ma < b + 2 ^ 24)
  | none => false

/-- Whether a range of granules overlaps either aperture (R103). -/
def State.overlapsAperture (s : State) (first count : Nat) : Bool :=
  let hit := fun (b : Option Nat) (n : Nat) =>
    match b with
    | some x => decide (first < x / 2 ^ 20 + n) && decide (x / 2 ^ 20 < first + count)
    | none => false
  hit s.papBase 32 || hit s.sapBase 16

/-- The slot of a BUSY line (R114). -/
def busySlot : SlotBits := slotOf (statusBytes ⟨.mailbox, 0, stBusy, 0, 0, [], 0, none⟩ 0xFFFF)

/-- One slot of the status image as it stands (R109, R114): zeros where nothing is posted or the ring is disabled. -/
def State.slot (s : State) (r k : Nat) : SlotBits :=
  if (s.ring r).en then (smapFind s.pkt.slots (r * 16 + k)).getD 0 else 0

/-- Whether the packet engine is fenced (Table 14-6). -/
def State.pktFenced (s : State) : Bool := s.unitOut .packet

/-- The status image line of an MA of the status aperture (R102, R114): two slots, or BUSY lines while the image is locked. -/
def State.statusLine (s : State) (ma : Nat) : LineData :=
  let off := ma - s.sapBase.getD 0
  let r := off / 512
  let k := off % 512 / 32
  if s.inGap || s.pktFenced then (busySlot.setWidth 512) ||| ((busySlot.setWidth 512) <<< 256)
  else ((s.slot r k).setWidth 512) ||| (((s.slot r (k + 1)).setWidth 512) <<< 256)

/-- The packet capture tap (R13, R60): a full FIFO loses the line and counts it. -/
def State.packetTap (s : State) (ma stamp : Nat) (v : LineData × CheckBytes) (full : Bool) : State :=
  if !s.inPap ma then s
  else if full then s.bump HBP_TAP_STS_PACKET 1
  else { s with hbp := { s.hbp with packetQ := s.hbp.packetQ ++ [⟨ma, stamp, v.1, v.2⟩] } }

/-- The status a check of Table 4-3 posts to the addressed slot. -/
def State.postAt (s : State) (r slot : Nat) (bs : List Byte) (code detail : Nat) : State :=
  let seq := pktField bs 2 2
  s.post ⟨.ring (Fin.ofNat 32768 r), seq, code, pktField bs 0 1, pktField bs 6 2, [], detail, some slot⟩

/-- Whether in-band packets are accepted (check 1 of Table 4-3). -/
def State.inband (s : State) : Bool := s.inMode [.service, .lull, .keeper] && s.learned

/-- The window of R116 for a line that passed the other checks. -/
def State.window (s : State) (r : Nat) (bs : List Byte) (stamp : Nat) : State :=
  let v := s.ring r
  let seq := pktField bs 2 2
  let d := (seq + 65536 - v.nextSeq) % 65536
  let inHand := s.pkt.held.any (fun h => decide (h.ring = r) && decide (h.seq = seq))
    || s.pkt.exec.any (fun e => (match e.src with | .ring x => decide (x.val = r) | .mailbox => false) && decide (e.seq = seq) && !e.discard)
  if inHand || 65536 - ringDepth v ≤ d then s.setRing r { v with dup := satAdd v.dup 1 255 }
  else if d < ringDepth v then
    { s with pkt := { s.pkt with held := s.pkt.held ++ [⟨r, seq, stamp, bs⟩] } }
  else
    (s.postAt r (seq % ringDepth v) bs stOutOfOrder (atByte 2)).setRing r { v with outOfOrder := satAdd v.outOfOrder 1 255 }

/-- The check of Table 4-3 that stops a line, by its number: 1 mode, 2 unlearned, 3 disabled ring, 4 host check bits, 5 CRC, 6 ring, 7 slot; none where it passes them (R115). -/
def State.lineStop (s : State) (e : TapEntry) : Option Nat :=
  let off := e.ma - s.papBase.getD 0
  let r := off / 1024 % 32768
  let bs := leBytes 64 e.data.toNat
  if !s.inMode [.service, .lull, .keeper] || s.pktFenced then some 1
  else if !s.learned then some 2
  else if !(s.ring r).en then some 3
  else if s.flag PKT_CTL_CHK_HOST && s.predict e.ma e.data ≠ e.chk then some 4
  else if (crc32c (bs.take 60)).toNat ≠ pktField bs 60 4 then some 5
  else if pktField bs 4 2 % 32768 ≠ r then some 6
  else if off % 1024 / 64 ≠ pktField bs 2 2 % ringDepth (s.ring r) then some 7
  else none

/-- The ring that a captured line was written to. -/
def State.lineRing (s : State) (e : TapEntry) : Nat := (e.ma - s.papBase.getD 0) / 1024 % 32768

/-- PACKET_CAPTURE (R115 to R117): the oldest line of the capture FIFO is checked by Table 4-3 in order. -/
def execPacketCapture (s : State) : Host.Outcome State Fault Refusal :=
  match s.hbp.packetQ with
  | [] => .next s
  | e :: rest =>
    let t := { s with hbp := { s.hbp with packetQ := rest } }
    let r := t.lineRing e
    let slot := (e.ma - t.papBase.getD 0) % 1024 / 64
    let bs := leBytes 64 e.data.toNat
    let v := t.ring r
    match t.lineStop e with
    | none => .next (t.window r bs e.stamp)
    | some 1 => .next (t.bump PKT_DISCARD_MODE 1)
    | some 2 => .next (t.bump PKT_DISCARD_UNLEARNED 1)
    | some 3 => .next (t.bump PKT_DISCARD_DISABLED_RING 1)
    | some 4 => .next ((t.postAt r slot bs stBadCrc (noByte + 0x400000)).setRing r { v with badCrc := satAdd v.badCrc 1 255 })
    | some 5 => .next ((t.postAt r slot bs stBadCrc noByte).setRing r { v with badCrc := satAdd v.badCrc 1 255 })
    | some 6 => .next (t.postAt r slot bs stNotPermitted (atByte 4))
    | some _ => .next ((t.postAt r slot bs stOutOfOrder (atByte 2)).setRing r { v with outOfOrder := satAdd v.outOfOrder 1 255 })

/-- Whether the line that a ring waits for is captured and not yet checked: it then wins over the gap timer (R119). -/
def State.missingQueued (s : State) (r : Nat) : Bool :=
  s.hbp.packetQ.any (fun e => decide (s.lineRing e = r) && decide (pktField (leBytes 64 e.data.toNat) 2 2 = (s.ring r).nextSeq) && (s.lineStop e).isNone)

/-- RING_GAP (R118, R119): with lines held and NEXT_SEQ not among them, OUT_OF_ORDER is posted to every held packet. The timer runs only while the packet engine dispatches. -/
def execRingGap (ring : Fin 32768) (s : State) : Host.Outcome State Fault Refusal :=
  let r := ring.val
  let v := s.ring r
  let mine := s.pkt.held.filter (fun h => decide (h.ring = r))
  if s.pkt.halted || mine.isEmpty || mine.any (fun h => decide (h.seq = v.nextSeq)) || s.missingQueued r then .next s
  else
    let t := { s with pkt := { s.pkt with held := s.pkt.held.filter (fun h => decide (h.ring ≠ r)) } }
    let t := mine.foldl (fun (u : State) h => u.postAt r (h.seq % ringDepth v) h.bytes stOutOfOrder noByte) t
    .next ((t.setRing r { v with gap := satAdd v.gap 1 255 }).note 0x005A 132 (leBytes 2 r ++ leBytes 2 v.nextSeq))

/-- A privileged opcode (Table 4-5). -/
def privOp (op : Nat) : Bool := [0x03, 0x07, 0x09, 0x0B, 0x0C, 0x0D, 0x0E, 0x10, 0x11, 0x12, 0x13].contains op

/-- What a mode does with an opcode (Tables 4-5, R125): OK for accepted, or the refusal's code. Power-up, shut-down and off take the code BUSY. -/
def State.modeCheck (s : State) (op : Nat) (mailbox : Bool) : Nat :=
  let acc := fun (l : List Nat) => l.contains op
  match s.sys.mode with
  | .keeper => if acc [0x0F, 0x10] then stOk else stKeeperMode
  | .attach =>
    if acc [0x04, 0x05, 0x06, 0x07, 0x08, 0x09] then stNotPermitted
    else if s.sys.phase = .restore && acc [0x12, 0x13, 0x0D, 0x0E] then stBusy
    else if op = 0x14 && !mailbox then stNotPermitted
    else stOk
  | .service | .lull =>
    if op = 0x14 then stNotPermitted
    else if s.flag CFG_MODE_NO_PLAN && acc [0x04, 0x05, 0x08, 0x09] then stNotPermitted
    else stOk
  | .rebound =>
    if op = 0x14 then stNotPermitted else if acc [0x01, 0x02, 0x09, 0x0A, 0x0F, 0x10] then stOk else stBusy
  | .save =>
    if op = 0x14 then stNotPermitted else if acc [0x01, 0x02, 0x0F] then stOk else stBusy
  | .shutDown => if op = 0x14 then stNotPermitted else stBusy
  | _ => stBusy

/-- The bits of each packet byte that an opcode may use (R112, Tables 4-1 and 4-6): pairs of byte and mask; a byte that is not listed must be 0. -/
def paramMask (op : Nat) (bs : List Byte) : List (Nat × Nat) :=
  let span := fun (a n : Nat) => (List.range n).map (fun (i : Nat) => ((a + i, 0xFF) : Nat × Nat))
  let n := min (pktField bs 8 1) 4
  match op with
  | 0x02 => span 8 1 ++ span 12 (4 * n)
  | 0x03 => span 8 1 ++ span 12 (8 * n)
  | 0x04 => span 8 6 ++ [(14, 0x07)] ++ span 16 4
  | 0x05 => span 8 2 ++ [(10, 0x01)]
  | 0x06 => span 8 2
  | 0x07 => span 8 8
  | 0x08 => span 8 2 ++ [(10, 0x07)] ++ span 12 4
  | 0x0A => span 8 1
  | 0x0B => span 8 8
  | 0x0C =>
    let off := pktField bs 8 4
    let tot := pktField bs 12 4
    span 8 8 ++ span 16 (min 40 (tot - off))
  | 0x0D | 0x0E => span 8 4
  | 0x0F => span 8 8
  | 0x10 => span 8 4
  | 0x11 => span 8 1 ++ [(9, 0x03), (10, 0x3F), (11, 0x03)] ++ span 12 1 ++ [(13, 0x3F), (14, 0x01)] ++ span 16 4
  | 0x12 => span 8 35
  | 0x13 => span 8 1
  | _ => []

/-- The first byte of a packet that breaks R112; the mailbox ignores RING (R133). -/
def reservedBad (bs : List Byte) (mailbox : Bool) : Option Nat :=
  let op := pktField bs 0 1
  let hdr := [(0, 0xFF), (1, 0x01), (2, 0xFF), (3, 0xFF), (4, 0xFF), (5, if mailbox then 0xFF else 0x7F), (6, 0xFF), (7, 0xFF),
    (60, 0xFF), (61, 0xFF), (62, 0xFF), (63, 0xFF)]
  let allow := hdr ++ paramMask op bs
  (List.range 64).find? (fun i => decide ((bs.getD i 0).toNat &&& (0xFF ^^^ (((allow.find? (fun x => decide (x.1 = i))).map (·.2)).getD 0)) ≠ 0))

/-- A known opcode (Table 4-5). -/
def knownOp (op : Nat) : Bool := decide (1 ≤ op) && decide (op ≤ 0x14)

/-- The checks of R121 but for the opcode's own: none where they pass, else the code and the detail. -/
def State.dispatchCheck (s : State) (bs : List Byte) (mailbox priv : Bool) : Option (Nat × Nat) :=
  let op := pktField bs 0 1
  if s.sys.mode = .keeper && op ≠ 0x0F && op ≠ 0x10 then some (stKeeperMode, noByte)
  else if !knownOp op then some (stBadOpcode, atByte 0)
  else match reservedBad bs mailbox with
    | some b => some (stBadOpcode, atByte b)
    | none =>
      if privOp op && !priv then some (stNotPermitted, noByte)
      else
        let c := s.modeCheck op mailbox
        if c = stOk then none else some (c, noByte)

/-- Whether a packet has no core to run it (R17, R18): its opcode needs a core and none serves. A packet that keeper mode refuses needs none. -/
def State.noKiteFor (s : State) (bs : List Byte) : Bool :=
  let op := pktField bs 0 1
  knownOp op && coreOp op && !s.coreServes && s.sys.mode ≠ .keeper

/-- The lines that are dispatchable now (R116, R120): current, with no packet of the ring in execution and no status of it withheld. -/
def State.dispatchable (s : State) : List HeldPkt :=
  s.pkt.held.filter (fun h =>
    let v := s.ring h.ring
    v.en && decide (h.seq = v.nextSeq)
      && !s.ringBusy h.ring
      && !(s.pkt.withheld.any (fun p => decide (p.src = .ring (Fin.ofNat 32768 h.ring)))))

/-- The line with the lowest order stamp (R120). -/
def lowestStamp : List HeldPkt → Option HeldPkt
  | [] => none
  | h :: hs => match lowestStamp hs with
    | none => some h
    | some k => if h.stamp ≤ k.stamp then some h else some k

/-- The PACKET_TRACE record of a packet at dispatch, where its TRACE bit or PKT_CTL.TRACE_ALL asks for it (R110). -/
def State.traced (s : State) (ring seq stamp : Nat) (bs : List Byte) : State :=
  if natBits (pktField bs 1 1) 0 1 = 1 || s.flag PKT_CTL_TRACE_ALL then
    s.emit .trace 0x0059 132 (leBytes 2 ring ++ leBytes 2 seq ++ sliceBytes bs 0 1 ++ sliceBytes bs 6 2 ++ leBytes 8 stamp)
  else s

/-- A configuration opcode: CONFIG_STAGE, CONFIG_ACTIVATE or CONFIG_REVERT. -/
def configOp (op : Nat) : Bool := decide (op = 0x0C) || decide (op = 0x0D) || decide (op = 0x0E)

/-- What a packet that goes into execution remembers in `aux`: 1 where a mailbox packet waits for a core (R17), 2 more where it is a configuration packet dispatched while an activation or a revert was in execution (R255). -/
def State.dispatchAux (s : State) (bs : List Byte) (mailbox : Bool) : Nat :=
  let op := pktField bs 0 1
  (if mailbox && coreOp op && !s.coreServes then 1 else 0) +
  (if configOp op && s.pkt.exec.any (fun x => decide (pktField x.bytes 0 1 = 0x0D) || decide (pktField x.bytes 0 1 = 0x0E)) then 2 else 0)

/-- Dispatch one line (R110, R120, R121): NEXT_SEQ advances, a traced packet writes PACKET_TRACE, and the packet is refused or goes into execution. -/
def State.dispatch (s : State) (h : HeldPkt) : State :=
  let v := s.ring h.ring
  let t := { s with pkt := { s.pkt with held := s.pkt.held.erase h } }
  let t := (t.setRing h.ring { v with nextSeq := (v.nextSeq + 1) % 65536 }).wrap PKT_DISPATCHED 1
  let src := PktSrc.ring (Fin.ofNat 32768 h.ring)
  let e : ExecPkt := ⟨src, h.seq, h.stamp, h.bytes, false, false, t.dispatchAux h.bytes false⟩
  let t := t.traced h.ring h.seq h.stamp h.bytes
  match t.dispatchCheck h.bytes false v.priv with
  | some (c, d) => t.post (execStatus e c [] d)
  | none => { t with pkt := { t.pkt with exec := t.pkt.exec ++ [e] } }

/-- PACKET_DISPATCH (R17, R120, R121): of the dispatchable packets the one with the lowest order stamp. Packets of core opcodes are held while no core holds the kite. -/
def execPacketDispatch (s : State) : Host.Outcome State Fault Refusal :=
  if s.pkt.halted || s.pktFenced || !s.inMode [.service, .lull, .keeper] then .next s
  else match lowestStamp (s.dispatchable.filter (fun h => !s.noKiteFor h.bytes)) with
    | none => .next s
    | some h => .next (s.dispatch h)

/-- MAILBOX_GO (R17, R110, R133): the packet of PKT_MBX_IN is checked, writes its PACKET_TRACE, and goes into execution, or completes with a refusal. A GO while BUSY sets OVERRUN. -/
def execMailboxGo (s : State) : Host.Outcome State Fault Refusal :=
  if s.sys.mode = .off then .next s
  else if s.flag PKT_MBX_STS_BUSY then .next (s.setFlag PKT_MBX_STS_OVERRUN true)
  else
    let bs := s.getBytes 0x5100 16
    let t := (s.setFlag PKT_MBX_STS_BUSY true).setFlag PKT_MBX_STS_DONE false
    let e : ExecPkt := ⟨.mailbox, pktField bs 2 2, s.hbp.stamp, bs, false, false, 0⟩
    if t.sys.mode = .powerUp then .next (t.post (execStatus e stBusy [] noByte))
    else if (crc32c (bs.take 60)).toNat ≠ pktField bs 60 4 then .next (t.post (execStatus e stBadCrc [] noByte))
    else
      let t := t.traced (pktField bs 4 2) (pktField bs 2 2) e.stamp bs
      match t.dispatchCheck bs true true with
      | some (c, d) => .next (t.post (execStatus e c [] d))
      | none => .next { t with pkt := { t.pkt with exec := t.pkt.exec ++ [{ e with aux := t.dispatchAux bs true }] } }

/-- RING_CFG as a word (Table 4-13). -/
def State.ringCfg (s : State) (r : Nat) : Word :=
  let v := s.ring r
  let held := (s.pkt.held.filter (fun h => decide (h.ring = r))).length
  BitVec.ofNat 32 ((if v.en then 2 ^ 31 else 0) + (if v.priv then 2 ^ 30 else 0) + v.depth * 2 ^ 24 + held * 2 ^ 16 + v.nextSeq)

/-- RING_CNT as a word (Table 4-14). -/
def State.ringCnt (s : State) (r : Nat) : Word :=
  let v := s.ring r
  BitVec.ofNat 32 (v.badCrc * 2 ^ 24 + v.outOfOrder * 2 ^ 16 + v.gap * 2 ^ 8 + v.dup)

/-- Whether a write of RING_CFG is permitted (R106, R108): for the ring as it will stand when the writes that wait have taken effect. -/
def State.ringWriteOk (s : State) (r : Nat) (w : Word) : Bool := (s.applyRings s.pkt.ringWrites).ringFits r w

/-- Write RING_CFG where it is permitted (R108, R109). While a packet of the ring is in execution the write waits for its end, and so does one that needs what a waiting write will release; one that disables the ring discards the status of its packet in execution. -/
def State.writeRing (s : State) (r : Nat) (w : Word) : State :=
  if !s.ringWriteOk r w then s
  else if !s.ringBusy r && s.ringFits r w && !s.pkt.ringWrites.any (fun x => decide (x.1 = r)) then s.setRingCfg r w
  else
    let off := !w.getLsbD 31 && (s.ring r).en
    { s with pkt := { s.pkt with
        ringWrites := s.pkt.ringWrites ++ [(r, w)],
        exec := s.pkt.exec.map (fun (e : ExecPkt) => if off ∧ e.src = .ring (Fin.ofNat 32768 r) then { e with discard := true } else e) } }

/-- RING_CFG_WRITE (R108): a write of a ring's RING_CFG; a refused write changes nothing. -/
def execRingCfgWrite (ring : Fin 32768) (v : Word) (s : State) : Host.Outcome State Fault Refusal :=
  if !s.coreDomains then .next s else .next (s.writeRing ring.val v)

/-- Packets in execution, of the rings and of the mailbox, complete with their status discarded (R107, R132). -/
def State.statusLost (s : State) : State :=
  { s with pkt := { s.pkt with exec := s.pkt.exec.map (fun (e : ExecPkt) => { e with discard := true }) } }

/-- The ring-state table returns to its reset values (R107): held lines and lines not yet checked are discarded, and the status store is cleared. -/
def State.ringsReset (s : State) : State :=
  ({ s with hbp := { s.hbp with packetQ := [] },
            pkt := { s.pkt with rings := [], held := [], slots := [], ringWrites := [], withheld := s.pkt.withheld.filter (fun p => decide (p.src = .mailbox)) } } : State).setFld PKT_STS_DEPTH_USED 16

/-- Whether a packet in execution runs to completion at a freeze (R130): it needs neither flash, the BDC nor the seal unit. A TIME_SET that steps wall time back needs the seal unit, and has begun its own step; a TIME_SET forward has none. -/
def freezeKeeps (e : ExecPkt) : Bool :=
  [0x01, 0x02, 0x03, 0x08, 0x0A, 0x0F, 0x10, 0x11].contains (pktField e.bytes 0 1)
  || (decide (pktField e.bytes 0 1 = 0x09) && e.started) || (decide (pktField e.bytes 0 1 = 0x0B) && !e.started)

/-- At the freeze the packet engine stops dispatching, and packets in execution end as R130 gives; the SAVE_NOW that caused the freeze goes on, and a PACK_TEST is ended by the abandoned test. -/
def State.packetFreeze (s : State) : State :=
  let t := { s with pkt := { s.pkt with halted := true } }
  (t.pkt.exec.filter (fun e => !freezeKeeps e)).foldl (fun (u : State) e => u.complete e stBusy [] noByte) t

/-- Every held and dispatchable packet and every unposted status is lost, as the save ends in shut-down (R130). -/
def State.packetsLost (s : State) : State :=
  ({ s with hbp := { s.hbp with packetQ := [] }, pkt := { s.pkt with held := [], exec := [], withheld := [] } } : State).ringDrain.setFlag PKT_MBX_STS_BUSY false

end Sys2Proof.Machine
end

