-- ==== Sys2Proof/Machine/Persist.lean ====
section
/-! DEFINITION. The persistence unit: the dirty map, the save and check maps, marks, losses, glean confirmations and ALL_DIRTY (R137 to R162), with the capture regions that they turn on (R163). -/

namespace Sys2Proof.Machine

open Reg

/-- KIND NONE (Table 5-6). -/
def MapEntry.none : MapEntry := ⟨0, false, 0, 0⟩

/-- A map entry as 48 bits (Table 5-6). -/
def entryBits (e : MapEntry) : Nat :=
  e.kind * 2 ^ 46 + (if e.sealed then 2 ^ 45 else 0) + e.pos * 2 ^ 41 + e.sheaf

/-- The code of a dirty-map state (Table 5-4). -/
def dirtyCode : Dirty → Nat
  | .clean => 0
  | .dirty => 1
  | .gleanPending => 2
  | .flushing => 3

/-- The dirty-map state of a granule; an absent one is CLEAN (R57). -/
def State.dstate (s : State) (g : Nat) : Dirty := if s.present g then fmapGet s.per.dirty g else .clean

/-- The save-map entry of a granule; an absent one has KIND NONE (R57). -/
def State.smapOf (s : State) (g : Nat) : MapEntry := if s.present g then fmapGet s.per.smap g else MapEntry.none

/-- The check-map entry of a check group. -/
def State.cmapOf (s : State) (c : Nat) : MapEntry := if s.present (4 * c) then fmapGet s.per.cmap c else MapEntry.none

/-- Move a present granule to a dirty-map state. A granule that becomes DIRTY is no longer LOST (R210), one that becomes CLEAN is no longer queued for a flush (R153), and one that leaves FLUSHING has its harvest abandoned (Table 5-5). -/
def State.setD (s : State) (g : Nat) (d : Dirty) : State :=
  if !s.present g then s
  else
    let old := s.dstate g
    let p := { s.per with dirty := fmapSet s.per.dirty g d }
    let p := if d = .dirty then { p with lost := smapDel p.lost g } else p
    let p := if d = .clean then { p with flushQ := p.flushQ.filter (fun x => decide (x ≠ g)) } else p
    let b := if old = .flushing && d ≠ .flushing then { s.bdc with jobs := s.bdc.jobs.filter (fun j => decide (j.g ≠ g)) } else s.bdc
    { s with per := p, bdc := b }

/-- Store a save-map entry. A sheaf of an image or of a harvest flush is newer than every glean sheaf of the granule. -/
def State.setSmap (s : State) (g : Nat) (e : MapEntry) : State :=
  if !s.present g then s
  else
    let n := if e.kind = 2 then s.gln.newest else smapDel s.gln.newest g
    { s with per := { s.per with smap := fmapSet s.per.smap g e }, gln := { s.gln with newest := n } }

/-- Store a check-map entry. -/
def State.setCmap (s : State) (c : Nat) (e : MapEntry) : State := { s with per := { s.per with cmap := fmapSet s.per.cmap c e } }

/-- How many present granules are in a state that satisfies `p` (R57). -/
def State.countD (s : State) (p : Dirty → Bool) : Nat := fmapCount s.per.dirty s.presentCount p

/-- Granules in DIRTY or FLUSHING (R149). -/
def State.cntDirty (s : State) : Nat := s.countD (fun d => decide (d = .dirty) || decide (d = .flushing))

/-- Granules in GLEAN_PENDING. -/
def State.cntPending (s : State) : Nat := s.countD (fun d => decide (d = .gleanPending))

/-- Granules in FLUSHING. -/
def State.cntFlushing (s : State) : Nat := s.countD (fun d => decide (d = .flushing))

/-- Set the ALL_DIRTY latch for cause `i` of PER_STS.CAUSE (R151). -/
def State.setAllDirty (s : State) (i : Nat) : State := (s.setFlag PER_STS_ALL_DIRTY true).setBit PER_STS_CAUSE i true

/-- The latch and its causes clear (R151). -/
def State.clearAllDirty (s : State) : State := (s.setFlag PER_STS_ALL_DIRTY false).setFld PER_STS_CAUSE 0

/-- The next image starts a new chain (R158). -/
def State.fullNext (s : State) : Bool :=
  s.flash.images.isEmpty || s.flag PER_STS_ALL_DIRTY || decide (8 ≤ s.fld PER_STS_CHAIN_POS)

/-- A stamp together with its boot epoch, in one order (R139). -/
def ordOf (epoch stamp : Nat) : Nat := epoch * 2 ^ 64 + stamp

/-- A stamp of the present epoch. -/
def State.ord (s : State) (stamp : Nat) : Nat := ordOf s.epoch stamp

/-- A capture region of the table (R163). -/
def State.region (s : State) (r : Nat) : Region := smapGet (fun _ => Region.none) s.gln.regions r

/-- Change what a region holds beside its state, range and priority. -/
def State.tuneRegion (s : State) (r : Nat) (v : Region) : State :=
  { s with gln := { s.gln with regions := smapSet (fun _ => Region.none) s.gln.regions r v } }

/-- Change a region's state, range or priority, with its ledger record (R163), which is committed at once (R274), but for a save, whose image carries it (R277). -/
def State.setRegion (s : State) (r : Nat) (v : Region) : State := (s.tuneRegion r v).commitNow (.region r v)

/-- The same where the record waits for its commit. -/
def State.setRegionLater (s : State) (r : Nat) (v : Region) : State := (s.tuneRegion r v).ledger (.region r v)

/-- Whether the ledger still has to take a record of a region (R274). -/
def State.regionPending (s : State) (r : Nat) : Bool :=
  s.flo.pendingRecs.any (fun x => match x.body with | .region q _ => decide (q = r) | _ => false)

/-- RESULT of a packet that has changed a region (Table 4-7): the capture stamp of a definition, the stamp of a SEAL_OPEN, and nothing for a deletion. -/
def State.regionResult (s : State) (e : ExecPkt) : List Byte :=
  if pktField e.bytes 0 1 = 0x05 then leBytes 8 e.stamp else if pktField e.bytes 10 1 = 0 then leBytes 8 (s.region e.aux).cap else []

/-- The packets whose status depends on a REGION record complete once its commit is confirmed (R165, R274); a freeze then takes nothing of them back. -/
def State.regionsHeld (s : State) : State :=
  (s.waiting 0x04 ++ s.waiting 0x05).foldl (fun (u : State) e =>
    if u.regionPending e.aux then u
    else
      let u : State := { u with gln := { u.gln with deleted := smapDel u.gln.deleted e.aux } }
      u.complete e stOk (u.regionResult e) noByte) s

/-- A ledger commit, with the packets that waited for it (R165, R274). -/
def State.commitAll (s : State) : State := s.commitLedger.regionsHeld

/-- Whether a granule lies in a region's range. -/
def Region.has (v : Region) (g : Nat) : Bool := decide (v.first ≤ g) && decide (g < v.first + v.count)

/-- The region whose range holds a present granule, if one is defined. -/
def State.regionOf (s : State) (g : Nat) : Option (Nat × Region) :=
  if s.present g then s.gln.regions.find? (fun e => decide (e.2.st ≠ .free) && e.2.has g) else none

/-- Capture applies to a write of a granule at a stamp (R149, R164): at or above the capture stamp, which a region of an earlier epoch has passed. -/
def State.capturing (s : State) (g st : Nat) : Bool :=
  decide (s.sys.mode ≠ .keeper) && (match s.regionOf g with
    | some (_, v) => decide (v.capEpoch ≠ s.epoch) || decide (v.cap ≤ st)
    | none => false)

/-- Whether the glean unit is fenced (Table 14-6). -/
def State.gleanFenced (s : State) : Bool := s.unitOut .glean

/-- Whether the seal unit is fenced (Table 14-6). -/
def State.sealFenced (s : State) : Bool := s.unitOut .seal

/-- A packet that waits for a later event, as it stands now in execution. -/
def State.live (s : State) (e : ExecPkt) : Option ExecPkt :=
  s.pkt.exec.find? (fun x => decide (x.src = e.src) && decide (x.stamp = e.stamp) && decide (x.seq = e.seq) && decide (x.bytes = e.bytes))

/-- Complete a packet that has waited, if it is still in execution. -/
def State.completeLive (s : State) (e : ExecPkt) (code : Nat) (result : List Byte) (detail : Nat) : State :=
  match s.live e with
  | some x => s.complete x code result detail
  | none => s

/-- A SEAL_CLOSE ends without a seal (R181, R183, R184): its region returns to OPEN, the writes since the close stamp join what the open seal covers, and its packet completes with the code. -/
def State.failClose (s : State) (r code detail : Nat) : State :=
  (s.sea.closes.filter (fun c => decide (c.1 = r))).foldl (fun (u : State) c =>
    let late := u.sea.late.filter (fun x => decide (x.1 = r))
    let u : State := { u with sea := { u.sea with closes := u.sea.closes.filter (fun x => decide (x.1 ≠ r)), late := u.sea.late.filter (fun x => decide (x.1 ≠ r)) } }
    let v := u.region r
    let u := if v.st = .closing then
        ({ u with gln := { u.gln with cover := (late.filterMap (·.2.1)).foldl (fun m x => smapPut m x true) u.gln.cover } } : State).setRegion r
          { v with st := .opened, verified := v.verified && late.all (·.2.2.1), mismatch := v.mismatch + (late.filter (·.2.2.2)).length }
      else u
    u.completeLive c.2.2.1 code [] detail) s

/-- Whether a granule's coverage bit is set (R181). -/
def State.covered (s : State) (g : Nat) : Bool := (smapFind s.gln.cover g).isSome

/-- Whether the chain entry of a region's close is built or waits to be (Table 6-4, step 7). -/
def State.sealBuilt (s : State) (r : Nat) : Bool :=
  let is := fun (j : ChainJob) => match j with | .close x _ _ => decide (x = r) | _ => false
  s.sea.queue.any is || s.sea.flight.any (fun f => is f.job)

/-- A loss that strikes a covered granule while its close waits ends the close (Table 6-4, step 5). -/
def State.sealLoss (s : State) (g : Nat) : State :=
  if !s.covered g then s
  else (s.sea.closes.filter (fun c => c.2.2.2 && (s.region c.1).has g && !s.sealBuilt c.1)).foldl
    (fun (u : State) c => u.failClose c.1 stCaptureIncomplete noByte) s

/-- Whether a write at a stamp belongs to the open seal of a region: above o, and below c once the region is CLOSING (R181, R184). -/
def State.sealCovers (s : State) (r : Nat) (v : Region) (st : Nat) : Bool :=
  let after := decide (v.openEpoch ≠ s.epoch) || decide (v.openStamp < st)
  match v.st with
  | .opened => after
  | .closing => after && (s.sea.closes.all (fun c => decide (c.1 ≠ r) || decide (st < c.2.1)))
  | _ => false

/-- Whether a write at a stamp comes after the open stamp o of a region's seal (R181). -/
def State.afterOpen (s : State) (v : Region) (st : Nat) : Bool := decide (v.openEpoch ≠ s.epoch) || decide (v.openStamp < st)

/-- Keep a write of a CLOSING region at or above the close stamp, which the seal covers if it opens again (R181, R184). -/
def State.lateWrite (s : State) (r : Nat) (v : Region) (g : Option Nat) (st : Nat) (checked bad : Bool) : State :=
  if v.st = .closing && s.afterOpen v st then { s with sea := { s.sea with late := s.sea.late ++ [(r, g, checked, bad)] } } else s

/-- A captured or lost write sets its granule's coverage bit (R181). -/
def State.coverWrite (s : State) (g st : Nat) : State :=
  match s.regionOf g with
  | some (r, v) => if s.sealCovers r v st then { s with gln := { s.gln with cover := smapPut s.gln.cover g true } } else s.lateWrite r v (some g) st true false
  | none => s

/-- The slots of a granule are abandoned: no confirmation follows from them (R172). -/
def State.dropSlots (s : State) (g : Nat) : State :=
  { s with gln := { s.gln with slots := s.gln.slots.filter (fun x => decide (x.g ≠ g)) } }

/-- Set a granule's repair bit with a stamp of the present epoch (R173). -/
def State.setRepair (s : State) (g st : Nat) : State := { s with gln := { s.gln with repair := smapPut s.gln.repair g (s.ord st) } }

/-- A granule of a capture region is flagged: its repair bit, and with it CAPTURE_INCOMPLETE (Table 2-6, R61). -/
def State.flagAt (s : State) (g st : Nat) : State :=
  match s.regionOf g with
  | some _ => (s.setRepair g st).coverWrite g st
  | none => s

/-- The same at the present stamp. -/
def State.flagIncomplete (s : State) (g : Nat) : State := s.flagAt g s.horizon

/-- A loss for a granule (R172): its slots are abandoned, its repair bit takes the stamp, a GLEAN_LOSS record is written, and, but for the freeze, a GLEAN_PENDING granule becomes DIRTY. -/
def State.gleanLoss (s : State) (g st : Nat) (move : Bool) : State :=
  let t := ((s.dropSlots g).setRepair g st).note 0x005C 136 (leBytes 4 g ++ leBytes 8 st)
  let t := if move && t.dstate g = .gleanPending then t.setD g .dirty else t
  t.sealLoss g

/-- The loss of one write: its coverage bit is set as well. -/
def State.writeLoss (s : State) (g st : Nat) : State := (s.coverWrite g st).gleanLoss g st true

/-- A WRITE to a bank with no open row (R42, Table 6-3): the granule becomes DIRTY, and one in a capture region suffers a loss. -/
def State.bankWrite (s : State) (g : Nat) : State :=
  let t := s.setD g .dirty
  match t.regionOf g with
  | some _ => t.writeLoss g t.hbp.stamp
  | none => t

/-- The dirty-marker tap (R13, R58). A full FIFO sets ALL_DIRTY and reports DIRTY_TAP_OVERRUN. -/
def State.dirtyTap (s : State) (g st : Nat) (full : Bool) : State :=
  if full then ((s.bump HBP_TAP_STS_DIRTY 1).setAllDirty 0).report .dirtyTapOverrun 135 0 0
  else { s with hbp := { s.hbp with dirtyQ := s.hbp.dirtyQ ++ [(g, st)] } }

/-- The glean capture tap (R13, R59, R61): an entry for a write that its region captures. A full FIFO of 512, and a fenced glean unit, make a loss; keeper mode only flags the region. -/
def State.gleanTap (s : State) (ma st : Nat) (v : LineData × CheckBytes) : State :=
  let g := maGranule ma
  match s.regionOf g with
  | none => s
  | some _ =>
    if s.sys.mode = .keeper then s.flagAt g st
    else if !s.inMode [.attach, .service, .lull] || !s.capturing g st then s
    else if s.gleanFenced then s.writeLoss g st
    else if 512 ≤ s.gln.fifo.length then (s.bump HBP_TAP_STS_GLEAN 1).writeLoss g st
    else { s with gln := { s.gln with fifo := s.gln.fifo ++ [⟨ma, st, v.1, v.2⟩] } }

/-- Whether the dirty mark of a write has been applied. -/
def State.markApplied (s : State) (st : Nat) : Bool := !s.hbp.dirtyQ.any (fun e => decide (e.2 ≤ st))

/-- Whether the glean unit has taken every entry whose mark has been applied (R152). -/
def State.gleanCaughtUp (s : State) : Bool := s.gln.fifo.all (fun e => !s.markApplied e.stamp)

/-- Count landed bytes of `n` ears (R170, R178). -/
def State.landed (s : State) (n : Nat) : State := { s with gln := { s.gln with hourBytes := s.gln.hourBytes + n * 65536 } }

/-- A sheaf position of the glean reserve (R176), with RESERVE_EMPTY. -/
def State.takeGlean (s : State) : Option (Nat × State) := (s.allocGlean).map (fun x => (x.1, x.2.reserveFlag))

/-- Lines of a granule within its check group. -/
def groupLine (g i : Nat) : Nat := g % 4 * 16384 + i

/-- Write a check sheaf of a group that carries new check bytes over the group's current one (R155). `typ` is its TYPE of Table 9-3 and `kind` its KIND. -/
def State.writeCheck (s : State) (c typ kind : Nat) (gs : List (Nat × SMap CheckBytes)) : Option State :=
  (s.takeGlean).map (fun x =>
    let base := ((x.2.sheaf (x.2.cmapOf c).sheaf).map (·.chk)).getD []
    let chk := gs.foldl (fun m e => e.2.foldl (fun m' l => smapSet (fun _ => 0) m' (groupLine e.1 l.1) l.2) m) base
    let t := x.2.putSheaf x.1 ⟨typ, 0, [], 0, [], c, 0, x.2.horizon, x.2.epoch, [], false, [], chk⟩
    (t.setCmap c ⟨kind, false, 0, x.1⟩).landed 17)

/-- Whether a sheaf is named by the unreleased manifest of its granule's region (SEALED of Table 5-6). -/
def State.sealedSheaf (s : State) (a : Nat) : Bool := s.manifestNames a

/-- Apply the confirmations of one check group with one check sheaf (R152, R170). With no room in the reserve they wait. -/
def State.applyGroup (s : State) (c : Nat) : State :=
  let cs := s.per.confirms.filter (fun x => decide (x.g / 4 = c))
  let chks := cs.map (fun x => (x.g, ((s.sheaf x.sheaf).map (·.chk)).getD []))
  match s.writeCheck c 4 2 chks with
  | none => s
  | some t =>
    let t := cs.foldl (fun (u : State) x => (u.setD x.g .clean).setSmap x.g ⟨2, u.sealedSheaf x.sheaf, 0, x.sheaf⟩) t
    { t with per := { t.per with confirms := t.per.confirms.filter (fun x => decide (x.g / 4 ≠ c)) } }

/-- Judge the confirmations that wait (R152): one whose granule is not GLEAN_PENDING, or has a later applied mark, is dropped; the others are applied once the glean unit has caught up, those of a check group together when the first of them has waited GLN_CTL.IDLE_US (R170). -/
def State.applyConfirms (s : State) : State :=
  let keep := s.per.confirms.filter (fun x => decide (s.dstate x.g = .gleanPending) && decide (smapGet (fun _ => 0) s.per.lastMark x.g ≤ x.stamp))
  let t := { s with per := { s.per with confirms := keep } }
  if !t.gleanCaughtUp then t
  else
    let due := keep.filter (fun x => decide (x.tick + s.fld GLN_CTL_IDLE_US ≤ s.tick))
    ((due.map (fun x => x.g / 4)).dedup).foldl (fun (u : State) c => u.applyGroup c) t

/-- What a dirty mark does to its granule (Table 5-5). A write whose capture was lost before its mark leaves the granule DIRTY. -/
def State.mark (s : State) (g st : Nat) : State :=
  let t := { s with per := { s.per with marked := max s.per.marked st } }
  if !t.present g then t
  else
    let lostAt := match smapFind t.gln.repair g with
      | some o => decide (t.ord st ≤ o)
      | none => false
    let cap := t.capturing g st && !lostAt
    let t := { t with per := { t.per with lastMark := smapPut t.per.lastMark g st } }
    match t.dstate g with
    | .clean | .gleanPending => t.setD g (if cap then .gleanPending else .dirty)
    | .dirty | .flushing => t.setD g .dirty

/-- Apply every dirty mark that waits (Table 5-2, step 4). -/
def State.applyMarks (s : State) : State :=
  let q := s.hbp.dirtyQ
  q.foldl (fun (u : State) e => u.mark e.1 e.2) { s with hbp := { s.hbp with dirtyQ := [] } }

/-- DIRTY_MARK_APPLY (R150, R152): the oldest mark is applied, and the confirmations that wait are judged. -/
def execDirtyMarkApply (s : State) : Host.Outcome State Fault Refusal :=
  match s.hbp.dirtyQ with
  | [] => .next s
  | e :: rest => .next ((({ s with hbp := { s.hbp with dirtyQ := rest } } : State).mark e.1 e.2).applyConfirms)

/-- FORCE_FULL (R151): its register takes writes while the core domains run (R9, R461). -/
def execForceFull (s : State) : Host.Outcome State Fault Refusal := .next (if !s.coreDomains then s else s.setAllDirty 5)

/-- PER_MAP_SEL_WRITE (R162): the state and both entries of the selected granule are sampled together. -/
def execPerMapSelWrite (v : Word) (s : State) : Host.Outcome State Fault Refusal :=
  if !s.coreDomains then .next s
  else
    let t := s.setFld PER_MAP_SEL v.toNat
    let g := t.fld PER_MAP_SEL
    let sm := entryBits (t.smapOf g)
    let cm := entryBits (t.cmapOf (g / 4))
    let t := t.setFld PER_MAP_STATE (dirtyCode (t.dstate g))
    .next ((((t.setFld PER_SMAP_LO sm).setFld PER_SMAP_HI (sm / 2 ^ 32)).setFld PER_CMAP_LO cm).setFld PER_CMAP_HI (cm / 2 ^ 32))

/-- Queue the DIRTY and the FLUSHING granules of a range for the next harvest flush (R153, R164): how many are queued, how many are already clean or on flash, and the state after. -/
def State.flushRange (s : State) (first count : Nat) : Nat × Nat × State :=
  let gs := ((List.range count).map (fun i => first + i)).filter s.present
  let q := gs.filter (fun g => decide (s.dstate g = .dirty) || decide (s.dstate g = .flushing))
  let new := q.filter (fun g => !s.per.flushQ.contains g)
  (q.length, gs.length - q.length, { s with per := { s.per with flushQ := s.per.flushQ ++ new } })

/-- FLUSH_GRANULES (R153, Table 4-7): each line of the range must lie in a present granule (R57). -/
def execFlushGranules (src : PktSrc) (s : State) : Host.Outcome State Fault Refusal :=
  match s.findExec src 0x08 with
  | none => .next s
  | some e =>
    let first := pktField e.bytes 8 4
    let count := pktField e.bytes 12 4
    if count = 0 || 524288 < count || !s.rangePresent first count then .next (s.completeCode e stNotPermitted)
    else
      let (q, c, t) := s.flushRange first count
      .next (t.complete e stOk (leBytes 4 q ++ leBytes 4 c) noByte)

end Sys2Proof.Machine
end

