-- ==== Sys2Proof/Machine/Glean.lean ====
section
/-! DEFINITION. The glean unit: capture regions, assembly slots, losses and repair, the fold and the wear ration (R163 to R180). -/

namespace Sys2Proof.Machine

open Reg

/-- Captured lines of a data ear of a slot: line keys are MA[19:6] (R167). -/
def Slot.earCount (x : Slot) (k : Nat) : Nat := (x.lines.filter (fun e => decide (e.1 / 1024 = k))).length

/-- Whether all 1,024 lines of a data ear are captured (R168). -/
def Slot.earFull (x : Slot) (k : Nat) : Bool := decide (x.earCount k = 1024)

/-- Whether a data ear holds a data-ear buffer: it has captures and is not programmed. -/
def Slot.earBuffered (x : Slot) (k : Nat) : Bool := decide (0 < x.earCount k) && !x.done.getLsbD k

/-- Data-ear buffers in use (GLN_STS.BUFFERS). -/
def State.gleanBuffers (s : State) : Nat := (s.gln.slots.map (fun x => ((List.range 16).filter x.earBuffered).length)).sum

/-- The open assembly slots, oldest first. -/
def State.openSlots (s : State) : List Slot := s.gln.slots.filter (fun x => !x.closed)

/-- The open slot of a granule. -/
def State.slotFor (s : State) (g : Nat) : Option Slot := s.openSlots.find? (fun x => decide (x.g = g))

/-- Replace a slot under its own number. -/
def State.putSlot (s : State) (x : Slot) : State :=
  { s with gln := { s.gln with slots := s.gln.slots.map (fun y => if y.id = x.id then x else y) } }

/-- Whether every data ear of a closed slot has been handed over, so that its parity ear is whole and is handed over too (R168). -/
def Slot.fed (x : Slot) : Bool := x.closed && (List.range 16).all (fun k => x.started.getLsbD k || x.done.getLsbD k)

/-- Whether an ear of a slot has been handed over (R168): a data ear when it is full or its slot is closed, and the slot has its accumulator; the parity ear when the data ears have been. -/
def Slot.handed (x : Slot) (ear : Nat) : Bool :=
  if ear = 16 then x.fed else (x.acc || x.started.getLsbD ear || x.done.getLsbD ear) && (x.closed || x.earFull ear)

/-- Give the parity accumulators that are free to the oldest slots without one; one is free again once its slot's parity ear has been handed over (R168). -/
def State.giveAccumulators (s : State) : State :=
  let slots := s.gln.slots.map (fun (x : Slot) => { x with acc := x.acc && !x.fed })
  let free := 8 - (slots.filter (·.acc)).length
  let ids := ((slots.filter (fun x => !x.acc && !x.fed)).map (·.id)).take free
  { s with gln := { s.gln with slots := slots.map (fun (x : Slot) => if ids.contains x.id then { x with acc := true } else x) } }

/-- A slot with an ear handed over takes its sheaf position from the reserve (R168, R176); with an empty reserve it waits. -/
def State.placeSlots (s : State) : State :=
  (s.gln.slots.filter (fun x => x.sheaf.isNone && (List.range 16).any x.handed)).foldl (fun (u : State) x =>
    match u.takeGlean with
    | some (a, t) => t.putSlot { x with sheaf := some a }
    | none => u) s

/-- What can be handed over is. -/
def State.handOver (s : State) : State := s.giveAccumulators.placeSlots

/-- Close a slot (R169): the ears that are not wholly captured are merged or copied, and counted. -/
def State.closeSlot (s : State) (x : Slot) : State :=
  let part := ((List.range 16).filter (fun k => !x.earFull k)).length
  ((s.putSlot { x with closed := true }).handOver).bump GLN_CNT_MERGE part

/-- The lines that captures leave, oldest first. -/
def histLines (h : List TapEntry) : SMap (LineData × CheckBytes) := h.foldl (fun m e => smapPut m (maLine e.ma % 16384) (e.data, e.chk)) []

/-- Close a slot for SEAL at `c` (R184, Table 6-4 step 3). One that also holds captures at or above `c` is split: what lies below makes a sheaf of its own, and the rest is in a new slot (log entry 95). -/
def State.splitSlot (s : State) (x : Slot) (c : Nat) : State :=
  let below := x.hist.filter (fun e => decide (e.stamp < c))
  let above := x.hist.filter (fun e => decide (c ≤ e.stamp))
  if below.isEmpty then s
  else if above.isEmpty then (if x.closed then s else s.closeSlot x)
  else
    let top := fun (h : List TapEntry) => h.foldl (fun m e => max m e.stamp) 0
    let lo : Slot := { x with lines := histLines below, hist := below, stamp := top below, closed := true, sheaf := none, started := 0, done := 0 }
    let hi : Slot := ⟨s.gln.nextSlot, x.g, histLines above, x.lastTick, top above, x.closed, none, false, 0, 0, above⟩
    let part := ((List.range 16).filter (fun k => !lo.earFull k)).length
    (({ s with gln := { s.gln with slots := s.gln.slots.flatMap (fun y => if y.id = x.id then [lo, hi] else [y]),
                                   nextSlot := s.gln.nextSlot + 1 } } : State).handOver).bump GLN_CNT_MERGE part

/-- The open slot whose last capture, by its stamp, is oldest (R167). -/
def oldestSlot : List Slot → Option Slot
  | [] => none
  | x :: xs => match oldestSlot xs with
    | none => some x
    | some y => if y.stamp < x.stamp then some y else some x

/-- Open a slot for a granule. -/
def State.openSlot (s : State) (g : Nat) : State :=
  ({ s with gln := { s.gln with slots := s.gln.slots ++ [⟨s.gln.nextSlot, g, [], s.tick, 0, false, none, false, 0, 0, []⟩],
                                nextSlot := s.gln.nextSlot + 1 } } : State).handOver

/-- The slot an entry is to be placed in (R167, R183 step 3): a slot that holds captures below the close stamp of its region is closed for SEAL before one at or above it, and with 8 slots open the one with the oldest capture is closed for EVICT. -/
def State.readySlot (s : State) (g st : Nat) : State :=
  let split := match s.slotFor g, s.regionOf g with
    | some x, some (r, _) => s.sea.closes.any (fun c => decide (c.1 = r) && decide (c.2.1 ≤ st) && decide (x.stamp < c.2.1))
    | _, _ => false
  let t := match s.slotFor g with
    | some x => if split then s.closeSlot x else s
    | none => s
  match t.slotFor g with
  | some _ => t
  | none =>
    let t := if 8 ≤ t.openSlots.length then
        (match oldestSlot t.openSlots with
         | some x => t.closeSlot x
         | none => t)
      else t
    t.openSlot g

/-- Check a captured burst, or a line that a repair reads (`write` false), against the learned code (R97, R182): a mismatch is counted and reported; the seal that covers it counts it too, or is no longer VERIFIED where nothing is checked. -/
def State.gleanVerify (s : State) (e : TapEntry) (write : Bool) : State :=
  let g := maGranule e.ma
  let on := s.learned && s.flag CLN_CTL_VERIFY_GLEAN
  let bad := on && decide (s.predict e.ma e.data ≠ e.chk)
  let t := match s.regionOf g with
    | some (r, v) =>
      if s.sealCovers r v e.stamp then
        s.tuneRegion r { v with verified := v.verified && on, mismatch := v.mismatch + (if bad then 1 else 0) }
      else s.lateWrite r v (if write then some g else none) e.stamp on bad
    | none => s
  if bad then (t.bump GLN_CNT_HOSTCHK 1).report .gleanHostchk 136 (maQual e.ma) (maFollow e.ma) else t

/-- Write an entry into its granule's slot; none where no data-ear buffer is free (R167). A line captured again in an ear that is already programmed makes that ear due again (log entry 31). -/
def State.placeCapture (s : State) (e : TapEntry) : Option State :=
  match s.slotFor (maGranule e.ma) with
  | none => none
  | some x =>
    let line := maLine e.ma % 16384
    let k := line / 1024
    if !x.earBuffered k && 26 ≤ s.gleanBuffers then none
    else
      let m := ~~~(1#17 <<< k)
      let x' : Slot := { x with lines := smapPut x.lines line (e.data, e.chk), lastTick := s.tick, stamp := max x.stamp e.stamp, hist := x.hist ++ [e],
                                started := x.started &&& m, done := x.done &&& m }
      let t := s.putSlot x'
      some (if x'.lines.length = 16384 then t.closeSlot x' else t.handOver)

/-- GLEAN_CAPTURE_APPLY (R167, R181, R182): the oldest entry of the capture FIFO, once its dirty mark has been applied. It waits where no buffer is free; a granule that is not GLEAN_PENDING makes it a loss. -/
def execGleanCaptureApply (s : State) : Host.Outcome State Fault Refusal :=
  match s.gln.fifo with
  | [] => .next s
  | e :: rest =>
    let g := maGranule e.ma
    if !s.markApplied e.stamp then .next s
    else
      let t := { s with gln := { s.gln with fifo := rest } }
      match t.dstate g with
      | .gleanPending =>
        let u := t.readySlot g e.stamp
        match u.placeCapture e with
        | some v => .next ((((v.gleanVerify e true).coverWrite g e.stamp)).applyConfirms)
        | none => .next { u with gln := { u.gln with fifo := e :: rest } }
      | d =>
        let t := if d = .clean then t else t.bump GLN_CNT_LOSS_DIRTY 1
        .next ((t.writeLoss g e.stamp).applyConfirms)

/-- STAGING_OVERFLOW (R167, R172): an entry has waited 20 µs while no data-ear buffer is free or the reserve is empty. -/
def execStagingOverflow (s : State) : Host.Outcome State Fault Refusal :=
  match s.gln.fifo with
  | [] => .next s
  | e :: rest =>
    let g := maGranule e.ma
    let room := ((s.readySlot g e.stamp).placeCapture e).isSome && !s.flag GLN_STS_RESERVE_EMPTY
    if !s.markApplied e.stamp || s.dstate g ≠ .gleanPending || room then .next s
    else
      let t := ({ s with gln := { s.gln with fifo := rest } } : State).bump GLN_CNT_LOSS_STAGING 1
      .next ((t.writeLoss g e.stamp).applyConfirms)

/-- SLOT_IDLE_CLOSE (R169, Table 6-2). -/
def execSlotIdleClose (g : Fin 0x80000) (s : State) : Host.Outcome State Fault Refusal :=
  match s.slotFor g.val with
  | some x => .next (s.closeSlot x)
  | none => .next s

/-- Close every open slot (Table 6-2, LULL). -/
def State.closeSlots (s : State) : State := s.openSlots.foldl (fun (u : State) x => u.closeSlot x) s

/-- GLEAN_EAR_PROGRAMMED (R168, R176): the program of an ear ends and its buffer is free; the sheaf's position is taken from the reserve with its first ear, and an empty reserve makes it wait. -/
def execGleanEarProgrammed (slot : Nat) (ear : Fin 17) (s : State) : Host.Outcome State Fault Refusal :=
  match s.gln.slots.find? (fun x => decide (x.id = slot)) with
  | none => .next s
  | some x =>
    if !x.handed ear.val || x.done.getLsbD ear.val then .next s
    else
      let pos : Option (Nat × State) := match x.sheaf with
        | some a => some (a, s)
        | none => s.takeGlean
      match pos with
      | none => .next s
      | some (a, t) =>
        let x' : Slot := { x with sheaf := some a, started := x.started ||| (1#17 <<< ear.val), done := x.done ||| (1#17 <<< ear.val) }
        .next (((t.putSlot x').landed 1).handOver)

/-- The ear digests and the granule digest of R171. -/
def granuleDigest (m : SMap LineData) : List Byte :=
  sha256 ((List.range 16).flatMap (fun k =>
    sha256 ((List.range 1024).flatMap (fun i => leBytes 64 (smapGet (fun _ => 0) m (k * 1024 + i)).toNat))))

/-- The base of a slot (R168): the most recent programmed glean sheaf, unless the save map has a newer sheaf, else the sheaf of the save map (log entry 32). -/
def State.slotBase (s : State) (g : Nat) : Option Sheaf :=
  match (smapFind s.gln.newest g).bind s.sheaf with
  | some x => some x
  | none =>
    let e := s.smapOf g
    if e.kind = 0 then none else s.sheaf e.sheaf

/-- A glean sheaf is programmed (R173): it stands at its address, and it clears the repair bit it passes. `strict` for a sheaf made by capture. -/
def State.gleanSheaf (s : State) (a g st : Nat) (strict rep : Bool) (data : SMap LineData) (chk : SMap CheckBytes) : State :=
  let t := s.putSheaf a ⟨3, 0, [], 0, [], g, 0, st, s.epoch, granuleDigest data, rep, data, chk⟩
  let clears := match smapFind t.gln.repair g with
    | some o => if strict then decide (o < t.ord st) else decide (o ≤ t.ord st)
    | none => false
  { t with gln := { t.gln with newest := smapPut t.gln.newest g a, repair := if clears then smapDel t.gln.repair g else t.gln.repair } }

/-- GLEAN_SHEAF_PROGRAMMED (R169): all ears of a closed slot are programmed, and an older slot of the granule is not still under way. The sheaf is the base overlaid with the captures, and a confirmation up to its covered stamp goes to the persistence unit. -/
def execGleanSheafProgrammed (slot : Nat) (s : State) : Host.Outcome State Fault Refusal :=
  match s.gln.slots.find? (fun x => decide (x.id = slot)) with
  | none => .next s
  | some x =>
    let older := (s.gln.slots.takeWhile (fun y => decide (y.id ≠ x.id))).any (fun y => decide (y.g = x.g))
    match x.sheaf with
    | none => .next s
    | some a =>
      if !x.closed || x.done ≠ BitVec.allOnes 17 || older then .next s
      else
        let base := s.slotBase x.g
        let whole := decide (x.lines.length = 16384)
        let data := x.lines.foldl (fun m e => smapSet (fun _ => 0) m e.1 e.2.1) ((base.map (·.data)).getD [])
        let prev := match smapFind s.gln.newest x.g with
          | some b => ((s.sheaf b).map (·.chk)).getD []
          | none => []
        let chk := x.lines.foldl (fun m e => smapPut m e.1 e.2.2) prev
        let t := { s with gln := { s.gln with slots := s.gln.slots.filter (fun y => decide (y.id ≠ x.id)) } }
        let t := t.gleanSheaf a x.g x.stamp true (((base.map (·.rep)).getD false) && !whole) data chk
        let t := { t with per := { t.per with confirms := t.per.confirms ++ [(⟨x.g, x.stamp, a, s.tick⟩ : Confirm)] } }
        .next (t.applyConfirms.handOver)

/-- FLASH_REPAIR (R173): the current sheaf of a CLEAN granule with a repair bit is copied flash to flash into a new glean sheaf. A write to the granule wins: with one on its way the repair is dropped. -/
def execFlashRepair (g : Fin 0x80000) (s : State) : Host.Outcome State Fault Refusal :=
  let g := g.val
  let e := s.smapOf g
  if !s.inMode [.service, .lull] || s.gleanFenced || !s.flag GLN_CTL_REPAIR_EN || s.dstate g ≠ .clean || e.kind = 0 ||
     (smapFind s.gln.repair g).isNone || s.hbp.dirtyQ.any (fun x => decide (x.1 = g)) then .next s
  else match s.sheaf e.sheaf, s.takeGlean with
    | some old, some (a, t) =>
      let t := t.gleanSheaf a g t.horizon false true old.data []
      -- no host check bits are read, so that a seal open over the granule is no longer VERIFIED (R182)
      let t := match t.regionOf g with
        | some (r, v) => if v.st = RegionSt.opened ∨ v.st = RegionSt.closing then t.tuneRegion r { v with verified := false } else t
        | none => t
      .next ((t.setSmap g ⟨2, false, 0, a⟩).landed 17)
    | _, _ => .next s

/-- Whether the fold may move a reference of a sheaf: its save-map entry or an unreleased manifest (R177). -/
def State.foldable (s : State) (a : Nat) (x : Sheaf) : Bool :=
  decide (x.typ = 3) && !addrTlc a && (decide ((s.smapOf x.object).kind ≠ 0 ∧ (s.smapOf x.object).sheaf = a) || s.manifestNames a)

/-- A manifest update is appended to the chain store (R279): the granule's sheaf is named as `b` from now on. It takes a position of its own (log entry 109). -/
def State.manifestUpdate (s : State) (g a b : Nat) : State :=
  let (is, t) := s.chainTake 1
  let t : State := { t with flash := { t.flash with updates := t.flash.updates ++ [(is.headD 0, g, a, b)] } }
  t.chainRoom

/-- FOLD_COMPLETE (R177): the copy of a programmed glean sheaf to TLC is done, oldest first; the save-map entry names the copy, and where confirmed manifests name the sheaf a manifest update is appended to the chain store (R279). With nothing to move the copy is discarded. -/
def execFoldComplete (sheaf : Word) (s : State) : Host.Outcome State Fault Refusal :=
  let a := sheaf.toNat
  match s.sheaf a with
  | none => .next s
  | some x =>
    let key := fun (v : Sheaf) => ordOf v.epoch v.stamp
    let first := s.flash.sheaves.all (fun e => !s.foldable e.1 e.2 || decide (key x ≤ key e.2))
    if !s.inMode [.service, .lull] || !s.foldable a x || !first then .next s
    else match s.allocTlc with
      | none => .next s
      | some (b, t) =>
        let t := t.putSheaf b x
        let e := t.smapOf x.object
        let t := if e.kind ≠ 0 && e.sheaf = a then t.setSmap x.object { e with sheaf := b } else t
        let t := if smapFind t.gln.newest x.object = some a then
            { t with gln := { t.gln with newest := smapPut t.gln.newest x.object b } } else t
        let named := t.flash.chain.any (fun c => !c.released && (t.manifestOf c).any (fun m => decide (m.2 = a)))
        let t := if named then t.manifestUpdate x.object a b else t
        let t := { t with sea := { t.sea with flight := t.sea.flight.map (fun (f : ChainFlight) =>
                                  { f with manifest := f.manifest.map (fun (m : Nat × Nat) => if m.2 = a then (m.1, b) else m) }) } }
        .next (t.refill)

/-- RATION_HOUR (R178): the hour's bytes join the window of 24, the average is rounded up to a whole MB/s, and an overrun is reported. -/
def execRationHour (s : State) : Host.Outcome State Fault Refusal :=
  if s.sys.mode = .off then .next s
  else
    let hours := (s.gln.hourBytes :: s.gln.hours).take 24
    let avg := ceilDiv hours.sum (86400 * 1000000)
    let t := { s with gln := { s.gln with hours := hours, hourBytes := 0 } }
    let t := (t.setFld GLN_RATION_USED_HOURS hours.length).setFld GLN_RATION_USED_AVG (min avg 65535)
    if t.fld GLN_RATION_MBS < avg then .next ((t.setFlag GLN_STS_RATION_OVER true).report .rationExceeded 136 0 0) else .next t

/-- Whether a range overlaps a defined region. -/
def State.overlapsRegion (s : State) (first count : Nat) : Bool :=
  s.gln.regions.any (fun e => decide (e.2.st ≠ .free) && decide (first < e.2.first + e.2.count) && decide (e.2.first < first + count))

/-- CAPTURE_DEFINE, define (R164, Table 4-7): the region is installed at the stamp horizon plus 1, and its DIRTY granules are queued for the next harvest flush; the status is posted once the REGION record is committed (R274). An ACTION other than define and delete is refused. -/
def execCaptureDefineDefine (src : PktSrc) (s : State) : Host.Outcome State Fault Refusal :=
  match s.findExec src 0x04 with
  | none => .next s
  | some e =>
    let r := pktField e.bytes 8 2
    let act := pktField e.bytes 10 1
    let first := pktField e.bytes 12 4
    let count := pktField e.bytes 16 4
    let v := s.region r
    if act = 1 then .next s
    else if v.releasing then .next (s.completeCode e stBusy)
    else if v.st = .sealed then .next (s.completeCode e stSealed)
    else if act ≠ 0 || 1024 ≤ r || v.st ≠ .free || count = 0 || 524288 < count || 7 < pktField e.bytes 11 1 ||
      s.granuleCount < first + count || s.overlapsAperture first count || s.overlapsRegion first count then .next (s.completeCode e stNotPermitted)
    else
      let cap := s.horizon + 1
      let t := s.setRegion r ⟨.capturing, first, count, pktField e.bytes 11 1, cap, s.epoch, 0, 0, 0, false, 0, false⟩
      let t : State := { t with gln := { t.gln with deleted := smapPut t.gln.deleted r ⟨Region.none, [], [], []⟩ } }
      .next (((t.flushRange first count).2.2.startExec e r).regionsHeld)

/-- CAPTURE_DEFINE, delete (R165): accepted in CAPTURING only; the slots of the range are dropped, its GLEAN_PENDING granules become DIRTY, its repair bits are cleared, and the status waits for the ledger. -/
def execCaptureDefineDelete (src : PktSrc) (s : State) : Host.Outcome State Fault Refusal :=
  match s.findExec src 0x04 with
  | none => .next s
  | some e =>
    let r := pktField e.bytes 8 2
    let v := s.region r
    if pktField e.bytes 10 1 ≠ 1 then .next s
    else if v.releasing then .next (s.completeCode e stBusy)
    else if v.st = .sealed then .next (s.completeCode e stSealed)
    else if v.st ≠ .capturing then .next (s.completeCode e stNotPermitted)
    else
      let gs := (s.per.dirty.kv.filter (fun x => v.has x.1 && decide (s.dstate x.1 = .gleanPending))).map (·.1)
      let old : Deleted := ⟨v, s.gln.repair.filter (fun x => v.has x.1), s.gln.cover.filter (fun x => v.has x.1), gs⟩
      let t := { s with gln := { s.gln with deleted := smapPut s.gln.deleted r old, slots := s.gln.slots.filter (fun x => !v.has x.g), fifo := s.gln.fifo.filter (fun x => !v.has (maGranule x.ma)),
                                            repair := s.gln.repair.filter (fun x => !v.has x.1), cover := s.gln.cover.filter (fun x => !v.has x.1) } }
      let t := gs.foldl (fun (u : State) g => u.setD g .dirty) t
      let t := t.setRegionLater r { v with st := .free }
      .next ((t.startExec e r).applyConfirms)

/-- The changes of regions that the ledger does not yet hold are without effect at a freeze (R130): the regions are as they were, but for the slots of a deletion, which the freeze makes losses. -/
def State.undelete (s : State) : State :=
  let ds := s.gln.deleted
  let t := ds.foldl (fun (u : State) d =>
    let u := u.setRegion d.1 d.2.region
    let u : State := { u with gln := { u.gln with repair := d.2.repair.foldl (fun m x => smapPut m x.1 x.2) u.gln.repair,
                                                  cover := d.2.cover.foldl (fun m x => smapPut m x.1 x.2) u.gln.cover } }
    d.2.grans.foldl (fun (w : State) g => if w.dstate g = .dirty then (w.setD g .gleanPending).gleanLoss g w.horizon false else w) u) s
  { t with gln := { t.gln with deleted := [] } }

/-- A fence of a channel (Table 6-3): every granule with an unprogrammed ear on it suffers a loss, at the stamp horizon. -/
def State.gleanFenceChannel (s : State) (ch : Nat) : State :=
  let hit := fun (x : Slot) => match x.sheaf with
    | some a => (List.range 17).any (fun k => decide (earChannel a k = ch) && !x.done.getLsbD k)
    | none => false
  (((s.gln.slots.filter hit).map (·.g)).dedup).foldl (fun (u : State) g => u.gleanLoss g u.horizon true) s

/-- The GLEAN_PENDING granules. -/
def State.pendingGranules (s : State) : List Nat :=
  ((s.per.dirty.kv.filter (fun x => decide (x.2 = .gleanPending))).map (·.1)).filter s.present

/-- The glean unit stops, at keeper entry or at its fence (R61, Table 14-6): every entry and every GLEAN_PENDING granule suffers a loss. -/
def State.gleanStop (s : State) : State :=
  let q := s.gln.fifo
  let t := q.foldl (fun (u : State) e => u.writeLoss (maGranule e.ma) e.stamp) { s with gln := { s.gln with fifo := [] } }
  t.pendingGranules.foldl (fun (u : State) g => u.gleanLoss g u.horizon true) t

/-- The glean unit at step 4 of the freeze (R174, Table 6-3): entries not taken, open slots, and closed slots with an ear whose program had not started are losses that leave the granule's state; slots whose programs have all started go on. -/
def State.gleanFreeze (s : State) : State :=
  let q := s.gln.fifo
  let lost := (s.gln.slots.filter (fun x => !x.closed || (x.started ||| x.done) ≠ BitVec.allOnes 17)).map (·.g)
  let t := q.foldl (fun (u : State) e => (u.coverWrite (maGranule e.ma) e.stamp).gleanLoss (maGranule e.ma) u.horizon false)
    { s with gln := { s.gln with fifo := [] } }
  (lost.dedup).foldl (fun (u : State) g => u.gleanLoss g u.horizon false) t

/-- GLN_STS.ACTIVE: captures are being taken. -/
def State.gleanActive (s : State) : Bool :=
  s.inMode [.service, .lull] && !s.gleanFenced && s.gln.regions.any (fun e => decide (e.2.st ≠ .free))

/-- CAPTURE_INCOMPLETE of a region (R173): some granule of its range has a repair bit. -/
def State.incomplete (s : State) (v : Region) : Bool := decide (v.st ≠ .free) && s.gln.repair.any (fun e => v.has e.1)

/-- Attach ends with no restore (R175): open seals are abandoned, and the coverage and repair maps are cleared. -/
def State.abandonSeals (s : State) : State :=
  let t := s.gln.regions.foldl (fun (u : State) e =>
    if e.2.st = .opened || e.2.st = .closing then (u.setRegion e.1 { e.2 with st := .capturing }).note 0x005D 136 (leBytes 2 e.1) else u) s
  { t with gln := { t.gln with cover := [], repair := [] }, sea := { t.sea with late := [] } }

end Sys2Proof.Machine
end

