-- ==== Sys2Proof/Machine/Seal.lean ====
section
/-! DEFINITION. The seal unit and the seal chain (R181 to R194), with TIME_SET, whose step back is a chain entry (R449, R450). -/

namespace Sys2Proof.Machine

open Reg

/-- The device key (R189, R190): from 1 to one less than the order of the group. -/
def deviceKey : Nat := Config.deviceSecret % (ecN - 1) + 1

/-- The bytes of the public key (Table 6-13). -/
def pubKeyBytes : List Byte := ecPublic deviceKey

/-- KEY_ID (Table 6-6). -/
def keyId : List Byte := (sha256 (4#8 :: pubKeyBytes)).take 4

/-- The ASCII bytes of the magics of Tables 6-5 and 6-6. -/
def magicSeal : List Byte := [0x59, 0x47, 0x53, 0x4C]

/-- MAGIC of the seal message. -/
def magicMsg : List Byte := [0x59, 0x47, 0x53, 0x4D]

/-- The chain head: the newest confirmed entry. -/
def State.chainHead (s : State) : Option ChainEnt := s.flash.chain.getLast?

/-- The entry digest (R189). -/
def entryDigest (bs : List Byte) : List Byte := sha256 (bs.take 144)

/-- The 256 bytes of a chain entry (Tables 6-6, 6-7), signed over bytes 0 to 143. -/
def entryBytes (typ flags seq prevSeq region epoch tick wall : Nat) (part prev : List Byte) : List Byte :=
  let body := magicSeal ++ leBytes 1 1 ++ leBytes 1 typ ++ leBytes 2 flags ++ leBytes 6 seq ++ leBytes 6 prevSeq ++ leBytes 2 region ++
    leBytes 2 0 ++ leBytes 4 epoch ++ leBytes 8 tick ++ leBytes 8 wall ++ keyId ++ sliceBytes part 0 64 ++ sliceBytes prev 0 32
  let all := body ++ ecSign deviceKey body ++ List.replicate 44 0
  all ++ leBytes 4 (crc32c all).toNat

/-- The GENESIS entry (R190): SEQ 1 and PREV_SEQ 0. -/
def genesisEntry : ChainEnt := ⟨1, entryBytes 0 0 1 0 0xFFFF 0 0 0 [] [], [], false, [0]⟩

/-- A chain entry made now, linked to the head. -/
def State.mkEntry (s : State) (typ flags seq region : Nat) (part : List Byte) : List Byte :=
  let head := s.chainHead
  entryBytes typ flags seq ((head.map (·.seq)).getD 0) region s.epoch s.tick s.wallNow part ((head.map (fun h => entryDigest h.bytes)).getD [])

/-- The latest glean sheaf of a granule with a covered stamp below `c` of the present epoch (Table 6-4, step 5). -/
def State.sheafBelow (s : State) (g c : Nat) : Option (Nat × Sheaf) :=
  (s.flash.sheaves.filter (fun e => decide (e.2.typ = 3) && decide (e.2.object = g) && decide (ordOf e.2.epoch e.2.stamp < s.ord c))).foldl
    (fun acc e => match acc with
      | none => some e
      | some b => if ordOf b.2.epoch b.2.stamp ≤ ordOf e.2.epoch e.2.stamp then some e else some b) none

/-- The covered granules of a region, in ascending order (R181). -/
def State.coveredOf (s : State) (v : Region) : List Nat := (s.gln.cover.filter (fun e => v.has e.1)).map (·.1)

/-- The seal message (R187, Table 6-5). -/
def State.sealMessage (s : State) (r : Nat) (v : Region) (c : Nat) : List Byte :=
  let gs := s.coveredOf v
  magicMsg ++ leBytes 1 1 ++ leBytes 1 0 ++ leBytes 2 r ++ leBytes 4 v.openEpoch ++ leBytes 4 s.epoch ++ leBytes 8 v.openStamp ++ leBytes 8 c ++
    leBytes 4 gs.length ++ leBytes 4 0 ++
    gs.flatMap (fun g => leBytes 4 g ++ sliceBytes (((s.sheafBelow g c).map (·.2.digest)).getD []) 0 32)

/-- The bytes and the manifest of a SEAL entry (R182, R188). -/
def State.sealEntry (s : State) (r c seq : Nat) : List Byte × SMap Nat :=
  let v := s.region r
  let gs := s.coveredOf v
  let rep := (gs.filter (fun g => ((s.sheafBelow g c).map (·.2.rep)).getD false)).length
  let b := fun (x : Bool) (i : Nat) => if x then 2 ^ i else 0
  let flags := b (v.verified && s.learned && s.flag CLN_CTL_VERIFY_GLEAN) 0 + b (decide (v.mismatch ≠ 0)) 1 + b (decide (rep ≠ 0)) 2 + b (decide (v.openEpoch ≠ s.epoch)) 3
  let part := leBytes 4 v.openEpoch ++ leBytes 8 v.openStamp ++ leBytes 8 c ++ leBytes 4 gs.length ++ leBytes 4 rep ++ leBytes 4 v.mismatch ++
    sha256 (s.sealMessage r v c)
  (s.mkEntry 1 flags seq r part, gs.filterMap (fun g => (s.sheafBelow g c).map (fun e => (g, e.1))))

/-- A chain entry of the chain store by its SEQ. -/
def State.chainEntry (s : State) (q : Nat) : Option ChainEnt := s.flash.chain.find? (fun c => decide (c.seq = q))

/-- The bytes of a RELEASE entry (Table 6-7). -/
def State.releaseEntry (s : State) (r released seq : Nat) : List Byte :=
  let content := ((s.chainEntry released).map (fun c => sliceBytes c.bytes 80 32)).getD []
  s.mkEntry 3 0 seq r (leBytes 6 released ++ leBytes 2 0 ++ leBytes 8 s.horizon ++ List.replicate 16 0 ++ content)

/-- The bytes of a TIME_STEP entry (Table 6-7). -/
def State.timeEntry (s : State) (wall seq : Nat) : List Byte :=
  s.mkEntry 2 0 seq 0xFFFF (leBytes 8 s.wallNow ++ leBytes 8 wall ++ leBytes 8 s.horizon)

/-- Build the next chain entry once the previous one is confirmed or void (R184): it takes its sequence number, is signed, and its commit is issued. -/
def State.chainPump (s : State) : State :=
  match s.sea.flight, s.sea.queue with
  | none, j :: rest =>
    if s.seqBlocked then s
    else
      let (n, t) := s.takeSeq
      let (bs, m) : List Byte × SMap Nat := match j with
        | .close r c _ => t.sealEntry r c n
        | .release r q _ => (t.releaseEntry r q n, [])
        | .timeStep w _ => (t.timeEntry w n, [])
      { t with sea := { t.sea with queue := rest, flight := some ⟨n, bs, m, j⟩ } }
  | _, _ => s

/-- Put a job in the line for the chain. -/
def State.chainJob (s : State) (j : ChainJob) : State := ({ s with sea := { s.sea with queue := s.sea.queue ++ [j] } } : State).chainPump

/-- Show the chain head in the registers of Table 6-13. -/
def State.showHead (s : State) : State :=
  match s.chainHead with
  | none => s
  | some h => (((s.setFld SEA_HEAD_SEQ_LO h.seq).setFld SEA_HEAD_SEQ_HI (h.seq / 2 ^ 32))).setBytes 0x8070 (entryDigest h.bytes) 8

/-- A chain entry is confirmed: with its manifest it takes the next positions of the chain store, and its SEAL_COMMIT record is written (R279): the entry stands at the start of its first ear, and its manifest after its 256 bytes. -/
def State.chainAppend (s : State) (seq : Nat) (bytes : List Byte) (manifest : SMap Nat) : State :=
  let (is, t) := s.chainTake (ChainEnt.ears manifest)
  let i := is.headD 0
  let t : State := { t with flash := { t.flash with chain := t.flash.chain ++ [⟨seq, bytes, manifest, false, is⟩] }, sea := { t.sea with flight := none } }
  (t.showHead.ledger (.sealCommit seq (s.chainAddr i) (2 * (i % 8)) 0 256 (8 * manifest.length))).chainRoom

/-- The seal unit refuses its commands: it is fenced, or the chain head failed its check (Tables 6-12, 14-6). -/
def State.sealClosed (s : State) : Bool := s.sealFenced || s.flag SEA_STS_CHAIN_FAULT

/-- The writes above an open stamp that were captured or lost before the SEAL_OPEN was dispatched (R181): the captures that stand in slots, and the granules of those, of the glean sheaves and of the losses above the stamp. -/
def State.earlyWrites (s : State) (v : Region) (o : Nat) : List TapEntry × List Nat :=
  let hist := (s.gln.slots.filter (fun x => v.has x.g)).flatMap (fun x => x.hist.filter (fun e => decide (o < e.stamp)))
  let made := (s.flash.sheaves.filter (fun e => decide (e.2.typ = 3) && v.has e.2.object && decide (s.ord o < ordOf e.2.epoch e.2.stamp))).map (·.2.object)
  let lost := (s.gln.repair.filter (fun e => v.has e.1 && decide (s.ord o < e.2))).map (·.1)
  (hist, hist.map (fun e => maGranule e.ma) ++ made ++ lost)

/-- SEAL_OPEN (R181, R182, Table 4-7): the seal opens at the stamp of the packet's WRITE, and covers what was written above it; VERIFIED holds where host check bits have been checked from that stamp on. The status is posted once the REGION record is committed (R274). -/
def execSealOpen (src : PktSrc) (s : State) : Host.Outcome State Fault Refusal :=
  match s.findExec src 0x05 with
  | none => .next s
  | some e =>
    let r := pktField e.bytes 8 2
    let v := s.region r
    let on := s.learned && s.flag CLN_CTL_VERIFY_GLEAN
    if s.sealClosed || 1024 ≤ r then .next (s.completeCode e stNotPermitted)
    else if v.releasing then .next (s.completeCode e stBusy)
    else if v.st = .sealed then .next (s.completeCode e stSealed)
    else if v.st ≠ .capturing then .next (s.completeCode e stNotPermitted)
    else if natBits (pktField e.bytes 10 1) 0 1 = 1 && !on then .next (s.completeCode e stUnlearned)
    else
      let (hist, gs) := s.earlyWrites v e.stamp
      let bad := (hist.filter (fun x => on && decide (s.predict x.ma x.data ≠ x.chk))).length
      let cover := s.gln.cover.filter (fun x => !v.has x.1)
      let old : Deleted := ⟨v, [], s.gln.cover.filter (fun x => v.has x.1), []⟩
      let t := { s with gln := { s.gln with cover := gs.foldl (fun m g => smapPut m g true) cover, deleted := smapPut s.gln.deleted r old } }
      let t := t.setRegion r { v with st := .opened, openStamp := e.stamp, openEpoch := s.epoch, verified := on && decide (s.gln.verFrom ≤ e.stamp), mismatch := bad }
      .next ((t.startExec e r).regionsHeld)

/-- The close stamp of a SEAL_CLOSE (R123, Table 5-1): the stamp of its WRITE, or, through the mailbox, the first stamp after the horizon. -/
def closeStamp (e : ExecPkt) : Nat := match e.src with | .mailbox => e.stamp + 1 | .ring _ => e.stamp

/-- SEAL_CLOSE (R183, step 1 of Table 6-4). -/
def execSealClose (src : PktSrc) (s : State) : Host.Outcome State Fault Refusal :=
  match s.findExec src 0x06 with
  | none => .next s
  | some e =>
    let r := pktField e.bytes 8 2
    let v := s.region r
    if s.sealClosed then .next (s.completeCode e stNotPermitted)
    else if v.releasing then .next (s.completeCode e stBusy)
    else if v.st ≠ .opened then .next (s.completeCode e stNotPermitted)
    else
      let t := (s.setRegion r { v with st := .closing }).startExec e r
      .next { t with sea := { t.sea with closes := t.sea.closes ++ [(r, closeStamp e, e, false)] } }

/-- Whether a covered granule of a region has a repair bit (Table 6-4, step 4). -/
def State.coveredBroken (s : State) (v : Region) : Bool := (s.coveredOf v).any (fun g => (smapFind s.gln.repair g).isSome)

/-- SEAL_BARRIER_PASS (steps 2 to 4 of Table 6-4): once every capture stamped below c is taken or lost, the slots of the range close for SEAL at c, captures at or above c go to new slots (log entry 95), and a covered granule with a repair bit ends the close. -/
def execSealBarrierPass (region : Fin 1024) (s : State) : Host.Outcome State Fault Refusal :=
  let r := region.val
  match s.sea.closes.find? (fun c => decide (c.1 = r) && !c.2.2.2) with
  | none => .next s
  | some (_, c, _, _) =>
    let v := s.region r
    if s.gln.fifo.any (fun e => decide (e.stamp < c) && v.has (maGranule e.ma)) then .next s
    else
      let t := (s.gln.slots.filter (fun x => v.has x.g)).foldl (fun (u : State) x => u.splitSlot x c) s
      let t := { t with sea := { t.sea with closes := t.sea.closes.map (fun (x : Nat × Nat × ExecPkt × Bool) => if x.1 = r then (x.1, x.2.1, x.2.2.1, true) else x) } }
      .next (if t.coveredBroken v then t.failClose r stCaptureIncomplete noByte else t)

/-- SEAL_CONTENT_READY (steps 5 to 7 of Table 6-4): every sheaf below c is programmed, so CONTENT is computed and the chain entry joins the line. A covered granule without such a sheaf takes a repair bit, and the close ends. -/
def execSealContentReady (region : Fin 1024) (s : State) : Host.Outcome State Fault Refusal :=
  let r := region.val
  match s.sea.closes.find? (fun c => decide (c.1 = r) && c.2.2.2) with
  | none => .next s
  | some (_, c, e, _) =>
    let v := s.region r
    let gs := s.coveredOf v
    let busy := s.gln.slots.any (fun x => s.covered x.g && v.has x.g && decide (x.stamp < c))
    if s.sealBuilt r || busy then .next s
    else if s.coveredBroken v then .next (s.failClose r stCaptureIncomplete noByte)
    else
      let bare := gs.filter (fun g => (s.sheafBelow g c).isNone)
      if bare ≠ [] then .next ((bare.foldl (fun (u : State) g => u.setRepair g u.horizon) s).failClose r stCaptureIncomplete noByte)
      else .next (s.chainJob (.close r c e))

/-- Set or clear SEALED in the save-map entries that reference the sheaves of a manifest (R183 step 8, R186). -/
def State.markSealed (s : State) (m : SMap Nat) (b : Bool) : State :=
  m.foldl (fun (u : State) x =>
    let e := u.smapOf x.1
    if e.kind = 2 && e.sheaf = x.2 then u.setSmap x.1 { e with sealed := b } else u) s

/-- SEAL_COMMIT_DONE (steps 7 and 8 of Table 6-4): the entry and its manifest are confirmed, the region is SEALED and the status is posted; the next chain entry is then built. -/
def execSealCommitDone (s : State) : Host.Outcome State Fault Refusal :=
  match s.sea.flight with
  | some ⟨n, bs, m, .close r _ e⟩ =>
    let t := s.chainAppend n bs m
    let t := { t with sea := { t.sea with closes := t.sea.closes.filter (fun x => decide (x.1 ≠ r)), late := t.sea.late.filter (fun x => decide (x.1 ≠ r)) } }
    let t := t.setRegion r { (t.region r) with st := .sealed, sealSeq := n }
    let t := ((t.markSealed m true).wrap SEA_CNT 1).commitAll
    .next ((t.completeLive e stOk (leBytes 6 n ++ leBytes 2 0 ++ sliceBytes bs 80 8) noByte).chainPump)
  | _ => .next s

/-- GLEAN_RELEASE (R186). -/
def execGleanRelease (src : PktSrc) (s : State) : Host.Outcome State Fault Refusal :=
  match s.findExec src 0x07 with
  | none => .next s
  | some e =>
    let r := pktField e.bytes 8 2
    let v := s.region r
    if s.sealClosed then .next (s.completeCode e stNotPermitted)
    else if v.releasing then .next (s.completeCode e stBusy)
    else if v.st ≠ .sealed || v.sealSeq ≠ pktField e.bytes 10 6 then .next (s.completeCode e stNotPermitted)
    else .next (((s.tuneRegion r { v with releasing := true }).startExec e r).chainJob (.release r v.sealSeq e))

/-- RELEASE_COMMIT_DONE (R186): the manifest's sheaves are given up, the SEALED bits are cleared, and the region returns to CAPTURING with its capture stamp. -/
def execReleaseCommitDone (s : State) : Host.Outcome State Fault Refusal :=
  match s.sea.flight with
  | some ⟨n, bs, _, .release r q e⟩ =>
    let m := ((s.chainEntry q).map s.manifestOf).getD []
    let t := s.chainAppend n bs []
    let t := { t with flash := { t.flash with chain := t.flash.chain.map (fun (c : ChainEnt) => if c.seq = q then { c with released := true } else c) } }
    let t := (t.markSealed m false).setRegion r { (t.region r) with st := .capturing, releasing := false }
    let t := ((t.ledger (.release q r)).commitAll).refill
    .next ((t.completeLive e stOk [] noByte).chainPump)
  | _ => .next s

/-- Hold a record under a number that it already has (R449). -/
def State.holdAs (s : State) (e : EvRecord) (n : Nat) : State :=
  if s.flag EVR_STS_FENCED then s.bump EVR_FENCED_CNT 1
  else
    let r := s.held e (some n)
    if s.logRoom r then s.logArrive r else s.bump (dropFld e.sev) 1

/-- Wall time moves (R441, R449). -/
def State.setWall (s : State) (w : Nat) : State := ({ s with evr := { s.evr with wall := some (w, s.tick) } } : State).setFlag EVR_STS_WALL_SET true

/-- TIME_SET (R449): forward, it takes effect at dispatch; back, it makes a TIME_STEP chain entry. Two TIME_SETs take effect in their dispatch order (R450). -/
def execTimeSet (src : PktSrc) (s : State) : Host.Outcome State Fault Refusal :=
  match s.findExec src 0x0B with
  | none => .next s
  | some e =>
    let w := pktField e.bytes 8 8
    let old := s.wallNow
    if (s.waiting 0x0B) ≠ [] then .next s
    else if s.evr.wall.isNone || old ≤ w then
      let ev : EvRecord := ⟨.note, false, 0x0046, 145, BitVec.ofNat 64 s.tick, leBytes 8 old ++ leBytes 8 w⟩
      let t := s.setWall w
      .next ((t.hold ev).complete e stOk (leBytes 8 old ++ leBytes 6 (t.holdNumber ev)) noByte)
    else if s.pkt.halted then .next (s.completeCode e stBusy)
    else .next ((s.startExec e 0).chainJob (.timeStep w e))

/-- TIME_STEP_COMMIT (R449): the entry is confirmed, the new wall time takes effect, and the TIME_STEP record is written under the entry's number, and mirrored. -/
def execTimeStepCommit (s : State) : Host.Outcome State Fault Refusal :=
  match s.sea.flight with
  | some ⟨n, _, _, .timeStep w e⟩ =>
    let old := s.wallNow
    let bs := s.timeEntry w n
    let ev : EvRecord := ⟨.note, false, 0x0047, 145, BitVec.ofNat 64 s.tick, leBytes 8 old ++ leBytes 8 w⟩
    let t := (s.setWall w).holdAs ev n
    let t := t.chainAppend n bs []
    let t := (if t.flag EVR_STS_FENCED then t else t.mirror (t.held ev (some n))).commitAll
    .next ((t.completeLive e stOk (leBytes 8 old ++ leBytes 6 n) noByte).chainPump)
  | _ => .next s

/-- SEA_ENT_FETCH (R191): a write of SEA_ENT_SEL_HI starts the fetch of the entry that the two registers name. -/
def execSeaEntFetch (v : Word) (s : State) : Host.Outcome State Fault Refusal :=
  if !s.coreDomains then .next s
  else
    let t := s.setFld SEA_ENT_SEL_HI v.toNat
    let t := (t.setFlag SEA_ENT_STS_READY false).setFlag SEA_ENT_STS_ABSENT false
    .next { t with sea := { t.sea with fetch := some (t.fld SEA_ENT_SEL_HI * 2 ^ 32 + t.fld SEA_ENT_SEL_LO) } }

/-- SEA_ENT_FETCH_DONE (R191). -/
def execSeaEntFetchDone (s : State) : Host.Outcome State Fault Refusal :=
  match s.sea.fetch with
  | none => .next s
  | some q =>
    let t := { s with sea := { s.sea with fetch := none } }
    match t.chainEntry q with
    | some c => .next ((t.setBytes 0x8100 c.bytes 64).setFlag SEA_ENT_STS_READY true)
    | none => .next (t.setFlag SEA_ENT_STS_ABSENT true)

/-- End every close and release that is in progress with BUSY (R130, R184, Table 14-6): a commit in flight is void and is marked INTERRUPTED where `mark` says so; OPEN regions stay open, SEALED ones sealed. -/
def State.sealAbort (s : State) (mark times : Bool) : State :=
  let started := match s.sea.flight with
    | some ⟨_, _, _, .close _ _ e⟩ => some e
    | some ⟨_, _, _, .release _ _ e⟩ => some e
    | _ => none
  let det := fun (e : ExecPkt) => if mark && started = some e then noByte + detInterrupted else noByte
  let jobs := (match s.sea.flight with | some f => [f.job] | none => []) ++ s.sea.queue
  let isTime := fun (j : ChainJob) => match j with | .timeStep _ _ => true | _ => false
  let t : State := { s with sea := { s.sea with
    flight := if times then none else s.sea.flight.filter (fun f => isTime f.job),
    queue := if times then [] else s.sea.queue.filter isTime } }
  let t := (s.sea.closes).foldl (fun (u : State) c => u.failClose c.1 stBusy (det c.2.2.1)) t
  let t := jobs.foldl (fun (u : State) j => match j with
    | .release r _ e => (u.tuneRegion r { (u.region r) with releasing := false }).completeLive e stBusy [] (det e)
    | .timeStep _ e => if times then u.completeLive e stBusy [] noByte else u
    | .close _ _ _ => u) t
  t.chainPump

/-- The freeze (R184, R450). -/
def State.sealFreeze (s : State) : State := s.sealAbort false true

/-- The fence of the seal unit or the seal hasher (Table 14-6). -/
def State.sealFence (s : State) : State := s.sealAbort true false

/-- Regions OPEN or CLOSING (SEA_STS.OPEN). -/
def State.sealsOpen (s : State) : Nat := (s.gln.regions.filter (fun e => decide (e.2.st = .opened) || decide (e.2.st = .closing))).length

end Sys2Proof.Machine
end

