-- ==== Sys2Proof/Machine/Fce.lean ====
section
/-! DEFINITION. The flash channel engines: queues, starting order, die states, the write pointer, completions, fences and the channel checker (R294 to R322). -/

namespace Sys2Proof.Machine

open Reg

/-- A die at reset. -/
def Die.idle : Die := ⟨.idle, [], [], none, none, 0, none, none, none, [], false, [], 0, 0, 0⟩

/-- An engine at reset. -/
def Chan.reset : Chan := ⟨[], [], 0, 3, [], false, []⟩

/-- The engine of a channel. -/
def State.chan (s : State) (ch : Nat) : Chan := smapGet (fun _ => Chan.reset) s.fce ch

/-- Store an engine. -/
def State.setChan (s : State) (ch : Nat) (c : Chan) : State := { s with fce := smapSet (fun _ => Chan.reset) s.fce ch c }

/-- A die of an engine. -/
def State.die (s : State) (ch d : Nat) : Die := smapGet (fun _ => Die.idle) (s.chan ch).dies d

/-- Store a die. -/
def State.setDie (s : State) (ch d : Nat) (v : Die) : State :=
  let c := s.chan ch
  s.setChan ch { c with dies := smapSet (fun _ => Die.idle) c.dies d v }

/-- OP of a descriptor (Table 10-2). -/
def dOp (d : List Byte) : Nat := leField d 0 1

/-- MODE: TLC. -/
def dTlc (d : List Byte) : Bool := decide (natBits (leField d 1 1) 0 1 = 1)

/-- CW_MASK. -/
def dMask (d : List Byte) : Nat := leField d 2 2

/-- BLOCK. -/
def dBlock (d : List Byte) : Nat := natBits (leField d 4 2) 0 11

/-- PAGE. -/
def dPage (d : List Byte) : Nat := natBits (leField d 6 2) 0 10

/-- KIND. -/
def dKind (d : List Byte) : Nat := natBits (leField d 8 4) 30 2

/-- TAG. -/
def dTag (d : List Byte) : Nat := leField d 16 4

/-- The owner (Table 10-1). -/
def dOwner (d : List Byte) : Nat := dTag d / 2 ^ 28

/-- TARGET. -/
def dTarget (d : List Byte) : Nat := leField d 20 4

/-- The CRC, the reserved fields and the fields that the OP uses (R300). -/
def descOk (d : List Byte) : Bool :=
  let op := dOp d
  let kind := dKind d
  let buf := natBits (leField d 8 4) 0 24
  let mta := natBits (leField d 12 4) 0 24
  let usesMeta := decide (op = 1) || decide (op = 2)
  let usesBuf := usesMeta || decide (op = 7) || decide (op = 8)
  let usesBlock := decide (op = 1) || decide (op = 2) || decide (op = 3)
  decide ((crc32c (d.take 28)).toNat = leField d 28 4)
  && decide (natBits (leField d 1 1) 1 7 = 0) && decide (natBits (leField d 4 2) 11 5 = 0) && decide (natBits (leField d 6 2) 10 6 = 0)
  && decide (natBits (leField d 8 4) 24 6 = 0) && decide (natBits (leField d 12 4) 24 8 = 0) && decide (leField d 24 4 = 0)
  && (decide (op = 6) || decide (leField d 20 4 = 0))
  && decide (1 ≤ op) && decide (op ≤ 8) && (!usesBuf || decide (kind ≠ 3))
  && (!usesBuf || (if kind = 0 then decide (buf % 65536 = 0) else decide (buf = 0)))
  && (!usesMeta || (if kind = 0 then decide (mta % 64 = 0) else decide (mta = 0)))
  && (!usesBlock || decide (dBlock d ≤ 1371))
  && (!(decide (op = 1) || decide (op = 2)) || decide (dPage d < pagesOf (dTlc d)))
  && (decide (op ≠ 1) || decide (dMask d ≠ 0)) && (decide (op ≠ 2) || decide (dMask d ≠ 0) || decide (kind = 1))
  && (decide (op ≠ 7) || decide (kind ≤ 1)) && (decide (op ≠ 8) || decide (kind = 0))

/-- A die position that refuses descriptors (R300): absent, retired, or unsupported for what writes. -/
def State.dieUnusable (s : State) (ch d op : Nat) : Bool :=
  match smapFind s.flo.dieTable (ch * 4 + d) with
  | none => true
  | some (ok, _) => s.flo.org.diesRetired.contains (ch * 4 + d) || (!ok && decide (op ≠ 1) && decide (op ≠ 7) && decide (op ≠ 8))

/-- The pages of a stook that are consumed on every column: those that the organiser has used, less the positions that are still being written (R302). -/
def State.consumed (s : State) (n : Nat) : Nat :=
  let live := (s.sav.run.toList.flatMap (fun r => r.flight.toList.flatMap (fun f => if addrStook f.addr = n then addrPage f.addr :: f.rows else [])))
    ++ s.gln.slots.filterMap (fun x => x.sheaf.bind (fun a => if addrStook a = n then some (addrPage a) else none))
    ++ s.bdc.jobs.filterMap (fun j => j.sheaf.bind (fun a => if addrStook a = n then some (addrPage a) else none))
    ++ s.pln.staging.toList.filterMap (fun g => if (s.flash.boot.map (fun b => s.flo.org.systemStook (1 - b.twin))) = some n then some g.page else none)
  live.foldl min (s.usedOf n)

/-- The erase mode and the write pointer of a block (R302); none: UNKNOWN. A block of a stook in use has at least the pages that the organiser has consumed (R304); a column that the erase under way has erased has none (R304). -/
def State.blockPtr (s : State) (ch d b : Nat) : Bool × Option Nat :=
  let own := match s.flo.org.stookOfBlock ch d b with
    | some n =>
      if s.flo.erases.any (fun j => decide (j.stook = n) && j.done.getLsbD ch) then (((0 : Nat), false, 0) : Nat × Bool × Nat)
      else ((s.stook n).role, (s.stook n).tlc, s.consumed n)
    | none => (0xB, false, 0)
  match smapFind (s.die ch d).ptrs b with
  | none => (own.2.1, some own.2.2)
  | some (m, none) => (m, none)
  | some (m, some p) => if own.1 = 0 ∨ own.1 = 0xB then (m, some p) else (own.2.1, some (max p own.2.2))

/-- Set a write pointer. -/
def State.setPtr (s : State) (ch d b : Nat) (m : Bool) (p : Option Nat) : State :=
  let v := s.die ch d
  s.setDie ch d { v with ptrs := smapPut v.ptrs b (m, p) }

/-- A pointer becomes UNKNOWN (R304). -/
def State.ptrUnknown (s : State) (ch d b : Nat) : State := s.setPtr ch d b (s.blockPtr ch d b).1 none

/-- What a completion adds to its descriptor (Table 10-4). -/
structure Cpl where
  code : Nat
  bad : Nat
  corr : Nat
  susp : Nat
  nested : Bool
  unknown : Bool
  status : Nat
  busy : Nat
  erased : Nat
deriving DecidableEq, Repr

/-- A completion that carries only its code. -/
def cplCode (code : Nat) : Cpl := ⟨code, 0, 0, 0, false, false, 0, 0, 0⟩

/-- The 32 bytes of a completion (Table 10-4); every completion has been compared by the checker (R319). -/
def cplBytes (ch d cseq : Nat) (desc : List Byte) (c : Cpl) : List Byte :=
  let fl := (if c.nested then 1 else 0) + 2 + (if c.unknown then 4 else 0)
  let body := leBytes 1 c.code ++ leBytes 1 (dOp desc) ++ leBytes 2 c.bad ++ leBytes 4 (dTag desc) ++ leBytes 1 c.corr ++ leBytes 1 c.susp ++
    leBytes 1 fl ++ leBytes 1 c.status ++ leBytes 4 c.busy ++ leBytes 2 c.erased ++ leBytes 2 (dPage desc) ++ leBytes 2 (dBlock desc) ++
    leBytes 1 d ++ leBytes 1 ch ++ leBytes 2 cseq ++ leBytes 2 0
  body ++ leBytes 4 (crc32c body).toNat

/-- The descriptor of a FLASH_DESC packet as the control core places it: the owner is replaced by 0x8 (R311) and the CRC recomputed over what it writes (log entry 36). -/
def rawDesc (e : ExecPkt) : List Byte :=
  let d := sliceBytes e.bytes 8 32
  let body := d.take 19 ++ [BitVec.ofNat 8 (leField d 19 1 % 16 + 0x80)] ++ sliceBytes d 20 8
  let crc := if (crc32c (d.take 28)).toNat = leField d 28 4 then (crc32c body).toNat else leField d 28 4
  body ++ leBytes 4 crc

/-- A completion of a raw descriptor completes its packet (R311): TOO_LATE for an ABORT that lost, OK for every other code. -/
def State.rawComplete (s : State) (ch : Nat) (desc bytes : List Byte) : State :=
  if dOwner desc ≠ 8 then s
  else match (s.waiting 0x12).find? (fun e => decide (e.aux = ch) && decide (rawDesc e = desc)) with
    | none => s
    | some e => s.complete e (if leField bytes 0 1 = 0x0B then stTooLate else stOk) (bytes.take 16) noByte

/-- The error counter of a completion code. -/
def cplCounter (ch code : Nat) : Option Fld :=
  match code with
  | 0x01 => some (FCE_CNT_ERR_PFAIL ch)
  | 0x02 => some (FCE_CNT_ERR_EFAIL ch)
  | 0x03 => some (FCE_CNT_ERR_UNCORR ch)
  | 0x11 => some (FCE_CNT_ERR_TIMEOUT ch)
  | 0x06 => some (FCE_CNT_MISC_DOUBLE ch)
  | 0x05 => some (FCE_CNT_MISC_RAS ch)
  | 0x0C => some (FCE_CNT_MISC_ABORTED ch)
  | 0x0B => some (FCE_CNT_MISC_TOOLATE ch)
  | _ => none

/-- Post a completion (R297, R301): DIE_STATUS is that of the ready-sample, or else of the last poll of the die. -/
def State.postCpl (s : State) (ch d : Nat) (desc : List Byte) (c : Cpl) : State :=
  let e := s.chan ch
  let c : Cpl := if c.status = 0 then { c with status := (s.die ch d).lastStatus } else c
  let bs := cplBytes ch d e.cseq desc c
  let t := s.setChan ch { e with cpl := e.cpl ++ [bs], cseq := (e.cseq + 1) % 65536 }
  let t := t.wrap (FCE_CNT_CPL ch) 1
  let t := match cplCounter ch c.code with
    | some f => t.bump f 1
    | none => t
  let t := if dOp desc = 1 ∧ (c.code = 0 ∨ c.code = 3 ∨ c.code = 4) then
      (t.setFld (FCE_MAXCORR_LAST ch) c.corr).setFld (FCE_MAXCORR_HIGH ch) (max (t.fld (FCE_MAXCORR_HIGH ch)) c.corr)
    else t
  t.rawComplete ch desc bs

/-- Descriptors in execution on a channel. -/
def State.fceRunning (s : State) (ch : Nat) : Nat :=
  ((List.range 4).map (fun d =>
    let v := s.die ch d
    v.op.toList.length + v.erase.toList.length + v.suspendD.toList.length + v.resumeD.toList.length + v.abortD.toList.length + v.held.length)).sum

/-- Free completion entries. -/
def State.cplFree (s : State) (ch : Nat) : Nat := 64 - (s.chan ch).cpl.length

/-- FCE_STS.CPL_STALL (R297). -/
def State.cplStall (s : State) (ch : Nat) : Bool := decide (s.cplFree ch ≤ s.fceRunning ch)

/-- The head of a queue. -/
def Die.head (v : Die) (low : Bool) : Option (List Byte) := if low then v.lo.head? else v.hi.head?

/-- Remove the head of a queue. -/
def Die.pop (v : Die) (low : Bool) : Die := if low then { v with lo := v.lo.drop 1, promoted := false } else { v with hi := v.hi.drop 1 }

/-- The low queue with other descriptors in it: an old head's promotion goes with it (R296). -/
def Die.setLo (v : Die) (l : List (List Byte)) : Die := { v with lo := l, promoted := v.promoted && decide (l.head? = v.lo.head?) }

/-- A descriptor of the same queue is still in execution (R296, rule 1), an ABORT on the die of its target; ears held for a TLC triple do not count. -/
def State.queueBusy (s : State) (ch d : Nat) (low : Bool) : Bool :=
  let v := s.die ch d
  (v.op.toList ++ v.erase.toList ++ v.suspendD.toList ++ v.resumeD.toList).any (fun r => r.low == low)
  || (List.range 4).any (fun k => let w := s.die ch k; decide (w.abortHome = d) && w.abortD.any (fun r => r.low == low))

/-- Where an ABORT's target stands: queued on a die, in execution on a die, or nowhere (R310). -/
inductive AbortAt where
  | queued (d : Nat) (low : Bool) (desc : List Byte)
  | held (d : Nat)
  | running (d : Nat)
  | erase (d : Nat)
  | none
deriving DecidableEq, Repr

/-- Find the target of an ABORT on a channel: a queued descriptor is one of the 32 at the head of its queue (R294). A SUSPEND or RESUME that waits stands on the erase, and an ABORT in execution on the die that it resets. -/
def State.abortAt (s : State) (ch tag : Nat) : AbortAt :=
  let hit := fun (d : List Byte) => decide (dTag d = tag)
  let look := fun (d : Nat) =>
    let v := s.die ch d
    match (v.hi.take 32).find? hit, (v.lo.take 32).find? hit with
    | some x, _ => some (AbortAt.queued d false x)
    | none, some x => some (AbortAt.queued d true x)
    | none, none =>
      if v.op.any (fun r => hit r.desc) then some (AbortAt.running d)
      else if v.erase.any (fun r => hit r.desc) then some (AbortAt.erase d)
      else if v.held.any (fun r => hit r.desc) then some (if v.op.any (fun r => dOp r.desc = 2 && dTlc r.desc) then AbortAt.running d else AbortAt.held d)
      else if v.suspendD.any (fun r => hit r.desc) then some (AbortAt.erase d)
      else if v.resumeD.any (fun r => hit r.desc) || v.abortD.any (fun r => hit r.desc) then some (AbortAt.running d)
      else none
  ((List.range 4).findSome? look).getD .none

/-- An ABORT may start now (R307, R310): it waits while its target's die is ABORTING, and, for an erase, while a nested operation runs. -/
def State.abortReady (s : State) (ch tag : Nat) : Bool :=
  match s.abortAt ch tag with
  | .running d | .held d => decide ((s.die ch d).st ≠ .aborting)
  | .erase d =>
    let st := (s.die ch d).st
    decide (st ≠ .aborting) && decide (st ≠ .nestedRead) && decide (st ≠ .nestedProgram) && decide (st ≠ .resumePending)
  | _ => true

/-- An ERASE_INTENT that names a stook waits to be committed (R274, R280). -/
def State.intentPending (s : State) (n : Nat) : Bool :=
  s.flo.pendingRecs.any (fun e => match e.body with | .eraseIntent es => es.any (fun x => decide (x.1 = n)) | _ => false)

/-- A raw ERASE waits until the intent that brackets it is committed (R280, R311). -/
def State.rawEraseHeld (s : State) (ch d : Nat) (x : List Byte) : Bool :=
  decide (dOwner x = 8) && (s.flo.org.stookOfBlock ch d (dBlock x)).any s.intentPending

/-- Whether the head of a queue can start (R296, Table 10-7). -/
def State.canStart (s : State) (ch d : Nat) (low : Bool) : Bool :=
  let v := s.die ch d
  match v.head low with
  | none => false
  | some x =>
    let op := dOp x
    let nestedProg := decide (v.op.any (fun r => decide (dOp r.desc = 2)))
    if op = 4 ∨ op = 7 then true
    else if op = 5 then decide (v.st ≠ .suspending) && decide (v.st ≠ .aborting)
    else if op = 6 then s.abortReady ch (dTarget x)
    else if s.queueBusy ch d low then false
    else if op = 1 then
      (match v.st with
       | .reading | .nestedRead | .aborting => false
       | .resumePending => nestedProg
       | _ => true)
    else if op = 2 then decide (v.st = .idle) || decide (v.st = .suspended)
    else decide (v.st = .idle) && !(decide (op = 3) && s.rawEraseHeld ch d x)

/-- Whether a queue counts as high priority for its next grant (R296). -/
def Die.high (v : Die) (low : Bool) : Bool := !low || v.promoted

/-- The queue that the engine grants (R296, rule 4): high before low, and round-robin after the die granted last. -/
def State.grant (s : State) (ch : Nat) : Option (Nat × Bool) :=
  let last := (s.chan ch).lastGrant
  let order := (List.range 4).map (fun i => (last + 1 + i) % 4)
  let pick := fun (hi : Bool) => order.findSome? (fun d =>
    [false, true].findSome? (fun low => if (s.die ch d).high low == hi && s.canStart ch d low then some (d, low) else none))
  match pick true with
  | some x => some x
  | none => pick false

/-- Accepted writes of the interface registers take effect when no descriptor of the engine is in execution (R314). -/
def State.applyIf (s : State) (ch : Nat) : State :=
  let c := s.chan ch
  if c.ifWrites.isEmpty || s.fceRunning ch ≠ 0 then s
  else c.ifWrites.foldl (fun (u : State) w => u.setWord (0x10008 + 0x1000 * ch + 4 * w.1) w.2.1) (s.setChan ch { c with ifWrites := [] })

/-- New starts are held, for at most 2 µs, for a write that waits to take effect (R314). -/
def State.startsHeld (s : State) (ch : Nat) : Bool := (s.chan ch).ifWrites.any (fun w => decide (s.tick < w.2.2 + 2))

/-- Take the granted head off its queue, if the event names it with its operation; none where the event does not occur now (R294 to R297). -/
def State.startHead (s : State) (ch d : Nat) (low : Bool) (op : Nat) : Option (List Byte × State) :=
  let s := s.applyIf ch
  if s.sys.mode = .off || s.sys.mode = .powerUp || s.flag (FCE_STS_FENCED ch) || s.cplStall ch || s.startsHeld ch || s.grant ch ≠ some (d, low) then none
  else match (s.die ch d).head low with
    | some x =>
      if dOp x ≠ op && descOk x then none
      else
        let t := s.setDie ch d ((s.die ch d).pop low)
        some (x, t.setChan ch { (t.chan ch) with lastGrant := d })
    | none => none

/-- The common checks of a starting descriptor (R300): BAD_DESC and DIE_UNUSABLE complete it with no flash operation. -/
def State.startCheck (s : State) (ch d : Nat) (x : List Byte) (k : State → State) : State :=
  if !descOk x then s.postCpl ch d x (cplCode 0x0F)
  else if s.dieUnusable ch d (dOp x) then s.postCpl ch d x (cplCode 0x10)
  else k s

/-- The block of the erase on a die. -/
def Die.eraseBlock (v : Die) : Option Nat := v.erase.map (fun r => dBlock r.desc)

/-- The code of a die state (Table 10-7). -/
def dieCode : DieSt → Nat
  | .idle => 0 | .reading => 1 | .programming => 2 | .erasing => 3 | .suspending => 4 | .suspended => 5
  | .nestedRead => 6 | .nestedProgram => 7 | .resumePending => 8 | .aborting => 9 | .fenced => 0xA

/-- The time-out of an operation in ns (R316). -/
def State.tmoNs (s : State) (ch : Nat) (x : List Byte) : Nat :=
  let base := match dOp x with
    | 3 => s.fld (FCE_TMO_ERASE ch) * 100000
    | 2 => s.fld (FCE_TMO_PROG ch) * 10000
    | _ => s.fld (FCE_TMO_READ ch) * 1000
  if dTlc x then 8 * base else base

/-- Ticks of busy time of an operation so far, without the intervals in which its erase was suspended (Table 10-6). -/
def Die.elapsed (v : Die) (now : Nat) (r : FRun) : Nat :=
  (if v.op.isNone && v.erase.isSome && decide (v.st = .suspended) then v.suspAt else now) - r.start

/-- The erase goes on: the suspended interval is no busy time (Table 10-6). -/
def Die.goOn (v : Die) (now : Nat) : Die :=
  { v with st := .erasing, erase := v.erase.map (fun (r : FRun) => { r with start := r.start + (now - v.suspAt) }) }

/-- The 64-byte status block (Table 10-6). The times are those of the tick. -/
def State.statusBlock (s : State) (ch d : Nat) : List Byte :=
  let v := s.die ch d
  let run := match v.op with | some r => some r | none => v.erase
  let x := (run.map (·.desc)).getD []
  let el := (run.map (fun r => v.elapsed s.tick r * 1000)).getD 0
  let rem := (run.map (fun r => s.tmoNs ch r.desc - el)).getD 0
  let ptr := match run with
    | some r => (match (s.blockPtr ch d (dBlock r.desc)).2 with | some p => p | none => 0xFFFF)
    | none => 0
  let body := [0x59#8, 0x47, 0x52, 0x53] ++ leBytes 1 (dOp x) ++ leBytes 1 (dieCode v.st) ++ leBytes 1 v.lastStatus ++ leBytes 1 v.susp ++
    leBytes 4 (dTag x) ++ leBytes 4 el ++ leBytes 4 rem ++ leBytes 2 (dBlock x) ++ leBytes 2 (dPage x) ++ leBytes 2 ptr ++
    leBytes 1 (min v.hi.length 32) ++ leBytes 1 (min v.lo.length 32) ++ leBytes 8 s.tick ++ List.replicate 24 0
  body ++ leBytes 4 (crc32c body).toNat

/-- BUF of a descriptor, as an SRAM line. -/
def dBuf (x : List Byte) : Nat := natBits (leField x 8 4) 0 24 / 64

/-- META of a descriptor, as an SRAM line. -/
def dMeta (x : List Byte) : Nat := natBits (leField x 12 4) 0 24 / 64

/-- Post the status block to FCE_RAS0 to FCE_RAS15, and to BUF where KIND is 0x0 (R305). -/
def State.postRas (s : State) (ch d : Nat) (x : List Byte) : State :=
  let t := s.setBytes (0x10100 + 0x1000 * ch) (s.statusBlock ch d) 16
  if dKind x = 0 then t.sramPut (dBuf x) [lineOf (s.statusBlock ch d)] else t

/-- FCE_READ (R305, Table 10-7). -/
def execFceRead (ch : Fin 17) (die : Fin 4) (low : Bool) (s : State) : Host.Outcome State Fault Refusal :=
  let c := ch.val
  let d := die.val
  match s.startHead c d low 1 with
  | none => .next s
  | some (x, t) => .next (t.startCheck c d x (fun u =>
      let v := u.die c d
      match v.st with
      | .idle => u.setDie c d { v with st := .reading, op := some ⟨x, low, u.tick⟩ }
      | .suspended =>
        if v.eraseBlock = some (dBlock x) then u.postCpl c d x { cplCode 0x0E with nested := true }
        else u.setDie c d { v with st := .nestedRead, op := some ⟨x, low, u.tick⟩ }
      | _ => (u.postRas c d x).postCpl c d x { cplCode 0x05 with status := v.lastStatus }))

/-- The check of a PROGRAM against the write pointer (R302): the code of the refusal. -/
def State.programCheck (s : State) (ch d : Nat) (x : List Byte) : Option Nat :=
  let (m, p) := s.blockPtr ch d (dBlock x)
  match p with
  | none => some 0x06
  | some n => if dPage x < n then some 0x06 else if m ≠ dTlc x then some 0x07 else none

/-- A raw PROGRAM leaves its stook half-erased (R311). The stook is FREE or withdrawn (Table 10-8), so that it is erased before any use after a loss of power as well, which the mark does not outlive. -/
def State.rawTaint (s : State) (ch d : Nat) (x : List Byte) : State :=
  if dOwner x ≠ 8 then s
  else match s.flo.org.stookOfBlock ch d (dBlock x) with
    | some n => ({ s with flo := { s.flo with org := s.flo.org.setStook n { (s.stook n) with half := true } } } : State).setFlag FLO_STS_HALF_PENDING true
    | none => s

/-- A PROGRAM of the glean unit has started: the ear of the slot that its TAG names, slot × 32 + ear (R168, log entry 37). -/
def State.gleanStarted (s : State) (x : List Byte) : State :=
  if dOwner x ≠ 1 then s
  else
    let v := dTag x % 2 ^ 28
    ({ s with gln := { s.gln with slots := s.gln.slots.map (fun (y : Slot) =>
        if y.id = v / 32 then { y with started := y.started ||| (1#17 <<< (v % 32)) } else y) } } : State).handOver

/-- The ear that a PROGRAM writes (R303): with KIND 0x0 the selected codewords take their payload from BUF and their metadata from the template at META; with KIND 0x2 the PRBS pattern; every other codeword is vacant. -/
def State.programEar (s : State) (x : List Byte) : Ear :=
  if dKind x = 0 then ⟨dMask x, .data (s.sramEar (dBuf x * 64)) (lineBytes (s.sramLine (dMeta x)))⟩
  else if dKind x = 2 then ⟨dMask x, .pattern⟩
  else ⟨0, .pattern⟩

/-- The save engine issues a program (R195 step 6, Table 7-1): once one has gone out on every channel in use, the data sheaves are under way and SAV_T_FIRST holds the time. -/
def State.saveStarted (s : State) (ch : Nat) (x : List Byte) : State :=
  match s.sav.run with
  | some r =>
    if dOwner x ≠ 0 ∨ !r.handed then s
    else
      let m := r.firsts ||| (1#17 <<< ch)
      let used := fun (c : Nat) => if r.plan = 18 then r.kmap.contains c else !s.flag (FCE_STS_FENCED c)
      let t : State := { s with sav := { s.sav with run := some { r with firsts := m } } }
      if s.fld SAV_STS_STAGE = 1 && (List.range 17).all (fun c => !used c || m.getLsbD c) then
        (t.setFld SAV_STS_STAGE 2).setFld SAV_T_FIRST (min (s.tick - r.start) (2 ^ 32 - 1))
      else t
  | none => s

/-- FCE_PROGRAM (R302 to R304): the program-once check, then the die is busy; the first two ears of a TLC triple are held for the third. -/
def execFceProgram (ch : Fin 17) (die : Fin 4) (low : Bool) (s : State) : Host.Outcome State Fault Refusal :=
  let c := ch.val
  let d := die.val
  match s.startHead c d low 2 with
  | none => .next s
  | some (x, t) => .next (t.startCheck c d x (fun u =>
      let v := u.die c d
      if v.st = .suspended ∧ v.eraseBlock = some (dBlock x) then u.postCpl c d x { cplCode 0x0E with nested := true }
      else match u.programCheck c d x with
        | some code => u.postCpl c d x (cplCode code)
        | none =>
          let u := ((u.rawTaint c d x).gleanStarted x).saveStarted c x
          let u := u.putEar (earKey c d (dBlock x) (dPage x)) (u.programEar x)
          let v := u.die c d
          if dTlc x ∧ dPage x % 3 ≠ 2 then u.setDie c d { v with held := v.held ++ [⟨x, low, u.tick⟩] }
          else
            let st := if v.st = .suspended then DieSt.nestedProgram else .programming
            let u := u.setDie c d { v with st := st, op := some ⟨x, low, u.tick⟩ }
            if dTlc x then u else u.setPtr c d (dBlock x) false (some (dPage x + 1))))

/-- FCE_ERASE (R307). -/
def execFceErase (ch : Fin 17) (die : Fin 4) (low : Bool) (s : State) : Host.Outcome State Fault Refusal :=
  let c := ch.val
  let d := die.val
  match s.startHead c d low 3 with
  | none => .next s
  | some (x, t) => .next (t.startCheck c d x (fun u =>
      let v := u.die c d
      u.setDie c d { v with st := .erasing, erase := some ⟨x, low, u.tick⟩, susp := 0 }))

/-- FCE_STATUS (R305). -/
def execFceStatus (ch : Fin 17) (die : Fin 4) (low : Bool) (s : State) : Host.Outcome State Fault Refusal :=
  let c := ch.val
  let d := die.val
  match s.startHead c d low 7 with
  | none => .next s
  | some (x, t) => .next (t.startCheck c d x (fun u => (u.postRas c d x).postCpl c d x { cplCode 0 with status := (u.die c d).lastStatus }))

/-- FCE_PARAM (R299, Table 10-3): the parameter page is read as a READ reads. It waits unless the die is IDLE (log entry 38). -/
def execFceParam (ch : Fin 17) (die : Fin 4) (low : Bool) (s : State) : Host.Outcome State Fault Refusal :=
  let c := ch.val
  let d := die.val
  match s.startHead c d low 8 with
  | none => .next s
  | some (x, t) => .next (t.startCheck c d x (fun u =>
      let v := u.die c d
      u.setDie c d { v with st := .reading, op := some ⟨x, low, u.tick⟩ }))

/-- FCE_RESUME (R306, Table 10-7). -/
def execFceResume (ch : Fin 17) (die : Fin 4) (low : Bool) (s : State) : Host.Outcome State Fault Refusal :=
  let c := ch.val
  let d := die.val
  match s.startHead c d low 5 with
  | none => .next s
  | some (x, t) => .next (t.startCheck c d x (fun u =>
      let v := u.die c d
      match v.st with
      | .suspended => (u.setDie c d (v.goOn u.tick)).postCpl c d x { cplCode 0 with susp := v.susp }
      | .nestedRead | .nestedProgram => u.setDie c d { v with st := .resumePending, resumeD := some ⟨x, low, u.tick⟩ }
      | _ => u.postCpl c d x { cplCode 0x0A with susp := v.susp }))

/-- A stook whose erase was aborted after it took effect is half-erased (R281, R310): it is erased again before any use. -/
def State.halfErase (s : State) (ch d b : Nat) : State :=
  match s.flo.org.stookOfBlock ch d b with
  | none => s
  | some n =>
    let t := if (s.stook n).rotation then s.setRole n 0 else s
    let v := t.stook n
    let t := ({ t with flo := ({ t.flo with org := t.flo.org.setStook n { v with half := true }, erases := t.flo.erases.filter (fun j => decide (j.stook ≠ n)) } : Flo) } : State)
    t.setFlag FLO_STS_HALF_PENDING true

/-- Lodge a block at its first sign of wear (R289); a block is lodged once. A stook of the swath or the reserve with pages left takes no more sheaves (R290): with nothing in it, it is erased again. In any other stook being written, a donor takes the column's place from the next page on (R271). Of a stook that is FREE or being erased the record alone is made: the column is remapped as the erase is issued, or the stook is erased again (R289, R292). -/
def State.lodge (s : State) (ch d b sign v : Nat) : State :=
  match s.flo.org.stookOfBlock ch d b with
  | none => s
  | some n =>
    let k := s.stook n
    if k.lodged.getLsbD ch || k.retired.getLsbD ch || s.flo.org.columnRow n ch ≠ b then s
    else
      let t := (s.ledger (.lodge n ch sign v)).bump FLO_CNT_LODGED 1
      let p := s.usedOf n
      let t := if (k.role = 1 || k.role = 2) && p < 256 then t.setRole n (if p = 0 then 0 else 3)
        else if k.role ≠ 0 && p ≠ 0 && p < pagesOf k.tlc then (t.remapColumn n ch p 1).1
        else t
      t.swathCheck

/-- Retire a block at once (R282, R291), and substitute a donor from the next page; false where the pool has none. A block that is no longer the column's is not retired again. -/
def State.retireBlock (s : State) (ch d b page cause : Nat) : State × Bool :=
  match s.flo.org.stookOfBlock ch d b with
  | none => (s, true)
  | some n =>
    if s.flo.org.columnRow n ch ≠ b then (s, true)
    else ((s.ledger (.retire n ch page cause)).bump FLO_CNT_RETIRED 1).remapColumn n ch page 2

/-- Store the save run. -/
def State.setRun (s : State) (r : SaveRun) : State := { s with sav := { s.sav with run := some r } }

/-- The next sheaf position under the plan in force, with the rows of a narrow sheaf and the run that follows. -/
def State.allocSave (s : State) (r : SaveRun) : Option (SaveFlight × SaveRun × State) :=
  if r.plan = 18 then
    (s.allocNarrow false r.kmap r.kj r.narrow).map (fun x => (⟨x.1, x.2.1, 0⟩, { r with narrow := x.2.2.1, kj := r.kj + 1 }, x.2.2.2))
  else (s.allocSwath).map (fun x => (⟨x.1, [], 0⟩, r, x.2))

/-- The channel that ear `k` of the sheaf in flight lies on (R198, R205, R262). -/
def SaveRun.channel (r : SaveRun) (f : SaveFlight) (k : Nat) : Nat :=
  if r.plan = 18 then r.kmap.getD ((k + (r.kj - 1)) % 8) 0 else earChannel f.addr k

/-- The form of the sheaf in flight (R203, R204, Table 7-2): that of the plan, but base form where its ear on the absent channel was confirmed before the fence. -/
def SaveRun.form (r : SaveRun) (f : SaveFlight) : Nat :=
  if r.plan = 0 ∨ r.plan = 18 then r.plan
  else if (List.range 17).any (fun k => decide (earChannel f.addr k + 1 = r.plan) && f.ears.getLsbD k) then 0
  else r.plan

/-- The staging buffer of an ear of the sheaf in flight (R202): one of the two of its channel, by turns. Under the keeper plan a channel's two hold the ears that it serves, and ear 16 lies in a buffer of the lowest channel that serves no position (DESIGN CHOICE, log entry 96). -/
def SaveRun.buffer (r : SaveRun) (f : SaveFlight) (k : Nat) : Nat × Nat :=
  if r.plan ≠ 18 then (r.channel f k, r.sheaves)
  else if k = 16 then (((List.range 17).find? (fun c => !r.kmap.contains c)).getD 16, 0)
  else (r.channel f k, k / 8)

/-- The ears of a sheaf that is issued again at another position, from staging (R202): each lies in the buffer of its new channel. -/
def State.restage (s : State) (r : SaveRun) (f : SaveFlight) (r' : SaveRun) (g : SaveFlight) : State :=
  let ears := (List.range 17).map (fun k => let b := r.buffer f k; (k, s.sramEar (stagingBuf b.1 b.2), s.sramLine (stagingMeta b.1 b.2 / 64)))
  ears.foldl (fun (u : State) e => let b := r'.buffer g e.1; (u.fillEar (stagingBuf b.1 b.2) e.2.1).sramPut (stagingMeta b.1 b.2 / 64) [e.2.2]) s

/-- A program failure in a save (R196, R202): counted; the 17th and every later one of a save is a PLAN_DEVIATION. The sheaf in flight is void and its position is used up: the sheaf is issued again from staging at the next one. -/
def State.savePfail (s : State) : State :=
  match s.sav.run with
  | none => s
  | some r =>
    let r1 : SaveRun := { r with pfail := r.pfail + 1, flight := none }
    let t := match r.flight, s.allocSave r1 with
      | some f, some (g, r2, u) => (u.setRun { r2 with flight := some g }).restage r f r2 g
      | _, _ => s.setRun r1
    let t := (t.bump SAV_CNT_PFAIL_ALL 1).bump SAV_CNT_PFAIL_LAST 1
    if 17 ≤ r.pfail + 1 then t.emit .fault 0x0066 139 (leBytes 1 r.plan ++ leBytes 1 0) else t

/-- An ear of the sheaf in flight of a save passes its ready-sample (R202, R204). The save engine's TAG names the sheaf of the save × 32 and the ear (log entry 37). -/
def State.saveEar (s : State) (x : List Byte) : State :=
  match s.sav.run with
  | some r =>
    match r.flight with
    | some f =>
      let v := dTag x % 2 ^ 28
      if dOwner x = 0 ∧ v / 32 = r.sheaves then
        { s with sav := { s.sav with run := some { r with flight := some { f with ears := f.ears ||| (1#17 <<< (v % 32)) } } } }
      else s
    | none => s
  | none => s

/-- A program failure in the twin being staged (R248, R284): the slot-0 sheaf is written again at the next page of the twin's stook, and the void page's ears stay behind. -/
def State.stagingFail (s : State) (n : Nat) : State :=
  match s.pln.staging, s.flash.boot with
  | some g, some b =>
    if n ≠ s.flo.org.systemStook (1 - b.twin) ∨ g.erasing then s
    else
      let d := stookDie n
      let place := fun (p ch : Nat) => earKey ch d (s.flo.org.physRow n ch p) p
      let move := fun (u : State) (k : Nat) => match smapFind s.flash.ears (place g.page (earChannel g.page k)) with
        | some e => u.putEar (place (g.page + 1) (earChannel (g.page + 1) k)) e
        | none => u
      let t := (List.range g.ears).foldl move s
      ({ t with pln := { t.pln with staging := some { g with page := g.page + 1 } } } : State).setUsed n (g.page + 2)
  | _, _ => s

/-- A program failure in a completed twin (R284): the sheaf at the page is written again at the next page of the twin's stook, and the directory of a new boot anchor records that page. -/
def State.twinFail (s : State) (n page : Nat) : State :=
  match s.flash.boot with
  | none => s
  | some b =>
    if s.pln.staging.isSome then s
    else match b.dir.find? (fun e => decide (s.flo.org.systemStook (e.1 / 3) = n ∧ e.2.1 = page)) with
      | none => s
      | some e => (s.setUsed n (s.usedOf n + 1)).writeBoot (fun x => { x with dir := smapPut x.dir e.1 (s.usedOf n, e.2.2) })

/-- A program failure of the glean unit (R291): the slot that the TAG names takes the next position, where its ears are due again. -/
def State.gleanPfail (s : State) (x : List Byte) : State :=
  let v := dTag x % 2 ^ 28
  ({ s with gln := { s.gln with slots := s.gln.slots.map (fun (y : Slot) => if y.id = v / 32 then { y with sheaf := none, started := 0, done := 0 } else y) } } : State).handOver

/-- A program failure of a harvest sheaf (R291): the granule's job, which the TAG names as granule × 32 and ear, takes the next position of its stream. -/
def State.harvestPfail (s : State) (x : List Byte) : State :=
  { s with bdc := { s.bdc with jobs := s.bdc.jobs.map (fun (j : HarvestJob) => if j.g = dTag x % 2 ^ 28 / 32 then { j with sheaf := none, ears := 0 } else j) } }

/-- An ear of a harvest sheaf passes its ready-sample (R344). -/
def State.harvestEar (s : State) (x : List Byte) : State :=
  if dOwner x ≠ 5 then s
  else
    let v := dTag x % 2 ^ 28
    { s with bdc := { s.bdc with jobs := s.bdc.jobs.map (fun (j : HarvestJob) => if j.g = v / 32 ∧ j.sheaf.isSome then { j with ears := j.ears ||| (1#17 <<< (v % 32)) } else j) } }

/-- What its writer does after a program failure (R202, R248, R284, R291): the save, the glean unit and the harvest write the sheaf again at the next position, and the twin's slot-0 sheaf at the next page. A fold copy and a threshed copy take their position as they are confirmed, so that a failed one has none to give up. -/
def State.writerPfail (s : State) (x : List Byte) : State :=
  if dOwner x = 0 then s.savePfail else if dOwner x = 1 then s.gleanPfail x else if dOwner x = 5 then s.harvestPfail x else s

/-- Wear units of an erase by its mode (R288). -/
def eraseUnits (tlc : Bool) : Nat := if tlc then 17 else 1

/-- All 17 columns are erased: ERASE_DONE with the wear counts (R280, R288); a block whose wear reaches COUNT_LIMIT is lodged (R289), and its stook is erased again with a donor in its place. The erase stays under way, and a half-erased mark stands, until ERASE_DONE is confirmed (R281). -/
def State.eraseDone (s : State) (j : EraseJob) : State :=
  let v := s.stook j.stook
  let wear := (List.range 17).foldl (fun m c => smapSet (fun _ => 1) m c (v.colWear c + eraseUnits j.tlc)) v.wear
  let t := if v.half then s.bump FLO_HALF_ERASED 1 else s
  let t := t.ledger (.eraseDone j.stook j.tlc false wear)
  let t : State := { t with flo := { t.flo with org := t.flo.org.setStook j.stook { (t.stook j.stook) with half := v.half } } }
  let limit := s.fld FLO_WEAR_CTL_COUNT_LIMIT
  (List.range 17).foldl (fun (u : State) c =>
    let w := smapGet (fun _ => 1) wear c
    if limit ≤ w ∧ !(u.stook j.stook).lodged.getLsbD c then (u.ledger (.lodge j.stook c 3 w)).bump FLO_CNT_LODGED 1 else u) t

/-- A column of an organiser's erase is erased (R280). -/
def State.columnErased (s : State) (ch n : Nat) : State :=
  match s.flo.erases.find? (fun j => decide (j.stook = n) && j.issued) with
  | none => s
  | some j =>
    let j' := { j with done := j.done ||| (1#17 <<< ch) }
    let t := { s with flo := { s.flo with erases := s.flo.erases.map (fun x => if x.stook = n then j' else x) } }
    if j'.done = BitVec.allOnes 17 then t.eraseDone j' else t

/-- The erase descriptor of one column of a stook: OP ERASE on the column's physical block, with the organiser's TAG (R280, Table 10-1). -/
def State.eraseDesc (s : State) (n ch : Nat) (tlc : Bool) : List Byte :=
  let body := leBytes 1 3 ++ leBytes 1 (if tlc then 1 else 0) ++ leBytes 2 0 ++ leBytes 2 (s.flo.org.columnRow n ch) ++ leBytes 2 0 ++
    leBytes 4 (2 ^ 30) ++ leBytes 4 0 ++ leBytes 4 (0x40000000 + n) ++ leBytes 4 0 ++ leBytes 4 0
  body ++ leBytes 4 (crc32c body).toNat

/-- Place a descriptor in a queue; on a fenced channel it completes with FENCED at once (R294, R320). -/
def State.queueDesc (s : State) (ch d : Nat) (low : Bool) (x : List Byte) : State :=
  if s.flag (FCE_STS_FENCED ch) then s.postCpl ch d x (cplCode 0x12)
  else
    let v := s.die ch d
    s.setDie ch d (if low then { v with lo := v.lo ++ [x] } else { v with hi := v.hi ++ [x] })

/-- The die is retired for good (R282): its channel is fenced for plan purposes from the next plan boundary. -/
def State.retireDie (s : State) (ch d : Nat) : State :=
  (((s.ledger (.retireDie ch d)).setFlag FLO_STS_DIE_RETIRED true)).report .dieRetired 143 (ch * 4 + d) 0

/-- Every block of a die that a stook stands on is retired with no donor: the die fails (R282). -/
def State.dieDead (s : State) (ch d : Nat) : Bool :=
  (s.flo.org.all.filter (fun n => decide (stookDie n = d) && decide ((s.stook n).role ≠ 0xA))).all (fun n => (s.stook n).retired.getLsbD ch)

/-- What the pass or fail of an erase does (R280, R282, R288, R304). A raw ERASE has its ERASE_DONE too (R311), but the other columns of its stook are not erased: a half-erased mark stands. A column that fails with no donor left withdraws its rotation stook (R272), and a die whose columns have all failed is retired. -/
def State.eraseResult (s : State) (ch d : Nat) (x : List Byte) (fail : Bool) : State :=
  let b := dBlock x
  if fail then
    let t := s.ptrUnknown ch d b
    let (t, ok) := t.retireBlock ch d b 0 1
    match t.flo.org.stookOfBlock ch d b with
    | none => t
    | some n =>
      if dOwner x ≠ 4 then t
      else if ok then t.queueDesc ch d true (t.eraseDesc n ch (dTlc x))
      else
        let t := { t with flo := { t.flo with erases := t.flo.erases.filter (fun (j : EraseJob) => decide (j.stook ≠ n)) } }
        let t := if (t.stook n).rotation then t.withdraw n else t
        if t.dieDead ch d then t.retireDie ch d else t
  else
    let t := (s.setPtr ch d b (dTlc x) (some 0)).dropEars ch d b
    if dOwner x = 4 then t.columnErased ch (dTag x % 2 ^ 28)
    else if dOwner x = 8 then
      match t.flo.org.stookOfBlock ch d b with
      | none => t
      | some n =>
        let v := t.stook n
        let u := t.ledger (.eraseDone n (dTlc x) false (smapSet (fun _ => 1) v.wear ch (v.colWear ch + eraseUnits (dTlc x))))
        { u with flo := { u.flo with org := u.flo.org.setStook n { (u.stook n) with half := v.half } } }
    else t

/-- The checker finds a mismatch (R319): the registers, CHECK_FAIL and the incident. -/
def State.checkMismatch (s : State) (ch d tag kind exp obs : Nat) : State :=
  let t := (((s.bump (FCE_CHK_STS_COUNT ch) 1).setFld (FCE_CHK_STS_KIND ch) kind).setFlag (FCE_CHK_STS_SEEN ch) true).setFld (FCE_CHK_TAG ch) tag
  let t := ((t.setFld (FCE_CHK_EXP ch) exp).setFld (FCE_CHK_OBS ch) obs).setFlag (FCE_STS_CHECK_FAIL ch) true
  t.report .checkMismatch (80 + ch) (kind * 2 ^ 12 + d) 0

/-- The mismatch that a poll brings, if any. -/
def State.pollMismatch (s : State) (ch d : Nat) (x : List Byte) (p : Poll) : State :=
  match p.mismatch with
  | some (k, e, o) => s.checkMismatch ch d (dTag x) k.val e.toNat o.toNat
  | none => s

/-- The signs of wear that a read completion shows (R289). -/
def State.readSigns (s : State) (ch d : Nat) (x : List Byte) (bad corr : Nat) : State :=
  if dOp x ≠ 1 then s
  else if dKind x ≠ 2 ∧ bad ≠ 0 then s.lodge ch d (dBlock x) 2 bad
  else if s.fld FLO_WEAR_CTL_LODGE_PCT * 120 < corr * 100 then s.lodge ch d (dBlock x) 0 corr
  else s

/-- What a READ finds: of a block that has been erased and is in no use, nothing at or above its write pointer (R302). -/
def State.readPlace (s : State) (ch d b p : Nat) : Placed :=
  let free := match s.flo.org.stookOfBlock ch d b with
    | some n => decide ((s.stook n).role = 0) || decide ((s.stook n).role = 0xB)
    | none => true
  match smapFind (s.die ch d).ptrs b with
  | some (_, some q) => if free && decide (q ≤ p) then .erased else s.placed ch d b p
  | _ => s.placed ch d b p

/-- What a READ delivers (R305): the payloads of its codewords to BUF and their metadata to META, but for the codewords of `out`, which failed or are erased. PARAM delivers the die's parameter page. -/
def State.deliver (s : State) (ch d : Nat) (x : List Byte) (out : Nat) : State :=
  if dKind x ≠ 0 then s
  else if dOp x = 8 then s.sramPut (dBuf x) ((List.range 256).map (Config.paramLine (ch * 4 + d)))
  else
    let key := earKey ch d (dBlock x) (dPage x)
    let src := s.readPlace ch d (dBlock x) (dPage x)
    (List.range 16).foldl (fun (u : State) cw =>
      if natBits (dMask x) cw 1 = 0 ∨ natBits out cw 1 = 1 then u
      else match src.codeword key cw with
        | some c => (u.sramPut (dBuf x + 64 * cw) c.payload).sramPut (dMeta x + cw) [lineOf c.metadata]
        | none => u.sramPut (dBuf x + 64 * cw) ((List.range 64).map (fun i => Config.voidLine key (cw * 64 + i)))) s

/-- The codewords of a PRBS compare that differ from the pattern of their place (R303, Table 10-4). -/
def State.patternBad (s : State) (ch d : Nat) (x : List Byte) : Nat :=
  let key := earKey ch d (dBlock x) (dPage x)
  match s.readPlace ch d (dBlock x) (dPage x) with
  | .pattern mask => dMask x &&& (0xFFFF ^^^ mask)
  | y => (List.range 16).foldl (fun acc cw =>
      if natBits (dMask x) cw 1 = 1 ∧ !((y.codeword key cw).any (fun c => decide (c.payload = (patternCodeword key cw).payload))) then acc + 2 ^ cw else acc) 0

/-- Post the completion of a read (R305): UNCORRECTABLE where a codeword failed, ERASED where every requested one is erased (R303); the others are delivered. Of a void ear the poll tells which codewords read as erased. -/
def State.finishRead (s : State) (ch d : Nat) (x : List Byte) (nested : Bool) (p : Poll) : State :=
  let key := earKey ch d (dBlock x) (dPage x)
  let src := s.readPlace ch d (dBlock x) (dPage x)
  let er := (if src = .void then p.erased.toNat else src.erasedMask key) &&& dMask x
  let bad := (p.bad.toNat ||| (if dOp x = 1 ∧ dKind x = 2 then s.patternBad ch d x else 0)) &&& dMask x &&& (0xFFFF ^^^ er)
  let code := if dOp x = 8 then 0 else if er = dMask x then 0x04 else if bad ≠ 0 then 0x03 else 0
  let t := (s.pollMismatch ch d x p).readSigns ch d x bad p.maxCorr.val
  (t.deliver ch d x (bad ||| er)).postCpl ch d x
    (if dOp x = 8 then ⟨0, 0, 0, 0, nested, false, p.status.toNat, p.busyNs.toNat, 0⟩ else ⟨code, bad, if code = 0x04 then 0 else p.maxCorr.val, 0, nested, false, p.status.toNat, p.busyNs.toNat, er⟩)

/-- Post the completion of a program, and of the two held ears of a TLC triple (R291, R302, R304, R319). A mismatch voids the ear even where the die reports a pass. -/
def State.finishProgram (s : State) (ch d : Nat) (x : List Byte) (nested : Bool) (p : Poll) : State :=
  let v := s.die ch d
  let all := v.held.map (·.desc) ++ [x]
  let miss := p.mismatch.isSome
  let code := if miss && !p.fail then 0x12 else if p.fail then 0x01 else 0
  let t := s.setDie ch d { v with held := [] }
  let t := if dTlc x then t.setPtr ch d (dBlock x) true (some (dPage x + 1)) else t
  let t := t.pollMismatch ch d x p
  let slow := Config.nominalProgNs (ch * 4 + d) (dTlc x) * s.fld FLO_WEAR_CTL_PROG_PCT < p.busyNs.toNat * 100
  let t := if p.fail then
      -- the ears of the page are taken to the next page before the failed one is void (R284)
      let u := match t.flo.org.stookOfBlock ch d (dBlock x) with
        | some n => (t.stagingFail n).twinFail n (dPage x)
        | none => t
      let u := all.foldl (fun (u : State) y => u.voidEar (earKey ch d (dBlock y) (dPage y))) u
      let u := (u.retireBlock ch d (dBlock x) (dPage x + 1) 0).1
      u.writerPfail x
    else
      let u := if miss then all.foldl (fun (u : State) y => u.voidEar (earKey ch d (dBlock y) (dPage y))) t else (all.foldl State.saveEar t)
      let u := if miss then u else all.foldl State.harvestEar u
      if slow then u.lodge ch d (dBlock x) 1 (p.busyNs.toNat / 1000) else u
  all.foldl (fun (u : State) y => u.postCpl ch d y ⟨code, if p.fail then 0xFFFF else 0, 0, 0, nested, false, p.status.toNat, p.busyNs.toNat, 0⟩) t

/-- Post the completion of an erase (R282, R304). -/
def State.finishErase (s : State) (ch d : Nat) (x : List Byte) (p : Poll) : State :=
  let v := s.die ch d
  let t := s.setDie ch d { v with st := .idle, erase := none }
  let t := (t.pollMismatch ch d x p).eraseResult ch d x p.fail
  t.postCpl ch d x ⟨if p.fail then 0x02 else 0, if p.fail then 0xFFFF else 0, 0, v.susp, false, p.fail, p.status.toNat, p.busyNs.toNat, 0⟩

/-- The read or program of a die ends with its ready-sample; the die takes the state of Table 10-7, and a RESUME that waits lets the erase go on. -/
def State.finishOp (s : State) (ch d : Nat) (p : Poll) : State :=
  let v := s.die ch d
  match v.op with
  | none => s
  | some r =>
    let nested := v.erase.isSome
    let t := s.setDie ch d { v with op := none, st := if nested then .suspended else .idle }
    let t := if dOp r.desc = 2 then t.finishProgram ch d r.desc nested p else t.finishRead ch d r.desc nested p
    if v.st ≠ .resumePending then t
    else
      let w := t.die ch d
      let t := t.setDie ch d { (w.goOn t.tick) with resumeD := none }
      v.resumeD.toList.foldl (fun (u : State) q => u.postCpl ch d q.desc { cplCode 0 with susp := w.susp }) t

/-- The status byte of a poll is kept (Table 10-6). -/
def State.polled (s : State) (ch d : Nat) (p : Poll) : State := s.setDie ch d { (s.die ch d) with lastStatus := p.status.toNat }

/-- The poll of an ABORT shows the erase on a die finished first (R308, R309): the erase completes with its result, and a SUSPEND that waits with NOT_SUSPENDABLE. -/
def State.eraseWins (s : State) (ch d : Nat) (x : List Byte) (p : Poll) : State :=
  let v := s.die ch d
  let t := (s.setDie ch d { v with suspendD := none, lastStatus := p.status.toNat }).finishErase ch d x p
  v.suspendD.toList.foldl (fun (u : State) r => u.postCpl ch d r.desc { cplCode 0x08 with susp := v.susp, status := p.status.toNat }) t

/-- FCE_SUSPEND (R306, R308): with the erase running it takes a poll; one that shows the erase finished posts the erase first. -/
def execFceSuspend (ch : Fin 17) (die : Fin 4) (low : Bool) (poll : Option Poll) (s : State) : Host.Outcome State Fault Refusal :=
  let c := ch.val
  let d := die.val
  match s.startHead c d low 4 with
  | none => .next s
  | some (x, t) => .next (t.startCheck c d x (fun u =>
      let v := u.die c d
      match v.st, v.erase with
      | .erasing, some r =>
        if v.susp = 8 then u.postCpl c d x { cplCode 0x09 with susp := v.susp }
        else match poll with
          | some p => ((u.polled c d p).finishErase c d r.desc p).postCpl c d x { cplCode 0x08 with susp := v.susp }
          | none => u.setDie c d { v with st := .suspending, suspendD := some ⟨x, low, u.tick⟩ }
      | _, _ => u.postCpl c d x { cplCode 0x08 with susp := v.susp }))

/-- An erase that an ABORT ended (R304, R310). -/
def State.abortedErase (s : State) (ch d : Nat) : State :=
  let v := s.die ch d
  match v.erase with
  | none => s
  | some r =>
    let x := r.desc
    let t := s.setDie ch d { v with erase := none }
    let t := (t.setPtr ch d (dBlock x) (dTlc x) (some (pagesOf (dTlc x)))).halfErase ch d (dBlock x)
    t.postCpl ch d x { cplCode 0x0C with susp := v.susp, status := v.lastStatus }

/-- The read, program and held ears that a RESET or an ABORT ended complete with a code; the pages of a TLC triple are consumed (R304, R310). -/
def State.endOp (s : State) (ch d code : Nat) : State :=
  let v := s.die ch d
  let nested := v.erase.isSome
  let xs := v.held.map (·.desc) ++ (v.op.map (·.desc)).toList
  let t := s.setDie ch d { v with op := none, held := [] }
  let t := xs.foldl (fun (u : State) x => if dOp x = 2 then u.voidEar (earKey ch d (dBlock x) (dPage x)) else u) t
  let t := xs.foldl (fun (u : State) x => if dOp x = 2 ∧ dTlc x then u.setPtr ch d (dBlock x) true (some (dPage x / 3 * 3 + 3)) else u) t
  xs.foldl (fun (u : State) x => u.postCpl ch d x { cplCode code with nested := nested, unknown := decide (code = 0x11 ∧ dOp x ≠ 8), status := v.lastStatus }) t

/-- The held ears of a TLC triple complete with a code; their pages are consumed and void (R304). -/
def State.endHeld (s : State) (ch d code : Nat) : State :=
  let v := s.die ch d
  let xs := v.held.map (·.desc)
  let t := s.setDie ch d { v with held := [] }
  let t := xs.foldl (fun (u : State) x => u.voidEar (earKey ch d (dBlock x) (dPage x))) t
  xs.foldl (fun (u : State) x => u.postCpl ch d x { cplCode code with status := v.lastStatus }) t

/-- A queued descriptor is withdrawn and completes with WITHDRAWN; as the third of a TLC triple it takes the two held ears with it, whose pages are consumed and void (R304, R310). -/
def State.withdrawOne (s : State) (ch d : Nat) (x : List Byte) : State :=
  let v := s.die ch d
  if dOp x = 2 ∧ dTlc x ∧ dPage x % 3 = 2 ∧ v.held.any (fun r => decide (dBlock r.desc = dBlock x)) then
    let w := ((s.voidEar (earKey ch d (dBlock x) (dPage x))).endHeld ch d 0x0D).setPtr ch d (dBlock x) true (some (dPage x + 1))
    w.postCpl ch d x (cplCode 0x0D)
  else s.postCpl ch d x (cplCode 0x0D)

/-- The die reports ready after the RESET of an ABORT (R309, R310): the target completes with ABORTED, with the suspended erase that a nested operation stood in, and the ABORT completes with DONE. A SUSPEND or RESUME that waited is the target itself, or finds no erase. -/
def State.finishAbort (s : State) (ch d : Nat) : State :=
  let v := s.die ch d
  let t := (s.endOp ch d 0x0C).abortedErase ch d
  let w := t.die ch d
  let t := t.setDie ch d { w with st := .idle, abortD := none, suspendD := none, resumeD := none, susp := 0, abortHome := 0 }
  let target := fun (r : FRun) => v.abortD.any (fun a => decide (dTarget a.desc = dTag r.desc))
  let t := v.suspendD.toList.foldl (fun (u : State) r => u.postCpl ch d r.desc (cplCode (if target r then 0x0C else 0x08))) t
  let t := v.resumeD.toList.foldl (fun (u : State) r => u.postCpl ch d r.desc (cplCode (if target r then 0x0C else 0x0A))) t
  v.abortD.toList.foldl (fun (u : State) r => u.postCpl ch d r.desc (cplCode 0)) t

/-- A suspension has taken effect (R306): one more is used, and the SUSPEND completes with DONE. -/
def State.suspendTaken (s : State) (ch d : Nat) : State :=
  let v := s.die ch d
  let t := s.setDie ch d { v with st := .suspended, susp := v.susp + 1, suspendD := none, suspAt := s.tick }
  v.suspendD.toList.foldl (fun (u : State) x => u.postCpl ch d x.desc { cplCode 0 with susp := v.susp + 1 }) t

/-- FCE_ABORT (R309, R310): one poll of the target's die decides; a queued target is withdrawn, and none gives NO_TARGET. -/
def execFceAbort (ch : Fin 17) (die : Fin 4) (low : Bool) (poll : Option Poll) (s : State) : Host.Outcome State Fault Refusal :=
  let c := ch.val
  let d := die.val
  match s.startHead c d low 6 with
  | none => .next s
  | some (x, t) => .next (t.startCheck c d x (fun u =>
      let reset := fun (k : Nat) => let v := u.die c k; u.setDie c k { v with st := .aborting, abortD := some ⟨x, low, u.tick⟩, abortHome := d }
      match u.abortAt c (dTarget x) with
      | .none => u.postCpl c d x (cplCode 0x13)
      | .queued k lo y =>
        let v := u.die c k
        let u := u.setDie c k (if lo then v.setLo (v.lo.erase y) else { v with hi := v.hi.erase y })
        (u.withdrawOne c k y).postCpl c d x (cplCode 0)
      | .held k => reset k
      | .running k => (match poll with
        | some p => ((u.polled c k p).finishOp c k p).postCpl c d x { cplCode 0x0B with status := p.status.toNat }
        | none => reset k)
      | .erase k => (match poll, (u.die c k).st, (u.die c k).erase with
        | some p, .erasing, some r => (u.eraseWins c k r.desc p).postCpl c d x { cplCode 0x0B with status := p.status.toNat }
        | some p, .suspending, some r =>
          -- the poll that shows the suspension taken is the ready-sample of a SUSPEND
          if p.suspended && (u.die c k).suspendD.any (fun q => decide (dTag q.desc = dTarget x)) then
            ((u.polled c k p).suspendTaken c k).postCpl c d x { cplCode 0x0B with status := p.status.toNat }
          else if p.suspended then reset k else (u.eraseWins c k r.desc p).postCpl c d x { cplCode 0x0B with status := p.status.toNat }
        | _, _, _ => reset k)))

/-- The mismatch of an ABORT's own cycles (R318, R319), under the TAG of the ABORT or, at step 4 of a save, of the erase. -/
def State.abortMismatch (s : State) (ch d : Nat) (p : Poll) : State :=
  let v := s.die ch d
  match (v.abortD.toList ++ v.erase.toList).head? with
  | some r => s.pollMismatch ch d r.desc p
  | none => s

/-- FCE_READY_SAMPLE (R316, Table 10-7): the poll that shows the array ready commits the operation's result. -/
def execFceReadySample (ch : Fin 17) (die : Fin 4) (poll : Poll) (s : State) : Host.Outcome State Fault Refusal :=
  let c := ch.val
  let d := die.val
  let v0 := s.die c d
  let s := s.setDie c d { v0 with lastStatus := poll.status.toNat }
  let v := s.die c d
  match v.st, v.erase with
  | .reading, _ | .programming, _ | .nestedRead, _ | .nestedProgram, _ | .resumePending, _ => .next (s.finishOp c d poll)
  | .erasing, some r => .next (s.finishErase c d r.desc poll)
  | .suspending, some r =>
    let q := v.suspendD.toList
    if poll.suspended then .next ((q.foldl (fun (u : State) x => u.pollMismatch c d x.desc poll) s).suspendTaken c d)
    else
      let t := (s.setDie c d { v with suspendD := none }).finishErase c d r.desc poll
      .next (q.foldl (fun (u : State) x => u.postCpl c d x.desc { cplCode 0x08 with susp := v.susp, status := poll.status.toNat }) t)
  | .aborting, some r =>
    -- the abort of step 4 of a save (R197): it is too late for an erase that was ready first
    if v.abortD.isNone && v.op.isNone && !poll.suspended then .next ((s.bump (FCE_CNT_MISC_TOOLATE c) 1).finishErase c d r.desc poll)
    else .next ((s.abortMismatch c d poll).finishAbort c d)
  | .aborting, none => .next ((s.abortMismatch c d poll).finishAbort c d)
  | _, _ => .next (s.setDie c d v0)

/-- FCE_TIMEOUT (R316): the descriptor completes with TIMEOUT, the pointer is UNKNOWN, the die is reset and the incident reported. The RESET ends what else the die holds. -/
def execFceTimeout (ch : Fin 17) (die : Fin 4) (s : State) : Host.Outcome State Fault Refusal :=
  let c := ch.val
  let d := die.val
  let v := s.die c d
  let busy := decide (v.st = .reading ∨ v.st = .programming ∨ v.st = .erasing ∨ v.st = .nestedRead ∨ v.st = .nestedProgram ∨ v.st = .resumePending ∨ v.st = .suspending)
  if !busy then .next s
  else
    let running := decide (v.st = .erasing ∨ v.st = .suspending)
    let blocks := ((v.op.toList.filter (fun r => dOp r.desc ≠ 8)).map (fun r => dBlock r.desc)) ++ (if running then v.eraseBlock.toList else [])
    let t := s.endOp c d 0x11
    let t := if running then
        v.erase.toList.foldl (fun (u : State) r =>
          (u.setDie c d { (u.die c d) with erase := none }).postCpl c d r.desc { cplCode 0x11 with susp := v.susp, unknown := true, status := v.lastStatus }) t
      else t.abortedErase c d
    let t := blocks.foldl (fun (u : State) b => u.ptrUnknown c d b) t
    let t := t.setDie c d { (t.die c d) with st := .idle, resumeD := none, suspendD := none, susp := 0 }
    let t := v.suspendD.toList.foldl (fun (u : State) r => u.postCpl c d r.desc { cplCode 0x08 with susp := v.susp }) t
    let t := v.resumeD.toList.foldl (fun (u : State) r => u.postCpl c d r.desc (cplCode 0x0A)) t
    .next (t.report .flashTimeout (63 + c) d 0)

/-- FCE_AGE_PROMOTE (R296, rule 5): outside save a low head that has waited AGE_US counts as high for its next grant. -/
def execFceAgePromote (ch : Fin 17) (die : Fin 4) (s : State) : Host.Outcome State Fault Refusal :=
  let v := s.die ch.val die.val
  if s.sys.mode = .save || v.lo.isEmpty then .next s else .next (s.setDie ch.val die.val { v with promoted := true })

/-- FCE_DESCRIPTOR_QUEUE (R294, R295): one of the writers of Table 10-1 gives a descriptor to its queue; beyond 32 it waits in its writer's turn. The table binds the writers; the engine judges what it is given as R300 says, and takes the owner from the TAG. -/
def execFceDescriptorQueue (ch : Fin 17) (die : Fin 4) (low : Bool) (desc : BitVec 256) (s : State) : Host.Outcome State Fault Refusal :=
  if s.inMode [.off, .powerUp] then .next s else .next (s.queueDesc ch.val die.val low (leBytes 32 desc.toNat))

/-- The level of Fn_WP_n (R318, R320): high only while the channel programs or erases, and low on a fenced one. -/
def State.flashWp (s : State) (ch : Nat) : Bool :=
  !s.flag (FCE_STS_FENCED ch) && (List.range 4).any (fun d => [DieSt.programming, .erasing, .nestedProgram].contains (s.die ch d).st)

/-- The levels of Fn_CE_n[3:0] on a fenced channel: all high, and no cycle is driven (R320). Elsewhere they follow the cycles, which take no time here: between commands they are high. -/
def State.flashCe (_ : State) (_ : Nat) : BitVec 4 := 0xF

/-- The engine stops at a fence (R320): everything in execution or queued completes with FENCED, programs and erases leave their pointers UNKNOWN, and every die shows FENCED. -/
def State.fenceEngine (s : State) (ch : Nat) : State :=
  let t := s.setFlag (FCE_STS_FENCED ch) true
  (List.range 4).foldl (fun (u : State) d =>
    let v := u.die ch d
    let run := v.held ++ v.op.toList ++ v.erase.toList ++ v.suspendD.toList ++ v.resumeD.toList ++ v.abortD.toList
    let bad := ((v.held ++ v.op.toList ++ v.erase.toList).filter (fun r => dOp r.desc = 2 || dOp r.desc = 3)).map (fun r => dBlock r.desc)
    let u := u.setDie ch d { Die.idle with st := .fenced, ptrs := v.ptrs, lastStatus := v.lastStatus }
    let u := bad.foldl (fun (w : State) b => w.ptrUnknown ch d b) u
    let u := (v.held ++ v.op.toList).foldl (fun (w : State) r =>
      if dOp r.desc = 2 then w.voidEar (earKey ch d (dBlock r.desc) (dPage r.desc)) else w) u
    -- the third ear of a triple whose first two are held is consumed and void with them (R304)
    let u := ((v.hi ++ v.lo).filter (fun x => dOp x = 2 ∧ dTlc x ∧ dPage x % 3 = 2 ∧ v.held.any (fun r => decide (dBlock r.desc = dBlock x)))).foldl
      (fun (w : State) x => w.voidEar (earKey ch d (dBlock x) (dPage x))) u
    let u := run.foldl (fun (w : State) r => w.postCpl ch d r.desc { cplCode 0x12 with susp := (if 3 ≤ dOp r.desc ∧ dOp r.desc ≤ 5 then v.susp else 0), unknown := (dOp r.desc = 2 || dOp r.desc = 3), status := v.lastStatus }) u
    (v.hi ++ v.lo).foldl (fun (w : State) x => w.postCpl ch d x (cplCode 0x12)) u) t

/-- The supply is lost: programs in execution leave their ears void. -/
def State.tornPrograms (s : State) : State :=
  s.fce.foldl (fun (u : State) c => c.2.dies.foldl (fun (u : State) e =>
    (e.2.held ++ e.2.op.toList).foldl (fun (w : State) r =>
      if dOp r.desc = 2 then w.voidEar (earKey c.1 e.1 (dBlock r.desc) (dPage r.desc)) else w) u) u) s

/-- A channel that a reaction fenced returns: a return shadow opens under its cleared incident's number (R422). -/
def State.channelShadow (s : State) (ch : Nat) : State :=
  let u : UnitRow := .channel ch
  match s.flt.fenced.find? (fun x => decide (x.1 = u)) with
  | none => s
  | some x => { s with flt := { s.flt with fenced := s.flt.fenced.filter (fun y => decide (y.1 ≠ u)), shadows := s.flt.shadows ++ [⟨x.2.1, u, [], true⟩] } }

/-- Whether every fence of a fenced channel has ended (R321). -/
def State.fenceOver (s : State) (ch : Nat) : Bool :=
  let c := s.chan ch
  s.flag (FCE_STS_FENCED ch) && (!s.flag (FCE_STS_SOFT_FENCE ch) || c.softEnded) && c.causes.isEmpty

/-- The interface training of a channel (R315): the settings found are stored and TRAINED is set; without a passing window TRAIN_FAIL is set and FLASH_TRAIN_FAIL is reported. -/
def State.channelTrained (s : State) (ch : Nat) (found : Option Word) : State :=
  match found with
  | some w => ((s.setWord (0x10060 + 0x1000 * ch) w).setFlag (FCE_STS_TRAINED ch) true).setFlag (FCE_STS_TRAIN_FAIL ch) false
  | none => (s.setFlag (FCE_STS_TRAIN_FAIL ch) true).report .flashTrainFail (63 + ch) 0 0

/-- A channel returns (R321): each die is reset, the interface is retrained, and FENCED clears. A channel that finds no passing window stays fenced, now for that (R315, R320). -/
def State.channelReturn (s : State) (ch : Nat) : State :=
  let c := s.chan ch
  let found := Config.retrained ch s.tick
  let u := (s.setFlag (FCE_STS_SOFT_FENCE ch) false).channelTrained ch found
  if found.isNone then u.setChan ch { c with causes := [.told .flashTrainFail (63 + ch)], softEnded := false }
  else
    let u := u.setChan ch { c with softEnded := false, dies := (c.dies.map (fun (e : Nat × Die) => (e.1, { e.2 with st := DieSt.idle }))).filter (fun e => decide (e.2 ≠ Die.idle)) }
    (u.channelShadow ch).setFlag (FCE_STS_FENCED ch) false

/-- At a plan boundary the channels whose fences have all ended return (R207, R321). -/
def State.channelsReturn (s : State) : State :=
  (List.range 17).foldl (fun (u : State) ch => if u.fenceOver ch then u.channelReturn ch else u) s

/-- Queued descriptors that have not started are withdrawn and complete with WITHDRAWN (Table 10-5). -/
def State.queuesWithdraw (s : State) (out : List Byte → Bool) : State :=
  (List.range 17).foldl (fun (u : State) ch => (List.range 4).foldl (fun (u : State) d =>
    let v := u.die ch d
    let gone := (v.hi ++ v.lo).filter out
    let u := if gone.isEmpty then u else u.setDie ch d { (v.setLo (v.lo.filter (fun x => !out x))) with hi := v.hi.filter (fun x => !out x) }
    gone.foldl (fun (w : State) x => w.withdrawOne ch d x) u) u) s

/-- At step 4 of a save the queued descriptors of the glean, fold, erase, harvest and raw owners are withdrawn, a running erase is suspended, or its abort is begun where its suspensions are used up, and a RESUME that waits is withdrawn, so that its erase stays suspended (R197, R298). -/
def State.fceWithdraw (s : State) : State :=
  let t := s.queuesWithdraw (fun x => [1, 2, 4, 5, 8].contains (dOwner x))
  (List.range 17).foldl (fun (u : State) ch => (List.range 4).foldl (fun (u : State) d =>
    let v := u.die ch d
    if v.st = .erasing then
      if v.susp < 8 then u.setDie ch d { v with st := .suspended, susp := v.susp + 1, suspAt := u.tick }
      else u.setDie ch d { v with st := .aborting }
    else if v.st = .resumePending then
      let back := if v.op.any (fun r => decide (dOp r.desc = 2)) then DieSt.nestedProgram else .nestedRead
      v.resumeD.toList.foldl (fun (w : State) r => w.postCpl ch d r.desc { cplCode 0x0D with susp := v.susp })
        (u.setDie ch d { v with st := back, resumeD := none })
    else u) u) t

/-- Suspended erases resume in rebound (R197, R222). -/
def State.fceResumeAll (s : State) : State :=
  (List.range 17).foldl (fun (u : State) ch => (List.range 4).foldl (fun (u : State) d =>
    let v := u.die ch d
    if v.st = .suspended then u.setDie ch d (v.goOn u.tick)
    -- under a nested read or program the RESUME waits for its end (R306, R307)
    else if v.st = .nestedRead ∨ v.st = .nestedProgram then u.setDie ch d { v with st := .resumePending }
    else u) u) s

/-- The writers take their completions (log entry 39). -/
def State.takeCompletions (s : State) : State :=
  s.fce.foldl (fun (u : State) e => u.setChan e.1 { (u.chan e.1) with cpl := [] }) s

/-- The minima of Table 10-10 for a rate: ADL, WHR, CCS, RHW, RPRE, WPRE. -/
def waitMin (rate : Nat) : Nat × Nat × Nat × Nat × Nat × Nat :=
  match rate with
  | 0 => (60, 48, 120, 40, 2, 2)
  | 1 => (90, 72, 180, 60, 2, 2)
  | 2 => (120, 96, 240, 80, 4, 2)
  | 3 => (150, 120, 300, 100, 4, 2)
  | _ => (180, 144, 360, 120, 4, 2)

/-- Whether the three registers with one of them replaced meet R314, and R358 where the flash loop runs a centre-spread. -/
def State.ifOk (s : State) (ch reg : Nat) (v : Word) : Bool :=
  let base := 0x10000 + 0x1000 * ch
  let i := (if reg = 0 then v else s.word (base + 8)).toNat
  let w0 := (if reg = 1 then v else s.word (base + 0xC)).toNat
  let w1 := (if reg = 2 then v else s.word (base + 0x10)).toNat
  let (adl, whr, ccs, rhw, rpre, wpre) := waitMin (natBits i 16 3)
  decide (natBits i 16 3 ≤ 4) && !(decide (reg = 0) && decide (natBits i 16 3 = 4) && decide (s.fld CLK_SSC_F_MODE = 2))
  && decide (natBits i 8 2 = 0) && decide (adl ≤ natBits w0 16 9) && decide (whr ≤ natBits w0 0 9)
  && decide (ccs ≤ natBits w1 16 9) && decide (rhw ≤ natBits w1 0 9) && decide (rpre ≤ natBits i 0 4) && decide (wpre ≤ natBits i 4 4)

/-- Whether the three registers with one of them replaced meet R314, judged with the writes that wait to take effect. -/
def State.ifTakes (s : State) (ch reg : Nat) (v : Word) : Bool :=
  ((s.chan ch).ifWrites.foldl (fun (u : State) w => u.setWord (0x10008 + 0x1000 * ch + 4 * w.1) w.2.1) s).ifOk ch reg v

/-- Write FCE_IF, FCE_WAIT0, FCE_WAIT1 or FCE_TMO (R314, Table 10-17); false where the write is refused. An accepted write takes effect when no descriptor of the engine is in execution. -/
def State.writeIf (s : State) (ch reg : Nat) (v : Word) : State × Bool :=
  let mask : Word := match reg with | 0 => 0x000703FF | 1 => 0x01FF01FF | 2 => 0x01FF01FF | _ => 0xFFFFFFFF
  let ok := if reg = 3 then !Config.tmoTooShort ch v else s.ifTakes ch reg v
  if ok then ((s.setChan ch { (s.chan ch) with ifWrites := (s.chan ch).ifWrites ++ [(reg, v &&& mask, s.tick)] }).applyIf ch, true) else (s.setFlag (FCE_STS_WAIT_REFUSED ch) true, false)

/-- FCE_IF_WRITE (R314). -/
def execFceIfWrite (ch : Fin 17) (reg : Fin 4) (v : Word) (s : State) : Host.Outcome State Fault Refusal :=
  if !s.coreDomains then .next s else .next (s.writeIf ch.val reg.val v).1

/-- FCE_UNFENCE (R321): ends a software fence in force; the channel returns at the next plan boundary. -/
def execFceUnfence (ch : Fin 17) (s : State) : Host.Outcome State Fault Refusal :=
  if s.flag (FCE_STS_SOFT_FENCE ch.val) then .next (s.setChan ch.val { (s.chan ch.val) with softEnded := true }) else .next s

/-- STRAY_CYCLE (R318, kind 3 of Table 10-12). The checker sees the channel's pads, which are outside the model: what it finds is told by this command and by the polls (DESIGN CHOICE, log entry 118). -/
def execStrayCycle (ch : Fin 17) (die : Fin 4) (exp obs : Word) (s : State) : Host.Outcome State Fault Refusal :=
  if s.inMode [.off, .powerUp] then .next s else .next (s.checkMismatch ch.val die.val (s.fld (FCE_CHK_TAG ch.val)) 3 exp.toNat obs.toNat)

/-- Whether a raw PROGRAM or ERASE may touch a block (Table 10-8): the status code, or none where it may. -/
def State.rawBlockBad (s : State) (ch d b : Nat) : Option Nat :=
  match s.flo.org.stookOfBlock ch d b with
  | none => if (s.flo.org.donors d ch).contains b then none else some stNotPermitted
  | some n =>
    let role := (s.stook n).role
    let on := fun (p : Nat → Bool) => s.flash.sheaves.any (fun e => decide (addrStook e.1 = n) && p e.1)
    if role = 6 || role = 7 || role = 8 || role = 9 then some stNotPermitted
    else if on s.manifestNames then some stSealed
    else if on (fun a => s.mapNames a || s.flash.images.any (fun i => i.names a)) then some stNotPermitted
    else if role = 0 || role = 0xB then none
    else some stNotPermitted

/-- The checks of Table 10-8. -/
def State.rawCheck (s : State) (ch d : Nat) (x : List Byte) : Option Nat :=
  let op := dOp x
  if dKind x = 0 ∨ natBits (leField x 12 4) 0 24 ≠ 0 then some stNotPermitted
  else if op = 6 ∧ dTarget x / 2 ^ 28 ≠ 8 then some stNotPermitted
  else if (op = 4 ∨ op = 5) ∧ !((s.die ch d).erase.any (fun r => decide (dOwner r.desc = 8))) then some stNotPermitted
  else if op = 2 ∨ op = 3 then s.rawBlockBad ch d (dBlock x)
  else none

/-- FLASH_DESC (R311): checked and queued; a raw ERASE of a FREE stook is bracketed by its ERASE_INTENT. The packet waits for the completion. -/
def execFlashDesc (src : PktSrc) (s : State) : Host.Outcome State Fault Refusal :=
  match s.findExec src 0x12 with
  | none => .next s
  | some e =>
    let ch := pktField e.bytes 40 1
    let d := pktField e.bytes 41 1
    let pri := pktField e.bytes 42 1
    let x := rawDesc e
    if 16 < ch || 3 < d || 1 < pri then .next (s.completeCode e stNotPermitted)
    else match s.rawCheck ch d x with
      | some c => .next (s.completeCode e c)
      | none =>
        let t := s.startExec e ch
        let t := if dOp x = 3 then
            (match t.flo.org.stookOfBlock ch d (dBlock x) with
             | some n => t.ledger (.eraseIntent [(n, dTlc x)])
             | none => t)
          else t
        .next (t.queueDesc ch d (decide (pri = 1)) x)

/-- ERASE_INTENT_CONFIRMED (R280): with the intent of a planned erase confirmed, the erase is issued on the 17 columns. The erases of rotation stooks run in service and lull alone (R268), and no erase starts in a save or a shut-down. A stook that is meanwhile in use is not erased: only a FREE one, a twin, a log or ledger stook, or a half-erased one is (R280). A column lodged since the intent takes its donor now (R292). -/
def execEraseIntentConfirmed (stook : Fin 8192) (s : State) : Host.Outcome State Fault Refusal :=
  let n := stook.val
  match s.flo.erases.find? (fun j => decide (j.stook = n) && !j.issued) with
  | none => .next s
  | some j =>
    let rotation := (s.stook n).rotation
    if s.intentPending n || (rotation && !s.inMode [.service, .lull]) || s.inMode [.off, .powerUp, .save, .shutDown] then .next s
    else
      let v := s.stook n
      let (u, ok) := s.remapWorn n
      let drop := fun (w : State) => ({ w with flo := { w.flo with erases := w.flo.erases.filter (fun (x : EraseJob) => decide (x.stook ≠ n)) } } : State)
      if !(v.half || [0, 6, 7, 8].contains v.role) then .next (drop s)
      else if !ok && rotation then .next ((drop u).withdraw n)
      else
      let t := { u with flo := { u.flo with erases := u.flo.erases.map (fun (x : EraseJob) => if x.stook = n then { x with issued := true } else x) } }
      .next ((List.range 17).foldl (fun (u : State) c => u.queueDesc c (stookDie n) true (u.eraseDesc n c j.tlc)) t)

end Sys2Proof.Machine
end

