-- ==== Sys2Proof/Machine/Training.lean ====
section
/-! DEFINITION. Set points, training records, DRAM-side runs and the host training modes (R52, R75 to R85, R501, R502). -/

namespace Sys2Proof.Machine

open Reg

/-- The rate of a set point in MT/s: the five standard ones, then the user set points; 0 where undefined (Table 1-8, Table 12-9). -/
def State.spRate (s : State) (sp : Nat) : Nat :=
  if sp < 5 then 4800 + 800 * sp else s.fld (CLK_SP_USER (sp - 5))

/-- The row of Table 2-1 a set point takes (R52): a user set point takes the lowest standard one whose rate is at least its own. -/
def State.latRow (s : State) (sp : Nat) : Nat :=
  if sp < 5 then sp
  else
    let r := s.spRate sp
    if r ≤ 4800 then 0 else if r ≤ 5600 then 1 else if r ≤ 6400 then 2 else if r ≤ 7200 then 3 else 4

/-- Minimum CA_LAT_EFF of a row of Table 2-1. -/
def latMin (row : Nat) : Nat := if row ≤ 2 then 1 else 2

/-- RD_ADD of a row of Table 2-1. -/
def rdAdd (row : Nat) : Nat := if row ≤ 1 then 2 else if row ≤ 3 then 3 else 4

/-- Set HBP_LAT for the active set point from Table 2-1 and the CA latency in force (R40, R52, R78). -/
def State.setLat (s : State) (sp : Nat) : State :=
  let row := s.latRow sp
  let eff := max s.hbp.caLat (latMin row)
  (((s.setFld HBP_LAT_SET_POINT sp).setFld HBP_LAT_CA_LAT_EFF eff).setFld HBP_LAT_WR_DELAY eff).setFld HBP_LAT_RD_ADD (rdAdd row)

/-- CA_LAT and CMD_2N take effect (R41): at a self-refresh exit or a deassertion of H_RESET_n. -/
def State.applyCaLat (s : State) : State :=
  let t := { s with hbp := { s.hbp with caLat := s.fld HBP_CTL_CA_LAT + 1, cmd2n := s.flag HBP_CTL_CMD_2N } }
  t.setLat (t.fld HBP_LAT_SET_POINT)

/-- The state fields of the host-side and DRAM-side records of a set point (Table 3-8). -/
def hostRec (sp : Nat) : Fld := ⟨0x3008, 4 * sp + 2, 2⟩

/-- The DRAM-side record field of a set point. -/
def dramRec (sp : Nat) : Fld := ⟨0x3008, 4 * sp, 2⟩

/-- The record words of a set point and side, by TRN_RES_SEL (Table 3-9); `k` is set point × 2 + side. -/
def State.recordWords (s : State) (k : Nat) : SMap Word := s.trn.results.filter (fun e => decide (e.1 / 2 ^ 15 = k))

/-- The band record of a loop at a set point (R355): loop 0 PLL_H, 1 the DRAM loop. -/
def State.bandOf (s : State) (lp sp : Nat) : Word := smapGet (fun _ => 0) s.clk.band (lp * 8 + sp)

/-- A band record is VALID (Table 12-3). -/
def bandValid (w : Word) : Bool := decide (w.toNat / 2 ^ 30 = 1)

/-- Write a TRAINING record of a set point and side to the ledger (R76, R355): the host side carries PLL_H's band record, the DRAM side the DRAM loop's. -/
def State.ledgerTraining (s : State) (sp side : Nat) : State :=
  s.ledger (.training sp side ⟨s.fld (if side = 1 then dramRec sp else hostRec sp), s.word HBP_GEOM_LRANKS.addr, s.word ID_REV_MAJOR.addr,
    s.bandOf side sp, s.recordWords (sp * 2 + side)⟩)

/-- A record becomes VALID or FAILED: it is written to flash as a training record in the ledger (R76). -/
def State.setRecord (s : State) (f : Fld) (v : Nat) : State :=
  let t := s.setFld f v
  if v = 1 || v = 3 then t.ledgerTraining (f.lo / 4) (if f.lo % 4 = 0 then 1 else 0) else t

/-- Put the results of a run into the record words. -/
def State.putResults (s : State) (rs : List (Fin 0x80000 × Word)) : State :=
  { s with trn := { s.trn with results := rs.foldl (fun (m : SMap Word) (e : Fin 0x80000 × Word) => smapSet (fun _ => 0) m e.1.val e.2) s.trn.results } }

/-- Start a DRAM-side run at step 1 of Table 3-2, on the first package rank: a check pass, or the full steps. -/
def State.runFrom (s : State) (check : Bool) : State :=
  ((({ s with trn := { s.trn with rank := 0, check := check } } : State).setFld TRN_STS_STEP 1).setFlag TRN_STS_GATHERING true)

/-- Start a DRAM-side run of the active set point (R79): a check pass where the record is VALID and DRAM_FULL is 0, else the full steps. A gatherer that is out runs nothing (Table 14-6, log entry 101). -/
def State.trainRun (s : State) : State :=
  if s.unitOut .training then ({ s with trn := { s.trn with earlyNoted := false } } : State).setFlag TRN_STS_DRAM_READY false
  else
  let sp := s.fld TRN_STS_ACTIVE_SP
  let check := decide (s.fld (dramRec sp) = 1) && !s.flag TRN_CTL_DRAM_FULL
  let t := { s with trn := { s.trn with earlyNoted := false } }
  (t.runFrom check).setFlag TRN_STS_DRAM_READY false

/-- The lines of the retrain area are written back to where they stood (R144, R336). -/
def State.areaBack (s : State) : State :=
  s.trn.area.foldl (fun (u : State) e => u.setLine (e.1 * 64) e.2) { s with trn := { s.trn with area := [] } }

/-- A training pattern goes to the next lines, at most 16 (R79). In lull and in rebound the lines under the previous pattern are written back first, and the next are copied to the retrain area (R144, R336). -/
def State.patternGroup (s : State) : State :=
  let t := s.areaBack
  let n := t.trn.groups
  let ks := ((Config.patternLines n).take 16).map (fun k => k % 2 ^ (t.maWidth - 6))
  let keep := t.trn.retrain.isSome || decide (t.sys.mode = .rebound)
  let area := if keep then ks.foldl (fun m k => smapPut m k (t.line (k * 64))) [] else []
  let t := { t with trn := { t.trn with groups := n + 1, area := area } }
  ks.foldl (fun (u : State) k => u.setLine (k * 64) (Config.patternData n k)) t

/-- Step 2 of Table 3-2: the DRAM takes the mode registers of the set point that the run trains (R79, R338). -/
def State.applyModeRegs (s : State) : State :=
  { s with trn := { s.trn with mrSp := some (s.trn.retrain.getD (s.fld TRN_STS_ACTIVE_SP)) } }

/-- The next package rank begins at step 2, or the run stays where it is. -/
def State.nextRank (s : State) : State :=
  if s.trn.rank < s.rankBits then (({ s.areaBack with trn := { s.areaBack.trn with rank := s.trn.rank + 1 } } : State).setFld TRN_STS_STEP 2).applyModeRegs
  else s.patternGroup

/-- A DRAM-side run goes on by one step of Table 3-2 (log entry 84): step 1 once per run, steps 2 to 8 for each package rank in turn, patterns in step 8. A check pass has step 9, which also writes patterns, in place of steps 3 to 8 (R79). -/
def State.trainTick (s : State) : State :=
  let step := s.fld TRN_STS_STEP
  if step = 0 then s
  else if step = 1 then (s.setFld TRN_STS_STEP 2).applyModeRegs
  else if step = 2 ∧ s.trn.check = true then (s.setFld TRN_STS_STEP 9).patternGroup
  else if step < 7 then s.setFld TRN_STS_STEP (step + 1)
  else if step = 7 then (s.setFld TRN_STS_STEP 8).patternGroup
  else s.nextRank

/-- A DRAM-side run stops at the end of its sample burst, and the lines under its pattern return (R143, R144). -/
def State.trainHalt (s : State) : State :=
  let t := s.areaBack
  if t.fld TRN_STS_STEP = 0 then t else (t.setFld TRN_STS_STEP 0).setFlag TRN_STS_GATHERING false

/-- Leave the active host training mode (R82): the sequence of the read and write modes restarts, and what the centring has found and no judgement has taken is discarded. -/
def State.trainLeave (s : State) : State :=
  let t := { s with hbp := { s.hbp with train := none },
                    trn := { s.trn with centred := 0, fullMatch := false, matched := [], beats := [], hostWork := [] } }
  let t := t.setFlag TRN_STS_HOST_MODE false
  if t.fld TRN_STS_STEP = 0 then t.setFlag TRN_STS_GATHERING false else t

/-- The host-side record takes the words that the centring of mode 0x15 found (R75, R82). -/
def State.takeHostWork (s : State) : State :=
  { s with trn := { s.trn with results := s.trn.hostWork.foldl (fun (m : SMap Word) e => smapSet (fun _ => 0) m e.1 e.2) s.trn.results } }

/-- Judge the host-side record when mode 0x15 is left by a control-word write (R83): its words are then the ones of the centring (log entry 83). -/
def State.judgeHost (s : State) : State :=
  if s.hbp.train = some .writeDq && 64 ≤ s.trn.centred then
    s.takeHostWork.setRecord (hostRec (s.fld TRN_STS_ACTIVE_SP)) (if s.trn.fullMatch then 1 else 3)
  else s

/-- Enter a host training mode; it leaves the one that is active (R82, R83). -/
def State.trainEnter (s : State) (m : TrainMode) (x : Sub) (v : Byte) : State :=
  let t := s.judgeHost.trainLeave
  let t := { t with hbp := { t.hbp with train := some m, trainSub := x },
                    trn := { t.trn with csSel := (if v.getLsbD 1 then 1 else 0) } }
  let t := t.setFlag TRN_STS_HOST_MODE true
  if m = .writeDq then t.setFlag TRN_STS_GATHERING true else t

/-- Whether host training modes are honoured (R25, R82): in the TRAIN phase after DRAM_READY, in rebound, and in keeper mode where R25 says so. -/
def State.trainHonoured (s : State) : Bool :=
  (s.sys.mode = .attach && s.sys.phase = .train && s.flag TRN_STS_DRAM_READY) || s.sys.mode = .rebound
  || (s.sys.mode = .keeper && (s.sys.keeperTraining || s.sys.keeperFrom = .rebound))

/-- The nibbles of the ten lanes of a sub-channel at one beat of the PRBS15 sequence (R82). -/
def prbsBeat (x : Sub) (beat : Nat) : List (BitVec 4) := (List.range 10).map (fun k => Config.prbs15 (subNum x * 10 + k) beat)

/-- A burst whose beat `b` carries the nibbles `f b` on the eight data lanes and the two check lanes (R54). -/
def burstOf (f : Nat → List (BitVec 4)) : LineData × CheckBytes :=
  let nib := fun (b k : Nat) => ((f b).getD k 0).toNat
  let beatVal := fun (b : Nat) => (List.range 8).foldl (fun acc k => acc + nib b k * 16 ^ k) 0
  (BitVec.ofNat 512 ((List.range 16).foldl (fun acc b => acc + beatVal b * 2 ^ (32 * b)) 0),
   BitVec.ofNat 128 ((List.range 16).foldl (fun acc b => acc + (nib b 8 + 16 * nib b 9) * 2 ^ (8 * b)) 0))

/-- Bit by bit, whether two bursts agree in every beat: data bits in bits 31..0 and check bits in bits 39..32. -/
def burstMatch (p q : LineData × CheckBytes) : BitVec 40 :=
  (List.range 40).foldl (fun acc i =>
    let same := (List.range 16).all (fun b =>
      if i < 32 then p.1.getLsbD (32 * b + i) == q.1.getLsbD (32 * b + i)
      else p.2.getLsbD (8 * b + (i - 32)) == q.2.getLsbD (8 * b + (i - 32)))
    if same then acc ||| (1#40 <<< i) else acc) 0

/-- The burst that returns on each bit one level in every beat. -/
def levelBurst (m : BitVec 40) : LineData × CheckBytes :=
  burstOf (fun _ => (List.range 10).map (fun k => BitVec.ofNat 4 (m.toNat / 16 ^ k)))

/-- The beats of its PRBS15 sequence that the lanes of a sub-channel have carried (R82). -/
def State.beatsOf (s : State) (x : Sub) : Nat := smapGet (fun _ => 0) s.trn.beats (subNum x)

/-- The lanes of a sub-channel carry the 16 beats of one more burst. -/
def State.beatsOn (s : State) (x : Sub) : State :=
  { s with trn := { s.trn with beats := smapSet (fun _ => 0) s.trn.beats (subNum x) (s.beatsOf x + 16) } }

/-- The bits of a sub-channel that matched in every compared beat since its previous READ. -/
def State.matchedOf (s : State) (x : Sub) : BitVec 40 := smapGet (fun _ => BitVec.allOnes 40) s.trn.matched (subNum x)

/-- Store the matched bits of a sub-channel. -/
def State.setMatched (s : State) (x : Sub) (m : BitVec 40) : State :=
  { s with trn := { s.trn with matched := smapSet (fun _ => BitVec.allOnes 40) s.trn.matched (subNum x) m } }

/-- Drive a burst to the host. -/
def State.driveOut (s : State) (v : LineData × CheckBytes) : State := { s with hbp := { s.hbp with hostOut := some v } }

/-- Whether an active host training mode answers a READ (`wr` false) or uses a WRITE (Table 3-3). -/
def State.trainServes (s : State) (wr : Bool) : Bool :=
  match s.hbp.train with
  | some .readEnable | some .readDq => !wr
  | some .writeDq => true
  | _ => false

/-- What a READ returns while a host training mode is active (R82); none where the mode answers no READ. -/
def State.trainRead (s : State) (x : Sub) : State :=
  match s.hbp.train with
  | some .readEnable => s.driveOut (burstOf (fun b => List.replicate 10 (if b % 2 = 1 then 15#4 else 0#4)))
  | some .readDq => (s.driveOut (burstOf (fun b => prbsBeat x (s.beatsOf x + b)))).beatsOn x
  | some .writeDq => (s.driveOut (levelBurst (s.matchedOf x))).setMatched x (BitVec.allOnes 40)
  | _ => s

/-- The TRN_RES_SEL of the words that centring fills for a set point (Table 3-9): the 20 host-side lanes, and the seven CA inputs of each sub-channel at codes 0x14 to 0x1A with the sub-channel as the word number (log entry 83). -/
def centredSels (sp : Nat) : List Nat :=
  (List.range 20).map (fun k => sp * 2 ^ 16 + k * 2 ^ 8) ++
    (List.range 2).flatMap (fun x => (List.range 7).map (fun i => sp * 2 ^ 16 + (0x14 + i) * 2 ^ 8 + x))

/-- Centring is complete: the receivers' settings are held for the host-side record of the active set point, which takes them when it is judged (R75, R82, R83). -/
def State.centreDone (s : State) : State :=
  let sels := centredSels (s.fld TRN_STS_ACTIVE_SP)
  let t := { s with trn := { s.trn with
    hostWork := sels.foldl (fun (m : SMap Word) k => smapPut m k (Config.centred k s.tick)) [] } }
  if t.fld TRN_STS_STEP = 0 then t.setFlag TRN_STS_GATHERING false else t

/-- What a WRITE does while mode 0x15 is active (R82): the first 64 bursts centre the receivers, and each later one is compared. -/
def State.trainWrite (s : State) (x : Sub) (v : LineData × CheckBytes) : State :=
  if s.hbp.train ≠ some .writeDq then s
  else if s.trn.centred < 64 then
    let t := (({ s with trn := { s.trn with centred := s.trn.centred + 1 } } : State).beatsOn x).setFlag TRN_STS_GATHERING true
    if s.trn.centred = 63 then t.centreDone else t
  else
    let m := burstMatch v (burstOf (fun b => prbsBeat x (s.beatsOf x + b)))
    let t := (s.beatsOn x).setMatched x (s.matchedOf x &&& m)
    { t with trn := { t.trn with fullMatch := s.trn.fullMatch || decide (m = BitVec.allOnes 40) } }

/-- A set-point change abandons a DRAM-side run or the centring of mode 0x15 (R84); what a host-side mode has gathered counts for no other set point. That a HANDOVER, in attach and in rebound, ends both in the same way is the model's choice (DESIGN CHOICE, log entry 104). -/
def State.trainAbandon (s : State) : State :=
  let sp := s.fld TRN_STS_ACTIVE_SP
  let run := decide (s.fld TRN_STS_STEP ≠ 0)
  let centring := s.hbp.train = some .writeDq && decide (s.trn.centred < 64)
  let t := if run then (s.setFld (dramRec (s.trn.retrain.getD sp)) 2).trainHalt else s
  let t := if centring then t.setFld (hostRec sp) 2 else t
  let t := { t with trn := { t.trn with centred := 0, fullMatch := false, matched := [], hostWork := [] } }
  if run || centring then (t.setFlag TRN_STS_ABANDONED true).setFlag TRN_STS_GATHERING false else t

/-- A DRAM-side run finds no passing window (R80, R500). -/
def State.trainFail (s : State) (sp : Nat) (f : TrainFailAt) : State :=
  let isSub := f.step.val = 3 || f.step.val = 4
  let q := f.rank.val * 2 ^ 12 + f.step.val * 2 ^ 8 + (if isSub then subNum f.sub * 2 ^ 6 + 2 ^ 5 else 0)
    + (if f.step.val = 3 then 14 else if f.step.val ≤ 2 then 0 else f.lane.val)
  ((s.setFlag TRN_STS_DRAM_FAIL true).setRecord (dramRec sp) 3).report .trainFail 134 q 0

/-- A DRAM-side run of a set point passes (R80): its results and its VALID record stand, and DRAM_FAIL clears. -/
def State.trainPass (s : State) (sp : Nat) (results : List (Fin 0x80000 × Word)) : State :=
  ((s.putResults results).setFlag TRN_STS_DRAM_FAIL false).setRecord (dramRec sp) 1

/-- DRAM_TRAINING_DONE (R79, R80). A check pass that fails leaves the record STALE and the full steps run. -/
def execDramTrainingDone (pass : Bool) (failAt : TrainFailAt) (results : List (Fin 0x80000 × Word)) (s : State) :
    Host.Outcome State Fault Refusal :=
  let sp := s.fld TRN_STS_ACTIVE_SP
  if s.fld TRN_STS_STEP = 0 || s.trn.hop || s.trn.retrain.isSome then .next s
  else if pass then .next ((s.trainHalt.trainPass sp results).setFlag TRN_STS_DRAM_READY true)
  else if s.trn.check then .next ((s.areaBack.setFld (dramRec sp) 2).runFrom false)
  else .next (s.trainHalt.trainFail sp failAt)

end Sys2Proof.Machine
end

