-- ==== Sys2Proof/Machine/Bdc.lean ====
section
/-! DEFINITION. The backside DRAM controller: ownership, ports, refresh, row disturbance, harvest and the control-core window (R323 to R346). -/

namespace Sys2Proof.Machine

open Reg

/-- The BDC takes the DRAM for a case of Table 11-1; in cases 0x1 to 0x4 the DRAM clock comes from the DRAM loop, where it is locked (R353, R356). A save has no late request yet (R326). -/
def State.takeDram (s : State) (owner : Nat) : State :=
  let t := { s with bdc := { s.bdc with owed := [], rows := [], reqs := [], lateNoted := s.bdc.lateNoted && decide (owner ≠ 1) } }
  (((t.setFld DCT_STS_OWNER owner).setFlag DCT_STS_OWNED true).setFld DCT_STS_POSTPONED_MAX 0).setFlag CLK_STS_D_SRC (decide (owner ≤ 4) && t.flag CLK_STS_D_LOCK)

/-- Refreshes owed when the DRAM goes to self-refresh at the end of a save, a harvest or a lull retrain are issued before it does (R329). -/
def State.payOwed (s : State) : State :=
  if s.fld DCT_STS_OWNER = 2 then s else s.wrap DCT_CNT_REF_ISSUED (s.bdc.owed.map (·.2)).sum

/-- The DRAM clock leaves PLL_S where nothing keeps it there (R344, R353): a case 0x1 to 0x4 of the BDC's ownership, an idle loopback, or a lull in which PLL_H is not locked. -/
def State.clockBack (s : State) : State :=
  let own := s.fld DCT_STS_OWNER
  s.setFlag CLK_STS_D_SRC (s.flag CLK_STS_D_SRC &&
    ((decide (1 ≤ own) && decide (own ≤ 4)) || s.hbp.loopHost || s.hbp.loopDram || (decide (s.sys.mode = .lull) && !s.hReady)))

/-- The BDC gives the DRAM up: no target is refreshed by it, and the DRAM clock moves to PLL_H as R344 and R353 let it. -/
def State.giveDram (s : State) : State :=
  let s := s.payOwed
  let t := { s with bdc := { s.bdc with owed := [], rows := [], reqs := [], window := none, handbackWait := none, double := 0, doubleNext := 0 } }
  ((((t.setFld DCT_STS_OWNER 0).setFlag DCT_STS_OWNED false).setFlag DCT_STS_HARVESTING false).setFlag DCT_STS_DOUBLE_REF false).clockBack

/-- CLK_STS.SEARCHING: a full band search is running (R356). -/
def State.searchFlag (s : State) : State :=
  s.setFlag CLK_STS_SEARCHING (decide (s.clk.h = .searching) || decide (s.clk.d = .searching) || decide (s.clk.f = .searching))

/-- The DRAM loop begins to lock at a set point (R352, R356): from its band record where that is VALID, else by a full search. -/
def State.lockDAt (s : State) (sp : Nat) : State :=
  let st : LockSt := if bandValid (s.bandOf 1 sp) then .loading else .searching
  (({ s with clk := { s.clk with d := st, dSp := sp } } : State).setFlag CLK_STS_D_LOCK false).searchFlag

/-- The DRAM loop hops to a set point while the DRAM is in self-refresh (Table 11-5 step 4, R344): with stored band results the hop is complete within the step; without them the full search runs on. -/
def State.hopD (s : State) (sp : Nat) : State :=
  if s.clk.dSp = sp then s
  else if bandValid (s.bandOf 1 sp) then { s with clk := { s.clk with dSp := sp } }
  else s.lockDAt sp

/-- Owed refreshes of a target. -/
def State.owed (s : State) (t : Nat) : Nat := smapGet (fun _ => 0) s.bdc.owed t

/-- Set the owed count of a target. -/
def State.setOwed (s : State) (t n : Nat) : State :=
  let u := { s with bdc := { s.bdc with owed := smapSet (fun _ => 0) s.bdc.owed t n } }
  u.setFld DCT_STS_POSTPONED_MAX (max (u.fld DCT_STS_POSTPONED_MAX) n)

/-- The target of a module address: sub-channel × 2 + package rank. -/
def State.maTarget (s : State) (ma : Nat) : Nat := s.maBank ma / 128

/-- A PLAN_DEVIATION of the BDC (R330, R331): target, port, plan code. -/
def State.planDeviation (s : State) (target port : Nat) : State :=
  s.emit .fault 0x0066 140 (leBytes 1 target ++ leBytes 1 port ++ leBytes 1 (s.fld SAV_STS_PLAN))

/-- An all-bank refresh of a target is issued: it is counted, and leaves no row of the target open. -/
def State.refreshed (s : State) (t : Nat) : State :=
  ({ s with bdc := { s.bdc with rows := s.bdc.rows.filter (fun e => decide (e.1 / 128 ≠ t)) } } : State).wrap DCT_CNT_REF_ISSUED 1

/-- An interval boundary of a target: the interval that its last MR4 read asks for is in force from here on (R327). -/
def State.intervalTaken (s : State) (t : Nat) : State :=
  let m := 1#4 <<< t
  let u := { s with bdc := { s.bdc with double := (s.bdc.double &&& ~~~m) ||| (s.bdc.doubleNext &&& m) } }
  u.setFlag DCT_STS_DOUBLE_REF (decide (u.bdc.double ≠ 0))

/-- REFRESH_DUE (R329, R330): an interval boundary of a target, or a REFRESH step of the plan in force. At a boundary the interval follows the last MR4 read (R327). The fifth owed refresh splits a real-time burst. In harvest and lull retrain a due refresh is issued at the next request boundary, which here is at once. -/
def execRefreshDue (target : Fin 4) (planStep : Bool) (s : State) : Host.Outcome State Fault Refusal :=
  let t := target.val
  let own := s.fld DCT_STS_OWNER
  let n := s.owed t
  if !s.flag DCT_STS_OWNED then .next s
  else if planStep then .next (if (own = 1 ∨ own = 2) ∧ n ≠ 0 then (s.setOwed t (n - 1)).refreshed t else s)
  else
    let s := s.intervalTaken t
    if own = 1 ∨ own = 2 then
      if n < 4 then .next (s.setOwed t (n + 1))
      else
        let hit := s.bdc.reqs.find? (fun r => decide (r.port < 17) && decide (s.maTarget r.ma = t))
        let u := (s.setOwed t 5).setOwed t 4
        let u := { u with bdc := { u.bdc with reqs := u.bdc.reqs.map (fun (r : BdcReq) =>
          if r.port < 17 ∧ s.maTarget r.ma = t then { r with split := true } else r) } }
        let u := ((u.refreshed t).bump DCT_CNT_REF_SPLITS 1).setFlag DCT_STS_SPLIT true
        .next (u.planDeviation t ((hit.map (·.port)).getD 0x1F))
    else .next (((s.setOwed t 1).setOwed t 0).refreshed t)

/-- MR4_POLL (R327, R328): the field is kept, the interval follows it from its next boundary, and a requirement above the 2× rate sets HOT. -/
def execMr4Poll (target : Fin 4) (field : Byte) (above1 above2 : Bool) (s : State) : Host.Outcome State Fault Refusal :=
  if !s.flag DCT_STS_OWNED then .next s
  else
    let t := target.val
    let f := match t with | 0 => DCT_MR4_A0 | 1 => DCT_MR4_A1 | 2 => DCT_MR4_B0 | _ => DCT_MR4_B1
    let m := 1#4 <<< t
    let u := { s with bdc := { s.bdc with doubleNext := if above1 || above2 then s.bdc.doubleNext ||| m else s.bdc.doubleNext &&& ~~~m } }
    let u := u.setFld f field.toNat
    .next (if above2 then (u.setFlag DCT_STS_HOT true).report .dramHot 140 0 0 else u)

/-- Twice T of a port in µs (R325, Table 11-2). -/
def State.twoT (s : State) (port : Nat) : Nat :=
  if port < 17 then 1
  else 2 * s.fld (match port with | 17 => DCT_LAT_HMOVER | 18 => DCT_LAT_HASH | 19 => DCT_LAT_SCRUB | _ => DCT_LAT_WIN)

/-- The urgency of a request (Table 11-3), in half steps of T. -/
def State.urgency (s : State) (r : BdcReq) : Nat :=
  let a := 2 * (s.tick - r.tick)
  let t2 := s.twoT r.port
  if r.split || r.late || 2 * t2 ≤ a then 3 else if t2 ≤ a then 2 else if t2 ≤ 2 * a then 1 else 0

/-- Whether harvest may run (R337); it does not start until the DRAM loop is locked (R356). -/
def State.harvestAllowed (s : State) : Bool :=
  s.sys.mode = .lull && !s.flag CFG_MODE_KEEPER && !s.flag CFG_MODE_NO_PLAN && s.flag DCT_HARV_CTL_EN && !s.flag CLK_STS_DISCONT
  && s.flag CLK_STS_D_LOCK

/-- Harvest holds the DRAM and goes on (R337, R339): no handback has begun. -/
def State.harvestOn (s : State) : Bool := s.flag DCT_STS_HARVESTING && s.harvestAllowed && s.bdc.handbackWait.isNone

/-- Whether a port is active (Table 11-2, R325, R337, R339). -/
def State.portActive (s : State) (port : Nat) : Bool :=
  if port < 17 then decide (s.fld DCT_STS_OWNER = 1) || decide (s.fld DCT_STS_OWNER = 2) else s.harvestOn

/-- The request that the BDC grants next (R326): the highest urgency, then the lower port, then the older. -/
def State.bestReq (s : State) : List BdcReq → Option BdcReq
  | [] => none
  | r :: rs => match s.bestReq rs with
    | none => some r
    | some q => if s.urgency q < s.urgency r || (decide (s.urgency q = s.urgency r) && decide (r.port ≤ q.port)) then some r else some q

/-- A request that waits for its requester's throttle (R331): a further ACT to the bank comes no sooner than 1 µs after the previous one. -/
def State.actHeld (s : State) (r : BdcReq) : Bool :=
  let b := s.maBank r.ma
  decide (smapFind s.bdc.rows b ≠ some (s.maRow r.ma)) && (smapFind s.bdc.throttled (b * 32 + r.port)).any (fun t => decide (s.tick < t + 1))

/-- Count the ACT of a grant that opens a row (R331): the count that reaches THRESH throttles the requester for the bank. -/
def State.countAct (s : State) (r : BdcReq) : State :=
  let b := s.maBank r.ma
  if smapFind s.bdc.rows b = some (s.maRow r.ma) then s
  else
    let n := (smapGet (fun _ => (0, 0)) s.bdc.acts b).1 + 1
    let k := b * 32 + r.port
    let old := if (smapFind s.bdc.throttled k).isSome then smapPut s.bdc.throttled k s.tick else s.bdc.throttled
    let t := { s with bdc := { s.bdc with rows := smapPut s.bdc.rows b (s.maRow r.ma), acts := smapPut s.bdc.acts b (n, r.port), throttled := old } }
    if n = t.fld DCT_RD_CTL_THRESH then
      let t := { t with bdc := { t.bdc with throttled := smapPut t.bdc.throttled k t.tick } }
      let t := (t.setFlag DCT_STS_THROTTLED true).note 0x0068 140 (leBytes 2 b ++ leBytes 1 r.port)
      if r.port < 17 then t.planDeviation (t.maTarget r.ma) r.port else t
    else t

/-- The granules to repair (Table 11-4): DIRTY with a repair bit, and not failed in this harvest period. A repair needs the mover and the seal hasher. -/
def State.toRepair (s : State) : List Nat :=
  if s.flag DCT_HARV_CTL_HREPAIR_EN && !s.unitOut .hmover && !s.sealFenced then
    (s.gln.repair.map (·.1)).filter (fun g => decide (s.dstate g = .dirty) && !s.bdc.retryNext.contains g)
  else []

/-- The granules queued to flush. -/
def State.toFlush (s : State) : List Nat := if s.flag DCT_HARV_CTL_FLUSH_EN && !s.unitOut .hmover then s.per.flushQ.filter (fun g => decide (s.dstate g = .dirty)) else []

/-- The lowest set point with a STALE DRAM-side record, where retraining is enabled. -/
def State.toRetrain (s : State) : Option Nat :=
  if s.flag DCT_HARV_CTL_RETRAIN_EN && !s.unitOut .training then (List.range 8).find? (fun sp => decide (s.fld (dramRec sp) = 2) && decide (s.spRate sp ≠ 0)) else none

/-- Whether the scrubber runs (Table 11-4). -/
def State.scrubOn (s : State) : Bool := !s.unitOut .scrubber && s.flag DCT_HARV_CTL_SCRUB_EN && s.learned && s.flag CLN_CTL_VERIFY_SAVE

/-- A scrub pass is due (R334). -/
def State.scrubDue (s : State) : Bool :=
  s.scrubOn && (match s.bdc.scrubTick with | none => true | some t => decide (s.fld DCT_HARV_CTL_SCRUB_H * 3600000000 ≤ s.tick - t))

/-- Harvest DRAM work exists (R334). -/
def State.harvestWork (s : State) : Bool :=
  !s.toRepair.isEmpty || !s.toFlush.isEmpty || s.toRetrain.isSome || s.scrubDue || s.bdc.jobs.any (fun j => !j.read)

/-- The next granule is taken up: repairs first (R334). It is FLUSHING, and its sheaf covers the writes up to the stamp horizon. -/
def State.nextJob (s : State) : State :=
  if !s.harvestOn || s.trn.retrain.isSome || s.bdc.jobs.any (fun j => !j.read) then s
  else
    let pick : Option (Nat × Bool) := match s.toRepair, s.toFlush with
      | g :: _, _ => some (g, true)
      | [], g :: _ => some (g, false)
      | [], [] => none
    match pick with
    | none => s
    | some (g, rep) =>
      let t := s.setD g .flushing
      { t with bdc := { t.bdc with jobs := t.bdc.jobs ++ [⟨g, rep, t.horizon, false, false, [], [], false, none, 0⟩] } }

/-- The DRAM loop can hop to a set point within step 4 of Table 11-5: it is there, or its band record is VALID. -/
def State.hopReady (s : State) (sp : Nat) : Bool := decide (s.clk.dSp = sp) || bandValid (s.bandOf 1 sp)

/-- A lull retrain of a set point begins (R85, R338): the BDC holds the DRAM for it, with the mode registers of the stale set point, and the full steps run. -/
def State.retrainBegin (s : State) (sp : Nat) : State :=
  let t := ((s.takeDram 4).setFlag DCT_STS_HARVESTING true).setFlag DCT_STS_RETRAINING true
  (({ t with trn := { t.trn with retrain := some sp } } : State).runFrom false).applyModeRegs

/-- What harvest does next (R334): the next granule, or, with no repair or flush pending, a retrain, for which the DRAM loop hops while the BDC has the DRAM in self-refresh. -/
def State.harvestNext (s : State) : State :=
  if !s.harvestOn || s.trn.retrain.isSome || s.bdc.jobs.any (fun j => !j.read) || !s.toRepair.isEmpty || !s.toFlush.isEmpty then s.nextJob
  else match s.toRetrain with
    | none => s
    | some sp => if s.hopReady sp then (s.hopD sp).retrainBegin sp else s

/-- The sheaf of a granule in harvest takes its position: in the glean reserve for a repair, and in the swath, within its target (R267), for a flush. Its ears are in flight from then on (R344). Without room it waits for one. -/
def State.harvestPlace (s : State) (g : Nat) : State :=
  match s.bdc.jobs.find? (fun j => decide (j.g = g) && j.sheaf.isNone) with
  | none => s
  | some j =>
    let pos := if j.repair then s.takeGlean else if s.swathSheaves < s.swathTarget + 2 then none else s.allocSwath
    match pos with
    | none => s
    | some (a, t) => { t with bdc := { t.bdc with jobs := t.bdc.jobs.map (fun (x : HarvestJob) => if x.g = g then { x with sheaf := some a, ears := 0 } else x) } }

/-- A line that the glean/harvest mover has read (Table 11-4): a repair is checked under R97 and R182. -/
def State.harvestLine (s : State) (ma : Nat) : State :=
  match s.bdc.jobs.find? (fun j => !j.read) with
  | none => s
  | some j =>
    if maGranule ma ≠ j.g then s
    else
      let v := s.line ma
      let ls := smapPut j.lines (maLine ma % 16384) v
      let j' : HarvestJob := { j with lines := ls, read := decide (ls.length = 16384) }
      let t := { s with bdc := { s.bdc with jobs := s.bdc.jobs.map (fun x => if x.g = j.g then j' else x) } }
      let t := if j.repair then t.gleanVerify ⟨ma, t.horizon, v.1, v.2⟩ false else t
      if j'.read then (if j.repair then t else t.harvestPlace j.g).harvestNext else t

/-- The next present granule to scrub after one; none at the end of the pass. -/
def State.nextScrub (s : State) (g : Nat) : Option Nat := s.presentGranules.find? (fun x => decide (g < x))

/-- A line that the scrubber has read (R333, Table 11-12): a mismatch is counted and recorded, and the pointer moves on once every line of its granule has been read. It pauses while a retrain runs (R334). -/
def State.scrubLine (s : State) (ma : Nat) : State :=
  let g := s.fld DCT_SCRUB_PTR
  if !s.scrubOn || s.trn.retrain.isSome || maGranule ma ≠ g then s
  else
    let v := s.line ma
    let t := if s.predict ma v.1 ≠ v.2 then (s.bump DCT_SCRUB_CNT_BAD 1).note 0x006A 142 (leBytes 8 ma) else s
    let seen := smapPut t.bdc.scrubSeen (maLine ma % 16384) true
    if seen.length < 16384 then { t with bdc := { t.bdc with scrubSeen := seen } }
    else
      let t := { t with bdc := { t.bdc with scrubSeen := [] } }
      match t.nextScrub g with
      | some n => t.setFld DCT_SCRUB_PTR n
      | none => (({ t with bdc := { t.bdc with scrubTick := some t.tick } } : State).setFld DCT_SCRUB_PTR 0).bump DCT_SCRUB_CNT_PASSES 1

/-- A line that the seal hasher has read of a repaired granule (R335): the second read, independent of the mover's. -/
def State.hasherLine (s : State) (ma : Nat) : State :=
  match s.bdc.jobs.find? (fun j => decide (j.g = maGranule ma) && j.repair && j.read && !j.rechecked) with
  | none => s
  | some j =>
    let ls := smapPut j.again (maLine ma % 16384) (s.line ma)
    let j' : HarvestJob := { j with again := ls, reread := decide (ls.length = 16384) }
    { s with bdc := { s.bdc with jobs := s.bdc.jobs.map (fun x => if x = j then j' else x) } }

/-- A line that a restore mover has been granted (R217, Tables 7-6, 7-9): the movers run, and the present granules below its own are done. -/
def State.restoreLine (s : State) (ma : Nat) : State :=
  if !s.flag SAV_STS_RESTORING then s
  else
    let done := (s.presentGranules.filter (fun g => decide (g < maGranule ma))).length
    (s.setFld SAV_STS_STAGE 6).setFld SAV_RST_DONE (max (s.fld SAV_RST_DONE) (min done 0xFFFFF))

/-- BDC_PORT_REQUEST (R325, R326, R331): a request outside its port's modes is refused at the port; else it joins the others, and, unless all are to wait, the most urgent is granted. -/
def execBdcPortRequest (port : Fin 21) (line : BitVec 33) (wait : Bool) (s : State) : Host.Outcome State Fault Refusal :=
  if !s.portActive port.val then .next s
  else
    let t := { s with bdc := { s.bdc with reqs := s.bdc.reqs ++ [⟨port.val, line.toNat * 64, s.tick, false, false⟩] } }
    if wait then .next t
    else match t.bestReq (t.bdc.reqs.filter (fun r => !t.actHeld r)) with
      | none => .next t
      | some r =>
        let u := ({ t with bdc := { t.bdc with reqs := t.bdc.reqs.erase r } } : State).countAct r
        .next (if r.port = 17 then u.harvestLine r.ma else if r.port = 18 then u.hasherLine r.ma else if r.port = 19 then u.scrubLine r.ma
          else if r.port < 17 then u.restoreLine r.ma else u)

/-- BDC_REQUEST_LATE (R326): the oldest waiting request that reaches level 3 other than through a split. -/
def execBdcRequestLate (s : State) : Host.Outcome State Fault Refusal :=
  match s.bdc.reqs.find? (fun r => !r.late && !r.split && decide (s.twoT r.port ≤ s.tick - r.tick)) with
  | none => .next s
  | some r =>
    let t := { s with bdc := { s.bdc with reqs := s.bdc.reqs.map (fun (x : BdcReq) => if x = r then { x with late := true } else x) } }
    if 17 ≤ r.port then .next (t.bump DCT_CNT_LATE_OTHER 1)
    else
      let t := t.bump DCT_CNT_LATE_RT 1
      if t.sys.mode = .save && !t.bdc.lateNoted then
        .next (({ t with bdc := { t.bdc with lateNoted := true } } : State).note 0x0067 140 (leBytes 1 r.port ++ leBytes 1 (t.maTarget r.ma % 2)))
      else .next t

/-- The highest count of a list of bank entries, with what it carries; the first of equals. -/
def topCount (m : SMap (Nat × Nat)) : Nat × Nat × Nat :=
  m.foldl (fun acc e => if acc.1 < e.2.1 then (e.2.1, e.1, e.2.2) else acc) (0, 0, 0)

/-- RD_WINDOW_END (R331): the highest internal count and its port are kept, the counters are zeroed and throttles end. -/
def execRdWindowEnd (s : State) : Host.Outcome State Fault Refusal :=
  if !s.coreDomains then .next s
  else
    let (n, _, p) := topCount s.bdc.acts
    let t := { s with bdc := { s.bdc with acts := [], throttled := [] } }
    .next (((t.setFld DCT_RD_INT_MAX (min n 0xFFFFF)).setFld DCT_RD_INT_PORT p).setFlag DCT_STS_THROTTLED false)

/-- Count a host ACT in service and lull (R332). -/
def State.countHostAct (s : State) (b : Nat) : State :=
  if s.inMode [.service, .lull] then
    { s with bdc := { s.bdc with hostActs := smapPut s.bdc.hostActs b (smapGet (fun _ => 0) s.bdc.hostActs b + 1) } }
  else s

/-- HOST_ACT_HIGH (R332): at a window boundary the highest host count is kept with its bank entry and the counts start anew; at or above THRESH it is recorded. -/
def execHostActHigh (s : State) : Host.Outcome State Fault Refusal :=
  if !s.coreDomains then .next s
  else
    let (n, b, _) := topCount (s.bdc.hostActs.map (fun e => (e.1, (e.2, 0))))
    let t := { s with bdc := { s.bdc with hostActs := [] } }
    let t := (t.setFld DCT_RD_HOST_MAX (min n 0xFFFFF)).setFld DCT_RD_HOST_BANK b
    .next (if t.fld DCT_RD_CTL_THRESH ≤ n then t.note 0x0069 3 (leBytes 2 b ++ leBytes 4 n) else t)

/-- A retrain of a stale set point ends, whole or not (R85, R336, R344): its lines are back, and the DRAM loop and the DRAM's mode registers return to the active set point (Table 11-6 step 6). -/
def State.retrainEnd (s : State) : State :=
  match s.trn.retrain with
  | none => s
  | some _ =>
    let t : State := { s.trainHalt with trn := { s.trainHalt.trn with retrain := none, mrSp := some (s.fld TRN_STS_ACTIVE_SP) } }
    ((t.setFlag DCT_STS_RETRAINING false).setFlag TRN_STS_GATHERING false).hopD (t.fld TRN_STS_ACTIVE_SP)

/-- HARVEST_ENTRY_CHECK (R333, R334, R338): with DRAM work and permission the BDC takes the DRAM; a retrain starts only with no repair or flush pending, at the stale set point's rate. A DRAM-side loopback stops (R68). A DRAM loop whose hop needs a full search leaves the entry to a later check (R356). -/
def execHarvestEntryCheck (s : State) : Host.Outcome State Fault Refusal :=
  if !s.harvestAllowed || !s.harvestWork || s.flag DCT_STS_OWNED then .next s
  else
    let only := s.toRepair.isEmpty && s.toFlush.isEmpty
    let t := if s.hbp.loopDram then
        ({ s with hbp := { s.hbp with loopDram := false } } : State).setFlag HBP_LOOP_STS_BUSY s.hbp.loopHost
      else s
    let t := { t with bdc := { t.bdc with retryNext := [] } }
    let sp := if only then (t.toRetrain).getD (t.fld TRN_STS_ACTIVE_SP) else t.fld TRN_STS_ACTIVE_SP
    let t := t.hopD sp
    if !t.flag CLK_STS_D_LOCK then .next t
    else
      match only, t.toRetrain with
      | true, some sp => .next ((t.bump DCT_HARV_CNT_PERIODS 1).retrainBegin sp)
      | _, _ => .next ((((t.takeDram 3).setFlag DCT_STS_HARVESTING true).bump DCT_HARV_CNT_PERIODS 1).nextJob)

/-- Harvest reads stop (Table 11-6, steps 1 and 2): granules whose read has not completed return to DIRTY, the scrubbed granule will be scanned again whole (R333), a window read in progress is refused (R345), and a retrain writes its lines back and its results are discarded. -/
def State.harvestStop (s : State) : State :=
  let t := (s.bdc.jobs.filter (fun j => !j.read)).foldl (fun (u : State) j => if u.dstate j.g = .flushing then u.setD j.g .dirty else u) s
  let t := { t with bdc := { t.bdc with jobs := t.bdc.jobs.filter (·.read), reqs := t.bdc.reqs.filter (fun r => decide (r.port < 17)), window := none, scrubSeen := [] } }
  let t := if s.bdc.window.isSome then t.setFlag DCT_WIN_STS_REFUSED true else t
  t.retrainEnd

/-- At a freeze the harvest requesters stop, and every FLUSHING granule returns to DIRTY, its read complete or not (R143, R325, Table 5-5); the BDC keeps the DRAM. -/
def State.harvestFreeze (s : State) : State :=
  let t := s.bdc.jobs.foldl (fun (u : State) j => if u.dstate j.g = .flushing then u.setD j.g .dirty else u) s.harvestStop
  ({ t with bdc := { t.bdc with jobs := [] } } : State).setFlag DCT_STS_HARVESTING false

/-- Work that harvest can do without giving the DRAM up first: all of R334, but for a retrain whose hop needs a full search. -/
def State.workHere (s : State) : Bool :=
  !s.toRepair.isEmpty || !s.toFlush.isEmpty || s.scrubDue || s.bdc.jobs.any (fun j => !j.read) || (s.toRetrain.map s.hopReady).getD false

/-- HARVEST_RETURN (R334, R337, R344): with no DRAM work left, or where harvest may no longer run, the BDC returns the DRAM itself; not in a retrain that goes on, nor in a handback. -/
def execHarvestReturn (s : State) : Host.Outcome State Fault Refusal :=
  if s.flag DCT_STS_HARVESTING && s.bdc.handbackWait.isNone && (!s.harvestAllowed || (!s.workHere && s.trn.retrain.isNone)) then .next s.harvestStop.giveDram
  else .next s

/-- The data and check lines that a harvest job has read. -/
def jobData (j : HarvestJob) : SMap LineData := (j.lines.map (fun e => (e.1, e.2.1))).filter (fun e => decide (e.2 ≠ 0))

/-- The check bytes that a harvest job has read. -/
def jobChk (j : HarvestJob) : SMap CheckBytes := j.lines.map (fun e => (e.1, e.2.2))

/-- The data that the seal hasher has read of a job's granule. -/
def againData (j : HarvestJob) : SMap LineData := (j.again.map (fun e => (e.1, e.2.1))).filter (fun e => decide (e.2 ≠ 0))

/-- The digest of the seal hasher's read agrees with the one of the mover's (R171, R335). Equal reads have equal digests. -/
def jobAgrees (j : HarvestJob) : Bool :=
  decide (againData j = jobData j) || decide (granuleDigest (againData j) = granuleDigest (jobData j))

/-- HARVEST_RECHECK (R335): once the seal hasher has read the granule through port 18, its digest agrees with the mover's, or the repair is void and the granule is tried again at the next harvest. `agree` is false where a fault corrupted a read (R66). -/
def execHarvestRecheck (g : Fin 0x80000) (agree : Bool) (s : State) : Host.Outcome State Fault Refusal :=
  match s.bdc.jobs.find? (fun j => decide (j.g = g.val) && j.repair && j.read && j.reread && !j.rechecked) with
  | none => .next s
  | some j =>
    if !s.portActive 18 then .next s
    else if agree && jobAgrees j then
      .next (({ s with bdc := { s.bdc with jobs := s.bdc.jobs.map (fun (x : HarvestJob) => if x.g = j.g then { x with rechecked := true } else x) } } : State).harvestPlace j.g)
    else
      let t := s.setD j.g .dirty
      let t := { t with bdc := { t.bdc with jobs := t.bdc.jobs.filter (fun x => decide (x.g ≠ j.g)), retryNext := j.g :: t.bdc.retryNext } }
      .next ((t.report .harvestRecheck 138 0 j.g).harvestNext)

/-- Write the check sheaf of a harvest flush in the swath (R153, R155). -/
def State.writeCheckSwath (s : State) (c : Nat) (gs : List (Nat × SMap CheckBytes)) : Option State :=
  (s.allocSwath).map (fun x =>
    let base := ((x.2.sheaf (x.2.cmapOf c).sheaf).map (·.chk)).getD []
    let chk := gs.foldl (fun m e => e.2.foldl (fun m' l => smapSet (fun _ => 0) m' (groupLine e.1 l.1) l.2) m) base
    (x.2.putSheaf x.1 ⟨6, 0, [], 0, [], c, 0, 0, 0, [], false, [], chk⟩).setCmap c ⟨3, false, 0, x.1⟩)

/-- HARVEST_SHEAF_CONFIRMED (R150, R153, R173, R267, Table 11-4): a repair sheaf makes its granule CLEAN with KIND GLEAN once it is rechecked; a flush makes it CLEAN with KIND HARVEST, within the swath target. -/
def execHarvestSheafConfirmed (g : Fin 0x80000) (s : State) : Host.Outcome State Fault Refusal :=
  match s.bdc.jobs.find? (fun j => decide (j.g = g.val) && j.read && (!j.repair || j.rechecked)) with
  | none => .next s
  | some _ =>
    -- a sheaf that has found no room, or has lost its place to a program failure, takes one now
    let s := s.harvestPlace g.val
    match s.bdc.jobs.find? (fun j => decide (j.g = g.val)) with
    | none => .next s
    | some j =>
    let s := { s with bdc := { s.bdc with jobs := s.bdc.jobs.filter (fun x => decide (x.g ≠ j.g)) } }
    if s.dstate j.g ≠ .flushing then .next s
    else if j.repair then
      match j.sheaf with
      | none => .next (s.setD j.g .dirty)
      | some a =>
        let t := s.gleanSheaf a j.g j.stamp false true (jobData j) (jobChk j)
        (match t.writeCheck (j.g / 4) 4 2 [(j.g, jobChk j)] with
         | none => .next (t.setD j.g .dirty)
         | some t => .next (((t.setD j.g .clean).setSmap j.g ⟨2, false, 0, a⟩).landed 17))
    else match j.sheaf with
      | none => .next (s.setD j.g .dirty)
      | some a =>
        let t := s.putSheaf a ⟨5, 0, [], 0, [], j.g, 0, 0, 0, [], false, jobData j, []⟩
        (match t.writeCheckSwath (j.g / 4) [(j.g, jobChk j)] with
         | none => .next (t.setD j.g .dirty)
         | some t => .next ((t.setD j.g .clean).setSmap j.g ⟨3, false, 0, a⟩))

/-- LULL_RETRAIN_DONE (R80, R85): the record becomes VALID or FAILED, and the DRAM returns to self-refresh at the active set point, or the harvest goes on with the DRAM work that is left (R334). A pass of the active set point leaves it ready. -/
def execLullRetrainDone (pass : Bool) (failAt : TrainFailAt) (results : List (Fin 0x80000 × Word)) (s : State) : Host.Outcome State Fault Refusal :=
  match s.trn.retrain with
  | none => .next s
  | some sp =>
    let t := s.retrainEnd
    let t := if pass then
        (let u := t.trainPass sp results
         if sp = u.fld TRN_STS_ACTIVE_SP then u.setFlag TRN_STS_DRAM_READY true else u)
      else t.trainFail sp failAt
    let t := { t with bdc := { t.bdc with rows := [] } }
    .next (if t.harvestAllowed && t.workHere && s.bdc.handbackWait.isNone then ((t.takeDram 3).setFlag DCT_STS_HARVESTING true).harvestNext else t.giveDram)

/-- DCT_WINDOW_READ (R345): the write of DCT_WIN_ADDR_HI starts the read; without harvest holding the DRAM it is refused. -/
def execDctWindowRead (v : Word) (s : State) : Host.Outcome State Fault Refusal :=
  if !s.coreDomains then .next s
  else
    let t := s.setFld DCT_WIN_ADDR_HI v.toNat
    let t := (t.setFlag DCT_WIN_STS_READY false).setFlag DCT_WIN_STS_REFUSED false
    if !t.portActive 20 then .next (t.setFlag DCT_WIN_STS_REFUSED true)
    else .next { t with bdc := { t.bdc with window := some ((t.fld DCT_WIN_ADDR_HI * 2 ^ 32 + t.fld DCT_WIN_ADDR_LO * 64) / 64) } }

/-- DCT_WINDOW_READ_DONE (R331, R345): the request of port 20 is granted, its ACT counted and throttled like any requester's, and the line and its check bytes stand in the window registers. -/
def execDctWindowReadDone (s : State) : Host.Outcome State Fault Refusal :=
  match s.bdc.window with
  | none => .next s
  | some k =>
    let r : BdcReq := ⟨20, k * 64, s.tick, false, false⟩
    if s.actHeld r then .next s
    else
      let v := s.line (k * 64)
      let t := ({ s with bdc := { s.bdc with window := none } } : State).countAct r
      .next (((t.setBytes 0xD080 (leBytes 64 v.1.toNat) 16).setBytes 0xD050 (leBytes 16 v.2.toNat) 4).setFlag DCT_WIN_STS_READY true)

/-- The end of a handback (Table 11-6, step 7): its time is recorded and the DRAM is the HBP's. -/
def State.handbackEnd (s : State) (ns : Nat) : State :=
  let t := { s with bdc := { s.bdc with handbackWait := none } }
  (((t.giveDram).setFld DCT_HANDBACK_LAST ns).setFld DCT_HANDBACK_MAX (max (t.fld DCT_HANDBACK_MAX) ns))

end Sys2Proof.Machine
end

