-- ==== Sys2Proof/Machine/Clock.lean ====
section
/-! DEFINITION. The clock unit's own operations: band records, locks, hops, host clock loss and the clock discontinuity (R347 to R366). -/

namespace Sys2Proof.Machine

open Reg

/-- PLL_H begins to lock at the active set point (R356): from its band record where that is VALID, else by a full search. -/
def State.lockH (s : State) : State :=
  let st : LockSt := if bandValid (s.bandOf 0 (s.fld TRN_STS_ACTIVE_SP)) then .loading else .searching
  (({ s with clk := { s.clk with h := st } } : State).setFlag CLK_STS_H_LOCK false).searchFlag

/-- The DRAM loop begins to lock at the active set point (R352, R356). -/
def State.lockD (s : State) : State := s.lockDAt (s.fld TRN_STS_ACTIVE_SP)

/-- The flash loop searches its band at power-up (R352, R355). -/
def State.lockF (s : State) : State := (({ s with clk := { s.clk with f := .searching } } : State).setFlag CLK_STS_F_LOCK false).searchFlag

/-- Ranks all in self-refresh, by the host or by the BDC. -/
def State.allSelfRef (s : State) : Bool :=
  (List.range 4).all (fun t => s.hbp.selfRef.getLsbD t || (decide (t % 2 = 1) && !s.flag HBP_GEOM_RANK2))

/-- Put every rank in self-refresh. -/
def State.enterSelfRef (s : State) : State := { s with hbp := { s.hbp with selfRef := 15 } }

/-- Every rank leaves self-refresh. -/
def State.leaveSelfRef (s : State) : State := { s with hbp := { s.hbp with selfRef := 0 } }

/-- The DRAM-side run of the active set point starts once PLL_H is locked (R79, R502). -/
def State.trainOrWait (s : State) : State :=
  if s.hReady then s.trainRun
  else ({ s with trn := { s.trn with hop := true } } : State).setFlag TRN_STS_DRAM_READY false

/-- Modes in which a host clock loss is only recorded (R351). -/
def State.clockRecordOnly (s : State) : Bool := s.inMode [.powerUp, .save, .shutDown]

/-- A DRAM-side run that an unexpected loss abandons (R365): its record becomes STALE. -/
def State.lossAbandon (s : State) : State :=
  if s.fld TRN_STS_STEP = 0 then s
  else (s.setFld (dramRec (s.trn.retrain.getD (s.fld TRN_STS_ACTIVE_SP))) 2).trainHalt

/-- Whether an end of the host clock's edges is an expected stop (R351): in service, lull and keeper mode, with every rank in self-refresh. -/
def State.stopExpected (s : State) : Bool := s.allSelfRef && s.inMode [.service, .lull, .keeper]

/-- The host clock's edges end (R351, R360): an expected stop, or an unexpected loss, in which PLL_H coasts. In power-up, save and shut-down the loss is recorded and nothing else is done. -/
def State.clockGone (s : State) : State :=
  if s.sys.mode = .off || !s.clk.present then { s with clk := { s.clk with present := false } }
  else
    let t := { s with clk := { s.clk with present := false, timedOut := false } }
    if t.clockRecordOnly then t.note 0x006F 1 (leBytes 1 (modeCode t.sys.mode))
    else if t.stopExpected then
      let t := { t with clk := { t.clk with h := .idle } }
      ((t.setFlag CLK_STS_H_STOPPED true).setFlag CLK_STS_H_LOCK false).searchFlag
    else
      let t := (((t.setFlag CLK_STS_COAST true).setFlag CLK_STS_SLEWING false).setFlag CLK_STS_H_LOCK false).bump CLK_CNT_LOSSES 1
      t.lossAbandon

/-- Steps 3 and 4 of Table 12-5: the BDC puts every rank in self-refresh on the coasting clock, and PLL_H leaves coasting with its lock lost. -/
def State.discontinuityEntry (s : State) : State :=
  let t := ((s.takeDram 5).enterSelfRef).setFlag CLK_STS_COAST false
  (({ t with clk := { t.clk with h := .idle } } : State).setFlag CLK_STS_H_LOCK false).searchFlag

/-- A phase step of at most 1/8 tCK (Table 12-4), the step in 0.1 ps and the rate in MT/s. -/
def smallStep (step rate : Nat) : Bool := decide (step * 8 * rate ≤ 20000000)

/-- What a lock of PLL_H lets go on (R78, R344, R502): the DRAM clock moves back to it, an SP_GO's training in attach and rebound; in lull the set point is ready where its DRAM-side record is VALID. -/
def State.hLocked (s : State) : State :=
  let t := (((s.setFlag CLK_STS_H_LOCK true).setFlag CLK_STS_H_STOPPED false)).clockBack
  let u := ({ t with trn := { t.trn with hop := false } } : State)
  if !t.trn.hop then u
  else if t.sys.mode = .attach && (t.sys.phase = .train || t.sys.phase = .learn) || t.sys.mode = .rebound then u.trainRun
  else if t.sys.mode = .lull then u.setFlag TRN_STS_DRAM_READY (decide (t.fld (dramRec (t.fld TRN_STS_ACTIVE_SP)) = 1))
  else u

/-- SLEW_DONE (R361). -/
def execSlewDone (s : State) : Host.Outcome State Fault Refusal := .next (s.setFlag CLK_STS_SLEWING false)

/-- HOST_CLOCK_STOP (R351). -/
def execHostClockStop (s : State) : Host.Outcome State Fault Refusal := .next s.clockGone

/-- HOST_CLOCK_LOSS (R351, R360). -/
def execHostClockLoss (s : State) : Host.Outcome State Fault Refusal := .next s.clockGone

/-- HOST_CLOCK_RESTART (R351): PLL_H relocks from the active set point's band record. -/
def execHostClockRestart (s : State) : Host.Outcome State Fault Refusal :=
  if s.clk.present || s.flag CLK_STS_COAST then .next s
  else
    let t := { s with clk := { s.clk with present := true } }
    .next (if t.sys.mode = .off then t else t.lockH)

/-- HOST_CLOCK_RETURN (R361, R362, R364, R365): within 20 µs of the loss the phase step is judged; a small step is slewed out and forwarding resumes, a larger one is a clock discontinuity. After the 20 µs point PLL_H relocks without a measurement, and so it does where it had not locked before the loss (DEDUCED, log entry 105). In power-up, save and shut-down a coasting PLL_H goes on supplying the DRAM (R351, R365). -/
def execHostClockReturn (step : Fin 32768) (late : Bool) (duration : BitVec 16) (s : State) : Host.Outcome State Fault Refusal :=
  if s.clk.present || s.sys.mode = .off then .next s
  else if s.clockRecordOnly && s.flag CLK_STS_COAST then .next { s with clk := { s.clk with present := true } }
  else
    let t := { s with clk := { s.clk with present := true } }
    let t := if t.flag CLK_STS_COAST || t.clk.timedOut then t.setFld CLK_COAST_LOSS duration.toNat else t
    if !t.flag CLK_STS_COAST then .next t.lockH
    else if t.clk.h ≠ .locked then .next (t.setFlag CLK_STS_COAST false).lockH
    else
      let t := (t.setFlag CLK_COAST_SIGN late).setFld CLK_COAST_STEP step.val
      if smallStep step.val (t.spRate (t.fld TRN_STS_ACTIVE_SP)) then
        .next ((((t.setFlag CLK_STS_COAST false).setFlag CLK_STS_SLEWING true).bump CLK_CNT_RETURNS 1).hLocked)
      else
        let t := ((t.setFlag CLK_STS_DISCONT true).bump CLK_CNT_DISCONT 1).report .clockDiscontinuity 1 0 0
        .next (t.discontinuityEntry).lockH

/-- The band record that a full search writes (Table 12-3); DIV is 1 up to 6400 MT/s (Table 12-2). -/
def bandWord (rate : Nat) (band : BitVec 6) (fine : BitVec 10) (temp : Byte) : Word :=
  BitVec.ofNat 32 (2 ^ 30 + band.toNat * 2 ^ 24 + fine.toNat * 2 ^ 14 + (if rate ≤ 6400 then 2 ^ 13 else 0) + temp.toNat)

/-- A full search of PLL_H (`lp` 0) or of the DRAM loop (1) has ended in lock: the new VALID record is written through a TRAINING ledger record, and the search is counted (R356). -/
def State.searched (s : State) (lp sp : Nat) (band : BitVec 6) (fine : BitVec 10) (temp : Byte) : State :=
  let w := bandWord (s.spRate sp) band fine temp
  let t := { s with clk := { s.clk with band := smapSet (fun _ => 0) s.clk.band (lp * 8 + sp) w } }
  (t.bump CLK_CNT_SEARCHES 1).ledgerTraining sp lp

/-- The loop that is loading or searching locks (R350 to R356). -/
def State.pllLocked (s : State) (loop : PllLoop) (band : BitVec 6) (fine : BitVec 10) (temp : Byte) : State :=
  let busy := fun (x : LockSt) => decide (x = .loading) || decide (x = .searching)
  match loop with
  | .h =>
    if !busy s.clk.h || !s.clk.present then s
    else
      let t := { s with clk := { s.clk with h := .locked } }
      let t := if s.clk.h = .searching then t.searched 0 (t.fld TRN_STS_ACTIVE_SP) band fine temp else t
      t.searchFlag.hLocked
  | .d =>
    if !busy s.clk.d then s
    else
      let t := { s with clk := { s.clk with d := .locked } }
      let t := if s.clk.d = .searching then t.searched 1 t.clk.dSp band fine temp else t
      (t.setFlag CLK_STS_D_LOCK true).searchFlag
  | .f =>
    if !busy s.clk.f then s
    else (({ s with clk := { s.clk with f := .locked } } : State).setFlag CLK_STS_F_LOCK true).searchFlag

/-- PLL_LOCK_TIMEOUT (R356): no lock 4 µs after the band record was loaded; the full search runs. -/
def execPllLockTimeout (loop : PllLoop) (s : State) : Host.Outcome State Fault Refusal :=
  match loop with
  | .h => if s.clk.h = .loading then .next (({ s with clk := { s.clk with h := .searching } } : State).searchFlag) else .next s
  | .d => if s.clk.d = .loading then .next (({ s with clk := { s.clk with d := .searching } } : State).searchFlag) else .next s
  | .f => if s.clk.f = .loading then .next (({ s with clk := { s.clk with f := .searching } } : State).searchFlag) else .next s

/-- PLL_NO_LOCK (R356, R500, R502): the search ends without lock; the loop does not try again by itself. -/
def execPllNoLock (loop : PllLoop) (s : State) : Host.Outcome State Fault Refusal :=
  match loop with
  | .h =>
    if s.clk.h ≠ .searching then .next s
    else
      let t := { s with clk := { s.clk with h := .failed }, trn := { s.trn with hop := false } }
      .next (t.searchFlag.report .pllNoLock 1 (t.fld TRN_STS_ACTIVE_SP) 0)
  | .d =>
    if s.clk.d ≠ .searching then .next s
    else .next ((({ s with clk := { s.clk with d := .failed } } : State).searchFlag).report .pllNoLock 45 (0x10 + s.clk.dSp) 0)
  | .f =>
    if s.clk.f ≠ .searching then .next s
    else .next ((({ s with clk := { s.clk with f := .failed } } : State).searchFlag).report .pllNoLock 44 0x20 0)

/-- Whether a rate is one of R354: 3,200 to 8,000 in multiples of 100, or 0. -/
def userRateOk (v : Nat) : Bool := decide (v = 0) || (decide (3200 ≤ v) && decide (v ≤ 8000) && decide (v % 100 = 0))

/-- Write a user set point (R354): refused for the active one or for a rate outside the range; an accepted write sets its four records to NONE. -/
def State.writeUserSp (s : State) (u : Nat) (v : Word) : State :=
  let r := v.toNat % 2 ^ 13
  let sp := u + 5
  if s.fld TRN_STS_ACTIVE_SP = sp || !userRateOk r then s
  else
    let t := (((s.setFld (CLK_SP_USER u) r).setFld (hostRec sp) 0).setFld (dramRec sp) 0)
    { t with clk := { t.clk with band := smapDel (smapDel t.clk.band sp) (8 + sp) },
             trn := { t.trn with results := t.trn.results.filter (fun e => decide (e.1 / 2 ^ 16 ≠ sp)) } }

/-- CLK_SP_USER_WRITE (R354). -/
def execClkSpUserWrite (u : Fin 3) (v : Word) (s : State) : Host.Outcome State Fault Refusal :=
  if !s.coreDomains then .next s else .next (s.writeUserSp u.val v)

/-- Whether an SP_GO is accepted (R78, R354, R365). -/
def State.spGoOk (s : State) : Bool :=
  ((s.sys.mode = .attach && (s.sys.phase = .train || s.sys.phase = .learn)) || s.inMode [.rebound, .lull])
  && decide (s.spRate (s.fld TRN_CTL_SP_REQ) ≠ 0) && !s.flag CLK_STS_COAST && !s.flag CLK_STS_SLEWING && !s.flag CLK_STS_DISCONT

/-- An SP_GO (R78, R84, R98, R502): refused, or the set point changes, a run in progress is abandoned, a learning pass ends, PLL_H and the DRAM loop hop, and what follows the lock waits for it; DRAM_READY is 0 till then. -/
def State.spGo (s : State) : State :=
  if !s.spGoOk then s.setFlag TRN_STS_SP_REFUSED true
  else
    let sp := s.fld TRN_CTL_SP_REQ
    let t := if s.trn.retrain.isSome then s.trainAbandon.harvestStop.giveDram else s.trainAbandon
    let t := (t.learnStop 6).setFld TRN_STS_ACTIVE_SP sp
    (t.setLat sp).lockD.lockH.trainOrWait

/-- SP_GO (R78): the write of TRN_CTL; DRAM_FULL and SP_REQ take the word first. -/
def execSpGo (v : Word) (s : State) : Host.Outcome State Fault Refusal :=
  if !s.coreDomains then .next s
  else
    let t := (s.setFlag TRN_CTL_DRAM_FULL (v.getLsbD 15)).setFld TRN_CTL_SP_REQ (natBits v.toNat 8 3)
    .next (if v.getLsbD 0 then t.spGo else t)

end Sys2Proof.Machine
end

