-- ==== Sys2Proof/Machine/Power.lean ====
section
/-! DEFINITION. The power supervisor's own operations: rails, stages, the power path, reset outputs, the power table and the pack's arithmetic (R367 to R397, R468, R469). -/

namespace Sys2Proof.Machine

open Reg

/-- The stage of a rail (Table 13-4): rails 0 to 15 are PMIC rails, 16 to 32 the load switches. -/
def railStage (r : Nat) : Nat :=
  if r ≤ 1 then 0 else if r ≤ 3 then 1 else if r ≤ 6 then 2 else if r = 7 then 3
  else if r ≤ 9 then 4 else if r ≤ 11 then 5 else if r ≤ 13 then 6 else 7

/-- A persistence-class rail (Table 13-4). -/
def railPersist (r : Nat) : Bool := decide (r ≤ 13)

/-- A DRAM rail (Table 13-4). -/
def railDram (r : Nat) : Bool := decide (7 ≤ r ∧ r ≤ 11)

/-- The fault source of a rail or load switch (Table 14-2). -/
def railSource (r : Nat) : Nat := if r < 16 then 0x100 + r else 0x110 + (r - 16)

/-- The rail in a qualifier: [5] a load switch, [4:0] its number (R500). -/
def railQual (r : Nat) : Nat := if r < 16 then r else 0x20 + (r - 16)

/-- A rail exists when the power table gives it a voltage; load switches exist (R374). -/
def State.railExists (s : State) (r : Nat) : Bool :=
  if r < 16 then decide (s.fld (PWR_RAIL_CFG_SET_MV r) ≠ 0) else decide (r < 33)

/-- The existing rails of a stage, as a bit set. -/
def State.stageRails (s : State) (st : Nat) : BitVec 33 :=
  (List.range 33).foldl (fun acc r => if s.railExists r && railStage r == st then acc ||| (1#33 <<< r) else acc) 0

/-- Set or clear a rail's good bit. -/
def State.setRailGood (s : State) (r : Nat) (b : Bool) : State :=
  if r < 16 then s.setBit PWR_RAIL_STS r b else s.setBit PWR_FSW_STS (r - 16) b

/-- Set a rail's bit in PWR_RAIL_FAIL or PWR_FSW_FAIL. -/
def State.setRailFail (s : State) (r : Nat) : State :=
  if r < 16 then s.setBit PWR_RAIL_FAIL r true else s.setBit PWR_FSW_FAIL (r - 16) true

/-- The action of a rail (Table 13-7); RETRY is not permitted on a persistence rail, which takes GROUP in its place. -/
def State.railAct (s : State) (r : Nat) : Nat :=
  let a := if r < 14 then s.fld (PWR_RAIL_CFG_ACT r) else if r < 16 then s.fld (PWR_RAIL_CFG_ACTX (r - 14)) else s.fld PWR_FSW_CFG_ACT
  if railPersist r && a == 1 then 2 else a

/-- A bit of a rail set. -/
def railIn (b : BitVec 33) (r : Nat) : Bool := b.getLsbD r

/-- The rail set of one rail. -/
def railBit (r : Nat) : BitVec 33 := 1#33 <<< r

/-- Raise the enables of every existing rail of a stage together (R380); rails that are good already stay as they are. -/
def State.raiseStage (s : State) (st : Nat) : State :=
  let rails := s.stageRails st
  let good := (List.range 33).foldl (fun acc r => if s.railGood r then acc ||| railBit r else acc) 0
  let wait := rails &&& ~~~good
  let t := { s with pwr := { s.pwr with en := s.pwr.en ||| rails, waiting := wait, failed := s.pwr.failed &&& ~~~rails } }
  (t.setFld PWR_SEQ_STS_STATE 1).setFld PWR_SEQ_STS_STAGE st

/-- Lower the enables of every rail of a stage together (R384); the rails that were on are then awaited until discharged. The stage-5 enables are the DRAM point (R385). -/
def State.lowerStage (s : State) (st : Nat) : State :=
  let rails := s.stageRails st
  let on := rails &&& s.pwr.en
  let t := { s with pwr := { s.pwr with en := s.pwr.en &&& ~~~rails, waiting := on, lowest := st,
                                        dramPoint := s.pwr.dramPoint || decide (st ≤ 5) } }
  ((List.range 33).foldl (fun (u : State) r => if railIn rails r then u.setRailGood r false else u) t).setFld PWR_SEQ_STS_STAGE st

/-- Lower the enable of one rail. -/
def State.dropRail (s : State) (r : Nat) : State :=
  ({ s with pwr := { s.pwr with en := s.pwr.en &&& ~~~(railBit r) } } : State).setRailGood r false

/-- Raise the enable of one rail. -/
def State.raiseRail (s : State) (r : Nat) : State := { s with pwr := { s.pwr with en := s.pwr.en ||| railBit r } }

/-- The power path switches to feed B (R371): GATE_A off and GATE_B on, unless feed B is above 13.6 V, which holds GATE_B off (Table 13-1). -/
def State.switchToB (s : State) : State :=
  ((s.setFlag PWR_FEED_STS_GATE_A false).setFlag PWR_FEED_STS_GATE_B (!s.flag PWR_FEED_STS_B_OV)).setFlag PWR_FEED_STS_SWITCHED true

/-- Whether every existing persistence rail is good (R389). -/
def State.persistGood (s : State) : Bool := (List.range 14).all (fun r => !s.railExists r || s.railGood r)

/-- The lowest stage with an existing persistence rail that is not good; 8: none (R389). -/
def State.badStage (s : State) : Nat :=
  (List.range 14).foldl (fun m r => if s.railExists r && !s.railGood r then min m (railStage r) else m) 8

/-- The stage from which rebound sequences on again (R388, R389): the lowest that shut-down turned off or that holds a persistence rail that is not good; 8: none. -/
def State.reseqStage (s : State) : Nat := min s.pwr.lowest s.badStage

/-- GATE_B is on where feed B is to carry VBUS, or stands as GATE_A's opposite, unless feed B is above 13.6 V (Tables 13-1, 13-2). -/
def State.gateBOn (s : State) : State := s.setFlag PWR_FEED_STS_GATE_B (!s.flag PWR_FEED_STS_B_OV)

/-- Feed B is back in range (Table 13-1): GATE_B is no longer held off where the mode has it on (Table 13-2). -/
def State.feedBIn (s : State) : State :=
  let t := s.setFlag PWR_FEED_STS_B_OV false
  if s.flag PWR_FEED_STS_B_OV && t.inMode [.save, .shutDown, .rebound, .keeper] && !t.flag PWR_FEED_STS_GATE_A then t.gateBOn else t

/-- The bytes of a list of words, each little-endian. -/
def wordBytes (ws : List Word) : List Byte := ws.flatMap (fun w => leBytes 4 w.toNat)

/-- Bits of a word of the power table. -/
def tabBits (ws : List Word) (i lo w : Nat) : Nat := natBits (ws.getD i 0).toNat lo w

/-- The field checks of one rail word (R469): its marionette below MB_COUNT, its fields within their ranges, no MULTI on channel 3. -/
def railWordOk (ws : List Word) (r : Nat) : Bool :=
  let mv := tabBits ws (3 + r) 0 12
  let mb := tabBits ws (3 + r) 29 3
  let ch := tabBits ws (3 + r) 27 2
  let multi := tabBits ws (3 + r) 26 1
  let ilim := tabBits ws (3 + r) 12 6
  if mv = 0 then decide (ws.getD (3 + r) 0 = 0) && decide (14 ≤ r)
  else decide (mb < tabBits ws 0 16 8) && decide (mb ≤ 5) && decide (ilim ≠ 0) && !(decide (multi = 1) && decide (ch = 3))

/-- The check of word 19: LRANKS 0x3, ROW3Q without ROW17, or a reserved bit set fails it (R469). -/
def geomOk (g : Nat) : Bool :=
  decide (natBits g 4 2 ≠ 3) && !(decide (natBits g 7 1 = 1) && decide (natBits g 6 1 = 0)) && decide (natBits g 1 3 = 0)

/-- The checks of R469 on a power table, but for its CRC. -/
def ptabFieldsOk (ws : List Word) : Bool :=
  decide (tabBits ws 0 24 8 = 1) && decide (1 ≤ tabBits ws 0 16 8) && decide (tabBits ws 0 16 8 ≤ 6)
  && (List.range 16).all (railWordOk ws) && geomOk (tabBits ws 19 0 8) && decide (tabBits ws 19 8 24 = 0)

/-- The CRC of a power table (Table 16-9, word 31). -/
def ptabCrcOk (ws : List Word) : Bool := decide (crc32c (wordBytes (ws.take 31)) = ws.getD 31 0)

/-- The checks of R469. -/
def ptabOk (ws : List Word) : Bool := ptabCrcOk ws && ptabFieldsOk ws

/-- A table whose 32 words are all zero is blank (R470). -/
def ptabBlank (ws : List Word) : Bool := ws.all (fun w => decide (w = 0))

/-- Store a list of words at consecutive registers. -/
def State.setWords (s : State) (a : Nat) : List Word → State
  | [] => s
  | w :: ws => State.setWords (s.setWord a w) (a + 4) ws

/-- Load the power table and the key digest from the one-time store (R468): the SPT words, and the fields that are taken from them. -/
def State.loadPtab (s : State) : State :=
  let ws := s.nv.ptab
  let t := (s.setWords 0x24200 ws).setWords 0x24020 s.nv.cfgkey
  let t := (List.range 16).foldl (fun (u : State) r =>
    (((u.setFld (PWR_RAIL_CFG_MB r) (tabBits ws (3 + r) 29 3)).setFld (PWR_RAIL_CFG_CH r) (tabBits ws (3 + r) 27 2)).setFld
      (PWR_RAIL_CFG_MULTI r) (tabBits ws (3 + r) 26 1)).setFld (PWR_RAIL_CFG_SET_MV r) (tabBits ws (3 + r) 0 12)) t
  let t := t.setFld CFG_SB_ADDR_STATIC (tabBits ws 0 8 7)
  let g := tabBits ws 19 0 8
  (((t.setFld HBP_GEOM_ROW3Q (natBits g 7 1)).setFld HBP_GEOM_ROW17 (natBits g 6 1)).setFld HBP_GEOM_LRANKS (natBits g 4 2)).setFld
    HBP_GEOM_RANK2 (natBits g 0 1)

/-- A batch of SET_V and SET_LIM for every existing rail whose marionette answers, and one MB_SYNC, at which they take effect (R375, R376; log entry 114). -/
def State.mbBatch (s : State) : State :=
  let sent := (List.range 16).foldl (fun (m : SMap Nat) r =>
    if s.railExists r && !(s.fld PWR_MB_STS_FAULTED).testBit (s.fld (PWR_RAIL_CFG_MB r)) then smapPut m r (s.nv.ptab.getD (3 + r) 0).toNat else m) s.pwr.sent
  { s with pwr := { s.pwr with sent := sent, syncs := s.pwr.syncs + 1 } }

/-- Append an entry to the last-resort log (R455, Table 15-3); every entry pulses FAULT_n (R419). -/
def State.lastLog (s : State) (cause : Nat) (sev : Sev) (src : Nat) : State :=
  let n := s.fld SPT_LASTLOG_STS_NEXT
  let w := cause * 2 ^ 28 + sevCode sev * 2 ^ 26 + src * 2 ^ 16 + natBits (s.tick / 1024) 0 16
  let t := (s.setFld (SPT_LASTLOG n) w).wrap SPT_LASTLOG_STS_NEXT 1
  let t := t.bump SPT_LASTLOG_STS_COUNT 1
  t.setFlag FLT_PIN_PULSING true

/-- V_floor in mV for an ESR in µΩ (R393). -/
def vFloor (esr : Nat) : Nat := 8000 + ceilDiv (56000 * esr) 8000000

/-- E in mJ from the capacitance and V0 (R393). -/
def packEnergy (c esr v0 : Nat) : Nat :=
  let vf := vFloor esr
  if v0 ≤ vf then 0 else c * (v0 * v0 - vf * vf) / 2000000 / 100 * 100

/-- Store V_floor, V0 and E after a pack test (R393 to R395). E is 0 while C_VALID = 0. -/
def State.storeEnergy (s : State) (v0 : Nat) : State :=
  let esr := s.fld PWR_PACK_ESR
  let e := if s.flag PWR_PACK_STS_C_VALID then packEnergy (s.fld PWR_PACK_C) esr v0 else 0
  let t := ((s.setFld PWR_PACK_V0_FLOOR (min (vFloor esr) 65535)).setFld PWR_PACK_V0_V0 v0).setFld PWR_PACK_E e
  t.setFlag PWR_PACK_STS_ZERO_E (decide (e = 0))

/-- The usable energy of the pack: 0 while feed B is over its range or back for less than 1 s (Table 13-1). -/
def State.usableEnergy (s : State) : Nat := if s.pwr.bUnusable then 0 else s.fld PWR_PACK_E

/-- End a capacitance test without results (R394): C and ESR stay, the reason is recorded and PACK_TEST_FAIL is reported. LOW is no failure. -/
def State.packTestFail (s : State) (reason : Nat) : State :=
  let t := { s with pwr := { s.pwr with test := none, load := false } }
  let t := (t.setFlag PWR_PACK_STS_TESTING false).setFld PWR_PACK_STS_FAIL reason
  if reason = 6 then t
  else (t.setFlag PWR_PACK_STS_TEST_FAIL true).report .packTestFail 0x138 reason 0

/-- Clear C_VALID; E is 0 while it is clear (R394). -/
def State.clearCValid (s : State) : State :=
  (((s.setFlag PWR_PACK_STS_C_VALID false).setFld PWR_PACK_E 0)).setFlag PWR_PACK_STS_ZERO_E true

/-- The 16-bit two's complement field of a signed quantity is stored as it is sampled. -/
def State.storePackSample (s : State) (iT temp : Nat) : State := (s.setFld PWR_PACK_IT_TEMP temp).setFld PWR_PACK_IT_MA iT

end Sys2Proof.Machine
end

