-- ==== Sys2Proof/Machine/Plans.lean ====
section
/-! DEFINITION. Plans, their prices, admission and the budgets of a short pack (R231 to R247). -/

namespace Sys2Proof.Machine

open Reg

/-- GEN of a configuration image (Table 8-1). -/
def imgGen (m : List Byte) : Nat := leField m 8 4

/-- CAP_GRAN. -/
def imgCap (m : List Byte) : Nat := leField m 20 4

/-- P_SAVE in mW. -/
def imgPSave (m : List Byte) : Nat := leField m 24 2

/-- P_KEEPER in mW. -/
def imgPKeeper (m : List Byte) : Nat := leField m 26 2

/-- DERATE_PM. -/
def imgDerate (m : List Byte) : Nat := leField m 28 2

/-- E_RES in J. -/
def imgERes (m : List Byte) : Nat := leField m 30 2

/-- The entries of the scope table: first granule, count and priority. -/
def imgScope (m : List Byte) : List (Nat × Nat × Nat) :=
  (List.range (leField m 84 2)).map (fun i =>
    let o := leField m 80 4 + 12 * i
    (leField m o 4, leField m (o + 4) 4, leField m (o + 8) 1))

/-- The settings: pairs of register address and value. -/
def imgSettings (m : List Byte) : List (Nat × Word) :=
  (List.range (leField m 92 2)).map (fun i =>
    let o := leField m 88 4 + 8 * i
    (leField m o 4, BitVec.ofNat 32 (leField m (o + 4) 4)))

/-- A plan constant in ps. -/
def imgConst (m : List Byte) (i : Nat) : Nat := leField m (leField m 188 4 + 4 * i) 4

/-- A plan step (Table 8-3). `rsv` gathers the bits that must be 0. -/
structure PlanStep where
  engine : Nat
  op : Nat
  lane : Nat
  seg : Nat
  stage : Nat
  time : Nat
  cycle : Nat
  count : Nat
  rsv : Nat
deriving DecidableEq, Repr

/-- Decode the step at a byte offset (Table 8-3). -/
def stepAt (m : List Byte) (o : Nat) : PlanStep :=
  let lane := leField m (o + 2) 1
  let place := leField m (o + 3) 1
  ⟨leField m o 1, leField m (o + 1) 1, natBits lane 0 5, natBits place 6 2, natBits place 0 4, leField m (o + 4) 2,
   leField m (o + 6) 1, leField m (o + 8) 4, natBits lane 5 3 + natBits place 4 2 + leField m (o + 7) 1⟩

/-- The steps of a plan; none where the image holds no plan of the code (R231, R232). -/
def planSteps (m : List Byte) (p : Nat) : Option (List PlanStep) :=
  let o := leField m (104 + 4 * p) 4
  let n := leField m (o + 2) 2
  if o = 0 ∨ m.length < o + 4 + 12 * n ∨ leField m o 2 ≠ p then none
  else some ((List.range n).map (fun i => stepAt m (o + 4 + 12 * i)))

/-- An entry of the fused corner table (R235). -/
def State.corner (s : State) (i : Nat) : Nat := (smapGet (fun _ => 0#32) s.nv.corner i).toNat

/-- The time of one unit of a step in ps (R236, Table 8-3). -/
def State.unitPs (s : State) (m : List Byte) (x : PlanStep) : Nat :=
  if 2 ^ 15 ≤ x.time then imgConst m (x.time - 2 ^ 15)
  else if x.time < 32 then s.corner x.time
  else s.corner (0x20 + 8 * x.lane + (x.time - 32))

/-- A quantity of R240: an unsigned 64-bit integer. -/
def u64 (n : Nat) : Nat := n % 2 ^ 64

/-- The time of a step in ps (R240). -/
def State.stepPs (s : State) (m : List Byte) (x : PlanStep) : Nat := u64 (x.count * s.unitPs m x)

/-- The corner class of a REFRESH step (Table 8-5). -/
def classRefresh : Nat := 8

/-- A step by itself passes check 0x08 of Table 8-7. A REFRESH step of the BDC names its target in OPERATION (R329). -/
def stepOk (m : List Byte) (x : PlanStep) : Bool :=
  decide (x.engine ≤ 9) && decide (x.lane ≤ 17) && decide (x.seg ≤ 2) && decide (x.rsv = 0) && decide (1 ≤ x.count)
  && decide (1 ≤ x.cycle ∧ x.cycle ≤ 32) && (decide (x.seg = 1) || decide (x.cycle = 1))
  && (if 2 ^ 15 ≤ x.time then decide (x.time - 2 ^ 15 < leField m 192 2)
      else decide (x.time < 32) || (decide (x.time < 40) && decide (x.lane < 17)))
  && (if x.engine = 5 ∧ x.time = classRefresh then decide (x.op < 4) else Config.stepOpDefined x.engine x.op)

/-- Two steps of one stage of SLOT share their CYCLE (Table 8-3). -/
def sameCycle (xs : List PlanStep) : Bool :=
  xs.all (fun a => xs.all (fun b => !(decide (a.seg = 1) && decide (b.seg = 1) && decide (a.lane = b.lane) && decide (a.stage = b.stage)) || decide (a.cycle = b.cycle)))

/-- A plan passes check 0x08. -/
def planOk (m : List Byte) (p : Nat) : Bool :=
  match planSteps m p with
  | some xs => xs.all (stepOk m) && sameCycle xs
  | none => false

/-- The steps of a plan, none where it is missing. -/
def planList (m : List Byte) (p : Nat) : List PlanStep := (planSteps m p).getD []

/-- The sum of the times of a plan's segment. -/
def State.segPs (s : State) (m : List Byte) (p seg : Nat) : Nat :=
  u64 (((planList m p).filter (fun x => decide (x.seg = seg))).map (s.stepPs m)).sum

/-- The slot of a plan: the longest stage of SLOT (R240). -/
def State.slotPs (s : State) (m : List Byte) (p : Nat) : Nat :=
  let xs := (planList m p).filter (fun x => decide (x.seg = 1))
  xs.foldl (fun acc x =>
    let st := xs.filter (fun y => decide (y.lane = x.lane) && decide (y.stage = x.stage))
    max acc (ceilDiv (u64 (st.map (s.stepPs m)).sum) x.cycle)) 0

/-- allow of R240: one switch and 16 failures. -/
def allowPs (slot : Nat) : Nat := u64 (60000000 + 16 * (slot + 60000000))

/-- Data and check slots of a full image (R240). -/
def imgSlots (m : List Byte) : Nat := imgCap m + imgCap m / 4

/-- pro, epi, slot in ps and bound in µs of a plan (R240). -/
def State.pricePlan (s : State) (m : List Byte) (p : Nat) : Nat × Nat × Nat × Nat :=
  let pro := s.segPs m p 0
  let epi := s.segPs m p 2
  let slot := s.slotPs m p
  (pro, epi, slot, ceilDiv (u64 (pro + imgSlots m * slot + epi + allowPs slot)) 1000000)

/-- The prices of plans 0 to 18. -/
def State.prices (s : State) (m : List Byte) : SMap (Nat × Nat × Nat × Nat) := (List.range 19).map (fun p => (p, s.pricePlan m p))

/-- The bound of a priced plan in µs. -/
def boundOf (ps : SMap (Nat × Nat × Nat × Nat)) (p : Nat) : Nat := ((smapFind ps p).map (·.2.2.2)).getD 0

/-- The slot of a priced plan in ps. -/
def slotPsOf (ps : SMap (Nat × Nat × Nat × Nat)) (p : Nat) : Nat := ((smapFind ps p).map (·.2.2.1)).getD 0

/-- d or dk of R240, in µs. A power of 0, which check 0x0C refuses, has no result in the spec. -/
def deadlineUs (m : List Byte) (e power : Nat) : Nat :=
  if power = 0 then Config.zeroPowerUs e else u64 (u64 ((e - imgERes m * 1000) * imgDerate m) * 1000) / power

/-- The lowest plan 0 to 17 whose bound exceeds d. -/
def overPlan (ps : SMap (Nat × Nat × Nat × Nat)) (d : Nat) : Option Nat := (List.range 18).find? (fun p => decide (d < boundOf ps p))

/-- DETAIL[21:0] of REFUSED_DEADLINE and PACK_SHORT (R242). -/
def shortDetail (ps : SMap (Nat × Nat × Nat × Nat)) (d : Nat) : Nat :=
  match overPlan ps d with
  | some p => p * 2 ^ 16 + min (ceilDiv (boundOf ps p - d) 1000) 0xFFFF
  | none => 0

/-- The plan 0 to 17 of the longest bound; a tie names the lowest code (Table 8-9). -/
def longestPlan (ps : SMap (Nat × Nat × Nat × Nat)) : Nat :=
  (List.range 18).foldl (fun b p => if boundOf ps b < boundOf ps p then p else b) 0

/-- DIE_DIGEST of the dies found at attach (Table 8-1, R258): SHA-256 over the 68 entries of 32 bytes. -/
def State.dieDigest (s : State) : List Byte :=
  sha256 ((List.range 68).flatMap (fun i => sliceBytes (((smapFind s.flo.dieTable i).map (·.2)).getD []) 0 32))

/-- The granules of an aperture as its register gives it (Table 4-10); none where it does not exist. -/
def apSpan (reg n : Nat) : Option (Nat × Nat) := if 2 ^ 31 ≤ reg then some (reg % 2 ^ 19, n) else none

/-- Two granule ranges overlap. -/
def spansMeet (a b : Nat × Nat) : Bool := decide (a.1 < b.1 + b.2) && decide (b.1 < a.1 + a.2)

/-- R103 and check 0x07 of Table 8-7. -/
def State.placementOk (s : State) (m : List Byte) : Bool :=
  let pap := apSpan (leField m 40 4) 32
  let sap := apSpan (leField m 44 4) 16
  let spans := pap.toList ++ sap.toList
  spans.all (fun x => s.rangePresent x.1 x.2)
  && (match pap, sap with | some a, some b => !spansMeet a b | _, _ => true)
  && spans.all (fun x => s.flo.org.regions.all (fun e => decide (e.2.st = .free) || !spansMeet x (e.2.first, e.2.count)))

/-- The targets of the module, those of the ranks that HBP_GEOM gives (R329). The spec does not say how OPERATION of a REFRESH step names its target: sub-channel × 2 + rank is the model's (DESIGN CHOICE, log entry 121). -/
def State.targets (s : State) : List Nat := if s.flag HBP_GEOM_RANK2 then [0, 1, 2, 3] else [0, 2]

/-- Whether a plan places REFRESH steps on the shared lane for the 1.95 µs interval at its slot bound on every target (check 0x0A, R329). -/
def State.refreshOk (s : State) (m : List Byte) (p : Nat) : Bool :=
  let xs := (planList m p).filter (fun x => decide (x.seg = 1) && decide (x.engine = 5) && decide (x.lane = 17) && decide (x.time = classRefresh))
  let slot := s.slotPs m p
  s.targets.all (fun t =>
    let l := (xs.filter (fun x => decide (x.op = t))).map (fun x => x.count * 32 * 31 * 29 * 27 * 25 * 23 * 19 * 17 * 13 * 11 * 7 / x.cycle)
    decide (slot * (32 * 31 * 29 * 27 * 25 * 23 * 19 * 17 * 13 * 11 * 7) ≤ l.sum * 1950000))

/-- The first structural check from 0x05 to 0x0C that fails, with the plan code or step index concerned (Table 8-7, R242). -/
def State.structural (s : State) (m : List Byte) : Option (Nat × Nat) :=
  let badPlan := (List.range 21).find? (fun p => !planOk m p)
  let harvest := planList m 20
  let long := (List.range harvest.length).find? (fun i =>
    match harvest[i]? with
    | some x => (decide (x.engine = 0) || decide (x.engine = 5) || decide (x.engine = 8)) && decide (500000 < s.unitPs m x)
    | none => false)
  let slow := (List.range 19).find? (fun p => !s.refreshOk m p)
  if leField m 17 1 ≠ natBits (s.word 0x2008).toNat 0 8 ∨ imgCap m ≠ s.presentCount then some (0x05, 0)
  else if sliceBytes m 48 32 ≠ s.dieDigest then some (0x06, 0)
  else if !s.placementOk m then some (0x07, 0)
  else if leField m 5 1 ≠ 21 then some (0x08, 0)
  else match badPlan, long, slow with
    | some p, _, _ => some (0x08, p)
    | none, some i, _ => some (0x09, i)
    | none, none, some p => some (0x0A, p)
    | none, none, none =>
      if s.flag PLN_STS_CORNER_BAD then some (0x0B, 0)
      else if imgPSave m = 0 ∨ 56000 < imgPSave m ∨ imgPKeeper m = 0 ∨ imgPSave m < imgPKeeper m ∨ imgDerate m < 500 ∨ 1000 < imgDerate m then some (0x0C, 0)
      else none

/-- The ration of an image as the load takes it: one outside 1 to 20,000 MB/s leaves GLN_RATION as it was (R179, Table 6-10, log entry 34). -/
def State.imgRation (s : State) (m : List Byte) : Nat :=
  if 1 ≤ leField m 32 2 ∧ leField m 32 2 ≤ 20000 then leField m 32 2 else s.fld GLN_RATION_MBS

/-- The life target of an image as the load takes it, 1 to 20 years. -/
def State.imgLife (s : State) (m : List Byte) : Nat :=
  if 1 ≤ leField m 34 1 ∧ leField m 34 1 ≤ 20 then leField m 34 1 else s.fld GLN_RATION_LIFE_Y

/-- The projected days of life (R179). -/
def State.lifeDays (s : State) (m : List Byte) : Nat :=
  let stooks := (s.flo.org.all.filter (fun n => (s.stook n).rotation)).length
  stooks * 268435456 * s.fld GLN_WEAR_BASIS_ENDURANCE / (s.imgRation m * 1000000) / 86400

/-- What an admission finds (R240, R241): the status code, DETAIL[21:0], the prices, E, d, dk, whether the keeper plan fits, the days of life and whether wear passes. -/
structure Verdict where
  code : Nat
  detail : Nat
  prices : SMap (Nat × Nat × Nat × Nat)
  e : Nat
  d : Nat
  dk : Nat
  keeper : Bool
  days : Nat
  wear : Bool
deriving DecidableEq, Repr

/-- Judge a generation (R241). After a structural failure, where nothing is priced, d, dk, KEEPER_FITS and LONGEST are 0 (DESIGN CHOICE, log entry 122). -/
def State.judge (s : State) (m : List Byte) (e : Nat) : Verdict :=
  match s.structural m with
  | some (r, i) => ⟨stNotPermitted, r * 2 ^ 16 + i % 2 ^ 16, [], e, 0, 0, false, 0, true⟩
  | none =>
    let ps := s.prices m
    let d := deadlineUs m e (imgPSave m)
    let dk := deadlineUs m e (imgPKeeper m)
    let days := s.lifeDays m
    let wear := decide (s.imgLife m * 365 ≤ days)
    let keeper := decide (boundOf ps 18 ≤ dk)
    if (overPlan ps d).isSome then ⟨stRefusedDeadline, shortDetail ps d, ps, e, d, dk, keeper, days, wear⟩
    else if !wear then ⟨stRefusedWear, min days 0x3FFFFF, ps, e, d, dk, keeper, days, wear⟩
    else ⟨stOk, 0, ps, e, d, dk, keeper, days, wear⟩

/-- The most recent refusal (PLN_REFUSE). -/
def State.noteRefusal (s : State) (code detail : Nat) : State := (s.setFld PLN_REFUSE_CODE code).setFld PLN_REFUSE_DETAIL detail

/-- The registers that a deadline computation sets (Tables 8-14, 8-16). -/
def State.showDeadline (s : State) (code d dk e : Nat) (keeper : Bool) : State :=
  ((((s.setFld PLN_STS_LAST_CODE code).setFld PLN_DEADLINE (min d (2 ^ 32 - 1))).setFld PLN_DEADLINE_K (min dk (2 ^ 32 - 1))).setFld PLN_ENERGY e).setFlag
    PLN_STS_KEEPER_FITS keeper

/-- Report an admission (R242): the registers, the refusal, and the ADMISSION record. The rule names the record's content; its order and the widths (GEN 4 bytes, the code 1, and 4 each for E, d, dk and the bounds, saturated as PLN_DEADLINE is) are the model's (DESIGN CHOICE, log entry 123). -/
def State.reportAdmission (s : State) (m : List Byte) (v : Verdict) : State :=
  let t := { s with pln := { s.pln with priced := v.prices } }
  let t := (t.showDeadline v.code v.d v.dk v.e v.keeper).setFld PLN_STS_LONGEST (longestPlan v.prices)
  let t := if v.prices.isEmpty then t else t.setFld GLN_LIFE_PROJ (min v.days (2 ^ 32 - 1))
  let t := if v.code = stOk then t else t.noteRefusal v.code v.detail
  t.emit (if v.code = stOk then .note else .fault) 0x0064 139
    (leBytes 4 (imgGen m) ++ leBytes 1 v.code ++ leBytes 4 (min v.e (2 ^ 32 - 1)) ++ leBytes 4 (min v.d (2 ^ 32 - 1)) ++ leBytes 4 (min v.dk (2 ^ 32 - 1)) ++
      (List.range 19).flatMap (fun p => leBytes 4 (min (boundOf v.prices p) (2 ^ 32 - 1))))

/-- The slots that a budget pays for under a plan (R246). -/
def planBudget (ps : SMap (Nat × Nat × Nat × Nat)) (d p : Nat) : Nat :=
  match smapFind ps p with
  | some (pro, epi, slot, _) => if slot = 0 then Config.freeSlots p else (u64 (d * 1000000) - pro - epi - allowPs slot) / slot
  | none => 0

/-- N of R246. -/
def budgetN (ps : SMap (Nat × Nat × Nat × Nat)) (d : Nat) : Nat :=
  (List.range 17).foldl (fun acc p => min acc (planBudget ps d (p + 1))) (planBudget ps d 0)

/-- PACK_SHORT is raised, with its budgets, or cleared (R245, R246). -/
def State.setPackShort (s : State) (short : Bool) (ps : SMap (Nat × Nat × Nat × Nat)) (d dk : Nat) : State :=
  let was := s.flag PLN_STS_PACK_SHORT
  let t := (s.setFlag PLN_STS_PACK_SHORT short).setFlag PER_STS_NARROWED short
  if short then
    let t := (t.setFld PLN_BUDGET (min (budgetN ps d) 0xFFFFF)).setFld PLN_BUDGET_K (min (planBudget ps dk 18) 0xFFFFF)
    if was then t else t.report .packShort 139 0 0
  else (t.setFld PLN_BUDGET 0xFFFFF).setFld PLN_BUDGET_K 0xFFFFF

/-- What an admission of the active generation resolves to (R243). Only a pass clears WEAR_SHORT, and only a pack test clears PACK_SHORT (R245). -/
def State.inForce (s : State) (v : Verdict) : State :=
  if v.code = stNotPermitted then (s.setFlag PLN_STS_ADMITTED false).setFlag CFG_MODE_NO_PLAN true
  else
    let t := (s.setFlag PLN_STS_ADMITTED true).setFlag CFG_MODE_NO_PLAN false
    let t := if v.code = stOk then t.setFlag PLN_STS_WEAR_SHORT false
      else if v.wear then t else (t.setFlag PLN_STS_WEAR_SHORT true).report .wearShort 139 0 0
    if (overPlan v.prices v.d).isSome then t.setPackShort true v.prices v.d v.dk else t

/-- Admission of the active generation in DECIDE or after a revert (R239, R243). -/
def State.admitActive (s : State) : State :=
  if s.pln.image.isEmpty then s.setFlag CFG_MODE_NO_PLAN true
  else
    let v := s.judge s.pln.image s.usableEnergy
    (s.reportAdmission s.pln.image v).inForce v

/-- The recheck of R245 after a pack test, for the active generation. -/
def State.packRecheck (s : State) : State :=
  if s.pln.image.isEmpty then s
  else
    let m := s.pln.image
    let ps := s.prices m
    let e := s.usableEnergy
    let d := deadlineUs m e (imgPSave m)
    let dk := deadlineUs m e (imgPKeeper m)
    let short := (overPlan ps d).isSome
    (s.showDeadline (if short then stPackShort else stOk) d dk e (decide (boundOf ps 18 ≤ dk))).setPackShort short ps d dk

/-- The lowest priority of the scope ranges that hold a granule; 7 in none (Table 8-8). -/
def scopePrio (m : List Byte) (g : Nat) : Nat :=
  (imgScope m).foldl (fun acc x => if x.1 ≤ g ∧ g < x.1 + x.2.1 then min acc x.2.2 else acc) 7

/-- The rank of a granule of the save set (Table 8-8). -/
def State.saveRank (s : State) (g : Nat) : Nat :=
  match s.regionOf g with
  | some (_, v) => if v.st = .sealed then 0 else 1 + v.prio
  | none => 9 + scopePrio s.pln.image g

/-- The save set in ranked order (R247): by rank, then by index. -/
def State.rankOrder (s : State) (gs : List Nat) : List Nat :=
  (List.range 17).flatMap (fun r => gs.filter (fun g => decide (s.saveRank g = r)))

/-- The longest prefix of a ranked order whose cost is within a budget, and the rest: a granule costs one slot, and one more if it is the first kept one of its check group. -/
def keepWithin (budget : Nat) (groups : List Nat) : List Nat → List Nat × List Nat
  | [] => ([], [])
  | g :: gs =>
    let c := if groups.contains (g / 4) then 1 else 2
    if budget < c then ([], g :: gs)
    else
      let (k, o) := keepWithin (budget - c) (if groups.contains (g / 4) then groups else g / 4 :: groups) gs
      (g :: k, o)

/-- DETAIL[21:0] of a PACK_SHORT that the active generation's latest deadline gives (R242). -/
def State.packDetail (s : State) : Nat :=
  shortDetail (s.prices s.pln.image) (deadlineUs s.pln.image (s.fld PLN_ENERGY) (imgPSave s.pln.image))

/-- The checks 0x01 to 0x03 of Table 8-7 over a complete staged image: the reason of the first that fails. -/
def State.stagedBad (s : State) (m : List Byte) : Option Nat :=
  let key := sliceBytes m (m.length - 128) 64
  if sha256 (4#8 :: key) ≠ s.getBytes 0x24020 8 ∨ !ecVerify key (m.take (m.length - 64)) (m.drop (m.length - 64)) then some 0x01
  else if sliceBytes m 0 4 ≠ [0x59, 0x47, 0x50, 0x4C] ∨ leField m 4 1 ≠ 1 ∨ leField m 12 4 ≠ 0x9716 ∨ leField m 16 1 ≠ 2 then some 0x02
  else if imgGen m ≤ s.fld PLN_GEN_HIGH then some 0x03
  else none

end Sys2Proof.Machine
end

