-- ==== Sys2Proof/Machine/Save.lean ====
section
/-! DEFINITION. The save engine's operations: plans, sheaves, the anchor, and what a lost channel does to a save (R195 to R212, R247, R269). -/

namespace Sys2Proof.Machine

open Reg

/-- The channels that are fenced, as a bit set. -/
def State.fencedMask (s : State) : Nat := (List.range 17).foldl (fun acc n => if s.flag (FCE_STS_FENCED n) then acc + 2 ^ n else acc) 0

/-- The fenced channels, in ascending order. -/
def State.fencedList (s : State) : List Nat := (List.range 17).filter (fun n => s.flag (FCE_STS_FENCED n))

/-- The channels that a plan does without, in ascending order: those fenced, and those with a retired die, which are fenced for plan purposes from the next plan boundary on (R207, R282). -/
def State.planFenced (s : State) : List Nat :=
  (List.range 17).filter (fun n => s.flag (FCE_STS_FENCED n) || s.flo.org.diesRetired.any (fun x => decide (x / 4 = n)))

/-- The same as a bit set. -/
def State.planMask (s : State) : Nat := (s.planFenced.map (fun n => 2 ^ n)).sum

/-- The plan that the fences in force select (R207): base, a variant, or the keeper plan. -/
def planFor (fenced : List Nat) (keeper : Bool) : Nat :=
  if keeper then 18 else match fenced with | [] => 0 | [n] => n + 1 | _ => 18

/-- Serve the keeper positions from `ps` on: a fenced channel is replaced by the lowest unfenced channel from 8 to 16 that serves no position (R205). -/
def keeperFill (bad : List Nat) : List Nat → List Nat → Option (List Nat)
  | acc, [] => some acc.reverse
  | acc, p :: ps =>
    if !bad.contains p then keeperFill bad (p :: acc) ps
    else match (List.range 17).find? (fun c => decide (8 ≤ c) && !bad.contains c && !acc.contains c && !ps.contains c) with
      | some c => keeperFill bad (c :: acc) ps
      | none => none

/-- The keeper map from the positions served now; none where fewer than eight channels remain (R206). -/
def keeperMap (fenced kmap : List Nat) : Option (List Nat) := keeperFill fenced [] (if kmap.isEmpty then List.range 8 else kmap)

/-- Show the keeper map (SAV_KMAP0, SAV_KMAP1). -/
def State.showKmap (s : State) (k : List Nat) : State :=
  let at' := fun i => k.getD i 0
  let t := (((((s.setFld SAV_KMAP0_P0 (at' 0)).setFld SAV_KMAP0_P1 (at' 1)).setFld SAV_KMAP0_P2 (at' 2)).setFld SAV_KMAP0_P3 (at' 3)).setFld
    SAV_KMAP0_P4 (at' 4)).setFld SAV_KMAP0_P5 (at' 5)
  (t.setFld SAV_KMAP1_P6 (at' 6)).setFld SAV_KMAP1_P7 (at' 7)

/-- Data lines of a granule as DRAM holds them. -/
def State.granData (s : State) (g : Nat) : SMap LineData :=
  ((s.dram.lines.filter (fun e => decide (e.1 / 16384 = g))).map (fun e => (e.1 % 16384, e.2.1))).filter (fun e => decide (e.2 ≠ 0))

/-- Check bytes of the lines of a check group as DRAM holds them, by line within the group. -/
def State.groupChk (s : State) (c : Nat) : SMap CheckBytes :=
  ((s.dram.lines.filter (fun e => decide (e.1 / 65536 = c))).map (fun e => (e.1 % 65536, e.2.2))).filter (fun e => decide (e.2 ≠ 0))

/-- The lines of a granule whose check bytes differ from the learned code's prediction (R201). -/
def State.hostChkBad (s : State) (g : Nat) : List Nat :=
  if s.learned && s.flag CLN_CTL_VERIFY_SAVE then
    (List.range 16384).filter (fun i =>
      let ma := (g * 16384 + i) * 64
      decide (s.predict ma (s.line ma).1 ≠ (s.line ma).2))
  else []

/-- The granules that an image writes before any is omitted (R142, R151, R153, R158): those not CLEAN, and for a full image those whose flash copy does not already lie outside every image. A CLEAN granule of KIND NONE, which a restore has left OMITTED or LOST, is indexed with its STATE, as R210 and R219 say; under ALL_DIRTY it is written (DEDUCED, log entry 110). -/
def State.saveSet (s : State) : List Nat :=
  s.presentGranules.filter (fun g =>
    let clean := decide (s.dstate g = .clean)
    let k := (s.smapOf g).kind
    !clean || s.flag PER_STS_ALL_DIRTY || (s.fullNext && decide (k = 1)))

/-- The index sheaves of an image (R210): 131,072 entries in each. -/
def State.indexSheaves (s : State) : Nat :=
  ceilDiv (s.presentCount + ((List.range (s.granuleCount / 4)).filter (fun c => s.present (4 * c))).length) 131072

/-- The work of a save in plan order (R198, R200, R209): a check sheaf follows the last granule of its group; `more` are check groups written besides. -/
def saveWork (idx : Nat) (more : List Nat) : List Nat → List SaveItem
  | [] => more.map .group ++ .metadata :: (List.range idx).map .index
  | g :: gs => if gs.any (fun x => decide (x / 4 = g / 4)) then .gran g :: saveWork idx more gs else .gran g :: .group (g / 4) :: saveWork idx more gs

/-- The check groups that a full image writes although it writes none of their granules: the check bytes of a CLEAN gleaned or harvested granule stand in a sheaf of an earlier image, which a full image does not reference (R145, R158). -/
def State.moreGroups (s : State) (full : Bool) (kept : List Nat) : List Nat :=
  if !full then []
  else (List.range (s.granuleCount / 4)).filter (fun c =>
    decide ((s.cmapOf c).kind = 1) && !kept.any (fun g => decide (g / 4 = c))
    && (List.range 4).any (fun i => s.present (4 * c + i) && decide (2 ≤ (s.smapOf (4 * c + i)).kind)))

/-- Sheaves that the swath can take under a plan. -/
def State.swathRoom (s : State) (plan : Nat) : Nat :=
  if plan = 18 then (s.swathOrder.map (fun n => s.sheavesLeft n * 8 / 17)).sum else s.swathSheaves

/-- The FORM record of a plan other than the base (R203, R205): the stook and page of the next sheaf under it, which for the keeper plan is the `j`-th of the run. -/
def State.formRecord (s : State) (plan : Nat) (kmap : List Nat) (j : Nat) (m : SMap Nat) : State :=
  if plan = 18 then
    match s.allocNarrow false kmap j m with
    | some (a, _, _, _) => s.ledger (.form (addrStook a) (addrPage a) 18 kmap)
    | none => s
  else match s.allocSwath with
    | none => s
    | some (a, _) => if plan = 0 then s else s.ledger (.form (addrStook a) (addrPage a) plan [])

/-- Slots of a kept set and what a budget leaves out (R247); without PACK_SHORT everything is kept in ascending order. -/
def State.keptSet (s : State) (plan : Nat) (gs : List Nat) : List Nat × List Nat × List Nat :=
  if s.flag PLN_STS_PACK_SHORT then
    let o := s.rankOrder gs
    let b := s.fld (if plan = 18 then PLN_BUDGET_K else PLN_BUDGET)
    let (k, om) := keepWithin b [] o
    (o, k, om)
  else (gs, gs, [])

/-- The save engine takes up its work at the freeze (R195, R207, R209, R212). The generation number is taken, and is used up even if no anchor follows. The channels whose fences have ended return at this plan boundary. While the plan store reloads, the keeper plan runs from the save engine's own store (R404). -/
def State.saveBegin (s : State) (keeper : Bool) : State :=
  let s := s.channelsReturn
  let fenced := s.planFenced
  let plan := planFor fenced (keeper || decide (s.tick < s.pln.reloadEnd))
  let full := s.fullNext
  let (ranked, kept, om) := s.keptSet plan s.saveSet
  let gen := s.flash.imageGen + 1
  let km := if plan = 18 then (keeperMap fenced []).getD [] else []
  let t := { s with flash := { s.flash with imageGen := gen } }
  let t := t.setRun ⟨gen, s.per.freezeF, s.tick, full, s.flag PLN_STS_PACK_SHORT, plan, km, 0, saveWork s.indexSheaves (s.moreGroups full kept) kept, [], [], 0, [], om, 0, 0,
    decide (plan ≠ 0), s.gln.regions, s.gln.cover, s.gln.repair, false, ranked, [], none, 0, []⟩
  let t := (((t.setFlag SAV_STS_SAVING true).setFld SAV_STS_STAGE 1).setFld SAV_STS_PLAN plan).setFld SAV_FENCED s.planMask
  let t := (t.setFld SAV_CNT_GRAN kept.length).setFld SAV_CNT_PFAIL_LAST 0
  let t := ((t.setFld SAV_CNT_SHEAVES 0).setFld SAV_T_FIRST 0).showKmap km
  t.formRecord plan km 0 []

/-- Whether the swath holds the sheaves that the save needs (R269), and the keeper plan has eight channels (R206): the reason to abandon the save, or none. Reason 1 is SWATH, reason 0 the loss of channels. -/
def State.saveImpossible (s : State) : Option Nat :=
  match s.sav.run with
  | none => none
  | some r =>
    if r.plan = 18 && r.kmap.length < 8 then some 0
    else if s.swathRoom r.plan < r.work.length then some 1
    else none

/-- The save ends without an anchor (R206): the registers and the record; what follows is the caller's shut-down. -/
def State.saveDrop (s : State) (reason : Nat) : State :=
  let t := { s with sav := { s.sav with run := none } }
  let t := (((t.setFlag SAV_STS_ABANDONED true).setFlag SAV_STS_SAVING false).setFld SAV_STS_STAGE 0).setFld SAV_STS_PLAN 0x1F
  t.emit .critical 0x005F 139 (leBytes 1 reason)

/-- The lines of index sheaf `i` (R210, Table 7-3): eight entries of 8 bytes in each line. -/
def indexLines (i : Nat) (es : List Nat) : SMap LineData :=
  let rec go (k : Nat) : List Nat → Nat → SMap LineData
    | [], _ => []
    | x :: xs, l =>
      let v : LineData := BitVec.ofNat 512 (x * 2 ^ (64 * (k % 8)))
      let rest := go (k + 1) xs ((k + 1) / 8)
      match rest with
      | (l', w) :: t => if l' = l then (l, v ||| w) :: t else if v = 0 then rest else (l, v) :: rest
      | [] => if v = 0 then [] else [(l, v)]
  go 0 ((es.drop (131072 * i)).take 131072) 0

/-- An index entry that names nothing. -/
def IndexEntry.none : IndexEntry := ⟨MapEntry.none, 0, false⟩

/-- Whether the newest image marks an entry OMITTED, so that a later position of its chain has no sheaf to refer to (R157, R158). -/
def State.wasOmitted (s : State) (p : Image → SMap IndexEntry) (k : Nat) : Bool :=
  s.flash.images.getLast?.any (fun i => (smapFind (p i) k).any (fun e => decide (e.st = 1)))

/-- The index entry of a granule in the image that a run writes (R157, R210). -/
def State.granEntry (s : State) (r : SaveRun) (pos g : Nat) : IndexEntry :=
  match smapFind r.gran g with
  | some (a, hc) => ⟨⟨1, false, pos, a⟩, 0, hc⟩
  | none =>
    let e := s.smapOf g
    if r.omitted.contains g || (!r.full && e.kind = 1 && s.wasOmitted (·.gran) g) then ⟨MapEntry.none, 1, false⟩
    else
      if e.kind ≠ 0 then ⟨e, 0, false⟩ else ⟨MapEntry.none, if (smapFind s.per.lost g).isSome then 2 else 1, false⟩

/-- The index entry of a check group; a full image, and what follows one that left the group out, refer to no sheaf of an earlier chain (R157, R158). The spec gives a group with no sheaf no STATE of its own, not even one that a restore has lost: it is indexed OMITTED (DESIGN CHOICE, log entry 111). -/
def State.groupEntry (s : State) (r : SaveRun) (pos c : Nat) : IndexEntry :=
  match smapFind r.group c with
  | some a => ⟨⟨1, false, pos, a⟩, 0, false⟩
  | none =>
    let e := s.cmapOf c
    if e.kind = 1 && (r.full || s.wasOmitted (·.group) c) then ⟨MapEntry.none, 1, false⟩
    else if e.kind ≠ 0 then ⟨e, 0, false⟩ else ⟨MapEntry.none, 1, false⟩

/-- The present check groups, in ascending order. -/
def State.presentGroups (s : State) : List Nat := (List.range (s.granuleCount / 4)).filter (fun c => s.present (4 * c))

/-- The chain position of the image that a run writes (R157, R158). -/
def State.runPos (s : State) (r : SaveRun) : Nat := if r.full then 1 else s.fld PER_STS_CHAIN_POS + 1

/-- The bytes of an index entry (Table 7-3). -/
def indexBytes (e : IndexEntry) : List Byte := leBytes 6 (entryBits e.entry) ++ leBytes 1 e.st ++ leBytes 1 (if e.hostchk then 1 else 0)

/-- The entries of the index that a run writes, in index order (R210), each as its 8 bytes spell it. -/
def State.runIndex (s : State) (r : SaveRun) : List Nat :=
  (s.presentGranules.map (fun g => leNat (indexBytes (s.granEntry r (s.runPos r) g)))) ++
    (s.presentGroups.map (fun c => leNat (indexBytes (s.groupEntry r (s.runPos r) c))))

/-- The sheaf that an item of the work makes at the position in flight: its metadata and its content (R198 to R200, R209). -/
def State.saveSheaf (s : State) (r : SaveRun) (f : SaveFlight) (item : SaveItem) : Sheaf :=
  let narrow := decide (r.plan = 18)
  let mk := fun (typ obj : Nat) (data : SMap LineData) (chk : SMap CheckBytes) =>
    (⟨typ, r.form f, if narrow then r.kmap else [], if narrow then r.kj - 1 else 0, f.rows, obj, r.gen, r.f, s.epoch, [], false, data, chk⟩ : Sheaf)
  match item with
  | .gran g => mk 1 g (s.granData g) []
  | .group c => mk 2 c [] (s.groupChk c)
  | .metadata => mk 7 0 (metadataLines r.regions r.cover r.repair r.recs) []
  | .index i => mk 8 i (indexLines i (s.runIndex r)) []

/-- The movers stage the sheaf in flight (R199, R202, R203): each data ear in a buffer of its channel with its metadata template, and the parity ear, accumulated from the 16 data ears, in the parity channel's. -/
def State.stageFlight (s : State) (r : SaveRun) (f : SaveFlight) (item : SaveItem) : State :=
  let x := s.saveSheaf r f item
  (List.range 17).foldl (fun (u : State) k =>
    let b := r.buffer f k
    (u.fillEar (stagingBuf b.1 b.2) (earLinesOf x.lines k)).sramPut (stagingMeta b.1 b.2 / 64) [lineOf (x.template k)]) s

/-- Whether an item of the work reads the DRAM. -/
def SaveItem.dram : SaveItem → Bool
  | .gran _ | .group _ => true
  | _ => false

/-- With no read of the DRAM left, its last sheaf confirmed, the BDC has brought it into self-refresh and gives it up (R323, Tables 7-7, 11-1). -/
def State.dramRest (s : State) : State :=
  match s.sav.run with
  | some r => if r.handed && s.flag DCT_STS_OWNED && !r.work.any SaveItem.dram then s.giveDram.enterSelfRef else s
  | none => s

/-- The next sheaf of the work goes in flight: it takes its position and is staged. The metadata sheaf takes the ledger records that are pending then (R277). -/
def State.takeFlight (s : State) : State :=
  match s.sav.run with
  | none => s
  | some r => match r.flight, r.work with
    | none, item :: _ =>
      if !r.handed then s
      else match s.allocSave r with
        | none => s
        | some (f, r, t) =>
          let r : SaveRun := match item with
            | .metadata => { r with recs := t.flo.pendingRecs }
            | _ => r
          (t.setRun { r with flight := some f }).stageFlight r f item
    | _, _ => s

/-- The first anchor copy goes in flight once every sheaf is confirmed (R208, R209). -/
def State.takeAnchor (s : State) : State :=
  let (p, t) := s.logTake
  { t with sav := { t.sav with copyAt := some p } }

/-- SAVE_SHEAF_CONFIRMED (R198 to R204, R209): the sheaf in flight stands on flash, and the next goes in flight. A host check-bit mismatch is saved as read, counted, flagged and recorded (R201). -/
def execSaveSheafConfirmed (s : State) : Host.Outcome State Fault Refusal :=
  let s := s.takeFlight
  match s.sav.run with
  | none => .next s
  | some r =>
    match r.flight, r.work with
    | some f, item :: rest =>
      let a := f.addr
      let r2 : SaveRun := { r with work := rest, sheaves := r.sheaves + 1, flight := none }
      let t := if s.fld SAV_STS_STAGE = 1 then s.setFld SAV_T_FIRST (min (s.tick - r.start) (2 ^ 32 - 1)) else s
      let t := (t.setFld SAV_CNT_SHEAVES r2.sheaves).setFld SAV_STS_STAGE
        (match rest with | [] => 4 | .metadata :: _ => 3 | .index _ :: _ => 3 | _ => 2)
      let t := t.putSheaf a (s.saveSheaf r f item)
      let next := fun (u : State) => if rest.isEmpty then u.takeAnchor else u.takeFlight.dramRest
      match item with
      | .gran g =>
        let bad := s.hostChkBad g
        let t := t.bump SAV_CNT_HOSTCHK bad.length
        let t := match bad with
          | [] => t
          | i :: _ => t.emit .fault 0x005E 139 (leBytes 8 ((g * 16384 + i) * 64))
        .next (next (t.setRun { r2 with gran := smapPut r.gran g (a, !bad.isEmpty) }))
      | .group c => .next (next (t.setRun { r2 with group := smapPut r.group c a }))
      | .metadata => .next (next (t.setRun { r2 with own := r.own ++ [a] }))
      | .index i => .next (next (t.setRun { r2 with own := r.own ++ [a], indexAddr := if i = 0 then a else r.indexAddr }))
    | _, _ => .next s

/-- The index sheaves' payload (R210, log entry 41), padded to whole sheaves of 131,072 entries. -/
def indexPayload (gs cs : List IndexEntry) : List Byte :=
  let bs := (gs ++ cs).flatMap indexBytes
  bs ++ List.replicate (ceilDiv bs.length 1048576 * 1048576 - bs.length) 0

/-- The image that the run anchors, its first copy at a position of the anchor log (R208 to R212, Table 7-4); the anchor takes a sequence number. -/
def State.mkImage (s : State) (r : SaveRun) (at' : Nat) : Image × State :=
  let prev := s.flash.images.getLast?
  let pos := s.runPos r
  let gs := s.presentGranules.map (fun g => (g, s.granEntry r pos g))
  let cs := s.presentGroups.map (fun c => (c, s.groupEntry r pos c))
  let (n, t) := s.takeSeq
  let form := fun (a : Nat) => ((s.sheaf a).map (·.form)).getD 0
  let degraded := (gs ++ cs).any (fun e => decide (e.2.entry.kind ≠ 0) && decide (form e.2.entry.sheaf ≠ 0))
  (⟨r.plan, pos, false, r.narrowed, s.flag CFG_MODE_KEEPER, degraded, r.gen, s.epoch, r.f, s.fld PLN_GEN_ACTIVE, (s.word HBP_GEOM_RANK2.addr).toNat,
    (s.word ID_REV_MAJOR.addr).toNat, if r.full then 0 else (prev.map (·.gen)).getD 0, r.indexAddr, s.indexSheaves,
    (gs.filter (fun e => decide (e.2.st = 1))).length, r.sheaves, s.tick, s.wallNow, n,
    sha256 (indexPayload (gs.map (·.2)) (cs.map (·.2))), n, if r.full then r.gen else (prev.map (·.chain)).getD r.gen, 1, [at'],
    gs.filter (fun e => decide (e.2 ≠ IndexEntry.none)), cs.filter (fun e => decide (e.2 ≠ IndexEntry.none)),
    r.regions, r.cover, r.repair, r.recs, r.own⟩, t)

/-- The SAVE_NOWs that wait for this save take its result: GEN, sheaves written and F as the bytes of RESULT (Table 4-7). -/
def State.saveNowTake (s : State) (i : Image) : State :=
  let v := i.gen + i.sheaves * 2 ^ 32 + i.f * 2 ^ 64
  { s with pkt := { s.pkt with exec := s.pkt.exec.map (fun (e : ExecPkt) =>
      if e.started ∧ pktField e.bytes 0 1 = 0x09 ∧ e.aux = 0 then { e with aux := v } else e) } }

/-- The registers that show the newest anchored image (R162). -/
def State.showImage (s : State) (i : Image) : State :=
  let t := (((s.setFld PER_STS_CHAIN_POS i.pos).setFld PER_IMG_GEN i.gen).setFld PER_IMG_EPOCH i.epoch).setFld PER_IMG_F_LO i.f
  (t.setFld PER_IMG_F_HI (i.f / 2 ^ 32)).setFld PER_OMITTED i.omitted

/-- The position of the first anchor copy: the one in flight, or the next where an older image's second copy still is (R208). -/
def State.anchorPos (s : State) : Nat × State :=
  match s.sav.second, s.sav.copyAt with
  | none, some p => (p, s)
  | _, _ => s.logTake

/-- The first copy of an image's anchor stands, and the second goes in flight at the next position (R208, R283). -/
def State.anchorFirst (s : State) (i : Image) : State :=
  let t : State := { s with flash := { s.flash with images := s.flash.images ++ [i] } }
  let (q, t) := (t.logPut (i.copyAt.headD 0) i.payload).logTake
  { t with sav := { t.sav with second := some i.gen, copyAt := some q } }

/-- What the anchoring of a save does to the maps and the registers (Table 5-5, R151, R158, R211, R228): a thresh of the image before it is discarded, and its copies are free. The anchor is a plan boundary (R207, R321). -/
def State.applyImage (s : State) (r : SaveRun) (i : Image) : State :=
  let t := s.anchorFirst i
  let t := r.gran.foldl (fun (u : State) e => (u.setD e.1 .clean).setSmap e.1 ⟨1, false, i.pos, e.2.1⟩) t
  let t := r.group.foldl (fun (u : State) e => u.setCmap e.1 ⟨1, false, i.pos, e.2⟩) t
  let t := if r.full && r.omitted.isEmpty then t.clearAllDirty else t
  let t := ((t.showImage i).saveNowTake i).setFlag SAV_STS_DEGRADED i.degraded
  let t := ((t.setFld SAV_T_ANCHOR (min (t.tick - r.start) (2 ^ 32 - 1))).setFld SAV_STS_STAGE 4)
  let t := { t with sav := { t.sav with run := none, thresh := none, threshCopies := [], threshRows := [], threshJ := 0 } }
  ((t.setFlag SAV_STS_THRESHING false).setFld SAV_THR_GEN 0).channelsReturn.refill

/-- SECOND_ANCHOR_CONFIRMED (R208, R283): the second copy stands, the log is switched where it is nearly full, and the save is over. -/
def execSecondAnchorConfirmed (s : State) : Host.Outcome State Fault Refusal :=
  match s.sav.second, s.sav.copyAt with
  | some g, some q =>
    let put := match s.flash.images.find? (fun i => decide (i.gen = g)) with
      | some i => s.logPut q i.payload
      | none => s
    let t := { put with sav := { put.sav with second := none, copyAt := none },
                        flash := { put.flash with images := put.flash.images.map (fun (i : Image) =>
                          if i.gen = g then { i with copies := 2, copyAt := i.copyAt ++ [q] } else i) } }
    let t := t.logSwitch
    if t.sav.run.isSome then .next t
    else .next (((t.setFlag SAV_STS_SAVING false).setFld SAV_STS_STAGE 0).setFld SAV_STS_PLAN 0x1F)
  | _, _ => .next s

/-- A fence strikes the channel of an anchor copy in flight: the copy is re-issued on the next unfenced channel (R208). -/
def State.anchorFence (s : State) (n : Nat) : State :=
  match s.sav.copyAt with
  | some p =>
    if p % 17 ≠ n then s
    else
      let (q, t) := s.logTake
      { t with sav := { t.sav with copyAt := some q } }
  | none => s

/-- The work that remains when the keeper plan's budget is applied to a whole save (R247). -/
def State.keeperBudget (s : State) (r : SaveRun) : SaveRun :=
  if !s.flag PLN_STS_PACK_SHORT then r
  else
    let (k, om) := keepWithin (s.fld PLN_BUDGET_K) [] r.ranked
    let left := (saveWork s.indexSheaves (s.moreGroups r.full k) k).filter (fun x => match x with
      | .gran g => (smapFind r.gran g).isNone
      | .group c => (smapFind r.group c).isNone
      | _ => true)
    { r with work := left, omitted := om.filter (fun g => (smapFind r.gran g).isNone) }

/-- The save goes on under another plan or another keeper map (R203, R205, R206): descriptors not yet started are withdrawn, and the FORM record gives where the new form begins, at the sheaf in flight where that ends in it (Table 7-2). -/
def State.savePlan (s : State) (r : SaveRun) : State :=
  let t := ((s.queuesWithdraw (fun x => decide (dOwner x = 0))).setRun { r with variantUsed := true }).setFld SAV_STS_PLAN r.plan
  match r.flight with
  | some f => if r.form f = r.plan then t.ledger (.form (addrStook f.addr) (addrPage f.addr) r.plan []) else t.formRecord r.plan r.kmap r.kj r.narrow
  | none => t.formRecord r.plan r.kmap r.kj r.narrow

/-- A fence strikes a save (R203, R205, R206): the variant, then the keeper plan, then a substitution; an abandoned save is reported by its reason. Under the keeper plan the sheaf in flight is re-laid as a narrow sheaf. -/
def State.saveFence (s : State) : State × Option Nat :=
  match s.sav.run with
  | none => (s, none)
  | some r =>
    let fenced := s.planFenced
    let t := s.setFld SAV_FENCED (s.fld SAV_FENCED ||| s.planMask)
    if r.plan = 0 && fenced.length = 1 then (t.savePlan { r with plan := planFor fenced false }, none)
    else if r.plan ≠ 18 && decide (r.plan = fenced.headD 17 + 1) && fenced.length = 1 then (t, none)
    else match keeperMap fenced r.kmap with
      | none => (t, some 0)
      | some km =>
        if r.plan = 18 && km = r.kmap then (t, none)
        else
          let r := if r.plan = 18 then r else t.keeperBudget r
          (((t.showKmap km).savePlan { r with plan := 18, kmap := km, flight := none }).takeFlight, none)

end Sys2Proof.Machine
end

