-- ==== Sys2Proof/Machine/Flow.lean ====
section
/-! DEFINITION. The flow between modes: what a power-up starts from, off, shut-down, save triggers and the freeze, fences, service, lull, rebound and keeper mode, and how a register write is stored (R9, R21 to R36, R130 to R143, R367 to R388, R433 to R436, R460). -/

namespace Sys2Proof.Machine

open Reg

/-- A directory entry of the boot anchor: page, LEN, GEN and SHA-256; by twin and sheaf, 0 the firmware, 1 slot 0, 2 slot 1 (Table 9-9). -/
def BootAnchor.entry (b : BootAnchor) (twin sheaf : Nat) : Option (Nat × Nat × Nat × List Byte) := smapFind b.dir (twin * 3 + sheaf)

/-- GEN of a directory entry; 0 where it has none. -/
def BootAnchor.gen (b : BootAnchor) (twin sheaf : Nat) : Nat := ((b.entry twin sheaf).map (fun e => e.2.2.1)).getD 0

/-- The active generation: that of the slot that the anchor selects (R284). -/
def BootAnchor.active (b : BootAnchor) : Nat := b.gen b.twin (1 + b.slot)

/-- The previous generation: slot 1 of the active twin when slot 0 is selected, and none otherwise (R284). -/
def BootAnchor.prev (b : BootAnchor) : Nat := if b.slot = 0 then b.gen b.twin 2 else 0

/-- The staged generation: slot 0 of the inactive twin when its generation exceeds HIGH_GEN (R284). -/
def BootAnchor.staged (b : BootAnchor) : Nat := let g := b.gen (1 - b.twin) 1; if b.high < g then g else 0

/-- The staged generation as flash holds it: none while the inactive twin has been erased and not completed (R248, R285). -/
def State.stagedGen (s : State) (b : BootAnchor) : Nat :=
  if (smapFind s.flash.twins ((1 - b.twin) * 3 + 1)).isSome then b.staged else 0

/-- The generation registers and the count of failed attempts, from the boot anchor in force (Tables 8-14, 8-16). -/
def State.showGens (s : State) : State :=
  match s.flash.boot with
  | none => s
  | some b =>
    let g := s.stagedGen b
    let t := (((s.setFld PLN_GEN_ACTIVE b.active).setFld PLN_GEN_PREV b.prev).setFld PLN_GEN_STAGED g).setFld PLN_GEN_HIGH b.high
    (t.setFlag PLN_STS_STAGED (decide (g ≠ 0))).setFld PLN_ATTACH (min b.fails 15)

/-- A register word after a write to one of its fields by the field's access code (R9): a value outside the field's range leaves it as it was (DESIGN CHOICE where the field's table gives a range alone, log entry 89); `sp` lets the configuration image write its own fields. -/
def storeField (sp : Bool) (a : Nat) (v w : Word) (r : FRow) : Word :=
  let f : Fld := ⟨a, r.fld.lo, r.fld.w⟩
  let x := fldOf v f
  let fits := decide (r.vmin ≤ x) && decide (x ≤ r.vmax)
  match r.acc with
  | .rw => if fits then fldIns w f x else w
  | .sp => if sp && fits then fldIns w f x else w
  | .w1c => w &&& ~~~(v &&& fldMask f)
  | .w1cCount => if x = 0 then w else fldIns w f 0
  | _ => w

/-- The nibbles of FLT_REACT whose kinds are fixed (Table 14-14). -/
def fixedReact (a : Nat) : Word := if a = 0x21100 then 0x00FF0000 else if a = 0x21104 then 0x000F0FFF else if a = 0x21114 then 0x00000FF0 else 0

/-- What a written word becomes where the spec replaces a value: FLT_PIN.PIN_SEV 0 or 1 is taken as 2 (Table 14-12), the fixed kinds of FLT_REACT keep 0xF, and RETRY on a persistence rail loads as GROUP (R383). -/
def takenAs (a : Nat) (old w : Word) : Word :=
  if a = 0x21008 then (if fldOf w FLT_PIN_PIN_SEV < 2 then fldIns w FLT_PIN_PIN_SEV 2 else w)
  else if 0x21100 ≤ a ∧ a < 0x21120 then (old &&& fixedReact a) ||| (w &&& ~~~(fixedReact a))
  else
    (List.range 14).foldl (fun (x : Word) r =>
      if a = (PWR_RAIL_CFG_ACT r).addr ∧ fldOf x (PWR_RAIL_CFG_ACT r) = 1 then fldIns x (PWR_RAIL_CFG_ACT r) 2 else x) w

/-- SAV_CTL.RST_DISCARD is writable only in the attach TRAIN and LEARN phases (R214, Table 7-9). -/
def State.discardHeld (s : State) : Bool := !(s.sys.mode = .attach && (s.sys.phase = .train || s.sys.phase = .learn))

/-- Store a word in a register by the access codes of its fields (R9). -/
def State.storeWord (s : State) (sp : Bool) (a : Nat) (v : Word) : State :=
  let w := takenAs a (s.word a) ((rowsAt a).foldl (storeField sp a v) (s.word a))
  s.setWord a (if a = 0x9000 && s.discardHeld then fldIns w SAV_CTL_RST_DISCARD (fldOf (s.word a) SAV_CTL_RST_DISCARD) else w)

/-- A register write with no behaviour of its own. -/
def State.storeReg (s : State) (a : Nat) (v : Word) : State := s.storeWord false a v

/-- The registers that domain 0 keeps through off: blocks SPT and DOM, and CFG_CAUSE (R460, R466). -/
def keptReg (a : Nat) : Bool := decide (a = 0x1004) || (decide (0x24000 ≤ a) && decide (a < 0x26000))

/-- Everything but domain 0, the one-time stores, the flash array and the pins is lost (R367, R460). What domain 0 shows of units that are off reads as with nothing running (log entry 45). -/
def State.wiped (s : State) : State :=
  let z := State.reset
  let t : State := { z with
    sys := { z.sys with hReset := s.sys.hReset }, flash := s.flash, nv := { s.nv with wsWritten := 0 }, tap := s.tap, pending := s.pending,
    clk := { z.clk with present := s.clk.present },
    evr := { z.evr with failedBank := s.evr.failedBank, bothFailed := s.evr.bothFailed },
    pwr := { z.pwr with vaon := s.pwr.vaon, startExpired := s.pwr.startExpired, backoff := s.pwr.backoff },
    regs := s.regs.filter (fun e => keptReg e.1) }
  let t := (((t.setWord 0x24000 0).setWord 0x24004 (resetWord 0x24004)).setFlag SPT_STS_SAVE_DECIDED false).setFlag SPT_STS_SP_LOADED false
  (((t.setFlag SPT_STS_PTAB_OK false).setFlag SPT_STS_CORNER_OK false).setFlag SPT_PTAB_CTL_BURNING false).setFlag SPT_PTAB_CTL_REJECTED false

/-- Off is entered with a cause (R368, R381, R466). The start timer runs when off ends a shut-down or follows a power-table failure; k rises after a rail that failed to come up. -/
def State.enterOff (s : State) (cause : Nat) : State :=
  let k := if s.pwr.railFailed then min (s.pwr.backoff + 1) 6 else s.pwr.backoff
  let held := s.pwr.startExpired && (cause == 3 || cause == 8)
  let t := ((s.setFld CFG_CAUSE_OFF_MODE (modeCode s.sys.mode)).setFld CFG_CAUSE_OFF_CAUSE cause).tornPrograms.wiped
  ({ t with pwr := { t.pwr with backoff := k, startExpired := held } } : State).setFld SPT_STS_SEQ 0

/-- PLN_ATTACH shows the count of failed attempts (Table 8-16). -/
def State.showFails (s : State) : State := s.setFld PLN_ATTACH (min ((s.flash.boot.map (·.fails)).getD 0) 15)

/-- An attach attempt that ends through a save trigger or a loss of feed does not count as failing (R252): the count that the power-up took is given back, in a boot anchor of its own (R285, log entry 46). -/
def State.attemptUncount (s : State) : State :=
  if !s.sys.attempt then s
  else
    (({ s with sys := { s.sys with attempt := false } } : State).writeBoot (fun (b : BootAnchor) => { b with fails := b.fails - 1 })).showFails

/-- An attach attempt fails (R252): the count taken at power-up stands, and the ledger takes it with the outcome 1. -/
def State.attachAttemptFailed (s : State) : State :=
  let t : State := { s with sys := { s.sys with attempt := false } }
  if s.sys.attempt then t.commitNow (.attach ((s.flash.boot.map (·.fails)).getD 0) 1) else t

/-- Neither feed holds the supply (R387, Table 1-6): off at once. -/
def State.supplyLost (s : State) : State :=
  s.attemptUncount.enterOff (if s.inMode [.save, .shutDown] then 3 else 8)

/-- VAON falls (R367, R455, R460): domain 0 returns to its reset values, and the start timer loses k and expires when VAON next rises. -/
def State.domain0Reset (s : State) : State :=
  { s with regs := [], tap := State.reset.tap, pwr := { s.pwr with vaon := false, startExpired := true, backoff := 0 },
           evr := { s.evr with failedBank := 0, bothFailed := false } }

/-- A loss of VAON in a burn leaves a partial table that is not blank and fails its CRC (R470). -/
def State.partialBurn (s : State) : State := { s with nv := { s.nv with torn := true } }

/-- The one-time store is blank (R470). -/
def State.ptabIsBlank (s : State) : Bool := ptabBlank s.nv.ptab && !s.nv.torn

/-- The power table passes its check (R382, R469). -/
def State.ptabGood (s : State) : Bool := ptabOk s.nv.ptab && !s.nv.torn

/-- What a cold power-up starts from (R367, R379, R460): the tick is 0 and every register outside domain 0 has its reset value. -/
def State.coldReset (s : State) : State := s.wiped.setFld SPT_STS_SEQ 1

/-- The event recorder's regions at power-up (R454): the spare region while LOG_MAIN_BAD is 1; after a failure of both, a fresh trial of the original. -/
def State.logPowerUp (s : State) : State :=
  if s.evr.bothFailed then
    ({ s with evr := { s.evr with bothFailed := false, failedBank := 0 } } : State).setFlag SPT_STS_LOG_MAIN_BAD false
  else if s.flag SPT_STS_LOG_MAIN_BAD then
    (s.setFlag EVR_STS_SPARE_IN_USE true).note 0x006C 145 (leBytes 1 s.evr.failedBank)
  else s

/-- The move of the log at a configuration (R454): a failed original region is left for the spare one; the move clears the log and ends the fence. -/
def State.logRelocate (s : State) : State :=
  if !s.flag EVR_STS_FENCED || s.evr.bothFailed then s
  else
    let t := { s with evr := { s.evr with log := [] }, flt := { s.flt with fenced := s.flt.fenced.filter (fun x => decide (x.1 ≠ UnitRow.recorder)) } }
    ((t.setFlag EVR_STS_FENCED false).setFlag EVR_STS_SPARE_IN_USE true).note 0x006C 145 (leBytes 1 s.evr.failedBank)

/-- The bytes of the first `n` entries of the fused corner table. -/
def State.cornerBytes (s : State) (n : Nat) : List Byte := (List.range n).flatMap (fun i => leBytes 4 (s.corner i))

/-- The power-up check of the corner table (R235). -/
def State.cornerCheck (s : State) : State :=
  if (crc32c (s.cornerBytes 255)).toNat = s.corner 255 then s.setFlag SPT_STS_CORNER_OK true
  else (s.setFlag PLN_STS_CORNER_BAD true).report .cornerCrc 0 0 0

/-- A blank power table holds the sequencer; nothing is reported and no rail is enabled (R470). -/
def State.blankHold (s : State) : State := s.setFld SPT_STS_SEQ 7

/-- GATE_A or GATE_B is on: power-up is past step 3 of Table 13-6, and neither off nor its early steps hold the reset outputs low (Table 13-8). -/
def State.gatesSet (s : State) : Bool := s.flag PWR_FEED_STS_GATE_A || s.flag PWR_FEED_STS_GATE_B

/-- End the packets that wait for the capacitance test (R394, R396, Tables 4-7, 13-11): a failure gives NOT_PERMITTED with its reason; a test with results gives them, with PACK_SHORT when the admitted deadline is no longer met. -/
def State.packTestEnd (s : State) (reason : Nat) : State :=
  let s := if s.sys.mode = .powerUp then { s with pwr := { s.pwr with bootDone := true } } else s
  let res := leBytes 4 (s.fld PWR_PACK_C) ++ leBytes 4 (s.fld PWR_PACK_ESR) ++ leBytes 4 s.usableEnergy
  let d := if s.flag PLN_STS_PACK_SHORT then some s.packDetail else none
  (s.waiting 0x13).foldl (fun (u : State) e =>
    if reason = 0 ∨ reason = 6 then
      (match d with | some x => u.complete e stPackShort res (noByte + x) | none => u.complete e stOk res noByte)
    else u.complete e stNotPermitted [] (noByte + reason)) s

/-- Start a capacitance test (R392, Table 13-10): PK_STATUS is read; no answer (to PK_STATUS, or to the PK_CHG_EN 0 that follows it) or FAULT ends it, else the charger is turned off. It needs feed A good (Table 13-1) and no test in progress. -/
def State.packTestStart (s : State) (k : PackTestKind) (answer : Option PackStatus) : State :=
  if s.pwr.test.isSome || !s.flag PWR_FEED_STS_A_GOOD then s
  else match answer with
    | none => (s.packTestFail 1).packTestEnd 1
    | some a =>
      let t := (s.setFlag PWR_PACK_STS_CHARGED a.charged).setFlag PWR_PACK_STS_PACK_FAULT a.fault
      if a.fault then (t.packTestFail 2).packTestEnd 2
      else
        let t := t.setFlag PWR_PACK_STS_TESTING true
        { t with pwr := { t.pwr with test := some (k, .settling), charger := false } }

/-- Every CLEAN state of a run that reads the DRAM for a restore ends (R221). -/
def State.restoreStop (s : State) : State :=
  if s.flag SAV_STS_RESTORING then (((({ s with sav := { s.sav with rstMasks := [] } } : State).setFlag SAV_STS_RESTORING false).setFld SAV_STS_STAGE 0).setFld SAV_STS_PLAN 0x1F).giveDram else s

/-- A loopback run ends early: its results are discarded (R69). -/
def State.loopAbort (s : State) : State :=
  if !s.hbp.loopHost && !s.hbp.loopDram then s
  else (({ s with hbp := { s.hbp with loopHost := false, loopDram := false } } : State).setFlag HBP_LOOP_STS_BUSY false).setFlag HBP_LOOP_STS_LAST_ABORTED true
    |>.clockBack

/-- Both parity blocks are cleared (R70, R72). -/
def State.clearBlocks (s : State) : State := (s.setFlag HBP_PAR_STS_BLOCK_A false).setFlag HBP_PAR_STS_BLOCK_B false

/-- Move the sequencer of a shut-down on while no rail of its stage is awaited (R384): the next lower stage, rebound before the DRAM point (R386), or off after stage 0. -/
def State.shutAdvance (s : State) : Nat → State
  | 0 => s
  | n + 1 =>
    if s.pwr.waiting ≠ 0 then s
    else
      let st := s.fld PWR_SEQ_STS_STAGE
      if st = 0 then s.enterOff s.pwr.offCause else (s.lowerStage (st - 1)).shutAdvance n

/-- Shut-down begins (R130, R370, R384, R385): the packets and statuses that wait are lost, RSTO_AUX_n falls, GATE_B is GATE_A's opposite, and stage 7 is lowered. `past` marks one that has passed its DRAM point from its start. -/
def State.shutDownStart (s : State) (cause : Nat) (past : Bool) : State :=
  let t := ((s.restoreStop.learnStop 5).loopAbort.trainHalt).trainLeave
  let t := (((t.setMode .shutDown).setFlag SAV_CTL_RST_DISCARD false).setFld SPT_STS_SEQ 6).packetsLost
  let t := (t.giveDram).enterSelfRef
  let t := { t with pwr := { t.pwr with waiting := 0, failed := 0, retries := [], lowest := 8, dramPoint := past, offCause := cause } }
  let t := ((t.setFlag PWR_RSTO_AUX_LOW true).setFld PWR_SEQ_STS_STATE 3)
  let t := if t.flag PWR_FEED_STS_GATE_A then t.setFlag PWR_FEED_STS_GATE_B false else t.gateBOn
  (t.lowerStage 7).shutAdvance 9

/-- Shut-down may turn back (R386): feed A good before the DRAM point, and KEEPER 0. -/
def State.canRebound (s : State) : Bool :=
  s.sys.mode = .shutDown && !s.pwr.dramPoint && !s.flag CFG_MODE_KEEPER && s.flag PWR_FEED_STS_A_GOOD

/-- The mode becomes rebound (R222, Table 7-7 steps 1 and 3): the DRAM is in self-refresh, and PLL_H locks to the host clock where it is present. RSTO_AUX_n is low where a re-sequence is to run (R390; a rebound with nothing to sequence has none: DEDUCED, log entry 115). -/
def State.reboundEntry (s : State) : State :=
  let t := ((s.setMode .rebound).giveDram).enterSelfRef
  let t := if t.reseqStage ≤ 7 then t.setFlag PWR_RSTO_AUX_LOW true else t
  let t := t.setFld SPT_STS_SEQ 4
  let t := t.setFlag CLK_STS_COAST false
  if t.clk.present && (t.clk.h ≠ .locked || s.flag CLK_STS_COAST) then t.lockH else t

/-- A rail of the present shut-down stage is discharged (R384); one that a running-rail action turned off is simply down. -/
def State.railDown (s : State) (r : Nat) : State :=
  if s.sys.mode ≠ .shutDown || !railIn s.pwr.waiting r then s
  else ({ s with pwr := { s.pwr with waiting := s.pwr.waiting &&& ~~~(railBit r) } } : State).shutAdvance 9

/-- A trigger sets its SEEN bit (Table 16-7). -/
def State.seen (s : State) (code : Nat) : State := s.setBit SPT_TRIG_SEEN (code - 1) true

/-- A trigger that makes no save in save or shut-down (R24): IGNORED, and a TRIGGER_IGNORED record. -/
def State.ignoreTrigger (s : State) (code : Nat) : State :=
  (s.setFlag SPT_TRIG_IGNORED true).note 0x006D 0 (leBytes 1 code ++ leBytes 1 (modeCode s.sys.mode))

/-- A SAVE_NOW that waits when its save is abandoned is lost with every unposted status (R130). -/
def State.saveAbandon (s : State) (reason : Nat) : State := (s.saveDrop reason).shutDownStart 6 true

/-- F of a freeze that begins now (R137, R143): the stamp of the last command forwarded, and in lull that of the last command before self-refresh entry, unless an exit has crossed. -/
def State.freezeStamp (s : State) : Nat := if s.sys.mode = .lull && s.bdc.handbackWait.isNone then s.per.lullF else s.horizon

/-- A CONFIG_STAGE with OFFSET 0 that is in execution at the freeze stops without effect while its twin's erase has not been issued (R130): what it put aside is back, and neither the erase nor its intent stands. Once the erase is under way the staged image is gone. -/
def State.stageUndo (s : State) : State :=
  match s.pln.undo, s.flash.boot with
  | some (g, tw), some b =>
    let n := s.flo.org.systemStook (1 - b.twin)
    if s.flo.erases.any (fun j => decide (j.stook = n) && j.issued) then { s with pln := { s.pln with undo := none } }
    else
      let t : State := { s with
        pln := { s.pln with staging := g, undo := none },
        flash := { s.flash with twins := tw.foldl (fun m x => smapPut m x.1 x.2) s.flash.twins },
        flo := { s.flo with erases := s.flo.erases.filter (fun j => decide (j.stook ≠ n)), org := { s.flo.org with intents := smapDel s.flo.org.intents n },
                            pendingRecs := s.flo.pendingRecs.filter (fun e => match e.body with | .eraseIntent es => !es.any (fun x => decide (x.1 = n)) | _ => true) } }
      t.showGens
  | _, _ => s

/-- Steps 3 and 4 of the freeze (Table 5-2, R32, R70, R130, R143, R144, R174, R197): F is fixed at `f`, a DRAM-side training run stops and its lines are back, harvest stops, the dirty marks are applied, and the glean, seal and packet engines and the flash queues halt. -/
def State.freeze (s : State) (f : Nat) : State :=
  let t := (((s.harvestFreeze.loopAbort.trainHalt).clearBlocks).trainLeave).hopD (s.fld TRN_STS_ACTIVE_SP)
  let t := { t with per := { t.per with freezeF := f }, bdc := { t.bdc with handbackWait := none } }
  let t := (((t.setFlag PER_STS_FROZEN true).setFld PER_FREEZE_LO f).setFld PER_FREEZE_HI (f / 2 ^ 32)).note 0x005B 135 (leBytes 8 f ++ leBytes 4 t.epoch)
  ((((((t.applyMarks).undelete).gleanFreeze).sealFreeze).stageUndo).packetFreeze).fceWithdraw

/-- The safety partition decides to save (R24, R140, R371, R396, R497): the decision is noted, a capacitance test is abandoned, the test access port is reset, the power path switches to feed B, and the freeze chain and the save start. -/
def State.saveTaken (s : State) (code : Nat) (keeper : Bool) : State :=
  let t := ((s.bump SPT_TRIG_DECISIONS 1).setFld SPT_TRIG_FIRST code).setFld SPT_TRIG_SEEN (2 ^ (code - 1))
  let t := { (t.setFlag SPT_STS_SAVE_DECIDED true) with tap := { s.tap with instr := .idcode } }
  let t := if t.pwr.test.isSome then (t.packTestFail 7).packTestEnd 7 else t
  let t := (t.switchToB.setMode .save).setFlag SAV_STS_REBOUND_WAIT false
  (t.freeze s.freezeStamp).saveBegin keeper

/-- The save that a decision starts; a swath too small, or too few channels, abandons it at once (R206, R269). -/
def State.saveDecide (s : State) (code : Nat) (keeper : Bool) : State :=
  let t := s.saveTaken code keeper
  match t.saveImpossible with
  | some r => t.saveAbandon r
  | none => t

/-- Whether keeper mode was entered from power-up or attach (R435). -/
def State.keeperEarly (s : State) : Bool := s.sys.mode = .keeper && s.sys.keeperFrom = .early

/-- A save trigger at the safety partition (R24, R28, R418, R435, R493, Table 1-6). Codes as SPT_TRIG.FIRST; a feed-A trigger without a kite or in a switch-over gap is code 4. With NO_PLAN it shuts down as a feed-A trigger does, also in keeper mode entered from service or lull (DESIGN CHOICE, log entry 90). -/
def State.trigger (s : State) (code0 : Nat) : State :=
  let code := if code0 = 1 && (!s.kiteHeld || s.inGap) then 4 else code0
  match s.sys.mode with
  | .off => s
  | .save => (s.seen code).ignoreTrigger code
  | .shutDown => s.ignoreTrigger code
  | m =>
    let early := decide (m = .powerUp) || decide (m = .attach) || s.keeperEarly
    let noPlan := s.flag CFG_MODE_NO_PLAN
    if (code = 2 && (decide (m = .powerUp) || noPlan)) || (noPlan && !early && code ≠ 1 && code ≠ 4) then s.setFlag SPT_TRIG_IGNORED true
    else if early then
      let t := if m = .keeper then s.switchToB else s.attemptUncount
      t.shutDownStart 4 true
    else if noPlan then ((s.setFlag SPT_TRIG_IGNORED true).harvestStop.switchToB).shutDownStart 4 true
    else s.saveDecide code (decide (m = .keeper))

/-- SAVE_NOW's trigger (R24, R125): the packet waits for the return to service; where no save or shut-down follows it is refused as its mode check would refuse it. -/
def State.saveNowRun (s : State) (e : ExecPkt) : State :=
  let t := (s.startExec e 0).trigger 3
  if t.inMode [.save, .shutDown] then t
  else t.completeLive { e with started := true } (if t.flag CFG_MODE_NO_PLAN then stNotPermitted else stBusy) [] noByte

/-- An ear of a granule's harvest sheaf is in flight on a channel (R344). -/
def HarvestJob.earOn (j : HarvestJob) (ch : Nat) : Bool :=
  j.sheaf.any (fun a => (List.range 17).any (fun k => decide (earChannel a k = ch) && !j.ears.getLsbD k))

/-- Granules whose harvest sheaf had an ear in flight on a fenced channel return to DIRTY (R344). -/
def State.harvestFence (s : State) (ch : Nat) : State :=
  let t := (s.bdc.jobs.filter (·.earOn ch)).foldl (fun (u : State) j => if u.dstate j.g = .flushing then u.setD j.g .dirty else u) s
  { t with bdc := { t.bdc with jobs := t.bdc.jobs.filter (fun j => !j.earOn ch) } }

/-- A fence strikes a restore (R217, R220, R221): what the channel holds of the granules still to be restored is rebuilt or LOST, and the variant is in force from the first fence on. -/
def State.restoreFence (s : State) (n : Nat) : State :=
  if !s.flag SAV_STS_RESTORING then s
  else
    let t : State := { s with sav := { s.sav with rstMasks := s.sav.rstMasks ++ [(s.fld SAV_RST_DONE, s.fencedMask)] } }
    let t := t.setFld SAV_FENCED (t.fld SAV_FENCED ||| t.fencedMask)
    if t.fld SAV_STS_PLAN = 0 then t.setFld SAV_STS_PLAN (n + 1) else t

/-- A fence strikes a thresh (R207, R228): copies not yet confirmed take the form of the plan without the channel. -/
def State.threshFence (s : State) : State :=
  if s.flag SAV_STS_THRESHING then s.setFld SAV_FENCED (s.fld SAV_FENCED ||| s.fencedMask) else s

/-- A channel is fenced (R320, R203 to R208, R221, R228, R344, Table 6-3): the engine stops, glean ears in flight are losses, harvest sheaves in flight are void, and a save takes the plan that the fences now select or is abandoned. No `cause` marks a fence by FCE_CTL. -/
def State.fenceChannel (s : State) (n : Nat) (cause : Option FenceCause) : State :=
  let c := s.chan n
  let t := match cause with
    | none => (s.setChan n { c with softEnded := false }).setFlag (FCE_STS_SOFT_FENCE n) true
    | some x => s.setChan n { c with causes := c.causes ++ [x] }
  if t.flag (FCE_STS_FENCED n) then t
  else
    let t := ((t.fenceEngine n).gleanFenceChannel n).harvestFence n
    let t := ((t.anchorFence n).restoreFence n).threshFence
    if t.sys.mode ≠ .save then t
    else match t.saveFence with
      | (u, some r) => u.saveAbandon r
      | (u, none) => u

/-- FCE_FENCE (R320): a software fence. -/
def execFceFence (ch : Fin 17) (s : State) : Host.Outcome State Fault Refusal :=
  if s.inMode [.off, .powerUp] then .next s else .next (s.fenceChannel ch.val none)

/-- A running fault of a good rail (R383, R384, R500): its fail bit is set and RAIL_FAULT is reported, and the rail is no longer good unless a latched STATUS bit alone shows the fault; the reaction is the fault collector's. In shut-down it is counted and has no other effect. -/
def State.railRunningFault (s : State) (r : Nat) (latched : Bool) : State :=
  if s.sys.mode = .shutDown then s.bump PWR_SEQ_STS_GLITCH 1
  else
    let t := (if latched then s else s.setRailGood r false).setRailFail r
    t.reportSev (if railPersist r then .critical else .fault) .railFault (railSource r) (railQual r + (if latched then 256 else 0)) 0

/-- A cause of a channel's fence ends (R321). -/
def State.dropCause (s : State) (ch : Nat) (x : FenceCause) : State :=
  if (s.chan ch).causes.contains x then s.setChan ch { (s.chan ch) with causes := (s.chan ch).causes.filter (fun y => decide (y ≠ x)) } else s

/-- A RETRY try succeeds (Table 13-7): the cause of RAIL_FAULT is gone, and a load switch's channel returns at the next plan boundary. -/
def State.railRetryOk (s : State) (r : Nat) : State :=
  let t : State := { s with pwr := { s.pwr with retries := smapDel s.pwr.retries r, shutByAction := s.pwr.shutByAction &&& ~~~(railBit r) } }
  if r < 16 then t else t.dropCause (r - 16) .retry

/-- The rails that the GROUP action of a capacity rail shuts down (Table 13-7): every existing capacity rail of its group; a load switch goes alone. -/
def State.groupRails (s : State) (r : Nat) : List Nat :=
  if 16 ≤ r then [r]
  else [14, 15].filter (fun k => s.railExists k && decide (s.fld (PWR_RAIL_CFG_GROUP k) = s.fld (PWR_RAIL_CFG_GROUP r)))

/-- Turn off rails by an action; a load switch takes its channel with it, for the cause given (Table 13-7). -/
def State.railsOff (s : State) (rs : List Nat) (x : FenceCause) : State :=
  rs.foldl (fun (u : State) r =>
    let u := u.dropRail r
    let u := { u with pwr := { u.pwr with shutByAction := u.pwr.shutByAction ||| railBit r } }
    if 16 ≤ r then u.fenceChannel (r - 16) (some x) else u) s

/-- The incident of a rail's RAIL_FAULT: the owner of its shadow, or the one that it opened; 0 where neither stands. -/
def State.railIncident (s : State) (r : Nat) : Nat :=
  match s.flt.shadows.find? (fun x => decide (x.unit = .rail r)) with
  | some x => x.owner
  | none => ((s.flt.slots.find? (fun x => decide (x.2.first.kind = .railFault) && decide (x.2.first.source.val = railSource r))).map (fun x => x.2.num)).getD 0

/-- A RETRY try is lost (Table 13-7): after the third it is handled as GROUP, whose rails the shadow then covers (Table 14-6). -/
def State.railRetryLost (s : State) (r : Nat) : State :=
  let left := (smapFind s.pwr.retries r).getD 0
  let t := s.dropRail r
  if 1 < left then { t with pwr := { t.pwr with retries := smapPut t.pwr.retries r (left - 1) } }
  else
    let rs := t.groupRails r
    let x := FenceCause.incident (s.railIncident r)
    let t := if 16 ≤ r then t.dropCause (r - 16) .retry else t
    ({ t with pwr := { t.pwr with retries := smapDel t.pwr.retries r },
              flt := { t.flt with shadows := t.flt.shadows.map (fun (x : Shadow) => if x.unit = .rail r then { x with rails := rs } else x) } } : State).railsOff rs x

/-- The action RETRY begins (Table 13-7): the rail alone is turned off, and three tries are left. -/
def State.railRetry (s : State) (r : Nat) : State :=
  let t := { s with pwr := { s.pwr with retries := smapPut s.pwr.retries r 3 } }
  t.railsOff [r] .retry

/-- A periodic test that fell due starts with feed A good (R392, Table 13-1); one that a test in progress overtakes is due no more. -/
def State.periodicStart (s : State) : State :=
  match s.pwr.periodicDue with
  | none => s
  | some a =>
    let t : State := { s with pwr := { s.pwr with periodicDue := none } }
    if s.pwr.test.isSome then t else if s.flag PWR_FEED_STS_A_GOOD then t.packTestStart .periodic a else s

/-- Entry into service from attach or rebound (R215, R252, R286, R396, Table 7-7): the SERVICE record, the end of the attach attempt, the pack's charger, a periodic test that fell due, and the suspended dispatch and erases. -/
def State.enterService (s : State) : State :=
  let fromRebound := decide (s.sys.mode = .rebound)
  let t := s.setMode .service
  let t := t.setFlag SAV_CTL_RST_DISCARD false
  let t := t.ledger (.service t.epoch t.tick)
  let t := if t.sys.attempt then
      (({ t with sys := { t.sys with attempt := false } } : State).writeBoot (fun (b : BootAnchor) => { b with fails := 0 })).showFails.commitNow (.attach 0 0)
    else t
  let t := { t with pwr := { t.pwr with charger := t.pwr.charger || t.pwr.test.isNone }, pkt := { t.pkt with halted := false },
                    sys := { t.sys with keeperTraining := false } }
  let t := if fromRebound then t.fceResumeAll else t
  t.periodicStart

/-- RESULT of a SAVE_NOW (Table 4-7): GEN, sheaves written and F, as its save's anchor left them in `aux`. -/
def saveNowResult (e : ExecPkt) : List Byte := leBytes 16 e.aux

/-- A thresh pauses: its registers keep their place (R228). -/
def State.threshPause (s : State) : State := if s.flag SAV_STS_THRESHING then s.setFld SAV_STS_STAGE 0 else s

/-- The DRAM loop returns to the active set point when it has been moved for a lull retrain that has not begun (R352). -/
def State.loopHome (s : State) : State := s.hopD (s.fld TRN_STS_ACTIVE_SP)

/-- Lull ends (R23, R69, R228, R41, R352): a loopback stops, a thresh pauses, the DRAM loop is at the active set point, and the next self-refresh exit's settings take effect. -/
def State.lullExit (s : State) : State := (((s.loopAbort.threshPause).setMode .service).loopHome).applyCaLat

/-- A handback that waits for PLL_H goes through once it is locked (R343). -/
def State.handbackReady (s : State) : State :=
  match s.bdc.handbackWait with
  | some ns => if s.hReady && s.inMode [.service, .lull] then (s.handbackEnd ns).lullExit else s
  | none => s

/-- Whether rebound's HANDOVER may go through (R222, R389): PLL_H locked, and every persistence rail good with the re-sequence over. -/
def State.reboundOk (s : State) : Bool := s.persistGood && decide (s.fld PWR_SEQ_STS_STATE = 2)

/-- Steps 5 and 6 of Table 7-7 (R222, R436): the DRAM leaves self-refresh and is the HBP's, and service resumes; in keeper mode entered from rebound the mode stays keeper, and dispatch resumes. A DRAM-side run in progress ends first, with its lines back in place (R144), as a set-point change ends it (DESIGN CHOICE, log entry 104). -/
def State.reboundDone (s : State) : State :=
  let s := s.trainAbandon
  let t : State := { s with trn := { s.trn with hop := false } }
  let t := ((t.giveDram).leaveSelfRef).applyCaLat
  let t := (((t.setFlag SAV_STS_REBOUND_WAIT false).setFlag PER_STS_FROZEN false).setFlag SPT_STS_SAVE_DECIDED false).trainLeave
  if t.sys.mode = .keeper then { t with sys := { t.sys with keeperFrom := .service }, pkt := { t.pkt with halted := false } }
  else
    let t := t.enterService
    (t.waiting 0x09).foldl (fun (u : State) e => u.complete e stOk (saveNowResult e) noByte) t

/-- A HANDOVER that rebound holds for the host clock completes once nothing keeps it (R222, R389). -/
def State.reboundReady (s : State) : State :=
  if s.flag SAV_STS_REBOUND_WAIT && s.hReady && s.reboundOk && (s.sys.mode = .rebound || s.sys.keeperFrom = .rebound) then s.reboundDone else s

/-- Self-refresh entry is complete on every rank (R23, R143, Tables 6-2, 14-6): lull, with `f` the stamp of the last command before the entry, every assembly slot closes, and the glean/harvest mover and the scrubber return from a FENCE. -/
def State.lullEntry (s : State) (f : Nat) : State :=
  let t : State := { s with flt := { s.flt with fenced := s.flt.fenced.filter (fun x => x.2.2 || decide (x.1 ≠ .hmover ∧ x.1 ≠ .scrubber)) } }
  ({ t with per := { t.per with lullF := f } } : State).setMode .lull |>.closeSlots

/-- A host command breaks the delay of R341 (R342): it is dropped, its sub-channel is blocked, ALERT_n pulses and HANDBACK_EARLY is reported. -/
def State.handbackBroken (s : State) (x : Sub) : State :=
  let t := s.setFlag (match x with | .a => HBP_PAR_STS_BLOCK_A | .b => HBP_PAR_STS_BLOCK_B) true
  let t := { t with hbp := { t.hbp with alertPulse := true } }
  (t.setFlag DCT_STS_HANDBACK_EARLY true).report .handbackEarly 140 0 0

/-- Whether a rebound still waits for its HANDOVER, in rebound or in keeper mode entered from it (R222, R223, R436). -/
def State.preHandover (s : State) : Bool := s.sys.mode = .rebound || (s.sys.mode = .keeper && s.sys.keeperFrom = .rebound)

/-- What becomes of a host command other than a control-word write that arrives before the host may send one: none where it goes on (R25, R31, R81, R223, R342, R435). `served` marks one that the active host training mode answers. R81 names the TRAIN phase; the LEARN phase with DRAM_READY = 0, after an SP_GO, is treated alike (DESIGN CHOICE, log entry 91). -/
def State.earlyCommand (s : State) (src : Nat) (x : Sub) (served : Bool) : Option State :=
  let early := some (s.note 0x0051 src [])
  if s.preHandover then (if served then none else early)
  else match s.sys.mode with
  | .attach =>
    match s.sys.phase with
    | .none | .decide => some s
    | .restore => early
    | _ =>
      if s.flag TRN_STS_DRAM_READY then none
      else
        let t := s.bump TRN_EARLY 1
        some (if t.trn.earlyNoted then t else ({ t with trn := { t.trn with earlyNoted := true } } : State).note 0x0056 src [])
  | .keeper => if s.sys.keeperFrom = .early then some s else none
  | .lull => if s.flag DCT_STS_HARVESTING then some (s.handbackBroken x) else none
  | _ => if s.bdc.handbackWait.isSome then some (s.handbackBroken x) else none

/-- Descriptors of the owners that keeper entry withdraws (Table 14-9 step 4, R298). -/
def State.keeperWithdraw (s : State) : State := s.queuesWithdraw (fun x => [1, 2, 5, 8].contains (dOwner x))

/-- Both cores are held in reset with their domains off: no kite, no gap, and the core packets in execution complete with KEEPER_MODE (Table 14-9, steps 2 and 5). -/
def State.coresStop (s : State) : State :=
  let t := { (s.setFlag SPT_KITE_GAP false) with kite := ⟨none, false, [], []⟩ }
  let t := ((((t.setFld SPT_KITE_HOLDER 0).setFld SPT_KITE_LEASE_LEFT 0).setFld SPT_HB_A_STATE 0).setFld SPT_HB_B_STATE 0)
  let t := (((t.setFlag SPT_HB_A_ALIVE false).setFlag SPT_HB_B_ALIVE false).setFlag SPT_KITE_COLD_A false).setFlag SPT_KITE_COLD_B false
  let t := t.postWithheld
  (t.pkt.exec.filter (fun e => coreOp (pktField e.bytes 0 1))).foldl (fun (u : State) e => u.complete e stKeeperMode [] (noByte + detInterrupted)) t

/-- Keeper mode is entered (R34, R418, R433 to R436, Table 14-9). In save only KEEPER is set; in shut-down and off nothing is done. -/
def State.keeperEnter (s : State) : State :=
  match s.sys.mode with
  | .off | .shutDown | .keeper => s
  | .save => s.setFlag CFG_MODE_KEEPER true
  | m =>
    let kf : KeeperFrom := if m = .powerUp || m = .attach then .early else if m = .rebound then .rebound else .service
    let t := ((s.learnStop 5).restoreStop.loopAbort)
    let t := t.trainHalt
    let t := if kf = .early then t.attachAttemptFailed.trainLeave else t
    let t := (((t.setMode .keeper).setFlag SAV_CTL_RST_DISCARD false).setFlag CFG_MODE_KEEPER true).setFld SPT_STS_SEQ 5
    let t := { t with sys := { t.sys with keeperFrom := kf, keeperTraining := false } }
    let t := t.gleanStop
    let t := (if t.flag DCT_STS_HARVESTING then t.harvestStop.giveDram else t).loopHome
    ((t.threshPause.keeperWithdraw).sealFence).coresStop

end Sys2Proof.Machine
end

