-- ==== Sys2Proof/Machine/Boot.lean ====
section
/-! DEFINITION. What the sequencer does at boot: the boot anchor, the attach count, the load of a twin and of its configuration, and the format of a blank module (R248 to R253, R284 to R287, R358, R438). -/

namespace Sys2Proof.Machine

open Reg

/-- One side of R358: a spread that the loop may run. -/
def sscOk (mode depth : Nat) (flash rate4 : Bool) : Bool :=
  decide (depth ≤ 10) && (decide (mode ≤ 1) || (flash && decide (mode = 2) && !rate4))

/-- Load CLK_SSC at power-up (R358): a setting that breaks a condition is loaded as no spread and reported, loop by loop. -/
def State.loadSsc (s : State) (v : Word) : State :=
  let x := v.toNat
  let rate4 := (List.range 17).any (fun ch => decide (natBits (s.word (0x10008 + 0x1000 * ch)).toNat 16 3 = 4))
  let fOk := sscOk (natBits x 12 2) (natBits x 8 4) true rate4
  let dOk := sscOk (natBits x 4 2) (natBits x 0 4) false false
  let t := (s.setFld CLK_SSC_F_FREQ (if fOk then natBits x 14 2 else 0)).setFld CLK_SSC_F_MODE (if fOk then natBits x 12 2 else 0)
  let t := t.setFld CLK_SSC_F_DEPTH (if fOk then natBits x 8 4 else 0)
  let t := (t.setFld CLK_SSC_D_FREQ (if dOk then natBits x 6 2 else 0)).setFld CLK_SSC_D_MODE (if dOk then natBits x 4 2 else 0)
  let t := t.setFld CLK_SSC_D_DEPTH (if dOk then natBits x 0 4 else 0)
  let refuse := fun (u : State) (ok : Bool) => if ok then u else (u.setFlag CLK_STS_SSC_REFUSED true).report .sscRefused 0 0 0
  refuse (refuse t fOk) dOk

/-- One pair of the settings (Table 8-1). A pair that R314 refuses is skipped and reported. HBP_GEOM never changes (Table 8-10), CLK_SSC loads at power-up alone (R358), CLK_SP_USER follows R354, and the last-resort log holds entries only (R455). -/
def State.loadSetting (s : State) (x : Nat × Word) : State :=
  let a := x.1
  let off := a % 0x1000
  if a = 0x2008 ∨ a = 0xE008 ∨ (0x24100 ≤ a ∧ a < 0x24140) then s
  else if 0x10000 ≤ a ∧ a < 0x21000 ∧ 8 ≤ off ∧ off ≤ 0x14 ∧ off % 4 = 0 then
    let ch := (a - 0x10000) / 0x1000
    let r := s.writeIf ch ((off - 8) / 4) x.2
    if r.2 then r.1 else r.1.report .waitRefused (63 + ch) 0 0
  else if 0xE00C ≤ a ∧ a < 0xE018 then s.writeUserSp ((a - 0xE00C) / 4) x.2
  else
    let t := s.storeWord true a x.2
    if a = 0x4000 then t.verifyKept (s.flag CLN_CTL_VERIFY_GLEAN) else t

/-- The plan store and the settings of a configuration image load (Table 8-10, first row). -/
def State.loadConfig (s : State) (m : List Byte) : State :=
  let t := { s with pln := { s.pln with image := m, priced := [] } }
  let t := if 1 ≤ leField m 32 2 ∧ leField m 32 2 ≤ 20000 then t.setFld GLN_RATION_MBS (leField m 32 2) else t
  let t := if 1 ≤ leField m 34 1 ∧ leField m 34 1 ≤ 20 then t.setFld GLN_RATION_LIFE_Y (leField m 34 1) else t
  let t := (t.setFld PLN_POWER_SAVE (imgPSave m)).setFld PLN_POWER_KEEPER (imgPKeeper m)
  (imgSettings m).foldl State.loadSetting t

/-- What loads at a power-up alone (Table 8-10, second row). -/
def State.loadCold (s : State) (m : List Byte) : State :=
  let t := (s.setFlag PKT_PAP_EN (decide (natBits (leField m 40 4) 31 1 = 1))).setFld PKT_PAP_BASE (natBits (leField m 40 4) 0 19)
  let t := (t.setFlag PKT_SAP_EN (decide (natBits (leField m 44 4) 31 1 = 1))).setFld PKT_SAP_BASE (natBits (leField m 44 4) 0 19)
  let t := t.setFld GLN_RESERVE_STOOKS (leField m 36 2)
  match (imgSettings m).find? (fun e => decide (e.1 = 0xE008)) with
  | some e => t.loadSsc e.2
  | none => t

/-- What of a twin is found in flash: a sheaf whose SHA-256 is as its directory entry says (R286). -/
def State.twinSheaf (s : State) (bad : BitVec 6) (key : Nat) : Option (List Byte) :=
  if bad.getLsbD key then none else smapFind s.flash.twins key

/-- The configuration image of the selected slot, from its twin or from the other twin where a directory entry there carries the same generation (R286). -/
def State.bootImage (s : State) (b : BootAnchor) (bad : BitVec 6) : Option (List Byte) :=
  let g := b.active
  let o := 1 - b.twin
  let keys := (b.twin * 3 + 1 + b.slot) :: ([1, 2].filter (fun k => decide (b.gen o k = g))).map (fun k => o * 3 + k)
  keys.findSome? (s.twinSheaf bad)

/-- The firmware of the selected twin, from that twin or from the other where the same firmware stands there; empty is the loader (R286, R287). -/
def State.bootFw (s : State) (b : BootAnchor) (bad : BitVec 6) : Option (List Byte) :=
  let o := 1 - b.twin
  match s.twinSheaf bad (b.twin * 3) with
  | some x => some x
  | none => if b.entry o 0 = b.entry b.twin 0 then s.twinSheaf bad (o * 3) else none

/-- The control cores are released (Tables 1-3, 13-6 step 8): both hold the firmware and are STARTING, and an attach attempt begins (R252, R426). -/
def State.releaseCores (s : State) : State :=
  let t := ((s.setFld SPT_HB_A_STATE 1).setFld SPT_HB_B_STATE 1).lockF
  { t with sys := { t.sys with attempt := true }, kite := { t.kite with mem := [(0, t.pln.fw), (1, t.pln.fw)] } }

/-- The boot epoch is fixed (R438): records made before receive it. -/
def State.fixEpoch (s : State) (n : Nat) : State :=
  let t := (s.setFld EVR_EPOCH n).setFlag EVR_STS_EPOCH_SET true
  { t with evr := { t.evr with log := t.evr.log.map (fun (r : LogRec) => if r.seq.isNone then { r with epoch := n } else r) } }

/-- The automatic revert of R253, in the same boot anchor. The record carries the active generation and then the previous one, 4 bytes each (the rule gives no layout: DESIGN CHOICE, log entry 123). With no previous generation the incident is reported and the count goes on rising. -/
def State.autoRevert (s : State) (b : BootAnchor) : State × BootAnchor :=
  if b.fails < 3 then (s, b)
  else if b.prev = 0 then (s.report .attachLoop 0 0 0, b)
  else
    let t := (s.setFlag PLN_STS_AUTO_REVERTED true).emit .fault 0x0065 0 (leBytes 4 b.active ++ leBytes 4 b.prev)
    (t, { b with slot := 1, fails := 0 })

/-- The boot anchor that the sequencer selects (R283, R285): of those in the two logs with a copy whose CRC is valid, the one with the highest ANCHOR_NO. `bad` are the positions whose codeword fails, a torn one among them. -/
def State.bootPick (s : State) (bad : List Nat) : Option BootAnchor :=
  (s.flash.anchors.filter (fun x => x.2.any (fun p => !bad.contains p))).foldl (fun (acc : Option BootAnchor) x =>
    match acc with
    | some b => if b.no ≤ x.1.no then some x.1 else acc
    | none => some x.1) none

/-- Load the firmware and the configuration of the boot anchor in force and release the cores (R286, Table 13-6 step 8). A module with no configuration runs with NO_PLAN; an image that cannot be read fails the attempt, with its ATTACH record (R252), and the cores stay in reset (log entry 47). -/
def State.bootFrom (s : State) (b : BootAnchor) (bad : BitVec 6) : State :=
  if b.active = 0 then ((s.setFlag SPT_STS_SP_LOADED true).setFlag CFG_MODE_NO_PLAN true).releaseCores
  else match s.bootImage b bad, s.bootFw b bad with
    | some m, some fw =>
      -- the flash channels' settings come first, for CLK_SSC is judged against their rates (R358)
      let t := (s.loadConfig m).loadCold m
      ({ t with pln := { t.pln with fw := fw } } : State).setFlag SPT_STS_SP_LOADED true |>.releaseCores
    | _, _ => s.commitNow (.attach b.fails 1)

/-- Format of a blank module (R263, R270, R272, R273, R279, R287, R288): the stooks in their formatted state, factory-bad blocks mapped to donors, the first checkpoint, GENESIS with its SEAL_COMMIT, and boot anchor 1 with no twin in use. The ledger's records of format take the numbers from 1 on, below every number of the epochs that follow (DESIGN CHOICE, log entry 106). The die table is found in the DECIDE phase; the stooks of an unsupported die are in no use from then on (R257, `State.writable`). The next image goes to twin A, so that the anchor selects twin B (DEDUCED, log entry 112). -/
def State.format (s : State) (e : BootEnv) : State :=
  let o : Org := { Org.empty with dies := e.dies.val }
  let t := { s with flo := { s.flo with org := o, pendingRecs := [] } }
  let bad := e.factoryBad.filter (fun x => decide (x.2.1.val < e.dies.val))
  let t := bad.foldl (fun (u : State) x =>
    let n := x.2.1.val * 2048 + x.2.2.val
    if 1354 ≤ x.2.2.val then u.ledger (.retire n x.1.val 0 0) else u) t
  let t := bad.foldl (fun (u : State) x =>
    if 1354 ≤ x.2.2.val then u
    else
      let n := x.2.1.val * 2048 + x.2.2.val
      match u.remapColumn n x.1.val 0 0 with
      | (v, true) => v
      -- no donor: the column stays bad, and a rotation stook is withdrawn (R272)
      | (v, false) => let v := v.ledger (.retire n x.1.val 0 0); if (v.stook n).rotation then v.withdraw n else v) t
  let org := t.flo.org
  let first := org.systemStook 4
  let recs := org.checkpoint.zipIdx.map (fun x => (⟨x.2 + 1, s.tick, 1, x.1⟩ : LedgerEntry))
  let b : BootAnchor := ⟨1, 0, 1, 0, 0, first, 0, []⟩
  let t : State := { t with flash := { Flash.reset with base := org, chain := [genesisEntry], chainNext := 1 }, flo := { t.flo with org := org, pendingRecs := s.flo.pendingRecs } }
  let t := (commitParts recs).foldl State.writeCommit (t.setFld FLO_LEDGER_STOOK first)
  let gen : LedgerEntry := ⟨recs.length + 1, s.tick, 1, .sealCommit 1 (t.chainAddr 0) 0 0 256 0⟩
  let t := ({ t with flo := { t.flo with org := t.flo.org.apply gen } } : State).writeCommit [gen]
  (((t.anchorWrite b).setFld FLO_BOOT 1).showHead).setFlag FLO_STS_FORMATTING true

/-- The end of a format: FLO_STS.FORMATTING reads 1 from its step to the next device tick (R287, log entry 55). -/
def State.formatDone (s : State) : State := if s.flag FLO_STS_FORMATTING then s.setFlag FLO_STS_FORMATTING false else s

/-- The automatic revert's own effects (R239, R251, R254): the generation that it loaded is admitted under R243, and the ledger takes the generations (log entry 99). -/
def State.revertAdmit (s : State) : State :=
  let t := s.admitActive
  t.commitNow (.generation (t.fld PLN_GEN_ACTIVE) (t.fld PLN_GEN_PREV) (t.fld PLN_GEN_STAGED) (t.fld PLN_GEN_HIGH))

/-- Step 8 of Table 13-6 (R283, R286, R287, R438): the boot anchor is selected and written anew with the count raised, and the selected twin is loaded. A count of 0 there tells of an automatic revert (R253). -/
def State.bootLoad (s : State) (e : BootEnv) : State :=
  let s := s.setFld SPT_STS_SEQ 3
  match s.bootPick e.anchorBad with
  | none =>
    let t := ((s.format e).fixEpoch 1).showGens
    ((t.setFlag SPT_STS_SP_LOADED true).setFlag CFG_MODE_NO_PLAN true).releaseCores
  | some b =>
    let (t, b) := s.autoRevert { b with no := b.no + 1, fails := b.fails + 1 }
    let t := t.anchorWrite b
    let t := ((t.setFld FLO_BOOT b.no).fixEpoch b.no).showGens
    let t := t.bootFrom b e.twinBad
    if b.fails = 0 && t.sys.attempt then t.revertAdmit else t

end Sys2Proof.Machine
end

