-- ==== Sys2Proof/Machine/PowerCmd.lean ====
section
/-! DEFINITION. The commands of the feeds, the power path, the rails, the reset outputs and the pack tests (R367 to R398). -/

namespace Sys2Proof.Machine

open Reg

/-- What the end of the last stage brings (R379 steps 6 and 8, R388): in power-up the boot twin is loaded (R286); in rebound the re-sequence is over. -/
def State.seqDone (s : State) (boot : BootEnv) : State :=
  let t := { s with pwr := { s.pwr with lowest := 8 } }
  let t := t.setFld PWR_SEQ_STS_STATE 2
  if t.inMode [.powerUp] then t.bootLoad boot else t

/-- The sequencer goes on when every rail of the stage is judged (R380); in rebound it holds while a persistence rail of the stage has failed (R389). `n` bounds the stages without a rail. -/
def State.seqAdvance (s : State) (boot : BootEnv) : Nat → State
  | 0 => s
  | n + 1 =>
    if s.pwr.waiting ≠ 0 || s.fld PWR_SEQ_STS_STATE ≠ 1 then s
    else
      let st := s.fld PWR_SEQ_STS_STAGE
      if s.inMode [.rebound, .keeper] && (s.pwr.failed &&& 0x3FFF#33) ≠ 0 then s.setFld PWR_SEQ_STS_STATE 4
      else if 7 ≤ st then s.seqDone boot
      else (s.raiseStage (st + 1)).seqAdvance boot n

/-- No boot takes place. -/
def noBoot : BootEnv := ⟨0, 0, [], []⟩

/-- In rebound, once feed A is good and not above 13.6 V, GATE_A is on, the rails' settings are sent, and every stage that shut-down turned off, or that holds a persistence rail that is not good, is sequenced on again (R369, R373, R376, R388, R389). -/
def State.resequence (s : State) : State :=
  if s.pwr.aHigh then s
  else
    let t := (s.setFlag PWR_FEED_STS_GATE_A true).mbBatch
    if t.reseqStage ≤ 7 then (t.raiseStage t.reseqStage).seqAdvance noBoot 9 else t.setFld PWR_SEQ_STS_STATE 2

/-- Feed A is no longer above 13.6 V (Table 13-1): a rebound that waited for it returns to feed A. -/
def State.feedAIn (s : State) : State :=
  let t : State := { s with pwr := { s.pwr with aHigh := false } }
  if s.pwr.aHigh && t.preHandover && t.flag PWR_FEED_STS_A_GOOD && !t.flag PWR_FEED_STS_GATE_A then t.resequence else t

/-- Step 5 of Table 13-6, once RSTO_PMIC_n and RSTO_PACK_n have risen, and the enables of stage 0 (R376, R377, R379): every marionette is addressed, the rails' settings are sent, the channels are armed, and MB_SYNC is driven. A marionette that does not answer is marked and reported, and its rails stay disarmed. -/
def State.stepFive (s : State) : State :=
  match s.pwr.mbEnv with
  | none => s
  | some (mbBad, mbRetries) =>
    if !s.inMode [.powerUp, .keeper] || s.flag PWR_RSTO_PMIC_LOW || s.flag PWR_RSTO_PACK_LOW then s
    else
      let t : State := { s with pwr := { s.pwr with mbEnv := none } }
      let present : BitVec 6 := BitVec.ofNat 6 (2 ^ (tabBits t.nv.ptab 0 16 8) - 1)
      let bad := mbBad &&& present
      let t := ((t.setFld PWR_MB_STS_PRESENT present.toNat).setFld PWR_MB_STS_FAULTED bad.toNat).bump PWR_MB_STS_RETRIES mbRetries.toNat
      let t := (List.range 6).foldl (fun (u : State) k => if bad.getLsbD k then u.report .mbFault (0x130 + k) 0 0 else u) t
      let armed : BitVec 16 := (List.range 16).foldl (fun acc r =>
        if t.railExists r && !bad.getLsbD (t.fld (PWR_RAIL_CFG_MB r)) then acc ||| (1#16 <<< r) else acc) 0
      let t := t.mbBatch
      ({ t with pwr := { t.pwr with armed := armed } } : State).raiseStage 0

/-- Steps 1 to 3 of Table 13-6 (R367, R379, R468 to R470); the rise of the two reset outputs brings step 5. A blank table holds (R470); a table that fails its check enters off with the backoff count raised (R382). -/
def State.powerUpSteps (s : State) (bGood : Bool) (mbBad : BitVec 6) (mbRetries : BitVec 16) : State :=
  let t : State := { s with pwr := { s.pwr with vaon := true, startExpired := true } }
  let t := (t.setFld PWR_SEQ_STS_BACKOFF t.pwr.backoff).bump CFG_CAUSE_POWERUPS 1
  let t := t.logPowerUp.cornerCheck
  if t.ptabIsBlank then (t.blankHold)
  else
    let t := t.setFlag SPT_STS_PTAB_BURNED true
    let t := t.setFlag SPT_PTAB_CTL_BURNED true
    if !t.ptabGood then
      let t := t.lastLog 2 .critical 0
      (({ t with pwr := { t.pwr with backoff := min (t.pwr.backoff + 1) 6 } } : State).enterOff 5)
    else
      let t := (t.setFlag SPT_STS_PTAB_OK true).loadPtab
      let t := ((t.setFld SPT_STS_SEQ 2).setFlag PWR_FEED_STS_GATE_A true).setFlag PWR_PACK_STS_PRESENT bGood
      { t with pwr := { t.pwr with mbEnv := some (mbBad, mbRetries) } }

/-- POWER_ON_RESET_RELEASE (R367, R368, R379): the cold reset, and steps 1 to 3 of Table 13-6. -/
def execPowerOnResetRelease (bGood : Bool) (mbBad : BitVec 6) (mbRetries : BitVec 16) (s : State) : Host.Outcome State Fault Refusal :=
  if s.sys.mode ≠ .off || (s.pwr.vaon && !s.pwr.startExpired) then .next s
  else .next (((s.coldReset.setFlag PWR_FEED_STS_A_GOOD true).setMode .powerUp).powerUpSteps bGood mbBad mbRetries)

/-- START_TIMER_EXPIRY (R368). -/
def execStartTimerExpiry (s : State) : Host.Outcome State Fault Refusal :=
  .next { s with pwr := { s.pwr with startExpired := true } }

/-- VAON_FALL (R367, R368, R460): the part goes to off, domain 0 and its kept registers return to their reset values and the backoff count is lost. A burn in progress loses: the one-time store then holds a partial table (R470). -/
def execVaonFall (s : State) : Host.Outcome State Fault Refusal :=
  let t := if s.flag SPT_PTAB_CTL_BURNING then s.partialBurn else s
  let t := if t.sys.mode = .off then t else t.supplyLost
  .next t.domain0Reset

/-- FEED_A_GOOD (R369): enables rebound and pack tests. In shut-down before the DRAM point it turns shut-down into rebound (R386); in rebound the path returns to feed A and the re-sequence starts (R373, R388). A pack test that waited for it starts (R392). -/
def execFeedAGood (s : State) : Host.Outcome State Fault Refusal :=
  if s.sys.mode = .off then .next s
  else
    let t := (s.setFlag PWR_FEED_STS_A_GOOD true).setFlag PWR_FEED_STS_A_BELOW false
    if t.canRebound then .next (t.reboundEntry.resequence)
    else if t.sys.mode = .rebound || (t.sys.mode = .keeper && t.sys.keeperFrom = .rebound) then .next t.resequence
    else .next (if t.inMode [.service, .lull] then t.periodicStart else t)

/-- FEED_A_GOOD_LOST (R369, R394): A_GOOD clears and a running capacitance test ends FEED_A. -/
def execFeedAGoodLost (s : State) : Host.Outcome State Fault Refusal :=
  let t := s.setFlag PWR_FEED_STS_A_GOOD false
  .next (if t.pwr.test.isSome then (t.packTestFail 3).packTestEnd 3 else t)

/-- FEED_A_LOW_TRIGGER (R24, R369): the save trigger of feed A. -/
def execFeedALowTrigger (s : State) : Host.Outcome State Fault Refusal :=
  if s.sys.mode = .off then .next s
  else
    let t := if s.flag PWR_FEED_STS_A_GOOD && s.pwr.test.isSome then (s.packTestFail 3).packTestEnd 3 else s
    .next (((t.setFlag PWR_FEED_STS_A_GOOD false).setFlag PWR_FEED_STS_A_BELOW true).trigger 1)

/-- FEED_A_OV (R369, R370, Table 13-1): GATE_A off, the safety partition decides to save, and FEED_A_OV is reported; in shut-down GATE_B is GATE_A's opposite. -/
def execFeedAOv (s : State) : Host.Outcome State Fault Refusal :=
  if s.sys.mode = .off then .next s
  else
    let t := (s.setFlag PWR_FEED_STS_A_OV true).setFlag PWR_FEED_STS_GATE_A false
    let t := { t with pwr := { t.pwr with aHigh := true } }
    let t := (t.report .feedAOv 0 0 0).trigger 5
    .next (if t.sys.mode = .shutDown then t.gateBOn else t)

/-- FEED_B_LOW (R26, R369): off in save or shut-down, and an incident elsewhere. -/
def execFeedBLow (s : State) : Host.Outcome State Fault Refusal :=
  if s.sys.mode = .off then .next s
  else
    let t := s.setFlag PWR_FEED_STS_B_LOW true
    .next (if t.inMode [.save, .shutDown] then t.enterOff 3 else t.report .feedBLow 0 0 0)

/-- FEED_B_OV (R369): GATE_B is held off, the incident is reported, and the pack's usable energy counts as 0. -/
def execFeedBOv (s : State) : Host.Outcome State Fault Refusal :=
  if s.sys.mode = .off then .next s
  else
    let t := ((s.setFlag PWR_FEED_STS_B_OV true).setFlag PWR_FEED_STS_GATE_B false).report .feedBOv 0 0 0
    .next { t with pwr := { t.pwr with bUnusable := true } }

/-- FEED_B_OV_RECOVERY (R369): the pack's energy counts again, and GATE_B is no longer held off. -/
def execFeedBOvRecovery (s : State) : Host.Outcome State Fault Refusal :=
  .next ({ s with pwr := { s.pwr with bUnusable := false } } : State).feedBIn

/-- SUPPLY_LOST (R387, Table 1-6): neither feed holds the supply, and the part goes to off at once. -/
def execSupplyLost (s : State) : Host.Outcome State Fault Refusal :=
  .next (if s.sys.mode = .off then s else s.supplyLost)

/-- SAVE_N_ASSERTED (R24, R493): a save trigger. -/
def execSaveNAsserted (s : State) : Host.Outcome State Fault Refusal := .next (s.trigger 2)

/-- RAIL_DISCHARGED (R384 to R386): with every rail of the stage discharged the next lower stage's enables fall, or off is entered after stage 0; before the DRAM point a good feed A turns the shut-down into rebound. -/
def execRailDischarged (rail : Fin 33) (s : State) : Host.Outcome State Fault Refusal :=
  .next (s.railDown rail.val)

/-- DISCHARGE_STUCK (R384): a FAULT record that carries the rail; shut-down goes on. -/
def execDischargeStuck (rail : Fin 33) (s : State) : Host.Outcome State Fault Refusal :=
  if s.sys.mode = .shutDown && railIn s.pwr.waiting rail.val then
    .next ((((s.emit .fault 0x006B 0 (leBytes 1 (railQual rail.val))).bump PWR_SEQ_STS_STUCK 1)).railDown rail.val)
  else .next s

/-- GATE_B_OFF_DELAY (R373): whatever the mode has become, GATE_B is off 1 ms after GATE_A is on. -/
def execGateBOffDelay (s : State) : Host.Outcome State Fault Refusal :=
  if s.flag PWR_FEED_STS_GATE_A then .next (s.setFlag PWR_FEED_STS_GATE_B false).reboundReady
  else .next s

/-- REBOUND_STAGE_RETRY (R389): once the path has returned to feed A, the lowest stage with a persistence rail that is not good is tried again, unless a stage is being judged. -/
def execReboundStageRetry (s : State) : Host.Outcome State Fault Refusal :=
  let st := s.fld PWR_SEQ_STS_STATE
  if s.preHandover && s.flag PWR_FEED_STS_GATE_A && (st = 4 || st = 2) && decide (s.badStage ≤ 7) then .next (s.raiseStage s.badStage) else .next s

/-- RAIL_GOOD (R380, R383): the rail is good; when its stage is complete the next stage or step begins. A rail that is on and had lost its power-good, under IGNORE, is good again. A RETRY try that succeeds ends the cause of its RAIL_FAULT. -/
def execRailGood (rail : Fin 33) (boot : BootEnv) (s : State) : Host.Outcome State Fault Refusal :=
  let r := rail.val
  if s.fld SPT_STS_SEQ = 7 then .next (if r ≤ 3 then s.setRailGood r true else s)
  else if !railIn s.pwr.en r || (r < 16 && !s.pwr.armed.getLsbD r) || s.sys.mode = .shutDown then .next s
  else if !railIn s.pwr.waiting r then .next (s.setRailGood r true)
  else
    let t := s.setRailGood r true
    let t := { t with pwr := { t.pwr with waiting := t.pwr.waiting &&& ~~~(railBit r) } }
    if (smapFind t.pwr.retries r).isSome then .next (t.railRetryOk r)
    else .next (t.seqAdvance boot 9)

/-- A rail fails to come up (R381): by its class, and in rebound by R389; under RETRY the try is lost. -/
def State.railNoStart (s : State) (r : Nat) (boot : BootEnv) : State :=
  let s := { s with pwr := { s.pwr with waiting := s.pwr.waiting &&& ~~~(railBit r) } }
  if (smapFind s.pwr.retries r).isSome then s.railRetryLost r
  else if railPersist r then
    let t := (s.setRailFail r).reportSev .critical .railNoStart (railSource r) (railQual r) 0
    if t.inMode [.powerUp] then
      let t := { t with pwr := { t.pwr with railFailed := true } }
      (t.attachAttemptFailed).shutDownStart 2 true
    else { t with pwr := { t.pwr with failed := t.pwr.failed ||| railBit r } }.seqAdvance boot 9
  else
    let t := ((s.dropRail r).setRailFail r).reportSev .fault .railNoStart (railSource r) (railQual r) 0
    let t := if 16 ≤ r then t.fenceChannel (r - 16) (some (.told .railNoStart (railSource r))) else t
    t.seqAdvance boot 9

/-- RAIL_NO_START (R380, R381). -/
def execRailNoStart (rail : Fin 33) (boot : BootEnv) (s : State) : Host.Outcome State Fault Refusal :=
  if railIn s.pwr.waiting rail.val && s.sys.mode ≠ .shutDown then .next (s.railNoStart rail.val boot) else .next s

/-- RAIL_CHATTER (R380): counted, and the rail fails to come up. In shut-down it is only counted (R384). -/
def execRailChatter (rail : Fin 33) (boot : BootEnv) (s : State) : Host.Outcome State Fault Refusal :=
  let t := s.bump PWR_SEQ_STS_CHATTER 1
  if railIn s.pwr.waiting rail.val && s.sys.mode ≠ .shutDown then .next (t.railNoStart rail.val boot) else .next t

/-- RAIL_FAULT (R383): a running fault of a good rail by its power-good; in shut-down it has no effect but the rail's own state (R384). -/
def execRailFault (rail : Fin 33) (s : State) : Host.Outcome State Fault Refusal :=
  if s.railGood rail.val then .next (s.railRunningFault rail.val false) else .next s

/-- RAIL_GLITCH (R383). -/
def execRailGlitch (rail : Fin 33) (s : State) : Host.Outcome State Fault Refusal :=
  if s.railGood rail.val then .next (s.bump PWR_SEQ_STS_GLITCH 1) else .next s

/-- RAIL_RETRY_TRY (Table 13-7): under RETRY the rail is turned on again and judged as at power-up. -/
def execRailRetryTry (rail : Fin 33) (s : State) : Host.Outcome State Fault Refusal :=
  if (smapFind s.pwr.retries rail.val).isSome && !railIn s.pwr.waiting rail.val then
    .next (({ s with pwr := { s.pwr with waiting := s.pwr.waiting ||| railBit rail.val } } : State).raiseRail rail.val)
  else .next s

/-- Every rail of the marionettes given that is not good is disarmed, so that it fails to come up (R377). -/
def State.disarm (s : State) (bad : Nat) : State :=
  let off : BitVec 16 := (List.range 16).foldl (fun acc r =>
    if s.railExists r && bad.testBit (s.fld (PWR_RAIL_CFG_MB r)) && !s.railGood r then acc ||| (1#16 <<< r) else acc) 0
  { s with pwr := { s.pwr with armed := s.pwr.armed &&& ~~~off } }

/-- TELEMETRY_POLL (R377, R378, R383), not before step 5 of Table 13-6: the samples are kept, a marionette whose transfer failed is marked and reported, and in power-up its rails fail to come up, and a latched STATUS bit on a channel of a good rail is a running fault of that rail. -/
def execTelemetryPoll (samples : List (Fin 16 × BitVec 16 × BitVec 16)) (latched : BitVec 16) (mbBad : BitVec 6)
    (mbRetries : BitVec 16) (s : State) : Host.Outcome State Fault Refusal :=
  if s.sys.mode = .off || (s.sys.mode = .powerUp && s.pwr.mbEnv.isSome) || s.fld SPT_STS_SEQ = 7 then .next s
  else
    let t := samples.foldl (fun (u : State) x =>
      if u.railExists x.1.val then { u with pwr := { u.pwr with telem := smapPut u.pwr.telem x.1.val (x.2.1.toNat, x.2.2.toNat) } } else u) s
    let bad := mbBad.toNat &&& t.fld PWR_MB_STS_PRESENT
    let t := (t.setFld PWR_MB_STS_FAULTED (t.fld PWR_MB_STS_FAULTED ||| bad)).bump PWR_MB_STS_RETRIES mbRetries.toNat
    let t := (List.range 6).foldl (fun (u : State) k => if bad.testBit k then u.report .mbFault (0x130 + k) 0 0 else u) t
    let t := if t.sys.mode = .powerUp then t.disarm bad else t
    .next ((List.range 16).foldl (fun (u : State) r =>
      if latched.getLsbD r && u.railGood r then u.railRunningFault r true else u) t)

/-- RESET_OUTPUT_RISE (R390, Table 13-8): the output rises when none of its causes remains. In power-up the second of RSTO_PMIC_n and RSTO_PACK_n to rise brings step 5 of Table 13-6. -/
def execResetOutputRise (pin : ResetPin) (s : State) : Host.Outcome State Fault Refusal :=
  if s.sys.mode = .off || !s.gatesSet then .next s
  else match pin with
    | .pmic => .next (s.setFlag PWR_RSTO_PMIC_LOW false).stepFive
    | .pack => .next (s.setFlag PWR_RSTO_PACK_LOW false).stepFive
    | .aux =>
      if s.sys.mode = .shutDown || (s.inMode [.powerUp, .rebound, .keeper] && s.fld PWR_SEQ_STS_STATE ≠ 2) then .next s
      else .next (s.setFlag PWR_RSTO_AUX_LOW false)

/-- DOMAIN_FAULT (R398): the domain's check fails while it is on. -/
def execDomainFault (dom : Fin 148) (s : State) : Host.Outcome State Fault Refusal :=
  if s.sys.mode = .off then .next s
  else
    let t := s.setBit (DOM_FLT (dom.val / 32)) (dom.val % 32) true
    let t := { t with flt := { t.flt with domBad := dom.val :: t.flt.domBad } }
    .next (t.report .domainFault dom.val dom.val 0)

/-- BOOT_TEST (R379 step 7, R392, Table 13-1): with feed A good the test starts. A boot test that ends at its first check has ended. -/
def execBootTest (answer : Option PackStatus) (s : State) : Host.Outcome State Fault Refusal :=
  if s.sys.mode = .powerUp && !s.flag PWR_RSTO_PACK_LOW && !s.pwr.bootDone && s.flag PWR_FEED_STS_A_GOOD then
    let t := s.packTestStart .boot answer
    .next { t with pwr := { t.pwr with bootDone := t.pwr.test.isNone } }
  else .next s

/-- CAP_TEST_PERIODIC (R392): in service or lull a periodic test starts, once feed A is good; in another mode it waits for the next entry into service. -/
def execCapTestPeriodic (answer : Option PackStatus) (s : State) : Host.Outcome State Fault Refusal :=
  if s.inMode [.off] then .next s
  else
    let t : State := { s with pwr := { s.pwr with periodicDue := some answer } }
    .next (if s.inMode [.service, .lull] then t.periodicStart else t)

/-- PACK_CHARGED (R392): after a LOW boot test the first CHARGED with feed A good starts the catch-up test. -/
def execPackCharged (answer : Option PackStatus) (s : State) : Host.Outcome State Fault Refusal :=
  let t := s.setFlag PWR_PACK_STS_CHARGED true
  if t.pwr.catchUp && t.flag PWR_FEED_STS_A_GOOD then .next (({ t with pwr := { t.pwr with catchUp := false } } : State).packTestStart .catchUp answer)
  else .next t

/-- CAP_TEST_SETTLED (R392, R393): V0 at or below V_floor, computed with the ESR of the last successful test, ends the test LOW, and the charger stays off with steps 4 to 6 skipped; else the load is turned on, and a pack that does not answer ends the test (R391). -/
def execCapTestSettled (v : SettledSample) (s : State) : Host.Outcome State Fault Refusal :=
  match s.pwr.test with
  | some (k, .settling) =>
    let esr := if s.pwr.capOk then s.fld PWR_PACK_ESR else 0
    if v.v0.toNat ≤ vFloor esr then
      let t := (s.packTestFail 6).storeEnergy v.v0.toNat
      let t := { t with pwr := { t.pwr with catchUp := t.pwr.catchUp || decide (k = PackTestKind.boot) } }
      .next ((t.packRecheck).packTestEnd 6)
    else if !v.answered then .next ((s.packTestFail 1).packTestEnd 1)
    else .next { s with pwr := { s.pwr with test := some (k, .loaded v.v0.toNat), load := true } }
  | _ => .next s

/-- CAP_TEST_V1_SAMPLE (R392). -/
def execCapTestV1Sample (v1 : BitVec 16) (s : State) : Host.Outcome State Fault Refusal :=
  match s.pwr.test with
  | some (k, .loaded v0) => .next { s with pwr := { s.pwr with test := some (k, .v1 v0 v1.toNat) } }
  | _ => .next s

/-- ESR in µΩ (R393). For V1 above V0 the formula gives a negative number, which the register cannot hold and the spec does not state: a free value. -/
def packEsr (v0 v1 iT : Nat) : Nat := if v1 ≤ v0 then (v0 - v1) * 1000000 / iT else Config.negativeEsr v0 v1 iT % 2 ^ 32

/-- CAP_TEST_V2_SAMPLE (R391 to R394): no answer, LOAD and SAG end the test without results; else ESR, C and E are computed and stored, and R245 runs. -/
def execCapTestV2Sample (v2 : BitVec 16) (iT : Option (BitVec 16)) (temp : BitVec 16) (s : State) : Host.Outcome State Fault Refusal :=
  match s.pwr.test, iT with
  | some _, none => .next (if s.pwr.test.any (fun x => match x.2 with | .v1 _ _ => true | _ => false) then (s.packTestFail 1).packTestEnd 1 else s)
  | some (k, .v1 v0 v1), some iT =>
    let t := s.storePackSample iT.toNat temp.toNat
    let t := { t with pwr := { t.pwr with charger := true, load := false, catchUp := t.pwr.catchUp && decide (k ≠ PackTestKind.catchUp) } }
    if iT.toNat < 1000 || 10000 < iT.toNat then .next ((t.packTestFail 4).packTestEnd 4)
    else if v1 < v2.toNat + 20 then .next ((t.packTestFail 5).packTestEnd 5)
    else
      let esr := packEsr v0 v1 iT.toNat
      let c := iT.toNat * t.fld PWR_PACK_CTL_T_MS / (v1 - v2.toNat) / 10 * 10
      let t := { t with pwr := { t.pwr with test := none, capOk := true, capTick := t.tick } }
      let t := ((t.setFld PWR_PACK_ESR esr).setFld PWR_PACK_C c).setFlag PWR_PACK_STS_C_VALID true
      let t := ((t.setFld PWR_PACK_AGE 0).setFlag PWR_PACK_STS_TESTING false).storeEnergy v0
      let low := decide (v0 ≤ vFloor esr)
      let t := t.setFld PWR_PACK_STS_FAIL (if low then 6 else 0)
      let t := { t with pwr := { t.pwr with catchUp := t.pwr.catchUp || (low && decide (k = PackTestKind.boot)) } }
      .next ((t.packRecheck).packTestEnd (if low then 6 else 0))
  | _, _ => .next s

/-- VOLTAGE_TEST (R395): outside off and save, while C_VALID = 1 and no capacitance test runs (R396), V0 alone is sampled and E recomputed, and R245 runs. -/
def execVoltageTest (v0 : BitVec 16) (s : State) : Host.Outcome State Fault Refusal :=
  if s.inMode [.off, .save] || !s.flag PWR_PACK_STS_C_VALID || s.pwr.test.isSome then .next s
  else .next ((s.storeEnergy v0.toNat).packRecheck)

/-- C_VALID_EXPIRY (R394): C_VALID clears and E is 0. -/
def execCValidExpiry (s : State) : Host.Outcome State Fault Refusal := .next s.clearCValid

end Sys2Proof.Machine
end

