-- ==== Sys2Proof/Machine/Attach.lean ====
section
/-! DEFINITION. Attach, restore, the anchor of an image, and rebound (R26 to R31, R71, R195, R213 to R225, R252, R276, R281, R315, R364, R379, R439, R452). -/

namespace Sys2Proof.Machine

open Reg

/-- DRAM_HANDOVER_TO_BDC (R71, Table 5-2 steps 6 and 7): the BDC takes the DRAM on PLL_S, or, while the DRAM loop is not locked, on the locked or coasting PLL_H (R356), brings it out of self-refresh where it was there, and the movers stage the first sheaf. -/
def execDramHandoverToBdc (s : State) : Host.Outcome State Fault Refusal :=
  match s.sav.run with
  | none => .next s
  | some r =>
    if r.handed then .next s
    else
      let t := (s.takeDram 1).leaveSelfRef
      let t := { t with hbp := { t.hbp with rows := [] } }
      let t := (t.setFlag CLK_STS_COAST (t.flag CLK_STS_COAST && !t.flag CLK_STS_D_SRC)).setFlag CLK_STS_DISCONT false
      .next ((t.setRun { r with handed := true }).takeFlight).dramRest

/-- Persistence rails whose GROUP action waited for the anchor are turned off (Table 13-7). -/
def State.anchorRails (s : State) : State :=
  let t := (List.range 14).foldl (fun (u : State) r =>
    if railIn u.pwr.offAtAnchor r then
      let u := u.dropRail r
      { u with pwr := { u.pwr with shutByAction := u.pwr.shutByAction ||| railBit r } }
    else u) s
  { t with pwr := { t.pwr with offAtAnchor := 0 } }

/-- IMAGE_ANCHORED (R195, R208, Table 1-6): the first anchor copy stands, the maps take the image, the DRAM is in self-refresh, and rebound or shut-down follows. -/
def execImageAnchored (s : State) : Host.Outcome State Fault Refusal :=
  match s.sav.run with
  | none => .next s
  | some r =>
    if !r.handed || !r.work.isEmpty then .next s
    else
      let (p, t) := s.anchorPos
      let (i, t) := t.mkImage r p
      let t := ((t.applyImage r i).giveDram.enterSelfRef).anchorRails
      if t.flag PWR_FEED_STS_A_GOOD && !t.flag CFG_MODE_KEEPER then .next (t.reboundEntry.resequence)
      else .next (t.shutDownStart (if t.flag CFG_MODE_KEEPER then 7 else 1) false)

/-- A parameter page that reports every property of Table 9-1, what the table bounds taken as a bound (log entry 38). -/
def diePageOk (p : DiePage) : Bool :=
  decide (p.cellBits = 3) && decide (p.density = 512) && p.slc && decide (p.planes = 4) && p.multiPlane
  && decide (p.pageData = 16384) && decide (p.pageSpare = 2048) && decide (p.tlcPages = 768) && decide (p.slcPages = 256) && decide (p.blocks = 1372)
  && p.nvLpddr4 && decide (2400 ≤ p.rate) && decide (p.width = 8) && decide (p.vccq = 1200) && p.suspend
  && decide (p.tprog ≤ 128000) && decide (p.trSlc ≤ 40000) && decide (p.trTlc ≤ 75000) && decide (50000 ≤ p.cyclesSlc) && decide (3000 ≤ p.cyclesTlc)

/-- The die table of R257 and R258 from the parameter pages read at attach; an unsupported die is marked and reported. -/
def State.findDies (s : State) (e : DecideEnv) : State :=
  let tab := e.dies.foldl (fun (m : SMap (Bool × List Byte)) x => smapPut m x.1.val (diePageOk x.2.1, leBytes 32 x.2.2.toNat)) []
  let t := { s with flo := { s.flo with dieTable := tab } }
  e.dies.foldl (fun (u : State) x =>
    if diePageOk x.2.1 then u
    else (u.setFlag FLO_STS_UNSUPPORTED true).report .flashUnsupported 143 x.1.val 0) t

/-- Records of the metadata sheaves of images newer than the ledger (R276 step 4, R277). -/
def newerRecs (f : Flash) (last : Nat) : List LedgerEntry :=
  ((f.images.filter (fun i => decide (last < i.seq))).flatMap (·.recs)).eraseDups.filter (fun e => decide (last < e.seq) || decide (e.seq = 0))

/-- Replay of the ledger (R276, R281): chaff is skipped and counted, the metadata of newer images follows, and every stook with an erase intent and no done is half-erased, and FREE where it is in rotation (log entry 100). The list of the records confirmed since the base that the boot anchor names stands for the walk from commit to commit and over LINK records up to the first unprogrammed position; a record that no copy decodes is `chaff` (log entry 97). -/
def State.replayLedger (s : State) (e : DecideEnv) : State :=
  let good := s.flash.ledger.filter (fun x => !e.chaff.contains x.seq)
  let org := good.foldl Org.apply s.flash.base
  let more := newerRecs s.flash org.lastSeq
  let org := (more ++ s.flo.pendingRecs).foldl Org.apply org
  let t := { s with flo := { s.flo with org := { org with events := [] }, pendingRecs := more ++ s.flo.pendingRecs },
                    gln := { s.gln with regions := org.regions },
                    evr := { s.evr with log := [] } }
  let t := ((t.setFld FLO_CHAFF (min (s.flash.ledger.length - good.length) (2 ^ 32 - 1))).setFlag FLO_STS_READY true).setFld FLO_LEDGER_STOOK
    ((s.flash.boot.map (·.ledgerStook)).getD 0)
  let t := ((t.setFld FLO_LEDGER_INDEX s.flash.commits).setFld FLO_HALF_FOUND org.intents.length).setFlag FLO_STS_HALF_PENDING (!org.intents.isEmpty)
  let t := org.intents.foldl (fun (u : State) x =>
    let u := if (u.stook x.1).rotation then u.setRole x.1 0 else u
    { u with flo := { u.flo with org := u.flo.org.setStook x.1 { (u.stook x.1) with half := true } } }) t
  let t := (t.setFlag FLO_STS_DIE_RETIRED (!org.diesRetired.isEmpty)).setFlag FLO_STS_WITHDRAWN (!(t.ofRole 0xB).isEmpty)
  -- the events that replay read come back, oldest first, under R445 (R452)
  let t := org.events.foldl (fun (u : State) r =>
    let r := { r with reloaded := true }
    if u.logRoom r then u.logPlace r else u.bump (dropFld r.ev.sev) 1) t
  t.spareCheck

/-- Give a record the next number and place it; its mirror waits for a number (R439, R451). `new` marks one that the snapshot triggers have not seen (R448). -/
def State.numberRecord (s : State) (new : Bool) (r : LogRec) : State :=
  let (n, t) := s.rawSeq
  let r := { r with seq := some n }
  let waiting := (t.flo.pendingRecs.filter (fun e => match e.body with | .event _ => true | _ => false)).length
  if !t.logRoom r then s.bump (dropFld r.ev.sev) 1
  else
    let t := if new then t.logArrive r else (t.logPlace r).incidentSeq r
    if !t.mirrors r.ev then t else if 64 ≤ waiting then t.bump EVR_MIRROR_NOT 1 else t.ledgerLater (.event r)

/-- The base of the epoch (R439): SEQ_MARK takes it, EPOCH_START the next number, and the held records and structures follow in order. -/
def State.fixBase (s : State) (held : List LogRec) : State :=
  let seqs := s.flash.ledger.map (·.seq) ++ s.flo.pendingRecs.map (·.seq) ++ s.flash.images.map (·.seq) ++ (s.chainHead.map (·.seq)).toList
  let h := seqs.foldl max 0
  let b := (h / 2 ^ 24 + 2) * 2 ^ 24
  let t := ({ s with evr := { s.evr with base := some b, nextSeq := b, markOpen := true } } : State).setFlag EVR_STS_SEQ_READY true
  let start : EvRecord := ⟨.note, false, 0x0044, 145, BitVec.ofNat 64 t.tick, leBytes 6 h ++ leBytes 6 b⟩
  let t := (t.numberRecord true (t.held (t.ownNote 0x0045 []) none)).numberRecord true (t.held start none)
  (held.foldl (fun (u : State) r => u.numberRecord false r) t).numberLedger

/-- Interface training of the channels (R315): the settings are stored; a channel without a passing window is fenced. -/
def State.trainFlash (s : State) (e : DecideEnv) : State :=
  let t := e.trn.foldl (fun (u : State) x => u.setWord (0x10060 + 0x1000 * x.1.val) x.2) s
  (List.range 17).foldl (fun (u : State) ch =>
    if e.trainFail.getLsbD ch then ((u.setFlag (FCE_STS_TRAIN_FAIL ch) true).report .flashTrainFail (63 + ch) 0 0).fenceChannel ch (some (.told .flashTrainFail (63 + ch)))
    else u.setFlag (FCE_STS_TRAINED ch) true) t

/-- The training records and the band records of the ledger (R76, R77, R355): all are NONE where one was made for another geometry or stepping. -/
def State.loadTraining (s : State) : State :=
  let geom := s.word 0x2008
  let rev := s.word ID_REV_MAJOR.addr
  let rs := s.flo.org.training
  let same := rs.all (fun e => decide (e.2.geom = geom) && decide (e.2.rev = rev))
  rs.foldl (fun (u : State) e =>
    let sp := e.1 / 2
    let side := e.1 % 2
    let u := if e.2.rev = rev then
        { u with clk := { u.clk with band := smapSet (fun _ => 0) u.clk.band (side * 8 + sp) e.2.band } }
      else u
    if !same then u
    else
      let u := u.setFld (if side = 0 then hostRec sp else dramRec sp) e.2.st
      { u with trn := { u.trn with results := e.2.words.foldl (fun (m : SMap Word) w => smapSet (fun _ => 0) m w.1 w.2) u.trn.results } }) s

/-- Whether a stook of a sheaf that the index names was to be erased after the image anchored (R213, ERASED). -/
def State.erasedAfter (s : State) (i : Image) : Bool :=
  let gone := fun (n : Nat) => decide (i.seq < smapGet (fun _ => 0) s.flo.org.erased n) || (s.stook n).half
  (i.gran ++ i.group).any (fun e => decide (e.2.st = 0) && decide (e.2.entry.kind ≠ 0) && gone (addrStook e.2.entry.sheaf))

/-- Why a candidate is rejected, by the order of R213; the record's reason codes are the model's (log entry 48). -/
def State.rejectReason (s : State) (e : DecideEnv) (i : Image) : Option Nat :=
  if i.geom ≠ (s.word 0x2008).toNat then some 1
  else if natBits i.rev 8 8 ≠ natBits (s.word ID_REV_MAJOR.addr).toNat 8 8 then some 2
  else if e.indexUnread.contains i.gen then some 3
  else if e.indexBad.contains i.gen then some 4
  else if s.erasedAfter i then some 5
  else none

/-- An anchor copy with a valid CRC anchors its image (R213). -/
def anchorStands (e : DecideEnv) (i : Image) : Bool := i.copyAt.any (fun p => !e.anchorBad.contains p)

/-- Try the candidates in order, with a record for each that is rejected (R213). -/
def State.selectImage (s : State) (e : DecideEnv) : List Image → State × Option Image
  | [] => (s, none)
  | i :: is =>
    match s.rejectReason e i with
    | none => (s, some i)
    | some r => ((s.note 0x0060 135 (leBytes 4 i.gen ++ leBytes 1 r)).bump SAV_RST_DEC_REJECTED 1).selectImage e is

/-- Insert by GEN, the highest first. -/
def insertGen (i : Image) : List Image → List Image
  | [] => [i]
  | x :: xs => if x.gen < i.gen then i :: x :: xs else x :: insertGen i xs

/-- The restore decision (R162, R213, R215, R216, Table 7-5). -/
def State.restoreDecision (s : State) (e : DecideEnv) : State :=
  let cands := ((s.liveImages).filter (anchorStands e)).foldl (fun acc i => insertGen i acc) []
  -- an image without its anchor does not exist (R26): what follows is built on those that stand (R157, R211)
  let s : State := { s with flash := { s.flash with images := s.flash.images.filter (anchorStands e) } }
  let newest := s.flash.images.getLast?
  let s := match newest with | some i => s.showImage i | none => s
  let t := s.setFlag SAV_STS_DEGRADED ((newest.map (·.degraded)).getD false)
  if t.pln.image.isEmpty then t.setFld SAV_RST_DEC_CODE 4
  else if cands.isEmpty then t.setFld SAV_RST_DEC_CODE 2
  else match t.selectImage e cands with
    | (u, none) => u.setFld SAV_RST_DEC_CODE 3
    | (u, some i) =>
      let u := ((u.setFld SAV_RST_DEC_CODE 1).setFlag SAV_STS_RESTORE_DECIDED true).setFld SAV_RST_GEN i.gen
      let u := u.setFlag SAV_STS_STALE (decide (i.contentSeq < u.flo.org.service))
      { u with sav := { u.sav with older := decide ((cands.head?.map (·.gen)) ≠ some i.gen) } }

/-- The DECIDE phase (R29), its steps in order; what no image or manifest names is then free, the copies of a thresh that power-off ended among it (R228). -/
def State.decidePhase (s : State) (e : DecideEnv) : State :=
  let held := s.evr.log
  let t := ((s.findDies e).replayLedger e).fixBase held
  let t := ((t.trainFlash e).loadTraining).showHead
  let t := (t.setFlag SEA_STS_CHAIN_FAULT e.chainBad).showGens
  let t := (t.admitActive).restoreDecision e
  (t.freeStooks.logSwitch.swathCheck).reserveFlag

/-- The TRAIN phase begins (R79, Table 1-5): PLL_H locks where the host clock is present, the DRAM loop locks, and the DRAM side is trained. -/
def State.trainPhase (s : State) : State :=
  let t := s.setPhase .train
  let t := if t.clk.present && t.clk.h ≠ .locked then t.lockH else t
  let t := if t.clk.d = .idle then t.lockD else t
  t.trainOrWait

/-- The kite is granted (R427, R430, Table 14-7): the lease runs for 200 µs, and the new holder has applied or replayed the journal. -/
def State.grantKite (s : State) (c : CoreId) : State :=
  let t := ((s.setFld SPT_KITE_HOLDER (match c with | .a => 1 | .b => 2)).setFld SPT_KITE_LEASE_LEFT 200).bump SPT_KITE_GRANTS 1
  let t := { t with kite := { t.kite with request := none, holderDead := false, journal := [] } }
  match c with
  | .a => (t.setFld SPT_HB_A_STATE 2).setFlag SPT_KITE_COLD_A false
  | .b => (t.setFld SPT_HB_B_STATE 2).setFlag SPT_KITE_COLD_B false

/-- The core that takes the first kite (Table 14-7): A if it is alive, otherwise B. -/
def State.firstCore (s : State) : Option CoreId :=
  if s.flag SPT_HB_A_ALIVE then some .a else if s.flag SPT_HB_B_ALIVE then some .b else none

/-- FIRST_KITE_GRANT (Table 13-6 step 9, R29, R368): once the boot test has ended and a core is alive, the first kite is granted, the mode becomes attach, and the DECIDE phase runs to its end. -/
def execFirstKiteGrant (core : CoreId) (env : DecideEnv) (s : State) : Host.Outcome State Fault Refusal :=
  if s.sys.mode ≠ .powerUp || !s.sys.attempt || !s.pwr.bootDone || s.firstCore ≠ some core then .next s
  else
    let t := s.grantKite core
    let t := match core with
      | .a => if t.flag SPT_HB_B_ALIVE then t.setFld SPT_HB_B_STATE 3 else t
      | .b => t
    let t := (t.setMode .attach).setFld SPT_STS_SEQ 4
    let t := ({ t with pwr := { t.pwr with backoff := 0 } } : State).setPhase .decide
    .next ((t.decidePhase env).trainPhase)

/-- The maps of an image are loaded (R217 step 2): save map, check map, LOST bitmap, regions, coverage and repair. They are taken from the image whatever ears of its metadata sheaf cannot be read, for which the spec states no outcome (DESIGN CHOICE, log entry 119). Captures made before are dropped with the DRAM content they describe, and the learner was not LEARNED throughout an open seal (R182). -/
def State.loadMaps (s : State) (i : Image) : State :=
  let live := fun (m : SMap IndexEntry) => (m.filter (fun e => decide (e.2.st = 0) && decide (e.2.entry ≠ MapEntry.none))).map (fun e => (e.1, e.2.entry))
  { s with per := { s.per with smap := ⟨MapEntry.none, live i.gran⟩, cmap := ⟨MapEntry.none, live i.group⟩,
                               lost := (i.gran.filter (fun e => decide (e.2.st = 2))).map (fun e => (e.1, true)) },
           gln := { s.gln with regions := i.regions.map (fun x => (x.1, { x.2 with verified := false })), cover := i.cover, repair := i.repair,
                               fifo := [], slots := [] } }

/-- The plan of a restore: the base plan run backwards, or the variant of a fenced channel, of the lowest where there are more (R217, R220, log entry 49). -/
def restorePlan : List Nat → Nat
  | [] => 0
  | n :: _ => n + 1

/-- The BDC takes the DRAM of a restore once the DRAM loop is locked (R356, Table 7-6 step 1). -/
def State.restoreTake (s : State) : State :=
  if s.sys.phase = .restore && s.flag CLK_STS_D_LOCK && !s.flag DCT_STS_OWNED then (s.takeDram 2).leaveSelfRef else s

/-- The RESTORE phase is entered (R217 steps 1 and 2, R31). -/
def State.restoreStart (s : State) (i : Image) : State :=
  let t := ({ s with hbp := { s.hbp with rows := [] } } : State).setPhase .restore
  let t := t.restoreTake
  let t := { t with sav := { t.sav with rstMasks := [(0, t.fencedMask)] } }
  let t := ((t.setFlag SAV_STS_RESTORING true).setFld SAV_STS_STAGE 5).setFld SAV_STS_PLAN (restorePlan t.fencedList)
  let t := ((t.setFld SAV_FENCED t.fencedMask).setFld SAV_RST_DONE 0).setFld SAV_RST_LOST 0
  (t.setFld SAV_RST_REBUILT 0).loadMaps i

/-- Attach ends with no restore (R151, R175, Table 5-5): every granule is DIRTY with KIND NONE. -/
def State.noRestore (s : State) : State :=
  let t := { s with per := { s.per with dirty := fmapAll .dirty, smap := fmapAll MapEntry.none, cmap := fmapAll MapEntry.none, lost := [],
                                        lastMark := [], confirms := [] } }
  (t.setAllDirty 3).abandonSeals

/-- HANDOVER in the TRAIN or LEARN phase of attach (R30, R31, R213, R214, R252). An attach that H_RESET_n brought about ends neither in a restore nor with none, as the dirty map and the image chain are kept: seals and both maps stay as they are (R175; DESIGN CHOICE, log entry 120). Lines that were captured in attach and are not yet checked stop at check 1 of Table 4-3, whatever the mode that follows (R88, R115). A DRAM-side run or a centring in progress ends as a set-point change ends it (DESIGN CHOICE, log entry 104). -/
def State.attachHandover (s : State) : State :=
  let t := (((s.learnStop 5).trainAbandon).trainLeave).bump PKT_DISCARD_MODE s.hbp.packetQ.length
  let t : State := { t with trn := { t.trn with hop := false }, hbp := { t.hbp with packetQ := [] } }
  if !t.sys.attempt then t.enterService
  else
    let drop := t.flag SAV_CTL_RST_DISCARD
    let t := if drop then (t.setFld SAV_RST_DEC_CODE 5).setFlag SAV_STS_RESTORE_DECIDED false else t
    let img := if t.fld SAV_RST_DEC_CODE = 1 then t.flash.images.find? (fun i => decide (i.gen = t.fld SAV_RST_GEN)) else none
    match img with
    | some i => t.restoreStart i
    | none => t.noRestore.enterService

/-- A write of CFG_MODE.HANDOVER = 1 (R30, R31, R80, R222, R389, R436). -/
def State.handover (s : State) : State :=
  if s.flag TRN_STS_DRAM_FAIL then s
  else if s.sys.mode = .attach && (s.sys.phase = .train || s.sys.phase = .learn) then s.attachHandover
  else if (s.sys.mode = .rebound || (s.sys.mode = .keeper && s.sys.keeperFrom = .rebound)) && s.reboundOk then
    (if s.hReady then s.reboundDone else s.setFlag SAV_STS_REBOUND_WAIT true)
  else s

/-- HANDOVER. -/
def execHandover (s : State) : Host.Outcome State Fault Refusal := .next s.handover

/-- The channel and the page of an ear of a sheaf (R205, R262). -/
def Sheaf.place (x : Sheaf) (a k : Nat) : Nat × Nat :=
  if x.form = 18 then (x.kmap.getD ((k + x.kj) % 8) 0, x.krows.getD k 0) else (earChannel a k, addrPage a)

/-- The ears of a sheaf that cannot be had (R203, R205, R218, R220): those found bad, those on a fenced channel, and the absent ear of a variant form. -/
def earsLost (fenced : Nat) (bad : List (Word × BitVec 17)) (a : Nat) (x : Sheaf) : List Nat :=
  let b := (bad.find? (fun e => decide (e.1.toNat = a))).map (·.2) |>.getD 0
  (List.range 17).filter (fun k =>
    let ch := (x.place a k).1
    b.getLsbD k || decide (natBits fenced ch 1 = 1) || (x.form ≠ 18 && x.form = ch + 1))

/-- The channels that are fenced for a granule of a restore (R220, R221): those fenced before it was done. -/
def State.restoreMask (s : State) (g : Nat) : Nat :=
  match s.sav.rstMasks with
  | [] => s.fencedMask
  | [m] => m.2
  | ms =>
    let p := (s.presentGranules.filter (fun x => decide (x < g))).length
    ms.foldl (fun acc e => if e.1 ≤ p then e.2 else acc) 0

/-- Read a sheaf for a restore (R218): its content and whether a data ear is rebuilt; none where it is LOST. The data ear that a variant-form sheaf never had is no rebuild (Table 7-12). -/
def State.readSheaf (s : State) (fenced : Nat) (bad : List (Word × BitVec 17)) (a object : Nat) : Option (Sheaf × Bool) :=
  match s.sheaf a with
  | none => none
  | some x =>
    if x.object ≠ object then none
    else match earsLost fenced bad a x with
      | [] => some (x, false)
      | [k] => some (x, decide (k < 16) && (decide (x.form = 18) || decide (x.form ≠ earChannel a k + 1)))
      | _ => none

/-- The check bytes of an OMITTED or LOST line (R219). -/
def State.poison (s : State) (ma : Nat) : CheckBytes := if s.learned then ~~~(s.predict ma 0) else BitVec.allOnes 128

/-- The lines of a granule that are not all zero with zero check bytes, in order. -/
def granLines (g : Nat) (f : Nat → LineData × CheckBytes) : SMap (LineData × CheckBytes) :=
  ((List.range 16384).map (fun i => (g * 16384 + i, f i))).filter (fun e => decide (e.2 ≠ (0, 0)))

/-- What a restore makes of one granule: its lines, whether it is LOST, and whether it holds data. -/
def State.restoreGran (s : State) (bad : List (Word × BitVec 17)) (g : Nat) : SMap (LineData × CheckBytes) × Bool × Bool :=
  let e := s.smapOf g
  let c := s.cmapOf (g / 4)
  let dead := granLines g (fun i => (0, s.poison ((g * 16384 + i) * 64)))
  if e.kind = 0 then (dead, (smapFind s.per.lost g).isSome, false)
  else match s.readSheaf (s.restoreMask g) bad e.sheaf g, (if c.kind = 0 then none else s.readSheaf (s.restoreMask g) bad c.sheaf (g / 4)) with
    | some (x, _), some (y, _) =>
      (granLines g (fun i => (smapGet (fun _ => 0) x.data i, smapGet (fun _ => 0) y.chk (groupLine g i))), false, true)
    | _, _ => (dead, true, false)

/-- The DRAM that the lines of all granules make. -/
def restoredLines (gs : List (SMap (LineData × CheckBytes))) : SMap (LineData × CheckBytes) :=
  gs.foldl (fun m g => g.foldl (fun m e => smapSet (fun _ => (0, 0)) m e.1 e.2) m) []

/-- Count what a restore rebuilds and loses in the sheaves of one map (R218). -/
def State.restoreSheaves (s : State) (bad : List (Word × BitVec 17)) (kind : Nat) (m : SMap MapEntry) : State :=
  m.foldl (fun (u : State) e =>
    if e.2.kind = 0 then u
    else match u.readSheaf (u.restoreMask (if kind = 0 then e.1 else 4 * e.1 + 3)) bad e.2.sheaf e.1 with
      | some (_, true) => u.bump SAV_RST_REBUILT 1
      | some (_, false) => u
      | none => u.emit .critical 0x0062 139 (leBytes 1 kind ++ leBytes 4 e.1)) s

/-- The ears whose codewords a restore could not decode lodge their blocks (R289, sign 2). -/
def State.lodgeBad (s : State) (bad : List (Word × BitVec 17)) : State :=
  bad.foldl (fun (u : State) e =>
    let a := e.1.toNat
    match u.sheaf a with
    | none => u
    | some x => (List.range 17).foldl (fun (w : State) k =>
        let p := x.place a k
        if e.2.getLsbD k && !w.flag (FCE_STS_FENCED p.1) then w.lodge p.1 (stookDie (addrStook a)) (w.flo.org.physRow (addrStook a) p.1 p.2) 2 0 else w) u) s

/-- RESTORE_DONE (R217 to R220, Table 5-5): the DRAM holds the image, LOST and OMITTED content poisoned; every granule is CLEAN, and the mode becomes service. `bad` lists ears that fail, by sheaf address: data ears 0 to 15, and 16 the parity ear. -/
def execRestoreDone (bad : List (Word × BitVec 17)) (s : State) : Host.Outcome State Fault Refusal :=
  match (if s.sys.phase = .restore && s.flag DCT_STS_OWNED then s.flash.images.find? (fun i => decide (i.gen = s.fld SAV_RST_GEN)) else none) with
  | none => .next s
  | some i =>
    let gs := s.presentGranules.map (fun g => (g, s.restoreGran bad g))
    let lost := (gs.filter (fun (e : Nat × (SMap (LineData × CheckBytes) × Bool × Bool)) => e.2.2.1)).map (·.1)
    let keep := (gs.filter (fun (e : Nat × (SMap (LineData × CheckBytes) × Bool × Bool)) => e.2.2.2)).map (·.1)
    let t := (s.restoreSheaves bad 0 s.per.smap.kv).restoreSheaves bad 1 s.per.cmap.kv
    let okG := fun (c : Nat) (e : MapEntry) => (s.readSheaf (s.restoreMask (4 * c + 3)) bad e.sheaf c).isSome
    let t := { t with dram := ⟨restoredLines (gs.map (fun (e : Nat × (SMap (LineData × CheckBytes) × Bool × Bool)) => e.2.1))⟩,
                      per := { t.per with dirty := fmapAll .clean, lastMark := [], confirms := [], flushQ := [], lost := lost.map (fun g => (g, true)),
                                          smap := ⟨MapEntry.none, t.per.smap.kv.filter (fun e => keep.contains e.1)⟩,
                                          cmap := ⟨MapEntry.none, t.per.cmap.kv.filter (fun e => okG e.1 e.2)⟩ } }
    let t := ((t.setFld SAV_RST_DONE (min gs.length 0xFFFFF)).setFld SAV_RST_LOST (min lost.length 0xFFFFF)).showImage i
    let t := if t.sav.older then t.setAllDirty 5 else t
    let t := { t with sav := { t.sav with rstMasks := [] } }
    let t := t.note 0x0061 139 (leBytes 4 i.gen ++ leBytes 4 lost.length ++ leBytes 4 (t.fld SAV_RST_REBUILT))
    let t := ((t.setFlag SAV_STS_RESTORING false).setFld SAV_STS_STAGE 0).setFld SAV_STS_PLAN 0x1F
    .next ((t.lodgeBad bad).giveDram).enterService

/-- A clock discontinuity ends (R363): the DRAM is the HBP's again, out of self-refresh but in a rebound, whose HANDOVER alone ends it (R222); ALERT_n is released, and a lull whose exit waited is over. -/
def State.discontinuityEnd (s : State) : State :=
  let t := (s.giveDram).setFlag CLK_STS_DISCONT false
  if s.preHandover then t
  else if s.sys.mode = .lull then t.leaveSelfRef.lullExit
  else t.leaveSelfRef.applyCaLat

/-- DISC_END (R363): ignored while H_LOCK = 0 or DISCONT = 0. -/
def execDiscEnd (s : State) : Host.Outcome State Fault Refusal :=
  if s.flag CLK_STS_H_LOCK && s.flag CLK_STS_DISCONT then .next s.discontinuityEnd else .next s

/-- PLL_LOCK (R350 to R356): the loop that is loading or searching locks; a HANDOVER that waits for PLL_H completes (R222), and a restore that waits for the DRAM loop takes the DRAM (R356). -/
def execPllLock (loop : PllLoop) (band : BitVec 6) (fine : BitVec 10) (temp : Byte) (s : State) : Host.Outcome State Fault Refusal :=
  .next (((s.pllLocked loop band fine temp).handbackReady).reboundReady).restoreTake

/-- What a host clock loss of 20 µs does (R364): the DRAM is in self-refresh, and feed A decides between a save and a clock discontinuity with CLOCK_LOSS. -/
def State.hostClockLost (s : State) : State :=
  let t := s.discontinuityEntry
  if !t.flag PWR_FEED_STS_A_GOOD then t.trigger 6
  else ((t.setFlag CLK_STS_LOSS true).setFlag CLK_STS_DISCONT true).report .clockLoss 1 0 0

/-- HOST_CLOCK_LOSS_TIMEOUT (R343, R364): no edge within 20 µs of the detection; or no lock within 20 µs of a self-refresh exit in harvest, which is handled alike, the harvest over and the DRAM in self-refresh. A save wins over it (R365). -/
def execHostClockLossTimeout (s : State) : Host.Outcome State Fault Refusal :=
  if s.bdc.handbackWait.isSome && s.sys.mode = .lull then .next s.harvestStop.giveDram.hostClockLost
  else if !s.flag CLK_STS_COAST || s.clk.timedOut || s.clk.present || s.clockRecordOnly then .next s
  else .next ({ s with clk := { s.clk with timedOut := true } } : State).hostClockLost

end Sys2Proof.Machine
end

