-- ==== Sys2Proof/Machine/Thresh.lean ====
section
/-! DEFINITION. Threshing: the copies into TLC stooks, the index and the anchor of the threshed image, and how a thresh goes on and ends (R207, R226 to R228, R265, log entry 98). -/

namespace Sys2Proof.Machine

open Reg

/-- The sheaves that a thresh copies (R226): those of KIND IMAGE and HARVEST, and every check sheaf. -/
def Image.copied (i : Image) : List Nat :=
  ((i.gran.filter (fun e => decide (e.2.st = 0) && (decide (e.2.entry.kind = 1) || decide (e.2.entry.kind = 3)))).map (fun e => e.2.entry.sheaf))
  ++ ((i.group.filter (fun e => decide (e.2.st = 0) && decide (e.2.entry.kind ≠ 0))).map (fun e => e.2.entry.sheaf))

/-- What a thresh of an image reads: the sheaves to copy, and the metadata sheaf, which the threshed image keeps a copy of. -/
def State.threshSources (s : State) (i : Image) : List Nat := i.copied ++ i.own.filter (fun a => (s.sheaf a).any (fun x => decide (x.typ = 7)))

/-- The channels that are fenced in the thresh, and not used again in it (R207). -/
def State.threshFenced (s : State) : List Nat := (List.range 17).filter (fun n => natBits (s.fld SAV_FENCED) n 1 = 1)

/-- The next position of a threshed sheaf, with the sheaf as it stands there: base form, or the form of the plan that the fences of the thresh select (R205, R226, R265); none where there is no room. -/
def State.threshPlace (s : State) (x : Sheaf) : Option (Nat × Sheaf × State) :=
  let form := planFor s.threshFenced false
  if form = 18 then
    match keeperMap s.threshFenced [] with
    | none => none
    | some km => (s.allocNarrow true km s.sav.threshJ s.sav.threshRows).map (fun r =>
        let t := r.2.2.2
        (r.1, { x with form := 18, kmap := km, kj := s.sav.threshJ, krows := r.2.1 },
          { t with sav := { t.sav with threshRows := r.2.2.1, threshJ := s.sav.threshJ + 1 } }))
  else (s.allocThresh).map (fun r => (r.1, { x with form := form, kmap := [], kj := 0, krows := [] }, r.2))

/-- TYPE of a threshed copy: a copy is a sheaf of an image (Table 9-3). -/
def copyType (typ : Nat) : Nat := if typ = 5 then 1 else if typ = 4 ∨ typ = 6 then 2 else typ

/-- Note where a source of the thresh stands from now on. -/
def State.threshNote (s : State) (i : Image) (a b : Nat) : State :=
  let t : State := { s with sav := { s.sav with threshCopies := smapPut s.sav.threshCopies a b } }
  t.setFld SAV_THR_DONE (i.copied.filter (fun x => (smapFind t.sav.threshCopies x).isSome)).length

/-- Copy one sheaf (R226): read with correction and parity rebuild, and written in the form of the run. One that cannot be read keeps its reference (DESIGN CHOICE, log entry 98). -/
def State.threshCopy (s : State) (i : Image) (a : Nat) : Option State :=
  match s.sheaf a with
  | none => some (s.threshNote i a a)
  | some x =>
    if 2 ≤ (earsLost s.fencedMask [] a x).length then some (s.threshNote i a a)
    else (s.threshPlace { x with typ := copyType x.typ, gen := i.gen }).map (fun r => (r.2.2.putSheaf r.1 r.2.1).threshNote i a r.1)

/-- The next source of a thresh that is still to be copied. -/
def State.threshNext (s : State) (i : Image) : Option Nat := (s.threshSources i).find? (fun a => (smapFind s.sav.threshCopies a).isNone)

/-- The image under thresh, while the thresh runs in lull. -/
def State.threshing (s : State) : Option Image :=
  match s.flash.images.getLast? with
  | some i => if s.sys.mode = .lull && s.sav.thresh = some i.gen && decide (s.fld SAV_STS_STAGE = 7) then some i else none
  | none => none

/-- One copy of a running thresh (R226, R228), the work of one idle tick (log entry 98). -/
def State.threshStep (s : State) : State :=
  match s.threshing with
  | none => s
  | some i => match s.threshNext i with
    | none => s
    | some a => (s.threshCopy i a).getD s

/-- The copies that remain, as far as there is room. -/
def State.threshRest (s : State) : Nat → State
  | 0 => s
  | n + 1 => s.threshStep.threshRest n

/-- THRESH_START (R226, R228): in lull, of the newest image; a thresh that paused resumes. The start is a plan boundary (R207). -/
def execThreshStart (s : State) : Host.Outcome State Fault Refusal :=
  match s.flash.images.getLast? with
  | none => .next s
  | some i =>
    if s.sys.mode ≠ .lull || !s.flag SAV_CTL_THRESH_EN || s.flag CFG_MODE_NO_PLAN || s.sav.run.isSome then .next s
    else if s.sav.thresh = some i.gen then .next (s.setFld SAV_STS_STAGE 7)
    else if i.pos < s.fld SAV_CTL_THRESH_AT || i.threshed || s.sav.threshed = i.gen then .next s
    else
      let t := s.channelsReturn
      let t := { t with sav := { t.sav with thresh := some i.gen, threshCopies := [], threshRows := [], threshJ := 0 } }
      let t := ((t.setFlag SAV_STS_THRESHING true).setFld SAV_STS_STAGE 7).setFld SAV_FENCED t.planMask
      .next (((t.setFld SAV_THR_GEN i.gen).setFld SAV_THR_DONE 0).setFld SAV_THR_TOTAL i.copied.length)

/-- The TLC fold copy of a gleaned sheaf, where one exists (R177, R226). -/
def State.foldCopy (s : State) (a : Nat) : Nat :=
  match s.sheaf a with
  | none => a
  | some x => ((s.flash.sheaves.find? (fun e => addrTlc e.1 && decide (e.2 = x))).map (·.1)).getD a

/-- An index entry after a thresh (R226): copies are KIND IMAGE at position 1; a gleaned reference is kept or moved to its fold copy. -/
def State.threshEntry (s : State) (m : SMap Nat) (e : IndexEntry) : IndexEntry :=
  if e.st ≠ 0 || e.entry.kind = 0 then e
  else match smapFind m e.entry.sheaf with
    | some b => if b = e.entry.sheaf then e else { e with entry := { e.entry with kind := 1, pos := 1, sheaf := b } }
    | none => { e with entry := { e.entry with sheaf := s.foldCopy e.entry.sheaf } }

/-- A save-map or check-map entry after a thresh: what named a copied sheaf names its copy. -/
def threshMap (m : SMap Nat) (e : MapEntry) : MapEntry :=
  if e.kind = 0 then e
  else match smapFind m e.sheaf with
    | some b => if b = e.sheaf then e else { e with kind := 1, pos := 1, sheaf := b }
    | none => e

/-- The index sheaves of the threshed image are written (R210, R227): their addresses; none where there is no room. -/
def State.threshIndex (s : State) (i : Image) (gen : Nat) (es : List Nat) : List Nat → List Nat → Option (List Nat × State)
  | _, [] => some ([], s)
  | acc, k :: ks =>
    (s.threshPlace ⟨8, 0, [], 0, [], k, gen, i.f, i.epoch, [], false, indexLines k es, []⟩).bind (fun r =>
      ((r.2.2.putSheaf r.1 r.2.1).threshIndex i gen es (r.1 :: acc) ks).map (fun x => (r.1 :: x.1, x.2)))

/-- The threshed image (R227): N's content under a new GEN, at position 1 of a new chain. FLAGS.KEEPER, FLAGS.NARROWED and the count of OMITTED granules, for which R227 states no value, stay N's (DESIGN CHOICE, log entry 98). -/
def Image.thresh (i : Image) (s : State) (m : SMap Nat) (gran group : SMap IndexEntry) (es : List Byte) (gen seq : Nat) (meta' idx : List Nat) (at' : Nat) : Image :=
  let form := planFor s.threshFenced false
  let other := fun (a : Nat) => decide (((s.sheaf a).map (·.form)).getD 0 ≠ 0)
  { i with plan := form, pos := 1, threshed := true, degraded := (gran ++ group).any (fun e => decide (e.2.entry.kind ≠ 0) && other e.2.entry.sheaf),
           gen := gen, configGen := s.fld PLN_GEN_ACTIVE, prevGen := i.gen, indexAddr := idx.headD 0, indexSheaves := idx.length,
           sheaves := (m.filter (fun e => decide (e.1 ≠ e.2))).length + idx.length, tick := s.tick, wall := s.wallNow, seq := seq, indexDigest := sha256 es,
           chain := gen, copies := 1, copyAt := [at'], gran := gran, group := group, recs := i.recs, own := meta' ++ idx }

/-- A threshed image anchors (R227): the maps name the copies, the thresh is over, and the second anchor copy goes in flight. -/
def State.threshAnchored (s : State) (m : SMap Nat) (j : Image) : State :=
  let t := (s.anchorFirst j)
  let t := { t with flash := { t.flash with imageGen := j.gen },
                    sav := { t.sav with thresh := none, threshCopies := [], threshRows := [], threshJ := 0, threshed := j.gen },
                    per := { t.per with smap := fmapMap (threshMap m) t.per.smap, cmap := fmapMap (threshMap m) t.per.cmap } }
  let t := (t.setFlag SAV_STS_THRESHING false).setFld SAV_THR_GEN 0
  let t := ((t.setFld SAV_STS_STAGE 0).showImage j).setFlag SAV_STS_DEGRADED j.degraded
  t.channelsReturn.refill

/-- THRESH_COPIES_DONE (R227): every copy is confirmed, and the index and the first anchor copy of the threshed image are written. Without room for them the thresh stays where it is. -/
def execThreshCopiesDone (s : State) : Host.Outcome State Fault Refusal :=
  match s.threshing with
  | none => .next s
  | some i =>
    let t := s.threshRest (s.threshSources i).length
    if (t.threshNext i).isSome then .next t
    else
      let m := t.sav.threshCopies
      let gen := t.flash.imageGen + 1
      let gran := i.gran.map (fun e => (e.1, t.threshEntry m e.2))
      let group := i.group.map (fun e => (e.1, t.threshEntry m e.2))
      let ge := t.presentGranules.map (fun g => smapGet (fun _ => IndexEntry.none) gran g)
      let ce := t.presentGroups.map (fun c => smapGet (fun _ => IndexEntry.none) group c)
      match t.threshIndex i gen ((ge ++ ce).map (fun e => leNat (indexBytes e))) [] (List.range t.indexSheaves) with
      | none => .next t
      | some (idx, t) =>
        let (p, t) := t.anchorPos
        let (n, t) := t.takeSeq
        let meta' := (i.own.filter (fun a => (smapFind m a).isSome)).map (fun a => (smapFind m a).getD a)
        .next (t.threshAnchored m (i.thresh t m gran group (indexPayload ge ce) gen n meta' idx p))

end Sys2Proof.Machine
end

