-- ==== Sys2Proof/Machine/Fault.lean ====
section
/-! DEFINITION. The fault collector and the kite: incidents, reactions, shadows, fences and the control cores (R400 to R436, R453, R454). -/

namespace Sys2Proof.Machine

open Reg

/-- The kinds that R415 never shadows. -/
def neverShadowed (k : FaultKind) : Bool := decide (kindCode k ≤ 7)

/-- Word 0 of a message (Table 14-1). -/
def msgWord (m : FaultMsg) : Nat := m.source.val * 2 ^ 22 + kindCode m.kind * 2 ^ 16 + sevCode m.sev * 2 ^ 14 + m.qual.val

/-- The unit of Table 14-6 that a source names; none where the source cannot be fenced (R413). -/
def unitOf (src : Nat) : Option UnitRow :=
  if 46 ≤ src ∧ src ≤ 113 then some (.channel ((src - 46) % 17))
  else match src with
    | 130 => some (.core .a)
    | 131 => some (.core .b)
    | 132 => some .packet
    | 133 => some .learner
    | 134 => some .training
    | 136 => some .glean
    | 137 => some .seal
    | 138 => some .seal
    | 141 => some .hmover
    | 142 => some .scrubber
    | 145 => some .recorder
    | 147 => some .sideband
    | _ => none

/-- A source that speaks for a unit, for a message that the collector forms about it (R414). -/
def unitSource : UnitRow → Nat
  | .channel n => 46 + n
  | .core .a => 130
  | .core .b => 131
  | .packet => 132
  | .learner => 133
  | .training => 134
  | .glean => 136
  | .seal => 137
  | .hmover => 141
  | .scrubber => 142
  | .recorder => 145
  | .sideband => 147
  | .rail r => railSource r

/-- UNIT_ERROR, PAIR_WIRE and DOMAIN_FAULT, which most rows of Table 14-6 cover. -/
def unitKind (k : FaultKind) : Bool := decide (k = .unitError) || decide (k = .pairWire) || decide (k = .domainFault)

/-- The flash channel row of Table 14-6: the source is covered, and the kind is covered from it. -/
def channelCovers (n src : Nat) (k : FaultKind) : Bool × Bool :=
  if unitOf src = some (.channel n) ∨ src = 0x110 + n then (true, true)
  else if src = 143 ∨ src = 136 then (true, decide (k = .dieRetired) || decide (k = .swathShort))
  else (false, false)

/-- The marionette source of a PMIC rail (Table 14-2). -/
def State.marionette (s : State) (r : Nat) : Nat := 0x130 + s.fld (PWR_RAIL_CFG_MB r)

/-- The rail row of Table 14-6, for the rails that an action turns off. -/
def State.railCovers (s : State) (rs : List Nat) (src : Nat) (k : FaultKind) : Bool × Bool :=
  let here := rs.any (fun r => decide (src = railSource r) || (decide (r < 16) && decide (src = s.marionette r)))
  let kinds := decide (k = .railFault) || decide (k = .railNoStart) || decide (k = .mbFault)
  let chans := (rs.filter (fun r => decide (16 ≤ r))).map (fun r => channelCovers (r - 16) src k)
  (here || chans.any (·.1), (here && kinds) || chans.any (·.2))

/-- Whether an open shadow's entry covers a source, and the kind from that source (Table 14-6). -/
def State.covers (s : State) (x : Shadow) (src : Nat) (k : FaultKind) : Bool × Bool :=
  let row := fun (l : List Nat) (more : Bool) => if l.contains src then (true, unitKind k || more) else (false, false)
  match x.unit with
  | .channel n => channelCovers n src k
  | .core _ => row [130, 131, 132] (decide (k = .coreNoKite) || decide (k = .linkDown))
  | .packet => row [132, 130, 131] false
  | .learner => row [133] false
  | .training => row [134] false
  | .glean => row [135, 136, 137] (decide (k = .gleanHostchk))
  | .seal => row [137, 138, 141] (decide (k = .harvestRecheck))
  | .hmover => row [141] false
  | .scrubber => row [142] false
  | .recorder => row [145] false
  | .sideband => row [147] false
  | .rail _ => s.railCovers x.rails src k

/-- The newest open shadow that satisfies a test. -/
def newestShadow (p : Shadow → Bool) (xs : List Shadow) : Option Shadow := xs.reverse.find? p

/-- A kind whose reaction configuration cannot change (Table 14-3). -/
def fixedKind (k : FaultKind) : Bool := [0x04, 0x05, 0x08, 0x09, 0x0A, 0x0C, 0x29, 0x2A].contains (kindCode k)

/-- The reaction that a code of Table 14-5 names; the codes that the table does not give run as LOG (log entry 51). -/
def reactionOf (n : Nat) : Reaction :=
  if n = 1 then .fence else if n = 2 then .fenceDegraded else if n = 3 then .keeper else if n = 4 then .saveNow else .log

/-- The code of a reaction (Table 14-5). -/
def reactionCode : Reaction → Nat
  | .log => 0
  | .fence => 1
  | .fenceDegraded => 2
  | .keeper => 3
  | .saveNow => 4

/-- The configured reaction of a kind that is not fixed (R413). -/
def State.configured (s : State) (k : FaultKind) : Reaction :=
  reactionOf (s.fld ⟨(FLT_REACT 0).addr + 4 * (kindCode k / 8), 4 * (kindCode k % 8), 4⟩)

/-- Whether the cause of a kind from a source is present (Table 14-3). An injected cause is not (R424). `told` is what was reported of a unit that had not reported ready. -/
def State.causeOf (s : State) (told : Bool) (m : FaultMsg) : Bool :=
  let src := m.source.val
  if m.inj then false
  else match m.kind with
    | .paceLow => s.flag PLN_PACE_STS_LOCAL_LOW || s.flag PLN_PACE_STS_CORNER_LOW || s.flag PLN_PACE_STS_RANGE
    | .xtalFail | .cornerCrc | .coresLost => true
    | .sptSelf => s.flt.selfBad
    | .feedAOv => s.pwr.aHigh
    | .feedBLow => s.flag PWR_FEED_STS_B_LOW
    | .feedBOv => s.pwr.bUnusable
    | .linkDown => s.flag SPT_KITE_LINK_DOWN
    | .unitError => s.flt.errLines.contains src
    | .pairWire => s.flt.pairLines.contains src
    | .unitNotReady => !told
    | .domainFault => s.flt.domBad.contains src
    | .laneFault => if src < 24 then s.bit HBP_LANE_FLT_H (src - 4) else s.bit HBP_LANE_FLT_D (src - 24)
    | .parityBlockLong => s.flag HBP_PAR_STS_BLOCK_LONG
    | .trainFail => s.flag TRN_STS_DRAM_FAIL
    | .clockDiscontinuity => s.flag CLK_STS_DISCONT
    | .clockLoss => decide (s.clk.h ≠ .locked)
    | .pllNoLock => if src = 1 then decide (s.clk.h ≠ .locked) else if src = 45 then decide (s.clk.d ≠ .locked) else decide (s.clk.f ≠ .locked)
    | .dramHot => s.flag DCT_STS_HOT
    | .rationExceeded => s.flag GLN_STS_RATION_OVER
    | .flashTrainFail => s.flag (FCE_STS_TRAIN_FAIL ((src - 46) % 17))
    | .flashUnsupported => s.flag FLO_STS_UNSUPPORTED
    | .swathShort => s.flag FLO_STS_SWATH_SHORT
    | .wearShort => s.flag PLN_STS_WEAR_SHORT
    | .packShort => s.flag PLN_STS_PACK_SHORT
    | .railNoStart | .railFault => if src < 0x110 then !s.railGood (src - 0x100) else !s.railGood (src - 0x110 + 16)
    | .mbFault => s.bit PWR_MB_STS_FAULTED (src - 0x130)
    | .attachLoop => decide (((s.flash.boot.map (·.fails)).getD 0) ≠ 0)
    | _ => false

/-- The incident in a slot; none where the slot is FREE. -/
def State.incident (s : State) (k : Nat) : Option Incident := smapFind s.flt.slots k

/-- Store an incident. -/
def State.putIncident (s : State) (k : Nat) (i : Incident) : State := { s with flt := { s.flt with slots := smapPut s.flt.slots k i } }

/-- The slot and the incident that a test picks, the lowest slot first. -/
def State.findIncident (s : State) (p : Incident → Bool) : Option (Nat × Incident) := s.flt.slots.find? (fun x => p x.2)

/-- The cause of an incident is present: that of its first message, and in slot 63 of every message merged into it (R421). -/
def State.incidentCause (s : State) (k : Nat) (i : Incident) : Bool :=
  s.causeOf i.causeGone i.first || (decide (k = 63) && i.cons.any (s.causeOf i.causeGone))

/-- The code of an incident's state (Table 14-4). -/
def incCode : IncState → Nat
  | .acting => 1
  | .held => 2
  | .gone => 3

/-- The event record of an incident (Table 15-2); `st` is the state it carries. -/
def State.incidentRecord (s : State) (code : Nat) (i : Incident) (st : Nat) : State :=
  s.emitTagged i.first.sev i.first.inj code i.first.source.val (leBytes 4 i.num ++ leBytes 4 (msgWord i.first) ++ leBytes 4 i.first.follow.toNat ++ leBytes 1 st)

/-- A cause of a pulse of FAULT_n (R419). -/
def State.pulse (s : State) : State := s.setFlag FLT_PIN_PULSING true

/-- Opening or overtaking an incident pulses FAULT_n where its severity reaches PIN_SEV (R419). -/
def State.pinCause (s : State) (sev : Sev) : State := if s.fld FLT_PIN_PIN_SEV ≤ sevCode sev then s.pulse else s

/-- The core of the other name. -/
def otherCore : CoreId → CoreId
  | .a => .b
  | .b => .a

/-- A core's state field (Table 14-17). -/
def coreStateFld : CoreId → Fld
  | .a => SPT_HB_A_STATE
  | .b => SPT_HB_B_STATE

/-- A core's ALIVE bit. -/
def coreAliveFld : CoreId → Fld
  | .a => SPT_HB_A_ALIVE
  | .b => SPT_HB_B_ALIVE

/-- A core's heartbeat age. -/
def coreAgeFld : CoreId → Fld
  | .a => SPT_HB_A_AGE
  | .b => SPT_HB_B_AGE

/-- A core's cold-standby bit. -/
def coreColdFld : CoreId → Fld
  | .a => SPT_KITE_COLD_A
  | .b => SPT_KITE_COLD_B

/-- The fault source of a core (Table 14-2). -/
def coreSource : CoreId → Nat
  | .a => 130
  | .b => 131

/-- The code of a core in SPT_KITE.HOLDER. -/
def coreCode : CoreId → Nat
  | .a => 1
  | .b => 2

/-- The core that holds the kite. -/
def State.holder (s : State) : Option CoreId :=
  if s.fld SPT_KITE_HOLDER = 1 then some .a else if s.fld SPT_KITE_HOLDER = 2 then some .b else none

/-- A core is running: neither off nor fenced. -/
def State.coreRuns (s : State) (c : CoreId) : Bool := decide (s.fld (coreStateFld c) ≠ 0) && decide (s.fld (coreStateFld c) ≠ 5)

/-- A core that neither lives nor is starting: the safety partition judges it dead (R426). -/
def State.coreDeadNow (s : State) (c : CoreId) : Bool := !s.flag (coreAliveFld c) && decide (s.fld (coreStateFld c) ≠ 1)

/-- The kite's holder is lost (Table 14-7, R431): a switch-over gap begins, and a held request is dropped. -/
def State.holderLost (s : State) : State :=
  ({ s with kite := { s.kite with request := none, holderDead := true } } : State).setFlag SPT_KITE_GAP true

/-- The index of a core's memory. -/
def coreIx : CoreId → Nat
  | .a => 0
  | .b => 1

/-- A core is held in reset with its domain off (Table 14-6), and its memory is lost; a switch-over follows if it held the kite. -/
def State.coreFence (s : State) (c : CoreId) : State :=
  if !s.coreRuns c then s else
  let t := ((s.setFld (coreStateFld c) 5).setFlag (coreAliveFld c) false).setFlag (coreColdFld c) false
  let t := { t with kite := { t.kite with mem := smapDel t.kite.mem (coreIx c) } }
  let t := if t.kite.request = some c then { t with kite := { t.kite with request := none } } else t
  if t.holder = some c && !t.kite.holderDead then t.holderLost else t

/-- A core is judged dead (R426, Table 14-7): with both dead CORES_LOST, else CORE_LOST for it; `qual` bit 0 marks a lapsed lease. -/
def State.coreJudgedDead (s : State) (c : CoreId) (qual : Nat) : State :=
  let t := (s.setFlag (coreAliveFld c) false).setFld (coreStateFld c) 5
  let t := if t.kite.request = some c then { t with kite := { t.kite with request := none } } else t
  let t := if t.holder = some c && !t.kite.holderDead then t.holderLost else t
  if t.coreDeadNow (otherCore c) then t.report .coresLost 0 0 0 else t.report .coreLost (coreSource c) qual 0

/-- A core boots from the active twin (Table 14-6): STARTING, unless another incident still holds it. -/
def State.coreBoot (s : State) (c : CoreId) : State :=
  if s.unitOut (.core c) || s.fld (coreStateFld c) ≠ 5 then s
  else
    let t := (s.setFld (coreStateFld c) 1).setFld (coreAgeFld c) 0xFF
    { t with kite := { t.kite with mem := smapPut t.kite.mem (coreIx c) t.pln.fw } }

/-- The standby becomes cold (R428, R429): of the two cores the one that does not hold the kite. -/
def State.coldStandby (s : State) : State :=
  match s.holder with
  | none => s
  | some h =>
    let c := otherCore h
    if s.fld (coreStateFld c) = 3 then (s.setFld (coreStateFld c) 4).setFlag (coreColdFld c) true else s

/-- The cold standby becomes hot again (R429): it has applied the journal. -/
def State.hotStandby (s : State) : State :=
  let s := { s with kite := { s.kite with journal := [] } }
  [CoreId.a, CoreId.b].foldl (fun (u : State) c =>
    if u.fld (coreStateFld c) = 4 then (u.setFld (coreStateFld c) 3).setFlag (coreColdFld c) false else u) s

/-- The log memory fails (R453, R454): LOG_MEMORY in the last-resort log, the recorder is fenced, and the region is marked. -/
def State.logFail (s : State) (bank : Nat) : State :=
  if s.flag EVR_STS_FENCED then s
  else
    let t := (s.lastLog 1 .critical 145).setFlag EVR_STS_FENCED true
    if t.flag EVR_STS_SPARE_IN_USE then { t with evr := { t.evr with bothFailed := true } }
    else ({ t with evr := { t.evr with failedBank := bank } } : State).setFlag SPT_STS_LOG_MAIN_BAD true

/-- Repairs in harvest are void: their granules return to DIRTY (R335, Table 14-6). -/
def State.voidRepairs (s : State) : State :=
  let t := (s.bdc.jobs.filter (·.repair)).foldl (fun (u : State) j => if u.dstate j.g = .flushing then u.setD j.g .dirty else u) s
  { t with bdc := { t.bdc with jobs := t.bdc.jobs.filter (fun j => !j.repair) } }

/-- The harvest tasks of the glean/harvest mover stop, as on interruption (Tables 11-4, 14-6). -/
def State.moverStop (s : State) : State :=
  let t := (s.bdc.jobs.filter (fun j => !j.read)).foldl (fun (u : State) j => if u.dstate j.g = .flushing then u.setD j.g .dirty else u) s
  { t with bdc := { t.bdc with jobs := t.bdc.jobs.filter (·.read) } }

/-- What a unit's fence does for an incident (Table 14-6, column "While fenced"). -/
def State.fenceEffect (s : State) (u : UnitRow) (inc : Nat) : State :=
  match u with
  | .channel n => s.fenceChannel n (some (.incident inc))
  | .core c => s.coreFence c
  | .learner => (s.learnStop 5).unlearn.unverifySeals
  | .training => s.trainAbandon.retrainEnd
  | .glean => s.gleanStop
  | .seal => s.sealFence.voidRepairs
  | .hmover => s.moverStop
  | .recorder => s.logFail (Config.logBank (s.flag EVR_STS_SPARE_IN_USE))
  | .packet | .scrubber | .sideband | .rail _ => s

/-- Whether a unit's FENCE returns only as FENCE_DEGRADED does (Table 14-6). -/
def fenceStays : UnitRow → Bool
  | .channel _ => true
  | .recorder => true
  | _ => false

/-- Fence a unit for an incident: the effect, the entry of what is out, and the shadow (R412 to R414). -/
def State.fenceUnit (s : State) (u : UnitRow) (n : Nat) (degraded : Bool) : State :=
  let t := s.fenceEffect u n
  { t with flt := { t.flt with fenced := t.flt.fenced ++ [(u, n, degraded || fenceStays u)], shadows := t.flt.shadows ++ [⟨n, u, [], false⟩] } }

/-- What a unit does on its return (Table 14-6): the ring-state table resets, a core boots; channels return at a plan boundary and the recorder at a configuration. -/
def State.unitReturn (s : State) (u : UnitRow) : State :=
  match u with
  | .packet => s.ringsReset
  | .core c => s.coreBoot c
  | _ => s

/-- Run FENCE or FENCE_DEGRADED on a source; LOG runs in its place where no row of Table 14-6 holds it (R413). The result says which ran. -/
def State.runFence (s : State) (n src : Nat) (degraded : Bool) : State × Reaction × Bool :=
  match unitOf src with
  | none => (s, .log, true)
  | some u => (s.fenceUnit u n degraded, if degraded then .fenceDegraded else .fence, false)

/-- The effect of an uncorrectable SRAM error by what the failing word holds (R404): the state, the reaction shown, and whether LOG took a fence's place (R413). A staging word is read again, and the plan store reloads the active generation from the active twin. -/
def State.sramReaction (s : State) (n src : Nat) (h : SramUse) : State × Reaction × Bool :=
  match h with
  | .maps gs => ((gs.foldl (fun (u : State) g => if u.present g.val then u.setD g.val .dirty else u) s).setAllDirty 5, .log, false)
  | .retried => (s, .log, false)
  | .gleanStaging g => (s.gleanLoss g.val s.horizon true, .log, false)
  | .ringTail r q => ({ s with pkt := { s.pkt with held := s.pkt.held.filter (fun x => decide (x.ring ≠ r.val) || decide (x.seq ≠ q.toNat)) } }, .log, false)
  | .coreMemory c => (if s.coreRuns c then s.coreJudgedDead c 0 else s, .log, false)
  | .recorder =>
    if s.flag EVR_STS_FENCED then (s, .log, false)
    else
      let t := s.logFail (src - 114)
      ({ t with flt := { t.flt with fenced := t.flt.fenced ++ [(.recorder, n, true)], shadows := t.flt.shadows ++ [⟨n, .recorder, [], false⟩] } }, .fenceDegraded, false)
  | .planStore => ({ s with pln := { s.pln with reloadEnd := s.tick + Config.planReloadUs s.tick % 20001 } }, .log, false)
  | .other d => s.runFence n d.val true

/-- A rail's source as a rail number. -/
def sourceRail (src : Nat) : Nat := if src < 0x110 then src - 0x100 else src - 0x110 + 16

/-- The reaction to RAIL_FAULT: the rail's action (Table 13-7). RETRY and GROUP on a capacity rail open a shadow over the rails that they turn off. -/
def State.railReaction (s : State) (n src : Nat) : State × Reaction :=
  let r := sourceRail src
  let cover := fun (u : State) (rs : List Nat) => ({ u with flt := { u.flt with shadows := u.flt.shadows ++ [⟨n, .rail r, rs, false⟩] } } : State)
  match s.railAct r with
  | 0 => (s, .log)
  | 1 => (cover (s.railRetry r) [r], .log)
  | 2 =>
    if railPersist r then
      let t := if railDram r then s else { s with pwr := { s.pwr with offAtAnchor := s.pwr.offAtAnchor ||| railBit r } }
      (t.trigger 5, .saveNow)
    else
      let rs := s.groupRails r
      (cover (s.railsOff rs (.incident n)) rs, .log)
  | _ => (s.keeperEnter.trigger 5, .keeper)

/-- A load switch that failed to come up fences its flash channel, and the shadow of the channel's row opens (R381, R414); the sequencer has fenced it already unless the message was injected. -/
def State.switchFence (s : State) (n src : Nat) : State :=
  if src < 0x110 ∨ 0x121 ≤ src then s
  else
    let t := s.fenceChannel (src - 0x110) (some (.incident n))
    { t with flt := { t.flt with shadows := t.flt.shadows ++ [⟨n, .channel (src - 0x110), [], false⟩] } }

/-- Whether the reaction of a message is LOG, and no fixed reaction that has no code of its own (R411, Tables 13-7, 14-3). `sub`: LOG took a fence's place. -/
def State.logsOnly (s : State) (m : FaultMsg) (r : Reaction) (sub : Bool) : Bool :=
  decide (r = .log) && match m.kind with
    | .linkDown | .railNoStart => false
    | .sramUe => sub
    | .railFault => decide (s.railAct (sourceRail m.source.val) = 0)
    | _ => true

/-- A reaction runs (R412, Tables 14-3, 14-5): the state after it, the reaction that FLT_INC_STS shows, and whether LOG took a fence's place. In shut-down nothing but LOG runs (R418). The trigger of FEED_A_OV has run already, unless the message was `made` for the occasion. -/
def State.react (s : State) (n : Nat) (m : FaultMsg) (h : SramUse) (made : Bool) : State × Reaction × Bool :=
  let src := m.source.val
  if s.inMode [.off, .shutDown] then (s, .log, false)
  else match m.kind with
    | .sptSelf => (s, .log, false)
    | .feedAOv => (if made then s.trigger 5 else s, .saveNow, false)
    | .coreLost => s.runFence n src true
    | .coresLost => (s.keeperEnter, .keeper, false)
    | .linkDown => (s.coldStandby, .log, false)
    | .sramUe => s.sramReaction n src h
    | .railNoStart => (s.switchFence n src, .log, false)
    | .railFault => let r := s.railReaction n src; (r.1, r.2, false)
    | k =>
      match s.configured k with
      | .log => (s, .log, false)
      | .fence => s.runFence n src false
      | .fenceDegraded => s.runFence n src true
      | .keeper => (s.keeperEnter, .keeper, false)
      | .saveNow => (s.trigger 5, .saveNow, false)

/-- Whether a shadow of an incident's own reaction is open. -/
def State.shadowOpen (s : State) (n : Nat) : Bool := s.flt.shadows.any (fun x => decide (x.owner = n) && !x.ret)

/-- An incident's hold on the channels that it keeps fenced ends (R321). -/
def State.endFences (s : State) (n : Nat) : State := (List.range 17).foldl (fun (u : State) ch => u.dropCause ch (.incident n)) s

/-- The channel of a message whose fence its source has made already: FLASH_TRAIN_FAIL and a load switch's RAIL_NO_START (R315, R381). -/
def toldChannel (m : FaultMsg) : Option Nat :=
  if m.inj then none
  else if m.kind = .flashTrainFail then some ((m.source.val - 46) % 17)
  else if m.kind = .railNoStart ∧ 0x110 ≤ m.source.val then some (m.source.val - 0x110)
  else none

/-- A message that tells of a fence made already reaches the collector: its incident holds the fence from now on (R321); one that opens none holds nothing. -/
def State.claimFence (s : State) (m : FaultMsg) (inc : Option Nat) : State :=
  match toldChannel m with
  | none => s
  | some ch =>
    let x := FenceCause.told m.kind m.source.val
    if !(s.chan ch).causes.contains x then s
    else match inc with
      | none => s.dropCause ch x
      | some n => s.setChan ch { (s.chan ch) with causes := (s.chan ch).causes.map (fun y => if y = x then .incident n else y) }

/-- A cleared incident's units return (R321, R422): a return shadow opens over each, but for a channel, which returns at the next plan boundary, and for the recorder, which a configuration moves. A mover or a scrubber under FENCE waits for the next lull (Table 14-6). -/
def State.returnUnits (s : State) (n : Nat) : State :=
  (s.flt.fenced.filter (fun x => decide (x.2.1 = n) && x.2.2)).foldl (fun (u : State) x =>
    match x.1 with
    | .channel _ | .recorder => u
    | w =>
      let v : State := { u with flt := { u.flt with fenced := u.flt.fenced.filter (fun y => decide (y ≠ x)), shadows := u.flt.shadows ++ [⟨n, w, [], true⟩] } }
      v.unitReturn w) s

/-- An incident becomes FREE (R409, R421, R422): INCIDENT_CLEAR is written, its units return, and a cold standby becomes hot again (R429). -/
def State.freeIncident (s : State) (k : Nat) : State :=
  match s.incident k with
  | none => s
  | some i =>
    let t := (s.incidentRecord 0x0042 i 0)
    let t : State := { t with flt := { t.flt with slots := smapDel t.flt.slots k } }
    let t := if i.first.kind = .linkDown then t.hotStandby else t
    (t.returnUnits i.num).endFences i.num

/-- An incident whose reaction is over goes to HELD or GONE by its cause, and one whose reaction was LOG leaves GONE by itself (R410, R411). -/
def State.settleSlot (s : State) (k : Nat) : State :=
  match s.incident k with
  | none => s
  | some i =>
    if i.state = .acting && s.shadowOpen i.num then s
    else
      let st : IncState := if s.incidentCause k i then .held else .gone
      let t := s.putIncident k { i with state := st }
      if st = .gone && t.flag FLT_CTL_AUTOCLR && !i.first.inj && i.logOnly then t.freeIncident k else t

/-- Every incident settles (Table 14-4). -/
def State.settle (s : State) : State := (s.flt.slots.map (·.1)).foldl (fun (u : State) k => u.settleSlot k) s

/-- A message is merged as a consequent (R408, R409): 16 are kept whole, and the others are counted. -/
def State.mergeInto (s : State) (k : Nat) (m : FaultMsg) : State :=
  match s.incident k with
  | none => s
  | some i =>
    let t := s.putIncident k { i with cons := if i.cons.length < 16 then i.cons ++ [m] else i.cons, consCount := satAdd i.consCount 1 65535,
                                      causeGone := i.causeGone && decide (m.kind ≠ .unitNotReady) }
    (t.bump FLT_CNT_MERGED 1).claimFence m (some i.num)

/-- The reaction of a message runs for the incident in a slot; an injected and suppressed one runs none and is GONE at once (R424). What the incident shows as its reaction is that of the message that opened it. -/
def State.startReaction (s : State) (k : Nat) (m : FaultMsg) (sup : Bool) (h : SramUse) (made : Bool) : State :=
  match s.incident k with
  | none => s
  | some i =>
    if m.inj && sup then s.settleSlot k
    else
      let (t, r, sub) := s.react i.num m h made
      match t.incident k with
      | none => t
      | some j =>
        let own := decide (j.first = m)
        (t.putIncident k { j with state := .acting, react := if own then r else j.react, subst := j.subst || sub,
                                  logOnly := s.logsOnly m r sub && (own || j.logOnly) }).settleSlot k

/-- A new incident opens (R407 to R409, R419, R453); with slots 0 to 62 in use the message goes to slot 63, and its reaction still runs. -/
def State.openIncident (s : State) (m : FaultMsg) (sup : Bool) (h : SramUse) (made : Bool) (link seq : Nat) : State :=
  let slot := ((List.range 63).find? (fun k => (s.incident k).isNone)).getD 63
  let s := if slot = 63 then s.setFlag FLT_STS_OVERFLOW true else s
  match s.incident slot with
  | some _ => (s.mergeInto slot m).startReaction slot m sup h made
  | none =>
    let n := s.fld FLT_NEXT_INC
    let i : Incident := ⟨n, .acting, m, seq, s.tick, [], 0, link, false, false, .log, true, false⟩
    let t := ((s.setFld FLT_NEXT_INC (n + 1)).bump FLT_CNT_OPENED 1).putIncident slot i
    let t := (t.incidentRecord 0x0040 i 1).pinCause m.sev
    let t := if m.sev = .critical && t.flag EVR_STS_FENCED then t.lastLog 3 m.sev m.source.val else t
    let t := if m.kind = .linkDown then t.bump CORE_CNT_LINK 1 else t
    (t.claimFence m (some n)).startReaction slot m sup h made

/-- An injected incident is overtaken by a real message of its source (R425). -/
def State.overtake (s : State) (k : Nat) (m : FaultMsg) (h : SramUse) (seq : Nat) : State :=
  match s.incident k with
  | none => s
  | some i =>
    let j : Incident := { i with first := m, state := .acting, cons := (i.first :: i.cons).take 16, consCount := satAdd i.consCount 1 65535,
                                 overtaken := true, tick := s.tick, seq := seq, causeGone := false }
    let t := (((s.putIncident k j).incidentRecord 0x0041 j 1).pinCause m.sev).claimFence m (some i.num)
    let again := decide (t.configured m.kind = i.react) && !fixedKind m.kind && t.flt.fenced.any (fun x => decide (x.2.1 = i.num) && decide (some x.1 = unitOf m.source.val))
    if again then t.settleSlot k else t.startReaction k m false h false

/-- The message record of a message that opens no incident (R402, R422). -/
def State.messageRecord (s : State) (m : FaultMsg) : State :=
  s.emitTagged m.sev m.inj (kindCode m.kind) m.source.val (leBytes 4 (msgWord m) ++ leBytes 4 m.follow.toNat)

/-- A message that a return shadow takes, or whose shadow's incident is gone: it is counted and written as a record, and opens nothing (R422). -/
def State.countMessage (s : State) (m : FaultMsg) : State := ((s.bump FLT_CNT_MERGED 1).messageRecord m).claimFence m none

/-- A message is placed by the first rule of R408 that applies; `seq` is its arrival number. A repeat of a never-shadowed kind runs its reaction (R415; DEDUCED, log entry 5). With BYPASS set nothing is merged or shadowed (R417). -/
def State.placeMessage (s : State) (m : FaultMsg) (sup : Bool) (h : SramUse) (made : Bool) (seq : Nat) : State :=
  let src := m.source.val
  if s.flag FLT_STS_BYPASS then s.openIncident m sup h made 0 seq
  else match s.findIncident (fun i => decide (i.first.source = m.source) && decide (i.first.kind = m.kind) && decide (i.first.inj = m.inj)) with
    | some (k, _) => if neverShadowed m.kind then (s.mergeInto k m).startReaction k m sup h made else (s.mergeInto k m).settleSlot k
    | none =>
      match (if m.inj then none else s.findIncident (fun i => i.first.inj && decide (i.first.source = m.source))) with
      | some (k, _) => s.overtake k m h seq
      | none =>
        match (if neverShadowed m.kind then none else newestShadow (fun x => (s.covers x src m.kind).1 && (s.covers x src m.kind).2) s.flt.shadows) with
        | some x =>
          if x.ret then s.countMessage m
          else (match s.findIncident (fun i => decide (i.num = x.owner)) with
            | some (k, _) => s.mergeInto k m
            | none => s.countMessage m)
        | none =>
          match (if m.kind = .dirtyTapOverrun then s.findIncident (fun i => decide (i.first.kind = .paceLow)) else none) with
          | some (k, _) => s.mergeInto k m
          | none => s.openIncident m sup h made (((newestShadow (fun x => (s.covers x src m.kind).1) s.flt.shadows).map (·.owner)).getD 0) seq

/-- The number that a message takes as it reaches the collector (R161, R402); 0 while none can be issued, and its record's number then stands for it (log entry 49). -/
def State.arrivalSeq (s : State) : Nat × State := if s.evr.base.isNone || s.seqBlocked then (0, s) else s.takeSeq

/-- A message arrives at the collector (R402, R408, R417): TRACE and NOTE become records, and a report about the collector's first stage sets BYPASS. -/
def State.arrive (s : State) (m : FaultMsg) (sup : Bool) (h : SramUse) (made : Bool) : State :=
  if m.sev = .trace || m.sev = .note then s.messageRecord m
  else
    let (n, t) := s.arrivalSeq
    let t := t.placeMessage m sup h made n
    if m.source.val = 144 && unitKind m.kind then t.setFlag FLT_STS_BYPASS true else t

/-- FAULT_MESSAGE_ARRIVAL (R402, R408): the message of the command, else the oldest in transit. -/
def execFaultMessageArrival (own : Option FaultMsg) (holds : SramUse) (s : State) : Host.Outcome State Fault Refusal :=
  if s.sys.mode = .off then .next s
  else match own with
    | some m => .next ((s.arrive m false holds true).settle)
    | none =>
      match s.flt.inflight with
      | [] => .next s.settle
      | m :: rest => .next ((({ s with flt := { s.flt with inflight := rest } } : State).arrive m.1 m.2 holds m.1.inj).settle)

/-- Whether a unit rests in its fence for an incident (FENCE_DEGRADED). -/
def State.resting (s : State) (u : UnitRow) (n : Nat) : Bool := s.flt.fenced.any (fun y => decide (y.1 = u) && decide (y.2.1 = n) && y.2.2)

/-- Whether the final stage samples a unit's error pair (R405): in power-up and attach, and from the release of the unit's reset or fence until its shadow closes. A unit under FENCE is released within its shadow, and the model samples it throughout (DESIGN CHOICE, log entry 116). -/
def State.pairSampled (s : State) (dom : Nat) : Bool :=
  s.inMode [.powerUp, .attach] || s.flt.shadows.any (fun x => decide (unitOf dom = some x.unit) && (x.ret || !s.resting x.unit x.owner))

/-- A message that the collector forms about a unit (R406, R414). -/
def unitMessage (k : FaultKind) (dom : Nat) : FaultMsg := ⟨Fin.ofNat 1024 dom, k, kindSev k, 0, 0, false⟩

/-- UNIT_ERROR_PAIR (R405, R406): the pair of a domain that is off or isolated is clamped quiet; equal levels form PAIR_WIRE, set the source's bit and form UNIT_ERROR; an error level waits 2 µs for a coded message. -/
def execUnitErrorPair (dom : Fin 148) (equal : Bool) (s : State) : Host.Outcome State Fault Refusal :=
  let d := dom.val
  if s.sys.mode = .off || !s.domOn d || !s.pairSampled d then .next s
  else
    let t : State := { s with flt := { s.flt with errLines := if s.flt.errLines.contains d then s.flt.errLines else d :: s.flt.errLines } }
    if !equal then .next t
    else
      let t : State := { t with flt := { t.flt with pairLines := if t.flt.pairLines.contains d then t.flt.pairLines else d :: t.flt.pairLines } }
      let t := t.setBit (FLT_PAIR (d / 32)) (d % 32) true
      .next (((t.arrive (unitMessage .pairWire d) false .retried false).arrive (unitMessage .unitError d) false .retried false).settle)

/-- UNIT_ERROR (R406): no coded message followed the error pair. -/
def execUnitError (dom : Fin 148) (s : State) : Host.Outcome State Fault Refusal :=
  if s.sys.mode = .off || !s.flt.errLines.contains dom.val then .next s
  else .next ((s.arrive (unitMessage .unitError dom.val) false .retried false).settle)

/-- Close the oldest shadow held under an incident's number; answer it with the state. -/
def State.closeShadow (s : State) (n : Nat) : Option (Shadow × State) :=
  (s.flt.shadows.find? (fun x => decide (x.owner = n))).map (fun x => (x, { s with flt := { s.flt with shadows := s.flt.shadows.erase x } }))

/-- A unit under FENCE has returned by itself, but for the mover and the scrubber, which wait for the next lull (Table 14-6). -/
def State.fenceReturned (s : State) (x : Shadow) : State :=
  let mine := fun (y : UnitRow × Nat × Bool) => decide (y.1 = x.unit) && decide (y.2.1 = x.owner) && !y.2.2
  let late := decide (x.unit = .hmover) || decide (x.unit = .scrubber)
  if x.ret || late || !s.flt.fenced.any mine then s
  else ({ s with flt := { s.flt with fenced := s.flt.fenced.filter (fun y => !mine y) } } : State).unitReturn x.unit

/-- SHADOW_CLOSE (R414): the unit has reported ready; its FENCE ends, and the incident settles. -/
def execShadowClose (inc : BitVec 32) (s : State) : Host.Outcome State Fault Refusal :=
  match s.closeShadow inc.toNat with
  | none => .next s
  | some (x, t) => .next (t.fenceReturned x).settle

/-- UNIT_NOT_READY (R408 rule 4, R414, R422): the shadow closes, and the message merges into its incident; after a clear, and with BYPASS set (R417), it opens a new incident, which after a clear names the cleared one. A unit that has not returned stays out until its incident is cleared (log entry 52). -/
def execUnitNotReady (inc : BitVec 32) (s : State) : Host.Outcome State Fault Refusal :=
  match s.closeShadow inc.toNat with
  | none => .next s
  | some (x, t) =>
    let m := unitMessage .unitNotReady (unitSource x.unit)
    let (q, t) := t.arrivalSeq
    if x.ret || t.flag FLT_STS_BYPASS then .next ((t.openIncident m false .retried true (if x.ret then x.owner else 0) q).settle)
    else
      match t.findIncident (fun i => decide (i.num = x.owner)) with
      | none => .next t.settle
      | some (k, _) =>
        let t := t.mergeInto k m
        .next (({ t with flt := { t.flt with fenced := t.flt.fenced.map (fun (y : UnitRow × Nat × Bool) => if y.1 = x.unit && y.2.1 = x.owner then (y.1, y.2.1, true) else y) } } : State).settle)

/-- What ends when a cause that no rule's command ends is reported gone (Table 14-3): an error line, a pair, a domain's check, the self-check, a feed, a unit's readiness. -/
def State.causeEnds (s : State) (k : Nat) (i : Incident) : State :=
  let src := i.first.source.val
  let t := s.putIncident k { i with causeGone := true }
  match i.first.kind with
  | .unitError => { t with flt := { t.flt with errLines := t.flt.errLines.filter (fun d => decide (d ≠ src)) } }
  | .pairWire => { t with flt := { t.flt with pairLines := t.flt.pairLines.filter (fun d => decide (d ≠ src)),
                                               errLines := t.flt.errLines.filter (fun d => decide (d ≠ src)) } }
  | .domainFault => { t with flt := { t.flt with domBad := t.flt.domBad.filter (fun d => decide (d ≠ src)) } }
  | .sptSelf => { t with flt := { t.flt with selfBad := false } }
  | .feedAOv => t.feedAIn
  | .feedBLow => t.setFlag PWR_FEED_STS_B_LOW false
  | _ => t

/-- INCIDENT_CAUSE_GONE (R410, R411): the cause that the environment holds ends, and the incidents settle. -/
def execIncidentCauseGone (slot : Fin 64) (s : State) : Host.Outcome State Fault Refusal :=
  match s.incident slot.val with
  | none => .next s.settle
  | some i => .next ((s.causeEnds slot.val i).settle)

/-- FAULT_PULSE_END (R419, R420). -/
def execFaultPulseEnd (s : State) : Host.Outcome State Fault Refusal :=
  .next (s.setFlag FLT_PIN_PULSING false)

/-- The level of FAULT_n: true high (R419, R420). -/
def State.faultPin (s : State) : Bool :=
  if s.flag FLT_PIN_PULSING then false
  else match s.fld FLT_PIN_MODE with
    | 1 => !s.flt.slots.any (fun x => decide (s.fld FLT_PIN_PIN_SEV ≤ sevCode x.2.first.sev))
    | 2 => false
    | _ => true

/-- FLT_PIN_WRITE (R420, Table 14-12). -/
def execFltPinWrite (v : Word) (s : State) : Host.Outcome State Fault Refusal :=
  if !s.coreDomains then .next s else .next (s.storeReg 0x21008 v)

/-- SPT_SELF (R403): the self-check runs; 0 is a pass, and a failure names its check. -/
def execSptSelf (fail : Fin 5) (s : State) : Host.Outcome State Fault Refusal :=
  if s.sys.mode = .off then .next s
  else
    let t := s.wrap SPT_SELF_RUNS 1
    if fail.val = 0 then .next (({ t with flt := { t.flt with selfBad := false } } : State).settle)
    else
      let t := ((t.bump SPT_SELF_FAILS 1).setFld SPT_SELF_LAST fail.val)
      .next (({ t with flt := { t.flt with selfBad := true } } : State).report .sptSelf 0 0 0)

/-- The kite passes to the other core (Table 14-8 step 4): a former holder that lives is held in reset (one that was lost is so already, or has booted again), and the switch-over is counted. -/
def State.switchOver (s : State) (c : CoreId) : State :=
  let t := if s.kite.holderDead then s else (s.setFld (coreStateFld (otherCore c)) 5).setFlag (coreAliveFld (otherCore c)) false
  ((t.grantKite c).bump CORE_CNT_SWITCH 1).setFlag SPT_KITE_GAP true

/-- CORE_HB (R426, R428): the heartbeat counts; a starting core becomes a standby. The holder's heartbeat turns a held request into LINK_DOWN, and a core that comes alive after the holder's lease has run out takes the kite. -/
def execCoreHb (core : CoreId) (s : State) : Host.Outcome State Fault Refusal :=
  if s.sys.mode = .off || !s.coreRuns core then .next s
  else
    let t := (s.setFld (coreAgeFld core) 0).setFlag (coreAliveFld core) true
    let t := if t.fld (coreStateFld core) = 1 then t.setFld (coreStateFld core) 3 else t
    if t.holder = some core && t.kite.request.isSome then
      let t : State := { t with kite := { t.kite with request := none } }
      .next (((t.setFlag SPT_KITE_LINK_DOWN true).coldStandby).report .linkDown (coreSource (otherCore core)) 0 0)
    else if t.kite.holderDead && t.holder = some (otherCore core) && t.fld SPT_KITE_LEASE_LEFT = 0 then .next (t.switchOver core)
    else .next t

/-- CORE_DEAD (R426): the core's latest heartbeat is older than 60 µs. -/
def execCoreDead (core : CoreId) (s : State) : Host.Outcome State Fault Refusal :=
  if s.sys.mode = .off || !s.flag (coreAliveFld core) then .next s else .next (s.coreJudgedDead core 0)

/-- CORE_START_TIMEOUT (R426): a released core has sent no heartbeat within 50 ms. -/
def execCoreStartTimeout (core : CoreId) (s : State) : Host.Outcome State Fault Refusal :=
  if s.sys.mode = .off || s.fld (coreStateFld core) ≠ 1 then .next s else .next (s.coreJudgedDead core 0)

/-- A write of CORE_KITE.RENEW (R427). -/
def State.kiteRenew (s : State) (core : CoreId) : State :=
  if !s.coreRuns core then s
  else if s.holder = some core && !s.kite.holderDead then s.setFld SPT_KITE_LEASE_LEFT 200
  else s.report .coreNoKite (coreSource core) 0 0

/-- KITE_RENEW (R427). -/
def execKiteRenew (core : CoreId) (s : State) : Host.Outcome State Fault Refusal :=
  if s.sys.mode = .off then .next s else .next (s.kiteRenew core)

/-- A write of CORE_KITE.REQUEST (R428): held while the holder is judged alive; a cold standby sends none (R429). -/
def State.kiteRequest (s : State) (core : CoreId) : State :=
  if s.fld (coreStateFld core) = 3 && s.holder = some (otherCore core) && !s.kite.holderDead then
    { s with kite := { s.kite with request := some core } }
  else s

/-- KITE_REQUEST (R428). -/
def execKiteRequest (core : CoreId) (s : State) : Host.Outcome State Fault Refusal :=
  if s.sys.mode = .off then .next s else .next (s.kiteRequest core)

/-- KITE_LEASE_EXPIRY (R428, R430, Table 14-7): the kite goes to the other core if that is alive; a lapse raises CORE_LOST with qualifier 1. -/
def execKiteLeaseExpiry (s : State) : Host.Outcome State Fault Refusal :=
  match s.holder with
  | none => .next s
  | some h =>
    let t := s.setFld SPT_KITE_LEASE_LEFT 0
    if !t.flag (coreAliveFld (otherCore h)) then .next t
    else if t.kite.holderDead then .next (t.switchOver (otherCore h))
    else .next ((t.switchOver (otherCore h)).report .coreLost (coreSource h) 1 0)

/-- LINK_TEST_PASS (R429): the cause of LINK_DOWN is gone. -/
def execLinkTestPass (s : State) : Host.Outcome State Fault Refusal := .next ((s.setFlag SPT_KITE_LINK_DOWN false).settle)

/-- SWITCHOVER_COMPLETE (R131, R431): REG_READ and IMAGE_QUERY in progress are executed anew, every other core packet in execution completes with BUSY, the gap ends, and statuses are posted. A mailbox packet that waited for a core goes on. -/
def execSwitchoverComplete (s : State) : Host.Outcome State Fault Refusal :=
  if !s.inGap || s.kite.holderDead then .next s
  else
    let broken := s.pkt.exec.filter (fun e =>
      let op := pktField e.bytes 0 1
      coreOp op && decide (op ≠ 0x02) && decide (op ≠ 0x0A) && (e.started || decide (e.aux % 2 ≠ 1)))
    let t := broken.foldl (fun (u : State) e => u.complete e stBusy [] (noByte + detInterrupted)) s
    let t : State := { t with pkt := { t.pkt with exec := t.pkt.exec.map (fun (e : ExecPkt) => if e.started then e else { e with aux := e.aux / 2 * 2 }) } }
    .next ((t.setFlag SPT_KITE_GAP false).postWithheld)

end Sys2Proof.Machine
end

