-- ==== Sys2Proof/Machine/Flags.lean ====
section
/-! DEFINITION. What a read of a register shows (R457 to R464): the fields that only mirror state held elsewhere (counts, flags, stamps, selected entries), computed from that state, and the stored word for all others. -/

namespace Sys2Proof.Machine

open Reg

/-- A register word with several fields replaced. -/
def insAll (w : Word) : List (Fld × Nat) → Word
  | [] => w
  | (f, v) :: fs => insAll (fldIns w f v) fs

/-- A truth value as a bit. -/
def bitOf (b : Bool) : Nat := if b then 1 else 0

/-- ALERT_n is held low by a condition of R50, R435 or R436, and in every shut-down, one that no freeze precedes among them (DESIGN CHOICE, log entry 85). -/
def State.alertHeld (s : State) : Bool :=
  s.flag CLK_STS_DISCONT || s.sys.phase = .restore || s.inMode [.off, .powerUp, .save, .shutDown, .rebound]
  || (s.sys.mode = .attach && (s.sys.phase = .none || s.sys.phase = .decide))
  || (s.sys.mode = .keeper && (s.sys.keeperFrom = .early || s.sys.keeperFrom = .rebound))

/-- The level of ALERT_n, true for high: in CA and CS training the trained response (R82), else low for a held condition, a pulse or a block (R47, R50). -/
def State.alertLevel (s : State) : Bool :=
  match s.hbp.train with
  | some .ca | some .cs => decide (s.hbp.trainOut ≠ 0)
  | _ => !(s.alertHeld || s.hbp.alertPulse || s.flag HBP_PAR_STS_BLOCK_A || s.flag HBP_PAR_STS_BLOCK_B)

/-- DOM_ON j. -/
def State.domWord (s : State) (j : Nat) : Word := BitVec.ofNat 32 (leBits ((List.range 32).map (fun k => s.domOn (32 * j + k))))

/-- Some setting that takes effect at power-up alone differs from the running value (Table 8-10). -/
def State.reloadPending (s : State) : Bool :=
  let m := s.pln.image
  !m.isEmpty
  && (decide (leField m 40 4 ≠ (s.word 0x5004).toNat) || decide (leField m 44 4 ≠ (s.word 0x5008).toNat)
    || decide (leField m 36 2 ≠ s.fld GLN_RESERVE_STOOKS)
    || (match s.flash.boot with
        | some b => (match smapFind s.flash.twins (b.twin * 3) with
            | some fw => decide (fw ≠ s.pln.fw)
            | none => false)
        | none => false))

/-- The lowest SEQ that a held record carries (EVR_OLDEST); 0 where none is held or its number is pending. -/
def State.oldestSeq (s : State) : Nat := ((s.evr.log.find? (fun r => !r.chaff)).bind (·.seq)).getD 0

/-- The pool of a die index and channel with the fewest donors, the first in order of die index and channel: its donors, die index and channel (FLO_SPARE_MIN). -/
def State.spareMin (s : State) : Nat × Nat × Nat :=
  let pools := (List.range s.flo.org.dies).flatMap (fun d => (List.range 17).map (fun c => ((s.flo.org.donors d c).length, d, c)))
  match pools with
  | [] => (0, 0, 0)
  | p :: ps => ps.foldl (fun acc x => if x.1 < acc.1 then x else acc) p

/-- Block HBP. -/
def State.viewHbp (s : State) (a : Nat) : Word :=
  let w := s.word a
  if a = 0x200C then fldIns w HBP_PAR_STS_HELD (bitOf s.alertHeld)
  else if a = 0x2018 then BitVec.ofNat 32 s.hbp.stamp
  else if a = 0x201C then BitVec.ofNat 32 (s.hbp.stamp / 2 ^ 32)
  else w

/-- Block CLN: the selected pattern, and the selected column of the code store (R95, Table 3-13). -/
def State.viewCln (s : State) (a : Nat) : Word :=
  let h := s.cln.store
  let col := s.fld CLN_MAT_SEL_COLUMN
  let v : CheckBytes := match s.fld CLN_MAT_SEL_MATRIX with
    | 0 => codeCol h.g col
    | 1 => codeCol h.f col
    | 2 => h.c0
    | _ => h.z
  let i := s.fld CLN_COLL_SEL_INDEX
  let seen := if s.fld CLN_COLL_SEL_CLASS = 0 then (smapFind s.cln.units i).isSome else (smapFind s.cln.classes i).isSome
  if a = 0x4024 then BitVec.ofNat 32 (bitOf seen)
  else if 0x4030 ≤ a ∧ a < 0x4040 then BitVec.ofNat 32 (natBits v.toNat (8 * (a - 0x4030)) 32)
  else s.word a

/-- PKT_STS (Table 4-11). -/
def State.pktSts (s : State) : Word :=
  insAll (s.word 0x500C)
    [(PKT_STS_NO_KITE_HOLD, bitOf (s.dispatchable.any (fun h => s.noKiteFor h.bytes))),
     (PKT_STS_LOCKED, bitOf (s.inGap || s.pktFenced)), (PKT_STS_INBAND, bitOf s.inband)]

/-- Block PER (Tables 5-8, 5-9). -/
def State.viewPer (s : State) (a : Nat) : Word :=
  let w := s.word a
  if a = PER_STS_FULL_NEXT.addr then fldIns w PER_STS_FULL_NEXT (bitOf s.fullNext)
  else if a = 0x6010 then BitVec.ofNat 32 s.cntDirty
  else if a = 0x6014 then BitVec.ofNat 32 s.cntPending
  else if a = 0x6018 then BitVec.ofNat 32 s.cntFlushing
  else w

/-- Block GLN (Tables 6-9, 6-11). -/
def State.viewGln (s : State) (a : Nat) : Word :=
  let w := s.word a
  let v := s.region (s.fld GLN_REG_SEL)
  if a = 0x7004 then
    insAll w [(GLN_STS_SLOTS, s.openSlots.length), (GLN_STS_BUFFERS, s.gleanBuffers),
      (GLN_STS_INCOMPLETE, bitOf (s.gln.regions.any (fun e => s.incomplete e.2))), (GLN_STS_ACTIVE, bitOf s.gleanActive)]
  else if a = 0x7010 then fldIns w GLN_WEAR_BASIS_STOOKS (s.flo.org.all.filter (fun n => (s.stook n).rotation)).length
  else if a = 0x7018 then fldIns w GLN_RESERVE_FREE (s.erasedOf 2).length
  else if a = 0x7044 then
    insAll 0 [(GLN_REG_CFG_STATE, regionCode v.st), (GLN_REG_CFG_INCOMPLETE, bitOf (s.incomplete v)),
      (GLN_REG_CFG_PRIORITY, v.prio), (GLN_REG_CFG_FIRST, v.first)]
  else if a = 0x7048 then BitVec.ofNat 32 v.count
  else if a = 0x704C then BitVec.ofNat 32 v.cap
  else if a = 0x7050 then BitVec.ofNat 32 (v.cap / 2 ^ 32)
  else if a = 0x7054 then BitVec.ofNat 32 (s.gln.repair.filter (fun e => decide (v.st ≠ .free) && v.has e.1)).length
  else w

/-- Block SEA (Tables 6-12, 6-13). A signature is computed within one step, so that SIGNING reads 0 (log entry 55). -/
def State.viewSea (s : State) (a : Nat) : Word :=
  if a = 0x8000 then fldIns (s.word a) SEA_STS_OPEN s.sealsOpen
  else if a = 0x800C then BitVec.ofNat 32 (leField keyId 0 4)
  else if 0x8010 ≤ a ∧ a < 0x8050 then BitVec.ofNat 32 (leField pubKeyBytes (a - 0x8010) 4)
  else s.word a

/-- Block PLN (Tables 8-14, 8-16). Activations are one step, so that ACTIVATING reads 0 (log entry 55). -/
def State.viewPln (s : State) (a : Nat) : Word :=
  let w := s.word a
  let p := s.fld PLN_BOUND_SEL
  if a = PLN_STS_STAGING.addr then
    insAll w [(PLN_STS_RELOAD_PENDING, bitOf s.reloadPending), (PLN_STS_STAGING, bitOf s.pln.staging.isSome)]
  else if a = 0xA014 then BitVec.ofNat 32 ((s.pln.staging.map (fun x => x.got)).getD 0)
  else if a = 0xA034 then BitVec.ofNat 32 (boundOf s.pln.priced p)
  else if a = 0xA038 then BitVec.ofNat 32 (ceilDiv (slotPsOf s.pln.priced p) 1000)
  else if a = 0xA054 then BitVec.ofNat 32 (s.corner (s.fld PLN_CORNER_SEL))
  else w

/-- Block FLO (Table 9-12). The erased swath is what can be written. FORMATTING reads 1 from a format to the next tick (log entry 55). -/
def State.viewFlo (s : State) (a : Nat) : Word :=
  let w := s.word a
  let o := s.flo.org
  let n := s.fld FLO_STK_SEL
  let k := s.stook n
  let ch := s.fld FLO_DIE_SEL_CH
  let d := s.fld FLO_DIE_SEL_DIE
  let die := smapFind s.flo.dieTable (ch * 4 + d)
  if a = 0xB008 then BitVec.ofNat 32 o.dies
  else if a = 0xB00C then insAll w [(FLO_STOOKS_ROT, (o.all.filter (fun m => (s.stook m).rotation)).length), (FLO_STOOKS_ALL, o.all.length)]
  else if a = 0xB010 then insAll w [(FLO_SWATH_ERASED, ((s.erasedOf 1).filter s.writable).length), (FLO_SWATH_TARGET, s.swathTarget / 256)]
  else if a = 0xB014 then insAll w [(FLO_POOLS_TLC, (s.erasedOf 5).length), (FLO_POOLS_WITHDRAWN, (s.ofRole 0xB).length)]
  else if a = 0xB018 then
    insAll w [(FLO_WEAR_HIGH, min ((o.all.map (fun m => (s.stook m).wearMax)).foldl max 0) 0xFFFF), (FLO_WEAR_MEAN, min s.rotationMean 0xFFFF)]
  else if a = 0xB030 then insAll w [(FLO_SPARE_MIN_LEFT, s.spareMin.1), (FLO_SPARE_MIN_DIE, s.spareMin.2.1), (FLO_SPARE_MIN_CH, s.spareMin.2.2)]
  else if a = 0xB044 then
    insAll 0 [(FLO_STK_INFO_ROLE, k.role), (FLO_STK_INFO_HALF, bitOf k.half), (FLO_STK_INFO_MODE, bitOf k.tlc), (FLO_STK_INFO_WEAR, min k.wearMax 0xFFFF)]
  else if a = 0xB048 then BitVec.ofNat 32 (leBits ((List.range 17).map (fun c => k.remaps.any (fun r => decide (r.1 = c)))))
  else if a = 0xB04C then k.lodged.setWidth 32
  else if a = 0xB054 then
    insAll 0 [(FLO_DIE_INFO_PRESENT, bitOf die.isSome), (FLO_DIE_INFO_SUPPORTED, bitOf (die.any (fun x => x.1))),
      (FLO_DIE_INFO_RETIRED, bitOf (o.diesRetired.contains (ch * 4 + d))),
      (FLO_DIE_INFO_DONORS, if d < o.dies ∧ ch < 17 then (o.donors d ch).length else 0)]
  else if 0xB060 ≤ a ∧ a < 0xB080 then BitVec.ofNat 32 (leField s.dieDigest (a - 0xB060) 4)
  else w

/-- Four fields of one register, one per die. -/
def fourDies (s : State) (ch width : Nat) (f : Die → Nat) : Word :=
  BitVec.ofNat 32 ((List.range 4).map (fun d => f (s.die ch d) * 2 ^ (width * d))).sum

/-- The depths of the queues of two dies (FCE_QDEPTH0, FCE_QDEPTH1). -/
def qDepths (x y : Die) : Word :=
  BitVec.ofNat 32 (min x.hi.length 32 + min x.lo.length 32 * 2 ^ 8 + min y.hi.length 32 * 2 ^ 16 + min y.lo.length 32 * 2 ^ 24)

/-- Block FCE n (Tables 10-14 to 10-17). -/
def State.viewFce (s : State) (a : Nat) : Word :=
  let w := s.word a
  let ch := (a - 0x10000) / 0x1000
  let off := a % 0x1000
  if off = 0x004 then fldIns w (FCE_STS_CPL_STALL ch) (bitOf (s.cplStall ch))
  else if off = 0x018 then fourDies s ch 4 (fun v => dieCode v.st)
  else if off = 0x01C then fourDies s ch 4 (fun v => v.susp)
  else if off = 0x020 then qDepths (s.die ch 0) (s.die ch 1)
  else if off = 0x024 then qDepths (s.die ch 2) (s.die ch 3)
  else if off = 0x028 then BitVec.ofNat 32 (s.cplFree ch)
  else if off = 0x054 then
    let p := s.blockPtr ch (s.fld (FCE_PTR_SEL_DIE ch)) (s.fld (FCE_PTR_SEL_BLOCK ch))
    insAll 0 [(FCE_PTR_MODE ch, bitOf p.1), (FCE_PTR_UNKNOWN ch, bitOf p.2.isNone), (FCE_PTR_PAGE ch, p.2.getD 0)]
  else w

/-- Block CLK (Table 12-9). -/
def State.viewClk (s : State) (a : Nat) : Word :=
  if a = 0xE01C then s.bandOf (s.fld CLK_BAND_SEL_LOOP) (s.fld CLK_BAND_SEL_SP)
  else if a = 0xE020 then BitVec.ofNat 32 s.tick
  else if a = 0xE024 then BitVec.ofNat 32 (s.tick / 2 ^ 32)
  else s.word a

/-- Block PWR: the latest telemetry of the selected rail (Table 13-18). -/
def State.viewPwr (s : State) (a : Nat) : Word :=
  if a = 0xF054 then
    match smapFind s.pwr.telem (s.fld PWR_TEL_SEL) with
    | some (v, i) => insAll 0 [(PWR_TEL_DATA_MV, min v 0xFFFF), (PWR_TEL_DATA_MA, min i 0xFFFF)]
    | none => 0
  else s.word a

/-- FLT_STS (Table 14-11). A channel is out under FENCE_DEGRADED for as long as it is fenced, every other unit until its return (R422). -/
def State.fltSts (s : State) : Word :=
  let top := s.flt.slots.foldl (fun acc e => max acc (sevCode e.2.first.sev)) 0
  let out := s.flt.fenced.any (fun (x : UnitRow × Nat × Bool) => match x.1 with
    | .channel n => s.flag (FCE_STS_FENCED n)
    | _ => x.2.2)
  insAll (s.word 0x21004)
    [(FLT_STS_OPEN, s.flt.slots.length), (FLT_STS_DEGRADED, bitOf out), (FLT_STS_SHADOW, bitOf (!s.flt.shadows.isEmpty)),
     (FLT_STS_TOP_SEV, top), (FLT_STS_ANY, bitOf (!s.flt.slots.isEmpty))]

/-- The slot that FLT_INC_SEL selects, and its selected consequent (Tables 14-13, 14-14). -/
def State.viewInc (s : State) (a : Nat) : Word :=
  match s.incident (s.fld FLT_INC_SEL) with
  | none => 0
  | some i =>
    let c := i.cons[s.fld FLT_CONS_SEL]?
    if a = 0x21024 then BitVec.ofNat 32 i.num
    else if a = 0x21028 then
      insAll 0 [(FLT_INC_STS_STATE, incCode i.state), (FLT_INC_STS_INJECTED, bitOf i.first.inj), (FLT_INC_STS_OVERTAKEN, bitOf i.overtaken),
        (FLT_INC_STS_SUBST, bitOf i.subst), (FLT_INC_STS_SEV, sevCode i.first.sev), (FLT_INC_STS_REACT, reactionCode i.react),
        (FLT_INC_STS_CONS, min i.consCount 0xFFFF)]
    else if a = 0x2102C then BitVec.ofNat 32 (msgWord i.first)
    else if a = 0x21030 then i.first.follow
    else if a = 0x21034 then BitVec.ofNat 32 i.link
    else if a = 0x21038 then BitVec.ofNat 32 i.seq
    else if a = 0x2103C then BitVec.ofNat 32 (i.seq / 2 ^ 32 % 2 ^ 16)
    else if a = 0x21044 then (c.map (fun m => BitVec.ofNat 32 (msgWord m))).getD 0
    else if a = 0x21048 then (c.map (fun m => m.follow)).getD 0
    else if a = 0x2104C then fldIns 0 FLT_CONS_TAG (bitOf (c.any (fun m => m.inj)))
    else 0

/-- Block FLT. -/
def State.viewFlt (s : State) (a : Nat) : Word :=
  if a = 0x21004 then s.fltSts
  else if a = 0x21008 then fldIns (s.word a) FLT_PIN_LEVEL (bitOf s.faultPin)
  else if (0x21024 ≤ a ∧ a ≤ 0x2103C) ∨ (0x21044 ≤ a ∧ a ≤ 0x2104C) then s.viewInc a
  else s.word a

/-- CORE_STS as a core sees it, or as every other path does (Table 14-15). -/
def State.coreSts (s : State) (core : Option CoreId) : Word :=
  match core with
  | none => 0
  | some c => insAll 0 [(CORE_STS_HOLDS_KITE, bitOf (decide (s.holder = some c))), (CORE_STS_SELF, coreCode c),
      (CORE_STS_JNL_LAG, min s.kite.journal.length 0xFFFF)]

/-- Block EVR (Tables 15-5, 15-7). -/
def State.viewEvr (s : State) (a : Nat) : Word :=
  let w := s.word a
  if a = 0x23004 then fldIns w EVR_STS_HELD s.evr.log.length
  else if a = 0x23014 then BitVec.ofNat 32 s.evr.nextSeq
  else if a = 0x23018 then BitVec.ofNat 32 (s.evr.nextSeq / 2 ^ 32 % 2 ^ 16)
  else if a = 0x23020 then BitVec.ofNat 32 s.wallNow
  else if a = 0x23024 then BitVec.ofNat 32 (s.wallNow / 2 ^ 32)
  else if a = 0x23028 then BitVec.ofNat 32 s.oldestSeq
  else if a = 0x2302C then BitVec.ofNat 32 (s.oldestSeq / 2 ^ 32 % 2 ^ 16)
  else w

/-- The live value of the register at an aligned address (R457, R458, R477), as the path of `core` or any other path sees it. An address that no register occupies reads 0. -/
def State.readReg (s : State) (core : Option CoreId) (a : Nat) : Word :=
  if 0x40000 ≤ a ∧ a < 0x80000 then
    if a % 8 = 0 then s.ringCfg ((a - 0x40000) / 8) else s.ringCnt ((a - 0x40000) / 8)
  else if (rowsAt a).isEmpty then 0
  else if a = 0x1000 then
    insAll (s.word a) [(CFG_MODE_MODE, modeCode s.sys.mode), (CFG_MODE_ATTACH_PHASE, phaseCode s.sys.phase)]
  else if a = 0x3014 then smapGet (fun _ => 0) s.trn.results (s.word 0x3010).toNat
  else if a = 0x500C then s.pktSts
  else if a = 0x22000 then s.coreSts core
  else if 0x24400 ≤ a ∧ a < 0x24800 then BitVec.ofNat 32 (s.corner ((a - 0x24400) / 4))
  else if 0x25000 ≤ a ∧ a < 0x25014 then s.domWord ((a - 0x25000) / 4)
  else
    match a / 0x1000 with
    | 0x2 => s.viewHbp a
    | 0x4 => s.viewCln a
    | 0x6 => s.viewPer a
    | 0x7 => s.viewGln a
    | 0x8 => s.viewSea a
    | 0xA => s.viewPln a
    | 0xB => s.viewFlo a
    | 0xE => s.viewClk a
    | 0xF => s.viewPwr a
    | 0x21 => s.viewFlt a
    | 0x23 => s.viewEvr a
    | b => if 0x10 ≤ b ∧ b ≤ 0x20 then s.viewFce a else s.word a

/-- The LO registers of the nine LO/HI pairs, each with its HI register (R463). -/
def hiPairs : List (Nat × Nat) :=
  [(0x2018, 0x201C), (0x6008, 0x600C), (0x6040, 0x6044), (0x704C, 0x7050), (0x8004, 0x8008), (0xE020, 0xE024),
   (0x23014, 0x23018), (0x23020, 0x23024), (0x23028, 0x2302C)]

/-- A read on a path with a latch of its own (R463): a LO read latches the HI half, and a HI read returns the latch. A snapshot's HI read without its LO read is live (R448). -/
def State.readLatched (s : State) (core : Option CoreId) (snap : Bool) (lat : SMap Word) (a : Nat) : Word × SMap Word :=
  match hiPairs.find? (fun p => decide (p.1 = a)), hiPairs.find? (fun p => decide (p.2 = a)) with
  | some p, _ => (s.readReg core a, smapPut lat p.2 (s.readReg core p.2))
  | none, some _ => ((smapFind lat a).getD (if snap then s.readReg core a else 0), lat)
  | none, none => (s.readReg core a, lat)

/-- Reads of several registers in order, on one path. -/
def State.readMany (s : State) (core : Option CoreId) (snap : Bool) : SMap Word → List Nat → List Word × SMap Word
  | lat, [] => ([], lat)
  | lat, a :: as =>
    let r := s.readLatched core snap lat a
    let q := s.readMany core snap r.2 as
    (r.1 :: q.1, q.2)

end Sys2Proof.Machine
end

