-- ==== Sys2Proof/Machine/HbpCmd.lean ====
section
/-! DEFINITION. The commands of the host port: what crosses the CA input, the control words of the register function, ALERT_n and the lanes (R38 to R74). -/

namespace Sys2Proof.Machine

open Reg

/-- The source code of the CA domain of a sub-channel (Tables 13-12, 14-2). -/
def subSource (x : Sub) : Nat := 2 + subNum x

/-- Whether a sub-channel is blocked (R45). -/
def State.blocked (s : State) (x : Sub) : Bool := match x with | .a => s.flag HBP_PAR_STS_BLOCK_A | .b => s.flag HBP_PAR_STS_BLOCK_B

/-- Set or end the block of a sub-channel. -/
def State.setBlock (s : State) (x : Sub) (b : Bool) : State :=
  match x with | .a => s.setFlag HBP_PAR_STS_BLOCK_A b | .b => s.setFlag HBP_PAR_STS_BLOCK_B b

/-- Set or clear the error bit of a sub-channel; clearing it ends the block (Table 2-10). -/
def State.setParErr (s : State) (x : Sub) (b : Bool) : State :=
  match x with | .a => s.setFlag HBP_PAR_STS_ERR_A b | .b => s.setFlag HBP_PAR_STS_ERR_B b

/-- A parity error (R44 to R48): the command is dropped, counted and logged, ALERT_n falls, and under DROP_UNTIL_CLEAR the sub-channel is blocked. -/
def State.parityError (s : State) (c : CaCmd) (i : Nat) : State :=
  let t := (s.setParErr c.sub true).bump (match c.sub with | .a => HBP_PAR_STS_COUNT_A | .b => HBP_PAR_STS_COUNT_B) 1
  let t := t.setFld (HBP_PAR_LOG (subNum c.sub)) (parLogWord c.uis i)
  let t := { t with hbp := { t.hbp with alertPulse := true } }
  if t.flag HBP_CTL_PAR_POLICY then t.setBlock c.sub true else t

/-- The BDC holds the DRAM in harvest, until step 7 of Table 11-6 (R342, R343). -/
def State.bdcHolds (s : State) : Bool := s.sys.mode = .lull && s.flag DCT_STS_HARVESTING

/-- Whether the HBP takes what crosses the CA input (R44, R360 to R363, R502): on a locked PLL_H outside a clock discontinuity; and in harvest while PLL_H still locks (R343). -/
def State.caLive (s : State) : Bool :=
  (s.flag CLK_STS_H_LOCK && !s.flag CLK_STS_COAST && !s.flag CLK_STS_DISCONT) || (s.clk.present && s.bdcHolds)

/-- Whether a command's parity is checked (R44, R70, R82, R222): not in a host training mode, and not from a freeze to the rebound's HANDOVER. -/
def State.parityChecked (s : State) : Bool := s.flag HBP_CTL_PAR_EN && s.hbp.train.isNone && !s.preHandover

/-- What receives a command at the CA input: the state after the check, and whether the command goes on. `cw` marks a control-word write, which the early-command rules let through but for restore and harvest, where only a self-refresh exit does not break the handback (R342); `ends` the one that a blocked sub-channel still takes (R45); `exit` a self-refresh exit that ends lull; `served` a command that the active host training mode answers. In restore every command is dropped and logged (R31). -/
def State.hostGate (s : State) (c : CaCmd) (cw ends exit served : Bool) : State × Bool :=
  if s.inMode [.off, .powerUp, .save, .shutDown] then (s, false)
  else if !s.caLive then (s.bump CLK_CNT_DROP (if s.flag CLK_STS_COAST then 1 else 0), false)
  else if s.sys.phase = .restore then (s.note 0x0051 (subSource c.sub) [], false)
  else
    match (if s.parityChecked then firstBadUi c.uis else none) with
    | some i => (s.parityError c i, false)
    | none =>
      if s.blocked c.sub && !ends then (s, false)
      else if cw && s.bdcHolds then (s.handbackBroken c.sub, false)
      else if cw || exit then (s, true)
      else
        let s := { s with sys := { s.sys with keeperTraining := false } }
        match s.earlyCommand (subSource c.sub) c.sub served with
        | some t => (t, false)
        | none => (s, true)

/-- A forwarded command takes the next order stamp (R39). -/
def State.stampNext (s : State) : State := { s with hbp := { s.hbp with stamp := s.hbp.stamp + 1 } }

/-- Run the effect of a command that the DRAM is to see: it is checked, stamped and forwarded, or dropped. While a host training mode is active no command is forwarded (R82). -/
def State.forward (s : State) (c : CaCmd) (k : State → State) : Host.Outcome State Fault Refusal :=
  let (t, ok) := s.hostGate c false false false false
  .next (if ok && t.hbp.train.isNone then k t.stampNext else t)

/-- The bank entry a command names (R42). -/
def cmdBank (c : CaCmd) (b : BankAddr) : Nat := bankIndex (subNum c.sub) c.rank.val c.lrank.val b.bg.val b.ba.val

/-- The open row of a bank entry (R42). -/
def State.openRow (s : State) (i : Nat) : Option Nat := smapFind s.hbp.rows i

/-- Close a bank entry. -/
def State.closeRow (s : State) (i : Nat) : State := { s with hbp := { s.hbp with rows := smapDel s.hbp.rows i } }

/-- The module address of a column command, if its bank has an open row (R42, R55). -/
def State.cmdMa (s : State) (c : CaCmd) (b : BankAddr) (col : BitVec 7) : Option Nat :=
  (s.openRow (cmdBank c b)).map (fun row => s.mkMa (subNum c.sub) c.rank.val c.lrank.val b.bg.val b.ba.val row col.toNat)

/-- A WRITE to a bank with no open row (R42): WRITE_NO_ROW with the order stamp as its payload (DESIGN CHOICE, log entry 92), ALL_DIRTY, every present granule of the bank DIRTY, and a loss for each of them that lies in a capture region. -/
def State.writeNoRow (s : State) (c : CaCmd) (b : BankAddr) : State :=
  let t := s.note 0x0052 (subSource c.sub) (leBytes 8 s.hbp.stamp)
  let t := t.setAllDirty 1
  (t.bankGranules (subNum c.sub) c.rank.val c.lrank.val b.bg.val b.ba.val).foldl
    (fun u g => u.bankWrite g) t

/-- Auto-precharge closes the bank after the access (R42). -/
def State.autoPre (s : State) (ap : Bool) (i : Nat) : State := if ap then s.closeRow i else s

/-- The taps of a forwarded write with a module address (R13, R58 to R60). -/
def State.writeTaps (s : State) (ma : Nat) (v : LineData × CheckBytes) (full : TapFull) : State :=
  let st := s.hbp.stamp
  let t := s.dirtyTap (maGranule ma) st full.dirty
  let t := t.gleanTap ma st v
  t.packetTap ma st v full.packet

/-- A burst length that the part does not support (Table 2-6): UNSUPPORTED_BURST, and ALL_DIRTY. -/
def State.oddLength (s : State) (c : CaCmd) : State := (s.note 0x0053 (subSource c.sub) (leBytes 8 s.hbp.stamp)).setAllDirty 2

/-- HOST_WRITE (R39 to R46, R54, R55, R58 to R60, R73, R90): every forwarded write feeds the taps. In a host training mode it is not forwarded; in write DQ training the burst centres or is compared (R82). -/
def execHostWrite (c : CaCmd) (b : BankAddr) (col : BitVec 7) (burst : Burst) (ap : Bool) (data : LineData) (chk : CheckBytes)
    (full : TapFull) (s : State) : Host.Outcome State Fault Refusal :=
  if s.hbp.train.isSome then
    let (t, ok) := s.hostGate c false false false (s.trainServes true)
    .next (if ok then t.trainWrite c.sub (data, chk) else t)
  else s.forward c (fun t =>
    let i := cmdBank c b
    let odd := decide (burst ≠ Burst.bl16)
    let t := if odd then t.oddLength c else t
    let t := match t.cmdMa c b col with
      | none => t.writeNoRow c b
      | some ma =>
        let v := if odd then Config.oddBurst (if burst = Burst.bc8 then 8 else 32) (t.line ma) (data, chk) else (data, chk)
        let u := ((t.setLine ma v).writeTaps ma v full).learnerTap ma v
        if odd then u.flagIncomplete (maGranule ma) else u
    t.autoPre ap i)

/-- HOST_WRITE_PATTERN (R42, R59). -/
def execHostWritePattern (c : CaCmd) (b : BankAddr) (col : BitVec 7) (ap : Bool) (full : TapFull) (s : State) :
    Host.Outcome State Fault Refusal :=
  s.forward c (fun t =>
    let i := cmdBank c b
    let v := t.patternBurst (subNum c.sub) c.rank.val
    let t := match t.cmdMa c b col with
      | none => t.writeNoRow c b
      | some ma => (t.setLine ma v).writeTaps ma v full
    t.autoPre ap i)

/-- What a READ returns on the host side (R62, R63): the DRAM's line, or the status image with the check bytes of the learned code. -/
def State.readReturn (s : State) (ma : Nat) : LineData × CheckBytes :=
  if s.learned && s.inSap ma then (s.statusLine ma, s.predict ma (s.statusLine ma)) else s.line ma

/-- HOST_READ (R62 to R65): the DRAM's line, or the status image for a line of the status aperture. The data of a READ with no open row, and what a READ of a burst length that the part does not support returns (Table 2-6), are not stated: free values (log entry 9). -/
def execHostRead (c : CaCmd) (b : BankAddr) (col : BitVec 7) (burst : Burst) (ap : Bool) (s : State) : Host.Outcome State Fault Refusal :=
  if s.hbp.train.isSome then
    let (t, ok) := s.hostGate c false false false (s.trainServes false)
    .next (if ok then t.trainRead c.sub else t)
  else s.forward c (fun t =>
    let i := cmdBank c b
    let odd := decide (burst ≠ Burst.bl16)
    let t := if odd then t.oddLength c else t
    let t := match t.cmdMa c b col with
      | none => t.driveOut (Config.readNoRow t.hbp.stamp)
      | some ma =>
        if odd then (t.driveOut (Config.oddRead (if burst = Burst.bc8 then 8 else 32) (t.readReturn ma))).flagIncomplete (maGranule ma)
        else t.driveOut (t.readReturn ma)
    t.autoPre ap i)

/-- HOST_ACT (R42, R332): opens the row and counts the activation. -/
def execHostAct (c : CaCmd) (b : BankAddr) (row : BitVec 17) (s : State) : Host.Outcome State Fault Refusal :=
  s.forward c (fun t =>
    let i := cmdBank c b
    ({ t with hbp := { t.hbp with rows := smapPut t.hbp.rows i row.toNat } } : State).countHostAct i)

/-- HOST_PRECHARGE (R42): PRE closes one bank, PREsb the bank in every bank group, PREab every bank of the logical rank. -/
def execHostPrecharge (c : CaCmd) (kind : PreKind) (b : BankAddr) (s : State) : Host.Outcome State Fault Refusal :=
  s.forward c (fun t =>
    match kind with
    | .one => t.closeRow (cmdBank c b)
    | .sameBank => (List.range 8).foldl (fun (u : State) g => u.closeRow (bankIndex (subNum c.sub) c.rank.val c.lrank.val g b.ba.val)) t
    | .allBanks => (List.range 32).foldl (fun (u : State) k => u.closeRow (bankIndex (subNum c.sub) c.rank.val c.lrank.val 0 0 + k)) t)

/-- HOST_REFRESH (R73): forwarded. -/
def execHostRefresh (c : CaCmd) (s : State) : Host.Outcome State Fault Refusal := s.forward c id

/-- HOST_RFM (R73, R332): forwarded unchanged. -/
def execHostRfm (c : CaCmd) (s : State) : Host.Outcome State Fault Refusal := s.forward c id

/-- HOST_MPC (R73): forwarded. -/
def execHostMpc (c : CaCmd) (_op : Byte) (s : State) : Host.Outcome State Fault Refusal := s.forward c id

/-- The mode register that holds the WRITE PATTERN; PRESUMED from DDR5 (log entry 8). -/
def patternMr : Nat := 48

/-- HOST_MRW (R59, R73): forwarded; an MRW to the pattern mode register updates the nibble held for one lane or for every lane of the rank. -/
def execHostMrw (c : CaCmd) (mr op : Byte) (lane : Option (Fin 10)) (s : State) : Host.Outcome State Fault Refusal :=
  s.forward c (fun t =>
    if mr.toNat ≠ patternMr then t
    else
      let base := c.rank.val * 20 + subNum c.sub * 10
      let ks := match lane with | some k => [k.val] | none => List.range 10
      ks.foldl (fun (u : State) k => { u with hbp := { u.hbp with pattern := smapPut u.hbp.pattern (base + k) (op.toNat % 16) } }) t)

/-- HOST_MRR (R51, R73, R81): an MRR of the register's control words reaches no DRAM and returns no data; any other returns what the DRAM returns, its check lanes included. -/
def execHostMrr (c : CaCmd) (toRegister : Bool) (ret : LineData) (s : State) : Host.Outcome State Fault Refusal :=
  if toRegister then
    let (t, ok) := s.hostGate c false false false false
    .next (if ok then { t with hbp := { t.hbp with hostOut := none } } else t)
  else s.forward c (fun t => t.driveOut (ret, Config.mrrCheck t.hbp.stamp))

/-- HOST_POWER_DOWN (R73): forwarded. -/
def execHostPowerDown (c : CaCmd) (s : State) : Host.Outcome State Fault Refusal := s.forward c id

/-- SELF_REFRESH_ENTRY (R23, R73): forwarded; on every rank of both sub-channels it moves service to lull. In keeper mode it passes through (R27). -/
def execSelfRefreshEntry (c : CaCmd) (s : State) : Host.Outcome State Fault Refusal :=
  s.forward c (fun t =>
    let t := { t with hbp := { t.hbp with selfRef := t.hbp.selfRef ||| (1#4 <<< (subNum c.sub * 2 + c.rank.val)) } }
    if t.sys.mode = .service && t.allSelfRef then t.lullEntry s.horizon else t)

/-- The rank of a command leaves self-refresh. -/
def State.rankExit (s : State) (c : CaCmd) : State :=
  { s with hbp := { s.hbp with selfRef := s.hbp.selfRef &&& ~~~(1#4 <<< (subNum c.sub * 2 + c.rank.val)) } }

/-- A self-refresh exit crosses in harvest (R69, R339, R340, R343): harvest and a loopback stop, and the DRAM returns within `ns`, or waits for PLL_H to lock, which is reported. -/
def State.harvestHandback (s : State) (ns : Nat) : State :=
  if s.bdc.handbackWait.isSome then s
  else
    let t := (if s.harvestWork then s.bump DCT_HARV_CNT_ENDED 1 else s).harvestStop.loopAbort
    if t.hReady then (t.handbackEnd ns).lullExit
    else ({ (t.setFlag DCT_STS_HANDBACK_LATE true) with bdc := { t.bdc with handbackWait := some ns } } : State).report .handbackLate 140 0 0

/-- SELF_REFRESH_EXIT (R23, R32, R39, R41, R339 to R344): stamped; in lull it ends lull, through the harvest handback where the BDC holds the DRAM; else it is re-driven. -/
def execSelfRefreshExit (c : CaCmd) (ns : BitVec 16) (s : State) : Host.Outcome State Fault Refusal :=
  let (t, ok) := s.hostGate c false false (decide (s.sys.mode = .lull)) false
  .next (if !ok || t.hbp.train.isSome then t
    else
      let u := t.stampNext.rankExit c
      if u.sys.mode ≠ .lull then u.applyCaLat
      else if u.flag DCT_STS_HARVESTING then u.harvestHandback ns.toNat
      else u.lullExit)

/-- HBP_CTL returns to its reset values and both parity blocks are cleared; an active host training mode is left without a judgement (R72, R82). -/
def State.hbpReset (s : State) : State := ((s.setWord 0x2000 (resetWord 0x2000)).clearBlocks).trainLeave

/-- What a forwarded H_RESET_n does to the DRAM: no row is open and no rank is in self-refresh. -/
def State.dramReset (s : State) : State := { s with hbp := { s.hbp with rows := [], selfRef := 0 } }

/-- An assertion of H_RESET_n ends a harvest, a restore and a clock discontinuity: the HBP has the DRAM again (R221, R344, R363). -/
def State.resetHandback (s : State) : State :=
  let t := (if s.flag DCT_STS_HARVESTING then s.harvestStop.giveDram else s).loopHome
  let t := { t.restoreStop with bdc := { t.restoreStop.bdc with handbackWait := none } }
  if t.flag CLK_STS_DISCONT then (t.giveDram).setFlag CLK_STS_DISCONT false else t

/-- A SAVE_NOW that was dispatched before an assertion of H_RESET_n triggers its save first (R33, R132). -/
def State.resetSaves (s : State) : State :=
  (s.pkt.exec.filter (fun e => !e.started && decide (pktField e.bytes 0 1 = 0x09))).foldl (fun (u : State) e => if u.pkt.exec.contains e then u.saveNowRun e else u) s

/-- A partial staging is abandoned at H_RESET_n, which save and shut-down ignore (R25, R248). -/
def State.resetStaging (s : State) : State :=
  if s.inMode [.off, .save, .shutDown] then s else { s with pln := { s.pln with staging := none } }

/-- HOST_RESET_ASSERT (R25, R33, R72, R82, R98, R107, R132, R151, R221, R223, R344, R363): ignored in off, save and shut-down; recorded and held before the TRAIN phase; in rebound only HBP_CTL; in keeper mode as in service but for the mode; else the TRAIN phase is entered anew. -/
def execHostResetAssert (s : State) : Host.Outcome State Fault Refusal :=
  let s := (s.resetSaves).resetStaging
  let s := { s with sys := { s.sys with hReset := true } }
  match s.sys.mode with
  | .off | .save | .shutDown => .next s
  | .rebound => .next ((s.hbpReset).note 0x0063 0 [])
  | m =>
    if m = .powerUp || (m = .attach && (s.sys.phase = .none || s.sys.phase = .decide)) || s.keeperEarly then
      .next (s.trainLeave.note 0x006E 0 (leBytes 1 (modeCode m) ++ leBytes 1 (phaseCode s.sys.phase)))
    else if m = .keeper && s.sys.keeperFrom = .rebound then .next ((s.hbpReset).note 0x0063 0 [])
    else
      let t := (s.resetHandback.loopAbort.trainHalt).dramReset.statusLost
      let t := if m = .attach then t.trainLeave else ((t.hbpReset).ringsReset).setAllDirty 4
      if m = .keeper then .next { t with sys := { t.sys with keeperTraining := true } }
      else
        let t := ((t.learnStop 5).threshPause).enterMode .attach
        .next (t.setPhase .train).trainOrWait

/-- HOST_RESET_DEASSERT (R41, R72): CA_LAT and CMD_2N take effect. -/
def execHostResetDeassert (s : State) : Host.Outcome State Fault Refusal :=
  let s := { s with sys := { s.sys with hReset := false } }
  .next (if s.inMode [.off, .save, .shutDown] then s else s.applyCaLat)

/-- ALERT_PULSE_END (R47): the pulse has run; the level is then what the blocks and the held conditions give. -/
def execAlertPulseEnd (s : State) : Host.Outcome State Fault Refusal := .next { s with hbp := { s.hbp with alertPulse := false } }

/-- PARITY_BLOCK_LONG (R49). -/
def execParityBlockLong (sub : Sub) (s : State) : Host.Outcome State Fault Refusal :=
  if s.blocked sub then .next ((s.setFlag HBP_PAR_STS_BLOCK_LONG true).report .parityBlockLong (subSource sub) 0 0) else .next s

/-- DRAM_ALERT (R50): logged with the sub-channel and the rank, a byte each (DESIGN CHOICE, log entry 92), and one host ALERT_n pulse. -/
def execDramAlert (sub : Sub) (rank : Fin 2) (s : State) : Host.Outcome State Fault Refusal :=
  if s.inMode [.off, .powerUp] then .next s
  else
    let t := s.note 0x0054 (subSource sub) (leBytes 1 (subNum sub) ++ leBytes 1 rank.val)
    .next { t with hbp := { t.hbp with alertPulse := true } }

/-- CW_PARITY_CONFIG (R51, Table 2-3, index 0x00). -/
def execCwParityConfig (c : CaCmd) (v : Byte) (s : State) : Host.Outcome State Fault Refusal :=
  let (t, ok) := s.hostGate c true false false false
  .next (if ok then (t.setFlag HBP_CTL_PAR_EN (v.getLsbD 0)).setFlag HBP_CTL_PAR_POLICY (v.getLsbD 1) else t)

/-- CW_CA_LATENCY (R41, R51, index 0x01): the fields take the value, which acts from the next self-refresh exit or reset deassertion. -/
def execCwCaLatency (c : CaCmd) (v : Byte) (s : State) : Host.Outcome State Fault Refusal :=
  let (t, ok) := s.hostGate c true false false false
  .next (if ok then (t.setFlag HBP_CTL_CA_LAT (v.getLsbD 0)).setFlag HBP_CTL_CMD_2N (v.getLsbD 1) else t)

/-- CW_ALERT_WIDTH (R51, index 0x02). -/
def execCwAlertWidth (c : CaCmd) (v : Byte) (s : State) : Host.Outcome State Fault Refusal :=
  let (t, ok) := s.hostGate c true false false false
  .next (if ok then t.setFld HBP_CTL_ALERT_WIDTH (v.toNat % 8) else t)

/-- CW_END_PARITY_BLOCK (R45, R51, index 0x03): bit [0] = 1 ends the block of the sub-channel that carried the write and clears its error bit (Table 2-3). -/
def execCwEndParityBlock (c : CaCmd) (v : Byte) (s : State) : Host.Outcome State Fault Refusal :=
  let (t, ok) := s.hostGate c true (v.getLsbD 0) false false
  .next (if ok && v.getLsbD 0 then (t.setBlock c.sub false).setParErr c.sub false else t)

/-- CW_IGNORED (R51, R82): accepted, ignored and recorded at severity TRACE, with the index and the value as its payload (DESIGN CHOICE, log entry 92). -/
def execCwIgnored (c : CaCmd) (index v : Byte) (s : State) : Host.Outcome State Fault Refusal :=
  let (t, ok) := s.hostGate c true false false false
  .next (if ok then t.emit .trace 0x0055 (subSource c.sub) [index, v] else t)

/-- Events of a lane within its window are judged (R66): a count above THRESH sets the lane's fault bit and reports LANE_FAULT with the side in [5] and the lane in [4:0] (DESIGN CHOICE, log entry 93). A window runs for WINDOW_MS from the event that begins it, and ends with a report (log entry 93). -/
def State.laneJudge (s : State) (k n : Nat) : State :=
  let w := (smapFind s.hbp.laneWin k).getD (s.tick, 0)
  let w := if s.fld HBP_LANE_CTL_WINDOW_MS * 1000 < s.tick - w.1 then (s.tick, 0) else w
  if s.fld HBP_LANE_CTL_THRESH < w.2 + n then
    let t : State := { s with hbp := { s.hbp with laneWin := smapDel s.hbp.laneWin k } }
    let t := if k < 20 then t.setBit HBP_LANE_FLT_H k true else t.setBit HBP_LANE_FLT_D (k - 20) true
    t.report .laneFault (4 + k) ((if k < 20 then 0 else 1) * 32 + k % 20) 0
  else if n = 0 then s
  else { s with hbp := { s.hbp with laneWin := smapPut s.hbp.laneWin k (w.1, w.2 + n) } }

/-- LANE_FAULT (R66): the lane's events are counted, and judged against its threshold. -/
def execLaneFault (lane : Fin 40) (events : BitVec 16) (s : State) : Host.Outcome State Fault Refusal :=
  if s.inMode [.off, .powerUp] then .next s
  else .next ((s.bump (HBP_LANE_CNT_SLIP lane.val) events.toNat).laneJudge lane.val events.toNat)

/-- LOOPBACK_START (R67, R68): in lull, on the enabled sides; not on the DRAM side while harvest runs. -/
def execLoopbackStart (s : State) : Host.Outcome State Fault Refusal :=
  let h := s.flag HBP_LOOP_CTL_HOST_EN
  let d := s.flag HBP_LOOP_CTL_DRAM_EN && !s.flag DCT_STS_HARVESTING
  if s.sys.mode = .lull && (h || d) then
    .next ((({ s with hbp := { s.hbp with loopHost := h, loopDram := d } } : State).setFlag HBP_LOOP_STS_BUSY true).setFlag CLK_STS_D_SRC (s.flag CLK_STS_D_LOCK))
  else .next s

/-- LOOPBACK_END (R67): the run is counted and the bit errors of the lanes of the sides that ran add to their counters. -/
def execLoopbackEnd (errors : List (Fin 40 × BitVec 16)) (s : State) : Host.Outcome State Fault Refusal :=
  if !s.hbp.loopHost && !s.hbp.loopDram then .next s
  else
    let t := errors.foldl (fun (u : State) e =>
      if (if e.1.val < 20 then u.hbp.loopHost else u.hbp.loopDram) then (u.bump (HBP_LANE_CNT_LOOP e.1.val) e.2.toNat).laneJudge e.1.val e.2.toNat else u) s
    let t := { t with hbp := { t.hbp with loopHost := false, loopDram := false } }
    let t := t.clockBack
    .next (((t.setFlag HBP_LOOP_STS_BUSY false).setFlag HBP_LOOP_STS_LAST_ABORTED false).bump HBP_LOOP_STS_RUNS 1)

/-- HBP_CTL_WRITE (R41, R74): the RW fields take the word; CA_LAT and CMD_2N act later. -/
def execHbpCtlWrite (v : Word) (s : State) : Host.Outcome State Fault Refusal :=
  .next (if s.coreDomains then s.storeReg 0x2000 v else s)

/-- PAR_ERR_CLEAR (R45, Table 2-10). -/
def execParErrClear (sub : Sub) (s : State) : Host.Outcome State Fault Refusal := .next ((s.setParErr sub false).setBlock sub false)

/-- A control-word write that enters or leaves a host training mode (R82): bit [0] = 1 enters; bit [0] = 0 to a mode that is not active has no effect; where the modes are not honoured the write is ignored and recorded. -/
def State.trainCw (s : State) (m : TrainMode) (index : Nat) (c : CaCmd) (v : Byte) : Host.Outcome State Fault Refusal :=
  let (t, ok) := s.hostGate c true false false false
  .next (if !ok then t
    else if !t.trainHonoured then t.emit .trace 0x0055 (subSource c.sub) [BitVec.ofNat 8 index, v]
    else if v.getLsbD 0 then t.trainEnter m c.sub v
    else if t.hbp.train = some m then t.judgeHost.trainLeave
    else t)

/-- CA_TRAINING_MODE (R82, index 0x10). -/
def execCaTrainingMode (c : CaCmd) (v : Byte) (s : State) : Host.Outcome State Fault Refusal := s.trainCw .ca 0x10 c v

/-- CS_TRAINING_MODE (R82, index 0x11). -/
def execCsTrainingMode (c : CaCmd) (v : Byte) (s : State) : Host.Outcome State Fault Refusal := s.trainCw .cs 0x11 c v

/-- READ_ENABLE_MODE (R82, index 0x12). -/
def execReadEnableMode (c : CaCmd) (v : Byte) (s : State) : Host.Outcome State Fault Refusal := s.trainCw .readEnable 0x12 c v

/-- WRITE_LEVELING_MODE (R82, index 0x13). -/
def execWriteLevelingMode (c : CaCmd) (v : Byte) (s : State) : Host.Outcome State Fault Refusal := s.trainCw .writeLevel 0x13 c v

/-- READ_DQ_MODE (R82, index 0x14). -/
def execReadDqMode (c : CaCmd) (v : Byte) (s : State) : Host.Outcome State Fault Refusal := s.trainCw .readDq 0x14 c v

/-- WRITE_DQ_MODE (R82, index 0x15). -/
def execWriteDqMode (c : CaCmd) (v : Byte) (s : State) : Host.Outcome State Fault Refusal := s.trainCw .writeDq 0x15 c v

/-- The mode of a training index 0x10 + i. -/
def trainModeOf (i : Fin 6) : TrainMode :=
  match i.val with
  | 0 => .ca
  | 1 => .cs
  | 2 => .readEnable
  | 3 => .writeLevel
  | 4 => .readDq
  | _ => .writeDq

/-- HOST_TRAINING_MODE_EXIT (R82, R83): a control-word write to index 0x10 + i with bit [0] = 0. -/
def execHostTrainingModeExit (c : CaCmd) (index : Fin 6) (s : State) : Host.Outcome State Fault Refusal :=
  s.trainCw (trainModeOf index) (0x10 + index.val) c 0

/-- The XOR of the seven CA bits of each sampled UI, the first UI in bit 0 (R82, mode 0x10). -/
def caXor (uis : List (BitVec 7 × Bool)) : Nat :=
  leBits (uis.map (fun u => decide ((List.range 7).foldl (fun n i => if u.1.getLsbD i then n + 1 else n) 0 % 2 = 1)))

/-- HOST_TRAINING_SAMPLE (R82): what the active mode returns for the sample, eight host clocks later, on ALERT_n (CA and CS training) or on the four bits of each lane (write leveling). -/
def execHostTrainingSample (c : CaCmd) (cs : BitVec 2) (ck : BitVec 20) (s : State) : Host.Outcome State Fault Refusal :=
  let out := fun (n : Nat) => ({ s with hbp := { s.hbp with trainOut := n } } : State)
  match s.hbp.train with
  | some .ca => .next (if c.sub = s.hbp.trainSub then out (caXor c.uis) else s)
  | some .cs => .next (if c.sub = s.hbp.trainSub then out (if cs.getLsbD s.trn.csSel then 1 else 0) else s)
  | some .writeLevel => .next (out (leBits ((List.range 80).map (fun i => ck.getLsbD (i / 4)))))
  | _ => .next s

end Sys2Proof.Machine
end

