-- ==== Sys2Proof/Machine/Generation.lean ====
section
/-! DEFINITION. Configuration generations: staging an image, activating it, and reverting (R248 to R251, R255, R284). -/

namespace Sys2Proof.Machine

open Reg

/-- The stook of a boot twin: the first or the second system stook (Table 9-6). -/
def State.twinStook (s : State) (twin : Nat) : Nat := s.flo.org.systemStook twin

/-- Remove the sheaves of a twin from flash. -/
def State.dropTwin (s : State) (twin : Nat) : State :=
  { s with flash := { s.flash with twins := s.flash.twins.filter (fun e => decide (e.1 / 3 ≠ twin)) } }

/-- The twin's erase is confirmed: no erase of it is under way, and no record of one waits for a commit (R248, R280). -/
def State.twinErased (s : State) (twin : Nat) : Bool :=
  let n := s.twinStook twin
  !s.flo.erases.any (fun j => decide (j.stook = n)) && !(s.stook n).half
  && !s.flo.pendingRecs.any (fun e => match e.body with
    | .eraseIntent es => es.any (fun x => decide (x.1 = n))
    | .eraseDone m _ _ _ => decide (m = n)
    | _ => false)

/-- The firmware that completes a twin (R284): the image's own, or a copy of the running firmware. -/
def State.stagedFw (s : State) (m : List Byte) : List Byte :=
  if leField m 100 4 = 0 then s.pln.fw else sliceBytes m (leField m 96 4) (leField m 100 4)

/-- A directory entry for content at a page (Table 9-9). -/
def dirEntry (page gen : Nat) (m : List Byte) : Nat × Nat × Nat × List Byte := (page, m.length, gen, sha256 m)

/-- The inactive twin is completed and its boot anchor written (R284): the staged image in slot 0, in place at a page, and at the pages after it the firmware and, in slot 1, a copy of the active generation. -/
def State.completeTwin (s : State) (b : BootAnchor) (page : Nat) (m : List Byte) : State :=
  let k := (1 - b.twin) * 3
  let fw := s.stagedFw m
  let act := if b.active = 0 then none else smapFind s.flash.twins (b.twin * 3 + 1 + b.slot)
  let tw := smapPut (smapPut (s.dropTwin (1 - b.twin)).flash.twins k fw) (k + 1) m
  let n := s.twinStook (1 - b.twin)
  let dir := smapPut (smapPut (smapDel (smapDel (smapDel b.dir k) (k + 1)) (k + 2)) k (dirEntry (page + 1) 0 fw)) (k + 1) (dirEntry page (imgGen m) m)
  let tw := match act with | some a => smapPut tw (k + 2) a | none => tw
  let dir := match act with | some a => smapPut dir (k + 2) (dirEntry (page + 2) b.active a) | none => dir
  (({ s with flash := { s.flash with twins := tw } } : State).setUsed n (page + 3)).writeBoot (fun x => { x with dir := dir })

/-- NOT_PERMITTED with a reason of Table 8-7 (R242), kept in PLN_REFUSE. -/
def State.refuseConfig (s : State) (e : ExecPkt) (reason : Nat) : State :=
  (s.noteRefusal stNotPermitted (reason * 2 ^ 16)).complete e stNotPermitted [] (noByte + reason * 2 ^ 16)

/-- The place of an ear of the slot-0 sheaf that is being staged (R262, R284). -/
def State.stageKey (s : State) (n : Nat) (g : Staging) (k : Nat) : Nat :=
  let ch := earChannel g.page k
  earKey ch (stookDie n) (s.flo.org.physRow n ch g.page) g.page

/-- An ear of the slot-0 sheaf is programmed (R248), with the image's generation in its metadata (Table 9-3); a fenced channel and an unsupported die take none. -/
def State.stageProgram (s : State) (n : Nat) (g : Staging) (k : Nat) (ls : SMap LineData) : State :=
  let t := s.setUsed n (g.page + 1)
  if !s.dieOpen (earChannel g.page k) (stookDie n) then t
  else t.putEar (s.stageKey n g k) ⟨0xFFFF, .data ls (metaTemplate 0x0C 0 k 0 g.gen 0 0 [])⟩

/-- The ear buffer goes to flash as the next data ear, and into the parity accumulator (R248). -/
def State.stageEar (s : State) (n : Nat) (g : Staging) : Staging × State :=
  let ls := linesOf (g.buf.take 65536)
  let par := ls.foldl (fun (m : SMap LineData) e => smapSet (fun _ => 0) m e.1 (smapGet (fun _ => 0) m e.1 ^^^ e.2)) g.parity
  ({ g with buf := g.buf.drop 65536, ears := g.ears + 1, parity := par }, s.stageProgram n g g.ears ls)

/-- The last, partly filled ear and the parity ear of the slot-0 sheaf are programmed (R248). -/
def State.stageLast (s : State) (n : Nat) (g : Staging) : Staging × State :=
  let (g, s) := if g.buf.isEmpty then (g, s) else s.stageEar n g
  (g, s.stageProgram n g 16 g.parity)

/-- The lines of an ear of the slot-0 sheaf; none where the ear holds none. -/
def State.stageLines (s : State) (n : Nat) (g : Staging) (k : Nat) : Option (SMap LineData) :=
  match smapFind s.flash.ears (s.stageKey n g k) with
  | some ⟨_, .data ls _⟩ => some ls
  | _ => none

/-- A line of the slot-0 sheaf: of its ear, or rebuilt from the other ears and parity (R262). -/
def State.stageLine (s : State) (n : Nat) (g : Staging) (i : Nat) : LineData :=
  let at' := fun (k : Nat) => ((s.stageLines n g k).map (fun ls => smapGet (fun _ => 0) ls (i % earLines))).getD 0
  let k := i / earLines
  if (s.stageLines n g k).isSome then at' k
  else ((List.range g.ears).filter (fun j => decide (j ≠ k))).foldl (fun (x : LineData) j => x ^^^ at' j) (at' 16)

/-- The image read back from flash (R248). -/
def State.stageRead (s : State) (n : Nat) (g : Staging) : List Byte :=
  let line := s.stageLine n g
  ((List.range (ceilDiv g.total 64)).flatMap (fun i => lineBytes (line i))).take g.total

/-- A chunk is buffered (R248), and a full buffer goes to flash; with TOTAL bytes received the image is read back and checked, and staged or discarded. -/
def State.takeChunk (s : State) (g : Staging) (e : ExecPkt) : State :=
  match s.flash.boot with
  | none => s.refuseConfig e 0x01
  | some b =>
    let n := s.twinStook (1 - b.twin)
    let bs := sliceBytes e.bytes 16 (min 40 (g.total - g.got))
    let g := { g with got := g.got + bs.length, buf := g.buf ++ bs, gen := if g.got = 0 then imgGen bs else g.gen }
    let s : State := { s with pln := { s.pln with undo := none } }
    let (g, t) := if 65536 ≤ g.buf.length then s.stageEar n g else (g, s)
    if g.got < g.total then
      ({ t with pln := { t.pln with staging := some g } } : State).complete e stOk (leBytes 4 g.got ++ leBytes 4 0) noByte
    else
      let (g, t) := t.stageLast n g
      let t : State := { t with pln := { t.pln with staging := none } }
      let m := t.stageRead n g
      match t.stagedBad m with
      | some r => t.refuseConfig e r
      | none =>
        let t := (t.completeTwin b g.page m).showGens
        t.complete e stOk (leBytes 4 g.got ++ leBytes 4 (imgGen m)) noByte

/-- The packets that wait for the twin's erase (R248): once ERASE_DONE is confirmed the staging takes its first chunk. A staging that was started anew, or abandoned meanwhile, takes nothing from them (log entry 57). -/
def State.stagePump (s : State) : State :=
  match s.flash.boot with
  | none => s
  | some b =>
    let w := s.waiting 0x0C
    if w.isEmpty && !(s.pln.staging.any (·.erasing)) || !s.twinErased (1 - b.twin) then s
    else
      let t := w.dropLast.foldl (fun (u : State) e => u.complete e stOk (leBytes 8 0) noByte) s
      match w.getLast?, t.pln.staging with
      | some e, some g => if g.erasing then t.takeChunk { g with erasing := false } e else t.complete e stOk (leBytes 8 0) noByte
      | some e, none => t.complete e stOk (leBytes 8 0) noByte
      | none, _ => { t with pln := { t.pln with staging := none } }

/-- A partial staging is abandoned (R248). -/
def State.stagingStop (s : State) : State := { s with pln := { s.pln with staging := none, undo := none } }

/-- An activation or a revert was dispatched before this packet, and this packet has no effect (R255): it had not run when this one was dispatched, or has still not run. -/
def State.configFirst (s : State) (e : ExecPkt) : Bool :=
  decide (e.aux / 2 % 2 = 1) ||
    (s.pkt.exec.takeWhile (fun x => decide (x ≠ e))).any (fun x => !x.started && (decide (pktField x.bytes 0 1 = 0x0D) || decide (pktField x.bytes 0 1 = 0x0E)))

/-- A staging starts (R248): the staged image is discarded, and the inactive twin is erased. What is discarded is put aside until the erase is under way (R130). -/
def State.stageStart (s : State) (b : BootAnchor) (total : Nat) (e : ExecPkt) : State :=
  let aside := s.flash.twins.filter (fun e => decide (e.1 / 3 = 1 - b.twin))
  let undo := match s.pln.undo with | some u => some u | none => some (s.pln.staging, aside)
  let t := (s.dropTwin (1 - b.twin)).showGens
  let t : State := { t with pln := { t.pln with staging := some ⟨total, 0, [], 0, [], 0, true, 0⟩, undo := undo } }
  (t.planErase (t.twinStook (1 - b.twin)) false).startExec e 0

/-- CONFIG_STAGE (R248, Table 4-7). -/
def execConfigStage (src : PktSrc) (s : State) : Host.Outcome State Fault Refusal :=
  match s.findExec src 0x0C with
  | none => .next s
  | some e =>
    let off := pktField e.bytes 8 4
    let tot := pktField e.bytes 12 4
    if s.configFirst e then .next (s.completeCode e stBusy)
    else if off = 0 then
      if tot = 0 ∨ 524288 < tot then .next (s.complete e stNotPermitted [] (atByte 12))
      else match s.flash.boot with
        | none => .next (s.completeCode e stBusy)
        | some b => .next (s.stageStart b tot e)
    else match s.pln.staging with
      | none => .next (s.complete e stOutOfOrder [] (atByte 8))
      | some g =>
        if off ≠ g.got then .next (s.complete e stOutOfOrder [] (atByte 8))
        else if tot ≠ g.total then .next (s.complete e stOutOfOrder [] (atByte 12))
        else .next (s.takeChunk g e)

/-- What a configuration's load ends with (R250, R321, R454): channels whose fences have ended return at the plan boundary, the log moves where its region failed, and the ledger and the registers take the generations. -/
def State.configLoaded (s : State) : State :=
  let t := (s.channelsReturn.logRelocate).showGens
  (t.commitNow (.generation (t.fld PLN_GEN_ACTIVE) (t.fld PLN_GEN_PREV) (t.fld PLN_GEN_STAGED) (t.fld PLN_GEN_HIGH))).swathCheck

/-- RESULT of a CONFIG_ACTIVATE that is admitted (Table 4-7). -/
def activateResult (gen : Nat) (v : Verdict) : List Byte :=
  let p := longestPlan v.prices
  leBytes 4 gen ++ leBytes 4 (min v.d (2 ^ 32 - 1)) ++ leBytes 4 (boundOf v.prices p) ++ leBytes 1 p

/-- Steps 4 and 5 of Table 8-9: the anchor that names the generation active, and the load. -/
def State.activate (s : State) (b : BootAnchor) (m : List Byte) (v : Verdict) : State :=
  let t := s.writeBoot (fun x => { x with twin := 1 - b.twin, slot := 0, high := imgGen m })
  let t := t.loadConfig m
  (({ t with pln := { t.pln with priced := v.prices } } : State).inForce v).configLoaded

/-- The staged image, read from slot 0 of the inactive twin and checked against the SHA-256 of its directory entry (Table 8-9 step 2); one that fails is no complete staged image (log entry 57). -/
def State.stagedImage (s : State) (b : BootAnchor) : Option (List Byte) :=
  match smapFind s.flash.twins ((1 - b.twin) * 3 + 1), b.entry (1 - b.twin) 1 with
  | some m, some (_, len, _, dg) => if m.length = len ∧ sha256 m = dg then some m else none
  | _, _ => none

/-- CONFIG_ACTIVATE (R249, Table 8-9): the staged generation is checked, admitted, anchored and loaded. -/
def execConfigActivate (src : PktSrc) (s : State) : Host.Outcome State Fault Refusal :=
  match s.findExec src 0x0D with
  | none => .next s
  | some e =>
    if s.configFirst e then .next (s.completeCode e stBusy)
    else match s.flash.boot with
      | none => .next (s.refuseConfig e 0x04)
      | some b =>
        let g := s.stagedGen b
        match (if g = 0 ∨ pktField e.bytes 8 4 ≠ g then none else s.stagedImage b) with
        | none => .next (s.refuseConfig e 0x04)
        | some m =>
          if s.flag PLN_STS_PACK_SHORT then
            let d := s.packDetail
            .next ((s.noteRefusal stPackShort d).complete e stPackShort [] (noByte + d))
          else
            let v := s.judge m s.usableEnergy
            let t := s.reportAdmission m v
            if v.code ≠ stOk then .next (t.complete e v.code [] (noByte + v.detail))
            else .next ((t.activate b m v).completeLive e stOk (activateResult g v) noByte)

/-- The previous generation becomes active and loads (R251): its anchor selects slot 1, and R243 resolves its admission. -/
def State.revert (s : State) (m : List Byte) : State :=
  (((s.writeBoot (fun x => { x with slot := 1 })).loadConfig m).admitActive).configLoaded

/-- CONFIG_REVERT (R251, Table 8-7 reason 0x0D). -/
def execConfigRevert (src : PktSrc) (s : State) : Host.Outcome State Fault Refusal :=
  match s.findExec src 0x0E with
  | none => .next s
  | some e =>
    if s.configFirst e then .next (s.completeCode e stBusy)
    else
      let gen := pktField e.bytes 8 4
      match s.flash.boot with
      | none => .next (s.refuseConfig e 0x0D)
      | some b =>
        match (if b.prev = 0 ∨ (gen ≠ 0 ∧ gen ≠ b.active) then none else smapFind s.flash.twins (b.twin * 3 + 2)) with
        | none => .next (s.refuseConfig e 0x0D)
        | some m =>
          let t := s.revert m
          .next (t.completeLive e stOk (leBytes 4 (t.fld PLN_GEN_ACTIVE)) noByte)

end Sys2Proof.Machine
end

