-- ==== Sys2Proof/Machine/Pace.lean ====
section
/-! DEFINITION. The pace monitor's window and the ledger's own commits (R16, R237, R274, R277, R347, R349). -/

namespace Sys2Proof.Machine

open Reg

/-- The V index of Table 8-6: the largest grid point at or below the sample, in mV; none below the grid. -/
def paceV (mv : Nat) : Option Nat :=
  if mv < 600 then none else if mv < 650 then some 0 else if mv < 680 then some 1 else if mv < 750 then some 2
  else if mv < 800 then some 3 else if mv < 900 then some 4 else some 5

/-- The T index of Table 8-6: the smallest grid point at or above the sample, in °C; none above the grid. -/
def paceT (c : Int) : Option Nat :=
  if c ≤ -40 then some 0 else if c ≤ 0 then some 1 else if c ≤ 40 then some 2 else if c ≤ 85 then some 3
  else if c ≤ 100 then some 4 else if c ≤ 110 then some 5 else none

/-- The promise and the indices for a window (R237, Table 8-4): those of the corner table, or open where the sample lies outside the grid. -/
def State.pacePromise (s : State) (e : PaceEnv) : Nat × Nat × Nat :=
  match paceV e.vdd.toNat, paceT e.temp.toInt with
  | some v, some t => (s.corner (0xC0 + 6 * v + t) % 65536, v, t)
  | _, _ => let x := Config.pacePromise e.vdd e.temp; (x.1.toNat, x.2.1.val, x.2.2.val)

/-- The crystal fails in a window: it stops, or it deviates by more than 4 % (R347). -/
def crystalFails (e : PaceEnv) : Bool := e.stopped || decide (e.xtal.toInt < -400) || decide (400 < e.xtal.toInt)

/-- What the window shows of the crystal (R347, R349): the deviation, and at the first failure XTAL_FAIL. -/
def State.crystalWindow (s : State) (e : PaceEnv) : State :=
  let t := s.setFld CLK_XTAL (if e.stopped then 65536 - 10000 else e.xtal.toNat)
  if crystalFails e && !t.flag CLK_STS_XTAL_FAIL then (t.setFlag CLK_STS_XTAL_FAIL true).report .xtalFail 0x139 0 0 else t

/-- The feeds as a window shows them (PWR_FEED_V, Table 13-14): a condition that the voltage no longer meets is over (log entry 54). -/
def State.feedWindow (s : State) (e : PaceEnv) : State :=
  let a := e.feedA.toNat
  let b := e.feedB.toNat
  let t := (s.setFld PWR_FEED_V_A a).setFld PWR_FEED_V_B b
  let t := if a ≤ 13600 then t.feedAIn else t
  let t := if t.fld PWR_FEED_CTL_SAVE_TH * 100 ≤ a then t.setFlag PWR_FEED_STS_A_BELOW false else t
  let t := if 8000 ≤ b then t.setFlag PWR_FEED_STS_B_LOW false else t
  if b ≤ 13600 then t.feedBIn else t

/-- PACE_WINDOW_END (R16, R237): the count is judged against the promise of the operating point and the corner promise. -/
def execPaceWindowEnd (env : PaceEnv) (s : State) : Host.Outcome State Fault Refusal :=
  if s.sys.mode = .off then .next s
  else
    let (p, v, t) := s.pacePromise env
    let n := env.count.toNat
    let low := decide (n < p)
    let cornerLow := decide (n < s.corner 0xD1 % 65536)
    let range := decide (env.vdd.toNat < 600) || decide (110 < env.temp.toInt)
    let u := ((s.setFld PLN_PACE_COUNT n).setFld PLN_PACE_PROMISE p).setFld PLN_PACE_STS_MIN_COUNT (min n (s.fld PLN_PACE_STS_MIN_COUNT))
    let u := (u.setFld PLN_PACE_STS_T_IDX t).setFld PLN_PACE_STS_V_IDX v
    let u := ((u.setFlag PLN_PACE_STS_LOCAL_LOW low).setFlag PLN_PACE_STS_CORNER_LOW cornerLow).setFlag PLN_PACE_STS_RANGE range
    let u := (u.crystalWindow env).feedWindow env
    let q := (if low then 1 else 0) + (if cornerLow then 2 else 0) + (if range then 4 else 0)
    .next ((if q = 0 then u else u.report .paceLow 0 q 0).settle)

/-- LEDGER_COMMIT (R274, R277, R451): the pending records are committed, but not during a save, when they wait for the image's metadata. A staging that waits for its twin's erase goes on (R248). -/
def execLedgerCommit (s : State) : Host.Outcome State Fault Refusal :=
  if s.inMode [.off, .powerUp, .save, .shutDown] || !s.flag FLO_STS_READY then .next s else .next s.commitAll.stagePump

end Sys2Proof.Machine
end

