-- ==== Sys2Proof/Machine/Access.lean ====
section
/-! DEFINITION. The paths by which registers are written and read (R457 to R464, R473 to R477): register writes with what they set off, the sideband target, a control core's accesses, the power table's burn, and the test access port (R497). -/

namespace Sys2Proof.Machine

open Reg

/-- The state after an outcome; a stop leaves the state as it was. -/
def State.after (s : State) (o : Host.Outcome State Fault Refusal) : State :=
  match o with
  | .next t => t
  | _ => s

/-- The ring-state table (R477). -/
def inRings (a : Nat) : Bool := decide (0x40000 ≤ a) && decide (a < 0x80000)

/-- The mailbox registers (Table 4-12). -/
def mailboxReg (a : Nat) : Bool := decide (0x5100 ≤ a) && decide (a < 0x51A0)

/-- The words that only the sideband writes in blank hold (R467, R470): SPT_CFGKEY and SPT_PTAB, by their index 32 to 39 and 0 to 31. -/
def ptabWord (a : Nat) : Option Nat :=
  if 0x24200 ≤ a ∧ a < 0x24280 then some ((a - 0x24200) / 4)
  else if 0x24020 ≤ a ∧ a < 0x24040 then some (32 + (a - 0x24020) / 4)
  else none

/-- CORE_HB and CORE_KITE (R427). -/
def kiteReg (a : Nat) : Bool := decide (a = 0x22004) || decide (a = 0x22008)

/-- Whether a path has the right to write an address inside a block (Table 16-2); none stands for REG_WRITE. -/
def State.mayWrite (s : State) (path : Option RegPath) (a : Nat) : Bool :=
  match path with
  | some .sideband => !kiteReg a
  | none => !mailboxReg a && (ptabWord a).isNone && !kiteReg a
  | some (.core c) =>
    kiteReg a || (decide (s.holder = some c) && !s.kite.holderDead && !mailboxReg a && (ptabWord a).isNone && !inRings a)

/-- The first write of a power-table or key word sticks, in blank hold alone (R467, R468, R470; access WS). -/
def State.writePtabWord (s : State) (a i : Nat) (v : Word) : State :=
  if s.fld SPT_STS_SEQ ≠ 7 || s.nv.wsWritten.getLsbD i then s
  else ({ s with nv := { s.nv with wsWritten := s.nv.wsWritten ||| (1#40 <<< i) } } : State).setWord a v

/-- The burn of the power table in blank hold (R470): refused, or begun. Any value but 0x5054 is ignored. -/
def State.burn (s : State) (v : Word) : State :=
  if s.fld SPT_STS_SEQ ≠ 7 || natBits v.toNat 0 16 ≠ 0x5054 || s.flag SPT_PTAB_CTL_BURNING then s
  else
    let t := s.setFlag SPT_PTAB_CTL_REJECTED false
    let table := (List.range 32).map (fun i => t.word (0x24200 + 4 * i))
    let keys := (List.range 8).map (fun i => t.word (0x24020 + 4 * i))
    if t.nv.wsWritten ≠ BitVec.allOnes 40 || !ptabOk table || keys.all (fun k => decide (k = 0)) then t.setFlag SPT_PTAB_CTL_REJECTED true
    else t.setFlag SPT_PTAB_CTL_BURNING true

/-- A burn ends (R470): the one-time store holds the 40 words. -/
def State.burnDone (s : State) : State :=
  if !s.flag SPT_PTAB_CTL_BURNING then s
  else
    let table := (List.range 32).map (fun i => s.word (0x24200 + 4 * i))
    let keys := (List.range 8).map (fun i => s.word (0x24020 + 4 * i))
    let t := { s with nv := { s.nv with ptab := table, cfgkey := keys } }
    ((t.setFlag SPT_PTAB_CTL_BURNING false).setFlag SPT_PTAB_CTL_BURNED true).setFlag SPT_STS_PTAB_BURNED true

/-- What a write to a register of a flash channel engine does (Tables 10-13, 10-17). -/
def State.writeFce (s : State) (a : Nat) (v : Word) : State :=
  let ch : Fin 17 := Fin.ofNat 17 ((a - 0x10000) / 0x1000)
  let off := a % 0x1000
  if off = 0 then
    let t := s.storeReg a v
    let t := if v.getLsbD 0 then t.after (execFceFence ch t) else t
    if v.getLsbD 1 then t.after (execFceUnfence ch t) else t
  else if 8 ≤ off ∧ off ≤ 0x14 then s.after (execFceIfWrite ch (Fin.ofNat 4 ((off - 8) / 4)) v s)
  else s.storeReg a v

/-- A permitted write of an aligned address inside a block: what the register's own behaviour gives, else the access codes of its fields (R9). -/
def State.writeReg (s : State) (path : Option RegPath) (a : Nat) (v : Word) : State :=
  if inRings a then
    if a % 8 = 0 then s.after (execRingCfgWrite (Fin.ofNat 32768 ((a - 0x40000) / 8)) v s) else s
  else if 0x10000 ≤ a ∧ a < 0x21000 then s.writeFce a v
  else if a = 0x1000 then (if v.getLsbD 8 then s.after (execHandover s) else s)
  else if a = 0x2000 then s.after (execHbpCtlWrite v s)
  else if a = 0x200C then
    let t := s.storeReg a v
    let t := if v.getLsbD 0 then t.after (execParErrClear .a t) else t
    if v.getLsbD 1 then t.after (execParErrClear .b t) else t
  else if a = 0x3000 then s.after (execSpGo v s)
  else if a = 0x4000 then
    let t := (s.storeReg a v).verifyKept (s.flag CLN_CTL_VERIFY_GLEAN)
    if v.getLsbD 0 then t.after (execLearnAbort t) else t
  else if a = 0x5140 then (if v.getLsbD 0 then s.after (execMailboxGo s) else s)
  else if a = 0x6000 then
    let t := s.storeReg a v
    if v.getLsbD 0 then t.after (execForceFull t) else t
  else if a = 0x6020 then s.after (execPerMapSelWrite v s)
  else if a = 0x8054 then s.after (execSeaEntFetch v s)
  else if a = 0xD044 then s.after (execDctWindowRead v s)
  else if a = 0xE000 then
    let t := s.storeReg a v
    if v.getLsbD 0 then t.after (execDiscEnd t) else t
  else if 0xE00C ≤ a ∧ a < 0xE018 then s.after (execClkSpUserWrite (Fin.ofNat 3 ((a - 0xE00C) / 4)) v s)
  else if a = 0x21008 then s.after (execFltPinWrite v s)
  else if a = 0x24014 then s.burn v
  else
    match path, ptabWord a with
    | some (.core c), none =>
      if a = 0x22004 then s.after (execCoreHb c s)
      else if a = 0x22008 then
        let t := if v.getLsbD 0 then s.after (execKiteRenew c s) else s
        if v.getLsbD 1 then t.after (execKiteRequest c t) else t
      else s.storeReg a v
    | _, some i => s.writePtabWord a i v
    | _, none => s.storeReg a v

/-- The sideband target is up (R476): from the end of stage 1 of power-up to stage 1 of shut-down, and with its domain not fenced. -/
def State.sbUp (s : State) : Bool := s.coreDomains && !s.unitOut .sideband

/-- The static address: the power table's, or 0x3A in blank hold (R470, R473). -/
def State.sbStatic (s : State) : Nat := if s.fld SPT_STS_SEQ = 7 then 0x3A else s.fld CFG_SB_ADDR_STATIC

/-- Whether the target answers at an address (R473, R476): at the dynamic address, or at the static one while there is none. -/
def State.sbAnswers (s : State) (addr : Nat) : Bool :=
  s.sbUp && decide (addr = (if s.fld CFG_SB_ADDR_DYN = 0 then s.sbStatic else s.fld CFG_SB_ADDR_DYN))

/-- What blank hold serves: the blocks ID, CFG and SPT (R470). -/
def State.sbServes (s : State) (a : Nat) : Bool :=
  decide (s.fld SPT_STS_SEQ ≠ 7) || decide (a / 0x1000 = 0) || decide (a / 0x1000 = 1) || decide (a / 0x1000 = 0x24)

/-- A sideband address that an access may reach (R475). -/
def sbGood (a : Nat) : Bool := decide (a % 4 = 0) && insideBlock a

/-- The pointer advances by 4 after each word (R474). -/
def State.sbStep (s : State) : State := { s with sb := { s.sb with ptr := (s.sb.ptr + 4) % 2 ^ 32 } }

/-- One word of a sideband write (R474, R475). -/
def State.sbWriteWord (s : State) (v : Word) : State :=
  let a := s.sb.ptr
  if !sbGood a then (s.bump CFG_SB_STS_BAD_ADDR 1).sbStep
  else if s.sbServes a && s.mayWrite (some .sideband) a then (s.writeReg (some .sideband) a v).sbStep
  else s.sbStep

/-- The words of a sideband write in order; a write that ends inside a word counts in SHORT_WR. -/
def State.sbWriteWords (s : State) : List Byte → State
  | b0 :: b1 :: b2 :: b3 :: rest => (s.sbWriteWord (BitVec.ofNat 32 (leNat [b0, b1, b2, b3]))).sbWriteWords rest
  | [] => s
  | _ => s.bump CFG_SB_STS_SHORT_WR 1

/-- A transfer's end: whether it was acknowledged and what it returned. -/
def State.sbEnd (s : State) (ack : Bool) (out : List Byte) : State := { s with sb := { s.sb with acked := ack, out := out } }

/-- SB_PRIVATE_WRITE (R474 to R476). -/
def execSbPrivateWrite (addr : BitVec 7) (bytes : List Byte) (s : State) : Host.Outcome State Fault Refusal :=
  if !s.sbAnswers addr.toNat then .next (s.sbEnd false [])
  else
    match bytes with
    | b0 :: b1 :: b2 :: b3 :: rest =>
      let t : State := { s with sb := { s.sb with ptr := leNat [b0, b1, b2, b3] } }
      .next ((t.sbWriteWords rest).sbEnd true [])
    | [] => .next (s.sbEnd true [])
    | _ => .next ((s.bump CFG_SB_STS_SHORT_WR 1).sbEnd true [])

/-- One word of a sideband read (R463, R474, R475). -/
def State.sbReadWord (s : State) : Word × State :=
  let a := s.sb.ptr
  if !sbGood a then (0xFFFFFFFF, (s.bump CFG_SB_STS_BAD_ADDR 1).sbStep)
  else if !s.sbServes a then (0xFFFFFFFF, s.sbStep)
  else
    let r := s.readLatched none false s.sb.latch a
    (r.1, ({ s with sb := { s.sb with latch := r.2 } } : State).sbStep)

/-- The words of a sideband read. -/
def State.sbReadWords (s : State) : Nat → List Byte × State
  | 0 => ([], s)
  | n + 1 =>
    let r := s.sbReadWord
    let q := r.2.sbReadWords n
    (leBytes 4 r.1.toNat ++ q.1, q.2)

/-- SB_PRIVATE_READ (R474 to R476): a header that comes before the first word is ready is not acknowledged and is counted. -/
def execSbPrivateRead (addr : BitVec 7) (words : Fin 65) (early : Bool) (s : State) : Host.Outcome State Fault Refusal :=
  if !s.sbAnswers addr.toNat then .next (s.sbEnd false [])
  else if early then .next ((s.bump CFG_SB_STS_READ_NACK 1).sbEnd false [])
  else
    let r := s.sbReadWords words.val
    .next (r.2.sbEnd true r.1)

/-- A core's access that Table 16-2 refuses: ignored, and CORE_NO_KITE is raised. -/
def State.coreRefused (s : State) (c : CoreId) : State := s.report .coreNoKite (coreSource c) 0 0

/-- A read by a control core, with its own latch (R463). -/
def State.coreRead (s : State) (c : CoreId) (a : Nat) : State :=
  if inRings a then s.coreRefused c
  else
    let lat := match c with | .a => s.sb.latchA | .b => s.sb.latchB
    let r := s.readLatched (some c) false lat a
    match c with
    | .a => { s with sb := { s.sb with coreOut := r.1, latchA := r.2 } }
    | .b => { s with sb := { s.sb with coreOut := r.1, latchB := r.2 } }

/-- LO_REGISTER_READ (R463, Table 16-2): a read by the path, which latches the HI half into the path's own latch where the register is the LO register of a pair. -/
def execLoRegisterRead (path : RegPath) (a : BitVec 32) (s : State) : Host.Outcome State Fault Refusal :=
  match path with
  | .sideband =>
    if !s.sbUp then .next s
    else
      let r := ({ s with sb := { s.sb with ptr := a.toNat } } : State).sbReadWord
      .next (r.2.sbEnd true (leBytes 4 r.1.toNat))
  | .core c => if !s.coreRuns c || !sbGood a.toNat then .next s else .next (s.coreRead c a.toNat)

/-- REGISTER_WRITE (R9, R462): a write by the path, which the fields' access codes and the register's own behaviour apply. -/
def execRegisterWrite (path : RegPath) (a : BitVec 32) (v : Word) (s : State) : Host.Outcome State Fault Refusal :=
  match path with
  | .sideband =>
    if !s.sbUp then .next s
    else .next ((({ s with sb := { s.sb with ptr := a.toNat } } : State).sbWriteWord v).sbEnd true [])
  | .core c =>
    if !s.coreRuns c || !sbGood a.toNat then .next s
    else if s.mayWrite (some (.core c)) a.toNat then .next (s.writeReg (some (.core c)) a.toNat v)
    else .next (s.coreRefused c)

/-- PTAB_BURN (R470): a sideband write of SPT_PTAB_CTL. -/
def execPtabBurn (v : Word) (s : State) : Host.Outcome State Fault Refusal := .next (s.burn v)

/-- The dynamic address is assigned or reset: the pointer and the latch reset (R474), and CFG_SB_STS.I2C follows (Table 16-4). -/
def State.sbAddress (s : State) (dyn : Nat) : State :=
  let t := (s.setFld CFG_SB_ADDR_DYN dyn).setFlag CFG_SB_STS_I2C (decide (dyn = 0))
  ({ t with sb := { t.sb with ptr := 0, latch := [] } } : State).sbEnd true []

/-- ENTDAA (R473): a target without a dynamic address takes the assigned one. -/
def execEntdaa (addr : BitVec 7) (s : State) : Host.Outcome State Fault Refusal :=
  if s.sbUp && decide (s.fld CFG_SB_ADDR_DYN = 0) && decide (addr ≠ 0) then .next (s.sbAddress addr.toNat) else .next (s.sbEnd false [])

/-- SETDASA (R473): an assignment from the static address. -/
def execSetdasa (static addr : BitVec 7) (s : State) : Host.Outcome State Fault Refusal :=
  if s.sbUp && decide (s.fld CFG_SB_ADDR_DYN = 0) && decide (static.toNat = s.sbStatic) && decide (addr ≠ 0) then .next (s.sbAddress addr.toNat)
  else .next (s.sbEnd false [])

/-- SETNEWDA (R473). -/
def execSetnewda (old addr : BitVec 7) (s : State) : Host.Outcome State Fault Refusal :=
  if s.sbUp && decide (s.fld CFG_SB_ADDR_DYN ≠ 0) && decide (s.fld CFG_SB_ADDR_DYN = old.toNat) && decide (addr ≠ 0) then .next (s.sbAddress addr.toNat)
  else .next (s.sbEnd false [])

/-- RSTDAA (R473): the target is an I2C target at its static address again. -/
def execRstdaa (s : State) : Host.Outcome State Fault Refusal :=
  if s.sbUp then .next (s.sbAddress 0) else .next (s.sbEnd false [])

/-- A CCC that returns data, directed at the dynamic address (R473). -/
def State.cccGet (s : State) (out : List Byte) : State :=
  if s.sbUp && decide (s.fld CFG_SB_ADDR_DYN ≠ 0) then s.sbEnd true out else s.sbEnd false []

/-- GETPID (Table 16-10): six bytes, the most significant first (log entry 56). -/
def execGetpid (s : State) : Host.Outcome State Fault Refusal :=
  .next (s.cccGet ((leBytes 6 (2 ^ 32 + (s.word 0x20).toNat)).reverse))

/-- GETBCR. -/
def execGetbcr (s : State) : Host.Outcome State Fault Refusal := .next (s.cccGet [0x00])

/-- GETDCR. -/
def execGetdcr (s : State) : Host.Outcome State Fault Refusal := .next (s.cccGet [0x00])

/-- GETSTATUS: bit 5 in save and shut-down. -/
def execGetstatus (s : State) : Host.Outcome State Fault Refusal :=
  .next (s.cccGet [0x00, if s.inMode [.save, .shutDown] then 0x20 else 0x00])

/-- GETMWL: 260 bytes. -/
def execGetmwl (s : State) : Host.Outcome State Fault Refusal := .next (s.cccGet [0x01, 0x04])

/-- GETMRL: 256 bytes. -/
def execGetmrl (s : State) : Host.Outcome State Fault Refusal := .next (s.cccGet [0x01, 0x00])

/-- SETMWL: acknowledged, and changes nothing. -/
def execSetmwl (_v : BitVec 16) (s : State) : Host.Outcome State Fault Refusal := .next (s.sbEnd s.sbUp [])

/-- SETMRL: acknowledged, and changes nothing. -/
def execSetmrl (_v : BitVec 16) (s : State) : Host.Outcome State Fault Refusal := .next (s.sbEnd s.sbUp [])

/-- IDCODE's word (R497): version 2, part 0x9716, manufacturer 0, bit 0 set. -/
def idcodeWord : BitVec 32 := 0x29716001#32

/-- BYPASS (R497): the one-bit bypass register, which captures 0, is selected. -/
def execBypass (s : State) : Host.Outcome State Fault Refusal := .next { s with tap := { s.tap with instr := .bypass, out := [false] } }

/-- IDCODE (R497): its bits leave the port least significant first. -/
def execIdcode (s : State) : Host.Outcome State Fault Refusal :=
  .next { s with tap := { s.tap with instr := .idcode, out := (List.range 32).map idcodeWord.getLsbD } }

/-- SAMPLE/PRELOAD (R497): the pins are sampled and given out, and the boundary register is preloaded. -/
def execSamplePreload (sample preload : List Bool) (s : State) : Host.Outcome State Fault Refusal :=
  .next { s with tap := ⟨.samplePreload, preload, sample⟩ }

/-- EXTEST (R497): the boundary register drives the pins; in save the port stays in Test-Logic-Reset. -/
def execExtest (s : State) : Host.Outcome State Fault Refusal :=
  if s.sys.mode = .save then .next s else .next { s with tap := { s.tap with instr := .extest } }

/-- Whether the boundary register drives the VAON pins (R497): under EXTEST in off, or in power-up before step 3 of Table 13-6. -/
def State.vaonDriven (s : State) : Bool :=
  s.tap.instr = .extest && (s.sys.mode = .off || (s.sys.mode = .powerUp && !s.gatesSet))

end Sys2Proof.Machine
end

