-- ==== Sys2Proof/Machine/Recorder.lean ====
section
/-! DEFINITION. The event recorder's own commands: the arrival of a record, the snapshots it fires, and the reads of the log (R443 to R448, R453). -/

namespace Sys2Proof.Machine

open Reg

/-- The addresses that a snapshot trigger reads, in address-set order (R448). -/
def State.snapAddrs (s : State) (k : Nat) : List Nat :=
  ((List.range 8).filter (fun i => s.bit (EVR_SNAP_CTL_MASK k) i)).map (fun i => s.fld (EVR_SNAP_ADDR (8 * s.fld (EVR_SNAP_CTL_SET k) + i)))

/-- The values that a snapshot takes, each with its address: an address that is unaligned or outside every block reads as ones (R448). -/
def State.snapRead (s : State) : SMap Word → List Nat → List Byte
  | _, [] => []
  | lat, a :: as =>
    if a % 4 = 0 && insideBlock a then
      let r := s.readLatched none true lat a
      leBytes 4 a ++ leBytes 4 r.1.toNat ++ s.snapRead r.2 as
    else leBytes 4 a ++ leBytes 4 0xFFFFFFFF ++ s.snapRead lat as

/-- The SNAPSHOT record of a trigger for a record (R448): LEN 8, at the severity of the record. -/
def State.snapRecord (s : State) (k : Nat) (r : LogRec) : EvRecord :=
  let as := s.snapAddrs k
  let body := leBytes 1 k ++ leBytes 1 as.length ++ leBytes 6 (r.seq.getD 0) ++ s.snapRead [] as
  ⟨r.ev.sev, false, 0x0043, 145, BitVec.ofNat 64 s.tick, sliceBytes body 0 84⟩

/-- Whether a snapshot trigger matches a held record (R448). A SNAPSHOT record never fires one. -/
def State.snapMatch (s : State) (k : Nat) (r : LogRec) : Bool :=
  s.flag (EVR_SNAP_CTL_EN k) && decide (r.ev.code ≠ 0x0043) && decide (r.ev.code = s.fld (EVR_SNAP_CTL_CODE k))
    && (s.flag (EVR_SNAP_CTL_ANY_SRC k) || decide (r.ev.source.val = s.fld (EVR_SNAP_CTL_SOURCE k)))

/-- The triggers that one held record fires, in trigger order; one whose previous capture still runs is missed and counted (R448). -/
def State.snapshots (s : State) (running : BitVec 64) (r : LogRec) : State :=
  if !s.flag EVR_CTL_SNAP_EN then s
  else (List.range 64).foldl (fun (u : State) k =>
    if !u.snapMatch k r then u
    else if running.getLsbD k then u.bump EVR_SNAP_MISS 1
    else u.hold (u.snapRecord k r)) s

/-- The triggers see every record that has just been held, oldest first; a trigger that has fired in this step is still running for the next record (R448). -/
def State.takeFresh (s : State) (running : BitVec 64) : State :=
  let rs := s.evr.fresh
  let t : State := { s with evr := { s.evr with fresh := [] } }
  let r := rs.foldl (fun (acc : State × BitVec 64) r =>
    let hit := (List.range 64).foldl (fun (m : BitVec 64) k => if acc.1.snapMatch k r then m ||| (1#64 <<< k) else m) 0
    (acc.1.snapshots acc.2 r, acc.2 ||| hit)) (t, running)
  { r.1 with evr := { r.1.evr with fresh := [] } }

/-- The record that has just been held fails its CRC: it is chaff (R446). -/
def State.markChaff (s : State) : State :=
  match s.evr.log.getLast? with
  | none => s
  | some r => { s with evr := { s.evr with log := s.evr.log.dropLast ++ [{ r with chaff := true }] } }

/-- A record arrives (R445, R453): with the arrival queue full it is dropped and counted; else it is held if it finds room. -/
def State.arriveRecord (s : State) (e : EvRecord) (queueFull chaff : Bool) : State :=
  if queueFull then
    (if s.flag EVR_STS_FENCED then s.bump EVR_FENCED_CNT 1 else s.bump (dropFld e.sev) 1)
  else
    let t := s.hold e
    if chaff && decide (s.evr.fresh.length < t.evr.fresh.length) && decide (t.evr.fresh.getLast?.map (·.ev) = some e) then t.markChaff else t

/-- RECORD_ARRIVAL (R443 to R448): the record of the command, else the oldest in transit; then the snapshot triggers see what was held. -/
def execRecordArrival (own : Option EvRecord) (queueFull chaff : Bool) (running : BitVec 64) (s : State) : Host.Outcome State Fault Refusal :=
  if s.sys.mode = .off then .next s
  else match own with
    | some e => .next ((s.arriveRecord e queueFull chaff).takeFresh running)
    | none =>
      match s.evr.inflight with
      | [] => .next (s.takeFresh running)
      | e :: rest => .next ((({ s with evr := { s.evr with inflight := rest } } : State).arriveRecord e queueFull chaff).takeFresh running)

/-- A scan of the log from its oldest record to the first that satisfies a test: the log with the chaff that was met freed, how much chaff that was, the record found, and the records after it (R446, R447). -/
def logScan (p : LogRec → Bool) : List LogRec → List LogRec × Nat × Option (LogRec × List LogRec)
  | [] => ([], 0, none)
  | r :: rs =>
    if r.chaff then
      let (l, n, f) := logScan p rs
      (l, n + 1, f)
    else if p r then (r :: rs, 0, some (r, rs))
    else
      let (l, n, f) := logScan p rs
      (r :: l, n, f)

/-- The number of the first record of a list that is not chaff; 0 if there is none. -/
def nextSeqOf (rs : List LogRec) : Nat := ((rs.find? (fun r => !r.chaff)).bind (·.seq)).getD 0

/-- A read of the log (R447): BUSY before the base is fixed, NOT_PERMITTED while the recorder is fenced or where no record answers; `out` makes the result, none where the read lies beyond the record. -/
def State.logRead (s : State) (e : ExecPkt) (p : LogRec → Bool) (out : LogRec → List LogRec → Option (List Byte)) : State :=
  if s.flag EVR_STS_FENCED then s.completeCode e stNotPermitted
  else if s.evr.base.isNone then s.completeCode e stBusy
  else
    let (l, n, f) := logScan p s.evr.log
    let t := ({ s with evr := { s.evr with log := l } } : State).bump EVR_CHAFF n
    let d := noByte + min n 0xFFFF
    match f with
    | none => t.complete e stNotPermitted [] d
    | some (r, rs) => match out r rs with
      | some b => t.complete e stOk b d
      | none => t.complete e stNotPermitted [] (atByte 14 + min n 0xFFFF)

/-- LOG_READ_HEADER (R447, Table 4-7): the header of the first held record at or after SEQ. -/
def execLogReadHeader (src : PktSrc) (s : State) : Host.Outcome State Fault Refusal :=
  match s.findExec src 0x0F with
  | none => .next s
  | some e =>
    if pktField e.bytes 14 2 ≠ 0xFFFF then .next s
    else
      let q := pktField e.bytes 8 6
      .next (s.logRead e (fun r => decide (q ≤ r.seq.getD 0)) (fun r rs =>
        some (leBytes 6 (r.seq.getD 0) ++ leBytes 2 (recLen r.ev * 16) ++ leBytes 6 (nextSeqOf rs) ++ leBytes 1 (sevCode r.ev.sev))))

/-- LOG_READ_DATA (R447, Table 4-7): 16 bytes of the record whose number is SEQ, or of the oldest. -/
def execLogReadData (src : PktSrc) (s : State) : Host.Outcome State Fault Refusal :=
  match s.findExec src 0x0F with
  | none => .next s
  | some e =>
    let q := pktField e.bytes 8 6
    let off := pktField e.bytes 14 2
    if off = 0xFFFF then .next s
    else if off % 16 ≠ 0 then .next (s.complete e stNotPermitted [] (atByte 14))
    else .next (s.logRead e (fun r => decide (q = 0) || decide (r.seq = some q)) (fun r _ =>
      if off < recLen r.ev * 16 then some (sliceBytes (recBytes r) off 16) else none))

end Sys2Proof.Machine
end

