-- ==== Sys2Proof/Machine/Opcodes.lean ====
section
/-! DEFINITION. The opcodes that have no unit file of their own: NOP, register access, SAVE_NOW, IMAGE_QUERY, FAULT_CLEAR, FAULT_INJECT, PACK_TEST and LEARN_START (R88, R89, R124 to R129, R392, R396, R421, R424). -/

namespace Sys2Proof.Machine

open Reg

/-- NOP (R124). -/
def execNop (src : PktSrc) (s : State) : Host.Outcome State Fault Refusal :=
  match s.findExec src 0x01 with
  | none => .next s
  | some e => .next (s.completeCode e stOk)

/-- The register addresses of a REG_READ. -/
def readAddrs (e : ExecPkt) : List Nat := (List.range (pktField e.bytes 8 1)).map (fun i => pktField e.bytes (12 + 4 * i) 4)

/-- The pairs of address and value of a REG_WRITE. -/
def writePairs (e : ExecPkt) : List (Nat × Word) :=
  (List.range (pktField e.bytes 8 1)).map (fun i => (pktField e.bytes (12 + 8 * i) 4, BitVec.ofNat 32 (pktField e.bytes (16 + 8 * i) 4)))

/-- An address that a packet may name (R8, R458). -/
def addrOk (a : Nat) : Bool := decide (a % 4 = 0) && insideBlock a

/-- REG_READ (Table 4-7): COUNT and the addresses are checked first, then the registers are read in order, with a latch of the packet's own (R463). -/
def execRegRead (src : PktSrc) (s : State) : Host.Outcome State Fault Refusal :=
  match s.findExec src 0x02 with
  | none => .next s
  | some e =>
    let n := pktField e.bytes 8 1
    if n = 0 ∨ 4 < n then .next (s.complete e stNotPermitted [] (atByte 8))
    else match (readAddrs e).findIdx? (fun a => !addrOk a) with
      | some i => .next (s.complete e stNotPermitted [] (atByte (12 + 4 * i)))
      | none => .next (s.complete e stOk ((s.readMany none false [] (readAddrs e)).1.flatMap (fun w => leBytes 4 w.toNat)) noByte)

/-- A write that the ring-state table refuses (R106, R108). -/
def State.ringRefuses (s : State) (x : Nat × Word) : Bool :=
  inRings x.1 && decide (x.1 % 8 = 0) && !s.ringWriteOk ((x.1 - 0x40000) / 8) x.2

/-- A write that a channel engine refuses (R314, R358). -/
def State.ifRefuses (s : State) (x : Nat × Word) : Bool :=
  decide (0x10000 ≤ x.1) && decide (x.1 < 0x21000) && [8, 12, 16].contains (x.1 % 0x1000)
    && !s.ifTakes ((x.1 - 0x10000) / 0x1000) ((x.1 % 0x1000 - 8) / 4) x.2

/-- The writes of a REG_WRITE in order; one that the ring-state table or a channel engine refuses stops the packet, and the earlier ones stand. The second result is DETAIL of the refusal: the pair's byte (DESIGN CHOICE, log entry 117), and for an engine's refusal 1 in [21:0] (R314). -/
def State.writePairs (s : State) (i : Nat) : List (Nat × Word) → State × Option Nat
  | [] => (s, none)
  | x :: xs =>
    if s.ringRefuses x then (s, some (atByte (12 + 8 * i)))
    else if s.ifRefuses x then (s.writeReg none x.1 x.2, some (atByte (12 + 8 * i) + 1))
    else (s.writeReg none x.1 x.2).writePairs (i + 1) xs

/-- REG_WRITE (Table 4-7, Table 16-2): COUNT, the addresses and the path's rights are checked first, then the registers are written in order. -/
def execRegWrite (src : PktSrc) (s : State) : Host.Outcome State Fault Refusal :=
  match s.findExec src 0x03 with
  | none => .next s
  | some e =>
    let n := pktField e.bytes 8 1
    if n = 0 ∨ 4 < n then .next (s.complete e stNotPermitted [] (atByte 8))
    else match (Machine.writePairs e).findIdx? (fun x => !addrOk x.1 || !s.mayWrite none x.1) with
      | some i => .next (s.complete e stNotPermitted [] (atByte (12 + 8 * i)))
      | none =>
        match s.writePairs 0 (Machine.writePairs e) with
        | (t, none) => .next (t.completeLive e stOk [] noByte)
        | (t, some d) => .next (t.completeLive e stNotPermitted [] d)

/-- SAVE_NOW (R24, R125, Table 4-7): the safety partition's trigger; the status follows the return to service. -/
def execSaveNow (src : PktSrc) (s : State) : Host.Outcome State Fault Refusal :=
  match s.findExec src 0x09 with
  | none => .next s
  | some e => .next (s.saveNowRun e)

/-- IMAGE_QUERY_NEWEST (Table 4-7): the newest image's generation, epoch, number and position, zeros where no image stands; a SELECT that is not used is refused. -/
def execImageQueryNewest (src : PktSrc) (s : State) : Host.Outcome State Fault Refusal :=
  match s.findExec src 0x0A with
  | none => .next s
  | some e =>
    let sel := pktField e.bytes 8 1
    if sel = 1 then .next s
    else if sel ≠ 0 then .next (s.complete e stNotPermitted [] (atByte 8))
    else match s.flash.images.getLast? with
      | none => .next (s.completeCode e stOk)
      | some i => .next (s.complete e stOk (leBytes 4 i.gen ++ leBytes 4 i.epoch ++ leBytes 6 i.seq ++ leBytes 1 i.pos) noByte)

/-- IMAGE_QUERY_DIRTY_MAP (R149, Table 4-7): the counts of the dirty map, the granules queued, and the dirty data time at 24 GB/s. -/
def execImageQueryDirtyMap (src : PktSrc) (s : State) : Host.Outcome State Fault Refusal :=
  match s.findExec src 0x0A with
  | none => .next s
  | some e =>
    if pktField e.bytes 8 1 ≠ 1 then .next s
    else
      let n := s.cntDirty
      .next (s.complete e stOk (leBytes 4 n ++ leBytes 4 s.cntPending ++ leBytes 4 s.per.flushQ.length ++ leBytes 4 (ceilDiv (n * 1048576) 24000)) noByte)

/-- RESULT of a FAULT_CLEAR (Table 4-7): incidents cleared and remaining. -/
def State.clearResult (s : State) (cleared : Nat) : List Byte := leBytes 4 cleared ++ leBytes 4 s.flt.slots.length

/-- FAULT_CLEAR of a named incident (R421, R425). -/
def State.clearNamed (s : State) (e : ExecPkt) (n : Nat) : State :=
  match s.findIncident (fun i => decide (i.num = n)) with
  | none => s.completeCode e stNotPermitted
  | some (k, i) =>
    let t := if i.state = .gone then s.freeIncident k else s
    let c := if i.state = .gone then 1 else 0
    let code := if i.overtaken then stOvertaken else if i.state = .gone then stOk else stCausePresent
    t.completeLive e code (t.clearResult c) noByte

/-- FAULT_CLEAR with INCIDENT 0 (R421): every GONE incident becomes FREE. -/
def State.clearGone (s : State) (e : ExecPkt) : State :=
  let ks := (s.flt.slots.filter (fun x => decide (x.2.state = .gone))).map (·.1)
  let t := ks.foldl (fun (u : State) k => u.freeIncident k) s
  t.completeLive e (if t.flt.slots.isEmpty then stOk else stCausePresent) (t.clearResult ks.length) noByte

/-- FAULT_CLEAR (R421 to R423): causes are judged as they stand, and the clear needs no kite. -/
def execFaultClear (src : PktSrc) (s : State) : Host.Outcome State Fault Refusal :=
  match s.findExec src 0x10 with
  | none => .next s
  | some e =>
    let n := pktField e.bytes 8 4
    let t := s.settle
    .next (if n = 0 then t.clearGone e else t.clearNamed e n)

/-- The sources that Table 14-2 uses. -/
def sourceUsed (n : Nat) : Bool :=
  decide (n ≤ 0x093) || (decide (0x100 ≤ n) && decide (n ≤ 0x10F)) || (decide (0x110 ≤ n) && decide (n ≤ 0x120))
    || (decide (0x130 ≤ n) && decide (n ≤ 0x135)) || decide (n = 0x138) || decide (n = 0x139)

/-- The first parameter byte of a FAULT_INJECT that R424 refuses, or 0xFF where injection is not permitted; none where it is accepted. -/
def State.injectBad (s : State) (e : ExecPkt) : Option Nat :=
  if !s.flag FLT_INJ_EN then some 0xFF
  else if !sourceUsed (pktField e.bytes 8 2) then some 8
  else if (kindOfCode (pktField e.bytes 10 1)).isNone then some 10
  else if pktField e.bytes 11 1 ≠ 2 ∧ pktField e.bytes 11 1 ≠ 3 then some 11
  else if natBits (pktField e.bytes 14 1) 0 1 = 0 ∧ !s.flag FLT_INJ_REACT_EN then some 0xFF
  else none

/-- The message that a FAULT_INJECT makes (R424): INJ = 1. -/
def injectMessage (e : ExecPkt) (k : FaultKind) : FaultMsg :=
  ⟨Fin.ofNat 1024 (pktField e.bytes 8 2), k, if pktField e.bytes 11 1 = 3 then .critical else .fault,
   Fin.ofNat 16384 (pktField e.bytes 12 2), BitVec.ofNat 32 (pktField e.bytes 16 4), true⟩

/-- The incident that took a message between two states: a new one, or the one into which it merged; 0 where it opened none. -/
def State.tookMessage (s t : State) : Nat :=
  if t.fld FLT_NEXT_INC ≠ s.fld FLT_NEXT_INC then s.fld FLT_NEXT_INC
  else match t.flt.slots.find? (fun x => match s.incident x.1 with
      | some i => decide (i.num = x.2.num) && decide (i.consCount ≠ x.2.consCount)
      | none => false) with
    | some x => x.2.num
    | none => 0

/-- FAULT_INJECT (R424): the collector treats the message as one from SOURCE. An injected SRAM_UE fails in the memory of its source's unit (log entry 58). -/
def execFaultInject (src : PktSrc) (s : State) : Host.Outcome State Fault Refusal :=
  match s.findExec src 0x11 with
  | none => .next s
  | some e =>
    match s.injectBad e, kindOfCode (pktField e.bytes 10 1) with
    | some b, _ => .next (s.complete e stNotPermitted [] (atByte b))
    | none, none => .next (s.complete e stNotPermitted [] (atByte 10))
    | none, some k =>
      let m := injectMessage e k
      let t := s.arrive m (decide (natBits (pktField e.bytes 14 1) 0 1 = 1)) (.other (Fin.ofNat 148 m.source.val)) true
      .next ((t.settle).completeLive e stOk (leBytes 4 (s.tookMessage t)) noByte)

/-- PACK_TEST (R392, R394, R396): a capacitance test starts, or the packet joins the one in progress; without a good feed A it ends FEED_A at once. -/
def execPackTest (src : PktSrc) (answer : Option PackStatus) (s : State) : Host.Outcome State Fault Refusal :=
  match s.findExec src 0x13 with
  | none => .next s
  | some e =>
    if pktField e.bytes 8 1 ≠ 0 then .next (s.complete e stNotPermitted [] (atByte 8))
    else
      let t := s.startExec e 0
      if t.pwr.test.isSome then .next t
      else if !t.flag PWR_FEED_STS_A_GOOD then .next ((t.packTestFail 3).packTestEnd 3)
      else .next (t.packTestStart .packet answer)

/-- LEARN_START (R88, R89): refused outside the TRAIN and LEARN phases, with the DRAM side untrained, with the learner fenced, or with a base line that breaks R88; BUSY while a pass runs. -/
def execLearnStart (src : PktSrc) (s : State) : Host.Outcome State Fault Refusal :=
  match s.findExec src 0x14 with
  | none => .next s
  | some e =>
    let ma := s.clnBase
    if s.sys.mode ≠ .attach || (s.sys.phase ≠ .train && s.sys.phase ≠ .learn) || !s.flag TRN_STS_DRAM_READY then .next (s.completeCode e stNotPermitted)
    else if s.learning then .next (s.completeCode e stBusy)
    else if !s.baseOk || s.inPap ma || s.inSap ma || s.unitOut .learner then .next (s.completeCode e stNotPermitted)
    else .next ((s.learnBegin).completeLive e stOk [] noByte)

end Sys2Proof.Machine
end

