-- ==== Sys2Proof/Machine/Dispatch.lean ====
section
/-! DEFINITION. One arm per command: the meaning of each row of the opcode table. -/

namespace Sys2Proof.Machine

def exec (i : Instr) (s : State) : Host.Outcome State Fault Refusal :=
  match i with
  | .powerOnResetRelease bGood mbBad mbRetries => Sys2Proof.Machine.execPowerOnResetRelease bGood mbBad mbRetries s
  | .startTimerExpiry => Sys2Proof.Machine.execStartTimerExpiry s
  | .vaonFall => Sys2Proof.Machine.execVaonFall s
  | .feedAGood => Sys2Proof.Machine.execFeedAGood s
  | .feedALowTrigger => Sys2Proof.Machine.execFeedALowTrigger s
  | .feedAOv => Sys2Proof.Machine.execFeedAOv s
  | .feedBLow => Sys2Proof.Machine.execFeedBLow s
  | .feedBOv => Sys2Proof.Machine.execFeedBOv s
  | .feedBOvRecovery => Sys2Proof.Machine.execFeedBOvRecovery s
  | .supplyLost => Sys2Proof.Machine.execSupplyLost s
  | .saveNAsserted => Sys2Proof.Machine.execSaveNAsserted s
  | .dramHandoverToBdc => Sys2Proof.Machine.execDramHandoverToBdc s
  | .saveSheafConfirmed => Sys2Proof.Machine.execSaveSheafConfirmed s
  | .imageAnchored => Sys2Proof.Machine.execImageAnchored s
  | .secondAnchorConfirmed => Sys2Proof.Machine.execSecondAnchorConfirmed s
  | .railDischarged rail => Sys2Proof.Machine.execRailDischarged rail s
  | .dischargeStuck rail => Sys2Proof.Machine.execDischargeStuck rail s
  | .gateBOffDelay => Sys2Proof.Machine.execGateBOffDelay s
  | .reboundStageRetry => Sys2Proof.Machine.execReboundStageRetry s
  | .railGood rail boot => Sys2Proof.Machine.execRailGood rail boot s
  | .railNoStart rail boot => Sys2Proof.Machine.execRailNoStart rail boot s
  | .railChatter rail boot => Sys2Proof.Machine.execRailChatter rail boot s
  | .railFault rail => Sys2Proof.Machine.execRailFault rail s
  | .railGlitch rail => Sys2Proof.Machine.execRailGlitch rail s
  | .railRetryTry rail => Sys2Proof.Machine.execRailRetryTry rail s
  | .telemetryPoll samples latched mbBad mbRetries => Sys2Proof.Machine.execTelemetryPoll samples latched mbBad mbRetries s
  | .resetOutputRise pin => Sys2Proof.Machine.execResetOutputRise pin s
  | .domainFault dom => Sys2Proof.Machine.execDomainFault dom s
  | .firstKiteGrant core env => Sys2Proof.Machine.execFirstKiteGrant core env s
  | .dramTrainingDone pass failAt results => Sys2Proof.Machine.execDramTrainingDone pass failAt results s
  | .handover => Sys2Proof.Machine.execHandover s
  | .restoreDone bad => Sys2Proof.Machine.execRestoreDone bad s
  | .hostWrite c b col burst ap data chk full => Sys2Proof.Machine.execHostWrite c b col burst ap data chk full s
  | .hostWritePattern c b col ap full => Sys2Proof.Machine.execHostWritePattern c b col ap full s
  | .hostRead c b col burst ap => Sys2Proof.Machine.execHostRead c b col burst ap s
  | .hostAct c b row => Sys2Proof.Machine.execHostAct c b row s
  | .hostPrecharge c kind b => Sys2Proof.Machine.execHostPrecharge c kind b s
  | .hostRefresh c => Sys2Proof.Machine.execHostRefresh c s
  | .hostRfm c => Sys2Proof.Machine.execHostRfm c s
  | .hostMpc c op => Sys2Proof.Machine.execHostMpc c op s
  | .hostMrw c mr op lane => Sys2Proof.Machine.execHostMrw c mr op lane s
  | .hostMrr c toRegister ret => Sys2Proof.Machine.execHostMrr c toRegister ret s
  | .hostPowerDown c => Sys2Proof.Machine.execHostPowerDown c s
  | .selfRefreshEntry c => Sys2Proof.Machine.execSelfRefreshEntry c s
  | .selfRefreshExit c ns => Sys2Proof.Machine.execSelfRefreshExit c ns s
  | .alertPulseEnd => Sys2Proof.Machine.execAlertPulseEnd s
  | .parityBlockLong sub => Sys2Proof.Machine.execParityBlockLong sub s
  | .dramAlert sub rank => Sys2Proof.Machine.execDramAlert sub rank s
  | .cwParityConfig c v => Sys2Proof.Machine.execCwParityConfig c v s
  | .cwCaLatency c v => Sys2Proof.Machine.execCwCaLatency c v s
  | .cwAlertWidth c v => Sys2Proof.Machine.execCwAlertWidth c v s
  | .cwEndParityBlock c v => Sys2Proof.Machine.execCwEndParityBlock c v s
  | .cwIgnored c index v => Sys2Proof.Machine.execCwIgnored c index v s
  | .caTrainingMode c v => Sys2Proof.Machine.execCaTrainingMode c v s
  | .csTrainingMode c v => Sys2Proof.Machine.execCsTrainingMode c v s
  | .readEnableMode c v => Sys2Proof.Machine.execReadEnableMode c v s
  | .writeLevelingMode c v => Sys2Proof.Machine.execWriteLevelingMode c v s
  | .readDqMode c v => Sys2Proof.Machine.execReadDqMode c v s
  | .writeDqMode c v => Sys2Proof.Machine.execWriteDqMode c v s
  | .hostTrainingModeExit c index => Sys2Proof.Machine.execHostTrainingModeExit c index s
  | .laneFault lane events => Sys2Proof.Machine.execLaneFault lane events s
  | .loopbackStart => Sys2Proof.Machine.execLoopbackStart s
  | .loopbackEnd errors => Sys2Proof.Machine.execLoopbackEnd errors s
  | .hostResetAssert => Sys2Proof.Machine.execHostResetAssert s
  | .hostResetDeassert => Sys2Proof.Machine.execHostResetDeassert s
  | .hbpCtlWrite v => Sys2Proof.Machine.execHbpCtlWrite v s
  | .parErrClear sub => Sys2Proof.Machine.execParErrClear sub s
  | .dirtyMarkApply => Sys2Proof.Machine.execDirtyMarkApply s
  | .forceFull => Sys2Proof.Machine.execForceFull s
  | .perMapSelWrite v => Sys2Proof.Machine.execPerMapSelWrite v s
  | .loRegisterRead path a => Sys2Proof.Machine.execLoRegisterRead path a s
  | .spGo v => Sys2Proof.Machine.execSpGo v s
  | .learnStart src => Sys2Proof.Machine.execLearnStart src s
  | .learnerCapture => Sys2Proof.Machine.execLearnerCapture s
  | .learnSolveDone => Sys2Proof.Machine.execLearnSolveDone s
  | .learnTimeout => Sys2Proof.Machine.execLearnTimeout s
  | .learnAbort => Sys2Proof.Machine.execLearnAbort s
  | .packetCapture => Sys2Proof.Machine.execPacketCapture s
  | .ringGap ring => Sys2Proof.Machine.execRingGap ring s
  | .packetDispatch => Sys2Proof.Machine.execPacketDispatch s
  | .mailboxGo => Sys2Proof.Machine.execMailboxGo s
  | .ringCfgWrite ring v => Sys2Proof.Machine.execRingCfgWrite ring v s
  | .nop src => Sys2Proof.Machine.execNop src s
  | .regRead src => Sys2Proof.Machine.execRegRead src s
  | .regWrite src => Sys2Proof.Machine.execRegWrite src s
  | .captureDefineDefine src => Sys2Proof.Machine.execCaptureDefineDefine src s
  | .captureDefineDelete src => Sys2Proof.Machine.execCaptureDefineDelete src s
  | .sealOpen src => Sys2Proof.Machine.execSealOpen src s
  | .sealClose src => Sys2Proof.Machine.execSealClose src s
  | .sealBarrierPass region => Sys2Proof.Machine.execSealBarrierPass region s
  | .sealContentReady region => Sys2Proof.Machine.execSealContentReady region s
  | .sealCommitDone => Sys2Proof.Machine.execSealCommitDone s
  | .gleanRelease src => Sys2Proof.Machine.execGleanRelease src s
  | .releaseCommitDone => Sys2Proof.Machine.execReleaseCommitDone s
  | .flushGranules src => Sys2Proof.Machine.execFlushGranules src s
  | .saveNow src => Sys2Proof.Machine.execSaveNow src s
  | .imageQueryNewest src => Sys2Proof.Machine.execImageQueryNewest src s
  | .imageQueryDirtyMap src => Sys2Proof.Machine.execImageQueryDirtyMap src s
  | .timeSet src => Sys2Proof.Machine.execTimeSet src s
  | .timeStepCommit => Sys2Proof.Machine.execTimeStepCommit s
  | .configStage src => Sys2Proof.Machine.execConfigStage src s
  | .configActivate src => Sys2Proof.Machine.execConfigActivate src s
  | .configRevert src => Sys2Proof.Machine.execConfigRevert src s
  | .logReadHeader src => Sys2Proof.Machine.execLogReadHeader src s
  | .logReadData src => Sys2Proof.Machine.execLogReadData src s
  | .faultClear src => Sys2Proof.Machine.execFaultClear src s
  | .faultInject src => Sys2Proof.Machine.execFaultInject src s
  | .flashDesc src => Sys2Proof.Machine.execFlashDesc src s
  | .packTest src answer => Sys2Proof.Machine.execPackTest src answer s
  | .gleanCaptureApply => Sys2Proof.Machine.execGleanCaptureApply s
  | .stagingOverflow => Sys2Proof.Machine.execStagingOverflow s
  | .slotIdleClose g => Sys2Proof.Machine.execSlotIdleClose g s
  | .gleanEarProgrammed slot ear => Sys2Proof.Machine.execGleanEarProgrammed slot ear s
  | .gleanSheafProgrammed slot => Sys2Proof.Machine.execGleanSheafProgrammed slot s
  | .flashRepair g => Sys2Proof.Machine.execFlashRepair g s
  | .foldComplete sheaf => Sys2Proof.Machine.execFoldComplete sheaf s
  | .rationHour => Sys2Proof.Machine.execRationHour s
  | .seaEntFetch v => Sys2Proof.Machine.execSeaEntFetch v s
  | .seaEntFetchDone => Sys2Proof.Machine.execSeaEntFetchDone s
  | .threshStart => Sys2Proof.Machine.execThreshStart s
  | .threshCopiesDone => Sys2Proof.Machine.execThreshCopiesDone s
  | .paceWindowEnd env => Sys2Proof.Machine.execPaceWindowEnd env s
  | .ledgerCommit => Sys2Proof.Machine.execLedgerCommit s
  | .eraseIntentConfirmed stook => Sys2Proof.Machine.execEraseIntentConfirmed stook s
  | .fceDescriptorQueue ch die low desc => Sys2Proof.Machine.execFceDescriptorQueue ch die low desc s
  | .fceRead ch die low => Sys2Proof.Machine.execFceRead ch die low s
  | .fceProgram ch die low => Sys2Proof.Machine.execFceProgram ch die low s
  | .fceErase ch die low => Sys2Proof.Machine.execFceErase ch die low s
  | .fceSuspend ch die low poll => Sys2Proof.Machine.execFceSuspend ch die low poll s
  | .fceResume ch die low => Sys2Proof.Machine.execFceResume ch die low s
  | .fceAbort ch die low poll => Sys2Proof.Machine.execFceAbort ch die low poll s
  | .fceStatus ch die low => Sys2Proof.Machine.execFceStatus ch die low s
  | .fceParam ch die low => Sys2Proof.Machine.execFceParam ch die low s
  | .fceReadySample ch die poll => Sys2Proof.Machine.execFceReadySample ch die poll s
  | .fceTimeout ch die => Sys2Proof.Machine.execFceTimeout ch die s
  | .fceAgePromote ch die => Sys2Proof.Machine.execFceAgePromote ch die s
  | .fceFence ch => Sys2Proof.Machine.execFceFence ch s
  | .fceUnfence ch => Sys2Proof.Machine.execFceUnfence ch s
  | .fceIfWrite ch reg v => Sys2Proof.Machine.execFceIfWrite ch reg v s
  | .bdcPortRequest port line wait => Sys2Proof.Machine.execBdcPortRequest port line wait s
  | .bdcRequestLate => Sys2Proof.Machine.execBdcRequestLate s
  | .refreshDue target planStep => Sys2Proof.Machine.execRefreshDue target planStep s
  | .mr4Poll target field above1 above2 => Sys2Proof.Machine.execMr4Poll target field above1 above2 s
  | .rdWindowEnd => Sys2Proof.Machine.execRdWindowEnd s
  | .hostActHigh => Sys2Proof.Machine.execHostActHigh s
  | .harvestEntryCheck => Sys2Proof.Machine.execHarvestEntryCheck s
  | .harvestReturn => Sys2Proof.Machine.execHarvestReturn s
  | .harvestRecheck g agree => Sys2Proof.Machine.execHarvestRecheck g agree s
  | .harvestSheafConfirmed g => Sys2Proof.Machine.execHarvestSheafConfirmed g s
  | .lullRetrainDone pass failAt results => Sys2Proof.Machine.execLullRetrainDone pass failAt results s
  | .dctWindowRead v => Sys2Proof.Machine.execDctWindowRead v s
  | .dctWindowReadDone => Sys2Proof.Machine.execDctWindowReadDone s
  | .hostClockStop => Sys2Proof.Machine.execHostClockStop s
  | .hostClockRestart => Sys2Proof.Machine.execHostClockRestart s
  | .hostClockLoss => Sys2Proof.Machine.execHostClockLoss s
  | .hostClockReturn step late duration => Sys2Proof.Machine.execHostClockReturn step late duration s
  | .slewDone => Sys2Proof.Machine.execSlewDone s
  | .hostClockLossTimeout => Sys2Proof.Machine.execHostClockLossTimeout s
  | .discEnd => Sys2Proof.Machine.execDiscEnd s
  | .pllLock loop band fine temp => Sys2Proof.Machine.execPllLock loop band fine temp s
  | .pllLockTimeout loop => Sys2Proof.Machine.execPllLockTimeout loop s
  | .pllNoLock loop => Sys2Proof.Machine.execPllNoLock loop s
  | .clkSpUserWrite u v => Sys2Proof.Machine.execClkSpUserWrite u v s
  | .capTestPeriodic answer => Sys2Proof.Machine.execCapTestPeriodic answer s
  | .packCharged answer => Sys2Proof.Machine.execPackCharged answer s
  | .capTestSettled v => Sys2Proof.Machine.execCapTestSettled v s
  | .capTestV1Sample v1 => Sys2Proof.Machine.execCapTestV1Sample v1 s
  | .capTestV2Sample v2 iT temp => Sys2Proof.Machine.execCapTestV2Sample v2 iT temp s
  | .voltageTest v0 => Sys2Proof.Machine.execVoltageTest v0 s
  | .cValidExpiry => Sys2Proof.Machine.execCValidExpiry s
  | .faultMessageArrival own holds => Sys2Proof.Machine.execFaultMessageArrival own holds s
  | .unitErrorPair dom equal => Sys2Proof.Machine.execUnitErrorPair dom equal s
  | .unitError dom => Sys2Proof.Machine.execUnitError dom s
  | .shadowClose inc => Sys2Proof.Machine.execShadowClose inc s
  | .unitNotReady inc => Sys2Proof.Machine.execUnitNotReady inc s
  | .incidentCauseGone slot => Sys2Proof.Machine.execIncidentCauseGone slot s
  | .faultPulseEnd => Sys2Proof.Machine.execFaultPulseEnd s
  | .fltPinWrite v => Sys2Proof.Machine.execFltPinWrite v s
  | .sptSelf fail => Sys2Proof.Machine.execSptSelf fail s
  | .coreHb core => Sys2Proof.Machine.execCoreHb core s
  | .coreDead core => Sys2Proof.Machine.execCoreDead core s
  | .coreStartTimeout core => Sys2Proof.Machine.execCoreStartTimeout core s
  | .kiteRenew core => Sys2Proof.Machine.execKiteRenew core s
  | .kiteRequest core => Sys2Proof.Machine.execKiteRequest core s
  | .kiteLeaseExpiry => Sys2Proof.Machine.execKiteLeaseExpiry s
  | .linkTestPass => Sys2Proof.Machine.execLinkTestPass s
  | .switchoverComplete => Sys2Proof.Machine.execSwitchoverComplete s
  | .recordArrival own queueFull chaff running => Sys2Proof.Machine.execRecordArrival own queueFull chaff running s
  | .registerWrite path a v => Sys2Proof.Machine.execRegisterWrite path a v s
  | .sbPrivateWrite addr bytes => Sys2Proof.Machine.execSbPrivateWrite addr bytes s
  | .sbPrivateRead addr words early => Sys2Proof.Machine.execSbPrivateRead addr words early s
  | .entdaa addr => Sys2Proof.Machine.execEntdaa addr s
  | .setdasa static addr => Sys2Proof.Machine.execSetdasa static addr s
  | .setnewda old addr => Sys2Proof.Machine.execSetnewda old addr s
  | .rstdaa => Sys2Proof.Machine.execRstdaa s
  | .getpid => Sys2Proof.Machine.execGetpid s
  | .getbcr => Sys2Proof.Machine.execGetbcr s
  | .getdcr => Sys2Proof.Machine.execGetdcr s
  | .getstatus => Sys2Proof.Machine.execGetstatus s
  | .getmwl => Sys2Proof.Machine.execGetmwl s
  | .getmrl => Sys2Proof.Machine.execGetmrl s
  | .setmwl v => Sys2Proof.Machine.execSetmwl v s
  | .setmrl v => Sys2Proof.Machine.execSetmrl v s
  | .ptabBurn v => Sys2Proof.Machine.execPtabBurn v s
  | .bypass => Sys2Proof.Machine.execBypass s
  | .idcode => Sys2Proof.Machine.execIdcode s
  | .samplePreload sample preload => Sys2Proof.Machine.execSamplePreload sample preload s
  | .extest => Sys2Proof.Machine.execExtest s
  | .bootTest answer => Sys2Proof.Machine.execBootTest answer s
  | .feedAGoodLost => Sys2Proof.Machine.execFeedAGoodLost s
  | .strayCycle ch die exp obs => Sys2Proof.Machine.execStrayCycle ch die exp obs s
  | .hostTrainingSample c cs ck => Sys2Proof.Machine.execHostTrainingSample c cs ck s

end Sys2Proof.Machine
end

