-- ==== Sys2Proof/Machine/Tick.lean ====
section
/-! DEFINITION. What happens while no command waits (log entry 1): one device tick passes, with the ages and time-outs that follow the tick, and what units finish by themselves is taken. -/

namespace Sys2Proof.Machine

open Reg

/-- A core's heartbeat ages (R426): one µs more, saturating; a core that does not run keeps 0xFF. -/
def State.ageCore (s : State) (c : CoreId) : State := if s.coreRuns c then s.bump (coreAgeFld c) 1 else s.setFld (coreAgeFld c) 0xFF

/-- The lease runs down (R427). -/
def State.ageLease (s : State) : State := s.setFld SPT_KITE_LEASE_LEFT (s.fld SPT_KITE_LEASE_LEFT - 1)

/-- PWR_PACK_AGE: whole seconds since the last successful capacitance test. -/
def State.agePack (s : State) : State :=
  if s.pwr.capOk then s.setFld PWR_PACK_AGE (min ((s.tick - s.pwr.capTick) / 1000000) (2 ^ 32 - 1)) else s

/-- The maps of a restore are loaded, and step 3 of Table 7-6 begins. -/
def State.restoreTick (s : State) : State := if s.fld SAV_STS_STAGE = 5 then s.setFld SAV_STS_STAGE 6 else s

/-- One device tick (R348): in every mode except off the tick rises by one, a thresh copies a sheaf, a restore moves on, a harvest takes up work queued meanwhile, a format and a burn end, completions are taken, incidents settle, the snapshot triggers see what was held, and a staging goes on. -/
def State.idleTick (s : State) : State :=
  if s.sys.mode = .off then s
  else
    let t : State := ({ s with tick := s.tick + 1 } : State).threshStep.restoreTick.harvestNext
    let t := (((t.ageCore .a).ageCore .b).ageLease).agePack
    let t := if t.per.confirms.isEmpty then t else t.applyConfirms
    ((((t.formatDone.burnDone).takeCompletions).settle).takeFresh 0).stagePump.trainTick

end Sys2Proof.Machine
end

