-- ==== Sys2Proof/WellFormed.lean ====
section
/-! DEFINITION. Which commands are well formed: the bounds that the operand types do not carry. Every meaning is total, so a command that is not well formed still has a next state; no rule speaks of it. -/

namespace Sys2Proof

/-- A command on the CA input is sampled in one to four UIs (R43, Table 2-11). -/
def CaCmd.wf (c : CaCmd) : Bool := decide (1 ≤ c.uis.length) && decide (c.uis.length ≤ 4)

/-- The control-word indexes that are accepted and ignored (R51, Table 2-3): all but the four of the table and those of the host training modes. -/
def ignoredIndex (n : Nat) : Bool := decide (4 ≤ n) && !(decide (0x10 ≤ n) && decide (n ≤ 0x15))

/-- The record codes of Table 15-2: the message records and the named ones. -/
def recordCode (n : Nat) : Bool := (decide (1 ≤ n) && decide (n ≤ 0x2C)) || (decide (0x40 ≤ n) && decide (n ≤ 0x6F) && !(decide (0x48 ≤ n) && decide (n ≤ 0x4F)))

/-- A record as a source sends it: a code of Table 15-2, and a payload that 256 bytes hold (R443, R444). -/
def EvRecord.wf (e : EvRecord) : Bool := recordCode e.code && decide (e.payload.length ≤ 212)

/-- What a boot finds: 1, 2 or 4 dies per channel (R257, R258). -/
def BootEnv.wf (e : BootEnv) : Bool := decide (e.dies.val = 1) || decide (e.dies.val = 2) || decide (e.dies.val = 4)

/-- A private write is at most 260 bytes long (GETMWL, Table 16-10). -/
def writeLenOk (bs : List Byte) : Bool := decide (bs.length ≤ 260)

/-- The CA command that a command carries, if it is one of the host port. -/
def Instr.caCmd : Instr → Option CaCmd
  | .hostWrite c _ _ _ _ _ _ _ => some c
  | .hostWritePattern c _ _ _ _ => some c
  | .hostRead c _ _ _ _ => some c
  | .hostAct c _ _ => some c
  | .hostPrecharge c _ _ => some c
  | .hostRefresh c => some c
  | .hostRfm c => some c
  | .hostMpc c _ => some c
  | .hostMrw c _ _ _ => some c
  | .hostMrr c _ _ => some c
  | .hostPowerDown c => some c
  | .selfRefreshEntry c => some c
  | .selfRefreshExit c _ => some c
  | .cwParityConfig c _ => some c
  | .cwCaLatency c _ => some c
  | .cwAlertWidth c _ => some c
  | .cwEndParityBlock c _ => some c
  | .cwIgnored c _ _ => some c
  | .caTrainingMode c _ => some c
  | .csTrainingMode c _ => some c
  | .readEnableMode c _ => some c
  | .writeLevelingMode c _ => some c
  | .readDqMode c _ => some c
  | .writeDqMode c _ => some c
  | .hostTrainingModeExit c _ => some c
  | .hostTrainingSample c _ _ => some c
  | _ => none

/-- The bounds of a command's other operands. -/
def Instr.operandsOk : Instr → Bool
  | .cwIgnored _ index _ => ignoredIndex index.toNat
  | .recordArrival (some e) _ _ _ => e.wf
  | .railGood _ e => e.wf
  | .railNoStart _ e => e.wf
  | .railChatter _ e => e.wf
  | .sbPrivateWrite _ bs => writeLenOk bs
  | .samplePreload a b => decide (a.length = b.length)
  | _ => true

/-- A well-formed command. -/
def WellFormed (i : Instr) : Bool := (match i.caCmd with | some c => c.wf | none => true) && i.operandsOk

end Sys2Proof
end

