-- ==== Sys2Proof/Safety.lean ====
section
/-! DEFINITION. The terms in which statements about the Yogal are made: what it is for a command to answer, what a command leaves alone, when the host port takes a command, and the invariants of the state. -/

namespace Sys2Proof.Machine

open Reg

/-- The command answers a next state, and that state satisfies `P`. -/
def Answers (c : Instr) (s : State) (P : State → Prop) : Prop := ∃ t, exec c s = .next t ∧ P t

/-- Nothing but the listed register fields differs between the two states: every other component is the same, and so is every bit of every register outside the fields. -/
def OnlyFields (fs : List Fld) (s t : State) : Prop :=
  t = { s with regs := t.regs } ∧
  ∀ a i, (∀ f ∈ fs, ¬ (f.addr = a ∧ f.lo ≤ i ∧ i < f.lo + f.w)) → (t.word a).getLsbD i = (s.word a).getLsbD i

/-- The two states hold the same in every register of the bank. -/
def SameRegs (s t : State) : Prop := ∀ a, t.word a = s.word a

/-- The clocks and the parity check let a command through at the CA input (R43, R44, R360, R502), and its sub-channel is not blocked (R45). -/
def CaOpen (s : State) (c : CaCmd) : Prop :=
  s.flag CLK_STS_H_LOCK = true ∧ s.flag CLK_STS_COAST = false ∧ s.flag CLK_STS_DISCONT = false ∧
  (s.parityChecked = false ∨ firstBadUi c.uis = none) ∧ s.blocked c.sub = false

/-- A mode and phase in which the register function takes control words: not in restore, which drops every command (R31). -/
def CwMode (s : State) : Prop :=
  s.sys.mode ≠ .off ∧ s.sys.mode ≠ .powerUp ∧ s.sys.mode ≠ .save ∧ s.sys.mode ≠ .shutDown ∧ s.sys.phase ≠ .restore

/-- A control-word write is taken: the BDC does not hold the DRAM in harvest either, where it breaks the handback (R342). -/
def CwOpen (s : State) (c : CaCmd) : Prop := CwMode s ∧ CaOpen s c ∧ s.bdcHolds = false

/-- In service, with no host training mode active and no harvest handback waiting, a host command is forwarded. -/
def HostOpen (s : State) (c : CaCmd) : Prop :=
  s.sys.mode = .service ∧ s.sys.phase ≠ .restore ∧ CaOpen s c ∧ s.hbp.train = none ∧ s.bdc.handbackWait = none

/-- The state after a forwarded command that the Yogal only stamps (R39). -/
def State.crossed (s : State) : State :=
  { s with sys := { s.sys with keeperTraining := false }, hbp := { s.hbp with stamp := s.hbp.stamp + 1 } }

/-- The invariant that every step keeps: the register bank and the DRAM are in their canonical form, and the attach phase is shown in attach alone (R22). -/
def State.Inv (s : State) : Prop :=
  smapWf resetWord s.regs = true ∧ smapWf (fun _ => (0, 0)) s.dram.lines = true ∧ (s.sys.phase = .none ∨ s.sys.mode = .attach)

/-- A save has been started from a state: the mode is save, the DRAM is as it was with the lines of the retrain area back in their places, the run is of the freeze point and of the next generation, and the backside controller does not hold the DRAM for it yet. -/
def SaveFrom (s t : State) : Prop :=
  t.sys.mode = .save ∧ t.dram = s.areaBack.dram ∧ t.per.freezeF = s.freezeStamp ∧ t.flag SAV_STS_SAVING = true ∧ t.flag PER_STS_FROZEN = true ∧
    ∃ r, t.sav.run = some r ∧ r.f = s.freezeStamp ∧ r.gen = s.flash.imageGen + 1 ∧ r.start = s.tick ∧ r.handed = false ∧ r.sheaves = 0

/-- An enabled rail stands in some stage. -/
def State.railUp (s : State) : Bool := (List.range 8).any (fun k => decide (s.stageRails k &&& s.pwr.en ≠ 0))

/-- A shut-down has been started from a state (R384, R385), with a cause, and past its DRAM point where `past` says so: it goes on while an enabled rail is left, and with none it is over, and the part is off. -/
def DownFrom (s t : State) (cause : Nat) (past : Bool) : Prop :=
  (s.railUp = true → t.sys.mode = .shutDown ∧ t.fld PWR_SEQ_STS_STATE = 3 ∧ t.pwr.offCause = cause ∧ (past = true → t.pwr.dramPoint = true) ∧ t.hbp.selfRef = 15) ∧
  (s.railUp = false → t.sys.mode = .off ∧ t.fld CFG_CAUSE_OFF_CAUSE = cause)

/-- Feed A as a trigger below its threshold leaves it: not good, below, and a capacitance test that ran with it good failed (R394, R396). -/
def State.feedALow (s : State) : State :=
  ((if s.flag PWR_FEED_STS_A_GOOD && s.pwr.test.isSome then (s.packTestFail 3).packTestEnd 3 else s).setFlag PWR_FEED_STS_A_GOOD false).setFlag PWR_FEED_STS_A_BELOW true

/-- Feed A above its range: shown, GATE_A off, and reported (R369). -/
def State.feedAHigh (s : State) : State :=
  State.report { (s.setFlag PWR_FEED_STS_A_OV true).setFlag PWR_FEED_STS_GATE_A false with pwr := { s.pwr with aHigh := true } } .feedAOv 0 0 0

/-- The trigger code of a feed A below its threshold: 1, or 4 without a kite or in a switch-over gap (R24, R493). -/
def State.feedACode (s : State) : Nat := if s.kiteHeld && !s.inGap then 1 else 4

/-- An image of a run has joined those on flash, with one anchor copy (R208), and the run is over. -/
def Anchored (s t : State) (r : SaveRun) : Prop :=
  (∃ i, t.flash.images = s.flash.images ++ [i] ∧ i.gen = r.gen ∧ i.f = r.f ∧ i.plan = r.plan ∧ i.copies = 1) ∧ t.sav.run = none

/-- The modes in which a trigger decides a save where a plan is loaded (R24, R435). -/
def Deciding (s : State) : Prop :=
  s.sys.mode = .service ∨ s.sys.mode = .lull ∨ s.sys.mode = .rebound ∨ (s.sys.mode = .keeper ∧ s.sys.keeperFrom ≠ .early)

/-- The modes in which a trigger shuts down without a save, the DRAM not yet restored (R435, Table 1-6). -/
def Early (s : State) : Prop := s.sys.mode = .powerUp ∨ s.sys.mode = .attach ∨ (s.sys.mode = .keeper ∧ s.sys.keeperFrom = .early)

/-- The save that a trigger of this code starts has the channels and the erased sheaves that it needs (R206, R269). -/
def SaveFits (s : State) (code : Nat) : Prop := (s.saveTaken code (decide (s.sys.mode = .keeper))).saveImpossible = none

/-- A save that could not be made was abandoned at once (R206, R269): shut-down without a save. -/
def SaveLost (s t : State) : Prop := DownFrom s t 6 true ∧ (s.railUp = true → t.flag SAV_STS_ABANDONED = true ∧ t.sav.run = none)

/-- What the start of a capacitance test leaves (R392, R394, Table 13-10): the pack's answer ends it at once, or the test settles with the charger off. -/
def PackTestFrom (k : PackTestKind) (answer : Option PackStatus) (t : State) : Prop :=
  match answer with
  | none => t.pwr.test = none ∧ t.fld PWR_PACK_STS_FAIL = 1 ∧ t.flag PWR_PACK_STS_TEST_FAIL = true
  | some a =>
    if a.fault then t.pwr.test = none ∧ t.fld PWR_PACK_STS_FAIL = 2 ∧ t.flag PWR_PACK_STS_TEST_FAIL = true
    else t.pwr.test = some (k, .settling) ∧ t.pwr.charger = false ∧ t.flag PWR_PACK_STS_TESTING = true ∧ t.flag PWR_PACK_STS_CHARGED = a.charged

/-- A rail that is to be judged: it waits for its power-good, its enable is on, and a PMIC rail is armed. -/
def RailAwaited (s : State) (r : Nat) : Prop :=
  railIn s.pwr.waiting r = true ∧ railIn s.pwr.en r = true ∧ (16 ≤ r ∨ s.pwr.armed.getLsbD r = true) ∧ s.sys.mode ≠ .shutDown ∧ s.fld SPT_STS_SEQ ≠ 7

/-- The fail bit of a rail. -/
def State.railFailBit (s : State) (r : Nat) : Bool := if r < 16 then s.bit PWR_RAIL_FAIL r else s.bit PWR_FSW_FAIL (r - 16)

/-- A flash channel engine starts a sound descriptor from the head of a queue (R294 to R297, R300): the mode and the fences let it, there is room for completions, no write of the interface registers waits (R314), the queue is the one granted, and the die takes the operation. -/
def FceGranted (s : State) (ch d : Nat) (low : Bool) (x : List Byte) : Prop :=
  s.sys.mode ≠ .off ∧ s.sys.mode ≠ .powerUp ∧ s.flag (FCE_STS_FENCED ch) = false ∧ s.cplStall ch = false ∧ (s.chan ch).ifWrites = [] ∧ s.grant ch = some (d, low) ∧
  (s.die ch d).head low = some x ∧ descOk x = true ∧ s.dieUnusable ch d (dOp x) = false

/-- The engine of a channel has posted completions with these codes, and no others (R301, Table 10-4). -/
def Posted (s t : State) (ch : Nat) (codes : List Nat) : Prop :=
  ∃ bs : List (List Byte), (t.chan ch).cpl = (s.chan ch).cpl ++ bs ∧ bs.map (fun b => leField b 0 1) = codes

/-- No other die of the module has changed, and neither have the mode, the DRAM and the host port. -/
def OnlyDie (s t : State) (ch d : Nat) : Prop :=
  (∀ c k, (c ≠ ch ∨ k ≠ d) → t.die c k = s.die c k) ∧ t.sys = s.sys ∧ t.dram = s.dram ∧ t.hbp = s.hbp

/-- A packet is the one packet of its source in execution. -/
def OnePacket (s : State) (e : ExecPkt) : Prop := s.pkt.exec.filter (fun x => decide (x.src = e.src)) = [e]

/-- The packet of a source has left execution with this status: where the status is not to be discarded, no gap withholds it and no write of RING_CFG waits, it stands in the slot that its SEQ selects in its ring, or in PKT_MBX_OUT with BUSY cleared and DONE set (R105, R113, R124, R133). -/
def Completed (s t : State) (e : ExecPkt) (code : Nat) (result : List Byte) (detail : Nat) : Prop :=
  (∀ x ∈ t.pkt.exec, x.src ≠ e.src) ∧
  (e.discard = false → s.inGap = false → s.pkt.ringWrites = [] →
    match e.src with
    | .mailbox => t.getBytes 0x5180 8 = statusBytes (execStatus e code result detail) 0 ∧ t.flag PKT_MBX_STS_BUSY = false ∧ t.flag PKT_MBX_STS_DONE = true
    | .ring r => smapFind t.pkt.slots (r.val * 16 + e.seq % 2 ^ (s.ring r.val).depth) = some (slotOf (statusBytes (execStatus e code result detail) (s.ring r.val).nextSeq)))

/-- The ledger takes a record and commits it at once (R274): outside a save, with numbers to give and no record waiting. -/
def LedgerReady (s : State) : Prop := s.sys.mode ≠ .save ∧ s.evr.base ≠ none ∧ s.seqBlocked = false ∧ s.flo.pendingRecs = []

/-- The parity block bit of a sub-channel. -/
def blockField : Sub → Fld
  | .a => HBP_PAR_STS_BLOCK_A
  | .b => HBP_PAR_STS_BLOCK_B

/-- The parity error bit of a sub-channel. -/
def errField : Sub → Fld
  | .a => HBP_PAR_STS_ERR_A
  | .b => HBP_PAR_STS_ERR_B

/-- The parity error count of a sub-channel. -/
def parCount : Sub → Fld
  | .a => HBP_PAR_STS_COUNT_A
  | .b => HBP_PAR_STS_COUNT_B

end Sys2Proof.Machine
end

