-- ==== Sys2Proof/Certificates/Slice0/Obligations.lean ====
section
/-! DEFINITION. The statements about the Yogal that the provers prove, one definition per statement; each docstring names the rules of spec/ that it comes from. -/

open Sys2Proof Sys2Proof.Machine Sys2Proof.Machine.Reg

/-- R51, R41, Table 2-3: a control-word write that is taken runs to its next state: it puts its bits into the mirrored fields of HBP_CTL and changes nothing else; the latency in force stays, since `hbp` does. An unimplemented index is recorded at severity TRACE, and no register changes; what the record carries is the model's choice (log entry 92). In restore every control-word write is dropped and logged (R31), and in harvest it breaks the handback (R342). -/
def Obligations.ControlWordsMirror : Prop :=
  ∀ (c : CaCmd) (v index : Byte) (s : State),
    (CwOpen s c →
      Answers (.cwParityConfig c v) s (fun t => t.flag HBP_CTL_PAR_EN = v.getLsbD 0 ∧ t.flag HBP_CTL_PAR_POLICY = v.getLsbD 1 ∧
        OnlyFields [HBP_CTL_PAR_EN, HBP_CTL_PAR_POLICY] s t) ∧
      Answers (.cwCaLatency c v) s (fun t => t.flag HBP_CTL_CA_LAT = v.getLsbD 0 ∧ t.flag HBP_CTL_CMD_2N = v.getLsbD 1 ∧
        OnlyFields [HBP_CTL_CA_LAT, HBP_CTL_CMD_2N] s t) ∧
      Answers (.cwAlertWidth c v) s (fun t => t.fld HBP_CTL_ALERT_WIDTH = v.toNat % 8 ∧ OnlyFields [HBP_CTL_ALERT_WIDTH] s t) ∧
      exec (.cwIgnored c index v) s = .next (s.emit .trace 0x0055 (subSource c.sub) [index, v])) ∧
    (s.sys.mode = .attach → s.sys.phase = .restore → s.flag CLK_STS_H_LOCK = true → s.flag CLK_STS_COAST = false → s.flag CLK_STS_DISCONT = false →
      ∀ i ∈ [Instr.cwParityConfig c v, .cwCaLatency c v, .cwAlertWidth c v, .cwEndParityBlock c v, .cwIgnored c index v, .caTrainingMode c v,
          .csTrainingMode c v, .readEnableMode c v, .writeLevelingMode c v, .readDqMode c v, .writeDqMode c v],
        exec i s = .next (s.note 0x0051 (subSource c.sub) [])) ∧
    (CwMode s → CaOpen s c → s.bdcHolds = true →
      ∀ i ∈ [Instr.cwParityConfig c v, .cwCaLatency c v, .cwAlertWidth c v, .cwEndParityBlock c v, .cwIgnored c index v, .caTrainingMode c v,
          .csTrainingMode c v, .readEnableMode c v, .writeLevelingMode c v, .readDqMode c v, .writeDqMode c v],
        exec i s = .next (s.handbackBroken c.sub))

/-- R44, R46 to R48: where parity is checked (PAR_EN = 1, no host training mode active, and no freeze since which the rebound has had no HANDOVER), a command of the host port in whose UIs a parity error stands is dropped, whatever the command: it takes no stamp, the DRAM, the taps and the lanes are as before, the error is flagged and counted (saturating) and logged for its sub-channel, ALERT_n pulses, and the sub-channel is blocked exactly under DROP_UNTIL_CLEAR. R45: on a blocked sub-channel every command of the host port without a parity error is dropped and changes nothing, except a write of control word 0x03 with bit [0] = 1, which, but in harvest, ends the block and clears the error bit; a write of 1 to ERR_A or ERR_B ends the block of its sub-channel as well. The other sub-channel is not touched. -/
def Obligations.ParityErrorsDropAndBlock : Prop :=
  (∀ (i : Instr) (c : CaCmd) (s : State) (k : Nat), i.caCmd = some c → (∀ c' x y, i ≠ .hostTrainingSample c' x y) → CwMode s →
     s.flag CLK_STS_H_LOCK = true → s.flag CLK_STS_COAST = false → s.flag CLK_STS_DISCONT = false →
     s.parityChecked = true → firstBadUi c.uis = some k →
     Answers i s (fun t =>
       t.fld (errField c.sub) = 1 ∧ t.fld (parCount c.sub) = min (s.fld (parCount c.sub) + 1) 255 ∧
       t.word (HBP_PAR_LOG (subNum c.sub)).addr = BitVec.ofNat 32 (parLogWord c.uis k) ∧
       t.blocked c.sub = (s.flag HBP_CTL_PAR_POLICY || s.blocked c.sub) ∧
       OnlyFields [errField c.sub, blockField c.sub, parCount c.sub, HBP_PAR_LOG (subNum c.sub)]
         { s with hbp := { s.hbp with alertPulse := true } } t)) ∧
  ((∀ (i : Instr) (c : CaCmd) (s : State), i.caCmd = some c → (∀ c' x y, i ≠ .hostTrainingSample c' x y) →
     (∀ v : Byte, v.getLsbD 0 = true → i ≠ .cwEndParityBlock c v) → CwMode s →
     s.flag CLK_STS_H_LOCK = true → s.flag CLK_STS_COAST = false → s.flag CLK_STS_DISCONT = false →
     firstBadUi c.uis = none → s.blocked c.sub = true → Answers i s (fun t => t = s)) ∧
   (∀ (c : CaCmd) (v : Byte) (s : State), CwMode s → s.bdcHolds = false →
     s.flag CLK_STS_H_LOCK = true → s.flag CLK_STS_COAST = false → s.flag CLK_STS_DISCONT = false →
     firstBadUi c.uis = none → v.getLsbD 0 = true →
     Answers (.cwEndParityBlock c v) s (fun t => t.blocked c.sub = false ∧ t.fld (errField c.sub) = 0 ∧
       OnlyFields [blockField c.sub, errField c.sub] s t)) ∧
   ∀ (x : Sub) (s : State), Answers (.parErrClear x) s (fun t => t.blocked x = false ∧ t.fld (errField x) = 0 ∧
     OnlyFields [blockField x, errField x] s t))

/-- R39, R51, R73: a forwarded command that no table of the Yogal follows takes the next order stamp, and nothing else of the state changes (but the mark of R25, which the first host command ends); an MRR also drives what the DRAM returned, its check lanes a free value, and one to the register's control words returns no data and takes no stamp. R42: ACT opens its row, PRE closes one bank, PREsb the bank in all eight bank groups and PREab the 32 banks of the logical rank; every other bank entry keeps its row, and of the rest of the host buffer path only the order stamp moves. R23, R41: a self-refresh entry marks its rank, and the entry that completes every rank of both sub-channels moves service to lull; a self-refresh exit in lull with no harvest running moves lull to service, unmarks its rank, and puts CA_LAT and CMD_2N in force. Both take the next stamp. -/
def Obligations.HostCommandsForwarded : Prop :=
  (∀ (c : CaCmd) (s : State), HostOpen s c →
     Answers (.hostRefresh c) s (fun t => t = s.crossed) ∧
     Answers (.hostRfm c) s (fun t => t = s.crossed) ∧
     (∀ op, Answers (.hostMpc c op) s (fun t => t = s.crossed)) ∧
     Answers (.hostPowerDown c) s (fun t => t = s.crossed) ∧
     (∀ ret, Answers (.hostMrr c false ret) s (fun t => t = { s.crossed with hbp := { s.crossed.hbp with hostOut := some (ret, Config.mrrCheck (s.hbp.stamp + 1)) } })) ∧
     (∀ ret, Answers (.hostMrr c true ret) s (fun t => t = { s with sys := { s.sys with keeperTraining := false }, hbp := { s.hbp with hostOut := none } }))) ∧
  (∀ (c : CaCmd) (b : BankAddr) (s : State), HostOpen s c →
     (∀ row, Answers (.hostAct c b row) s (fun t => t.hbp = { s.crossed.hbp with rows := t.hbp.rows } ∧
       (∀ i, t.openRow i = if i = cmdBank c b then some row.toNat else s.openRow i) ∧
       t = { s.crossed with hbp := t.hbp, bdc := { s.bdc with hostActs := t.bdc.hostActs } } ∧
       smapGet (fun _ => 0) t.bdc.hostActs (cmdBank c b) = smapGet (fun _ => 0) s.bdc.hostActs (cmdBank c b) + 1)) ∧
     ∀ kind, Answers (.hostPrecharge c kind b) s (fun t => t = { s.crossed with hbp := { s.crossed.hbp with rows := t.hbp.rows } } ∧
       ∀ i, t.openRow i = if i ∈ (match kind with
         | .one => [cmdBank c b]
         | .sameBank => (List.range 8).map (fun g => bankIndex (subNum c.sub) c.rank.val c.lrank.val g b.ba.val)
         | .allBanks => (List.range 32).map (fun k => bankIndex (subNum c.sub) c.rank.val c.lrank.val 0 0 + k))
         then none else s.openRow i)) ∧
  ((∀ (c : CaCmd) (s : State), HostOpen s c →
     Answers (.selfRefreshEntry c) s (fun t =>
       t.hbp.selfRef = s.hbp.selfRef ||| (1#4 <<< (subNum c.sub * 2 + c.rank.val)) ∧ t.hbp.stamp = s.hbp.stamp + 1 ∧ t.dram = s.dram ∧
       t.sys.mode = if (List.range 4).all (fun k => t.hbp.selfRef.getLsbD k || (decide (k % 2 = 1) && !s.flag HBP_GEOM_RANK2))
         then .lull else .service)) ∧
   ∀ (c : CaCmd) (ns : BitVec 16) (s : State), s.sys.mode = .lull → s.sys.phase ≠ .restore → CaOpen s c → s.hbp.train = none → s.flag DCT_STS_HARVESTING = false →
     Answers (.selfRefreshExit c ns) s (fun t =>
       t.sys.mode = .service ∧ t.hbp.stamp = s.hbp.stamp + 1 ∧ t.dram = s.dram ∧
       t.hbp.selfRef = s.hbp.selfRef &&& ~~~(1#4 <<< (subNum c.sub * 2 + c.rank.val)) ∧
       t.hbp.caLat = s.fld HBP_CTL_CA_LAT + 1 ∧ t.hbp.cmd2n = s.flag HBP_CTL_CMD_2N))

/-- R54, R55, R58, Table 2-6: a forwarded WRITE to an open row takes the next stamp and stores at its module address and at no other line: a BL16 WRITE its 64 data bytes and 16 check bytes, and a WRITE of a burst length that the part does not support a free value of what stood there and of what it carried, with ALL_DIRTY set. Its dirty mark carries its granule and that stamp; where the marker's FIFO is full ALL_DIRTY is set in its place. R42, R58: a forwarded WRITE or WRITE PATTERN to a bank with no open row stores nothing, gives the dirty marker no entry, and sets ALL_DIRTY. R59: the MRW to the pattern mode register sets the nibble of the lane it names, or of every lane of its sub-channel, for its package rank alone; a WRITE PATTERN to an open row then stores at its module address, and at no other line, the burst whose every beat carries those nibbles, two lanes to a byte and the two check lanes to the check byte. Which mode register that is, is the model's choice (log entry 8). -/
def Obligations.HostWrites : Prop :=
  (∀ (c : CaCmd) (b : BankAddr) (col : BitVec 7) (burst : Burst) (ap : Bool) (data : LineData) (chk : CheckBytes) (full : TapFull) (s : State) (row : Nat),
     HostOpen s c → s.openRow (cmdBank c b) = some row →
     Answers (.hostWrite c b col burst ap data chk full) s (fun t =>
       let ma := s.mkMa (subNum c.sub) c.rank.val c.lrank.val b.bg.val b.ba.val row col.toNat
       t.line ma = (match burst with
         | .bl16 => (data, chk)
         | .bc8 => Config.oddBurst 8 (s.line ma) (data, chk)
         | .bl32 => Config.oddBurst 32 (s.line ma) (data, chk)) ∧
       (∀ x, maLine x ≠ maLine ma → t.line x = s.line x) ∧ t.hbp.stamp = s.hbp.stamp + 1 ∧
       (full.dirty = false → t.hbp.dirtyQ = s.hbp.dirtyQ ++ [(maGranule ma, s.hbp.stamp + 1)]) ∧
       (full.dirty = true → t.hbp.dirtyQ = s.hbp.dirtyQ) ∧ (burst ≠ .bl16 ∨ full.dirty = true → t.flag PER_STS_ALL_DIRTY = true) ∧
       t.sys.mode = .service ∧ t.flash = s.flash ∧
       ∀ i, t.openRow i = if ap = true ∧ i = cmdBank c b then none else s.openRow i)) ∧
  (∀ (c : CaCmd) (b : BankAddr) (col : BitVec 7) (burst : Burst) (ap : Bool) (data : LineData) (chk : CheckBytes) (full : TapFull) (s : State),
     HostOpen s c → s.openRow (cmdBank c b) = none →
     Answers (.hostWrite c b col burst ap data chk full) s (fun t => t.dram = s.dram ∧ t.hbp.dirtyQ = s.hbp.dirtyQ ∧
       t.hbp.stamp = s.hbp.stamp + 1 ∧ t.flag PER_STS_ALL_DIRTY = true) ∧
     Answers (.hostWritePattern c b col ap full) s (fun t => t.dram = s.dram ∧ t.hbp.dirtyQ = s.hbp.dirtyQ ∧
       t.hbp.stamp = s.hbp.stamp + 1 ∧ t.flag PER_STS_ALL_DIRTY = true)) ∧
  (∀ (c : CaCmd) (s : State), HostOpen s c →
     (∀ (mr op : Byte) (lane : Option (Fin 10)), Answers (.hostMrw c mr op lane) s (fun t =>
       t = { s.crossed with hbp := { s.crossed.hbp with pattern := t.hbp.pattern } } ∧
       ∀ k, smapFind t.hbp.pattern k =
         if mr.toNat = patternMr ∧ (∃ x : Fin 10, (lane = none ∨ lane = some x) ∧ k = c.rank.val * 20 + subNum c.sub * 10 + x.val)
         then some (op.toNat % 16) else smapFind s.hbp.pattern k)) ∧
     ∀ (b : BankAddr) (col : BitVec 7) (ap : Bool) (full : TapFull) (row : Nat), s.openRow (cmdBank c b) = some row →
       Answers (.hostWritePattern c b col ap full) s (fun t =>
         let ma := s.mkMa (subNum c.sub) c.rank.val c.lrank.val b.bg.val b.ba.val row col.toNat
         let nib := fun k : Nat => (smapFind s.hbp.pattern (c.rank.val * 20 + subNum c.sub * 10 + k)).getD 0 % 16
         ((∀ k, (smapFind s.hbp.pattern k).getD 0 < 16) →
           (∀ i < 512, (t.line ma).1.getLsbD i = (nib (i % 32 / 4)).testBit (i % 4)) ∧
           (∀ i < 128, (t.line ma).2.getLsbD i = (nib (8 + i % 8 / 4)).testBit (i % 4))) ∧
         (∀ x, maLine x ≠ maLine ma → t.line x = s.line x) ∧ t.hbp.stamp = s.hbp.stamp + 1))

/-- R62, R63: a forwarded READ of an open row returns the DRAM's line, or, once the host code is learned, for a line of the status aperture the 64 bytes of the status image with the check bytes that the learned code gives for that address; of a burst length that the part does not support it returns a free value of that line (Table 2-6), and ALL_DIRTY is set. Nothing is stored: of the DRAM nothing changes, and with a BL16 READ only the order stamp, what is driven, and with auto-precharge the bank's row, change. -/
def Obligations.HostReadReturns : Prop :=
  ∀ (c : CaCmd) (b : BankAddr) (col : BitVec 7) (burst : Burst) (ap : Bool) (s : State) (row : Nat), HostOpen s c → s.openRow (cmdBank c b) = some row →
    Answers (.hostRead c b col burst ap) s (fun t =>
      let ma := s.mkMa (subNum c.sub) c.rank.val c.lrank.val b.bg.val b.ba.val row col.toNat
      let line := if s.fld CLN_STS_STATE = 4 ∧ s.inSap ma = true then (s.statusLine ma, predict s.cln.store ma (s.statusLine ma)) else s.line ma
      t.hbp.hostOut = some (match burst with
        | .bl16 => line
        | .bc8 => Config.oddRead 8 line
        | .bl32 => Config.oddRead 32 line) ∧
      t.dram = s.dram ∧ t.hbp.stamp = s.hbp.stamp + 1 ∧
      (burst = .bl16 → t = { s.crossed with hbp := { s.crossed.hbp with hostOut := t.hbp.hostOut, rows := t.hbp.rows } }) ∧
      (burst ≠ .bl16 → t.flag PER_STS_ALL_DIRTY = true) ∧
      ∀ i, t.openRow i = if ap = true ∧ i = cmdBank c b then none else s.openRow i)

/-- R63: while the code learner is in state UNLEARNED (CLN_STS.STATE 0), a forwarded READ of an open row is answered from the DRAM's own line and check bytes, in the status aperture as anywhere else: nothing is substituted, and the DRAM is only read. A READ of a burst length that the part does not support returns a free value of that line (log entry 9). -/
def Obligations.UnlearnedReadsPassThrough : Prop :=
  ∀ (c : CaCmd) (b : BankAddr) (col : BitVec 7) (burst : Burst) (ap : Bool) (s : State) (row : Nat),
    HostOpen s c → s.openRow (cmdBank c b) = some row → s.fld CLN_STS_STATE = 0 →
    Answers (.hostRead c b col burst ap) s (fun t =>
      let line := s.line (s.mkMa (subNum c.sub) c.rank.val c.lrank.val b.bg.val b.ba.val row col.toNat)
      t.hbp.hostOut = some (match burst with
        | .bl16 => line
        | .bc8 => Config.oddRead 8 line
        | .bl32 => Config.oddRead 32 line) ∧
      t.dram = s.dram)

/-- R47, R49, R50, R66: the end of an ALERT_n pulse leaves nothing of it; a long parity block sets BLOCK_LONG and is reported for its sub-channel, and where the sub-channel is not blocked there is none; a DRAM alert is recorded with its sub-channel and rank and pulses the host's ALERT_n; a lane fault counts its slip events (saturating at 65535), and where the events of the lane's window exceed HBP_LANE_CTL.THRESH the lane's bit on its side is set and LANE_FAULT is reported with side and lane. The records' layouts and the place of a window are the model's choice (log entries 92, 93). R67, R68: in lull a loopback starts on the enabled sides, but not on the DRAM side while harvest runs, and outside lull nothing happens; its end counts the run, clears BUSY and LAST_ABORTED, adds the bit errors of the lanes of the sides that ran, which are judged as the lane's events are (R66), and leaves no side running. -/
def Obligations.AlertsLanesAndLoopback : Prop :=
  (∀ (s : State),
     Answers .alertPulseEnd s (fun t => t = { s with hbp := { s.hbp with alertPulse := false } }) ∧
     (∀ x : Sub, Answers (.parityBlockLong x) s (fun t =>
       t = if s.blocked x = true then (s.setFlag HBP_PAR_STS_BLOCK_LONG true).report .parityBlockLong (subSource x) 0 0 else s)) ∧
     (s.sys.mode ≠ .off → s.sys.mode ≠ .powerUp →
       (∀ (x : Sub) (r : Fin 2), Answers (.dramAlert x r) s (fun t => t.hbp = { s.hbp with alertPulse := true } ∧ t.regs = s.regs ∧
         t = { s.note 0x0054 (subSource x) [BitVec.ofNat 8 (subNum x), BitVec.ofNat 8 r.val] with hbp := t.hbp })) ∧
       ∀ (k : Fin 40) (n : BitVec 16),
         let w := (smapFind s.hbp.laneWin k.val).getD (s.tick, 0)
         let events := (if s.fld HBP_LANE_CTL_WINDOW_MS * 1000 < s.tick - w.1 then 0 else w.2) + n.toNat
         Answers (.laneFault k n) s (fun t =>
           t.fld (HBP_LANE_CNT_SLIP k.val) = min (s.fld (HBP_LANE_CNT_SLIP k.val) + n.toNat) 65535 ∧
           t.hbp = { s.hbp with laneWin := t.hbp.laneWin } ∧
           (s.fld HBP_LANE_CTL_THRESH < events →
             (k.val < 20 → t.bit HBP_LANE_FLT_H k.val = true) ∧ (20 ≤ k.val → t.bit HBP_LANE_FLT_D (k.val - 20) = true) ∧
             OnlyFields [HBP_LANE_CNT_SLIP k.val, if k.val < 20 then HBP_LANE_FLT_H else HBP_LANE_FLT_D]
               { s.report .laneFault (4 + k.val) ((if k.val < 20 then 0 else 1) * 32 + k.val % 20) 0 with hbp := t.hbp } t) ∧
           (events ≤ s.fld HBP_LANE_CTL_THRESH → OnlyFields [HBP_LANE_CNT_SLIP k.val] { s with hbp := t.hbp } t)))) ∧
  (∀ (s : State),
     Answers .loopbackStart s (fun t =>
       if s.sys.mode = .lull ∧ (s.flag HBP_LOOP_CTL_HOST_EN = true ∨ (s.flag HBP_LOOP_CTL_DRAM_EN = true ∧ s.flag DCT_STS_HARVESTING = false)) then
         t.hbp = { s.hbp with loopHost := s.flag HBP_LOOP_CTL_HOST_EN, loopDram := s.flag HBP_LOOP_CTL_DRAM_EN && !s.flag DCT_STS_HARVESTING } ∧
         t.flag HBP_LOOP_STS_BUSY = true ∧ OnlyFields [HBP_LOOP_STS_BUSY, CLK_STS_D_SRC] { s with hbp := t.hbp } t
       else t = s) ∧
     ∀ (k : Fin 40) (n : BitVec 16), (s.hbp.loopHost = true ∨ s.hbp.loopDram = true) →
       let ran := if k.val < 20 then s.hbp.loopHost else s.hbp.loopDram
       let w := (smapFind s.hbp.laneWin k.val).getD (s.tick, 0)
       let events := (if s.fld HBP_LANE_CTL_WINDOW_MS * 1000 < s.tick - w.1 then 0 else w.2) + n.toNat
       let fault := ran = true ∧ s.fld HBP_LANE_CTL_THRESH < events
       Answers (.loopbackEnd [(k, n)]) s (fun t =>
         t.hbp = { s.hbp with loopHost := false, loopDram := false, laneWin := t.hbp.laneWin } ∧ t.flag HBP_LOOP_STS_BUSY = false ∧
         t.flag HBP_LOOP_STS_LAST_ABORTED = false ∧ t.fld HBP_LOOP_STS_RUNS = min (s.fld HBP_LOOP_STS_RUNS + 1) 65535 ∧
         t.fld (HBP_LANE_CNT_LOOP k.val) =
           (if ran = true then min (s.fld (HBP_LANE_CNT_LOOP k.val) + n.toNat) 65535 else s.fld (HBP_LANE_CNT_LOOP k.val)) ∧
         (fault → (k.val < 20 → t.bit HBP_LANE_FLT_H k.val = true) ∧ (20 ≤ k.val → t.bit HBP_LANE_FLT_D (k.val - 20) = true)) ∧
         (¬ fault → t.flt = s.flt ∧ t.word HBP_LANE_FLT_H.addr = s.word HBP_LANE_FLT_H.addr ∧ t.word HBP_LANE_FLT_D.addr = s.word HBP_LANE_FLT_D.addr) ∧
         OnlyFields [HBP_LANE_CNT_LOOP k.val, HBP_LANE_FLT_H, HBP_LANE_FLT_D, CLK_STS_D_SRC, HBP_LOOP_STS_BUSY, HBP_LOOP_STS_LAST_ABORTED, HBP_LOOP_STS_RUNS]
           { s with hbp := t.hbp, flt := t.flt } t))

/-- R41, R74, R461, Table 2-10: while the HBP's domains are on a write of HBP_CTL puts the bits of the word into its RW fields and changes nothing else; CA_LAT and CMD_2N take effect at a deassertion of H_RESET_n, which puts them in force outside off, save and shut-down and sets the delays of Table 2-1 for the active set point. R25, R72, R107, R151: an assertion of H_RESET_n in service, with no SAVE_NOW in execution, enters the TRAIN phase of attach: HBP_CTL has its reset values and the blocks are clear, no row is open, no rank is in self-refresh, no host training mode is active, the ring-state table, the held lines and the status store are empty, ALL_DIRTY is set for the reset, the DRAM's content is as before with the lines of the retrain area back in their places, and the flash array is untouched. In off it is only recorded in the pin's level. -/
def Obligations.HbpControlAndHostReset : Prop :=
  (∀ (s : State),
     (s.coreDomains = true → ∀ v : Word, Answers (.hbpCtlWrite v) s (fun t =>
       t.flag HBP_CTL_PAR_EN = v.getLsbD 0 ∧ t.flag HBP_CTL_PAR_POLICY = v.getLsbD 1 ∧ t.flag HBP_CTL_CA_LAT = v.getLsbD 4 ∧
       t.flag HBP_CTL_CMD_2N = v.getLsbD 5 ∧ t.fld HBP_CTL_ALERT_WIDTH = v.toNat / 256 % 8 ∧
       OnlyFields [HBP_CTL_PAR_EN, HBP_CTL_PAR_POLICY, HBP_CTL_CA_LAT, HBP_CTL_CMD_2N, HBP_CTL_ALERT_WIDTH] s t)) ∧
     (s.sys.mode ≠ .off → s.sys.mode ≠ .save → s.sys.mode ≠ .shutDown → Answers .hostResetDeassert s (fun t =>
       t.sys = { s.sys with hReset := false } ∧ t.hbp = { s.hbp with caLat := s.fld HBP_CTL_CA_LAT + 1, cmd2n := s.flag HBP_CTL_CMD_2N } ∧
       t.fld HBP_LAT_CA_LAT_EFF = max (s.fld HBP_CTL_CA_LAT + 1) (latMin (s.latRow (s.fld HBP_LAT_SET_POINT))) ∧
       t.fld HBP_LAT_WR_DELAY = t.fld HBP_LAT_CA_LAT_EFF ∧ t.fld HBP_LAT_RD_ADD = rdAdd (s.latRow (s.fld HBP_LAT_SET_POINT)) ∧
       OnlyFields [HBP_LAT_SET_POINT, HBP_LAT_CA_LAT_EFF, HBP_LAT_WR_DELAY, HBP_LAT_RD_ADD] { s with sys := t.sys, hbp := t.hbp } t))) ∧
  (∀ (s : State),
     (s.sys.mode = .service → (∀ e ∈ s.pkt.exec, pktField e.bytes 0 1 ≠ 9) → Answers .hostResetAssert s (fun t =>
       t.sys.mode = .attach ∧ t.sys.phase = .train ∧ t.sys.hReset = true ∧ t.fld CFG_MODE_LAST_MODE = modeCode .service ∧
       t.word 0x2000 = resetWord 0x2000 ∧ t.blocked .a = false ∧ t.blocked .b = false ∧
       t.hbp.rows = [] ∧ t.hbp.selfRef = 0 ∧ t.hbp.train = none ∧ t.hbp.packetQ = [] ∧
       t.pkt.rings = [] ∧ t.pkt.held = [] ∧ t.pkt.slots = [] ∧ t.flag PER_STS_ALL_DIRTY = true ∧ t.pln.staging = none ∧
       t.dram = s.areaBack.dram ∧ t.flash = s.flash)) ∧
     (s.sys.mode = .off → (∀ e ∈ s.pkt.exec, pktField e.bytes 0 1 ≠ 9) →
       Answers .hostResetAssert s (fun t => t = { s with sys := { s.sys with hReset := true } })))

/-- R82, R83: where host training modes are honoured (the TRAIN phase after DRAM_READY, rebound, and keeper mode where R25 gives it), a control-word write with bit [0] = 1 to index 0x10 to 0x15 enters its mode, leaves any other, and starts its sequence anew; with bit [0] = 0 to the mode that is active it leaves it, and to one that is not active it has no effect. Leaving mode 0x15 after 64 or more centring bursts makes the host-side record of the active set point VALID where some compared burst matched in every bit, and FAILED where none did. Elsewhere the write is ignored and recorded at severity TRACE. R82, Table 3-3: while a host training mode is active, a sample on its sub-channel drives, in CA training, each UI's XOR of the seven CA bits, in CS training the selected chip select's level, and in write leveling each lane's sampled H_CK level on all four of its bits; no other sample and no other state changes. -/
def Obligations.HostTraining : Prop :=
  (∀ (c : CaCmd) (s : State), CwOpen s c →
     let six := (fun (v : Byte) => [((0 : Fin 6), Instr.caTrainingMode c v), (1, .csTrainingMode c v), (2, .readEnableMode c v),
       (3, .writeLevelingMode c v), (4, .readDqMode c v), (5, .writeDqMode c v)])
     let judged := (fun (t : State) => t.fld (hostRec (s.fld TRN_STS_ACTIVE_SP)) =
       if s.hbp.train = some .writeDq ∧ 64 ≤ s.trn.centred then (if s.trn.fullMatch = true then 1 else 3) else s.fld (hostRec (s.fld TRN_STS_ACTIVE_SP)))
     let entered := (fun (m : TrainMode) (t : State) => t.hbp = { s.hbp with train := some m, trainSub := c.sub } ∧ t.flag TRN_STS_HOST_MODE = true ∧
       t.trn.centred = 0 ∧ t.trn.beats = [] ∧ t.trn.fullMatch = false ∧ t.sys = s.sys ∧ t.dram = s.dram ∧ judged t)
     let left := (fun (t : State) => t.hbp = { s.hbp with train := none } ∧ t.flag TRN_STS_HOST_MODE = false ∧ t.trn.beats = [] ∧
       t.sys = s.sys ∧ t.dram = s.dram ∧ judged t)
     (((s.sys.mode = .attach ∧ s.sys.phase = .train ∧ s.flag TRN_STS_DRAM_READY = true) ∨ s.sys.mode = .rebound ∨
         (s.sys.mode = .keeper ∧ (s.sys.keeperTraining = true ∨ s.sys.keeperFrom = .rebound))) →
       (∀ (v : Byte), v.getLsbD 0 = true →
         Answers (.caTrainingMode c v) s (fun t => entered .ca t) ∧ Answers (.csTrainingMode c v) s (fun t => entered .cs t) ∧
         Answers (.readEnableMode c v) s (fun t => entered .readEnable t) ∧
         Answers (.writeLevelingMode c v) s (fun t => entered .writeLevel t) ∧
         Answers (.readDqMode c v) s (fun t => entered .readDq t) ∧ Answers (.writeDqMode c v) s (fun t => entered .writeDq t)) ∧
       (∀ (v : Byte), v.getLsbD 0 = false → ∀ p ∈ six v,
         (s.hbp.train = some (trainModeOf p.1) → Answers p.2 s left) ∧
         (s.hbp.train ≠ some (trainModeOf p.1) → exec p.2 s = .next s)) ∧
       ∀ (i : Fin 6),
         (s.hbp.train = some (trainModeOf i) → Answers (.hostTrainingModeExit c i) s left) ∧
         (s.hbp.train ≠ some (trainModeOf i) → exec (.hostTrainingModeExit c i) s = .next s)) ∧
     ((s.sys.mode = .service ∨ s.sys.mode = .lull) →
       (∀ (v : Byte), ∀ p ∈ six v, exec p.2 s = .next (s.emit .trace 0x0055 (subSource c.sub) [BitVec.ofNat 8 (16 + p.1.val), v])) ∧
       ∀ (i : Fin 6), exec (.hostTrainingModeExit c i) s = .next (s.emit .trace 0x0055 (subSource c.sub) [BitVec.ofNat 8 (16 + i.val), 0]))) ∧
  (∀ (c : CaCmd) (cs : BitVec 2) (ck : BitVec 20) (s : State),
     (s.hbp.train = some .ca → s.hbp.trainSub = c.sub → Answers (.hostTrainingSample c cs ck) s (fun t =>
       t = { s with hbp := { s.hbp with trainOut := t.hbp.trainOut } } ∧
       ∀ i : Nat, t.hbp.trainOut.testBit i = ((c.uis.map (fun u => (List.range 7).foldl (fun b k => b ^^ u.1.getLsbD k) false)).getD i false))) ∧
     (s.hbp.train = some .cs → s.hbp.trainSub = c.sub → Answers (.hostTrainingSample c cs ck) s (fun t =>
       t = { s with hbp := { s.hbp with trainOut := (cs.getLsbD s.trn.csSel).toNat } })) ∧
     (s.hbp.train = some .writeLevel → Answers (.hostTrainingSample c cs ck) s (fun t =>
       t = { s with hbp := { s.hbp with trainOut := t.hbp.trainOut } } ∧
       ∀ i : Nat, t.hbp.trainOut.testBit i = (decide (i < 80) && ck.getLsbD (i / 4)))) ∧
     (s.hbp.train = none → Answers (.hostTrainingSample c cs ck) s (fun t => t = s)))

/-- R115, R116, Table 4-3: the oldest captured line is taken from the capture FIFO and checked in order. Outside service, lull and keeper, with the code unlearned, or for a disabled ring it is discarded and counted (saturating). With no gap lasting: check bits that the learned code does not predict, where PKT_CTL.CHK_HOST asks for the check, and a bad CRC each post BAD_CRC to the addressed slot and count; a RING field that names another ring posts NOT_PERMITTED; a line in a slot that its SEQ does not select posts OUT_OF_ORDER and counts; a line of the window that is not in hand is held with its order stamp, one in hand or behind the window is counted as a duplicate and dropped, and one ahead of the window posts OUT_OF_ORDER and counts. -/
def Obligations.PacketCaptureChecks : Prop :=
  ∀ (s : State) (e : TapEntry) (rest : List TapEntry), s.hbp.packetQ = e :: rest →
    let u : State := { s with hbp := { s.hbp with packetQ := rest } }
    let r := (e.ma - s.papBase.getD 0) / 1024 % 32768
    let slot := (e.ma - s.papBase.getD 0) % 1024 / 64
    let bs := leBytes 64 e.data.toNat
    let v := s.ring r
    let seq := pktField bs 2 2
    let posts := fun (code detail : Nat) => (smapPut s.pkt.slots (r * 16 + slot)
      (slotOf (statusBytes ⟨.ring (Fin.ofNat 32768 r), seq, code, pktField bs 0 1, pktField bs 6 2, [], detail, some slot⟩ v.nextSeq)))
    (s.sys.mode ≠ .service ∧ s.sys.mode ≠ .lull ∧ s.sys.mode ≠ .keeper → Answers .packetCapture s (fun t => t = u.bump PKT_DISCARD_MODE 1)) ∧
    ((s.sys.mode = .service ∨ s.sys.mode = .lull ∨ s.sys.mode = .keeper) → s.pktFenced = false →
      (s.fld CLN_STS_STATE ≠ 4 → Answers .packetCapture s (fun t => t = u.bump PKT_DISCARD_UNLEARNED 1)) ∧
      (s.fld CLN_STS_STATE = 4 →
        (v.en = false → Answers .packetCapture s (fun t => t = u.bump PKT_DISCARD_DISABLED_RING 1)) ∧
        (v.en = true → s.inGap = false → s.flag PKT_CTL_CHK_HOST = true → s.predict e.ma e.data ≠ e.chk → Answers .packetCapture s (fun t =>
            t = { u with pkt := t.pkt } ∧ t.pkt.slots = posts stBadCrc (noByte + 0x400000) ∧ t.ring r = { v with badCrc := min (v.badCrc + 1) 255 } ∧
            t.pkt.held = s.pkt.held ∧ t.pkt.exec = s.pkt.exec)) ∧
        (v.en = true → s.inGap = false → (s.flag PKT_CTL_CHK_HOST = false ∨ s.predict e.ma e.data = e.chk) →
          ((crc32c (bs.take 60)).toNat ≠ pktField bs 60 4 → Answers .packetCapture s (fun t =>
            t = { u with pkt := t.pkt } ∧ t.pkt.slots = posts stBadCrc noByte ∧ t.ring r = { v with badCrc := min (v.badCrc + 1) 255 } ∧
            t.pkt.held = s.pkt.held ∧ t.pkt.exec = s.pkt.exec)) ∧
          ((crc32c (bs.take 60)).toNat = pktField bs 60 4 →
            (pktField bs 4 2 % 32768 ≠ r → Answers .packetCapture s (fun t => t = { u with pkt := { s.pkt with slots := posts stNotPermitted (atByte 4) } })) ∧
            (pktField bs 4 2 % 32768 = r →
              (slot ≠ seq % 2 ^ v.depth → Answers .packetCapture s (fun t =>
                t = { u with pkt := t.pkt } ∧ t.pkt.slots = posts stOutOfOrder (atByte 2) ∧
                t.ring r = { v with outOfOrder := min (v.outOfOrder + 1) 255 } ∧ t.pkt.held = s.pkt.held ∧ t.pkt.exec = s.pkt.exec)) ∧
              (slot = seq % 2 ^ v.depth → v.depth ≤ 4 → (seq + 65536 - v.nextSeq) % 65536 < 2 ^ v.depth →
                (∀ h ∈ s.pkt.held, ¬ (h.ring = r ∧ h.seq = seq)) → (∀ x ∈ s.pkt.exec, ¬ (x.src = .ring (Fin.ofNat 32768 r) ∧ x.seq = seq)) →
                Answers .packetCapture s (fun t => t = { u with pkt := { s.pkt with held := s.pkt.held ++ [⟨r, seq, e.stamp, bs⟩] } })) ∧
              (slot = seq % 2 ^ v.depth →
                ((∃ h ∈ s.pkt.held, h.ring = r ∧ h.seq = seq) ∨ 65536 ≤ (seq + 65536 - v.nextSeq) % 65536 + 2 ^ v.depth) →
                Answers .packetCapture s (fun t => t = u.setRing r { v with dup := min (v.dup + 1) 255 })) ∧
              (slot = seq % 2 ^ v.depth → 2 ^ v.depth ≤ (seq + 65536 - v.nextSeq) % 65536 → (seq + 65536 - v.nextSeq) % 65536 + 2 ^ v.depth < 65536 →
                (∀ h ∈ s.pkt.held, ¬ (h.ring = r ∧ h.seq = seq)) → (∀ x ∈ s.pkt.exec, ¬ (x.src = .ring (Fin.ofNat 32768 r) ∧ x.seq = seq)) →
                Answers .packetCapture s (fun t => t = { u with pkt := t.pkt } ∧ t.pkt.slots = posts stOutOfOrder (atByte 2) ∧
                  t.ring r = { v with outOfOrder := min (v.outOfOrder + 1) 255 } ∧ t.pkt.held = s.pkt.held ∧ t.pkt.exec = s.pkt.exec)))))))

/-- R110, R120, R121: of the lines that may be dispatched (their ring enabled, SEQ equal to NEXT_SEQ, no packet of the ring in execution, no status of it withheld) the one with the lowest order stamp is dispatched: it leaves the held lines, NEXT_SEQ of its ring advances modulo 65536, the dispatch is counted, and with the checks of R121 passed it goes into execution, a configuration packet marked where an activation or a revert is in execution (R255); its PACKET_TRACE is written where it is asked for; nothing else changes. R118, R119: the gap timer of a ring with lines held, none of them at NEXT_SEQ and no captured line that brings it: every held line of the ring leaves the buffer with OUT_OF_ORDER, the ring's gap count rises (saturating), its NEXT_SEQ stays, and RING_GAP is recorded with the ring and its NEXT_SEQ; lines of other rings stay held. While the engine is halted nothing happens. -/
def Obligations.PacketDispatch : Prop :=
  (∀ (s : State) (h : HeldPkt), s.sys.mode = .service → s.pkt.halted = false → s.pktFenced = false → s.coreServes = true →
     h ∈ s.pkt.held → (s.ring h.ring).en = true → h.seq = (s.ring h.ring).nextSeq →
     (∀ e ∈ s.pkt.exec, e.src ≠ .ring (Fin.ofNat 32768 h.ring)) → (∀ p ∈ s.pkt.withheld, p.src ≠ .ring (Fin.ofNat 32768 h.ring)) →
     (∀ k ∈ s.pkt.held, k = h ∨ h.stamp < k.stamp) → s.pkt.held.count h = 1 →
     s.dispatchCheck h.bytes false (s.ring h.ring).priv = none →
     let asked := natBits (pktField h.bytes 1 1) 0 1 = 1 ∨ s.flag PKT_CTL_TRACE_ALL = true
     Answers .packetDispatch s (fun t =>
       t.pkt.held = s.pkt.held.erase h ∧ t.ring h.ring = { s.ring h.ring with nextSeq := (h.seq + 1) % 65536 } ∧
       (∀ r, r ≠ h.ring → t.ring r = s.ring r) ∧
       t.pkt.exec = s.pkt.exec ++ [⟨.ring (Fin.ofNat 32768 h.ring), h.seq, h.stamp, h.bytes, false, false, s.dispatchAux h.bytes false⟩] ∧
       t.fld PKT_DISPATCHED = (s.fld PKT_DISPATCHED + 1) % 2 ^ 32 ∧
       t.evr = (if asked then (s.emit .trace 0x0059 132 (leBytes 2 h.ring ++ leBytes 2 h.seq ++ sliceBytes h.bytes 0 1 ++
         sliceBytes h.bytes 6 2 ++ leBytes 8 h.stamp)).evr else s.evr) ∧
       OnlyFields [PKT_DISPATCHED] { s with pkt := { s.pkt with held := t.pkt.held, rings := t.pkt.rings, exec := t.pkt.exec }, evr := t.evr } t)) ∧
  (∀ (s : State) (ring : Fin 32768),
     (s.pkt.halted = true → Answers (.ringGap ring) s (fun t => t = s)) ∧
     (s.pkt.halted = false → (∃ h ∈ s.pkt.held, h.ring = ring.val) →
       (∀ e ∈ s.hbp.packetQ, s.lineRing e = ring.val → pktField (leBytes 64 e.data.toNat) 2 2 = (s.ring ring.val).nextSeq → s.lineStop e ≠ none) →
       (∀ h ∈ s.pkt.held, h.ring = ring.val → h.seq ≠ (s.ring ring.val).nextSeq) →
       Answers (.ringGap ring) s (fun t =>
         t.pkt.held = s.pkt.held.filter (fun h => decide (h.ring ≠ ring.val)) ∧
         t.ring ring.val = { s.ring ring.val with gap := min ((s.ring ring.val).gap + 1) 255 } ∧ t.pkt.exec = s.pkt.exec ∧
         t.evr = (s.note 0x005A 132 (leBytes 2 ring.val ++ leBytes 2 (s.ring ring.val).nextSeq)).evr ∧ t.regs = s.regs ∧
         (s.inGap = false → ∀ h ∈ s.pkt.held, h.ring = ring.val → (smapFind t.pkt.slots (ring.val * 16 + h.seq % 2 ^ (s.ring ring.val).depth)).isSome))))

/-- R106, R108, R109: while the registers' domains are on, a write of RING_CFG with DEPTH above 4 changes nothing; with no write waiting, one that enables a disabled ring, where its depth fits the 32768 held lines, sets EN, PRIV, DEPTH and NEXT_SEQ, clears the ring's counters and slots and adds its depth to DEPTH_USED, and where it does not fit changes nothing; one that disables an enabled ring discards its held lines, clears its slots and gives its depth back. The other rings keep their state. While a packet of the ring is in execution a write that disables the ring waits, and that packet's status is to be discarded. Before the domains are on the write has no effect. R17, R110, R133: a MAILBOX_GO in off has no effect; while BUSY it sets OVERRUN and changes nothing else; else, outside power-up, it sets BUSY, clears DONE, and the packet of PKT_MBX_IN whose CRC is right and that passes the checks of R121 with the rights of the mailbox goes into execution, its PACKET_TRACE written where it is asked for; one that a check refuses completes with that check's code, as does one with a wrong CRC with BAD_CRC: while no gap lasts its status is in PKT_MBX_OUT, BUSY is clear and DONE set. -/
def Obligations.RingAndMailbox : Prop :=
  (∀ (s : State) (ring : Fin 32768) (w : Word),
     (s.coreDomains = false → Answers (.ringCfgWrite ring w) s (fun t => t = s)) ∧
     (s.coreDomains = true → s.pkt.ringWrites = [] →
       (natBits w.toNat 24 3 > 4 → Answers (.ringCfgWrite ring w) s (fun t => t = s)) ∧
       (natBits w.toNat 24 3 ≤ 4 → (∀ e ∈ s.pkt.exec, e.src ≠ .ring ring) →
         (w.getLsbD 31 = true → (s.ring ring.val).en = false → s.fld PKT_STS_DEPTH_USED + 2 ^ natBits w.toNat 24 3 ≤ 32768 →
           Answers (.ringCfgWrite ring w) s (fun t =>
             t.ring ring.val = ⟨true, w.getLsbD 30, natBits w.toNat 24 3, natBits w.toNat 0 16, 0, 0, 0, 0⟩ ∧
             (∀ r, r ≠ ring.val → t.ring r = s.ring r) ∧ t.pkt.held = s.pkt.held ∧ t.pkt.exec = s.pkt.exec ∧
             t.fld PKT_STS_DEPTH_USED = s.fld PKT_STS_DEPTH_USED + 2 ^ natBits w.toNat 24 3 ∧
             (∀ k, smapFind t.pkt.slots k = if k / 16 = ring.val then none else smapFind s.pkt.slots k) ∧
             OnlyFields [PKT_STS_DEPTH_USED] { s with pkt := t.pkt } t)) ∧
         (w.getLsbD 31 = true → (s.ring ring.val).en = false → 32768 < s.fld PKT_STS_DEPTH_USED + 2 ^ natBits w.toNat 24 3 →
           Answers (.ringCfgWrite ring w) s (fun t => t = s)) ∧
         (w.getLsbD 31 = false → (s.ring ring.val).en = true →
           Answers (.ringCfgWrite ring w) s (fun t =>
             (t.ring ring.val).en = false ∧ (∀ r, r ≠ ring.val → t.ring r = s.ring r) ∧
             t.pkt.held = s.pkt.held.filter (fun h => decide (h.ring ≠ ring.val)) ∧
             t.fld PKT_STS_DEPTH_USED = s.fld PKT_STS_DEPTH_USED - 2 ^ (s.ring ring.val).depth ∧
             (∀ k, smapFind t.pkt.slots k = if k / 16 = ring.val then none else smapFind s.pkt.slots k) ∧
             OnlyFields [PKT_STS_DEPTH_USED] { s with pkt := t.pkt } t))) ∧
       (natBits w.toNat 24 3 ≤ 4 → (∃ e ∈ s.pkt.exec, e.src = .ring ring) → w.getLsbD 31 = false →
         Answers (.ringCfgWrite ring w) s (fun t =>
           t = { s with pkt := { s.pkt with ringWrites := [(ring.val, w)], exec := t.pkt.exec } } ∧
           t.pkt.exec = s.pkt.exec.map (fun (e : ExecPkt) => if (s.ring ring.val).en = true ∧ e.src = .ring ring then { e with discard := true } else e))))) ∧
  (∀ (s : State),
     (s.sys.mode = .off → Answers .mailboxGo s (fun t => t = s)) ∧
     (s.sys.mode ≠ .off → s.flag PKT_MBX_STS_BUSY = true → Answers .mailboxGo s (fun t => t.flag PKT_MBX_STS_OVERRUN = true ∧ OnlyFields [PKT_MBX_STS_OVERRUN] s t)) ∧
     (s.sys.mode ≠ .off → s.sys.mode ≠ .powerUp → s.flag PKT_MBX_STS_BUSY = false →
       let bs := s.getBytes 0x5100 16
       let asked := natBits (pktField bs 1 1) 0 1 = 1 ∨ s.flag PKT_CTL_TRACE_ALL = true
       ((crc32c (bs.take 60)).toNat ≠ pktField bs 60 4 → s.inGap = false → Answers .mailboxGo s (fun t =>
         t.flag PKT_MBX_STS_BUSY = false ∧ t.flag PKT_MBX_STS_DONE = true ∧ t.pkt = s.pkt ∧
         t.getBytes 0x5180 8 = statusBytes ⟨.mailbox, pktField bs 2 2, stBadCrc, pktField bs 0 1, pktField bs 6 2, [], noByte, none⟩ 0)) ∧
       (∀ c d, (crc32c (bs.take 60)).toNat = pktField bs 60 4 → s.dispatchCheck bs true true = some (c, d) → s.inGap = false → Answers .mailboxGo s (fun t =>
         t.flag PKT_MBX_STS_BUSY = false ∧ t.flag PKT_MBX_STS_DONE = true ∧ t.pkt = s.pkt ∧
         t.getBytes 0x5180 8 = statusBytes ⟨.mailbox, pktField bs 2 2, c, pktField bs 0 1, pktField bs 6 2, [], d, none⟩ 0)) ∧
       ((crc32c (bs.take 60)).toNat = pktField bs 60 4 → s.dispatchCheck bs true true = none → Answers .mailboxGo s (fun t =>
           t.flag PKT_MBX_STS_BUSY = true ∧ t.flag PKT_MBX_STS_DONE = false ∧
           t.pkt = { s.pkt with exec := s.pkt.exec ++ [⟨.mailbox, pktField bs 2 2, s.hbp.stamp, bs, false, false, s.dispatchAux bs true⟩] } ∧
           t.evr = (if asked then (s.emit .trace 0x0059 132 (leBytes 2 (pktField bs 4 2) ++ leBytes 2 (pktField bs 2 2) ++ sliceBytes bs 0 1 ++
             sliceBytes bs 6 2 ++ leBytes 8 s.hbp.stamp)).evr else s.evr) ∧
           OnlyFields [PKT_MBX_STS_BUSY, PKT_MBX_STS_DONE] { s with pkt := t.pkt, evr := t.evr } t))))

/-- R105, R113, R124, R133, Table 4-2: a NOP in execution completes with OK and nothing else happens: it leaves execution, and while no gap lasts its 32 bytes of status (CODE, OPCODE, SEQ, TAG, NEXT_SEQ, RESULT zero, DETAIL with no offending byte, and the CRC over the first 28 bytes) stand in the slot that its SEQ selects in its ring, or, from the mailbox, in PKT_MBX_OUT with BUSY cleared and DONE set; in a gap the status is withheld and no slot changes. Table 4-7, R8, R314, R463: REG_READ refuses a COUNT outside 1 to 4 at byte 8 and an address that is not aligned or lies in no block at its own byte, and else completes OK with the values in order, read with a latch of its own, and changes nothing but its status. REG_WRITE refuses likewise, and an address that its path may not write, before any write; where none of its writes is to the ring-state table or to an interface register of a channel engine they are done in order and it completes OK; a first write that the ring-state table or a channel engine refuses ends it with NOT_PERMITTED at that pair's byte (the model's choice, log entry 117), and 1 in DETAIL[21:0] for the engine's. R149, R447, Table 4-7: IMAGE_QUERY with SELECT 0 answers the newest image's GEN, epoch, number and chain position, or zeros where there is none; with SELECT 1 it answers the numbers of DIRTY and GLEAN_PENDING granules, the granules queued for a flush, and the dirty data time at 24 GB/s rounded up; a SELECT above 1 is refused at byte 8. LOG_READ answers BUSY before the log's base is fixed and NOT_PERMITTED while the recorder is fenced; over a log without chaff, a header read answers the first record at or after SEQ, and a data read 16 bytes of the record whose number is SEQ. -/
def Obligations.RegisterAndQueryOpcodes : Prop :=
  (∀ (s : State) (src : PktSrc) (e : ExecPkt), s.findExec src 0x01 = some e → e.discard = false →
     let p : PostStatus := ⟨src, e.seq, 0, 1, pktField e.bytes 6 2, [], 0xFF000000, none⟩
     (s.inGap = true → Answers (.nop src) s (fun t =>
       t = { s with pkt := { s.pkt with exec := s.pkt.exec.erase e, withheld := s.pkt.withheld ++ [p] } })) ∧
     (s.inGap = false →
       (∀ r, src = .ring r → Answers (.nop src) s (fun t =>
         let n := (s.ring r.val).nextSeq
         let body : List Byte := [0, 1] ++ leBytes 2 e.seq ++ leBytes 2 (pktField e.bytes 6 2) ++ leBytes 2 n ++ List.replicate 16 0 ++ [0, 0, 0, 0xFF]
         t = { s with pkt := { s.pkt with exec := s.pkt.exec.erase e, slots := smapPut s.pkt.slots (r.val * 16 + e.seq % 2 ^ (s.ring r.val).depth) (slotOf (body ++ leBytes 4 (crc32c body).toNat)) } })) ∧
       (src = .mailbox → Answers (.nop src) s (fun t =>
         t.pkt = { s.pkt with exec := s.pkt.exec.erase e } ∧ t.flag PKT_MBX_STS_BUSY = false ∧ t.flag PKT_MBX_STS_DONE = true ∧
         t.word 0x5180 = BitVec.ofNat 32 (2 ^ 8 + e.seq % 65536 * 2 ^ 16) ∧ t.hbp = s.hbp ∧ t.flash = s.flash ∧ t.dram = s.dram)))) ∧
  (∀ (s : State) (src : PktSrc) (e : ExecPkt),
     (s.findExec src 0x02 = some e →
       ((pktField e.bytes 8 1 = 0 ∨ 4 < pktField e.bytes 8 1) → Answers (.regRead src) s (fun t => t = s.complete e stNotPermitted [] (atByte 8))) ∧
       (1 ≤ pktField e.bytes 8 1 → pktField e.bytes 8 1 ≤ 4 →
         (∀ i < pktField e.bytes 8 1, (∀ j < i, addrOk (pktField e.bytes (12 + 4 * j) 4) = true) → addrOk (pktField e.bytes (12 + 4 * i) 4) = false →
           Answers (.regRead src) s (fun t => t = s.complete e stNotPermitted [] (atByte (12 + 4 * i)))) ∧
         ((∀ i < pktField e.bytes 8 1, addrOk (pktField e.bytes (12 + 4 * i) 4) = true) → Answers (.regRead src) s (fun t =>
           t = s.complete e stOk ((s.readMany none false [] (readAddrs e)).1.flatMap (fun w => leBytes 4 w.toNat)) noByte)))) ∧
     (s.findExec src 0x03 = some e →
       ((pktField e.bytes 8 1 = 0 ∨ 4 < pktField e.bytes 8 1) → Answers (.regWrite src) s (fun t => t = s.complete e stNotPermitted [] (atByte 8))) ∧
       (1 ≤ pktField e.bytes 8 1 → pktField e.bytes 8 1 ≤ 4 →
         (∀ i < pktField e.bytes 8 1, (∀ x ∈ (Machine.writePairs e).take i, addrOk x.1 = true ∧ s.mayWrite none x.1 = true) →
           (addrOk (pktField e.bytes (12 + 8 * i) 4) = false ∨ s.mayWrite none (pktField e.bytes (12 + 8 * i) 4) = false) →
           Answers (.regWrite src) s (fun t => t = s.complete e stNotPermitted [] (atByte (12 + 8 * i)))) ∧
         ((∀ x ∈ Machine.writePairs e, addrOk x.1 = true ∧ s.mayWrite none x.1 = true ∧ inRings x.1 = false ∧
             ¬ (0x10000 ≤ x.1 ∧ x.1 < 0x21000 ∧ [8, 12, 16].contains (x.1 % 0x1000) = true)) → Answers (.regWrite src) s (fun t =>
           t = ((Machine.writePairs e).foldl (fun u x => u.writeReg none x.1 x.2) s).completeLive e stOk [] noByte)) ∧
         (∀ x xs, Machine.writePairs e = x :: xs → (∀ y ∈ x :: xs, addrOk y.1 = true ∧ s.mayWrite none y.1 = true) →
           (s.ringRefuses x = true → Answers (.regWrite src) s (fun t => t = s.completeLive e stNotPermitted [] (atByte 12))) ∧
           (s.ringRefuses x = false → s.ifRefuses x = true → Answers (.regWrite src) s (fun t =>
             t = (s.writeReg none x.1 x.2).completeLive e stNotPermitted [] (atByte 12 + 1))))))) ∧
  (∀ (s : State) (src : PktSrc) (e : ExecPkt),
     (s.findExec src 0x0A = some e →
       (1 < pktField e.bytes 8 1 → Answers (.imageQueryNewest src) s (fun t => t = s.complete e stNotPermitted [] (atByte 8))) ∧
       (pktField e.bytes 8 1 = 0 →
         (s.flash.images = [] → Answers (.imageQueryNewest src) s (fun t => t = s.complete e stOk [] noByte)) ∧
         ∀ (is : List Image) (i : Image), s.flash.images = is ++ [i] → Answers (.imageQueryNewest src) s (fun t =>
           t = s.complete e stOk (leBytes 4 i.gen ++ leBytes 4 i.epoch ++ leBytes 6 i.seq ++ leBytes 1 i.pos) noByte)) ∧
       (pktField e.bytes 8 1 = 1 → Answers (.imageQueryDirtyMap src) s (fun t =>
         t = s.complete e stOk (leBytes 4 s.cntDirty ++ leBytes 4 s.cntPending ++ leBytes 4 s.per.flushQ.length ++
           leBytes 4 ((s.cntDirty * 1048576 + 23999) / 24000)) noByte))) ∧
     (s.findExec src 0x0F = some e →
       (s.flag EVR_STS_FENCED = true → pktField e.bytes 14 2 = 0xFFFF → Answers (.logReadHeader src) s (fun t => t = s.complete e stNotPermitted [] noByte)) ∧
       (s.flag EVR_STS_FENCED = false →
         (s.evr.base = none → pktField e.bytes 14 2 = 0xFFFF → Answers (.logReadHeader src) s (fun t => t = s.complete e stBusy [] noByte)) ∧
         (s.evr.base ≠ none → ∀ (l l' : List LogRec) (r : LogRec), s.evr.log = l ++ r :: l' → (∀ x ∈ s.evr.log, x.chaff = false) →
           (pktField e.bytes 14 2 = 0xFFFF → (∀ x ∈ l, x.seq.getD 0 < pktField e.bytes 8 6) → pktField e.bytes 8 6 ≤ r.seq.getD 0 →
             Answers (.logReadHeader src) s (fun t => t.evr = s.evr ∧ t.flash = s.flash ∧
               t = (s.bump EVR_CHAFF 0).complete e stOk (leBytes 6 (r.seq.getD 0) ++ leBytes 2 (recLen r.ev * 16) ++
                 leBytes 6 (((l'.head?).bind (·.seq)).getD 0) ++ leBytes 1 (sevCode r.ev.sev)) noByte)) ∧
           (pktField e.bytes 14 2 % 16 = 0 → pktField e.bytes 14 2 < recLen r.ev * 16 → pktField e.bytes 8 6 ≠ 0 → r.seq = some (pktField e.bytes 8 6) →
             (∀ x ∈ l, x.seq ≠ r.seq) → Answers (.logReadData src) s (fun t => t.evr = s.evr ∧ t.flash = s.flash ∧
               t = (s.bump EVR_CHAFF 0).complete e stOk (sliceBytes (recBytes r) (pktField e.bytes 14 2) 16) noByte))))))

/-- R149, R150, Table 5-5: the oldest dirty mark is applied: a CLEAN or GLEAN_PENDING granule becomes GLEAN_PENDING where the write is captured and none of its capture was lost, and else DIRTY; a DIRTY or FLUSHING one becomes DIRTY. Every other granule keeps its state (no confirmation waits). R151, R162, R461: while the registers' domains are on FORCE_FULL sets ALL_DIRTY and its cause and nothing else, and a write of PER_MAP_SEL samples the state and both map entries of the selected granule together into their registers, and changes nothing else; while they are off neither has an effect. -/
def Obligations.DirtyMarks : Prop :=
  (∀ (s : State) (g st : Nat) (rest : List (Nat × Nat)), s.hbp.dirtyQ = (g, st) :: rest → s.present g = true → s.per.confirms = [] →
     Answers .dirtyMarkApply s (fun t =>
       t.hbp = { s.hbp with dirtyQ := rest } ∧ (∀ x, x ≠ g → t.dstate x = s.dstate x) ∧
       ((s.dstate g = .dirty ∨ s.dstate g = .flushing) → t.dstate g = .dirty) ∧
       ((s.dstate g = .clean ∨ s.dstate g = .gleanPending) → smapFind s.gln.repair g = none →
         t.dstate g = if s.capturing g st = true then .gleanPending else .dirty) ∧
       t.dram = s.dram ∧ t.flash = s.flash ∧ t.regs = s.regs)) ∧
  (∀ (s : State) (v : Word),
     (s.coreDomains = false → Answers .forceFull s (fun t => t = s)) ∧ (s.coreDomains = false → Answers (.perMapSelWrite v) s (fun t => t = s)) ∧
     (s.coreDomains = true →
       Answers .forceFull s (fun t => t.flag PER_STS_ALL_DIRTY = true ∧ t.bit PER_STS_CAUSE 5 = true ∧
         OnlyFields [PER_STS_ALL_DIRTY, PER_STS_CAUSE] s t)) ∧
     (s.coreDomains = true → Answers (.perMapSelWrite v) s (fun t =>
         let g := v.toNat % 2 ^ 19
         t.fld PER_MAP_SEL = g ∧ t.fld PER_MAP_STATE = dirtyCode (s.dstate g) ∧
         t.fld PER_SMAP_LO + t.fld PER_SMAP_HI * 2 ^ 32 = entryBits (s.smapOf g) % 2 ^ 48 ∧
         t.fld PER_CMAP_LO + t.fld PER_CMAP_HI * 2 ^ 32 = entryBits (s.cmapOf (g / 4)) % 2 ^ 48 ∧
         OnlyFields [PER_MAP_SEL, PER_MAP_STATE, PER_SMAP_LO, PER_SMAP_HI, PER_CMAP_LO, PER_CMAP_HI] s t)))

/-- R164, R165, R153, R274: CAPTURE_DEFINE installs a FREE region over granules that are in no aperture and in no other region, CAPTURING from the stamp horizon plus 1, queues the DIRTY and FLUSHING granules of the range for a flush, and, where the ledger takes and commits its REGION record at once, completes with OK and that stamp; a delete of a CAPTURING region frees it and leaves no slot, no capture, no repair bit and no coverage of its range, and its packet waits for the ledger; FLUSH_GRANULES queues the DIRTY and the FLUSHING granules of its range that are not queued, changes no dirty state, and answers how many are DIRTY or FLUSHING and how many are not; a range that is empty, too long or not present is refused. R449, R450: with no TIME_SET in progress, one that sets the time for the first time or forward takes effect at once: wall time runs from the new value, WALL_SET is 1, and it completes with OK and the old wall time; one that sets it back leaves wall time as it is and waits, and its TIME_STEP entry is the next job of the chain, or stands in line behind the jobs that are there; the commit of that entry appends it to the chain, sets wall time and completes the packet with the old wall time and the entry's number. -/
def Obligations.RegionAndTimeOpcodes : Prop :=
  (∀ (s : State) (src : PktSrc) (e : ExecPkt),
     (s.findExec src 0x04 = some e →
       let r := pktField e.bytes 8 2
       let first := pktField e.bytes 12 4
       let count := pktField e.bytes 16 4
       (pktField e.bytes 10 1 = 0 → r < 1024 → (s.region r).st = .free → (s.region r).releasing = false → 0 < count → count ≤ 524288 → pktField e.bytes 11 1 ≤ 7 →
         first + count ≤ s.granuleCount → s.overlapsAperture first count = false → s.overlapsRegion first count = false → LedgerReady s → OnePacket s e →
         Answers (.captureDefineDefine src) s (fun t =>
           t.region r = ⟨.capturing, first, count, pktField e.bytes 11 1, s.horizon + 1, s.epoch, 0, 0, 0, false, 0, false⟩ ∧
           (∀ k, k ≠ r → t.region k = s.region k) ∧ t.dram = s.dram ∧ (∀ g, t.dstate g = s.dstate g) ∧
           t.per.flushQ = s.per.flushQ ++ (((List.range count).map (fun i => first + i)).filter s.present).filter
             (fun g => decide (s.dstate g = .dirty ∨ s.dstate g = .flushing) && !s.per.flushQ.contains g) ∧
           Completed s t e stOk (leBytes 8 (s.horizon + 1)) noByte)) ∧
       (pktField e.bytes 10 1 = 1 → (s.region r).st = .capturing → (s.region r).releasing = false → s.per.confirms = [] →
         Answers (.captureDefineDelete src) s (fun t =>
           (t.region r).st = .free ∧ (∀ k, k ≠ r → t.region k = s.region k) ∧ t.dram = s.dram ∧
           t.gln.slots = s.gln.slots.filter (fun x => !(s.region r).has x.g) ∧
           t.gln.fifo = s.gln.fifo.filter (fun x => !(s.region r).has (maGranule x.ma)) ∧
           (∀ g, (s.region r).has g = true → smapFind t.gln.repair g = none ∧ smapFind t.gln.cover g = none) ∧
           t.pkt = { s.pkt with exec := s.pkt.exec.map (fun x => if x = e then { e with started := true, aux := r } else x) }))) ∧
     (s.findExec src 0x08 = some e →
       let first := pktField e.bytes 8 4
       let count := pktField e.bytes 12 4
       let q := (((List.range count).map (fun i => first + i)).filter s.present).filter (fun g => decide (s.dstate g = .dirty ∨ s.dstate g = .flushing))
       ((count = 0 ∨ 524288 < count ∨ s.rangePresent first count = false) → Answers (.flushGranules src) s (fun t => t = s.complete e stNotPermitted [] noByte)) ∧
       (0 < count → count ≤ 524288 → s.rangePresent first count = true → Answers (.flushGranules src) s (fun t =>
         t = ({ s with per := { s.per with flushQ := s.per.flushQ ++ q.filter (fun g => !s.per.flushQ.contains g) } } : State).complete e stOk
           (leBytes 4 q.length ++ leBytes 4 ((((List.range count).map (fun i => first + i)).filter s.present).length - q.length)) noByte)))) ∧
  (∀ (s : State),
     (∀ (src : PktSrc) (e : ExecPkt), s.findExec src 0x0B = some e → s.waiting 0x0B = [] →
       let w := pktField e.bytes 8 8
       let ev : EvRecord := ⟨.note, false, 0x0046, 145, BitVec.ofNat 64 s.tick, leBytes 8 s.wallNow ++ leBytes 8 w⟩
       ((s.evr.wall = none ∨ s.wallNow ≤ w) → OnePacket s e → Answers (.timeSet src) s (fun t =>
         t.evr.wall = some (w, s.tick) ∧ t.flag EVR_STS_WALL_SET = true ∧
         Completed s t e stOk (leBytes 8 s.wallNow ++ leBytes 6 ((s.setWall w).holdNumber ev)) noByte ∧ t.tick = s.tick ∧ t.dram = s.dram)) ∧
       (s.evr.wall ≠ none → w < s.wallNow → s.pkt.halted = false → s.seqBlocked = false → Answers (.timeSet src) s (fun t =>
         t.evr.wall = s.evr.wall ∧ t.pkt = { s.pkt with exec := s.pkt.exec.map (fun x => if x = e then { e with started := true, aux := 0 } else x) } ∧
         (s.sea.flight = none → s.sea.queue = [] → t.sea.queue = [] ∧ t.sea.flight.map (·.job) = some (.timeStep w e)) ∧
         (s.sea.flight ≠ none → t.sea.flight = s.sea.flight ∧ t.sea.queue = s.sea.queue ++ [.timeStep w e]) ∧
         t.tick = s.tick ∧ t.dram = s.dram))) ∧
     ∀ (n : Nat) (bs : List Byte) (m : SMap Nat) (w : Nat) (e : ExecPkt), s.sea.flight = some ⟨n, bs, m, .timeStep w e⟩ → OnePacket s e →
       Answers .timeStepCommit s (fun t => t.evr.wall = some (w, s.tick) ∧ t.flag EVR_STS_WALL_SET = true ∧
         t.flash.chain.map (·.seq) = s.flash.chain.map (·.seq) ++ [n] ∧
         Completed s t e stOk (leBytes 8 s.wallNow ++ leBytes 6 n) noByte ∧ t.tick = s.tick ∧ t.dram = s.dram))

/-- R9, R78, R79, R80, R84, R98, R461, R502, Table 3-7: an SP_GO, wherever the registers' domain is on, takes DRAM_FULL and SP_REQ from the word, and elsewhere changes nothing; with GO = 0 nothing else happens. With GO = 1 it is refused, and only SP_REFUSED set, outside the TRAIN and LEARN phases, rebound and lull, for an undefined set point, and while the clock coasts, slews or is discontinuous; an accepted one makes SP_REQ the active set point, takes both loops out of lock, starts them on their band records or on a search, and leaves the DRAM side not ready till PLL_H is locked; a run in progress is ABANDONED, its record STALE, and the lines under its pattern stand again. The end of a DRAM-side run that passes makes the record of the active set point VALID and the DRAM ready; a failed check pass makes it STALE and starts the full steps at step 1; a failed full run makes it FAILED. With no such run, its end changes nothing. -/
def Obligations.SetPointTraining : Prop :=
  ∀ (s : State),
    (∀ (v : Word), s.coreDomains = false → Answers (.spGo v) s (fun t => t = s)) ∧
    (∀ (v : Word), s.coreDomains = true →
      let sp := v.toNat / 256 % 8
      let coast := s.flag CLK_STS_COAST || s.flag CLK_STS_SLEWING || s.flag CLK_STS_DISCONT
      let here := (s.sys.mode = .attach ∧ (s.sys.phase = .train ∨ s.sys.phase = .learn)) ∨ s.sys.mode = .rebound ∨ s.sys.mode = .lull
      (v.getLsbD 0 = false → Answers (.spGo v) s (fun t => t.flag TRN_CTL_DRAM_FULL = v.getLsbD 15 ∧ t.fld TRN_CTL_SP_REQ = sp ∧
        OnlyFields [TRN_CTL_DRAM_FULL, TRN_CTL_SP_REQ] s t)) ∧
      (v.getLsbD 0 = true → (¬ here ∨ s.spRate sp = 0 ∨ coast = true) → Answers (.spGo v) s (fun t =>
        t.flag TRN_STS_SP_REFUSED = true ∧ t.fld TRN_STS_ACTIVE_SP = s.fld TRN_STS_ACTIVE_SP ∧
        OnlyFields [TRN_CTL_DRAM_FULL, TRN_CTL_SP_REQ, TRN_STS_SP_REFUSED] s t)) ∧
      (v.getLsbD 0 = true → here → s.spRate sp ≠ 0 → coast = false → Answers (.spGo v) s (fun t =>
        t.fld TRN_STS_ACTIVE_SP = sp ∧ t.fld HBP_LAT_SET_POINT = sp ∧ t.flag CLK_STS_H_LOCK = false ∧ t.flag CLK_STS_D_LOCK = false ∧
        (t.clk.h = if bandValid (s.bandOf 0 sp) = true then .loading else .searching) ∧
        (t.clk.d = if bandValid (s.bandOf 1 sp) = true then .loading else .searching) ∧ t.clk.dSp = sp ∧
        (s.fld TRN_STS_STEP ≠ 0 → t.flag TRN_STS_ABANDONED = true ∧ t.fld TRN_STS_STEP = 0 ∧ t.fld (dramRec (s.trn.retrain.getD (s.fld TRN_STS_ACTIVE_SP))) = 2) ∧
        t.trn.hop = true ∧ t.flag TRN_STS_DRAM_READY = false ∧
        t.sys = s.sys ∧ (s.fld TRN_STS_STEP = 0 → s.trn.retrain = none → t.dram = s.dram) ∧ (s.fld TRN_STS_STEP ≠ 0 → t.dram = s.areaBack.dram) ∧ t.flash = s.flash))) ∧
    (∀ (p : Bool) (f : TrainFailAt) (rs : List (Fin 0x80000 × Word)), (s.fld TRN_STS_STEP = 0 ∨ s.trn.hop = true ∨ s.trn.retrain.isSome = true) →
      Answers (.dramTrainingDone p f rs) s (fun t => t = s)) ∧
    ∀ (f : TrainFailAt) (rs : List (Fin 0x80000 × Word)), s.fld TRN_STS_STEP ≠ 0 → s.trn.hop = false → s.trn.retrain = none →
      let sp := s.fld TRN_STS_ACTIVE_SP
      Answers (.dramTrainingDone true f rs) s (fun t => t.fld TRN_STS_STEP = 0 ∧ t.flag TRN_STS_GATHERING = false ∧ t.flag TRN_STS_DRAM_READY = true ∧
        t.flag TRN_STS_DRAM_FAIL = false ∧ t.fld (dramRec sp) = 1 ∧ t.fld (hostRec sp) = s.fld (hostRec sp) ∧ t.dram = s.areaBack.dram) ∧
      (s.trn.check = true → Answers (.dramTrainingDone false f rs) s (fun t => t.fld (dramRec sp) = 2 ∧ t.fld TRN_STS_STEP = 1 ∧
        t.trn = { s.areaBack.trn with rank := 0, check := false } ∧
        OnlyFields [dramRec sp, TRN_STS_STEP, TRN_STS_GATHERING] { s.areaBack with trn := t.trn } t)) ∧
      (s.trn.check = false → Answers (.dramTrainingDone false f rs) s (fun t => t.fld (dramRec sp) = 3 ∧ t.fld TRN_STS_STEP = 0 ∧
        t.flag TRN_STS_DRAM_FAIL = true ∧ t.flag TRN_STS_DRAM_READY = s.flag TRN_STS_DRAM_READY ∧ t.dram = s.areaBack.dram))

/-- R88, R89, R94: LEARN_START in the TRAIN or LEARN phase with the DRAM ready, no pass running, the learner not fenced and a base line on a present granule of the geometry outside both apertures begins a pass: COLLECTING, the phase LEARN, the old code, its patterns and its digest discarded; in any other mode it completes NOT_PERMITTED, and while a pass runs BUSY, with nothing else changed. A timeout ends a running pass with reason 4 and an abort with reason 5, UNLEARNED; with no pass running neither does anything. R90 to R92: the learner takes the oldest burst of its FIFO but takes none in SOLVING. In COLLECTING the first zero burst at the base line is kept; the same burst with other check bytes ends the pass with reason 1; a burst at a line that is neither the base line nor one of a class counts as a stray (saturating). In VERIFYING a burst whose check bytes differ from the prediction ends the pass with reason 3. SOLVING ends in VERIFYING with the code that the patterns give, or, where a pair class disagrees with its fold columns, with reason 2. -/
def Obligations.CodeLearning : Prop :=
  (∀ (s : State),
     (∀ (src : PktSrc) (e : ExecPkt), s.findExec src 0x14 = some e →
       (s.sys.mode ≠ .attach → Answers (.learnStart src) s (fun t => t = s.complete e stNotPermitted [] noByte)) ∧
       (s.sys.mode = .attach → (s.sys.phase = .train ∨ s.sys.phase = .learn) → s.flag TRN_STS_DRAM_READY = true →
         (1 ≤ s.fld CLN_STS_STATE ∧ s.fld CLN_STS_STATE ≤ 3 → Answers (.learnStart src) s (fun t => t = s.complete e stBusy [] noByte)) ∧
         (s.fld CLN_STS_STATE = 0 ∨ 4 ≤ s.fld CLN_STS_STATE → s.baseOk = true → s.inPap s.clnBase = false → s.inSap s.clnBase = false →
           s.unitOut .learner = false → Answers (.learnStart src) s (fun t =>
             t.fld CLN_STS_STATE = 1 ∧ t.sys.phase = .learn ∧ t.sys.mode = .attach ∧ t.cln.base = s.clnBase ∧ t.cln.zero = none ∧
             t.cln.units = [] ∧ t.cln.classes = [] ∧ t.cln.fifo = [] ∧ t.fld CLN_DIGEST = 0 ∧ t.dram = s.dram ∧ t.flash = s.flash)))) ∧
     (1 ≤ s.fld CLN_STS_STATE ∧ s.fld CLN_STS_STATE ≤ 3 →
       Answers .learnTimeout s (fun t => t.fld CLN_STS_STATE = 0 ∧ t.fld CLN_STS_REASON = 4 ∧ t.cln = { s.cln with fifo := [] } ∧
         OnlyFields [CLN_STS_STATE, CLN_STS_REASON] { s with cln := t.cln, evr := t.evr } t) ∧
       Answers .learnAbort s (fun t => t.fld CLN_STS_STATE = 0 ∧ t.fld CLN_STS_REASON = 5 ∧ t.cln = { s.cln with fifo := [] } ∧
         OnlyFields [CLN_STS_STATE, CLN_STS_REASON] { s with cln := t.cln, evr := t.evr } t)) ∧
     (s.fld CLN_STS_STATE = 0 ∨ 4 ≤ s.fld CLN_STS_STATE → Answers .learnTimeout s (fun t => t = s) ∧ Answers .learnAbort s (fun t => t = s))) ∧
  (∀ (s : State),
     (∀ (e : LearnEntry) (rest : List LearnEntry), s.cln.fifo = e :: rest →
       (s.fld CLN_STS_STATE = 2 → Answers .learnerCapture s (fun t => t = s)) ∧
       (s.fld CLN_STS_STATE = 1 → e.solving = false → e.data = 0 →
         (maLine e.ma = maLine s.cln.base → s.cln.zero = none → s.cln.units.length < 512 → Answers .learnerCapture s (fun t =>
           t.cln = { s.cln with fifo := rest, zero := some e.chk } ∧ t.fld CLN_PROGRESS_ZERO = 1 ∧ t.fld CLN_STS_STATE = 1 ∧
           OnlyFields [CLN_PROGRESS_ZERO] { s with cln := t.cln } t)) ∧
         (∀ c, maLine e.ma = maLine s.cln.base → s.cln.zero = some c → c ≠ e.chk → Answers .learnerCapture s (fun t =>
           t.fld CLN_STS_STATE = 0 ∧ t.fld CLN_STS_REASON = 1 ∧ t.dram = s.dram)) ∧
         (maLine e.ma ≠ maLine s.cln.base → (∀ k < 40, maLine e.ma ≠ maLine (s.cln.base ^^^ classMask k)) → s.cln.units.length < 512 →
           Answers .learnerCapture s (fun t => t.cln = { s.cln with fifo := rest } ∧
             t.fld CLN_PROGRESS_STRAY = min (s.fld CLN_PROGRESS_STRAY + 1) 255 ∧ OnlyFields [CLN_PROGRESS_STRAY] { s with cln := t.cln } t))) ∧
       (s.fld CLN_STS_STATE = 3 → e.solving = false → predict s.cln.work e.ma e.data ≠ e.chk → Answers .learnerCapture s (fun t =>
         t.fld CLN_STS_STATE = 0 ∧ t.fld CLN_STS_REASON = 3 ∧ t.dram = s.dram))) ∧
     (s.fld CLN_STS_STATE = 2 →
       (s.pairsAgree s.solve = true → Answers .learnSolveDone s (fun t => t.fld CLN_STS_STATE = 3 ∧ t.cln = { s.cln with work := s.solve, verA := 0, verB := 0 } ∧
         OnlyFields [CLN_FOLD_NZ, CLN_FOLD_HI_NZ32, CLN_STS_FOLDED, CLN_STS_AFFINE, CLN_STS_STATE] { s with cln := t.cln } t)) ∧
       (s.pairsAgree s.solve = false → Answers .learnSolveDone s (fun t => t.fld CLN_STS_STATE = 0 ∧ t.fld CLN_STS_REASON = 2 ∧ t.dram = s.dram))))

/-- R86 to R91: for every affine host code (one check vector for zero data at line zero, one column for each of the 512 data bits and one for each of the 33 address bits above the line), a pass that has collected from any base line the zero pattern, the 512 unit patterns and the fold patterns of the address bits on which the code may depend solves it: the solved code predicts that code's check bytes for every line address and every data burst. -/
def Obligations.LearnerRecoversCode : Prop :=
  ∀ (s : State) (c0 : CheckBytes) (g f : Nat → CheckBytes) (p : Nat → Bool), (∀ k, p k = false → f k = 0) →
    let check := fun (ma : Nat) (d : LineData) =>
      (List.range 33).foldl (fun acc k => if ma.testBit (k + 6) then acc ^^^ f k else acc)
        ((List.range 512).foldl (fun acc i => if d.getLsbD i then acc ^^^ g i else acc) c0)
    s.cln.zero = some (check s.cln.base 0) →
    s.cln.units = (List.range 512).map (fun i => (i, check s.cln.base (1#512 <<< i))) →
    s.cln.classes.filter (fun e => decide (e.1 < 33)) = ((List.range 33).filter p).map (fun k => (k, check (s.cln.base ^^^ 2 ^ (k + 6)) 0)) →
    ∀ (ma : Nat) (d : LineData), predict s.solve ma d = check ma d

/-- R351, R360, R365: the end of the host clock's edges, announced or not. In power-up, save and shut-down it is only recorded; in service, lull and keeper with every rank in self-refresh it is an expected stop, and PLL_H stops; otherwise, there and in attach and rebound, PLL_H coasts, H_LOCK falls, the loss is counted (saturating), and a DRAM-side run ends with its record STALE and its lines back in place. In off, and with no clock present, nothing more than the clock's absence is held. A restart while PLL_H is not coasting relocks PLL_H from the active set point's band record, or by a search where it has none; in off it does not lock. R361 to R365, Table 12-4: an edge that returns while PLL_H, locked before the loss, coasts gives LOSS, STEP and SIGN; a phase step of at most one eighth of tCK is slewed out, with PLL_H locked and the return counted; a larger one is a clock discontinuity: counted, reported, the DRAM with the BDC and every rank in self-refresh, and PLL_H relocking. In power-up, save and shut-down a return while it coasts is taken with no more than the clock's presence; a return when it does not coast relocks PLL_H without a measurement. The end of the slew clears SLEWING. DISC_END ends a discontinuity on a locked PLL_H and gives the DRAM back: out of self-refresh with CA_LAT in force, but before a rebound's HANDOVER still in self-refresh, and in lull with service resumed; it does nothing else without the lock or a discontinuity. No edge within the time puts every rank in self-refresh and ends the coasting; with feed A good it makes LOSS and a discontinuity, is reported, and the mode stays. -/
def Obligations.HostClock : Prop :=
  (∀ (s : State),
     ((s.sys.mode = .off ∨ s.clk.present = false) →
       Answers .hostClockStop s (fun t => t = { s with clk := { s.clk with present := false } }) ∧
       Answers .hostClockLoss s (fun t => t = { s with clk := { s.clk with present := false } })) ∧
     (s.sys.mode ≠ .off → s.clk.present = true →
       let gone : State := { s with clk := { s.clk with present := false, timedOut := false } }
       let expected := s.allSelfRef = true ∧ (s.sys.mode = .service ∨ s.sys.mode = .lull ∨ s.sys.mode = .keeper)
       let stopped := (fun (t : State) =>
         t.clk = { s.clk with present := false, timedOut := false, h := .idle } ∧ t.flag CLK_STS_H_STOPPED = true ∧ t.flag CLK_STS_H_LOCK = false ∧
         OnlyFields [CLK_STS_H_STOPPED, CLK_STS_H_LOCK, CLK_STS_SEARCHING] { s with clk := t.clk } t)
       let coasts := (fun (t : State) =>
         t.clk = gone.clk ∧ t.flag CLK_STS_COAST = true ∧ t.flag CLK_STS_SLEWING = false ∧
         t.flag CLK_STS_H_LOCK = false ∧ t.fld CLK_CNT_LOSSES = min (s.fld CLK_CNT_LOSSES + 1) (2 ^ CLK_CNT_LOSSES.w - 1) ∧ t.sys = s.sys ∧
         (s.fld TRN_STS_STEP = 0 → t.dram = s.dram) ∧
         (s.fld TRN_STS_STEP ≠ 0 → t.dram = s.areaBack.dram ∧ t.fld TRN_STS_STEP = 0 ∧ t.fld (dramRec (s.trn.retrain.getD (s.fld TRN_STS_ACTIVE_SP))) = 2))
       ((s.sys.mode = .powerUp ∨ s.sys.mode = .save ∨ s.sys.mode = .shutDown) →
         Answers .hostClockStop s (fun t => t = gone.note 0x006F 1 [BitVec.ofNat 8 (modeCode s.sys.mode)]) ∧
         Answers .hostClockLoss s (fun t => t = gone.note 0x006F 1 [BitVec.ofNat 8 (modeCode s.sys.mode)])) ∧
       (s.sys.mode ≠ .powerUp → s.sys.mode ≠ .save → s.sys.mode ≠ .shutDown →
         (expected → Answers .hostClockStop s stopped ∧ Answers .hostClockLoss s stopped) ∧
         (¬ expected → Answers .hostClockStop s coasts ∧ Answers .hostClockLoss s coasts))) ∧
     (s.clk.present = false → s.flag CLK_STS_COAST = false →
       (s.sys.mode = .off → Answers .hostClockRestart s (fun t => t = { s with clk := { s.clk with present := true } })) ∧
       (s.sys.mode ≠ .off → Answers .hostClockRestart s (fun t =>
         t.clk = { s.clk with present := true, h := if bandValid (s.bandOf 0 (s.fld TRN_STS_ACTIVE_SP)) then .loading else .searching } ∧
         t.flag CLK_STS_H_LOCK = false ∧ OnlyFields [CLK_STS_H_LOCK, CLK_STS_SEARCHING] { s with clk := t.clk } t)))) ∧
  (∀ (s : State),
     (∀ (step : Fin 32768) (late : Bool) (d : BitVec 16), s.sys.mode ≠ .off → s.clk.present = false →
       let recordOnly := s.sys.mode = .powerUp ∨ s.sys.mode = .save ∨ s.sys.mode = .shutDown
       let relock := (fun (t : State) => t.clk = { s.clk with present := true, h := if bandValid (s.bandOf 0 (s.fld TRN_STS_ACTIVE_SP)) then .loading else .searching } ∧
         t.flag CLK_STS_H_LOCK = false ∧ t.flag CLK_STS_COAST = false ∧ t.sys = s.sys ∧ t.dram = s.dram)
       (s.flag CLK_STS_COAST = true → recordOnly → Answers (.hostClockReturn step late d) s (fun t => t = { s with clk := { s.clk with present := true } })) ∧
       (s.flag CLK_STS_COAST = false → Answers (.hostClockReturn step late d) s relock) ∧
       (s.flag CLK_STS_COAST = true → ¬ recordOnly → s.clk.h = .locked → Answers (.hostClockReturn step late d) s (fun t =>
         t.clk.present = true ∧ t.fld CLK_COAST_LOSS = d.toNat ∧ t.fld CLK_COAST_STEP = step.val ∧ t.flag CLK_COAST_SIGN = late ∧ t.flag CLK_STS_COAST = false ∧
         (step.val * 8 * s.spRate (s.fld TRN_STS_ACTIVE_SP) ≤ 20000000 →
           t.clk.h = .locked ∧ t.flag CLK_STS_H_LOCK = true ∧ t.flag CLK_STS_SLEWING = true ∧ t.hbp = s.hbp ∧ t.bdc = s.bdc ∧
           (s.fld CLK_CNT_RETURNS + 1 < 2 ^ CLK_CNT_RETURNS.w → t.fld CLK_CNT_RETURNS = s.fld CLK_CNT_RETURNS + 1)) ∧
         (20000000 < step.val * 8 * s.spRate (s.fld TRN_STS_ACTIVE_SP) →
           t.flag CLK_STS_DISCONT = true ∧ t.flag CLK_STS_H_LOCK = false ∧ t.hbp.selfRef = 15 ∧ t.fld DCT_STS_OWNER = 5 ∧
           (t.clk.h = if bandValid (s.bandOf 0 (s.fld TRN_STS_ACTIVE_SP)) then .loading else .searching) ∧
           t.flt.inflight.length = s.flt.inflight.length + 1) ∧
         t.sys = s.sys ∧ t.dram = s.dram))) ∧
     Answers .slewDone s (fun t => t.flag CLK_STS_SLEWING = false ∧ OnlyFields [CLK_STS_SLEWING] s t) ∧
     ((s.flag CLK_STS_H_LOCK = false ∨ s.flag CLK_STS_DISCONT = false) → Answers .discEnd s (fun t => t = s)) ∧
     (s.flag CLK_STS_H_LOCK = true → s.flag CLK_STS_DISCONT = true →
       (s.preHandover = true → Answers .discEnd s (fun t => t.flag CLK_STS_DISCONT = false ∧ t.hbp = s.hbp ∧ t.fld DCT_STS_OWNER = 0 ∧ t.sys = s.sys ∧ t.dram = s.dram)) ∧
       (s.preHandover = false → Answers .discEnd s (fun t =>
         t.flag CLK_STS_DISCONT = false ∧ t.hbp.selfRef = 0 ∧ t.hbp.caLat = s.fld HBP_CTL_CA_LAT + 1 ∧ t.hbp.cmd2n = s.flag HBP_CTL_CMD_2N ∧
         t.fld DCT_STS_OWNER = 0 ∧ t.dram = s.dram ∧
         (s.sys.mode = .lull → t.sys.mode = .service) ∧ (s.sys.mode ≠ .lull → t.sys = s.sys)))) ∧
     (s.bdc.handbackWait = none → s.flag CLK_STS_COAST = true → s.clk.timedOut = false → s.clk.present = false →
       s.sys.mode ≠ .powerUp → s.sys.mode ≠ .save → s.sys.mode ≠ .shutDown → s.flag PWR_FEED_STS_A_GOOD = true →
       Answers .hostClockLossTimeout s (fun t =>
         t.flag CLK_STS_LOSS = true ∧ t.flag CLK_STS_DISCONT = true ∧ t.flag CLK_STS_COAST = false ∧ t.flag CLK_STS_H_LOCK = false ∧ t.hbp.selfRef = 15 ∧
         t.clk.timedOut = true ∧ t.fld DCT_STS_OWNER = 5 ∧ t.flt.inflight.length = s.flt.inflight.length + 1 ∧ t.sys = s.sys ∧ t.dram = s.dram)))

/-- R222, R352, R354 to R356, R461: a loop that is loading or searching locks and sets its LOCK bit, where no HANDOVER, handback or restore waits for it; a full search of the DRAM loop writes the VALID band record that it found and counts; a load that times out goes on to a search, and a search without lock fails and is reported at CRITICAL severity, naming the loop. A loop that is neither loading nor searching is not touched. A write of a user set point, wherever the registers' domain is on, is refused for the active set point and for a rate outside 3200 to 8000 MT/s in steps of 100, and else takes the rate, or 0, and sets both training records of the set point to NONE and its band records to none; elsewhere it changes nothing. -/
def Obligations.ClockLoops : Prop :=
  ∀ (s : State) (band : BitVec 6) (fine : BitVec 10) (temp : Byte),
    ((s.clk.h = .loading ∨ s.clk.h = .searching) → s.clk.present = true → s.bdc.handbackWait = none → s.flag SAV_STS_REBOUND_WAIT = false → s.sys.phase ≠ .restore →
      Answers (.pllLock .h band fine temp) s (fun t => t.clk.h = .locked ∧ t.flag CLK_STS_H_LOCK = true ∧ t.flag CLK_STS_H_STOPPED = false ∧
        t.trn.hop = false ∧ t.sys = s.sys ∧ t.dram = s.dram)) ∧
    (s.clk.d = .searching → s.flag SAV_STS_REBOUND_WAIT = false → s.bdc.handbackWait = none → s.sys.phase ≠ .restore → Answers (.pllLock .d band fine temp) s (fun t =>
      t.clk.d = .locked ∧ t.flag CLK_STS_D_LOCK = true ∧ bandValid (t.bandOf 1 s.clk.dSp) = true ∧ (t.bandOf 1 s.clk.dSp).toNat / 2 ^ 24 % 64 = band.toNat ∧
      (t.bandOf 1 s.clk.dSp).toNat / 2 ^ 14 % 1024 = fine.toNat ∧ t.fld CLK_CNT_SEARCHES = min (s.fld CLK_CNT_SEARCHES + 1) (2 ^ CLK_CNT_SEARCHES.w - 1) ∧
      t.sys = s.sys ∧ t.dram = s.dram)) ∧
    ((s.clk.f = .loading ∨ s.clk.f = .searching) → s.flag SAV_STS_REBOUND_WAIT = false → s.bdc.handbackWait = none → s.sys.phase ≠ .restore → Answers (.pllLock .f band fine temp) s (fun t =>
      t.clk = { s.clk with f := .locked } ∧ t.flag CLK_STS_F_LOCK = true ∧ OnlyFields [CLK_STS_F_LOCK, CLK_STS_SEARCHING] { s with clk := t.clk } t)) ∧
    (s.clk.h = .loading → Answers (.pllLockTimeout .h) s (fun t => t.clk = { s.clk with h := .searching } ∧ t.flag CLK_STS_SEARCHING = true ∧
      OnlyFields [CLK_STS_SEARCHING] { s with clk := t.clk } t)) ∧
    (s.clk.d = .loading → Answers (.pllLockTimeout .d) s (fun t => t.clk = { s.clk with d := .searching } ∧ t.flag CLK_STS_SEARCHING = true)) ∧
    (s.clk.f = .loading → Answers (.pllLockTimeout .f) s (fun t => t.clk = { s.clk with f := .searching } ∧ t.flag CLK_STS_SEARCHING = true)) ∧
    (s.clk.h = .searching → Answers (.pllNoLock .h) s (fun t => t.clk = { s.clk with h := .failed } ∧
      t.flt = (s.report .pllNoLock 1 (s.fld TRN_STS_ACTIVE_SP) 0).flt ∧ t.sys = s.sys ∧ t.dram = s.dram)) ∧
    (s.clk.d = .searching → Answers (.pllNoLock .d) s (fun t => t.clk = { s.clk with d := .failed } ∧ t.flt = (s.report .pllNoLock 45 (16 + s.clk.dSp) 0).flt)) ∧
    (s.clk.f = .searching → Answers (.pllNoLock .f) s (fun t => t.clk = { s.clk with f := .failed } ∧ t.flt = (s.report .pllNoLock 44 32 0).flt)) ∧
    (s.clk.h = .locked → Answers (.pllLockTimeout .h) s (fun t => t = s) ∧ Answers (.pllNoLock .h) s (fun t => t = s)) ∧
    (∀ (u : Fin 3) (v : Word), s.coreDomains = false → Answers (.clkSpUserWrite u v) s (fun t => t = s)) ∧
    ∀ (u : Fin 3) (v : Word), s.coreDomains = true →
      let r := v.toNat % 8192
      let ok := r = 0 ∨ (3200 ≤ r ∧ r ≤ 8000 ∧ r % 100 = 0)
      ((s.fld TRN_STS_ACTIVE_SP = u.val + 5 ∨ ¬ ok) → Answers (.clkSpUserWrite u v) s (fun t => t = s)) ∧
      (s.fld TRN_STS_ACTIVE_SP ≠ u.val + 5 → ok → Answers (.clkSpUserWrite u v) s (fun t =>
        t.fld (CLK_SP_USER u.val) = r ∧ t.fld (hostRec (u.val + 5)) = 0 ∧ t.fld (dramRec (u.val + 5)) = 0 ∧
        t.bandOf 0 (u.val + 5) = 0 ∧ t.bandOf 1 (u.val + 5) = 0 ∧
        OnlyFields [CLK_SP_USER u.val, hostRec (u.val + 5), dramRec (u.val + 5)] { s with clk := t.clk, trn := t.trn } t))

/-- R165, R181, R182, R183, R186, R274, Table 4-7: with the seal unit serving, SEAL_OPEN of a CAPTURING region makes it OPEN at the packet's stamp and the present epoch; the granules of its range that were written above that stamp before the dispatch are covered and no other granule of it is, MISMATCH counts those early captures whose check bytes the code does not predict, and VERIFIED holds where host check bits have been checked from that stamp on; with the ledger free to commit it answers that stamp. It is refused UNLEARNED where the packet asks for verification and none runs, BUSY while the region is releasing, SEALED for a SEALED region and NOT_PERMITTED for a region of any other state. SEAL_CLOSE of an OPEN region makes it CLOSING and puts its close in the line, while the packet waits; GLEAN_RELEASE of a SEALED region whose latest seal it names marks it as releasing and puts its entry in the line of the chain, while the packet waits. Each is refused NOT_PERMITTED, with nothing else changed, where the unit is closed. No other region changes. -/
def Obligations.SealOpcodes : Prop :=
  ∀ (s : State) (src : PktSrc) (e : ExecPkt),
    (s.findExec src 0x05 = some e →
      let r := pktField e.bytes 8 2
      let v := s.region r
      (s.sealClosed = true → Answers (.sealOpen src) s (fun t => t = s.complete e stNotPermitted [] noByte)) ∧
      let on := s.learned && s.flag CLN_CTL_VERIFY_GLEAN
      let early := s.earlyWrites v e.stamp
      (s.sealClosed = false → 1024 ≤ r → Answers (.sealOpen src) s (fun t => t = s.complete e stNotPermitted [] noByte)) ∧
      (s.sealClosed = false → r < 1024 → v.releasing = true → Answers (.sealOpen src) s (fun t => t = s.complete e stBusy [] noByte)) ∧
      (s.sealClosed = false → r < 1024 → v.releasing = false → v.st ≠ .capturing →
        Answers (.sealOpen src) s (fun t => t = s.complete e (if v.st = .sealed then stSealed else stNotPermitted) [] noByte)) ∧
      (s.sealClosed = false → r < 1024 → v.st = .capturing → v.releasing = false → natBits (pktField e.bytes 10 1) 0 1 = 1 → on = false →
        Answers (.sealOpen src) s (fun t => t = s.complete e stUnlearned [] noByte)) ∧
      (s.sealClosed = false → r < 1024 → v.st = .capturing → v.releasing = false → (natBits (pktField e.bytes 10 1) 0 1 = 0 ∨ on = true) →
        LedgerReady s → OnePacket s e →
        Answers (.sealOpen src) s (fun t =>
          t.region r = { v with st := .opened, openStamp := e.stamp, openEpoch := s.epoch, verified := on && decide (s.gln.verFrom ≤ e.stamp),
                                mismatch := (early.1.filter (fun x => on && decide (s.predict x.ma x.data ≠ x.chk))).length } ∧
          (∀ k, k ≠ r → t.region k = s.region k) ∧
          (∀ g, v.has g = true → t.covered g = early.2.contains g) ∧ (∀ g, v.has g = false → early.2.contains g = false → t.covered g = s.covered g) ∧
          Completed s t e stOk (leBytes 8 e.stamp) noByte ∧ t.dram = s.dram))) ∧
    (s.findExec src 0x06 = some e →
      let r := pktField e.bytes 8 2
      let v := s.region r
      (s.sealClosed = true → Answers (.sealClose src) s (fun t => t = s.complete e stNotPermitted [] noByte)) ∧
      (s.sealClosed = false → v.st = .opened → v.releasing = false → Answers (.sealClose src) s (fun t =>
        t.region r = { v with st := .closing } ∧ (∀ k, k ≠ r → t.region k = s.region k) ∧
        t.sea = { s.sea with closes := s.sea.closes ++ [(r, closeStamp e, e, false)] } ∧
        t.pkt.exec = s.pkt.exec.map (fun x => if x = e then { e with started := true, aux := r } else x) ∧ t.dram = s.dram))) ∧
    (s.findExec src 0x07 = some e →
      let r := pktField e.bytes 8 2
      let v := s.region r
      (s.sealClosed = true → Answers (.gleanRelease src) s (fun t => t = s.complete e stNotPermitted [] noByte)) ∧
      (s.sealClosed = false → v.releasing = false → (v.st ≠ .sealed ∨ v.sealSeq ≠ pktField e.bytes 10 6) → Answers (.gleanRelease src) s (fun t => t = s.complete e stNotPermitted [] noByte)) ∧
      (s.sealClosed = false → v.releasing = false → v.st = .sealed → v.sealSeq = pktField e.bytes 10 6 → Answers (.gleanRelease src) s (fun t =>
        t.region r = { v with releasing := true } ∧ (∀ k, k ≠ r → t.region k = s.region k) ∧
        t.pkt = { s.pkt with exec := s.pkt.exec.map (fun x => if x = e then { e with started := true, aux := r } else x) } ∧
        (s.sea.flight = none → s.sea.queue = [] → s.seqBlocked = false → t.sea.queue = [] ∧ t.sea.flight.map (·.job) = some (.release r v.sealSeq e)) ∧
        (s.sea.flight ≠ none → t.sea.flight = s.sea.flight ∧ t.sea.queue = s.sea.queue ++ [.release r v.sealSeq e]) ∧
        t.flash = s.flash ∧ t.dram = s.dram)))

/-- R183, R184, R189, R279, Table 6-4: a close waits at its barrier while the glean FIFO holds a capture of its range below the close stamp; with no slot of the range open and no covered granule with a repair bit it passes; with every sheaf below it programmed and none missing, and the chain free, its chain entry takes the next number, carries the digest of the chain head, and is issued; the confirmation of the entry appends it to the chain at the next positions of the chain store, makes the region SEALED under that number and completes the packet, and the confirmation of a release appends its entry, marks the released one, makes the region CAPTURING again and completes the packet. R191, R461: wherever the registers' domain is on, a write of SEA_ENT_SEL_HI starts the fetch of the entry that the two select registers name, with READY and ABSENT cleared, and elsewhere it changes nothing; its end sets READY with the bytes of the entry in the window, or ABSENT where the chain store holds no such entry, and the chain store is not changed. -/
def Obligations.SealChain : Prop :=
  (∀ (s : State) (region : Fin 1024),
     (∀ (c : Nat) (e : ExecPkt), s.sea.closes = [(region.val, c, e, false)] →
       ((∃ x ∈ s.gln.fifo, x.stamp < c ∧ (s.region region.val).has (maGranule x.ma) = true) → Answers (.sealBarrierPass region) s (fun t => t = s)) ∧
       ((∀ x ∈ s.gln.fifo, (s.region region.val).has (maGranule x.ma) = true → c ≤ x.stamp) → (∀ x ∈ s.gln.slots, (s.region region.val).has x.g = false) →
         s.coveredBroken (s.region region.val) = false →
         Answers (.sealBarrierPass region) s (fun t => t = { s with sea := { s.sea with closes := [(region.val, c, e, true)] } }))) ∧
     (∀ (c : Nat) (e : ExecPkt), s.sea.closes = [(region.val, c, e, true)] → s.sea.flight = none → s.sea.queue = [] → s.seqBlocked = false →
       s.evr.nextSeq % 2 ^ 24 ≠ 0 → (∀ x ∈ s.gln.slots, (s.region region.val).has x.g = false) → s.coveredBroken (s.region region.val) = false →
       (∀ g ∈ s.coveredOf (s.region region.val), (s.sheafBelow g c).isSome = true) →
       Answers (.sealContentReady region) s (fun t =>
         ∃ bs m, t.sea = { s.sea with flight := some ⟨s.evr.nextSeq, bs, m, .close region.val c e⟩ } ∧ t.evr = { s.evr with nextSeq := s.evr.nextSeq + 1 } ∧
           bs.take 4 = [0x59, 0x47, 0x53, 0x4C] ∧ leField bs 8 6 = s.evr.nextSeq % 2 ^ 48 ∧
           (∀ h, s.flash.chain.getLast? = some h → (bs.drop 112).take 32 = sliceBytes (sha256 (h.bytes.take 144)) 0 32) ∧
           (s.flash.chain.getLast? = none → (bs.drop 112).take 32 = List.replicate 32 0) ∧
           (∀ x ∈ m, ∃ y, s.sheafBelow x.1 c = some y ∧ y.1 = x.2) ∧ t = { s with sea := t.sea, evr := t.evr })) ∧
     (∀ (n : Nat) (bs : List Byte) (m : SMap Nat) (r c : Nat) (e : ExecPkt), s.sea.flight = some ⟨n, bs, m, .close r c e⟩ → r < 1024 → OnePacket s e →
       Answers .sealCommitDone s (fun t =>
         t.flash.chain = s.flash.chain ++ [⟨n, bs, m, false, (s.chainTake (ChainEnt.ears m)).1⟩] ∧ (t.region r).st = .sealed ∧ (t.region r).sealSeq = n ∧
         (∀ k, k ≠ r → t.region k = s.region k) ∧ t.sea.closes = s.sea.closes.filter (fun x => decide (x.1 ≠ r)) ∧
         t.fld SEA_CNT = (s.fld SEA_CNT + 1) % 2 ^ 32 ∧ Completed s t e stOk (leBytes 6 n ++ leBytes 2 0 ++ sliceBytes bs 80 8) noByte ∧ t.dram = s.dram)) ∧
     ∀ (n : Nat) (bs : List Byte) (m : SMap Nat) (r q : Nat) (e : ExecPkt), s.sea.flight = some ⟨n, bs, m, .release r q e⟩ → OnePacket s e →
       Answers .releaseCommitDone s (fun t =>
         t.flash.chain = (s.flash.chain ++ [(⟨n, bs, [], false, (s.chainTake (ChainEnt.ears [])).1⟩ : ChainEnt)]).map (fun (c : ChainEnt) => if c.seq = q then { c with released := true } else c) ∧
         (t.region r).st = .capturing ∧ (t.region r).releasing = false ∧ (∀ k, k ≠ r → t.region k = s.region k) ∧ Completed s t e stOk [] noByte ∧ t.dram = s.dram)) ∧
  (∀ (s : State),
     (∀ (v : Word), s.coreDomains = false → Answers (.seaEntFetch v) s (fun t => t = s)) ∧
     (∀ (v : Word), s.coreDomains = true → Answers (.seaEntFetch v) s (fun t =>
       t.sea = { s.sea with fetch := some (v.toNat % 2 ^ 16 * 2 ^ 32 + s.fld SEA_ENT_SEL_LO) } ∧ t.fld SEA_ENT_SEL_HI = v.toNat % 2 ^ 16 ∧
       t.flag SEA_ENT_STS_READY = false ∧ t.flag SEA_ENT_STS_ABSENT = false ∧
       OnlyFields [SEA_ENT_SEL_HI, SEA_ENT_STS_READY, SEA_ENT_STS_ABSENT] { s with sea := t.sea } t)) ∧
     ∀ (q : Nat), s.sea.fetch = some q →
       ((∀ c ∈ s.flash.chain, c.seq ≠ q) → Answers .seaEntFetchDone s (fun t => t.sea = { s.sea with fetch := none } ∧ t.flag SEA_ENT_STS_ABSENT = true ∧
         OnlyFields [SEA_ENT_STS_ABSENT] { s with sea := t.sea } t)) ∧
       (∀ (l l' : List ChainEnt) (c : ChainEnt), s.flash.chain = l ++ c :: l' → c.seq = q → (∀ x ∈ l, x.seq ≠ q) → Answers .seaEntFetchDone s (fun t =>
         t.sea = { s.sea with fetch := none } ∧ t.flag SEA_ENT_STS_READY = true ∧
         (∀ k < 64, t.word (0x8100 + 4 * k) = BitVec.ofNat 32 (leField c.bytes (4 * k) 4)) ∧ t.flash = s.flash ∧ t.dram = s.dram)))

/-- R167 to R169, R172: the oldest capture whose mark has been applied is placed in its granule's open slot where the granule is GLEAN_PENDING and a data-ear buffer is free; where the granule is not GLEAN_PENDING it is a loss: the entry is gone, the granule takes a repair bit, and a DIRTY granule counts one. A capture whose mark has not been applied waits. A capture that has waited too long while no data-ear buffer is free or the reserve is empty is counted and lost, and no other is. An idle slot closes, and its ears that are not wholly captured are counted as merged (saturating). R168, R169, R173: an ear of a slot that has been handed over is programmed at the slot's sheaf position and counts 65536 landed bytes; an ear that is not handed over, or is programmed already, is not touched. With all seventeen ears of a closed slot programmed and no older slot of the granule under way, the glean sheaf of the slot stands at its position with the granule, the stamp and the epoch, every captured line as captured, and the slot is gone. -/
def Obligations.Gleaning : Prop :=
  (∀ (s : State),
     (∀ (e : TapEntry) (rest : List TapEntry), s.gln.fifo = e :: rest →
       (s.markApplied e.stamp = false → Answers .gleanCaptureApply s (fun t => t = s) ∧ Answers .stagingOverflow s (fun t => t = s)) ∧
       (s.markApplied e.stamp = true →
         (s.dstate (maGranule e.ma) = .gleanPending → s.per.confirms = [] →
           ∀ x, s.slotFor (maGranule e.ma) = some x → s.gleanBuffers < 26 → s.sea.closes = [] → (∀ y ∈ s.gln.slots, y.id = x.id → y = x) →
             (smapPut x.lines (maLine e.ma % 16384) (e.data, e.chk)).length < 16384 →
             Answers .gleanCaptureApply s (fun t =>
               t.gln.fifo = rest ∧ (∃ y ∈ t.gln.slots, y.id = x.id ∧ y.g = x.g ∧ y.closed = x.closed ∧ y.lastTick = s.tick ∧ y.stamp = max x.stamp e.stamp ∧
                 smapFind y.lines (maLine e.ma % 16384) = some (e.data, e.chk) ∧
                 ∀ l, l ≠ maLine e.ma % 16384 → smapFind y.lines l = smapFind x.lines l) ∧
               t.gln.slots.length = s.gln.slots.length ∧ t.dram = s.dram ∧ t.hbp = s.hbp ∧
               ((s.learned = false ∨ s.flag CLN_CTL_VERIFY_GLEAN = false) → t.regs = s.regs))) ∧
         (s.dstate (maGranule e.ma) = .dirty → s.per.confirms = [] → Answers .gleanCaptureApply s (fun t =>
           t.gln.fifo = rest ∧ (smapFind t.gln.repair (maGranule e.ma)).isSome = true ∧ t.dstate (maGranule e.ma) = .dirty ∧ t.dram = s.dram ∧ t.hbp = s.hbp)) ∧
         (s.dstate (maGranule e.ma) = .gleanPending → ((s.readySlot (maGranule e.ma) e.stamp).placeCapture e).isSome = true → s.flag GLN_STS_RESERVE_EMPTY = false →
           Answers .stagingOverflow s (fun t => t = s)) ∧
         (s.dstate (maGranule e.ma) = .gleanPending → (((s.readySlot (maGranule e.ma) e.stamp).placeCapture e).isSome = false ∨ s.flag GLN_STS_RESERVE_EMPTY = true) →
           s.per.confirms = [] → Answers .stagingOverflow s (fun t =>
           t.gln.fifo = rest ∧ (smapFind t.gln.repair (maGranule e.ma)).isSome = true ∧ t.dstate (maGranule e.ma) = .dirty ∧
           (∀ y ∈ t.gln.slots, y.g ≠ maGranule e.ma) ∧ t.dram = s.dram ∧ t.hbp = s.hbp)))) ∧
     ∀ (g : Fin 0x80000),
       (s.slotFor g.val = none → Answers (.slotIdleClose g) s (fun t => t = s)) ∧
       ∀ x, s.slotFor g.val = some x → Answers (.slotIdleClose g) s (fun t =>
         t.gln = { s.gln with slots := s.gln.slots.map (fun y => if y.id = x.id then { x with closed := true } else y) } ∧
         t.fld GLN_CNT_MERGE = min (s.fld GLN_CNT_MERGE + ((List.range 16).filter (fun k => !x.earFull k)).length) (2 ^ GLN_CNT_MERGE.w - 1) ∧
         OnlyFields [GLN_CNT_MERGE] { s with gln := t.gln } t)) ∧
  (∀ (s : State) (x : Slot), s.gln.slots.find? (fun y => decide (y.id = x.id)) = some x →
     (∀ (ear : Fin 17), (x.handed ear.val = false ∨ x.done.getLsbD ear.val = true) → Answers (.gleanEarProgrammed x.id ear) s (fun t => t = s)) ∧
     (∀ (ear : Fin 17) (a : Nat), x.handed ear.val = true → x.done.getLsbD ear.val = false → x.sheaf = some a → Answers (.gleanEarProgrammed x.id ear) s (fun t =>
       t.gln.hourBytes = s.gln.hourBytes + 65536 ∧ (∃ y ∈ t.gln.slots, y.id = x.id ∧ y.g = x.g ∧ y.lines = x.lines ∧ y.sheaf = some a ∧
         y.done = x.done ||| (1#17 <<< ear.val)) ∧ t = { s with gln := t.gln })) ∧
     ∀ (a : Nat), x.sheaf = some a → x.closed = true → x.done = BitVec.allOnes 17 → (∀ y ∈ s.gln.slots, y.g = x.g → x.id ≤ y.id) → s.per.confirms = [] →
       s.gleanCaughtUp = false → smapSorted x.lines = true →
       Answers (.gleanSheafProgrammed x.id) s (fun t =>
         (∃ v, t.sheaf a = some v ∧ v.typ = 3 ∧ v.object = x.g ∧ v.stamp = x.stamp ∧ v.epoch = s.epoch ∧ v.digest = granuleDigest v.data ∧
           (∀ l d c, smapFind x.lines l = some (d, c) → smapGet (fun _ => 0) v.data l = d ∧ smapFind v.chk l = some c) ∧
           (∀ l, smapFind x.lines l = none → smapGet (fun _ => 0) v.data l = smapGet (fun _ => 0) (((s.slotBase x.g).map (·.data)).getD []) l)) ∧
         (∀ y ∈ t.gln.slots, y.id ≠ x.id) ∧ smapFind t.gln.newest x.g = some a ∧ t.dram = s.dram ∧ t.hbp = s.hbp))

/-- R173, R177, R178: a repair of a CLEAN granule with a repair bit, of which no write is on its way, copies its sheaf to a new glean sheaf that the save map then names, marked as a repair, and clears its repair bit, while one with a write on its way is dropped; a fold moves the oldest sheaf that a reference still needs to TLC, and the save map names the copy; where nothing needs it nothing changes. At each hour outside off the bytes of the hour join the window of the last 24, the average is shown rounded up, the counter restarts, and an average above the ration sets RATION_OVER and is reported. -/
def Obligations.RepairFoldRation : Prop :=
  ∀ (s : State),
    (∀ (g : Fin 0x80000), s.hbp.dirtyQ.any (fun x => decide (x.1 = g.val)) = true → Answers (.flashRepair g) s (fun t => t = s)) ∧
    (∀ (g : Fin 0x80000) (old : Sheaf) (a : Nat) (u : State), (s.sys.mode = .service ∨ s.sys.mode = .lull) → s.gleanFenced = false → s.flag GLN_CTL_REPAIR_EN = true →
      s.dstate g.val = .clean → (s.smapOf g.val).kind ≠ 0 → (∃ o, smapFind s.gln.repair g.val = some o ∧ o ≤ s.ord s.horizon) →
      s.hbp.dirtyQ.any (fun x => decide (x.1 = g.val)) = false → s.sheaf (s.smapOf g.val).sheaf = some old → s.takeGlean = some (a, u) →
      Answers (.flashRepair g) s (fun t =>
        (∃ v, t.sheaf a = some v ∧ v.data = old.data ∧ v.rep = true ∧ v.object = g.val ∧ v.typ = 3) ∧ t.smapOf g.val = ⟨2, false, 0, a⟩ ∧
        smapFind t.gln.repair g.val = none ∧ t.dram = s.dram ∧ t.hbp = s.hbp)) ∧
    (∀ (w : Word) (x : Sheaf), s.sheaf w.toNat = some x → s.foldable w.toNat x = false → Answers (.foldComplete w) s (fun t => t = s)) ∧
    (∀ (w : Word) (x : Sheaf) (b : Nat) (u : State), (s.sys.mode = .service ∨ s.sys.mode = .lull) → s.sheaf w.toNat = some x → s.foldable w.toNat x = true →
      (∀ e ∈ s.flash.sheaves, s.foldable e.1 e.2 = true → ordOf x.epoch x.stamp ≤ ordOf e.2.epoch e.2.stamp) → s.allocTlc = some (b, u) →
      Answers (.foldComplete w) s (fun t =>
        t.sheaf b = some x ∧
        ((s.smapOf x.object).kind ≠ 0 → (s.smapOf x.object).sheaf = w.toNat → t.smapOf x.object = { s.smapOf x.object with sheaf := b }) ∧
        t.dram = s.dram ∧ t.hbp = s.hbp)) ∧
    (s.sys.mode ≠ .off →
      let hours := (s.gln.hourBytes :: s.gln.hours).take 24
      let avg := (hours.sum + 86400 * 1000000 - 1) / (86400 * 1000000)
      Answers .rationHour s (fun t =>
        t.gln = { s.gln with hours := hours, hourBytes := 0 } ∧ t.fld GLN_RATION_USED_AVG = min avg 65535 ∧
        (avg ≤ s.fld GLN_RATION_MBS → t.flt = s.flt ∧ t.flag GLN_STS_RATION_OVER = s.flag GLN_STS_RATION_OVER) ∧
        (s.fld GLN_RATION_MBS < avg → t.flag GLN_STS_RATION_OVER = true ∧ t.flt = (s.report .rationExceeded 136 0 0).flt) ∧
        OnlyFields [GLN_RATION_USED_HOURS, GLN_RATION_USED_AVG, GLN_STS_RATION_OVER] { s with gln := t.gln, flt := t.flt } t))

/-- R24, R28, R206, R269, R369, R418, R435, R493: in service, lull, rebound, and in keeper mode entered from service or lull or rebound, with a plan loaded, SAVE_n, a feed A below its trigger and a feed A above its range each start a save, at the freeze stamp and with the next image generation, and leave the DRAM as it is; where the save has too few channels or erased sheaves it is abandoned at once, and the part shuts down. With no plan loaded SAVE_n and a feed A above its range set IGNORED and start nothing, and a feed A below its trigger shuts down. In power-up, attach and keeper mode entered from them a feed A below or above shuts down without a save, and SAVE_n does so in the last two where a plan is loaded and else sets IGNORED. In save and shut-down a trigger starts nothing and sets IGNORED, and off does not see it. R24, R28, R125, Table 4-7: SAVE_NOW in service, lull, or rebound with a plan loaded starts a save and its packet waits in execution, and where the save cannot be made it is abandoned; with no plan loaded it sets IGNORED and completes NOT_PERMITTED; with no packet of the opcode in execution nothing changes. -/
def Obligations.SavesBegin : Prop :=
  (∀ (s : State),
     let ignored := fun (t : State) => t.sys.mode = s.sys.mode ∧ t.flag SPT_TRIG_IGNORED = true ∧ t.sav = s.sav ∧ t.dram = s.dram
     let down := fun (t : State) => DownFrom s t 4 true ∧ (s.railUp = true → t.sav.run = s.sav.run)
     (s.sys.mode = .off → Answers .saveNAsserted s (fun t => t = s) ∧ Answers .feedALowTrigger s (fun t => t = s) ∧ Answers .feedAOv s (fun t => t = s)) ∧
     (Deciding s → s.flag CFG_MODE_NO_PLAN = false →
       (SaveFits s 2 → Answers .saveNAsserted s (SaveFrom s)) ∧
       (SaveFits s.feedALow s.feedACode → Answers .feedALowTrigger s (SaveFrom s)) ∧
       (SaveFits s.feedAHigh 5 → Answers .feedAOv s (SaveFrom s)) ∧
       (¬ SaveFits s 2 → Answers .saveNAsserted s (SaveLost s)) ∧
       (¬ SaveFits s.feedALow s.feedACode → Answers .feedALowTrigger s (SaveLost s)) ∧
       (¬ SaveFits s.feedAHigh 5 → Answers .feedAOv s (SaveLost s))) ∧
     (Deciding s → s.flag CFG_MODE_NO_PLAN = true →
       Answers .saveNAsserted s (fun t => t = s.setFlag SPT_TRIG_IGNORED true) ∧
       Answers .feedAOv s (fun t => t = s.feedAHigh.setFlag SPT_TRIG_IGNORED true) ∧
       Answers .feedALowTrigger s down) ∧
     (Early s → Answers .feedALowTrigger s down ∧ Answers .feedAOv s down) ∧
     (Early s → s.sys.mode ≠ .powerUp → s.flag CFG_MODE_NO_PLAN = false → Answers .saveNAsserted s down) ∧
     (Early s → (s.sys.mode = .powerUp ∨ s.flag CFG_MODE_NO_PLAN = true) → Answers .saveNAsserted s (fun t => t = s.setFlag SPT_TRIG_IGNORED true)) ∧
     ((s.sys.mode = .save ∨ s.sys.mode = .shutDown) → Answers .saveNAsserted s ignored ∧ Answers .feedALowTrigger s ignored ∧ Answers .feedAOv s ignored)) ∧
  (∀ (s : State) (src : PktSrc),
     (s.findExec src 0x09 = none → Answers (.saveNow src) s (fun t => t = s)) ∧
     ∀ (e : ExecPkt), s.findExec src 0x09 = some e → (s.sys.mode = .service ∨ s.sys.mode = .lull ∨ s.sys.mode = .rebound) →
       (s.flag CFG_MODE_NO_PLAN = false → SaveFits (s.startExec e 0) 3 → Answers (.saveNow src) s (fun t =>
         SaveFrom s t ∧ ({ e with started := true, aux := 0 } : ExecPkt) ∈ t.pkt.exec)) ∧
       (s.flag CFG_MODE_NO_PLAN = false → ¬ SaveFits (s.startExec e 0) 3 → Answers (.saveNow src) s (SaveLost s)) ∧
       (s.flag CFG_MODE_NO_PLAN = true → OnePacket s e → Answers (.saveNow src) s (fun t =>
         t.flag SPT_TRIG_IGNORED = true ∧ t.sys = s.sys ∧ t.sav = s.sav ∧ t.dram = s.dram ∧ Completed s t e stNotPermitted [] noByte)))

/-- R71, R198 to R203, R209, Tables 5-2, 7-4: the backside controller takes the DRAM of a save once, out of self-refresh, and the first sheaf goes in flight. From then on each confirmation completes the item at the head of the work, at the position in flight, or, where none is, at the next position under the plan: a granule's sheaf holds the data of its lines as the DRAM holds them, a check sheaf the check bytes of its group, both under the run's generation and freeze point, and the DRAM is only read. -/
def Obligations.SaveSheaves : Prop :=
  ∀ (s : State), s.Inv →
    (s.sav.run = none → Answers .dramHandoverToBdc s (fun t => t = s) ∧ Answers .saveSheafConfirmed s (fun t => t = s)) ∧
    ∀ (r : SaveRun), s.sav.run = some r →
      (r.handed = false → (r.flight = none → Answers .saveSheafConfirmed s (fun t => t = s)) ∧ Answers .dramHandoverToBdc s (fun t =>
        (∃ q, t.sav = { s.sav with run := some q } ∧ q.handed = true ∧ q.gen = r.gen ∧ q.f = r.f ∧ q.work = r.work ∧ q.sheaves = r.sheaves ∧ q.gran = r.gran ∧ q.group = r.group) ∧
        t.hbp = { s.hbp with selfRef := 0, rows := [] } ∧ t.bdc = { s.bdc with owed := [], rows := [], reqs := [] } ∧
        t.fld DCT_STS_OWNER = 1 ∧ t.flag DCT_STS_OWNED = true ∧ t.flag CLK_STS_COAST = false ∧ t.flag CLK_STS_DISCONT = false ∧
        t.sys = s.sys ∧ t.dram = s.dram ∧ t.per = s.per ∧ t.flash.sheaves = s.flash.sheaves)) ∧
      (r.handed = true → Answers .dramHandoverToBdc s (fun t => t = s) ∧
        ∀ (f : SaveFlight) (rest : List SaveItem), (r.flight = some f ∨ (r.flight = none ∧ ∃ r1 u, s.allocSave r = some (f, r1, u))) →
          (∀ g, r.work = .gran g :: rest → Answers .saveSheafConfirmed s (fun t =>
            (∃ v, t.sheaf f.addr = some v ∧ v.typ = 1 ∧ v.object = g ∧ v.gen = r.gen ∧ v.stamp = r.f ∧ v.epoch = s.epoch ∧
              ∀ l, l < 16384 → smapGet (fun _ => 0) v.data l = (s.line ((g * 16384 + l) * 64)).1) ∧
            (∃ q, t.sav.run = some q ∧ q.work = rest ∧ q.sheaves = r.sheaves + 1 ∧ (smapFind q.gran g).map (·.1) = some f.addr) ∧
            t.dram = s.dram ∧ t.hbp = s.hbp ∧ t.per = s.per)) ∧
          (∀ c, r.work = .group c :: rest → Answers .saveSheafConfirmed s (fun t =>
            (∃ v, t.sheaf f.addr = some v ∧ v.typ = 2 ∧ v.object = c ∧ v.gen = r.gen ∧ v.stamp = r.f ∧ v.epoch = s.epoch ∧
              ∀ g l, g / 4 = c → l < 16384 → smapGet (fun _ => 0) v.chk (groupLine g l) = (s.line ((g * 16384 + l) * 64)).2) ∧
            (∃ q, t.sav.run = some q ∧ q.work = rest ∧ q.sheaves = r.sheaves + 1 ∧ smapFind q.group c = some f.addr) ∧
            t.dram = s.dram ∧ t.hbp = s.hbp ∧ t.per = s.per)))

/-- R195, R208, Table 1-6: with the work done, the first anchor copy adds the run's image to those on flash, ends the run and leaves a second copy to confirm; rebound follows where feed A is good and KEEPER is 0, with the DRAM in self-refresh, and shut-down otherwise, which may still turn back before its DRAM point. The second copy is then counted, with its position in the anchor log, and where no other save runs SAVING clears and the stage is 0. -/
def Obligations.SaveEnds : Prop :=
  ∀ (s : State),
    (∀ (r : SaveRun), s.sav.run = some r → (r.handed = false ∨ r.work ≠ []) → Answers .imageAnchored s (fun t => t = s)) ∧
    (∀ (r : SaveRun), s.sav.run = some r → r.handed = true → r.work = [] → s.sys.mode = .save →
      (s.flag PWR_FEED_STS_A_GOOD = true → s.flag CFG_MODE_KEEPER = false → Answers .imageAnchored s (fun t =>
        Anchored s t r ∧ t.sys.mode = .rebound ∧ t.hbp.selfRef = 15 ∧ t.dram = s.dram ∧ t.sav.second = some r.gen)) ∧
      ((s.flag PWR_FEED_STS_A_GOOD = false ∨ s.flag CFG_MODE_KEEPER = true) → s.pwr.offAtAnchor = 0 → Answers .imageAnchored s (fun t =>
        Anchored s t r ∧ DownFrom s t (if s.flag CFG_MODE_KEEPER = true then 7 else 1) false))) ∧
    ((s.sav.second = none ∨ s.sav.copyAt = none) → Answers .secondAnchorConfirmed s (fun t => t = s)) ∧
    ∀ (g p : Nat), s.sav.second = some g → s.sav.copyAt = some p → Answers .secondAnchorConfirmed s (fun t =>
      t.sav = { s.sav with second := none, copyAt := none } ∧
      (s.sav.run = none → t.flag SAV_STS_SAVING = false ∧ t.fld SAV_STS_STAGE = 0) ∧
      t.flash.images.map (·.gen) = s.flash.images.map (·.gen) ∧ t.flash.sheaves = s.flash.sheaves ∧ t.sys = s.sys ∧ t.dram = s.dram ∧ t.hbp = s.hbp ∧
      (s.flash.logPos + 32 ≤ logPositions →
        t.flash.images = s.flash.images.map (fun i => if i.gen = g then { i with copies := 2, copyAt := i.copyAt ++ [p] } else i) ∧
        (s.sav.run ≠ none → t.regs = s.regs) ∧
        OnlyFields [SAV_STS_SAVING, SAV_STS_STAGE, SAV_STS_PLAN] { s with sav := t.sav, flash := t.flash } t))

/-- R30, R31, R80, R144, R213 to R215, R222, R356, R389, R436, Table 5-5: HANDOVER in the TRAIN or LEARN phase of an attach attempt starts the restore of the image that was chosen, taking its maps, and with the DRAM loop locked the DRAM; with none, or where the host discards it, it goes to service with every present granule DIRTY; after an attach that H_RESET_n brought about it goes to service with the dirty map as it is. In rebound, and in keeper mode entered from it, with the rails up and the host clock locked, it returns to service, or stays in keeper mode, with the DRAM out of self-refresh; without the clock it waits for it. After a failed DRAM training, and in any other mode or phase, it changes nothing. -/
def Obligations.HandoverMoves : Prop :=
  ∀ (s : State),
    let keeps := fun (t : State) => (s.fld TRN_STS_STEP = 0 → t.dram = s.dram) ∧ (s.fld TRN_STS_STEP ≠ 0 → t.dram = s.areaBack.dram)
    (s.flag TRN_STS_DRAM_FAIL = true → Answers .handover s (fun t => t = s)) ∧
    (s.sys.mode ≠ .attach → s.preHandover = false → Answers .handover s (fun t => t = s)) ∧
    (s.sys.mode = .attach → s.sys.phase ≠ .train → s.sys.phase ≠ .learn → Answers .handover s (fun t => t = s)) ∧
    (s.flag TRN_STS_DRAM_FAIL = false → s.sys.mode = .attach → (s.sys.phase = .train ∨ s.sys.phase = .learn) →
      (s.sys.attempt = false → Answers .handover s (fun t => t.sys.mode = .service ∧ t.per.dirty = s.per.dirty ∧ t.flash.images = s.flash.images ∧ keeps t)) ∧
      (s.sys.attempt = true → (s.fld SAV_RST_DEC_CODE ≠ 1 ∨ s.flag SAV_CTL_RST_DISCARD = true) → Answers .handover s (fun t =>
        t.sys.mode = .service ∧ (∀ g, s.present g = true → fmapGet t.per.dirty g = .dirty) ∧ keeps t)) ∧
      (s.sys.attempt = true → ∀ i, s.fld SAV_RST_DEC_CODE = 1 → s.flag SAV_CTL_RST_DISCARD = false →
        s.flash.images.find? (fun (i : Image) => decide (i.gen = s.fld SAV_RST_GEN)) = some i → Answers .handover s (fun t =>
        t.sys.mode = .attach ∧ t.sys.phase = .restore ∧ t.flag SAV_STS_RESTORING = true ∧ t.fld SAV_STS_STAGE = 5 ∧
        (s.flag CLK_STS_D_LOCK = true → s.flag DCT_STS_OWNED = false → t.fld DCT_STS_OWNER = 2 ∧ t.flag DCT_STS_OWNED = true ∧ t.hbp.selfRef = 0) ∧
        (s.flag CLK_STS_D_LOCK = false → t.fld DCT_STS_OWNER = s.fld DCT_STS_OWNER ∧ t.hbp.selfRef = s.hbp.selfRef) ∧
        t.gln.regions = i.regions.map (fun x => (x.1, { x.2 with verified := false })) ∧ t.gln.cover = i.cover ∧ t.gln.repair = i.repair ∧
        keeps t ∧ t.flash.images = s.flash.images))) ∧
    (s.flag TRN_STS_DRAM_FAIL = false → s.preHandover = true →
      (s.reboundOk = false → Answers .handover s (fun t => t = s)) ∧
      (s.reboundOk = true → s.hReady = false → Answers .handover s (fun t => t = s.setFlag SAV_STS_REBOUND_WAIT true)) ∧
      (s.reboundOk = true → s.hReady = true → s.sys.mode = .rebound → Answers .handover s (fun t => t.sys.mode = .service ∧ t.hbp.selfRef = 0 ∧ t.fld DCT_STS_OWNER = 0 ∧ keeps t)) ∧
      (s.reboundOk = true → s.hReady = true → s.sys.mode = .keeper → Answers .handover s (fun t =>
        t.sys.mode = .keeper ∧ t.sys.keeperFrom = .service ∧ t.hbp.selfRef = 0 ∧ t.fld DCT_STS_OWNER = 0 ∧ keeps t)))

/-- R217 to R220, Table 5-5: the end of a restore makes service, with every present granule CLEAN and the DRAM filled from the image: a line of a granule whose sheaf and check sheaf can both be read holds their data and check bytes, rebuilt where one ear is lost; a line of a granule that the image does not hold is zero with check bytes that cannot pass; lines outside the present granules are zero. In any other phase, and while the DRAM is not yet taken for it, nothing changes. -/
def Obligations.RestoreFillsDram : Prop :=
  ∀ (s : State) (bad : List (Word × BitVec 17)),
    ((s.sys.phase ≠ .restore ∨ s.flag DCT_STS_OWNED = false) → Answers (.restoreDone bad) s (fun t => t = s)) ∧
    ∀ (i : Image), s.sys.phase = .restore → s.flag DCT_STS_OWNED = true → s.flash.images.find? (fun (i : Image) => decide (i.gen = s.fld SAV_RST_GEN)) = some i →
      Answers (.restoreDone bad) s (fun t =>
        t.sys.mode = .service ∧ (∀ g, fmapGet t.per.dirty g = .clean) ∧ t.flash.images = s.flash.images ∧ t.flash.sheaves = s.flash.sheaves ∧
        (∀ g l, s.present g = true → l < 16384 →
          (∀ x y p q, (s.smapOf g).kind ≠ 0 → (s.cmapOf (g / 4)).kind ≠ 0 → s.readSheaf (s.restoreMask g) bad (s.smapOf g).sheaf g = some (x, p) →
            s.readSheaf (s.restoreMask g) bad (s.cmapOf (g / 4)).sheaf (g / 4) = some (y, q) →
            t.line ((g * 16384 + l) * 64) = (smapGet (fun _ => 0) x.data l, smapGet (fun _ => 0) y.chk (groupLine g l))) ∧
          ((s.smapOf g).kind = 0 → t.line ((g * 16384 + l) * 64) = (0, s.poison ((g * 16384 + l) * 64)))) ∧
        (∀ g l, s.present g = false → l < 16384 → t.line ((g * 16384 + l) * 64) = (0, 0)))

/-- R373, R384 to R386, R388, R389: in shut-down the stage waits for each of its rails; when the last is discharged the enables of the next lower stage fall together, the stage-5 enables being the DRAM point, and after stage 0 the part is off with its cause. A rail that does not discharge is counted and recorded, and shut-down goes on. After the delay GATE_B opens in every mode in which GATE_A is on. Before a rebound's HANDOVER, with GATE_A on and no stage being judged, the lowest stage with a persistence rail that is not good is raised again. -/
def Obligations.ShutDownStages : Prop :=
  ∀ (s : State) (r : Fin 33),
    (s.sys.mode ≠ .shutDown ∨ railIn s.pwr.waiting r.val = false → Answers (.railDischarged r) s (fun t => t = s) ∧ Answers (.dischargeStuck r) s (fun t => t = s)) ∧
    (s.sys.mode = .shutDown → railIn s.pwr.waiting r.val = true →
      (s.pwr.waiting &&& ~~~(railBit r.val) ≠ 0 →
        Answers (.railDischarged r) s (fun t => t = { s with pwr := { s.pwr with waiting := s.pwr.waiting &&& ~~~(railBit r.val) } }) ∧
        Answers (.dischargeStuck r) s (fun t =>
          t.pwr = { s.pwr with waiting := s.pwr.waiting &&& ~~~(railBit r.val) } ∧ t.fld PWR_SEQ_STS_STUCK = min (s.fld PWR_SEQ_STS_STUCK + 1) (2 ^ PWR_SEQ_STS_STUCK.w - 1) ∧
          t.evr = (s.emit .fault 0x006B 0 (leBytes 1 (railQual r.val))).evr ∧ OnlyFields [PWR_SEQ_STS_STUCK] { s with pwr := t.pwr, evr := t.evr } t)) ∧
      (s.pwr.waiting &&& ~~~(railBit r.val) = 0 → s.fld PWR_SEQ_STS_STAGE ≠ 0 →
        s.stageRails (s.fld PWR_SEQ_STS_STAGE - 1) &&& s.pwr.en ≠ 0 → Answers (.railDischarged r) s (fun t =>
          t.sys.mode = .shutDown ∧ t.fld PWR_SEQ_STS_STAGE = s.fld PWR_SEQ_STS_STAGE - 1 ∧
          t.pwr.en = s.pwr.en &&& ~~~(s.stageRails (s.fld PWR_SEQ_STS_STAGE - 1)) ∧ t.pwr.waiting = s.stageRails (s.fld PWR_SEQ_STS_STAGE - 1) &&& s.pwr.en ∧
          t.pwr.dramPoint = (s.pwr.dramPoint || decide (s.fld PWR_SEQ_STS_STAGE ≤ 6)) ∧ t.dram = s.dram)) ∧
      (s.pwr.waiting &&& ~~~(railBit r.val) = 0 → s.fld PWR_SEQ_STS_STAGE = 0 → Answers (.railDischarged r) s (fun t =>
        t.sys.mode = .off ∧ t.fld CFG_CAUSE_OFF_CAUSE = s.pwr.offCause % 2 ^ CFG_CAUSE_OFF_CAUSE.w ∧ t.fld CFG_CAUSE_OFF_MODE = modeCode .shutDown ∧
        t.dram.lines = [] ∧ t.flash = s.flash))) ∧
    (s.flag PWR_FEED_STS_GATE_A = false → Answers .gateBOffDelay s (fun t => t = s)) ∧
    (s.flag PWR_FEED_STS_GATE_A = true → s.flag SAV_STS_REBOUND_WAIT = false → Answers .gateBOffDelay s (fun t => t = s.setFlag PWR_FEED_STS_GATE_B false)) ∧
    ((s.preHandover = false ∨ s.flag PWR_FEED_STS_GATE_A = false ∨ (s.fld PWR_SEQ_STS_STATE ≠ 2 ∧ s.fld PWR_SEQ_STS_STATE ≠ 4) ∨ s.persistGood = true) →
      Answers .reboundStageRetry s (fun t => t = s)) ∧
    (s.preHandover = true → s.flag PWR_FEED_STS_GATE_A = true → (s.fld PWR_SEQ_STS_STATE = 2 ∨ s.fld PWR_SEQ_STS_STATE = 4) → s.persistGood = false →
      Answers .reboundStageRetry s (fun t =>
        t.fld PWR_SEQ_STS_STATE = 1 ∧ t.fld PWR_SEQ_STS_STAGE = s.badStage ∧ t.pwr.en = s.pwr.en ||| s.stageRails s.badStage ∧
        t.pwr.failed = s.pwr.failed &&& ~~~(s.stageRails s.badStage) ∧
        (∀ k < 33, railIn t.pwr.waiting k = (railIn (s.stageRails s.badStage) k && !s.railGood k)) ∧
        OnlyFields [PWR_SEQ_STS_STATE, PWR_SEQ_STS_STAGE] { s with pwr := t.pwr } t))

/-- R226 to R228: in lull a thresh of the newest image starts where threshing is enabled, a plan is loaded, no save runs, its chain is long enough and it has not been threshed; outside lull, or with threshing disabled, nothing starts; one that has paused resumes where it was. While it runs, an idle tick copies the next sheaf of the image: the copy is the source's content under its own object, of the image's generation, at the next position, and the source is left as it was; a source that cannot be read keeps its reference (the model's choice, log entry 98). When its copies and the index stand, a new image with the next generation, marked threshed, at position 1 and following the source, joins the images, and its second anchor copy is to be confirmed; where a copy still finds no room the thresh stays. -/
def Obligations.ThreshRuns : Prop :=
  ∀ (s : State) (l : List Image) (i : Image), s.flash.images = l ++ [i] →
    (s.sys.mode ≠ .lull ∨ s.flag SAV_CTL_THRESH_EN = false ∨ s.sav.run ≠ none → Answers .threshStart s (fun t => t = s)) ∧
    (s.sys.mode = .lull → s.flag SAV_CTL_THRESH_EN = true → s.flag CFG_MODE_NO_PLAN = false → s.sav.run = none →
      (s.sav.thresh = some i.gen → Answers .threshStart s (fun t => t = s.setFld SAV_STS_STAGE 7)) ∧
      (s.sav.thresh = none → s.fld SAV_CTL_THRESH_AT ≤ i.pos → i.threshed = false → s.sav.threshed ≠ i.gen → Answers .threshStart s (fun t =>
        t.sav = { s.sav with thresh := some i.gen, threshCopies := [], threshRows := [], threshJ := 0 } ∧ t.flag SAV_STS_THRESHING = true ∧ t.fld SAV_STS_STAGE = 7 ∧
        t.fld SAV_THR_GEN = i.gen % 2 ^ 32 ∧ t.fld SAV_THR_DONE = 0 ∧
        OnlyFields [SAV_STS_THRESHING, SAV_STS_STAGE, SAV_FENCED, SAV_THR_GEN, SAV_THR_DONE, SAV_THR_TOTAL] { s.channelsReturn with sav := t.sav } t))) ∧
    (s.threshing = some i → ∀ a x, s.threshNext i = some a → s.sheaf a = some x → (earsLost s.fencedMask [] a x).length < 2 →
      ∀ b y u, s.threshPlace { x with typ := copyType x.typ, gen := i.gen } = some (b, y, u) → a ≠ b →
        (s.threshStep.sheaf b).map (fun v => (v.data, v.chk, v.object, v.gen)) = some (x.data, x.chk, x.object, i.gen) ∧
        s.threshStep.sheaf a = some x ∧ smapFind s.threshStep.sav.threshCopies a = some b ∧
        s.threshStep.dram = s.dram ∧ s.threshStep.sys = s.sys ∧ s.threshStep.flash.images = s.flash.images) ∧
    (s.threshing ≠ some i → Answers .threshCopiesDone s (fun t => t = s)) ∧
    (s.threshing = some i →
      let u := s.threshRest (s.threshSources i).length
      (u.threshNext i ≠ none → Answers .threshCopiesDone s (fun t => t = u)) ∧
      (u.threshNext i = none →
        let gran := i.gran.map (fun e => (e.1, u.threshEntry u.sav.threshCopies e.2))
        let group := i.group.map (fun e => (e.1, u.threshEntry u.sav.threshCopies e.2))
        let es := u.presentGranules.map (fun g => smapGet (fun _ => IndexEntry.none) gran g) ++ u.presentGroups.map (fun c => smapGet (fun _ => IndexEntry.none) group c)
        ∀ (idx : List Nat) (v : State), u.threshIndex i (u.flash.imageGen + 1) (es.map (fun e => leNat (indexBytes e))) [] (List.range u.indexSheaves) = some (idx, v) →
          Answers .threshCopiesDone s (fun t =>
            (∃ j, t.flash.images = s.flash.images ++ [j] ∧ j.threshed = true ∧ j.pos = 1 ∧ j.prevGen = i.gen ∧ j.gen = s.flash.imageGen + 1 ∧ j.copies = 1 ∧
              j.f = i.f ∧ j.epoch = i.epoch ∧ j.gran = gran ∧ j.group = group) ∧
            t.sav.thresh = none ∧ t.sav.threshed = s.flash.imageGen + 1 ∧ t.sav.second = some (s.flash.imageGen + 1) ∧ t.flag SAV_STS_THRESHING = false ∧
            t.dram = s.dram ∧ t.hbp = s.hbp)))

/-- R367, R368, R379, R382, R468 to R470, Table 13-6: from off, once the start timer has expired or VAON has just risen, the release of the power-on reset begins power-up from an empty DRAM. A blank one-time store holds the sequencer with no rail enabled; a table that fails its check leads back to off with cause 5 and the backoff count raised; a good table turns GATE_A on, with no rail enabled yet, and keeps what the marionettes will answer for step 5. In any other mode, or before the timer, nothing changes. R367, R368, R387, R460, Table 1-6: the start timer's expiry is remembered. A loss of both feeds takes every mode but off to off at once, with its cause and the mode it left, the DRAM lost and every register outside blocks SPT and DOM and CFG_CAUSE at its reset value; images and sheaves stay on flash. A fall of VAON also returns domain 0 to its reset values, loses the backoff count, and tears a burn that is in progress. -/
def Obligations.PowerUpAndSupplyLoss : Prop :=
  (∀ (s : State) (bGood : Bool) (mbBad : BitVec 6) (retries : BitVec 16),
     (s.sys.mode ≠ .off ∨ (s.pwr.vaon = true ∧ s.pwr.startExpired = false) → Answers (.powerOnResetRelease bGood mbBad retries) s (fun t => t = s)) ∧
     (s.sys.mode = .off → (s.pwr.vaon = false ∨ s.pwr.startExpired = true) →
       (s.ptabIsBlank = true → Answers (.powerOnResetRelease bGood mbBad retries) s (fun t =>
         t.sys.mode = .powerUp ∧ t.fld SPT_STS_SEQ = 7 ∧ t.pwr.en = 0 ∧ t.dram.lines = [] ∧ t.flash = s.flash ∧ t.pending = s.pending)) ∧
       (s.ptabIsBlank = false → s.ptabGood = false → Answers (.powerOnResetRelease bGood mbBad retries) s (fun t =>
         t.sys.mode = .off ∧ t.fld CFG_CAUSE_OFF_CAUSE = 5 ∧ t.pwr.backoff = min (s.pwr.backoff + 1) 6 ∧ t.dram.lines = [] ∧ t.flash = s.flash ∧ t.pending = s.pending)) ∧
       (s.ptabIsBlank = false → s.ptabGood = true → Answers (.powerOnResetRelease bGood mbBad retries) s (fun t =>
         t.sys.mode = .powerUp ∧ t.flag PWR_FEED_STS_GATE_A = true ∧ t.flag PWR_FEED_STS_A_GOOD = true ∧ t.fld SPT_STS_SEQ = 2 ∧ t.pwr.en = 0 ∧ t.pwr.mbEnv = some (mbBad, retries) ∧ t.dram.lines = [] ∧ t.flash = s.flash ∧ t.pending = s.pending)))) ∧
  (∀ (s : State),
     Answers .startTimerExpiry s (fun t => t = { s with pwr := { s.pwr with startExpired := true } }) ∧
     (s.sys.mode = .off → Answers .supplyLost s (fun t => t = s)) ∧
     (s.sys.mode ≠ .off → Answers .supplyLost s (fun t =>
       t.sys.mode = .off ∧ t.fld CFG_CAUSE_OFF_CAUSE = (if s.sys.mode = .save ∨ s.sys.mode = .shutDown then 3 else 8) ∧ t.fld CFG_CAUSE_OFF_MODE = modeCode s.sys.mode ∧
       t.dram.lines = [] ∧ (∀ a, keptReg a = false → t.word a = resetWord a) ∧ t.flash.images = s.flash.images ∧ t.flash.sheaves = s.flash.sheaves ∧ t.nv.ptab = s.nv.ptab)) ∧
     Answers .vaonFall s (fun t =>
       t.sys.mode = .off ∧ (∀ a, t.word a = resetWord a) ∧ t.pwr.vaon = false ∧ t.pwr.startExpired = true ∧ t.pwr.backoff = 0 ∧
       t.nv.torn = (s.nv.torn || s.flag SPT_PTAB_CTL_BURNING) ∧ t.flash.images = s.flash.images ∧ t.flash.sheaves = s.flash.sheaves ∧
       (s.sys.mode ≠ .off → t.dram.lines = [])))

/-- R369, R373, R386, R388, R389, R392, Table 13-1: a good feed A sets A_GOOD and clears A_BELOW, and off does not see it. In shut-down before the DRAM point, with KEEPER 0, it makes rebound; there, in rebound, and in keeper mode entered from it, it turns GATE_A on unless feed A is above its range, and with no stage to sequence the sequence is over. In service and lull a periodic test that fell due starts. Elsewhere it changes nothing more. Its loss clears A_GOOD and ends a running capacitance test with FAIL 3. R26, R369, Tables 13-1, 13-2: outside off, a low feed B is shown; it takes save and shut-down to off with cause 3, and is reported elsewhere. An over-voltage of feed B holds GATE_B off, is reported, and counts the pack's energy as 0; the recovery ends this, and turns GATE_B on where it was held off and the part runs from feed B, with GATE_A off, in save, shut-down, rebound or keeper mode. -/
def Obligations.Feeds : Prop :=
  (∀ (s : State),
     let only := OnlyFields [PWR_FEED_STS_A_GOOD, PWR_FEED_STS_A_BELOW] s
     let back := (fun (t : State) => t.flag PWR_FEED_STS_A_GOOD = true ∧ t.flag PWR_FEED_STS_A_BELOW = false ∧ t.dram = s.dram ∧ t.flash = s.flash ∧
       (s.pwr.aHigh = false → t.flag PWR_FEED_STS_GATE_A = true ∧ (s.reseqStage = 8 → t.fld PWR_SEQ_STS_STATE = 2)) ∧
       (s.pwr.aHigh = true → t.flag PWR_FEED_STS_GATE_A = s.flag PWR_FEED_STS_GATE_A))
     (s.sys.mode = .off → Answers .feedAGood s (fun t => t = s)) ∧
     (s.sys.mode ≠ .off → s.sys.mode ≠ .shutDown → s.preHandover = false → (s.pwr.periodicDue = none ∨ (s.sys.mode ≠ .service ∧ s.sys.mode ≠ .lull)) →
       Answers .feedAGood s (fun t => t.flag PWR_FEED_STS_A_GOOD = true ∧ t.flag PWR_FEED_STS_A_BELOW = false ∧ only t)) ∧
     (∀ a, s.pwr.periodicDue = some a → (s.sys.mode = .service ∨ s.sys.mode = .lull) → s.pwr.test = none →
       Answers .feedAGood s (fun t => t.flag PWR_FEED_STS_A_GOOD = true ∧ t.flag PWR_FEED_STS_A_BELOW = false ∧ PackTestFrom .periodic a t ∧ t.pwr.periodicDue = none ∧
         t.sys = s.sys ∧ t.dram = s.dram)) ∧
     (s.sys.mode = .shutDown → (s.pwr.dramPoint = true ∨ s.flag CFG_MODE_KEEPER = true) →
       Answers .feedAGood s (fun t => t.flag PWR_FEED_STS_A_GOOD = true ∧ t.flag PWR_FEED_STS_A_BELOW = false ∧ only t)) ∧
     (s.sys.mode = .shutDown → s.pwr.dramPoint = false → s.flag CFG_MODE_KEEPER = false →
       Answers .feedAGood s (fun t => t.sys.mode = .rebound ∧ t.hbp.selfRef = 15 ∧ back t)) ∧
     (s.preHandover = true → Answers .feedAGood s (fun t => t.sys = s.sys ∧ back t)) ∧
     (s.pwr.test = none → Answers .feedAGoodLost s (fun t => t = s.setFlag PWR_FEED_STS_A_GOOD false)) ∧
     (s.pwr.test ≠ none → Answers .feedAGoodLost s (fun t =>
       t.flag PWR_FEED_STS_A_GOOD = false ∧ t.pwr.test = none ∧ t.pwr.load = false ∧ t.fld PWR_PACK_STS_FAIL = 3 ∧ t.flag PWR_PACK_STS_TEST_FAIL = true ∧ t.dram = s.dram))) ∧
  (∀ (s : State),
     let held := s.flag PWR_FEED_STS_B_OV = true ∧ s.flag PWR_FEED_STS_GATE_A = false ∧ (s.sys.mode = .save ∨ s.sys.mode = .shutDown ∨ s.sys.mode = .rebound ∨ s.sys.mode = .keeper)
     (s.sys.mode = .off → Answers .feedBLow s (fun t => t = s) ∧ Answers .feedBOv s (fun t => t = s)) ∧
     ((s.sys.mode = .save ∨ s.sys.mode = .shutDown) → Answers .feedBLow s (fun t =>
       t.sys.mode = .off ∧ t.fld CFG_CAUSE_OFF_CAUSE = 3 ∧ t.fld CFG_CAUSE_OFF_MODE = modeCode s.sys.mode ∧ t.dram.lines = [] ∧ t.flash = s.flash)) ∧
     (s.sys.mode ≠ .off → s.sys.mode ≠ .save → s.sys.mode ≠ .shutDown → Answers .feedBLow s (fun t => t = (s.setFlag PWR_FEED_STS_B_LOW true).report .feedBLow 0 0 0)) ∧
     (s.sys.mode ≠ .off → Answers .feedBOv s (fun t =>
       t.flag PWR_FEED_STS_B_OV = true ∧ t.flag PWR_FEED_STS_GATE_B = false ∧ t.usableEnergy = 0 ∧ t.pwr = { s.pwr with bUnusable := true } ∧
       t.flt = (s.report .feedBOv 0 0 0).flt ∧ OnlyFields [PWR_FEED_STS_B_OV, PWR_FEED_STS_GATE_B] { s with pwr := t.pwr, flt := t.flt } t)) ∧
     Answers .feedBOvRecovery s (fun t =>
       t.flag PWR_FEED_STS_B_OV = false ∧ t.usableEnergy = s.fld PWR_PACK_E ∧ t.pwr = { s.pwr with bUnusable := false } ∧
       (held → t.flag PWR_FEED_STS_GATE_B = true) ∧ (¬ held → t.flag PWR_FEED_STS_GATE_B = s.flag PWR_FEED_STS_GATE_B) ∧
       OnlyFields [PWR_FEED_STS_B_OV, PWR_FEED_STS_GATE_B] { s with pwr := t.pwr } t))

/-- R379 step 6, R380, R383, R389, Table 13-7: a rail that is awaited and reads good is judged good; the sequencer waits for the rest of its stage, then raises the next stage in which an existing rail is not good yet; in rebound it holds, for a retry, where a persistence rail of the stage has failed, and after stage 7 the sequence is over. A rail that is retried is good with its retries over. A rail that is on and not awaited is good again, and one that is off, or disarmed, or in shut-down, changes nothing. A blank power table notes the first four rails alone. R252, R253, R283, R284, R286, R287, Table 13-6 step 8: when the last rail of stage 7 reads good in power-up, the boot begins. A module with no boot anchor that can be read is formatted, with FLO_STS.FORMATTING set, and runs with NO_PLAN; else the anchor with the highest number of those that can be read is written anew with its number and the count of failed attempts raised by one, and the firmware and the image of the slot it selects are loaded. Then the cores are started and an attach attempt is open; where the image cannot be had in either twin the attempt has failed. A third failed attempt in a row reverts to the previous generation and restarts the count. -/
def Obligations.RailsAndBoot : Prop :=
  (∀ (s : State) (r : Fin 33) (boot : BootEnv),
     let on := railIn s.pwr.en r.val = true ∧ (16 ≤ r.val ∨ s.pwr.armed.getLsbD r.val = true) ∧ s.sys.mode ≠ .shutDown
     let failed := s.pwr.failed &&& 0x3FFF#33 ≠ 0
     (s.fld SPT_STS_SEQ ≠ 7 → ¬ on → Answers (.railGood r boot) s (fun t => t = s)) ∧
     (s.fld SPT_STS_SEQ ≠ 7 → on → railIn s.pwr.waiting r.val = false → Answers (.railGood r boot) s (fun t => t = s.setRailGood r.val true)) ∧
     (s.fld SPT_STS_SEQ = 7 → Answers (.railGood r boot) s (fun t => t = if r.val ≤ 3 then s.setRailGood r.val true else s)) ∧
     (RailAwaited s r.val → smapFind s.pwr.retries r.val ≠ none → Answers (.railGood r boot) s (fun t =>
       t.railGood r.val = true ∧ smapFind t.pwr.retries r.val = none ∧ t.pwr.waiting = s.pwr.waiting &&& ~~~(railBit r.val) ∧
       railIn t.pwr.shutByAction r.val = false ∧ t.pwr.en = s.pwr.en ∧ t.sys = s.sys ∧ t.dram = s.dram ∧ t.flash = s.flash)) ∧
     (RailAwaited s r.val → smapFind s.pwr.retries r.val = none →
       (s.pwr.waiting &&& ~~~(railBit r.val) ≠ 0 → Answers (.railGood r boot) s (fun t =>
         t.railGood r.val = true ∧ t.pwr = { s.pwr with waiting := s.pwr.waiting &&& ~~~(railBit r.val) } ∧
         OnlyFields [PWR_RAIL_STS, PWR_FSW_STS] { s with pwr := t.pwr } t)) ∧
       (s.pwr.waiting &&& ~~~(railBit r.val) = 0 → s.fld PWR_SEQ_STS_STATE = 1 →
         (s.sys.mode = .powerUp ∨ (s.sys.mode = .rebound ∧ ¬ failed)) → s.fld PWR_SEQ_STS_STAGE < 7 →
         (∃ k, k ≠ r.val ∧ s.railExists k = true ∧ k < 33 ∧ railStage k = s.fld PWR_SEQ_STS_STAGE + 1 ∧ s.railGood k = false) → Answers (.railGood r boot) s (fun t =>
           t.railGood r.val = true ∧ t.fld PWR_SEQ_STS_STAGE = s.fld PWR_SEQ_STS_STAGE + 1 ∧ t.fld PWR_SEQ_STS_STATE = 1 ∧
           t.pwr.en = s.pwr.en ||| s.stageRails (s.fld PWR_SEQ_STS_STAGE + 1) ∧ t.pwr.waiting ≠ 0 ∧ t.dram = s.dram ∧ t.flash = s.flash)) ∧
       (s.pwr.waiting &&& ~~~(railBit r.val) = 0 → s.fld PWR_SEQ_STS_STATE = 1 → s.sys.mode = .rebound → failed →
         Answers (.railGood r boot) s (fun t => t.railGood r.val = true ∧ t.fld PWR_SEQ_STS_STATE = 4 ∧ t.sys = s.sys ∧ t.dram = s.dram ∧ t.flash = s.flash)) ∧
       (s.pwr.waiting &&& ~~~(railBit r.val) = 0 → s.fld PWR_SEQ_STS_STATE = 1 → s.sys.mode = .rebound → s.fld PWR_SEQ_STS_STAGE = 7 → ¬ failed →
         Answers (.railGood r boot) s (fun t => t.railGood r.val = true ∧ t.fld PWR_SEQ_STS_STATE = 2 ∧ t.pwr.lowest = 8 ∧ t.sys = s.sys ∧ t.dram = s.dram ∧ t.flash = s.flash)))) ∧
  (∀ (s : State) (r : Fin 33) (boot : BootEnv), RailAwaited s r.val → smapFind s.pwr.retries r.val = none → s.pwr.waiting &&& ~~~(railBit r.val) = 0 →
     s.fld PWR_SEQ_STS_STATE = 1 → s.sys.mode = .powerUp → s.fld PWR_SEQ_STS_STAGE = 7 →
     (s.bootPick boot.anchorBad = none → Answers (.railGood r boot) s (fun t =>
       t.sys.mode = .powerUp ∧ t.sys.attempt = true ∧ (∃ b, t.flash.boot = some b ∧ b.no = 1 ∧ b.dir = []) ∧ t.flag FLO_STS_FORMATTING = true ∧ t.flag CFG_MODE_NO_PLAN = true ∧
       t.fld SPT_HB_A_STATE = 1 ∧ t.fld SPT_HB_B_STATE = 1 ∧ t.dram = s.dram)) ∧
     (∀ (b : BootAnchor), s.bootPick boot.anchorBad = some b → 2 ≤ b.fails → b.prev ≠ 0 → Answers (.railGood r boot) s (fun t =>
       t.sys.mode = .powerUp ∧ t.flash.boot = some { b with no := b.no + 1, slot := 1, fails := 0 } ∧ t.flag PLN_STS_AUTO_REVERTED = true ∧ t.dram = s.dram)) ∧
     ∀ (b : BootAnchor), s.bootPick boot.anchorBad = some b → b.fails < 2 →
       (b.active = 0 → Answers (.railGood r boot) s (fun t =>
         t.sys.mode = .powerUp ∧ t.sys.attempt = true ∧ t.flash.boot = some { b with no := b.no + 1, fails := b.fails + 1 } ∧ t.flag CFG_MODE_NO_PLAN = true ∧
         t.fld SPT_HB_A_STATE = 1 ∧ t.dram = s.dram)) ∧
       (∀ m fw, b.active ≠ 0 → s.bootImage b boot.twinBad = some m → s.bootFw b boot.twinBad = some fw → Answers (.railGood r boot) s (fun t =>
         t.sys.mode = .powerUp ∧ t.sys.attempt = true ∧ t.flash.boot = some { b with no := b.no + 1, fails := b.fails + 1 } ∧ t.pln.image = m ∧ t.pln.fw = fw ∧
         t.fld SPT_HB_A_STATE = 1 ∧ t.dram = s.dram)) ∧
       (b.active ≠ 0 → s.bootImage b boot.twinBad = none → Answers (.railGood r boot) s (fun t =>
         t.sys.mode = .powerUp ∧ t.sys.attempt = false ∧ t.flash.boot = some { b with no := b.no + 1, fails := b.fails + 1 } ∧ t.pln.image = s.pln.image ∧ t.dram = s.dram)))

/-- R380, R381, R384, R389, R500, Table 13-7: a rail that does not start, or chatters, is judged only where it is awaited and outside shut-down; chatter is always counted. In power-up a persistence rail that fails shuts the part down past its DRAM point; in rebound it is marked and reported at CRITICAL severity, and the stage holds for a retry once the rest of it is judged. A capacity rail that fails is turned off and marked, and reported at FAULT, and a load switch's flash channel is fenced. Under RETRY the try is lost and the rail is off; the last try lost turns the rails of its group off. A further try turns the rail on again and awaits it. R383, R384, R500: a running fault of a good rail clears its good bit, sets its fail bit and is reported by its class; in shut-down it is counted as a glitch with no other effect. A short loss of power-good is counted. A rail that is not good does not answer to either. -/
def Obligations.RailFailures : Prop :=
  (∀ (s : State) (r : Fin 33) (boot : BootEnv),
     let c := s.bump PWR_SEQ_STS_CHATTER 1
     let rest := s.pwr.waiting &&& ~~~(railBit r.val)
     let marked := (fun (u t : State) => t.railFailBit r.val = true ∧
       t.pwr = { s.pwr with waiting := rest, failed := s.pwr.failed ||| railBit r.val } ∧
       t.flt = (u.reportSev .critical .railNoStart (railSource r.val) (railQual r.val) 0).flt ∧
       OnlyFields [PWR_RAIL_FAIL, PWR_FSW_FAIL] { u with pwr := t.pwr, flt := t.flt } t)
     let held := (fun (t : State) => t.railFailBit r.val = true ∧ t.fld PWR_SEQ_STS_STATE = 4 ∧
       t.pwr = { s.pwr with waiting := rest, failed := s.pwr.failed ||| railBit r.val } ∧ t.sys = s.sys ∧ t.dram = s.dram ∧ t.flash = s.flash)
     let off := (fun (u t : State) => t.railFailBit r.val = true ∧ t.railGood r.val = false ∧
       t.pwr = { s.pwr with waiting := rest, en := s.pwr.en &&& ~~~(railBit r.val) } ∧
       t.flt = (u.reportSev .fault .railNoStart (railSource r.val) (railQual r.val) 0).flt ∧
       OnlyFields [PWR_RAIL_FAIL, PWR_RAIL_STS] { u with pwr := t.pwr, flt := t.flt } t)
     let fenced := (fun (t : State) => t.flag (FCE_STS_FENCED (r.val - 16)) = true ∧ t.railFailBit r.val = true ∧ railIn t.pwr.en r.val = false ∧
       t.pwr.waiting = rest ∧ t.sys = s.sys ∧ t.dram = s.dram)
     let lost := (fun (n : Nat) (t : State) => smapFind t.pwr.retries r.val = some (n - 1) ∧ railIn t.pwr.en r.val = false ∧ t.railGood r.val = false ∧
       t.pwr.waiting = rest ∧ t.sys = s.sys ∧ t.dram = s.dram)
     let grouped := (fun (t : State) => smapFind t.pwr.retries r.val = none ∧ (∀ k ∈ s.groupRails r.val, railIn t.pwr.en k = false) ∧
       t.pwr.waiting = rest ∧ t.sys = s.sys ∧ t.dram = s.dram)
     (railIn s.pwr.waiting r.val = false ∨ s.sys.mode = .shutDown →
       Answers (.railNoStart r boot) s (fun t => t = s) ∧ Answers (.railChatter r boot) s (fun t => t = c)) ∧
     (railIn s.pwr.waiting r.val = true → s.sys.mode ≠ .shutDown → smapFind s.pwr.retries r.val = none →
       (s.sys.mode = .powerUp → railPersist r.val = true →
         Answers (.railNoStart r boot) s (fun t => DownFrom s t 2 true) ∧ Answers (.railChatter r boot) s (fun t => DownFrom s t 2 true)) ∧
       (s.sys.mode ≠ .powerUp → railPersist r.val = true → rest ≠ 0 →
         Answers (.railNoStart r boot) s (marked s) ∧ Answers (.railChatter r boot) s (marked c)) ∧
       (s.sys.mode = .rebound → railPersist r.val = true → rest = 0 → s.fld PWR_SEQ_STS_STATE = 1 →
         Answers (.railNoStart r boot) s held ∧ Answers (.railChatter r boot) s held) ∧
       ((r.val = 14 ∨ r.val = 15) → (rest ≠ 0 ∨ s.fld PWR_SEQ_STS_STATE ≠ 1) →
         Answers (.railNoStart r boot) s (off s) ∧ Answers (.railChatter r boot) s (off c)) ∧
       (16 ≤ r.val → s.sys.mode ≠ .save → (rest ≠ 0 ∨ s.fld PWR_SEQ_STS_STATE ≠ 1) →
         Answers (.railNoStart r boot) s fenced ∧ Answers (.railChatter r boot) s fenced)) ∧
     (∀ n, railIn s.pwr.waiting r.val = true → s.sys.mode ≠ .shutDown → smapFind s.pwr.retries r.val = some n →
       (1 < n → Answers (.railNoStart r boot) s (lost n) ∧ Answers (.railChatter r boot) s (lost n)) ∧
       (n ≤ 1 → s.sys.mode ≠ .save → Answers (.railNoStart r boot) s grouped ∧ Answers (.railChatter r boot) s grouped)) ∧
     ((smapFind s.pwr.retries r.val = none ∨ railIn s.pwr.waiting r.val = true) → Answers (.railRetryTry r) s (fun t => t = s)) ∧
     (smapFind s.pwr.retries r.val ≠ none → railIn s.pwr.waiting r.val = false → Answers (.railRetryTry r) s (fun t =>
       t = { s with pwr := { s.pwr with waiting := s.pwr.waiting ||| railBit r.val, en := s.pwr.en ||| railBit r.val } }))) ∧
  (∀ (s : State) (r : Fin 33),
     (s.railGood r.val = false → Answers (.railFault r) s (fun t => t = s) ∧ Answers (.railGlitch r) s (fun t => t = s)) ∧
     (s.railGood r.val = true → Answers (.railGlitch r) s (fun t => t = s.bump PWR_SEQ_STS_GLITCH 1)) ∧
     (s.railGood r.val = true → s.sys.mode ≠ .shutDown → Answers (.railFault r) s (fun t =>
       t.railGood r.val = false ∧ t.railFailBit r.val = true ∧
       t.flt = (s.reportSev (if railPersist r.val then .critical else .fault) .railFault (railSource r.val) (railQual r.val) 0).flt ∧
       OnlyFields [PWR_RAIL_STS, PWR_FSW_STS, PWR_RAIL_FAIL, PWR_FSW_FAIL] { s with flt := t.flt } t)) ∧
     (s.railGood r.val = true → s.sys.mode = .shutDown → Answers (.railFault r) s (fun t => t = s.bump PWR_SEQ_STS_GLITCH 1)))

/-- R376 to R379, R383, R390, R398, Tables 13-6, 13-8: a telemetry poll keeps the samples of the rails that exist and marks the marionettes whose transfer failed, whose rails that are not good are disarmed in power-up; a latched STATUS bit of a good rail is a running fault of it; before step 5 of the power-up, and in off, a poll does nothing. A reset output rises when its causes are gone: none in off or before a gate is on, RSTO_AUX_n not in shut-down nor while the sequence is under way. The second of RSTO_PMIC_n and RSTO_PACK_n to rise in power-up arms the rails of the marionettes that answered and raises the enables of stage 0. A domain fault sets its bit and is reported. -/
def Obligations.TelemetryAndResets : Prop :=
  ∀ (s : State),
    (∀ (xs : List (Fin 16 × BitVec 16 × BitVec 16)) (c : Fin 16) (v i : BitVec 16) (latched n : BitVec 16) (bad : BitVec 6),
      ((s.sys.mode = .off ∨ (s.sys.mode = .powerUp ∧ s.pwr.mbEnv ≠ none) ∨ s.fld SPT_STS_SEQ = 7) → Answers (.telemetryPoll xs latched bad n) s (fun t => t = s)) ∧
      (s.sys.mode ≠ .off → (s.sys.mode ≠ .powerUp ∨ s.pwr.mbEnv = none) → s.fld SPT_STS_SEQ ≠ 7 → s.railExists c.val = true →
        let out := bad.toNat &&& s.fld PWR_MB_STS_PRESENT
        Answers (.telemetryPoll (xs ++ [(c, v, i)]) latched bad n) s (fun t =>
        smapFind t.pwr.telem c.val = some (v.toNat, i.toNat) ∧ t.fld PWR_MB_STS_FAULTED = s.fld PWR_MB_STS_FAULTED ||| out ∧
        (∀ k, (∀ x ∈ xs, x.1.val ≠ k) → k ≠ c.val → smapFind t.pwr.telem k = smapFind s.pwr.telem k) ∧
        (∀ k < 16, latched.getLsbD k = true → s.railGood k = true → s.sys.mode ≠ .shutDown → t.bit PWR_RAIL_FAIL k = true) ∧
        t.pwr.armed = (if s.sys.mode = .powerUp then (s.disarm out).pwr.armed else s.pwr.armed) ∧
        (latched = 0 → OnlyFields [PWR_MB_STS_FAULTED, PWR_MB_STS_RETRIES] { s with pwr := { s.pwr with telem := t.pwr.telem, armed := t.pwr.armed }, flt := t.flt } t)))) ∧
    (∀ p, (s.sys.mode = .off ∨ s.gatesSet = false) → Answers (.resetOutputRise p) s (fun t => t = s)) ∧
    (s.sys.mode ≠ .off → s.gatesSet = true →
      let five := (s.sys.mode = .powerUp ∨ s.sys.mode = .keeper) ∧ s.pwr.mbEnv ≠ none
      let up := (fun (t : State) => t.flag PWR_RSTO_PMIC_LOW = false ∧ t.flag PWR_RSTO_PACK_LOW = false ∧ t.pwr.mbEnv = none ∧ t.fld PWR_SEQ_STS_STATE = 1 ∧
        t.fld PWR_SEQ_STS_STAGE = 0 ∧ t.pwr.en = s.pwr.en ||| s.stageRails 0 ∧ t.sys = s.sys ∧ t.dram = s.dram ∧
        (∀ k < 16, t.pwr.armed.getLsbD k = (s.railExists k && !(t.fld PWR_MB_STS_FAULTED).testBit (s.fld (PWR_RAIL_CFG_MB k)))))
      ((s.flag PWR_RSTO_PACK_LOW = true ∨ ¬ five) → Answers (.resetOutputRise .pmic) s (fun t => t = s.setFlag PWR_RSTO_PMIC_LOW false)) ∧
      ((s.flag PWR_RSTO_PMIC_LOW = true ∨ ¬ five) → Answers (.resetOutputRise .pack) s (fun t => t = s.setFlag PWR_RSTO_PACK_LOW false)) ∧
      (s.flag PWR_RSTO_PACK_LOW = false → five → Answers (.resetOutputRise .pmic) s up) ∧
      (s.flag PWR_RSTO_PMIC_LOW = false → five → Answers (.resetOutputRise .pack) s up) ∧
      (let waits := s.sys.mode = .shutDown ∨ ((s.sys.mode = .powerUp ∨ s.sys.mode = .rebound ∨ s.sys.mode = .keeper) ∧ s.fld PWR_SEQ_STS_STATE ≠ 2)
       (waits → Answers (.resetOutputRise .aux) s (fun t => t = s)) ∧
       (¬ waits → Answers (.resetOutputRise .aux) s (fun t => t = s.setFlag PWR_RSTO_AUX_LOW false)))) ∧
    ∀ (d : Fin 148), (s.sys.mode = .off → Answers (.domainFault d) s (fun t => t = s)) ∧
      (s.sys.mode ≠ .off → Answers (.domainFault d) s (fun t =>
        t.bit (DOM_FLT (d.val / 32)) (d.val % 32) = true ∧ t.flt.inflight = (s.report .domainFault d.val d.val 0).flt.inflight ∧
        (∀ i : Nat, i ≠ d.val % 32 → t.bit (DOM_FLT (d.val / 32)) i = s.bit (DOM_FLT (d.val / 32)) i) ∧
        OnlyFields [DOM_FLT (d.val / 32)] { s with flt := t.flt } t))

/-- R29, R79, R368, R427, Table 13-6 step 9, Table 14-7: the first kite is granted in power-up to core A if it is alive, otherwise to core B, once an attach attempt is open and the boot test has ended; the mode is then attach, which runs DECIDE and stands in TRAIN with the backoff count at 0. Otherwise nothing changes. -/
def Obligations.FirstKite : Prop :=
  ∀ (s : State) (core : CoreId) (env : DecideEnv),
    (s.sys.mode ≠ .powerUp ∨ s.sys.attempt = false ∨ s.pwr.bootDone = false ∨ s.firstCore ≠ some core → Answers (.firstKiteGrant core env) s (fun t => t = s)) ∧
    (s.sys.mode = .powerUp → s.sys.attempt = true → s.pwr.bootDone = true →
      (s.flag SPT_HB_A_ALIVE = true ∧ core = .a ∨ s.flag SPT_HB_A_ALIVE = false ∧ s.flag SPT_HB_B_ALIVE = true ∧ core = .b) →
      Answers (.firstKiteGrant core env) s (fun t =>
        t.sys.mode = .attach ∧ t.sys.phase = .train ∧ t.kite.request = none ∧ t.kite.holderDead = false ∧ t.fld SPT_KITE_HOLDER = (match core with | .a => 1 | .b => 2) ∧
        t.pwr.backoff = 0 ∧ t.dram = s.dram ∧ t.flash.images = s.flash.images))

/-- R379 step 7, R392, R394, R396, Tables 4-7, 13-1, 13-10: with feed A good and no test under way, the boot test in power-up once RSTO_PACK_n is high, the periodic test in service and lull, the catch-up test at the first full charge, and PACK_TEST each start a capacitance test by the pack's answer: none and a fault end it at once, and otherwise it settles with the charger off. A second boot test and a full charge with no catch-up due start none, nor do these two without a good feed A; a periodic test in another mode, or without a good feed A, waits, and one that a test under way overtakes is due no more; PACK_TEST joins a test that is under way, is refused for an undefined byte 8, and ends FEED_A without a good feed A. R391 to R395, Table 13-10: a settled test whose V0 lies above V_floor turns the load on where the pack answers, and ends without an answer; at or below V_floor it ends LOW with the charger as it was, off. The loaded sample V1 is kept. A V2 without an answer to the current ends the test. With the current between 1 and 10 A and a droop of at least 20 mV, V2 ends the test with ESR = (V0 − V1) / I and C = I × T / (V1 − V2) rounded down to 10, and the energy that follows, C_VALID set; a current out of range ends it LOAD and a smaller droop SAG, both with the charger on. A sample in another step of a test changes nothing. A voltage test outside off and save, with C_VALID set and no test under way, computes the energy anew from V0; C_VALID's expiry clears it and the energy. -/
def Obligations.PackTests : Prop :=
  (∀ (s : State) (answer : Option PackStatus),
     ((s.sys.mode ≠ .powerUp ∨ s.flag PWR_RSTO_PACK_LOW = true ∨ s.pwr.bootDone = true ∨ s.flag PWR_FEED_STS_A_GOOD = false) → Answers (.bootTest answer) s (fun t => t = s)) ∧
     (s.sys.mode = .off → Answers (.capTestPeriodic answer) s (fun t => t = s)) ∧
     (s.sys.mode ≠ .off → s.sys.mode ≠ .service → s.sys.mode ≠ .lull →
       Answers (.capTestPeriodic answer) s (fun t => t = { s with pwr := { s.pwr with periodicDue := some answer } })) ∧
     ((s.sys.mode = .service ∨ s.sys.mode = .lull) → s.pwr.test = none → s.flag PWR_FEED_STS_A_GOOD = false →
       Answers (.capTestPeriodic answer) s (fun t => t = { s with pwr := { s.pwr with periodicDue := some answer } })) ∧
     ((s.sys.mode = .service ∨ s.sys.mode = .lull) → s.pwr.test ≠ none → Answers (.capTestPeriodic answer) s (fun t => t = { s with pwr := { s.pwr with periodicDue := none } })) ∧
     ((s.pwr.catchUp = false ∨ s.flag PWR_FEED_STS_A_GOOD = false) → Answers (.packCharged answer) s (fun t => t = s.setFlag PWR_PACK_STS_CHARGED true)) ∧
     (∀ src, s.findExec src 0x13 = none → Answers (.packTest src answer) s (fun t => t = s)) ∧
     (∀ src e, s.findExec src 0x13 = some e → pktField e.bytes 8 1 ≠ 0 → Answers (.packTest src answer) s (fun t => t = s.complete e stNotPermitted [] (atByte 8))) ∧
     (∀ src e, s.findExec src 0x13 = some e → pktField e.bytes 8 1 = 0 → s.pwr.test ≠ none →
       Answers (.packTest src answer) s (fun t => t = s.setExec e { e with started := true, aux := 0 })) ∧
     (∀ src e, s.findExec src 0x13 = some e → pktField e.bytes 8 1 = 0 → s.pwr.test = none → s.flag PWR_FEED_STS_A_GOOD = false →
       Answers (.packTest src answer) s (fun t => t.pwr.test = none ∧ t.fld PWR_PACK_STS_FAIL = 3 ∧ t.flag PWR_PACK_STS_TEST_FAIL = true ∧ t.dram = s.dram)) ∧
     (s.pwr.test = none → s.flag PWR_FEED_STS_A_GOOD = true →
       (s.sys.mode = .powerUp → s.flag PWR_RSTO_PACK_LOW = false → s.pwr.bootDone = false → Answers (.bootTest answer) s (fun t =>
         PackTestFrom .boot answer t ∧ t.pwr.bootDone = t.pwr.test.isNone ∧ t.sys = s.sys ∧ t.dram = s.dram ∧ t.flash = s.flash)) ∧
       ((s.sys.mode = .service ∨ s.sys.mode = .lull) → Answers (.capTestPeriodic answer) s (fun t =>
         PackTestFrom .periodic answer t ∧ t.pwr.periodicDue = none ∧ t.sys = s.sys ∧ t.dram = s.dram ∧ t.flash = s.flash)) ∧
       (s.pwr.catchUp = true → Answers (.packCharged answer) s (fun t =>
         PackTestFrom .catchUp answer t ∧ t.pwr.catchUp = false ∧ t.sys = s.sys ∧ t.dram = s.dram ∧ t.flash = s.flash)) ∧
       (∀ src e, s.findExec src 0x13 = some e → pktField e.bytes 8 1 = 0 → Answers (.packTest src answer) s (fun t =>
         PackTestFrom .packet answer t ∧ t.sys = s.sys ∧ t.dram = s.dram ∧ t.flash = s.flash)))) ∧
  (∀ (s : State) (v : BitVec 16),
     (∀ k (ans : Bool), s.pwr.test = some (k, .settling) →
       let floor := vFloor (if s.pwr.capOk then s.fld PWR_PACK_ESR else 0)
       (floor < v.toNat → Answers (.capTestSettled ⟨v, true⟩) s (fun t => t = { s with pwr := { s.pwr with test := some (k, .loaded v.toNat), load := true } })) ∧
       (floor < v.toNat → Answers (.capTestSettled ⟨v, false⟩) s (fun t =>
         t.pwr.test = none ∧ t.pwr.load = false ∧ t.fld PWR_PACK_STS_FAIL = 1 ∧ t.flag PWR_PACK_STS_TESTING = false ∧ t.sys = s.sys ∧ t.dram = s.dram)) ∧
       (v.toNat ≤ floor → Answers (.capTestSettled ⟨v, ans⟩) s (fun t =>
         t.pwr.test = none ∧ t.pwr.load = false ∧ t.pwr.charger = s.pwr.charger ∧ t.fld PWR_PACK_STS_FAIL = 6 ∧ t.flag PWR_PACK_STS_TESTING = false ∧ t.sys = s.sys ∧ t.dram = s.dram)) ∧
       Answers (.capTestV1Sample v) s (fun t => t = s)) ∧
     (∀ (k : PackTestKind) (v0 : Nat) (ans : Bool), s.pwr.test = some (k, .loaded v0) → Answers (.capTestSettled ⟨v, ans⟩) s (fun t => t = s) ∧
       Answers (.capTestV1Sample v) s (fun t => t = { s with pwr := { s.pwr with test := some (k, .v1 v0 v.toNat) } })) ∧
     (∀ i c, (∀ k v0 v1, s.pwr.test ≠ some (k, .v1 v0 v1)) → Answers (.capTestV2Sample v i c) s (fun t => t = s)) ∧
     (∀ k v0 v1 (c : BitVec 16), s.pwr.test = some (k, .v1 v0 v1) → Answers (.capTestV2Sample v none c) s (fun t =>
       t.pwr.test = none ∧ t.fld PWR_PACK_STS_FAIL = 1 ∧ t.fld PWR_PACK_C = s.fld PWR_PACK_C ∧ t.fld PWR_PACK_ESR = s.fld PWR_PACK_ESR ∧ t.dram = s.dram)) ∧
     (∀ k v0 v1 (i c : BitVec 16), s.pwr.test = some (k, .v1 v0 v1) →
       ((i.toNat < 1000 ∨ 10000 < i.toNat) → Answers (.capTestV2Sample v (some i) c) s (fun t =>
         t.pwr.test = none ∧ t.pwr.charger = true ∧ t.fld PWR_PACK_STS_FAIL = 4 ∧ t.fld PWR_PACK_C = s.fld PWR_PACK_C ∧ t.fld PWR_PACK_ESR = s.fld PWR_PACK_ESR ∧ t.dram = s.dram)) ∧
       (1000 ≤ i.toNat → i.toNat ≤ 10000 → v1 < v.toNat + 20 → Answers (.capTestV2Sample v (some i) c) s (fun t =>
         t.pwr.test = none ∧ t.pwr.charger = true ∧ t.fld PWR_PACK_STS_FAIL = 5 ∧ t.fld PWR_PACK_C = s.fld PWR_PACK_C ∧ t.fld PWR_PACK_ESR = s.fld PWR_PACK_ESR ∧ t.dram = s.dram)) ∧
       (1000 ≤ i.toNat → i.toNat ≤ 10000 → v.toNat + 20 ≤ v1 → v1 ≤ v0 → v0 < 65536 → Answers (.capTestV2Sample v (some i) c) s (fun t =>
         t.pwr.test = none ∧ t.pwr.load = false ∧ t.pwr.charger = true ∧ t.pwr.capOk = true ∧ t.flag PWR_PACK_STS_C_VALID = true ∧
         t.fld PWR_PACK_ESR = (v0 - v1) * 1000000 / i.toNat ∧ t.fld PWR_PACK_C = i.toNat * s.fld PWR_PACK_CTL_T_MS / (v1 - v.toNat) / 10 * 10 ∧
         t.fld PWR_PACK_V0_V0 = v0 ∧ t.fld PWR_PACK_E = packEnergy (t.fld PWR_PACK_C) (t.fld PWR_PACK_ESR) v0 % 2 ^ 32 ∧
         t.fld PWR_PACK_STS_FAIL = (if v0 ≤ vFloor (t.fld PWR_PACK_ESR) then 6 else 0) ∧ t.dram = s.dram))) ∧
     ((s.sys.mode = .off ∨ s.sys.mode = .save ∨ s.flag PWR_PACK_STS_C_VALID = false ∨ s.pwr.test ≠ none) → Answers (.voltageTest v) s (fun t => t = s)) ∧
     (s.sys.mode ≠ .off → s.sys.mode ≠ .save → s.flag PWR_PACK_STS_C_VALID = true → s.pwr.test = none → Answers (.voltageTest v) s (fun t =>
       t.fld PWR_PACK_V0_V0 = v.toNat ∧ t.fld PWR_PACK_E = packEnergy (s.fld PWR_PACK_C) (s.fld PWR_PACK_ESR) v.toNat % 2 ^ 32 ∧
       t.fld PWR_PACK_C = s.fld PWR_PACK_C ∧ t.pwr = s.pwr ∧ t.sys = s.sys ∧ t.dram = s.dram)) ∧
     Answers .cValidExpiry s (fun t => t.flag PWR_PACK_STS_C_VALID = false ∧ t.fld PWR_PACK_E = 0 ∧ t.flag PWR_PACK_STS_ZERO_E = true ∧
       OnlyFields [PWR_PACK_STS_C_VALID, PWR_PACK_E, PWR_PACK_STS_ZERO_E] s t))

/-- R248, R249, R251, R255, R284, Tables 4-7, 8-7, 8-9: CONFIG_STAGE at offset 0 discards what the inactive twin held and waits for its erase; at the expected offset it takes a chunk, a full buffer goes to flash as the next data ear where the die takes it, and with the last chunk a checked image stands in slot 0 of the inactive twin, the active twin unchanged, while a failed check refuses with its reason. An unexpected offset or total is OUT_OF_ORDER and a total out of range is refused at byte 12. CONFIG_ACTIVATE of the staged generation, when it is admitted, makes the other twin the active one, with the plan loaded and NO_PLAN clear; one that is not admitted changes neither, an absent one is refused with reason 4, and a short pack with PACK_SHORT. CONFIG_REVERT selects slot 1 and loads its image, or is refused with reason 0x0D. A packet that an earlier activation or revert still precedes is BUSY. -/
def Obligations.Generations : Prop :=
  ∀ (s : State) (src : PktSrc),
    (s.findExec src 0x0C = none → Answers (.configStage src) s (fun t => t = s)) ∧
    (s.findExec src 0x0D = none → Answers (.configActivate src) s (fun t => t = s)) ∧
    (s.findExec src 0x0E = none → Answers (.configRevert src) s (fun t => t = s)) ∧
    (∀ e, s.findExec src 0x0C = some e →
      let off := pktField e.bytes 8 4
      let tot := pktField e.bytes 12 4
      (s.configFirst e = true → Answers (.configStage src) s (fun t => t = s.completeCode e stBusy)) ∧
      (s.configFirst e = false → off = 0 → (tot = 0 ∨ 524288 < tot) → Answers (.configStage src) s (fun t => t = s.complete e stNotPermitted [] (atByte 12))) ∧
      (s.configFirst e = false → off = 0 → 0 < tot → tot ≤ 524288 → s.flash.boot = none → Answers (.configStage src) s (fun t => t = s.completeCode e stBusy)) ∧
      (∀ b, s.configFirst e = false → off = 0 → 0 < tot → tot ≤ 524288 → s.flash.boot = some b → Answers (.configStage src) s (fun t =>
        t.pln.staging = some ⟨tot, 0, [], 0, [], 0, true, 0⟩ ∧ (∀ k, k / 3 = 1 - b.twin → smapFind t.flash.twins k = none) ∧
        (∀ k, k / 3 ≠ 1 - b.twin → smapFind t.flash.twins k = smapFind s.flash.twins k) ∧ t.flash.boot = some b ∧ t.dram = s.dram)) ∧
      (s.configFirst e = false → off ≠ 0 → s.pln.staging = none → Answers (.configStage src) s (fun t => t = s.complete e stOutOfOrder [] (atByte 8))) ∧
      (∀ g, s.configFirst e = false → off ≠ 0 → s.pln.staging = some g →
        (off ≠ g.got → Answers (.configStage src) s (fun t => t = s.complete e stOutOfOrder [] (atByte 8))) ∧
        (off = g.got → tot ≠ g.total → Answers (.configStage src) s (fun t => t = s.complete e stOutOfOrder [] (atByte 12))) ∧
        (∀ b, off = g.got → tot = g.total → s.flash.boot = some b →
          let u : State := { s with pln := { s.pln with undo := none } }
          let bs := sliceBytes e.bytes 16 (min 40 (g.total - g.got))
          let n := s.twinStook (1 - b.twin)
          let h : Staging := { g with got := g.got + bs.length, buf := g.buf ++ bs }
          let k := if 65536 ≤ h.buf.length then u.stageEar n h else (h, u)
          let last := k.2.stageLast n k.1
          let m := last.2.stageRead n last.1
          let bad := State.stagedBad { last.2 with pln := { last.2.pln with staging := none } } m
          (h.got < g.total → h.buf.length < 65536 → Answers (.configStage src) s (fun t =>
            t = State.complete { u with pln := { u.pln with staging := some h } } e stOk (leBytes 4 h.got ++ leBytes 4 0) noByte)) ∧
          (h.got < g.total → 65536 ≤ h.buf.length → Answers (.configStage src) s (fun t =>
            t.pln.staging = some { k.1 with ears := g.ears + 1, buf := h.buf.drop 65536 } ∧
            (s.dieOpen (earChannel g.page g.ears) (stookDie n) = true →
              ∃ v, smapFind t.flash.ears (s.stageKey n g g.ears) = some v ∧ v.body = .data (linesOf (h.buf.take 65536)) (metaTemplate 0x0C 0 g.ears 0 g.gen 0 0 [])) ∧
            t.flash.twins = s.flash.twins ∧ t.flash.boot = s.flash.boot ∧ t.dram = s.dram)) ∧
          (g.total ≤ h.got → b.twin ≤ 1 → Answers (.configStage src) s (fun t =>
            t.pln.staging = none ∧ t.pln.image = s.pln.image ∧ t.dram = s.dram ∧
            (bad ≠ none → t.fld PLN_REFUSE_CODE = stNotPermitted ∧ t.flash.twins = s.flash.twins ∧ t.flash.boot = s.flash.boot) ∧
            (bad = none → smapFind t.flash.twins ((1 - b.twin) * 3 + 1) = some m ∧
              (∀ k, k / 3 ≠ 1 - b.twin → smapFind t.flash.twins k = smapFind s.flash.twins k) ∧
              ∃ c, t.flash.boot = some c ∧ c.twin = b.twin ∧ c.slot = b.slot ∧ c.no = b.no + 1)))))) ∧
    (∀ e, s.findExec src 0x0D = some e → s.configFirst e = true → Answers (.configActivate src) s (fun t => t = s.completeCode e stBusy)) ∧
    (∀ e, s.findExec src 0x0D = some e → s.configFirst e = false → ∀ b, s.flash.boot = some b →
      ((s.stagedGen b = 0 ∨ pktField e.bytes 8 4 ≠ s.stagedGen b ∨ s.stagedImage b = none) → Answers (.configActivate src) s (fun t => t = s.refuseConfig e 0x04)) ∧
      (∀ m, s.stagedGen b ≠ 0 → pktField e.bytes 8 4 = s.stagedGen b → s.stagedImage b = some m →
        (s.flag PLN_STS_PACK_SHORT = true → Answers (.configActivate src) s (fun t =>
          t.fld PLN_REFUSE_CODE = stPackShort ∧ t.flash = s.flash ∧ t.pln.image = s.pln.image ∧ t.sys = s.sys ∧ t.dram = s.dram)) ∧
        (s.flag PLN_STS_PACK_SHORT = false → (s.judge m s.usableEnergy).code ≠ stOk → Answers (.configActivate src) s (fun t =>
          t.flash = s.flash ∧ t.pln.image = s.pln.image ∧ t.sys = s.sys ∧ t.dram = s.dram)) ∧
        (s.flag PLN_STS_PACK_SHORT = false → (s.judge m s.usableEnergy).code = stOk → Answers (.configActivate src) s (fun t =>
          (∃ c, t.flash.boot = some c ∧ c.twin = 1 - b.twin ∧ c.slot = 0 ∧ c.high = imgGen m ∧ c.no = b.no + 1) ∧ t.pln.image = m ∧
          t.flag CFG_MODE_NO_PLAN = false ∧ t.flash.twins = s.flash.twins ∧ t.sys = s.sys ∧ t.dram = s.dram)))) ∧
    (∀ e, s.findExec src 0x0E = some e → s.configFirst e = true → Answers (.configRevert src) s (fun t => t = s.completeCode e stBusy)) ∧
    (∀ e, s.findExec src 0x0E = some e → s.configFirst e = false → ∀ b, s.flash.boot = some b →
      let named := pktField e.bytes 8 4 = 0 ∨ pktField e.bytes 8 4 = b.active
      ((b.prev = 0 ∨ ¬ named ∨ smapFind s.flash.twins (b.twin * 3 + 2) = none) → Answers (.configRevert src) s (fun t => t = s.refuseConfig e 0x0D)) ∧
      (∀ m, b.prev ≠ 0 → named → smapFind s.flash.twins (b.twin * 3 + 2) = some m → Answers (.configRevert src) s (fun t =>
        (∃ c, t.flash.boot = some c ∧ c.twin = b.twin ∧ c.slot = 1 ∧ c.no = b.no + 1) ∧ t.pln.image = m ∧ t.flash.twins = s.flash.twins ∧ t.sys = s.sys ∧ t.dram = s.dram)))

/-- R16, R237, R347, Tables 8-4, 8-6, 13-14: at each window the count is judged against the promise of the sampled operating point, which for a point on the grid is that of the corner table, and against the corner promise; the feeds and the crystal are shown as sampled. In off there is no window. -/
def Obligations.PaceWindow : Prop :=
  ∀ (s : State) (env : PaceEnv),
    (s.sys.mode = .off → Answers (.paceWindowEnd env) s (fun t => t = s)) ∧
    (s.sys.mode ≠ .off → Answers (.paceWindowEnd env) s (fun t =>
      t.fld PLN_PACE_COUNT = env.count.toNat % 2 ^ PLN_PACE_COUNT.w ∧ t.flag PLN_PACE_STS_CORNER_LOW = decide (env.count.toNat < s.corner 0xD1 % 65536) ∧
      t.flag PLN_PACE_STS_RANGE = (decide (env.vdd.toNat < 600) || decide (110 < env.temp.toInt)) ∧
      t.fld PWR_FEED_V_A = env.feedA.toNat % 2 ^ PWR_FEED_V_A.w ∧ t.fld PWR_FEED_V_B = env.feedB.toNat % 2 ^ PWR_FEED_V_B.w ∧ t.sys = s.sys ∧ t.dram = s.dram ∧ t.flash = s.flash)) ∧
    ∀ v k, s.sys.mode ≠ .off → paceV env.vdd.toNat = some v → paceT env.temp.toInt = some k → Answers (.paceWindowEnd env) s (fun t =>
      t.fld PLN_PACE_PROMISE = s.corner (0xC0 + 6 * v + k) % 65536 ∧ t.fld PLN_PACE_STS_V_IDX = v ∧ t.fld PLN_PACE_STS_T_IDX = k ∧
      t.flag PLN_PACE_STS_LOCAL_LOW = decide (env.count.toNat < s.corner (0xC0 + 6 * v + k) % 65536))

/-- R296, R299 to R310, Tables 10-3, 10-7, 10-8: when its queue is granted and its head is its operation, a READ makes an idle die READING and, on another block than the suspended erase, a suspended die NESTED_READ, and shows the status of a die that programs or erases; a PROGRAM that the write pointer admits makes the die PROGRAMMING, or a suspended one NESTED_PROGRAM, with the pointer one page on, holds the first two ears of a TLC triple, and is refused with its code otherwise; a READ or PROGRAM on the block of the suspended erase answers 0x0E; an ERASE makes the die ERASING; a SUSPEND of a running erase makes it SUSPENDING, and answers 0x09 when eight suspensions are used and 0x08 where none runs or the erase was ready first; a RESUME makes a suspended erase run again, and answers 0x0A where none is suspended; an ABORT resets the die of a running or held target, withdraws a queued one, is too late for one that was ready first, and answers 0x13 where there is none; STATUS posts the die's status; PARAM makes the die READING. The descriptor leaves its queue. R294 to R297, R314, R320: an engine starts nothing from a queue that is not granted, on a fenced channel, with no room for its completions, while a write of its interface registers holds the starts, or before attach. -/
def Obligations.FlashStarts : Prop :=
  (∀ (s : State) (ch : Fin 17) (die : Fin 4) (low : Bool) (x : List Byte), FceGranted s ch.val die.val low x →
     let v := s.die ch.val die.val
     let w := v.pop low
     let run : FRun := ⟨x, low, s.tick⟩
     (dOp x = 1 → v.st = .idle → Answers (.fceRead ch die low) s (fun t =>
       t.die ch.val die.val = { w with st := .reading, op := some run } ∧ Posted s t ch.val [] ∧ OnlyDie s t ch.val die.val)) ∧
     (dOp x = 1 → v.st = .suspended → v.eraseBlock ≠ some (dBlock x) → Answers (.fceRead ch die low) s (fun t =>
       t.die ch.val die.val = { w with st := .nestedRead, op := some run } ∧ Posted s t ch.val [] ∧ OnlyDie s t ch.val die.val)) ∧
     (dOp x = 1 → v.st = .suspended → v.eraseBlock = some (dBlock x) → Answers (.fceRead ch die low) s (fun t =>
       t.die ch.val die.val = w ∧ Posted s t ch.val [0x0E] ∧ OnlyDie s t ch.val die.val)) ∧
     (dOp x = 1 → (v.st = .programming ∨ v.st = .erasing) → Answers (.fceRead ch die low) s (fun t =>
       t.die ch.val die.val = w ∧ Posted s t ch.val [0x05] ∧ OnlyDie s t ch.val die.val)) ∧
     (dOp x = 2 → v.st = .idle → dTlc x = false → s.programCheck ch.val die.val x = none → Answers (.fceProgram ch die low) s (fun t =>
       (t.die ch.val die.val).st = .programming ∧ (t.die ch.val die.val).op = some run ∧ smapFind (t.die ch.val die.val).ptrs (dBlock x) = some (false, some (dPage x + 1)) ∧
       Posted s t ch.val [] ∧ OnlyDie s t ch.val die.val)) ∧
     (dOp x = 2 → v.st = .idle → dTlc x = true → dPage x % 3 ≠ 2 → s.programCheck ch.val die.val x = none → Answers (.fceProgram ch die low) s (fun t =>
       t.die ch.val die.val = { w with held := v.held ++ [run] } ∧ Posted s t ch.val [] ∧ OnlyDie s t ch.val die.val)) ∧
     (dOp x = 2 → v.st = .suspended → v.eraseBlock ≠ some (dBlock x) → dTlc x = false → s.programCheck ch.val die.val x = none → Answers (.fceProgram ch die low) s (fun t =>
       (t.die ch.val die.val).st = .nestedProgram ∧ (t.die ch.val die.val).op = some run ∧ smapFind (t.die ch.val die.val).ptrs (dBlock x) = some (false, some (dPage x + 1)) ∧
       Posted s t ch.val [] ∧ OnlyDie s t ch.val die.val)) ∧
     (dOp x = 2 → v.st = .suspended → v.eraseBlock = some (dBlock x) → Answers (.fceProgram ch die low) s (fun t =>
       t.die ch.val die.val = w ∧ Posted s t ch.val [0x0E] ∧ OnlyDie s t ch.val die.val)) ∧
     (∀ code, dOp x = 2 → v.st = .idle → s.programCheck ch.val die.val x = some code → Answers (.fceProgram ch die low) s (fun t =>
       t.die ch.val die.val = w ∧ Posted s t ch.val [code] ∧ OnlyDie s t ch.val die.val)) ∧
     (dOp x = 3 → Answers (.fceErase ch die low) s (fun t =>
       t.die ch.val die.val = { w with st := .erasing, erase := some run, susp := 0 } ∧ Posted s t ch.val [] ∧ OnlyDie s t ch.val die.val)) ∧
     (∀ r, dOp x = 4 → v.st = .erasing → v.erase = some r → v.susp ≠ 8 → Answers (.fceSuspend ch die low none) s (fun t =>
       t.die ch.val die.val = { w with st := .suspending, suspendD := some run } ∧ Posted s t ch.val [] ∧ OnlyDie s t ch.val die.val)) ∧
     (∀ r p, dOp x = 4 → v.st = .erasing → v.erase = some r → v.susp = 8 → Answers (.fceSuspend ch die low p) s (fun t =>
       t.die ch.val die.val = w ∧ Posted s t ch.val [0x09] ∧ OnlyDie s t ch.val die.val)) ∧
     (∀ r pl, dOp x = 4 → v.st = .erasing → v.erase = some r → v.susp ≠ 8 → Answers (.fceSuspend ch die low (some pl)) s (fun t =>
       (t.die ch.val die.val).st = .idle ∧ (t.die ch.val die.val).erase = none ∧ Posted s t ch.val [if pl.fail then 0x02 else 0, 0x08] ∧ t.sys = s.sys ∧ t.dram = s.dram)) ∧
     (∀ p, dOp x = 4 → v.st ≠ .erasing → Answers (.fceSuspend ch die low p) s (fun t =>
       t.die ch.val die.val = w ∧ Posted s t ch.val [0x08] ∧ OnlyDie s t ch.val die.val)) ∧
     (dOp x = 5 → v.st = .suspended → Answers (.fceResume ch die low) s (fun t =>
       t.die ch.val die.val = { w with st := .erasing } ∧ Posted s t ch.val [0] ∧ OnlyDie s t ch.val die.val)) ∧
     (dOp x = 5 → (v.st = .idle ∨ v.st = .reading ∨ v.st = .programming ∨ v.st = .erasing) → Answers (.fceResume ch die low) s (fun t =>
       t.die ch.val die.val = w ∧ Posted s t ch.val [0x0A] ∧ OnlyDie s t ch.val die.val)) ∧
     (∀ p, dOp x = 6 → s.abortAt ch.val (dTarget x) = .none → Answers (.fceAbort ch die low p) s (fun t =>
       t.die ch.val die.val = w ∧ Posted s t ch.val [0x13] ∧ OnlyDie s t ch.val die.val)) ∧
     (∀ p (k : Fin 4) lo y, dOp x = 6 → s.abortAt ch.val (dTarget x) = .queued k.val lo y → (s.die ch.val k.val).held = [] → Answers (.fceAbort ch die low p) s (fun t =>
       (t.die ch.val k.val).st = (s.die ch.val k.val).st ∧ Posted s t ch.val [0x0D, 0] ∧ t.sys = s.sys ∧ t.dram = s.dram)) ∧
     (∀ p (k : Fin 4), dOp x = 6 → s.abortAt ch.val (dTarget x) = .held k.val → Answers (.fceAbort ch die low p) s (fun t =>
       (t.die ch.val k.val).st = .aborting ∧ (t.die ch.val k.val).abortD = some run ∧ Posted s t ch.val [] ∧ t.sys = s.sys ∧ t.dram = s.dram)) ∧
     (∀ pl (k : Fin 4), dOp x = 6 → s.abortAt ch.val (dTarget x) = .running k.val → Answers (.fceAbort ch die low (some pl)) s (fun t =>
       (t.die ch.val k.val).op = none ∧ (∃ cs, Posted s t ch.val (cs ++ [0x0B])) ∧ t.sys = s.sys ∧ t.dram = s.dram)) ∧
     (∀ (k : Fin 4), dOp x = 6 → s.abortAt ch.val (dTarget x) = .erase k.val → Answers (.fceAbort ch die low none) s (fun t =>
       (t.die ch.val k.val).st = .aborting ∧ (t.die ch.val k.val).abortD = some run ∧ Posted s t ch.val [] ∧ t.sys = s.sys ∧ t.dram = s.dram)) ∧
     (∀ k : Fin 4, dOp x = 6 → s.abortAt ch.val (dTarget x) = .running k.val → Answers (.fceAbort ch die low none) s (fun t =>
       (t.die ch.val k.val).st = .aborting ∧ (t.die ch.val k.val).abortD = some run ∧ Posted s t ch.val [] ∧ t.sys = s.sys ∧ t.dram = s.dram)) ∧
     (dOp x = 7 → Answers (.fceStatus ch die low) s (fun t =>
       t.die ch.val die.val = w ∧ Posted s t ch.val [0] ∧ t.word (0x10100 + 0x1000 * ch.val) = 0x53524759 ∧ OnlyDie s t ch.val die.val)) ∧
     (dOp x = 8 → Answers (.fceParam ch die low) s (fun t =>
       t.die ch.val die.val = { w with st := .reading, op := some run } ∧ Posted s t ch.val [] ∧ OnlyDie s t ch.val die.val))) ∧
  (∀ (s : State) (ch : Fin 17) (die : Fin 4) (low : Bool) (p : Option Poll),
     (s.grant ch.val ≠ some (die.val, low) ∨ s.flag (FCE_STS_FENCED ch.val) = true ∨ s.cplStall ch.val = true ∨ (s.startsHeld ch.val = true ∧ s.fceRunning ch.val ≠ 0) ∨ s.sys.mode = .off ∨ s.sys.mode = .powerUp) →
     ∀ c ∈ [Instr.fceRead ch die low, .fceProgram ch die low, .fceErase ch die low, .fceSuspend ch die low p, .fceResume ch die low, .fceAbort ch die low p,
       .fceStatus ch die low, .fceParam ch die low], Answers c s (fun t => t = s))

/-- R294, R296 rule 5, R304, R305, R308 to R310, R316, Table 10-7: a descriptor joins its queue, or on a fenced channel completes with 0x12. The poll that shows the array ready ends a read with the code of its codewords (ERASED where every codeword asked for reads as erased, else UNCORRECTABLE where one that does not fails), a program with 0 or 0x01 and an erase with 0 or 0x02, with the die idle; the end of a nested read leaves the erase SUSPENDED, or running again where a RESUME waits; the end of an ABORT's reset completes its target with 0x0C and the ABORT with 0; a poll that shows the erase suspended makes it SUSPENDED with one suspension more. A die that does nothing is not changed. A time-out of the array ends the operation with 0x11, leaves the die idle and the write pointer of its block UNKNOWN, and is reported last. A low head that has waited counts as high, but not in a save. R257, R272, R280, R292, R298, R311, R314, R318 to R321, Table 10-12: a software fence stops the engine with every die FENCED and its queues empty; its end is remembered until the next plan boundary. A write of the interface registers that meets the minima takes effect at once where the engine runs nothing, and waits behind a descriptor in execution; one that does not is refused, and the register keeps its value. A stray cycle is counted, kept and reported. The confirmed intent of a planned erase of a FREE, system or half-erased stook queues its descriptors on every channel that is not fenced, on the donors of its worn columns; a rotation stook with a worn column and no donor is withdrawn, a stook that is meanwhile in use is not erased, and none is issued in a save or a shut-down. A raw descriptor that Table 10-8 admits joins its queue while its packet waits. -/
def Obligations.FlashFinishes : Prop :=
  (∀ (s : State) (ch : Fin 17) (die : Fin 4) (p : Poll),
     let v := s.die ch.val die.val
     (∀ low (b : BitVec 256), s.sys.mode = .off ∨ s.sys.mode = .powerUp → Answers (.fceDescriptorQueue ch die low b) s (fun t => t = s)) ∧
     (∀ low (b : BitVec 256), s.sys.mode ≠ .off → s.sys.mode ≠ .powerUp → s.flag (FCE_STS_FENCED ch.val) = true → Answers (.fceDescriptorQueue ch die low b) s (fun t =>
       t.die ch.val die.val = v ∧ Posted s t ch.val [0x12] ∧ OnlyDie s t ch.val die.val)) ∧
     (∀ (b : BitVec 256), s.sys.mode ≠ .off → s.sys.mode ≠ .powerUp → s.flag (FCE_STS_FENCED ch.val) = false →
       Answers (.fceDescriptorQueue ch die false b) s (fun t => t.die ch.val die.val = { v with hi := v.hi ++ [leBytes 32 b.toNat] } ∧ Posted s t ch.val [] ∧ OnlyDie s t ch.val die.val) ∧
       Answers (.fceDescriptorQueue ch die true b) s (fun t => t.die ch.val die.val = { v with lo := v.lo ++ [leBytes 32 b.toNat] } ∧ Posted s t ch.val [] ∧ OnlyDie s t ch.val die.val)) ∧
     (∀ r, v.st = .reading → v.op = some r → v.erase = none → v.resumeD = none → (dOp r.desc = 1 ∨ dOp r.desc = 8) →
       let src := s.readPlace ch.val die.val (dBlock r.desc) (dPage r.desc)
       let erased := (if src = .void then p.erased.toNat else src.erasedMask (earKey ch.val die.val (dBlock r.desc) (dPage r.desc))) &&& dMask r.desc
       Answers (.fceReadySample ch die p) s (fun t =>
       (t.die ch.val die.val).st = .idle ∧ (t.die ch.val die.val).op = none ∧ (t.die ch.val die.val).lastStatus = p.status.toNat ∧ t.sys = s.sys ∧ t.dram = s.dram ∧
       (dOp r.desc = 8 → Posted s t ch.val [0]) ∧
       (dOp r.desc = 1 → dKind r.desc ≠ 2 → Posted s t ch.val [if erased = dMask r.desc then 0x04 else if p.bad.toNat &&& dMask r.desc &&& (0xFFFF ^^^ erased) ≠ 0 then 0x03 else 0]))) ∧
     (∀ r, v.st = .programming → v.op = some r → v.erase = none → v.resumeD = none → v.held = [] → dOp r.desc = 2 → p.mismatch = none → Answers (.fceReadySample ch die p) s (fun t =>
       (t.die ch.val die.val).st = .idle ∧ (t.die ch.val die.val).op = none ∧ t.sys = s.sys ∧ t.dram = s.dram ∧ Posted s t ch.val [if p.fail then 0x01 else 0])) ∧
     (∀ r, v.st = .erasing → v.erase = some r → Answers (.fceReadySample ch die p) s (fun t =>
       (t.die ch.val die.val).st = .idle ∧ (t.die ch.val die.val).erase = none ∧ t.sys = s.sys ∧ t.dram = s.dram ∧ Posted s t ch.val [if p.fail then 0x02 else 0])) ∧
     (∀ r er, v.st = .nestedRead → v.op = some r → v.erase = some er → v.resumeD = none → dOp r.desc = 1 → Answers (.fceReadySample ch die p) s (fun t =>
       (t.die ch.val die.val).st = .suspended ∧ (t.die ch.val die.val).op = none ∧ (t.die ch.val die.val).erase = some er ∧ t.sys = s.sys ∧ t.dram = s.dram)) ∧
     (∀ r er q, v.st = .resumePending → v.op = some r → v.erase = some er → v.resumeD = some q → dOp r.desc = 1 → Answers (.fceReadySample ch die p) s (fun t =>
       (t.die ch.val die.val).st = .erasing ∧ (t.die ch.val die.val).op = none ∧ (t.die ch.val die.val).resumeD = none ∧ (∃ code, Posted s t ch.val [code, 0]) ∧ t.sys = s.sys ∧ t.dram = s.dram)) ∧
     (∀ r ab, v.st = .aborting → v.op = some r → v.abortD = some ab → v.erase = none → v.held = [] → v.suspendD = none → v.resumeD = none → Answers (.fceReadySample ch die p) s (fun t =>
       (t.die ch.val die.val).st = .idle ∧ (t.die ch.val die.val).op = none ∧ (t.die ch.val die.val).abortD = none ∧ Posted s t ch.val [0x0C, 0] ∧ t.sys = s.sys ∧ t.dram = s.dram)) ∧
     (∀ r q, v.st = .suspending → v.erase = some r → v.suspendD = some q → p.suspended = true → Answers (.fceReadySample ch die p) s (fun t =>
       t.die ch.val die.val = { v with st := .suspended, susp := v.susp + 1, suspendD := none, suspAt := s.tick, lastStatus := p.status.toNat } ∧ Posted s t ch.val [0] ∧ OnlyDie s t ch.val die.val)) ∧
     ((v.st = .idle ∨ v.st = .suspended ∨ v.st = .fenced) → Answers (.fceReadySample ch die p) s (fun t => t = { s with fce := t.fce } ∧ (∀ c k, t.die c k = s.die c k))) ∧
     ((v.st = .idle ∨ v.st = .suspended ∨ v.st = .aborting ∨ v.st = .fenced) → Answers (.fceTimeout ch die) s (fun t => t = s)) ∧
     (∀ r, (v.st = .reading ∨ v.st = .programming) → v.op = some r → v.erase = none → v.held = [] → v.resumeD = none → Answers (.fceTimeout ch die) s (fun t =>
       (t.die ch.val die.val).st = .idle ∧ (t.die ch.val die.val).op = none ∧ (dOp r.desc ≠ 8 → ∃ m, smapFind (t.die ch.val die.val).ptrs (dBlock r.desc) = some (m, none)) ∧
       (dOp r.desc = 8 → (t.die ch.val die.val).ptrs = v.ptrs) ∧
       Posted s t ch.val [0x11] ∧ t.flt.inflight.getLast?.map (fun m => m.1.kind) = some .flashTimeout ∧ t.sys = s.sys ∧ t.dram = s.dram)) ∧
     (∀ r, v.st = .erasing → v.erase = some r → v.op = none → v.held = [] → v.resumeD = none → v.suspendD = none → Answers (.fceTimeout ch die) s (fun t =>
       (t.die ch.val die.val).st = .idle ∧ (t.die ch.val die.val).erase = none ∧ (∃ m, smapFind (t.die ch.val die.val).ptrs (dBlock r.desc) = some (m, none)) ∧ Posted s t ch.val [0x11] ∧
       t.flt.inflight.getLast?.map (fun m => m.1.kind) = some .flashTimeout ∧ t.sys = s.sys ∧ t.dram = s.dram)) ∧
     (∀ r q, v.st = .suspending → v.erase = some r → v.suspendD = some q → v.op = none → v.held = [] → v.resumeD = none → Answers (.fceTimeout ch die) s (fun t =>
       (t.die ch.val die.val).st = .idle ∧ (t.die ch.val die.val).erase = none ∧ Posted s t ch.val [0x11, 0x08] ∧
       t.flt.inflight.getLast?.map (fun m => m.1.kind) = some .flashTimeout ∧ t.sys = s.sys ∧ t.dram = s.dram)) ∧
     ((s.sys.mode = .save ∨ v.lo = []) → Answers (.fceAgePromote ch die) s (fun t => t = s)) ∧
     (s.sys.mode ≠ .save → v.lo ≠ [] → Answers (.fceAgePromote ch die) s (fun t => t.die ch.val die.val = { v with promoted := true } ∧ Posted s t ch.val [] ∧ OnlyDie s t ch.val die.val))) ∧
  (∀ (s : State) (ch : Fin 17),
     ((s.sys.mode = .off ∨ s.sys.mode = .powerUp) → Answers (.fceFence ch) s (fun t => t = s)) ∧
     (s.sys.mode ≠ .off → s.sys.mode ≠ .powerUp → s.sys.mode ≠ .save → s.flag (FCE_STS_FENCED ch.val) = false → Answers (.fceFence ch) s (fun t =>
       t.flag (FCE_STS_FENCED ch.val) = true ∧ t.flag (FCE_STS_SOFT_FENCE ch.val) = true ∧
       (∀ d, d < 4 → (t.die ch.val d).st = .fenced ∧ (t.die ch.val d).hi = [] ∧ (t.die ch.val d).lo = [] ∧ (t.die ch.val d).op = none ∧ (t.die ch.val d).erase = none) ∧
       (∀ c, c ≠ ch.val → t.chan c = s.chan c) ∧ t.sys = s.sys ∧ t.dram = s.dram)) ∧
     (s.sys.mode ≠ .off → s.sys.mode ≠ .powerUp → s.flag (FCE_STS_FENCED ch.val) = true → Answers (.fceFence ch) s (fun t =>
       t.flag (FCE_STS_SOFT_FENCE ch.val) = true ∧ (t.chan ch.val).softEnded = false ∧ OnlyFields [FCE_STS_SOFT_FENCE ch.val] { s with fce := t.fce } t)) ∧
     (s.sys.mode = .save → s.flag (FCE_STS_FENCED ch.val) = false → Answers (.fceFence ch) s (fun t =>
       t.sys.mode ≠ .off → t.flag (FCE_STS_FENCED ch.val) = true ∧ t.flag (FCE_STS_SOFT_FENCE ch.val) = true)) ∧
     (s.flag (FCE_STS_SOFT_FENCE ch.val) = false → Answers (.fceUnfence ch) s (fun t => t = s)) ∧
     (s.flag (FCE_STS_SOFT_FENCE ch.val) = true → Answers (.fceUnfence ch) s (fun t =>
       t.chan ch.val = { s.chan ch.val with softEnded := true } ∧ (∀ c, c ≠ ch.val → t.chan c = s.chan c) ∧ t = { s with fce := t.fce })) ∧
     (∀ (reg : Fin 4) (v : Word), s.coreDomains = false → Answers (.fceIfWrite ch reg v) s (fun t => t = s)) ∧
     (∀ (reg : Fin 3) (v : Word), s.coreDomains = true →
       (s.ifTakes ch.val reg.val v = true → s.fceRunning ch.val = 0 → (s.chan ch.val).ifWrites = [] → Answers (.fceIfWrite ch ⟨reg.val, by omega⟩ v) s (fun t =>
         t = { s.setWord (0x10008 + 0x1000 * ch.val + 4 * reg.val) (v &&& (if reg.val = 0 then 0x000703FF else 0x01FF01FF)) with fce := t.fce } ∧ (∀ c, t.chan c = s.chan c))) ∧
       (s.ifTakes ch.val reg.val v = true → s.fceRunning ch.val ≠ 0 → Answers (.fceIfWrite ch ⟨reg.val, by omega⟩ v) s (fun t =>
         t = { s with fce := t.fce } ∧ (t.chan ch.val).ifWrites = (s.chan ch.val).ifWrites ++ [(reg.val, v &&& (if reg.val = 0 then 0x000703FF else 0x01FF01FF), s.tick)])) ∧
       (s.ifTakes ch.val reg.val v = false → Answers (.fceIfWrite ch ⟨reg.val, by omega⟩ v) s (fun t => t = s.setFlag (FCE_STS_WAIT_REFUSED ch.val) true))) ∧
     (∀ (v : Word), s.coreDomains = true → s.fceRunning ch.val = 0 → (s.chan ch.val).ifWrites = [] → Answers (.fceIfWrite ch 3 v) s (fun t =>
       t = { (if Config.tmoTooShort ch.val v then s.setFlag (FCE_STS_WAIT_REFUSED ch.val) true else s.setWord (0x10014 + 0x1000 * ch.val) v) with fce := t.fce } ∧ (∀ c, t.chan c = s.chan c))) ∧
     (∀ (die : Fin 4) (exp obs : Word), (s.sys.mode = .off ∨ s.sys.mode = .powerUp) → Answers (.strayCycle ch die exp obs) s (fun t => t = s)) ∧
     (∀ (die : Fin 4) (exp obs : Word), s.sys.mode ≠ .off → s.sys.mode ≠ .powerUp → Answers (.strayCycle ch die exp obs) s (fun t =>
       t.flag (FCE_CHK_STS_SEEN ch.val) = true ∧ t.fld (FCE_CHK_STS_KIND ch.val) = 3 ∧ t.fld (FCE_CHK_STS_COUNT ch.val) = min (s.fld (FCE_CHK_STS_COUNT ch.val) + 1) 255 ∧
       t.fld (FCE_CHK_EXP ch.val) = exp.toNat ∧ t.fld (FCE_CHK_OBS ch.val) = obs.toNat ∧ t.flag (FCE_STS_CHECK_FAIL ch.val) = true ∧
       t.flt = (s.report .checkMismatch (80 + ch.val) (3 * 2 ^ 12 + die.val) 0).flt ∧
       OnlyFields [FCE_CHK_STS_COUNT ch.val, FCE_CHK_STS_KIND ch.val, FCE_CHK_STS_SEEN ch.val, FCE_CHK_TAG ch.val, FCE_CHK_EXP ch.val, FCE_CHK_OBS ch.val,
         FCE_STS_CHECK_FAIL ch.val] { s with flt := t.flt } t)) ∧
     (∀ (n : Fin 8192), ((s.flo.erases.find? (fun j => decide (j.stook = n.val) && !j.issued)) = none ∨ s.sys.mode = .save ∨ s.sys.mode = .shutDown ∨ s.intentPending n.val = true) →
       Answers (.eraseIntentConfirmed n) s (fun t => t = s)) ∧
     (∀ (n : Fin 8192) (j : EraseJob), (s.flo.erases.find? (fun j => decide (j.stook = n.val) && !j.issued)) = some j → s.intentPending n.val = false →
       (s.sys.mode = .service ∨ s.sys.mode = .lull) →
       ((s.stook n.val).half = false → (s.stook n.val).role ∉ [0, 6, 7, 8] → Answers (.eraseIntentConfirmed n) s (fun t =>
         t = { s with flo := { s.flo with erases := s.flo.erases.filter (fun x => decide (x.stook ≠ n.val)) } })) ∧
       (∀ u, ((s.stook n.val).half = true ∨ (s.stook n.val).role ∈ [0, 6, 7, 8]) → s.remapWorn n.val = (u, true) → Answers (.eraseIntentConfirmed n) s (fun t =>
         (∀ c, c < 17 → s.flag (FCE_STS_FENCED c) = false → (t.die c (stookDie n.val)).lo = (s.die c (stookDie n.val)).lo ++ [u.eraseDesc n.val c j.tlc]) ∧
         (∀ x ∈ t.flo.erases, x.stook = n.val → x.issued = true) ∧ t.sys = s.sys ∧ t.dram = s.dram)) ∧
       (∀ u, (s.stook n.val).rotation = true → ((s.stook n.val).half = true ∨ (s.stook n.val).role ∈ [0, 6, 7, 8]) → s.remapWorn n.val = (u, false) → Answers (.eraseIntentConfirmed n) s (fun t =>
         (t.stook n.val).role = 0xB ∧ (∀ x ∈ t.flo.erases, x.stook ≠ n.val) ∧ t.fce = s.fce ∧ t.sys = s.sys ∧ t.dram = s.dram))) ∧
     (∀ (src : PktSrc), s.findExec src 0x12 = none → Answers (.flashDesc src) s (fun t => t = s)) ∧
     ∀ (src : PktSrc) (e : ExecPkt), s.findExec src 0x12 = some e →
       let c := pktField e.bytes 40 1
       let d := pktField e.bytes 41 1
       let pri := pktField e.bytes 42 1
       let x := rawDesc e
       ((16 < c ∨ 3 < d ∨ 1 < pri) → Answers (.flashDesc src) s (fun t => t = s.completeCode e stNotPermitted)) ∧
       (∀ code, c ≤ 16 → d ≤ 3 → pri ≤ 1 → s.rawCheck c d x = some code → Answers (.flashDesc src) s (fun t => t = s.completeCode e code)) ∧
       (c ≤ 16 → d ≤ 3 → pri ≤ 1 → s.rawCheck c d x = none → s.flag (FCE_STS_FENCED c) = false → Answers (.flashDesc src) s (fun t =>
         (pri = 0 → (t.die c d).hi = (s.die c d).hi ++ [x] ∧ (t.die c d).lo = (s.die c d).lo) ∧
         (pri = 1 → (t.die c d).lo = (s.die c d).lo ++ [x] ∧ (t.die c d).hi = (s.die c d).hi) ∧
         t.pkt = (s.setExec e { e with started := true, aux := c }).pkt ∧ t.sys = s.sys ∧ t.dram = s.dram)))

/-- R272, R274, R277, R440: outside off, power-up, save and shut-down, with the organiser ready, a commit writes the pending records that have their numbers, up to 1,024 slots of them, as one commit at the next place of the head ledger stook whose two channels are not both fenced, while it leaves positions for the next; in the other modes none is made. -/
def Obligations.LedgerCommits : Prop :=
  ∀ (s : State),
    ((s.sys.mode = .off ∨ s.sys.mode = .powerUp ∨ s.sys.mode = .save ∨ s.sys.mode = .shutDown ∨ s.flag FLO_STS_READY = false) → Answers .ledgerCommit s (fun t => t = s)) ∧
    (∀ j, s.sys.mode ≠ .off → s.sys.mode ≠ .powerUp → s.sys.mode ≠ .save → s.sys.mode ≠ .shutDown → s.flag FLO_STS_READY = true →
      s.flo.pendingRecs ≠ [] → (∀ e ∈ s.flo.pendingRecs, e.seq ≠ 0) → (s.flo.pendingRecs.map (·.slotCount)).sum ≤ 1024 →
      s.commitNext 8 s.flash.commits = j → j < 1984 → s.waiting 0x0C = [] → Answers .ledgerCommit s (fun t =>
        t.flash.commitLog = s.flash.commitLog ++ [⟨j, s.commitChans j, s.flo.pendingRecs⟩] ∧ t.flash.commits = j + 1 ∧ t.fld FLO_LEDGER_INDEX = j + 1 ∧
        t.flash.images = s.flash.images ∧ t.sys = s.sys ∧ t.dram = s.dram))

/-- R325 to R332, Tables 11-2, 11-3: a request joins the others only at an active port; unless all wait, one of the highest urgency among those that no throttle holds is granted, and a grant leaves its row open and counts the activation. The oldest waiting request that passes T is marked and counted by its class, and the first of a save is noted. A refresh that falls due in a save or a restore is owed, up to four, and the fifth is issued at once and splits a burst; a plan's REFRESH step issues one that is owed; in harvest it is issued at once; without the DRAM none falls due. The interval of a target follows its last MR4 read from the next interval boundary; an MR4 read is kept, and a need above the double rate sets HOT and is reported. The window's end keeps the highest counts and restarts them, those of the host too. -/
def Obligations.BdcServes : Prop :=
  ∀ (s : State),
    (∀ (port : Fin 21) (line : BitVec 33) (w : Bool), s.portActive port.val = false → Answers (.bdcPortRequest port line w) s (fun t => t = s)) ∧
    (∀ (port : Fin 21) (line : BitVec 33), s.portActive port.val = true →
      let x : BdcReq := ⟨port.val, line.toNat * 64, s.tick, false, false⟩
      Answers (.bdcPortRequest port line true) s (fun t => t = { s with bdc := { s.bdc with reqs := s.bdc.reqs ++ [x] } }) ∧
      ((∀ q ∈ s.bdc.reqs ++ [x], s.actHeld q = true) → Answers (.bdcPortRequest port line false) s (fun t => t = { s with bdc := { s.bdc with reqs := s.bdc.reqs ++ [x] } })) ∧
      ((∃ q ∈ s.bdc.reqs ++ [x], s.actHeld q = false) → (∀ j ∈ s.bdc.jobs, j.read = true) → Answers (.bdcPortRequest port line false) s (fun t =>
        (∃ r ∈ s.bdc.reqs ++ [x], s.actHeld r = false ∧ t.bdc.reqs = (s.bdc.reqs ++ [x]).erase r ∧
          (∀ q ∈ s.bdc.reqs ++ [x], s.actHeld q = false → s.urgency q ≤ s.urgency r) ∧
          smapFind t.bdc.rows (s.maBank r.ma) = some (s.maRow r.ma) ∧
          (smapFind s.bdc.rows (s.maBank r.ma) ≠ some (s.maRow r.ma) →
            smapFind t.bdc.acts (s.maBank r.ma) = some ((smapGet (fun _ => (0, 0)) s.bdc.acts (s.maBank r.ma)).1 + 1, r.port))) ∧
        t.sys = s.sys ∧ t.dram = s.dram ∧ t.hbp = s.hbp))) ∧
    (s.bdc.reqs.find? (fun r => !r.late && !r.split && decide (s.twoT r.port ≤ s.tick - r.tick)) = none → Answers .bdcRequestLate s (fun t => t = s)) ∧
    (∀ r, s.bdc.reqs.find? (fun r => !r.late && !r.split && decide (s.twoT r.port ≤ s.tick - r.tick)) = some r → Answers .bdcRequestLate s (fun t =>
      t.bdc.reqs = s.bdc.reqs.map (fun x => if x = r then { x with late := true } else x) ∧
      t.fld DCT_CNT_LATE_RT = min (s.fld DCT_CNT_LATE_RT + (if r.port < 17 then 1 else 0)) 65535 ∧
      t.fld DCT_CNT_LATE_OTHER = min (s.fld DCT_CNT_LATE_OTHER + (if r.port < 17 then 0 else 1)) 65535 ∧
      (r.port < 17 → s.sys.mode = .save → t.bdc.lateNoted = true) ∧
      (17 ≤ r.port ∨ s.sys.mode ≠ .save ∨ s.bdc.lateNoted = true → OnlyFields [DCT_CNT_LATE_RT, DCT_CNT_LATE_OTHER] { s with bdc := { s.bdc with reqs := t.bdc.reqs } } t) ∧
      t.sys = s.sys ∧ t.dram = s.dram ∧ t.hbp = s.hbp)) ∧
    (∀ (k : Fin 4) (p : Bool),
      (s.flag DCT_STS_OWNED = false → Answers (.refreshDue k p) s (fun t => t = s)) ∧
      (s.flag DCT_STS_OWNED = true → Answers (.refreshDue k false) s (fun t =>
        t.bdc.double.getLsbD k.val = s.bdc.doubleNext.getLsbD k.val ∧ (∀ j : Nat, j ≠ k.val → t.bdc.double.getLsbD j = s.bdc.double.getLsbD j) ∧
        t.flag DCT_STS_DOUBLE_REF = decide (t.bdc.double ≠ 0))) ∧
      (s.flag DCT_STS_OWNED = true → (s.fld DCT_STS_OWNER = 1 ∨ s.fld DCT_STS_OWNER = 2) →
        (s.owed k.val = 0 → Answers (.refreshDue k true) s (fun t => t = s)) ∧
        (0 < s.owed k.val → Answers (.refreshDue k true) s (fun t =>
          t.owed k.val = s.owed k.val - 1 ∧ (∀ j, j ≠ k.val → t.owed j = s.owed j) ∧ t.fld DCT_CNT_REF_ISSUED = (s.fld DCT_CNT_REF_ISSUED + 1) % 65536 ∧ t.dram = s.dram)) ∧
        (s.owed k.val < 4 → Answers (.refreshDue k false) s (fun t =>
          t.owed k.val = s.owed k.val + 1 ∧ (∀ j, j ≠ k.val → t.owed j = s.owed j) ∧ t.fld DCT_CNT_REF_ISSUED = s.fld DCT_CNT_REF_ISSUED ∧ t.dram = s.dram)) ∧
        (4 ≤ s.owed k.val → Answers (.refreshDue k false) s (fun t =>
          t.owed k.val = 4 ∧ (∀ j, j ≠ k.val → t.owed j = s.owed j) ∧ t.fld DCT_CNT_REF_ISSUED = (s.fld DCT_CNT_REF_ISSUED + 1) % 65536 ∧
          t.flag DCT_STS_SPLIT = true ∧ t.dram = s.dram))) ∧
      (s.flag DCT_STS_OWNED = true → s.fld DCT_STS_OWNER ≠ 1 → s.fld DCT_STS_OWNER ≠ 2 →
        Answers (.refreshDue k true) s (fun t => t = s) ∧
        Answers (.refreshDue k false) s (fun t => t.owed k.val = 0 ∧ t.fld DCT_CNT_REF_ISSUED = (s.fld DCT_CNT_REF_ISSUED + 1) % 65536 ∧ t.dram = s.dram))) ∧
    (∀ (k : Fin 4) (b : Byte) (a1 a2 : Bool),
      (s.flag DCT_STS_OWNED = false → Answers (.mr4Poll k b a1 a2) s (fun t => t = s)) ∧
      (s.flag DCT_STS_OWNED = true → Answers (.mr4Poll k b a1 a2) s (fun t =>
        t.fld (match k with | 0 => DCT_MR4_A0 | 1 => DCT_MR4_A1 | 2 => DCT_MR4_B0 | 3 => DCT_MR4_B1) = b.toNat ∧
        t.bdc.doubleNext.getLsbD k.val = (a1 || a2) ∧ (∀ j : Nat, j ≠ k.val → t.bdc.doubleNext.getLsbD j = s.bdc.doubleNext.getLsbD j) ∧
        t.bdc.double = s.bdc.double ∧ t.flag DCT_STS_DOUBLE_REF = s.flag DCT_STS_DOUBLE_REF ∧ t.flag DCT_STS_HOT = (s.flag DCT_STS_HOT || a2) ∧
        t.flt = (if a2 then (s.report .dramHot 140 0 0).flt else s.flt) ∧ t.dram = s.dram ∧ t.hbp = s.hbp))) ∧
    (s.coreDomains = false → Answers .rdWindowEnd s (fun t => t = s) ∧ Answers .hostActHigh s (fun t => t = s)) ∧
    (s.coreDomains = true → Answers .rdWindowEnd s (fun t =>
      t.bdc = { s.bdc with acts := [], throttled := [] } ∧ t.flag DCT_STS_THROTTLED = false ∧
      (∀ e ∈ s.bdc.acts, min e.2.1 0xFFFFF ≤ t.fld DCT_RD_INT_MAX) ∧ OnlyFields [DCT_RD_INT_MAX, DCT_RD_INT_PORT, DCT_STS_THROTTLED] { s with bdc := t.bdc } t)) ∧
    (s.coreDomains = true → Answers .hostActHigh s (fun t =>
      t.bdc = { s.bdc with hostActs := [] } ∧ (∀ e ∈ s.bdc.hostActs, min e.2 0xFFFFF ≤ t.fld DCT_RD_HOST_MAX) ∧ t.sys = s.sys ∧ t.dram = s.dram ∧
      (0 < s.fld DCT_RD_CTL_THRESH → (∀ e ∈ s.bdc.hostActs, e.2 < s.fld DCT_RD_CTL_THRESH) →
        OnlyFields [DCT_RD_HOST_MAX, DCT_RD_HOST_BANK] { s with bdc := t.bdc } t)))

/-- R85, R143, R150, R153, R173, R333 to R339, R344, R345, Table 11-4: harvest takes the DRAM in lull where it is allowed and has work, for a flush with its granule FLUSHING, or for the retrain of a set point, once the DRAM loop has hopped to that set point's rate; a hop that needs a full search leaves the entry to a later check (R356). A granted mover read of the granule under way adds its line, and the hasher reads a repaired granule for itself. With no work left, or where it may no longer run, harvest returns the DRAM and granules not read through are DIRTY again. A repair whose second read differs is void and reported. The confirmed sheaf of a flushed granule makes it CLEAN with KIND HARVEST, and that of a repair CLEAN with KIND GLEAN; one that finds no room leaves it DIRTY; a granule that has been written meanwhile keeps its state. A retrain ends with its record VALID or FAILED and the lines under its pattern back in their places; a pass at the active set point leaves it ready; with no other work the DRAM is returned, and else the harvest goes on. A control core's window read is refused without harvest, and otherwise shows its line. -/
def Obligations.Harvest : Prop :=
  ∀ (s : State),
    ((s.harvestAllowed = false ∨ s.harvestWork = false ∨ s.flag DCT_STS_OWNED = true) → Answers .harvestEntryCheck s (fun t => t = s)) ∧
    (s.harvestAllowed = true → s.flag DCT_STS_OWNED = false →
      (s.harvestWork = true → (s.toRepair ≠ [] ∨ s.toFlush ≠ []) → s.clk.dSp ≠ s.fld TRN_STS_ACTIVE_SP → bandValid (s.bandOf 1 (s.fld TRN_STS_ACTIVE_SP)) = false →
        Answers .harvestEntryCheck s (fun t => t.clk.d = .searching ∧ t.flag CLK_STS_D_LOCK = false ∧ t.flag DCT_STS_OWNED = false ∧ t.sys = s.sys ∧ t.dram = s.dram)) ∧
      (∀ g gs, s.gln.repair = [] → s.toFlush = g :: gs → s.bdc.jobs = [] → s.trn.retrain = none → s.bdc.handbackWait = none → s.hopReady (s.fld TRN_STS_ACTIVE_SP) = true →
        Answers .harvestEntryCheck s (fun t =>
        t.flag DCT_STS_OWNED = true ∧ t.flag DCT_STS_HARVESTING = true ∧ t.fld DCT_STS_OWNER = 3 ∧ t.bdc.jobs = [⟨g, false, s.horizon, false, false, [], [], false, none, 0⟩] ∧
        t.dstate g = .flushing ∧ t.sys = s.sys ∧ t.dram = s.dram)) ∧
      (∀ sp, s.gln.repair = [] → s.toFlush = [] → s.toRetrain = some sp → s.hopReady sp = true → Answers .harvestEntryCheck s (fun t =>
        t.flag DCT_STS_OWNED = true ∧ t.flag DCT_STS_HARVESTING = true ∧ t.flag DCT_STS_RETRAINING = true ∧ t.fld DCT_STS_OWNER = 4 ∧
        t.trn = { s.trn with retrain := some sp, rank := 0, check := false, mrSp := some sp } ∧
        t.clk.dSp = sp ∧ t.fld TRN_STS_STEP = 1 ∧ t.flag TRN_STS_GATHERING = true ∧
        t.sys = s.sys ∧ t.dram = s.dram))) ∧
    (∀ (line : BitVec 33) (j : HarvestJob), s.harvestOn = true → s.bdc.reqs = [] → s.bdc.throttled = [] → s.bdc.jobs = [j] → maGranule (line.toNat * 64) = j.g →
      (j.read = false → (smapPut j.lines (line.toNat % 16384) (s.line (line.toNat * 64))).length < 16384 → Answers (.bdcPortRequest 17 line false) s (fun t =>
        t.bdc.jobs = [{ j with lines := smapPut j.lines (line.toNat % 16384) (s.line (line.toNat * 64)) }] ∧ t.dstate j.g = s.dstate j.g ∧ t.sys = s.sys ∧ t.dram = s.dram)) ∧
      (j.read = true → j.repair = true → j.rechecked = false → (smapPut j.again (line.toNat % 16384) (s.line (line.toNat * 64))).length < 16384 → Answers (.bdcPortRequest 18 line false) s (fun t =>
        t.bdc.jobs = [{ j with again := smapPut j.again (line.toNat % 16384) (s.line (line.toNat * 64)), reread := false }] ∧ t.dstate j.g = s.dstate j.g ∧ t.sys = s.sys ∧ t.dram = s.dram))) ∧
    ((s.flag DCT_STS_HARVESTING = false ∨ s.bdc.handbackWait ≠ none ∨ (s.harvestAllowed = true ∧ (s.workHere = true ∨ s.trn.retrain ≠ none))) → Answers .harvestReturn s (fun t => t = s)) ∧
    (s.flag DCT_STS_HARVESTING = true → s.bdc.handbackWait = none → s.trn.retrain = none → (s.harvestAllowed = false ∨ s.workHere = false) → Answers .harvestReturn s (fun t =>
      t.flag DCT_STS_HARVESTING = false ∧ t.flag DCT_STS_OWNED = false ∧ t.fld DCT_STS_OWNER = 0 ∧ t.bdc.jobs = s.bdc.jobs.filter (·.read) ∧
      (∀ j ∈ s.bdc.jobs, j.read = false → s.dstate j.g = .flushing → t.dstate j.g = .dirty) ∧ t.sys = s.sys ∧ t.dram = s.dram)) ∧
    (∀ (g : Fin 0x80000) (ok : Bool), (∀ j ∈ s.bdc.jobs, j.g ≠ g.val) → Answers (.harvestRecheck g ok) s (fun t => t = s) ∧ Answers (.harvestSheafConfirmed g) s (fun t => t = s)) ∧
    (∀ (g : Fin 0x80000) (j : HarvestJob), s.bdc.jobs = [j] → j.g = g.val → j.read = true →
      (j.repair = true → j.rechecked = false → Answers (.harvestSheafConfirmed g) s (fun t => t = s)) ∧
      (j.repair = true → j.rechecked = false → j.reread = true → s.harvestOn = true →
        (jobAgrees j = true → Answers (.harvestRecheck g true) s (fun t =>
          (∃ x, t.bdc.jobs = [x] ∧ x.rechecked = true ∧ x.g = j.g ∧ x.lines = j.lines) ∧ t.dstate g.val = s.dstate g.val ∧ t.sys = s.sys ∧ t.dram = s.dram)) ∧
        Answers (.harvestRecheck g false) s (fun t =>
          (∀ x ∈ t.bdc.jobs, x.g = g.val → x.repair = false) ∧ g.val ∈ t.bdc.retryNext ∧
          t.flt = (s.report .harvestRecheck 138 0 g.val).flt ∧ t.sys = s.sys ∧ t.dram = s.dram)) ∧
      (s.dstate g.val ≠ .flushing → (j.repair = false ∨ j.rechecked = true) → j.sheaf ≠ none → Answers (.harvestSheafConfirmed g) s (fun t => t = { s with bdc := { s.bdc with jobs := [] } })) ∧
      (s.dstate g.val = .flushing → j.repair = false → j.sheaf = none → s.swathSheaves < s.swathTarget + 2 → Answers (.harvestSheafConfirmed g) s (fun t =>
        t.dstate g.val = .dirty ∧ t.bdc.jobs = [] ∧ t.flash = s.flash ∧ t.sys = s.sys ∧ t.dram = s.dram)) ∧
      (∀ a w x, s.dstate g.val = .flushing → j.repair = false → (s.harvestPlace g.val).bdc.jobs = [x] → x.sheaf = some a →
        (State.putSheaf { s.harvestPlace g.val with bdc := { (s.harvestPlace g.val).bdc with jobs := [] } } a ⟨5, 0, [], 0, [], g.val, 0, 0, 0, [], false, jobData j, []⟩).writeCheckSwath
          (g.val / 4) [(g.val, jobChk j)] = some w →
        Answers (.harvestSheafConfirmed g) s (fun t =>
          t.dstate g.val = .clean ∧ t.smapOf g.val = ⟨3, false, 0, a⟩ ∧ t.bdc.jobs = [] ∧ t.sys = s.sys ∧ t.dram = s.dram)) ∧
      (∀ a w x, s.dstate g.val = .flushing → j.repair = true → j.rechecked = true → (s.harvestPlace g.val).bdc.jobs = [x] → x.sheaf = some a →
        (State.gleanSheaf { s.harvestPlace g.val with bdc := { (s.harvestPlace g.val).bdc with jobs := [] } } a g.val j.stamp false true (jobData j) (jobChk j)).writeCheck (g.val / 4) 4 2 [(g.val, jobChk j)] = some w →
        Answers (.harvestSheafConfirmed g) s (fun t =>
          t.dstate g.val = .clean ∧ t.smapOf g.val = ⟨2, false, 0, a⟩ ∧ t.bdc.jobs = [] ∧ t.sys = s.sys ∧ t.dram = s.dram))) ∧
    (∀ pass f rs, s.trn.retrain = none → Answers (.lullRetrainDone pass f rs) s (fun t => t = s)) ∧
    (∀ pass f rs sp, sp < 8 → s.trn.retrain = some sp → Answers (.lullRetrainDone pass f rs) s (fun t =>
      t.fld (dramRec sp) = (if pass then 1 else 3) ∧ t.flag TRN_STS_DRAM_FAIL = !pass ∧ t.trn.area = [] ∧
      (pass = true → sp = s.fld TRN_STS_ACTIVE_SP → t.flag TRN_STS_DRAM_READY = true) ∧ t.sys = s.sys ∧ t.dram = s.areaBack.dram)) ∧
    (∀ pass f rs sp, sp < 8 → s.trn.retrain = some sp → (s.harvestAllowed = false ∨ s.bdc.handbackWait ≠ none) → Answers (.lullRetrainDone pass f rs) s (fun t =>
      t.trn.retrain = none ∧ t.flag DCT_STS_RETRAINING = false ∧ t.fld TRN_STS_STEP = 0 ∧ t.flag DCT_STS_OWNED = false ∧ t.flag DCT_STS_HARVESTING = false)) ∧
    (∀ pass f rs sp, sp < 8 → s.trn.retrain = some sp → s.toRepair = [] → s.toFlush = [] → s.scrubDue = false → (∀ j ∈ s.bdc.jobs, j.read = true) →
      (∀ k, k < 8 → k ≠ sp → s.fld (dramRec k) ≠ 2) → Answers (.lullRetrainDone pass f rs) s (fun t =>
      t.trn.retrain = none ∧ t.flag DCT_STS_RETRAINING = false ∧ t.fld TRN_STS_STEP = 0 ∧ t.flag DCT_STS_OWNED = false ∧ t.flag DCT_STS_HARVESTING = false)) ∧
    (∀ pass f rs sp g gs, sp < 8 → s.trn.retrain = some sp → s.harvestAllowed = true → s.bdc.handbackWait = none → s.hopReady (s.fld TRN_STS_ACTIVE_SP) = true → s.gln.repair = [] →
      s.toFlush = g :: gs → s.bdc.jobs = [] → Answers (.lullRetrainDone pass f rs) s (fun t =>
      t.trn.retrain = none ∧ t.flag DCT_STS_RETRAINING = false ∧ t.flag DCT_STS_OWNED = true ∧ t.fld DCT_STS_OWNER = 3 ∧ t.flag DCT_STS_HARVESTING = true ∧ t.dstate g = .flushing)) ∧
    (∀ v, s.coreDomains = false → Answers (.dctWindowRead v) s (fun t => t = s)) ∧
    (∀ v, s.coreDomains = true →
      (s.harvestOn = false → Answers (.dctWindowRead v) s (fun t =>
        t.flag DCT_WIN_STS_REFUSED = true ∧ t.flag DCT_WIN_STS_READY = false ∧ t.fld DCT_WIN_ADDR_HI = v.toNat % 128 ∧
        OnlyFields [DCT_WIN_STS_REFUSED, DCT_WIN_STS_READY, DCT_WIN_ADDR_HI] s t)) ∧
      (s.harvestOn = true → Answers (.dctWindowRead v) s (fun t =>
        t.bdc = { s.bdc with window := some (v.toNat % 128 * 2 ^ 26 + s.fld DCT_WIN_ADDR_LO) } ∧ t.flag DCT_WIN_STS_REFUSED = false ∧ t.flag DCT_WIN_STS_READY = false ∧
        OnlyFields [DCT_WIN_STS_REFUSED, DCT_WIN_STS_READY, DCT_WIN_ADDR_HI] { s with bdc := t.bdc } t))) ∧
    (s.bdc.window = none → Answers .dctWindowReadDone s (fun t => t = s)) ∧
    ∀ k, s.bdc.window = some k → s.actHeld ⟨20, k * 64, s.tick, false, false⟩ = false → Answers .dctWindowReadDone s (fun t =>
      t.bdc.window = none ∧ smapFind t.bdc.rows (s.maBank (k * 64)) = some (s.maRow (k * 64)) ∧ t.flag DCT_WIN_STS_READY = true ∧
      (∀ i, i < 16 → t.fld (DCT_WIN_DATA i) = leField (leBytes 64 (s.line (k * 64)).1.toNat) (4 * i) 4) ∧
      (∀ i, i < 4 → t.fld (DCT_WIN_CHK i) = leField (leBytes 16 (s.line (k * 64)).2.toNat) (4 * i) 4) ∧ t.dram = s.dram)

/-- R402, R407 to R415, R419, R424, Tables 14-3 to 14-6: a TRACE or NOTE message becomes a record. With no incident open, no shadow and no bypass, a message of a kind whose reaction is LOG opens an incident in slot 0 under the next number, HELD while its cause is present and GONE where it is not; of a kind whose reaction is FENCE or FENCE_DEGRADED it puts the unit of its source out under a shadow; CORES_LOST in service makes keeper mode. PACE_LOW, which is never shadowed, runs its reaction as it repeats. A message of an open incident's source and kind is merged as a consequent, unless its kind is never shadowed. Off sees none. -/
def Obligations.FaultMessages : Prop :=
  ∀ (s : State) (h : SramUse),
    (∀ own, s.sys.mode = .off → Answers (.faultMessageArrival own h) s (fun t => t = s)) ∧
    (s.sys.mode ≠ .off → s.flt.slots = [] →
      (s.flt.inflight = [] → Answers (.faultMessageArrival none h) s (fun t => t = s)) ∧
      (∀ m : FaultMsg, (m.sev = .trace ∨ m.sev = .note) → Answers (.faultMessageArrival (some m) h) s (fun t =>
        t = s.emitTagged m.sev m.inj (kindCode m.kind) m.source.val (leBytes 4 (msgWord m) ++ leBytes 4 m.follow.toNat))) ∧
      (∀ (m : FaultMsg) (b : Bool) (rest : List (FaultMsg × Bool)), s.flt.inflight = (m, b) :: rest → (m.sev = .trace ∨ m.sev = .note) → Answers (.faultMessageArrival none h) s (fun t =>
        t.flt = { s.flt with inflight := rest } ∧ t = { s with flt := t.flt, evr := t.evr }))) ∧
    (∀ m : FaultMsg, s.sys.mode ≠ .off → s.flt.slots = [] → s.flt.shadows = [] → s.flag FLT_STS_BYPASS = false → (m.sev = .fault ∨ m.sev = .critical) →
      m.source.val ≠ 144 → m.kind ∉ [FaultKind.sptSelf, .feedAOv, .coreLost, .coresLost, .linkDown, .sramUe, .railNoStart, .railFault] → s.flag EVR_STS_FENCED = false →
      (s.configured m.kind = .log →
        (s.causeOf false m = true → Answers (.faultMessageArrival (some m) h) s (fun t =>
          (∃ i, t.flt.slots = [(0, i)] ∧ i.first = m ∧ i.num = s.fld FLT_NEXT_INC ∧ i.state = .held ∧ i.react = .log ∧ i.cons = []) ∧
          t.fld FLT_NEXT_INC = (s.fld FLT_NEXT_INC + 1) % 2 ^ 32 ∧ t.fld FLT_CNT_OPENED = min (s.fld FLT_CNT_OPENED + 1) 65535 ∧
          OnlyFields [FLT_NEXT_INC, FLT_CNT_OPENED, FLT_PIN_PULSING, EVR_DROP_NOTE] { s with flt := { s.flt with slots := t.flt.slots }, evr := t.evr, flo := t.flo, fce := t.fce } t)) ∧
        (s.causeOf false m = false → s.flag FLT_CTL_AUTOCLR = false → Answers (.faultMessageArrival (some m) h) s (fun t =>
          ∃ i, t.flt.slots = [(0, i)] ∧ i.first = m ∧ i.state = .gone ∧ i.react = .log)) ∧
        (s.causeOf false m = false → s.flag FLT_CTL_AUTOCLR = true → m.inj = false → s.flt.fenced = [] → Answers (.faultMessageArrival (some m) h) s (fun t => t.flt = s.flt))) ∧
      (∀ u ∈ [UnitRow.packet, .scrubber, .sideband], s.sys.mode ≠ .shutDown → unitOf m.source.val = some u → (s.configured m.kind = .fence ∨ s.configured m.kind = .fenceDegraded) →
        Answers (.faultMessageArrival (some m) h) s (fun t =>
          t.flt.fenced = s.flt.fenced ++ [(u, s.fld FLT_NEXT_INC, decide (s.configured m.kind = .fenceDegraded))] ∧
          t.flt.shadows = [⟨s.fld FLT_NEXT_INC, u, [], false⟩] ∧ (∃ i, t.flt.slots = [(0, i)] ∧ i.first = m ∧ i.state = .acting) ∧ t.sys = s.sys ∧ t.dram = s.dram))) ∧
    (∀ m : FaultMsg, s.sys.mode = .service → s.flt.slots = [] → s.flt.shadows = [] → s.flag FLT_STS_BYPASS = false → m.sev = .critical → m.kind = .coresLost →
      Answers (.faultMessageArrival (some m) h) s (fun t => t.sys.mode = .keeper ∧ t.sys.keeperFrom = .service ∧ t.flag CFG_MODE_KEEPER = true ∧ t.dram = s.dram)) ∧
    (∀ (m : FaultMsg) (i : Incident), s.sys.mode = .service → s.flt.slots = [(0, i)] → s.flt.shadows = [] → s.flag FLT_STS_BYPASS = false → m.sev = .critical → m.kind = .paceLow →
      m.source.val ≠ 144 → s.configured .paceLow = .keeper → i.first.source = m.source → i.first.kind = .paceLow → i.first.inj = m.inj → Answers (.faultMessageArrival (some m) h) s (fun t =>
      t.sys.mode = .keeper ∧ t.sys.keeperFrom = .service ∧ t.flag CFG_MODE_KEEPER = true ∧ t.dram = s.dram)) ∧
    ∀ (m : FaultMsg) (i : Incident), s.sys.mode ≠ .off → s.flt.slots = [(0, i)] → s.flag FLT_STS_BYPASS = false → s.flag EVR_STS_FENCED = false → (m.sev = .fault ∨ m.sev = .critical) → m.source.val ≠ 144 →
      neverShadowed m.kind = false → i.first.source = m.source → i.first.kind = m.kind → i.first.inj = m.inj → i.state = .held → i.cons.length < 16 →
      s.causeOf (i.causeGone && decide (m.kind ≠ .unitNotReady)) i.first = true → Answers (.faultMessageArrival (some m) h) s (fun t =>
        (∃ j, t.flt.slots = [(0, j)] ∧ j.num = i.num ∧ j.first = i.first ∧ j.cons = i.cons ++ [m] ∧ j.consCount = min (i.consCount + 1) 65535 ∧ j.state = .held) ∧
        t.fld FLT_CNT_MERGED = min (s.fld FLT_CNT_MERGED + 1) 65535 ∧
        OnlyFields [FLT_CNT_MERGED, EVR_DROP_NOTE] { s with flt := { s.flt with slots := t.flt.slots }, evr := t.evr, flo := t.flo, fce := t.fce } t)

/-- R403, R405, R406, R410, R411, R413, R414, R419, R420, Tables 14-4, 14-6, 14-12: an error pair is sampled, in a domain that is on, in power-up, attach and under its unit's shadow; an error level is kept until its coded message or UNIT_ERROR, and equal levels set the pair bit and form PAIR_WIRE and UNIT_ERROR. A unit that reports ready closes its shadow and ends its FENCE, but a mover or a scrubber stays out until the next lull; one that does not merges UNIT_NOT_READY into its incident and stays out. A cause that ends lets its incident go. The pulse ends; a write of FLT_PIN takes a PIN_SEV below 2 as 2; the self-check counts its runs and failures. -/
def Obligations.FaultUnits : Prop :=
  ∀ (s : State),
    (∀ (d : Fin 148) (b : Bool), (s.sys.mode = .off ∨ s.domOn d.val = false ∨ s.pairSampled d.val = false) → Answers (.unitErrorPair d b) s (fun t => t = s)) ∧
    (∀ (d : Fin 148), s.sys.mode ≠ .off → s.domOn d.val = true → s.pairSampled d.val = true → Answers (.unitErrorPair d false) s (fun t =>
      d.val ∈ t.flt.errLines ∧ (∀ x ∈ s.flt.errLines, x ∈ t.flt.errLines) ∧ t = { s with flt := { s.flt with errLines := t.flt.errLines } })) ∧
    (∀ (d : Fin 148), (s.sys.mode = .powerUp ∨ s.sys.mode = .attach) → s.domOn d.val = true → s.flt.slots = [] → s.flt.shadows = [] → s.flag FLT_STS_BYPASS = false →
      s.configured .pairWire = .log → s.configured .unitError = .log → Answers (.unitErrorPair d true) s (fun t =>
        t.bit (FLT_PAIR (d.val / 32)) (d.val % 32) = true ∧ d.val ∈ t.flt.errLines ∧ d.val ∈ t.flt.pairLines ∧
        (∃ i j, t.flt.slots = [(0, i), (1, j)] ∧ i.first.kind = .pairWire ∧ j.first.kind = .unitError ∧ i.state = .held ∧ j.state = .held) ∧ t.sys = s.sys ∧ t.dram = s.dram)) ∧
    (∀ (d : Fin 148), (s.sys.mode = .off ∨ d.val ∉ s.flt.errLines) → Answers (.unitError d) s (fun t => t = s)) ∧
    (∀ (d : Fin 148), s.sys.mode ≠ .off → d.val ∈ s.flt.errLines → s.flt.slots = [] → s.flt.shadows = [] → s.flag FLT_STS_BYPASS = false → s.configured .unitError = .log →
      Answers (.unitError d) s (fun t => (∃ i, t.flt.slots = [(0, i)] ∧ i.first.kind = .unitError ∧ i.first.source.val = d.val ∧ i.state = .held) ∧ t.sys = s.sys ∧ t.dram = s.dram)) ∧
    (∀ (n : BitVec 32), (∀ x ∈ s.flt.shadows, x.owner ≠ n.toNat) → Answers (.shadowClose n) s (fun t => t = s) ∧ Answers (.unitNotReady n) s (fun t => t = s)) ∧
    (∀ (n : BitVec 32) (u : UnitRow), s.flt.shadows = [⟨n.toNat, u, [], false⟩] → s.flt.slots = [] → u ∈ [UnitRow.learner, .training, .glean, .seal, .sideband] →
      (s.flt.fenced = [(u, n.toNat, false)] → Answers (.shadowClose n) s (fun t => t = { s with flt := { s.flt with shadows := [], fenced := [] } })) ∧
      (s.flt.fenced = [(u, n.toNat, true)] → Answers (.shadowClose n) s (fun t => t = { s with flt := { s.flt with shadows := [] } }))) ∧
    (∀ (n : BitVec 32) (u : UnitRow), s.flt.shadows = [⟨n.toNat, u, [], false⟩] → s.flt.slots = [] → u ∈ [UnitRow.hmover, .scrubber] →
      Answers (.shadowClose n) s (fun t => t = { s with flt := { s.flt with shadows := [] } })) ∧
    (∀ (n : BitVec 32) (u : UnitRow) (i : Incident), s.flt.shadows = [⟨n.toNat, u, [], false⟩] → s.flt.slots = [(0, i)] → s.flt.fenced = [(u, n.toNat, false)] →
      i.num = n.toNat → s.flag FLT_STS_BYPASS = false → i.cons.length < 16 → s.causeOf false i.first = true → Answers (.unitNotReady n) s (fun t =>
        t.flt.shadows = [] ∧ t.flt.fenced = [(u, n.toNat, true)] ∧
        (∃ j m, t.flt.slots = [(0, j)] ∧ j.num = i.num ∧ j.cons = i.cons ++ [m] ∧ m.kind = .unitNotReady ∧ j.state = .held) ∧ t.sys = s.sys ∧ t.dram = s.dram)) ∧
    (∀ (k : Fin 64), s.flt.slots = [] → Answers (.incidentCauseGone k) s (fun t => t = s)) ∧
    (∀ (k : Fin 64) (i : Incident), s.flt.slots = [(k.val, i)] → i.state = .held → i.first.kind = .unitError → (k.val < 63 ∨ i.cons = []) → s.flag FLT_CTL_AUTOCLR = false →
      Answers (.incidentCauseGone k) s (fun t =>
        t.flt.slots = [(k.val, { i with state := .gone, causeGone := true })] ∧ i.first.source.val ∉ t.flt.errLines ∧ t = { s with flt := t.flt })) ∧
    Answers .faultPulseEnd s (fun t => t = s.setFlag FLT_PIN_PULSING false) ∧
    (∀ (v : Word), s.coreDomains = false → Answers (.fltPinWrite v) s (fun t => t = s)) ∧
    (∀ (v : Word), s.coreDomains = true → Answers (.fltPinWrite v) s (fun t =>
      t.fld FLT_PIN_PIN_SEV = max 2 (fldOf v FLT_PIN_PIN_SEV) ∧ t.fld FLT_PIN_MODE = fldOf v FLT_PIN_MODE ∧ OnlyFields [FLT_PIN_PIN_SEV, FLT_PIN_MODE] s t)) ∧
    (∀ (f : Fin 5), s.sys.mode = .off → Answers (.sptSelf f) s (fun t => t = s)) ∧
    (s.sys.mode ≠ .off → s.flt.slots = [] → Answers (.sptSelf 0) s (fun t =>
      t.fld SPT_SELF_RUNS = (s.fld SPT_SELF_RUNS + 1) % 65536 ∧ t.flt = { s.flt with selfBad := false } ∧ OnlyFields [SPT_SELF_RUNS] { s with flt := t.flt } t)) ∧
    (∀ (f : Fin 5), s.sys.mode ≠ .off → f ≠ 0 → Answers (.sptSelf f) s (fun t =>
      t.fld SPT_SELF_RUNS = (s.fld SPT_SELF_RUNS + 1) % 65536 ∧ t.fld SPT_SELF_FAILS = min (s.fld SPT_SELF_FAILS + 1) 255 ∧ t.fld SPT_SELF_LAST = f.val ∧
      t.flt = { (s.report .sptSelf 0 0 0).flt with selfBad := true } ∧ OnlyFields [SPT_SELF_RUNS, SPT_SELF_FAILS, SPT_SELF_LAST] { s with flt := t.flt } t))

/-- R421 to R425, Tables 4-7, 14-4: FAULT_CLEAR of an incident that is GONE makes its slot FREE and answers OK, with a record; while the cause is present it answers CAUSE_PRESENT and the incident stays. FAULT_INJECT that is not permitted is refused at its first bad byte; one that is, with reactions suppressed, opens an injected incident that is GONE at once, and answers the number it took. -/
def Obligations.FaultOpcodes : Prop :=
  ∀ (s : State) (src : PktSrc),
    (s.findExec src 0x10 = none → Answers (.faultClear src) s (fun t => t = s)) ∧
    (∀ (e : ExecPkt) (k : Nat) (i : Incident), s.findExec src 0x10 = some e → OnePacket s e → s.flt.slots = [(k, i)] → k < 63 → s.flag FLT_CTL_AUTOCLR = false → s.flt.fenced = [] →
      s.flt.shadows = [] → i.overtaken = false → pktField e.bytes 8 4 = i.num → i.num ≠ 0 → i.first.kind ≠ .linkDown →
      (s.causeOf i.causeGone i.first = false → Answers (.faultClear src) s (fun t =>
        t.flt.slots = [] ∧ Completed s t e stOk (leBytes 4 1 ++ leBytes 4 0) noByte ∧
        t.evr.inflight.getLast?.map (fun r => r.code) = some 0x0042 ∧ t.sys = s.sys ∧ t.dram = s.dram)) ∧
      (s.causeOf i.causeGone i.first = true → Answers (.faultClear src) s (fun t =>
        t.flt.slots = [(k, { i with state := .held })] ∧ Completed s t e stCausePresent (leBytes 4 0 ++ leBytes 4 1) noByte ∧
        t.evr = s.evr ∧ t.sys = s.sys ∧ t.dram = s.dram))) ∧
    (s.findExec src 0x11 = none → Answers (.faultInject src) s (fun t => t = s)) ∧
    (∀ (e : ExecPkt) (b : Nat), s.findExec src 0x11 = some e → s.injectBad e = some b → Answers (.faultInject src) s (fun t => t = s.complete e stNotPermitted [] (atByte b))) ∧
    ∀ (e : ExecPkt) (k : FaultKind), s.findExec src 0x11 = some e → OnePacket s e → s.injectBad e = none → kindOfCode (pktField e.bytes 10 1) = some k → natBits (pktField e.bytes 14 1) 0 1 = 1 →
      s.flt.slots = [] → s.flt.shadows = [] → s.flag FLT_STS_BYPASS = false → Answers (.faultInject src) s (fun t =>
        (∃ i, t.flt.slots = [(0, i)] ∧ i.first = injectMessage e k ∧ i.state = .gone ∧ i.num = s.fld FLT_NEXT_INC) ∧
        Completed s t e stOk (leBytes 4 (s.fld FLT_NEXT_INC)) noByte ∧ t.sys = s.sys ∧ t.dram = s.dram)

/-- R18, R131, R426 to R431, Tables 14-7, 14-8: a running core's heartbeat restarts its age, keeps it alive and makes a starting core a standby; the holder's heartbeat turns the standby's request into LINK_DOWN, and a core that comes alive after the dead holder's lease has run out takes the kite. A core whose heartbeat is too old, or that never starts, is judged dead: CORE_LOST for it, or CORES_LOST where the other is dead too, and a gap begins where it held the kite. The holder's renewal restores the lease, another core's is reported. A hot standby's request is held. A lease that runs out passes the kite to the other core if that is alive. The link test clears LINK_DOWN, and the end of a switch-over ends the gap and posts what was withheld. -/
def Obligations.Kite : Prop :=
  ∀ (s : State) (c : CoreId),
    let dead := (fun (t : State) =>
      t.flag (coreAliveFld c) = false ∧ t.fld (coreStateFld c) = 5 ∧
      ((s.flag (coreAliveFld (otherCore c)) = true ∨ s.fld (coreStateFld (otherCore c)) = 1) → t.flt = (s.report .coreLost (coreSource c) 0 0).flt) ∧
      (s.flag (coreAliveFld (otherCore c)) = false → s.fld (coreStateFld (otherCore c)) ≠ 1 → t.flt = (s.report .coresLost 0 0 0).flt) ∧
      (s.holder = some c → s.kite.holderDead = false → t.flag SPT_KITE_GAP = true ∧ t.kite.holderDead = true) ∧
      OnlyFields [coreAliveFld c, coreStateFld c, SPT_KITE_GAP] { s with kite := t.kite, flt := t.flt } t)
    ((s.sys.mode = .off ∨ s.coreRuns c = false) → Answers (.coreHb c) s (fun t => t = s) ∧ Answers (.kiteRenew c) s (fun t => t = s)) ∧
    (s.sys.mode ≠ .off → s.coreRuns c = true → (s.kite.request = none ∨ s.holder ≠ some c) →
      (s.kite.holderDead = false ∨ s.holder ≠ some (otherCore c) ∨ s.fld SPT_KITE_LEASE_LEFT ≠ 0) → Answers (.coreHb c) s (fun t =>
      t.fld (coreAgeFld c) = 0 ∧ t.flag (coreAliveFld c) = true ∧ t.fld (coreStateFld c) = (if s.fld (coreStateFld c) = 1 then 3 else s.fld (coreStateFld c)) ∧
      OnlyFields [coreAgeFld c, coreAliveFld c, coreStateFld c] s t)) ∧
    (s.sys.mode ≠ .off → s.coreRuns c = true → s.kite.holderDead = true → s.holder = some (otherCore c) → s.fld SPT_KITE_LEASE_LEFT = 0 → Answers (.coreHb c) s (fun t =>
      t.holder = some c ∧ t.fld SPT_KITE_LEASE_LEFT = 200 ∧ t.fld (coreStateFld c) = 2 ∧ t.flag SPT_KITE_GAP = true ∧ t.kite.request = none ∧ t.kite.holderDead = false ∧ t.flt = s.flt ∧
      t.sys = s.sys ∧ t.dram = s.dram)) ∧
    (s.sys.mode ≠ .off → s.coreRuns c = true → s.holder = some c → s.kite.request = some (otherCore c) → Answers (.coreHb c) s (fun t =>
      t.flag SPT_KITE_LINK_DOWN = true ∧ t.kite.request = none ∧ (s.fld (coreStateFld (otherCore c)) = 3 → t.fld (coreStateFld (otherCore c)) = 4) ∧ t.flt = (s.report .linkDown (coreSource (otherCore c)) 0 0).flt ∧ t.sys = s.sys ∧ t.dram = s.dram)) ∧
    ((s.sys.mode = .off ∨ s.flag (coreAliveFld c) = false) → Answers (.coreDead c) s (fun t => t = s)) ∧
    ((s.sys.mode = .off ∨ s.fld (coreStateFld c) ≠ 1) → Answers (.coreStartTimeout c) s (fun t => t = s)) ∧
    (s.sys.mode ≠ .off → s.flag (coreAliveFld c) = true → Answers (.coreDead c) s dead) ∧
     (s.sys.mode ≠ .off → s.fld (coreStateFld c) = 1 → Answers (.coreStartTimeout c) s dead) ∧
    (s.sys.mode ≠ .off → s.coreRuns c = true →
      (s.holder = some c → s.kite.holderDead = false → Answers (.kiteRenew c) s (fun t => t = s.setFld SPT_KITE_LEASE_LEFT 200)) ∧
      ((s.holder ≠ some c ∨ s.kite.holderDead = true) → Answers (.kiteRenew c) s (fun t => t = s.report .coreNoKite (coreSource c) 0 0))) ∧
    ((s.sys.mode = .off ∨ s.fld (coreStateFld c) ≠ 3 ∨ s.holder ≠ some (otherCore c) ∨ s.kite.holderDead = true) → Answers (.kiteRequest c) s (fun t => t = s)) ∧
    (s.sys.mode ≠ .off → s.fld (coreStateFld c) = 3 → s.holder = some (otherCore c) → s.kite.holderDead = false →
      Answers (.kiteRequest c) s (fun t => t = { s with kite := { s.kite with request := some c } })) ∧
    (s.holder = none → Answers .kiteLeaseExpiry s (fun t => t = s)) ∧
    (s.holder = some c → s.flag (coreAliveFld (otherCore c)) = false → Answers .kiteLeaseExpiry s (fun t => t = s.setFld SPT_KITE_LEASE_LEFT 0)) ∧
    (s.holder = some c → s.flag (coreAliveFld (otherCore c)) = true → Answers .kiteLeaseExpiry s (fun t =>
      t.holder = some (otherCore c) ∧ t.fld SPT_KITE_LEASE_LEFT = 200 ∧ t.fld (coreStateFld (otherCore c)) = 2 ∧
      (s.kite.holderDead = false → t.fld (coreStateFld c) = 5 ∧ t.flag (coreAliveFld c) = false) ∧
      (s.kite.holderDead = true → t.fld (coreStateFld c) = s.fld (coreStateFld c) ∧ t.flag (coreAliveFld c) = s.flag (coreAliveFld c)) ∧
      t.flag SPT_KITE_GAP = true ∧ t.kite.request = none ∧ t.kite.holderDead = false ∧ t.fld CORE_CNT_SWITCH = min (s.fld CORE_CNT_SWITCH + 1) 65535 ∧
      t.flt = (if s.kite.holderDead then s.flt else (s.report .coreLost (coreSource c) 1 0).flt) ∧ t.sys = s.sys ∧ t.dram = s.dram)) ∧
    (s.flt.slots = [] → Answers .linkTestPass s (fun t => t = s.setFlag SPT_KITE_LINK_DOWN false)) ∧
    ((s.flag SPT_KITE_GAP = false ∨ s.kite.holderDead = true) → Answers .switchoverComplete s (fun t => t = s)) ∧
    (s.flag SPT_KITE_GAP = true → s.kite.holderDead = false → Answers .switchoverComplete s (fun t =>
      t.flag SPT_KITE_GAP = false ∧ t.pkt.withheld = [] ∧
      (∀ e ∈ t.pkt.exec, coreOp (pktField e.bytes 0 1) = true → pktField e.bytes 0 1 ≠ 0x02 → pktField e.bytes 0 1 ≠ 0x0A → e.started = false) ∧ t.sys = s.sys ∧ t.dram = s.dram))

/-- R443 to R448, R453: a record that arrives takes the next sequence number and is held with the epoch, the horizon and the wall time of its arrival; one whose CRC fails is held as chaff; before the base is fixed it is held without a number. With the arrival queue full, or with no room in the log, it is dropped and counted by its severity; a fenced recorder counts it alone. With no record of the command the oldest in transit arrives. A snapshot trigger that matches writes a SNAPSHOT record of the same severity after it, or counts a miss where it still runs. Off holds nothing. -/
def Obligations.RecordArrives : Prop :=
  ∀ (s : State) (q c : Bool) (w : BitVec 64),
    (∀ own, s.sys.mode = .off → Answers (.recordArrival own q c w) s (fun t => t = s)) ∧
    (s.sys.mode ≠ .off → s.evr.fresh = [] →
      (s.evr.inflight = [] → Answers (.recordArrival none q c w) s (fun t => t = s)) ∧
      (∀ e rest P, s.evr.inflight = e :: rest → (Answers (.recordArrival none q c w) s P ↔ Answers (.recordArrival (some e) q c w) { s with evr := { s.evr with inflight := rest } } P)) ∧
      (∀ e : EvRecord, s.flag EVR_STS_FENCED = false → Answers (.recordArrival (some e) true c w) s (fun t =>
        t.fld (dropFld e.sev) = min (s.fld (dropFld e.sev) + 1) 255 ∧ OnlyFields [dropFld e.sev] s t)) ∧
      (∀ e : EvRecord, s.flag EVR_STS_FENCED = true → Answers (.recordArrival (some e) q c w) s (fun t =>
        t.fld EVR_FENCED_CNT = min (s.fld EVR_FENCED_CNT + 1) (2 ^ 32 - 1) ∧ OnlyFields [EVR_FENCED_CNT] s t)) ∧
      (∀ e : EvRecord, s.flag EVR_STS_FENCED = false → e.code ∉ [0x40, 0x41, 0x44, 0x45, 0x46, 0x47] →
        let r : LogRec := ⟨e, false, false, some s.evr.nextSeq, s.epoch, s.horizon, s.wallNow, false⟩
        (s.evr.base = none → s.evr.markOpen = false → s.logUnits + recUnits { r with seq := none } ≤ 4096 → s.flag EVR_CTL_SNAP_EN = false →
          Answers (.recordArrival (some e) false false w) s (fun t => t = { s with evr := { s.evr with log := s.evr.log ++ [{ r with seq := none }] } })) ∧
        (∀ b, s.evr.base = some b → s.evr.nextSeq % 2 ^ 24 ≠ 0 → sevCode e.sev < s.fld EVR_CTL_MIRROR_SEV → s.logUnits + recUnits r + 2 ≤ 4096 →
          ((s.flag EVR_CTL_SNAP_EN = false ∨ ∀ k : Fin 64, s.flag (EVR_SNAP_CTL_EN k.val) = false) →
            Answers (.recordArrival (some e) false false w) s (fun t => t = { s with evr := { s.evr with log := s.evr.log ++ [r], nextSeq := s.evr.nextSeq + 1 } }) ∧
            Answers (.recordArrival (some e) false true w) s (fun t =>
              t = { s with evr := { s.evr with log := s.evr.log ++ [{ r with chaff := true }], nextSeq := s.evr.nextSeq + 1 } })) ∧
          (∀ k : Fin 64, s.flag EVR_CTL_SNAP_EN = true → (∀ j : Fin 64, s.flag (EVR_SNAP_CTL_EN j.val) = decide (j = k)) → s.fld (EVR_SNAP_CTL_CODE k.val) = e.code → e.code ≠ 0x43 →
            (s.flag (EVR_SNAP_CTL_ANY_SRC k.val) = true ∨ s.fld (EVR_SNAP_CTL_SOURCE k.val) = e.source.val) → (s.evr.nextSeq + 1) % 2 ^ 24 ≠ 0 →
            (w.getLsbD k.val = false → Answers (.recordArrival (some e) false false w) s (fun t =>
              (∃ x, t.evr.log = s.evr.log ++ [r, x] ∧ x.ev.code = 0x43 ∧ x.ev.sev = e.sev ∧ x.ev.source.val = 145 ∧ recLen x.ev = 8 ∧ x.seq = some (s.evr.nextSeq + 1)) ∧
              t = { s with evr := { s.evr with log := t.evr.log, nextSeq := s.evr.nextSeq + 2 } })) ∧
            (w.getLsbD k.val = true → Answers (.recordArrival (some e) false false w) s (fun t =>
              t.evr = { s.evr with log := s.evr.log ++ [r], nextSeq := s.evr.nextSeq + 1 } ∧ t.fld EVR_SNAP_MISS = min (s.fld EVR_SNAP_MISS + 1) (2 ^ 32 - 1) ∧
              OnlyFields [EVR_SNAP_MISS] { s with evr := t.evr } t)))) ∧
        (∀ b, s.evr.base = some b → s.evr.nextSeq % 2 ^ 24 ≠ 0 → s.logRoom r = false → Answers (.recordArrival (some e) false false w) s (fun t =>
          t.fld (dropFld e.sev) = min (s.fld (dropFld e.sev) + 1) 255 ∧ OnlyFields [dropFld e.sev] s t))))

/-- R9, R463, R470, R474 to R477, Tables 11-8, 11-9, 16-2: a sideband read returns the register's value least significant byte first; a LO read latches its HI half into the path's latch and a HI read returns the latch, 0 where none was latched. An address that is unaligned or in no block reads as ones, is counted in BAD_ADDR and changes nothing else; the pointer advances by 4 in either case. A core reads into its own latch, and the ring-state table is refused to it. A write stores a field of access RW where the value is in its range, clears the bits written as 1 of a W1C field, and leaves a RO field; a core without the kite is refused and reported. A private write sets the pointer and writes words, and counts one that ends inside a word; a private read answers words at the pointer, and one that comes too early is not acknowledged and counted; another address is not acknowledged at all. The burn of the power table is taken in blank hold alone and refused where a word is unwritten, the table has an error or the keys are zero. -/
def Obligations.RegisterPaths : Prop :=
  ∀ (s : State) (a : BitVec 32) (v : Word),
    (s.sbUp = false → Answers (.loRegisterRead .sideband a) s (fun t => t = s) ∧ Answers (.registerWrite .sideband a v) s (fun t => t = s)) ∧
    (s.sbUp = true → (a.toNat % 4 ≠ 0 ∨ insideBlock a.toNat = false) →
      Answers (.loRegisterRead .sideband a) s (fun t =>
        t.sb = { s.sb with out := [0xFF, 0xFF, 0xFF, 0xFF], acked := true, ptr := (a.toNat + 4) % 2 ^ 32 } ∧
        t.fld CFG_SB_STS_BAD_ADDR = min (s.fld CFG_SB_STS_BAD_ADDR + 1) 255 ∧ OnlyFields [CFG_SB_STS_BAD_ADDR] { s with sb := t.sb } t) ∧
      Answers (.registerWrite .sideband a v) s (fun t =>
        t.sb = { s.sb with out := [], acked := true, ptr := (a.toNat + 4) % 2 ^ 32 } ∧
        t.fld CFG_SB_STS_BAD_ADDR = min (s.fld CFG_SB_STS_BAD_ADDR + 1) 255 ∧ OnlyFields [CFG_SB_STS_BAD_ADDR] { s with sb := t.sb } t)) ∧
    (s.sbUp = true → a.toNat % 4 = 0 → insideBlock a.toNat = true → s.sbServes a.toNat = true → Answers (.loRegisterRead .sideband a) s (fun t =>
      t.sb.acked = true ∧ t.sb.ptr = (a.toNat + 4) % 2 ^ 32 ∧ t = { s with sb := { s.sb with ptr := t.sb.ptr, acked := t.sb.acked, out := t.sb.out, latch := t.sb.latch } } ∧
      ((∀ p ∈ hiPairs, p.1 ≠ a.toNat ∧ p.2 ≠ a.toNat) → t.sb.out = leBytes 4 (s.readReg none a.toNat).toNat ∧ t.sb.latch = s.sb.latch) ∧
      (∀ p ∈ hiPairs, p.1 = a.toNat → t.sb.out = leBytes 4 (s.readReg none a.toNat).toNat ∧ t.sb.latch = smapPut s.sb.latch p.2 (s.readReg none p.2)) ∧
      (∀ p ∈ hiPairs, p.2 = a.toNat → t.sb.out = leBytes 4 ((smapFind s.sb.latch a.toNat).getD 0).toNat ∧ t.sb.latch = s.sb.latch))) ∧
    (∀ c : CoreId, (s.coreRuns c = false ∨ a.toNat % 4 ≠ 0 ∨ insideBlock a.toNat = false) →
      Answers (.loRegisterRead (.core c) a) s (fun t => t = s) ∧ Answers (.registerWrite (.core c) a v) s (fun t => t = s)) ∧
    (∀ c : CoreId, s.coreRuns c = true → a.toNat % 4 = 0 → insideBlock a.toNat = true →
      (0x40000 ≤ a.toNat → Answers (.loRegisterRead (.core c) a) s (fun t => t = s.report .coreNoKite (coreSource c) 0 0)) ∧
      (a.toNat < 0x40000 → (∀ p ∈ hiPairs, p.1 ≠ a.toNat ∧ p.2 ≠ a.toNat) → Answers (.loRegisterRead (.core c) a) s (fun t =>
        t = { s with sb := { s.sb with coreOut := s.readReg (some c) a.toNat } })) ∧
      ((s.holder ≠ some c ∨ s.kite.holderDead = true) → a.toNat ≠ 0x22004 → a.toNat ≠ 0x22008 → Answers (.registerWrite (.core c) a v) s (fun t =>
        t = s.report .coreNoKite (coreSource c) 0 0))) ∧
    (∀ p : RegPath, ((p = .sideband ∧ s.sbUp = true ∧ s.fld SPT_STS_SEQ ≠ 7) ∨ ∃ c, p = .core c ∧ s.coreRuns c = true ∧ s.holder = some c ∧ s.kite.holderDead = false) →
      Answers (.registerWrite p 0xD008 v) s (fun t =>
        t.fld DCT_HARV_CTL_ENTRY_US = (if fldOf v DCT_HARV_CTL_ENTRY_US = 0 then s.fld DCT_HARV_CTL_ENTRY_US else fldOf v DCT_HARV_CTL_ENTRY_US) ∧
        t.fld DCT_HARV_CTL_SCRUB_H = (if fldOf v DCT_HARV_CTL_SCRUB_H = 0 then s.fld DCT_HARV_CTL_SCRUB_H else fldOf v DCT_HARV_CTL_SCRUB_H) ∧
        (∀ f ∈ [DCT_HARV_CTL_EN, DCT_HARV_CTL_HREPAIR_EN, DCT_HARV_CTL_FLUSH_EN, DCT_HARV_CTL_SCRUB_EN, DCT_HARV_CTL_RETRAIN_EN], t.fld f = fldOf v f) ∧
        OnlyFields [DCT_HARV_CTL_ENTRY_US, DCT_HARV_CTL_SCRUB_H, DCT_HARV_CTL_EN, DCT_HARV_CTL_HREPAIR_EN, DCT_HARV_CTL_FLUSH_EN, DCT_HARV_CTL_SCRUB_EN, DCT_HARV_CTL_RETRAIN_EN] { s with sb := t.sb } t) ∧
      Answers (.registerWrite p 0xD004 v) s (fun t =>
        (∀ f ∈ [DCT_STS_HOT, DCT_STS_HANDBACK_LATE, DCT_STS_HANDBACK_EARLY, DCT_STS_SPLIT], t.fld f = (if fldOf v f = 1 then 0 else s.fld f)) ∧
        OnlyFields [DCT_STS_HOT, DCT_STS_HANDBACK_LATE, DCT_STS_HANDBACK_EARLY, DCT_STS_SPLIT] { s with sb := t.sb } t)) ∧
    (∀ (addr : BitVec 7) (bs : List Byte) (n : Fin 65) (early : Bool), s.sbAnswers addr.toNat = false →
      Answers (.sbPrivateWrite addr bs) s (fun t => t = { s with sb := { s.sb with acked := false, out := [] } }) ∧
      Answers (.sbPrivateRead addr n early) s (fun t => t = { s with sb := { s.sb with acked := false, out := [] } })) ∧
    (∀ (addr : BitVec 7), s.sbAnswers addr.toNat = true →
      Answers (.sbPrivateWrite addr []) s (fun t => t = { s with sb := { s.sb with acked := true, out := [] } }) ∧
      (∀ bs : List Byte, 0 < bs.length → bs.length < 4 → Answers (.sbPrivateWrite addr bs) s (fun t =>
        t.sb = { s.sb with acked := true, out := [] } ∧ t.fld CFG_SB_STS_SHORT_WR = min (s.fld CFG_SB_STS_SHORT_WR + 1) 255 ∧ OnlyFields [CFG_SB_STS_SHORT_WR] { s with sb := t.sb } t)) ∧
      (∀ b0 b1 b2 b3 : Byte, Answers (.sbPrivateWrite addr [b0, b1, b2, b3]) s (fun t =>
        t = { s with sb := { s.sb with ptr := leNat [b0, b1, b2, b3], acked := true, out := [] } })) ∧
      (∀ b0 b1 b2 b3 v0 v1 v2 v3 : Byte, ∀ P, Answers (.sbPrivateWrite addr [b0, b1, b2, b3, v0, v1, v2, v3]) s P ↔
        Answers (.registerWrite .sideband (BitVec.ofNat 32 (leNat [b0, b1, b2, b3])) (BitVec.ofNat 32 (leNat [v0, v1, v2, v3]))) s P) ∧
      (∀ n : Fin 65, Answers (.sbPrivateRead addr n true) s (fun t =>
        t.sb = { s.sb with acked := false, out := [] } ∧ t.fld CFG_SB_STS_READ_NACK = min (s.fld CFG_SB_STS_READ_NACK + 1) 255 ∧ OnlyFields [CFG_SB_STS_READ_NACK] { s with sb := t.sb } t)) ∧
      (∀ n : Fin 65, Answers (.sbPrivateRead addr n false) s (fun t =>
        t.sb.acked = true ∧ t.sb.out.length = 4 * n.val ∧ t.sb.ptr = (if n = 0 then s.sb.ptr else (s.sb.ptr + 4 * n.val) % 2 ^ 32) ∧ t.dram = s.dram ∧ t.sys = s.sys ∧ t.hbp = s.hbp)) ∧
      (s.sb.ptr < 2 ^ 32 → ∀ P, Answers (.sbPrivateRead addr 1 false) s P ↔ Answers (.loRegisterRead .sideband (BitVec.ofNat 32 s.sb.ptr)) s P)) ∧
    ((s.fld SPT_STS_SEQ ≠ 7 ∨ v.toNat % 65536 ≠ 0x5054 ∨ s.flag SPT_PTAB_CTL_BURNING = true) → Answers (.ptabBurn v) s (fun t => t = s)) ∧
    (s.fld SPT_STS_SEQ = 7 → v.toNat % 65536 = 0x5054 → s.flag SPT_PTAB_CTL_BURNING = false →
      let table := (List.range 32).map (fun i => s.word (0x24200 + 4 * i))
      let keys := (List.range 8).map (fun i => s.word (0x24020 + 4 * i))
      ((s.nv.wsWritten ≠ BitVec.allOnes 40 ∨ ptabOk table = false ∨ ∀ k ∈ keys, k = 0) → Answers (.ptabBurn v) s (fun t =>
        t.flag SPT_PTAB_CTL_REJECTED = true ∧ OnlyFields [SPT_PTAB_CTL_REJECTED] s t)) ∧
      (s.nv.wsWritten = BitVec.allOnes 40 → ptabOk table = true → (∃ k ∈ keys, k ≠ 0) → Answers (.ptabBurn v) s (fun t =>
        t.flag SPT_PTAB_CTL_BURNING = true ∧ t.flag SPT_PTAB_CTL_REJECTED = false ∧ OnlyFields [SPT_PTAB_CTL_BURNING, SPT_PTAB_CTL_REJECTED] s t)))

/-- R473, R476, R497, Table 16-10: a dynamic address is assigned by ENTDAA and by SETDASA at the static address to a target that has none, changed by SETNEWDA, and dropped by RSTDAA; the pointer and the latch reset, and I2C shows whether the target has none. A CCC that gets data answers a target with a dynamic address; a target that is down acknowledges nothing. SETMWL and SETMRL change nothing. The test access port takes its instructions: BYPASS captures 0, IDCODE reads 0x2971_6001 least significant bit first, SAMPLE/PRELOAD gives the pins and loads the boundary register, and EXTEST drives it except in save. The order of the bytes of GETPID is the model's presumption (log entry 56). -/
def Obligations.SidebandAndTap : Prop :=
  ∀ (s : State) (addr old : BitVec 7) (w : BitVec 16),
    let nack := fun (t : State) => (t = { s with sb := { s.sb with acked := false, out := [] } })
    let got := fun (out : List Byte) (t : State) => (t = { s with sb := { s.sb with acked := true, out := out } })
    let assigned := fun (n : Nat) (t : State) => (
      t.fld CFG_SB_ADDR_DYN = n ∧ t.flag CFG_SB_STS_I2C = decide (n = 0) ∧ t.sb = { s.sb with ptr := 0, latch := [], acked := true, out := [] } ∧
      OnlyFields [CFG_SB_ADDR_DYN, CFG_SB_STS_I2C] { s with sb := t.sb } t)
    (s.sbUp = true → s.fld CFG_SB_ADDR_DYN = 0 → addr ≠ 0 → Answers (.entdaa addr) s (assigned addr.toNat)) ∧
    ((s.sbUp = false ∨ s.fld CFG_SB_ADDR_DYN ≠ 0 ∨ addr = 0) → Answers (.entdaa addr) s nack) ∧
    (s.sbUp = true → s.fld CFG_SB_ADDR_DYN = 0 → old.toNat = s.sbStatic → addr ≠ 0 → Answers (.setdasa old addr) s (assigned addr.toNat)) ∧
    ((s.sbUp = false ∨ s.fld CFG_SB_ADDR_DYN ≠ 0 ∨ old.toNat ≠ s.sbStatic ∨ addr = 0) → Answers (.setdasa old addr) s nack) ∧
    (s.sbUp = true → old ≠ 0 → s.fld CFG_SB_ADDR_DYN = old.toNat → addr ≠ 0 → Answers (.setnewda old addr) s (assigned addr.toNat)) ∧
    ((s.sbUp = false ∨ s.fld CFG_SB_ADDR_DYN = 0 ∨ s.fld CFG_SB_ADDR_DYN ≠ old.toNat ∨ addr = 0) → Answers (.setnewda old addr) s nack) ∧
    (s.sbUp = true → Answers .rstdaa s (assigned 0)) ∧ (s.sbUp = false → Answers .rstdaa s nack) ∧
    (s.sbUp = true → s.fld CFG_SB_ADDR_DYN ≠ 0 →
      Answers .getpid s (got ([0x00, 0x01] ++ (leBytes 4 (s.word 0x20).toNat).reverse)) ∧
      Answers .getbcr s (got [0x00]) ∧ Answers .getdcr s (got [0x00]) ∧ Answers .getmwl s (got [0x01, 0x04]) ∧ Answers .getmrl s (got [0x01, 0x00]) ∧
      Answers .getstatus s (got [0x00, if s.sys.mode = .save ∨ s.sys.mode = .shutDown then 0x20 else 0x00])) ∧
    ((s.sbUp = false ∨ s.fld CFG_SB_ADDR_DYN = 0) → ∀ c ∈ [Instr.getpid, .getbcr, .getdcr, .getmwl, .getmrl, .getstatus], Answers c s nack) ∧
    Answers (.setmwl w) s (fun t => t = { s with sb := { s.sb with acked := s.sbUp, out := [] } }) ∧
    Answers (.setmrl w) s (fun t => t = { s with sb := { s.sb with acked := s.sbUp, out := [] } }) ∧
    Answers .bypass s (fun t => t = { s with tap := ⟨.bypass, s.tap.boundary, [false]⟩ }) ∧
    Answers .idcode s (fun t => t.tap.instr = .idcode ∧ t.tap.boundary = s.tap.boundary ∧ t.tap.out.length = 32 ∧
      (∀ i : Nat, i < 32 → t.tap.out[i]? = some ((0x29716001#32).getLsbD i)) ∧ t = { s with tap := t.tap }) ∧
    (∀ x y, Answers (.samplePreload x y) s (fun t => t = { s with tap := ⟨.samplePreload, y, x⟩ })) ∧
    (s.sys.mode ≠ .save → Answers .extest s (fun t => t = { s with tap := ⟨.extest, s.tap.boundary, s.tap.out⟩ })) ∧
    (s.sys.mode = .save → Answers .extest s (fun t => t = s))

/-- The queue (the block's command interface; log entries 1 and 2): the command at the front of the queue runs on the state with the queue's rest, whatever waits behind it. -/
def Obligations.StepRunsFrontCommand : Prop :=
  ∀ (c : Instr) (q : List Instr) (s : State), step { s with pending := c :: q } = exec c { s with pending := q }

/-- R348, R426, R427, log entry 1: with an empty queue the step is one device tick, in every mode except off; the tick rises by one, a running core's heartbeat ages by 1 µs, a core that does not run shows 0xFF, and the lease runs down. With nothing else under way it changes nothing else. That an empty queue stands for a tick is the model's choice. -/
def Obligations.IdleTickPasses : Prop :=
  ∀ (s : State), s.pending = [] →
    (s.sys.mode = .off → step s = .next s) ∧
    (s.sys.mode ≠ .off → s.fce = [] → s.flt.slots = [] → s.evr.fresh = [] → s.pln.staging = none → s.pkt.exec = [] → s.flag SPT_PTAB_CTL_BURNING = false → s.pwr.capOk = false →
      s.fld SAV_STS_STAGE ≠ 5 → s.fld SAV_STS_STAGE ≠ 7 → s.fld TRN_STS_STEP = 0 → s.harvestOn = false → s.per.confirms = [] → s.flag FLO_STS_FORMATTING = false →
      ∃ t, step s = .next t ∧ t.tick = s.tick + 1 ∧ t.fld SPT_KITE_LEASE_LEFT = s.fld SPT_KITE_LEASE_LEFT - 1 ∧
        (∀ c, t.fld (coreAgeFld c) = if s.coreRuns c then min (s.fld (coreAgeFld c) + 1) 255 else 255) ∧
        OnlyFields [coreAgeFld .a, coreAgeFld .b, SPT_KITE_LEASE_LEFT] { s with tick := s.tick + 1 } t)

/-- The queue belongs to those who send commands: whatever a command does, in every state, it leaves the commands that wait as they are. -/
def Obligations.CommandsKeepTheQueue : Prop :=
  ∀ (c : Instr) (s t : State), exec c s = .next t → t.pending = s.pending

/-- Every command has an effect: in every state it answers a next state, never a fault or a refusal. -/
def Obligations.EveryCommandAnswers : Prop := ∀ (c : Instr) (s : State), ∃ t, exec c s = .next t

/-- R22 and the canonical form of the state: from every state that satisfies the invariant, in or out of reach, whatever command is at the front of the queue and also on an empty queue, a step leads to one that satisfies it. An attach phase is shown in attach alone, and the register bank and the DRAM, which holds data and check bytes, keep their canonical form. -/
def Obligations.EveryStepKeepsTheInvariant : Prop := ∀ (s t : State), s.Inv → step s = .next t → t.Inv

/-- The reset state satisfies the invariant. -/
def Obligations.ResetMeetsTheInvariant : Prop := State.reset.Inv

/-- R367, Table 1-6: power-up is entered only by the release of the always-on power-on reset: no other command, and no tick, makes it the mode. -/
def Obligations.PowerUpEnteredOnlyByRelease : Prop :=
  ∀ (s t : State), step s = .next t → s.sys.mode ≠ .powerUp → t.sys.mode = .powerUp →
    ∃ b m r q, s.pending = .powerOnResetRelease b m r :: q

/-- R21, R39, R348, R460, R501: what the machine holds before anything happens. The mode is off, outside any attach phase, with no command waiting, no stamp given, tick 0 and every rail off; each register has the value of its Reset column, of which one field of each register group is named. -/
def Obligations.ResetState : Prop :=
  State.reset.sys.mode = .off ∧ State.reset.sys.phase = .none ∧ State.reset.pending = [] ∧ State.reset.hbp.stamp = 0 ∧ State.reset.tick = 0 ∧ State.reset.pwr.en = 0 ∧
  (∀ a, State.reset.word a = resetWord a) ∧
  ∀ e ∈ [(HBP_CTL_ALERT_WIDTH, 2), (HBP_CTL_PAR_POLICY, 1), (HBP_CTL_PAR_EN, 1), (HBP_CTL_CA_LAT, 1), (HBP_LANE_CTL_WINDOW_MS, 1000), (CLN_CTL_TIMEOUT_MS, 500), (PKT_CTL_GAP_US, 100),
      (GLN_CTL_IDLE_US, 200), (SAV_CTL_THRESH_AT, 4), (FLO_WEAR_CTL_COUNT_LIMIT, 50000), (DCT_HARV_CTL_ENTRY_US, 50), (DCT_RD_CTL_THRESH, 262144), (CLK_CTL_H_BW, 2), (PWR_CTL_TEL_MS, 10),
      (FLT_PIN_PIN_SEV, 2), (FLT_CTL_AUTOCLR, 1), (EVR_CTL_MIRROR_SEV, 2), (HBP_LAT_SET_POINT, 0), (CFG_SB_STS_I2C, 1), (SPT_STS_SEQ, 0), (CFG_MODE_KEEPER, 0)], State.reset.fld e.1 = e.2
end

