-- ==== Sys2Proof/Laws/SMap.lean ====
section
/-! SUPPORT. The laws of sparse maps: what a key reads as after a write, and that every operation keeps the canonical form. -/

namespace Sys2Proof.Laws

open Sys2Proof.Machine

variable {α : Type}

@[simp] theorem smapFind_nil (k : Nat) : smapFind ([] : SMap α) k = none := rfl

theorem smapFind_put_same (m : SMap α) (k : Nat) (v : α) : smapFind (smapPut m k v) k = some v := by
  induction m with
  | nil => simp [smapPut, smapFind]
  | cons e t ih =>
    obtain ⟨k', v'⟩ := e
    simp only [smapPut]
    split
    · simp [smapFind]
    · split
      · simp [smapFind]
      · rename_i h; simp [smapFind, Ne.symm h, ih]

theorem smapFind_put_ne (m : SMap α) {k j : Nat} (v : α) (h : j ≠ k) : smapFind (smapPut m k v) j = smapFind m j := by
  induction m with
  | nil => simp [smapPut, smapFind, Ne.symm h]
  | cons e t ih =>
    obtain ⟨k', v'⟩ := e
    simp only [smapPut]
    split
    · simp [smapFind, Ne.symm h]
    · split
      · rename_i hk; subst hk; simp [smapFind, Ne.symm h]
      · simp [smapFind, ih]

theorem smapFind_del_same (m : SMap α) (k : Nat) : smapFind (smapDel m k) k = none := by
  induction m with
  | nil => rfl
  | cons e t ih =>
    obtain ⟨k', v'⟩ := e
    by_cases h : k' = k
    · subst h; simpa [smapDel] using ih
    · simpa [smapDel, smapFind, h] using ih

theorem smapFind_del_ne (m : SMap α) {k j : Nat} (h : j ≠ k) : smapFind (smapDel m k) j = smapFind m j := by
  induction m with
  | nil => rfl
  | cons e t ih =>
    obtain ⟨k', v'⟩ := e
    by_cases hk : k' = k
    · subst hk; simpa [smapDel, smapFind, Ne.symm h] using ih
    · by_cases hj : k' = j
      · simp [smapDel, smapFind, hj, h]
      · simpa [smapDel, smapFind, hk, hj] using ih

/-- A key reads as what was written to it. -/
@[simp] theorem smapGet_set_same [DecidableEq α] (d : Nat → α) (m : SMap α) (k : Nat) (v : α) :
    smapGet d (smapSet d m k v) k = v := by
  unfold smapGet smapSet
  split
  · simp [smapFind_del_same, *]
  · simp [smapFind_put_same]

/-- A write leaves every other key alone. -/
theorem smapGet_set_ne [DecidableEq α] (d : Nat → α) (m : SMap α) {k j : Nat} (v : α) (h : j ≠ k) :
    smapGet d (smapSet d m k v) j = smapGet d m j := by
  unfold smapGet smapSet
  split
  · rw [smapFind_del_ne m h]
  · rw [smapFind_put_ne m v h]

/-- The two laws in one. -/
theorem smapGet_set [DecidableEq α] (d : Nat → α) (m : SMap α) (k j : Nat) (v : α) :
    smapGet d (smapSet d m k v) j = if j = k then v else smapGet d m j := by
  by_cases h : j = k
  · subst h; simp
  · simp [h, smapGet_set_ne d m v h]

theorem smapPut_mem {m : SMap α} {k : Nat} {v : α} {e : Nat × α} (h : e ∈ smapPut m k v) : e = (k, v) ∨ e ∈ m := by
  induction m with
  | nil => simpa [smapPut] using h
  | cons x t ih =>
    obtain ⟨k', v'⟩ := x
    simp only [smapPut] at h
    split at h
    · simpa using h
    · split at h
      · rcases List.mem_cons.1 h with h | h
        · exact Or.inl h
        · exact Or.inr (List.mem_cons_of_mem _ h)
      · rcases List.mem_cons.1 h with h | h
        · exact Or.inr (h ▸ List.mem_cons_self)
        · rcases ih h with h | h
          · exact Or.inl h
          · exact Or.inr (List.mem_cons_of_mem _ h)

theorem smapSorted_put {m : SMap α} (k : Nat) (v : α) (h : smapSorted m = true) : smapSorted (smapPut m k v) = true := by
  induction m with
  | nil => simp [smapPut, smapSorted]
  | cons e t ih =>
    obtain ⟨k', v'⟩ := e
    simp only [smapSorted, Bool.and_eq_true, List.all_eq_true, decide_eq_true_eq] at h
    simp only [smapPut]
    split
    · rename_i hk
      simp only [smapSorted, Bool.and_eq_true, List.all_eq_true, decide_eq_true_eq]
      refine ⟨fun x hx => ?_, h⟩
      rcases List.mem_cons.1 hx with rfl | hx
      · exact hk
      · exact Nat.lt_trans hk (h.1 x hx)
    · split
      · rename_i hk; subst hk
        simpa only [smapSorted, Bool.and_eq_true, List.all_eq_true, decide_eq_true_eq] using h
      · rename_i h1 h2
        simp only [smapSorted, Bool.and_eq_true, List.all_eq_true, decide_eq_true_eq]
        refine ⟨fun x hx => ?_, ih h.2⟩
        rcases smapPut_mem hx with rfl | hx
        · simp only; omega
        · exact h.1 x hx

theorem smapSorted_filter {m : SMap α} (p : Nat × α → Bool) (h : smapSorted m = true) : smapSorted (m.filter p) = true := by
  induction m with
  | nil => rfl
  | cons e t ih =>
    obtain ⟨k', v'⟩ := e
    simp only [smapSorted, Bool.and_eq_true, List.all_eq_true, decide_eq_true_eq] at h
    by_cases hp : p (k', v') = true
    · simp only [List.filter_cons, hp, if_true, smapSorted, Bool.and_eq_true, List.all_eq_true, decide_eq_true_eq]
      exact ⟨fun x hx => h.1 x (List.mem_filter.1 hx).1, ih h.2⟩
    · simp only [List.filter_cons, hp]
      exact ih h.2

/-- A write keeps the canonical form. -/
theorem smapWf_set [DecidableEq α] {d : Nat → α} {m : SMap α} (k : Nat) (v : α) (h : smapWf d m = true) :
    smapWf d (smapSet d m k v) = true := by
  simp only [smapWf, Bool.and_eq_true, List.all_eq_true, decide_eq_true_eq] at h ⊢
  unfold smapSet
  split
  · exact ⟨smapSorted_filter _ h.1, fun x hx => h.2 x (List.mem_filter.1 hx).1⟩
  · rename_i hv
    refine ⟨smapSorted_put k v h.1, fun x hx => ?_⟩
    rcases smapPut_mem hx with rfl | hx
    · exact hv
    · exact h.2 x hx

@[simp] theorem smapWf_nil [DecidableEq α] (d : Nat → α) : smapWf d [] = true := rfl

/-- A whole-range map reads at a key what was written to it, and elsewhere what it read before. -/
theorem fmapGet_set [DecidableEq α] (m : FMap α) (k j : Nat) (v : α) :
    fmapGet (fmapSet m k v) j = if j = k then v else fmapGet m j := smapGet_set _ _ _ _ _

@[simp] theorem fmapGet_all (v : α) (k : Nat) : fmapGet (fmapAll v) k = v := rfl

theorem fmapWf_set [DecidableEq α] {m : FMap α} (k : Nat) (v : α) (h : fmapWf m = true) : fmapWf (fmapSet m k v) = true :=
  smapWf_set k v h

end Sys2Proof.Laws
end

