-- ==== Sys2Proof/Laws/Ops.lean ====
section
/-! SUPPORT. The laws of the register operations: what a register and a field of it read as after a field is written. -/

namespace Sys2Proof.Laws

open Sys2Proof.Machine

theorem fldMask_getLsbD (f : Fld) (i : Nat) :
    (fldMask f).getLsbD i = (decide (i < 32) && decide (f.lo ≤ i) && decide (i < f.lo + f.w)) := by
  simp only [fldMask, BitVec.getLsbD_shiftLeft, BitVec.getLsbD_ofNat, Nat.testBit_two_pow_sub_one]
  by_cases h1 : i < 32 <;> by_cases h2 : f.lo ≤ i <;> by_cases h3 : i < f.lo + f.w <;> simp [h1, h2, h3] <;> omega

/-- Bit `i` of a register word with a field replaced. -/
theorem fldIns_getLsbD (w : Word) (f : Fld) (v i : Nat) :
    (fldIns w f v).getLsbD i =
      if f.lo ≤ i ∧ i < f.lo + f.w then decide (i < 32) && v.testBit (i - f.lo) else w.getLsbD i := by
  simp only [fldIns, BitVec.getLsbD_or, BitVec.getLsbD_and, BitVec.getLsbD_not, fldMask_getLsbD, BitVec.getLsbD_shiftLeft,
    BitVec.getLsbD_ofNat, Nat.testBit_mod_two_pow]
  by_cases h0 : i < 32
  · by_cases h1 : f.lo ≤ i
    · by_cases h2 : i < f.lo + f.w
      · have : i - f.lo < f.w := by omega
        have : i - f.lo < 32 := by omega
        simp [*]
      · have : ¬ i - f.lo < f.w := by omega
        simp [h0, h1, h2, this]
    · have : i < f.lo := by omega
      simp [h0, h1, this]
  · have : w.getLsbD i = false := BitVec.getLsbD_of_ge w i (by omega)
    simp [h0, this]

theorem fldOf_testBit (w : Word) (f : Fld) (j : Nat) :
    (fldOf w f).testBit j = (decide (j < f.w) && w.getLsbD (f.lo + j)) := by
  simp [fldOf, Nat.testBit_mod_two_pow, Nat.testBit_div_two_pow, BitVec.getLsbD, Nat.add_comm]

/-- A field reads as the value written to it, modulo its width. -/
theorem fldOf_fldIns_same (w : Word) {f : Fld} (v : Nat) (h : f.lo + f.w ≤ 32) : fldOf (fldIns w f v) f = v % 2 ^ f.w := by
  apply Nat.eq_of_testBit_eq
  intro j
  rw [fldOf_testBit, fldIns_getLsbD, Nat.testBit_mod_two_pow]
  by_cases hj : j < f.w
  · have h1 : f.lo ≤ f.lo + j ∧ f.lo + j < f.lo + f.w := by omega
    have h2 : f.lo + j < 32 := by omega
    have h3 : f.lo + j - f.lo = j := by omega
    simp [hj, h1, h2, h3]
  · simp [hj]

/-- A write of a field leaves a field of other bits alone. -/
theorem fldOf_fldIns_disj (w : Word) {f g : Fld} (v : Nat) (h : g.lo + g.w ≤ f.lo ∨ f.lo + f.w ≤ g.lo) :
    fldOf (fldIns w f v) g = fldOf w g := by
  apply Nat.eq_of_testBit_eq
  intro j
  rw [fldOf_testBit, fldOf_testBit, fldIns_getLsbD]
  by_cases hj : j < g.w
  · have h1 : ¬ (f.lo ≤ g.lo + j ∧ g.lo + j < f.lo + f.w) := by omega
    simp [hj, h1]
  · simp [hj]

theorem fldOf_lt (w : Word) (f : Fld) : fldOf w f < 2 ^ f.w := Nat.mod_lt _ (Nat.two_pow_pos _)

/-- A register reads as the word stored to it, and every other register as before. -/
@[simp] theorem word_setWord (s : State) (a b : Nat) (w : Word) :
    (s.setWord a w).word b = if b = a then w else s.word b := smapGet_set _ _ _ _ _

theorem word_setFld (s : State) (f : Fld) (v b : Nat) :
    (s.setFld f v).word b = if b = f.addr then fldIns (s.word f.addr) f v else s.word b := word_setWord _ _ _ _

/-- A field reads as the value written to it, modulo its width. -/
theorem fld_setFld_same (s : State) {f : Fld} (v : Nat) (h : f.lo + f.w ≤ 32) : (s.setFld f v).fld f = v % 2 ^ f.w := by
  simp [State.fld, word_setFld, fldOf_fldIns_same _ _ h]

/-- A write of a field leaves the fields of other registers, and the fields of other bits, alone. -/
theorem fld_setFld_ne (s : State) {f g : Fld} (v : Nat) (h : g.addr ≠ f.addr ∨ g.lo + g.w ≤ f.lo ∨ f.lo + f.w ≤ g.lo) :
    (s.setFld f v).fld g = s.fld g := by
  simp only [State.fld, word_setFld]
  split
  · rename_i ha
    rcases h with h | h
    · exact absurd ha h
    · rw [fldOf_fldIns_disj _ _ h, ha]
  · rfl

theorem fld_lt (s : State) (f : Fld) : s.fld f < 2 ^ f.w := fldOf_lt _ _

/-- A field whose own value is written back: the word is unchanged. -/
theorem fldIns_fldOf (w : Word) (f : Fld) : fldIns w f (fldOf w f) = w := by
  apply BitVec.eq_of_getLsbD_eq
  intro i hi
  rw [fldIns_getLsbD]
  split
  · rename_i hr
    rw [fldOf_testBit]
    have h1 : i - f.lo < f.w := by omega
    have h2 : f.lo + (i - f.lo) = i := by omega
    simp [h1, h2, hi]
  · rfl

theorem flag_setFlag_same (s : State) {f : Fld} (b : Bool) (hw : f.w = 1) (h : f.lo + f.w ≤ 32) : (s.setFlag f b).flag f = b := by
  simp only [State.flag, State.setFlag, fld_setFld_same _ _ h, hw]
  cases b <;> simp

theorem flag_setFlag_ne (s : State) {f g : Fld} (b : Bool) (h : g.addr ≠ f.addr ∨ g.lo + g.w ≤ f.lo ∨ f.lo + f.w ≤ g.lo) :
    (s.setFlag f b).flag g = s.flag g := by
  simp only [State.flag, State.setFlag, fld_setFld_ne _ _ h]

/-- The register bank keeps its canonical form (R460). -/
theorem regsWf_setWord {s : State} (a : Nat) (w : Word) (h : smapWf resetWord s.regs = true) :
    smapWf resetWord (s.setWord a w).regs = true := smapWf_set a w h

/-- A field as the register bank alone gives it. -/
def regFld (m : SMap Word) (f : Fld) : Nat := fldOf (smapGet resetWord m f.addr) f

/-- The register bank with one field replaced. -/
def regSet (m : SMap Word) (f : Fld) (v : Nat) : SMap Word := smapSet resetWord m f.addr (fldIns (smapGet resetWord m f.addr) f v)

theorem fld_regs (s : State) (f : Fld) : s.fld f = regFld s.regs f := rfl

theorem flag_regs (s : State) (f : Fld) : s.flag f = decide (regFld s.regs f ≠ 0) := rfl

theorem word_regs (s : State) (a : Nat) : s.word a = smapGet resetWord s.regs a := rfl

theorem regs_setFld (s : State) (f : Fld) (v : Nat) : (s.setFld f v).regs = regSet s.regs f v := rfl

theorem regs_setFlag (s : State) (f : Fld) (b : Bool) : (s.setFlag f b).regs = regSet s.regs f (if b then 1 else 0) := rfl

theorem regs_bump (s : State) (f : Fld) (n : Nat) :
    (s.bump f n).regs = regSet s.regs f (satAdd (regFld s.regs f) n (2 ^ f.w - 1)) := rfl

theorem regs_wrap (s : State) (f : Fld) (n : Nat) : (s.wrap f n).regs = regSet s.regs f (regFld s.regs f + n) := rfl

theorem regFld_set_same (m : SMap Word) {f : Fld} (v : Nat) (h : f.lo + f.w ≤ 32) : regFld (regSet m f v) f = v % 2 ^ f.w := by
  simp [regFld, regSet, fldOf_fldIns_same _ _ h]

theorem regFld_set_ne (m : SMap Word) {f g : Fld} (v : Nat) (h : g.addr ≠ f.addr ∨ g.lo + g.w ≤ f.lo ∨ f.lo + f.w ≤ g.lo) :
    regFld (regSet m f v) g = regFld m g := by
  simp only [regFld, regSet, smapGet_set]
  split
  · rename_i ha
    rcases h with h | h
    · exact absurd ha h
    · rw [fldOf_fldIns_disj _ _ h, ha]
  · rfl

/-- A change of mode answers the new mode and leaves the mode as the old one where both agree. -/
@[simp] theorem setMode_mode (s : State) (m : Mode) : (s.setMode m).sys.mode = m := by
  unfold State.setMode
  split
  · assumption
  · rfl

end Sys2Proof.Laws
end

