-- ==== Sys2Proof/Laws/State.lean ====
section
/-! SUPPORT. One lemma per field of State and named update that leaves the field alone; each is true by rfl. -/

namespace Sys2Proof.Laws

open Sys2Proof.Machine

@[simp] theorem sys_setWord (s : State) (a : Nat) (w : Word) : (s.setWord a w).sys = s.sys := rfl
@[simp] theorem hbp_setWord (s : State) (a : Nat) (w : Word) : (s.setWord a w).hbp = s.hbp := rfl
@[simp] theorem dram_setWord (s : State) (a : Nat) (w : Word) : (s.setWord a w).dram = s.dram := rfl
@[simp] theorem trn_setWord (s : State) (a : Nat) (w : Word) : (s.setWord a w).trn = s.trn := rfl
@[simp] theorem cln_setWord (s : State) (a : Nat) (w : Word) : (s.setWord a w).cln = s.cln := rfl
@[simp] theorem pkt_setWord (s : State) (a : Nat) (w : Word) : (s.setWord a w).pkt = s.pkt := rfl
@[simp] theorem per_setWord (s : State) (a : Nat) (w : Word) : (s.setWord a w).per = s.per := rfl
@[simp] theorem gln_setWord (s : State) (a : Nat) (w : Word) : (s.setWord a w).gln = s.gln := rfl
@[simp] theorem sea_setWord (s : State) (a : Nat) (w : Word) : (s.setWord a w).sea = s.sea := rfl
@[simp] theorem sav_setWord (s : State) (a : Nat) (w : Word) : (s.setWord a w).sav = s.sav := rfl
@[simp] theorem pln_setWord (s : State) (a : Nat) (w : Word) : (s.setWord a w).pln = s.pln := rfl
@[simp] theorem flash_setWord (s : State) (a : Nat) (w : Word) : (s.setWord a w).flash = s.flash := rfl
@[simp] theorem flo_setWord (s : State) (a : Nat) (w : Word) : (s.setWord a w).flo = s.flo := rfl
@[simp] theorem fce_setWord (s : State) (a : Nat) (w : Word) : (s.setWord a w).fce = s.fce := rfl
@[simp] theorem bdc_setWord (s : State) (a : Nat) (w : Word) : (s.setWord a w).bdc = s.bdc := rfl
@[simp] theorem clk_setWord (s : State) (a : Nat) (w : Word) : (s.setWord a w).clk = s.clk := rfl
@[simp] theorem sb_setWord (s : State) (a : Nat) (w : Word) : (s.setWord a w).sb = s.sb := rfl
@[simp] theorem tap_setWord (s : State) (a : Nat) (w : Word) : (s.setWord a w).tap = s.tap := rfl
@[simp] theorem sram_setWord (s : State) (a : Nat) (w : Word) : (s.setWord a w).sram = s.sram := rfl
@[simp] theorem tick_setWord (s : State) (a : Nat) (w : Word) : (s.setWord a w).tick = s.tick := rfl
@[simp] theorem evr_setWord (s : State) (a : Nat) (w : Word) : (s.setWord a w).evr = s.evr := rfl
@[simp] theorem flt_setWord (s : State) (a : Nat) (w : Word) : (s.setWord a w).flt = s.flt := rfl
@[simp] theorem kite_setWord (s : State) (a : Nat) (w : Word) : (s.setWord a w).kite = s.kite := rfl
@[simp] theorem pwr_setWord (s : State) (a : Nat) (w : Word) : (s.setWord a w).pwr = s.pwr := rfl
@[simp] theorem nv_setWord (s : State) (a : Nat) (w : Word) : (s.setWord a w).nv = s.nv := rfl
@[simp] theorem pending_setWord (s : State) (a : Nat) (w : Word) : (s.setWord a w).pending = s.pending := rfl

@[simp] theorem sys_setFld (s : State) (f : Fld) (v : Nat) : (s.setFld f v).sys = s.sys := rfl
@[simp] theorem hbp_setFld (s : State) (f : Fld) (v : Nat) : (s.setFld f v).hbp = s.hbp := rfl
@[simp] theorem dram_setFld (s : State) (f : Fld) (v : Nat) : (s.setFld f v).dram = s.dram := rfl
@[simp] theorem trn_setFld (s : State) (f : Fld) (v : Nat) : (s.setFld f v).trn = s.trn := rfl
@[simp] theorem cln_setFld (s : State) (f : Fld) (v : Nat) : (s.setFld f v).cln = s.cln := rfl
@[simp] theorem pkt_setFld (s : State) (f : Fld) (v : Nat) : (s.setFld f v).pkt = s.pkt := rfl
@[simp] theorem per_setFld (s : State) (f : Fld) (v : Nat) : (s.setFld f v).per = s.per := rfl
@[simp] theorem gln_setFld (s : State) (f : Fld) (v : Nat) : (s.setFld f v).gln = s.gln := rfl
@[simp] theorem sea_setFld (s : State) (f : Fld) (v : Nat) : (s.setFld f v).sea = s.sea := rfl
@[simp] theorem sav_setFld (s : State) (f : Fld) (v : Nat) : (s.setFld f v).sav = s.sav := rfl
@[simp] theorem pln_setFld (s : State) (f : Fld) (v : Nat) : (s.setFld f v).pln = s.pln := rfl
@[simp] theorem flash_setFld (s : State) (f : Fld) (v : Nat) : (s.setFld f v).flash = s.flash := rfl
@[simp] theorem flo_setFld (s : State) (f : Fld) (v : Nat) : (s.setFld f v).flo = s.flo := rfl
@[simp] theorem fce_setFld (s : State) (f : Fld) (v : Nat) : (s.setFld f v).fce = s.fce := rfl
@[simp] theorem bdc_setFld (s : State) (f : Fld) (v : Nat) : (s.setFld f v).bdc = s.bdc := rfl
@[simp] theorem clk_setFld (s : State) (f : Fld) (v : Nat) : (s.setFld f v).clk = s.clk := rfl
@[simp] theorem sb_setFld (s : State) (f : Fld) (v : Nat) : (s.setFld f v).sb = s.sb := rfl
@[simp] theorem tap_setFld (s : State) (f : Fld) (v : Nat) : (s.setFld f v).tap = s.tap := rfl
@[simp] theorem sram_setFld (s : State) (f : Fld) (v : Nat) : (s.setFld f v).sram = s.sram := rfl
@[simp] theorem tick_setFld (s : State) (f : Fld) (v : Nat) : (s.setFld f v).tick = s.tick := rfl
@[simp] theorem evr_setFld (s : State) (f : Fld) (v : Nat) : (s.setFld f v).evr = s.evr := rfl
@[simp] theorem flt_setFld (s : State) (f : Fld) (v : Nat) : (s.setFld f v).flt = s.flt := rfl
@[simp] theorem kite_setFld (s : State) (f : Fld) (v : Nat) : (s.setFld f v).kite = s.kite := rfl
@[simp] theorem pwr_setFld (s : State) (f : Fld) (v : Nat) : (s.setFld f v).pwr = s.pwr := rfl
@[simp] theorem nv_setFld (s : State) (f : Fld) (v : Nat) : (s.setFld f v).nv = s.nv := rfl
@[simp] theorem pending_setFld (s : State) (f : Fld) (v : Nat) : (s.setFld f v).pending = s.pending := rfl

@[simp] theorem sys_setFlag (s : State) (f : Fld) (b : Bool) : (s.setFlag f b).sys = s.sys := rfl
@[simp] theorem hbp_setFlag (s : State) (f : Fld) (b : Bool) : (s.setFlag f b).hbp = s.hbp := rfl
@[simp] theorem dram_setFlag (s : State) (f : Fld) (b : Bool) : (s.setFlag f b).dram = s.dram := rfl
@[simp] theorem trn_setFlag (s : State) (f : Fld) (b : Bool) : (s.setFlag f b).trn = s.trn := rfl
@[simp] theorem cln_setFlag (s : State) (f : Fld) (b : Bool) : (s.setFlag f b).cln = s.cln := rfl
@[simp] theorem pkt_setFlag (s : State) (f : Fld) (b : Bool) : (s.setFlag f b).pkt = s.pkt := rfl
@[simp] theorem per_setFlag (s : State) (f : Fld) (b : Bool) : (s.setFlag f b).per = s.per := rfl
@[simp] theorem gln_setFlag (s : State) (f : Fld) (b : Bool) : (s.setFlag f b).gln = s.gln := rfl
@[simp] theorem sea_setFlag (s : State) (f : Fld) (b : Bool) : (s.setFlag f b).sea = s.sea := rfl
@[simp] theorem sav_setFlag (s : State) (f : Fld) (b : Bool) : (s.setFlag f b).sav = s.sav := rfl
@[simp] theorem pln_setFlag (s : State) (f : Fld) (b : Bool) : (s.setFlag f b).pln = s.pln := rfl
@[simp] theorem flash_setFlag (s : State) (f : Fld) (b : Bool) : (s.setFlag f b).flash = s.flash := rfl
@[simp] theorem flo_setFlag (s : State) (f : Fld) (b : Bool) : (s.setFlag f b).flo = s.flo := rfl
@[simp] theorem fce_setFlag (s : State) (f : Fld) (b : Bool) : (s.setFlag f b).fce = s.fce := rfl
@[simp] theorem bdc_setFlag (s : State) (f : Fld) (b : Bool) : (s.setFlag f b).bdc = s.bdc := rfl
@[simp] theorem clk_setFlag (s : State) (f : Fld) (b : Bool) : (s.setFlag f b).clk = s.clk := rfl
@[simp] theorem sb_setFlag (s : State) (f : Fld) (b : Bool) : (s.setFlag f b).sb = s.sb := rfl
@[simp] theorem tap_setFlag (s : State) (f : Fld) (b : Bool) : (s.setFlag f b).tap = s.tap := rfl
@[simp] theorem sram_setFlag (s : State) (f : Fld) (b : Bool) : (s.setFlag f b).sram = s.sram := rfl
@[simp] theorem tick_setFlag (s : State) (f : Fld) (b : Bool) : (s.setFlag f b).tick = s.tick := rfl
@[simp] theorem evr_setFlag (s : State) (f : Fld) (b : Bool) : (s.setFlag f b).evr = s.evr := rfl
@[simp] theorem flt_setFlag (s : State) (f : Fld) (b : Bool) : (s.setFlag f b).flt = s.flt := rfl
@[simp] theorem kite_setFlag (s : State) (f : Fld) (b : Bool) : (s.setFlag f b).kite = s.kite := rfl
@[simp] theorem pwr_setFlag (s : State) (f : Fld) (b : Bool) : (s.setFlag f b).pwr = s.pwr := rfl
@[simp] theorem nv_setFlag (s : State) (f : Fld) (b : Bool) : (s.setFlag f b).nv = s.nv := rfl
@[simp] theorem pending_setFlag (s : State) (f : Fld) (b : Bool) : (s.setFlag f b).pending = s.pending := rfl

@[simp] theorem sys_bump (s : State) (f : Fld) (n : Nat) : (s.bump f n).sys = s.sys := rfl
@[simp] theorem hbp_bump (s : State) (f : Fld) (n : Nat) : (s.bump f n).hbp = s.hbp := rfl
@[simp] theorem dram_bump (s : State) (f : Fld) (n : Nat) : (s.bump f n).dram = s.dram := rfl
@[simp] theorem trn_bump (s : State) (f : Fld) (n : Nat) : (s.bump f n).trn = s.trn := rfl
@[simp] theorem cln_bump (s : State) (f : Fld) (n : Nat) : (s.bump f n).cln = s.cln := rfl
@[simp] theorem pkt_bump (s : State) (f : Fld) (n : Nat) : (s.bump f n).pkt = s.pkt := rfl
@[simp] theorem per_bump (s : State) (f : Fld) (n : Nat) : (s.bump f n).per = s.per := rfl
@[simp] theorem gln_bump (s : State) (f : Fld) (n : Nat) : (s.bump f n).gln = s.gln := rfl
@[simp] theorem sea_bump (s : State) (f : Fld) (n : Nat) : (s.bump f n).sea = s.sea := rfl
@[simp] theorem sav_bump (s : State) (f : Fld) (n : Nat) : (s.bump f n).sav = s.sav := rfl
@[simp] theorem pln_bump (s : State) (f : Fld) (n : Nat) : (s.bump f n).pln = s.pln := rfl
@[simp] theorem flash_bump (s : State) (f : Fld) (n : Nat) : (s.bump f n).flash = s.flash := rfl
@[simp] theorem flo_bump (s : State) (f : Fld) (n : Nat) : (s.bump f n).flo = s.flo := rfl
@[simp] theorem fce_bump (s : State) (f : Fld) (n : Nat) : (s.bump f n).fce = s.fce := rfl
@[simp] theorem bdc_bump (s : State) (f : Fld) (n : Nat) : (s.bump f n).bdc = s.bdc := rfl
@[simp] theorem clk_bump (s : State) (f : Fld) (n : Nat) : (s.bump f n).clk = s.clk := rfl
@[simp] theorem sb_bump (s : State) (f : Fld) (n : Nat) : (s.bump f n).sb = s.sb := rfl
@[simp] theorem tap_bump (s : State) (f : Fld) (n : Nat) : (s.bump f n).tap = s.tap := rfl
@[simp] theorem sram_bump (s : State) (f : Fld) (n : Nat) : (s.bump f n).sram = s.sram := rfl
@[simp] theorem tick_bump (s : State) (f : Fld) (n : Nat) : (s.bump f n).tick = s.tick := rfl
@[simp] theorem evr_bump (s : State) (f : Fld) (n : Nat) : (s.bump f n).evr = s.evr := rfl
@[simp] theorem flt_bump (s : State) (f : Fld) (n : Nat) : (s.bump f n).flt = s.flt := rfl
@[simp] theorem kite_bump (s : State) (f : Fld) (n : Nat) : (s.bump f n).kite = s.kite := rfl
@[simp] theorem pwr_bump (s : State) (f : Fld) (n : Nat) : (s.bump f n).pwr = s.pwr := rfl
@[simp] theorem nv_bump (s : State) (f : Fld) (n : Nat) : (s.bump f n).nv = s.nv := rfl
@[simp] theorem pending_bump (s : State) (f : Fld) (n : Nat) : (s.bump f n).pending = s.pending := rfl

@[simp] theorem sys_wrap (s : State) (f : Fld) (n : Nat) : (s.wrap f n).sys = s.sys := rfl
@[simp] theorem hbp_wrap (s : State) (f : Fld) (n : Nat) : (s.wrap f n).hbp = s.hbp := rfl
@[simp] theorem dram_wrap (s : State) (f : Fld) (n : Nat) : (s.wrap f n).dram = s.dram := rfl
@[simp] theorem trn_wrap (s : State) (f : Fld) (n : Nat) : (s.wrap f n).trn = s.trn := rfl
@[simp] theorem cln_wrap (s : State) (f : Fld) (n : Nat) : (s.wrap f n).cln = s.cln := rfl
@[simp] theorem pkt_wrap (s : State) (f : Fld) (n : Nat) : (s.wrap f n).pkt = s.pkt := rfl
@[simp] theorem per_wrap (s : State) (f : Fld) (n : Nat) : (s.wrap f n).per = s.per := rfl
@[simp] theorem gln_wrap (s : State) (f : Fld) (n : Nat) : (s.wrap f n).gln = s.gln := rfl
@[simp] theorem sea_wrap (s : State) (f : Fld) (n : Nat) : (s.wrap f n).sea = s.sea := rfl
@[simp] theorem sav_wrap (s : State) (f : Fld) (n : Nat) : (s.wrap f n).sav = s.sav := rfl
@[simp] theorem pln_wrap (s : State) (f : Fld) (n : Nat) : (s.wrap f n).pln = s.pln := rfl
@[simp] theorem flash_wrap (s : State) (f : Fld) (n : Nat) : (s.wrap f n).flash = s.flash := rfl
@[simp] theorem flo_wrap (s : State) (f : Fld) (n : Nat) : (s.wrap f n).flo = s.flo := rfl
@[simp] theorem fce_wrap (s : State) (f : Fld) (n : Nat) : (s.wrap f n).fce = s.fce := rfl
@[simp] theorem bdc_wrap (s : State) (f : Fld) (n : Nat) : (s.wrap f n).bdc = s.bdc := rfl
@[simp] theorem clk_wrap (s : State) (f : Fld) (n : Nat) : (s.wrap f n).clk = s.clk := rfl
@[simp] theorem sb_wrap (s : State) (f : Fld) (n : Nat) : (s.wrap f n).sb = s.sb := rfl
@[simp] theorem tap_wrap (s : State) (f : Fld) (n : Nat) : (s.wrap f n).tap = s.tap := rfl
@[simp] theorem sram_wrap (s : State) (f : Fld) (n : Nat) : (s.wrap f n).sram = s.sram := rfl
@[simp] theorem tick_wrap (s : State) (f : Fld) (n : Nat) : (s.wrap f n).tick = s.tick := rfl
@[simp] theorem evr_wrap (s : State) (f : Fld) (n : Nat) : (s.wrap f n).evr = s.evr := rfl
@[simp] theorem flt_wrap (s : State) (f : Fld) (n : Nat) : (s.wrap f n).flt = s.flt := rfl
@[simp] theorem kite_wrap (s : State) (f : Fld) (n : Nat) : (s.wrap f n).kite = s.kite := rfl
@[simp] theorem pwr_wrap (s : State) (f : Fld) (n : Nat) : (s.wrap f n).pwr = s.pwr := rfl
@[simp] theorem nv_wrap (s : State) (f : Fld) (n : Nat) : (s.wrap f n).nv = s.nv := rfl
@[simp] theorem pending_wrap (s : State) (f : Fld) (n : Nat) : (s.wrap f n).pending = s.pending := rfl

@[simp] theorem sys_emitTagged (s : State) (v : Sev) (i : Bool) (c r : Nat) (p : List Byte) : (s.emitTagged v i c r p).sys = s.sys := rfl
@[simp] theorem hbp_emitTagged (s : State) (v : Sev) (i : Bool) (c r : Nat) (p : List Byte) : (s.emitTagged v i c r p).hbp = s.hbp := rfl
@[simp] theorem dram_emitTagged (s : State) (v : Sev) (i : Bool) (c r : Nat) (p : List Byte) : (s.emitTagged v i c r p).dram = s.dram := rfl
@[simp] theorem trn_emitTagged (s : State) (v : Sev) (i : Bool) (c r : Nat) (p : List Byte) : (s.emitTagged v i c r p).trn = s.trn := rfl
@[simp] theorem cln_emitTagged (s : State) (v : Sev) (i : Bool) (c r : Nat) (p : List Byte) : (s.emitTagged v i c r p).cln = s.cln := rfl
@[simp] theorem pkt_emitTagged (s : State) (v : Sev) (i : Bool) (c r : Nat) (p : List Byte) : (s.emitTagged v i c r p).pkt = s.pkt := rfl
@[simp] theorem per_emitTagged (s : State) (v : Sev) (i : Bool) (c r : Nat) (p : List Byte) : (s.emitTagged v i c r p).per = s.per := rfl
@[simp] theorem gln_emitTagged (s : State) (v : Sev) (i : Bool) (c r : Nat) (p : List Byte) : (s.emitTagged v i c r p).gln = s.gln := rfl
@[simp] theorem sea_emitTagged (s : State) (v : Sev) (i : Bool) (c r : Nat) (p : List Byte) : (s.emitTagged v i c r p).sea = s.sea := rfl
@[simp] theorem sav_emitTagged (s : State) (v : Sev) (i : Bool) (c r : Nat) (p : List Byte) : (s.emitTagged v i c r p).sav = s.sav := rfl
@[simp] theorem pln_emitTagged (s : State) (v : Sev) (i : Bool) (c r : Nat) (p : List Byte) : (s.emitTagged v i c r p).pln = s.pln := rfl
@[simp] theorem flash_emitTagged (s : State) (v : Sev) (i : Bool) (c r : Nat) (p : List Byte) : (s.emitTagged v i c r p).flash = s.flash := rfl
@[simp] theorem flo_emitTagged (s : State) (v : Sev) (i : Bool) (c r : Nat) (p : List Byte) : (s.emitTagged v i c r p).flo = s.flo := rfl
@[simp] theorem fce_emitTagged (s : State) (v : Sev) (i : Bool) (c r : Nat) (p : List Byte) : (s.emitTagged v i c r p).fce = s.fce := rfl
@[simp] theorem bdc_emitTagged (s : State) (v : Sev) (i : Bool) (c r : Nat) (p : List Byte) : (s.emitTagged v i c r p).bdc = s.bdc := rfl
@[simp] theorem clk_emitTagged (s : State) (v : Sev) (i : Bool) (c r : Nat) (p : List Byte) : (s.emitTagged v i c r p).clk = s.clk := rfl
@[simp] theorem sb_emitTagged (s : State) (v : Sev) (i : Bool) (c r : Nat) (p : List Byte) : (s.emitTagged v i c r p).sb = s.sb := rfl
@[simp] theorem tap_emitTagged (s : State) (v : Sev) (i : Bool) (c r : Nat) (p : List Byte) : (s.emitTagged v i c r p).tap = s.tap := rfl
@[simp] theorem sram_emitTagged (s : State) (v : Sev) (i : Bool) (c r : Nat) (p : List Byte) : (s.emitTagged v i c r p).sram = s.sram := rfl
@[simp] theorem regs_emitTagged (s : State) (v : Sev) (i : Bool) (c r : Nat) (p : List Byte) : (s.emitTagged v i c r p).regs = s.regs := rfl
@[simp] theorem tick_emitTagged (s : State) (v : Sev) (i : Bool) (c r : Nat) (p : List Byte) : (s.emitTagged v i c r p).tick = s.tick := rfl
@[simp] theorem flt_emitTagged (s : State) (v : Sev) (i : Bool) (c r : Nat) (p : List Byte) : (s.emitTagged v i c r p).flt = s.flt := rfl
@[simp] theorem kite_emitTagged (s : State) (v : Sev) (i : Bool) (c r : Nat) (p : List Byte) : (s.emitTagged v i c r p).kite = s.kite := rfl
@[simp] theorem pwr_emitTagged (s : State) (v : Sev) (i : Bool) (c r : Nat) (p : List Byte) : (s.emitTagged v i c r p).pwr = s.pwr := rfl
@[simp] theorem nv_emitTagged (s : State) (v : Sev) (i : Bool) (c r : Nat) (p : List Byte) : (s.emitTagged v i c r p).nv = s.nv := rfl
@[simp] theorem pending_emitTagged (s : State) (v : Sev) (i : Bool) (c r : Nat) (p : List Byte) : (s.emitTagged v i c r p).pending = s.pending := rfl

@[simp] theorem sys_emit (s : State) (v : Sev) (c r : Nat) (p : List Byte) : (s.emit v c r p).sys = s.sys := rfl
@[simp] theorem hbp_emit (s : State) (v : Sev) (c r : Nat) (p : List Byte) : (s.emit v c r p).hbp = s.hbp := rfl
@[simp] theorem dram_emit (s : State) (v : Sev) (c r : Nat) (p : List Byte) : (s.emit v c r p).dram = s.dram := rfl
@[simp] theorem trn_emit (s : State) (v : Sev) (c r : Nat) (p : List Byte) : (s.emit v c r p).trn = s.trn := rfl
@[simp] theorem cln_emit (s : State) (v : Sev) (c r : Nat) (p : List Byte) : (s.emit v c r p).cln = s.cln := rfl
@[simp] theorem pkt_emit (s : State) (v : Sev) (c r : Nat) (p : List Byte) : (s.emit v c r p).pkt = s.pkt := rfl
@[simp] theorem per_emit (s : State) (v : Sev) (c r : Nat) (p : List Byte) : (s.emit v c r p).per = s.per := rfl
@[simp] theorem gln_emit (s : State) (v : Sev) (c r : Nat) (p : List Byte) : (s.emit v c r p).gln = s.gln := rfl
@[simp] theorem sea_emit (s : State) (v : Sev) (c r : Nat) (p : List Byte) : (s.emit v c r p).sea = s.sea := rfl
@[simp] theorem sav_emit (s : State) (v : Sev) (c r : Nat) (p : List Byte) : (s.emit v c r p).sav = s.sav := rfl
@[simp] theorem pln_emit (s : State) (v : Sev) (c r : Nat) (p : List Byte) : (s.emit v c r p).pln = s.pln := rfl
@[simp] theorem flash_emit (s : State) (v : Sev) (c r : Nat) (p : List Byte) : (s.emit v c r p).flash = s.flash := rfl
@[simp] theorem flo_emit (s : State) (v : Sev) (c r : Nat) (p : List Byte) : (s.emit v c r p).flo = s.flo := rfl
@[simp] theorem fce_emit (s : State) (v : Sev) (c r : Nat) (p : List Byte) : (s.emit v c r p).fce = s.fce := rfl
@[simp] theorem bdc_emit (s : State) (v : Sev) (c r : Nat) (p : List Byte) : (s.emit v c r p).bdc = s.bdc := rfl
@[simp] theorem clk_emit (s : State) (v : Sev) (c r : Nat) (p : List Byte) : (s.emit v c r p).clk = s.clk := rfl
@[simp] theorem sb_emit (s : State) (v : Sev) (c r : Nat) (p : List Byte) : (s.emit v c r p).sb = s.sb := rfl
@[simp] theorem tap_emit (s : State) (v : Sev) (c r : Nat) (p : List Byte) : (s.emit v c r p).tap = s.tap := rfl
@[simp] theorem sram_emit (s : State) (v : Sev) (c r : Nat) (p : List Byte) : (s.emit v c r p).sram = s.sram := rfl
@[simp] theorem regs_emit (s : State) (v : Sev) (c r : Nat) (p : List Byte) : (s.emit v c r p).regs = s.regs := rfl
@[simp] theorem tick_emit (s : State) (v : Sev) (c r : Nat) (p : List Byte) : (s.emit v c r p).tick = s.tick := rfl
@[simp] theorem flt_emit (s : State) (v : Sev) (c r : Nat) (p : List Byte) : (s.emit v c r p).flt = s.flt := rfl
@[simp] theorem kite_emit (s : State) (v : Sev) (c r : Nat) (p : List Byte) : (s.emit v c r p).kite = s.kite := rfl
@[simp] theorem pwr_emit (s : State) (v : Sev) (c r : Nat) (p : List Byte) : (s.emit v c r p).pwr = s.pwr := rfl
@[simp] theorem nv_emit (s : State) (v : Sev) (c r : Nat) (p : List Byte) : (s.emit v c r p).nv = s.nv := rfl
@[simp] theorem pending_emit (s : State) (v : Sev) (c r : Nat) (p : List Byte) : (s.emit v c r p).pending = s.pending := rfl

@[simp] theorem sys_note (s : State) (c r : Nat) (p : List Byte) : (s.note c r p).sys = s.sys := rfl
@[simp] theorem hbp_note (s : State) (c r : Nat) (p : List Byte) : (s.note c r p).hbp = s.hbp := rfl
@[simp] theorem dram_note (s : State) (c r : Nat) (p : List Byte) : (s.note c r p).dram = s.dram := rfl
@[simp] theorem trn_note (s : State) (c r : Nat) (p : List Byte) : (s.note c r p).trn = s.trn := rfl
@[simp] theorem cln_note (s : State) (c r : Nat) (p : List Byte) : (s.note c r p).cln = s.cln := rfl
@[simp] theorem pkt_note (s : State) (c r : Nat) (p : List Byte) : (s.note c r p).pkt = s.pkt := rfl
@[simp] theorem per_note (s : State) (c r : Nat) (p : List Byte) : (s.note c r p).per = s.per := rfl
@[simp] theorem gln_note (s : State) (c r : Nat) (p : List Byte) : (s.note c r p).gln = s.gln := rfl
@[simp] theorem sea_note (s : State) (c r : Nat) (p : List Byte) : (s.note c r p).sea = s.sea := rfl
@[simp] theorem sav_note (s : State) (c r : Nat) (p : List Byte) : (s.note c r p).sav = s.sav := rfl
@[simp] theorem pln_note (s : State) (c r : Nat) (p : List Byte) : (s.note c r p).pln = s.pln := rfl
@[simp] theorem flash_note (s : State) (c r : Nat) (p : List Byte) : (s.note c r p).flash = s.flash := rfl
@[simp] theorem flo_note (s : State) (c r : Nat) (p : List Byte) : (s.note c r p).flo = s.flo := rfl
@[simp] theorem fce_note (s : State) (c r : Nat) (p : List Byte) : (s.note c r p).fce = s.fce := rfl
@[simp] theorem bdc_note (s : State) (c r : Nat) (p : List Byte) : (s.note c r p).bdc = s.bdc := rfl
@[simp] theorem clk_note (s : State) (c r : Nat) (p : List Byte) : (s.note c r p).clk = s.clk := rfl
@[simp] theorem sb_note (s : State) (c r : Nat) (p : List Byte) : (s.note c r p).sb = s.sb := rfl
@[simp] theorem tap_note (s : State) (c r : Nat) (p : List Byte) : (s.note c r p).tap = s.tap := rfl
@[simp] theorem sram_note (s : State) (c r : Nat) (p : List Byte) : (s.note c r p).sram = s.sram := rfl
@[simp] theorem regs_note (s : State) (c r : Nat) (p : List Byte) : (s.note c r p).regs = s.regs := rfl
@[simp] theorem tick_note (s : State) (c r : Nat) (p : List Byte) : (s.note c r p).tick = s.tick := rfl
@[simp] theorem flt_note (s : State) (c r : Nat) (p : List Byte) : (s.note c r p).flt = s.flt := rfl
@[simp] theorem kite_note (s : State) (c r : Nat) (p : List Byte) : (s.note c r p).kite = s.kite := rfl
@[simp] theorem pwr_note (s : State) (c r : Nat) (p : List Byte) : (s.note c r p).pwr = s.pwr := rfl
@[simp] theorem nv_note (s : State) (c r : Nat) (p : List Byte) : (s.note c r p).nv = s.nv := rfl
@[simp] theorem pending_note (s : State) (c r : Nat) (p : List Byte) : (s.note c r p).pending = s.pending := rfl

@[simp] theorem sys_reportSev (s : State) (v : Sev) (k : FaultKind) (r q w : Nat) : (s.reportSev v k r q w).sys = s.sys := rfl
@[simp] theorem hbp_reportSev (s : State) (v : Sev) (k : FaultKind) (r q w : Nat) : (s.reportSev v k r q w).hbp = s.hbp := rfl
@[simp] theorem dram_reportSev (s : State) (v : Sev) (k : FaultKind) (r q w : Nat) : (s.reportSev v k r q w).dram = s.dram := rfl
@[simp] theorem trn_reportSev (s : State) (v : Sev) (k : FaultKind) (r q w : Nat) : (s.reportSev v k r q w).trn = s.trn := rfl
@[simp] theorem cln_reportSev (s : State) (v : Sev) (k : FaultKind) (r q w : Nat) : (s.reportSev v k r q w).cln = s.cln := rfl
@[simp] theorem pkt_reportSev (s : State) (v : Sev) (k : FaultKind) (r q w : Nat) : (s.reportSev v k r q w).pkt = s.pkt := rfl
@[simp] theorem per_reportSev (s : State) (v : Sev) (k : FaultKind) (r q w : Nat) : (s.reportSev v k r q w).per = s.per := rfl
@[simp] theorem gln_reportSev (s : State) (v : Sev) (k : FaultKind) (r q w : Nat) : (s.reportSev v k r q w).gln = s.gln := rfl
@[simp] theorem sea_reportSev (s : State) (v : Sev) (k : FaultKind) (r q w : Nat) : (s.reportSev v k r q w).sea = s.sea := rfl
@[simp] theorem sav_reportSev (s : State) (v : Sev) (k : FaultKind) (r q w : Nat) : (s.reportSev v k r q w).sav = s.sav := rfl
@[simp] theorem pln_reportSev (s : State) (v : Sev) (k : FaultKind) (r q w : Nat) : (s.reportSev v k r q w).pln = s.pln := rfl
@[simp] theorem flash_reportSev (s : State) (v : Sev) (k : FaultKind) (r q w : Nat) : (s.reportSev v k r q w).flash = s.flash := rfl
@[simp] theorem flo_reportSev (s : State) (v : Sev) (k : FaultKind) (r q w : Nat) : (s.reportSev v k r q w).flo = s.flo := rfl
@[simp] theorem fce_reportSev (s : State) (v : Sev) (k : FaultKind) (r q w : Nat) : (s.reportSev v k r q w).fce = s.fce := rfl
@[simp] theorem bdc_reportSev (s : State) (v : Sev) (k : FaultKind) (r q w : Nat) : (s.reportSev v k r q w).bdc = s.bdc := rfl
@[simp] theorem clk_reportSev (s : State) (v : Sev) (k : FaultKind) (r q w : Nat) : (s.reportSev v k r q w).clk = s.clk := rfl
@[simp] theorem sb_reportSev (s : State) (v : Sev) (k : FaultKind) (r q w : Nat) : (s.reportSev v k r q w).sb = s.sb := rfl
@[simp] theorem tap_reportSev (s : State) (v : Sev) (k : FaultKind) (r q w : Nat) : (s.reportSev v k r q w).tap = s.tap := rfl
@[simp] theorem sram_reportSev (s : State) (v : Sev) (k : FaultKind) (r q w : Nat) : (s.reportSev v k r q w).sram = s.sram := rfl
@[simp] theorem regs_reportSev (s : State) (v : Sev) (k : FaultKind) (r q w : Nat) : (s.reportSev v k r q w).regs = s.regs := rfl
@[simp] theorem tick_reportSev (s : State) (v : Sev) (k : FaultKind) (r q w : Nat) : (s.reportSev v k r q w).tick = s.tick := rfl
@[simp] theorem evr_reportSev (s : State) (v : Sev) (k : FaultKind) (r q w : Nat) : (s.reportSev v k r q w).evr = s.evr := rfl
@[simp] theorem kite_reportSev (s : State) (v : Sev) (k : FaultKind) (r q w : Nat) : (s.reportSev v k r q w).kite = s.kite := rfl
@[simp] theorem pwr_reportSev (s : State) (v : Sev) (k : FaultKind) (r q w : Nat) : (s.reportSev v k r q w).pwr = s.pwr := rfl
@[simp] theorem nv_reportSev (s : State) (v : Sev) (k : FaultKind) (r q w : Nat) : (s.reportSev v k r q w).nv = s.nv := rfl
@[simp] theorem pending_reportSev (s : State) (v : Sev) (k : FaultKind) (r q w : Nat) : (s.reportSev v k r q w).pending = s.pending := rfl

@[simp] theorem sys_report (s : State) (k : FaultKind) (r q w : Nat) : (s.report k r q w).sys = s.sys := rfl
@[simp] theorem hbp_report (s : State) (k : FaultKind) (r q w : Nat) : (s.report k r q w).hbp = s.hbp := rfl
@[simp] theorem dram_report (s : State) (k : FaultKind) (r q w : Nat) : (s.report k r q w).dram = s.dram := rfl
@[simp] theorem trn_report (s : State) (k : FaultKind) (r q w : Nat) : (s.report k r q w).trn = s.trn := rfl
@[simp] theorem cln_report (s : State) (k : FaultKind) (r q w : Nat) : (s.report k r q w).cln = s.cln := rfl
@[simp] theorem pkt_report (s : State) (k : FaultKind) (r q w : Nat) : (s.report k r q w).pkt = s.pkt := rfl
@[simp] theorem per_report (s : State) (k : FaultKind) (r q w : Nat) : (s.report k r q w).per = s.per := rfl
@[simp] theorem gln_report (s : State) (k : FaultKind) (r q w : Nat) : (s.report k r q w).gln = s.gln := rfl
@[simp] theorem sea_report (s : State) (k : FaultKind) (r q w : Nat) : (s.report k r q w).sea = s.sea := rfl
@[simp] theorem sav_report (s : State) (k : FaultKind) (r q w : Nat) : (s.report k r q w).sav = s.sav := rfl
@[simp] theorem pln_report (s : State) (k : FaultKind) (r q w : Nat) : (s.report k r q w).pln = s.pln := rfl
@[simp] theorem flash_report (s : State) (k : FaultKind) (r q w : Nat) : (s.report k r q w).flash = s.flash := rfl
@[simp] theorem flo_report (s : State) (k : FaultKind) (r q w : Nat) : (s.report k r q w).flo = s.flo := rfl
@[simp] theorem fce_report (s : State) (k : FaultKind) (r q w : Nat) : (s.report k r q w).fce = s.fce := rfl
@[simp] theorem bdc_report (s : State) (k : FaultKind) (r q w : Nat) : (s.report k r q w).bdc = s.bdc := rfl
@[simp] theorem clk_report (s : State) (k : FaultKind) (r q w : Nat) : (s.report k r q w).clk = s.clk := rfl
@[simp] theorem sb_report (s : State) (k : FaultKind) (r q w : Nat) : (s.report k r q w).sb = s.sb := rfl
@[simp] theorem tap_report (s : State) (k : FaultKind) (r q w : Nat) : (s.report k r q w).tap = s.tap := rfl
@[simp] theorem sram_report (s : State) (k : FaultKind) (r q w : Nat) : (s.report k r q w).sram = s.sram := rfl
@[simp] theorem regs_report (s : State) (k : FaultKind) (r q w : Nat) : (s.report k r q w).regs = s.regs := rfl
@[simp] theorem tick_report (s : State) (k : FaultKind) (r q w : Nat) : (s.report k r q w).tick = s.tick := rfl
@[simp] theorem evr_report (s : State) (k : FaultKind) (r q w : Nat) : (s.report k r q w).evr = s.evr := rfl
@[simp] theorem kite_report (s : State) (k : FaultKind) (r q w : Nat) : (s.report k r q w).kite = s.kite := rfl
@[simp] theorem pwr_report (s : State) (k : FaultKind) (r q w : Nat) : (s.report k r q w).pwr = s.pwr := rfl
@[simp] theorem nv_report (s : State) (k : FaultKind) (r q w : Nat) : (s.report k r q w).nv = s.nv := rfl
@[simp] theorem pending_report (s : State) (k : FaultKind) (r q w : Nat) : (s.report k r q w).pending = s.pending := rfl

@[simp] theorem sys_setPending (s : State) (q : List Instr) : (s.setPending q).sys = s.sys := rfl
@[simp] theorem hbp_setPending (s : State) (q : List Instr) : (s.setPending q).hbp = s.hbp := rfl
@[simp] theorem dram_setPending (s : State) (q : List Instr) : (s.setPending q).dram = s.dram := rfl
@[simp] theorem trn_setPending (s : State) (q : List Instr) : (s.setPending q).trn = s.trn := rfl
@[simp] theorem cln_setPending (s : State) (q : List Instr) : (s.setPending q).cln = s.cln := rfl
@[simp] theorem pkt_setPending (s : State) (q : List Instr) : (s.setPending q).pkt = s.pkt := rfl
@[simp] theorem per_setPending (s : State) (q : List Instr) : (s.setPending q).per = s.per := rfl
@[simp] theorem gln_setPending (s : State) (q : List Instr) : (s.setPending q).gln = s.gln := rfl
@[simp] theorem sea_setPending (s : State) (q : List Instr) : (s.setPending q).sea = s.sea := rfl
@[simp] theorem sav_setPending (s : State) (q : List Instr) : (s.setPending q).sav = s.sav := rfl
@[simp] theorem pln_setPending (s : State) (q : List Instr) : (s.setPending q).pln = s.pln := rfl
@[simp] theorem flash_setPending (s : State) (q : List Instr) : (s.setPending q).flash = s.flash := rfl
@[simp] theorem flo_setPending (s : State) (q : List Instr) : (s.setPending q).flo = s.flo := rfl
@[simp] theorem fce_setPending (s : State) (q : List Instr) : (s.setPending q).fce = s.fce := rfl
@[simp] theorem bdc_setPending (s : State) (q : List Instr) : (s.setPending q).bdc = s.bdc := rfl
@[simp] theorem clk_setPending (s : State) (q : List Instr) : (s.setPending q).clk = s.clk := rfl
@[simp] theorem sb_setPending (s : State) (q : List Instr) : (s.setPending q).sb = s.sb := rfl
@[simp] theorem tap_setPending (s : State) (q : List Instr) : (s.setPending q).tap = s.tap := rfl
@[simp] theorem sram_setPending (s : State) (q : List Instr) : (s.setPending q).sram = s.sram := rfl
@[simp] theorem regs_setPending (s : State) (q : List Instr) : (s.setPending q).regs = s.regs := rfl
@[simp] theorem tick_setPending (s : State) (q : List Instr) : (s.setPending q).tick = s.tick := rfl
@[simp] theorem evr_setPending (s : State) (q : List Instr) : (s.setPending q).evr = s.evr := rfl
@[simp] theorem flt_setPending (s : State) (q : List Instr) : (s.setPending q).flt = s.flt := rfl
@[simp] theorem kite_setPending (s : State) (q : List Instr) : (s.setPending q).kite = s.kite := rfl
@[simp] theorem pwr_setPending (s : State) (q : List Instr) : (s.setPending q).pwr = s.pwr := rfl
@[simp] theorem nv_setPending (s : State) (q : List Instr) : (s.setPending q).nv = s.nv := rfl

@[simp] theorem word_emitTagged (s : State) (v : Sev) (i : Bool) (c r : Nat) (p : List Byte) (a : Nat) : (s.emitTagged v i c r p).word a = s.word a := rfl
@[simp] theorem fld_emitTagged (s : State) (v : Sev) (i : Bool) (c r : Nat) (p : List Byte) (f : Fld) : (s.emitTagged v i c r p).fld f = s.fld f := rfl
@[simp] theorem flag_emitTagged (s : State) (v : Sev) (i : Bool) (c r : Nat) (p : List Byte) (f : Fld) : (s.emitTagged v i c r p).flag f = s.flag f := rfl
@[simp] theorem word_emit (s : State) (v : Sev) (c r : Nat) (p : List Byte) (a : Nat) : (s.emit v c r p).word a = s.word a := rfl
@[simp] theorem fld_emit (s : State) (v : Sev) (c r : Nat) (p : List Byte) (f : Fld) : (s.emit v c r p).fld f = s.fld f := rfl
@[simp] theorem flag_emit (s : State) (v : Sev) (c r : Nat) (p : List Byte) (f : Fld) : (s.emit v c r p).flag f = s.flag f := rfl
@[simp] theorem word_note (s : State) (c r : Nat) (p : List Byte) (a : Nat) : (s.note c r p).word a = s.word a := rfl
@[simp] theorem fld_note (s : State) (c r : Nat) (p : List Byte) (f : Fld) : (s.note c r p).fld f = s.fld f := rfl
@[simp] theorem flag_note (s : State) (c r : Nat) (p : List Byte) (f : Fld) : (s.note c r p).flag f = s.flag f := rfl
@[simp] theorem word_reportSev (s : State) (v : Sev) (k : FaultKind) (r q w : Nat) (a : Nat) : (s.reportSev v k r q w).word a = s.word a := rfl
@[simp] theorem fld_reportSev (s : State) (v : Sev) (k : FaultKind) (r q w : Nat) (f : Fld) : (s.reportSev v k r q w).fld f = s.fld f := rfl
@[simp] theorem flag_reportSev (s : State) (v : Sev) (k : FaultKind) (r q w : Nat) (f : Fld) : (s.reportSev v k r q w).flag f = s.flag f := rfl
@[simp] theorem word_report (s : State) (k : FaultKind) (r q w : Nat) (a : Nat) : (s.report k r q w).word a = s.word a := rfl
@[simp] theorem fld_report (s : State) (k : FaultKind) (r q w : Nat) (f : Fld) : (s.report k r q w).fld f = s.fld f := rfl
@[simp] theorem flag_report (s : State) (k : FaultKind) (r q w : Nat) (f : Fld) : (s.report k r q w).flag f = s.flag f := rfl
@[simp] theorem word_setPending (s : State) (q : List Instr) (a : Nat) : (s.setPending q).word a = s.word a := rfl
@[simp] theorem fld_setPending (s : State) (q : List Instr) (f : Fld) : (s.setPending q).fld f = s.fld f := rfl
@[simp] theorem flag_setPending (s : State) (q : List Instr) (f : Fld) : (s.setPending q).flag f = s.flag f := rfl

@[simp] theorem pending_setPending_same (s : State) (q : List Instr) : (s.setPending q).pending = q := rfl

@[simp] theorem sys_stampNext (s : State) : s.stampNext.sys = s.sys := rfl
@[simp] theorem dram_stampNext (s : State) : s.stampNext.dram = s.dram := rfl
@[simp] theorem trn_stampNext (s : State) : s.stampNext.trn = s.trn := rfl
@[simp] theorem cln_stampNext (s : State) : s.stampNext.cln = s.cln := rfl
@[simp] theorem pkt_stampNext (s : State) : s.stampNext.pkt = s.pkt := rfl
@[simp] theorem per_stampNext (s : State) : s.stampNext.per = s.per := rfl
@[simp] theorem gln_stampNext (s : State) : s.stampNext.gln = s.gln := rfl
@[simp] theorem sea_stampNext (s : State) : s.stampNext.sea = s.sea := rfl
@[simp] theorem sav_stampNext (s : State) : s.stampNext.sav = s.sav := rfl
@[simp] theorem pln_stampNext (s : State) : s.stampNext.pln = s.pln := rfl
@[simp] theorem flash_stampNext (s : State) : s.stampNext.flash = s.flash := rfl
@[simp] theorem flo_stampNext (s : State) : s.stampNext.flo = s.flo := rfl
@[simp] theorem fce_stampNext (s : State) : s.stampNext.fce = s.fce := rfl
@[simp] theorem bdc_stampNext (s : State) : s.stampNext.bdc = s.bdc := rfl
@[simp] theorem clk_stampNext (s : State) : s.stampNext.clk = s.clk := rfl
@[simp] theorem sb_stampNext (s : State) : s.stampNext.sb = s.sb := rfl
@[simp] theorem tap_stampNext (s : State) : s.stampNext.tap = s.tap := rfl
@[simp] theorem sram_stampNext (s : State) : s.stampNext.sram = s.sram := rfl
@[simp] theorem regs_stampNext (s : State) : s.stampNext.regs = s.regs := rfl
@[simp] theorem tick_stampNext (s : State) : s.stampNext.tick = s.tick := rfl
@[simp] theorem evr_stampNext (s : State) : s.stampNext.evr = s.evr := rfl
@[simp] theorem flt_stampNext (s : State) : s.stampNext.flt = s.flt := rfl
@[simp] theorem kite_stampNext (s : State) : s.stampNext.kite = s.kite := rfl
@[simp] theorem pwr_stampNext (s : State) : s.stampNext.pwr = s.pwr := rfl
@[simp] theorem nv_stampNext (s : State) : s.stampNext.nv = s.nv := rfl
@[simp] theorem pending_stampNext (s : State) : s.stampNext.pending = s.pending := rfl


@[simp] theorem sys_closeRow (s : State) (i : Nat) : (s.closeRow i).sys = s.sys := rfl
@[simp] theorem dram_closeRow (s : State) (i : Nat) : (s.closeRow i).dram = s.dram := rfl
@[simp] theorem trn_closeRow (s : State) (i : Nat) : (s.closeRow i).trn = s.trn := rfl
@[simp] theorem cln_closeRow (s : State) (i : Nat) : (s.closeRow i).cln = s.cln := rfl
@[simp] theorem pkt_closeRow (s : State) (i : Nat) : (s.closeRow i).pkt = s.pkt := rfl
@[simp] theorem per_closeRow (s : State) (i : Nat) : (s.closeRow i).per = s.per := rfl
@[simp] theorem gln_closeRow (s : State) (i : Nat) : (s.closeRow i).gln = s.gln := rfl
@[simp] theorem sea_closeRow (s : State) (i : Nat) : (s.closeRow i).sea = s.sea := rfl
@[simp] theorem sav_closeRow (s : State) (i : Nat) : (s.closeRow i).sav = s.sav := rfl
@[simp] theorem pln_closeRow (s : State) (i : Nat) : (s.closeRow i).pln = s.pln := rfl
@[simp] theorem flash_closeRow (s : State) (i : Nat) : (s.closeRow i).flash = s.flash := rfl
@[simp] theorem flo_closeRow (s : State) (i : Nat) : (s.closeRow i).flo = s.flo := rfl
@[simp] theorem fce_closeRow (s : State) (i : Nat) : (s.closeRow i).fce = s.fce := rfl
@[simp] theorem bdc_closeRow (s : State) (i : Nat) : (s.closeRow i).bdc = s.bdc := rfl
@[simp] theorem clk_closeRow (s : State) (i : Nat) : (s.closeRow i).clk = s.clk := rfl
@[simp] theorem sb_closeRow (s : State) (i : Nat) : (s.closeRow i).sb = s.sb := rfl
@[simp] theorem tap_closeRow (s : State) (i : Nat) : (s.closeRow i).tap = s.tap := rfl
@[simp] theorem sram_closeRow (s : State) (i : Nat) : (s.closeRow i).sram = s.sram := rfl
@[simp] theorem regs_closeRow (s : State) (i : Nat) : (s.closeRow i).regs = s.regs := rfl
@[simp] theorem tick_closeRow (s : State) (i : Nat) : (s.closeRow i).tick = s.tick := rfl
@[simp] theorem evr_closeRow (s : State) (i : Nat) : (s.closeRow i).evr = s.evr := rfl
@[simp] theorem flt_closeRow (s : State) (i : Nat) : (s.closeRow i).flt = s.flt := rfl
@[simp] theorem kite_closeRow (s : State) (i : Nat) : (s.closeRow i).kite = s.kite := rfl
@[simp] theorem pwr_closeRow (s : State) (i : Nat) : (s.closeRow i).pwr = s.pwr := rfl
@[simp] theorem nv_closeRow (s : State) (i : Nat) : (s.closeRow i).nv = s.nv := rfl
@[simp] theorem pending_closeRow (s : State) (i : Nat) : (s.closeRow i).pending = s.pending := rfl

@[simp] theorem sys_driveOut (s : State) (v : LineData × CheckBytes) : (s.driveOut v).sys = s.sys := rfl
@[simp] theorem dram_driveOut (s : State) (v : LineData × CheckBytes) : (s.driveOut v).dram = s.dram := rfl
@[simp] theorem trn_driveOut (s : State) (v : LineData × CheckBytes) : (s.driveOut v).trn = s.trn := rfl
@[simp] theorem cln_driveOut (s : State) (v : LineData × CheckBytes) : (s.driveOut v).cln = s.cln := rfl
@[simp] theorem pkt_driveOut (s : State) (v : LineData × CheckBytes) : (s.driveOut v).pkt = s.pkt := rfl
@[simp] theorem per_driveOut (s : State) (v : LineData × CheckBytes) : (s.driveOut v).per = s.per := rfl
@[simp] theorem gln_driveOut (s : State) (v : LineData × CheckBytes) : (s.driveOut v).gln = s.gln := rfl
@[simp] theorem sea_driveOut (s : State) (v : LineData × CheckBytes) : (s.driveOut v).sea = s.sea := rfl
@[simp] theorem sav_driveOut (s : State) (v : LineData × CheckBytes) : (s.driveOut v).sav = s.sav := rfl
@[simp] theorem pln_driveOut (s : State) (v : LineData × CheckBytes) : (s.driveOut v).pln = s.pln := rfl
@[simp] theorem flash_driveOut (s : State) (v : LineData × CheckBytes) : (s.driveOut v).flash = s.flash := rfl
@[simp] theorem flo_driveOut (s : State) (v : LineData × CheckBytes) : (s.driveOut v).flo = s.flo := rfl
@[simp] theorem fce_driveOut (s : State) (v : LineData × CheckBytes) : (s.driveOut v).fce = s.fce := rfl
@[simp] theorem bdc_driveOut (s : State) (v : LineData × CheckBytes) : (s.driveOut v).bdc = s.bdc := rfl
@[simp] theorem clk_driveOut (s : State) (v : LineData × CheckBytes) : (s.driveOut v).clk = s.clk := rfl
@[simp] theorem sb_driveOut (s : State) (v : LineData × CheckBytes) : (s.driveOut v).sb = s.sb := rfl
@[simp] theorem tap_driveOut (s : State) (v : LineData × CheckBytes) : (s.driveOut v).tap = s.tap := rfl
@[simp] theorem sram_driveOut (s : State) (v : LineData × CheckBytes) : (s.driveOut v).sram = s.sram := rfl
@[simp] theorem regs_driveOut (s : State) (v : LineData × CheckBytes) : (s.driveOut v).regs = s.regs := rfl
@[simp] theorem tick_driveOut (s : State) (v : LineData × CheckBytes) : (s.driveOut v).tick = s.tick := rfl
@[simp] theorem evr_driveOut (s : State) (v : LineData × CheckBytes) : (s.driveOut v).evr = s.evr := rfl
@[simp] theorem flt_driveOut (s : State) (v : LineData × CheckBytes) : (s.driveOut v).flt = s.flt := rfl
@[simp] theorem kite_driveOut (s : State) (v : LineData × CheckBytes) : (s.driveOut v).kite = s.kite := rfl
@[simp] theorem pwr_driveOut (s : State) (v : LineData × CheckBytes) : (s.driveOut v).pwr = s.pwr := rfl
@[simp] theorem nv_driveOut (s : State) (v : LineData × CheckBytes) : (s.driveOut v).nv = s.nv := rfl
@[simp] theorem pending_driveOut (s : State) (v : LineData × CheckBytes) : (s.driveOut v).pending = s.pending := rfl

@[simp] theorem sys_enterSelfRef (s : State) : s.enterSelfRef.sys = s.sys := rfl
@[simp] theorem dram_enterSelfRef (s : State) : s.enterSelfRef.dram = s.dram := rfl
@[simp] theorem trn_enterSelfRef (s : State) : s.enterSelfRef.trn = s.trn := rfl
@[simp] theorem cln_enterSelfRef (s : State) : s.enterSelfRef.cln = s.cln := rfl
@[simp] theorem pkt_enterSelfRef (s : State) : s.enterSelfRef.pkt = s.pkt := rfl
@[simp] theorem per_enterSelfRef (s : State) : s.enterSelfRef.per = s.per := rfl
@[simp] theorem gln_enterSelfRef (s : State) : s.enterSelfRef.gln = s.gln := rfl
@[simp] theorem sea_enterSelfRef (s : State) : s.enterSelfRef.sea = s.sea := rfl
@[simp] theorem sav_enterSelfRef (s : State) : s.enterSelfRef.sav = s.sav := rfl
@[simp] theorem pln_enterSelfRef (s : State) : s.enterSelfRef.pln = s.pln := rfl
@[simp] theorem flash_enterSelfRef (s : State) : s.enterSelfRef.flash = s.flash := rfl
@[simp] theorem flo_enterSelfRef (s : State) : s.enterSelfRef.flo = s.flo := rfl
@[simp] theorem fce_enterSelfRef (s : State) : s.enterSelfRef.fce = s.fce := rfl
@[simp] theorem bdc_enterSelfRef (s : State) : s.enterSelfRef.bdc = s.bdc := rfl
@[simp] theorem clk_enterSelfRef (s : State) : s.enterSelfRef.clk = s.clk := rfl
@[simp] theorem sb_enterSelfRef (s : State) : s.enterSelfRef.sb = s.sb := rfl
@[simp] theorem tap_enterSelfRef (s : State) : s.enterSelfRef.tap = s.tap := rfl
@[simp] theorem sram_enterSelfRef (s : State) : s.enterSelfRef.sram = s.sram := rfl
@[simp] theorem regs_enterSelfRef (s : State) : s.enterSelfRef.regs = s.regs := rfl
@[simp] theorem tick_enterSelfRef (s : State) : s.enterSelfRef.tick = s.tick := rfl
@[simp] theorem evr_enterSelfRef (s : State) : s.enterSelfRef.evr = s.evr := rfl
@[simp] theorem flt_enterSelfRef (s : State) : s.enterSelfRef.flt = s.flt := rfl
@[simp] theorem kite_enterSelfRef (s : State) : s.enterSelfRef.kite = s.kite := rfl
@[simp] theorem pwr_enterSelfRef (s : State) : s.enterSelfRef.pwr = s.pwr := rfl
@[simp] theorem nv_enterSelfRef (s : State) : s.enterSelfRef.nv = s.nv := rfl
@[simp] theorem pending_enterSelfRef (s : State) : s.enterSelfRef.pending = s.pending := rfl

@[simp] theorem sys_leaveSelfRef (s : State) : s.leaveSelfRef.sys = s.sys := rfl
@[simp] theorem dram_leaveSelfRef (s : State) : s.leaveSelfRef.dram = s.dram := rfl
@[simp] theorem trn_leaveSelfRef (s : State) : s.leaveSelfRef.trn = s.trn := rfl
@[simp] theorem cln_leaveSelfRef (s : State) : s.leaveSelfRef.cln = s.cln := rfl
@[simp] theorem pkt_leaveSelfRef (s : State) : s.leaveSelfRef.pkt = s.pkt := rfl
@[simp] theorem per_leaveSelfRef (s : State) : s.leaveSelfRef.per = s.per := rfl
@[simp] theorem gln_leaveSelfRef (s : State) : s.leaveSelfRef.gln = s.gln := rfl
@[simp] theorem sea_leaveSelfRef (s : State) : s.leaveSelfRef.sea = s.sea := rfl
@[simp] theorem sav_leaveSelfRef (s : State) : s.leaveSelfRef.sav = s.sav := rfl
@[simp] theorem pln_leaveSelfRef (s : State) : s.leaveSelfRef.pln = s.pln := rfl
@[simp] theorem flash_leaveSelfRef (s : State) : s.leaveSelfRef.flash = s.flash := rfl
@[simp] theorem flo_leaveSelfRef (s : State) : s.leaveSelfRef.flo = s.flo := rfl
@[simp] theorem fce_leaveSelfRef (s : State) : s.leaveSelfRef.fce = s.fce := rfl
@[simp] theorem bdc_leaveSelfRef (s : State) : s.leaveSelfRef.bdc = s.bdc := rfl
@[simp] theorem clk_leaveSelfRef (s : State) : s.leaveSelfRef.clk = s.clk := rfl
@[simp] theorem sb_leaveSelfRef (s : State) : s.leaveSelfRef.sb = s.sb := rfl
@[simp] theorem tap_leaveSelfRef (s : State) : s.leaveSelfRef.tap = s.tap := rfl
@[simp] theorem sram_leaveSelfRef (s : State) : s.leaveSelfRef.sram = s.sram := rfl
@[simp] theorem regs_leaveSelfRef (s : State) : s.leaveSelfRef.regs = s.regs := rfl
@[simp] theorem tick_leaveSelfRef (s : State) : s.leaveSelfRef.tick = s.tick := rfl
@[simp] theorem evr_leaveSelfRef (s : State) : s.leaveSelfRef.evr = s.evr := rfl
@[simp] theorem flt_leaveSelfRef (s : State) : s.leaveSelfRef.flt = s.flt := rfl
@[simp] theorem kite_leaveSelfRef (s : State) : s.leaveSelfRef.kite = s.kite := rfl
@[simp] theorem pwr_leaveSelfRef (s : State) : s.leaveSelfRef.pwr = s.pwr := rfl
@[simp] theorem nv_leaveSelfRef (s : State) : s.leaveSelfRef.nv = s.nv := rfl
@[simp] theorem pending_leaveSelfRef (s : State) : s.leaveSelfRef.pending = s.pending := rfl

@[simp] theorem sys_setLine (s : State) (ma : Nat) (v : LineData × CheckBytes) : (s.setLine ma v).sys = s.sys := rfl
@[simp] theorem hbp_setLine (s : State) (ma : Nat) (v : LineData × CheckBytes) : (s.setLine ma v).hbp = s.hbp := rfl
@[simp] theorem trn_setLine (s : State) (ma : Nat) (v : LineData × CheckBytes) : (s.setLine ma v).trn = s.trn := rfl
@[simp] theorem cln_setLine (s : State) (ma : Nat) (v : LineData × CheckBytes) : (s.setLine ma v).cln = s.cln := rfl
@[simp] theorem pkt_setLine (s : State) (ma : Nat) (v : LineData × CheckBytes) : (s.setLine ma v).pkt = s.pkt := rfl
@[simp] theorem per_setLine (s : State) (ma : Nat) (v : LineData × CheckBytes) : (s.setLine ma v).per = s.per := rfl
@[simp] theorem gln_setLine (s : State) (ma : Nat) (v : LineData × CheckBytes) : (s.setLine ma v).gln = s.gln := rfl
@[simp] theorem sea_setLine (s : State) (ma : Nat) (v : LineData × CheckBytes) : (s.setLine ma v).sea = s.sea := rfl
@[simp] theorem sav_setLine (s : State) (ma : Nat) (v : LineData × CheckBytes) : (s.setLine ma v).sav = s.sav := rfl
@[simp] theorem pln_setLine (s : State) (ma : Nat) (v : LineData × CheckBytes) : (s.setLine ma v).pln = s.pln := rfl
@[simp] theorem flash_setLine (s : State) (ma : Nat) (v : LineData × CheckBytes) : (s.setLine ma v).flash = s.flash := rfl
@[simp] theorem flo_setLine (s : State) (ma : Nat) (v : LineData × CheckBytes) : (s.setLine ma v).flo = s.flo := rfl
@[simp] theorem fce_setLine (s : State) (ma : Nat) (v : LineData × CheckBytes) : (s.setLine ma v).fce = s.fce := rfl
@[simp] theorem bdc_setLine (s : State) (ma : Nat) (v : LineData × CheckBytes) : (s.setLine ma v).bdc = s.bdc := rfl
@[simp] theorem clk_setLine (s : State) (ma : Nat) (v : LineData × CheckBytes) : (s.setLine ma v).clk = s.clk := rfl
@[simp] theorem sb_setLine (s : State) (ma : Nat) (v : LineData × CheckBytes) : (s.setLine ma v).sb = s.sb := rfl
@[simp] theorem tap_setLine (s : State) (ma : Nat) (v : LineData × CheckBytes) : (s.setLine ma v).tap = s.tap := rfl
@[simp] theorem sram_setLine (s : State) (ma : Nat) (v : LineData × CheckBytes) : (s.setLine ma v).sram = s.sram := rfl
@[simp] theorem regs_setLine (s : State) (ma : Nat) (v : LineData × CheckBytes) : (s.setLine ma v).regs = s.regs := rfl
@[simp] theorem tick_setLine (s : State) (ma : Nat) (v : LineData × CheckBytes) : (s.setLine ma v).tick = s.tick := rfl
@[simp] theorem evr_setLine (s : State) (ma : Nat) (v : LineData × CheckBytes) : (s.setLine ma v).evr = s.evr := rfl
@[simp] theorem flt_setLine (s : State) (ma : Nat) (v : LineData × CheckBytes) : (s.setLine ma v).flt = s.flt := rfl
@[simp] theorem kite_setLine (s : State) (ma : Nat) (v : LineData × CheckBytes) : (s.setLine ma v).kite = s.kite := rfl
@[simp] theorem pwr_setLine (s : State) (ma : Nat) (v : LineData × CheckBytes) : (s.setLine ma v).pwr = s.pwr := rfl
@[simp] theorem nv_setLine (s : State) (ma : Nat) (v : LineData × CheckBytes) : (s.setLine ma v).nv = s.nv := rfl
@[simp] theorem pending_setLine (s : State) (ma : Nat) (v : LineData × CheckBytes) : (s.setLine ma v).pending = s.pending := rfl

@[simp] theorem sys_beatsOn (s : State) (x : Sys2Proof.Sub) : (s.beatsOn x).sys = s.sys := rfl
@[simp] theorem hbp_beatsOn (s : State) (x : Sys2Proof.Sub) : (s.beatsOn x).hbp = s.hbp := rfl
@[simp] theorem dram_beatsOn (s : State) (x : Sys2Proof.Sub) : (s.beatsOn x).dram = s.dram := rfl
@[simp] theorem cln_beatsOn (s : State) (x : Sys2Proof.Sub) : (s.beatsOn x).cln = s.cln := rfl
@[simp] theorem pkt_beatsOn (s : State) (x : Sys2Proof.Sub) : (s.beatsOn x).pkt = s.pkt := rfl
@[simp] theorem per_beatsOn (s : State) (x : Sys2Proof.Sub) : (s.beatsOn x).per = s.per := rfl
@[simp] theorem gln_beatsOn (s : State) (x : Sys2Proof.Sub) : (s.beatsOn x).gln = s.gln := rfl
@[simp] theorem sea_beatsOn (s : State) (x : Sys2Proof.Sub) : (s.beatsOn x).sea = s.sea := rfl
@[simp] theorem sav_beatsOn (s : State) (x : Sys2Proof.Sub) : (s.beatsOn x).sav = s.sav := rfl
@[simp] theorem pln_beatsOn (s : State) (x : Sys2Proof.Sub) : (s.beatsOn x).pln = s.pln := rfl
@[simp] theorem flash_beatsOn (s : State) (x : Sys2Proof.Sub) : (s.beatsOn x).flash = s.flash := rfl
@[simp] theorem flo_beatsOn (s : State) (x : Sys2Proof.Sub) : (s.beatsOn x).flo = s.flo := rfl
@[simp] theorem fce_beatsOn (s : State) (x : Sys2Proof.Sub) : (s.beatsOn x).fce = s.fce := rfl
@[simp] theorem bdc_beatsOn (s : State) (x : Sys2Proof.Sub) : (s.beatsOn x).bdc = s.bdc := rfl
@[simp] theorem clk_beatsOn (s : State) (x : Sys2Proof.Sub) : (s.beatsOn x).clk = s.clk := rfl
@[simp] theorem sb_beatsOn (s : State) (x : Sys2Proof.Sub) : (s.beatsOn x).sb = s.sb := rfl
@[simp] theorem tap_beatsOn (s : State) (x : Sys2Proof.Sub) : (s.beatsOn x).tap = s.tap := rfl
@[simp] theorem sram_beatsOn (s : State) (x : Sys2Proof.Sub) : (s.beatsOn x).sram = s.sram := rfl
@[simp] theorem regs_beatsOn (s : State) (x : Sys2Proof.Sub) : (s.beatsOn x).regs = s.regs := rfl
@[simp] theorem tick_beatsOn (s : State) (x : Sys2Proof.Sub) : (s.beatsOn x).tick = s.tick := rfl
@[simp] theorem evr_beatsOn (s : State) (x : Sys2Proof.Sub) : (s.beatsOn x).evr = s.evr := rfl
@[simp] theorem flt_beatsOn (s : State) (x : Sys2Proof.Sub) : (s.beatsOn x).flt = s.flt := rfl
@[simp] theorem kite_beatsOn (s : State) (x : Sys2Proof.Sub) : (s.beatsOn x).kite = s.kite := rfl
@[simp] theorem pwr_beatsOn (s : State) (x : Sys2Proof.Sub) : (s.beatsOn x).pwr = s.pwr := rfl
@[simp] theorem nv_beatsOn (s : State) (x : Sys2Proof.Sub) : (s.beatsOn x).nv = s.nv := rfl
@[simp] theorem pending_beatsOn (s : State) (x : Sys2Proof.Sub) : (s.beatsOn x).pending = s.pending := rfl

@[simp] theorem sys_setMatched (s : State) (x : Sys2Proof.Sub) (m : BitVec 40) : (s.setMatched x m).sys = s.sys := rfl
@[simp] theorem hbp_setMatched (s : State) (x : Sys2Proof.Sub) (m : BitVec 40) : (s.setMatched x m).hbp = s.hbp := rfl
@[simp] theorem dram_setMatched (s : State) (x : Sys2Proof.Sub) (m : BitVec 40) : (s.setMatched x m).dram = s.dram := rfl
@[simp] theorem cln_setMatched (s : State) (x : Sys2Proof.Sub) (m : BitVec 40) : (s.setMatched x m).cln = s.cln := rfl
@[simp] theorem pkt_setMatched (s : State) (x : Sys2Proof.Sub) (m : BitVec 40) : (s.setMatched x m).pkt = s.pkt := rfl
@[simp] theorem per_setMatched (s : State) (x : Sys2Proof.Sub) (m : BitVec 40) : (s.setMatched x m).per = s.per := rfl
@[simp] theorem gln_setMatched (s : State) (x : Sys2Proof.Sub) (m : BitVec 40) : (s.setMatched x m).gln = s.gln := rfl
@[simp] theorem sea_setMatched (s : State) (x : Sys2Proof.Sub) (m : BitVec 40) : (s.setMatched x m).sea = s.sea := rfl
@[simp] theorem sav_setMatched (s : State) (x : Sys2Proof.Sub) (m : BitVec 40) : (s.setMatched x m).sav = s.sav := rfl
@[simp] theorem pln_setMatched (s : State) (x : Sys2Proof.Sub) (m : BitVec 40) : (s.setMatched x m).pln = s.pln := rfl
@[simp] theorem flash_setMatched (s : State) (x : Sys2Proof.Sub) (m : BitVec 40) : (s.setMatched x m).flash = s.flash := rfl
@[simp] theorem flo_setMatched (s : State) (x : Sys2Proof.Sub) (m : BitVec 40) : (s.setMatched x m).flo = s.flo := rfl
@[simp] theorem fce_setMatched (s : State) (x : Sys2Proof.Sub) (m : BitVec 40) : (s.setMatched x m).fce = s.fce := rfl
@[simp] theorem bdc_setMatched (s : State) (x : Sys2Proof.Sub) (m : BitVec 40) : (s.setMatched x m).bdc = s.bdc := rfl
@[simp] theorem clk_setMatched (s : State) (x : Sys2Proof.Sub) (m : BitVec 40) : (s.setMatched x m).clk = s.clk := rfl
@[simp] theorem sb_setMatched (s : State) (x : Sys2Proof.Sub) (m : BitVec 40) : (s.setMatched x m).sb = s.sb := rfl
@[simp] theorem tap_setMatched (s : State) (x : Sys2Proof.Sub) (m : BitVec 40) : (s.setMatched x m).tap = s.tap := rfl
@[simp] theorem sram_setMatched (s : State) (x : Sys2Proof.Sub) (m : BitVec 40) : (s.setMatched x m).sram = s.sram := rfl
@[simp] theorem regs_setMatched (s : State) (x : Sys2Proof.Sub) (m : BitVec 40) : (s.setMatched x m).regs = s.regs := rfl
@[simp] theorem tick_setMatched (s : State) (x : Sys2Proof.Sub) (m : BitVec 40) : (s.setMatched x m).tick = s.tick := rfl
@[simp] theorem evr_setMatched (s : State) (x : Sys2Proof.Sub) (m : BitVec 40) : (s.setMatched x m).evr = s.evr := rfl
@[simp] theorem flt_setMatched (s : State) (x : Sys2Proof.Sub) (m : BitVec 40) : (s.setMatched x m).flt = s.flt := rfl
@[simp] theorem kite_setMatched (s : State) (x : Sys2Proof.Sub) (m : BitVec 40) : (s.setMatched x m).kite = s.kite := rfl
@[simp] theorem pwr_setMatched (s : State) (x : Sys2Proof.Sub) (m : BitVec 40) : (s.setMatched x m).pwr = s.pwr := rfl
@[simp] theorem nv_setMatched (s : State) (x : Sys2Proof.Sub) (m : BitVec 40) : (s.setMatched x m).nv = s.nv := rfl
@[simp] theorem pending_setMatched (s : State) (x : Sys2Proof.Sub) (m : BitVec 40) : (s.setMatched x m).pending = s.pending := rfl

@[simp] theorem sys_setRing (s : State) (r : Nat) (v : Ring) : (s.setRing r v).sys = s.sys := rfl
@[simp] theorem hbp_setRing (s : State) (r : Nat) (v : Ring) : (s.setRing r v).hbp = s.hbp := rfl
@[simp] theorem dram_setRing (s : State) (r : Nat) (v : Ring) : (s.setRing r v).dram = s.dram := rfl
@[simp] theorem trn_setRing (s : State) (r : Nat) (v : Ring) : (s.setRing r v).trn = s.trn := rfl
@[simp] theorem cln_setRing (s : State) (r : Nat) (v : Ring) : (s.setRing r v).cln = s.cln := rfl
@[simp] theorem per_setRing (s : State) (r : Nat) (v : Ring) : (s.setRing r v).per = s.per := rfl
@[simp] theorem gln_setRing (s : State) (r : Nat) (v : Ring) : (s.setRing r v).gln = s.gln := rfl
@[simp] theorem sea_setRing (s : State) (r : Nat) (v : Ring) : (s.setRing r v).sea = s.sea := rfl
@[simp] theorem sav_setRing (s : State) (r : Nat) (v : Ring) : (s.setRing r v).sav = s.sav := rfl
@[simp] theorem pln_setRing (s : State) (r : Nat) (v : Ring) : (s.setRing r v).pln = s.pln := rfl
@[simp] theorem flash_setRing (s : State) (r : Nat) (v : Ring) : (s.setRing r v).flash = s.flash := rfl
@[simp] theorem flo_setRing (s : State) (r : Nat) (v : Ring) : (s.setRing r v).flo = s.flo := rfl
@[simp] theorem fce_setRing (s : State) (r : Nat) (v : Ring) : (s.setRing r v).fce = s.fce := rfl
@[simp] theorem bdc_setRing (s : State) (r : Nat) (v : Ring) : (s.setRing r v).bdc = s.bdc := rfl
@[simp] theorem clk_setRing (s : State) (r : Nat) (v : Ring) : (s.setRing r v).clk = s.clk := rfl
@[simp] theorem sb_setRing (s : State) (r : Nat) (v : Ring) : (s.setRing r v).sb = s.sb := rfl
@[simp] theorem tap_setRing (s : State) (r : Nat) (v : Ring) : (s.setRing r v).tap = s.tap := rfl
@[simp] theorem sram_setRing (s : State) (r : Nat) (v : Ring) : (s.setRing r v).sram = s.sram := rfl
@[simp] theorem regs_setRing (s : State) (r : Nat) (v : Ring) : (s.setRing r v).regs = s.regs := rfl
@[simp] theorem tick_setRing (s : State) (r : Nat) (v : Ring) : (s.setRing r v).tick = s.tick := rfl
@[simp] theorem evr_setRing (s : State) (r : Nat) (v : Ring) : (s.setRing r v).evr = s.evr := rfl
@[simp] theorem flt_setRing (s : State) (r : Nat) (v : Ring) : (s.setRing r v).flt = s.flt := rfl
@[simp] theorem kite_setRing (s : State) (r : Nat) (v : Ring) : (s.setRing r v).kite = s.kite := rfl
@[simp] theorem pwr_setRing (s : State) (r : Nat) (v : Ring) : (s.setRing r v).pwr = s.pwr := rfl
@[simp] theorem nv_setRing (s : State) (r : Nat) (v : Ring) : (s.setRing r v).nv = s.nv := rfl
@[simp] theorem pending_setRing (s : State) (r : Nat) (v : Ring) : (s.setRing r v).pending = s.pending := rfl

@[simp] theorem sys_setExec (s : State) (e e' : ExecPkt) : (s.setExec e e').sys = s.sys := rfl
@[simp] theorem hbp_setExec (s : State) (e e' : ExecPkt) : (s.setExec e e').hbp = s.hbp := rfl
@[simp] theorem dram_setExec (s : State) (e e' : ExecPkt) : (s.setExec e e').dram = s.dram := rfl
@[simp] theorem trn_setExec (s : State) (e e' : ExecPkt) : (s.setExec e e').trn = s.trn := rfl
@[simp] theorem cln_setExec (s : State) (e e' : ExecPkt) : (s.setExec e e').cln = s.cln := rfl
@[simp] theorem per_setExec (s : State) (e e' : ExecPkt) : (s.setExec e e').per = s.per := rfl
@[simp] theorem gln_setExec (s : State) (e e' : ExecPkt) : (s.setExec e e').gln = s.gln := rfl
@[simp] theorem sea_setExec (s : State) (e e' : ExecPkt) : (s.setExec e e').sea = s.sea := rfl
@[simp] theorem sav_setExec (s : State) (e e' : ExecPkt) : (s.setExec e e').sav = s.sav := rfl
@[simp] theorem pln_setExec (s : State) (e e' : ExecPkt) : (s.setExec e e').pln = s.pln := rfl
@[simp] theorem flash_setExec (s : State) (e e' : ExecPkt) : (s.setExec e e').flash = s.flash := rfl
@[simp] theorem flo_setExec (s : State) (e e' : ExecPkt) : (s.setExec e e').flo = s.flo := rfl
@[simp] theorem fce_setExec (s : State) (e e' : ExecPkt) : (s.setExec e e').fce = s.fce := rfl
@[simp] theorem bdc_setExec (s : State) (e e' : ExecPkt) : (s.setExec e e').bdc = s.bdc := rfl
@[simp] theorem clk_setExec (s : State) (e e' : ExecPkt) : (s.setExec e e').clk = s.clk := rfl
@[simp] theorem sb_setExec (s : State) (e e' : ExecPkt) : (s.setExec e e').sb = s.sb := rfl
@[simp] theorem tap_setExec (s : State) (e e' : ExecPkt) : (s.setExec e e').tap = s.tap := rfl
@[simp] theorem sram_setExec (s : State) (e e' : ExecPkt) : (s.setExec e e').sram = s.sram := rfl
@[simp] theorem regs_setExec (s : State) (e e' : ExecPkt) : (s.setExec e e').regs = s.regs := rfl
@[simp] theorem tick_setExec (s : State) (e e' : ExecPkt) : (s.setExec e e').tick = s.tick := rfl
@[simp] theorem evr_setExec (s : State) (e e' : ExecPkt) : (s.setExec e e').evr = s.evr := rfl
@[simp] theorem flt_setExec (s : State) (e e' : ExecPkt) : (s.setExec e e').flt = s.flt := rfl
@[simp] theorem kite_setExec (s : State) (e e' : ExecPkt) : (s.setExec e e').kite = s.kite := rfl
@[simp] theorem pwr_setExec (s : State) (e e' : ExecPkt) : (s.setExec e e').pwr = s.pwr := rfl
@[simp] theorem nv_setExec (s : State) (e e' : ExecPkt) : (s.setExec e e').nv = s.nv := rfl
@[simp] theorem pending_setExec (s : State) (e e' : ExecPkt) : (s.setExec e e').pending = s.pending := rfl

@[simp] theorem sys_setCmap (s : State) (c : Nat) (e : MapEntry) : (s.setCmap c e).sys = s.sys := rfl
@[simp] theorem hbp_setCmap (s : State) (c : Nat) (e : MapEntry) : (s.setCmap c e).hbp = s.hbp := rfl
@[simp] theorem dram_setCmap (s : State) (c : Nat) (e : MapEntry) : (s.setCmap c e).dram = s.dram := rfl
@[simp] theorem trn_setCmap (s : State) (c : Nat) (e : MapEntry) : (s.setCmap c e).trn = s.trn := rfl
@[simp] theorem cln_setCmap (s : State) (c : Nat) (e : MapEntry) : (s.setCmap c e).cln = s.cln := rfl
@[simp] theorem pkt_setCmap (s : State) (c : Nat) (e : MapEntry) : (s.setCmap c e).pkt = s.pkt := rfl
@[simp] theorem gln_setCmap (s : State) (c : Nat) (e : MapEntry) : (s.setCmap c e).gln = s.gln := rfl
@[simp] theorem sea_setCmap (s : State) (c : Nat) (e : MapEntry) : (s.setCmap c e).sea = s.sea := rfl
@[simp] theorem sav_setCmap (s : State) (c : Nat) (e : MapEntry) : (s.setCmap c e).sav = s.sav := rfl
@[simp] theorem pln_setCmap (s : State) (c : Nat) (e : MapEntry) : (s.setCmap c e).pln = s.pln := rfl
@[simp] theorem flash_setCmap (s : State) (c : Nat) (e : MapEntry) : (s.setCmap c e).flash = s.flash := rfl
@[simp] theorem flo_setCmap (s : State) (c : Nat) (e : MapEntry) : (s.setCmap c e).flo = s.flo := rfl
@[simp] theorem fce_setCmap (s : State) (c : Nat) (e : MapEntry) : (s.setCmap c e).fce = s.fce := rfl
@[simp] theorem bdc_setCmap (s : State) (c : Nat) (e : MapEntry) : (s.setCmap c e).bdc = s.bdc := rfl
@[simp] theorem clk_setCmap (s : State) (c : Nat) (e : MapEntry) : (s.setCmap c e).clk = s.clk := rfl
@[simp] theorem sb_setCmap (s : State) (c : Nat) (e : MapEntry) : (s.setCmap c e).sb = s.sb := rfl
@[simp] theorem tap_setCmap (s : State) (c : Nat) (e : MapEntry) : (s.setCmap c e).tap = s.tap := rfl
@[simp] theorem sram_setCmap (s : State) (c : Nat) (e : MapEntry) : (s.setCmap c e).sram = s.sram := rfl
@[simp] theorem regs_setCmap (s : State) (c : Nat) (e : MapEntry) : (s.setCmap c e).regs = s.regs := rfl
@[simp] theorem tick_setCmap (s : State) (c : Nat) (e : MapEntry) : (s.setCmap c e).tick = s.tick := rfl
@[simp] theorem evr_setCmap (s : State) (c : Nat) (e : MapEntry) : (s.setCmap c e).evr = s.evr := rfl
@[simp] theorem flt_setCmap (s : State) (c : Nat) (e : MapEntry) : (s.setCmap c e).flt = s.flt := rfl
@[simp] theorem kite_setCmap (s : State) (c : Nat) (e : MapEntry) : (s.setCmap c e).kite = s.kite := rfl
@[simp] theorem pwr_setCmap (s : State) (c : Nat) (e : MapEntry) : (s.setCmap c e).pwr = s.pwr := rfl
@[simp] theorem nv_setCmap (s : State) (c : Nat) (e : MapEntry) : (s.setCmap c e).nv = s.nv := rfl
@[simp] theorem pending_setCmap (s : State) (c : Nat) (e : MapEntry) : (s.setCmap c e).pending = s.pending := rfl

@[simp] theorem sys_setRepair (s : State) (g st : Nat) : (s.setRepair g st).sys = s.sys := rfl
@[simp] theorem hbp_setRepair (s : State) (g st : Nat) : (s.setRepair g st).hbp = s.hbp := rfl
@[simp] theorem dram_setRepair (s : State) (g st : Nat) : (s.setRepair g st).dram = s.dram := rfl
@[simp] theorem trn_setRepair (s : State) (g st : Nat) : (s.setRepair g st).trn = s.trn := rfl
@[simp] theorem cln_setRepair (s : State) (g st : Nat) : (s.setRepair g st).cln = s.cln := rfl
@[simp] theorem pkt_setRepair (s : State) (g st : Nat) : (s.setRepair g st).pkt = s.pkt := rfl
@[simp] theorem per_setRepair (s : State) (g st : Nat) : (s.setRepair g st).per = s.per := rfl
@[simp] theorem sea_setRepair (s : State) (g st : Nat) : (s.setRepair g st).sea = s.sea := rfl
@[simp] theorem sav_setRepair (s : State) (g st : Nat) : (s.setRepair g st).sav = s.sav := rfl
@[simp] theorem pln_setRepair (s : State) (g st : Nat) : (s.setRepair g st).pln = s.pln := rfl
@[simp] theorem flash_setRepair (s : State) (g st : Nat) : (s.setRepair g st).flash = s.flash := rfl
@[simp] theorem flo_setRepair (s : State) (g st : Nat) : (s.setRepair g st).flo = s.flo := rfl
@[simp] theorem fce_setRepair (s : State) (g st : Nat) : (s.setRepair g st).fce = s.fce := rfl
@[simp] theorem bdc_setRepair (s : State) (g st : Nat) : (s.setRepair g st).bdc = s.bdc := rfl
@[simp] theorem clk_setRepair (s : State) (g st : Nat) : (s.setRepair g st).clk = s.clk := rfl
@[simp] theorem sb_setRepair (s : State) (g st : Nat) : (s.setRepair g st).sb = s.sb := rfl
@[simp] theorem tap_setRepair (s : State) (g st : Nat) : (s.setRepair g st).tap = s.tap := rfl
@[simp] theorem sram_setRepair (s : State) (g st : Nat) : (s.setRepair g st).sram = s.sram := rfl
@[simp] theorem regs_setRepair (s : State) (g st : Nat) : (s.setRepair g st).regs = s.regs := rfl
@[simp] theorem tick_setRepair (s : State) (g st : Nat) : (s.setRepair g st).tick = s.tick := rfl
@[simp] theorem evr_setRepair (s : State) (g st : Nat) : (s.setRepair g st).evr = s.evr := rfl
@[simp] theorem flt_setRepair (s : State) (g st : Nat) : (s.setRepair g st).flt = s.flt := rfl
@[simp] theorem kite_setRepair (s : State) (g st : Nat) : (s.setRepair g st).kite = s.kite := rfl
@[simp] theorem pwr_setRepair (s : State) (g st : Nat) : (s.setRepair g st).pwr = s.pwr := rfl
@[simp] theorem nv_setRepair (s : State) (g st : Nat) : (s.setRepair g st).nv = s.nv := rfl
@[simp] theorem pending_setRepair (s : State) (g st : Nat) : (s.setRepair g st).pending = s.pending := rfl


@[simp] theorem sys_putSlot (s : State) (x : Slot) : (s.putSlot x).sys = s.sys := rfl
@[simp] theorem hbp_putSlot (s : State) (x : Slot) : (s.putSlot x).hbp = s.hbp := rfl
@[simp] theorem dram_putSlot (s : State) (x : Slot) : (s.putSlot x).dram = s.dram := rfl
@[simp] theorem trn_putSlot (s : State) (x : Slot) : (s.putSlot x).trn = s.trn := rfl
@[simp] theorem cln_putSlot (s : State) (x : Slot) : (s.putSlot x).cln = s.cln := rfl
@[simp] theorem pkt_putSlot (s : State) (x : Slot) : (s.putSlot x).pkt = s.pkt := rfl
@[simp] theorem per_putSlot (s : State) (x : Slot) : (s.putSlot x).per = s.per := rfl
@[simp] theorem sea_putSlot (s : State) (x : Slot) : (s.putSlot x).sea = s.sea := rfl
@[simp] theorem sav_putSlot (s : State) (x : Slot) : (s.putSlot x).sav = s.sav := rfl
@[simp] theorem pln_putSlot (s : State) (x : Slot) : (s.putSlot x).pln = s.pln := rfl
@[simp] theorem flash_putSlot (s : State) (x : Slot) : (s.putSlot x).flash = s.flash := rfl
@[simp] theorem flo_putSlot (s : State) (x : Slot) : (s.putSlot x).flo = s.flo := rfl
@[simp] theorem fce_putSlot (s : State) (x : Slot) : (s.putSlot x).fce = s.fce := rfl
@[simp] theorem bdc_putSlot (s : State) (x : Slot) : (s.putSlot x).bdc = s.bdc := rfl
@[simp] theorem clk_putSlot (s : State) (x : Slot) : (s.putSlot x).clk = s.clk := rfl
@[simp] theorem sb_putSlot (s : State) (x : Slot) : (s.putSlot x).sb = s.sb := rfl
@[simp] theorem tap_putSlot (s : State) (x : Slot) : (s.putSlot x).tap = s.tap := rfl
@[simp] theorem sram_putSlot (s : State) (x : Slot) : (s.putSlot x).sram = s.sram := rfl
@[simp] theorem regs_putSlot (s : State) (x : Slot) : (s.putSlot x).regs = s.regs := rfl
@[simp] theorem tick_putSlot (s : State) (x : Slot) : (s.putSlot x).tick = s.tick := rfl
@[simp] theorem evr_putSlot (s : State) (x : Slot) : (s.putSlot x).evr = s.evr := rfl
@[simp] theorem flt_putSlot (s : State) (x : Slot) : (s.putSlot x).flt = s.flt := rfl
@[simp] theorem kite_putSlot (s : State) (x : Slot) : (s.putSlot x).kite = s.kite := rfl
@[simp] theorem pwr_putSlot (s : State) (x : Slot) : (s.putSlot x).pwr = s.pwr := rfl
@[simp] theorem nv_putSlot (s : State) (x : Slot) : (s.putSlot x).nv = s.nv := rfl
@[simp] theorem pending_putSlot (s : State) (x : Slot) : (s.putSlot x).pending = s.pending := rfl

@[simp] theorem sys_setRun (s : State) (r : SaveRun) : (s.setRun r).sys = s.sys := rfl
@[simp] theorem hbp_setRun (s : State) (r : SaveRun) : (s.setRun r).hbp = s.hbp := rfl
@[simp] theorem dram_setRun (s : State) (r : SaveRun) : (s.setRun r).dram = s.dram := rfl
@[simp] theorem trn_setRun (s : State) (r : SaveRun) : (s.setRun r).trn = s.trn := rfl
@[simp] theorem cln_setRun (s : State) (r : SaveRun) : (s.setRun r).cln = s.cln := rfl
@[simp] theorem pkt_setRun (s : State) (r : SaveRun) : (s.setRun r).pkt = s.pkt := rfl
@[simp] theorem per_setRun (s : State) (r : SaveRun) : (s.setRun r).per = s.per := rfl
@[simp] theorem gln_setRun (s : State) (r : SaveRun) : (s.setRun r).gln = s.gln := rfl
@[simp] theorem sea_setRun (s : State) (r : SaveRun) : (s.setRun r).sea = s.sea := rfl
@[simp] theorem pln_setRun (s : State) (r : SaveRun) : (s.setRun r).pln = s.pln := rfl
@[simp] theorem flash_setRun (s : State) (r : SaveRun) : (s.setRun r).flash = s.flash := rfl
@[simp] theorem flo_setRun (s : State) (r : SaveRun) : (s.setRun r).flo = s.flo := rfl
@[simp] theorem fce_setRun (s : State) (r : SaveRun) : (s.setRun r).fce = s.fce := rfl
@[simp] theorem bdc_setRun (s : State) (r : SaveRun) : (s.setRun r).bdc = s.bdc := rfl
@[simp] theorem clk_setRun (s : State) (r : SaveRun) : (s.setRun r).clk = s.clk := rfl
@[simp] theorem sb_setRun (s : State) (r : SaveRun) : (s.setRun r).sb = s.sb := rfl
@[simp] theorem tap_setRun (s : State) (r : SaveRun) : (s.setRun r).tap = s.tap := rfl
@[simp] theorem sram_setRun (s : State) (r : SaveRun) : (s.setRun r).sram = s.sram := rfl
@[simp] theorem regs_setRun (s : State) (r : SaveRun) : (s.setRun r).regs = s.regs := rfl
@[simp] theorem tick_setRun (s : State) (r : SaveRun) : (s.setRun r).tick = s.tick := rfl
@[simp] theorem evr_setRun (s : State) (r : SaveRun) : (s.setRun r).evr = s.evr := rfl
@[simp] theorem flt_setRun (s : State) (r : SaveRun) : (s.setRun r).flt = s.flt := rfl
@[simp] theorem kite_setRun (s : State) (r : SaveRun) : (s.setRun r).kite = s.kite := rfl
@[simp] theorem pwr_setRun (s : State) (r : SaveRun) : (s.setRun r).pwr = s.pwr := rfl
@[simp] theorem nv_setRun (s : State) (r : SaveRun) : (s.setRun r).nv = s.nv := rfl
@[simp] theorem pending_setRun (s : State) (r : SaveRun) : (s.setRun r).pending = s.pending := rfl

@[simp] theorem sys_stagingStop (s : State) : s.stagingStop.sys = s.sys := rfl
@[simp] theorem hbp_stagingStop (s : State) : s.stagingStop.hbp = s.hbp := rfl
@[simp] theorem dram_stagingStop (s : State) : s.stagingStop.dram = s.dram := rfl
@[simp] theorem trn_stagingStop (s : State) : s.stagingStop.trn = s.trn := rfl
@[simp] theorem cln_stagingStop (s : State) : s.stagingStop.cln = s.cln := rfl
@[simp] theorem pkt_stagingStop (s : State) : s.stagingStop.pkt = s.pkt := rfl
@[simp] theorem per_stagingStop (s : State) : s.stagingStop.per = s.per := rfl
@[simp] theorem gln_stagingStop (s : State) : s.stagingStop.gln = s.gln := rfl
@[simp] theorem sea_stagingStop (s : State) : s.stagingStop.sea = s.sea := rfl
@[simp] theorem sav_stagingStop (s : State) : s.stagingStop.sav = s.sav := rfl
@[simp] theorem flash_stagingStop (s : State) : s.stagingStop.flash = s.flash := rfl
@[simp] theorem flo_stagingStop (s : State) : s.stagingStop.flo = s.flo := rfl
@[simp] theorem fce_stagingStop (s : State) : s.stagingStop.fce = s.fce := rfl
@[simp] theorem bdc_stagingStop (s : State) : s.stagingStop.bdc = s.bdc := rfl
@[simp] theorem clk_stagingStop (s : State) : s.stagingStop.clk = s.clk := rfl
@[simp] theorem sb_stagingStop (s : State) : s.stagingStop.sb = s.sb := rfl
@[simp] theorem tap_stagingStop (s : State) : s.stagingStop.tap = s.tap := rfl
@[simp] theorem sram_stagingStop (s : State) : s.stagingStop.sram = s.sram := rfl
@[simp] theorem regs_stagingStop (s : State) : s.stagingStop.regs = s.regs := rfl
@[simp] theorem tick_stagingStop (s : State) : s.stagingStop.tick = s.tick := rfl
@[simp] theorem evr_stagingStop (s : State) : s.stagingStop.evr = s.evr := rfl
@[simp] theorem flt_stagingStop (s : State) : s.stagingStop.flt = s.flt := rfl
@[simp] theorem kite_stagingStop (s : State) : s.stagingStop.kite = s.kite := rfl
@[simp] theorem pwr_stagingStop (s : State) : s.stagingStop.pwr = s.pwr := rfl
@[simp] theorem nv_stagingStop (s : State) : s.stagingStop.nv = s.nv := rfl
@[simp] theorem pending_stagingStop (s : State) : s.stagingStop.pending = s.pending := rfl

@[simp] theorem sys_setUsed (s : State) (n k : Nat) : (s.setUsed n k).sys = s.sys := rfl
@[simp] theorem hbp_setUsed (s : State) (n k : Nat) : (s.setUsed n k).hbp = s.hbp := rfl
@[simp] theorem dram_setUsed (s : State) (n k : Nat) : (s.setUsed n k).dram = s.dram := rfl
@[simp] theorem trn_setUsed (s : State) (n k : Nat) : (s.setUsed n k).trn = s.trn := rfl
@[simp] theorem cln_setUsed (s : State) (n k : Nat) : (s.setUsed n k).cln = s.cln := rfl
@[simp] theorem pkt_setUsed (s : State) (n k : Nat) : (s.setUsed n k).pkt = s.pkt := rfl
@[simp] theorem per_setUsed (s : State) (n k : Nat) : (s.setUsed n k).per = s.per := rfl
@[simp] theorem gln_setUsed (s : State) (n k : Nat) : (s.setUsed n k).gln = s.gln := rfl
@[simp] theorem sea_setUsed (s : State) (n k : Nat) : (s.setUsed n k).sea = s.sea := rfl
@[simp] theorem sav_setUsed (s : State) (n k : Nat) : (s.setUsed n k).sav = s.sav := rfl
@[simp] theorem pln_setUsed (s : State) (n k : Nat) : (s.setUsed n k).pln = s.pln := rfl
@[simp] theorem flo_setUsed (s : State) (n k : Nat) : (s.setUsed n k).flo = s.flo := rfl
@[simp] theorem fce_setUsed (s : State) (n k : Nat) : (s.setUsed n k).fce = s.fce := rfl
@[simp] theorem bdc_setUsed (s : State) (n k : Nat) : (s.setUsed n k).bdc = s.bdc := rfl
@[simp] theorem clk_setUsed (s : State) (n k : Nat) : (s.setUsed n k).clk = s.clk := rfl
@[simp] theorem sb_setUsed (s : State) (n k : Nat) : (s.setUsed n k).sb = s.sb := rfl
@[simp] theorem tap_setUsed (s : State) (n k : Nat) : (s.setUsed n k).tap = s.tap := rfl
@[simp] theorem sram_setUsed (s : State) (n k : Nat) : (s.setUsed n k).sram = s.sram := rfl
@[simp] theorem regs_setUsed (s : State) (n k : Nat) : (s.setUsed n k).regs = s.regs := rfl
@[simp] theorem tick_setUsed (s : State) (n k : Nat) : (s.setUsed n k).tick = s.tick := rfl
@[simp] theorem evr_setUsed (s : State) (n k : Nat) : (s.setUsed n k).evr = s.evr := rfl
@[simp] theorem flt_setUsed (s : State) (n k : Nat) : (s.setUsed n k).flt = s.flt := rfl
@[simp] theorem kite_setUsed (s : State) (n k : Nat) : (s.setUsed n k).kite = s.kite := rfl
@[simp] theorem pwr_setUsed (s : State) (n k : Nat) : (s.setUsed n k).pwr = s.pwr := rfl
@[simp] theorem nv_setUsed (s : State) (n k : Nat) : (s.setUsed n k).nv = s.nv := rfl
@[simp] theorem pending_setUsed (s : State) (n k : Nat) : (s.setUsed n k).pending = s.pending := rfl

@[simp] theorem sys_turnFrom (s : State) (die : Nat) : (s.turnFrom die).sys = s.sys := rfl
@[simp] theorem hbp_turnFrom (s : State) (die : Nat) : (s.turnFrom die).hbp = s.hbp := rfl
@[simp] theorem dram_turnFrom (s : State) (die : Nat) : (s.turnFrom die).dram = s.dram := rfl
@[simp] theorem trn_turnFrom (s : State) (die : Nat) : (s.turnFrom die).trn = s.trn := rfl
@[simp] theorem cln_turnFrom (s : State) (die : Nat) : (s.turnFrom die).cln = s.cln := rfl
@[simp] theorem pkt_turnFrom (s : State) (die : Nat) : (s.turnFrom die).pkt = s.pkt := rfl
@[simp] theorem per_turnFrom (s : State) (die : Nat) : (s.turnFrom die).per = s.per := rfl
@[simp] theorem gln_turnFrom (s : State) (die : Nat) : (s.turnFrom die).gln = s.gln := rfl
@[simp] theorem sea_turnFrom (s : State) (die : Nat) : (s.turnFrom die).sea = s.sea := rfl
@[simp] theorem sav_turnFrom (s : State) (die : Nat) : (s.turnFrom die).sav = s.sav := rfl
@[simp] theorem pln_turnFrom (s : State) (die : Nat) : (s.turnFrom die).pln = s.pln := rfl
@[simp] theorem flo_turnFrom (s : State) (die : Nat) : (s.turnFrom die).flo = s.flo := rfl
@[simp] theorem fce_turnFrom (s : State) (die : Nat) : (s.turnFrom die).fce = s.fce := rfl
@[simp] theorem bdc_turnFrom (s : State) (die : Nat) : (s.turnFrom die).bdc = s.bdc := rfl
@[simp] theorem clk_turnFrom (s : State) (die : Nat) : (s.turnFrom die).clk = s.clk := rfl
@[simp] theorem sb_turnFrom (s : State) (die : Nat) : (s.turnFrom die).sb = s.sb := rfl
@[simp] theorem tap_turnFrom (s : State) (die : Nat) : (s.turnFrom die).tap = s.tap := rfl
@[simp] theorem sram_turnFrom (s : State) (die : Nat) : (s.turnFrom die).sram = s.sram := rfl
@[simp] theorem regs_turnFrom (s : State) (die : Nat) : (s.turnFrom die).regs = s.regs := rfl
@[simp] theorem tick_turnFrom (s : State) (die : Nat) : (s.turnFrom die).tick = s.tick := rfl
@[simp] theorem evr_turnFrom (s : State) (die : Nat) : (s.turnFrom die).evr = s.evr := rfl
@[simp] theorem flt_turnFrom (s : State) (die : Nat) : (s.turnFrom die).flt = s.flt := rfl
@[simp] theorem kite_turnFrom (s : State) (die : Nat) : (s.turnFrom die).kite = s.kite := rfl
@[simp] theorem pwr_turnFrom (s : State) (die : Nat) : (s.turnFrom die).pwr = s.pwr := rfl
@[simp] theorem nv_turnFrom (s : State) (die : Nat) : (s.turnFrom die).nv = s.nv := rfl
@[simp] theorem pending_turnFrom (s : State) (die : Nat) : (s.turnFrom die).pending = s.pending := rfl

@[simp] theorem sys_putSheaf (s : State) (a : Nat) (v : Sheaf) : (s.putSheaf a v).sys = s.sys := rfl
@[simp] theorem hbp_putSheaf (s : State) (a : Nat) (v : Sheaf) : (s.putSheaf a v).hbp = s.hbp := rfl
@[simp] theorem dram_putSheaf (s : State) (a : Nat) (v : Sheaf) : (s.putSheaf a v).dram = s.dram := rfl
@[simp] theorem trn_putSheaf (s : State) (a : Nat) (v : Sheaf) : (s.putSheaf a v).trn = s.trn := rfl
@[simp] theorem cln_putSheaf (s : State) (a : Nat) (v : Sheaf) : (s.putSheaf a v).cln = s.cln := rfl
@[simp] theorem pkt_putSheaf (s : State) (a : Nat) (v : Sheaf) : (s.putSheaf a v).pkt = s.pkt := rfl
@[simp] theorem per_putSheaf (s : State) (a : Nat) (v : Sheaf) : (s.putSheaf a v).per = s.per := rfl
@[simp] theorem gln_putSheaf (s : State) (a : Nat) (v : Sheaf) : (s.putSheaf a v).gln = s.gln := rfl
@[simp] theorem sea_putSheaf (s : State) (a : Nat) (v : Sheaf) : (s.putSheaf a v).sea = s.sea := rfl
@[simp] theorem sav_putSheaf (s : State) (a : Nat) (v : Sheaf) : (s.putSheaf a v).sav = s.sav := rfl
@[simp] theorem pln_putSheaf (s : State) (a : Nat) (v : Sheaf) : (s.putSheaf a v).pln = s.pln := rfl
@[simp] theorem flo_putSheaf (s : State) (a : Nat) (v : Sheaf) : (s.putSheaf a v).flo = s.flo := rfl
@[simp] theorem fce_putSheaf (s : State) (a : Nat) (v : Sheaf) : (s.putSheaf a v).fce = s.fce := rfl
@[simp] theorem bdc_putSheaf (s : State) (a : Nat) (v : Sheaf) : (s.putSheaf a v).bdc = s.bdc := rfl
@[simp] theorem clk_putSheaf (s : State) (a : Nat) (v : Sheaf) : (s.putSheaf a v).clk = s.clk := rfl
@[simp] theorem sb_putSheaf (s : State) (a : Nat) (v : Sheaf) : (s.putSheaf a v).sb = s.sb := rfl
@[simp] theorem tap_putSheaf (s : State) (a : Nat) (v : Sheaf) : (s.putSheaf a v).tap = s.tap := rfl
@[simp] theorem sram_putSheaf (s : State) (a : Nat) (v : Sheaf) : (s.putSheaf a v).sram = s.sram := rfl
@[simp] theorem regs_putSheaf (s : State) (a : Nat) (v : Sheaf) : (s.putSheaf a v).regs = s.regs := rfl
@[simp] theorem tick_putSheaf (s : State) (a : Nat) (v : Sheaf) : (s.putSheaf a v).tick = s.tick := rfl
@[simp] theorem evr_putSheaf (s : State) (a : Nat) (v : Sheaf) : (s.putSheaf a v).evr = s.evr := rfl
@[simp] theorem flt_putSheaf (s : State) (a : Nat) (v : Sheaf) : (s.putSheaf a v).flt = s.flt := rfl
@[simp] theorem kite_putSheaf (s : State) (a : Nat) (v : Sheaf) : (s.putSheaf a v).kite = s.kite := rfl
@[simp] theorem pwr_putSheaf (s : State) (a : Nat) (v : Sheaf) : (s.putSheaf a v).pwr = s.pwr := rfl
@[simp] theorem nv_putSheaf (s : State) (a : Nat) (v : Sheaf) : (s.putSheaf a v).nv = s.nv := rfl
@[simp] theorem pending_putSheaf (s : State) (a : Nat) (v : Sheaf) : (s.putSheaf a v).pending = s.pending := rfl

@[simp] theorem sys_putEar (s : State) (key : Nat) (e : Ear) : (s.putEar key e).sys = s.sys := rfl
@[simp] theorem hbp_putEar (s : State) (key : Nat) (e : Ear) : (s.putEar key e).hbp = s.hbp := rfl
@[simp] theorem dram_putEar (s : State) (key : Nat) (e : Ear) : (s.putEar key e).dram = s.dram := rfl
@[simp] theorem trn_putEar (s : State) (key : Nat) (e : Ear) : (s.putEar key e).trn = s.trn := rfl
@[simp] theorem cln_putEar (s : State) (key : Nat) (e : Ear) : (s.putEar key e).cln = s.cln := rfl
@[simp] theorem pkt_putEar (s : State) (key : Nat) (e : Ear) : (s.putEar key e).pkt = s.pkt := rfl
@[simp] theorem per_putEar (s : State) (key : Nat) (e : Ear) : (s.putEar key e).per = s.per := rfl
@[simp] theorem gln_putEar (s : State) (key : Nat) (e : Ear) : (s.putEar key e).gln = s.gln := rfl
@[simp] theorem sea_putEar (s : State) (key : Nat) (e : Ear) : (s.putEar key e).sea = s.sea := rfl
@[simp] theorem sav_putEar (s : State) (key : Nat) (e : Ear) : (s.putEar key e).sav = s.sav := rfl
@[simp] theorem pln_putEar (s : State) (key : Nat) (e : Ear) : (s.putEar key e).pln = s.pln := rfl
@[simp] theorem flo_putEar (s : State) (key : Nat) (e : Ear) : (s.putEar key e).flo = s.flo := rfl
@[simp] theorem fce_putEar (s : State) (key : Nat) (e : Ear) : (s.putEar key e).fce = s.fce := rfl
@[simp] theorem bdc_putEar (s : State) (key : Nat) (e : Ear) : (s.putEar key e).bdc = s.bdc := rfl
@[simp] theorem clk_putEar (s : State) (key : Nat) (e : Ear) : (s.putEar key e).clk = s.clk := rfl
@[simp] theorem sb_putEar (s : State) (key : Nat) (e : Ear) : (s.putEar key e).sb = s.sb := rfl
@[simp] theorem tap_putEar (s : State) (key : Nat) (e : Ear) : (s.putEar key e).tap = s.tap := rfl
@[simp] theorem sram_putEar (s : State) (key : Nat) (e : Ear) : (s.putEar key e).sram = s.sram := rfl
@[simp] theorem regs_putEar (s : State) (key : Nat) (e : Ear) : (s.putEar key e).regs = s.regs := rfl
@[simp] theorem tick_putEar (s : State) (key : Nat) (e : Ear) : (s.putEar key e).tick = s.tick := rfl
@[simp] theorem evr_putEar (s : State) (key : Nat) (e : Ear) : (s.putEar key e).evr = s.evr := rfl
@[simp] theorem flt_putEar (s : State) (key : Nat) (e : Ear) : (s.putEar key e).flt = s.flt := rfl
@[simp] theorem kite_putEar (s : State) (key : Nat) (e : Ear) : (s.putEar key e).kite = s.kite := rfl
@[simp] theorem pwr_putEar (s : State) (key : Nat) (e : Ear) : (s.putEar key e).pwr = s.pwr := rfl
@[simp] theorem nv_putEar (s : State) (key : Nat) (e : Ear) : (s.putEar key e).nv = s.nv := rfl
@[simp] theorem pending_putEar (s : State) (key : Nat) (e : Ear) : (s.putEar key e).pending = s.pending := rfl

@[simp] theorem sys_logPut (s : State) (p : Nat) (bs : List Byte) : (s.logPut p bs).sys = s.sys := rfl
@[simp] theorem hbp_logPut (s : State) (p : Nat) (bs : List Byte) : (s.logPut p bs).hbp = s.hbp := rfl
@[simp] theorem dram_logPut (s : State) (p : Nat) (bs : List Byte) : (s.logPut p bs).dram = s.dram := rfl
@[simp] theorem trn_logPut (s : State) (p : Nat) (bs : List Byte) : (s.logPut p bs).trn = s.trn := rfl
@[simp] theorem cln_logPut (s : State) (p : Nat) (bs : List Byte) : (s.logPut p bs).cln = s.cln := rfl
@[simp] theorem pkt_logPut (s : State) (p : Nat) (bs : List Byte) : (s.logPut p bs).pkt = s.pkt := rfl
@[simp] theorem per_logPut (s : State) (p : Nat) (bs : List Byte) : (s.logPut p bs).per = s.per := rfl
@[simp] theorem gln_logPut (s : State) (p : Nat) (bs : List Byte) : (s.logPut p bs).gln = s.gln := rfl
@[simp] theorem sea_logPut (s : State) (p : Nat) (bs : List Byte) : (s.logPut p bs).sea = s.sea := rfl
@[simp] theorem sav_logPut (s : State) (p : Nat) (bs : List Byte) : (s.logPut p bs).sav = s.sav := rfl
@[simp] theorem pln_logPut (s : State) (p : Nat) (bs : List Byte) : (s.logPut p bs).pln = s.pln := rfl
@[simp] theorem flo_logPut (s : State) (p : Nat) (bs : List Byte) : (s.logPut p bs).flo = s.flo := rfl
@[simp] theorem fce_logPut (s : State) (p : Nat) (bs : List Byte) : (s.logPut p bs).fce = s.fce := rfl
@[simp] theorem bdc_logPut (s : State) (p : Nat) (bs : List Byte) : (s.logPut p bs).bdc = s.bdc := rfl
@[simp] theorem clk_logPut (s : State) (p : Nat) (bs : List Byte) : (s.logPut p bs).clk = s.clk := rfl
@[simp] theorem sb_logPut (s : State) (p : Nat) (bs : List Byte) : (s.logPut p bs).sb = s.sb := rfl
@[simp] theorem tap_logPut (s : State) (p : Nat) (bs : List Byte) : (s.logPut p bs).tap = s.tap := rfl
@[simp] theorem sram_logPut (s : State) (p : Nat) (bs : List Byte) : (s.logPut p bs).sram = s.sram := rfl
@[simp] theorem regs_logPut (s : State) (p : Nat) (bs : List Byte) : (s.logPut p bs).regs = s.regs := rfl
@[simp] theorem tick_logPut (s : State) (p : Nat) (bs : List Byte) : (s.logPut p bs).tick = s.tick := rfl
@[simp] theorem evr_logPut (s : State) (p : Nat) (bs : List Byte) : (s.logPut p bs).evr = s.evr := rfl
@[simp] theorem flt_logPut (s : State) (p : Nat) (bs : List Byte) : (s.logPut p bs).flt = s.flt := rfl
@[simp] theorem kite_logPut (s : State) (p : Nat) (bs : List Byte) : (s.logPut p bs).kite = s.kite := rfl
@[simp] theorem pwr_logPut (s : State) (p : Nat) (bs : List Byte) : (s.logPut p bs).pwr = s.pwr := rfl
@[simp] theorem nv_logPut (s : State) (p : Nat) (bs : List Byte) : (s.logPut p bs).nv = s.nv := rfl
@[simp] theorem pending_logPut (s : State) (p : Nat) (bs : List Byte) : (s.logPut p bs).pending = s.pending := rfl

@[simp] theorem sys_setChan (s : State) (ch : Nat) (c : Chan) : (s.setChan ch c).sys = s.sys := rfl
@[simp] theorem hbp_setChan (s : State) (ch : Nat) (c : Chan) : (s.setChan ch c).hbp = s.hbp := rfl
@[simp] theorem dram_setChan (s : State) (ch : Nat) (c : Chan) : (s.setChan ch c).dram = s.dram := rfl
@[simp] theorem trn_setChan (s : State) (ch : Nat) (c : Chan) : (s.setChan ch c).trn = s.trn := rfl
@[simp] theorem cln_setChan (s : State) (ch : Nat) (c : Chan) : (s.setChan ch c).cln = s.cln := rfl
@[simp] theorem pkt_setChan (s : State) (ch : Nat) (c : Chan) : (s.setChan ch c).pkt = s.pkt := rfl
@[simp] theorem per_setChan (s : State) (ch : Nat) (c : Chan) : (s.setChan ch c).per = s.per := rfl
@[simp] theorem gln_setChan (s : State) (ch : Nat) (c : Chan) : (s.setChan ch c).gln = s.gln := rfl
@[simp] theorem sea_setChan (s : State) (ch : Nat) (c : Chan) : (s.setChan ch c).sea = s.sea := rfl
@[simp] theorem sav_setChan (s : State) (ch : Nat) (c : Chan) : (s.setChan ch c).sav = s.sav := rfl
@[simp] theorem pln_setChan (s : State) (ch : Nat) (c : Chan) : (s.setChan ch c).pln = s.pln := rfl
@[simp] theorem flash_setChan (s : State) (ch : Nat) (c : Chan) : (s.setChan ch c).flash = s.flash := rfl
@[simp] theorem flo_setChan (s : State) (ch : Nat) (c : Chan) : (s.setChan ch c).flo = s.flo := rfl
@[simp] theorem bdc_setChan (s : State) (ch : Nat) (c : Chan) : (s.setChan ch c).bdc = s.bdc := rfl
@[simp] theorem clk_setChan (s : State) (ch : Nat) (c : Chan) : (s.setChan ch c).clk = s.clk := rfl
@[simp] theorem sb_setChan (s : State) (ch : Nat) (c : Chan) : (s.setChan ch c).sb = s.sb := rfl
@[simp] theorem tap_setChan (s : State) (ch : Nat) (c : Chan) : (s.setChan ch c).tap = s.tap := rfl
@[simp] theorem sram_setChan (s : State) (ch : Nat) (c : Chan) : (s.setChan ch c).sram = s.sram := rfl
@[simp] theorem regs_setChan (s : State) (ch : Nat) (c : Chan) : (s.setChan ch c).regs = s.regs := rfl
@[simp] theorem tick_setChan (s : State) (ch : Nat) (c : Chan) : (s.setChan ch c).tick = s.tick := rfl
@[simp] theorem evr_setChan (s : State) (ch : Nat) (c : Chan) : (s.setChan ch c).evr = s.evr := rfl
@[simp] theorem flt_setChan (s : State) (ch : Nat) (c : Chan) : (s.setChan ch c).flt = s.flt := rfl
@[simp] theorem kite_setChan (s : State) (ch : Nat) (c : Chan) : (s.setChan ch c).kite = s.kite := rfl
@[simp] theorem pwr_setChan (s : State) (ch : Nat) (c : Chan) : (s.setChan ch c).pwr = s.pwr := rfl
@[simp] theorem nv_setChan (s : State) (ch : Nat) (c : Chan) : (s.setChan ch c).nv = s.nv := rfl
@[simp] theorem pending_setChan (s : State) (ch : Nat) (c : Chan) : (s.setChan ch c).pending = s.pending := rfl

@[simp] theorem sys_putIncident (s : State) (k : Nat) (i : Incident) : (s.putIncident k i).sys = s.sys := rfl
@[simp] theorem hbp_putIncident (s : State) (k : Nat) (i : Incident) : (s.putIncident k i).hbp = s.hbp := rfl
@[simp] theorem dram_putIncident (s : State) (k : Nat) (i : Incident) : (s.putIncident k i).dram = s.dram := rfl
@[simp] theorem trn_putIncident (s : State) (k : Nat) (i : Incident) : (s.putIncident k i).trn = s.trn := rfl
@[simp] theorem cln_putIncident (s : State) (k : Nat) (i : Incident) : (s.putIncident k i).cln = s.cln := rfl
@[simp] theorem pkt_putIncident (s : State) (k : Nat) (i : Incident) : (s.putIncident k i).pkt = s.pkt := rfl
@[simp] theorem per_putIncident (s : State) (k : Nat) (i : Incident) : (s.putIncident k i).per = s.per := rfl
@[simp] theorem gln_putIncident (s : State) (k : Nat) (i : Incident) : (s.putIncident k i).gln = s.gln := rfl
@[simp] theorem sea_putIncident (s : State) (k : Nat) (i : Incident) : (s.putIncident k i).sea = s.sea := rfl
@[simp] theorem sav_putIncident (s : State) (k : Nat) (i : Incident) : (s.putIncident k i).sav = s.sav := rfl
@[simp] theorem pln_putIncident (s : State) (k : Nat) (i : Incident) : (s.putIncident k i).pln = s.pln := rfl
@[simp] theorem flash_putIncident (s : State) (k : Nat) (i : Incident) : (s.putIncident k i).flash = s.flash := rfl
@[simp] theorem flo_putIncident (s : State) (k : Nat) (i : Incident) : (s.putIncident k i).flo = s.flo := rfl
@[simp] theorem fce_putIncident (s : State) (k : Nat) (i : Incident) : (s.putIncident k i).fce = s.fce := rfl
@[simp] theorem bdc_putIncident (s : State) (k : Nat) (i : Incident) : (s.putIncident k i).bdc = s.bdc := rfl
@[simp] theorem clk_putIncident (s : State) (k : Nat) (i : Incident) : (s.putIncident k i).clk = s.clk := rfl
@[simp] theorem sb_putIncident (s : State) (k : Nat) (i : Incident) : (s.putIncident k i).sb = s.sb := rfl
@[simp] theorem tap_putIncident (s : State) (k : Nat) (i : Incident) : (s.putIncident k i).tap = s.tap := rfl
@[simp] theorem sram_putIncident (s : State) (k : Nat) (i : Incident) : (s.putIncident k i).sram = s.sram := rfl
@[simp] theorem regs_putIncident (s : State) (k : Nat) (i : Incident) : (s.putIncident k i).regs = s.regs := rfl
@[simp] theorem tick_putIncident (s : State) (k : Nat) (i : Incident) : (s.putIncident k i).tick = s.tick := rfl
@[simp] theorem evr_putIncident (s : State) (k : Nat) (i : Incident) : (s.putIncident k i).evr = s.evr := rfl
@[simp] theorem kite_putIncident (s : State) (k : Nat) (i : Incident) : (s.putIncident k i).kite = s.kite := rfl
@[simp] theorem pwr_putIncident (s : State) (k : Nat) (i : Incident) : (s.putIncident k i).pwr = s.pwr := rfl
@[simp] theorem nv_putIncident (s : State) (k : Nat) (i : Incident) : (s.putIncident k i).nv = s.nv := rfl
@[simp] theorem pending_putIncident (s : State) (k : Nat) (i : Incident) : (s.putIncident k i).pending = s.pending := rfl

@[simp] theorem sys_raiseRail (s : State) (r : Nat) : (s.raiseRail r).sys = s.sys := rfl
@[simp] theorem hbp_raiseRail (s : State) (r : Nat) : (s.raiseRail r).hbp = s.hbp := rfl
@[simp] theorem dram_raiseRail (s : State) (r : Nat) : (s.raiseRail r).dram = s.dram := rfl
@[simp] theorem trn_raiseRail (s : State) (r : Nat) : (s.raiseRail r).trn = s.trn := rfl
@[simp] theorem cln_raiseRail (s : State) (r : Nat) : (s.raiseRail r).cln = s.cln := rfl
@[simp] theorem pkt_raiseRail (s : State) (r : Nat) : (s.raiseRail r).pkt = s.pkt := rfl
@[simp] theorem per_raiseRail (s : State) (r : Nat) : (s.raiseRail r).per = s.per := rfl
@[simp] theorem gln_raiseRail (s : State) (r : Nat) : (s.raiseRail r).gln = s.gln := rfl
@[simp] theorem sea_raiseRail (s : State) (r : Nat) : (s.raiseRail r).sea = s.sea := rfl
@[simp] theorem sav_raiseRail (s : State) (r : Nat) : (s.raiseRail r).sav = s.sav := rfl
@[simp] theorem pln_raiseRail (s : State) (r : Nat) : (s.raiseRail r).pln = s.pln := rfl
@[simp] theorem flash_raiseRail (s : State) (r : Nat) : (s.raiseRail r).flash = s.flash := rfl
@[simp] theorem flo_raiseRail (s : State) (r : Nat) : (s.raiseRail r).flo = s.flo := rfl
@[simp] theorem fce_raiseRail (s : State) (r : Nat) : (s.raiseRail r).fce = s.fce := rfl
@[simp] theorem bdc_raiseRail (s : State) (r : Nat) : (s.raiseRail r).bdc = s.bdc := rfl
@[simp] theorem clk_raiseRail (s : State) (r : Nat) : (s.raiseRail r).clk = s.clk := rfl
@[simp] theorem sb_raiseRail (s : State) (r : Nat) : (s.raiseRail r).sb = s.sb := rfl
@[simp] theorem tap_raiseRail (s : State) (r : Nat) : (s.raiseRail r).tap = s.tap := rfl
@[simp] theorem sram_raiseRail (s : State) (r : Nat) : (s.raiseRail r).sram = s.sram := rfl
@[simp] theorem regs_raiseRail (s : State) (r : Nat) : (s.raiseRail r).regs = s.regs := rfl
@[simp] theorem tick_raiseRail (s : State) (r : Nat) : (s.raiseRail r).tick = s.tick := rfl
@[simp] theorem evr_raiseRail (s : State) (r : Nat) : (s.raiseRail r).evr = s.evr := rfl
@[simp] theorem flt_raiseRail (s : State) (r : Nat) : (s.raiseRail r).flt = s.flt := rfl
@[simp] theorem kite_raiseRail (s : State) (r : Nat) : (s.raiseRail r).kite = s.kite := rfl
@[simp] theorem nv_raiseRail (s : State) (r : Nat) : (s.raiseRail r).nv = s.nv := rfl
@[simp] theorem pending_raiseRail (s : State) (r : Nat) : (s.raiseRail r).pending = s.pending := rfl

@[simp] theorem sys_sbStep (s : State) : s.sbStep.sys = s.sys := rfl
@[simp] theorem hbp_sbStep (s : State) : s.sbStep.hbp = s.hbp := rfl
@[simp] theorem dram_sbStep (s : State) : s.sbStep.dram = s.dram := rfl
@[simp] theorem trn_sbStep (s : State) : s.sbStep.trn = s.trn := rfl
@[simp] theorem cln_sbStep (s : State) : s.sbStep.cln = s.cln := rfl
@[simp] theorem pkt_sbStep (s : State) : s.sbStep.pkt = s.pkt := rfl
@[simp] theorem per_sbStep (s : State) : s.sbStep.per = s.per := rfl
@[simp] theorem gln_sbStep (s : State) : s.sbStep.gln = s.gln := rfl
@[simp] theorem sea_sbStep (s : State) : s.sbStep.sea = s.sea := rfl
@[simp] theorem sav_sbStep (s : State) : s.sbStep.sav = s.sav := rfl
@[simp] theorem pln_sbStep (s : State) : s.sbStep.pln = s.pln := rfl
@[simp] theorem flash_sbStep (s : State) : s.sbStep.flash = s.flash := rfl
@[simp] theorem flo_sbStep (s : State) : s.sbStep.flo = s.flo := rfl
@[simp] theorem fce_sbStep (s : State) : s.sbStep.fce = s.fce := rfl
@[simp] theorem bdc_sbStep (s : State) : s.sbStep.bdc = s.bdc := rfl
@[simp] theorem clk_sbStep (s : State) : s.sbStep.clk = s.clk := rfl
@[simp] theorem tap_sbStep (s : State) : s.sbStep.tap = s.tap := rfl
@[simp] theorem sram_sbStep (s : State) : s.sbStep.sram = s.sram := rfl
@[simp] theorem regs_sbStep (s : State) : s.sbStep.regs = s.regs := rfl
@[simp] theorem tick_sbStep (s : State) : s.sbStep.tick = s.tick := rfl
@[simp] theorem evr_sbStep (s : State) : s.sbStep.evr = s.evr := rfl
@[simp] theorem flt_sbStep (s : State) : s.sbStep.flt = s.flt := rfl
@[simp] theorem kite_sbStep (s : State) : s.sbStep.kite = s.kite := rfl
@[simp] theorem pwr_sbStep (s : State) : s.sbStep.pwr = s.pwr := rfl
@[simp] theorem nv_sbStep (s : State) : s.sbStep.nv = s.nv := rfl
@[simp] theorem pending_sbStep (s : State) : s.sbStep.pending = s.pending := rfl

@[simp] theorem sys_sbEnd (s : State) (ack : Bool) (out : List Byte) : (s.sbEnd ack out).sys = s.sys := rfl
@[simp] theorem hbp_sbEnd (s : State) (ack : Bool) (out : List Byte) : (s.sbEnd ack out).hbp = s.hbp := rfl
@[simp] theorem dram_sbEnd (s : State) (ack : Bool) (out : List Byte) : (s.sbEnd ack out).dram = s.dram := rfl
@[simp] theorem trn_sbEnd (s : State) (ack : Bool) (out : List Byte) : (s.sbEnd ack out).trn = s.trn := rfl
@[simp] theorem cln_sbEnd (s : State) (ack : Bool) (out : List Byte) : (s.sbEnd ack out).cln = s.cln := rfl
@[simp] theorem pkt_sbEnd (s : State) (ack : Bool) (out : List Byte) : (s.sbEnd ack out).pkt = s.pkt := rfl
@[simp] theorem per_sbEnd (s : State) (ack : Bool) (out : List Byte) : (s.sbEnd ack out).per = s.per := rfl
@[simp] theorem gln_sbEnd (s : State) (ack : Bool) (out : List Byte) : (s.sbEnd ack out).gln = s.gln := rfl
@[simp] theorem sea_sbEnd (s : State) (ack : Bool) (out : List Byte) : (s.sbEnd ack out).sea = s.sea := rfl
@[simp] theorem sav_sbEnd (s : State) (ack : Bool) (out : List Byte) : (s.sbEnd ack out).sav = s.sav := rfl
@[simp] theorem pln_sbEnd (s : State) (ack : Bool) (out : List Byte) : (s.sbEnd ack out).pln = s.pln := rfl
@[simp] theorem flash_sbEnd (s : State) (ack : Bool) (out : List Byte) : (s.sbEnd ack out).flash = s.flash := rfl
@[simp] theorem flo_sbEnd (s : State) (ack : Bool) (out : List Byte) : (s.sbEnd ack out).flo = s.flo := rfl
@[simp] theorem fce_sbEnd (s : State) (ack : Bool) (out : List Byte) : (s.sbEnd ack out).fce = s.fce := rfl
@[simp] theorem bdc_sbEnd (s : State) (ack : Bool) (out : List Byte) : (s.sbEnd ack out).bdc = s.bdc := rfl
@[simp] theorem clk_sbEnd (s : State) (ack : Bool) (out : List Byte) : (s.sbEnd ack out).clk = s.clk := rfl
@[simp] theorem tap_sbEnd (s : State) (ack : Bool) (out : List Byte) : (s.sbEnd ack out).tap = s.tap := rfl
@[simp] theorem sram_sbEnd (s : State) (ack : Bool) (out : List Byte) : (s.sbEnd ack out).sram = s.sram := rfl
@[simp] theorem regs_sbEnd (s : State) (ack : Bool) (out : List Byte) : (s.sbEnd ack out).regs = s.regs := rfl
@[simp] theorem tick_sbEnd (s : State) (ack : Bool) (out : List Byte) : (s.sbEnd ack out).tick = s.tick := rfl
@[simp] theorem evr_sbEnd (s : State) (ack : Bool) (out : List Byte) : (s.sbEnd ack out).evr = s.evr := rfl
@[simp] theorem flt_sbEnd (s : State) (ack : Bool) (out : List Byte) : (s.sbEnd ack out).flt = s.flt := rfl
@[simp] theorem kite_sbEnd (s : State) (ack : Bool) (out : List Byte) : (s.sbEnd ack out).kite = s.kite := rfl
@[simp] theorem pwr_sbEnd (s : State) (ack : Bool) (out : List Byte) : (s.sbEnd ack out).pwr = s.pwr := rfl
@[simp] theorem nv_sbEnd (s : State) (ack : Bool) (out : List Byte) : (s.sbEnd ack out).nv = s.nv := rfl
@[simp] theorem pending_sbEnd (s : State) (ack : Bool) (out : List Byte) : (s.sbEnd ack out).pending = s.pending := rfl

/-! What the named places read as after their update. -/

@[simp] theorem sheaf_putSheaf_same (s : State) (a : Nat) (v : Sheaf) : (s.putSheaf a v).sheaf a = some v := smapFind_put_same _ _ _
theorem sheaf_putSheaf_ne (s : State) {a b : Nat} (v : Sheaf) (h : b ≠ a) : (s.putSheaf a v).sheaf b = s.sheaf b := smapFind_put_ne _ _ h
@[simp] theorem usedOf_setUsed (s : State) (n m k : Nat) : (s.setUsed n k).usedOf m = if m = n then k else s.usedOf m := smapGet_set _ _ _ _ _
@[simp] theorem line_setLine (s : State) (a b : Nat) (v : LineData × CheckBytes) : (s.setLine a v).line b = if maLine b = maLine a then v else s.line b := smapGet_set _ _ _ _ _
@[simp] theorem beatsOf_beatsOn (s : State) (x y : Sys2Proof.Sub) : (s.beatsOn x).beatsOf y = if subNum y = subNum x then s.beatsOf x + 16 else s.beatsOf y := by
  show smapGet (fun _ => 0) (smapSet (fun _ => 0) s.trn.beats (subNum x) (s.beatsOf x + 16)) (subNum y) = _
  rw [smapGet_set]
  rfl
@[simp] theorem matchedOf_setMatched (s : State) (x y : Sys2Proof.Sub) (m : BitVec 40) :
    (s.setMatched x m).matchedOf y = if subNum y = subNum x then m else s.matchedOf y := smapGet_set _ _ _ _ _

/-- All that a write of SRAM lines can do: it changes `sram` alone. -/
theorem sramPut_sram (ls : List LineData) (s : State) (i : Nat) : ∃ m, s.sramPut i ls = { s with sram := m } := by
  induction ls generalizing s i with
  | nil => exact ⟨s.sram, rfl⟩
  | cons l ls ih => exact ih { s with sram := smapSet (fun _ => 0) s.sram i l } (i + 1)

end Sys2Proof.Laws
end

