-- ==== Sys2Proof/Laws/Frame.lean ====
section
/-! SUPPORT. How the frame relation OnlyFields composes over the register operations, and what the gate of the host port answers. -/

namespace Sys2Proof.Laws

open Sys2Proof.Machine Reg

theorem onlyFields_refl (fs : List Fld) (s : State) : OnlyFields fs s s := ⟨rfl, fun _ _ _ => rfl⟩

theorem onlyFields_setFld {fs : List Fld} {s t : State} (h : OnlyFields fs s t) {f : Fld} (v : Nat) (hf : f ∈ fs) :
    OnlyFields fs s (t.setFld f v) := by
  obtain ⟨h1, h2⟩ := h
  refine ⟨?_, fun a i hi => ?_⟩
  · have : t.setFld f v = { t with regs := (t.setFld f v).regs } := rfl
    rw [this, h1]
  · rw [word_setFld]
    split
    · rename_i ha
      rw [fldIns_getLsbD, if_neg, ← ha]
      · exact h2 a i hi
      · exact fun hr => hi f hf ⟨ha.symm, hr⟩
    · exact h2 a i hi

theorem onlyFields_setFlag {fs : List Fld} {s t : State} (h : OnlyFields fs s t) {f : Fld} (b : Bool) (hf : f ∈ fs) :
    OnlyFields fs s (t.setFlag f b) := onlyFields_setFld h _ hf

theorem onlyFields_bump {fs : List Fld} {s t : State} (h : OnlyFields fs s t) {f : Fld} (n : Nat) (hf : f ∈ fs) :
    OnlyFields fs s (t.bump f n) := onlyFields_setFld h _ hf

theorem onlyFields_wrap {fs : List Fld} {s t : State} (h : OnlyFields fs s t) {f : Fld} (n : Nat) (hf : f ∈ fs) :
    OnlyFields fs s (t.wrap f n) := onlyFields_setFld h _ hf

theorem onlyFields_setBit {fs : List Fld} {s t : State} (h : OnlyFields fs s t) {f : Fld} (i : Nat) (b : Bool) (hf : f ∈ fs) :
    OnlyFields fs s (t.setBit f i b) := by
  unfold State.setBit
  dsimp only
  split
  · exact h
  · split <;> exact onlyFields_setFld h _ hf

/-- A change of the other components on both sides. -/
theorem onlyFields_emit {fs : List Fld} {s t : State} (h : OnlyFields fs s t) (v : Sev) (c r : Nat) (p : List Byte) :
    OnlyFields fs (s.emit v c r p) (t.emit v c r p) := by
  obtain ⟨h1, h2⟩ := h
  refine ⟨?_, h2⟩
  rw [h1]; rfl

theorem onlyFields_note {fs : List Fld} {s t : State} (h : OnlyFields fs s t) (c r : Nat) (p : List Byte) :
    OnlyFields fs (s.note c r p) (t.note c r p) := onlyFields_emit h _ c r p

theorem onlyFields_report {fs : List Fld} {s t : State} (h : OnlyFields fs s t) (k : FaultKind) (r q w : Nat) :
    OnlyFields fs (s.report k r q w) (t.report k r q w) := by
  obtain ⟨h1, h2⟩ := h
  refine ⟨?_, h2⟩
  rw [h1]; rfl

/-- A command answers what its meaning gives. -/
theorem answers_of {i : Instr} {s t : State} {P : State → Prop} (h : exec i s = .next t) (p : P t) : Answers i s P := ⟨t, h, p⟩

/-- The CA input is live where PLL_H is locked, does not coast and no discontinuity lasts. -/
theorem caLive_of {s : State} (h1 : s.flag CLK_STS_H_LOCK = true) (h2 : s.flag CLK_STS_COAST = false)
    (h3 : s.flag CLK_STS_DISCONT = false) : s.caLive = true := by
  simp [State.caLive, h1, h2, h3]

theorem inMode_four {s : State} (h : CwMode s) : s.inMode [.off, .powerUp, .save, .shutDown] = false := by
  obtain ⟨h1, h2, h3, h4, -⟩ := h
  simp [State.inMode, h1, h2, h3, h4]

/-- The parity check of a command that shows no error. -/
theorem parity_none {s : State} {c : CaCmd} (h : s.parityChecked = false ∨ firstBadUi c.uis = none) :
    (if s.parityChecked = true then firstBadUi c.uis else none) = none := by
  rcases h with h | h <;> simp [h]

/-- What the gate answers a control-word write that is taken. -/
theorem hostGate_cw {s : State} {c : CaCmd} {e v : Bool} (h : CwOpen s c) : s.hostGate c true e false v = (s, true) := by
  obtain ⟨hm, ⟨h1, h2, h3, hp, hb⟩, hd⟩ := h
  simp [State.hostGate, inMode_four hm, hm.2.2.2.2, caLive_of h1 h2 h3, parity_none hp, hb, hd]

/-- What the gate answers a host command in service: it goes on, and the mark of R25 ends. -/
theorem hostGate_open {s : State} {c : CaCmd} {v : Bool} (h : HostOpen s c) :
    s.hostGate c false false false v = ({ s with sys := { s.sys with keeperTraining := false } }, true) := by
  obtain ⟨hm, hr, ⟨h1, h2, h3, hp, hb⟩, -, hw⟩ := h
  have hc : CwMode s := by simp [CwMode, hm, hr]
  simp [State.hostGate, inMode_four hc, hr, caLive_of h1 h2 h3, parity_none hp, hb, State.earlyCommand, State.preHandover, hm, hw]

/-- What the gate answers a self-refresh exit in lull. -/
theorem hostGate_exit {s : State} {c : CaCmd} {v : Bool} (hm : s.sys.mode = .lull) (hr : s.sys.phase ≠ .restore) (h : CaOpen s c) :
    s.hostGate c false false true v = (s, true) := by
  obtain ⟨h1, h2, h3, hp, hb⟩ := h
  have hc : CwMode s := by simp [CwMode, hm, hr]
  simp [State.hostGate, inMode_four hc, hr, caLive_of h1 h2 h3, parity_none hp, hb]

/-- What the gate answers a command with a parity error: it is dropped. -/
theorem hostGate_parity {s : State} {c : CaCmd} {k : Nat} (hm : CwMode s) (h1 : s.flag CLK_STS_H_LOCK = true)
    (h2 : s.flag CLK_STS_COAST = false) (h3 : s.flag CLK_STS_DISCONT = false) (hp : s.parityChecked = true)
    (hk : firstBadUi c.uis = some k) (cw e x v : Bool) :
    s.hostGate c cw e x v = (s.parityError c k, false) := by
  simp [State.hostGate, inMode_four hm, hm.2.2.2.2, caLive_of h1 h2 h3, hp, hk]

/-- What the gate answers a command on a blocked sub-channel: it is dropped unless it ends the block. -/
theorem hostGate_blocked {s : State} {c : CaCmd} (hm : CwMode s) (h1 : s.flag CLK_STS_H_LOCK = true)
    (h2 : s.flag CLK_STS_COAST = false) (h3 : s.flag CLK_STS_DISCONT = false) (hk : firstBadUi c.uis = none)
    (hb : s.blocked c.sub = true) (cw x v : Bool) : s.hostGate c cw false x v = (s, false) := by
  simp [State.hostGate, inMode_four hm, hm.2.2.2.2, caLive_of h1 h2 h3, hk, hb]

/-- What the gate answers the control word that ends a block. -/
theorem hostGate_ends {s : State} {c : CaCmd} (hm : CwMode s) (h1 : s.flag CLK_STS_H_LOCK = true)
    (h2 : s.flag CLK_STS_COAST = false) (h3 : s.flag CLK_STS_DISCONT = false) (hk : firstBadUi c.uis = none)
    (hd : s.bdcHolds = false) (v : Bool) : s.hostGate c true true false v = (s, true) := by
  simp [State.hostGate, inMode_four hm, hm.2.2.2.2, caLive_of h1 h2 h3, hk, hd]

/-- What the gate answers any command in restore: it is dropped and logged. -/
theorem hostGate_restore {s : State} {c : CaCmd} {e : Bool} (hm : s.inMode [.off, .powerUp, .save, .shutDown] = false)
    (hr : s.sys.phase = .restore) (hl : s.caLive = true) (cw x v : Bool) :
    s.hostGate c cw x e v = (s.note 0x0051 (subSource c.sub) [], false) := by
  simp [State.hostGate, hm, hr, hl]

/-- A forwarded command runs on the stamped state. -/
theorem forward_open {s : State} {c : CaCmd} (h : HostOpen s c) (k : State → State) : s.forward c k = .next (k s.crossed) := by
  have ht := h.2.2.2.1
  simp only [State.forward, hostGate_open h]
  simp [ht, State.stampNext, State.crossed]

end Sys2Proof.Laws
end

