-- ==== Sys2Proof/Laws/KeepsCore.lean ====
section
/-! SUPPORT. What every operation keeps: the queue, the canonical form of the register bank and of the DRAM, the phase that belongs to attach alone, and that power-up is not entered again. -/

set_option linter.all false

namespace Sys2Proof.Laws

open Sys2Proof.Machine Reg

/-- The first state leads to the second without touching the queue, without entering power-up, and keeping the invariant. -/
structure Keeps (z t : State) : Prop where
  pending : t.pending = z.pending
  up : t.sys.mode = .powerUp → z.sys.mode = .powerUp
  inv : z.Inv → t.Inv

theorem keeps_refl (s : State) : Keeps s s := ⟨rfl, id, id⟩

theorem keeps_trans {z s t : State} (h : Keeps z s) (k : Keeps s t) : Keeps z t :=
  ⟨k.pending.trans h.pending, fun m => h.up (k.up m), fun m => k.inv (h.inv m)⟩

theorem keeps_same {z s t : State} (e1 : t.pending = s.pending) (e2 : t.sys.mode = s.sys.mode) (e3 : t.sys.phase = s.sys.phase)
    (e4 : t.regs = s.regs) (e5 : t.dram = s.dram) (h : Keeps z s) : Keeps z t :=
  keeps_trans h ⟨e1, fun m => e2 ▸ m, fun m => by
    obtain ⟨a, b, c⟩ := m
    exact ⟨e4 ▸ a, e5 ▸ b, by rw [e2, e3]; exact c⟩⟩

/-- A change of components that the relation does not speak of. -/
theorem keeps_lit {z : State} (s : State) {x_hbp x_trn x_cln x_pkt x_per x_gln x_sea x_sav x_pln x_flash x_flo x_fce x_bdc x_clk x_sb x_tap x_sram x_tick x_evr x_flt x_kite x_pwr x_nv} (h : Keeps z s) :
    Keeps z (State.mk s.sys x_hbp s.dram x_trn x_cln x_pkt x_per x_gln x_sea x_sav x_pln x_flash x_flo x_fce x_bdc x_clk x_sb x_tap x_sram s.regs x_tick x_evr x_flt x_kite x_pwr x_nv s.pending) := keeps_same (s := s) rfl rfl rfl rfl rfl h

/-- A change of what the mode rules remember, but for the mode and the phase. -/
theorem keeps_sys {z : State} (s : State) {x_hbp x_trn x_cln x_pkt x_per x_gln x_sea x_sav x_pln x_flash x_flo x_fce x_bdc x_clk x_sb x_tap x_sram x_tick x_evr x_flt x_kite x_pwr x_nv k r t a} (h : Keeps z s) :
    Keeps z (State.mk (Sys.mk s.sys.mode s.sys.phase k r t a) x_hbp s.dram x_trn x_cln x_pkt x_per x_gln x_sea x_sav x_pln x_flash x_flo x_fce x_bdc x_clk x_sb x_tap x_sram s.regs x_tick x_evr x_flt x_kite x_pwr x_nv s.pending) := keeps_same (s := s) rfl rfl rfl rfl rfl h

theorem keeps_foldl {α : Type} {z s : State} {f : State → α → State} {l : List α} (hf : ∀ u x, Keeps z u → Keeps z (f u x)) (h : Keeps z s) :
    Keeps z (l.foldl f s) := by
  induction l generalizing s with
  | nil => exact h
  | cons a t ih => exact ih (hf s a h)

theorem keeps_foldl_fst {α β : Type} {z : State} {f : State × β → α → State × β} {l : List α} {s : State × β}
    (hf : ∀ u x, Keeps z u.1 → Keeps z (f u x).1) (h : Keeps z s.1) : Keeps z (l.foldl f s).1 := by
  induction l generalizing s with
  | nil => exact h
  | cons a t ih => exact ih (hf s a h)

theorem keeps_foldl_snd {α β : Type} {z : State} {f : β × State → α → β × State} {l : List α} {s : β × State}
    (hf : ∀ u x, Keeps z u.2 → Keeps z (f u x).2) (h : Keeps z s.2) : Keeps z (l.foldl f s).2 := by
  induction l generalizing s with
  | nil => exact h
  | cons a t ih => exact ih (hf s a h)

/-- The same of what a meaning answers. -/
def KeepsO (z : State) (o : Host.Outcome State Fault Refusal) : Prop := ∀ t, o = .next t → Keeps z t

theorem keepsO_next {z t : State} (h : Keeps z t) : KeepsO z (.next t) := by
  intro u e; cases e; exact h

theorem keeps_ite {z s t : State} {p : Prop} [Decidable p] (h : p → Keeps z s) (k : ¬p → Keeps z t) : Keeps z (if p then s else t) := by
  split
  · exact h (by assumption)
  · exact k (by assumption)

theorem keeps_setWord {z s : State} (a : Nat) (w : Word) (h : Keeps z s) : Keeps z (s.setWord a w) :=
  keeps_trans h ⟨rfl, id, fun m => ⟨regsWf_setWord a w m.1, m.2.1, m.2.2⟩⟩

theorem keeps_setFld {z s : State} (f : Fld) (v : Nat) (hz : Keeps z s) :
    Keeps z (s.setFld f v) := by
  unfold State.setFld
  (try dsimp only)
  repeat' first
    | (with_reducible assumption)
    | (with_reducible (apply keeps_setWord))
    | (with_reducible (refine keeps_foldl (fun u x hu => ?_) ?_))
    | (with_reducible (refine keeps_foldl_fst (fun u x hu => ?_) ?_))
    | (with_reducible (refine keeps_foldl_snd (fun u x hu => ?_) ?_))
    | split
    | fail_if_no_progress (with_reducible (apply keeps_lit))
    | fail_if_no_progress (with_reducible (apply keeps_sys))

theorem keeps_setFlag {z s : State} (f : Fld) (b : Bool) (hz : Keeps z s) :
    Keeps z (s.setFlag f b) := by
  unfold State.setFlag
  (try dsimp only)
  repeat' first
    | (with_reducible assumption)
    | (with_reducible (apply keeps_setFld))
    | (with_reducible (refine keeps_foldl (fun u x hu => ?_) ?_))
    | (with_reducible (refine keeps_foldl_fst (fun u x hu => ?_) ?_))
    | (with_reducible (refine keeps_foldl_snd (fun u x hu => ?_) ?_))
    | split
    | fail_if_no_progress (with_reducible (apply keeps_lit))
    | fail_if_no_progress (with_reducible (apply keeps_sys))

theorem keeps_bump {z s : State} (f : Fld) (n : Nat) (hz : Keeps z s) :
    Keeps z (s.bump f n) := by
  unfold State.bump
  (try dsimp only)
  repeat' first
    | (with_reducible assumption)
    | (with_reducible (apply keeps_setFld))
    | (with_reducible (refine keeps_foldl (fun u x hu => ?_) ?_))
    | (with_reducible (refine keeps_foldl_fst (fun u x hu => ?_) ?_))
    | (with_reducible (refine keeps_foldl_snd (fun u x hu => ?_) ?_))
    | split
    | fail_if_no_progress (with_reducible (apply keeps_lit))
    | fail_if_no_progress (with_reducible (apply keeps_sys))

theorem keeps_wrap {z s : State} (f : Fld) (n : Nat) (hz : Keeps z s) :
    Keeps z (s.wrap f n) := by
  unfold State.wrap
  (try dsimp only)
  repeat' first
    | (with_reducible assumption)
    | (with_reducible (apply keeps_setFld))
    | (with_reducible (refine keeps_foldl (fun u x hu => ?_) ?_))
    | (with_reducible (refine keeps_foldl_fst (fun u x hu => ?_) ?_))
    | (with_reducible (refine keeps_foldl_snd (fun u x hu => ?_) ?_))
    | split
    | fail_if_no_progress (with_reducible (apply keeps_lit))
    | fail_if_no_progress (with_reducible (apply keeps_sys))

theorem keeps_setBit {z s : State} (f : Fld) (i : Nat) (b : Bool) (hz : Keeps z s) :
    Keeps z (s.setBit f i b) := by
  unfold State.setBit
  (try dsimp only)
  repeat' first
    | (with_reducible assumption)
    | (with_reducible (apply keeps_setFld))
    | (with_reducible (refine keeps_foldl (fun u x hu => ?_) ?_))
    | (with_reducible (refine keeps_foldl_fst (fun u x hu => ?_) ?_))
    | (with_reducible (refine keeps_foldl_snd (fun u x hu => ?_) ?_))
    | split
    | fail_if_no_progress (with_reducible (apply keeps_lit))
    | fail_if_no_progress (with_reducible (apply keeps_sys))

theorem keeps_setBytes {z s : State} (a : Nat) (bs : List Byte) (n : Nat) (h : Keeps z s) : Keeps z (s.setBytes a bs n) := by
  induction n generalizing s a bs with
  | zero => exact h
  | succ n ih => exact ih _ _ (keeps_setWord _ _ h)

theorem keeps_emitTagged {z s : State} (sev : Sev) (inj : Bool) (code src : Nat) (payload : List Byte) (hz : Keeps z s) :
    Keeps z (s.emitTagged sev inj code src payload) := by
  unfold State.emitTagged
  (try dsimp only)
  repeat' first
    | (with_reducible assumption)
    | (with_reducible (refine keeps_foldl (fun u x hu => ?_) ?_))
    | (with_reducible (refine keeps_foldl_fst (fun u x hu => ?_) ?_))
    | (with_reducible (refine keeps_foldl_snd (fun u x hu => ?_) ?_))
    | split
    | fail_if_no_progress (with_reducible (apply keeps_lit))
    | fail_if_no_progress (with_reducible (apply keeps_sys))

theorem keeps_emit {z s : State} (sev : Sev) (code src : Nat) (payload : List Byte) (hz : Keeps z s) :
    Keeps z (s.emit sev code src payload) := by
  unfold State.emit
  (try dsimp only)
  repeat' first
    | (with_reducible assumption)
    | (with_reducible (apply keeps_emitTagged))
    | (with_reducible (refine keeps_foldl (fun u x hu => ?_) ?_))
    | (with_reducible (refine keeps_foldl_fst (fun u x hu => ?_) ?_))
    | (with_reducible (refine keeps_foldl_snd (fun u x hu => ?_) ?_))
    | split
    | fail_if_no_progress (with_reducible (apply keeps_lit))
    | fail_if_no_progress (with_reducible (apply keeps_sys))

theorem keeps_note {z s : State} (code src : Nat) (payload : List Byte) (hz : Keeps z s) :
    Keeps z (s.note code src payload) := by
  unfold State.note
  (try dsimp only)
  repeat' first
    | (with_reducible assumption)
    | (with_reducible (apply keeps_emit))
    | (with_reducible (refine keeps_foldl (fun u x hu => ?_) ?_))
    | (with_reducible (refine keeps_foldl_fst (fun u x hu => ?_) ?_))
    | (with_reducible (refine keeps_foldl_snd (fun u x hu => ?_) ?_))
    | split
    | fail_if_no_progress (with_reducible (apply keeps_lit))
    | fail_if_no_progress (with_reducible (apply keeps_sys))

theorem keeps_reportSev {z s : State} (sev : Sev) (k : FaultKind) (src qual follow : Nat) (hz : Keeps z s) :
    Keeps z (s.reportSev sev k src qual follow) := by
  unfold State.reportSev
  (try dsimp only)
  repeat' first
    | (with_reducible assumption)
    | (with_reducible (refine keeps_foldl (fun u x hu => ?_) ?_))
    | (with_reducible (refine keeps_foldl_fst (fun u x hu => ?_) ?_))
    | (with_reducible (refine keeps_foldl_snd (fun u x hu => ?_) ?_))
    | split
    | fail_if_no_progress (with_reducible (apply keeps_lit))
    | fail_if_no_progress (with_reducible (apply keeps_sys))

theorem keeps_report {z s : State} (k : FaultKind) (src qual follow : Nat) (hz : Keeps z s) :
    Keeps z (s.report k src qual follow) := by
  unfold State.report
  (try dsimp only)
  repeat' first
    | (with_reducible assumption)
    | (with_reducible (apply keeps_reportSev))
    | (with_reducible (refine keeps_foldl (fun u x hu => ?_) ?_))
    | (with_reducible (refine keeps_foldl_fst (fun u x hu => ?_) ?_))
    | (with_reducible (refine keeps_foldl_snd (fun u x hu => ?_) ?_))
    | split
    | fail_if_no_progress (with_reducible (apply keeps_lit))
    | fail_if_no_progress (with_reducible (apply keeps_sys))

theorem keeps_enterMode {z s : State} (m : Mode) (hm : m ≠ .powerUp) (h : Keeps z s) : Keeps z (s.enterMode m) :=
  keeps_note _ _ _ (keeps_setFld _ _ (keeps_trans h ⟨rfl, fun e => absurd e hm, fun i => ⟨i.1, i.2.1, Or.inl rfl⟩⟩))

theorem keeps_setMode {z s : State} (m : Mode) (hm : m ≠ .powerUp) (h : Keeps z s) : Keeps z (s.setMode m) := by
  unfold State.setMode
  split
  · exact h
  · exact keeps_enterMode _ hm h

theorem keeps_setPhase {z s : State} (p : Phase) (h : Keeps z s) : Keeps z (s.setPhase p) := by
  unfold State.setPhase
  split
  · exact keeps_trans h ⟨rfl, id, fun i => ⟨i.1, i.2.1, Or.inr (by assumption)⟩⟩
  · exact h

theorem keeps_setRailGood {z s : State} (r : Nat) (b : Bool) (hz : Keeps z s) :
    Keeps z (s.setRailGood r b) := by
  unfold State.setRailGood
  (try dsimp only)
  repeat' first
    | (with_reducible assumption)
    | (with_reducible (apply keeps_setBit))
    | (with_reducible (refine keeps_foldl (fun u x hu => ?_) ?_))
    | (with_reducible (refine keeps_foldl_fst (fun u x hu => ?_) ?_))
    | (with_reducible (refine keeps_foldl_snd (fun u x hu => ?_) ?_))
    | split
    | fail_if_no_progress (with_reducible (apply keeps_lit))
    | fail_if_no_progress (with_reducible (apply keeps_sys))

theorem keeps_setRailFail {z s : State} (r : Nat) (hz : Keeps z s) :
    Keeps z (s.setRailFail r) := by
  unfold State.setRailFail
  (try dsimp only)
  repeat' first
    | (with_reducible assumption)
    | (with_reducible (apply keeps_setBit))
    | (with_reducible (refine keeps_foldl (fun u x hu => ?_) ?_))
    | (with_reducible (refine keeps_foldl_fst (fun u x hu => ?_) ?_))
    | (with_reducible (refine keeps_foldl_snd (fun u x hu => ?_) ?_))
    | split
    | fail_if_no_progress (with_reducible (apply keeps_lit))
    | fail_if_no_progress (with_reducible (apply keeps_sys))

theorem keeps_raiseStage {z s : State} (st : Nat) (hz : Keeps z s) :
    Keeps z (s.raiseStage st) := by
  unfold State.raiseStage
  (try dsimp only)
  repeat' first
    | (with_reducible assumption)
    | (with_reducible (apply keeps_setFld))
    | (with_reducible (refine keeps_foldl (fun u x hu => ?_) ?_))
    | (with_reducible (refine keeps_foldl_fst (fun u x hu => ?_) ?_))
    | (with_reducible (refine keeps_foldl_snd (fun u x hu => ?_) ?_))
    | split
    | fail_if_no_progress (with_reducible (apply keeps_lit))
    | fail_if_no_progress (with_reducible (apply keeps_sys))

theorem keeps_lowerStage {z s : State} (st : Nat) (hz : Keeps z s) :
    Keeps z (s.lowerStage st) := by
  unfold State.lowerStage
  (try dsimp only)
  repeat' first
    | (with_reducible assumption)
    | (with_reducible (apply keeps_setRailGood))
    | (with_reducible (apply keeps_setFld))
    | (with_reducible (refine keeps_foldl (fun u x hu => ?_) ?_))
    | (with_reducible (refine keeps_foldl_fst (fun u x hu => ?_) ?_))
    | (with_reducible (refine keeps_foldl_snd (fun u x hu => ?_) ?_))
    | split
    | fail_if_no_progress (with_reducible (apply keeps_lit))
    | fail_if_no_progress (with_reducible (apply keeps_sys))

theorem keeps_dropRail {z s : State} (r : Nat) (hz : Keeps z s) :
    Keeps z (s.dropRail r) := by
  unfold State.dropRail
  (try dsimp only)
  repeat' first
    | (with_reducible assumption)
    | (with_reducible (apply keeps_setRailGood))
    | (with_reducible (refine keeps_foldl (fun u x hu => ?_) ?_))
    | (with_reducible (refine keeps_foldl_fst (fun u x hu => ?_) ?_))
    | (with_reducible (refine keeps_foldl_snd (fun u x hu => ?_) ?_))
    | split
    | fail_if_no_progress (with_reducible (apply keeps_lit))
    | fail_if_no_progress (with_reducible (apply keeps_sys))

theorem keeps_raiseRail {z s : State} (r : Nat) (hz : Keeps z s) :
    Keeps z (s.raiseRail r) := by
  unfold State.raiseRail
  (try dsimp only)
  repeat' first
    | (with_reducible assumption)
    | (with_reducible (refine keeps_foldl (fun u x hu => ?_) ?_))
    | (with_reducible (refine keeps_foldl_fst (fun u x hu => ?_) ?_))
    | (with_reducible (refine keeps_foldl_snd (fun u x hu => ?_) ?_))
    | split
    | fail_if_no_progress (with_reducible (apply keeps_lit))
    | fail_if_no_progress (with_reducible (apply keeps_sys))

theorem keeps_switchToB {z s : State}  (hz : Keeps z s) :
    Keeps z (s.switchToB ) := by
  unfold State.switchToB
  (try dsimp only)
  repeat' first
    | (with_reducible assumption)
    | (with_reducible (apply keeps_setFlag))
    | (with_reducible (refine keeps_foldl (fun u x hu => ?_) ?_))
    | (with_reducible (refine keeps_foldl_fst (fun u x hu => ?_) ?_))
    | (with_reducible (refine keeps_foldl_snd (fun u x hu => ?_) ?_))
    | split
    | fail_if_no_progress (with_reducible (apply keeps_lit))
    | fail_if_no_progress (with_reducible (apply keeps_sys))

theorem keeps_gateBOn {z s : State}  (hz : Keeps z s) :
    Keeps z (s.gateBOn ) := by
  unfold State.gateBOn
  (try dsimp only)
  repeat' first
    | (with_reducible assumption)
    | (with_reducible (apply keeps_setFlag))
    | (with_reducible (refine keeps_foldl (fun u x hu => ?_) ?_))
    | (with_reducible (refine keeps_foldl_fst (fun u x hu => ?_) ?_))
    | (with_reducible (refine keeps_foldl_snd (fun u x hu => ?_) ?_))
    | split
    | fail_if_no_progress (with_reducible (apply keeps_lit))
    | fail_if_no_progress (with_reducible (apply keeps_sys))

theorem keeps_feedBIn {z s : State}  (hz : Keeps z s) :
    Keeps z (s.feedBIn ) := by
  unfold State.feedBIn
  (try dsimp only)
  repeat' first
    | (with_reducible assumption)
    | (with_reducible (apply keeps_gateBOn))
    | (with_reducible (apply keeps_setFlag))
    | (with_reducible (refine keeps_foldl (fun u x hu => ?_) ?_))
    | (with_reducible (refine keeps_foldl_fst (fun u x hu => ?_) ?_))
    | (with_reducible (refine keeps_foldl_snd (fun u x hu => ?_) ?_))
    | split
    | fail_if_no_progress (with_reducible (apply keeps_lit))
    | fail_if_no_progress (with_reducible (apply keeps_sys))

theorem keeps_setWords {z s : State} (a : Nat) (ws : List Word) (h : Keeps z s) : Keeps z (s.setWords a ws) := by
  induction ws generalizing s a with
  | nil => exact h
  | cons w ws ih => exact ih _ (keeps_setWord _ _ h)

theorem keeps_loadPtab {z s : State}  (hz : Keeps z s) :
    Keeps z (s.loadPtab ) := by
  unfold State.loadPtab
  (try dsimp only)
  repeat' first
    | (with_reducible assumption)
    | (with_reducible (apply keeps_setWords))
    | (with_reducible (apply keeps_setFld))
    | (with_reducible (refine keeps_foldl (fun u x hu => ?_) ?_))
    | (with_reducible (refine keeps_foldl_fst (fun u x hu => ?_) ?_))
    | (with_reducible (refine keeps_foldl_snd (fun u x hu => ?_) ?_))
    | split
    | fail_if_no_progress (with_reducible (apply keeps_lit))
    | fail_if_no_progress (with_reducible (apply keeps_sys))

theorem keeps_mbBatch {z s : State}  (hz : Keeps z s) :
    Keeps z (s.mbBatch ) := by
  unfold State.mbBatch
  (try dsimp only)
  repeat' first
    | (with_reducible assumption)
    | (with_reducible (refine keeps_foldl (fun u x hu => ?_) ?_))
    | (with_reducible (refine keeps_foldl_fst (fun u x hu => ?_) ?_))
    | (with_reducible (refine keeps_foldl_snd (fun u x hu => ?_) ?_))
    | split
    | fail_if_no_progress (with_reducible (apply keeps_lit))
    | fail_if_no_progress (with_reducible (apply keeps_sys))

theorem keeps_lastLog {z s : State} (cause : Nat) (sev : Sev) (src : Nat) (hz : Keeps z s) :
    Keeps z (s.lastLog cause sev src) := by
  unfold State.lastLog
  (try dsimp only)
  repeat' first
    | (with_reducible assumption)
    | (with_reducible (apply keeps_wrap))
    | (with_reducible (apply keeps_bump))
    | (with_reducible (apply keeps_setFlag))
    | (with_reducible (apply keeps_setFld))
    | (with_reducible (refine keeps_foldl (fun u x hu => ?_) ?_))
    | (with_reducible (refine keeps_foldl_fst (fun u x hu => ?_) ?_))
    | (with_reducible (refine keeps_foldl_snd (fun u x hu => ?_) ?_))
    | split
    | fail_if_no_progress (with_reducible (apply keeps_lit))
    | fail_if_no_progress (with_reducible (apply keeps_sys))

theorem keeps_storeEnergy {z s : State} (v0 : Nat) (hz : Keeps z s) :
    Keeps z (s.storeEnergy v0) := by
  unfold State.storeEnergy
  (try dsimp only)
  repeat' first
    | (with_reducible assumption)
    | (with_reducible (apply keeps_setFlag))
    | (with_reducible (apply keeps_setFld))
    | (with_reducible (refine keeps_foldl (fun u x hu => ?_) ?_))
    | (with_reducible (refine keeps_foldl_fst (fun u x hu => ?_) ?_))
    | (with_reducible (refine keeps_foldl_snd (fun u x hu => ?_) ?_))
    | split
    | fail_if_no_progress (with_reducible (apply keeps_lit))
    | fail_if_no_progress (with_reducible (apply keeps_sys))

theorem keeps_packTestFail {z s : State} (reason : Nat) (hz : Keeps z s) :
    Keeps z (s.packTestFail reason) := by
  unfold State.packTestFail
  (try dsimp only)
  repeat' first
    | (with_reducible assumption)
    | (with_reducible (apply keeps_report))
    | (with_reducible (apply keeps_setFlag))
    | (with_reducible (apply keeps_setFld))
    | (with_reducible (refine keeps_foldl (fun u x hu => ?_) ?_))
    | (with_reducible (refine keeps_foldl_fst (fun u x hu => ?_) ?_))
    | (with_reducible (refine keeps_foldl_snd (fun u x hu => ?_) ?_))
    | split
    | fail_if_no_progress (with_reducible (apply keeps_lit))
    | fail_if_no_progress (with_reducible (apply keeps_sys))

theorem keeps_clearCValid {z s : State}  (hz : Keeps z s) :
    Keeps z (s.clearCValid ) := by
  unfold State.clearCValid
  (try dsimp only)
  repeat' first
    | (with_reducible assumption)
    | (with_reducible (apply keeps_setFlag))
    | (with_reducible (apply keeps_setFld))
    | (with_reducible (refine keeps_foldl (fun u x hu => ?_) ?_))
    | (with_reducible (refine keeps_foldl_fst (fun u x hu => ?_) ?_))
    | (with_reducible (refine keeps_foldl_snd (fun u x hu => ?_) ?_))
    | split
    | fail_if_no_progress (with_reducible (apply keeps_lit))
    | fail_if_no_progress (with_reducible (apply keeps_sys))

theorem keeps_storePackSample {z s : State} (iT temp : Nat) (hz : Keeps z s) :
    Keeps z (s.storePackSample iT temp) := by
  unfold State.storePackSample
  (try dsimp only)
  repeat' first
    | (with_reducible assumption)
    | (with_reducible (apply keeps_setFld))
    | (with_reducible (refine keeps_foldl (fun u x hu => ?_) ?_))
    | (with_reducible (refine keeps_foldl_fst (fun u x hu => ?_) ?_))
    | (with_reducible (refine keeps_foldl_snd (fun u x hu => ?_) ?_))
    | split
    | fail_if_no_progress (with_reducible (apply keeps_lit))
    | fail_if_no_progress (with_reducible (apply keeps_sys))

theorem keeps_setLine {z s : State} (ma : Nat) (v : LineData × CheckBytes) (h : Keeps z s) : Keeps z (s.setLine ma v) :=
  keeps_trans h ⟨rfl, id, fun m => ⟨m.1, smapWf_set _ _ m.2.1, m.2.2⟩⟩

theorem keeps_learnFail {z s : State} (reason : Nat) (hz : Keeps z s) :
    Keeps z (s.learnFail reason) := by
  unfold State.learnFail
  (try dsimp only)
  repeat' first
    | (with_reducible assumption)
    | (with_reducible (apply keeps_note))
    | (with_reducible (apply keeps_setFld))
    | (with_reducible (refine keeps_foldl (fun u x hu => ?_) ?_))
    | (with_reducible (refine keeps_foldl_fst (fun u x hu => ?_) ?_))
    | (with_reducible (refine keeps_foldl_snd (fun u x hu => ?_) ?_))
    | split
    | fail_if_no_progress (with_reducible (apply keeps_lit))
    | fail_if_no_progress (with_reducible (apply keeps_sys))

theorem keeps_learnStop {z s : State} (reason : Nat) (hz : Keeps z s) :
    Keeps z (s.learnStop reason) := by
  unfold State.learnStop
  (try dsimp only)
  repeat' first
    | (with_reducible assumption)
    | (with_reducible (apply keeps_learnFail))
    | (with_reducible (refine keeps_foldl (fun u x hu => ?_) ?_))
    | (with_reducible (refine keeps_foldl_fst (fun u x hu => ?_) ?_))
    | (with_reducible (refine keeps_foldl_snd (fun u x hu => ?_) ?_))
    | split
    | fail_if_no_progress (with_reducible (apply keeps_lit))
    | fail_if_no_progress (with_reducible (apply keeps_sys))

theorem keeps_unlearn {z s : State}  (hz : Keeps z s) :
    Keeps z (s.unlearn ) := by
  unfold State.unlearn
  (try dsimp only)
  repeat' first
    | (with_reducible assumption)
    | (with_reducible (apply keeps_setFld))
    | (with_reducible (refine keeps_foldl (fun u x hu => ?_) ?_))
    | (with_reducible (refine keeps_foldl_fst (fun u x hu => ?_) ?_))
    | (with_reducible (refine keeps_foldl_snd (fun u x hu => ?_) ?_))
    | split
    | fail_if_no_progress (with_reducible (apply keeps_lit))
    | fail_if_no_progress (with_reducible (apply keeps_sys))

theorem keeps_learnerTap {z s : State} (ma : Nat) (v : LineData × CheckBytes) (hz : Keeps z s) :
    Keeps z (s.learnerTap ma v) := by
  unfold State.learnerTap
  (try dsimp only)
  repeat' first
    | (with_reducible assumption)
    | (with_reducible (apply keeps_bump))
    | (with_reducible (refine keeps_foldl (fun u x hu => ?_) ?_))
    | (with_reducible (refine keeps_foldl_fst (fun u x hu => ?_) ?_))
    | (with_reducible (refine keeps_foldl_snd (fun u x hu => ?_) ?_))
    | split
    | fail_if_no_progress (with_reducible (apply keeps_lit))
    | fail_if_no_progress (with_reducible (apply keeps_sys))

theorem keeps_collect {z s : State} (p : Pattern) (c : CheckBytes) (hz : Keeps z s) :
    Keeps z (s.collect p c) := by
  unfold State.collect
  (try dsimp only)
  repeat' first
    | (with_reducible assumption)
    | (with_reducible (apply keeps_learnFail))
    | (with_reducible (apply keeps_bump))
    | (with_reducible (apply keeps_setFld))
    | (with_reducible (refine keeps_foldl (fun u x hu => ?_) ?_))
    | (with_reducible (refine keeps_foldl_fst (fun u x hu => ?_) ?_))
    | (with_reducible (refine keeps_foldl_snd (fun u x hu => ?_) ?_))
    | split
    | fail_if_no_progress (with_reducible (apply keeps_lit))
    | fail_if_no_progress (with_reducible (apply keeps_sys))

theorem keeps_learnedNow {z s : State}  (hz : Keeps z s) :
    Keeps z (s.learnedNow ) := by
  unfold State.learnedNow
  (try dsimp only)
  repeat' first
    | (with_reducible assumption)
    | (with_reducible (apply keeps_note))
    | (with_reducible (apply keeps_setFld))
    | (with_reducible (refine keeps_foldl (fun u x hu => ?_) ?_))
    | (with_reducible (refine keeps_foldl_fst (fun u x hu => ?_) ?_))
    | (with_reducible (refine keeps_foldl_snd (fun u x hu => ?_) ?_))
    | split
    | fail_if_no_progress (with_reducible (apply keeps_lit))
    | fail_if_no_progress (with_reducible (apply keeps_sys))

theorem keeps_verify {z s : State} (e : LearnEntry) (hz : Keeps z s) :
    Keeps z (s.verify e) := by
  unfold State.verify
  (try dsimp only)
  repeat' first
    | (with_reducible assumption)
    | (with_reducible (apply keeps_learnedNow))
    | (with_reducible (apply keeps_learnFail))
    | (with_reducible (apply keeps_setFld))
    | (with_reducible (refine keeps_foldl (fun u x hu => ?_) ?_))
    | (with_reducible (refine keeps_foldl_fst (fun u x hu => ?_) ?_))
    | (with_reducible (refine keeps_foldl_snd (fun u x hu => ?_) ?_))
    | split
    | fail_if_no_progress (with_reducible (apply keeps_lit))
    | fail_if_no_progress (with_reducible (apply keeps_sys))

theorem keeps_execLearnAbort {z s : State}  (hz : Keeps z s) :
    KeepsO z (execLearnAbort s) := by
  unfold execLearnAbort
  (try dsimp only)
  repeat' first
    | (with_reducible assumption)
    | (with_reducible (apply keeps_learnStop))
    | (with_reducible (apply keepsO_next))
    | (with_reducible (refine keeps_foldl (fun u x hu => ?_) ?_))
    | (with_reducible (refine keeps_foldl_fst (fun u x hu => ?_) ?_))
    | (with_reducible (refine keeps_foldl_snd (fun u x hu => ?_) ?_))
    | split
    | fail_if_no_progress (with_reducible (apply keeps_lit))
    | fail_if_no_progress (with_reducible (apply keeps_sys))

theorem keeps_unverifySeals {z s : State}  (hz : Keeps z s) :
    Keeps z (s.unverifySeals ) := by
  unfold State.unverifySeals
  (try dsimp only)
  repeat' first
    | (with_reducible assumption)
    | (with_reducible (refine keeps_foldl (fun u x hu => ?_) ?_))
    | (with_reducible (refine keeps_foldl_fst (fun u x hu => ?_) ?_))
    | (with_reducible (refine keeps_foldl_snd (fun u x hu => ?_) ?_))
    | split
    | fail_if_no_progress (with_reducible (apply keeps_lit))
    | fail_if_no_progress (with_reducible (apply keeps_sys))

theorem keeps_verifyKept {z s : State} (was : Bool) (hz : Keeps z s) :
    Keeps z (s.verifyKept was) := by
  unfold State.verifyKept
  (try dsimp only)
  repeat' first
    | (with_reducible assumption)
    | (with_reducible (apply keeps_unverifySeals))
    | (with_reducible (refine keeps_foldl (fun u x hu => ?_) ?_))
    | (with_reducible (refine keeps_foldl_fst (fun u x hu => ?_) ?_))
    | (with_reducible (refine keeps_foldl_snd (fun u x hu => ?_) ?_))
    | split
    | fail_if_no_progress (with_reducible (apply keeps_lit))
    | fail_if_no_progress (with_reducible (apply keeps_sys))

theorem keeps_learnBegin {z s : State}  (hz : Keeps z s) :
    Keeps z (s.learnBegin ) := by
  unfold State.learnBegin
  (try dsimp only)
  repeat' first
    | (with_reducible assumption)
    | (with_reducible (apply keeps_unverifySeals))
    | (with_reducible (apply keeps_setPhase))
    | (with_reducible (apply keeps_setFld))
    | (with_reducible (apply keeps_setWord))
    | (with_reducible (refine keeps_foldl (fun u x hu => ?_) ?_))
    | (with_reducible (refine keeps_foldl_fst (fun u x hu => ?_) ?_))
    | (with_reducible (refine keeps_foldl_snd (fun u x hu => ?_) ?_))
    | split
    | fail_if_no_progress (with_reducible (apply keeps_lit))
    | fail_if_no_progress (with_reducible (apply keeps_sys))

theorem keeps_logPlace {z s : State} (r : LogRec) (hz : Keeps z s) :
    Keeps z (s.logPlace r) := by
  unfold State.logPlace
  (try dsimp only)
  repeat' first
    | (with_reducible assumption)
    | (with_reducible (refine keeps_foldl (fun u x hu => ?_) ?_))
    | (with_reducible (refine keeps_foldl_fst (fun u x hu => ?_) ?_))
    | (with_reducible (refine keeps_foldl_snd (fun u x hu => ?_) ?_))
    | split
    | fail_if_no_progress (with_reducible (apply keeps_lit))
    | fail_if_no_progress (with_reducible (apply keeps_sys))

theorem keeps_incidentSeq {z s : State} (r : LogRec) (hz : Keeps z s) :
    Keeps z (s.incidentSeq r) := by
  unfold State.incidentSeq
  (try dsimp only)
  repeat' first
    | (with_reducible assumption)
    | (with_reducible (refine keeps_foldl (fun u x hu => ?_) ?_))
    | (with_reducible (refine keeps_foldl_fst (fun u x hu => ?_) ?_))
    | (with_reducible (refine keeps_foldl_snd (fun u x hu => ?_) ?_))
    | split
    | fail_if_no_progress (with_reducible (apply keeps_lit))
    | fail_if_no_progress (with_reducible (apply keeps_sys))

theorem keeps_logArrive {z s : State} (r : LogRec) (hz : Keeps z s) :
    Keeps z (s.logArrive r) := by
  unfold State.logArrive
  (try dsimp only)
  repeat' first
    | (with_reducible assumption)
    | (with_reducible (apply keeps_incidentSeq))
    | (with_reducible (apply keeps_logPlace))
    | (with_reducible (refine keeps_foldl (fun u x hu => ?_) ?_))
    | (with_reducible (refine keeps_foldl_fst (fun u x hu => ?_) ?_))
    | (with_reducible (refine keeps_foldl_snd (fun u x hu => ?_) ?_))
    | split
    | fail_if_no_progress (with_reducible (apply keeps_lit))
    | fail_if_no_progress (with_reducible (apply keeps_sys))

theorem keeps_rawSeq_snd {z s : State} (h : Keeps z s) : Keeps z (s.rawSeq).2 := keeps_same (s := s) rfl rfl rfl rfl rfl h

theorem keeps_rawSeq {z s t : State} {n : Nat} (e : s.rawSeq = (n, t)) (h : Keeps z s) : Keeps z t := by
  have := keeps_rawSeq_snd h; rw [e] at this; exact this

theorem keeps_rawLedger {z s : State} (b : LedgerRec) (hz : Keeps z s) :
    Keeps z (s.rawLedger b) := by
  unfold State.rawLedger
  (try dsimp only)
  repeat' first
    | (with_reducible assumption)
    | (with_reducible (apply keeps_rawSeq_snd))
    | (with_reducible (refine keeps_rawSeq (by assumption) ?_))
    | (with_reducible (refine keeps_foldl (fun u x hu => ?_) ?_))
    | (with_reducible (refine keeps_foldl_fst (fun u x hu => ?_) ?_))
    | (with_reducible (refine keeps_foldl_snd (fun u x hu => ?_) ?_))
    | split
    | fail_if_no_progress (with_reducible (apply keeps_lit))
    | fail_if_no_progress (with_reducible (apply keeps_sys))

theorem keeps_ensureMark {z s : State}  (hz : Keeps z s) :
    Keeps z (s.ensureMark ) := by
  unfold State.ensureMark
  (try dsimp only)
  repeat' first
    | (with_reducible assumption)
    | (with_reducible (apply keeps_rawLedger))
    | (with_reducible (apply keeps_rawSeq_snd))
    | (with_reducible (refine keeps_rawSeq (by assumption) ?_))
    | (with_reducible (apply keeps_logArrive))
    | (with_reducible (apply keeps_bump))
    | (with_reducible (refine keeps_foldl (fun u x hu => ?_) ?_))
    | (with_reducible (refine keeps_foldl_fst (fun u x hu => ?_) ?_))
    | (with_reducible (refine keeps_foldl_snd (fun u x hu => ?_) ?_))
    | split
    | fail_if_no_progress (with_reducible (apply keeps_lit))
    | fail_if_no_progress (with_reducible (apply keeps_sys))

theorem keeps_takeSeq_snd {z s : State} (h : Keeps z s) : Keeps z (s.takeSeq).2 := keeps_rawSeq_snd (keeps_ensureMark h)

theorem keeps_takeSeq {z s t : State} {n : Nat} (e : s.takeSeq = (n, t)) (h : Keeps z s) : Keeps z t := by
  have := keeps_takeSeq_snd h; rw [e] at this; exact this

theorem keeps_ledgerLater {z s : State} (b : LedgerRec) (hz : Keeps z s) :
    Keeps z (s.ledgerLater b) := by
  unfold State.ledgerLater
  (try dsimp only)
  repeat' first
    | (with_reducible assumption)
    | (with_reducible (refine keeps_foldl (fun u x hu => ?_) ?_))
    | (with_reducible (refine keeps_foldl_fst (fun u x hu => ?_) ?_))
    | (with_reducible (refine keeps_foldl_snd (fun u x hu => ?_) ?_))
    | split
    | fail_if_no_progress (with_reducible (apply keeps_lit))
    | fail_if_no_progress (with_reducible (apply keeps_sys))

theorem keeps_ledger {z s : State} (b : LedgerRec) (hz : Keeps z s) :
    Keeps z (s.ledger b) := by
  unfold State.ledger
  (try dsimp only)
  repeat' first
    | (with_reducible assumption)
    | (with_reducible (apply keeps_ledgerLater))
    | (with_reducible (apply keeps_ensureMark))
    | (with_reducible (apply keeps_rawLedger))
    | (with_reducible (refine keeps_foldl (fun u x hu => ?_) ?_))
    | (with_reducible (refine keeps_foldl_fst (fun u x hu => ?_) ?_))
    | (with_reducible (refine keeps_foldl_snd (fun u x hu => ?_) ?_))
    | split
    | fail_if_no_progress (with_reducible (apply keeps_lit))
    | fail_if_no_progress (with_reducible (apply keeps_sys))

theorem keeps_numberLedger {z s : State}  (hz : Keeps z s) :
    Keeps z (s.numberLedger ) := by
  unfold State.numberLedger
  (try dsimp only)
  repeat' first
    | (with_reducible assumption)
    | (with_reducible (refine keeps_foldl (fun u x hu => ?_) ?_))
    | (with_reducible (refine keeps_foldl_fst (fun u x hu => ?_) ?_))
    | (with_reducible (refine keeps_foldl_snd (fun u x hu => ?_) ?_))
    | split
    | fail_if_no_progress (with_reducible (apply keeps_lit))
    | fail_if_no_progress (with_reducible (apply keeps_sys))

theorem keeps_mirror {z s : State} (r : LogRec) (hz : Keeps z s) :
    Keeps z (s.mirror r) := by
  unfold State.mirror
  (try dsimp only)
  repeat' first
    | (with_reducible assumption)
    | (with_reducible (apply keeps_ledger))
    | (with_reducible (apply keeps_bump))
    | (with_reducible (refine keeps_foldl (fun u x hu => ?_) ?_))
    | (with_reducible (refine keeps_foldl_fst (fun u x hu => ?_) ?_))
    | (with_reducible (refine keeps_foldl_snd (fun u x hu => ?_) ?_))
    | split
    | fail_if_no_progress (with_reducible (apply keeps_lit))
    | fail_if_no_progress (with_reducible (apply keeps_sys))

theorem keeps_hold {z s : State} (e : EvRecord) (hz : Keeps z s) :
    Keeps z (s.hold e) := by
  unfold State.hold
  (try dsimp only)
  repeat' first
    | (with_reducible assumption)
    | (with_reducible (apply keeps_mirror))
    | (with_reducible (apply keeps_ensureMark))
    | (with_reducible (apply keeps_rawSeq_snd))
    | (with_reducible (refine keeps_rawSeq (by assumption) ?_))
    | (with_reducible (apply keeps_logArrive))
    | (with_reducible (apply keeps_bump))
    | (with_reducible (refine keeps_foldl (fun u x hu => ?_) ?_))
    | (with_reducible (refine keeps_foldl_fst (fun u x hu => ?_) ?_))
    | (with_reducible (refine keeps_foldl_snd (fun u x hu => ?_) ?_))
    | split
    | fail_if_no_progress (with_reducible (apply keeps_lit))
    | fail_if_no_progress (with_reducible (apply keeps_sys))

theorem keeps_holdNote {z s : State} (code src : Nat) (payload : List Byte) (hz : Keeps z s) :
    Keeps z (s.holdNote code src payload) := by
  unfold State.holdNote
  (try dsimp only)
  repeat' first
    | (with_reducible assumption)
    | (with_reducible (apply keeps_hold))
    | (with_reducible (apply keeps_note))
    | (with_reducible (refine keeps_foldl (fun u x hu => ?_) ?_))
    | (with_reducible (refine keeps_foldl_fst (fun u x hu => ?_) ?_))
    | (with_reducible (refine keeps_foldl_snd (fun u x hu => ?_) ?_))
    | split
    | fail_if_no_progress (with_reducible (apply keeps_lit))
    | fail_if_no_progress (with_reducible (apply keeps_sys))

theorem keeps_setLat {z s : State} (sp : Nat) (hz : Keeps z s) :
    Keeps z (s.setLat sp) := by
  unfold State.setLat
  (try dsimp only)
  repeat' first
    | (with_reducible assumption)
    | (with_reducible (apply keeps_setFld))
    | (with_reducible (refine keeps_foldl (fun u x hu => ?_) ?_))
    | (with_reducible (refine keeps_foldl_fst (fun u x hu => ?_) ?_))
    | (with_reducible (refine keeps_foldl_snd (fun u x hu => ?_) ?_))
    | split
    | fail_if_no_progress (with_reducible (apply keeps_lit))
    | fail_if_no_progress (with_reducible (apply keeps_sys))

theorem keeps_applyCaLat {z s : State}  (hz : Keeps z s) :
    Keeps z (s.applyCaLat ) := by
  unfold State.applyCaLat
  (try dsimp only)
  repeat' first
    | (with_reducible assumption)
    | (with_reducible (apply keeps_setLat))
    | (with_reducible (refine keeps_foldl (fun u x hu => ?_) ?_))
    | (with_reducible (refine keeps_foldl_fst (fun u x hu => ?_) ?_))
    | (with_reducible (refine keeps_foldl_snd (fun u x hu => ?_) ?_))
    | split
    | fail_if_no_progress (with_reducible (apply keeps_lit))
    | fail_if_no_progress (with_reducible (apply keeps_sys))

theorem keeps_ledgerTraining {z s : State} (sp side : Nat) (hz : Keeps z s) :
    Keeps z (s.ledgerTraining sp side) := by
  unfold State.ledgerTraining
  (try dsimp only)
  repeat' first
    | (with_reducible assumption)
    | (with_reducible (apply keeps_ledger))
    | (with_reducible (refine keeps_foldl (fun u x hu => ?_) ?_))
    | (with_reducible (refine keeps_foldl_fst (fun u x hu => ?_) ?_))
    | (with_reducible (refine keeps_foldl_snd (fun u x hu => ?_) ?_))
    | split
    | fail_if_no_progress (with_reducible (apply keeps_lit))
    | fail_if_no_progress (with_reducible (apply keeps_sys))

theorem keeps_setRecord {z s : State} (f : Fld) (v : Nat) (hz : Keeps z s) :
    Keeps z (s.setRecord f v) := by
  unfold State.setRecord
  (try dsimp only)
  repeat' first
    | (with_reducible assumption)
    | (with_reducible (apply keeps_ledgerTraining))
    | (with_reducible (apply keeps_setFld))
    | (with_reducible (refine keeps_foldl (fun u x hu => ?_) ?_))
    | (with_reducible (refine keeps_foldl_fst (fun u x hu => ?_) ?_))
    | (with_reducible (refine keeps_foldl_snd (fun u x hu => ?_) ?_))
    | split
    | fail_if_no_progress (with_reducible (apply keeps_lit))
    | fail_if_no_progress (with_reducible (apply keeps_sys))

theorem keeps_putResults {z s : State} (rs : List (Fin 0x80000 × Word)) (hz : Keeps z s) :
    Keeps z (s.putResults rs) := by
  unfold State.putResults
  (try dsimp only)
  repeat' first
    | (with_reducible assumption)
    | (with_reducible (refine keeps_foldl (fun u x hu => ?_) ?_))
    | (with_reducible (refine keeps_foldl_fst (fun u x hu => ?_) ?_))
    | (with_reducible (refine keeps_foldl_snd (fun u x hu => ?_) ?_))
    | split
    | fail_if_no_progress (with_reducible (apply keeps_lit))
    | fail_if_no_progress (with_reducible (apply keeps_sys))

theorem keeps_runFrom {z s : State} (check : Bool) (hz : Keeps z s) :
    Keeps z (s.runFrom check) := by
  unfold State.runFrom
  (try dsimp only)
  repeat' first
    | (with_reducible assumption)
    | (with_reducible (apply keeps_setFlag))
    | (with_reducible (apply keeps_setFld))
    | (with_reducible (refine keeps_foldl (fun u x hu => ?_) ?_))
    | (with_reducible (refine keeps_foldl_fst (fun u x hu => ?_) ?_))
    | (with_reducible (refine keeps_foldl_snd (fun u x hu => ?_) ?_))
    | split
    | fail_if_no_progress (with_reducible (apply keeps_lit))
    | fail_if_no_progress (with_reducible (apply keeps_sys))

theorem keeps_trainRun {z s : State}  (hz : Keeps z s) :
    Keeps z (s.trainRun ) := by
  unfold State.trainRun
  (try dsimp only)
  repeat' first
    | (with_reducible assumption)
    | (with_reducible (apply keeps_runFrom))
    | (with_reducible (apply keeps_setFlag))
    | (with_reducible (refine keeps_foldl (fun u x hu => ?_) ?_))
    | (with_reducible (refine keeps_foldl_fst (fun u x hu => ?_) ?_))
    | (with_reducible (refine keeps_foldl_snd (fun u x hu => ?_) ?_))
    | split
    | fail_if_no_progress (with_reducible (apply keeps_lit))
    | fail_if_no_progress (with_reducible (apply keeps_sys))

theorem keeps_areaBack {z s : State}  (hz : Keeps z s) :
    Keeps z (s.areaBack ) := by
  unfold State.areaBack
  (try dsimp only)
  repeat' first
    | (with_reducible assumption)
    | (with_reducible (apply keeps_setLine))
    | (with_reducible (refine keeps_foldl (fun u x hu => ?_) ?_))
    | (with_reducible (refine keeps_foldl_fst (fun u x hu => ?_) ?_))
    | (with_reducible (refine keeps_foldl_snd (fun u x hu => ?_) ?_))
    | split
    | fail_if_no_progress (with_reducible (apply keeps_lit))
    | fail_if_no_progress (with_reducible (apply keeps_sys))

theorem keeps_patternGroup {z s : State}  (hz : Keeps z s) :
    Keeps z (s.patternGroup ) := by
  unfold State.patternGroup
  (try dsimp only)
  repeat' first
    | (with_reducible assumption)
    | (with_reducible (apply keeps_areaBack))
    | (with_reducible (apply keeps_setLine))
    | (with_reducible (refine keeps_foldl (fun u x hu => ?_) ?_))
    | (with_reducible (refine keeps_foldl_fst (fun u x hu => ?_) ?_))
    | (with_reducible (refine keeps_foldl_snd (fun u x hu => ?_) ?_))
    | split
    | fail_if_no_progress (with_reducible (apply keeps_lit))
    | fail_if_no_progress (with_reducible (apply keeps_sys))

theorem keeps_applyModeRegs {z s : State}  (hz : Keeps z s) :
    Keeps z (s.applyModeRegs ) := by
  unfold State.applyModeRegs
  (try dsimp only)
  repeat' first
    | (with_reducible assumption)
    | (with_reducible (refine keeps_foldl (fun u x hu => ?_) ?_))
    | (with_reducible (refine keeps_foldl_fst (fun u x hu => ?_) ?_))
    | (with_reducible (refine keeps_foldl_snd (fun u x hu => ?_) ?_))
    | split
    | fail_if_no_progress (with_reducible (apply keeps_lit))
    | fail_if_no_progress (with_reducible (apply keeps_sys))

theorem keeps_nextRank {z s : State}  (hz : Keeps z s) :
    Keeps z (s.nextRank ) := by
  unfold State.nextRank
  (try dsimp only)
  repeat' first
    | (with_reducible assumption)
    | (with_reducible (apply keeps_applyModeRegs))
    | (with_reducible (apply keeps_patternGroup))
    | (with_reducible (apply keeps_areaBack))
    | (with_reducible (apply keeps_setFld))
    | (with_reducible (refine keeps_foldl (fun u x hu => ?_) ?_))
    | (with_reducible (refine keeps_foldl_fst (fun u x hu => ?_) ?_))
    | (with_reducible (refine keeps_foldl_snd (fun u x hu => ?_) ?_))
    | split
    | fail_if_no_progress (with_reducible (apply keeps_lit))
    | fail_if_no_progress (with_reducible (apply keeps_sys))

theorem keeps_trainTick {z s : State}  (hz : Keeps z s) :
    Keeps z (s.trainTick ) := by
  unfold State.trainTick
  (try dsimp only)
  repeat' first
    | (with_reducible assumption)
    | (with_reducible (apply keeps_nextRank))
    | (with_reducible (apply keeps_applyModeRegs))
    | (with_reducible (apply keeps_patternGroup))
    | (with_reducible (apply keeps_setFld))
    | (with_reducible (refine keeps_foldl (fun u x hu => ?_) ?_))
    | (with_reducible (refine keeps_foldl_fst (fun u x hu => ?_) ?_))
    | (with_reducible (refine keeps_foldl_snd (fun u x hu => ?_) ?_))
    | split
    | fail_if_no_progress (with_reducible (apply keeps_lit))
    | fail_if_no_progress (with_reducible (apply keeps_sys))

theorem keeps_trainHalt {z s : State}  (hz : Keeps z s) :
    Keeps z (s.trainHalt ) := by
  unfold State.trainHalt
  (try dsimp only)
  repeat' first
    | (with_reducible assumption)
    | (with_reducible (apply keeps_areaBack))
    | (with_reducible (apply keeps_setFlag))
    | (with_reducible (apply keeps_setFld))
    | (with_reducible (refine keeps_foldl (fun u x hu => ?_) ?_))
    | (with_reducible (refine keeps_foldl_fst (fun u x hu => ?_) ?_))
    | (with_reducible (refine keeps_foldl_snd (fun u x hu => ?_) ?_))
    | split
    | fail_if_no_progress (with_reducible (apply keeps_lit))
    | fail_if_no_progress (with_reducible (apply keeps_sys))

theorem keeps_trainLeave {z s : State}  (hz : Keeps z s) :
    Keeps z (s.trainLeave ) := by
  unfold State.trainLeave
  (try dsimp only)
  repeat' first
    | (with_reducible assumption)
    | (with_reducible (apply keeps_setFlag))
    | (with_reducible (refine keeps_foldl (fun u x hu => ?_) ?_))
    | (with_reducible (refine keeps_foldl_fst (fun u x hu => ?_) ?_))
    | (with_reducible (refine keeps_foldl_snd (fun u x hu => ?_) ?_))
    | split
    | fail_if_no_progress (with_reducible (apply keeps_lit))
    | fail_if_no_progress (with_reducible (apply keeps_sys))

theorem keeps_takeHostWork {z s : State}  (hz : Keeps z s) :
    Keeps z (s.takeHostWork ) := by
  unfold State.takeHostWork
  (try dsimp only)
  repeat' first
    | (with_reducible assumption)
    | (with_reducible (refine keeps_foldl (fun u x hu => ?_) ?_))
    | (with_reducible (refine keeps_foldl_fst (fun u x hu => ?_) ?_))
    | (with_reducible (refine keeps_foldl_snd (fun u x hu => ?_) ?_))
    | split
    | fail_if_no_progress (with_reducible (apply keeps_lit))
    | fail_if_no_progress (with_reducible (apply keeps_sys))

theorem keeps_judgeHost {z s : State}  (hz : Keeps z s) :
    Keeps z (s.judgeHost ) := by
  unfold State.judgeHost
  (try dsimp only)
  repeat' first
    | (with_reducible assumption)
    | (with_reducible (apply keeps_takeHostWork))
    | (with_reducible (apply keeps_setRecord))
    | (with_reducible (refine keeps_foldl (fun u x hu => ?_) ?_))
    | (with_reducible (refine keeps_foldl_fst (fun u x hu => ?_) ?_))
    | (with_reducible (refine keeps_foldl_snd (fun u x hu => ?_) ?_))
    | split
    | fail_if_no_progress (with_reducible (apply keeps_lit))
    | fail_if_no_progress (with_reducible (apply keeps_sys))

theorem keeps_trainEnter {z s : State} (m : TrainMode) (x : Sub) (v : Byte) (hz : Keeps z s) :
    Keeps z (s.trainEnter m x v) := by
  unfold State.trainEnter
  (try dsimp only)
  repeat' first
    | (with_reducible assumption)
    | (with_reducible (apply keeps_judgeHost))
    | (with_reducible (apply keeps_trainLeave))
    | (with_reducible (apply keeps_setFlag))
    | (with_reducible (refine keeps_foldl (fun u x hu => ?_) ?_))
    | (with_reducible (refine keeps_foldl_fst (fun u x hu => ?_) ?_))
    | (with_reducible (refine keeps_foldl_snd (fun u x hu => ?_) ?_))
    | split
    | fail_if_no_progress (with_reducible (apply keeps_lit))
    | fail_if_no_progress (with_reducible (apply keeps_sys))

theorem keeps_beatsOn {z s : State} (x : Sub) (hz : Keeps z s) :
    Keeps z (s.beatsOn x) := by
  unfold State.beatsOn
  (try dsimp only)
  repeat' first
    | (with_reducible assumption)
    | (with_reducible (refine keeps_foldl (fun u x hu => ?_) ?_))
    | (with_reducible (refine keeps_foldl_fst (fun u x hu => ?_) ?_))
    | (with_reducible (refine keeps_foldl_snd (fun u x hu => ?_) ?_))
    | split
    | fail_if_no_progress (with_reducible (apply keeps_lit))
    | fail_if_no_progress (with_reducible (apply keeps_sys))

theorem keeps_setMatched {z s : State} (x : Sub) (m : BitVec 40) (hz : Keeps z s) :
    Keeps z (s.setMatched x m) := by
  unfold State.setMatched
  (try dsimp only)
  repeat' first
    | (with_reducible assumption)
    | (with_reducible (refine keeps_foldl (fun u x hu => ?_) ?_))
    | (with_reducible (refine keeps_foldl_fst (fun u x hu => ?_) ?_))
    | (with_reducible (refine keeps_foldl_snd (fun u x hu => ?_) ?_))
    | split
    | fail_if_no_progress (with_reducible (apply keeps_lit))
    | fail_if_no_progress (with_reducible (apply keeps_sys))

theorem keeps_driveOut {z s : State} (v : LineData × CheckBytes) (hz : Keeps z s) :
    Keeps z (s.driveOut v) := by
  unfold State.driveOut
  (try dsimp only)
  repeat' first
    | (with_reducible assumption)
    | (with_reducible (refine keeps_foldl (fun u x hu => ?_) ?_))
    | (with_reducible (refine keeps_foldl_fst (fun u x hu => ?_) ?_))
    | (with_reducible (refine keeps_foldl_snd (fun u x hu => ?_) ?_))
    | split
    | fail_if_no_progress (with_reducible (apply keeps_lit))
    | fail_if_no_progress (with_reducible (apply keeps_sys))

theorem keeps_trainRead {z s : State} (x : Sub) (hz : Keeps z s) :
    Keeps z (s.trainRead x) := by
  unfold State.trainRead
  (try dsimp only)
  repeat' first
    | (with_reducible assumption)
    | (with_reducible (apply keeps_driveOut))
    | (with_reducible (apply keeps_setMatched))
    | (with_reducible (apply keeps_beatsOn))
    | (with_reducible (refine keeps_foldl (fun u x hu => ?_) ?_))
    | (with_reducible (refine keeps_foldl_fst (fun u x hu => ?_) ?_))
    | (with_reducible (refine keeps_foldl_snd (fun u x hu => ?_) ?_))
    | split
    | fail_if_no_progress (with_reducible (apply keeps_lit))
    | fail_if_no_progress (with_reducible (apply keeps_sys))

theorem keeps_centreDone {z s : State}  (hz : Keeps z s) :
    Keeps z (s.centreDone ) := by
  unfold State.centreDone
  (try dsimp only)
  repeat' first
    | (with_reducible assumption)
    | (with_reducible (apply keeps_setFlag))
    | (with_reducible (refine keeps_foldl (fun u x hu => ?_) ?_))
    | (with_reducible (refine keeps_foldl_fst (fun u x hu => ?_) ?_))
    | (with_reducible (refine keeps_foldl_snd (fun u x hu => ?_) ?_))
    | split
    | fail_if_no_progress (with_reducible (apply keeps_lit))
    | fail_if_no_progress (with_reducible (apply keeps_sys))

theorem keeps_trainWrite {z s : State} (x : Sub) (v : LineData × CheckBytes) (hz : Keeps z s) :
    Keeps z (s.trainWrite x v) := by
  unfold State.trainWrite
  (try dsimp only)
  repeat' first
    | (with_reducible assumption)
    | (with_reducible (apply keeps_centreDone))
    | (with_reducible (apply keeps_setMatched))
    | (with_reducible (apply keeps_beatsOn))
    | (with_reducible (apply keeps_setFlag))
    | (with_reducible (refine keeps_foldl (fun u x hu => ?_) ?_))
    | (with_reducible (refine keeps_foldl_fst (fun u x hu => ?_) ?_))
    | (with_reducible (refine keeps_foldl_snd (fun u x hu => ?_) ?_))
    | split
    | fail_if_no_progress (with_reducible (apply keeps_lit))
    | fail_if_no_progress (with_reducible (apply keeps_sys))

theorem keeps_trainAbandon {z s : State}  (hz : Keeps z s) :
    Keeps z (s.trainAbandon ) := by
  unfold State.trainAbandon
  (try dsimp only)
  repeat' first
    | (with_reducible assumption)
    | (with_reducible (apply keeps_trainHalt))
    | (with_reducible (apply keeps_setFlag))
    | (with_reducible (apply keeps_setFld))
    | (with_reducible (refine keeps_foldl (fun u x hu => ?_) ?_))
    | (with_reducible (refine keeps_foldl_fst (fun u x hu => ?_) ?_))
    | (with_reducible (refine keeps_foldl_snd (fun u x hu => ?_) ?_))
    | split
    | fail_if_no_progress (with_reducible (apply keeps_lit))
    | fail_if_no_progress (with_reducible (apply keeps_sys))

theorem keeps_trainFail {z s : State} (sp : Nat) (f : TrainFailAt) (hz : Keeps z s) :
    Keeps z (s.trainFail sp f) := by
  unfold State.trainFail
  (try dsimp only)
  repeat' first
    | (with_reducible assumption)
    | (with_reducible (apply keeps_setRecord))
    | (with_reducible (apply keeps_report))
    | (with_reducible (apply keeps_setFlag))
    | (with_reducible (refine keeps_foldl (fun u x hu => ?_) ?_))
    | (with_reducible (refine keeps_foldl_fst (fun u x hu => ?_) ?_))
    | (with_reducible (refine keeps_foldl_snd (fun u x hu => ?_) ?_))
    | split
    | fail_if_no_progress (with_reducible (apply keeps_lit))
    | fail_if_no_progress (with_reducible (apply keeps_sys))

theorem keeps_trainPass {z s : State} (sp : Nat) (results : List (Fin 0x80000 × Word)) (hz : Keeps z s) :
    Keeps z (s.trainPass sp results) := by
  unfold State.trainPass
  (try dsimp only)
  repeat' first
    | (with_reducible assumption)
    | (with_reducible (apply keeps_putResults))
    | (with_reducible (apply keeps_setRecord))
    | (with_reducible (apply keeps_setFlag))
    | (with_reducible (refine keeps_foldl (fun u x hu => ?_) ?_))
    | (with_reducible (refine keeps_foldl_fst (fun u x hu => ?_) ?_))
    | (with_reducible (refine keeps_foldl_snd (fun u x hu => ?_) ?_))
    | split
    | fail_if_no_progress (with_reducible (apply keeps_lit))
    | fail_if_no_progress (with_reducible (apply keeps_sys))

theorem keeps_setRing {z s : State} (r : Nat) (v : Ring) (hz : Keeps z s) :
    Keeps z (s.setRing r v) := by
  unfold State.setRing
  (try dsimp only)
  repeat' first
    | (with_reducible assumption)
    | (with_reducible (refine keeps_foldl (fun u x hu => ?_) ?_))
    | (with_reducible (refine keeps_foldl_fst (fun u x hu => ?_) ?_))
    | (with_reducible (refine keeps_foldl_snd (fun u x hu => ?_) ?_))
    | split
    | fail_if_no_progress (with_reducible (apply keeps_lit))
    | fail_if_no_progress (with_reducible (apply keeps_sys))

theorem keeps_writeStatus {z s : State} (p : PostStatus) (hz : Keeps z s) :
    Keeps z (s.writeStatus p) := by
  unfold State.writeStatus
  (try dsimp only)
  repeat' first
    | (with_reducible assumption)
    | (with_reducible (apply keeps_setBytes))
    | (with_reducible (apply keeps_setFlag))
    | (with_reducible (refine keeps_foldl (fun u x hu => ?_) ?_))
    | (with_reducible (refine keeps_foldl_fst (fun u x hu => ?_) ?_))
    | (with_reducible (refine keeps_foldl_snd (fun u x hu => ?_) ?_))
    | split
    | fail_if_no_progress (with_reducible (apply keeps_lit))
    | fail_if_no_progress (with_reducible (apply keeps_sys))

theorem keeps_post {z s : State} (p : PostStatus) (hz : Keeps z s) :
    Keeps z (s.post p) := by
  unfold State.post
  (try dsimp only)
  repeat' first
    | (with_reducible assumption)
    | (with_reducible (apply keeps_writeStatus))
    | (with_reducible (refine keeps_foldl (fun u x hu => ?_) ?_))
    | (with_reducible (refine keeps_foldl_fst (fun u x hu => ?_) ?_))
    | (with_reducible (refine keeps_foldl_snd (fun u x hu => ?_) ?_))
    | split
    | fail_if_no_progress (with_reducible (apply keeps_lit))
    | fail_if_no_progress (with_reducible (apply keeps_sys))

theorem keeps_postWithheld {z s : State}  (hz : Keeps z s) :
    Keeps z (s.postWithheld ) := by
  unfold State.postWithheld
  (try dsimp only)
  repeat' first
    | (with_reducible assumption)
    | (with_reducible (apply keeps_writeStatus))
    | (with_reducible (refine keeps_foldl (fun u x hu => ?_) ?_))
    | (with_reducible (refine keeps_foldl_fst (fun u x hu => ?_) ?_))
    | (with_reducible (refine keeps_foldl_snd (fun u x hu => ?_) ?_))
    | split
    | fail_if_no_progress (with_reducible (apply keeps_lit))
    | fail_if_no_progress (with_reducible (apply keeps_sys))

theorem keeps_clearSlots {z s : State} (r : Nat) (hz : Keeps z s) :
    Keeps z (s.clearSlots r) := by
  unfold State.clearSlots
  (try dsimp only)
  repeat' first
    | (with_reducible assumption)
    | (with_reducible (refine keeps_foldl (fun u x hu => ?_) ?_))
    | (with_reducible (refine keeps_foldl_fst (fun u x hu => ?_) ?_))
    | (with_reducible (refine keeps_foldl_snd (fun u x hu => ?_) ?_))
    | split
    | fail_if_no_progress (with_reducible (apply keeps_lit))
    | fail_if_no_progress (with_reducible (apply keeps_sys))

theorem keeps_setRingCfg {z s : State} (r : Nat) (w : Word) (hz : Keeps z s) :
    Keeps z (s.setRingCfg r w) := by
  unfold State.setRingCfg
  (try dsimp only)
  repeat' first
    | (with_reducible assumption)
    | (with_reducible (apply keeps_clearSlots))
    | (with_reducible (apply keeps_setRing))
    | (with_reducible (apply keeps_setFld))
    | (with_reducible (refine keeps_foldl (fun u x hu => ?_) ?_))
    | (with_reducible (refine keeps_foldl_fst (fun u x hu => ?_) ?_))
    | (with_reducible (refine keeps_foldl_snd (fun u x hu => ?_) ?_))
    | split
    | fail_if_no_progress (with_reducible (apply keeps_lit))
    | fail_if_no_progress (with_reducible (apply keeps_sys))

theorem keeps_applyRings {z s : State} (ws : List (Nat × Word)) (hz : Keeps z s) :
    Keeps z (s.applyRings ws) := by
  unfold State.applyRings
  (try dsimp only)
  repeat' first
    | (with_reducible assumption)
    | (with_reducible (apply keeps_setRingCfg))
    | (with_reducible (refine keeps_foldl (fun u x hu => ?_) ?_))
    | (with_reducible (refine keeps_foldl_fst (fun u x hu => ?_) ?_))
    | (with_reducible (refine keeps_foldl_snd (fun u x hu => ?_) ?_))
    | split
    | fail_if_no_progress (with_reducible (apply keeps_lit))
    | fail_if_no_progress (with_reducible (apply keeps_sys))

theorem keeps_ringStep {z : State} (acc : State × List (Nat × Word)) (x : Nat × Word) (h : Keeps z acc.1) : Keeps z (ringStep acc x).1 := by
  unfold ringStep
  split
  · exact h
  · exact keeps_setRingCfg _ _ h

theorem keeps_ringDrain {z s : State} (h : Keeps z s) : Keeps z s.ringDrain :=
  keeps_lit _ (keeps_foldl_fst keeps_ringStep h)

theorem keeps_journalled {z s : State} (e : ExecPkt) (code : Nat) (hz : Keeps z s) :
    Keeps z (s.journalled e code) := by
  unfold State.journalled
  (try dsimp only)
  repeat' first
    | (with_reducible assumption)
    | (with_reducible (refine keeps_foldl (fun u x hu => ?_) ?_))
    | (with_reducible (refine keeps_foldl_fst (fun u x hu => ?_) ?_))
    | (with_reducible (refine keeps_foldl_snd (fun u x hu => ?_) ?_))
    | split
    | fail_if_no_progress (with_reducible (apply keeps_lit))
    | fail_if_no_progress (with_reducible (apply keeps_sys))

theorem keeps_complete {z s : State} (e : ExecPkt) (code : Nat) (result : List Byte) (detail : Nat) (hz : Keeps z s) :
    Keeps z (s.complete e code result detail) := by
  unfold State.complete
  (try dsimp only)
  repeat' first
    | (with_reducible assumption)
    | (with_reducible (apply keeps_journalled))
    | (with_reducible (apply keeps_ringDrain))
    | (with_reducible (apply keeps_post))
    | (with_reducible (apply keeps_setFlag))
    | (with_reducible (refine keeps_foldl (fun u x hu => ?_) ?_))
    | (with_reducible (refine keeps_foldl_fst (fun u x hu => ?_) ?_))
    | (with_reducible (refine keeps_foldl_snd (fun u x hu => ?_) ?_))
    | split
    | fail_if_no_progress (with_reducible (apply keeps_lit))
    | fail_if_no_progress (with_reducible (apply keeps_sys))

theorem keeps_completeCode {z s : State} (e : ExecPkt) (code : Nat) (hz : Keeps z s) :
    Keeps z (s.completeCode e code) := by
  unfold State.completeCode
  (try dsimp only)
  repeat' first
    | (with_reducible assumption)
    | (with_reducible (apply keeps_complete))
    | (with_reducible (refine keeps_foldl (fun u x hu => ?_) ?_))
    | (with_reducible (refine keeps_foldl_fst (fun u x hu => ?_) ?_))
    | (with_reducible (refine keeps_foldl_snd (fun u x hu => ?_) ?_))
    | split
    | fail_if_no_progress (with_reducible (apply keeps_lit))
    | fail_if_no_progress (with_reducible (apply keeps_sys))

theorem keeps_setExec {z s : State} (e e' : ExecPkt) (hz : Keeps z s) :
    Keeps z (s.setExec e e') := by
  unfold State.setExec
  (try dsimp only)
  repeat' first
    | (with_reducible assumption)
    | (with_reducible (refine keeps_foldl (fun u x hu => ?_) ?_))
    | (with_reducible (refine keeps_foldl_fst (fun u x hu => ?_) ?_))
    | (with_reducible (refine keeps_foldl_snd (fun u x hu => ?_) ?_))
    | split
    | fail_if_no_progress (with_reducible (apply keeps_lit))
    | fail_if_no_progress (with_reducible (apply keeps_sys))

theorem keeps_startExec {z s : State} (e : ExecPkt) (aux : Nat) (hz : Keeps z s) :
    Keeps z (s.startExec e aux) := by
  unfold State.startExec
  (try dsimp only)
  repeat' first
    | (with_reducible assumption)
    | (with_reducible (apply keeps_setExec))
    | (with_reducible (refine keeps_foldl (fun u x hu => ?_) ?_))
    | (with_reducible (refine keeps_foldl_fst (fun u x hu => ?_) ?_))
    | (with_reducible (refine keeps_foldl_snd (fun u x hu => ?_) ?_))
    | split
    | fail_if_no_progress (with_reducible (apply keeps_lit))
    | fail_if_no_progress (with_reducible (apply keeps_sys))

theorem keeps_packetTap {z s : State} (ma stamp : Nat) (v : LineData × CheckBytes) (full : Bool) (hz : Keeps z s) :
    Keeps z (s.packetTap ma stamp v full) := by
  unfold State.packetTap
  (try dsimp only)
  repeat' first
    | (with_reducible assumption)
    | (with_reducible (apply keeps_bump))
    | (with_reducible (refine keeps_foldl (fun u x hu => ?_) ?_))
    | (with_reducible (refine keeps_foldl_fst (fun u x hu => ?_) ?_))
    | (with_reducible (refine keeps_foldl_snd (fun u x hu => ?_) ?_))
    | split
    | fail_if_no_progress (with_reducible (apply keeps_lit))
    | fail_if_no_progress (with_reducible (apply keeps_sys))

theorem keeps_postAt {z s : State} (r slot : Nat) (bs : List Byte) (code detail : Nat) (hz : Keeps z s) :
    Keeps z (s.postAt r slot bs code detail) := by
  unfold State.postAt
  (try dsimp only)
  repeat' first
    | (with_reducible assumption)
    | (with_reducible (apply keeps_post))
    | (with_reducible (refine keeps_foldl (fun u x hu => ?_) ?_))
    | (with_reducible (refine keeps_foldl_fst (fun u x hu => ?_) ?_))
    | (with_reducible (refine keeps_foldl_snd (fun u x hu => ?_) ?_))
    | split
    | fail_if_no_progress (with_reducible (apply keeps_lit))
    | fail_if_no_progress (with_reducible (apply keeps_sys))

theorem keeps_window {z s : State} (r : Nat) (bs : List Byte) (stamp : Nat) (hz : Keeps z s) :
    Keeps z (s.window r bs stamp) := by
  unfold State.window
  (try dsimp only)
  repeat' first
    | (with_reducible assumption)
    | (with_reducible (apply keeps_postAt))
    | (with_reducible (apply keeps_setRing))
    | (with_reducible (refine keeps_foldl (fun u x hu => ?_) ?_))
    | (with_reducible (refine keeps_foldl_fst (fun u x hu => ?_) ?_))
    | (with_reducible (refine keeps_foldl_snd (fun u x hu => ?_) ?_))
    | split
    | fail_if_no_progress (with_reducible (apply keeps_lit))
    | fail_if_no_progress (with_reducible (apply keeps_sys))

theorem keeps_traced {z s : State} (ring seq stamp : Nat) (bs : List Byte) (hz : Keeps z s) :
    Keeps z (s.traced ring seq stamp bs) := by
  unfold State.traced
  (try dsimp only)
  repeat' first
    | (with_reducible assumption)
    | (with_reducible (apply keeps_emit))
    | (with_reducible (refine keeps_foldl (fun u x hu => ?_) ?_))
    | (with_reducible (refine keeps_foldl_fst (fun u x hu => ?_) ?_))
    | (with_reducible (refine keeps_foldl_snd (fun u x hu => ?_) ?_))
    | split
    | fail_if_no_progress (with_reducible (apply keeps_lit))
    | fail_if_no_progress (with_reducible (apply keeps_sys))

theorem keeps_dispatch {z s : State} (h : HeldPkt) (hz : Keeps z s) :
    Keeps z (s.dispatch h) := by
  unfold State.dispatch
  (try dsimp only)
  repeat' first
    | (with_reducible assumption)
    | (with_reducible (apply keeps_traced))
    | (with_reducible (apply keeps_post))
    | (with_reducible (apply keeps_setRing))
    | (with_reducible (apply keeps_wrap))
    | (with_reducible (refine keeps_foldl (fun u x hu => ?_) ?_))
    | (with_reducible (refine keeps_foldl_fst (fun u x hu => ?_) ?_))
    | (with_reducible (refine keeps_foldl_snd (fun u x hu => ?_) ?_))
    | split
    | fail_if_no_progress (with_reducible (apply keeps_lit))
    | fail_if_no_progress (with_reducible (apply keeps_sys))

theorem keeps_execMailboxGo {z s : State}  (hz : Keeps z s) :
    KeepsO z (execMailboxGo s) := by
  unfold execMailboxGo
  (try dsimp only)
  repeat' first
    | (with_reducible assumption)
    | (with_reducible (apply keeps_traced))
    | (with_reducible (apply keeps_post))
    | (with_reducible (apply keeps_setFlag))
    | (with_reducible (apply keepsO_next))
    | (with_reducible (refine keeps_foldl (fun u x hu => ?_) ?_))
    | (with_reducible (refine keeps_foldl_fst (fun u x hu => ?_) ?_))
    | (with_reducible (refine keeps_foldl_snd (fun u x hu => ?_) ?_))
    | split
    | fail_if_no_progress (with_reducible (apply keeps_lit))
    | fail_if_no_progress (with_reducible (apply keeps_sys))

theorem keeps_writeRing {z s : State} (r : Nat) (w : Word) (hz : Keeps z s) :
    Keeps z (s.writeRing r w) := by
  unfold State.writeRing
  (try dsimp only)
  repeat' first
    | (with_reducible assumption)
    | (with_reducible (apply keeps_setRingCfg))
    | (with_reducible (refine keeps_foldl (fun u x hu => ?_) ?_))
    | (with_reducible (refine keeps_foldl_fst (fun u x hu => ?_) ?_))
    | (with_reducible (refine keeps_foldl_snd (fun u x hu => ?_) ?_))
    | split
    | fail_if_no_progress (with_reducible (apply keeps_lit))
    | fail_if_no_progress (with_reducible (apply keeps_sys))

theorem keeps_execRingCfgWrite {z s : State} (ring : Fin 32768) (v : Word) (hz : Keeps z s) :
    KeepsO z (execRingCfgWrite ring v s) := by
  unfold execRingCfgWrite
  (try dsimp only)
  repeat' first
    | (with_reducible assumption)
    | (with_reducible (apply keeps_writeRing))
    | (with_reducible (apply keepsO_next))
    | (with_reducible (refine keeps_foldl (fun u x hu => ?_) ?_))
    | (with_reducible (refine keeps_foldl_fst (fun u x hu => ?_) ?_))
    | (with_reducible (refine keeps_foldl_snd (fun u x hu => ?_) ?_))
    | split
    | fail_if_no_progress (with_reducible (apply keeps_lit))
    | fail_if_no_progress (with_reducible (apply keeps_sys))

theorem keeps_statusLost {z s : State}  (hz : Keeps z s) :
    Keeps z (s.statusLost ) := by
  unfold State.statusLost
  (try dsimp only)
  repeat' first
    | (with_reducible assumption)
    | (with_reducible (refine keeps_foldl (fun u x hu => ?_) ?_))
    | (with_reducible (refine keeps_foldl_fst (fun u x hu => ?_) ?_))
    | (with_reducible (refine keeps_foldl_snd (fun u x hu => ?_) ?_))
    | split
    | fail_if_no_progress (with_reducible (apply keeps_lit))
    | fail_if_no_progress (with_reducible (apply keeps_sys))

theorem keeps_ringsReset {z s : State}  (hz : Keeps z s) :
    Keeps z (s.ringsReset ) := by
  unfold State.ringsReset
  (try dsimp only)
  repeat' first
    | (with_reducible assumption)
    | (with_reducible (apply keeps_setFld))
    | (with_reducible (refine keeps_foldl (fun u x hu => ?_) ?_))
    | (with_reducible (refine keeps_foldl_fst (fun u x hu => ?_) ?_))
    | (with_reducible (refine keeps_foldl_snd (fun u x hu => ?_) ?_))
    | split
    | fail_if_no_progress (with_reducible (apply keeps_lit))
    | fail_if_no_progress (with_reducible (apply keeps_sys))

theorem keeps_packetFreeze {z s : State}  (hz : Keeps z s) :
    Keeps z (s.packetFreeze ) := by
  unfold State.packetFreeze
  (try dsimp only)
  repeat' first
    | (with_reducible assumption)
    | (with_reducible (apply keeps_complete))
    | (with_reducible (refine keeps_foldl (fun u x hu => ?_) ?_))
    | (with_reducible (refine keeps_foldl_fst (fun u x hu => ?_) ?_))
    | (with_reducible (refine keeps_foldl_snd (fun u x hu => ?_) ?_))
    | split
    | fail_if_no_progress (with_reducible (apply keeps_lit))
    | fail_if_no_progress (with_reducible (apply keeps_sys))

theorem keeps_packetsLost {z s : State}  (hz : Keeps z s) :
    Keeps z (s.packetsLost ) := by
  unfold State.packetsLost
  (try dsimp only)
  repeat' first
    | (with_reducible assumption)
    | (with_reducible (apply keeps_ringDrain))
    | (with_reducible (apply keeps_setFlag))
    | (with_reducible (refine keeps_foldl (fun u x hu => ?_) ?_))
    | (with_reducible (refine keeps_foldl_fst (fun u x hu => ?_) ?_))
    | (with_reducible (refine keeps_foldl_snd (fun u x hu => ?_) ?_))
    | split
    | fail_if_no_progress (with_reducible (apply keeps_lit))
    | fail_if_no_progress (with_reducible (apply keeps_sys))

theorem keeps_setUsed {z s : State} (n k : Nat) (hz : Keeps z s) :
    Keeps z (s.setUsed n k) := by
  unfold State.setUsed
  (try dsimp only)
  repeat' first
    | (with_reducible assumption)
    | (with_reducible (refine keeps_foldl (fun u x hu => ?_) ?_))
    | (with_reducible (refine keeps_foldl_fst (fun u x hu => ?_) ?_))
    | (with_reducible (refine keeps_foldl_snd (fun u x hu => ?_) ?_))
    | split
    | fail_if_no_progress (with_reducible (apply keeps_lit))
    | fail_if_no_progress (with_reducible (apply keeps_sys))

theorem keeps_setRole {z s : State} (n role : Nat) (hz : Keeps z s) :
    Keeps z (s.setRole n role) := by
  unfold State.setRole
  (try dsimp only)
  repeat' first
    | (with_reducible assumption)
    | (with_reducible (apply keeps_ledger))
    | (with_reducible (refine keeps_foldl (fun u x hu => ?_) ?_))
    | (with_reducible (refine keeps_foldl_fst (fun u x hu => ?_) ?_))
    | (with_reducible (refine keeps_foldl_snd (fun u x hu => ?_) ?_))
    | split
    | fail_if_no_progress (with_reducible (apply keeps_lit))
    | fail_if_no_progress (with_reducible (apply keeps_sys))

theorem keeps_swathCheck {z s : State}  (hz : Keeps z s) :
    Keeps z (s.swathCheck ) := by
  unfold State.swathCheck
  (try dsimp only)
  repeat' first
    | (with_reducible assumption)
    | (with_reducible (apply keeps_report))
    | (with_reducible (apply keeps_setFlag))
    | (with_reducible (refine keeps_foldl (fun u x hu => ?_) ?_))
    | (with_reducible (refine keeps_foldl_fst (fun u x hu => ?_) ?_))
    | (with_reducible (refine keeps_foldl_snd (fun u x hu => ?_) ?_))
    | split
    | fail_if_no_progress (with_reducible (apply keeps_lit))
    | fail_if_no_progress (with_reducible (apply keeps_sys))

theorem keeps_takePage_snd {z s : State} (n : Nat) (h : Keeps z s) : Keeps z (s.takePage n).2 := by
  unfold State.takePage
  dsimp only
  split
  · exact keeps_setRole _ _ (keeps_setUsed _ _ h)
  · exact keeps_setUsed _ _ h

theorem keeps_takePage {z s t : State} {n a : Nat} (e : s.takePage n = (a, t)) (h : Keeps z s) : Keeps z t := by
  have := keeps_takePage_snd n h; rw [e] at this; exact this

theorem keeps_turnFrom {z s : State} (die : Nat) (hz : Keeps z s) :
    Keeps z (s.turnFrom die) := by
  unfold State.turnFrom
  (try dsimp only)
  repeat' first
    | (with_reducible assumption)
    | (with_reducible (refine keeps_foldl (fun u x hu => ?_) ?_))
    | (with_reducible (refine keeps_foldl_fst (fun u x hu => ?_) ?_))
    | (with_reducible (refine keeps_foldl_snd (fun u x hu => ?_) ?_))
    | split
    | fail_if_no_progress (with_reducible (apply keeps_lit))
    | fail_if_no_progress (with_reducible (apply keeps_sys))

theorem keeps_allocSwath {z s : State} {x : Nat × State} (e : s.allocSwath = some x) (h : Keeps z s) : Keeps z x.2 := by
  unfold State.allocSwath at e
  simp only [Option.map_eq_some_iff] at e
  obtain ⟨y, -, rfl⟩ := e
  exact keeps_turnFrom _ (keeps_takePage_snd _ h)

theorem keeps_allocSwath_pair {z s t : State} {a : Nat} (e : s.allocSwath = some (a, t)) (h : Keeps z s) : Keeps z t :=
  keeps_allocSwath e h

theorem keeps_allocGlean {z s : State} {x : Nat × State} (e : s.allocGlean = some x) (h : Keeps z s) : Keeps z x.2 := by
  unfold State.allocGlean at e
  split at e
  · cases e; exact keeps_takePage_snd _ h
  · split at e
    · cases e; exact keeps_takePage_snd _ (keeps_setRole _ _ h)
    · cases e

theorem keeps_allocGlean_pair {z s t : State} {a : Nat} (e : s.allocGlean = some (a, t)) (h : Keeps z s) : Keeps z t :=
  keeps_allocGlean e h

theorem keeps_allocTlc {z s : State} {x : Nat × State} (e : s.allocTlc = some x) (h : Keeps z s) : Keeps z x.2 := by
  unfold State.allocTlc at e
  split at e
  · cases e; exact keeps_setUsed _ _ h
  · cases e

theorem keeps_allocTlc_pair {z s t : State} {a : Nat} (e : s.allocTlc = some (a, t)) (h : Keeps z s) : Keeps z t :=
  keeps_allocTlc e h

theorem keeps_allocThresh {z s : State} {x : Nat × State} (e : s.allocThresh = some x) (h : Keeps z s) : Keeps z x.2 := by
  unfold State.allocThresh at e
  simp only [Option.map_eq_some_iff] at e
  obtain ⟨y, -, rfl⟩ := e
  exact keeps_turnFrom _ (keeps_setUsed _ _ h)

theorem keeps_allocThresh_pair {z s t : State} {a : Nat} (e : s.allocThresh = some (a, t)) (h : Keeps z s) : Keeps z t :=
  keeps_allocThresh e h

theorem keeps_allocNarrow {z s : State} {tlc : Bool} {km : List Nat} {j : Nat} {m : SMap Nat} {x : Nat × List Nat × SMap Nat × State}
    (e : s.allocNarrow tlc km j m = some x) (h : Keeps z s) : Keeps z x.2.2.2 := by
  unfold State.allocNarrow at e
  simp only [Option.map_eq_some_iff] at e
  obtain ⟨y, -, rfl⟩ := e
  dsimp only
  split
  · exact keeps_setRole _ _ (keeps_turnFrom _ (keeps_setUsed _ _ h))
  · exact keeps_turnFrom _ (keeps_setUsed _ _ h)

theorem keeps_putSheaf {z s : State} (a : Nat) (v : Sheaf) (hz : Keeps z s) :
    Keeps z (s.putSheaf a v) := by
  unfold State.putSheaf
  (try dsimp only)
  repeat' first
    | (with_reducible assumption)
    | (with_reducible (refine keeps_foldl (fun u x hu => ?_) ?_))
    | (with_reducible (refine keeps_foldl_fst (fun u x hu => ?_) ?_))
    | (with_reducible (refine keeps_foldl_snd (fun u x hu => ?_) ?_))
    | split
    | fail_if_no_progress (with_reducible (apply keeps_lit))
    | fail_if_no_progress (with_reducible (apply keeps_sys))

theorem keeps_freeStooks {z s : State}  (hz : Keeps z s) :
    Keeps z (s.freeStooks ) := by
  unfold State.freeStooks
  (try dsimp only)
  repeat' first
    | (with_reducible assumption)
    | (with_reducible (apply keeps_setRole))
    | (with_reducible (refine keeps_foldl (fun u x hu => ?_) ?_))
    | (with_reducible (refine keeps_foldl_fst (fun u x hu => ?_) ?_))
    | (with_reducible (refine keeps_foldl_snd (fun u x hu => ?_) ?_))
    | split
    | fail_if_no_progress (with_reducible (apply keeps_lit))
    | fail_if_no_progress (with_reducible (apply keeps_sys))

theorem keeps_spareCheck {z s : State}  (hz : Keeps z s) :
    Keeps z (s.spareCheck ) := by
  unfold State.spareCheck
  (try dsimp only)
  repeat' first
    | (with_reducible assumption)
    | (with_reducible (apply keeps_setFlag))
    | (with_reducible (refine keeps_foldl (fun u x hu => ?_) ?_))
    | (with_reducible (refine keeps_foldl_fst (fun u x hu => ?_) ?_))
    | (with_reducible (refine keeps_foldl_snd (fun u x hu => ?_) ?_))
    | split
    | fail_if_no_progress (with_reducible (apply keeps_lit))
    | fail_if_no_progress (with_reducible (apply keeps_sys))

theorem keeps_remapColumn {z s : State} (n ch page reason : Nat) (h : Keeps z s) : Keeps z (s.remapColumn n ch page reason).1 := by
  unfold State.remapColumn
  split
  · exact h
  · exact keeps_spareCheck (keeps_ledger _ h)

theorem keeps_remapColumn_pair {z s t : State} {n ch page reason : Nat} {b : Bool} (e : s.remapColumn n ch page reason = (t, b))
    (h : Keeps z s) : Keeps z t := by
  have := keeps_remapColumn n ch page reason h; rw [e] at this; exact this

theorem keeps_remapWorn {z s : State} (n : Nat) (h : Keeps z s) : Keeps z (s.remapWorn n).1 := by
  unfold State.remapWorn
  refine keeps_foldl_fst (fun u x hu => ?_) h
  dsimp only
  repeat' split
  all_goals first
    | exact hu
    | exact keeps_remapColumn _ _ _ _ hu

theorem keeps_remapWorn_pair {z s t : State} {n : Nat} {b : Bool} (e : s.remapWorn n = (t, b)) (h : Keeps z s) : Keeps z t := by
  have := keeps_remapWorn n h; rw [e] at this; exact this

theorem keeps_withdraw {z s : State} (n : Nat) (hz : Keeps z s) :
    Keeps z (s.withdraw n) := by
  unfold State.withdraw
  (try dsimp only)
  repeat' first
    | (with_reducible assumption)
    | (with_reducible (apply keeps_spareCheck))
    | (with_reducible (apply keeps_setRole))
    | (with_reducible (apply keeps_setFlag))
    | (with_reducible (refine keeps_foldl (fun u x hu => ?_) ?_))
    | (with_reducible (refine keeps_foldl_fst (fun u x hu => ?_) ?_))
    | (with_reducible (refine keeps_foldl_snd (fun u x hu => ?_) ?_))
    | split
    | fail_if_no_progress (with_reducible (apply keeps_lit))
    | fail_if_no_progress (with_reducible (apply keeps_sys))

theorem keeps_planErase {z s : State} (n : Nat) (tlc : Bool) (hz : Keeps z s) :
    Keeps z (s.planErase n tlc) := by
  unfold State.planErase
  (try dsimp only)
  repeat' first
    | (with_reducible assumption)
    | (with_reducible (apply keeps_withdraw))
    | (with_reducible (apply keeps_remapWorn))
    | (with_reducible (refine keeps_remapWorn_pair (by assumption) ?_))
    | (with_reducible (apply keeps_ledger))
    | (with_reducible (refine keeps_foldl (fun u x hu => ?_) ?_))
    | (with_reducible (refine keeps_foldl_fst (fun u x hu => ?_) ?_))
    | (with_reducible (refine keeps_foldl_snd (fun u x hu => ?_) ?_))
    | split
    | fail_if_no_progress (with_reducible (apply keeps_lit))
    | fail_if_no_progress (with_reducible (apply keeps_sys))

theorem keeps_fillReserve {z s : State} (b : Bool) (k : Nat) (h : Keeps z s) : Keeps z (s.fillReserve b k) := by
  induction k generalizing s with
  | zero => exact h
  | succ k ih =>
    unfold State.fillReserve
    split
    · split
      · exact ih (keeps_setRole _ _ h)
      · exact h
    · exact h

theorem keeps_reserveFlag {z s : State}  (hz : Keeps z s) :
    Keeps z (s.reserveFlag ) := by
  unfold State.reserveFlag
  (try dsimp only)
  repeat' first
    | (with_reducible assumption)
    | (with_reducible (apply keeps_setFlag))
    | (with_reducible (refine keeps_foldl (fun u x hu => ?_) ?_))
    | (with_reducible (refine keeps_foldl_fst (fun u x hu => ?_) ?_))
    | (with_reducible (refine keeps_foldl_snd (fun u x hu => ?_) ?_))
    | split
    | fail_if_no_progress (with_reducible (apply keeps_lit))
    | fail_if_no_progress (with_reducible (apply keeps_sys))

theorem keeps_refill {z s : State}  (hz : Keeps z s) :
    Keeps z (s.refill ) := by
  unfold State.refill
  (try dsimp only)
  repeat' first
    | (with_reducible assumption)
    | (with_reducible (apply keeps_reserveFlag))
    | (with_reducible (apply keeps_fillReserve))
    | (with_reducible (apply keeps_planErase))
    | (with_reducible (apply keeps_freeStooks))
    | (with_reducible (apply keeps_swathCheck))
    | (with_reducible (refine keeps_foldl (fun u x hu => ?_) ?_))
    | (with_reducible (refine keeps_foldl_fst (fun u x hu => ?_) ?_))
    | (with_reducible (refine keeps_foldl_snd (fun u x hu => ?_) ?_))
    | split
    | fail_if_no_progress (with_reducible (apply keeps_lit))
    | fail_if_no_progress (with_reducible (apply keeps_sys))

theorem keeps_joinPool {z s : State} (n : Nat) (tlc : Bool) (hz : Keeps z s) :
    Keeps z (s.joinPool n tlc) := by
  unfold State.joinPool
  (try dsimp only)
  repeat' first
    | (with_reducible assumption)
    | (with_reducible (apply keeps_reserveFlag))
    | (with_reducible (apply keeps_fillReserve))
    | (with_reducible (apply keeps_planErase))
    | (with_reducible (apply keeps_swathCheck))
    | (with_reducible (apply keeps_setRole))
    | (with_reducible (apply keeps_setUsed))
    | (with_reducible (apply keeps_setFlag))
    | (with_reducible (refine keeps_foldl (fun u x hu => ?_) ?_))
    | (with_reducible (refine keeps_foldl_fst (fun u x hu => ?_) ?_))
    | (with_reducible (refine keeps_foldl_snd (fun u x hu => ?_) ?_))
    | split
    | fail_if_no_progress (with_reducible (apply keeps_lit))
    | fail_if_no_progress (with_reducible (apply keeps_sys))

theorem keeps_logTake_snd {z s : State} (h : Keeps z s) : Keeps z (s.logTake).2 := keeps_same (s := s) rfl rfl rfl rfl rfl h

theorem keeps_logTake {z s t : State} {n : Nat} (e : s.logTake = (n, t)) (h : Keeps z s) : Keeps z t := by
  have := keeps_logTake_snd h; rw [e] at this; exact this

theorem keeps_logPut {z s : State} (at' : Nat) (bs : List Byte) (hz : Keeps z s) :
    Keeps z (s.logPut at' bs) := by
  unfold State.logPut
  (try dsimp only)
  repeat' first
    | (with_reducible assumption)
    | (with_reducible (refine keeps_foldl (fun u x hu => ?_) ?_))
    | (with_reducible (refine keeps_foldl_fst (fun u x hu => ?_) ?_))
    | (with_reducible (refine keeps_foldl_snd (fun u x hu => ?_) ?_))
    | split
    | fail_if_no_progress (with_reducible (apply keeps_lit))
    | fail_if_no_progress (with_reducible (apply keeps_sys))

theorem keeps_logTwice_snd {z s : State} (bs : List Byte) (h : Keeps z s) : Keeps z (s.logTwice bs).2 := keeps_same (s := s) rfl rfl rfl rfl rfl h

theorem keeps_logTwice {z s t : State} {bs : List Byte} {n : List Nat} (e : s.logTwice bs = (n, t)) (h : Keeps z s) : Keeps z t := by
  have := keeps_logTwice_snd bs h; rw [e] at this; exact this

theorem keeps_anchorWrite {z s : State} (b : BootAnchor) (hz : Keeps z s) :
    Keeps z (s.anchorWrite b) := by
  unfold State.anchorWrite
  (try dsimp only)
  repeat' first
    | (with_reducible assumption)
    | (with_reducible (apply keeps_logTwice_snd))
    | (with_reducible (refine keeps_logTwice (by assumption) ?_))
    | (with_reducible (refine keeps_foldl (fun u x hu => ?_) ?_))
    | (with_reducible (refine keeps_foldl_fst (fun u x hu => ?_) ?_))
    | (with_reducible (refine keeps_foldl_snd (fun u x hu => ?_) ?_))
    | split
    | fail_if_no_progress (with_reducible (apply keeps_lit))
    | fail_if_no_progress (with_reducible (apply keeps_sys))

theorem keeps_logSwitch {z s : State}  (hz : Keeps z s) :
    Keeps z (s.logSwitch ) := by
  unfold State.logSwitch
  (try dsimp only)
  repeat' first
    | (with_reducible assumption)
    | (with_reducible (apply keeps_anchorWrite))
    | (with_reducible (apply keeps_logTwice_snd))
    | (with_reducible (refine keeps_logTwice (by assumption) ?_))
    | (with_reducible (apply keeps_planErase))
    | (with_reducible (refine keeps_foldl (fun u x hu => ?_) ?_))
    | (with_reducible (refine keeps_foldl_fst (fun u x hu => ?_) ?_))
    | (with_reducible (refine keeps_foldl_snd (fun u x hu => ?_) ?_))
    | split
    | fail_if_no_progress (with_reducible (apply keeps_lit))
    | fail_if_no_progress (with_reducible (apply keeps_sys))

theorem keeps_writeBoot {z s : State} (f : BootAnchor → BootAnchor) (hz : Keeps z s) :
    Keeps z (s.writeBoot f) := by
  unfold State.writeBoot
  (try dsimp only)
  repeat' first
    | (with_reducible assumption)
    | (with_reducible (apply keeps_logSwitch))
    | (with_reducible (apply keeps_anchorWrite))
    | (with_reducible (apply keeps_setFld))
    | (with_reducible (refine keeps_foldl (fun u x hu => ?_) ?_))
    | (with_reducible (refine keeps_foldl_fst (fun u x hu => ?_) ?_))
    | (with_reducible (refine keeps_foldl_snd (fun u x hu => ?_) ?_))
    | split
    | fail_if_no_progress (with_reducible (apply keeps_lit))
    | fail_if_no_progress (with_reducible (apply keeps_sys))

theorem keeps_exchangeLedger {z s : State} (n : Nat) (hz : Keeps z s) :
    Keeps z (s.exchangeLedger n) := by
  unfold State.exchangeLedger
  (try dsimp only)
  repeat' first
    | (with_reducible assumption)
    | (with_reducible (apply keeps_setRole))
    | (with_reducible (refine keeps_foldl (fun u x hu => ?_) ?_))
    | (with_reducible (refine keeps_foldl_fst (fun u x hu => ?_) ?_))
    | (with_reducible (refine keeps_foldl_snd (fun u x hu => ?_) ?_))
    | split
    | fail_if_no_progress (with_reducible (apply keeps_lit))
    | fail_if_no_progress (with_reducible (apply keeps_sys))

theorem keeps_writeCommit {z s : State} (es : List LedgerEntry) (hz : Keeps z s) :
    Keeps z (s.writeCommit es) := by
  unfold State.writeCommit
  (try dsimp only)
  repeat' first
    | (with_reducible assumption)
    | (with_reducible (apply keeps_setFld))
    | (with_reducible (refine keeps_foldl (fun u x hu => ?_) ?_))
    | (with_reducible (refine keeps_foldl_fst (fun u x hu => ?_) ?_))
    | (with_reducible (refine keeps_foldl_snd (fun u x hu => ?_) ?_))
    | split
    | fail_if_no_progress (with_reducible (apply keeps_lit))
    | fail_if_no_progress (with_reducible (apply keeps_sys))

theorem keeps_checkpointRecs {z s : State} (h : Keeps z s) : Keeps z (s.checkpointRecs).2 := by
  unfold State.checkpointRecs
  exact keeps_foldl_snd (fun u x hu => keeps_takeSeq_snd hu) h

theorem keeps_checkpointRecs_pair {z s t : State} {n : List LedgerEntry} (e : s.checkpointRecs = (n, t)) (h : Keeps z s) : Keeps z t := by
  have := keeps_checkpointRecs h; rw [e] at this; exact this

theorem keeps_linkLedger {z s : State}  (hz : Keeps z s) :
    Keeps z (s.linkLedger ) := by
  unfold State.linkLedger
  (try dsimp only)
  repeat' first
    | (with_reducible assumption)
    | (with_reducible (apply keeps_checkpointRecs))
    | (with_reducible (refine keeps_checkpointRecs_pair (by assumption) ?_))
    | (with_reducible (apply keeps_writeCommit))
    | (with_reducible (apply keeps_exchangeLedger))
    | (with_reducible (apply keeps_writeBoot))
    | (with_reducible (apply keeps_planErase))
    | (with_reducible (apply keeps_takeSeq_snd))
    | (with_reducible (refine keeps_takeSeq (by assumption) ?_))
    | (with_reducible (apply keeps_setFld))
    | (with_reducible (refine keeps_foldl (fun u x hu => ?_) ?_))
    | (with_reducible (refine keeps_foldl_fst (fun u x hu => ?_) ?_))
    | (with_reducible (refine keeps_foldl_snd (fun u x hu => ?_) ?_))
    | split
    | fail_if_no_progress (with_reducible (apply keeps_lit))
    | fail_if_no_progress (with_reducible (apply keeps_sys))

theorem keeps_confirmRecs {z s : State} (es : List LedgerEntry) (hz : Keeps z s) :
    Keeps z (s.confirmRecs es) := by
  unfold State.confirmRecs
  (try dsimp only)
  repeat' first
    | (with_reducible assumption)
    | (with_reducible (apply keeps_joinPool))
    | (with_reducible (apply keeps_wrap))
    | (with_reducible (refine keeps_foldl (fun u x hu => ?_) ?_))
    | (with_reducible (refine keeps_foldl_fst (fun u x hu => ?_) ?_))
    | (with_reducible (refine keeps_foldl_snd (fun u x hu => ?_) ?_))
    | split
    | fail_if_no_progress (with_reducible (apply keeps_lit))
    | fail_if_no_progress (with_reducible (apply keeps_sys))

theorem keeps_commitLedger {z s : State}  (hz : Keeps z s) :
    Keeps z (s.commitLedger ) := by
  unfold State.commitLedger
  (try dsimp only)
  repeat' first
    | (with_reducible assumption)
    | (with_reducible (apply keeps_confirmRecs))
    | (with_reducible (apply keeps_linkLedger))
    | (with_reducible (apply keeps_writeCommit))
    | (with_reducible (apply keeps_numberLedger))
    | (with_reducible (refine keeps_foldl (fun u x hu => ?_) ?_))
    | (with_reducible (refine keeps_foldl_fst (fun u x hu => ?_) ?_))
    | (with_reducible (refine keeps_foldl_snd (fun u x hu => ?_) ?_))
    | split
    | fail_if_no_progress (with_reducible (apply keeps_lit))
    | fail_if_no_progress (with_reducible (apply keeps_sys))

theorem keeps_commitNow {z s : State} (b : LedgerRec) (hz : Keeps z s) :
    Keeps z (s.commitNow b) := by
  unfold State.commitNow
  (try dsimp only)
  repeat' first
    | (with_reducible assumption)
    | (with_reducible (apply keeps_commitLedger))
    | (with_reducible (apply keeps_ledger))
    | (with_reducible (refine keeps_foldl (fun u x hu => ?_) ?_))
    | (with_reducible (refine keeps_foldl_fst (fun u x hu => ?_) ?_))
    | (with_reducible (refine keeps_foldl_snd (fun u x hu => ?_) ?_))
    | split
    | fail_if_no_progress (with_reducible (apply keeps_lit))
    | fail_if_no_progress (with_reducible (apply keeps_sys))

theorem keeps_chainTake {z s : State} (n : Nat) (h : Keeps z s) : Keeps z (s.chainTake n).2 := by
  induction n generalizing s with
  | zero => exact h
  | succ n ih => exact ih (keeps_lit _ h)

theorem keeps_chainTake_pair {z s t : State} {k : Nat} {n : List Nat} (e : s.chainTake k = (n, t)) (h : Keeps z s) : Keeps z t := by
  have := keeps_chainTake k h; rw [e] at this; exact this

theorem keeps_chainRoom {z s : State}  (hz : Keeps z s) :
    Keeps z (s.chainRoom ) := by
  unfold State.chainRoom
  (try dsimp only)
  repeat' first
    | (with_reducible assumption)
    | (with_reducible (apply keeps_ledger))
    | (with_reducible (refine keeps_foldl (fun u x hu => ?_) ?_))
    | (with_reducible (refine keeps_foldl_fst (fun u x hu => ?_) ?_))
    | (with_reducible (refine keeps_foldl_snd (fun u x hu => ?_) ?_))
    | split
    | fail_if_no_progress (with_reducible (apply keeps_lit))
    | fail_if_no_progress (with_reducible (apply keeps_sys))

theorem keeps_sramPut {z s : State} (i : Nat) (ls : List LineData) (h : Keeps z s) : Keeps z (s.sramPut i ls) := by
  induction ls generalizing s i with
  | nil => exact h
  | cons l ls ih => exact ih _ (keeps_same (s := s) rfl rfl rfl rfl rfl h)

theorem keeps_fillEar {z s : State} (buf : Nat) (ls : SMap LineData) (hz : Keeps z s) :
    Keeps z (s.fillEar buf ls) := by
  unfold State.fillEar
  (try dsimp only)
  repeat' first
    | (with_reducible assumption)
    | (with_reducible (refine keeps_foldl (fun u x hu => ?_) ?_))
    | (with_reducible (refine keeps_foldl_fst (fun u x hu => ?_) ?_))
    | (with_reducible (refine keeps_foldl_snd (fun u x hu => ?_) ?_))
    | split
    | fail_if_no_progress (with_reducible (apply keeps_lit))
    | fail_if_no_progress (with_reducible (apply keeps_sys))

theorem keeps_putEar {z s : State} (key : Nat) (e : Ear) (hz : Keeps z s) :
    Keeps z (s.putEar key e) := by
  unfold State.putEar
  (try dsimp only)
  repeat' first
    | (with_reducible assumption)
    | (with_reducible (refine keeps_foldl (fun u x hu => ?_) ?_))
    | (with_reducible (refine keeps_foldl_fst (fun u x hu => ?_) ?_))
    | (with_reducible (refine keeps_foldl_snd (fun u x hu => ?_) ?_))
    | split
    | fail_if_no_progress (with_reducible (apply keeps_lit))
    | fail_if_no_progress (with_reducible (apply keeps_sys))

theorem keeps_voidEar {z s : State} (key : Nat) (hz : Keeps z s) :
    Keeps z (s.voidEar key) := by
  unfold State.voidEar
  (try dsimp only)
  repeat' first
    | (with_reducible assumption)
    | (with_reducible (apply keeps_putEar))
    | (with_reducible (refine keeps_foldl (fun u x hu => ?_) ?_))
    | (with_reducible (refine keeps_foldl_fst (fun u x hu => ?_) ?_))
    | (with_reducible (refine keeps_foldl_snd (fun u x hu => ?_) ?_))
    | split
    | fail_if_no_progress (with_reducible (apply keeps_lit))
    | fail_if_no_progress (with_reducible (apply keeps_sys))

theorem keeps_dropEars {z s : State} (ch d b : Nat) (hz : Keeps z s) :
    Keeps z (s.dropEars ch d b) := by
  unfold State.dropEars
  (try dsimp only)
  repeat' first
    | (with_reducible assumption)
    | (with_reducible (refine keeps_foldl (fun u x hu => ?_) ?_))
    | (with_reducible (refine keeps_foldl_fst (fun u x hu => ?_) ?_))
    | (with_reducible (refine keeps_foldl_snd (fun u x hu => ?_) ?_))
    | split
    | fail_if_no_progress (with_reducible (apply keeps_lit))
    | fail_if_no_progress (with_reducible (apply keeps_sys))

theorem keeps_setD {z s : State} (g : Nat) (d : Dirty) (hz : Keeps z s) :
    Keeps z (s.setD g d) := by
  unfold State.setD
  (try dsimp only)
  repeat' first
    | (with_reducible assumption)
    | (with_reducible (refine keeps_foldl (fun u x hu => ?_) ?_))
    | (with_reducible (refine keeps_foldl_fst (fun u x hu => ?_) ?_))
    | (with_reducible (refine keeps_foldl_snd (fun u x hu => ?_) ?_))
    | split
    | fail_if_no_progress (with_reducible (apply keeps_lit))
    | fail_if_no_progress (with_reducible (apply keeps_sys))

theorem keeps_setSmap {z s : State} (g : Nat) (e : MapEntry) (hz : Keeps z s) :
    Keeps z (s.setSmap g e) := by
  unfold State.setSmap
  (try dsimp only)
  repeat' first
    | (with_reducible assumption)
    | (with_reducible (refine keeps_foldl (fun u x hu => ?_) ?_))
    | (with_reducible (refine keeps_foldl_fst (fun u x hu => ?_) ?_))
    | (with_reducible (refine keeps_foldl_snd (fun u x hu => ?_) ?_))
    | split
    | fail_if_no_progress (with_reducible (apply keeps_lit))
    | fail_if_no_progress (with_reducible (apply keeps_sys))

theorem keeps_setCmap {z s : State} (c : Nat) (e : MapEntry) (hz : Keeps z s) :
    Keeps z (s.setCmap c e) := by
  unfold State.setCmap
  (try dsimp only)
  repeat' first
    | (with_reducible assumption)
    | (with_reducible (refine keeps_foldl (fun u x hu => ?_) ?_))
    | (with_reducible (refine keeps_foldl_fst (fun u x hu => ?_) ?_))
    | (with_reducible (refine keeps_foldl_snd (fun u x hu => ?_) ?_))
    | split
    | fail_if_no_progress (with_reducible (apply keeps_lit))
    | fail_if_no_progress (with_reducible (apply keeps_sys))

theorem keeps_setAllDirty {z s : State} (i : Nat) (hz : Keeps z s) :
    Keeps z (s.setAllDirty i) := by
  unfold State.setAllDirty
  (try dsimp only)
  repeat' first
    | (with_reducible assumption)
    | (with_reducible (apply keeps_setBit))
    | (with_reducible (apply keeps_setFlag))
    | (with_reducible (refine keeps_foldl (fun u x hu => ?_) ?_))
    | (with_reducible (refine keeps_foldl_fst (fun u x hu => ?_) ?_))
    | (with_reducible (refine keeps_foldl_snd (fun u x hu => ?_) ?_))
    | split
    | fail_if_no_progress (with_reducible (apply keeps_lit))
    | fail_if_no_progress (with_reducible (apply keeps_sys))

theorem keeps_clearAllDirty {z s : State}  (hz : Keeps z s) :
    Keeps z (s.clearAllDirty ) := by
  unfold State.clearAllDirty
  (try dsimp only)
  repeat' first
    | (with_reducible assumption)
    | (with_reducible (apply keeps_setFlag))
    | (with_reducible (apply keeps_setFld))
    | (with_reducible (refine keeps_foldl (fun u x hu => ?_) ?_))
    | (with_reducible (refine keeps_foldl_fst (fun u x hu => ?_) ?_))
    | (with_reducible (refine keeps_foldl_snd (fun u x hu => ?_) ?_))
    | split
    | fail_if_no_progress (with_reducible (apply keeps_lit))
    | fail_if_no_progress (with_reducible (apply keeps_sys))

theorem keeps_tuneRegion {z s : State} (r : Nat) (v : Region) (hz : Keeps z s) :
    Keeps z (s.tuneRegion r v) := by
  unfold State.tuneRegion
  (try dsimp only)
  repeat' first
    | (with_reducible assumption)
    | (with_reducible (refine keeps_foldl (fun u x hu => ?_) ?_))
    | (with_reducible (refine keeps_foldl_fst (fun u x hu => ?_) ?_))
    | (with_reducible (refine keeps_foldl_snd (fun u x hu => ?_) ?_))
    | split
    | fail_if_no_progress (with_reducible (apply keeps_lit))
    | fail_if_no_progress (with_reducible (apply keeps_sys))

theorem keeps_setRegion {z s : State} (r : Nat) (v : Region) (hz : Keeps z s) :
    Keeps z (s.setRegion r v) := by
  unfold State.setRegion
  (try dsimp only)
  repeat' first
    | (with_reducible assumption)
    | (with_reducible (apply keeps_tuneRegion))
    | (with_reducible (apply keeps_commitNow))
    | (with_reducible (refine keeps_foldl (fun u x hu => ?_) ?_))
    | (with_reducible (refine keeps_foldl_fst (fun u x hu => ?_) ?_))
    | (with_reducible (refine keeps_foldl_snd (fun u x hu => ?_) ?_))
    | split
    | fail_if_no_progress (with_reducible (apply keeps_lit))
    | fail_if_no_progress (with_reducible (apply keeps_sys))

theorem keeps_setRegionLater {z s : State} (r : Nat) (v : Region) (hz : Keeps z s) :
    Keeps z (s.setRegionLater r v) := by
  unfold State.setRegionLater
  (try dsimp only)
  repeat' first
    | (with_reducible assumption)
    | (with_reducible (apply keeps_tuneRegion))
    | (with_reducible (apply keeps_ledger))
    | (with_reducible (refine keeps_foldl (fun u x hu => ?_) ?_))
    | (with_reducible (refine keeps_foldl_fst (fun u x hu => ?_) ?_))
    | (with_reducible (refine keeps_foldl_snd (fun u x hu => ?_) ?_))
    | split
    | fail_if_no_progress (with_reducible (apply keeps_lit))
    | fail_if_no_progress (with_reducible (apply keeps_sys))

theorem keeps_regionsHeld {z s : State}  (hz : Keeps z s) :
    Keeps z (s.regionsHeld ) := by
  unfold State.regionsHeld
  (try dsimp only)
  repeat' first
    | (with_reducible assumption)
    | (with_reducible (apply keeps_complete))
    | (with_reducible (refine keeps_foldl (fun u x hu => ?_) ?_))
    | (with_reducible (refine keeps_foldl_fst (fun u x hu => ?_) ?_))
    | (with_reducible (refine keeps_foldl_snd (fun u x hu => ?_) ?_))
    | split
    | fail_if_no_progress (with_reducible (apply keeps_lit))
    | fail_if_no_progress (with_reducible (apply keeps_sys))

theorem keeps_commitAll {z s : State}  (hz : Keeps z s) :
    Keeps z (s.commitAll ) := by
  unfold State.commitAll
  (try dsimp only)
  repeat' first
    | (with_reducible assumption)
    | (with_reducible (apply keeps_regionsHeld))
    | (with_reducible (apply keeps_commitLedger))
    | (with_reducible (refine keeps_foldl (fun u x hu => ?_) ?_))
    | (with_reducible (refine keeps_foldl_fst (fun u x hu => ?_) ?_))
    | (with_reducible (refine keeps_foldl_snd (fun u x hu => ?_) ?_))
    | split
    | fail_if_no_progress (with_reducible (apply keeps_lit))
    | fail_if_no_progress (with_reducible (apply keeps_sys))

theorem keeps_completeLive {z s : State} (e : ExecPkt) (code : Nat) (result : List Byte) (detail : Nat) (hz : Keeps z s) :
    Keeps z (s.completeLive e code result detail) := by
  unfold State.completeLive
  (try dsimp only)
  repeat' first
    | (with_reducible assumption)
    | (with_reducible (apply keeps_complete))
    | (with_reducible (refine keeps_foldl (fun u x hu => ?_) ?_))
    | (with_reducible (refine keeps_foldl_fst (fun u x hu => ?_) ?_))
    | (with_reducible (refine keeps_foldl_snd (fun u x hu => ?_) ?_))
    | split
    | fail_if_no_progress (with_reducible (apply keeps_lit))
    | fail_if_no_progress (with_reducible (apply keeps_sys))

theorem keeps_failClose {z s : State} (r code detail : Nat) (hz : Keeps z s) :
    Keeps z (s.failClose r code detail) := by
  unfold State.failClose
  (try dsimp only)
  repeat' first
    | (with_reducible assumption)
    | (with_reducible (apply keeps_completeLive))
    | (with_reducible (apply keeps_setRegion))
    | (with_reducible (refine keeps_foldl (fun u x hu => ?_) ?_))
    | (with_reducible (refine keeps_foldl_fst (fun u x hu => ?_) ?_))
    | (with_reducible (refine keeps_foldl_snd (fun u x hu => ?_) ?_))
    | split
    | fail_if_no_progress (with_reducible (apply keeps_lit))
    | fail_if_no_progress (with_reducible (apply keeps_sys))

theorem keeps_sealLoss {z s : State} (g : Nat) (hz : Keeps z s) :
    Keeps z (s.sealLoss g) := by
  unfold State.sealLoss
  (try dsimp only)
  repeat' first
    | (with_reducible assumption)
    | (with_reducible (apply keeps_failClose))
    | (with_reducible (refine keeps_foldl (fun u x hu => ?_) ?_))
    | (with_reducible (refine keeps_foldl_fst (fun u x hu => ?_) ?_))
    | (with_reducible (refine keeps_foldl_snd (fun u x hu => ?_) ?_))
    | split
    | fail_if_no_progress (with_reducible (apply keeps_lit))
    | fail_if_no_progress (with_reducible (apply keeps_sys))

theorem keeps_lateWrite {z s : State} (r : Nat) (v : Region) (g : Option Nat) (st : Nat) (checked bad : Bool) (hz : Keeps z s) :
    Keeps z (s.lateWrite r v g st checked bad) := by
  unfold State.lateWrite
  (try dsimp only)
  repeat' first
    | (with_reducible assumption)
    | (with_reducible (refine keeps_foldl (fun u x hu => ?_) ?_))
    | (with_reducible (refine keeps_foldl_fst (fun u x hu => ?_) ?_))
    | (with_reducible (refine keeps_foldl_snd (fun u x hu => ?_) ?_))
    | split
    | fail_if_no_progress (with_reducible (apply keeps_lit))
    | fail_if_no_progress (with_reducible (apply keeps_sys))

theorem keeps_coverWrite {z s : State} (g st : Nat) (hz : Keeps z s) :
    Keeps z (s.coverWrite g st) := by
  unfold State.coverWrite
  (try dsimp only)
  repeat' first
    | (with_reducible assumption)
    | (with_reducible (apply keeps_lateWrite))
    | (with_reducible (refine keeps_foldl (fun u x hu => ?_) ?_))
    | (with_reducible (refine keeps_foldl_fst (fun u x hu => ?_) ?_))
    | (with_reducible (refine keeps_foldl_snd (fun u x hu => ?_) ?_))
    | split
    | fail_if_no_progress (with_reducible (apply keeps_lit))
    | fail_if_no_progress (with_reducible (apply keeps_sys))

theorem keeps_dropSlots {z s : State} (g : Nat) (hz : Keeps z s) :
    Keeps z (s.dropSlots g) := by
  unfold State.dropSlots
  (try dsimp only)
  repeat' first
    | (with_reducible assumption)
    | (with_reducible (refine keeps_foldl (fun u x hu => ?_) ?_))
    | (with_reducible (refine keeps_foldl_fst (fun u x hu => ?_) ?_))
    | (with_reducible (refine keeps_foldl_snd (fun u x hu => ?_) ?_))
    | split
    | fail_if_no_progress (with_reducible (apply keeps_lit))
    | fail_if_no_progress (with_reducible (apply keeps_sys))

theorem keeps_setRepair {z s : State} (g st : Nat) (hz : Keeps z s) :
    Keeps z (s.setRepair g st) := by
  unfold State.setRepair
  (try dsimp only)
  repeat' first
    | (with_reducible assumption)
    | (with_reducible (refine keeps_foldl (fun u x hu => ?_) ?_))
    | (with_reducible (refine keeps_foldl_fst (fun u x hu => ?_) ?_))
    | (with_reducible (refine keeps_foldl_snd (fun u x hu => ?_) ?_))
    | split
    | fail_if_no_progress (with_reducible (apply keeps_lit))
    | fail_if_no_progress (with_reducible (apply keeps_sys))

theorem keeps_flagAt {z s : State} (g st : Nat) (hz : Keeps z s) :
    Keeps z (s.flagAt g st) := by
  unfold State.flagAt
  (try dsimp only)
  repeat' first
    | (with_reducible assumption)
    | (with_reducible (apply keeps_setRepair))
    | (with_reducible (apply keeps_coverWrite))
    | (with_reducible (refine keeps_foldl (fun u x hu => ?_) ?_))
    | (with_reducible (refine keeps_foldl_fst (fun u x hu => ?_) ?_))
    | (with_reducible (refine keeps_foldl_snd (fun u x hu => ?_) ?_))
    | split
    | fail_if_no_progress (with_reducible (apply keeps_lit))
    | fail_if_no_progress (with_reducible (apply keeps_sys))

theorem keeps_flagIncomplete {z s : State} (g : Nat) (hz : Keeps z s) :
    Keeps z (s.flagIncomplete g) := by
  unfold State.flagIncomplete
  (try dsimp only)
  repeat' first
    | (with_reducible assumption)
    | (with_reducible (apply keeps_flagAt))
    | (with_reducible (refine keeps_foldl (fun u x hu => ?_) ?_))
    | (with_reducible (refine keeps_foldl_fst (fun u x hu => ?_) ?_))
    | (with_reducible (refine keeps_foldl_snd (fun u x hu => ?_) ?_))
    | split
    | fail_if_no_progress (with_reducible (apply keeps_lit))
    | fail_if_no_progress (with_reducible (apply keeps_sys))

theorem keeps_gleanLoss {z s : State} (g st : Nat) (move : Bool) (hz : Keeps z s) :
    Keeps z (s.gleanLoss g st move) := by
  unfold State.gleanLoss
  (try dsimp only)
  repeat' first
    | (with_reducible assumption)
    | (with_reducible (apply keeps_setRepair))
    | (with_reducible (apply keeps_dropSlots))
    | (with_reducible (apply keeps_sealLoss))
    | (with_reducible (apply keeps_setD))
    | (with_reducible (apply keeps_note))
    | (with_reducible (refine keeps_foldl (fun u x hu => ?_) ?_))
    | (with_reducible (refine keeps_foldl_fst (fun u x hu => ?_) ?_))
    | (with_reducible (refine keeps_foldl_snd (fun u x hu => ?_) ?_))
    | split
    | fail_if_no_progress (with_reducible (apply keeps_lit))
    | fail_if_no_progress (with_reducible (apply keeps_sys))

theorem keeps_writeLoss {z s : State} (g st : Nat) (hz : Keeps z s) :
    Keeps z (s.writeLoss g st) := by
  unfold State.writeLoss
  (try dsimp only)
  repeat' first
    | (with_reducible assumption)
    | (with_reducible (apply keeps_gleanLoss))
    | (with_reducible (apply keeps_coverWrite))
    | (with_reducible (refine keeps_foldl (fun u x hu => ?_) ?_))
    | (with_reducible (refine keeps_foldl_fst (fun u x hu => ?_) ?_))
    | (with_reducible (refine keeps_foldl_snd (fun u x hu => ?_) ?_))
    | split
    | fail_if_no_progress (with_reducible (apply keeps_lit))
    | fail_if_no_progress (with_reducible (apply keeps_sys))

theorem keeps_bankWrite {z s : State} (g : Nat) (hz : Keeps z s) :
    Keeps z (s.bankWrite g) := by
  unfold State.bankWrite
  (try dsimp only)
  repeat' first
    | (with_reducible assumption)
    | (with_reducible (apply keeps_writeLoss))
    | (with_reducible (apply keeps_setD))
    | (with_reducible (refine keeps_foldl (fun u x hu => ?_) ?_))
    | (with_reducible (refine keeps_foldl_fst (fun u x hu => ?_) ?_))
    | (with_reducible (refine keeps_foldl_snd (fun u x hu => ?_) ?_))
    | split
    | fail_if_no_progress (with_reducible (apply keeps_lit))
    | fail_if_no_progress (with_reducible (apply keeps_sys))

theorem keeps_dirtyTap {z s : State} (g st : Nat) (full : Bool) (hz : Keeps z s) :
    Keeps z (s.dirtyTap g st full) := by
  unfold State.dirtyTap
  (try dsimp only)
  repeat' first
    | (with_reducible assumption)
    | (with_reducible (apply keeps_setAllDirty))
    | (with_reducible (apply keeps_report))
    | (with_reducible (apply keeps_bump))
    | (with_reducible (refine keeps_foldl (fun u x hu => ?_) ?_))
    | (with_reducible (refine keeps_foldl_fst (fun u x hu => ?_) ?_))
    | (with_reducible (refine keeps_foldl_snd (fun u x hu => ?_) ?_))
    | split
    | fail_if_no_progress (with_reducible (apply keeps_lit))
    | fail_if_no_progress (with_reducible (apply keeps_sys))

theorem keeps_gleanTap {z s : State} (ma st : Nat) (v : LineData × CheckBytes) (hz : Keeps z s) :
    Keeps z (s.gleanTap ma st v) := by
  unfold State.gleanTap
  (try dsimp only)
  repeat' first
    | (with_reducible assumption)
    | (with_reducible (apply keeps_writeLoss))
    | (with_reducible (apply keeps_flagAt))
    | (with_reducible (apply keeps_bump))
    | (with_reducible (refine keeps_foldl (fun u x hu => ?_) ?_))
    | (with_reducible (refine keeps_foldl_fst (fun u x hu => ?_) ?_))
    | (with_reducible (refine keeps_foldl_snd (fun u x hu => ?_) ?_))
    | split
    | fail_if_no_progress (with_reducible (apply keeps_lit))
    | fail_if_no_progress (with_reducible (apply keeps_sys))

theorem keeps_landed {z s : State} (n : Nat) (hz : Keeps z s) :
    Keeps z (s.landed n) := by
  unfold State.landed
  (try dsimp only)
  repeat' first
    | (with_reducible assumption)
    | (with_reducible (refine keeps_foldl (fun u x hu => ?_) ?_))
    | (with_reducible (refine keeps_foldl_fst (fun u x hu => ?_) ?_))
    | (with_reducible (refine keeps_foldl_snd (fun u x hu => ?_) ?_))
    | split
    | fail_if_no_progress (with_reducible (apply keeps_lit))
    | fail_if_no_progress (with_reducible (apply keeps_sys))

theorem keeps_takeGlean {z s : State} {x : Nat × State} (e : s.takeGlean = some x) (h : Keeps z s) : Keeps z x.2 := by
  unfold State.takeGlean at e
  simp only [Option.map_eq_some_iff] at e
  obtain ⟨y, hy, rfl⟩ := e
  exact keeps_reserveFlag (keeps_allocGlean hy h)

theorem keeps_takeGlean_pair {z s t : State} {a : Nat} (e : s.takeGlean = some (a, t)) (h : Keeps z s) : Keeps z t :=
  keeps_takeGlean e h

theorem keeps_writeCheck {z s t : State} {c typ kind : Nat} {gs : List (Nat × SMap CheckBytes)}
    (e : s.writeCheck c typ kind gs = some t) (h : Keeps z s) : Keeps z t := by
  unfold State.writeCheck at e
  simp only [Option.map_eq_some_iff] at e
  obtain ⟨y, hy, rfl⟩ := e
  exact keeps_landed _ (keeps_setCmap _ _ (keeps_putSheaf _ _ (keeps_takeGlean hy h)))

theorem keeps_applyGroup {z s : State} (c : Nat) (hz : Keeps z s) :
    Keeps z (s.applyGroup c) := by
  unfold State.applyGroup
  (try dsimp only)
  repeat' first
    | (with_reducible assumption)
    | (with_reducible (refine keeps_writeCheck (by assumption) ?_))
    | (with_reducible (apply keeps_setSmap))
    | (with_reducible (apply keeps_setD))
    | (with_reducible (refine keeps_foldl (fun u x hu => ?_) ?_))
    | (with_reducible (refine keeps_foldl_fst (fun u x hu => ?_) ?_))
    | (with_reducible (refine keeps_foldl_snd (fun u x hu => ?_) ?_))
    | split
    | fail_if_no_progress (with_reducible (apply keeps_lit))
    | fail_if_no_progress (with_reducible (apply keeps_sys))

theorem keeps_applyConfirms {z s : State}  (hz : Keeps z s) :
    Keeps z (s.applyConfirms ) := by
  unfold State.applyConfirms
  (try dsimp only)
  repeat' first
    | (with_reducible assumption)
    | (with_reducible (apply keeps_applyGroup))
    | (with_reducible (refine keeps_foldl (fun u x hu => ?_) ?_))
    | (with_reducible (refine keeps_foldl_fst (fun u x hu => ?_) ?_))
    | (with_reducible (refine keeps_foldl_snd (fun u x hu => ?_) ?_))
    | split
    | fail_if_no_progress (with_reducible (apply keeps_lit))
    | fail_if_no_progress (with_reducible (apply keeps_sys))

theorem keeps_mark {z s : State} (g st : Nat) (hz : Keeps z s) :
    Keeps z (s.mark g st) := by
  unfold State.mark
  (try dsimp only)
  repeat' first
    | (with_reducible assumption)
    | (with_reducible (apply keeps_setD))
    | (with_reducible (refine keeps_foldl (fun u x hu => ?_) ?_))
    | (with_reducible (refine keeps_foldl_fst (fun u x hu => ?_) ?_))
    | (with_reducible (refine keeps_foldl_snd (fun u x hu => ?_) ?_))
    | split
    | fail_if_no_progress (with_reducible (apply keeps_lit))
    | fail_if_no_progress (with_reducible (apply keeps_sys))

theorem keeps_applyMarks {z s : State}  (hz : Keeps z s) :
    Keeps z (s.applyMarks ) := by
  unfold State.applyMarks
  (try dsimp only)
  repeat' first
    | (with_reducible assumption)
    | (with_reducible (apply keeps_mark))
    | (with_reducible (refine keeps_foldl (fun u x hu => ?_) ?_))
    | (with_reducible (refine keeps_foldl_fst (fun u x hu => ?_) ?_))
    | (with_reducible (refine keeps_foldl_snd (fun u x hu => ?_) ?_))
    | split
    | fail_if_no_progress (with_reducible (apply keeps_lit))
    | fail_if_no_progress (with_reducible (apply keeps_sys))

theorem keeps_execForceFull {z s : State}  (hz : Keeps z s) :
    KeepsO z (execForceFull s) := by
  unfold execForceFull
  (try dsimp only)
  repeat' first
    | (with_reducible assumption)
    | (with_reducible (apply keeps_setAllDirty))
    | (with_reducible (apply keepsO_next))
    | (with_reducible (refine keeps_foldl (fun u x hu => ?_) ?_))
    | (with_reducible (refine keeps_foldl_fst (fun u x hu => ?_) ?_))
    | (with_reducible (refine keeps_foldl_snd (fun u x hu => ?_) ?_))
    | split
    | fail_if_no_progress (with_reducible (apply keeps_lit))
    | fail_if_no_progress (with_reducible (apply keeps_sys))

theorem keeps_execPerMapSelWrite {z s : State} (v : Word) (hz : Keeps z s) :
    KeepsO z (execPerMapSelWrite v s) := by
  unfold execPerMapSelWrite
  (try dsimp only)
  repeat' first
    | (with_reducible assumption)
    | (with_reducible (apply keeps_setFld))
    | (with_reducible (apply keepsO_next))
    | (with_reducible (refine keeps_foldl (fun u x hu => ?_) ?_))
    | (with_reducible (refine keeps_foldl_fst (fun u x hu => ?_) ?_))
    | (with_reducible (refine keeps_foldl_snd (fun u x hu => ?_) ?_))
    | split
    | fail_if_no_progress (with_reducible (apply keeps_lit))
    | fail_if_no_progress (with_reducible (apply keeps_sys))

theorem keeps_flushRange {z s : State} (first count : Nat) (h : Keeps z s) : Keeps z (s.flushRange first count).2.2 :=
  keeps_same (s := s) rfl rfl rfl rfl rfl h

theorem keeps_flushRange_pair {z s t : State} {first count a b : Nat} (e : s.flushRange first count = (a, b, t)) (h : Keeps z s) :
    Keeps z t := by
  have := keeps_flushRange first count h; rw [e] at this; exact this

end Sys2Proof.Laws
end

