-- ==== Sys2Proof/Laws/KeepsFlash.lean ====
section
/-! SUPPORT. What every operation keeps (Keeps, of KeepsCore), for gleaning, seals, plans, the flash channel engines, the backside controller, the clocks and saves. -/

set_option linter.all false

namespace Sys2Proof.Laws

open Sys2Proof.Machine Reg

theorem keeps_putSlot {z s : State} (x : Slot) (hz : Keeps z s) :
    Keeps z (s.putSlot x) := by
  unfold State.putSlot
  (try dsimp only)
  repeat' first
    | (with_reducible assumption)
    | (with_reducible (refine keeps_foldl (fun u x hu => ?_) ?_))
    | (with_reducible (refine keeps_foldl_fst (fun u x hu => ?_) ?_))
    | (with_reducible (refine keeps_foldl_snd (fun u x hu => ?_) ?_))
    | split
    | fail_if_no_progress (with_reducible (apply keeps_lit))
    | fail_if_no_progress (with_reducible (apply keeps_sys))

theorem keeps_giveAccumulators {z s : State}  (hz : Keeps z s) :
    Keeps z (s.giveAccumulators ) := by
  unfold State.giveAccumulators
  (try dsimp only)
  repeat' first
    | (with_reducible assumption)
    | (with_reducible (refine keeps_foldl (fun u x hu => ?_) ?_))
    | (with_reducible (refine keeps_foldl_fst (fun u x hu => ?_) ?_))
    | (with_reducible (refine keeps_foldl_snd (fun u x hu => ?_) ?_))
    | split
    | fail_if_no_progress (with_reducible (apply keeps_lit))
    | fail_if_no_progress (with_reducible (apply keeps_sys))

theorem keeps_placeSlots {z s : State}  (hz : Keeps z s) :
    Keeps z (s.placeSlots ) := by
  unfold State.placeSlots
  (try dsimp only)
  repeat' first
    | (with_reducible assumption)
    | (with_reducible (apply keeps_putSlot))
    | (with_reducible (refine keeps_takeGlean (by assumption) ?_))
    | (with_reducible (refine keeps_takeGlean_pair (by assumption) ?_))
    | (with_reducible (refine keeps_foldl (fun u x hu => ?_) ?_))
    | (with_reducible (refine keeps_foldl_fst (fun u x hu => ?_) ?_))
    | (with_reducible (refine keeps_foldl_snd (fun u x hu => ?_) ?_))
    | split
    | fail_if_no_progress (with_reducible (apply keeps_lit))
    | fail_if_no_progress (with_reducible (apply keeps_sys))

theorem keeps_handOver {z s : State}  (hz : Keeps z s) :
    Keeps z (s.handOver ) := by
  unfold State.handOver
  (try dsimp only)
  repeat' first
    | (with_reducible assumption)
    | (with_reducible (apply keeps_placeSlots))
    | (with_reducible (apply keeps_giveAccumulators))
    | (with_reducible (refine keeps_foldl (fun u x hu => ?_) ?_))
    | (with_reducible (refine keeps_foldl_fst (fun u x hu => ?_) ?_))
    | (with_reducible (refine keeps_foldl_snd (fun u x hu => ?_) ?_))
    | split
    | fail_if_no_progress (with_reducible (apply keeps_lit))
    | fail_if_no_progress (with_reducible (apply keeps_sys))

theorem keeps_closeSlot {z s : State} (x : Slot) (hz : Keeps z s) :
    Keeps z (s.closeSlot x) := by
  unfold State.closeSlot
  (try dsimp only)
  repeat' first
    | (with_reducible assumption)
    | (with_reducible (apply keeps_handOver))
    | (with_reducible (apply keeps_putSlot))
    | (with_reducible (apply keeps_bump))
    | (with_reducible (refine keeps_foldl (fun u x hu => ?_) ?_))
    | (with_reducible (refine keeps_foldl_fst (fun u x hu => ?_) ?_))
    | (with_reducible (refine keeps_foldl_snd (fun u x hu => ?_) ?_))
    | split
    | fail_if_no_progress (with_reducible (apply keeps_lit))
    | fail_if_no_progress (with_reducible (apply keeps_sys))

theorem keeps_splitSlot {z s : State} (x : Slot) (c : Nat) (hz : Keeps z s) :
    Keeps z (s.splitSlot x c) := by
  unfold State.splitSlot
  (try dsimp only)
  repeat' first
    | (with_reducible assumption)
    | (with_reducible (apply keeps_closeSlot))
    | (with_reducible (apply keeps_handOver))
    | (with_reducible (apply keeps_bump))
    | (with_reducible (refine keeps_foldl (fun u x hu => ?_) ?_))
    | (with_reducible (refine keeps_foldl_fst (fun u x hu => ?_) ?_))
    | (with_reducible (refine keeps_foldl_snd (fun u x hu => ?_) ?_))
    | split
    | fail_if_no_progress (with_reducible (apply keeps_lit))
    | fail_if_no_progress (with_reducible (apply keeps_sys))

theorem keeps_openSlot {z s : State} (g : Nat) (hz : Keeps z s) :
    Keeps z (s.openSlot g) := by
  unfold State.openSlot
  (try dsimp only)
  repeat' first
    | (with_reducible assumption)
    | (with_reducible (apply keeps_handOver))
    | (with_reducible (refine keeps_foldl (fun u x hu => ?_) ?_))
    | (with_reducible (refine keeps_foldl_fst (fun u x hu => ?_) ?_))
    | (with_reducible (refine keeps_foldl_snd (fun u x hu => ?_) ?_))
    | split
    | fail_if_no_progress (with_reducible (apply keeps_lit))
    | fail_if_no_progress (with_reducible (apply keeps_sys))

theorem keeps_readySlot {z s : State} (g st : Nat) (hz : Keeps z s) :
    Keeps z (s.readySlot g st) := by
  unfold State.readySlot
  (try dsimp only)
  repeat' first
    | (with_reducible assumption)
    | (with_reducible (apply keeps_openSlot))
    | (with_reducible (apply keeps_closeSlot))
    | (with_reducible (refine keeps_foldl (fun u x hu => ?_) ?_))
    | (with_reducible (refine keeps_foldl_fst (fun u x hu => ?_) ?_))
    | (with_reducible (refine keeps_foldl_snd (fun u x hu => ?_) ?_))
    | split
    | fail_if_no_progress (with_reducible (apply keeps_lit))
    | fail_if_no_progress (with_reducible (apply keeps_sys))

theorem keeps_gleanVerify {z s : State} (e : TapEntry) (write : Bool) (hz : Keeps z s) :
    Keeps z (s.gleanVerify e write) := by
  unfold State.gleanVerify
  (try dsimp only)
  repeat' first
    | (with_reducible assumption)
    | (with_reducible (apply keeps_lateWrite))
    | (with_reducible (apply keeps_tuneRegion))
    | (with_reducible (apply keeps_report))
    | (with_reducible (apply keeps_bump))
    | (with_reducible (refine keeps_foldl (fun u x hu => ?_) ?_))
    | (with_reducible (refine keeps_foldl_fst (fun u x hu => ?_) ?_))
    | (with_reducible (refine keeps_foldl_snd (fun u x hu => ?_) ?_))
    | split
    | fail_if_no_progress (with_reducible (apply keeps_lit))
    | fail_if_no_progress (with_reducible (apply keeps_sys))

theorem keeps_placeCapture {z s t : State} {e : TapEntry} (he : s.placeCapture e = some t) (h : Keeps z s) : Keeps z t := by
  unfold State.placeCapture at he
  split at he
  · cases he
  · dsimp only at he
    split at he
    · cases he
    · cases he
      split
      · exact keeps_closeSlot _ (keeps_putSlot _ h)
      · exact keeps_handOver (keeps_putSlot _ h)

theorem keeps_closeSlots {z s : State}  (hz : Keeps z s) :
    Keeps z (s.closeSlots ) := by
  unfold State.closeSlots
  (try dsimp only)
  repeat' first
    | (with_reducible assumption)
    | (with_reducible (apply keeps_closeSlot))
    | (with_reducible (refine keeps_foldl (fun u x hu => ?_) ?_))
    | (with_reducible (refine keeps_foldl_fst (fun u x hu => ?_) ?_))
    | (with_reducible (refine keeps_foldl_snd (fun u x hu => ?_) ?_))
    | split
    | fail_if_no_progress (with_reducible (apply keeps_lit))
    | fail_if_no_progress (with_reducible (apply keeps_sys))

theorem keeps_gleanSheaf {z s : State} (a g st : Nat) (strict rep : Bool) (data : SMap LineData) (chk : SMap CheckBytes) (hz : Keeps z s) :
    Keeps z (s.gleanSheaf a g st strict rep data chk) := by
  unfold State.gleanSheaf
  (try dsimp only)
  repeat' first
    | (with_reducible assumption)
    | (with_reducible (apply keeps_putSheaf))
    | (with_reducible (refine keeps_foldl (fun u x hu => ?_) ?_))
    | (with_reducible (refine keeps_foldl_fst (fun u x hu => ?_) ?_))
    | (with_reducible (refine keeps_foldl_snd (fun u x hu => ?_) ?_))
    | split
    | fail_if_no_progress (with_reducible (apply keeps_lit))
    | fail_if_no_progress (with_reducible (apply keeps_sys))

theorem keeps_manifestUpdate {z s : State} (g a b : Nat) (hz : Keeps z s) :
    Keeps z (s.manifestUpdate g a b) := by
  unfold State.manifestUpdate
  (try dsimp only)
  repeat' first
    | (with_reducible assumption)
    | (with_reducible (apply keeps_chainRoom))
    | (with_reducible (apply keeps_chainTake))
    | (with_reducible (refine keeps_chainTake_pair (by assumption) ?_))
    | (with_reducible (refine keeps_foldl (fun u x hu => ?_) ?_))
    | (with_reducible (refine keeps_foldl_fst (fun u x hu => ?_) ?_))
    | (with_reducible (refine keeps_foldl_snd (fun u x hu => ?_) ?_))
    | split
    | fail_if_no_progress (with_reducible (apply keeps_lit))
    | fail_if_no_progress (with_reducible (apply keeps_sys))

theorem keeps_undelete {z s : State}  (hz : Keeps z s) :
    Keeps z (s.undelete ) := by
  unfold State.undelete
  (try dsimp only)
  repeat' first
    | (with_reducible assumption)
    | (with_reducible (apply keeps_gleanLoss))
    | (with_reducible (apply keeps_setRegion))
    | (with_reducible (apply keeps_setD))
    | (with_reducible (refine keeps_foldl (fun u x hu => ?_) ?_))
    | (with_reducible (refine keeps_foldl_fst (fun u x hu => ?_) ?_))
    | (with_reducible (refine keeps_foldl_snd (fun u x hu => ?_) ?_))
    | split
    | fail_if_no_progress (with_reducible (apply keeps_lit))
    | fail_if_no_progress (with_reducible (apply keeps_sys))

theorem keeps_gleanFenceChannel {z s : State} (ch : Nat) (hz : Keeps z s) :
    Keeps z (s.gleanFenceChannel ch) := by
  unfold State.gleanFenceChannel
  (try dsimp only)
  repeat' first
    | (with_reducible assumption)
    | (with_reducible (apply keeps_gleanLoss))
    | (with_reducible (refine keeps_foldl (fun u x hu => ?_) ?_))
    | (with_reducible (refine keeps_foldl_fst (fun u x hu => ?_) ?_))
    | (with_reducible (refine keeps_foldl_snd (fun u x hu => ?_) ?_))
    | split
    | fail_if_no_progress (with_reducible (apply keeps_lit))
    | fail_if_no_progress (with_reducible (apply keeps_sys))

theorem keeps_gleanStop {z s : State}  (hz : Keeps z s) :
    Keeps z (s.gleanStop ) := by
  unfold State.gleanStop
  (try dsimp only)
  repeat' first
    | (with_reducible assumption)
    | (with_reducible (apply keeps_writeLoss))
    | (with_reducible (apply keeps_gleanLoss))
    | (with_reducible (refine keeps_foldl (fun u x hu => ?_) ?_))
    | (with_reducible (refine keeps_foldl_fst (fun u x hu => ?_) ?_))
    | (with_reducible (refine keeps_foldl_snd (fun u x hu => ?_) ?_))
    | split
    | fail_if_no_progress (with_reducible (apply keeps_lit))
    | fail_if_no_progress (with_reducible (apply keeps_sys))

theorem keeps_gleanFreeze {z s : State}  (hz : Keeps z s) :
    Keeps z (s.gleanFreeze ) := by
  unfold State.gleanFreeze
  (try dsimp only)
  repeat' first
    | (with_reducible assumption)
    | (with_reducible (apply keeps_gleanLoss))
    | (with_reducible (apply keeps_coverWrite))
    | (with_reducible (refine keeps_foldl (fun u x hu => ?_) ?_))
    | (with_reducible (refine keeps_foldl_fst (fun u x hu => ?_) ?_))
    | (with_reducible (refine keeps_foldl_snd (fun u x hu => ?_) ?_))
    | split
    | fail_if_no_progress (with_reducible (apply keeps_lit))
    | fail_if_no_progress (with_reducible (apply keeps_sys))

theorem keeps_abandonSeals {z s : State}  (hz : Keeps z s) :
    Keeps z (s.abandonSeals ) := by
  unfold State.abandonSeals
  (try dsimp only)
  repeat' first
    | (with_reducible assumption)
    | (with_reducible (apply keeps_setRegion))
    | (with_reducible (apply keeps_note))
    | (with_reducible (refine keeps_foldl (fun u x hu => ?_) ?_))
    | (with_reducible (refine keeps_foldl_fst (fun u x hu => ?_) ?_))
    | (with_reducible (refine keeps_foldl_snd (fun u x hu => ?_) ?_))
    | split
    | fail_if_no_progress (with_reducible (apply keeps_lit))
    | fail_if_no_progress (with_reducible (apply keeps_sys))

theorem keeps_chainPump {z s : State}  (hz : Keeps z s) :
    Keeps z (s.chainPump ) := by
  unfold State.chainPump
  (try dsimp only)
  repeat' first
    | (with_reducible assumption)
    | (with_reducible (apply keeps_takeSeq_snd))
    | (with_reducible (refine keeps_takeSeq (by assumption) ?_))
    | (with_reducible (refine keeps_foldl (fun u x hu => ?_) ?_))
    | (with_reducible (refine keeps_foldl_fst (fun u x hu => ?_) ?_))
    | (with_reducible (refine keeps_foldl_snd (fun u x hu => ?_) ?_))
    | split
    | fail_if_no_progress (with_reducible (apply keeps_lit))
    | fail_if_no_progress (with_reducible (apply keeps_sys))

theorem keeps_chainJob {z s : State} (j : ChainJob) (hz : Keeps z s) :
    Keeps z (s.chainJob j) := by
  unfold State.chainJob
  (try dsimp only)
  repeat' first
    | (with_reducible assumption)
    | (with_reducible (apply keeps_chainPump))
    | (with_reducible (refine keeps_foldl (fun u x hu => ?_) ?_))
    | (with_reducible (refine keeps_foldl_fst (fun u x hu => ?_) ?_))
    | (with_reducible (refine keeps_foldl_snd (fun u x hu => ?_) ?_))
    | split
    | fail_if_no_progress (with_reducible (apply keeps_lit))
    | fail_if_no_progress (with_reducible (apply keeps_sys))

theorem keeps_showHead {z s : State}  (hz : Keeps z s) :
    Keeps z (s.showHead ) := by
  unfold State.showHead
  (try dsimp only)
  repeat' first
    | (with_reducible assumption)
    | (with_reducible (apply keeps_setBytes))
    | (with_reducible (apply keeps_setFld))
    | (with_reducible (refine keeps_foldl (fun u x hu => ?_) ?_))
    | (with_reducible (refine keeps_foldl_fst (fun u x hu => ?_) ?_))
    | (with_reducible (refine keeps_foldl_snd (fun u x hu => ?_) ?_))
    | split
    | fail_if_no_progress (with_reducible (apply keeps_lit))
    | fail_if_no_progress (with_reducible (apply keeps_sys))

theorem keeps_chainAppend {z s : State} (seq : Nat) (bytes : List Byte) (manifest : SMap Nat) (hz : Keeps z s) :
    Keeps z (s.chainAppend seq bytes manifest) := by
  unfold State.chainAppend
  (try dsimp only)
  repeat' first
    | (with_reducible assumption)
    | (with_reducible (apply keeps_showHead))
    | (with_reducible (apply keeps_chainRoom))
    | (with_reducible (apply keeps_chainTake))
    | (with_reducible (refine keeps_chainTake_pair (by assumption) ?_))
    | (with_reducible (apply keeps_ledger))
    | (with_reducible (refine keeps_foldl (fun u x hu => ?_) ?_))
    | (with_reducible (refine keeps_foldl_fst (fun u x hu => ?_) ?_))
    | (with_reducible (refine keeps_foldl_snd (fun u x hu => ?_) ?_))
    | split
    | fail_if_no_progress (with_reducible (apply keeps_lit))
    | fail_if_no_progress (with_reducible (apply keeps_sys))

theorem keeps_markSealed {z s : State} (m : SMap Nat) (b : Bool) (hz : Keeps z s) :
    Keeps z (s.markSealed m b) := by
  unfold State.markSealed
  (try dsimp only)
  repeat' first
    | (with_reducible assumption)
    | (with_reducible (apply keeps_setSmap))
    | (with_reducible (refine keeps_foldl (fun u x hu => ?_) ?_))
    | (with_reducible (refine keeps_foldl_fst (fun u x hu => ?_) ?_))
    | (with_reducible (refine keeps_foldl_snd (fun u x hu => ?_) ?_))
    | split
    | fail_if_no_progress (with_reducible (apply keeps_lit))
    | fail_if_no_progress (with_reducible (apply keeps_sys))

theorem keeps_holdAs {z s : State} (e : EvRecord) (n : Nat) (hz : Keeps z s) :
    Keeps z (s.holdAs e n) := by
  unfold State.holdAs
  (try dsimp only)
  repeat' first
    | (with_reducible assumption)
    | (with_reducible (apply keeps_logArrive))
    | (with_reducible (apply keeps_bump))
    | (with_reducible (refine keeps_foldl (fun u x hu => ?_) ?_))
    | (with_reducible (refine keeps_foldl_fst (fun u x hu => ?_) ?_))
    | (with_reducible (refine keeps_foldl_snd (fun u x hu => ?_) ?_))
    | split
    | fail_if_no_progress (with_reducible (apply keeps_lit))
    | fail_if_no_progress (with_reducible (apply keeps_sys))

theorem keeps_setWall {z s : State} (w : Nat) (hz : Keeps z s) :
    Keeps z (s.setWall w) := by
  unfold State.setWall
  (try dsimp only)
  repeat' first
    | (with_reducible assumption)
    | (with_reducible (apply keeps_setFlag))
    | (with_reducible (refine keeps_foldl (fun u x hu => ?_) ?_))
    | (with_reducible (refine keeps_foldl_fst (fun u x hu => ?_) ?_))
    | (with_reducible (refine keeps_foldl_snd (fun u x hu => ?_) ?_))
    | split
    | fail_if_no_progress (with_reducible (apply keeps_lit))
    | fail_if_no_progress (with_reducible (apply keeps_sys))

theorem keeps_execSeaEntFetch {z s : State} (v : Word) (hz : Keeps z s) :
    KeepsO z (execSeaEntFetch v s) := by
  unfold execSeaEntFetch
  (try dsimp only)
  repeat' first
    | (with_reducible assumption)
    | (with_reducible (apply keeps_setFlag))
    | (with_reducible (apply keeps_setFld))
    | (with_reducible (apply keepsO_next))
    | (with_reducible (refine keeps_foldl (fun u x hu => ?_) ?_))
    | (with_reducible (refine keeps_foldl_fst (fun u x hu => ?_) ?_))
    | (with_reducible (refine keeps_foldl_snd (fun u x hu => ?_) ?_))
    | split
    | fail_if_no_progress (with_reducible (apply keeps_lit))
    | fail_if_no_progress (with_reducible (apply keeps_sys))

theorem keeps_sealAbort {z s : State} (mark times : Bool) (hz : Keeps z s) :
    Keeps z (s.sealAbort mark times) := by
  unfold State.sealAbort
  (try dsimp only)
  repeat' first
    | (with_reducible assumption)
    | (with_reducible (apply keeps_chainPump))
    | (with_reducible (apply keeps_failClose))
    | (with_reducible (apply keeps_completeLive))
    | (with_reducible (apply keeps_tuneRegion))
    | (with_reducible (refine keeps_foldl (fun u x hu => ?_) ?_))
    | (with_reducible (refine keeps_foldl_fst (fun u x hu => ?_) ?_))
    | (with_reducible (refine keeps_foldl_snd (fun u x hu => ?_) ?_))
    | split
    | fail_if_no_progress (with_reducible (apply keeps_lit))
    | fail_if_no_progress (with_reducible (apply keeps_sys))

theorem keeps_sealFreeze {z s : State}  (hz : Keeps z s) :
    Keeps z (s.sealFreeze ) := by
  unfold State.sealFreeze
  (try dsimp only)
  repeat' first
    | (with_reducible assumption)
    | (with_reducible (apply keeps_sealAbort))
    | (with_reducible (refine keeps_foldl (fun u x hu => ?_) ?_))
    | (with_reducible (refine keeps_foldl_fst (fun u x hu => ?_) ?_))
    | (with_reducible (refine keeps_foldl_snd (fun u x hu => ?_) ?_))
    | split
    | fail_if_no_progress (with_reducible (apply keeps_lit))
    | fail_if_no_progress (with_reducible (apply keeps_sys))

theorem keeps_sealFence {z s : State}  (hz : Keeps z s) :
    Keeps z (s.sealFence ) := by
  unfold State.sealFence
  (try dsimp only)
  repeat' first
    | (with_reducible assumption)
    | (with_reducible (apply keeps_sealAbort))
    | (with_reducible (refine keeps_foldl (fun u x hu => ?_) ?_))
    | (with_reducible (refine keeps_foldl_fst (fun u x hu => ?_) ?_))
    | (with_reducible (refine keeps_foldl_snd (fun u x hu => ?_) ?_))
    | split
    | fail_if_no_progress (with_reducible (apply keeps_lit))
    | fail_if_no_progress (with_reducible (apply keeps_sys))

theorem keeps_noteRefusal {z s : State} (code detail : Nat) (hz : Keeps z s) :
    Keeps z (s.noteRefusal code detail) := by
  unfold State.noteRefusal
  (try dsimp only)
  repeat' first
    | (with_reducible assumption)
    | (with_reducible (apply keeps_setFld))
    | (with_reducible (refine keeps_foldl (fun u x hu => ?_) ?_))
    | (with_reducible (refine keeps_foldl_fst (fun u x hu => ?_) ?_))
    | (with_reducible (refine keeps_foldl_snd (fun u x hu => ?_) ?_))
    | split
    | fail_if_no_progress (with_reducible (apply keeps_lit))
    | fail_if_no_progress (with_reducible (apply keeps_sys))

theorem keeps_showDeadline {z s : State} (code d dk e : Nat) (keeper : Bool) (hz : Keeps z s) :
    Keeps z (s.showDeadline code d dk e keeper) := by
  unfold State.showDeadline
  (try dsimp only)
  repeat' first
    | (with_reducible assumption)
    | (with_reducible (apply keeps_setFlag))
    | (with_reducible (apply keeps_setFld))
    | (with_reducible (refine keeps_foldl (fun u x hu => ?_) ?_))
    | (with_reducible (refine keeps_foldl_fst (fun u x hu => ?_) ?_))
    | (with_reducible (refine keeps_foldl_snd (fun u x hu => ?_) ?_))
    | split
    | fail_if_no_progress (with_reducible (apply keeps_lit))
    | fail_if_no_progress (with_reducible (apply keeps_sys))

theorem keeps_reportAdmission {z s : State} (m : List Byte) (v : Verdict) (hz : Keeps z s) :
    Keeps z (s.reportAdmission m v) := by
  unfold State.reportAdmission
  (try dsimp only)
  repeat' first
    | (with_reducible assumption)
    | (with_reducible (apply keeps_showDeadline))
    | (with_reducible (apply keeps_noteRefusal))
    | (with_reducible (apply keeps_note))
    | (with_reducible (apply keeps_emit))
    | (with_reducible (apply keeps_setFld))
    | (with_reducible (refine keeps_foldl (fun u x hu => ?_) ?_))
    | (with_reducible (refine keeps_foldl_fst (fun u x hu => ?_) ?_))
    | (with_reducible (refine keeps_foldl_snd (fun u x hu => ?_) ?_))
    | split
    | fail_if_no_progress (with_reducible (apply keeps_lit))
    | fail_if_no_progress (with_reducible (apply keeps_sys))

theorem keeps_setPackShort {z s : State} (short : Bool) (ps : SMap (Nat × Nat × Nat × Nat)) (d dk : Nat) (hz : Keeps z s) :
    Keeps z (s.setPackShort short ps d dk) := by
  unfold State.setPackShort
  (try dsimp only)
  repeat' first
    | (with_reducible assumption)
    | (with_reducible (apply keeps_report))
    | (with_reducible (apply keeps_setFlag))
    | (with_reducible (apply keeps_setFld))
    | (with_reducible (refine keeps_foldl (fun u x hu => ?_) ?_))
    | (with_reducible (refine keeps_foldl_fst (fun u x hu => ?_) ?_))
    | (with_reducible (refine keeps_foldl_snd (fun u x hu => ?_) ?_))
    | split
    | fail_if_no_progress (with_reducible (apply keeps_lit))
    | fail_if_no_progress (with_reducible (apply keeps_sys))

theorem keeps_inForce {z s : State} (v : Verdict) (hz : Keeps z s) :
    Keeps z (s.inForce v) := by
  unfold State.inForce
  (try dsimp only)
  repeat' first
    | (with_reducible assumption)
    | (with_reducible (apply keeps_setPackShort))
    | (with_reducible (apply keeps_report))
    | (with_reducible (apply keeps_setFlag))
    | (with_reducible (refine keeps_foldl (fun u x hu => ?_) ?_))
    | (with_reducible (refine keeps_foldl_fst (fun u x hu => ?_) ?_))
    | (with_reducible (refine keeps_foldl_snd (fun u x hu => ?_) ?_))
    | split
    | fail_if_no_progress (with_reducible (apply keeps_lit))
    | fail_if_no_progress (with_reducible (apply keeps_sys))

theorem keeps_admitActive {z s : State}  (hz : Keeps z s) :
    Keeps z (s.admitActive ) := by
  unfold State.admitActive
  (try dsimp only)
  repeat' first
    | (with_reducible assumption)
    | (with_reducible (apply keeps_inForce))
    | (with_reducible (apply keeps_reportAdmission))
    | (with_reducible (apply keeps_setFlag))
    | (with_reducible (refine keeps_foldl (fun u x hu => ?_) ?_))
    | (with_reducible (refine keeps_foldl_fst (fun u x hu => ?_) ?_))
    | (with_reducible (refine keeps_foldl_snd (fun u x hu => ?_) ?_))
    | split
    | fail_if_no_progress (with_reducible (apply keeps_lit))
    | fail_if_no_progress (with_reducible (apply keeps_sys))

theorem keeps_packRecheck {z s : State}  (hz : Keeps z s) :
    Keeps z (s.packRecheck ) := by
  unfold State.packRecheck
  (try dsimp only)
  repeat' first
    | (with_reducible assumption)
    | (with_reducible (apply keeps_setPackShort))
    | (with_reducible (apply keeps_showDeadline))
    | (with_reducible (refine keeps_foldl (fun u x hu => ?_) ?_))
    | (with_reducible (refine keeps_foldl_fst (fun u x hu => ?_) ?_))
    | (with_reducible (refine keeps_foldl_snd (fun u x hu => ?_) ?_))
    | split
    | fail_if_no_progress (with_reducible (apply keeps_lit))
    | fail_if_no_progress (with_reducible (apply keeps_sys))

theorem keeps_setChan {z s : State} (ch : Nat) (c : Chan) (hz : Keeps z s) :
    Keeps z (s.setChan ch c) := by
  unfold State.setChan
  (try dsimp only)
  repeat' first
    | (with_reducible assumption)
    | (with_reducible (refine keeps_foldl (fun u x hu => ?_) ?_))
    | (with_reducible (refine keeps_foldl_fst (fun u x hu => ?_) ?_))
    | (with_reducible (refine keeps_foldl_snd (fun u x hu => ?_) ?_))
    | split
    | fail_if_no_progress (with_reducible (apply keeps_lit))
    | fail_if_no_progress (with_reducible (apply keeps_sys))

theorem keeps_setDie {z s : State} (ch d : Nat) (v : Die) (hz : Keeps z s) :
    Keeps z (s.setDie ch d v) := by
  unfold State.setDie
  (try dsimp only)
  repeat' first
    | (with_reducible assumption)
    | (with_reducible (apply keeps_setChan))
    | (with_reducible (refine keeps_foldl (fun u x hu => ?_) ?_))
    | (with_reducible (refine keeps_foldl_fst (fun u x hu => ?_) ?_))
    | (with_reducible (refine keeps_foldl_snd (fun u x hu => ?_) ?_))
    | split
    | fail_if_no_progress (with_reducible (apply keeps_lit))
    | fail_if_no_progress (with_reducible (apply keeps_sys))

theorem keeps_setPtr {z s : State} (ch d b : Nat) (m : Bool) (p : Option Nat) (hz : Keeps z s) :
    Keeps z (s.setPtr ch d b m p) := by
  unfold State.setPtr
  (try dsimp only)
  repeat' first
    | (with_reducible assumption)
    | (with_reducible (apply keeps_setDie))
    | (with_reducible (refine keeps_foldl (fun u x hu => ?_) ?_))
    | (with_reducible (refine keeps_foldl_fst (fun u x hu => ?_) ?_))
    | (with_reducible (refine keeps_foldl_snd (fun u x hu => ?_) ?_))
    | split
    | fail_if_no_progress (with_reducible (apply keeps_lit))
    | fail_if_no_progress (with_reducible (apply keeps_sys))

theorem keeps_ptrUnknown {z s : State} (ch d b : Nat) (hz : Keeps z s) :
    Keeps z (s.ptrUnknown ch d b) := by
  unfold State.ptrUnknown
  (try dsimp only)
  repeat' first
    | (with_reducible assumption)
    | (with_reducible (apply keeps_setPtr))
    | (with_reducible (refine keeps_foldl (fun u x hu => ?_) ?_))
    | (with_reducible (refine keeps_foldl_fst (fun u x hu => ?_) ?_))
    | (with_reducible (refine keeps_foldl_snd (fun u x hu => ?_) ?_))
    | split
    | fail_if_no_progress (with_reducible (apply keeps_lit))
    | fail_if_no_progress (with_reducible (apply keeps_sys))

theorem keeps_rawComplete {z s : State} (ch : Nat) (desc bytes : List Byte) (hz : Keeps z s) :
    Keeps z (s.rawComplete ch desc bytes) := by
  unfold State.rawComplete
  (try dsimp only)
  repeat' first
    | (with_reducible assumption)
    | (with_reducible (apply keeps_complete))
    | (with_reducible (refine keeps_foldl (fun u x hu => ?_) ?_))
    | (with_reducible (refine keeps_foldl_fst (fun u x hu => ?_) ?_))
    | (with_reducible (refine keeps_foldl_snd (fun u x hu => ?_) ?_))
    | split
    | fail_if_no_progress (with_reducible (apply keeps_lit))
    | fail_if_no_progress (with_reducible (apply keeps_sys))

theorem keeps_postCpl {z s : State} (ch d : Nat) (desc : List Byte) (c : Cpl) (hz : Keeps z s) :
    Keeps z (s.postCpl ch d desc c) := by
  unfold State.postCpl
  (try dsimp only)
  repeat' first
    | (with_reducible assumption)
    | (with_reducible (apply keeps_rawComplete))
    | (with_reducible (apply keeps_setChan))
    | (with_reducible (apply keeps_wrap))
    | (with_reducible (apply keeps_bump))
    | (with_reducible (apply keeps_setFld))
    | (with_reducible (refine keeps_foldl (fun u x hu => ?_) ?_))
    | (with_reducible (refine keeps_foldl_fst (fun u x hu => ?_) ?_))
    | (with_reducible (refine keeps_foldl_snd (fun u x hu => ?_) ?_))
    | split
    | fail_if_no_progress (with_reducible (apply keeps_lit))
    | fail_if_no_progress (with_reducible (apply keeps_sys))

theorem keeps_applyIf {z s : State} (ch : Nat) (hz : Keeps z s) :
    Keeps z (s.applyIf ch) := by
  unfold State.applyIf
  (try dsimp only)
  repeat' first
    | (with_reducible assumption)
    | (with_reducible (apply keeps_setChan))
    | (with_reducible (apply keeps_setWord))
    | (with_reducible (refine keeps_foldl (fun u x hu => ?_) ?_))
    | (with_reducible (refine keeps_foldl_fst (fun u x hu => ?_) ?_))
    | (with_reducible (refine keeps_foldl_snd (fun u x hu => ?_) ?_))
    | split
    | fail_if_no_progress (with_reducible (apply keeps_lit))
    | fail_if_no_progress (with_reducible (apply keeps_sys))

theorem keeps_startHead {z s : State} {ch d : Nat} {low : Bool} {op : Nat} {x : List Byte × State}
    (e : s.startHead ch d low op = some x) (h : Keeps z s) : Keeps z x.2 := by
  unfold State.startHead at e
  dsimp only at e
  have h := keeps_applyIf ch h
  generalize s.applyIf ch = s at e h
  split at e
  · cases e
  · split at e
    · split at e
      · cases e
      · cases e; exact keeps_setChan _ _ (keeps_setDie _ _ _ h)
    · cases e

theorem keeps_startHead_pair {z s t : State} {ch d : Nat} {low : Bool} {op : Nat} {a : List Byte}
    (e : s.startHead ch d low op = some (a, t)) (h : Keeps z s) : Keeps z t := keeps_startHead e h

theorem keeps_startCheck {z s : State} (ch d : Nat) (x : List Byte) {k : State → State} (hf : ∀ u, Keeps z u → Keeps z (k u))
    (h : Keeps z s) : Keeps z (s.startCheck ch d x k) := by
  unfold State.startCheck
  split
  · exact keeps_postCpl _ _ _ _ h
  · split
    · exact keeps_postCpl _ _ _ _ h
    · exact hf s h

theorem keeps_postRas {z s : State} (ch d : Nat) (x : List Byte) (hz : Keeps z s) :
    Keeps z (s.postRas ch d x) := by
  unfold State.postRas
  (try dsimp only)
  repeat' first
    | (with_reducible assumption)
    | (with_reducible (apply keeps_sramPut))
    | (with_reducible (apply keeps_setBytes))
    | (with_reducible (refine keeps_foldl (fun u x hu => ?_) ?_))
    | (with_reducible (refine keeps_foldl_fst (fun u x hu => ?_) ?_))
    | (with_reducible (refine keeps_foldl_snd (fun u x hu => ?_) ?_))
    | split
    | fail_if_no_progress (with_reducible (apply keeps_lit))
    | fail_if_no_progress (with_reducible (apply keeps_sys))

theorem keeps_rawTaint {z s : State} (ch d : Nat) (x : List Byte) (hz : Keeps z s) :
    Keeps z (s.rawTaint ch d x) := by
  unfold State.rawTaint
  (try dsimp only)
  repeat' first
    | (with_reducible assumption)
    | (with_reducible (apply keeps_setFlag))
    | (with_reducible (refine keeps_foldl (fun u x hu => ?_) ?_))
    | (with_reducible (refine keeps_foldl_fst (fun u x hu => ?_) ?_))
    | (with_reducible (refine keeps_foldl_snd (fun u x hu => ?_) ?_))
    | split
    | fail_if_no_progress (with_reducible (apply keeps_lit))
    | fail_if_no_progress (with_reducible (apply keeps_sys))

theorem keeps_gleanStarted {z s : State} (x : List Byte) (hz : Keeps z s) :
    Keeps z (s.gleanStarted x) := by
  unfold State.gleanStarted
  (try dsimp only)
  repeat' first
    | (with_reducible assumption)
    | (with_reducible (apply keeps_handOver))
    | (with_reducible (refine keeps_foldl (fun u x hu => ?_) ?_))
    | (with_reducible (refine keeps_foldl_fst (fun u x hu => ?_) ?_))
    | (with_reducible (refine keeps_foldl_snd (fun u x hu => ?_) ?_))
    | split
    | fail_if_no_progress (with_reducible (apply keeps_lit))
    | fail_if_no_progress (with_reducible (apply keeps_sys))

theorem keeps_saveStarted {z s : State} (ch : Nat) (x : List Byte) (hz : Keeps z s) :
    Keeps z (s.saveStarted ch x) := by
  unfold State.saveStarted
  (try dsimp only)
  repeat' first
    | (with_reducible assumption)
    | (with_reducible (apply keeps_setFld))
    | (with_reducible (refine keeps_foldl (fun u x hu => ?_) ?_))
    | (with_reducible (refine keeps_foldl_fst (fun u x hu => ?_) ?_))
    | (with_reducible (refine keeps_foldl_snd (fun u x hu => ?_) ?_))
    | split
    | fail_if_no_progress (with_reducible (apply keeps_lit))
    | fail_if_no_progress (with_reducible (apply keeps_sys))

theorem keeps_halfErase {z s : State} (ch d b : Nat) (hz : Keeps z s) :
    Keeps z (s.halfErase ch d b) := by
  unfold State.halfErase
  (try dsimp only)
  repeat' first
    | (with_reducible assumption)
    | (with_reducible (apply keeps_setRole))
    | (with_reducible (apply keeps_setFlag))
    | (with_reducible (refine keeps_foldl (fun u x hu => ?_) ?_))
    | (with_reducible (refine keeps_foldl_fst (fun u x hu => ?_) ?_))
    | (with_reducible (refine keeps_foldl_snd (fun u x hu => ?_) ?_))
    | split
    | fail_if_no_progress (with_reducible (apply keeps_lit))
    | fail_if_no_progress (with_reducible (apply keeps_sys))

theorem keeps_lodge {z s : State} (ch d b sign v : Nat) (hz : Keeps z s) :
    Keeps z (s.lodge ch d b sign v) := by
  unfold State.lodge
  (try dsimp only)
  repeat' first
    | (with_reducible assumption)
    | (with_reducible (apply keeps_remapColumn))
    | (with_reducible (refine keeps_remapColumn_pair (by assumption) ?_))
    | (with_reducible (apply keeps_swathCheck))
    | (with_reducible (apply keeps_setRole))
    | (with_reducible (apply keeps_ledger))
    | (with_reducible (apply keeps_bump))
    | (with_reducible (refine keeps_foldl (fun u x hu => ?_) ?_))
    | (with_reducible (refine keeps_foldl_fst (fun u x hu => ?_) ?_))
    | (with_reducible (refine keeps_foldl_snd (fun u x hu => ?_) ?_))
    | split
    | fail_if_no_progress (with_reducible (apply keeps_lit))
    | fail_if_no_progress (with_reducible (apply keeps_sys))

theorem keeps_retireBlock {z s : State} (ch d b page cause : Nat) (h : Keeps z s) : Keeps z (s.retireBlock ch d b page cause).1 := by
  unfold State.retireBlock
  split
  · exact h
  · split
    · exact h
    · exact keeps_remapColumn _ _ _ _ (keeps_bump _ _ (keeps_ledger _ h))

theorem keeps_retireBlock_pair {z s t : State} {ch d b page cause : Nat} {x : Bool} (e : s.retireBlock ch d b page cause = (t, x))
    (h : Keeps z s) : Keeps z t := by
  have := keeps_retireBlock ch d b page cause h; rw [e] at this; exact this

theorem keeps_setRun {z s : State} (r : SaveRun) (hz : Keeps z s) :
    Keeps z (s.setRun r) := by
  unfold State.setRun
  (try dsimp only)
  repeat' first
    | (with_reducible assumption)
    | (with_reducible (refine keeps_foldl (fun u x hu => ?_) ?_))
    | (with_reducible (refine keeps_foldl_fst (fun u x hu => ?_) ?_))
    | (with_reducible (refine keeps_foldl_snd (fun u x hu => ?_) ?_))
    | split
    | fail_if_no_progress (with_reducible (apply keeps_lit))
    | fail_if_no_progress (with_reducible (apply keeps_sys))

theorem keeps_allocSave {z s : State} {r : SaveRun} {x : SaveFlight × SaveRun × State} (e : s.allocSave r = some x) (h : Keeps z s) :
    Keeps z x.2.2 := by
  unfold State.allocSave at e
  split at e <;> simp only [Option.map_eq_some_iff] at e
  · obtain ⟨y, hy, rfl⟩ := e
    exact keeps_allocNarrow hy h
  · obtain ⟨y, hy, rfl⟩ := e
    exact keeps_allocSwath hy h

theorem keeps_allocSave_trip {z s t : State} {r r' : SaveRun} {a : SaveFlight} (e : s.allocSave r = some (a, r', t)) (h : Keeps z s) :
    Keeps z t := keeps_allocSave e h

theorem keeps_restage {z s : State} (r : SaveRun) (f : SaveFlight) (r' : SaveRun) (g : SaveFlight) (hz : Keeps z s) :
    Keeps z (s.restage r f r' g) := by
  unfold State.restage
  (try dsimp only)
  repeat' first
    | (with_reducible assumption)
    | (with_reducible (apply keeps_fillEar))
    | (with_reducible (apply keeps_sramPut))
    | (with_reducible (refine keeps_foldl (fun u x hu => ?_) ?_))
    | (with_reducible (refine keeps_foldl_fst (fun u x hu => ?_) ?_))
    | (with_reducible (refine keeps_foldl_snd (fun u x hu => ?_) ?_))
    | split
    | fail_if_no_progress (with_reducible (apply keeps_lit))
    | fail_if_no_progress (with_reducible (apply keeps_sys))

theorem keeps_savePfail {z s : State}  (hz : Keeps z s) :
    Keeps z (s.savePfail ) := by
  unfold State.savePfail
  (try dsimp only)
  repeat' first
    | (with_reducible assumption)
    | (with_reducible (apply keeps_restage))
    | (with_reducible (refine keeps_allocSave (by assumption) ?_))
    | (with_reducible (refine keeps_allocSave_trip (by assumption) ?_))
    | (with_reducible (apply keeps_setRun))
    | (with_reducible (apply keeps_emit))
    | (with_reducible (apply keeps_bump))
    | (with_reducible (refine keeps_foldl (fun u x hu => ?_) ?_))
    | (with_reducible (refine keeps_foldl_fst (fun u x hu => ?_) ?_))
    | (with_reducible (refine keeps_foldl_snd (fun u x hu => ?_) ?_))
    | split
    | fail_if_no_progress (with_reducible (apply keeps_lit))
    | fail_if_no_progress (with_reducible (apply keeps_sys))

theorem keeps_saveEar {z s : State} (x : List Byte) (hz : Keeps z s) :
    Keeps z (s.saveEar x) := by
  unfold State.saveEar
  (try dsimp only)
  repeat' first
    | (with_reducible assumption)
    | (with_reducible (refine keeps_foldl (fun u x hu => ?_) ?_))
    | (with_reducible (refine keeps_foldl_fst (fun u x hu => ?_) ?_))
    | (with_reducible (refine keeps_foldl_snd (fun u x hu => ?_) ?_))
    | split
    | fail_if_no_progress (with_reducible (apply keeps_lit))
    | fail_if_no_progress (with_reducible (apply keeps_sys))

theorem keeps_stagingFail {z s : State} (n : Nat) (hz : Keeps z s) :
    Keeps z (s.stagingFail n) := by
  unfold State.stagingFail
  (try dsimp only)
  repeat' first
    | (with_reducible assumption)
    | (with_reducible (apply keeps_putEar))
    | (with_reducible (apply keeps_setUsed))
    | (with_reducible (refine keeps_foldl (fun u x hu => ?_) ?_))
    | (with_reducible (refine keeps_foldl_fst (fun u x hu => ?_) ?_))
    | (with_reducible (refine keeps_foldl_snd (fun u x hu => ?_) ?_))
    | split
    | fail_if_no_progress (with_reducible (apply keeps_lit))
    | fail_if_no_progress (with_reducible (apply keeps_sys))

theorem keeps_twinFail {z s : State} (n page : Nat) (hz : Keeps z s) :
    Keeps z (s.twinFail n page) := by
  unfold State.twinFail
  (try dsimp only)
  repeat' first
    | (with_reducible assumption)
    | (with_reducible (apply keeps_writeBoot))
    | (with_reducible (apply keeps_setUsed))
    | (with_reducible (refine keeps_foldl (fun u x hu => ?_) ?_))
    | (with_reducible (refine keeps_foldl_fst (fun u x hu => ?_) ?_))
    | (with_reducible (refine keeps_foldl_snd (fun u x hu => ?_) ?_))
    | split
    | fail_if_no_progress (with_reducible (apply keeps_lit))
    | fail_if_no_progress (with_reducible (apply keeps_sys))

theorem keeps_gleanPfail {z s : State} (x : List Byte) (hz : Keeps z s) :
    Keeps z (s.gleanPfail x) := by
  unfold State.gleanPfail
  (try dsimp only)
  repeat' first
    | (with_reducible assumption)
    | (with_reducible (apply keeps_handOver))
    | (with_reducible (refine keeps_foldl (fun u x hu => ?_) ?_))
    | (with_reducible (refine keeps_foldl_fst (fun u x hu => ?_) ?_))
    | (with_reducible (refine keeps_foldl_snd (fun u x hu => ?_) ?_))
    | split
    | fail_if_no_progress (with_reducible (apply keeps_lit))
    | fail_if_no_progress (with_reducible (apply keeps_sys))

theorem keeps_harvestPfail {z s : State} (x : List Byte) (hz : Keeps z s) :
    Keeps z (s.harvestPfail x) := by
  unfold State.harvestPfail
  (try dsimp only)
  repeat' first
    | (with_reducible assumption)
    | (with_reducible (refine keeps_foldl (fun u x hu => ?_) ?_))
    | (with_reducible (refine keeps_foldl_fst (fun u x hu => ?_) ?_))
    | (with_reducible (refine keeps_foldl_snd (fun u x hu => ?_) ?_))
    | split
    | fail_if_no_progress (with_reducible (apply keeps_lit))
    | fail_if_no_progress (with_reducible (apply keeps_sys))

theorem keeps_harvestEar {z s : State} (x : List Byte) (hz : Keeps z s) :
    Keeps z (s.harvestEar x) := by
  unfold State.harvestEar
  (try dsimp only)
  repeat' first
    | (with_reducible assumption)
    | (with_reducible (refine keeps_foldl (fun u x hu => ?_) ?_))
    | (with_reducible (refine keeps_foldl_fst (fun u x hu => ?_) ?_))
    | (with_reducible (refine keeps_foldl_snd (fun u x hu => ?_) ?_))
    | split
    | fail_if_no_progress (with_reducible (apply keeps_lit))
    | fail_if_no_progress (with_reducible (apply keeps_sys))

theorem keeps_writerPfail {z s : State} (x : List Byte) (hz : Keeps z s) :
    Keeps z (s.writerPfail x) := by
  unfold State.writerPfail
  (try dsimp only)
  repeat' first
    | (with_reducible assumption)
    | (with_reducible (apply keeps_harvestPfail))
    | (with_reducible (apply keeps_gleanPfail))
    | (with_reducible (apply keeps_savePfail))
    | (with_reducible (refine keeps_foldl (fun u x hu => ?_) ?_))
    | (with_reducible (refine keeps_foldl_fst (fun u x hu => ?_) ?_))
    | (with_reducible (refine keeps_foldl_snd (fun u x hu => ?_) ?_))
    | split
    | fail_if_no_progress (with_reducible (apply keeps_lit))
    | fail_if_no_progress (with_reducible (apply keeps_sys))

theorem keeps_eraseDone {z s : State} (j : EraseJob) (hz : Keeps z s) :
    Keeps z (s.eraseDone j) := by
  unfold State.eraseDone
  (try dsimp only)
  repeat' first
    | (with_reducible assumption)
    | (with_reducible (apply keeps_lodge))
    | (with_reducible (apply keeps_ledger))
    | (with_reducible (apply keeps_bump))
    | (with_reducible (refine keeps_foldl (fun u x hu => ?_) ?_))
    | (with_reducible (refine keeps_foldl_fst (fun u x hu => ?_) ?_))
    | (with_reducible (refine keeps_foldl_snd (fun u x hu => ?_) ?_))
    | split
    | fail_if_no_progress (with_reducible (apply keeps_lit))
    | fail_if_no_progress (with_reducible (apply keeps_sys))

theorem keeps_columnErased {z s : State} (ch n : Nat) (hz : Keeps z s) :
    Keeps z (s.columnErased ch n) := by
  unfold State.columnErased
  (try dsimp only)
  repeat' first
    | (with_reducible assumption)
    | (with_reducible (apply keeps_eraseDone))
    | (with_reducible (refine keeps_foldl (fun u x hu => ?_) ?_))
    | (with_reducible (refine keeps_foldl_fst (fun u x hu => ?_) ?_))
    | (with_reducible (refine keeps_foldl_snd (fun u x hu => ?_) ?_))
    | split
    | fail_if_no_progress (with_reducible (apply keeps_lit))
    | fail_if_no_progress (with_reducible (apply keeps_sys))

theorem keeps_queueDesc {z s : State} (ch d : Nat) (low : Bool) (x : List Byte) (hz : Keeps z s) :
    Keeps z (s.queueDesc ch d low x) := by
  unfold State.queueDesc
  (try dsimp only)
  repeat' first
    | (with_reducible assumption)
    | (with_reducible (apply keeps_postCpl))
    | (with_reducible (apply keeps_setDie))
    | (with_reducible (refine keeps_foldl (fun u x hu => ?_) ?_))
    | (with_reducible (refine keeps_foldl_fst (fun u x hu => ?_) ?_))
    | (with_reducible (refine keeps_foldl_snd (fun u x hu => ?_) ?_))
    | split
    | fail_if_no_progress (with_reducible (apply keeps_lit))
    | fail_if_no_progress (with_reducible (apply keeps_sys))

theorem keeps_retireDie {z s : State} (ch d : Nat) (hz : Keeps z s) :
    Keeps z (s.retireDie ch d) := by
  unfold State.retireDie
  (try dsimp only)
  repeat' first
    | (with_reducible assumption)
    | (with_reducible (apply keeps_ledger))
    | (with_reducible (apply keeps_report))
    | (with_reducible (apply keeps_setFlag))
    | (with_reducible (refine keeps_foldl (fun u x hu => ?_) ?_))
    | (with_reducible (refine keeps_foldl_fst (fun u x hu => ?_) ?_))
    | (with_reducible (refine keeps_foldl_snd (fun u x hu => ?_) ?_))
    | split
    | fail_if_no_progress (with_reducible (apply keeps_lit))
    | fail_if_no_progress (with_reducible (apply keeps_sys))

theorem keeps_eraseResult {z s : State} (ch d : Nat) (x : List Byte) (fail : Bool) (hz : Keeps z s) :
    Keeps z (s.eraseResult ch d x fail) := by
  unfold State.eraseResult
  (try dsimp only)
  repeat' first
    | (with_reducible assumption)
    | (with_reducible (apply keeps_retireDie))
    | (with_reducible (apply keeps_queueDesc))
    | (with_reducible (apply keeps_columnErased))
    | (with_reducible (apply keeps_eraseDone))
    | (with_reducible (apply keeps_retireBlock))
    | (with_reducible (refine keeps_retireBlock_pair (by assumption) ?_))
    | (with_reducible (apply keeps_ptrUnknown))
    | (with_reducible (apply keeps_setPtr))
    | (with_reducible (apply keeps_dropEars))
    | (with_reducible (apply keeps_withdraw))
    | (with_reducible (apply keeps_ledger))
    | (with_reducible (refine keeps_foldl (fun u x hu => ?_) ?_))
    | (with_reducible (refine keeps_foldl_fst (fun u x hu => ?_) ?_))
    | (with_reducible (refine keeps_foldl_snd (fun u x hu => ?_) ?_))
    | split
    | fail_if_no_progress (with_reducible (apply keeps_lit))
    | fail_if_no_progress (with_reducible (apply keeps_sys))

theorem keeps_checkMismatch {z s : State} (ch d tag kind exp obs : Nat) (hz : Keeps z s) :
    Keeps z (s.checkMismatch ch d tag kind exp obs) := by
  unfold State.checkMismatch
  (try dsimp only)
  repeat' first
    | (with_reducible assumption)
    | (with_reducible (apply keeps_report))
    | (with_reducible (apply keeps_bump))
    | (with_reducible (apply keeps_setFlag))
    | (with_reducible (apply keeps_setFld))
    | (with_reducible (refine keeps_foldl (fun u x hu => ?_) ?_))
    | (with_reducible (refine keeps_foldl_fst (fun u x hu => ?_) ?_))
    | (with_reducible (refine keeps_foldl_snd (fun u x hu => ?_) ?_))
    | split
    | fail_if_no_progress (with_reducible (apply keeps_lit))
    | fail_if_no_progress (with_reducible (apply keeps_sys))

theorem keeps_pollMismatch {z s : State} (ch d : Nat) (x : List Byte) (p : Poll) (hz : Keeps z s) :
    Keeps z (s.pollMismatch ch d x p) := by
  unfold State.pollMismatch
  (try dsimp only)
  repeat' first
    | (with_reducible assumption)
    | (with_reducible (apply keeps_checkMismatch))
    | (with_reducible (refine keeps_foldl (fun u x hu => ?_) ?_))
    | (with_reducible (refine keeps_foldl_fst (fun u x hu => ?_) ?_))
    | (with_reducible (refine keeps_foldl_snd (fun u x hu => ?_) ?_))
    | split
    | fail_if_no_progress (with_reducible (apply keeps_lit))
    | fail_if_no_progress (with_reducible (apply keeps_sys))

theorem keeps_readSigns {z s : State} (ch d : Nat) (x : List Byte) (bad corr : Nat) (hz : Keeps z s) :
    Keeps z (s.readSigns ch d x bad corr) := by
  unfold State.readSigns
  (try dsimp only)
  repeat' first
    | (with_reducible assumption)
    | (with_reducible (apply keeps_lodge))
    | (with_reducible (refine keeps_foldl (fun u x hu => ?_) ?_))
    | (with_reducible (refine keeps_foldl_fst (fun u x hu => ?_) ?_))
    | (with_reducible (refine keeps_foldl_snd (fun u x hu => ?_) ?_))
    | split
    | fail_if_no_progress (with_reducible (apply keeps_lit))
    | fail_if_no_progress (with_reducible (apply keeps_sys))

theorem keeps_deliver {z s : State} (ch d : Nat) (x : List Byte) (out : Nat) (hz : Keeps z s) :
    Keeps z (s.deliver ch d x out) := by
  unfold State.deliver
  (try dsimp only)
  repeat' first
    | (with_reducible assumption)
    | (with_reducible (apply keeps_sramPut))
    | (with_reducible (refine keeps_foldl (fun u x hu => ?_) ?_))
    | (with_reducible (refine keeps_foldl_fst (fun u x hu => ?_) ?_))
    | (with_reducible (refine keeps_foldl_snd (fun u x hu => ?_) ?_))
    | split
    | fail_if_no_progress (with_reducible (apply keeps_lit))
    | fail_if_no_progress (with_reducible (apply keeps_sys))

theorem keeps_finishRead {z s : State} (ch d : Nat) (x : List Byte) (nested : Bool) (p : Poll) (hz : Keeps z s) :
    Keeps z (s.finishRead ch d x nested p) := by
  unfold State.finishRead
  (try dsimp only)
  repeat' first
    | (with_reducible assumption)
    | (with_reducible (apply keeps_deliver))
    | (with_reducible (apply keeps_readSigns))
    | (with_reducible (apply keeps_pollMismatch))
    | (with_reducible (apply keeps_postCpl))
    | (with_reducible (refine keeps_foldl (fun u x hu => ?_) ?_))
    | (with_reducible (refine keeps_foldl_fst (fun u x hu => ?_) ?_))
    | (with_reducible (refine keeps_foldl_snd (fun u x hu => ?_) ?_))
    | split
    | fail_if_no_progress (with_reducible (apply keeps_lit))
    | fail_if_no_progress (with_reducible (apply keeps_sys))

theorem keeps_finishProgram {z s : State} (ch d : Nat) (x : List Byte) (nested : Bool) (p : Poll) (hz : Keeps z s) :
    Keeps z (s.finishProgram ch d x nested p) := by
  unfold State.finishProgram
  (try dsimp only)
  repeat' first
    | (with_reducible assumption)
    | (with_reducible (apply keeps_pollMismatch))
    | (with_reducible (apply keeps_writerPfail))
    | (with_reducible (apply keeps_harvestEar))
    | (with_reducible (apply keeps_twinFail))
    | (with_reducible (apply keeps_stagingFail))
    | (with_reducible (apply keeps_saveEar))
    | (with_reducible (apply keeps_retireBlock))
    | (with_reducible (refine keeps_retireBlock_pair (by assumption) ?_))
    | (with_reducible (apply keeps_lodge))
    | (with_reducible (apply keeps_postCpl))
    | (with_reducible (apply keeps_setPtr))
    | (with_reducible (apply keeps_setDie))
    | (with_reducible (apply keeps_voidEar))
    | (with_reducible (refine keeps_foldl (fun u x hu => ?_) ?_))
    | (with_reducible (refine keeps_foldl_fst (fun u x hu => ?_) ?_))
    | (with_reducible (refine keeps_foldl_snd (fun u x hu => ?_) ?_))
    | split
    | fail_if_no_progress (with_reducible (apply keeps_lit))
    | fail_if_no_progress (with_reducible (apply keeps_sys))

theorem keeps_finishErase {z s : State} (ch d : Nat) (x : List Byte) (p : Poll) (hz : Keeps z s) :
    Keeps z (s.finishErase ch d x p) := by
  unfold State.finishErase
  (try dsimp only)
  repeat' first
    | (with_reducible assumption)
    | (with_reducible (apply keeps_pollMismatch))
    | (with_reducible (apply keeps_eraseResult))
    | (with_reducible (apply keeps_postCpl))
    | (with_reducible (apply keeps_setDie))
    | (with_reducible (refine keeps_foldl (fun u x hu => ?_) ?_))
    | (with_reducible (refine keeps_foldl_fst (fun u x hu => ?_) ?_))
    | (with_reducible (refine keeps_foldl_snd (fun u x hu => ?_) ?_))
    | split
    | fail_if_no_progress (with_reducible (apply keeps_lit))
    | fail_if_no_progress (with_reducible (apply keeps_sys))

theorem keeps_finishOp {z s : State} (ch d : Nat) (p : Poll) (hz : Keeps z s) :
    Keeps z (s.finishOp ch d p) := by
  unfold State.finishOp
  (try dsimp only)
  repeat' first
    | (with_reducible assumption)
    | (with_reducible (apply keeps_finishProgram))
    | (with_reducible (apply keeps_finishRead))
    | (with_reducible (apply keeps_postCpl))
    | (with_reducible (apply keeps_setDie))
    | (with_reducible (refine keeps_foldl (fun u x hu => ?_) ?_))
    | (with_reducible (refine keeps_foldl_fst (fun u x hu => ?_) ?_))
    | (with_reducible (refine keeps_foldl_snd (fun u x hu => ?_) ?_))
    | split
    | fail_if_no_progress (with_reducible (apply keeps_lit))
    | fail_if_no_progress (with_reducible (apply keeps_sys))

theorem keeps_polled {z s : State} (ch d : Nat) (p : Poll) (hz : Keeps z s) :
    Keeps z (s.polled ch d p) := by
  unfold State.polled
  (try dsimp only)
  repeat' first
    | (with_reducible assumption)
    | (with_reducible (apply keeps_setDie))
    | (with_reducible (refine keeps_foldl (fun u x hu => ?_) ?_))
    | (with_reducible (refine keeps_foldl_fst (fun u x hu => ?_) ?_))
    | (with_reducible (refine keeps_foldl_snd (fun u x hu => ?_) ?_))
    | split
    | fail_if_no_progress (with_reducible (apply keeps_lit))
    | fail_if_no_progress (with_reducible (apply keeps_sys))

theorem keeps_eraseWins {z s : State} (ch d : Nat) (x : List Byte) (p : Poll) (hz : Keeps z s) :
    Keeps z (s.eraseWins ch d x p) := by
  unfold State.eraseWins
  (try dsimp only)
  repeat' first
    | (with_reducible assumption)
    | (with_reducible (apply keeps_finishErase))
    | (with_reducible (apply keeps_postCpl))
    | (with_reducible (apply keeps_setDie))
    | (with_reducible (refine keeps_foldl (fun u x hu => ?_) ?_))
    | (with_reducible (refine keeps_foldl_fst (fun u x hu => ?_) ?_))
    | (with_reducible (refine keeps_foldl_snd (fun u x hu => ?_) ?_))
    | split
    | fail_if_no_progress (with_reducible (apply keeps_lit))
    | fail_if_no_progress (with_reducible (apply keeps_sys))

theorem keeps_abortedErase {z s : State} (ch d : Nat) (hz : Keeps z s) :
    Keeps z (s.abortedErase ch d) := by
  unfold State.abortedErase
  (try dsimp only)
  repeat' first
    | (with_reducible assumption)
    | (with_reducible (apply keeps_halfErase))
    | (with_reducible (apply keeps_postCpl))
    | (with_reducible (apply keeps_setPtr))
    | (with_reducible (apply keeps_setDie))
    | (with_reducible (refine keeps_foldl (fun u x hu => ?_) ?_))
    | (with_reducible (refine keeps_foldl_fst (fun u x hu => ?_) ?_))
    | (with_reducible (refine keeps_foldl_snd (fun u x hu => ?_) ?_))
    | split
    | fail_if_no_progress (with_reducible (apply keeps_lit))
    | fail_if_no_progress (with_reducible (apply keeps_sys))

theorem keeps_endOp {z s : State} (ch d code : Nat) (hz : Keeps z s) :
    Keeps z (s.endOp ch d code) := by
  unfold State.endOp
  (try dsimp only)
  repeat' first
    | (with_reducible assumption)
    | (with_reducible (apply keeps_postCpl))
    | (with_reducible (apply keeps_setPtr))
    | (with_reducible (apply keeps_setDie))
    | (with_reducible (apply keeps_voidEar))
    | (with_reducible (refine keeps_foldl (fun u x hu => ?_) ?_))
    | (with_reducible (refine keeps_foldl_fst (fun u x hu => ?_) ?_))
    | (with_reducible (refine keeps_foldl_snd (fun u x hu => ?_) ?_))
    | split
    | fail_if_no_progress (with_reducible (apply keeps_lit))
    | fail_if_no_progress (with_reducible (apply keeps_sys))

theorem keeps_endHeld {z s : State} (ch d code : Nat) (hz : Keeps z s) :
    Keeps z (s.endHeld ch d code) := by
  unfold State.endHeld
  (try dsimp only)
  repeat' first
    | (with_reducible assumption)
    | (with_reducible (apply keeps_postCpl))
    | (with_reducible (apply keeps_setDie))
    | (with_reducible (apply keeps_voidEar))
    | (with_reducible (refine keeps_foldl (fun u x hu => ?_) ?_))
    | (with_reducible (refine keeps_foldl_fst (fun u x hu => ?_) ?_))
    | (with_reducible (refine keeps_foldl_snd (fun u x hu => ?_) ?_))
    | split
    | fail_if_no_progress (with_reducible (apply keeps_lit))
    | fail_if_no_progress (with_reducible (apply keeps_sys))

theorem keeps_withdrawOne {z s : State} (ch d : Nat) (x : List Byte) (hz : Keeps z s) :
    Keeps z (s.withdrawOne ch d x) := by
  unfold State.withdrawOne
  (try dsimp only)
  repeat' first
    | (with_reducible assumption)
    | (with_reducible (apply keeps_endHeld))
    | (with_reducible (apply keeps_postCpl))
    | (with_reducible (apply keeps_setPtr))
    | (with_reducible (apply keeps_voidEar))
    | (with_reducible (refine keeps_foldl (fun u x hu => ?_) ?_))
    | (with_reducible (refine keeps_foldl_fst (fun u x hu => ?_) ?_))
    | (with_reducible (refine keeps_foldl_snd (fun u x hu => ?_) ?_))
    | split
    | fail_if_no_progress (with_reducible (apply keeps_lit))
    | fail_if_no_progress (with_reducible (apply keeps_sys))

theorem keeps_finishAbort {z s : State} (ch d : Nat) (hz : Keeps z s) :
    Keeps z (s.finishAbort ch d) := by
  unfold State.finishAbort
  (try dsimp only)
  repeat' first
    | (with_reducible assumption)
    | (with_reducible (apply keeps_endOp))
    | (with_reducible (apply keeps_abortedErase))
    | (with_reducible (apply keeps_postCpl))
    | (with_reducible (apply keeps_setDie))
    | (with_reducible (refine keeps_foldl (fun u x hu => ?_) ?_))
    | (with_reducible (refine keeps_foldl_fst (fun u x hu => ?_) ?_))
    | (with_reducible (refine keeps_foldl_snd (fun u x hu => ?_) ?_))
    | split
    | fail_if_no_progress (with_reducible (apply keeps_lit))
    | fail_if_no_progress (with_reducible (apply keeps_sys))

theorem keeps_suspendTaken {z s : State} (ch d : Nat) (hz : Keeps z s) :
    Keeps z (s.suspendTaken ch d) := by
  unfold State.suspendTaken
  (try dsimp only)
  repeat' first
    | (with_reducible assumption)
    | (with_reducible (apply keeps_postCpl))
    | (with_reducible (apply keeps_setDie))
    | (with_reducible (refine keeps_foldl (fun u x hu => ?_) ?_))
    | (with_reducible (refine keeps_foldl_fst (fun u x hu => ?_) ?_))
    | (with_reducible (refine keeps_foldl_snd (fun u x hu => ?_) ?_))
    | split
    | fail_if_no_progress (with_reducible (apply keeps_lit))
    | fail_if_no_progress (with_reducible (apply keeps_sys))

theorem keeps_abortMismatch {z s : State} (ch d : Nat) (p : Poll) (hz : Keeps z s) :
    Keeps z (s.abortMismatch ch d p) := by
  unfold State.abortMismatch
  (try dsimp only)
  repeat' first
    | (with_reducible assumption)
    | (with_reducible (apply keeps_pollMismatch))
    | (with_reducible (refine keeps_foldl (fun u x hu => ?_) ?_))
    | (with_reducible (refine keeps_foldl_fst (fun u x hu => ?_) ?_))
    | (with_reducible (refine keeps_foldl_snd (fun u x hu => ?_) ?_))
    | split
    | fail_if_no_progress (with_reducible (apply keeps_lit))
    | fail_if_no_progress (with_reducible (apply keeps_sys))

theorem keeps_fenceEngine {z s : State} (ch : Nat) (hz : Keeps z s) :
    Keeps z (s.fenceEngine ch) := by
  unfold State.fenceEngine
  (try dsimp only)
  repeat' first
    | (with_reducible assumption)
    | (with_reducible (apply keeps_postCpl))
    | (with_reducible (apply keeps_ptrUnknown))
    | (with_reducible (apply keeps_setDie))
    | (with_reducible (apply keeps_voidEar))
    | (with_reducible (apply keeps_setFlag))
    | (with_reducible (refine keeps_foldl (fun u x hu => ?_) ?_))
    | (with_reducible (refine keeps_foldl_fst (fun u x hu => ?_) ?_))
    | (with_reducible (refine keeps_foldl_snd (fun u x hu => ?_) ?_))
    | split
    | fail_if_no_progress (with_reducible (apply keeps_lit))
    | fail_if_no_progress (with_reducible (apply keeps_sys))

theorem keeps_tornPrograms {z s : State}  (hz : Keeps z s) :
    Keeps z (s.tornPrograms ) := by
  unfold State.tornPrograms
  (try dsimp only)
  repeat' first
    | (with_reducible assumption)
    | (with_reducible (apply keeps_voidEar))
    | (with_reducible (refine keeps_foldl (fun u x hu => ?_) ?_))
    | (with_reducible (refine keeps_foldl_fst (fun u x hu => ?_) ?_))
    | (with_reducible (refine keeps_foldl_snd (fun u x hu => ?_) ?_))
    | split
    | fail_if_no_progress (with_reducible (apply keeps_lit))
    | fail_if_no_progress (with_reducible (apply keeps_sys))

theorem keeps_channelShadow {z s : State} (ch : Nat) (hz : Keeps z s) :
    Keeps z (s.channelShadow ch) := by
  unfold State.channelShadow
  (try dsimp only)
  repeat' first
    | (with_reducible assumption)
    | (with_reducible (refine keeps_foldl (fun u x hu => ?_) ?_))
    | (with_reducible (refine keeps_foldl_fst (fun u x hu => ?_) ?_))
    | (with_reducible (refine keeps_foldl_snd (fun u x hu => ?_) ?_))
    | split
    | fail_if_no_progress (with_reducible (apply keeps_lit))
    | fail_if_no_progress (with_reducible (apply keeps_sys))

theorem keeps_channelTrained {z s : State} (ch : Nat) (found : Option Word) (hz : Keeps z s) :
    Keeps z (s.channelTrained ch found) := by
  unfold State.channelTrained
  (try dsimp only)
  repeat' first
    | (with_reducible assumption)
    | (with_reducible (apply keeps_report))
    | (with_reducible (apply keeps_setFlag))
    | (with_reducible (apply keeps_setWord))
    | (with_reducible (refine keeps_foldl (fun u x hu => ?_) ?_))
    | (with_reducible (refine keeps_foldl_fst (fun u x hu => ?_) ?_))
    | (with_reducible (refine keeps_foldl_snd (fun u x hu => ?_) ?_))
    | split
    | fail_if_no_progress (with_reducible (apply keeps_lit))
    | fail_if_no_progress (with_reducible (apply keeps_sys))

theorem keeps_channelReturn {z s : State} (ch : Nat) (hz : Keeps z s) :
    Keeps z (s.channelReturn ch) := by
  unfold State.channelReturn
  (try dsimp only)
  repeat' first
    | (with_reducible assumption)
    | (with_reducible (apply keeps_channelTrained))
    | (with_reducible (apply keeps_channelShadow))
    | (with_reducible (apply keeps_setChan))
    | (with_reducible (apply keeps_setFlag))
    | (with_reducible (refine keeps_foldl (fun u x hu => ?_) ?_))
    | (with_reducible (refine keeps_foldl_fst (fun u x hu => ?_) ?_))
    | (with_reducible (refine keeps_foldl_snd (fun u x hu => ?_) ?_))
    | split
    | fail_if_no_progress (with_reducible (apply keeps_lit))
    | fail_if_no_progress (with_reducible (apply keeps_sys))

theorem keeps_channelsReturn {z s : State}  (hz : Keeps z s) :
    Keeps z (s.channelsReturn ) := by
  unfold State.channelsReturn
  (try dsimp only)
  repeat' first
    | (with_reducible assumption)
    | (with_reducible (apply keeps_channelReturn))
    | (with_reducible (refine keeps_foldl (fun u x hu => ?_) ?_))
    | (with_reducible (refine keeps_foldl_fst (fun u x hu => ?_) ?_))
    | (with_reducible (refine keeps_foldl_snd (fun u x hu => ?_) ?_))
    | split
    | fail_if_no_progress (with_reducible (apply keeps_lit))
    | fail_if_no_progress (with_reducible (apply keeps_sys))

theorem keeps_queuesWithdraw {z s : State} (out : List Byte → Bool) (hz : Keeps z s) :
    Keeps z (s.queuesWithdraw out) := by
  unfold State.queuesWithdraw
  (try dsimp only)
  repeat' first
    | (with_reducible assumption)
    | (with_reducible (apply keeps_withdrawOne))
    | (with_reducible (apply keeps_setDie))
    | (with_reducible (refine keeps_foldl (fun u x hu => ?_) ?_))
    | (with_reducible (refine keeps_foldl_fst (fun u x hu => ?_) ?_))
    | (with_reducible (refine keeps_foldl_snd (fun u x hu => ?_) ?_))
    | split
    | fail_if_no_progress (with_reducible (apply keeps_lit))
    | fail_if_no_progress (with_reducible (apply keeps_sys))

theorem keeps_fceWithdraw {z s : State}  (hz : Keeps z s) :
    Keeps z (s.fceWithdraw ) := by
  unfold State.fceWithdraw
  (try dsimp only)
  repeat' first
    | (with_reducible assumption)
    | (with_reducible (apply keeps_queuesWithdraw))
    | (with_reducible (apply keeps_postCpl))
    | (with_reducible (apply keeps_setDie))
    | (with_reducible (refine keeps_foldl (fun u x hu => ?_) ?_))
    | (with_reducible (refine keeps_foldl_fst (fun u x hu => ?_) ?_))
    | (with_reducible (refine keeps_foldl_snd (fun u x hu => ?_) ?_))
    | split
    | fail_if_no_progress (with_reducible (apply keeps_lit))
    | fail_if_no_progress (with_reducible (apply keeps_sys))

theorem keeps_fceResumeAll {z s : State}  (hz : Keeps z s) :
    Keeps z (s.fceResumeAll ) := by
  unfold State.fceResumeAll
  (try dsimp only)
  repeat' first
    | (with_reducible assumption)
    | (with_reducible (apply keeps_setDie))
    | (with_reducible (refine keeps_foldl (fun u x hu => ?_) ?_))
    | (with_reducible (refine keeps_foldl_fst (fun u x hu => ?_) ?_))
    | (with_reducible (refine keeps_foldl_snd (fun u x hu => ?_) ?_))
    | split
    | fail_if_no_progress (with_reducible (apply keeps_lit))
    | fail_if_no_progress (with_reducible (apply keeps_sys))

theorem keeps_takeCompletions {z s : State}  (hz : Keeps z s) :
    Keeps z (s.takeCompletions ) := by
  unfold State.takeCompletions
  (try dsimp only)
  repeat' first
    | (with_reducible assumption)
    | (with_reducible (apply keeps_setChan))
    | (with_reducible (refine keeps_foldl (fun u x hu => ?_) ?_))
    | (with_reducible (refine keeps_foldl_fst (fun u x hu => ?_) ?_))
    | (with_reducible (refine keeps_foldl_snd (fun u x hu => ?_) ?_))
    | split
    | fail_if_no_progress (with_reducible (apply keeps_lit))
    | fail_if_no_progress (with_reducible (apply keeps_sys))

theorem keeps_writeIf {z s : State} (ch reg : Nat) (v : Word) (h : Keeps z s) : Keeps z (s.writeIf ch reg v).1 := by
  unfold State.writeIf
  dsimp only
  generalize (if reg = 3 then !Config.tmoTooShort ch v else s.ifTakes ch reg v) = ok
  cases ok
  · exact keeps_setFlag _ _ h
  · exact keeps_applyIf _ (keeps_setChan _ _ h)

theorem keeps_writeIf_pair {z s t : State} {ch reg : Nat} {v : Word} {b : Bool} (e : s.writeIf ch reg v = (t, b)) (h : Keeps z s) :
    Keeps z t := by
  have := keeps_writeIf ch reg v h; rw [e] at this; exact this

theorem keeps_execFceIfWrite {z s : State} (ch : Fin 17) (reg : Fin 4) (v : Word) (hz : Keeps z s) :
    KeepsO z (execFceIfWrite ch reg v s) := by
  unfold execFceIfWrite
  (try dsimp only)
  repeat' first
    | (with_reducible assumption)
    | (with_reducible (apply keeps_writeIf))
    | (with_reducible (refine keeps_writeIf_pair (by assumption) ?_))
    | (with_reducible (apply keepsO_next))
    | (with_reducible (refine keeps_foldl (fun u x hu => ?_) ?_))
    | (with_reducible (refine keeps_foldl_fst (fun u x hu => ?_) ?_))
    | (with_reducible (refine keeps_foldl_snd (fun u x hu => ?_) ?_))
    | split
    | fail_if_no_progress (with_reducible (apply keeps_lit))
    | fail_if_no_progress (with_reducible (apply keeps_sys))

theorem keeps_execFceUnfence {z s : State} (ch : Fin 17) (hz : Keeps z s) :
    KeepsO z (execFceUnfence ch s) := by
  unfold execFceUnfence
  (try dsimp only)
  repeat' first
    | (with_reducible assumption)
    | (with_reducible (apply keeps_setChan))
    | (with_reducible (apply keepsO_next))
    | (with_reducible (refine keeps_foldl (fun u x hu => ?_) ?_))
    | (with_reducible (refine keeps_foldl_fst (fun u x hu => ?_) ?_))
    | (with_reducible (refine keeps_foldl_snd (fun u x hu => ?_) ?_))
    | split
    | fail_if_no_progress (with_reducible (apply keeps_lit))
    | fail_if_no_progress (with_reducible (apply keeps_sys))

theorem keeps_takeDram {z s : State} (owner : Nat) (hz : Keeps z s) :
    Keeps z (s.takeDram owner) := by
  unfold State.takeDram
  (try dsimp only)
  repeat' first
    | (with_reducible assumption)
    | (with_reducible (apply keeps_setFlag))
    | (with_reducible (apply keeps_setFld))
    | (with_reducible (refine keeps_foldl (fun u x hu => ?_) ?_))
    | (with_reducible (refine keeps_foldl_fst (fun u x hu => ?_) ?_))
    | (with_reducible (refine keeps_foldl_snd (fun u x hu => ?_) ?_))
    | split
    | fail_if_no_progress (with_reducible (apply keeps_lit))
    | fail_if_no_progress (with_reducible (apply keeps_sys))

theorem keeps_payOwed {z s : State}  (hz : Keeps z s) :
    Keeps z (s.payOwed ) := by
  unfold State.payOwed
  (try dsimp only)
  repeat' first
    | (with_reducible assumption)
    | (with_reducible (apply keeps_wrap))
    | (with_reducible (refine keeps_foldl (fun u x hu => ?_) ?_))
    | (with_reducible (refine keeps_foldl_fst (fun u x hu => ?_) ?_))
    | (with_reducible (refine keeps_foldl_snd (fun u x hu => ?_) ?_))
    | split
    | fail_if_no_progress (with_reducible (apply keeps_lit))
    | fail_if_no_progress (with_reducible (apply keeps_sys))

theorem keeps_clockBack {z s : State}  (hz : Keeps z s) :
    Keeps z (s.clockBack ) := by
  unfold State.clockBack
  (try dsimp only)
  repeat' first
    | (with_reducible assumption)
    | (with_reducible (apply keeps_setFlag))
    | (with_reducible (refine keeps_foldl (fun u x hu => ?_) ?_))
    | (with_reducible (refine keeps_foldl_fst (fun u x hu => ?_) ?_))
    | (with_reducible (refine keeps_foldl_snd (fun u x hu => ?_) ?_))
    | split
    | fail_if_no_progress (with_reducible (apply keeps_lit))
    | fail_if_no_progress (with_reducible (apply keeps_sys))

theorem keeps_giveDram {z s : State}  (hz : Keeps z s) :
    Keeps z (s.giveDram ) := by
  unfold State.giveDram
  (try dsimp only)
  repeat' first
    | (with_reducible assumption)
    | (with_reducible (apply keeps_clockBack))
    | (with_reducible (apply keeps_payOwed))
    | (with_reducible (apply keeps_setFlag))
    | (with_reducible (apply keeps_setFld))
    | (with_reducible (refine keeps_foldl (fun u x hu => ?_) ?_))
    | (with_reducible (refine keeps_foldl_fst (fun u x hu => ?_) ?_))
    | (with_reducible (refine keeps_foldl_snd (fun u x hu => ?_) ?_))
    | split
    | fail_if_no_progress (with_reducible (apply keeps_lit))
    | fail_if_no_progress (with_reducible (apply keeps_sys))

theorem keeps_searchFlag {z s : State}  (hz : Keeps z s) :
    Keeps z (s.searchFlag ) := by
  unfold State.searchFlag
  (try dsimp only)
  repeat' first
    | (with_reducible assumption)
    | (with_reducible (apply keeps_setFlag))
    | (with_reducible (refine keeps_foldl (fun u x hu => ?_) ?_))
    | (with_reducible (refine keeps_foldl_fst (fun u x hu => ?_) ?_))
    | (with_reducible (refine keeps_foldl_snd (fun u x hu => ?_) ?_))
    | split
    | fail_if_no_progress (with_reducible (apply keeps_lit))
    | fail_if_no_progress (with_reducible (apply keeps_sys))

theorem keeps_lockDAt {z s : State} (sp : Nat) (hz : Keeps z s) :
    Keeps z (s.lockDAt sp) := by
  unfold State.lockDAt
  (try dsimp only)
  repeat' first
    | (with_reducible assumption)
    | (with_reducible (apply keeps_searchFlag))
    | (with_reducible (apply keeps_setFlag))
    | (with_reducible (refine keeps_foldl (fun u x hu => ?_) ?_))
    | (with_reducible (refine keeps_foldl_fst (fun u x hu => ?_) ?_))
    | (with_reducible (refine keeps_foldl_snd (fun u x hu => ?_) ?_))
    | split
    | fail_if_no_progress (with_reducible (apply keeps_lit))
    | fail_if_no_progress (with_reducible (apply keeps_sys))

theorem keeps_hopD {z s : State} (sp : Nat) (hz : Keeps z s) :
    Keeps z (s.hopD sp) := by
  unfold State.hopD
  (try dsimp only)
  repeat' first
    | (with_reducible assumption)
    | (with_reducible (apply keeps_lockDAt))
    | (with_reducible (refine keeps_foldl (fun u x hu => ?_) ?_))
    | (with_reducible (refine keeps_foldl_fst (fun u x hu => ?_) ?_))
    | (with_reducible (refine keeps_foldl_snd (fun u x hu => ?_) ?_))
    | split
    | fail_if_no_progress (with_reducible (apply keeps_lit))
    | fail_if_no_progress (with_reducible (apply keeps_sys))

theorem keeps_setOwed {z s : State} (t n : Nat) (hz : Keeps z s) :
    Keeps z (s.setOwed t n) := by
  unfold State.setOwed
  (try dsimp only)
  repeat' first
    | (with_reducible assumption)
    | (with_reducible (apply keeps_setFld))
    | (with_reducible (refine keeps_foldl (fun u x hu => ?_) ?_))
    | (with_reducible (refine keeps_foldl_fst (fun u x hu => ?_) ?_))
    | (with_reducible (refine keeps_foldl_snd (fun u x hu => ?_) ?_))
    | split
    | fail_if_no_progress (with_reducible (apply keeps_lit))
    | fail_if_no_progress (with_reducible (apply keeps_sys))

theorem keeps_planDeviation {z s : State} (target port : Nat) (hz : Keeps z s) :
    Keeps z (s.planDeviation target port) := by
  unfold State.planDeviation
  (try dsimp only)
  repeat' first
    | (with_reducible assumption)
    | (with_reducible (apply keeps_emit))
    | (with_reducible (refine keeps_foldl (fun u x hu => ?_) ?_))
    | (with_reducible (refine keeps_foldl_fst (fun u x hu => ?_) ?_))
    | (with_reducible (refine keeps_foldl_snd (fun u x hu => ?_) ?_))
    | split
    | fail_if_no_progress (with_reducible (apply keeps_lit))
    | fail_if_no_progress (with_reducible (apply keeps_sys))

theorem keeps_refreshed {z s : State} (t : Nat) (hz : Keeps z s) :
    Keeps z (s.refreshed t) := by
  unfold State.refreshed
  (try dsimp only)
  repeat' first
    | (with_reducible assumption)
    | (with_reducible (apply keeps_wrap))
    | (with_reducible (refine keeps_foldl (fun u x hu => ?_) ?_))
    | (with_reducible (refine keeps_foldl_fst (fun u x hu => ?_) ?_))
    | (with_reducible (refine keeps_foldl_snd (fun u x hu => ?_) ?_))
    | split
    | fail_if_no_progress (with_reducible (apply keeps_lit))
    | fail_if_no_progress (with_reducible (apply keeps_sys))

theorem keeps_intervalTaken {z s : State} (t : Nat) (hz : Keeps z s) :
    Keeps z (s.intervalTaken t) := by
  unfold State.intervalTaken
  (try dsimp only)
  repeat' first
    | (with_reducible assumption)
    | (with_reducible (apply keeps_setFlag))
    | (with_reducible (refine keeps_foldl (fun u x hu => ?_) ?_))
    | (with_reducible (refine keeps_foldl_fst (fun u x hu => ?_) ?_))
    | (with_reducible (refine keeps_foldl_snd (fun u x hu => ?_) ?_))
    | split
    | fail_if_no_progress (with_reducible (apply keeps_lit))
    | fail_if_no_progress (with_reducible (apply keeps_sys))

theorem keeps_countAct {z s : State} (r : BdcReq) (hz : Keeps z s) :
    Keeps z (s.countAct r) := by
  unfold State.countAct
  (try dsimp only)
  repeat' first
    | (with_reducible assumption)
    | (with_reducible (apply keeps_planDeviation))
    | (with_reducible (apply keeps_note))
    | (with_reducible (apply keeps_setFlag))
    | (with_reducible (refine keeps_foldl (fun u x hu => ?_) ?_))
    | (with_reducible (refine keeps_foldl_fst (fun u x hu => ?_) ?_))
    | (with_reducible (refine keeps_foldl_snd (fun u x hu => ?_) ?_))
    | split
    | fail_if_no_progress (with_reducible (apply keeps_lit))
    | fail_if_no_progress (with_reducible (apply keeps_sys))

theorem keeps_nextJob {z s : State}  (hz : Keeps z s) :
    Keeps z (s.nextJob ) := by
  unfold State.nextJob
  (try dsimp only)
  repeat' first
    | (with_reducible assumption)
    | (with_reducible (apply keeps_setD))
    | (with_reducible (refine keeps_foldl (fun u x hu => ?_) ?_))
    | (with_reducible (refine keeps_foldl_fst (fun u x hu => ?_) ?_))
    | (with_reducible (refine keeps_foldl_snd (fun u x hu => ?_) ?_))
    | split
    | fail_if_no_progress (with_reducible (apply keeps_lit))
    | fail_if_no_progress (with_reducible (apply keeps_sys))

theorem keeps_retrainBegin {z s : State} (sp : Nat) (hz : Keeps z s) :
    Keeps z (s.retrainBegin sp) := by
  unfold State.retrainBegin
  (try dsimp only)
  repeat' first
    | (with_reducible assumption)
    | (with_reducible (apply keeps_takeDram))
    | (with_reducible (apply keeps_applyModeRegs))
    | (with_reducible (apply keeps_runFrom))
    | (with_reducible (apply keeps_setFlag))
    | (with_reducible (refine keeps_foldl (fun u x hu => ?_) ?_))
    | (with_reducible (refine keeps_foldl_fst (fun u x hu => ?_) ?_))
    | (with_reducible (refine keeps_foldl_snd (fun u x hu => ?_) ?_))
    | split
    | fail_if_no_progress (with_reducible (apply keeps_lit))
    | fail_if_no_progress (with_reducible (apply keeps_sys))

theorem keeps_harvestNext {z s : State}  (hz : Keeps z s) :
    Keeps z (s.harvestNext ) := by
  unfold State.harvestNext
  (try dsimp only)
  repeat' first
    | (with_reducible assumption)
    | (with_reducible (apply keeps_retrainBegin))
    | (with_reducible (apply keeps_nextJob))
    | (with_reducible (apply keeps_hopD))
    | (with_reducible (refine keeps_foldl (fun u x hu => ?_) ?_))
    | (with_reducible (refine keeps_foldl_fst (fun u x hu => ?_) ?_))
    | (with_reducible (refine keeps_foldl_snd (fun u x hu => ?_) ?_))
    | split
    | fail_if_no_progress (with_reducible (apply keeps_lit))
    | fail_if_no_progress (with_reducible (apply keeps_sys))

theorem keeps_harvestPlace {z s : State} (g : Nat) (h : Keeps z s) : Keeps z (s.harvestPlace g) := by
  unfold State.harvestPlace
  split
  · exact h
  · dsimp only
    split
    · exact h
    · rename_i e
      split at e
      · exact keeps_lit _ (keeps_takeGlean_pair e h)
      · split at e
        · cases e
        · exact keeps_lit _ (keeps_allocSwath_pair e h)

theorem keeps_harvestLine {z s : State} (ma : Nat) (hz : Keeps z s) :
    Keeps z (s.harvestLine ma) := by
  unfold State.harvestLine
  (try dsimp only)
  repeat' first
    | (with_reducible assumption)
    | (with_reducible (apply keeps_harvestPlace))
    | (with_reducible (apply keeps_harvestNext))
    | (with_reducible (apply keeps_gleanVerify))
    | (with_reducible (refine keeps_foldl (fun u x hu => ?_) ?_))
    | (with_reducible (refine keeps_foldl_fst (fun u x hu => ?_) ?_))
    | (with_reducible (refine keeps_foldl_snd (fun u x hu => ?_) ?_))
    | split
    | fail_if_no_progress (with_reducible (apply keeps_lit))
    | fail_if_no_progress (with_reducible (apply keeps_sys))

theorem keeps_scrubLine {z s : State} (ma : Nat) (hz : Keeps z s) :
    Keeps z (s.scrubLine ma) := by
  unfold State.scrubLine
  (try dsimp only)
  repeat' first
    | (with_reducible assumption)
    | (with_reducible (apply keeps_note))
    | (with_reducible (apply keeps_bump))
    | (with_reducible (apply keeps_setFld))
    | (with_reducible (refine keeps_foldl (fun u x hu => ?_) ?_))
    | (with_reducible (refine keeps_foldl_fst (fun u x hu => ?_) ?_))
    | (with_reducible (refine keeps_foldl_snd (fun u x hu => ?_) ?_))
    | split
    | fail_if_no_progress (with_reducible (apply keeps_lit))
    | fail_if_no_progress (with_reducible (apply keeps_sys))

theorem keeps_hasherLine {z s : State} (ma : Nat) (hz : Keeps z s) :
    Keeps z (s.hasherLine ma) := by
  unfold State.hasherLine
  (try dsimp only)
  repeat' first
    | (with_reducible assumption)
    | (with_reducible (refine keeps_foldl (fun u x hu => ?_) ?_))
    | (with_reducible (refine keeps_foldl_fst (fun u x hu => ?_) ?_))
    | (with_reducible (refine keeps_foldl_snd (fun u x hu => ?_) ?_))
    | split
    | fail_if_no_progress (with_reducible (apply keeps_lit))
    | fail_if_no_progress (with_reducible (apply keeps_sys))

theorem keeps_restoreLine {z s : State} (ma : Nat) (hz : Keeps z s) :
    Keeps z (s.restoreLine ma) := by
  unfold State.restoreLine
  (try dsimp only)
  repeat' first
    | (with_reducible assumption)
    | (with_reducible (apply keeps_setFld))
    | (with_reducible (refine keeps_foldl (fun u x hu => ?_) ?_))
    | (with_reducible (refine keeps_foldl_fst (fun u x hu => ?_) ?_))
    | (with_reducible (refine keeps_foldl_snd (fun u x hu => ?_) ?_))
    | split
    | fail_if_no_progress (with_reducible (apply keeps_lit))
    | fail_if_no_progress (with_reducible (apply keeps_sys))

theorem keeps_countHostAct {z s : State} (b : Nat) (hz : Keeps z s) :
    Keeps z (s.countHostAct b) := by
  unfold State.countHostAct
  (try dsimp only)
  repeat' first
    | (with_reducible assumption)
    | (with_reducible (refine keeps_foldl (fun u x hu => ?_) ?_))
    | (with_reducible (refine keeps_foldl_fst (fun u x hu => ?_) ?_))
    | (with_reducible (refine keeps_foldl_snd (fun u x hu => ?_) ?_))
    | split
    | fail_if_no_progress (with_reducible (apply keeps_lit))
    | fail_if_no_progress (with_reducible (apply keeps_sys))

theorem keeps_retrainEnd {z s : State}  (hz : Keeps z s) :
    Keeps z (s.retrainEnd ) := by
  unfold State.retrainEnd
  (try dsimp only)
  repeat' first
    | (with_reducible assumption)
    | (with_reducible (apply keeps_hopD))
    | (with_reducible (apply keeps_trainHalt))
    | (with_reducible (apply keeps_setFlag))
    | (with_reducible (refine keeps_foldl (fun u x hu => ?_) ?_))
    | (with_reducible (refine keeps_foldl_fst (fun u x hu => ?_) ?_))
    | (with_reducible (refine keeps_foldl_snd (fun u x hu => ?_) ?_))
    | split
    | fail_if_no_progress (with_reducible (apply keeps_lit))
    | fail_if_no_progress (with_reducible (apply keeps_sys))

theorem keeps_harvestStop {z s : State}  (hz : Keeps z s) :
    Keeps z (s.harvestStop ) := by
  unfold State.harvestStop
  (try dsimp only)
  repeat' first
    | (with_reducible assumption)
    | (with_reducible (apply keeps_retrainEnd))
    | (with_reducible (apply keeps_setD))
    | (with_reducible (apply keeps_window))
    | (with_reducible (apply keeps_setFlag))
    | (with_reducible (refine keeps_foldl (fun u x hu => ?_) ?_))
    | (with_reducible (refine keeps_foldl_fst (fun u x hu => ?_) ?_))
    | (with_reducible (refine keeps_foldl_snd (fun u x hu => ?_) ?_))
    | split
    | fail_if_no_progress (with_reducible (apply keeps_lit))
    | fail_if_no_progress (with_reducible (apply keeps_sys))

theorem keeps_harvestFreeze {z s : State}  (hz : Keeps z s) :
    Keeps z (s.harvestFreeze ) := by
  unfold State.harvestFreeze
  (try dsimp only)
  repeat' first
    | (with_reducible assumption)
    | (with_reducible (apply keeps_harvestStop))
    | (with_reducible (apply keeps_setD))
    | (with_reducible (apply keeps_setFlag))
    | (with_reducible (refine keeps_foldl (fun u x hu => ?_) ?_))
    | (with_reducible (refine keeps_foldl_fst (fun u x hu => ?_) ?_))
    | (with_reducible (refine keeps_foldl_snd (fun u x hu => ?_) ?_))
    | split
    | fail_if_no_progress (with_reducible (apply keeps_lit))
    | fail_if_no_progress (with_reducible (apply keeps_sys))

theorem keeps_writeCheckSwath {z s t : State} {c : Nat} {gs : List (Nat × SMap CheckBytes)}
    (e : s.writeCheckSwath c gs = some t) (h : Keeps z s) : Keeps z t := by
  unfold State.writeCheckSwath at e
  simp only [Option.map_eq_some_iff] at e
  obtain ⟨y, hy, rfl⟩ := e
  exact keeps_setCmap _ _ (keeps_putSheaf _ _ (keeps_allocSwath hy h))

theorem keeps_execDctWindowRead {z s : State} (v : Word) (hz : Keeps z s) :
    KeepsO z (execDctWindowRead v s) := by
  unfold execDctWindowRead
  (try dsimp only)
  repeat' first
    | (with_reducible assumption)
    | (with_reducible (apply keeps_setFlag))
    | (with_reducible (apply keeps_setFld))
    | (with_reducible (apply keepsO_next))
    | (with_reducible (refine keeps_foldl (fun u x hu => ?_) ?_))
    | (with_reducible (refine keeps_foldl_fst (fun u x hu => ?_) ?_))
    | (with_reducible (refine keeps_foldl_snd (fun u x hu => ?_) ?_))
    | split
    | fail_if_no_progress (with_reducible (apply keeps_lit))
    | fail_if_no_progress (with_reducible (apply keeps_sys))

theorem keeps_handbackEnd {z s : State} (ns : Nat) (hz : Keeps z s) :
    Keeps z (s.handbackEnd ns) := by
  unfold State.handbackEnd
  (try dsimp only)
  repeat' first
    | (with_reducible assumption)
    | (with_reducible (apply keeps_giveDram))
    | (with_reducible (apply keeps_setFld))
    | (with_reducible (refine keeps_foldl (fun u x hu => ?_) ?_))
    | (with_reducible (refine keeps_foldl_fst (fun u x hu => ?_) ?_))
    | (with_reducible (refine keeps_foldl_snd (fun u x hu => ?_) ?_))
    | split
    | fail_if_no_progress (with_reducible (apply keeps_lit))
    | fail_if_no_progress (with_reducible (apply keeps_sys))

theorem keeps_lockH {z s : State}  (hz : Keeps z s) :
    Keeps z (s.lockH ) := by
  unfold State.lockH
  (try dsimp only)
  repeat' first
    | (with_reducible assumption)
    | (with_reducible (apply keeps_searchFlag))
    | (with_reducible (apply keeps_setFlag))
    | (with_reducible (refine keeps_foldl (fun u x hu => ?_) ?_))
    | (with_reducible (refine keeps_foldl_fst (fun u x hu => ?_) ?_))
    | (with_reducible (refine keeps_foldl_snd (fun u x hu => ?_) ?_))
    | split
    | fail_if_no_progress (with_reducible (apply keeps_lit))
    | fail_if_no_progress (with_reducible (apply keeps_sys))

theorem keeps_lockD {z s : State}  (hz : Keeps z s) :
    Keeps z (s.lockD ) := by
  unfold State.lockD
  (try dsimp only)
  repeat' first
    | (with_reducible assumption)
    | (with_reducible (apply keeps_lockDAt))
    | (with_reducible (refine keeps_foldl (fun u x hu => ?_) ?_))
    | (with_reducible (refine keeps_foldl_fst (fun u x hu => ?_) ?_))
    | (with_reducible (refine keeps_foldl_snd (fun u x hu => ?_) ?_))
    | split
    | fail_if_no_progress (with_reducible (apply keeps_lit))
    | fail_if_no_progress (with_reducible (apply keeps_sys))

theorem keeps_lockF {z s : State}  (hz : Keeps z s) :
    Keeps z (s.lockF ) := by
  unfold State.lockF
  (try dsimp only)
  repeat' first
    | (with_reducible assumption)
    | (with_reducible (apply keeps_searchFlag))
    | (with_reducible (apply keeps_setFlag))
    | (with_reducible (refine keeps_foldl (fun u x hu => ?_) ?_))
    | (with_reducible (refine keeps_foldl_fst (fun u x hu => ?_) ?_))
    | (with_reducible (refine keeps_foldl_snd (fun u x hu => ?_) ?_))
    | split
    | fail_if_no_progress (with_reducible (apply keeps_lit))
    | fail_if_no_progress (with_reducible (apply keeps_sys))

theorem keeps_enterSelfRef {z s : State}  (hz : Keeps z s) :
    Keeps z (s.enterSelfRef ) := by
  unfold State.enterSelfRef
  (try dsimp only)
  repeat' first
    | (with_reducible assumption)
    | (with_reducible (refine keeps_foldl (fun u x hu => ?_) ?_))
    | (with_reducible (refine keeps_foldl_fst (fun u x hu => ?_) ?_))
    | (with_reducible (refine keeps_foldl_snd (fun u x hu => ?_) ?_))
    | split
    | fail_if_no_progress (with_reducible (apply keeps_lit))
    | fail_if_no_progress (with_reducible (apply keeps_sys))

theorem keeps_leaveSelfRef {z s : State}  (hz : Keeps z s) :
    Keeps z (s.leaveSelfRef ) := by
  unfold State.leaveSelfRef
  (try dsimp only)
  repeat' first
    | (with_reducible assumption)
    | (with_reducible (refine keeps_foldl (fun u x hu => ?_) ?_))
    | (with_reducible (refine keeps_foldl_fst (fun u x hu => ?_) ?_))
    | (with_reducible (refine keeps_foldl_snd (fun u x hu => ?_) ?_))
    | split
    | fail_if_no_progress (with_reducible (apply keeps_lit))
    | fail_if_no_progress (with_reducible (apply keeps_sys))

theorem keeps_trainOrWait {z s : State}  (hz : Keeps z s) :
    Keeps z (s.trainOrWait ) := by
  unfold State.trainOrWait
  (try dsimp only)
  repeat' first
    | (with_reducible assumption)
    | (with_reducible (apply keeps_trainRun))
    | (with_reducible (apply keeps_setFlag))
    | (with_reducible (refine keeps_foldl (fun u x hu => ?_) ?_))
    | (with_reducible (refine keeps_foldl_fst (fun u x hu => ?_) ?_))
    | (with_reducible (refine keeps_foldl_snd (fun u x hu => ?_) ?_))
    | split
    | fail_if_no_progress (with_reducible (apply keeps_lit))
    | fail_if_no_progress (with_reducible (apply keeps_sys))

theorem keeps_lossAbandon {z s : State}  (hz : Keeps z s) :
    Keeps z (s.lossAbandon ) := by
  unfold State.lossAbandon
  (try dsimp only)
  repeat' first
    | (with_reducible assumption)
    | (with_reducible (apply keeps_trainHalt))
    | (with_reducible (apply keeps_setFld))
    | (with_reducible (refine keeps_foldl (fun u x hu => ?_) ?_))
    | (with_reducible (refine keeps_foldl_fst (fun u x hu => ?_) ?_))
    | (with_reducible (refine keeps_foldl_snd (fun u x hu => ?_) ?_))
    | split
    | fail_if_no_progress (with_reducible (apply keeps_lit))
    | fail_if_no_progress (with_reducible (apply keeps_sys))

theorem keeps_clockGone {z s : State}  (hz : Keeps z s) :
    Keeps z (s.clockGone ) := by
  unfold State.clockGone
  (try dsimp only)
  repeat' first
    | (with_reducible assumption)
    | (with_reducible (apply keeps_lossAbandon))
    | (with_reducible (apply keeps_searchFlag))
    | (with_reducible (apply keeps_note))
    | (with_reducible (apply keeps_bump))
    | (with_reducible (apply keeps_setFlag))
    | (with_reducible (refine keeps_foldl (fun u x hu => ?_) ?_))
    | (with_reducible (refine keeps_foldl_fst (fun u x hu => ?_) ?_))
    | (with_reducible (refine keeps_foldl_snd (fun u x hu => ?_) ?_))
    | split
    | fail_if_no_progress (with_reducible (apply keeps_lit))
    | fail_if_no_progress (with_reducible (apply keeps_sys))

theorem keeps_discontinuityEntry {z s : State}  (hz : Keeps z s) :
    Keeps z (s.discontinuityEntry ) := by
  unfold State.discontinuityEntry
  (try dsimp only)
  repeat' first
    | (with_reducible assumption)
    | (with_reducible (apply keeps_enterSelfRef))
    | (with_reducible (apply keeps_searchFlag))
    | (with_reducible (apply keeps_takeDram))
    | (with_reducible (apply keeps_setFlag))
    | (with_reducible (refine keeps_foldl (fun u x hu => ?_) ?_))
    | (with_reducible (refine keeps_foldl_fst (fun u x hu => ?_) ?_))
    | (with_reducible (refine keeps_foldl_snd (fun u x hu => ?_) ?_))
    | split
    | fail_if_no_progress (with_reducible (apply keeps_lit))
    | fail_if_no_progress (with_reducible (apply keeps_sys))

theorem keeps_hLocked {z s : State}  (hz : Keeps z s) :
    Keeps z (s.hLocked ) := by
  unfold State.hLocked
  (try dsimp only)
  repeat' first
    | (with_reducible assumption)
    | (with_reducible (apply keeps_clockBack))
    | (with_reducible (apply keeps_trainRun))
    | (with_reducible (apply keeps_setFlag))
    | (with_reducible (refine keeps_foldl (fun u x hu => ?_) ?_))
    | (with_reducible (refine keeps_foldl_fst (fun u x hu => ?_) ?_))
    | (with_reducible (refine keeps_foldl_snd (fun u x hu => ?_) ?_))
    | split
    | fail_if_no_progress (with_reducible (apply keeps_lit))
    | fail_if_no_progress (with_reducible (apply keeps_sys))

theorem keeps_searched {z s : State} (lp sp : Nat) (band : BitVec 6) (fine : BitVec 10) (temp : Byte) (hz : Keeps z s) :
    Keeps z (s.searched lp sp band fine temp) := by
  unfold State.searched
  (try dsimp only)
  repeat' first
    | (with_reducible assumption)
    | (with_reducible (apply keeps_ledgerTraining))
    | (with_reducible (apply keeps_bump))
    | (with_reducible (refine keeps_foldl (fun u x hu => ?_) ?_))
    | (with_reducible (refine keeps_foldl_fst (fun u x hu => ?_) ?_))
    | (with_reducible (refine keeps_foldl_snd (fun u x hu => ?_) ?_))
    | split
    | fail_if_no_progress (with_reducible (apply keeps_lit))
    | fail_if_no_progress (with_reducible (apply keeps_sys))

theorem keeps_pllLocked {z s : State} (loop : PllLoop) (band : BitVec 6) (fine : BitVec 10) (temp : Byte) (hz : Keeps z s) :
    Keeps z (s.pllLocked loop band fine temp) := by
  unfold State.pllLocked
  (try dsimp only)
  repeat' first
    | (with_reducible assumption)
    | (with_reducible (apply keeps_searched))
    | (with_reducible (apply keeps_hLocked))
    | (with_reducible (apply keeps_searchFlag))
    | (with_reducible (apply keeps_setFlag))
    | (with_reducible (refine keeps_foldl (fun u x hu => ?_) ?_))
    | (with_reducible (refine keeps_foldl_fst (fun u x hu => ?_) ?_))
    | (with_reducible (refine keeps_foldl_snd (fun u x hu => ?_) ?_))
    | split
    | fail_if_no_progress (with_reducible (apply keeps_lit))
    | fail_if_no_progress (with_reducible (apply keeps_sys))

theorem keeps_writeUserSp {z s : State} (u : Nat) (v : Word) (hz : Keeps z s) :
    Keeps z (s.writeUserSp u v) := by
  unfold State.writeUserSp
  (try dsimp only)
  repeat' first
    | (with_reducible assumption)
    | (with_reducible (apply keeps_setFld))
    | (with_reducible (refine keeps_foldl (fun u x hu => ?_) ?_))
    | (with_reducible (refine keeps_foldl_fst (fun u x hu => ?_) ?_))
    | (with_reducible (refine keeps_foldl_snd (fun u x hu => ?_) ?_))
    | split
    | fail_if_no_progress (with_reducible (apply keeps_lit))
    | fail_if_no_progress (with_reducible (apply keeps_sys))

theorem keeps_execClkSpUserWrite {z s : State} (u : Fin 3) (v : Word) (hz : Keeps z s) :
    KeepsO z (execClkSpUserWrite u v s) := by
  unfold execClkSpUserWrite
  (try dsimp only)
  repeat' first
    | (with_reducible assumption)
    | (with_reducible (apply keeps_writeUserSp))
    | (with_reducible (apply keepsO_next))
    | (with_reducible (refine keeps_foldl (fun u x hu => ?_) ?_))
    | (with_reducible (refine keeps_foldl_fst (fun u x hu => ?_) ?_))
    | (with_reducible (refine keeps_foldl_snd (fun u x hu => ?_) ?_))
    | split
    | fail_if_no_progress (with_reducible (apply keeps_lit))
    | fail_if_no_progress (with_reducible (apply keeps_sys))

theorem keeps_spGo {z s : State}  (hz : Keeps z s) :
    Keeps z (s.spGo ) := by
  unfold State.spGo
  (try dsimp only)
  repeat' first
    | (with_reducible assumption)
    | (with_reducible (apply keeps_trainOrWait))
    | (with_reducible (apply keeps_lockD))
    | (with_reducible (apply keeps_lockH))
    | (with_reducible (apply keeps_harvestStop))
    | (with_reducible (apply keeps_giveDram))
    | (with_reducible (apply keeps_trainAbandon))
    | (with_reducible (apply keeps_setLat))
    | (with_reducible (apply keeps_learnStop))
    | (with_reducible (apply keeps_setFlag))
    | (with_reducible (apply keeps_setFld))
    | (with_reducible (refine keeps_foldl (fun u x hu => ?_) ?_))
    | (with_reducible (refine keeps_foldl_fst (fun u x hu => ?_) ?_))
    | (with_reducible (refine keeps_foldl_snd (fun u x hu => ?_) ?_))
    | split
    | fail_if_no_progress (with_reducible (apply keeps_lit))
    | fail_if_no_progress (with_reducible (apply keeps_sys))

theorem keeps_execSpGo {z s : State} (v : Word) (hz : Keeps z s) :
    KeepsO z (execSpGo v s) := by
  unfold execSpGo
  (try dsimp only)
  repeat' first
    | (with_reducible assumption)
    | (with_reducible (apply keeps_spGo))
    | (with_reducible (apply keeps_setFlag))
    | (with_reducible (apply keeps_setFld))
    | (with_reducible (apply keepsO_next))
    | (with_reducible (refine keeps_foldl (fun u x hu => ?_) ?_))
    | (with_reducible (refine keeps_foldl_fst (fun u x hu => ?_) ?_))
    | (with_reducible (refine keeps_foldl_snd (fun u x hu => ?_) ?_))
    | split
    | fail_if_no_progress (with_reducible (apply keeps_lit))
    | fail_if_no_progress (with_reducible (apply keeps_sys))

theorem keeps_showKmap {z s : State} (k : List Nat) (hz : Keeps z s) :
    Keeps z (s.showKmap k) := by
  unfold State.showKmap
  (try dsimp only)
  repeat' first
    | (with_reducible assumption)
    | (with_reducible (apply keeps_setFld))
    | (with_reducible (refine keeps_foldl (fun u x hu => ?_) ?_))
    | (with_reducible (refine keeps_foldl_fst (fun u x hu => ?_) ?_))
    | (with_reducible (refine keeps_foldl_snd (fun u x hu => ?_) ?_))
    | split
    | fail_if_no_progress (with_reducible (apply keeps_lit))
    | fail_if_no_progress (with_reducible (apply keeps_sys))

theorem keeps_formRecord {z s : State} (plan : Nat) (kmap : List Nat) (j : Nat) (m : SMap Nat) (hz : Keeps z s) :
    Keeps z (s.formRecord plan kmap j m) := by
  unfold State.formRecord
  (try dsimp only)
  repeat' first
    | (with_reducible assumption)
    | (with_reducible (refine keeps_allocNarrow (by assumption) ?_))
    | (with_reducible (refine keeps_allocSwath (by assumption) ?_))
    | (with_reducible (refine keeps_allocSwath_pair (by assumption) ?_))
    | (with_reducible (apply keeps_ledger))
    | (with_reducible (refine keeps_foldl (fun u x hu => ?_) ?_))
    | (with_reducible (refine keeps_foldl_fst (fun u x hu => ?_) ?_))
    | (with_reducible (refine keeps_foldl_snd (fun u x hu => ?_) ?_))
    | split
    | fail_if_no_progress (with_reducible (apply keeps_lit))
    | fail_if_no_progress (with_reducible (apply keeps_sys))

theorem keeps_saveBegin {z s : State} (keeper : Bool) (hz : Keeps z s) :
    Keeps z (s.saveBegin keeper) := by
  unfold State.saveBegin
  (try dsimp only)
  repeat' first
    | (with_reducible assumption)
    | (with_reducible (apply keeps_formRecord))
    | (with_reducible (apply keeps_showKmap))
    | (with_reducible (apply keeps_channelsReturn))
    | (with_reducible (apply keeps_setRun))
    | (with_reducible (apply keeps_setFlag))
    | (with_reducible (apply keeps_setFld))
    | (with_reducible (refine keeps_foldl (fun u x hu => ?_) ?_))
    | (with_reducible (refine keeps_foldl_fst (fun u x hu => ?_) ?_))
    | (with_reducible (refine keeps_foldl_snd (fun u x hu => ?_) ?_))
    | split
    | fail_if_no_progress (with_reducible (apply keeps_lit))
    | fail_if_no_progress (with_reducible (apply keeps_sys))

theorem keeps_saveDrop {z s : State} (reason : Nat) (hz : Keeps z s) :
    Keeps z (s.saveDrop reason) := by
  unfold State.saveDrop
  (try dsimp only)
  repeat' first
    | (with_reducible assumption)
    | (with_reducible (apply keeps_emit))
    | (with_reducible (apply keeps_setFlag))
    | (with_reducible (apply keeps_setFld))
    | (with_reducible (refine keeps_foldl (fun u x hu => ?_) ?_))
    | (with_reducible (refine keeps_foldl_fst (fun u x hu => ?_) ?_))
    | (with_reducible (refine keeps_foldl_snd (fun u x hu => ?_) ?_))
    | split
    | fail_if_no_progress (with_reducible (apply keeps_lit))
    | fail_if_no_progress (with_reducible (apply keeps_sys))

theorem keeps_stageFlight {z s : State} (r : SaveRun) (f : SaveFlight) (item : SaveItem) (hz : Keeps z s) :
    Keeps z (s.stageFlight r f item) := by
  unfold State.stageFlight
  (try dsimp only)
  repeat' first
    | (with_reducible assumption)
    | (with_reducible (apply keeps_fillEar))
    | (with_reducible (apply keeps_sramPut))
    | (with_reducible (refine keeps_foldl (fun u x hu => ?_) ?_))
    | (with_reducible (refine keeps_foldl_fst (fun u x hu => ?_) ?_))
    | (with_reducible (refine keeps_foldl_snd (fun u x hu => ?_) ?_))
    | split
    | fail_if_no_progress (with_reducible (apply keeps_lit))
    | fail_if_no_progress (with_reducible (apply keeps_sys))

theorem keeps_dramRest {z s : State}  (hz : Keeps z s) :
    Keeps z (s.dramRest ) := by
  unfold State.dramRest
  (try dsimp only)
  repeat' first
    | (with_reducible assumption)
    | (with_reducible (apply keeps_enterSelfRef))
    | (with_reducible (apply keeps_giveDram))
    | (with_reducible (refine keeps_foldl (fun u x hu => ?_) ?_))
    | (with_reducible (refine keeps_foldl_fst (fun u x hu => ?_) ?_))
    | (with_reducible (refine keeps_foldl_snd (fun u x hu => ?_) ?_))
    | split
    | fail_if_no_progress (with_reducible (apply keeps_lit))
    | fail_if_no_progress (with_reducible (apply keeps_sys))

theorem keeps_takeFlight {z s : State}  (hz : Keeps z s) :
    Keeps z (s.takeFlight ) := by
  unfold State.takeFlight
  (try dsimp only)
  repeat' first
    | (with_reducible assumption)
    | (with_reducible (apply keeps_stageFlight))
    | (with_reducible (refine keeps_allocSave (by assumption) ?_))
    | (with_reducible (refine keeps_allocSave_trip (by assumption) ?_))
    | (with_reducible (apply keeps_setRun))
    | (with_reducible (refine keeps_foldl (fun u x hu => ?_) ?_))
    | (with_reducible (refine keeps_foldl_fst (fun u x hu => ?_) ?_))
    | (with_reducible (refine keeps_foldl_snd (fun u x hu => ?_) ?_))
    | split
    | fail_if_no_progress (with_reducible (apply keeps_lit))
    | fail_if_no_progress (with_reducible (apply keeps_sys))

theorem keeps_takeAnchor {z s : State}  (hz : Keeps z s) :
    Keeps z (s.takeAnchor ) := by
  unfold State.takeAnchor
  (try dsimp only)
  repeat' first
    | (with_reducible assumption)
    | (with_reducible (apply keeps_logTake_snd))
    | (with_reducible (refine keeps_logTake (by assumption) ?_))
    | (with_reducible (refine keeps_foldl (fun u x hu => ?_) ?_))
    | (with_reducible (refine keeps_foldl_fst (fun u x hu => ?_) ?_))
    | (with_reducible (refine keeps_foldl_snd (fun u x hu => ?_) ?_))
    | split
    | fail_if_no_progress (with_reducible (apply keeps_lit))
    | fail_if_no_progress (with_reducible (apply keeps_sys))

theorem keeps_mkImage {z s : State} (r : SaveRun) (p : Nat) (h : Keeps z s) : Keeps z (s.mkImage r p).2 := by
  unfold State.mkImage
  exact keeps_takeSeq_snd h

theorem keeps_mkImage_pair {z s t : State} {r : SaveRun} {p : Nat} {i : Image} (e : s.mkImage r p = (i, t)) (h : Keeps z s) : Keeps z t := by
  have := keeps_mkImage r p h; rw [e] at this; exact this

theorem keeps_saveNowTake {z s : State} (i : Image) (hz : Keeps z s) :
    Keeps z (s.saveNowTake i) := by
  unfold State.saveNowTake
  (try dsimp only)
  repeat' first
    | (with_reducible assumption)
    | (with_reducible (refine keeps_foldl (fun u x hu => ?_) ?_))
    | (with_reducible (refine keeps_foldl_fst (fun u x hu => ?_) ?_))
    | (with_reducible (refine keeps_foldl_snd (fun u x hu => ?_) ?_))
    | split
    | fail_if_no_progress (with_reducible (apply keeps_lit))
    | fail_if_no_progress (with_reducible (apply keeps_sys))

theorem keeps_showImage {z s : State} (i : Image) (hz : Keeps z s) :
    Keeps z (s.showImage i) := by
  unfold State.showImage
  (try dsimp only)
  repeat' first
    | (with_reducible assumption)
    | (with_reducible (apply keeps_setFld))
    | (with_reducible (refine keeps_foldl (fun u x hu => ?_) ?_))
    | (with_reducible (refine keeps_foldl_fst (fun u x hu => ?_) ?_))
    | (with_reducible (refine keeps_foldl_snd (fun u x hu => ?_) ?_))
    | split
    | fail_if_no_progress (with_reducible (apply keeps_lit))
    | fail_if_no_progress (with_reducible (apply keeps_sys))

theorem keeps_anchorPos_snd {z s : State} (h : Keeps z s) : Keeps z (s.anchorPos).2 := by
  unfold State.anchorPos
  split
  · exact h
  · exact keeps_logTake_snd h

theorem keeps_anchorPos {z s t : State} {n : Nat} (e : s.anchorPos = (n, t)) (h : Keeps z s) : Keeps z t := by
  have := keeps_anchorPos_snd h; rw [e] at this; exact this

theorem keeps_anchorFirst {z s : State} (i : Image) (hz : Keeps z s) :
    Keeps z (s.anchorFirst i) := by
  unfold State.anchorFirst
  (try dsimp only)
  repeat' first
    | (with_reducible assumption)
    | (with_reducible (apply keeps_logPut))
    | (with_reducible (apply keeps_logTake_snd))
    | (with_reducible (refine keeps_logTake (by assumption) ?_))
    | (with_reducible (refine keeps_foldl (fun u x hu => ?_) ?_))
    | (with_reducible (refine keeps_foldl_fst (fun u x hu => ?_) ?_))
    | (with_reducible (refine keeps_foldl_snd (fun u x hu => ?_) ?_))
    | split
    | fail_if_no_progress (with_reducible (apply keeps_lit))
    | fail_if_no_progress (with_reducible (apply keeps_sys))

theorem keeps_applyImage {z s : State} (r : SaveRun) (i : Image) (hz : Keeps z s) :
    Keeps z (s.applyImage r i) := by
  unfold State.applyImage
  (try dsimp only)
  repeat' first
    | (with_reducible assumption)
    | (with_reducible (apply keeps_anchorFirst))
    | (with_reducible (apply keeps_showImage))
    | (with_reducible (apply keeps_saveNowTake))
    | (with_reducible (apply keeps_channelsReturn))
    | (with_reducible (apply keeps_clearAllDirty))
    | (with_reducible (apply keeps_setCmap))
    | (with_reducible (apply keeps_setSmap))
    | (with_reducible (apply keeps_setD))
    | (with_reducible (apply keeps_refill))
    | (with_reducible (apply keeps_setFlag))
    | (with_reducible (apply keeps_setFld))
    | (with_reducible (refine keeps_foldl (fun u x hu => ?_) ?_))
    | (with_reducible (refine keeps_foldl_fst (fun u x hu => ?_) ?_))
    | (with_reducible (refine keeps_foldl_snd (fun u x hu => ?_) ?_))
    | split
    | fail_if_no_progress (with_reducible (apply keeps_lit))
    | fail_if_no_progress (with_reducible (apply keeps_sys))

theorem keeps_anchorFence {z s : State} (n : Nat) (hz : Keeps z s) :
    Keeps z (s.anchorFence n) := by
  unfold State.anchorFence
  (try dsimp only)
  repeat' first
    | (with_reducible assumption)
    | (with_reducible (apply keeps_logTake_snd))
    | (with_reducible (refine keeps_logTake (by assumption) ?_))
    | (with_reducible (refine keeps_foldl (fun u x hu => ?_) ?_))
    | (with_reducible (refine keeps_foldl_fst (fun u x hu => ?_) ?_))
    | (with_reducible (refine keeps_foldl_snd (fun u x hu => ?_) ?_))
    | split
    | fail_if_no_progress (with_reducible (apply keeps_lit))
    | fail_if_no_progress (with_reducible (apply keeps_sys))

theorem keeps_savePlan {z s : State} (r : SaveRun) (hz : Keeps z s) :
    Keeps z (s.savePlan r) := by
  unfold State.savePlan
  (try dsimp only)
  repeat' first
    | (with_reducible assumption)
    | (with_reducible (apply keeps_formRecord))
    | (with_reducible (apply keeps_queuesWithdraw))
    | (with_reducible (apply keeps_setRun))
    | (with_reducible (apply keeps_ledger))
    | (with_reducible (apply keeps_setFld))
    | (with_reducible (refine keeps_foldl (fun u x hu => ?_) ?_))
    | (with_reducible (refine keeps_foldl_fst (fun u x hu => ?_) ?_))
    | (with_reducible (refine keeps_foldl_snd (fun u x hu => ?_) ?_))
    | split
    | fail_if_no_progress (with_reducible (apply keeps_lit))
    | fail_if_no_progress (with_reducible (apply keeps_sys))

theorem keeps_saveFence {z s : State} (h : Keeps z s) : Keeps z (s.saveFence).1 := by
  unfold State.saveFence
  split
  · exact h
  · dsimp only
    split
    · exact keeps_savePlan _ (keeps_setFld _ _ h)
    · split
      · exact keeps_setFld _ _ h
      · split
        · exact keeps_setFld _ _ h
        · split
          · exact keeps_setFld _ _ h
          · with_reducible apply keeps_takeFlight
            with_reducible apply keeps_savePlan
            with_reducible apply keeps_showKmap
            exact keeps_setFld _ _ h

theorem keeps_saveFence_pair {z s t : State} {b : Option Nat} (e : s.saveFence = (t, b)) (h : Keeps z s) : Keeps z t := by
  have := keeps_saveFence h; rw [e] at this; exact this

end Sys2Proof.Laws
end

