-- ==== Sys2Proof/Laws/KeepsFlow.lean ====
section
/-! SUPPORT. What every operation keeps (Keeps, of KeepsCore), for the flow between modes, boot, generations, power, attach and thresh. -/

set_option linter.all false

namespace Sys2Proof.Laws

open Sys2Proof.Machine Reg

theorem keeps_showGens {z s : State}  (hz : Keeps z s) :
    Keeps z (s.showGens ) := by
  unfold State.showGens
  (try dsimp only)
  repeat' first
    | (with_reducible assumption)
    | (with_reducible (apply keeps_setFlag))
    | (with_reducible (apply keeps_setFld))
    | (with_reducible (refine keeps_foldl (fun u x hu => ?_) ?_))
    | (with_reducible (refine keeps_foldl_fst (fun u x hu => ?_) ?_))
    | (with_reducible (refine keeps_foldl_snd (fun u x hu => ?_) ?_))
    | split
    | fail_if_no_progress (with_reducible (apply keeps_lit))
    | fail_if_no_progress (with_reducible (apply keeps_sys))

theorem keeps_storeWord {z s : State} (sp : Bool) (a : Nat) (v : Word) (hz : Keeps z s) :
    Keeps z (s.storeWord sp a v) := by
  unfold State.storeWord
  (try dsimp only)
  repeat' first
    | (with_reducible assumption)
    | (with_reducible (apply keeps_setWord))
    | (with_reducible (refine keeps_foldl (fun u x hu => ?_) ?_))
    | (with_reducible (refine keeps_foldl_fst (fun u x hu => ?_) ?_))
    | (with_reducible (refine keeps_foldl_snd (fun u x hu => ?_) ?_))
    | split
    | fail_if_no_progress (with_reducible (apply keeps_lit))
    | fail_if_no_progress (with_reducible (apply keeps_sys))

theorem keeps_storeReg {z s : State} (a : Nat) (v : Word) (hz : Keeps z s) :
    Keeps z (s.storeReg a v) := by
  unfold State.storeReg
  (try dsimp only)
  repeat' first
    | (with_reducible assumption)
    | (with_reducible (apply keeps_storeWord))
    | (with_reducible (refine keeps_foldl (fun u x hu => ?_) ?_))
    | (with_reducible (refine keeps_foldl_fst (fun u x hu => ?_) ?_))
    | (with_reducible (refine keeps_foldl_snd (fun u x hu => ?_) ?_))
    | split
    | fail_if_no_progress (with_reducible (apply keeps_lit))
    | fail_if_no_progress (with_reducible (apply keeps_sys))

theorem smapWf_filter {α : Type} [DecidableEq α] {d : Nat → α} {m : SMap α} (p : Nat × α → Bool) (h : smapWf d m = true) :
    smapWf d (m.filter p) = true := by
  simp only [smapWf, Bool.and_eq_true, List.all_eq_true, decide_eq_true_eq] at h ⊢
  exact ⟨smapSorted_filter p h.1, fun x hx => h.2 x (List.mem_filter.1 hx).1⟩

theorem keeps_wiped {z s : State} (h : Keeps z s) : Keeps z s.wiped := by
  unfold State.wiped
  dsimp only
  repeat' first
    | (with_reducible (apply keeps_setFlag))
    | (with_reducible (apply keeps_setWord))
  exact ⟨h.pending, fun e => (by cases e), fun i => ⟨smapWf_filter _ (h.inv i).1, rfl, Or.inl rfl⟩⟩

theorem keeps_enterOff {z s : State} (cause : Nat) (hz : Keeps z s) :
    Keeps z (s.enterOff cause) := by
  unfold State.enterOff
  (try dsimp only)
  repeat' first
    | (with_reducible assumption)
    | (with_reducible (apply keeps_wiped))
    | (with_reducible (apply keeps_tornPrograms))
    | (with_reducible (apply keeps_setFld))
    | (with_reducible (refine keeps_foldl (fun u x hu => ?_) ?_))
    | (with_reducible (refine keeps_foldl_fst (fun u x hu => ?_) ?_))
    | (with_reducible (refine keeps_foldl_snd (fun u x hu => ?_) ?_))
    | split
    | fail_if_no_progress (with_reducible (apply keeps_lit))
    | fail_if_no_progress (with_reducible (apply keeps_sys))

theorem keeps_showFails {z s : State}  (hz : Keeps z s) :
    Keeps z (s.showFails ) := by
  unfold State.showFails
  (try dsimp only)
  repeat' first
    | (with_reducible assumption)
    | (with_reducible (apply keeps_setFld))
    | (with_reducible (refine keeps_foldl (fun u x hu => ?_) ?_))
    | (with_reducible (refine keeps_foldl_fst (fun u x hu => ?_) ?_))
    | (with_reducible (refine keeps_foldl_snd (fun u x hu => ?_) ?_))
    | split
    | fail_if_no_progress (with_reducible (apply keeps_lit))
    | fail_if_no_progress (with_reducible (apply keeps_sys))

theorem keeps_attemptUncount {z s : State}  (hz : Keeps z s) :
    Keeps z (s.attemptUncount ) := by
  unfold State.attemptUncount
  (try dsimp only)
  repeat' first
    | (with_reducible assumption)
    | (with_reducible (apply keeps_showFails))
    | (with_reducible (apply keeps_writeBoot))
    | (with_reducible (refine keeps_foldl (fun u x hu => ?_) ?_))
    | (with_reducible (refine keeps_foldl_fst (fun u x hu => ?_) ?_))
    | (with_reducible (refine keeps_foldl_snd (fun u x hu => ?_) ?_))
    | split
    | fail_if_no_progress (with_reducible (apply keeps_lit))
    | fail_if_no_progress (with_reducible (apply keeps_sys))

theorem keeps_attachAttemptFailed {z s : State}  (hz : Keeps z s) :
    Keeps z (s.attachAttemptFailed ) := by
  unfold State.attachAttemptFailed
  (try dsimp only)
  repeat' first
    | (with_reducible assumption)
    | (with_reducible (apply keeps_commitNow))
    | (with_reducible (refine keeps_foldl (fun u x hu => ?_) ?_))
    | (with_reducible (refine keeps_foldl_fst (fun u x hu => ?_) ?_))
    | (with_reducible (refine keeps_foldl_snd (fun u x hu => ?_) ?_))
    | split
    | fail_if_no_progress (with_reducible (apply keeps_lit))
    | fail_if_no_progress (with_reducible (apply keeps_sys))

theorem keeps_supplyLost {z s : State}  (hz : Keeps z s) :
    Keeps z (s.supplyLost ) := by
  unfold State.supplyLost
  (try dsimp only)
  repeat' first
    | (with_reducible assumption)
    | (with_reducible (apply keeps_attemptUncount))
    | (with_reducible (apply keeps_enterOff))
    | (with_reducible (refine keeps_foldl (fun u x hu => ?_) ?_))
    | (with_reducible (refine keeps_foldl_fst (fun u x hu => ?_) ?_))
    | (with_reducible (refine keeps_foldl_snd (fun u x hu => ?_) ?_))
    | split
    | fail_if_no_progress (with_reducible (apply keeps_lit))
    | fail_if_no_progress (with_reducible (apply keeps_sys))

theorem keeps_domain0Reset {z s : State} (h : Keeps z s) : Keeps z s.domain0Reset :=
  ⟨h.pending, h.up, fun i => ⟨rfl, (h.inv i).2⟩⟩

theorem keeps_partialBurn {z s : State}  (hz : Keeps z s) :
    Keeps z (s.partialBurn ) := by
  unfold State.partialBurn
  (try dsimp only)
  repeat' first
    | (with_reducible assumption)
    | (with_reducible (refine keeps_foldl (fun u x hu => ?_) ?_))
    | (with_reducible (refine keeps_foldl_fst (fun u x hu => ?_) ?_))
    | (with_reducible (refine keeps_foldl_snd (fun u x hu => ?_) ?_))
    | split
    | fail_if_no_progress (with_reducible (apply keeps_lit))
    | fail_if_no_progress (with_reducible (apply keeps_sys))

theorem keeps_coldReset {z s : State}  (hz : Keeps z s) :
    Keeps z (s.coldReset ) := by
  unfold State.coldReset
  (try dsimp only)
  repeat' first
    | (with_reducible assumption)
    | (with_reducible (apply keeps_wiped))
    | (with_reducible (apply keeps_setFld))
    | (with_reducible (refine keeps_foldl (fun u x hu => ?_) ?_))
    | (with_reducible (refine keeps_foldl_fst (fun u x hu => ?_) ?_))
    | (with_reducible (refine keeps_foldl_snd (fun u x hu => ?_) ?_))
    | split
    | fail_if_no_progress (with_reducible (apply keeps_lit))
    | fail_if_no_progress (with_reducible (apply keeps_sys))

theorem keeps_logPowerUp {z s : State}  (hz : Keeps z s) :
    Keeps z (s.logPowerUp ) := by
  unfold State.logPowerUp
  (try dsimp only)
  repeat' first
    | (with_reducible assumption)
    | (with_reducible (apply keeps_note))
    | (with_reducible (apply keeps_setFlag))
    | (with_reducible (refine keeps_foldl (fun u x hu => ?_) ?_))
    | (with_reducible (refine keeps_foldl_fst (fun u x hu => ?_) ?_))
    | (with_reducible (refine keeps_foldl_snd (fun u x hu => ?_) ?_))
    | split
    | fail_if_no_progress (with_reducible (apply keeps_lit))
    | fail_if_no_progress (with_reducible (apply keeps_sys))

theorem keeps_logRelocate {z s : State}  (hz : Keeps z s) :
    Keeps z (s.logRelocate ) := by
  unfold State.logRelocate
  (try dsimp only)
  repeat' first
    | (with_reducible assumption)
    | (with_reducible (apply keeps_note))
    | (with_reducible (apply keeps_setFlag))
    | (with_reducible (refine keeps_foldl (fun u x hu => ?_) ?_))
    | (with_reducible (refine keeps_foldl_fst (fun u x hu => ?_) ?_))
    | (with_reducible (refine keeps_foldl_snd (fun u x hu => ?_) ?_))
    | split
    | fail_if_no_progress (with_reducible (apply keeps_lit))
    | fail_if_no_progress (with_reducible (apply keeps_sys))

theorem keeps_cornerCheck {z s : State}  (hz : Keeps z s) :
    Keeps z (s.cornerCheck ) := by
  unfold State.cornerCheck
  (try dsimp only)
  repeat' first
    | (with_reducible assumption)
    | (with_reducible (apply keeps_report))
    | (with_reducible (apply keeps_setFlag))
    | (with_reducible (refine keeps_foldl (fun u x hu => ?_) ?_))
    | (with_reducible (refine keeps_foldl_fst (fun u x hu => ?_) ?_))
    | (with_reducible (refine keeps_foldl_snd (fun u x hu => ?_) ?_))
    | split
    | fail_if_no_progress (with_reducible (apply keeps_lit))
    | fail_if_no_progress (with_reducible (apply keeps_sys))

theorem keeps_blankHold {z s : State}  (hz : Keeps z s) :
    Keeps z (s.blankHold ) := by
  unfold State.blankHold
  (try dsimp only)
  repeat' first
    | (with_reducible assumption)
    | (with_reducible (apply keeps_setFld))
    | (with_reducible (refine keeps_foldl (fun u x hu => ?_) ?_))
    | (with_reducible (refine keeps_foldl_fst (fun u x hu => ?_) ?_))
    | (with_reducible (refine keeps_foldl_snd (fun u x hu => ?_) ?_))
    | split
    | fail_if_no_progress (with_reducible (apply keeps_lit))
    | fail_if_no_progress (with_reducible (apply keeps_sys))

theorem keeps_packTestEnd {z s : State} (reason : Nat) (hz : Keeps z s) :
    Keeps z (s.packTestEnd reason) := by
  unfold State.packTestEnd
  (try dsimp only)
  repeat' first
    | (with_reducible assumption)
    | (with_reducible (apply keeps_complete))
    | (with_reducible (refine keeps_foldl (fun u x hu => ?_) ?_))
    | (with_reducible (refine keeps_foldl_fst (fun u x hu => ?_) ?_))
    | (with_reducible (refine keeps_foldl_snd (fun u x hu => ?_) ?_))
    | split
    | fail_if_no_progress (with_reducible (apply keeps_lit))
    | fail_if_no_progress (with_reducible (apply keeps_sys))

theorem keeps_packTestStart {z s : State} (k : PackTestKind) (answer : Option PackStatus) (hz : Keeps z s) :
    Keeps z (s.packTestStart k answer) := by
  unfold State.packTestStart
  (try dsimp only)
  repeat' first
    | (with_reducible assumption)
    | (with_reducible (apply keeps_packTestEnd))
    | (with_reducible (apply keeps_packTestFail))
    | (with_reducible (apply keeps_setFlag))
    | (with_reducible (refine keeps_foldl (fun u x hu => ?_) ?_))
    | (with_reducible (refine keeps_foldl_fst (fun u x hu => ?_) ?_))
    | (with_reducible (refine keeps_foldl_snd (fun u x hu => ?_) ?_))
    | split
    | fail_if_no_progress (with_reducible (apply keeps_lit))
    | fail_if_no_progress (with_reducible (apply keeps_sys))

theorem keeps_restoreStop {z s : State}  (hz : Keeps z s) :
    Keeps z (s.restoreStop ) := by
  unfold State.restoreStop
  (try dsimp only)
  repeat' first
    | (with_reducible assumption)
    | (with_reducible (apply keeps_giveDram))
    | (with_reducible (apply keeps_setFlag))
    | (with_reducible (apply keeps_setFld))
    | (with_reducible (refine keeps_foldl (fun u x hu => ?_) ?_))
    | (with_reducible (refine keeps_foldl_fst (fun u x hu => ?_) ?_))
    | (with_reducible (refine keeps_foldl_snd (fun u x hu => ?_) ?_))
    | split
    | fail_if_no_progress (with_reducible (apply keeps_lit))
    | fail_if_no_progress (with_reducible (apply keeps_sys))

theorem keeps_loopAbort {z s : State}  (hz : Keeps z s) :
    Keeps z (s.loopAbort ) := by
  unfold State.loopAbort
  (try dsimp only)
  repeat' first
    | (with_reducible assumption)
    | (with_reducible (apply keeps_clockBack))
    | (with_reducible (apply keeps_setFlag))
    | (with_reducible (refine keeps_foldl (fun u x hu => ?_) ?_))
    | (with_reducible (refine keeps_foldl_fst (fun u x hu => ?_) ?_))
    | (with_reducible (refine keeps_foldl_snd (fun u x hu => ?_) ?_))
    | split
    | fail_if_no_progress (with_reducible (apply keeps_lit))
    | fail_if_no_progress (with_reducible (apply keeps_sys))

theorem keeps_clearBlocks {z s : State}  (hz : Keeps z s) :
    Keeps z (s.clearBlocks ) := by
  unfold State.clearBlocks
  (try dsimp only)
  repeat' first
    | (with_reducible assumption)
    | (with_reducible (apply keeps_setFlag))
    | (with_reducible (refine keeps_foldl (fun u x hu => ?_) ?_))
    | (with_reducible (refine keeps_foldl_fst (fun u x hu => ?_) ?_))
    | (with_reducible (refine keeps_foldl_snd (fun u x hu => ?_) ?_))
    | split
    | fail_if_no_progress (with_reducible (apply keeps_lit))
    | fail_if_no_progress (with_reducible (apply keeps_sys))

theorem keeps_shutAdvance {z s : State} (n : Nat) (h : Keeps z s) : Keeps z (s.shutAdvance n) := by
  induction n generalizing s with
  | zero => exact h
  | succ n ih =>
    unfold State.shutAdvance
    dsimp only
    split
    · exact h
    · split
      · exact keeps_enterOff _ h
      · exact ih (keeps_lowerStage _ h)

theorem keeps_shutDownStart {z s : State} (cause : Nat) (past : Bool) (hz : Keeps z s) :
    Keeps z (s.shutDownStart cause past) := by
  unfold State.shutDownStart
  (try dsimp only)
  repeat' first
    | (with_reducible assumption)
    | (with_reducible (apply keeps_shutAdvance))
    | (with_reducible (apply keeps_loopAbort))
    | (with_reducible (apply keeps_restoreStop))
    | (with_reducible (apply keeps_enterSelfRef))
    | (with_reducible (apply keeps_giveDram))
    | (with_reducible (apply keeps_packetsLost))
    | (with_reducible (apply keeps_trainLeave))
    | (with_reducible (apply keeps_trainHalt))
    | (with_reducible (apply keeps_learnStop))
    | (with_reducible (apply keeps_gateBOn))
    | (with_reducible (apply keeps_lowerStage))
    | (with_reducible (refine keeps_setMode _ (by decide) ?_))
    | (with_reducible (apply keeps_setFlag))
    | (with_reducible (apply keeps_setFld))
    | (with_reducible (refine keeps_foldl (fun u x hu => ?_) ?_))
    | (with_reducible (refine keeps_foldl_fst (fun u x hu => ?_) ?_))
    | (with_reducible (refine keeps_foldl_snd (fun u x hu => ?_) ?_))
    | split
    | fail_if_no_progress (with_reducible (apply keeps_lit))
    | fail_if_no_progress (with_reducible (apply keeps_sys))

theorem keeps_reboundEntry {z s : State}  (hz : Keeps z s) :
    Keeps z (s.reboundEntry ) := by
  unfold State.reboundEntry
  (try dsimp only)
  repeat' first
    | (with_reducible assumption)
    | (with_reducible (apply keeps_enterSelfRef))
    | (with_reducible (apply keeps_lockH))
    | (with_reducible (apply keeps_giveDram))
    | (with_reducible (refine keeps_setMode _ (by decide) ?_))
    | (with_reducible (apply keeps_setFlag))
    | (with_reducible (apply keeps_setFld))
    | (with_reducible (refine keeps_foldl (fun u x hu => ?_) ?_))
    | (with_reducible (refine keeps_foldl_fst (fun u x hu => ?_) ?_))
    | (with_reducible (refine keeps_foldl_snd (fun u x hu => ?_) ?_))
    | split
    | fail_if_no_progress (with_reducible (apply keeps_lit))
    | fail_if_no_progress (with_reducible (apply keeps_sys))

theorem keeps_railDown {z s : State} (r : Nat) (hz : Keeps z s) :
    Keeps z (s.railDown r) := by
  unfold State.railDown
  (try dsimp only)
  repeat' first
    | (with_reducible assumption)
    | (with_reducible (apply keeps_shutAdvance))
    | (with_reducible (refine keeps_foldl (fun u x hu => ?_) ?_))
    | (with_reducible (refine keeps_foldl_fst (fun u x hu => ?_) ?_))
    | (with_reducible (refine keeps_foldl_snd (fun u x hu => ?_) ?_))
    | split
    | fail_if_no_progress (with_reducible (apply keeps_lit))
    | fail_if_no_progress (with_reducible (apply keeps_sys))

theorem keeps_seen {z s : State} (code : Nat) (hz : Keeps z s) :
    Keeps z (s.seen code) := by
  unfold State.seen
  (try dsimp only)
  repeat' first
    | (with_reducible assumption)
    | (with_reducible (apply keeps_setBit))
    | (with_reducible (refine keeps_foldl (fun u x hu => ?_) ?_))
    | (with_reducible (refine keeps_foldl_fst (fun u x hu => ?_) ?_))
    | (with_reducible (refine keeps_foldl_snd (fun u x hu => ?_) ?_))
    | split
    | fail_if_no_progress (with_reducible (apply keeps_lit))
    | fail_if_no_progress (with_reducible (apply keeps_sys))

theorem keeps_ignoreTrigger {z s : State} (code : Nat) (hz : Keeps z s) :
    Keeps z (s.ignoreTrigger code) := by
  unfold State.ignoreTrigger
  (try dsimp only)
  repeat' first
    | (with_reducible assumption)
    | (with_reducible (apply keeps_note))
    | (with_reducible (apply keeps_setFlag))
    | (with_reducible (refine keeps_foldl (fun u x hu => ?_) ?_))
    | (with_reducible (refine keeps_foldl_fst (fun u x hu => ?_) ?_))
    | (with_reducible (refine keeps_foldl_snd (fun u x hu => ?_) ?_))
    | split
    | fail_if_no_progress (with_reducible (apply keeps_lit))
    | fail_if_no_progress (with_reducible (apply keeps_sys))

theorem keeps_saveAbandon {z s : State} (reason : Nat) (hz : Keeps z s) :
    Keeps z (s.saveAbandon reason) := by
  unfold State.saveAbandon
  (try dsimp only)
  repeat' first
    | (with_reducible assumption)
    | (with_reducible (apply keeps_shutDownStart))
    | (with_reducible (apply keeps_saveDrop))
    | (with_reducible (refine keeps_foldl (fun u x hu => ?_) ?_))
    | (with_reducible (refine keeps_foldl_fst (fun u x hu => ?_) ?_))
    | (with_reducible (refine keeps_foldl_snd (fun u x hu => ?_) ?_))
    | split
    | fail_if_no_progress (with_reducible (apply keeps_lit))
    | fail_if_no_progress (with_reducible (apply keeps_sys))

theorem keeps_stageUndo {z s : State}  (hz : Keeps z s) :
    Keeps z (s.stageUndo ) := by
  unfold State.stageUndo
  (try dsimp only)
  repeat' first
    | (with_reducible assumption)
    | (with_reducible (apply keeps_showGens))
    | (with_reducible (refine keeps_foldl (fun u x hu => ?_) ?_))
    | (with_reducible (refine keeps_foldl_fst (fun u x hu => ?_) ?_))
    | (with_reducible (refine keeps_foldl_snd (fun u x hu => ?_) ?_))
    | split
    | fail_if_no_progress (with_reducible (apply keeps_lit))
    | fail_if_no_progress (with_reducible (apply keeps_sys))

theorem keeps_freeze {z s : State} (f : Nat) (hz : Keeps z s) :
    Keeps z (s.freeze f) := by
  unfold State.freeze
  (try dsimp only)
  repeat' first
    | (with_reducible assumption)
    | (with_reducible (apply keeps_stageUndo))
    | (with_reducible (apply keeps_clearBlocks))
    | (with_reducible (apply keeps_loopAbort))
    | (with_reducible (apply keeps_harvestFreeze))
    | (with_reducible (apply keeps_hopD))
    | (with_reducible (apply keeps_fceWithdraw))
    | (with_reducible (apply keeps_sealFreeze))
    | (with_reducible (apply keeps_gleanFreeze))
    | (with_reducible (apply keeps_undelete))
    | (with_reducible (apply keeps_applyMarks))
    | (with_reducible (apply keeps_packetFreeze))
    | (with_reducible (apply keeps_trainLeave))
    | (with_reducible (apply keeps_trainHalt))
    | (with_reducible (apply keeps_note))
    | (with_reducible (apply keeps_setFlag))
    | (with_reducible (apply keeps_setFld))
    | (with_reducible (refine keeps_foldl (fun u x hu => ?_) ?_))
    | (with_reducible (refine keeps_foldl_fst (fun u x hu => ?_) ?_))
    | (with_reducible (refine keeps_foldl_snd (fun u x hu => ?_) ?_))
    | split
    | fail_if_no_progress (with_reducible (apply keeps_lit))
    | fail_if_no_progress (with_reducible (apply keeps_sys))

theorem keeps_saveTaken {z s : State} (code : Nat) (keeper : Bool) (hz : Keeps z s) :
    Keeps z (s.saveTaken code keeper) := by
  unfold State.saveTaken
  (try dsimp only)
  repeat' first
    | (with_reducible assumption)
    | (with_reducible (apply keeps_freeze))
    | (with_reducible (apply keeps_packTestEnd))
    | (with_reducible (apply keeps_saveBegin))
    | (with_reducible (apply keeps_packTestFail))
    | (with_reducible (apply keeps_switchToB))
    | (with_reducible (refine keeps_setMode _ (by decide) ?_))
    | (with_reducible (apply keeps_bump))
    | (with_reducible (apply keeps_setFlag))
    | (with_reducible (apply keeps_setFld))
    | (with_reducible (refine keeps_foldl (fun u x hu => ?_) ?_))
    | (with_reducible (refine keeps_foldl_fst (fun u x hu => ?_) ?_))
    | (with_reducible (refine keeps_foldl_snd (fun u x hu => ?_) ?_))
    | split
    | fail_if_no_progress (with_reducible (apply keeps_lit))
    | fail_if_no_progress (with_reducible (apply keeps_sys))

theorem keeps_saveDecide {z s : State} (code : Nat) (keeper : Bool) (hz : Keeps z s) :
    Keeps z (s.saveDecide code keeper) := by
  unfold State.saveDecide
  (try dsimp only)
  repeat' first
    | (with_reducible assumption)
    | (with_reducible (apply keeps_saveTaken))
    | (with_reducible (apply keeps_saveAbandon))
    | (with_reducible (refine keeps_foldl (fun u x hu => ?_) ?_))
    | (with_reducible (refine keeps_foldl_fst (fun u x hu => ?_) ?_))
    | (with_reducible (refine keeps_foldl_snd (fun u x hu => ?_) ?_))
    | split
    | fail_if_no_progress (with_reducible (apply keeps_lit))
    | fail_if_no_progress (with_reducible (apply keeps_sys))

theorem keeps_trigger {z s : State} (code0 : Nat) (hz : Keeps z s) :
    Keeps z (s.trigger code0) := by
  unfold State.trigger
  (try dsimp only)
  repeat' first
    | (with_reducible assumption)
    | (with_reducible (apply keeps_saveDecide))
    | (with_reducible (apply keeps_ignoreTrigger))
    | (with_reducible (apply keeps_seen))
    | (with_reducible (apply keeps_shutDownStart))
    | (with_reducible (apply keeps_attemptUncount))
    | (with_reducible (apply keeps_harvestStop))
    | (with_reducible (apply keeps_switchToB))
    | (with_reducible (apply keeps_setFlag))
    | (with_reducible (refine keeps_foldl (fun u x hu => ?_) ?_))
    | (with_reducible (refine keeps_foldl_fst (fun u x hu => ?_) ?_))
    | (with_reducible (refine keeps_foldl_snd (fun u x hu => ?_) ?_))
    | split
    | fail_if_no_progress (with_reducible (apply keeps_lit))
    | fail_if_no_progress (with_reducible (apply keeps_sys))

theorem keeps_saveNowRun {z s : State} (e : ExecPkt) (hz : Keeps z s) :
    Keeps z (s.saveNowRun e) := by
  unfold State.saveNowRun
  (try dsimp only)
  repeat' first
    | (with_reducible assumption)
    | (with_reducible (apply keeps_trigger))
    | (with_reducible (apply keeps_completeLive))
    | (with_reducible (apply keeps_startExec))
    | (with_reducible (refine keeps_foldl (fun u x hu => ?_) ?_))
    | (with_reducible (refine keeps_foldl_fst (fun u x hu => ?_) ?_))
    | (with_reducible (refine keeps_foldl_snd (fun u x hu => ?_) ?_))
    | split
    | fail_if_no_progress (with_reducible (apply keeps_lit))
    | fail_if_no_progress (with_reducible (apply keeps_sys))

theorem keeps_harvestFence {z s : State} (ch : Nat) (hz : Keeps z s) :
    Keeps z (s.harvestFence ch) := by
  unfold State.harvestFence
  (try dsimp only)
  repeat' first
    | (with_reducible assumption)
    | (with_reducible (apply keeps_setD))
    | (with_reducible (refine keeps_foldl (fun u x hu => ?_) ?_))
    | (with_reducible (refine keeps_foldl_fst (fun u x hu => ?_) ?_))
    | (with_reducible (refine keeps_foldl_snd (fun u x hu => ?_) ?_))
    | split
    | fail_if_no_progress (with_reducible (apply keeps_lit))
    | fail_if_no_progress (with_reducible (apply keeps_sys))

theorem keeps_restoreFence {z s : State} (n : Nat) (hz : Keeps z s) :
    Keeps z (s.restoreFence n) := by
  unfold State.restoreFence
  (try dsimp only)
  repeat' first
    | (with_reducible assumption)
    | (with_reducible (apply keeps_setFld))
    | (with_reducible (refine keeps_foldl (fun u x hu => ?_) ?_))
    | (with_reducible (refine keeps_foldl_fst (fun u x hu => ?_) ?_))
    | (with_reducible (refine keeps_foldl_snd (fun u x hu => ?_) ?_))
    | split
    | fail_if_no_progress (with_reducible (apply keeps_lit))
    | fail_if_no_progress (with_reducible (apply keeps_sys))

theorem keeps_threshFence {z s : State}  (hz : Keeps z s) :
    Keeps z (s.threshFence ) := by
  unfold State.threshFence
  (try dsimp only)
  repeat' first
    | (with_reducible assumption)
    | (with_reducible (apply keeps_setFld))
    | (with_reducible (refine keeps_foldl (fun u x hu => ?_) ?_))
    | (with_reducible (refine keeps_foldl_fst (fun u x hu => ?_) ?_))
    | (with_reducible (refine keeps_foldl_snd (fun u x hu => ?_) ?_))
    | split
    | fail_if_no_progress (with_reducible (apply keeps_lit))
    | fail_if_no_progress (with_reducible (apply keeps_sys))

theorem keeps_fenceChannel {z s : State} (n : Nat) (cause : Option FenceCause) (hz : Keeps z s) :
    Keeps z (s.fenceChannel n cause) := by
  unfold State.fenceChannel
  (try dsimp only)
  repeat' first
    | (with_reducible assumption)
    | (with_reducible (apply keeps_threshFence))
    | (with_reducible (apply keeps_restoreFence))
    | (with_reducible (apply keeps_harvestFence))
    | (with_reducible (apply keeps_saveAbandon))
    | (with_reducible (apply keeps_saveFence))
    | (with_reducible (refine keeps_saveFence_pair (by assumption) ?_))
    | (with_reducible (apply keeps_anchorFence))
    | (with_reducible (apply keeps_fenceEngine))
    | (with_reducible (apply keeps_setChan))
    | (with_reducible (apply keeps_gleanFenceChannel))
    | (with_reducible (apply keeps_setFlag))
    | (with_reducible (refine keeps_foldl (fun u x hu => ?_) ?_))
    | (with_reducible (refine keeps_foldl_fst (fun u x hu => ?_) ?_))
    | (with_reducible (refine keeps_foldl_snd (fun u x hu => ?_) ?_))
    | split
    | fail_if_no_progress (with_reducible (apply keeps_lit))
    | fail_if_no_progress (with_reducible (apply keeps_sys))

theorem keeps_execFceFence {z s : State} (ch : Fin 17) (hz : Keeps z s) :
    KeepsO z (execFceFence ch s) := by
  unfold execFceFence
  (try dsimp only)
  repeat' first
    | (with_reducible assumption)
    | (with_reducible (apply keeps_fenceChannel))
    | (with_reducible (apply keepsO_next))
    | (with_reducible (refine keeps_foldl (fun u x hu => ?_) ?_))
    | (with_reducible (refine keeps_foldl_fst (fun u x hu => ?_) ?_))
    | (with_reducible (refine keeps_foldl_snd (fun u x hu => ?_) ?_))
    | split
    | fail_if_no_progress (with_reducible (apply keeps_lit))
    | fail_if_no_progress (with_reducible (apply keeps_sys))

theorem keeps_railRunningFault {z s : State} (r : Nat) (latched : Bool) (hz : Keeps z s) :
    Keeps z (s.railRunningFault r latched) := by
  unfold State.railRunningFault
  (try dsimp only)
  repeat' first
    | (with_reducible assumption)
    | (with_reducible (apply keeps_setRailFail))
    | (with_reducible (apply keeps_setRailGood))
    | (with_reducible (apply keeps_reportSev))
    | (with_reducible (apply keeps_bump))
    | (with_reducible (refine keeps_foldl (fun u x hu => ?_) ?_))
    | (with_reducible (refine keeps_foldl_fst (fun u x hu => ?_) ?_))
    | (with_reducible (refine keeps_foldl_snd (fun u x hu => ?_) ?_))
    | split
    | fail_if_no_progress (with_reducible (apply keeps_lit))
    | fail_if_no_progress (with_reducible (apply keeps_sys))

theorem keeps_dropCause {z s : State} (ch : Nat) (x : FenceCause) (hz : Keeps z s) :
    Keeps z (s.dropCause ch x) := by
  unfold State.dropCause
  (try dsimp only)
  repeat' first
    | (with_reducible assumption)
    | (with_reducible (apply keeps_setChan))
    | (with_reducible (refine keeps_foldl (fun u x hu => ?_) ?_))
    | (with_reducible (refine keeps_foldl_fst (fun u x hu => ?_) ?_))
    | (with_reducible (refine keeps_foldl_snd (fun u x hu => ?_) ?_))
    | split
    | fail_if_no_progress (with_reducible (apply keeps_lit))
    | fail_if_no_progress (with_reducible (apply keeps_sys))

theorem keeps_railRetryOk {z s : State} (r : Nat) (hz : Keeps z s) :
    Keeps z (s.railRetryOk r) := by
  unfold State.railRetryOk
  (try dsimp only)
  repeat' first
    | (with_reducible assumption)
    | (with_reducible (apply keeps_dropCause))
    | (with_reducible (refine keeps_foldl (fun u x hu => ?_) ?_))
    | (with_reducible (refine keeps_foldl_fst (fun u x hu => ?_) ?_))
    | (with_reducible (refine keeps_foldl_snd (fun u x hu => ?_) ?_))
    | split
    | fail_if_no_progress (with_reducible (apply keeps_lit))
    | fail_if_no_progress (with_reducible (apply keeps_sys))

theorem keeps_railsOff {z s : State} (rs : List Nat) (x : FenceCause) (hz : Keeps z s) :
    Keeps z (s.railsOff rs x) := by
  unfold State.railsOff
  (try dsimp only)
  repeat' first
    | (with_reducible assumption)
    | (with_reducible (apply keeps_fenceChannel))
    | (with_reducible (apply keeps_dropRail))
    | (with_reducible (refine keeps_foldl (fun u x hu => ?_) ?_))
    | (with_reducible (refine keeps_foldl_fst (fun u x hu => ?_) ?_))
    | (with_reducible (refine keeps_foldl_snd (fun u x hu => ?_) ?_))
    | split
    | fail_if_no_progress (with_reducible (apply keeps_lit))
    | fail_if_no_progress (with_reducible (apply keeps_sys))

theorem keeps_railRetryLost {z s : State} (r : Nat) (hz : Keeps z s) :
    Keeps z (s.railRetryLost r) := by
  unfold State.railRetryLost
  (try dsimp only)
  repeat' first
    | (with_reducible assumption)
    | (with_reducible (apply keeps_railsOff))
    | (with_reducible (apply keeps_dropCause))
    | (with_reducible (apply keeps_dropRail))
    | (with_reducible (refine keeps_foldl (fun u x hu => ?_) ?_))
    | (with_reducible (refine keeps_foldl_fst (fun u x hu => ?_) ?_))
    | (with_reducible (refine keeps_foldl_snd (fun u x hu => ?_) ?_))
    | split
    | fail_if_no_progress (with_reducible (apply keeps_lit))
    | fail_if_no_progress (with_reducible (apply keeps_sys))

theorem keeps_railRetry {z s : State} (r : Nat) (hz : Keeps z s) :
    Keeps z (s.railRetry r) := by
  unfold State.railRetry
  (try dsimp only)
  repeat' first
    | (with_reducible assumption)
    | (with_reducible (apply keeps_railsOff))
    | (with_reducible (refine keeps_foldl (fun u x hu => ?_) ?_))
    | (with_reducible (refine keeps_foldl_fst (fun u x hu => ?_) ?_))
    | (with_reducible (refine keeps_foldl_snd (fun u x hu => ?_) ?_))
    | split
    | fail_if_no_progress (with_reducible (apply keeps_lit))
    | fail_if_no_progress (with_reducible (apply keeps_sys))

theorem keeps_periodicStart {z s : State}  (hz : Keeps z s) :
    Keeps z (s.periodicStart ) := by
  unfold State.periodicStart
  (try dsimp only)
  repeat' first
    | (with_reducible assumption)
    | (with_reducible (apply keeps_packTestStart))
    | (with_reducible (refine keeps_foldl (fun u x hu => ?_) ?_))
    | (with_reducible (refine keeps_foldl_fst (fun u x hu => ?_) ?_))
    | (with_reducible (refine keeps_foldl_snd (fun u x hu => ?_) ?_))
    | split
    | fail_if_no_progress (with_reducible (apply keeps_lit))
    | fail_if_no_progress (with_reducible (apply keeps_sys))

theorem keeps_enterService {z s : State}  (hz : Keeps z s) :
    Keeps z (s.enterService ) := by
  unfold State.enterService
  (try dsimp only)
  repeat' first
    | (with_reducible assumption)
    | (with_reducible (apply keeps_periodicStart))
    | (with_reducible (apply keeps_showFails))
    | (with_reducible (apply keeps_fceResumeAll))
    | (with_reducible (apply keeps_commitNow))
    | (with_reducible (apply keeps_writeBoot))
    | (with_reducible (apply keeps_ledger))
    | (with_reducible (refine keeps_setMode _ (by decide) ?_))
    | (with_reducible (apply keeps_setFlag))
    | (with_reducible (refine keeps_foldl (fun u x hu => ?_) ?_))
    | (with_reducible (refine keeps_foldl_fst (fun u x hu => ?_) ?_))
    | (with_reducible (refine keeps_foldl_snd (fun u x hu => ?_) ?_))
    | split
    | fail_if_no_progress (with_reducible (apply keeps_lit))
    | fail_if_no_progress (with_reducible (apply keeps_sys))

theorem keeps_threshPause {z s : State}  (hz : Keeps z s) :
    Keeps z (s.threshPause ) := by
  unfold State.threshPause
  (try dsimp only)
  repeat' first
    | (with_reducible assumption)
    | (with_reducible (apply keeps_setFld))
    | (with_reducible (refine keeps_foldl (fun u x hu => ?_) ?_))
    | (with_reducible (refine keeps_foldl_fst (fun u x hu => ?_) ?_))
    | (with_reducible (refine keeps_foldl_snd (fun u x hu => ?_) ?_))
    | split
    | fail_if_no_progress (with_reducible (apply keeps_lit))
    | fail_if_no_progress (with_reducible (apply keeps_sys))

theorem keeps_loopHome {z s : State}  (hz : Keeps z s) :
    Keeps z (s.loopHome ) := by
  unfold State.loopHome
  (try dsimp only)
  repeat' first
    | (with_reducible assumption)
    | (with_reducible (apply keeps_hopD))
    | (with_reducible (refine keeps_foldl (fun u x hu => ?_) ?_))
    | (with_reducible (refine keeps_foldl_fst (fun u x hu => ?_) ?_))
    | (with_reducible (refine keeps_foldl_snd (fun u x hu => ?_) ?_))
    | split
    | fail_if_no_progress (with_reducible (apply keeps_lit))
    | fail_if_no_progress (with_reducible (apply keeps_sys))

theorem keeps_lullExit {z s : State}  (hz : Keeps z s) :
    Keeps z (s.lullExit ) := by
  unfold State.lullExit
  (try dsimp only)
  repeat' first
    | (with_reducible assumption)
    | (with_reducible (apply keeps_loopHome))
    | (with_reducible (apply keeps_threshPause))
    | (with_reducible (apply keeps_loopAbort))
    | (with_reducible (apply keeps_applyCaLat))
    | (with_reducible (refine keeps_setMode _ (by decide) ?_))
    | (with_reducible (refine keeps_foldl (fun u x hu => ?_) ?_))
    | (with_reducible (refine keeps_foldl_fst (fun u x hu => ?_) ?_))
    | (with_reducible (refine keeps_foldl_snd (fun u x hu => ?_) ?_))
    | split
    | fail_if_no_progress (with_reducible (apply keeps_lit))
    | fail_if_no_progress (with_reducible (apply keeps_sys))

theorem keeps_handbackReady {z s : State}  (hz : Keeps z s) :
    Keeps z (s.handbackReady ) := by
  unfold State.handbackReady
  (try dsimp only)
  repeat' first
    | (with_reducible assumption)
    | (with_reducible (apply keeps_lullExit))
    | (with_reducible (apply keeps_handbackEnd))
    | (with_reducible (refine keeps_foldl (fun u x hu => ?_) ?_))
    | (with_reducible (refine keeps_foldl_fst (fun u x hu => ?_) ?_))
    | (with_reducible (refine keeps_foldl_snd (fun u x hu => ?_) ?_))
    | split
    | fail_if_no_progress (with_reducible (apply keeps_lit))
    | fail_if_no_progress (with_reducible (apply keeps_sys))

theorem keeps_reboundDone {z s : State}  (hz : Keeps z s) :
    Keeps z (s.reboundDone ) := by
  unfold State.reboundDone
  (try dsimp only)
  repeat' first
    | (with_reducible assumption)
    | (with_reducible (apply keeps_enterService))
    | (with_reducible (apply keeps_leaveSelfRef))
    | (with_reducible (apply keeps_giveDram))
    | (with_reducible (apply keeps_complete))
    | (with_reducible (apply keeps_trainAbandon))
    | (with_reducible (apply keeps_trainLeave))
    | (with_reducible (apply keeps_applyCaLat))
    | (with_reducible (apply keeps_setFlag))
    | (with_reducible (refine keeps_foldl (fun u x hu => ?_) ?_))
    | (with_reducible (refine keeps_foldl_fst (fun u x hu => ?_) ?_))
    | (with_reducible (refine keeps_foldl_snd (fun u x hu => ?_) ?_))
    | split
    | fail_if_no_progress (with_reducible (apply keeps_lit))
    | fail_if_no_progress (with_reducible (apply keeps_sys))

theorem keeps_reboundReady {z s : State}  (hz : Keeps z s) :
    Keeps z (s.reboundReady ) := by
  unfold State.reboundReady
  (try dsimp only)
  repeat' first
    | (with_reducible assumption)
    | (with_reducible (apply keeps_reboundDone))
    | (with_reducible (refine keeps_foldl (fun u x hu => ?_) ?_))
    | (with_reducible (refine keeps_foldl_fst (fun u x hu => ?_) ?_))
    | (with_reducible (refine keeps_foldl_snd (fun u x hu => ?_) ?_))
    | split
    | fail_if_no_progress (with_reducible (apply keeps_lit))
    | fail_if_no_progress (with_reducible (apply keeps_sys))

theorem keeps_lullEntry {z s : State} (f : Nat) (hz : Keeps z s) :
    Keeps z (s.lullEntry f) := by
  unfold State.lullEntry
  (try dsimp only)
  repeat' first
    | (with_reducible assumption)
    | (with_reducible (apply keeps_closeSlots))
    | (with_reducible (refine keeps_setMode _ (by decide) ?_))
    | (with_reducible (refine keeps_foldl (fun u x hu => ?_) ?_))
    | (with_reducible (refine keeps_foldl_fst (fun u x hu => ?_) ?_))
    | (with_reducible (refine keeps_foldl_snd (fun u x hu => ?_) ?_))
    | split
    | fail_if_no_progress (with_reducible (apply keeps_lit))
    | fail_if_no_progress (with_reducible (apply keeps_sys))

theorem keeps_handbackBroken {z s : State} (x : Sub) (hz : Keeps z s) :
    Keeps z (s.handbackBroken x) := by
  unfold State.handbackBroken
  (try dsimp only)
  repeat' first
    | (with_reducible assumption)
    | (with_reducible (apply keeps_report))
    | (with_reducible (apply keeps_setFlag))
    | (with_reducible (refine keeps_foldl (fun u x hu => ?_) ?_))
    | (with_reducible (refine keeps_foldl_fst (fun u x hu => ?_) ?_))
    | (with_reducible (refine keeps_foldl_snd (fun u x hu => ?_) ?_))
    | split
    | fail_if_no_progress (with_reducible (apply keeps_lit))
    | fail_if_no_progress (with_reducible (apply keeps_sys))

theorem keeps_earlyCommand {z s t : State} {src : Nat} {x : Sub} {v : Bool} (e : s.earlyCommand src x v = some t) (h : Keeps z s) : Keeps z t := by
  unfold State.earlyCommand at e
  dsimp only at e
  repeat' split at e
  all_goals first
    | cases e; done
    | cases e; exact h
    | cases e; exact keeps_note _ _ _ h
    | cases e; exact keeps_handbackBroken _ h
    | skip
  all_goals cases e; repeat' first
    | (with_reducible assumption)
    | (with_reducible (apply keeps_note))
    | (with_reducible (apply keeps_bump))
    | split
    | fail_if_no_progress (with_reducible (apply keeps_lit))

theorem keeps_keeperWithdraw {z s : State}  (hz : Keeps z s) :
    Keeps z (s.keeperWithdraw ) := by
  unfold State.keeperWithdraw
  (try dsimp only)
  repeat' first
    | (with_reducible assumption)
    | (with_reducible (apply keeps_queuesWithdraw))
    | (with_reducible (refine keeps_foldl (fun u x hu => ?_) ?_))
    | (with_reducible (refine keeps_foldl_fst (fun u x hu => ?_) ?_))
    | (with_reducible (refine keeps_foldl_snd (fun u x hu => ?_) ?_))
    | split
    | fail_if_no_progress (with_reducible (apply keeps_lit))
    | fail_if_no_progress (with_reducible (apply keeps_sys))

theorem keeps_coresStop {z s : State}  (hz : Keeps z s) :
    Keeps z (s.coresStop ) := by
  unfold State.coresStop
  (try dsimp only)
  repeat' first
    | (with_reducible assumption)
    | (with_reducible (apply keeps_complete))
    | (with_reducible (apply keeps_postWithheld))
    | (with_reducible (apply keeps_setFlag))
    | (with_reducible (apply keeps_setFld))
    | (with_reducible (refine keeps_foldl (fun u x hu => ?_) ?_))
    | (with_reducible (refine keeps_foldl_fst (fun u x hu => ?_) ?_))
    | (with_reducible (refine keeps_foldl_snd (fun u x hu => ?_) ?_))
    | split
    | fail_if_no_progress (with_reducible (apply keeps_lit))
    | fail_if_no_progress (with_reducible (apply keeps_sys))

theorem keeps_keeperEnter {z s : State}  (hz : Keeps z s) :
    Keeps z (s.keeperEnter ) := by
  unfold State.keeperEnter
  (try dsimp only)
  repeat' first
    | (with_reducible assumption)
    | (with_reducible (apply keeps_coresStop))
    | (with_reducible (apply keeps_keeperWithdraw))
    | (with_reducible (apply keeps_loopHome))
    | (with_reducible (apply keeps_threshPause))
    | (with_reducible (apply keeps_loopAbort))
    | (with_reducible (apply keeps_restoreStop))
    | (with_reducible (apply keeps_attachAttemptFailed))
    | (with_reducible (apply keeps_harvestStop))
    | (with_reducible (apply keeps_giveDram))
    | (with_reducible (apply keeps_sealFence))
    | (with_reducible (apply keeps_gleanStop))
    | (with_reducible (apply keeps_trainLeave))
    | (with_reducible (apply keeps_trainHalt))
    | (with_reducible (apply keeps_learnStop))
    | (with_reducible (refine keeps_setMode _ (by decide) ?_))
    | (with_reducible (apply keeps_setFlag))
    | (with_reducible (apply keeps_setFld))
    | (with_reducible (refine keeps_foldl (fun u x hu => ?_) ?_))
    | (with_reducible (refine keeps_foldl_fst (fun u x hu => ?_) ?_))
    | (with_reducible (refine keeps_foldl_snd (fun u x hu => ?_) ?_))
    | split
    | fail_if_no_progress (with_reducible (apply keeps_lit))
    | fail_if_no_progress (with_reducible (apply keeps_sys))

theorem keeps_loadSsc {z s : State} (v : Word) (hz : Keeps z s) :
    Keeps z (s.loadSsc v) := by
  unfold State.loadSsc
  (try dsimp only)
  repeat' first
    | (with_reducible assumption)
    | (with_reducible (apply keeps_report))
    | (with_reducible (apply keeps_setFlag))
    | (with_reducible (apply keeps_setFld))
    | (with_reducible (refine keeps_foldl (fun u x hu => ?_) ?_))
    | (with_reducible (refine keeps_foldl_fst (fun u x hu => ?_) ?_))
    | (with_reducible (refine keeps_foldl_snd (fun u x hu => ?_) ?_))
    | split
    | fail_if_no_progress (with_reducible (apply keeps_lit))
    | fail_if_no_progress (with_reducible (apply keeps_sys))

theorem keeps_loadSetting {z s : State} (x : Nat × Word) (hz : Keeps z s) :
    Keeps z (s.loadSetting x) := by
  unfold State.loadSetting
  (try dsimp only)
  repeat' first
    | (with_reducible assumption)
    | (with_reducible (apply keeps_storeWord))
    | (with_reducible (apply keeps_writeUserSp))
    | (with_reducible (apply keeps_writeIf))
    | (with_reducible (refine keeps_writeIf_pair (by assumption) ?_))
    | (with_reducible (apply keeps_verifyKept))
    | (with_reducible (apply keeps_report))
    | (with_reducible (refine keeps_foldl (fun u x hu => ?_) ?_))
    | (with_reducible (refine keeps_foldl_fst (fun u x hu => ?_) ?_))
    | (with_reducible (refine keeps_foldl_snd (fun u x hu => ?_) ?_))
    | split
    | fail_if_no_progress (with_reducible (apply keeps_lit))
    | fail_if_no_progress (with_reducible (apply keeps_sys))

theorem keeps_loadConfig {z s : State} (m : List Byte) (hz : Keeps z s) :
    Keeps z (s.loadConfig m) := by
  unfold State.loadConfig
  (try dsimp only)
  repeat' first
    | (with_reducible assumption)
    | (with_reducible (apply keeps_loadSetting))
    | (with_reducible (apply keeps_setFld))
    | (with_reducible (refine keeps_foldl (fun u x hu => ?_) ?_))
    | (with_reducible (refine keeps_foldl_fst (fun u x hu => ?_) ?_))
    | (with_reducible (refine keeps_foldl_snd (fun u x hu => ?_) ?_))
    | split
    | fail_if_no_progress (with_reducible (apply keeps_lit))
    | fail_if_no_progress (with_reducible (apply keeps_sys))

theorem keeps_loadCold {z s : State} (m : List Byte) (hz : Keeps z s) :
    Keeps z (s.loadCold m) := by
  unfold State.loadCold
  (try dsimp only)
  repeat' first
    | (with_reducible assumption)
    | (with_reducible (apply keeps_loadSsc))
    | (with_reducible (apply keeps_setFlag))
    | (with_reducible (apply keeps_setFld))
    | (with_reducible (refine keeps_foldl (fun u x hu => ?_) ?_))
    | (with_reducible (refine keeps_foldl_fst (fun u x hu => ?_) ?_))
    | (with_reducible (refine keeps_foldl_snd (fun u x hu => ?_) ?_))
    | split
    | fail_if_no_progress (with_reducible (apply keeps_lit))
    | fail_if_no_progress (with_reducible (apply keeps_sys))

theorem keeps_releaseCores {z s : State}  (hz : Keeps z s) :
    Keeps z (s.releaseCores ) := by
  unfold State.releaseCores
  (try dsimp only)
  repeat' first
    | (with_reducible assumption)
    | (with_reducible (apply keeps_lockF))
    | (with_reducible (apply keeps_setFld))
    | (with_reducible (refine keeps_foldl (fun u x hu => ?_) ?_))
    | (with_reducible (refine keeps_foldl_fst (fun u x hu => ?_) ?_))
    | (with_reducible (refine keeps_foldl_snd (fun u x hu => ?_) ?_))
    | split
    | fail_if_no_progress (with_reducible (apply keeps_lit))
    | fail_if_no_progress (with_reducible (apply keeps_sys))

theorem keeps_fixEpoch {z s : State} (n : Nat) (hz : Keeps z s) :
    Keeps z (s.fixEpoch n) := by
  unfold State.fixEpoch
  (try dsimp only)
  repeat' first
    | (with_reducible assumption)
    | (with_reducible (apply keeps_setFlag))
    | (with_reducible (apply keeps_setFld))
    | (with_reducible (refine keeps_foldl (fun u x hu => ?_) ?_))
    | (with_reducible (refine keeps_foldl_fst (fun u x hu => ?_) ?_))
    | (with_reducible (refine keeps_foldl_snd (fun u x hu => ?_) ?_))
    | split
    | fail_if_no_progress (with_reducible (apply keeps_lit))
    | fail_if_no_progress (with_reducible (apply keeps_sys))

theorem keeps_autoRevert {z s : State} (b : BootAnchor) (h : Keeps z s) : Keeps z (s.autoRevert b).1 := by
  unfold State.autoRevert
  split
  · exact h
  · split
    · exact keeps_report _ _ _ _ h
    · exact keeps_emit _ _ _ _ (keeps_setFlag _ _ h)

theorem keeps_autoRevert_pair {z s t : State} {b b' : BootAnchor} (e : s.autoRevert b = (t, b')) (h : Keeps z s) : Keeps z t := by
  have := keeps_autoRevert b h; rw [e] at this; exact this

theorem keeps_bootFrom {z s : State} (b : BootAnchor) (bad : BitVec 6) (hz : Keeps z s) :
    Keeps z (s.bootFrom b bad) := by
  unfold State.bootFrom
  (try dsimp only)
  repeat' first
    | (with_reducible assumption)
    | (with_reducible (apply keeps_releaseCores))
    | (with_reducible (apply keeps_loadCold))
    | (with_reducible (apply keeps_loadConfig))
    | (with_reducible (apply keeps_commitNow))
    | (with_reducible (apply keeps_setFlag))
    | (with_reducible (refine keeps_foldl (fun u x hu => ?_) ?_))
    | (with_reducible (refine keeps_foldl_fst (fun u x hu => ?_) ?_))
    | (with_reducible (refine keeps_foldl_snd (fun u x hu => ?_) ?_))
    | split
    | fail_if_no_progress (with_reducible (apply keeps_lit))
    | fail_if_no_progress (with_reducible (apply keeps_sys))

theorem keeps_format {z s : State} (e : BootEnv) (hz : Keeps z s) :
    Keeps z (s.format e) := by
  unfold State.format
  (try dsimp only)
  repeat' first
    | (with_reducible assumption)
    | (with_reducible (apply keeps_showHead))
    | (with_reducible (apply keeps_writeCommit))
    | (with_reducible (apply keeps_anchorWrite))
    | (with_reducible (apply keeps_withdraw))
    | (with_reducible (apply keeps_remapColumn))
    | (with_reducible (refine keeps_remapColumn_pair (by assumption) ?_))
    | (with_reducible (apply keeps_ledger))
    | (with_reducible (apply keeps_setFlag))
    | (with_reducible (apply keeps_setFld))
    | (with_reducible (refine keeps_foldl (fun u x hu => ?_) ?_))
    | (with_reducible (refine keeps_foldl_fst (fun u x hu => ?_) ?_))
    | (with_reducible (refine keeps_foldl_snd (fun u x hu => ?_) ?_))
    | split
    | fail_if_no_progress (with_reducible (apply keeps_lit))
    | fail_if_no_progress (with_reducible (apply keeps_sys))

theorem keeps_formatDone {z s : State}  (hz : Keeps z s) :
    Keeps z (s.formatDone ) := by
  unfold State.formatDone
  (try dsimp only)
  repeat' first
    | (with_reducible assumption)
    | (with_reducible (apply keeps_setFlag))
    | (with_reducible (refine keeps_foldl (fun u x hu => ?_) ?_))
    | (with_reducible (refine keeps_foldl_fst (fun u x hu => ?_) ?_))
    | (with_reducible (refine keeps_foldl_snd (fun u x hu => ?_) ?_))
    | split
    | fail_if_no_progress (with_reducible (apply keeps_lit))
    | fail_if_no_progress (with_reducible (apply keeps_sys))

theorem keeps_revertAdmit {z s : State}  (hz : Keeps z s) :
    Keeps z (s.revertAdmit ) := by
  unfold State.revertAdmit
  (try dsimp only)
  repeat' first
    | (with_reducible assumption)
    | (with_reducible (apply keeps_admitActive))
    | (with_reducible (apply keeps_commitNow))
    | (with_reducible (refine keeps_foldl (fun u x hu => ?_) ?_))
    | (with_reducible (refine keeps_foldl_fst (fun u x hu => ?_) ?_))
    | (with_reducible (refine keeps_foldl_snd (fun u x hu => ?_) ?_))
    | split
    | fail_if_no_progress (with_reducible (apply keeps_lit))
    | fail_if_no_progress (with_reducible (apply keeps_sys))

theorem keeps_bootLoad {z s : State} (e : BootEnv) (hz : Keeps z s) :
    Keeps z (s.bootLoad e) := by
  unfold State.bootLoad
  (try dsimp only)
  repeat' first
    | (with_reducible assumption)
    | (with_reducible (apply keeps_revertAdmit))
    | (with_reducible (apply keeps_format))
    | (with_reducible (apply keeps_bootFrom))
    | (with_reducible (apply keeps_autoRevert))
    | (with_reducible (refine keeps_autoRevert_pair (by assumption) ?_))
    | (with_reducible (apply keeps_fixEpoch))
    | (with_reducible (apply keeps_releaseCores))
    | (with_reducible (apply keeps_showGens))
    | (with_reducible (apply keeps_anchorWrite))
    | (with_reducible (apply keeps_setFlag))
    | (with_reducible (apply keeps_setFld))
    | (with_reducible (refine keeps_foldl (fun u x hu => ?_) ?_))
    | (with_reducible (refine keeps_foldl_fst (fun u x hu => ?_) ?_))
    | (with_reducible (refine keeps_foldl_snd (fun u x hu => ?_) ?_))
    | split
    | fail_if_no_progress (with_reducible (apply keeps_lit))
    | fail_if_no_progress (with_reducible (apply keeps_sys))

theorem keeps_dropTwin {z s : State} (twin : Nat) (hz : Keeps z s) :
    Keeps z (s.dropTwin twin) := by
  unfold State.dropTwin
  (try dsimp only)
  repeat' first
    | (with_reducible assumption)
    | (with_reducible (refine keeps_foldl (fun u x hu => ?_) ?_))
    | (with_reducible (refine keeps_foldl_fst (fun u x hu => ?_) ?_))
    | (with_reducible (refine keeps_foldl_snd (fun u x hu => ?_) ?_))
    | split
    | fail_if_no_progress (with_reducible (apply keeps_lit))
    | fail_if_no_progress (with_reducible (apply keeps_sys))

theorem keeps_completeTwin {z s : State} (b : BootAnchor) (page : Nat) (m : List Byte) (hz : Keeps z s) :
    Keeps z (s.completeTwin b page m) := by
  unfold State.completeTwin
  (try dsimp only)
  repeat' first
    | (with_reducible assumption)
    | (with_reducible (apply keeps_dropTwin))
    | (with_reducible (apply keeps_writeBoot))
    | (with_reducible (apply keeps_setUsed))
    | (with_reducible (refine keeps_foldl (fun u x hu => ?_) ?_))
    | (with_reducible (refine keeps_foldl_fst (fun u x hu => ?_) ?_))
    | (with_reducible (refine keeps_foldl_snd (fun u x hu => ?_) ?_))
    | split
    | fail_if_no_progress (with_reducible (apply keeps_lit))
    | fail_if_no_progress (with_reducible (apply keeps_sys))

theorem keeps_refuseConfig {z s : State} (e : ExecPkt) (reason : Nat) (hz : Keeps z s) :
    Keeps z (s.refuseConfig e reason) := by
  unfold State.refuseConfig
  (try dsimp only)
  repeat' first
    | (with_reducible assumption)
    | (with_reducible (apply keeps_noteRefusal))
    | (with_reducible (apply keeps_complete))
    | (with_reducible (refine keeps_foldl (fun u x hu => ?_) ?_))
    | (with_reducible (refine keeps_foldl_fst (fun u x hu => ?_) ?_))
    | (with_reducible (refine keeps_foldl_snd (fun u x hu => ?_) ?_))
    | split
    | fail_if_no_progress (with_reducible (apply keeps_lit))
    | fail_if_no_progress (with_reducible (apply keeps_sys))

theorem keeps_stageProgram {z s : State} (n : Nat) (g : Staging) (k : Nat) (ls : SMap LineData) (hz : Keeps z s) :
    Keeps z (s.stageProgram n g k ls) := by
  unfold State.stageProgram
  (try dsimp only)
  repeat' first
    | (with_reducible assumption)
    | (with_reducible (apply keeps_putEar))
    | (with_reducible (apply keeps_setUsed))
    | (with_reducible (refine keeps_foldl (fun u x hu => ?_) ?_))
    | (with_reducible (refine keeps_foldl_fst (fun u x hu => ?_) ?_))
    | (with_reducible (refine keeps_foldl_snd (fun u x hu => ?_) ?_))
    | split
    | fail_if_no_progress (with_reducible (apply keeps_lit))
    | fail_if_no_progress (with_reducible (apply keeps_sys))

theorem keeps_stageEar_snd {z s : State} (n : Nat) (g : Staging) (h : Keeps z s) : Keeps z (s.stageEar n g).2 := by
  unfold State.stageEar
  exact keeps_stageProgram _ _ _ _ h

theorem keeps_stageEar {z s t : State} {n : Nat} {g g' : Staging} (e : s.stageEar n g = (g', t)) (h : Keeps z s) : Keeps z t := by
  have := keeps_stageEar_snd n g h; rw [e] at this; exact this

theorem keeps_stageLast_snd {z s : State} (n : Nat) (g : Staging) (h : Keeps z s) : Keeps z (s.stageLast n g).2 := by
  unfold State.stageLast
  split
  rename_i g' t e
  refine keeps_stageProgram _ _ _ _ ?_
  split at e
  · cases e; exact h
  · exact keeps_stageEar e h

theorem keeps_stageLast {z s t : State} {n : Nat} {g g' : Staging} (e : s.stageLast n g = (g', t)) (h : Keeps z s) : Keeps z t := by
  have := keeps_stageLast_snd n g h; rw [e] at this; exact this

theorem keeps_takeChunk {z s : State} (g : Staging) (e : ExecPkt) (hz : Keeps z s) :
    Keeps z (s.takeChunk g e) := by
  unfold State.takeChunk
  (try dsimp only)
  repeat' first
    | (with_reducible assumption)
    | (with_reducible (apply keeps_stageLast_snd))
    | (with_reducible (refine keeps_stageLast (by assumption) ?_))
    | (with_reducible (apply keeps_stageEar_snd))
    | (with_reducible (refine keeps_stageEar (by assumption) ?_))
    | (with_reducible (apply keeps_refuseConfig))
    | (with_reducible (apply keeps_completeTwin))
    | (with_reducible (apply keeps_showGens))
    | (with_reducible (apply keeps_complete))
    | (with_reducible (refine keeps_foldl (fun u x hu => ?_) ?_))
    | (with_reducible (refine keeps_foldl_fst (fun u x hu => ?_) ?_))
    | (with_reducible (refine keeps_foldl_snd (fun u x hu => ?_) ?_))
    | split
    | fail_if_no_progress (with_reducible (apply keeps_lit))
    | fail_if_no_progress (with_reducible (apply keeps_sys))

theorem keeps_stagePump {z s : State}  (hz : Keeps z s) :
    Keeps z (s.stagePump ) := by
  unfold State.stagePump
  (try dsimp only)
  repeat' first
    | (with_reducible assumption)
    | (with_reducible (apply keeps_takeChunk))
    | (with_reducible (apply keeps_complete))
    | (with_reducible (refine keeps_foldl (fun u x hu => ?_) ?_))
    | (with_reducible (refine keeps_foldl_fst (fun u x hu => ?_) ?_))
    | (with_reducible (refine keeps_foldl_snd (fun u x hu => ?_) ?_))
    | split
    | fail_if_no_progress (with_reducible (apply keeps_lit))
    | fail_if_no_progress (with_reducible (apply keeps_sys))

theorem keeps_stagingStop {z s : State}  (hz : Keeps z s) :
    Keeps z (s.stagingStop ) := by
  unfold State.stagingStop
  (try dsimp only)
  repeat' first
    | (with_reducible assumption)
    | (with_reducible (refine keeps_foldl (fun u x hu => ?_) ?_))
    | (with_reducible (refine keeps_foldl_fst (fun u x hu => ?_) ?_))
    | (with_reducible (refine keeps_foldl_snd (fun u x hu => ?_) ?_))
    | split
    | fail_if_no_progress (with_reducible (apply keeps_lit))
    | fail_if_no_progress (with_reducible (apply keeps_sys))

theorem keeps_stageStart {z s : State} (b : BootAnchor) (total : Nat) (e : ExecPkt) (hz : Keeps z s) :
    Keeps z (s.stageStart b total e) := by
  unfold State.stageStart
  (try dsimp only)
  repeat' first
    | (with_reducible assumption)
    | (with_reducible (apply keeps_dropTwin))
    | (with_reducible (apply keeps_showGens))
    | (with_reducible (apply keeps_planErase))
    | (with_reducible (apply keeps_startExec))
    | (with_reducible (refine keeps_foldl (fun u x hu => ?_) ?_))
    | (with_reducible (refine keeps_foldl_fst (fun u x hu => ?_) ?_))
    | (with_reducible (refine keeps_foldl_snd (fun u x hu => ?_) ?_))
    | split
    | fail_if_no_progress (with_reducible (apply keeps_lit))
    | fail_if_no_progress (with_reducible (apply keeps_sys))

theorem keeps_configLoaded {z s : State}  (hz : Keeps z s) :
    Keeps z (s.configLoaded ) := by
  unfold State.configLoaded
  (try dsimp only)
  repeat' first
    | (with_reducible assumption)
    | (with_reducible (apply keeps_logRelocate))
    | (with_reducible (apply keeps_showGens))
    | (with_reducible (apply keeps_channelsReturn))
    | (with_reducible (apply keeps_commitNow))
    | (with_reducible (apply keeps_swathCheck))
    | (with_reducible (refine keeps_foldl (fun u x hu => ?_) ?_))
    | (with_reducible (refine keeps_foldl_fst (fun u x hu => ?_) ?_))
    | (with_reducible (refine keeps_foldl_snd (fun u x hu => ?_) ?_))
    | split
    | fail_if_no_progress (with_reducible (apply keeps_lit))
    | fail_if_no_progress (with_reducible (apply keeps_sys))

theorem keeps_activate {z s : State} (b : BootAnchor) (m : List Byte) (v : Verdict) (hz : Keeps z s) :
    Keeps z (s.activate b m v) := by
  unfold State.activate
  (try dsimp only)
  repeat' first
    | (with_reducible assumption)
    | (with_reducible (apply keeps_configLoaded))
    | (with_reducible (apply keeps_loadConfig))
    | (with_reducible (apply keeps_inForce))
    | (with_reducible (apply keeps_writeBoot))
    | (with_reducible (refine keeps_foldl (fun u x hu => ?_) ?_))
    | (with_reducible (refine keeps_foldl_fst (fun u x hu => ?_) ?_))
    | (with_reducible (refine keeps_foldl_snd (fun u x hu => ?_) ?_))
    | split
    | fail_if_no_progress (with_reducible (apply keeps_lit))
    | fail_if_no_progress (with_reducible (apply keeps_sys))

theorem keeps_revert {z s : State} (m : List Byte) (hz : Keeps z s) :
    Keeps z (s.revert m) := by
  unfold State.revert
  (try dsimp only)
  repeat' first
    | (with_reducible assumption)
    | (with_reducible (apply keeps_configLoaded))
    | (with_reducible (apply keeps_loadConfig))
    | (with_reducible (apply keeps_admitActive))
    | (with_reducible (apply keeps_writeBoot))
    | (with_reducible (refine keeps_foldl (fun u x hu => ?_) ?_))
    | (with_reducible (refine keeps_foldl_fst (fun u x hu => ?_) ?_))
    | (with_reducible (refine keeps_foldl_snd (fun u x hu => ?_) ?_))
    | split
    | fail_if_no_progress (with_reducible (apply keeps_lit))
    | fail_if_no_progress (with_reducible (apply keeps_sys))

theorem keeps_seqDone {z s : State} (boot : BootEnv) (hz : Keeps z s) :
    Keeps z (s.seqDone boot) := by
  unfold State.seqDone
  (try dsimp only)
  repeat' first
    | (with_reducible assumption)
    | (with_reducible (apply keeps_bootLoad))
    | (with_reducible (apply keeps_setFld))
    | (with_reducible (refine keeps_foldl (fun u x hu => ?_) ?_))
    | (with_reducible (refine keeps_foldl_fst (fun u x hu => ?_) ?_))
    | (with_reducible (refine keeps_foldl_snd (fun u x hu => ?_) ?_))
    | split
    | fail_if_no_progress (with_reducible (apply keeps_lit))
    | fail_if_no_progress (with_reducible (apply keeps_sys))

theorem keeps_seqAdvance {z s : State} (boot : BootEnv) (n : Nat) (h : Keeps z s) : Keeps z (s.seqAdvance boot n) := by
  induction n generalizing s with
  | zero => exact h
  | succ n ih =>
    unfold State.seqAdvance
    dsimp only
    split
    · exact h
    · split
      · exact keeps_setFld _ _ h
      · split
        · exact keeps_seqDone _ h
        · exact ih (keeps_raiseStage _ h)

theorem keeps_resequence {z s : State}  (hz : Keeps z s) :
    Keeps z (s.resequence ) := by
  unfold State.resequence
  (try dsimp only)
  repeat' first
    | (with_reducible assumption)
    | (with_reducible (apply keeps_seqAdvance))
    | (with_reducible (apply keeps_mbBatch))
    | (with_reducible (apply keeps_raiseStage))
    | (with_reducible (apply keeps_setFlag))
    | (with_reducible (apply keeps_setFld))
    | (with_reducible (refine keeps_foldl (fun u x hu => ?_) ?_))
    | (with_reducible (refine keeps_foldl_fst (fun u x hu => ?_) ?_))
    | (with_reducible (refine keeps_foldl_snd (fun u x hu => ?_) ?_))
    | split
    | fail_if_no_progress (with_reducible (apply keeps_lit))
    | fail_if_no_progress (with_reducible (apply keeps_sys))

theorem keeps_feedAIn {z s : State}  (hz : Keeps z s) :
    Keeps z (s.feedAIn ) := by
  unfold State.feedAIn
  (try dsimp only)
  repeat' first
    | (with_reducible assumption)
    | (with_reducible (apply keeps_resequence))
    | (with_reducible (refine keeps_foldl (fun u x hu => ?_) ?_))
    | (with_reducible (refine keeps_foldl_fst (fun u x hu => ?_) ?_))
    | (with_reducible (refine keeps_foldl_snd (fun u x hu => ?_) ?_))
    | split
    | fail_if_no_progress (with_reducible (apply keeps_lit))
    | fail_if_no_progress (with_reducible (apply keeps_sys))

theorem keeps_stepFive {z s : State}  (hz : Keeps z s) :
    Keeps z (s.stepFive ) := by
  unfold State.stepFive
  (try dsimp only)
  repeat' first
    | (with_reducible assumption)
    | (with_reducible (apply keeps_mbBatch))
    | (with_reducible (apply keeps_raiseStage))
    | (with_reducible (apply keeps_report))
    | (with_reducible (apply keeps_bump))
    | (with_reducible (apply keeps_setFld))
    | (with_reducible (refine keeps_foldl (fun u x hu => ?_) ?_))
    | (with_reducible (refine keeps_foldl_fst (fun u x hu => ?_) ?_))
    | (with_reducible (refine keeps_foldl_snd (fun u x hu => ?_) ?_))
    | split
    | fail_if_no_progress (with_reducible (apply keeps_lit))
    | fail_if_no_progress (with_reducible (apply keeps_sys))

theorem keeps_powerUpSteps {z s : State} (bGood : Bool) (mbBad : BitVec 6) (mbRetries : BitVec 16) (hz : Keeps z s) :
    Keeps z (s.powerUpSteps bGood mbBad mbRetries) := by
  unfold State.powerUpSteps
  (try dsimp only)
  repeat' first
    | (with_reducible assumption)
    | (with_reducible (apply keeps_blankHold))
    | (with_reducible (apply keeps_cornerCheck))
    | (with_reducible (apply keeps_logPowerUp))
    | (with_reducible (apply keeps_enterOff))
    | (with_reducible (apply keeps_lastLog))
    | (with_reducible (apply keeps_loadPtab))
    | (with_reducible (apply keeps_bump))
    | (with_reducible (apply keeps_setFlag))
    | (with_reducible (apply keeps_setFld))
    | (with_reducible (refine keeps_foldl (fun u x hu => ?_) ?_))
    | (with_reducible (refine keeps_foldl_fst (fun u x hu => ?_) ?_))
    | (with_reducible (refine keeps_foldl_snd (fun u x hu => ?_) ?_))
    | split
    | fail_if_no_progress (with_reducible (apply keeps_lit))
    | fail_if_no_progress (with_reducible (apply keeps_sys))

theorem keeps_railNoStart {z s : State} (r : Nat) (boot : BootEnv) (hz : Keeps z s) :
    Keeps z (s.railNoStart r boot) := by
  unfold State.railNoStart
  (try dsimp only)
  repeat' first
    | (with_reducible assumption)
    | (with_reducible (apply keeps_seqAdvance))
    | (with_reducible (apply keeps_railRetryLost))
    | (with_reducible (apply keeps_fenceChannel))
    | (with_reducible (apply keeps_shutDownStart))
    | (with_reducible (apply keeps_attachAttemptFailed))
    | (with_reducible (apply keeps_dropRail))
    | (with_reducible (apply keeps_setRailFail))
    | (with_reducible (apply keeps_reportSev))
    | (with_reducible (refine keeps_foldl (fun u x hu => ?_) ?_))
    | (with_reducible (refine keeps_foldl_fst (fun u x hu => ?_) ?_))
    | (with_reducible (refine keeps_foldl_snd (fun u x hu => ?_) ?_))
    | split
    | fail_if_no_progress (with_reducible (apply keeps_lit))
    | fail_if_no_progress (with_reducible (apply keeps_sys))

theorem keeps_disarm {z s : State} (bad : Nat) (hz : Keeps z s) :
    Keeps z (s.disarm bad) := by
  unfold State.disarm
  (try dsimp only)
  repeat' first
    | (with_reducible assumption)
    | (with_reducible (refine keeps_foldl (fun u x hu => ?_) ?_))
    | (with_reducible (refine keeps_foldl_fst (fun u x hu => ?_) ?_))
    | (with_reducible (refine keeps_foldl_snd (fun u x hu => ?_) ?_))
    | split
    | fail_if_no_progress (with_reducible (apply keeps_lit))
    | fail_if_no_progress (with_reducible (apply keeps_sys))

theorem keeps_setBlock {z s : State} (x : Sub) (b : Bool) (hz : Keeps z s) :
    Keeps z (s.setBlock x b) := by
  unfold State.setBlock
  (try dsimp only)
  repeat' first
    | (with_reducible assumption)
    | (with_reducible (apply keeps_setFlag))
    | (with_reducible (refine keeps_foldl (fun u x hu => ?_) ?_))
    | (with_reducible (refine keeps_foldl_fst (fun u x hu => ?_) ?_))
    | (with_reducible (refine keeps_foldl_snd (fun u x hu => ?_) ?_))
    | split
    | fail_if_no_progress (with_reducible (apply keeps_lit))
    | fail_if_no_progress (with_reducible (apply keeps_sys))

theorem keeps_setParErr {z s : State} (x : Sub) (b : Bool) (hz : Keeps z s) :
    Keeps z (s.setParErr x b) := by
  unfold State.setParErr
  (try dsimp only)
  repeat' first
    | (with_reducible assumption)
    | (with_reducible (apply keeps_setFlag))
    | (with_reducible (refine keeps_foldl (fun u x hu => ?_) ?_))
    | (with_reducible (refine keeps_foldl_fst (fun u x hu => ?_) ?_))
    | (with_reducible (refine keeps_foldl_snd (fun u x hu => ?_) ?_))
    | split
    | fail_if_no_progress (with_reducible (apply keeps_lit))
    | fail_if_no_progress (with_reducible (apply keeps_sys))

theorem keeps_parityError {z s : State} (c : CaCmd) (i : Nat) (hz : Keeps z s) :
    Keeps z (s.parityError c i) := by
  unfold State.parityError
  (try dsimp only)
  repeat' first
    | (with_reducible assumption)
    | (with_reducible (apply keeps_setParErr))
    | (with_reducible (apply keeps_setBlock))
    | (with_reducible (apply keeps_bump))
    | (with_reducible (apply keeps_setFld))
    | (with_reducible (refine keeps_foldl (fun u x hu => ?_) ?_))
    | (with_reducible (refine keeps_foldl_fst (fun u x hu => ?_) ?_))
    | (with_reducible (refine keeps_foldl_snd (fun u x hu => ?_) ?_))
    | split
    | fail_if_no_progress (with_reducible (apply keeps_lit))
    | fail_if_no_progress (with_reducible (apply keeps_sys))

theorem keeps_hostGate {z s : State} (c : CaCmd) (cw e x v : Bool) (h : Keeps z s) : Keeps z (s.hostGate c cw e x v).1 := by
  unfold State.hostGate
  repeat' first
    | (with_reducible assumption)
    | (with_reducible (apply keeps_parityError))
    | (with_reducible (apply keeps_bump))
    | (with_reducible (apply keeps_note))
    | (with_reducible (apply keeps_handbackBroken))
    | (with_reducible (refine keeps_earlyCommand (by assumption) ?_))
    | split
    | fail_if_no_progress (with_reducible (apply keeps_lit))
    | fail_if_no_progress (with_reducible (apply keeps_sys))
    | dsimp only

theorem keeps_hostGate_pair {z s t : State} {c : CaCmd} {cw e x v b : Bool} (he : s.hostGate c cw e x v = (t, b)) (h : Keeps z s) :
    Keeps z t := by
  have := keeps_hostGate c cw e x v h; rw [he] at this; exact this

theorem keeps_stampNext {z s : State}  (hz : Keeps z s) :
    Keeps z (s.stampNext ) := by
  unfold State.stampNext
  (try dsimp only)
  repeat' first
    | (with_reducible assumption)
    | (with_reducible (refine keeps_foldl (fun u x hu => ?_) ?_))
    | (with_reducible (refine keeps_foldl_fst (fun u x hu => ?_) ?_))
    | (with_reducible (refine keeps_foldl_snd (fun u x hu => ?_) ?_))
    | split
    | fail_if_no_progress (with_reducible (apply keeps_lit))
    | fail_if_no_progress (with_reducible (apply keeps_sys))

theorem keeps_forward {z s : State} (c : CaCmd) {k : State → State} (hf : ∀ u, Keeps z u → Keeps z (k u)) (h : Keeps z s) :
    KeepsO z (s.forward c k) := by
  unfold State.forward
  split
  rename_i t b e
  have ht := keeps_hostGate_pair e h
  refine keepsO_next ?_
  split
  · exact hf _ (keeps_stampNext ht)
  · exact ht

theorem keeps_closeRow {z s : State} (i : Nat) (hz : Keeps z s) :
    Keeps z (s.closeRow i) := by
  unfold State.closeRow
  (try dsimp only)
  repeat' first
    | (with_reducible assumption)
    | (with_reducible (refine keeps_foldl (fun u x hu => ?_) ?_))
    | (with_reducible (refine keeps_foldl_fst (fun u x hu => ?_) ?_))
    | (with_reducible (refine keeps_foldl_snd (fun u x hu => ?_) ?_))
    | split
    | fail_if_no_progress (with_reducible (apply keeps_lit))
    | fail_if_no_progress (with_reducible (apply keeps_sys))

theorem keeps_writeNoRow {z s : State} (c : CaCmd) (b : BankAddr) (hz : Keeps z s) :
    Keeps z (s.writeNoRow c b) := by
  unfold State.writeNoRow
  (try dsimp only)
  repeat' first
    | (with_reducible assumption)
    | (with_reducible (apply keeps_bankWrite))
    | (with_reducible (apply keeps_setAllDirty))
    | (with_reducible (apply keeps_note))
    | (with_reducible (refine keeps_foldl (fun u x hu => ?_) ?_))
    | (with_reducible (refine keeps_foldl_fst (fun u x hu => ?_) ?_))
    | (with_reducible (refine keeps_foldl_snd (fun u x hu => ?_) ?_))
    | split
    | fail_if_no_progress (with_reducible (apply keeps_lit))
    | fail_if_no_progress (with_reducible (apply keeps_sys))

theorem keeps_autoPre {z s : State} (ap : Bool) (i : Nat) (hz : Keeps z s) :
    Keeps z (s.autoPre ap i) := by
  unfold State.autoPre
  (try dsimp only)
  repeat' first
    | (with_reducible assumption)
    | (with_reducible (apply keeps_closeRow))
    | (with_reducible (refine keeps_foldl (fun u x hu => ?_) ?_))
    | (with_reducible (refine keeps_foldl_fst (fun u x hu => ?_) ?_))
    | (with_reducible (refine keeps_foldl_snd (fun u x hu => ?_) ?_))
    | split
    | fail_if_no_progress (with_reducible (apply keeps_lit))
    | fail_if_no_progress (with_reducible (apply keeps_sys))

theorem keeps_writeTaps {z s : State} (ma : Nat) (v : LineData × CheckBytes) (full : TapFull) (hz : Keeps z s) :
    Keeps z (s.writeTaps ma v full) := by
  unfold State.writeTaps
  (try dsimp only)
  repeat' first
    | (with_reducible assumption)
    | (with_reducible (apply keeps_gleanTap))
    | (with_reducible (apply keeps_dirtyTap))
    | (with_reducible (apply keeps_packetTap))
    | (with_reducible (refine keeps_foldl (fun u x hu => ?_) ?_))
    | (with_reducible (refine keeps_foldl_fst (fun u x hu => ?_) ?_))
    | (with_reducible (refine keeps_foldl_snd (fun u x hu => ?_) ?_))
    | split
    | fail_if_no_progress (with_reducible (apply keeps_lit))
    | fail_if_no_progress (with_reducible (apply keeps_sys))

theorem keeps_oddLength {z s : State} (c : CaCmd) (hz : Keeps z s) :
    Keeps z (s.oddLength c) := by
  unfold State.oddLength
  (try dsimp only)
  repeat' first
    | (with_reducible assumption)
    | (with_reducible (apply keeps_setAllDirty))
    | (with_reducible (apply keeps_note))
    | (with_reducible (refine keeps_foldl (fun u x hu => ?_) ?_))
    | (with_reducible (refine keeps_foldl_fst (fun u x hu => ?_) ?_))
    | (with_reducible (refine keeps_foldl_snd (fun u x hu => ?_) ?_))
    | split
    | fail_if_no_progress (with_reducible (apply keeps_lit))
    | fail_if_no_progress (with_reducible (apply keeps_sys))

theorem keeps_rankExit {z s : State} (c : CaCmd) (hz : Keeps z s) :
    Keeps z (s.rankExit c) := by
  unfold State.rankExit
  (try dsimp only)
  repeat' first
    | (with_reducible assumption)
    | (with_reducible (refine keeps_foldl (fun u x hu => ?_) ?_))
    | (with_reducible (refine keeps_foldl_fst (fun u x hu => ?_) ?_))
    | (with_reducible (refine keeps_foldl_snd (fun u x hu => ?_) ?_))
    | split
    | fail_if_no_progress (with_reducible (apply keeps_lit))
    | fail_if_no_progress (with_reducible (apply keeps_sys))

theorem keeps_harvestHandback {z s : State} (ns : Nat) (hz : Keeps z s) :
    Keeps z (s.harvestHandback ns) := by
  unfold State.harvestHandback
  (try dsimp only)
  repeat' first
    | (with_reducible assumption)
    | (with_reducible (apply keeps_lullExit))
    | (with_reducible (apply keeps_loopAbort))
    | (with_reducible (apply keeps_handbackEnd))
    | (with_reducible (apply keeps_harvestStop))
    | (with_reducible (apply keeps_report))
    | (with_reducible (apply keeps_bump))
    | (with_reducible (apply keeps_setFlag))
    | (with_reducible (refine keeps_foldl (fun u x hu => ?_) ?_))
    | (with_reducible (refine keeps_foldl_fst (fun u x hu => ?_) ?_))
    | (with_reducible (refine keeps_foldl_snd (fun u x hu => ?_) ?_))
    | split
    | fail_if_no_progress (with_reducible (apply keeps_lit))
    | fail_if_no_progress (with_reducible (apply keeps_sys))

theorem keeps_hbpReset {z s : State}  (hz : Keeps z s) :
    Keeps z (s.hbpReset ) := by
  unfold State.hbpReset
  (try dsimp only)
  repeat' first
    | (with_reducible assumption)
    | (with_reducible (apply keeps_clearBlocks))
    | (with_reducible (apply keeps_trainLeave))
    | (with_reducible (apply keeps_setWord))
    | (with_reducible (refine keeps_foldl (fun u x hu => ?_) ?_))
    | (with_reducible (refine keeps_foldl_fst (fun u x hu => ?_) ?_))
    | (with_reducible (refine keeps_foldl_snd (fun u x hu => ?_) ?_))
    | split
    | fail_if_no_progress (with_reducible (apply keeps_lit))
    | fail_if_no_progress (with_reducible (apply keeps_sys))

theorem keeps_dramReset {z s : State}  (hz : Keeps z s) :
    Keeps z (s.dramReset ) := by
  unfold State.dramReset
  (try dsimp only)
  repeat' first
    | (with_reducible assumption)
    | (with_reducible (refine keeps_foldl (fun u x hu => ?_) ?_))
    | (with_reducible (refine keeps_foldl_fst (fun u x hu => ?_) ?_))
    | (with_reducible (refine keeps_foldl_snd (fun u x hu => ?_) ?_))
    | split
    | fail_if_no_progress (with_reducible (apply keeps_lit))
    | fail_if_no_progress (with_reducible (apply keeps_sys))

theorem keeps_resetHandback {z s : State}  (hz : Keeps z s) :
    Keeps z (s.resetHandback ) := by
  unfold State.resetHandback
  (try dsimp only)
  repeat' first
    | (with_reducible assumption)
    | (with_reducible (apply keeps_loopHome))
    | (with_reducible (apply keeps_restoreStop))
    | (with_reducible (apply keeps_harvestStop))
    | (with_reducible (apply keeps_giveDram))
    | (with_reducible (apply keeps_setFlag))
    | (with_reducible (refine keeps_foldl (fun u x hu => ?_) ?_))
    | (with_reducible (refine keeps_foldl_fst (fun u x hu => ?_) ?_))
    | (with_reducible (refine keeps_foldl_snd (fun u x hu => ?_) ?_))
    | split
    | fail_if_no_progress (with_reducible (apply keeps_lit))
    | fail_if_no_progress (with_reducible (apply keeps_sys))

theorem keeps_resetSaves {z s : State}  (hz : Keeps z s) :
    Keeps z (s.resetSaves ) := by
  unfold State.resetSaves
  (try dsimp only)
  repeat' first
    | (with_reducible assumption)
    | (with_reducible (apply keeps_saveNowRun))
    | (with_reducible (refine keeps_foldl (fun u x hu => ?_) ?_))
    | (with_reducible (refine keeps_foldl_fst (fun u x hu => ?_) ?_))
    | (with_reducible (refine keeps_foldl_snd (fun u x hu => ?_) ?_))
    | split
    | fail_if_no_progress (with_reducible (apply keeps_lit))
    | fail_if_no_progress (with_reducible (apply keeps_sys))

theorem keeps_resetStaging {z s : State}  (hz : Keeps z s) :
    Keeps z (s.resetStaging ) := by
  unfold State.resetStaging
  (try dsimp only)
  repeat' first
    | (with_reducible assumption)
    | (with_reducible (refine keeps_foldl (fun u x hu => ?_) ?_))
    | (with_reducible (refine keeps_foldl_fst (fun u x hu => ?_) ?_))
    | (with_reducible (refine keeps_foldl_snd (fun u x hu => ?_) ?_))
    | split
    | fail_if_no_progress (with_reducible (apply keeps_lit))
    | fail_if_no_progress (with_reducible (apply keeps_sys))

theorem keeps_laneJudge {z s : State} (k n : Nat) (hz : Keeps z s) :
    Keeps z (s.laneJudge k n) := by
  unfold State.laneJudge
  (try dsimp only)
  repeat' first
    | (with_reducible assumption)
    | (with_reducible (apply keeps_report))
    | (with_reducible (apply keeps_setBit))
    | (with_reducible (refine keeps_foldl (fun u x hu => ?_) ?_))
    | (with_reducible (refine keeps_foldl_fst (fun u x hu => ?_) ?_))
    | (with_reducible (refine keeps_foldl_snd (fun u x hu => ?_) ?_))
    | split
    | fail_if_no_progress (with_reducible (apply keeps_lit))
    | fail_if_no_progress (with_reducible (apply keeps_sys))

theorem keeps_execHbpCtlWrite {z s : State} (v : Word) (hz : Keeps z s) :
    KeepsO z (execHbpCtlWrite v s) := by
  unfold execHbpCtlWrite
  (try dsimp only)
  repeat' first
    | (with_reducible assumption)
    | (with_reducible (apply keeps_storeReg))
    | (with_reducible (apply keepsO_next))
    | (with_reducible (refine keeps_foldl (fun u x hu => ?_) ?_))
    | (with_reducible (refine keeps_foldl_fst (fun u x hu => ?_) ?_))
    | (with_reducible (refine keeps_foldl_snd (fun u x hu => ?_) ?_))
    | split
    | fail_if_no_progress (with_reducible (apply keeps_lit))
    | fail_if_no_progress (with_reducible (apply keeps_sys))

theorem keeps_execParErrClear {z s : State} (sub : Sub) (hz : Keeps z s) :
    KeepsO z (execParErrClear sub s) := by
  unfold execParErrClear
  (try dsimp only)
  repeat' first
    | (with_reducible assumption)
    | (with_reducible (apply keeps_setParErr))
    | (with_reducible (apply keeps_setBlock))
    | (with_reducible (apply keepsO_next))
    | (with_reducible (refine keeps_foldl (fun u x hu => ?_) ?_))
    | (with_reducible (refine keeps_foldl_fst (fun u x hu => ?_) ?_))
    | (with_reducible (refine keeps_foldl_snd (fun u x hu => ?_) ?_))
    | split
    | fail_if_no_progress (with_reducible (apply keeps_lit))
    | fail_if_no_progress (with_reducible (apply keeps_sys))

theorem keeps_trainCw {z s : State} (m : TrainMode) (index : Nat) (c : CaCmd) (v : Byte) (hz : Keeps z s) :
    KeepsO z (s.trainCw m index c v) := by
  unfold State.trainCw
  (try dsimp only)
  repeat' first
    | (with_reducible assumption)
    | (with_reducible (apply keeps_hostGate))
    | (with_reducible (refine keeps_hostGate_pair (by assumption) ?_))
    | (with_reducible (apply keeps_trainEnter))
    | (with_reducible (apply keeps_judgeHost))
    | (with_reducible (apply keeps_trainLeave))
    | (with_reducible (apply keeps_emit))
    | (with_reducible (apply keepsO_next))
    | (with_reducible (refine keeps_foldl (fun u x hu => ?_) ?_))
    | (with_reducible (refine keeps_foldl_fst (fun u x hu => ?_) ?_))
    | (with_reducible (refine keeps_foldl_snd (fun u x hu => ?_) ?_))
    | split
    | fail_if_no_progress (with_reducible (apply keeps_lit))
    | fail_if_no_progress (with_reducible (apply keeps_sys))

theorem keeps_anchorRails {z s : State}  (hz : Keeps z s) :
    Keeps z (s.anchorRails ) := by
  unfold State.anchorRails
  (try dsimp only)
  repeat' first
    | (with_reducible assumption)
    | (with_reducible (apply keeps_dropRail))
    | (with_reducible (refine keeps_foldl (fun u x hu => ?_) ?_))
    | (with_reducible (refine keeps_foldl_fst (fun u x hu => ?_) ?_))
    | (with_reducible (refine keeps_foldl_snd (fun u x hu => ?_) ?_))
    | split
    | fail_if_no_progress (with_reducible (apply keeps_lit))
    | fail_if_no_progress (with_reducible (apply keeps_sys))

theorem keeps_findDies {z s : State} (e : DecideEnv) (hz : Keeps z s) :
    Keeps z (s.findDies e) := by
  unfold State.findDies
  (try dsimp only)
  repeat' first
    | (with_reducible assumption)
    | (with_reducible (apply keeps_report))
    | (with_reducible (apply keeps_setFlag))
    | (with_reducible (refine keeps_foldl (fun u x hu => ?_) ?_))
    | (with_reducible (refine keeps_foldl_fst (fun u x hu => ?_) ?_))
    | (with_reducible (refine keeps_foldl_snd (fun u x hu => ?_) ?_))
    | split
    | fail_if_no_progress (with_reducible (apply keeps_lit))
    | fail_if_no_progress (with_reducible (apply keeps_sys))

theorem keeps_replayLedger {z s : State} (e : DecideEnv) (hz : Keeps z s) :
    Keeps z (s.replayLedger e) := by
  unfold State.replayLedger
  (try dsimp only)
  repeat' first
    | (with_reducible assumption)
    | (with_reducible (apply keeps_spareCheck))
    | (with_reducible (apply keeps_setRole))
    | (with_reducible (apply keeps_ledger))
    | (with_reducible (apply keeps_logPlace))
    | (with_reducible (apply keeps_bump))
    | (with_reducible (apply keeps_setFlag))
    | (with_reducible (apply keeps_setFld))
    | (with_reducible (refine keeps_foldl (fun u x hu => ?_) ?_))
    | (with_reducible (refine keeps_foldl_fst (fun u x hu => ?_) ?_))
    | (with_reducible (refine keeps_foldl_snd (fun u x hu => ?_) ?_))
    | split
    | fail_if_no_progress (with_reducible (apply keeps_lit))
    | fail_if_no_progress (with_reducible (apply keeps_sys))

theorem keeps_numberRecord {z s : State} (new : Bool) (r : LogRec) (hz : Keeps z s) :
    Keeps z (s.numberRecord new r) := by
  unfold State.numberRecord
  (try dsimp only)
  repeat' first
    | (with_reducible assumption)
    | (with_reducible (apply keeps_ledgerLater))
    | (with_reducible (apply keeps_rawSeq_snd))
    | (with_reducible (refine keeps_rawSeq (by assumption) ?_))
    | (with_reducible (apply keeps_logArrive))
    | (with_reducible (apply keeps_incidentSeq))
    | (with_reducible (apply keeps_logPlace))
    | (with_reducible (apply keeps_bump))
    | (with_reducible (refine keeps_foldl (fun u x hu => ?_) ?_))
    | (with_reducible (refine keeps_foldl_fst (fun u x hu => ?_) ?_))
    | (with_reducible (refine keeps_foldl_snd (fun u x hu => ?_) ?_))
    | split
    | fail_if_no_progress (with_reducible (apply keeps_lit))
    | fail_if_no_progress (with_reducible (apply keeps_sys))

theorem keeps_fixBase {z s : State} (held : List LogRec) (hz : Keeps z s) :
    Keeps z (s.fixBase held) := by
  unfold State.fixBase
  (try dsimp only)
  repeat' first
    | (with_reducible assumption)
    | (with_reducible (apply keeps_numberRecord))
    | (with_reducible (apply keeps_numberLedger))
    | (with_reducible (apply keeps_ledger))
    | (with_reducible (apply keeps_note))
    | (with_reducible (apply keeps_setFlag))
    | (with_reducible (refine keeps_foldl (fun u x hu => ?_) ?_))
    | (with_reducible (refine keeps_foldl_fst (fun u x hu => ?_) ?_))
    | (with_reducible (refine keeps_foldl_snd (fun u x hu => ?_) ?_))
    | split
    | fail_if_no_progress (with_reducible (apply keeps_lit))
    | fail_if_no_progress (with_reducible (apply keeps_sys))

theorem keeps_trainFlash {z s : State} (e : DecideEnv) (hz : Keeps z s) :
    Keeps z (s.trainFlash e) := by
  unfold State.trainFlash
  (try dsimp only)
  repeat' first
    | (with_reducible assumption)
    | (with_reducible (apply keeps_fenceChannel))
    | (with_reducible (apply keeps_trainFail))
    | (with_reducible (apply keeps_report))
    | (with_reducible (apply keeps_setFlag))
    | (with_reducible (apply keeps_setWord))
    | (with_reducible (refine keeps_foldl (fun u x hu => ?_) ?_))
    | (with_reducible (refine keeps_foldl_fst (fun u x hu => ?_) ?_))
    | (with_reducible (refine keeps_foldl_snd (fun u x hu => ?_) ?_))
    | split
    | fail_if_no_progress (with_reducible (apply keeps_lit))
    | fail_if_no_progress (with_reducible (apply keeps_sys))

theorem keeps_loadTraining {z s : State}  (hz : Keeps z s) :
    Keeps z (s.loadTraining ) := by
  unfold State.loadTraining
  (try dsimp only)
  repeat' first
    | (with_reducible assumption)
    | (with_reducible (apply keeps_setFld))
    | (with_reducible (refine keeps_foldl (fun u x hu => ?_) ?_))
    | (with_reducible (refine keeps_foldl_fst (fun u x hu => ?_) ?_))
    | (with_reducible (refine keeps_foldl_snd (fun u x hu => ?_) ?_))
    | split
    | fail_if_no_progress (with_reducible (apply keeps_lit))
    | fail_if_no_progress (with_reducible (apply keeps_sys))

theorem keeps_selectImage {z s : State} (e : DecideEnv) (l : List Image) (h : Keeps z s) : Keeps z (s.selectImage e l).1 := by
  induction l generalizing s with
  | nil => exact h
  | cons i is ih =>
    unfold State.selectImage
    split
    · exact h
    · exact ih (keeps_bump _ _ (keeps_note _ _ _ h))

theorem keeps_selectImage_pair {z s t : State} {e : DecideEnv} {l : List Image} {o : Option Image} (he : s.selectImage e l = (t, o))
    (h : Keeps z s) : Keeps z t := by
  have := keeps_selectImage e l h; rw [he] at this; exact this

theorem keeps_restoreDecision {z s : State} (e : DecideEnv) (hz : Keeps z s) :
    Keeps z (s.restoreDecision e) := by
  unfold State.restoreDecision
  (try dsimp only)
  repeat' first
    | (with_reducible assumption)
    | (with_reducible (apply keeps_selectImage))
    | (with_reducible (refine keeps_selectImage_pair (by assumption) ?_))
    | (with_reducible (apply keeps_showImage))
    | (with_reducible (apply keeps_setFlag))
    | (with_reducible (apply keeps_setFld))
    | (with_reducible (refine keeps_foldl (fun u x hu => ?_) ?_))
    | (with_reducible (refine keeps_foldl_fst (fun u x hu => ?_) ?_))
    | (with_reducible (refine keeps_foldl_snd (fun u x hu => ?_) ?_))
    | split
    | fail_if_no_progress (with_reducible (apply keeps_lit))
    | fail_if_no_progress (with_reducible (apply keeps_sys))

theorem keeps_decidePhase {z s : State} (e : DecideEnv) (hz : Keeps z s) :
    Keeps z (s.decidePhase e) := by
  unfold State.decidePhase
  (try dsimp only)
  repeat' first
    | (with_reducible assumption)
    | (with_reducible (apply keeps_restoreDecision))
    | (with_reducible (apply keeps_loadTraining))
    | (with_reducible (apply keeps_trainFlash))
    | (with_reducible (apply keeps_fixBase))
    | (with_reducible (apply keeps_replayLedger))
    | (with_reducible (apply keeps_findDies))
    | (with_reducible (apply keeps_showGens))
    | (with_reducible (apply keeps_admitActive))
    | (with_reducible (apply keeps_showHead))
    | (with_reducible (apply keeps_logSwitch))
    | (with_reducible (apply keeps_reserveFlag))
    | (with_reducible (apply keeps_freeStooks))
    | (with_reducible (apply keeps_swathCheck))
    | (with_reducible (apply keeps_setFlag))
    | (with_reducible (refine keeps_foldl (fun u x hu => ?_) ?_))
    | (with_reducible (refine keeps_foldl_fst (fun u x hu => ?_) ?_))
    | (with_reducible (refine keeps_foldl_snd (fun u x hu => ?_) ?_))
    | split
    | fail_if_no_progress (with_reducible (apply keeps_lit))
    | fail_if_no_progress (with_reducible (apply keeps_sys))

theorem keeps_trainPhase {z s : State}  (hz : Keeps z s) :
    Keeps z (s.trainPhase ) := by
  unfold State.trainPhase
  (try dsimp only)
  repeat' first
    | (with_reducible assumption)
    | (with_reducible (apply keeps_trainOrWait))
    | (with_reducible (apply keeps_lockD))
    | (with_reducible (apply keeps_lockH))
    | (with_reducible (apply keeps_setPhase))
    | (with_reducible (refine keeps_foldl (fun u x hu => ?_) ?_))
    | (with_reducible (refine keeps_foldl_fst (fun u x hu => ?_) ?_))
    | (with_reducible (refine keeps_foldl_snd (fun u x hu => ?_) ?_))
    | split
    | fail_if_no_progress (with_reducible (apply keeps_lit))
    | fail_if_no_progress (with_reducible (apply keeps_sys))

theorem keeps_grantKite {z s : State} (c : CoreId) (hz : Keeps z s) :
    Keeps z (s.grantKite c) := by
  unfold State.grantKite
  (try dsimp only)
  repeat' first
    | (with_reducible assumption)
    | (with_reducible (apply keeps_bump))
    | (with_reducible (apply keeps_setFlag))
    | (with_reducible (apply keeps_setFld))
    | (with_reducible (refine keeps_foldl (fun u x hu => ?_) ?_))
    | (with_reducible (refine keeps_foldl_fst (fun u x hu => ?_) ?_))
    | (with_reducible (refine keeps_foldl_snd (fun u x hu => ?_) ?_))
    | split
    | fail_if_no_progress (with_reducible (apply keeps_lit))
    | fail_if_no_progress (with_reducible (apply keeps_sys))

theorem keeps_loadMaps {z s : State} (i : Image) (hz : Keeps z s) :
    Keeps z (s.loadMaps i) := by
  unfold State.loadMaps
  (try dsimp only)
  repeat' first
    | (with_reducible assumption)
    | (with_reducible (refine keeps_foldl (fun u x hu => ?_) ?_))
    | (with_reducible (refine keeps_foldl_fst (fun u x hu => ?_) ?_))
    | (with_reducible (refine keeps_foldl_snd (fun u x hu => ?_) ?_))
    | split
    | fail_if_no_progress (with_reducible (apply keeps_lit))
    | fail_if_no_progress (with_reducible (apply keeps_sys))

theorem keeps_restoreTake {z s : State}  (hz : Keeps z s) :
    Keeps z (s.restoreTake ) := by
  unfold State.restoreTake
  (try dsimp only)
  repeat' first
    | (with_reducible assumption)
    | (with_reducible (apply keeps_leaveSelfRef))
    | (with_reducible (apply keeps_takeDram))
    | (with_reducible (refine keeps_foldl (fun u x hu => ?_) ?_))
    | (with_reducible (refine keeps_foldl_fst (fun u x hu => ?_) ?_))
    | (with_reducible (refine keeps_foldl_snd (fun u x hu => ?_) ?_))
    | split
    | fail_if_no_progress (with_reducible (apply keeps_lit))
    | fail_if_no_progress (with_reducible (apply keeps_sys))

theorem keeps_restoreStart {z s : State} (i : Image) (hz : Keeps z s) :
    Keeps z (s.restoreStart i) := by
  unfold State.restoreStart
  (try dsimp only)
  repeat' first
    | (with_reducible assumption)
    | (with_reducible (apply keeps_restoreTake))
    | (with_reducible (apply keeps_loadMaps))
    | (with_reducible (apply keeps_setPhase))
    | (with_reducible (apply keeps_setFlag))
    | (with_reducible (apply keeps_setFld))
    | (with_reducible (refine keeps_foldl (fun u x hu => ?_) ?_))
    | (with_reducible (refine keeps_foldl_fst (fun u x hu => ?_) ?_))
    | (with_reducible (refine keeps_foldl_snd (fun u x hu => ?_) ?_))
    | split
    | fail_if_no_progress (with_reducible (apply keeps_lit))
    | fail_if_no_progress (with_reducible (apply keeps_sys))

theorem keeps_noRestore {z s : State}  (hz : Keeps z s) :
    Keeps z (s.noRestore ) := by
  unfold State.noRestore
  (try dsimp only)
  repeat' first
    | (with_reducible assumption)
    | (with_reducible (apply keeps_abandonSeals))
    | (with_reducible (apply keeps_setAllDirty))
    | (with_reducible (refine keeps_foldl (fun u x hu => ?_) ?_))
    | (with_reducible (refine keeps_foldl_fst (fun u x hu => ?_) ?_))
    | (with_reducible (refine keeps_foldl_snd (fun u x hu => ?_) ?_))
    | split
    | fail_if_no_progress (with_reducible (apply keeps_lit))
    | fail_if_no_progress (with_reducible (apply keeps_sys))

theorem keeps_attachHandover {z s : State}  (hz : Keeps z s) :
    Keeps z (s.attachHandover ) := by
  unfold State.attachHandover
  (try dsimp only)
  repeat' first
    | (with_reducible assumption)
    | (with_reducible (apply keeps_noRestore))
    | (with_reducible (apply keeps_restoreStart))
    | (with_reducible (apply keeps_enterService))
    | (with_reducible (apply keeps_trainAbandon))
    | (with_reducible (apply keeps_trainLeave))
    | (with_reducible (apply keeps_learnStop))
    | (with_reducible (apply keeps_bump))
    | (with_reducible (apply keeps_setFlag))
    | (with_reducible (apply keeps_setFld))
    | (with_reducible (refine keeps_foldl (fun u x hu => ?_) ?_))
    | (with_reducible (refine keeps_foldl_fst (fun u x hu => ?_) ?_))
    | (with_reducible (refine keeps_foldl_snd (fun u x hu => ?_) ?_))
    | split
    | fail_if_no_progress (with_reducible (apply keeps_lit))
    | fail_if_no_progress (with_reducible (apply keeps_sys))

theorem keeps_handover {z s : State}  (hz : Keeps z s) :
    Keeps z (s.handover ) := by
  unfold State.handover
  (try dsimp only)
  repeat' first
    | (with_reducible assumption)
    | (with_reducible (apply keeps_attachHandover))
    | (with_reducible (apply keeps_reboundDone))
    | (with_reducible (apply keeps_setFlag))
    | (with_reducible (refine keeps_foldl (fun u x hu => ?_) ?_))
    | (with_reducible (refine keeps_foldl_fst (fun u x hu => ?_) ?_))
    | (with_reducible (refine keeps_foldl_snd (fun u x hu => ?_) ?_))
    | split
    | fail_if_no_progress (with_reducible (apply keeps_lit))
    | fail_if_no_progress (with_reducible (apply keeps_sys))

theorem keeps_execHandover {z s : State}  (hz : Keeps z s) :
    KeepsO z (execHandover s) := by
  unfold execHandover
  (try dsimp only)
  repeat' first
    | (with_reducible assumption)
    | (with_reducible (apply keeps_handover))
    | (with_reducible (apply keepsO_next))
    | (with_reducible (refine keeps_foldl (fun u x hu => ?_) ?_))
    | (with_reducible (refine keeps_foldl_fst (fun u x hu => ?_) ?_))
    | (with_reducible (refine keeps_foldl_snd (fun u x hu => ?_) ?_))
    | split
    | fail_if_no_progress (with_reducible (apply keeps_lit))
    | fail_if_no_progress (with_reducible (apply keeps_sys))

theorem keeps_restoreSheaves {z s : State} (bad : List (Word × BitVec 17)) (kind : Nat) (m : SMap MapEntry) (hz : Keeps z s) :
    Keeps z (s.restoreSheaves bad kind m) := by
  unfold State.restoreSheaves
  (try dsimp only)
  repeat' first
    | (with_reducible assumption)
    | (with_reducible (apply keeps_emit))
    | (with_reducible (apply keeps_bump))
    | (with_reducible (refine keeps_foldl (fun u x hu => ?_) ?_))
    | (with_reducible (refine keeps_foldl_fst (fun u x hu => ?_) ?_))
    | (with_reducible (refine keeps_foldl_snd (fun u x hu => ?_) ?_))
    | split
    | fail_if_no_progress (with_reducible (apply keeps_lit))
    | fail_if_no_progress (with_reducible (apply keeps_sys))

theorem keeps_lodgeBad {z s : State} (bad : List (Word × BitVec 17)) (hz : Keeps z s) :
    Keeps z (s.lodgeBad bad) := by
  unfold State.lodgeBad
  (try dsimp only)
  repeat' first
    | (with_reducible assumption)
    | (with_reducible (apply keeps_lodge))
    | (with_reducible (refine keeps_foldl (fun u x hu => ?_) ?_))
    | (with_reducible (refine keeps_foldl_fst (fun u x hu => ?_) ?_))
    | (with_reducible (refine keeps_foldl_snd (fun u x hu => ?_) ?_))
    | split
    | fail_if_no_progress (with_reducible (apply keeps_lit))
    | fail_if_no_progress (with_reducible (apply keeps_sys))

theorem keeps_discontinuityEnd {z s : State}  (hz : Keeps z s) :
    Keeps z (s.discontinuityEnd ) := by
  unfold State.discontinuityEnd
  (try dsimp only)
  repeat' first
    | (with_reducible assumption)
    | (with_reducible (apply keeps_lullExit))
    | (with_reducible (apply keeps_leaveSelfRef))
    | (with_reducible (apply keeps_giveDram))
    | (with_reducible (apply keeps_applyCaLat))
    | (with_reducible (apply keeps_setFlag))
    | (with_reducible (refine keeps_foldl (fun u x hu => ?_) ?_))
    | (with_reducible (refine keeps_foldl_fst (fun u x hu => ?_) ?_))
    | (with_reducible (refine keeps_foldl_snd (fun u x hu => ?_) ?_))
    | split
    | fail_if_no_progress (with_reducible (apply keeps_lit))
    | fail_if_no_progress (with_reducible (apply keeps_sys))

theorem keeps_execDiscEnd {z s : State}  (hz : Keeps z s) :
    KeepsO z (execDiscEnd s) := by
  unfold execDiscEnd
  (try dsimp only)
  repeat' first
    | (with_reducible assumption)
    | (with_reducible (apply keeps_discontinuityEnd))
    | (with_reducible (apply keepsO_next))
    | (with_reducible (refine keeps_foldl (fun u x hu => ?_) ?_))
    | (with_reducible (refine keeps_foldl_fst (fun u x hu => ?_) ?_))
    | (with_reducible (refine keeps_foldl_snd (fun u x hu => ?_) ?_))
    | split
    | fail_if_no_progress (with_reducible (apply keeps_lit))
    | fail_if_no_progress (with_reducible (apply keeps_sys))

theorem keeps_hostClockLost {z s : State}  (hz : Keeps z s) :
    Keeps z (s.hostClockLost ) := by
  unfold State.hostClockLost
  (try dsimp only)
  repeat' first
    | (with_reducible assumption)
    | (with_reducible (apply keeps_trigger))
    | (with_reducible (apply keeps_discontinuityEntry))
    | (with_reducible (apply keeps_report))
    | (with_reducible (apply keeps_setFlag))
    | (with_reducible (refine keeps_foldl (fun u x hu => ?_) ?_))
    | (with_reducible (refine keeps_foldl_fst (fun u x hu => ?_) ?_))
    | (with_reducible (refine keeps_foldl_snd (fun u x hu => ?_) ?_))
    | split
    | fail_if_no_progress (with_reducible (apply keeps_lit))
    | fail_if_no_progress (with_reducible (apply keeps_sys))

theorem keeps_threshPlace {z s : State} {x : Sheaf} {r : Nat × Sheaf × State} (e : s.threshPlace x = some r) (h : Keeps z s) : Keeps z r.2.2 := by
  unfold State.threshPlace at e
  dsimp only at e
  split at e
  · split at e
    · cases e
    · simp only [Option.map_eq_some_iff] at e
      obtain ⟨y, hy, rfl⟩ := e
      exact keeps_same (s := y.2.2.2) rfl rfl rfl rfl rfl (keeps_allocNarrow hy h)
  · simp only [Option.map_eq_some_iff] at e
    obtain ⟨y, hy, rfl⟩ := e
    exact keeps_allocThresh hy h

theorem keeps_threshNote {z s : State} (i : Image) (a b : Nat) (hz : Keeps z s) :
    Keeps z (s.threshNote i a b) := by
  unfold State.threshNote
  (try dsimp only)
  repeat' first
    | (with_reducible assumption)
    | (with_reducible (apply keeps_setFld))
    | (with_reducible (refine keeps_foldl (fun u x hu => ?_) ?_))
    | (with_reducible (refine keeps_foldl_fst (fun u x hu => ?_) ?_))
    | (with_reducible (refine keeps_foldl_snd (fun u x hu => ?_) ?_))
    | split
    | fail_if_no_progress (with_reducible (apply keeps_lit))
    | fail_if_no_progress (with_reducible (apply keeps_sys))

theorem keeps_threshCopy {z s : State} {i : Image} {a : Nat} {t : State} (e : s.threshCopy i a = some t) (h : Keeps z s) : Keeps z t := by
  unfold State.threshCopy at e
  split at e
  · cases e; exact keeps_threshNote _ _ _ h
  · split at e
    · cases e; exact keeps_threshNote _ _ _ h
    · simp only [Option.map_eq_some_iff] at e
      obtain ⟨y, hy, rfl⟩ := e
      exact keeps_threshNote _ _ _ (keeps_putSheaf _ _ (keeps_threshPlace hy h))

theorem keeps_threshStep {z s : State} (h : Keeps z s) : Keeps z s.threshStep := by
  unfold State.threshStep
  split
  · exact h
  · split
    · exact h
    · rename_i a _
      cases e : s.threshCopy _ a with
      | none => exact h
      | some t => exact keeps_threshCopy e h

theorem keeps_threshRest {z s : State} (n : Nat) (h : Keeps z s) : Keeps z (s.threshRest n) := by
  induction n generalizing s with
  | zero => exact h
  | succ n ih => exact ih (keeps_threshStep h)

theorem keeps_threshIndex {z s : State} {i : Image} {gen : Nat} {es acc ks : List Nat} {x : List Nat × State}
    (e : s.threshIndex i gen es acc ks = some x) (h : Keeps z s) : Keeps z x.2 := by
  induction ks generalizing s acc x with
  | nil => unfold State.threshIndex at e; cases e; exact h
  | cons k ks ih =>
    unfold State.threshIndex at e
    simp only [Option.bind_eq_some_iff, Option.map_eq_some_iff] at e
    obtain ⟨y, hy, w, hw, rfl⟩ := e
    exact ih (x := w) hw (keeps_putSheaf _ _ (keeps_threshPlace hy h))

theorem keeps_threshIndex_pair {z s t : State} {i : Image} {gen : Nat} {es acc ks l : List Nat}
    (e : s.threshIndex i gen es acc ks = some (l, t)) (h : Keeps z s) : Keeps z t := keeps_threshIndex e h

theorem keeps_threshAnchored {z s : State} (m : SMap Nat) (j : Image) (h : Keeps z s) : Keeps z (s.threshAnchored m j) := by
  unfold State.threshAnchored
  have ha := keeps_anchorFirst j h
  generalize s.anchorFirst j = u at ha ⊢
  refine keeps_refill (keeps_channelsReturn (keeps_setFlag _ _ (keeps_showImage _ (keeps_setFld _ _ (keeps_setFld _ _ (keeps_setFlag _ _ ?_))))))
  exact keeps_same (s := u) rfl rfl rfl rfl rfl ha

end Sys2Proof.Laws
end

