-- ==== Sys2Proof/Laws/KeepsPaths.lean ====
section
/-! SUPPORT. What every operation keeps (Keeps, of KeepsCore), for faults, the pace monitor, register paths, the recorder, the opcodes and the tick. -/

set_option linter.all false

namespace Sys2Proof.Laws

open Sys2Proof.Machine Reg

theorem keeps_putIncident {z s : State} (k : Nat) (i : Incident) (hz : Keeps z s) :
    Keeps z (s.putIncident k i) := by
  unfold State.putIncident
  (try dsimp only)
  repeat' first
    | (with_reducible assumption)
    | (with_reducible (refine keeps_foldl (fun u x hu => ?_) ?_))
    | (with_reducible (refine keeps_foldl_fst (fun u x hu => ?_) ?_))
    | (with_reducible (refine keeps_foldl_snd (fun u x hu => ?_) ?_))
    | split
    | fail_if_no_progress (with_reducible (apply keeps_lit))
    | fail_if_no_progress (with_reducible (apply keeps_sys))

theorem keeps_incidentRecord {z s : State} (code : Nat) (i : Incident) (st : Nat) (hz : Keeps z s) :
    Keeps z (s.incidentRecord code i st) := by
  unfold State.incidentRecord
  (try dsimp only)
  repeat' first
    | (with_reducible assumption)
    | (with_reducible (apply keeps_emitTagged))
    | (with_reducible (refine keeps_foldl (fun u x hu => ?_) ?_))
    | (with_reducible (refine keeps_foldl_fst (fun u x hu => ?_) ?_))
    | (with_reducible (refine keeps_foldl_snd (fun u x hu => ?_) ?_))
    | split
    | fail_if_no_progress (with_reducible (apply keeps_lit))
    | fail_if_no_progress (with_reducible (apply keeps_sys))

theorem keeps_pulse {z s : State}  (hz : Keeps z s) :
    Keeps z (s.pulse ) := by
  unfold State.pulse
  (try dsimp only)
  repeat' first
    | (with_reducible assumption)
    | (with_reducible (apply keeps_setFlag))
    | (with_reducible (refine keeps_foldl (fun u x hu => ?_) ?_))
    | (with_reducible (refine keeps_foldl_fst (fun u x hu => ?_) ?_))
    | (with_reducible (refine keeps_foldl_snd (fun u x hu => ?_) ?_))
    | split
    | fail_if_no_progress (with_reducible (apply keeps_lit))
    | fail_if_no_progress (with_reducible (apply keeps_sys))

theorem keeps_pinCause {z s : State} (sev : Sev) (hz : Keeps z s) :
    Keeps z (s.pinCause sev) := by
  unfold State.pinCause
  (try dsimp only)
  repeat' first
    | (with_reducible assumption)
    | (with_reducible (apply keeps_pulse))
    | (with_reducible (refine keeps_foldl (fun u x hu => ?_) ?_))
    | (with_reducible (refine keeps_foldl_fst (fun u x hu => ?_) ?_))
    | (with_reducible (refine keeps_foldl_snd (fun u x hu => ?_) ?_))
    | split
    | fail_if_no_progress (with_reducible (apply keeps_lit))
    | fail_if_no_progress (with_reducible (apply keeps_sys))

theorem keeps_holderLost {z s : State}  (hz : Keeps z s) :
    Keeps z (s.holderLost ) := by
  unfold State.holderLost
  (try dsimp only)
  repeat' first
    | (with_reducible assumption)
    | (with_reducible (apply keeps_setFlag))
    | (with_reducible (refine keeps_foldl (fun u x hu => ?_) ?_))
    | (with_reducible (refine keeps_foldl_fst (fun u x hu => ?_) ?_))
    | (with_reducible (refine keeps_foldl_snd (fun u x hu => ?_) ?_))
    | split
    | fail_if_no_progress (with_reducible (apply keeps_lit))
    | fail_if_no_progress (with_reducible (apply keeps_sys))

theorem keeps_coreFence {z s : State} (c : CoreId) (hz : Keeps z s) :
    Keeps z (s.coreFence c) := by
  unfold State.coreFence
  (try dsimp only)
  repeat' first
    | (with_reducible assumption)
    | (with_reducible (apply keeps_holderLost))
    | (with_reducible (apply keeps_setFlag))
    | (with_reducible (apply keeps_setFld))
    | (with_reducible (refine keeps_foldl (fun u x hu => ?_) ?_))
    | (with_reducible (refine keeps_foldl_fst (fun u x hu => ?_) ?_))
    | (with_reducible (refine keeps_foldl_snd (fun u x hu => ?_) ?_))
    | split
    | fail_if_no_progress (with_reducible (apply keeps_lit))
    | fail_if_no_progress (with_reducible (apply keeps_sys))

theorem keeps_coreJudgedDead {z s : State} (c : CoreId) (qual : Nat) (hz : Keeps z s) :
    Keeps z (s.coreJudgedDead c qual) := by
  unfold State.coreJudgedDead
  (try dsimp only)
  repeat' first
    | (with_reducible assumption)
    | (with_reducible (apply keeps_holderLost))
    | (with_reducible (apply keeps_report))
    | (with_reducible (apply keeps_setFlag))
    | (with_reducible (apply keeps_setFld))
    | (with_reducible (refine keeps_foldl (fun u x hu => ?_) ?_))
    | (with_reducible (refine keeps_foldl_fst (fun u x hu => ?_) ?_))
    | (with_reducible (refine keeps_foldl_snd (fun u x hu => ?_) ?_))
    | split
    | fail_if_no_progress (with_reducible (apply keeps_lit))
    | fail_if_no_progress (with_reducible (apply keeps_sys))

theorem keeps_coreBoot {z s : State} (c : CoreId) (hz : Keeps z s) :
    Keeps z (s.coreBoot c) := by
  unfold State.coreBoot
  (try dsimp only)
  repeat' first
    | (with_reducible assumption)
    | (with_reducible (apply keeps_setFld))
    | (with_reducible (refine keeps_foldl (fun u x hu => ?_) ?_))
    | (with_reducible (refine keeps_foldl_fst (fun u x hu => ?_) ?_))
    | (with_reducible (refine keeps_foldl_snd (fun u x hu => ?_) ?_))
    | split
    | fail_if_no_progress (with_reducible (apply keeps_lit))
    | fail_if_no_progress (with_reducible (apply keeps_sys))

theorem keeps_coldStandby {z s : State}  (hz : Keeps z s) :
    Keeps z (s.coldStandby ) := by
  unfold State.coldStandby
  (try dsimp only)
  repeat' first
    | (with_reducible assumption)
    | (with_reducible (apply keeps_setFlag))
    | (with_reducible (apply keeps_setFld))
    | (with_reducible (refine keeps_foldl (fun u x hu => ?_) ?_))
    | (with_reducible (refine keeps_foldl_fst (fun u x hu => ?_) ?_))
    | (with_reducible (refine keeps_foldl_snd (fun u x hu => ?_) ?_))
    | split
    | fail_if_no_progress (with_reducible (apply keeps_lit))
    | fail_if_no_progress (with_reducible (apply keeps_sys))

theorem keeps_hotStandby {z s : State}  (hz : Keeps z s) :
    Keeps z (s.hotStandby ) := by
  unfold State.hotStandby
  (try dsimp only)
  repeat' first
    | (with_reducible assumption)
    | (with_reducible (apply keeps_setFlag))
    | (with_reducible (apply keeps_setFld))
    | (with_reducible (refine keeps_foldl (fun u x hu => ?_) ?_))
    | (with_reducible (refine keeps_foldl_fst (fun u x hu => ?_) ?_))
    | (with_reducible (refine keeps_foldl_snd (fun u x hu => ?_) ?_))
    | split
    | fail_if_no_progress (with_reducible (apply keeps_lit))
    | fail_if_no_progress (with_reducible (apply keeps_sys))

theorem keeps_logFail {z s : State} (bank : Nat) (hz : Keeps z s) :
    Keeps z (s.logFail bank) := by
  unfold State.logFail
  (try dsimp only)
  repeat' first
    | (with_reducible assumption)
    | (with_reducible (apply keeps_lastLog))
    | (with_reducible (apply keeps_setFlag))
    | (with_reducible (refine keeps_foldl (fun u x hu => ?_) ?_))
    | (with_reducible (refine keeps_foldl_fst (fun u x hu => ?_) ?_))
    | (with_reducible (refine keeps_foldl_snd (fun u x hu => ?_) ?_))
    | split
    | fail_if_no_progress (with_reducible (apply keeps_lit))
    | fail_if_no_progress (with_reducible (apply keeps_sys))

theorem keeps_voidRepairs {z s : State}  (hz : Keeps z s) :
    Keeps z (s.voidRepairs ) := by
  unfold State.voidRepairs
  (try dsimp only)
  repeat' first
    | (with_reducible assumption)
    | (with_reducible (apply keeps_setD))
    | (with_reducible (refine keeps_foldl (fun u x hu => ?_) ?_))
    | (with_reducible (refine keeps_foldl_fst (fun u x hu => ?_) ?_))
    | (with_reducible (refine keeps_foldl_snd (fun u x hu => ?_) ?_))
    | split
    | fail_if_no_progress (with_reducible (apply keeps_lit))
    | fail_if_no_progress (with_reducible (apply keeps_sys))

theorem keeps_moverStop {z s : State}  (hz : Keeps z s) :
    Keeps z (s.moverStop ) := by
  unfold State.moverStop
  (try dsimp only)
  repeat' first
    | (with_reducible assumption)
    | (with_reducible (apply keeps_setD))
    | (with_reducible (refine keeps_foldl (fun u x hu => ?_) ?_))
    | (with_reducible (refine keeps_foldl_fst (fun u x hu => ?_) ?_))
    | (with_reducible (refine keeps_foldl_snd (fun u x hu => ?_) ?_))
    | split
    | fail_if_no_progress (with_reducible (apply keeps_lit))
    | fail_if_no_progress (with_reducible (apply keeps_sys))

theorem keeps_fenceEffect {z s : State} (u : UnitRow) (inc : Nat) (hz : Keeps z s) :
    Keeps z (s.fenceEffect u inc) := by
  unfold State.fenceEffect
  (try dsimp only)
  repeat' first
    | (with_reducible assumption)
    | (with_reducible (apply keeps_moverStop))
    | (with_reducible (apply keeps_voidRepairs))
    | (with_reducible (apply keeps_logFail))
    | (with_reducible (apply keeps_coreFence))
    | (with_reducible (apply keeps_fenceChannel))
    | (with_reducible (apply keeps_retrainEnd))
    | (with_reducible (apply keeps_sealFence))
    | (with_reducible (apply keeps_gleanStop))
    | (with_reducible (apply keeps_trainAbandon))
    | (with_reducible (apply keeps_unverifySeals))
    | (with_reducible (apply keeps_unlearn))
    | (with_reducible (apply keeps_learnStop))
    | (with_reducible (refine keeps_foldl (fun u x hu => ?_) ?_))
    | (with_reducible (refine keeps_foldl_fst (fun u x hu => ?_) ?_))
    | (with_reducible (refine keeps_foldl_snd (fun u x hu => ?_) ?_))
    | split
    | fail_if_no_progress (with_reducible (apply keeps_lit))
    | fail_if_no_progress (with_reducible (apply keeps_sys))

theorem keeps_fenceUnit {z s : State} (u : UnitRow) (n : Nat) (degraded : Bool) (hz : Keeps z s) :
    Keeps z (s.fenceUnit u n degraded) := by
  unfold State.fenceUnit
  (try dsimp only)
  repeat' first
    | (with_reducible assumption)
    | (with_reducible (apply keeps_fenceEffect))
    | (with_reducible (refine keeps_foldl (fun u x hu => ?_) ?_))
    | (with_reducible (refine keeps_foldl_fst (fun u x hu => ?_) ?_))
    | (with_reducible (refine keeps_foldl_snd (fun u x hu => ?_) ?_))
    | split
    | fail_if_no_progress (with_reducible (apply keeps_lit))
    | fail_if_no_progress (with_reducible (apply keeps_sys))

theorem keeps_unitReturn {z s : State} (u : UnitRow) (hz : Keeps z s) :
    Keeps z (s.unitReturn u) := by
  unfold State.unitReturn
  (try dsimp only)
  repeat' first
    | (with_reducible assumption)
    | (with_reducible (apply keeps_coreBoot))
    | (with_reducible (apply keeps_ringsReset))
    | (with_reducible (refine keeps_foldl (fun u x hu => ?_) ?_))
    | (with_reducible (refine keeps_foldl_fst (fun u x hu => ?_) ?_))
    | (with_reducible (refine keeps_foldl_snd (fun u x hu => ?_) ?_))
    | split
    | fail_if_no_progress (with_reducible (apply keeps_lit))
    | fail_if_no_progress (with_reducible (apply keeps_sys))

theorem keeps_runFence {z s : State} (n src : Nat) (d : Bool) (h : Keeps z s) : Keeps z (s.runFence n src d).1 := by
  unfold State.runFence
  split
  · exact h
  · exact keeps_fenceUnit _ _ _ h

theorem keeps_sramReaction {z s : State} (n src : Nat) (u : SramUse) (h : Keeps z s) : Keeps z (s.sramReaction n src u).1 := by
  unfold State.sramReaction
  dsimp only
  repeat' first
    | (with_reducible assumption)
    | (with_reducible (apply keeps_setAllDirty))
    | (with_reducible (apply keeps_setD))
    | (with_reducible (apply keeps_gleanLoss))
    | (with_reducible (apply keeps_coreJudgedDead))
    | (with_reducible (apply keeps_logFail))
    | (with_reducible (apply keeps_runFence))
    | (with_reducible (refine keeps_foldl (fun u x hu => ?_) ?_))
    | split
    | fail_if_no_progress (with_reducible (apply keeps_lit))
    | dsimp only

theorem keeps_railReaction {z s : State} (n src : Nat) (h : Keeps z s) : Keeps z (s.railReaction n src).1 := by
  unfold State.railReaction
  dsimp only
  repeat' first
    | (with_reducible assumption)
    | (with_reducible (apply keeps_trigger))
    | (with_reducible (apply keeps_keeperEnter))
    | (with_reducible (apply keeps_railRetry))
    | (with_reducible (apply keeps_railsOff))
    | split
    | fail_if_no_progress (with_reducible (apply keeps_lit))
    | dsimp only

theorem keeps_switchFence {z s : State} (n src : Nat) (hz : Keeps z s) :
    Keeps z (s.switchFence n src) := by
  unfold State.switchFence
  (try dsimp only)
  repeat' first
    | (with_reducible assumption)
    | (with_reducible (apply keeps_fenceChannel))
    | (with_reducible (refine keeps_foldl (fun u x hu => ?_) ?_))
    | (with_reducible (refine keeps_foldl_fst (fun u x hu => ?_) ?_))
    | (with_reducible (refine keeps_foldl_snd (fun u x hu => ?_) ?_))
    | split
    | fail_if_no_progress (with_reducible (apply keeps_lit))
    | fail_if_no_progress (with_reducible (apply keeps_sys))

theorem keeps_react {z s : State} (n : Nat) (m : FaultMsg) (u : SramUse) (b : Bool) (h : Keeps z s) : Keeps z (s.react n m u b).1 := by
  unfold State.react
  dsimp only
  repeat' first
    | (with_reducible assumption)
    | (with_reducible (apply keeps_trigger))
    | (with_reducible (apply keeps_keeperEnter))
    | (with_reducible (apply keeps_coldStandby))
    | (with_reducible (apply keeps_switchFence))
    | (with_reducible (apply keeps_runFence))
    | (with_reducible (apply keeps_sramReaction))
    | (with_reducible (apply keeps_railReaction))
    | split
    | dsimp only

theorem keeps_react_trip {z s t : State} {n : Nat} {m : FaultMsg} {u : SramUse} {b c : Bool} {a : Reaction}
    (e : s.react n m u b = (t, a, c)) (h : Keeps z s) : Keeps z t := by
  have := keeps_react n m u b h; rw [e] at this; exact this

theorem keeps_endFences {z s : State} (n : Nat) (hz : Keeps z s) :
    Keeps z (s.endFences n) := by
  unfold State.endFences
  (try dsimp only)
  repeat' first
    | (with_reducible assumption)
    | (with_reducible (apply keeps_dropCause))
    | (with_reducible (refine keeps_foldl (fun u x hu => ?_) ?_))
    | (with_reducible (refine keeps_foldl_fst (fun u x hu => ?_) ?_))
    | (with_reducible (refine keeps_foldl_snd (fun u x hu => ?_) ?_))
    | split
    | fail_if_no_progress (with_reducible (apply keeps_lit))
    | fail_if_no_progress (with_reducible (apply keeps_sys))

theorem keeps_claimFence {z s : State} (m : FaultMsg) (inc : Option Nat) (hz : Keeps z s) :
    Keeps z (s.claimFence m inc) := by
  unfold State.claimFence
  (try dsimp only)
  repeat' first
    | (with_reducible assumption)
    | (with_reducible (apply keeps_dropCause))
    | (with_reducible (apply keeps_setChan))
    | (with_reducible (refine keeps_foldl (fun u x hu => ?_) ?_))
    | (with_reducible (refine keeps_foldl_fst (fun u x hu => ?_) ?_))
    | (with_reducible (refine keeps_foldl_snd (fun u x hu => ?_) ?_))
    | split
    | fail_if_no_progress (with_reducible (apply keeps_lit))
    | fail_if_no_progress (with_reducible (apply keeps_sys))

theorem keeps_returnUnits {z s : State} (n : Nat) (hz : Keeps z s) :
    Keeps z (s.returnUnits n) := by
  unfold State.returnUnits
  (try dsimp only)
  repeat' first
    | (with_reducible assumption)
    | (with_reducible (apply keeps_unitReturn))
    | (with_reducible (refine keeps_foldl (fun u x hu => ?_) ?_))
    | (with_reducible (refine keeps_foldl_fst (fun u x hu => ?_) ?_))
    | (with_reducible (refine keeps_foldl_snd (fun u x hu => ?_) ?_))
    | split
    | fail_if_no_progress (with_reducible (apply keeps_lit))
    | fail_if_no_progress (with_reducible (apply keeps_sys))

theorem keeps_freeIncident {z s : State} (k : Nat) (hz : Keeps z s) :
    Keeps z (s.freeIncident k) := by
  unfold State.freeIncident
  (try dsimp only)
  repeat' first
    | (with_reducible assumption)
    | (with_reducible (apply keeps_returnUnits))
    | (with_reducible (apply keeps_endFences))
    | (with_reducible (apply keeps_hotStandby))
    | (with_reducible (apply keeps_incidentRecord))
    | (with_reducible (refine keeps_foldl (fun u x hu => ?_) ?_))
    | (with_reducible (refine keeps_foldl_fst (fun u x hu => ?_) ?_))
    | (with_reducible (refine keeps_foldl_snd (fun u x hu => ?_) ?_))
    | split
    | fail_if_no_progress (with_reducible (apply keeps_lit))
    | fail_if_no_progress (with_reducible (apply keeps_sys))

theorem keeps_settleSlot {z s : State} (k : Nat) (hz : Keeps z s) :
    Keeps z (s.settleSlot k) := by
  unfold State.settleSlot
  (try dsimp only)
  repeat' first
    | (with_reducible assumption)
    | (with_reducible (apply keeps_freeIncident))
    | (with_reducible (apply keeps_putIncident))
    | (with_reducible (refine keeps_foldl (fun u x hu => ?_) ?_))
    | (with_reducible (refine keeps_foldl_fst (fun u x hu => ?_) ?_))
    | (with_reducible (refine keeps_foldl_snd (fun u x hu => ?_) ?_))
    | split
    | fail_if_no_progress (with_reducible (apply keeps_lit))
    | fail_if_no_progress (with_reducible (apply keeps_sys))

theorem keeps_settle {z s : State}  (hz : Keeps z s) :
    Keeps z (s.settle ) := by
  unfold State.settle
  (try dsimp only)
  repeat' first
    | (with_reducible assumption)
    | (with_reducible (apply keeps_settleSlot))
    | (with_reducible (refine keeps_foldl (fun u x hu => ?_) ?_))
    | (with_reducible (refine keeps_foldl_fst (fun u x hu => ?_) ?_))
    | (with_reducible (refine keeps_foldl_snd (fun u x hu => ?_) ?_))
    | split
    | fail_if_no_progress (with_reducible (apply keeps_lit))
    | fail_if_no_progress (with_reducible (apply keeps_sys))

theorem keeps_mergeInto {z s : State} (k : Nat) (m : FaultMsg) (hz : Keeps z s) :
    Keeps z (s.mergeInto k m) := by
  unfold State.mergeInto
  (try dsimp only)
  repeat' first
    | (with_reducible assumption)
    | (with_reducible (apply keeps_claimFence))
    | (with_reducible (apply keeps_putIncident))
    | (with_reducible (apply keeps_bump))
    | (with_reducible (refine keeps_foldl (fun u x hu => ?_) ?_))
    | (with_reducible (refine keeps_foldl_fst (fun u x hu => ?_) ?_))
    | (with_reducible (refine keeps_foldl_snd (fun u x hu => ?_) ?_))
    | split
    | fail_if_no_progress (with_reducible (apply keeps_lit))
    | fail_if_no_progress (with_reducible (apply keeps_sys))

theorem keeps_startReaction {z s : State} (k : Nat) (m : FaultMsg) (sup : Bool) (h : SramUse) (made : Bool) (hz : Keeps z s) :
    Keeps z (s.startReaction k m sup h made) := by
  unfold State.startReaction
  (try dsimp only)
  repeat' first
    | (with_reducible assumption)
    | (with_reducible (apply keeps_settleSlot))
    | (with_reducible (apply keeps_react))
    | (with_reducible (refine keeps_react_trip (by assumption) ?_))
    | (with_reducible (apply keeps_putIncident))
    | (with_reducible (refine keeps_foldl (fun u x hu => ?_) ?_))
    | (with_reducible (refine keeps_foldl_fst (fun u x hu => ?_) ?_))
    | (with_reducible (refine keeps_foldl_snd (fun u x hu => ?_) ?_))
    | split
    | fail_if_no_progress (with_reducible (apply keeps_lit))
    | fail_if_no_progress (with_reducible (apply keeps_sys))

theorem keeps_openIncident {z s : State} (m : FaultMsg) (sup : Bool) (h : SramUse) (made : Bool) (link seq : Nat) (hz : Keeps z s) :
    Keeps z (s.openIncident m sup h made link seq) := by
  unfold State.openIncident
  (try dsimp only)
  repeat' first
    | (with_reducible assumption)
    | (with_reducible (apply keeps_startReaction))
    | (with_reducible (apply keeps_mergeInto))
    | (with_reducible (apply keeps_claimFence))
    | (with_reducible (apply keeps_pinCause))
    | (with_reducible (apply keeps_incidentRecord))
    | (with_reducible (apply keeps_putIncident))
    | (with_reducible (apply keeps_lastLog))
    | (with_reducible (apply keeps_bump))
    | (with_reducible (apply keeps_setFlag))
    | (with_reducible (apply keeps_setFld))
    | (with_reducible (refine keeps_foldl (fun u x hu => ?_) ?_))
    | (with_reducible (refine keeps_foldl_fst (fun u x hu => ?_) ?_))
    | (with_reducible (refine keeps_foldl_snd (fun u x hu => ?_) ?_))
    | split
    | fail_if_no_progress (with_reducible (apply keeps_lit))
    | fail_if_no_progress (with_reducible (apply keeps_sys))

theorem keeps_overtake {z s : State} (k : Nat) (m : FaultMsg) (h : SramUse) (seq : Nat) (hz : Keeps z s) :
    Keeps z (s.overtake k m h seq) := by
  unfold State.overtake
  (try dsimp only)
  repeat' first
    | (with_reducible assumption)
    | (with_reducible (apply keeps_startReaction))
    | (with_reducible (apply keeps_settleSlot))
    | (with_reducible (apply keeps_claimFence))
    | (with_reducible (apply keeps_react))
    | (with_reducible (refine keeps_react_trip (by assumption) ?_))
    | (with_reducible (apply keeps_pinCause))
    | (with_reducible (apply keeps_incidentRecord))
    | (with_reducible (apply keeps_putIncident))
    | (with_reducible (refine keeps_foldl (fun u x hu => ?_) ?_))
    | (with_reducible (refine keeps_foldl_fst (fun u x hu => ?_) ?_))
    | (with_reducible (refine keeps_foldl_snd (fun u x hu => ?_) ?_))
    | split
    | fail_if_no_progress (with_reducible (apply keeps_lit))
    | fail_if_no_progress (with_reducible (apply keeps_sys))

theorem keeps_messageRecord {z s : State} (m : FaultMsg) (hz : Keeps z s) :
    Keeps z (s.messageRecord m) := by
  unfold State.messageRecord
  (try dsimp only)
  repeat' first
    | (with_reducible assumption)
    | (with_reducible (apply keeps_emitTagged))
    | (with_reducible (refine keeps_foldl (fun u x hu => ?_) ?_))
    | (with_reducible (refine keeps_foldl_fst (fun u x hu => ?_) ?_))
    | (with_reducible (refine keeps_foldl_snd (fun u x hu => ?_) ?_))
    | split
    | fail_if_no_progress (with_reducible (apply keeps_lit))
    | fail_if_no_progress (with_reducible (apply keeps_sys))

theorem keeps_countMessage {z s : State} (m : FaultMsg) (hz : Keeps z s) :
    Keeps z (s.countMessage m) := by
  unfold State.countMessage
  (try dsimp only)
  repeat' first
    | (with_reducible assumption)
    | (with_reducible (apply keeps_messageRecord))
    | (with_reducible (apply keeps_claimFence))
    | (with_reducible (apply keeps_bump))
    | (with_reducible (refine keeps_foldl (fun u x hu => ?_) ?_))
    | (with_reducible (refine keeps_foldl_fst (fun u x hu => ?_) ?_))
    | (with_reducible (refine keeps_foldl_snd (fun u x hu => ?_) ?_))
    | split
    | fail_if_no_progress (with_reducible (apply keeps_lit))
    | fail_if_no_progress (with_reducible (apply keeps_sys))

theorem keeps_placeMessage {z s : State} (m : FaultMsg) (sup : Bool) (h : SramUse) (made : Bool) (seq : Nat) (hz : Keeps z s) :
    Keeps z (s.placeMessage m sup h made seq) := by
  unfold State.placeMessage
  (try dsimp only)
  repeat' first
    | (with_reducible assumption)
    | (with_reducible (apply keeps_countMessage))
    | (with_reducible (apply keeps_overtake))
    | (with_reducible (apply keeps_openIncident))
    | (with_reducible (apply keeps_startReaction))
    | (with_reducible (apply keeps_mergeInto))
    | (with_reducible (apply keeps_settleSlot))
    | (with_reducible (refine keeps_foldl (fun u x hu => ?_) ?_))
    | (with_reducible (refine keeps_foldl_fst (fun u x hu => ?_) ?_))
    | (with_reducible (refine keeps_foldl_snd (fun u x hu => ?_) ?_))
    | split
    | fail_if_no_progress (with_reducible (apply keeps_lit))
    | fail_if_no_progress (with_reducible (apply keeps_sys))

theorem keeps_arrivalSeq {z s : State} (h : Keeps z s) : Keeps z (s.arrivalSeq).2 := by
  unfold State.arrivalSeq
  split
  · exact h
  · exact keeps_takeSeq_snd h

theorem keeps_arrivalSeq_pair {z s t : State} {n : Nat} (e : s.arrivalSeq = (n, t)) (h : Keeps z s) : Keeps z t := by
  have := keeps_arrivalSeq h; rw [e] at this; exact this

theorem keeps_arrive {z s : State} (m : FaultMsg) (sup : Bool) (h : SramUse) (made : Bool) (hz : Keeps z s) :
    Keeps z (s.arrive m sup h made) := by
  unfold State.arrive
  (try dsimp only)
  repeat' first
    | (with_reducible assumption)
    | (with_reducible (apply keeps_arrivalSeq))
    | (with_reducible (refine keeps_arrivalSeq_pair (by assumption) ?_))
    | (with_reducible (apply keeps_placeMessage))
    | (with_reducible (apply keeps_messageRecord))
    | (with_reducible (apply keeps_note))
    | (with_reducible (apply keeps_setFlag))
    | (with_reducible (refine keeps_foldl (fun u x hu => ?_) ?_))
    | (with_reducible (refine keeps_foldl_fst (fun u x hu => ?_) ?_))
    | (with_reducible (refine keeps_foldl_snd (fun u x hu => ?_) ?_))
    | split
    | fail_if_no_progress (with_reducible (apply keeps_lit))
    | fail_if_no_progress (with_reducible (apply keeps_sys))

theorem keeps_closeShadow_pair {z s t : State} {n : Nat} {x : Shadow} (e : s.closeShadow n = some (x, t)) (h : Keeps z s) : Keeps z t := by
  unfold State.closeShadow at e
  simp only [Option.map_eq_some_iff, Prod.mk.injEq] at e
  obtain ⟨y, -, -, rfl⟩ := e
  exact keeps_same (s := s) rfl rfl rfl rfl rfl h

theorem keeps_fenceReturned {z s : State} (x : Shadow) (hz : Keeps z s) :
    Keeps z (s.fenceReturned x) := by
  unfold State.fenceReturned
  (try dsimp only)
  repeat' first
    | (with_reducible assumption)
    | (with_reducible (apply keeps_unitReturn))
    | (with_reducible (refine keeps_foldl (fun u x hu => ?_) ?_))
    | (with_reducible (refine keeps_foldl_fst (fun u x hu => ?_) ?_))
    | (with_reducible (refine keeps_foldl_snd (fun u x hu => ?_) ?_))
    | split
    | fail_if_no_progress (with_reducible (apply keeps_lit))
    | fail_if_no_progress (with_reducible (apply keeps_sys))

theorem keeps_causeEnds {z s : State} (k : Nat) (i : Incident) (hz : Keeps z s) :
    Keeps z (s.causeEnds k i) := by
  unfold State.causeEnds
  (try dsimp only)
  repeat' first
    | (with_reducible assumption)
    | (with_reducible (apply keeps_putIncident))
    | (with_reducible (apply keeps_feedAIn))
    | (with_reducible (apply keeps_setFlag))
    | (with_reducible (refine keeps_foldl (fun u x hu => ?_) ?_))
    | (with_reducible (refine keeps_foldl_fst (fun u x hu => ?_) ?_))
    | (with_reducible (refine keeps_foldl_snd (fun u x hu => ?_) ?_))
    | split
    | fail_if_no_progress (with_reducible (apply keeps_lit))
    | fail_if_no_progress (with_reducible (apply keeps_sys))

theorem keeps_execFltPinWrite {z s : State} (v : Word) (hz : Keeps z s) :
    KeepsO z (execFltPinWrite v s) := by
  unfold execFltPinWrite
  (try dsimp only)
  repeat' first
    | (with_reducible assumption)
    | (with_reducible (apply keeps_storeReg))
    | (with_reducible (apply keepsO_next))
    | (with_reducible (refine keeps_foldl (fun u x hu => ?_) ?_))
    | (with_reducible (refine keeps_foldl_fst (fun u x hu => ?_) ?_))
    | (with_reducible (refine keeps_foldl_snd (fun u x hu => ?_) ?_))
    | split
    | fail_if_no_progress (with_reducible (apply keeps_lit))
    | fail_if_no_progress (with_reducible (apply keeps_sys))

theorem keeps_switchOver {z s : State} (c : CoreId) (hz : Keeps z s) :
    Keeps z (s.switchOver c) := by
  unfold State.switchOver
  (try dsimp only)
  repeat' first
    | (with_reducible assumption)
    | (with_reducible (apply keeps_grantKite))
    | (with_reducible (apply keeps_bump))
    | (with_reducible (apply keeps_setFlag))
    | (with_reducible (apply keeps_setFld))
    | (with_reducible (refine keeps_foldl (fun u x hu => ?_) ?_))
    | (with_reducible (refine keeps_foldl_fst (fun u x hu => ?_) ?_))
    | (with_reducible (refine keeps_foldl_snd (fun u x hu => ?_) ?_))
    | split
    | fail_if_no_progress (with_reducible (apply keeps_lit))
    | fail_if_no_progress (with_reducible (apply keeps_sys))

theorem keeps_execCoreHb {z s : State} (core : CoreId) (hz : Keeps z s) :
    KeepsO z (execCoreHb core s) := by
  unfold execCoreHb
  (try dsimp only)
  repeat' first
    | (with_reducible assumption)
    | (with_reducible (apply keeps_switchOver))
    | (with_reducible (apply keeps_coldStandby))
    | (with_reducible (apply keeps_report))
    | (with_reducible (apply keeps_setFlag))
    | (with_reducible (apply keeps_setFld))
    | (with_reducible (apply keepsO_next))
    | (with_reducible (refine keeps_foldl (fun u x hu => ?_) ?_))
    | (with_reducible (refine keeps_foldl_fst (fun u x hu => ?_) ?_))
    | (with_reducible (refine keeps_foldl_snd (fun u x hu => ?_) ?_))
    | split
    | fail_if_no_progress (with_reducible (apply keeps_lit))
    | fail_if_no_progress (with_reducible (apply keeps_sys))

theorem keeps_kiteRenew {z s : State} (core : CoreId) (hz : Keeps z s) :
    Keeps z (s.kiteRenew core) := by
  unfold State.kiteRenew
  (try dsimp only)
  repeat' first
    | (with_reducible assumption)
    | (with_reducible (apply keeps_report))
    | (with_reducible (apply keeps_setFld))
    | (with_reducible (refine keeps_foldl (fun u x hu => ?_) ?_))
    | (with_reducible (refine keeps_foldl_fst (fun u x hu => ?_) ?_))
    | (with_reducible (refine keeps_foldl_snd (fun u x hu => ?_) ?_))
    | split
    | fail_if_no_progress (with_reducible (apply keeps_lit))
    | fail_if_no_progress (with_reducible (apply keeps_sys))

theorem keeps_execKiteRenew {z s : State} (core : CoreId) (hz : Keeps z s) :
    KeepsO z (execKiteRenew core s) := by
  unfold execKiteRenew
  (try dsimp only)
  repeat' first
    | (with_reducible assumption)
    | (with_reducible (apply keeps_kiteRenew))
    | (with_reducible (apply keepsO_next))
    | (with_reducible (refine keeps_foldl (fun u x hu => ?_) ?_))
    | (with_reducible (refine keeps_foldl_fst (fun u x hu => ?_) ?_))
    | (with_reducible (refine keeps_foldl_snd (fun u x hu => ?_) ?_))
    | split
    | fail_if_no_progress (with_reducible (apply keeps_lit))
    | fail_if_no_progress (with_reducible (apply keeps_sys))

theorem keeps_kiteRequest {z s : State} (core : CoreId) (hz : Keeps z s) :
    Keeps z (s.kiteRequest core) := by
  unfold State.kiteRequest
  (try dsimp only)
  repeat' first
    | (with_reducible assumption)
    | (with_reducible (refine keeps_foldl (fun u x hu => ?_) ?_))
    | (with_reducible (refine keeps_foldl_fst (fun u x hu => ?_) ?_))
    | (with_reducible (refine keeps_foldl_snd (fun u x hu => ?_) ?_))
    | split
    | fail_if_no_progress (with_reducible (apply keeps_lit))
    | fail_if_no_progress (with_reducible (apply keeps_sys))

theorem keeps_execKiteRequest {z s : State} (core : CoreId) (hz : Keeps z s) :
    KeepsO z (execKiteRequest core s) := by
  unfold execKiteRequest
  (try dsimp only)
  repeat' first
    | (with_reducible assumption)
    | (with_reducible (apply keeps_kiteRequest))
    | (with_reducible (apply keepsO_next))
    | (with_reducible (refine keeps_foldl (fun u x hu => ?_) ?_))
    | (with_reducible (refine keeps_foldl_fst (fun u x hu => ?_) ?_))
    | (with_reducible (refine keeps_foldl_snd (fun u x hu => ?_) ?_))
    | split
    | fail_if_no_progress (with_reducible (apply keeps_lit))
    | fail_if_no_progress (with_reducible (apply keeps_sys))

theorem keeps_crystalWindow {z s : State} (e : PaceEnv) (hz : Keeps z s) :
    Keeps z (s.crystalWindow e) := by
  unfold State.crystalWindow
  (try dsimp only)
  repeat' first
    | (with_reducible assumption)
    | (with_reducible (apply keeps_report))
    | (with_reducible (apply keeps_setFlag))
    | (with_reducible (apply keeps_setFld))
    | (with_reducible (refine keeps_foldl (fun u x hu => ?_) ?_))
    | (with_reducible (refine keeps_foldl_fst (fun u x hu => ?_) ?_))
    | (with_reducible (refine keeps_foldl_snd (fun u x hu => ?_) ?_))
    | split
    | fail_if_no_progress (with_reducible (apply keeps_lit))
    | fail_if_no_progress (with_reducible (apply keeps_sys))

theorem keeps_feedWindow {z s : State} (e : PaceEnv) (hz : Keeps z s) :
    Keeps z (s.feedWindow e) := by
  unfold State.feedWindow
  (try dsimp only)
  repeat' first
    | (with_reducible assumption)
    | (with_reducible (apply keeps_feedAIn))
    | (with_reducible (apply keeps_feedBIn))
    | (with_reducible (apply keeps_setFlag))
    | (with_reducible (apply keeps_setFld))
    | (with_reducible (refine keeps_foldl (fun u x hu => ?_) ?_))
    | (with_reducible (refine keeps_foldl_fst (fun u x hu => ?_) ?_))
    | (with_reducible (refine keeps_foldl_snd (fun u x hu => ?_) ?_))
    | split
    | fail_if_no_progress (with_reducible (apply keeps_lit))
    | fail_if_no_progress (with_reducible (apply keeps_sys))

theorem keeps_after {z s : State} {o : Host.Outcome State Fault Refusal} (ho : KeepsO z o) (h : Keeps z s) : Keeps z (s.after o) := by
  unfold State.after
  split
  · exact ho _ rfl
  · exact h

theorem keeps_writePtabWord {z s : State} (a i : Nat) (v : Word) (hz : Keeps z s) :
    Keeps z (s.writePtabWord a i v) := by
  unfold State.writePtabWord
  (try dsimp only)
  repeat' first
    | (with_reducible assumption)
    | (with_reducible (apply keeps_setWord))
    | (with_reducible (refine keeps_foldl (fun u x hu => ?_) ?_))
    | (with_reducible (refine keeps_foldl_fst (fun u x hu => ?_) ?_))
    | (with_reducible (refine keeps_foldl_snd (fun u x hu => ?_) ?_))
    | split
    | fail_if_no_progress (with_reducible (apply keeps_lit))
    | fail_if_no_progress (with_reducible (apply keeps_sys))

theorem keeps_burn {z s : State} (v : Word) (hz : Keeps z s) :
    Keeps z (s.burn v) := by
  unfold State.burn
  (try dsimp only)
  repeat' first
    | (with_reducible assumption)
    | (with_reducible (apply keeps_setFlag))
    | (with_reducible (refine keeps_foldl (fun u x hu => ?_) ?_))
    | (with_reducible (refine keeps_foldl_fst (fun u x hu => ?_) ?_))
    | (with_reducible (refine keeps_foldl_snd (fun u x hu => ?_) ?_))
    | split
    | fail_if_no_progress (with_reducible (apply keeps_lit))
    | fail_if_no_progress (with_reducible (apply keeps_sys))

theorem keeps_burnDone {z s : State}  (hz : Keeps z s) :
    Keeps z (s.burnDone ) := by
  unfold State.burnDone
  (try dsimp only)
  repeat' first
    | (with_reducible assumption)
    | (with_reducible (apply keeps_setFlag))
    | (with_reducible (refine keeps_foldl (fun u x hu => ?_) ?_))
    | (with_reducible (refine keeps_foldl_fst (fun u x hu => ?_) ?_))
    | (with_reducible (refine keeps_foldl_snd (fun u x hu => ?_) ?_))
    | split
    | fail_if_no_progress (with_reducible (apply keeps_lit))
    | fail_if_no_progress (with_reducible (apply keeps_sys))

theorem keeps_writeFce {z s : State} (a : Nat) (v : Word) (hz : Keeps z s) :
    Keeps z (s.writeFce a v) := by
  unfold State.writeFce
  (try dsimp only)
  repeat' first
    | (with_reducible assumption)
    | (with_reducible (refine keeps_after ?_ ?_))
    | (with_reducible (apply keeps_execFceFence))
    | (with_reducible (apply keeps_storeReg))
    | (with_reducible (apply keeps_execFceUnfence))
    | (with_reducible (apply keeps_execFceIfWrite))
    | (with_reducible (refine keeps_foldl (fun u x hu => ?_) ?_))
    | (with_reducible (refine keeps_foldl_fst (fun u x hu => ?_) ?_))
    | (with_reducible (refine keeps_foldl_snd (fun u x hu => ?_) ?_))
    | split
    | fail_if_no_progress (with_reducible (apply keeps_lit))
    | fail_if_no_progress (with_reducible (apply keeps_sys))

theorem keeps_writeReg {z s : State} (path : Option RegPath) (a : Nat) (v : Word) (hz : Keeps z s) :
    Keeps z (s.writeReg path a v) := by
  unfold State.writeReg
  dsimp only
  repeat' first
    | (with_reducible assumption)
    | (with_reducible (refine keeps_ite (fun _ => ?_) (fun _ => ?_)))
    | (with_reducible (apply keeps_writeFce))
    | (with_reducible (apply keeps_verifyKept))
    | (with_reducible (apply keeps_burn))
    | (with_reducible (apply keeps_writePtabWord))
    | (with_reducible (refine keeps_after ?_ ?_))
    | (with_reducible (apply keeps_execKiteRequest))
    | (with_reducible (apply keeps_execKiteRenew))
    | (with_reducible (apply keeps_execCoreHb))
    | (with_reducible (apply keeps_execFltPinWrite))
    | (with_reducible (apply keeps_execHandover))
    | (with_reducible (apply keeps_execParErrClear))
    | (with_reducible (apply keeps_execHbpCtlWrite))
    | (with_reducible (apply keeps_storeReg))
    | (with_reducible (apply keeps_execSpGo))
    | (with_reducible (apply keeps_execClkSpUserWrite))
    | (with_reducible (apply keeps_execDiscEnd))
    | (with_reducible (apply keeps_execDctWindowRead))
    | (with_reducible (apply keeps_execSeaEntFetch))
    | (with_reducible (apply keeps_execPerMapSelWrite))
    | (with_reducible (apply keeps_execForceFull))
    | (with_reducible (apply keeps_execRingCfgWrite))
    | (with_reducible (apply keeps_execMailboxGo))
    | (with_reducible (apply keeps_execLearnAbort))
    | split

theorem keeps_sbStep {z s : State}  (hz : Keeps z s) :
    Keeps z (s.sbStep ) := by
  unfold State.sbStep
  (try dsimp only)
  repeat' first
    | (with_reducible assumption)
    | (with_reducible (refine keeps_foldl (fun u x hu => ?_) ?_))
    | (with_reducible (refine keeps_foldl_fst (fun u x hu => ?_) ?_))
    | (with_reducible (refine keeps_foldl_snd (fun u x hu => ?_) ?_))
    | split
    | fail_if_no_progress (with_reducible (apply keeps_lit))
    | fail_if_no_progress (with_reducible (apply keeps_sys))

theorem keeps_sbWriteWord {z s : State} (v : Word) (hz : Keeps z s) :
    Keeps z (s.sbWriteWord v) := by
  unfold State.sbWriteWord
  (try dsimp only)
  repeat' first
    | (with_reducible assumption)
    | (with_reducible (apply keeps_sbStep))
    | (with_reducible (apply keeps_writeReg))
    | (with_reducible (apply keeps_bump))
    | (with_reducible (refine keeps_foldl (fun u x hu => ?_) ?_))
    | (with_reducible (refine keeps_foldl_fst (fun u x hu => ?_) ?_))
    | (with_reducible (refine keeps_foldl_snd (fun u x hu => ?_) ?_))
    | split
    | fail_if_no_progress (with_reducible (apply keeps_lit))
    | fail_if_no_progress (with_reducible (apply keeps_sys))

theorem keeps_sbWriteWords {z s : State} (l : List Byte) (h : Keeps z s) : Keeps z (s.sbWriteWords l) := by
  fun_induction State.sbWriteWords s l with
  | case1 s b0 b1 b2 b3 rest ih => exact ih (keeps_sbWriteWord _ h)
  | case2 s => exact h
  | case3 => exact keeps_bump _ _ h

theorem keeps_sbEnd {z s : State} (ack : Bool) (out : List Byte) (hz : Keeps z s) :
    Keeps z (s.sbEnd ack out) := by
  unfold State.sbEnd
  (try dsimp only)
  repeat' first
    | (with_reducible assumption)
    | (with_reducible (refine keeps_foldl (fun u x hu => ?_) ?_))
    | (with_reducible (refine keeps_foldl_fst (fun u x hu => ?_) ?_))
    | (with_reducible (refine keeps_foldl_snd (fun u x hu => ?_) ?_))
    | split
    | fail_if_no_progress (with_reducible (apply keeps_lit))
    | fail_if_no_progress (with_reducible (apply keeps_sys))

theorem keeps_sbReadWord {z s : State} (h : Keeps z s) : Keeps z (s.sbReadWord).2 := by
  unfold State.sbReadWord
  dsimp only
  split
  · exact keeps_sbStep (keeps_bump _ _ h)
  · split
    · exact keeps_sbStep h
    · exact keeps_sbStep (keeps_same (s := s) rfl rfl rfl rfl rfl h)

theorem keeps_sbReadWords {z s : State} (n : Nat) (h : Keeps z s) : Keeps z (s.sbReadWords n).2 := by
  induction n generalizing s with
  | zero => exact h
  | succ n ih => exact ih (keeps_sbReadWord h)

theorem keeps_coreRefused {z s : State} (c : CoreId) (hz : Keeps z s) :
    Keeps z (s.coreRefused c) := by
  unfold State.coreRefused
  (try dsimp only)
  repeat' first
    | (with_reducible assumption)
    | (with_reducible (apply keeps_report))
    | (with_reducible (refine keeps_foldl (fun u x hu => ?_) ?_))
    | (with_reducible (refine keeps_foldl_fst (fun u x hu => ?_) ?_))
    | (with_reducible (refine keeps_foldl_snd (fun u x hu => ?_) ?_))
    | split
    | fail_if_no_progress (with_reducible (apply keeps_lit))
    | fail_if_no_progress (with_reducible (apply keeps_sys))

theorem keeps_coreRead {z s : State} (c : CoreId) (a : Nat) (hz : Keeps z s) :
    Keeps z (s.coreRead c a) := by
  unfold State.coreRead
  (try dsimp only)
  repeat' first
    | (with_reducible assumption)
    | (with_reducible (apply keeps_coreRefused))
    | (with_reducible (refine keeps_foldl (fun u x hu => ?_) ?_))
    | (with_reducible (refine keeps_foldl_fst (fun u x hu => ?_) ?_))
    | (with_reducible (refine keeps_foldl_snd (fun u x hu => ?_) ?_))
    | split
    | fail_if_no_progress (with_reducible (apply keeps_lit))
    | fail_if_no_progress (with_reducible (apply keeps_sys))

theorem keeps_sbAddress {z s : State} (dyn : Nat) (hz : Keeps z s) :
    Keeps z (s.sbAddress dyn) := by
  unfold State.sbAddress
  (try dsimp only)
  repeat' first
    | (with_reducible assumption)
    | (with_reducible (apply keeps_sbEnd))
    | (with_reducible (apply keeps_setFlag))
    | (with_reducible (apply keeps_setFld))
    | (with_reducible (refine keeps_foldl (fun u x hu => ?_) ?_))
    | (with_reducible (refine keeps_foldl_fst (fun u x hu => ?_) ?_))
    | (with_reducible (refine keeps_foldl_snd (fun u x hu => ?_) ?_))
    | split
    | fail_if_no_progress (with_reducible (apply keeps_lit))
    | fail_if_no_progress (with_reducible (apply keeps_sys))

theorem keeps_cccGet {z s : State} (out : List Byte) (hz : Keeps z s) :
    Keeps z (s.cccGet out) := by
  unfold State.cccGet
  (try dsimp only)
  repeat' first
    | (with_reducible assumption)
    | (with_reducible (apply keeps_sbEnd))
    | (with_reducible (refine keeps_foldl (fun u x hu => ?_) ?_))
    | (with_reducible (refine keeps_foldl_fst (fun u x hu => ?_) ?_))
    | (with_reducible (refine keeps_foldl_snd (fun u x hu => ?_) ?_))
    | split
    | fail_if_no_progress (with_reducible (apply keeps_lit))
    | fail_if_no_progress (with_reducible (apply keeps_sys))

theorem keeps_snapshots {z s : State} (running : BitVec 64) (r : LogRec) (hz : Keeps z s) :
    Keeps z (s.snapshots running r) := by
  unfold State.snapshots
  (try dsimp only)
  repeat' first
    | (with_reducible assumption)
    | (with_reducible (apply keeps_hold))
    | (with_reducible (apply keeps_bump))
    | (with_reducible (refine keeps_foldl (fun u x hu => ?_) ?_))
    | (with_reducible (refine keeps_foldl_fst (fun u x hu => ?_) ?_))
    | (with_reducible (refine keeps_foldl_snd (fun u x hu => ?_) ?_))
    | split
    | fail_if_no_progress (with_reducible (apply keeps_lit))
    | fail_if_no_progress (with_reducible (apply keeps_sys))

theorem keeps_takeFresh {z s : State} (running : BitVec 64) (h : Keeps z s) : Keeps z (s.takeFresh running) := by
  unfold State.takeFresh
  dsimp only
  with_reducible apply keeps_lit
  refine keeps_foldl_fst (fun u x hu => keeps_snapshots _ _ hu) ?_
  with_reducible apply keeps_lit
  exact h

theorem keeps_markChaff {z s : State}  (hz : Keeps z s) :
    Keeps z (s.markChaff ) := by
  unfold State.markChaff
  (try dsimp only)
  repeat' first
    | (with_reducible assumption)
    | (with_reducible (refine keeps_foldl (fun u x hu => ?_) ?_))
    | (with_reducible (refine keeps_foldl_fst (fun u x hu => ?_) ?_))
    | (with_reducible (refine keeps_foldl_snd (fun u x hu => ?_) ?_))
    | split
    | fail_if_no_progress (with_reducible (apply keeps_lit))
    | fail_if_no_progress (with_reducible (apply keeps_sys))

theorem keeps_arriveRecord {z s : State} (e : EvRecord) (queueFull chaff : Bool) (hz : Keeps z s) :
    Keeps z (s.arriveRecord e queueFull chaff) := by
  unfold State.arriveRecord
  (try dsimp only)
  repeat' first
    | (with_reducible assumption)
    | (with_reducible (apply keeps_markChaff))
    | (with_reducible (apply keeps_hold))
    | (with_reducible (apply keeps_bump))
    | (with_reducible (refine keeps_foldl (fun u x hu => ?_) ?_))
    | (with_reducible (refine keeps_foldl_fst (fun u x hu => ?_) ?_))
    | (with_reducible (refine keeps_foldl_snd (fun u x hu => ?_) ?_))
    | split
    | fail_if_no_progress (with_reducible (apply keeps_lit))
    | fail_if_no_progress (with_reducible (apply keeps_sys))

theorem keeps_logRead {z s : State} (e : ExecPkt) (p : LogRec → Bool) (out : LogRec → List LogRec → Option (List Byte)) (hz : Keeps z s) :
    Keeps z (s.logRead e p out) := by
  unfold State.logRead
  (try dsimp only)
  repeat' first
    | (with_reducible assumption)
    | (with_reducible (apply keeps_completeCode))
    | (with_reducible (apply keeps_complete))
    | (with_reducible (apply keeps_bump))
    | (with_reducible (refine keeps_foldl (fun u x hu => ?_) ?_))
    | (with_reducible (refine keeps_foldl_fst (fun u x hu => ?_) ?_))
    | (with_reducible (refine keeps_foldl_snd (fun u x hu => ?_) ?_))
    | split
    | fail_if_no_progress (with_reducible (apply keeps_lit))
    | fail_if_no_progress (with_reducible (apply keeps_sys))

theorem keeps_writePairs {z s : State} (i : Nat) (l : List (Nat × Word)) (h : Keeps z s) : Keeps z (s.writePairs i l).1 := by
  induction l generalizing s i with
  | nil => exact h
  | cons x xs ih =>
    unfold State.writePairs
    split
    · exact h
    · split
      · exact keeps_writeReg _ _ _ h
      · exact ih _ (keeps_writeReg _ _ _ h)

theorem keeps_writePairs_pair {z s t : State} {i : Nat} {l : List (Nat × Word)} {o : Option Nat} (e : s.writePairs i l = (t, o))
    (h : Keeps z s) : Keeps z t := by
  have := keeps_writePairs i l h; rw [e] at this; exact this

theorem keeps_clearNamed {z s : State} (e : ExecPkt) (n : Nat) (hz : Keeps z s) :
    Keeps z (s.clearNamed e n) := by
  unfold State.clearNamed
  (try dsimp only)
  repeat' first
    | (with_reducible assumption)
    | (with_reducible (apply keeps_freeIncident))
    | (with_reducible (apply keeps_completeLive))
    | (with_reducible (apply keeps_completeCode))
    | (with_reducible (refine keeps_foldl (fun u x hu => ?_) ?_))
    | (with_reducible (refine keeps_foldl_fst (fun u x hu => ?_) ?_))
    | (with_reducible (refine keeps_foldl_snd (fun u x hu => ?_) ?_))
    | split
    | fail_if_no_progress (with_reducible (apply keeps_lit))
    | fail_if_no_progress (with_reducible (apply keeps_sys))

theorem keeps_clearGone {z s : State} (e : ExecPkt) (hz : Keeps z s) :
    Keeps z (s.clearGone e) := by
  unfold State.clearGone
  (try dsimp only)
  repeat' first
    | (with_reducible assumption)
    | (with_reducible (apply keeps_freeIncident))
    | (with_reducible (apply keeps_completeLive))
    | (with_reducible (refine keeps_foldl (fun u x hu => ?_) ?_))
    | (with_reducible (refine keeps_foldl_fst (fun u x hu => ?_) ?_))
    | (with_reducible (refine keeps_foldl_snd (fun u x hu => ?_) ?_))
    | split
    | fail_if_no_progress (with_reducible (apply keeps_lit))
    | fail_if_no_progress (with_reducible (apply keeps_sys))

theorem keeps_ageCore {z s : State} (c : CoreId) (hz : Keeps z s) :
    Keeps z (s.ageCore c) := by
  unfold State.ageCore
  (try dsimp only)
  repeat' first
    | (with_reducible assumption)
    | (with_reducible (apply keeps_bump))
    | (with_reducible (apply keeps_setFld))
    | (with_reducible (refine keeps_foldl (fun u x hu => ?_) ?_))
    | (with_reducible (refine keeps_foldl_fst (fun u x hu => ?_) ?_))
    | (with_reducible (refine keeps_foldl_snd (fun u x hu => ?_) ?_))
    | split
    | fail_if_no_progress (with_reducible (apply keeps_lit))
    | fail_if_no_progress (with_reducible (apply keeps_sys))

theorem keeps_ageLease {z s : State}  (hz : Keeps z s) :
    Keeps z (s.ageLease ) := by
  unfold State.ageLease
  (try dsimp only)
  repeat' first
    | (with_reducible assumption)
    | (with_reducible (apply keeps_setFld))
    | (with_reducible (refine keeps_foldl (fun u x hu => ?_) ?_))
    | (with_reducible (refine keeps_foldl_fst (fun u x hu => ?_) ?_))
    | (with_reducible (refine keeps_foldl_snd (fun u x hu => ?_) ?_))
    | split
    | fail_if_no_progress (with_reducible (apply keeps_lit))
    | fail_if_no_progress (with_reducible (apply keeps_sys))

theorem keeps_agePack {z s : State}  (hz : Keeps z s) :
    Keeps z (s.agePack ) := by
  unfold State.agePack
  (try dsimp only)
  repeat' first
    | (with_reducible assumption)
    | (with_reducible (apply keeps_setFld))
    | (with_reducible (refine keeps_foldl (fun u x hu => ?_) ?_))
    | (with_reducible (refine keeps_foldl_fst (fun u x hu => ?_) ?_))
    | (with_reducible (refine keeps_foldl_snd (fun u x hu => ?_) ?_))
    | split
    | fail_if_no_progress (with_reducible (apply keeps_lit))
    | fail_if_no_progress (with_reducible (apply keeps_sys))

theorem keeps_restoreTick {z s : State}  (hz : Keeps z s) :
    Keeps z (s.restoreTick ) := by
  unfold State.restoreTick
  (try dsimp only)
  repeat' first
    | (with_reducible assumption)
    | (with_reducible (apply keeps_setFld))
    | (with_reducible (refine keeps_foldl (fun u x hu => ?_) ?_))
    | (with_reducible (refine keeps_foldl_fst (fun u x hu => ?_) ?_))
    | (with_reducible (refine keeps_foldl_snd (fun u x hu => ?_) ?_))
    | split
    | fail_if_no_progress (with_reducible (apply keeps_lit))
    | fail_if_no_progress (with_reducible (apply keeps_sys))

theorem keeps_idleTick {z s : State}  (hz : Keeps z s) :
    Keeps z (s.idleTick ) := by
  unfold State.idleTick
  (try dsimp only)
  repeat' first
    | (with_reducible assumption)
    | (with_reducible (apply keeps_restoreTick))
    | (with_reducible (apply keeps_agePack))
    | (with_reducible (apply keeps_ageLease))
    | (with_reducible (apply keeps_ageCore))
    | (with_reducible (apply keeps_takeFresh))
    | (with_reducible (apply keeps_burnDone))
    | (with_reducible (apply keeps_settle))
    | (with_reducible (apply keeps_threshStep))
    | (with_reducible (apply keeps_stagePump))
    | (with_reducible (apply keeps_formatDone))
    | (with_reducible (apply keeps_harvestNext))
    | (with_reducible (apply keeps_takeCompletions))
    | (with_reducible (apply keeps_applyConfirms))
    | (with_reducible (apply keeps_trainTick))
    | (with_reducible (refine keeps_foldl (fun u x hu => ?_) ?_))
    | (with_reducible (refine keeps_foldl_fst (fun u x hu => ?_) ?_))
    | (with_reducible (refine keeps_foldl_snd (fun u x hu => ?_) ?_))
    | split
    | fail_if_no_progress (with_reducible (apply keeps_lit))
    | fail_if_no_progress (with_reducible (apply keeps_sys))

end Sys2Proof.Laws
end

