-- ==== Sys2Proof/Tests/Slice0.lean ====
section
/-! SUPPORT. Our own tests: an ill-formed command for each check of WellFormed, and, for each statement with hypotheses, states and operands that meet them. -/

namespace Sys2Proof.Tests

open Sys2Proof Sys2Proof.Machine Sys2Proof.Machine.Reg

/-- A command on sub-channel A, sampled in these UIs. -/
def caOf (uis : List (BitVec 7 × Bool)) : CaCmd := ⟨.a, 0, 0, uis⟩
/-- A record of this code with a payload of this length. -/
def recOf (code len : Nat) : EvRecord := ⟨.note, false, code, 3, 9, List.replicate len 0⟩
/-- A boot of this many dies per channel. -/
def bootDies (d : Fin 5) : BootEnv := ⟨0, d, [], []⟩

theorem test_wf_takes : WellFormed (.hostRefresh (caOf [(3, true)])) = true ∧ WellFormed (.cwIgnored (caOf [(3, true)]) 4 0) = true ∧
    WellFormed (.recordArrival (some (recOf 0x40 212)) false false 0) = true ∧ WellFormed (.railGood 3 (bootDies 4)) = true := by decide +kernel
theorem test_wf_refuses_no_ui : WellFormed (.hostRefresh (caOf [])) = false := by decide +kernel
theorem test_wf_refuses_five_uis : WellFormed (.hostRefresh (caOf (List.replicate 5 (3, true)))) = false := by decide +kernel
theorem test_wf_refuses_cw_index : WellFormed (.cwIgnored (caOf [(3, true)]) 3 0) = false ∧ WellFormed (.cwIgnored (caOf [(3, true)]) 0x15 0) = false := by decide +kernel
theorem test_wf_refuses_record_code : WellFormed (.recordArrival (some (recOf 0x48 0)) false false 0) = false ∧ WellFormed (.recordArrival (some (recOf 0 0)) false false 0) = false := by decide +kernel
theorem test_wf_refuses_record_length : WellFormed (.recordArrival (some (recOf 1 213)) false false 0) = false := by decide +kernel
theorem test_wf_refuses_three_dies : WellFormed (.railGood 3 (bootDies 3)) = false ∧ WellFormed (.railNoStart 3 (bootDies 3)) = false ∧ WellFormed (.railChatter 3 (bootDies 0)) = false := by decide +kernel
theorem test_wf_refuses_long_write : WellFormed (.sbPrivateWrite 0x3A (List.replicate 261 0)) = false := by decide +kernel
theorem test_wf_refuses_unequal_scan : WellFormed (.samplePreload [true] []) = false := by decide +kernel

/-! States and operands that meet the hypotheses of the statements, one theorem per statement, each clause with its own. -/

set_option linter.all false
set_option Elab.async false

def parOk (v : BitVec 7) : BitVec 7 × Bool := (v, (List.range 7).foldl (fun b i => b ^^ v.getLsbD i) false)
def good (x : Sub) : CaCmd := ⟨x, 0, 0, [parOk 5, parOk 0x41]⟩
def up (m : Mode) : State := { (State.reset.setFlag CLK_STS_H_LOCK true) with sys := { State.reset.sys with mode := m } }
def ph (p : Phase) : State := { up .attach with sys := { (up .attach).sys with phase := p } }
def withRow (s : State) (c : CaCmd) (b : BankAddr) (r : Nat) : State := { s with hbp := { s.hbp with rows := smapPut s.hbp.rows (cmdBank c b) r } }
def sm (m : Mode) : State := (up m).setWord 0x2008 0
def pkB (op flags seq ring tag : Nat) (pl : List Byte) : List Byte :=
  let b := ((leBytes 1 op ++ leBytes 1 flags ++ leBytes 2 seq ++ leBytes 2 ring ++ leBytes 2 tag ++ pl) ++ List.replicate 64 0).take 60
  b ++ leBytes 4 (crc32c b).toNat
def kited (s : State) : State := (((s.setFld SPT_KITE_HOLDER 1).setFld SPT_HB_A_STATE 2).setFlag SPT_HB_A_ALIVE true).setFld SPT_KITE_LEASE_LEFT 100
/-- A packet in execution; its CRC has been checked and is not kept here. -/
  def ex (s : State) (src : PktSrc) (op : Nat) (pl : List Byte) : State :=
  { s with pkt := { s.pkt with exec := s.pkt.exec ++ [⟨src, 7, 3, (pkB op 1 7 5 9 pl).take 60 ++ [0, 0, 0, 0], false, false, 0⟩] } }
def ring1 (s : State) (r : Nat) : State := { s with pkt := { s.pkt with rings := smapPut s.pkt.rings r ⟨true, true, 2, 7, 0, 0, 0, 0⟩ } }
def svc : State := kited (sm .service)
def tapE (r slot : Nat) (bs : List Byte) : TapEntry := ⟨0x10000000 + r * 1024 + slot * 64, 9, BitVec.ofNat 512 (leNat bs), 0⟩
def pap (s : State) : State := (s.setFlag PKT_PAP_EN true).setFld PKT_PAP_BASE 0x100
def learnt (s : State) : State := s.setFld CLN_STS_STATE 4
def pc (s : State) (e : TapEntry) : State := let s := (ring1 (pap (learnt s)) 5).setFlag PKT_CTL_CHK_HOST false; { s with hbp := { s.hbp with packetQ := [e, tapE 1 1 []] } }
def gap (s : State) : State := s.setFlag SPT_KITE_GAP true
def held (s : State) (l : List HeldPkt) : State := { s with pkt := { s.pkt with held := l } }
def bad : List Byte := (pkB 1 1 7 5 9 []).set 20 1
def ls (s : State) : State := (kited (s.setWord 0x2008 0)).setFlag TRN_STS_DRAM_READY true
def lf (s : State) (st : Nat) (e : LearnEntry) : State := let s := ls s; { s.setFld CLN_STS_STATE st with cln := { s.cln with base := 0x10000, fifo := [e, ⟨0,0,0,false⟩] } }
def ck (s : State) (h d f : LockSt) : State := { s with clk := { s.clk with h := h, d := d, f := f } }
def tm (s : State) (m : TrainMode) : State := { s with hbp := { s.hbp with train := some m } }
def capR : Region := ⟨.capturing, 3, 10, 0, 0, 0, 0, 0, 0, false, 0, false⟩
def dst (s : State) (g : Nat) (d : Dirty) : State := { s with per.dirty := ⟨s.per.dirty.1, smapPut s.per.dirty.2 g d⟩ }
def smp (s : State) (g : Nat) (m : MapEntry) : State := { s with per.smap := ⟨s.per.smap.1, smapPut s.per.smap.2 g m⟩ }
def lineOf (g l : Nat) : Nat := g * 2 ^ 20 + l * 64
def slotE (g : Nat) : Slot := ⟨4, g, [], 0, 0, false, none, true, 0, 0, []⟩
def slotsS (s : State) (l : List Slot) : State := { s with gln.slots := l, gln.nextSlot := 9 }
def fifo (s : State) (l : List TapEntry) : State := { s with gln.fifo := l }
def te (g l st : Nat) : TapEntry := ⟨lineOf g l, st, 0x77, 5⟩
def reg5 (s : State) (v : Region) : State := { s with gln.regions := [(5, v)] }
def shf (g st : Nat) : Sheaf := ⟨3, 0, [], 0, [], g, 1, st, 0, [1,2], false, [(3, 99)], [(3, 7)]⟩
def putS (s : State) (a : Nat) (v : Sheaf) : State := { s with flash.sheaves := smapPut s.flash.sheaves a v }
def dies1 (s : State) : State := { s with flo.org := { s.flo.org with dies := 1, stooks := [(100, ⟨4, false, false, [], [], 0, 0⟩), (101, ⟨5, false, true, [], [], 0, 0⟩), (102, ⟨2, false, false, [], [], 0, 0⟩)] } }
def chainE (n : Nat) : ChainEnt := ⟨n, List.replicate 256 (BitVec.ofNat 8 n), [], false, [n]⟩
def rec1 (n : Nat) : LedgerEntry := ⟨n, 5, 0, .lodge 1 2 3 4⟩
def glnS : State := reg5 (dst (dst svc 5 .gleanPending) 6 .dirty) capR
def cls (s : State) (b : Bool) : State := let s := ex s .mailbox 6 (leBytes 2 5); match s.pkt.exec with | e :: _ => { s with sea.closes := [(5, 40, e, b)] } | [] => s
def fl (s : State) (j : ExecPkt → ChainJob) : State := let s := ex s .mailbox 6 (leBytes 2 5); match s.pkt.exec with | e :: _ => { s with sea.flight := some ⟨9, List.replicate 256 3, [(5, 77)], j e⟩ } | [] => s
def img0 : Image := ⟨1, 0, false, false, false, false, 3, 2, 50, 1, 0, 0, 0, 0x400, 1, 0, 3, 77, 0, 9, List.replicate 32 1, 4, 3, 2, [0, 1], [(5, ⟨⟨2, false, 0, 88⟩, 0, false⟩)], [], [], [], [], [], [0x400]⟩
def railW (mb ch mv : Nat) : Word := BitVec.ofNat 32 (mb*2^29 + ch*2^27 + 40*2^12 + mv)
def tab0 : List Word := [BitVec.ofNat 32 (0x01040000 + 0x2A00)] ++ [0,0] ++ ((List.range 14).map (fun r => railW (r/4) (r%4) 750)) ++ [0,0] ++ [0] ++ List.replicate 11 0
/-- A power table that passes the checks of R469, with its CRC. -/
  def tab : List Word :=
  [17050112, 0, 0, 164590, 134382318, 268600046, 402817774, 537035502, 671253230, 805470958, 939688686, 1073906414, 1208124142, 1342341870, 1476559598, 1610777326, 1744995054]
  ++ List.replicate 14 0 ++ [1611987527]
/-- The registers as that table leaves them. -/
  def tabRegs : SMap Word :=
  [(4104, 42), (8200, 0), (57348, 1), (61696, 2147689198), (61700, 2151883502), (61704, 2156077806), (61708, 2160272110), (61712, 2164466414), (61716, 2168660718), (61720, 2172855022), (61724, 2177049326), (61728, 2181243630), (61732, 2185437934), (61736, 2189632238), (61740, 2193826542), (61744, 2198020846), (61748, 2202215150)]
  ++ [(147488, 5), (147492, 5), (147496, 5), (147500, 5), (147504, 5), (147508, 5), (147512, 5), (147516, 5)]
  ++ [(147968, 17050112), (147980, 164590), (147984, 134382318), (147988, 268600046), (147992, 402817774), (147996, 537035502), (148000, 671253230), (148004, 805470958), (148008, 939688686), (148012, 1073906414), (148016, 1208124142), (148020, 1342341870), (148024, 1476559598), (148028, 1610777326), (148032, 1744995054), (148092, 1611987527)]
  def tbl (s : State) : State := { s with regs := tabRegs }
def run0 : SaveRun := ⟨4, 50, 5, true, false, 0, [], 0, [.gran 5, .group 1, .metadata, .index 0], [], [], 0, [], [], 0, 0, false, [], [], [], false, [], [], none, 0, []⟩
def svd (r : SaveRun) : State := { dies1 (sm .save) with sav.run := some r, hbp.stamp := 50 }
def kf (k : KeeperFrom) : State := { sm .keeper with sys.keeperFrom := k }
def noplan (s : State) (b : Bool) : State := s.setFlag CFG_MODE_NO_PLAN b
def wt (m : Mode) (seq stage : Nat) (wait : List Nat) : State :=
  let b : BitVec 33 := wait.foldl (fun a r => a ||| railBit r) 0
  { (((tbl (sm m)).setFld PWR_SEQ_STS_STATE seq).setFld PWR_SEQ_STS_STAGE stage) with pwr.waiting := b, pwr.en := b, pwr.armed := BitVec.allOnes 16 }
def goodAll (s : State) : State := (List.range 33).foldl (fun u r => u.setRailGood r true) s
def b0 : BootAnchor := ⟨0, 0, 3, 0, 2, 0, 1, []⟩
def b1 : BootAnchor := ⟨0, 0, 3, 0, 2, 0, 1, [(0, (3, 0, 9, [3, 144, 88, 198, 242, 192, 203, 73, 44, 83, 59, 10, 77, 20, 239, 119, 204, 15, 120, 171, 204, 206, 213, 40, 125, 132, 161, 162, 1, 28, 251, 129])), (1, (4, 2, 10, [159, 100, 167, 71, 225, 185, 127, 19, 31, 171, 182, 180, 71, 41, 108, 155, 111, 2, 1, 231, 159, 179, 197, 53, 110, 108, 119, 232, 155, 106, 128, 106]))]⟩
def bd (owner : Nat) : State := (((sm .save).setFld DCT_STS_OWNER owner).setFlag DCT_STS_OWNED true)
def hv (s : State) : State := ((s.setFlag DCT_STS_OWNED true).setFlag DCT_STS_HARVESTING true).setFld DCT_STS_OWNER 3
def hal : State := ((((((noplan (sm .lull) false).setFlag DCT_HARV_CTL_EN true).setFlag CLK_STS_DISCONT false).setFlag CLK_STS_D_LOCK true).setFlag DCT_HARV_CTL_FLUSH_EN true).setFlag DCT_HARV_CTL_RETRAIN_EN true)
def jb (j : HarvestJob) : State := { hv hal with bdc.jobs := [j] }
def hj : HarvestJob := ⟨5, false, 50, true, false, [(5 * 16384 + 3, (7, 8))], [], false, none, 0⟩
def hjr : HarvestJob := { hj with repair := true }
def inc (k num : Nat) (m : FaultMsg) (st : IncState) : Nat × Incident := (k, ⟨num, st, m, 5, 6, [], 0, 0, false, false, .log, true, false⟩)
def mm : FaultMsg := ⟨20, .unitError, .fault, 0, 0, false⟩
def noAc (s : State) : State := s.setFlag FLT_CTL_AUTOCLR false
def stg (op : Nat) (pl : List Byte) (st : Option Staging) (b : Option BootAnchor) : State := { ex svc .mailbox op pl with pln.staging := st, flash.boot := b }
def clr (s : State) (k : CoreId) : State := s.setFld (coreStateFld k) 3
def rcs (s : State) (b : Option Nat) : State := { s with evr := { s.evr with base := b, nextSeq := 9, fresh := [] } }
def snp (s : State) : State := (((s.setFlag EVR_CTL_SNAP_EN true).setFlag (EVR_SNAP_CTL_EN 3) true).setFld (EVR_SNAP_CTL_CODE 3) 0x50).setFlag (EVR_SNAP_CTL_ANY_SRC 3) true
def mkD (op mode mask block page kind buf tag target : Nat) : List Byte :=
  let b := leBytes 1 op ++ leBytes 1 mode ++ leBytes 2 mask ++ leBytes 2 block ++ leBytes 2 page ++ leBytes 4 (kind * 2^30 + buf) ++ leBytes 4 0 ++ leBytes 4 tag ++ leBytes 4 target ++ leBytes 4 0
  b ++ leBytes 4 (crc32c b).toNat
def dRd := mkD 1 0 1 5 7 0 0x10000 0x10000001 0
def dPg := mkD 2 0 0xF 5 7 0 0x10000 0x10000002 0
def dPgT := mkD 2 1 0xF 5 3 0 0x10000 0x10000003 0
def dEr := mkD 3 0 0 5 0 0 0 0x10000004 0
def dSu := mkD 4 0 0 0 0 0 0 0x10000005 0
def dRe := mkD 5 0 0 0 0 0 0 0x10000006 0
def dAb (t : Nat) := mkD 6 0 0 0 0 0 0 0x10000007 t
def dSt := mkD 7 0 0 0 0 0 0 0x10000008 0
def dPa := mkD 8 0 0 0 0 0 0x10000 0x10000009 0
def dv (s : State) (ch d : Nat) (v : Die) : State := ({ s with flo.dieTable := smapPut s.flo.dieTable (ch * 4 + d) (true, [1, 2]) } : State).setDie ch d v
def fr (x : List Byte) : FRun := ⟨x, true, 0⟩
def q1 (x : List Byte) : Die := { Die.idle with hi := [x] }
def q2 (x : List Byte) (st : DieSt) (er : Option FRun) (op : Option FRun) : Die := { Die.idle with hi := [x], st := st, erase := er, op := op }
def rs (st : DieSt) (er : Option FRun) (op : Option FRun) : State := dv svc 3 1 { Die.idle with st := st, erase := er, op := op }
def thr (s : State) : State := { (s.setFld SAV_STS_STAGE 7).setFlag SAV_STS_THRESHING true with sav.thresh := some 3, flash.images := [{ img0 with gen := 2 }, { img0 with gran := [(5, ⟨⟨1, false, 2, 88⟩, 0, false⟩), (6, ⟨⟨2, false, 2, 89⟩, 0, false⟩)], own := [] }], flash.imageGen := 3 }
def led (s : State) : State := { s with evr.base := some 3, evr.nextSeq := 9 }
def mbxS (op : Nat) (pl : List Byte) (s : State) : State := (List.range 16).foldl (fun u i => u.setWord (0x5100 + 4 * i) (BitVec.ofNat 32 (leNat (sliceBytes (pkB op 0 7 0 9 pl) (4*i) 4)))) s
def wr1 (a v : Nat) : State := ex svc .mailbox 3 ([1,0,0,0] ++ leBytes 4 a ++ leBytes 4 v)
def few (s : State) : State := { noplan s false with per.dirty := ⟨.clean, [(5, .dirty)]⟩, flash.images := [img0], flash.imageGen := 3 }
def room (s : State) : State := { s with flo.org := { s.flo.org with dies := 1, stooks := [(100, ⟨4, false, false, [], [], 0, 0⟩), (101, ⟨5, false, true, [], [], 0, 0⟩), (102, ⟨2, false, false, [], [], 0, 0⟩)] ++ (List.range 3).map (fun k => (110 + k, ⟨1, false, false, [], [], 0, 0⟩)) } }
def fit (s : State) : State :=
  let t := ((((room (few s)).setFlag PLN_STS_PACK_SHORT true).setFlag PER_STS_ALL_DIRTY false).setFld PER_STS_CHAIN_POS 1).setFld PLN_BUDGET 0
  { t with flash.swath := [110] }
def railed (s : State) : State := { (goodAll s) with pwr.en := 0x1FFFFFFFF#33 }
def mo (m : Mode) (b : Bool) (st : State) : State := { (st.setFlag PWR_FEED_STS_A_GOOD b) with sys := { st.sys with mode := m } }
def wb (b : BootAnchor) (a : List (Nat × List Byte)) : State := { wt .powerUp 1 7 [16] with flash := { (wt .powerUp 1 7 [16]).flash with boot := some b, anchors := [(b, [0, 1])], twins := a } }
def plansHdr : List Byte := (List.range 21).flatMap (fun p => leBytes 4 (192 + 4 + 4 * p))
def planImg (gran dies : Nat) (dig : List Byte) : List Byte :=
  [0x59, 0x47, 0x50, 0x4C, 1, 21, 0, 0] ++ leBytes 4 10 ++ leBytes 4 0x9716 ++ [2, BitVec.ofNat 8 dies, 0, 0] ++ leBytes 4 gran ++ leBytes 2 1 ++ leBytes 2 1 ++ leBytes 2 1000 ++ leBytes 2 0 ++ leBytes 2 1 ++ [1, 0] ++ leBytes 4 0 ++
  leBytes 4 0 ++ leBytes 4 0 ++ dig ++ List.replicate 24 0 ++ plansHdr ++ leBytes 4 0 ++ leBytes 2 0 ++ leBytes 2 0 ++ (List.range 21).flatMap (fun p => leBytes 2 p ++ leBytes 2 0)
/-- A configuration image that the store takes, and its SHA-256. -/
def planM : List Byte :=
[89, 71, 80, 76, 1, 21, 0, 0, 10, 0, 0, 0, 22, 151, 0, 0, 2, 0, 0, 0, 0, 128, 0, 0, 1, 0, 1, 0, 232, 3, 0, 0, 1, 0, 1, 0, 0, 0, 0, 0, 0, 0, 0, 0, 0, 0, 0, 0, 86, 38, 217, 168, 241, 215, 54, 75, 97, 131, 154, 109, 71, 253, 199, 225]
++ [81, 154, 189, 166, 112, 74, 179, 65, 254, 141, 52, 87, 95, 15, 170, 142, 0, 0, 0, 0, 0, 0, 0, 0, 0, 0, 0, 0, 0, 0, 0, 0, 0, 0, 0, 0, 0, 0, 0, 0, 196, 0, 0, 0, 200, 0, 0, 0, 204, 0, 0, 0, 208, 0, 0, 0, 212, 0, 0, 0, 216, 0, 0, 0]
++ [220, 0, 0, 0, 224, 0, 0, 0, 228, 0, 0, 0, 232, 0, 0, 0, 236, 0, 0, 0, 240, 0, 0, 0, 244, 0, 0, 0, 248, 0, 0, 0, 252, 0, 0, 0, 0, 1, 0, 0, 4, 1, 0, 0, 8, 1, 0, 0, 12, 1, 0, 0, 16, 1, 0, 0, 20, 1, 0, 0, 0, 0, 0, 0]
++ [0, 0, 0, 0, 0, 0, 0, 0, 1, 0, 0, 0, 2, 0, 0, 0, 3, 0, 0, 0, 4, 0, 0, 0, 5, 0, 0, 0, 6, 0, 0, 0, 7, 0, 0, 0, 8, 0, 0, 0, 9, 0, 0, 0, 10, 0, 0, 0, 11, 0, 0, 0, 12, 0, 0, 0, 13, 0, 0, 0, 14, 0, 0, 0]
++ [15, 0, 0, 0, 16, 0, 0, 0, 17, 0, 0, 0, 18, 0, 0, 0, 19, 0, 0, 0, 20, 0, 0, 0]
def planSha : List Byte := [18, 238, 17, 241, 109, 190, 3, 86, 240, 69, 4, 184, 44, 123, 175, 16, 150, 97, 66, 130, 210, 212, 182, 201, 243, 24, 51, 60, 104, 97, 132, 100]
def stagedA (pk : Bool) : State :=
  let s0 := (stg 0x0D (leBytes 4 10) none (some b1)).setFld PWR_PACK_E 100000
  let s0 := { s0 with flash.boot := some { b1 with dir := b1.dir ++ [(4, (4, 280, 10, planSha))] }, flash.twins := [(4, planM)],
                      flo.org := { s0.flo.org with dies := 1, stooks := (List.range 5).map (fun k => (110 + k, ⟨1, false, false, [], [], 0, 0⟩)) } }
  s0.setFlag PLN_STS_PACK_SHORT pk
def w_svc : State := svc
def w_row : State := withRow svc (good .a) ⟨0,0⟩ 77
def w_pcmode : State := { sm .attach with hbp := { (sm .attach).hbp with packetQ := [tapE 5 3 (pkB 1 1 7 5 9 [])] } }
def w_pcunl : State := (pc svc (tapE 5 3 (pkB 1 1 7 5 9 []))).setFld CLN_STS_STATE 1
def w_pcok : State := pc svc (tapE 5 3 (pkB 1 1 7 5 9 []))
def w_pcdis : State := pc svc (tapE 6 3 (pkB 1 1 7 5 9 []))
def w_pcbad : State := pc svc (tapE 5 3 bad)
def w_pcring : State := pc svc (tapE 5 3 (pkB 1 1 7 4 9 []))
def w_pcslot : State := pc svc (tapE 5 2 (pkB 1 1 7 5 9 []))
def w_disp : State := held (ring1 (ring1 svc 5) 6) [⟨5, 7, 20, pkB 1 0 7 5 9 []⟩, ⟨6, 7, 11, pkB 1 0 7 6 9 []⟩]
def w_halt : State := { svc with pkt := { svc.pkt with halted := true } }
def w_gapr : State := held (ring1 svc 5) [⟨5, 8, 20, pkB 1 0 8 5 9 []⟩, ⟨6, 9, 1, pkB 1 0 7 6 9 []⟩, ⟨5, 9, 21, pkB 1 0 9 5 9 []⟩]
def w_gapr2 : State := gap (held (ring1 svc 5) [⟨5, 8, 20, pkB 1 0 8 5 9 []⟩])
def w_mbxbusy : State := svc.setFlag PKT_MBX_STS_BUSY true
def w_mbx : State := (List.range 16).foldl (fun u i => u.setWord (0x5100 + 4 * i) (BitVec.ofNat 32 (leNat (sliceBytes (pkB 1 0 7 0 9 []) (4*i) 4)))) svc
def w_nop : State := ex (ex (ring1 svc 5) (.ring 5) 1 []) .mailbox 1 []
def w_nopgap : State := gap (ex (ring1 svc 5) (.ring 5) 1 [])
def w_rd0 : State := ex svc .mailbox 2 [0]
def w_rd2 : State := ex svc .mailbox 2 ([2,0,0,0] ++ leBytes 4 0x1000 ++ leBytes 4 0x2000)
def w_rd2b : State := ex svc .mailbox 2 ([2,0,0,0] ++ leBytes 4 0x1000 ++ leBytes 4 0x2002)
def w_wr0 : State := ex svc .mailbox 3 [0]
def w_wr2 : State := ex svc .mailbox 3 ([2,0,0,0] ++ leBytes 4 0x1010 ++ leBytes 4 0x2000 ++ leBytes 4 0x1014 ++ leBytes 4 8)
def w_wr2b : State := ex svc .mailbox 3 ([2,0,0,0] ++ leBytes 4 0x1010 ++ leBytes 4 0x2000 ++ leBytes 4 0x5100 ++ leBytes 4 8)
def w_iq0 : State := ex svc .mailbox 0x0A [0]
def w_iq1 : State := ex svc .mailbox 0x0A [1]
def w_iq2 : State := ex svc .mailbox 0x0A [2]
def w_lrh : State := ex svc .mailbox 0x0F ([0,0,0,0,0,0,0xFF,0xFF])
def w_lrhf : State := (ex svc .mailbox 0x0F ([0,0,0,0,0,0,0xFF,0xFF])).setFlag EVR_STS_FENCED true
def w_lrhl : State := let s := ex svc .mailbox 0x0F ([4,0,0,0,0,0,0xFF,0xFF]); { s with evr := { s.evr with base := some 3, nextSeq := 9, log := [⟨⟨.note,false,0x50,3,9,[1]⟩,false,false,some 3,0,0,0,false⟩, ⟨⟨.note,false,0x51,3,9,[1]⟩,false,false,some 5,0,0,0,false⟩, ⟨⟨.note,false,0x52,3,9,[1]⟩,false,false,some 6,0,0,0,false⟩] } }
def w_lrdl : State := let s := ex svc .mailbox 0x0F ([5,0,0,0,0,0,16,0]); { s with evr := { s.evr with base := some 3, nextSeq := 9, log := [⟨⟨.note,false,0x50,3,9,[1]⟩,false,false,some 3,0,0,0,false⟩, ⟨⟨.note,false,0x51,3,9,[1]⟩,false,false,some 5,0,0,0,false⟩, ⟨⟨.note,false,0x52,3,9,[1]⟩,false,false,some 6,0,0,0,false⟩] } }
def w_dmark : State := { svc with hbp := { svc.hbp with dirtyQ := [(5, 9), (6, 10)] } }
def w_cdel : State := let s := ex svc .mailbox 4 ([0,0,1,0]); { s with gln := { s.gln with regions := [(0, ⟨.capturing, 3, 10, 0, 1, 0, 0, 0, 0, false, 0, false⟩)], cover := [(5, true)], repair := [(4, 3), (20, 1)], fifo := [⟨5 * 2^20, 3, 1, 1⟩] } }
def w_flu : State := let s := ex svc .mailbox 8 (leBytes 4 3 ++ leBytes 4 9); { s with per := { s.per with dirty := ⟨.clean, [(5, .flushing), (6, .dirty), (7, .dirty)]⟩, flushQ := [7] } }
def w_flu0 : State := ex svc .mailbox 8 (leBytes 4 3)
def w_ts : State := ex svc .mailbox 0x0B (leBytes 8 100)
def w_ts3 : State := let s := ex svc .mailbox 0x0B (leBytes 8 100); { s with evr := { s.evr with wall := some (500, 0), base := some 3, nextSeq := 9 } }
def w_tsc : State := let s := ex svc .mailbox 0x0B (leBytes 8 100); match s.pkt.exec with | e :: _ => { s with sea := { s.sea with flight := some ⟨4, List.replicate 256 0, [], .timeStep 77 e⟩ } } | [] => s
def w_ca : State := tm (ls (ph .train)) .ca
def w_cs : State := tm (ls (ph .train)) .cs
def w_wl : State := tm (sm .rebound) .writeLevel
def w_step1 : State := (ls (ph .train)).setFld TRN_STS_STEP 3
def w_ls : State := ex (ls (ph .train)) .mailbox 0x14 []
def w_lsx : State := ex (ls (sm .service)) .mailbox 0x14 []
def w_lsb : State := (ex (ls (ph .learn)) .mailbox 0x14 []).setFld CLN_STS_STATE 2
def w_lf1 : State := lf (ph .learn) 1 ⟨0x10000, 0, 5, false⟩
def w_lf1b : State := let s := lf (ph .learn) 1 ⟨0x10000, 0, 5, false⟩; { s with cln := { s.cln with zero := some 7 } }
def w_lf1s : State := lf (ph .learn) 1 ⟨0x77777000, 0, 5, false⟩
def w_lf2 : State := lf (ph .learn) 2 ⟨0x77777000, 0, 5, false⟩
def w_lf3 : State := lf (ph .learn) 3 ⟨0x77777000, 0, 5, false⟩
def w_lf2x : State := let s := lf (ph .learn) 2 ⟨0x77777000, 0, 5, false⟩; { s with cln := { s.cln with zero := some 1, classes := [(0, 3), (1, 4), (33, 9)] } }
def w_sref : State := { svc with hbp := { svc.hbp with selfRef := 15 } }
def w_lck : State := ck svc .locked .idle .idle
def w_stop : State := let s := ck svc .idle .idle .idle; { s with clk := { s.clk with present := false } }
def w_coast2 : State := let s := (ck svc .locked .idle .idle).setFlag CLK_STS_COAST true; { s with clk := { s.clk with present := false } }
def w_coast3 : State := let s := ((ck svc .locked .idle .idle).setFlag CLK_STS_COAST true).setFlag PWR_FEED_STS_A_GOOD true; { s with clk := { s.clk with present := false } }
def w_disc : State := (svc.setFlag CLK_STS_DISCONT true)
def w_ldh : State := ck svc .loading .loading .loading
def w_sdh : State := ck svc .searching .searching .searching
def w_blockA : State := svc.setFlag HBP_PAR_STS_BLOCK_A true
def w_img : State := { ex svc .mailbox 0x0A [0] with flash.images := [{ img0 with gen := 2 }, img0] }
def w_sof : State := (reg5 (ex svc .mailbox 5 (leBytes 2 5)) capR).setFlag SEA_STS_CHAIN_FAULT true
def w_sc : State := reg5 (ex svc .mailbox 6 (leBytes 2 5)) { capR with st := .opened }
def w_scf : State := (reg5 (ex svc .mailbox 6 (leBytes 2 5)) { capR with st := .opened }).setFlag SEA_STS_CHAIN_FAULT true
def w_gr : State := reg5 (ex svc .mailbox 7 (leBytes 2 5 ++ leBytes 6 77)) { capR with st := .sealed, sealSeq := 77 }
def w_grf : State := (ex svc .mailbox 7 (leBytes 2 5)).setFlag SEA_STS_CHAIN_FAULT true
def w_grn : State := reg5 (ex svc .mailbox 7 (leBytes 2 5)) capR
def w_bar : State := cls (reg5 svc { capR with st := .closing }) false
def w_barw : State := fifo (cls (reg5 svc { capR with st := .closing }) false) [te 5 3 7]
def w_cont : State := { cls (reg5 svc { capR with st := .closing }) true with evr := { svc.evr with nextSeq := 9, base := some 0 } }
def w_cont2 : State := putS { cls (reg5 svc { capR with st := .closing }) true with evr := { svc.evr with nextSeq := 9, base := some 0 }, flash.chain := [chainE 4], gln := { (reg5 svc { capR with st := .closing }).gln with cover := [(5, true)] } } 88 (shf 5 30)
def w_rcd : State := { fl (reg5 svc { capR with st := .sealed, releasing := true }) (.release 5 4) with flash.chain := [chainE 4] }
def w_fet : State := { svc with sea.fetch := some 4 }
def w_fet2 : State := { svc with sea.fetch := some 4, flash.chain := [chainE 3, chainE 4] }
def w_g1 : State := { fifo glnS [te 5 3 9, te 5 4 10] with hbp.dirtyQ := [(7, 5)] }
def w_g3 : State := slotsS (fifo glnS [te 5 3 9, te 5 4 10]) [slotE 5]
def w_g4 : State := fifo glnS [te 6 3 9]
def w_g9 : State := slotsS glnS [{ slotE 5 with closed := true, sheaf := some 100, lines := [(3, (8, 8))] }]
def w_g10c : State := { smp (putS (fifo (slotsS glnS [{ slotE 5 with closed := true, sheaf := some 100, done := BitVec.allOnes 17, lines := [(3, (8, 8)), (70, (9, 9))], stamp := 12 }]) [te 5 1 30]) 88 (shf 5 3)) 5 ⟨2, false, 0, 88⟩ with hbp.dirtyQ := [] }
def w_rep : State := let s := dst (smp (putS (dies1 svc) 88 (shf 5 3)) 5 ⟨2, false, 0, 88⟩) 5 .clean; { s.setFlag GLN_CTL_REPAIR_EN true with gln.repair := [(5, 0)], hbp.stamp := 50 }
def w_fold : State := smp (putS (dies1 svc) 88 (shf 5 3)) 5 ⟨2, false, 0, 88⟩
def w_led : State := { svc.setFlag FLO_STS_READY true with flo.pendingRecs := [rec1 4, rec1 5] }
def w_sv1 : State := svd run0
def w_sv4 : State := svd { run0 with handed := true, work := [] }
def w_sv4a : State := (svd { run0 with handed := true, work := [] }).setFlag PWR_FEED_STS_A_GOOD true
def w_sa : State := { up .rebound with sav.second := some 4, flash.images := [img0, { img0 with gen := 4 }] }
def w_ho : State := let s := ph .train; { s with sys.attempt := true }
def w_hof : State := (ph .train).setFlag TRN_STS_DRAM_FAIL true
def w_hor : State := { (((ph .learn).setFld SAV_RST_DEC_CODE 1).setFld SAV_RST_GEN 3) with sys := ⟨.attach, .learn, .none, false, false, true⟩, flash.images := [img0], hbp.selfRef := 3 }
def w_hrb : State := { goodAll ((up .rebound).setFld PWR_SEQ_STS_STATE 2) with hbp.selfRef := 15 }
def w_hrbl : State := { goodAll ((up .rebound).setFld PWR_SEQ_STS_STATE 2) with clk.h := .locked, clk.present := true, hbp.selfRef := 15 }
def w_sd0 : State := wt .shutDown 3 0 [1]
def w_sd2b : State := { wt .shutDown 3 5 [16] with pwr.en := BitVec.allOnes 33 }
def w_sd2d : State := wt .shutDown 3 5 [5, 16]
def w_gb : State := (up .rebound).setFlag PWR_FEED_STS_GATE_A true
def w_th1 : State := { noplan ((up .lull).setFlag SAV_CTL_THRESH_EN true) false with flash.images := [img0], sav.thresh := some 3 }
def w_th2b : State := { noplan ((up .lull).setFlag SAV_CTL_THRESH_EN true) false with flash.images := [{ img0 with pos := 99 }] }
def w_th3 : State := { (putS (putS (dies1 (up .lull)) 0x400 (shf 5 3)) 88 (shf 5 3)).setFld SAV_STS_STAGE 7 with flash.images := [img0], sav.thresh := some 3 }
def w_sdp : State := { up .shutDown with pwr.dramPoint := true }
def w_tst : State := { (svc.setFlag PWR_FEED_STS_A_GOOD true) with pwr.test := some (.packet, .settling), pwr.load := true }
def w_rf1 : State := wt .powerUp 1 5 [5, 16]
def w_rf2 : State := wt .rebound 1 5 [5, 16]
def w_rf3 : State := wt .powerUp 1 7 [15, 16]
def w_rfr : State := { wt .service 2 7 [] with pwr.retries := [(20, 2), (15, 1)] }
def w_rgs : State := goodAll (up .shutDown)
def w_wr : State := wt .powerUp 1 0 [1]
def w_wr3 : State := wt .rebound 1 7 [16]
def w_bt0 : State := wt .powerUp 1 7 [20]
def w_seq7 : State := (up .powerUp).setFld SPT_STS_SEQ 7
def w_kg : State := { ((up .powerUp).setFlag SPT_HB_A_ALIVE true) with sys := ⟨.powerUp, .none, .none, false, false, true⟩, pwr.bootDone := true, pwr.backoff := 3 }
def w_gate : State := svc.setFlag PWR_FEED_STS_GATE_A true
def w_gatep2 : State := (wt .rebound 2 7 []).setFlag PWR_FEED_STS_GATE_A true
def w_por0 : State := { State.reset with nv := { State.reset.nv with ptab := List.replicate 32 1, torn := true } }
def w_por1 : State := { State.reset with nv.ptab := tab }
def w_ue : State := { svc with flt.errLines := [5, 3] }
def w_sh : State := { svc with flt.shadows := [⟨77, .glean, [], false⟩], flt.fenced := [(.glean, 77, false)] }
def w_sh2 : State := { svc with flt.shadows := [⟨77, .seal, [], false⟩], flt.fenced := [(.seal, 77, true)] }
def w_sh3 : State := { svc.setFlag FLT_CTL_AUTOCLR false with flt.shadows := [⟨77, .glean, [], false⟩], flt.fenced := [(.glean, 77, false)], flt.errLines := [20], flt.slots := [(0, ⟨77, .held, ⟨20, .unitError, .fault, 0, 0, false⟩, 5, 6, [], 0, 0, false, false, .fence, false, false⟩)] }
def w_bp : State := hv hal
def w_bp1 : State := bd 1
def w_bp2 : State := { bd 2 with bdc.reqs := [⟨18, 64, 0, false, false⟩, ⟨2, 128, 0, false, false⟩], tick := 100 }
def w_bow : State := { bd 1 with bdc.owed := [(0, 2), (1, 4), (2, 4), (3, 1)] }
def w_hfl : State := { dst hal 5 .dirty with per := { (dst hal 5 .dirty).per with flushQ := [5] } }
def w_hrt : State := let s := hal; (s.setFld (dramRec 0) 2)
def w_hrn : State := { (hal.setFlag DCT_STS_RETRAINING true) with trn.retrain := some 2 }
def w_hj2 : State := jb hjr
def w_hj4 : State := dst (jb hj) 5 .flushing
def w_win : State := { hv hal with bdc.window := some 9, dram.lines := [(9, (77, 5))] }
def w_pt1 : State := ex svc .mailbox 0x13 [1]
def w_pt2 : State := { ex svc .mailbox 0x13 [0] with pwr.test := some (.boot, .settling) }
def w_pt3 : State := ex svc .mailbox 0x13 [0]
def w_pt4 : State := (ex svc .mailbox 0x13 [0]).setFlag PWR_FEED_STS_A_GOOD true
def w_pt5 : State := (((up .powerUp).setFlag PWR_FEED_STS_A_GOOD true).setFlag PWR_RSTO_PACK_LOW false)
def w_pt6 : State := { (svc.setFlag PWR_FEED_STS_A_GOOD true) with pwr.catchUp := true }
def w_pt8 : State := { svc with pwr.test := some (.packet, .loaded 12500), pwr.load := true }
def w_pt9 : State := { svc with pwr.test := some (.packet, .v1 12500 12400), pwr.load := true }
def w_pt10 : State := ((svc.setFlag PWR_PACK_STS_C_VALID true).setFld PWR_PACK_C 5000000).setFld PWR_PACK_ESR 3000
def w_cs0 : State := stg 0x0C (leBytes 4 0 ++ leBytes 4 0) none (some b1)
def w_cs1 : State := stg 0x0C (leBytes 4 0 ++ leBytes 4 80 ++ List.replicate 40 3) none (some b1)
def w_cs2 : State := stg 0x0C (leBytes 4 40 ++ leBytes 4 80 ++ List.replicate 40 3) none (some b1)
def w_cs3 : State := stg 0x0C (leBytes 4 44 ++ leBytes 4 80 ++ List.replicate 40 3) (some ⟨80, 40, List.replicate 40 3, 0, [], 0, false, 9⟩) (some b1)
def w_cs4 : State := stg 0x0C (leBytes 4 40 ++ leBytes 4 81 ++ List.replicate 40 3) (some ⟨80, 40, List.replicate 40 3, 0, [], 0, false, 9⟩) (some b1)
def w_cs5 : State := stg 0x0C (leBytes 4 40 ++ leBytes 4 100 ++ List.replicate 40 3) (some ⟨100, 40, List.replicate 40 3, 0, [], 0, false, 9⟩) (some b1)
def w_cs6 : State := stg 0x0C (leBytes 4 40 ++ leBytes 4 80 ++ List.replicate 40 3) (some ⟨80, 40, List.replicate 40 3, 0, [], 0, false, 9⟩) (some b1)
def w_csb : State := ex { ex svc .mailbox 0x0D [] with flash.boot := some b1 } (.ring 0) 0x0C (leBytes 4 0)
def w_cr0 : State := stg 0x0E (leBytes 4 0) none (some b1)
def w_cr1 : State := { stg 0x0E (leBytes 4 0) none (some { b1 with dir := b1.dir ++ [(2, (4, 1, 1, []))] }) with flash.twins := [(1, [9]), (2, [1,2,3,4])] }
def w_fm : State := { svc with flt.inflight := [(⟨3, .paceLow, .note, 1, 2, false⟩, false), (mm, false)] }
def w_fme : State := noAc { svc with flt.errLines := [20, 0, 5] }
def w_fme0 : State := noAc { ((List.range 8).foldl (fun u i => u.setWord ((FLT_REACT 0).addr + 4 * i) 0) svc) with flt.errLines := [20, 0, 5, 12] }
def w_kd : State := { ((clr (clr svc .a) .b).setFld SPT_KITE_LEASE_LEFT 0) with kite.holderDead := true }
def w_kr : State := { clr (svc) .b with kite.request := some .b }
def w_kl : State := (clr svc .b).setFlag SPT_HB_B_ALIVE true
def w_fc0 : State := noAc { ex svc .mailbox 0x10 (leBytes 4 77) with flt.slots := [inc 3 77 mm .gone] }
def w_fc1 : State := noAc { ex svc .mailbox 0x10 (leBytes 4 77) with flt.slots := [inc 3 77 mm .held], flt.errLines := [20] }
def w_fi0 : State := ex svc .mailbox 0x11 [1]
def w_fi1 : State := ((ex svc .mailbox 0x11 ([20,0,13,2] ++ leBytes 2 0 ++ [1])).setFlag FLT_INJ_EN true)
def w_re0 : State := (rcs svc none).setFlag EVR_CTL_SNAP_EN false
def w_re1 : State := snp (rcs svc (some 0))
def w_re2 : State := { rcs svc (some 0) with evr := { (rcs svc (some 0)).evr with log := List.replicate 1025 ⟨⟨.critical, false, 0x50, 3, 9, List.replicate 200 1⟩, false, false, some 3, 0, 0, 0, false⟩ } }
def w_rp : State := clr svc .b
def w_pb0 : State := ((up .powerUp).setFld SPT_STS_SEQ 7)
def w_sb : State := svc.setFld CFG_SB_ADDR_DYN 5
def w_f1 : State := dv svc 3 1 (q1 dRd)
def w_f2 : State := dv svc 3 1 (q2 (mkD 1 0 1 6 7 0 0x10000 0x10000001 0) .suspended (some (fr dEr)) none)
def w_f3 : State := dv svc 3 1 (q2 dRd .suspended (some (fr dEr)) none)
def w_f4 : State := dv svc 3 1 (q2 dRd .programming none (some (fr dPg)))
def w_f4e : State := dv svc 3 1 (q2 dRd .erasing (some (fr dEr)) none)
def w_f5 : State := dv svc 3 1 { q1 dPg with ptrs := [(5, (false, some 7))] }
def w_f6 : State := dv { svc with flo.org := { svc.flo.org with stooks := [(2053, ⟨5, false, true, [], [], 0, 0⟩)] } } 3 1 { q1 dPgT with ptrs := [(5, (true, some 3))] }
def w_f7 : State := dv svc 3 1 { q1 dPg with ptrs := [(5, (false, some 9))] }
def w_f8 : State := dv svc 3 1 (q1 dEr)
def w_f9 : State := dv svc 3 1 (q2 dSu .erasing (some (fr dEr)) none)
def w_f10 : State := dv svc 3 1 { q2 dSu .erasing (some (fr dEr)) none with susp := 8 }
def w_f11 : State := dv svc 3 1 (q1 dSu)
def w_f12 : State := dv svc 3 1 (q2 dRe .suspended (some (fr dEr)) none)
def w_f13 : State := dv svc 3 1 (q1 dRe)
def w_f14 : State := dv svc 3 1 (q1 (dAb 77))
def w_f15 : State := dv svc 3 1 (q2 (dAb 0x10000002) .programming none (some (fr dPg)))
def w_f16 : State := dv svc 3 1 (q1 dSt)
def w_f17 : State := dv svc 3 1 (q1 dPa)
def w_f1l : State := dv svc 3 1 { Die.idle with lo := [dRd, dPg] }
def w_ffc : State := svc.setFlag (FCE_STS_FENCED 3) true
def w_ffs : State := (svc.setFlag (FCE_STS_FENCED 3) true).setFlag (FCE_STS_SOFT_FENCE 3) true
def w_r5 : State := rs .reading none (some (fr dRd))
def w_r8 : State := dv svc 3 1 { Die.idle with st := .suspending, erase := some (fr dEr), suspendD := some (fr dSu) }
def w_er : State := { svc with flo.erases := [⟨5, false, false, 0, 0⟩] }
def w_fd0 : State := ex svc .mailbox 0x12 (List.replicate 32 0 ++ [17, 0, 0])
def w_fd1 : State := ex svc .mailbox 0x12 (mkD 4 0 0 0 0 0 0 0x10000005 0 ++ [3, 1, 0])
def w_fd2 : State := ex svc .mailbox 0x12 (mkD 1 0 1 5 7 1 0 0x10000005 0 ++ [3, 1, 0])
def w_hop : State := { hal with clk.dSp := 3, per := { (dst hal 5 .dirty).per with flushQ := [5] } }
def w_thr1 : State := putS (dies1 (thr (sm .lull))) 88 (shf 5 3)
def w_thr3 : State := putS (thr (sm .lull)) 88 (shf 5 3)
def w_g3r : State := slotsS ((fifo glnS [te 5 3 9, te 5 4 10]).setFlag GLN_STS_RESERVE_EMPTY true) [slotE 5]
def w_sac : State := { up .rebound with sav.second := some 4, sav.copyAt := some 5, flash.images := [img0, { img0 with gen := 4 }] }
def w_lp : State := { (sm .lull) with hbp.loopHost := true }
def w_are : State := { ((sm .lull).setFld TRN_STS_STEP 8) with trn.area := [(9, (7, 7)), (10, (1, 1))], trn.retrain := some 2, dram.lines := [(9, (5, 5))] }
def w_cse : State := stg 0x0C (leBytes 4 65520 ++ leBytes 4 200000 ++ List.replicate 40 3) (some ⟨200000, 65520, List.replicate 65520 3, 0, [], 0, false, 9⟩) (some b1)
def w_cst : State := svc.setFld (coreStateFld .a) 1
def w_ca9 : State := { stg 0x0D (leBytes 4 10) none (some { b1 with dir := b1.dir ++ [(4, (4, 4, 10, [159, 100, 167, 71, 225, 185, 127, 19, 31, 171, 182, 180, 71, 41, 108, 155, 111, 2, 1, 231, 159, 179, 197, 53, 110, 108, 119, 232, 155, 106, 128, 106]))] }) with flash.twins := [(4, [1,2,3,4])] }
def w_pchk : State := (pc svc { tapE 5 3 (pkB 1 1 7 5 9 []) with chk := 1 }).setFlag PKT_CTL_CHK_HOST true
def w_pdup : State := { pc svc (tapE 5 3 (pkB 1 1 7 5 9 [])) with pkt.held := [⟨5, 7, 2, []⟩] }
def w_pahead : State := pc svc (tapE 5 3 (pkB 1 1 11 5 9 []))
def w_rfull : State := (ring1 svc 5).setFld PKT_STS_DEPTH_USED 32768
def w_mbxr : State := mbxS 0x14 [] svc
def w_wrr : State := wr1 (0x40000 + 8 * 7) 0x87000000
def w_wri : State := wr1 0x13008 0xFFFFFFFF
def w_cdefl : State := led (ex svc .mailbox 4 ([3,0,0,2] ++ leBytes 4 16 ++ leBytes 4 8))
def w_trck : State := { ((ph .train).setFld TRN_STS_STEP 9).setFld TRN_STS_ACTIVE_SP 1 with trn.check := true }
def w_offc : State := { up .off with clk.present := false }
def w_svCo : State := let s := (up .save).setFlag CLK_STS_COAST true; { s with clk := { s.clk with present := false, h := .locked } }
def w_dcpre : State := (up .rebound).setFlag CLK_STS_DISCONT true
def w_soA : State := led (reg5 (ex svc .mailbox 5 (leBytes 2 5)) capR)
def w_soA2 : State := led (reg5 (ex svc .mailbox 5 (leBytes 2 5 ++ [1])) capR)
def w_soB : State := reg5 (ex svc .mailbox 5 (leBytes 2 5)) { capR with releasing := true }
def w_soC : State := reg5 (ex svc .mailbox 5 (leBytes 2 5)) { capR with st := .sealed }
def w_soD : State := ex svc .mailbox 5 (leBytes 2 5000)
def w_scd2 : State := fl (reg5 svc { capR with st := .closing }) (.close 5 40)
def w_ft_svc : State := fit svc
def w_ft_sn : State := fit (ex svc .mailbox 9 [])
def w_nf_sn : State := few (ex svc .mailbox 9 [])
def w_np_sn : State := noplan (ex svc .mailbox 9 []) true
def w_e_k : State := kf .early
def w_e_an : State := noplan (up .attach) true
def w_e_sv : State := sm .save
def w_e_off : State := up .off
def w_fdp1 : State := { mo .service true svc with pwr.periodicDue := some (some ⟨true, false, false⟩) }
def w_rr1 : State := { wt .service 3 0 [14] with pwr := { (wt .service 3 0 [14]).pwr with retries := [(14, 3)], armed := 0xFFFF, en := 0xFFFF } }
def w_rr2 : State := { wt .service 3 0 [16] with pwr := { (wt .service 3 0 [16]).pwr with retries := [(16, 1)], armed := 0xFFFF, en := 0x1FFFF } }
def w_rr3 : State := { wt .rebound 1 2 [4] with pwr := { (wt .rebound 1 2 [4]).pwr with failed := 0x40, armed := 0xFFFF, en := 0xFFFF } }
def w_sfive : State := { ((railed (tbl (up .powerUp))).setFlag PWR_RSTO_PACK_LOW false).setFlag PWR_FEED_STS_GATE_A true with pwr := { (railed (tbl (up .powerUp))).pwr with mbEnv := some (1, 2), en := 0 } }
def w_sfive2 : State := { ((railed (tbl (up .powerUp))).setFlag PWR_RSTO_PMIC_LOW false).setFlag PWR_FEED_STS_GATE_A true with pwr := { (railed (tbl (up .powerUp))).pwr with mbEnv := some (1, 2), en := 0 } }
def w_pv1 : State := { mo .service true svc with pwr := { svc.pwr with test := some (.packet, .v1 12000 11000) } }
def w_bl1 : State := wb b0 []
def w_bl2 : State := wb b1 [(0, [1,2,3]), (1, [1,2,3,4])]
def w_bl3 : State := wb b1 [(0, [1,2,3])]
def w_bl4 : State := wb { b1 with fails := 2, dir := b1.dir ++ [(2, (3, 2, 9, [3, 144, 88, 198, 242, 192, 203, 73, 44, 83, 59, 10, 77, 20, 239, 119, 204, 15, 120, 171, 204, 206, 213, 40, 125, 132, 161, 162, 1, 28, 251, 129]))] } [(0, [1,2,3]), (1, [1,2,3,4])]
def w_gok : State := stagedA false
def w_gpk : State := stagedA true
def w_gab : State := ex { ex svc .mailbox 0x0D [] with flash.boot := some b1 } (.ring 0) 0x0D (leBytes 4 0)
def w_grb : State := ex { ex svc .mailbox 0x0D [] with flash.boot := some b1 } (.ring 0) 0x0E (leBytes 4 0)
def w_gnb : State := stg 0x0C (leBytes 4 0 ++ leBytes 4 80) none none
def w_hkr : State := { ((goodAll (kf .rebound)).setFld PWR_SEQ_STS_STATE 2) with clk.h := .locked, clk.present := true }
def w_rst2 : State := { putS ((((sm .attach).setFld SAV_RST_GEN 3).setFlag DCT_STS_OWNED true)) 88 (shf 5 3) with sys := ⟨.attach, .restore, .none, false, false, true⟩, flash.images := [img0], per.smap := ⟨MapEntry.none, [(5, ⟨2, false, 0, 88⟩)]⟩ }
def w_n1 : State := dv svc 3 1 { q2 (mkD 2 0 0xF 6 0 0 0x10000 0x10000002 0) .suspended (some (fr dEr)) none with ptrs := [(6, (false, some 0))] }
def w_n2 : State := dv svc 3 1 (q2 dPg .suspended (some (fr dEr)) none)
def w_n3 : State := dv svc 3 1 { q2 (dAb 0x10000001) .programming none (some (fr dPg)) with lo := [dRd] }
def w_n4 : State := dv svc 3 1 { q1 (dAb 0x10000003) with held := [fr dPgT] }
def w_n5 : State := dv svc 3 1 (q2 (dAb 0x10000004) .erasing (some (fr dEr)) none)
def w_n6 : State := dv svc 3 1 { rs .nestedRead (some (fr dEr)) (some (fr dRd)) |>.die 3 1 with lo := [] }
def w_n7 : State := dv svc 3 1 { (rs .resumePending (some (fr dEr)) (some (fr dRd)) |>.die 3 1) with resumeD := some (fr dRe) }
def w_n8 : State := dv svc 3 1 { (rs .aborting none (some (fr dPg)) |>.die 3 1) with abortD := some (fr (dAb 0x10000002)), abortHome := 1 }
def w_er4 : State := { svc with flo.erases := [⟨5, false, false, 0, 0⟩], flo.org := { svc.flo.org with dies := 1, stooks := [(5, ⟨0, false, false, [], [], 5, 0⟩)] } }
def w_er6 : State := { svc with flo.erases := [⟨5, false, false, 0, 0⟩], flo.org := { svc.flo.org with dies := 1, stooks := [(5, ⟨0, false, false, [], [], 5, 0⟩), (200, ⟨4, false, false, [], (List.range 18).map (fun k => (0, 0, 1354 + k)), 0, 0⟩)] } }
def w_hu1 : State := dst (jb { hj with read := false, lines := [] }) 5 .flushing
def w_hrr : State := dst (jb { hjr with reread := true, again := hj.lines }) 5 .flushing
def w_hrr3 : State := jb { hj with sheaf := some 88 }
def w_hrr4 : State := dst (dies1 (jb { hj with sheaf := some 88 })) 5 .flushing
def w_hrr5 : State := dst (dies1 (jb { hjr with rechecked := true, sheaf := some 88 })) 5 .flushing
def w_hlr1 : State := { (dst hal 5 .dirty) with per := { (dst hal 5 .dirty).per with flushQ := [5] }, trn := { hal.trn with retrain := some 2, area := [(9, (1, 2))] } }
def w_bpt : State := { hv hal with bdc.throttled := [((hv hal).maBank 0 * 32 + 20, 0)], bdc.reqs := [⟨20, 0, 0, false, false⟩] }
def w_fcl : State := noAc { (svc.setWord (FLT_REACT 0).addr 0x33333333) with flt.slots := [inc 0 77 { mm with kind := .paceLow, sev := .critical } .held] }
def w_fhm : State := { svc with flt.shadows := [⟨77, .hmover, [], false⟩], flt.fenced := [(.hmover, 77, false)] }
def w_inflight : State := { rcs svc none with evr := { (rcs svc none).evr with inflight := [⟨.note, false, 0x50, 3, 9, [1]⟩] } }
def w_train : State := ph .train
def w_restore : State := ph .restore
def w_th35 : State := ((w_th3.setFld HBP_GEOM_RANK2 0).setFld HBP_GEOM_LRANKS 0).setFlag HBP_GEOM_ROW17 false
def w_sv6f : State := svd { run0 with handed := true, flight := some ⟨70000, [], 0⟩ }
def w_sv7f : State := svd { run0 with handed := true, flight := some ⟨70000, [], 0⟩, work := [.group 1, .metadata] }
def w_pb2 : State := { up .powerUp with regs := [(57348, 1), (147464, 28672), (147488, 5), (147492, 5), (147496, 5), (147500, 5), (147504, 5), (147508, 5), (147512, 5), (147516, 5), (147968, 17050112), (147980, 164590), (147984, 134382318), (147988, 268600046), (147992, 402817774), (147996, 537035502), (148000, 671253230), (148004, 805470958), (148008, 939688686), (148012, 1073906414), (148016, 1208124142), (148020, 1342341870), (148024, 1476559598), (148028, 1610777326), (148032, 1744995054), (148092, 1611987527)], nv := { State.reset.nv with wsWritten := BitVec.allOnes 40 } }
/-- The next state of an outcome. -/
def nextOf (o : Host.Outcome State Fault Refusal) (d : State) : State := match o with | .next t => t | _ => d
def isNext (o : Host.Outcome State Fault Refusal) : Bool := match o with | .next _ => true | _ => false
theorem eq_next_of_isNext {o : Host.Outcome State Fault Refusal} (d : State) (h : isNext o = true) : o = .next (nextOf o d) := by
  cases o <;> simp_all [isNext, nextOf]
def w_por : State := { State.reset with pending := [.powerOnResetRelease false 0 0] }
theorem crc_tab : crc32c (wordBytes (tab.take 31)) = 1611987527 := by
  have h : wordBytes (tab.take 31) = wordBytes (tab.take 15) ++ wordBytes ((tab.take 31).drop 15) := by decide +kernel
  have h1 : ((wordBytes (tab.take 15)).foldl crcByte 0xFFFFFFFF#32) = 2890897652 := by decide +kernel
  unfold crc32c
  rw [h, List.foldl_append, h1]
  decide +kernel
theorem tab_ok : ptabOk tab = true := by
  unfold ptabOk ptabCrcOk
  rw [crc_tab]
  decide +kernel
theorem good_of {s : State} (h : ptabOk s.nv.ptab = true) (h2 : s.nv.torn = false) : s.ptabGood = true := by
  unfold State.ptabGood
  rw [h, h2]
  rfl
theorem bad_of {s : State} (h : s.nv.torn = true) : s.ptabGood = false := by
  unfold State.ptabGood
  rw [h]
  exact Bool.and_false _
theorem por1_good : w_por1.ptabGood = true := good_of ((congrArg ptabOk (rfl : w_por1.nv.ptab = tab)).trans tab_ok) rfl
theorem pb2_table : (List.range 32).map (fun i => w_pb2.word (0x24200 + 4 * i)) = tab := by decide +kernel
theorem some_pair {α β : Type} {o : Option (α × β)} (h : o.isSome = true) : o = some ((o.get h).1, (o.get h).2) := by simp
theorem some_triple {α β γ : Type} {o : Option (α × β × γ)} (h : o.isSome = true) : o = some ((o.get h).1, (o.get h).2.1, (o.get h).2.2) := by simp
theorem cornerCheck_keeps (s : State) : s.cornerCheck.sys = s.sys ∧ s.cornerCheck.nv = s.nv := by
  unfold State.cornerCheck
  split <;> exact ⟨rfl, rfl⟩
theorem logPowerUp_keeps (s : State) : s.logPowerUp.sys = s.sys ∧ s.logPowerUp.nv = s.nv := by
  unfold State.logPowerUp
  split
  · exact ⟨rfl, rfl⟩
  · split <;> exact ⟨rfl, rfl⟩
theorem blankHold_sys (s : State) : s.blankHold.sys = s.sys := rfl
def bumped (s : State) : State :=
  let t : State := { s with pwr := { s.pwr with vaon := true, startExpired := true } }
  (t.setFld PWR_SEQ_STS_BACKOFF t.pwr.backoff).bump CFG_CAUSE_POWERUPS 1
theorem bumped_keeps (s : State) : (bumped s).sys = s.sys ∧ (bumped s).nv = s.nv := ⟨rfl, rfl⟩
theorem powerUp_of_blank (s t : State) (b : Bool) (m : BitVec 6) (r : BitVec 16) (ht : (bumped s).logPowerUp.cornerCheck = t) (hb : t.ptabIsBlank = true) :
    s.powerUpSteps b m r = t.blankHold := by
  unfold State.powerUpSteps
  unfold bumped at ht
  simp only [ht]
  rw [if_pos hb]
theorem blank_powerUp (s : State) (b : Bool) (m : BitVec 6) (r : BitVec 16) (h : ptabBlank s.nv.ptab = true) (h2 : s.nv.torn = false) :
    (s.powerUpSteps b m r).sys = s.sys := by
  have e := ((cornerCheck_keeps (bumped s).logPowerUp).1.trans (logPowerUp_keeps _).1).trans (bumped_keeps s).1
  have n := ((cornerCheck_keeps (bumped s).logPowerUp).2.trans (logPowerUp_keeps _).2).trans (bumped_keeps s).2
  generalize ht : (bumped s).logPowerUp.cornerCheck = t at e n
  rw [powerUp_of_blank s t b m r ht (by unfold State.ptabIsBlank; rw [n, h, h2]; rfl), blankHold_sys, e]
theorem thr_idx : (w_th35.threshRest (w_th35.threshSources img0).length).indexSheaves = 1 := by
  have h : (w_th35.threshRest (w_th35.threshSources img0).length).presentCount = 32768 := by decide +kernel
  have g : (w_th35.threshRest (w_th35.threshSources img0).length).granuleCount = 32768 := by decide +kernel
  unfold State.indexSheaves ceilDiv
  rw [h, g]
  have := List.length_filter_le (fun c => (w_th35.threshRest (w_th35.threshSources img0).length).present (4 * c)) (List.range (32768 / 4))
  rw [List.length_range] at this
  generalize (List.filter (fun c => (w_th35.threshRest (w_th35.threshSources img0).length).present (4 * c)) (List.range (32768 / 4))).length = n at this ⊢
  clear h g
  omega
theorem thr_index (E : List Nat) : ∃ idx v, (w_th35.threshRest (w_th35.threshSources img0).length).threshIndex img0
    ((w_th35.threshRest (w_th35.threshSources img0).length).flash.imageGen + 1) E [] (List.range (w_th35.threshRest (w_th35.threshSources img0).length).indexSheaves) = some (idx, v) := by
  rw [thr_idx]
  obtain ⟨p, hp⟩ := Option.isSome_iff_exists.1 (show (w_th35.threshRest (w_th35.threshSources img0).length).allocThresh.isSome = true by decide +kernel)
  have hf : planFor (w_th35.threshRest (w_th35.threshSources img0).length).threshFenced false ≠ 18 := by decide +kernel
  generalize w_th35.threshRest (w_th35.threshSources img0).length = U at hp hf ⊢
  rw [List.range_one, State.threshIndex, State.threshPlace, if_neg hf, hp]
  exact ⟨_, _, rfl⟩
theorem buf_long (bs : List Byte) (h : 16 ≤ bs.length) : 65536 ≤ (List.replicate 65520 (3 : Byte) ++ bs).length := by
  rw [List.length_append, List.length_replicate]
  omega
theorem saveWork_pos (i : Nat) (more gs : List Nat) : 1 ≤ (saveWork i more gs).length := by
  induction gs with
  | nil => simp [saveWork]; omega
  | cons g gs ih =>
    unfold saveWork
    split <;> simp only [List.length_cons] <;> omega
theorem form_plain (s : State) (k : List Nat) (j : Nat) (m : SMap Nat) : s.formRecord 0 k j m = s := by
  unfold State.formRecord
  rw [if_neg (by decide)]
  split
  · rfl
  · rw [if_pos rfl]
/-- The run that a save under the base plan begins with. -/
theorem begin_run (X : State) (k : Bool) (hp : planFor X.channelsReturn.planFenced (k || decide (X.channelsReturn.tick < X.channelsReturn.pln.reloadEnd)) = 0) :
    ∃ r, (X.saveBegin k).sav.run = some r ∧ r.plan = 0 ∧ r.work = saveWork X.channelsReturn.indexSheaves
      (X.channelsReturn.moreGroups X.channelsReturn.fullNext (X.channelsReturn.keptSet 0 X.channelsReturn.saveSet).2.1) (X.channelsReturn.keptSet 0 X.channelsReturn.saveSet).2.1 ∧
      (X.saveBegin k).flo = X.channelsReturn.flo ∧ (X.saveBegin k).flash.swath = X.channelsReturn.flash.swath ∧ (X.saveBegin k).flash.used = X.channelsReturn.flash.used := by
  unfold State.saveBegin
  generalize X.channelsReturn = Y at hp ⊢
  dsimp only
  rw [hp, form_plain]
  unfold State.setRun State.showKmap
  simp only [Laws.flo_setFld, Laws.flash_setFld, Laws.sav_setFld, Laws.flo_setFlag, Laws.flash_setFlag, Laws.sav_setFlag]
  exact ⟨_, rfl, rfl, rfl, trivial, trivial, trivial⟩
theorem kept_none (Y : State) (hs : Y.flag PLN_STS_PACK_SHORT = true) (hb : Y.fld PLN_BUDGET = 0) : (Y.keptSet 0 Y.saveSet).2.1 = [] := by
  unfold State.keptSet
  rw [if_pos hs, if_neg (by decide), hb]
  dsimp only
  generalize Y.rankOrder Y.saveSet = o
  cases o with
  | nil => rfl
  | cons g gs =>
    unfold keepWithin
    dsimp only
    rw [if_pos (by split <;> decide)]
theorem index_le (Y : State) (h1 : Y.presentCount = 32768) (h2 : Y.granuleCount = 32768) : Y.indexSheaves ≤ 1 := by
  unfold State.indexSheaves ceilDiv
  rw [h1, h2]
  have := List.length_filter_le (fun c => Y.present (4 * c)) (List.range (32768 / 4))
  rw [List.length_range] at this
  generalize (List.filter (fun c => Y.present (4 * c)) (List.range (32768 / 4))).length = n at this ⊢
  omega
theorem room_le (Y Z : State) (h1 : Z.flo = Y.flo) (h2 : Z.flash.swath = Y.flash.swath) (h3 : Z.flash.used = Y.flash.used) :
    ((Y.flash.swath.filter Y.swathOpen).map Y.sheavesLeft).sum ≤ Z.swathRoom 0 := by
  have u : Z.usedOf = Y.usedOf := by funext n; unfold State.usedOf; rw [h3]
  have e : Z.swathOpen = Y.swathOpen := by
    funext n
    unfold State.swathOpen State.writable State.stook State.dieBarred
    rw [h1, u]
  have l : Z.sheavesLeft = Y.sheavesLeft := by
    funext n
    unfold State.sheavesLeft
    rw [u]
  unfold State.swathRoom State.swathSheaves State.swathOrder
  rw [if_neg (by decide), List.map_append, List.sum_append, e, l, h2]
  omega
/-- A save whose budget keeps no granule needs no more than two sheaves. -/
theorem begin_fits (X : State) (k : Bool) (hp : planFor X.channelsReturn.planFenced (k || decide (X.channelsReturn.tick < X.channelsReturn.pln.reloadEnd)) = 0)
    (hs : X.channelsReturn.flag PLN_STS_PACK_SHORT = true) (hb : X.channelsReturn.fld PLN_BUDGET = 0) (hf : X.channelsReturn.fullNext = false)
    (h1 : X.channelsReturn.presentCount = 32768) (h2 : X.channelsReturn.granuleCount = 32768)
    (hr : 2 ≤ ((X.channelsReturn.flash.swath.filter X.channelsReturn.swathOpen).map X.channelsReturn.sheavesLeft).sum) : (X.saveBegin k).saveImpossible = none := by
  obtain ⟨r, e, p, w, f1, f2, f3⟩ := begin_run X k hp
  have hi := index_le _ h1 h2
  have hr := Nat.le_trans hr (room_le _ _ f1 f2 f3)
  rw [kept_none _ hs hb, hf] at w
  have l : r.work.length ≤ 2 := by
    rw [w]
    simp [saveWork, State.moreGroups]
    omega
  unfold State.saveImpossible
  rw [e]
  dsimp only
  rw [p, if_neg (by simp), if_neg (by omega)]
theorem begin_tight (X : State) (k : Bool) (hp : planFor X.channelsReturn.planFenced (k || decide (X.channelsReturn.tick < X.channelsReturn.pln.reloadEnd)) = 0)
    (hr : (X.saveBegin k).swathRoom 0 = 0) : ¬ (X.saveBegin k).saveImpossible = none := by
  obtain ⟨r, e, p, w, -, -, -⟩ := begin_run X k hp
  have l : 1 ≤ r.work.length := by rw [w]; exact saveWork_pos _ _ _
  unfold State.saveImpossible
  rw [e]
  dsimp only
  rw [p, if_neg (by simp), if_pos (by omega)]
  exact nofun
theorem plan_block0 : shaBlock ⟨[1779033703, 3144134277, 1013904242, 2773480762], [1359893119, 2600822924, 528734635, 1541459225]⟩ (sliceBytes (shaPad planM) (64 * 0) 64) = ⟨[3159405220, 313087357, 854077508, 3471106507], [232286074, 1179496032, 260522130, 2171484395]⟩ := by decide +kernel
theorem plan_block1 : shaBlock ⟨[3159405220, 313087357, 854077508, 3471106507], [232286074, 1179496032, 260522130, 2171484395]⟩ (sliceBytes (shaPad planM) (64 * 1) 64) = ⟨[1333455454, 3588298377, 1622822102, 145154041], [1213424926, 749884026, 1443317116, 1524462741]⟩ := by decide +kernel
theorem plan_block2 : shaBlock ⟨[1333455454, 3588298377, 1622822102, 145154041], [1213424926, 749884026, 1443317116, 1524462741]⟩ (sliceBytes (shaPad planM) (64 * 2) 64) = ⟨[1188000665, 3361433297, 2488897308, 340876123], [3973428594, 2739065773, 4142126043, 438699751]⟩ := by decide +kernel
theorem plan_block3 : shaBlock ⟨[1188000665, 3361433297, 2488897308, 340876123], [3973428594, 2739065773, 4142126043, 438699751]⟩ (sliceBytes (shaPad planM) (64 * 3) 64) = ⟨[3626082004, 3749984716, 890578615, 525370076], [1575907958, 266913658, 3052749991, 485713478]⟩ := by decide +kernel
theorem plan_block4 : shaBlock ⟨[3626082004, 3749984716, 890578615, 525370076], [1575907958, 266913658, 3052749991, 485713478]⟩ (sliceBytes (shaPad planM) (64 * 4) 64) = ⟨[317592049, 1841169238, 4031055032, 746303248], [2522956418, 3537155785, 4078449468, 1751221348]⟩ := by decide +kernel
theorem plan_init : shaInit = ⟨[1779033703, 3144134277, 1013904242, 2773480762], [1359893119, 2600822924, 528734635, 1541459225]⟩ := by decide +kernel
theorem plan_sha : sha256 planM = planSha := by
  have r : List.range ((shaPad planM).length / 64) = [0, 1, 2, 3, 4] := by decide +kernel
  unfold sha256
  dsimp only
  rw [r, plan_init, List.foldl, plan_block0, List.foldl, plan_block1, List.foldl, plan_block2, List.foldl, plan_block3, List.foldl, plan_block4, List.foldl]
  decide +kernel
theorem staged_of {s : State} {b : BootAnchor} {m : List Byte} {x l y : Nat} {d : List Byte} (h1 : smapFind s.flash.twins ((1 - b.twin) * 3 + 1) = some m)
    (h2 : b.entry (1 - b.twin) 1 = some (x, l, y, d)) (h3 : m.length = l) (h4 : sha256 m = d) : s.stagedImage b = some m := by
  unfold State.stagedImage
  rw [h1, h2]
  exact if_pos ⟨h3, h4⟩
theorem digest_blocks0 : [0, 1, 2, 3, 4, 5, 6].foldl (fun acc i => shaBlock acc (sliceBytes (shaPad (List.replicate 2176 0#8)) (64 * i) 64)) ⟨[1779033703, 3144134277, 1013904242, 2773480762], [1359893119, 2600822924, 528734635, 1541459225]⟩ = ⟨[4212416143, 3968180183, 932597574, 3082252192], [1507323862, 2026362764, 3900622437, 4177541431]⟩ := by decide +kernel
theorem digest_blocks1 : [7, 8, 9, 10, 11, 12, 13].foldl (fun acc i => shaBlock acc (sliceBytes (shaPad (List.replicate 2176 0#8)) (64 * i) 64)) ⟨[4212416143, 3968180183, 932597574, 3082252192], [1507323862, 2026362764, 3900622437, 4177541431]⟩ = ⟨[3969926144, 2449254153, 351291030, 2040726224], [2884591269, 1723899749, 2979578201, 1470130375]⟩ := by decide +kernel
theorem digest_blocks2 : [14, 15, 16, 17, 18, 19, 20].foldl (fun acc i => shaBlock acc (sliceBytes (shaPad (List.replicate 2176 0#8)) (64 * i) 64)) ⟨[3969926144, 2449254153, 351291030, 2040726224], [2884591269, 1723899749, 2979578201, 1470130375]⟩ = ⟨[1936926553, 179830604, 2689129607, 655907291], [1627617292, 3483737580, 3604290108, 3421317402]⟩ := by decide +kernel
theorem digest_blocks3 : [21, 22, 23, 24, 25, 26, 27].foldl (fun acc i => shaBlock acc (sliceBytes (shaPad (List.replicate 2176 0#8)) (64 * i) 64)) ⟨[1936926553, 179830604, 2689129607, 655907291], [1627617292, 3483737580, 3604290108, 3421317402]⟩ = ⟨[2091315968, 3917938897, 620382158, 3644797571], [3770970790, 2044477260, 1753067000, 2311472356]⟩ := by decide +kernel
theorem digest_blocks4 : [28, 29, 30, 31, 32, 33, 34].foldl (fun acc i => shaBlock acc (sliceBytes (shaPad (List.replicate 2176 0#8)) (64 * i) 64)) ⟨[2091315968, 3917938897, 620382158, 3644797571], [3770970790, 2044477260, 1753067000, 2311472356]⟩ = ⟨[1445386664, 4057413195, 1636014701, 1207814113], [1369095590, 1883943745, 4270666839, 1594862222]⟩ := by decide +kernel
theorem plan_digest : w_gok.dieDigest = [86, 38, 217, 168, 241, 215, 54, 75, 97, 131, 154, 109, 71, 253, 199, 225, 81, 154, 189, 166, 112, 74, 179, 65, 254, 141, 52, 87, 95, 15, 170, 142] := by
  have m : (List.range 68).flatMap (fun i => sliceBytes (((smapFind w_gok.flo.dieTable i).map (·.2)).getD []) 0 32) = List.replicate 2176 0#8 := by decide +kernel
  have r : List.range ((shaPad (List.replicate 2176 0#8)).length / 64) = [0, 1, 2, 3, 4, 5, 6] ++ [7, 8, 9, 10, 11, 12, 13] ++ [14, 15, 16, 17, 18, 19, 20] ++ [21, 22, 23, 24, 25, 26, 27] ++ [28, 29, 30, 31, 32, 33, 34] := by decide +kernel
  unfold State.dieDigest sha256
  rw [m]
  dsimp only
  rw [r, plan_init, List.foldl_append, List.foldl_append, List.foldl_append, List.foldl_append, digest_blocks0, digest_blocks1, digest_blocks2, digest_blocks3, digest_blocks4]
  decide +kernel
theorem plan_structural : w_gok.structural planM = none := by
  unfold State.structural
  rw [plan_digest]
  decide +kernel
theorem judge_passes {s : State} {m : List Byte} {e : Nat} {ps : SMap (Nat × Nat × Nat × Nat)} (h : s.structural m = none) (p : s.prices m = ps)
    (o : overPlan ps (deadlineUs m e (imgPSave m)) = none) (w : s.imgLife m * 365 ≤ s.lifeDays m) : (s.judge m e).code = stOk := by
  unfold State.judge
  rw [h]
  dsimp only
  rw [p, o, decide_eq_true w]
  rfl

theorem met_ControlWordsMirror :
    (∃ (c : CaCmd) (s : State), CwOpen s c) ∧
    (∃ (c : CaCmd) (v : Byte) (index : Byte) (s : State) (i : _), s.sys.mode = .attach ∧ s.sys.phase = .restore ∧ s.flag CLK_STS_H_LOCK = true ∧ s.flag CLK_STS_COAST = false ∧ s.flag CLK_STS_DISCONT = false ∧ i ∈ [Instr.cwParityConfig c v, .cwCaLatency c v, .cwAlertWidth c v, .cwEndParityBlock c v, .cwIgnored c index v, .caTrainingMode c v, .csTrainingMode c v, .readEnableMode c v, .writeLevelingMode c v, .readDqMode c v, .writeDqMode c v]) ∧
    (∃ (c : CaCmd) (v : Byte) (index : Byte) (s : State) (i : _), CwMode s ∧ CaOpen s c ∧ s.bdcHolds = true ∧ i ∈ [Instr.cwParityConfig c v, .cwCaLatency c v, .cwAlertWidth c v, .cwEndParityBlock c v, .cwIgnored c index v, .caTrainingMode c v, .csTrainingMode c v, .readEnableMode c v, .writeLevelingMode c v, .readDqMode c v, .writeDqMode c v]) :=
  ⟨⟨(good .a), (up .attach), by unfold CwOpen CwMode CaOpen; decide +kernel⟩,
   ⟨(good .a), (0x00#8), (0x00#8), w_restore, (Instr.cwParityConfig { sub := Sub.a, rank := 0, lrank := 0, uis := [(0x05#7, false), (0x41#7, false)] } 0x00#8), by decide +kernel⟩,
   ⟨(good .a), (0x00#8), (0x00#8), w_bp, (Instr.cwParityConfig { sub := Sub.a, rank := 0, lrank := 0, uis := [(0x05#7, false), (0x41#7, false)] } 0x00#8), by unfold CwMode CaOpen; decide +kernel⟩⟩
theorem met_ParityErrorsDropAndBlock :
    (∃ (i : Instr) (c : CaCmd) (s : State) (k : Nat), i.caCmd = some c ∧ (∀ c' x y, i ≠ .hostTrainingSample c' x y) ∧ CwMode s ∧ s.flag CLK_STS_H_LOCK = true ∧ s.flag CLK_STS_COAST = false ∧ s.flag CLK_STS_DISCONT = false ∧ s.parityChecked = true ∧ firstBadUi c.uis = some k) ∧
    (∃ (i : Instr) (c : CaCmd) (s : State), i.caCmd = some c ∧ (∀ c' x y, i ≠ .hostTrainingSample c' x y) ∧ (∀ v : Byte, v.getLsbD 0 = true → i ≠ .cwEndParityBlock c v) ∧ CwMode s ∧ s.flag CLK_STS_H_LOCK = true ∧ s.flag CLK_STS_COAST = false ∧ s.flag CLK_STS_DISCONT = false ∧ firstBadUi c.uis = none ∧ s.blocked c.sub = true) ∧
    (∃ (c : CaCmd) (v : Byte) (s : State), CwMode s ∧ s.bdcHolds = false ∧ s.flag CLK_STS_H_LOCK = true ∧ s.flag CLK_STS_COAST = false ∧ s.flag CLK_STS_DISCONT = false ∧ firstBadUi c.uis = none ∧ v.getLsbD 0 = true) :=
  ⟨⟨(Instr.hostPowerDown { sub := Sub.a, rank := 0, lrank := 0, uis := [(0x05#7, false), (0x41#7, true)] }), ({ sub := Sub.a, rank := 0, lrank := 0, uis := [(0x05#7, false), (0x41#7, true)] }), (up .attach), (1), by decide +kernel, nofun, by unfold CwMode; decide +kernel, by decide +kernel, by decide +kernel, by decide +kernel, by decide +kernel, by decide +kernel⟩,
   ⟨(Instr.cwIgnored { sub := Sub.a, rank := 0, lrank := 0, uis := [(0x05#7, false), (0x41#7, false)] } 0x07#8 0x01#8), (good .a), w_blockA, by decide +kernel, nofun, fun _ _ => nofun, by unfold CwMode; decide +kernel, by decide +kernel, by decide +kernel, by decide +kernel, by decide +kernel, by decide +kernel⟩,
   ⟨(good .a), (0x01#8), (up .attach), by unfold CwMode; decide +kernel⟩⟩
theorem met_HostCommandsForwarded :
    (∃ (c : CaCmd) (s : State), HostOpen s c) ∧
    (∃ (c : CaCmd) (s : State), s.sys.mode = .lull ∧ s.sys.phase ≠ .restore ∧ CaOpen s c ∧ s.hbp.train = none ∧ s.flag DCT_STS_HARVESTING = false) :=
  ⟨⟨(good .a), (up .service), by unfold HostOpen CaOpen; decide +kernel⟩,
   ⟨(good .a), (up .lull), by unfold CaOpen; decide +kernel⟩⟩
theorem met_HostWrites :
    (∃ (c : CaCmd) (b : BankAddr) (s : State) (row : Nat), HostOpen s c ∧ s.openRow (cmdBank c b) = some row) ∧
    (∃ (c : CaCmd) (b : BankAddr) (s : State), HostOpen s c ∧ s.openRow (cmdBank c b) = none) :=
  ⟨⟨(good .a), ({ bg := 0, ba := 0 }), w_row, (77), by unfold HostOpen CaOpen; decide +kernel⟩,
   ⟨(good .a), ({ bg := 0, ba := 0 }), w_svc, by unfold HostOpen CaOpen; decide +kernel⟩⟩
theorem met_HostReadReturns :
    ∃ (c : CaCmd) (b : BankAddr) (s : State) (row : Nat), HostOpen s c ∧ s.openRow (cmdBank c b) = some row :=
  ⟨(good .a), ({ bg := 0, ba := 0 }), w_row, (77), by unfold HostOpen CaOpen; decide +kernel⟩
theorem met_UnlearnedReadsPassThrough :
    ∃ (c : CaCmd) (b : BankAddr) (s : State) (row : Nat), HostOpen s c ∧ s.openRow (cmdBank c b) = some row ∧ s.fld CLN_STS_STATE = 0 :=
  ⟨(good .a), ({ bg := 0, ba := 0 }), w_row, (77), by unfold HostOpen CaOpen; decide +kernel⟩
theorem met_AlertsLanesAndLoopback :
    (∃ (s : State), s.sys.mode ≠ .off ∧ s.sys.mode ≠ .powerUp) ∧
    (∃ (s : State), (s.hbp.loopHost = true ∨ s.hbp.loopDram = true)) :=
  ⟨⟨(up .attach), by decide +kernel⟩,
   ⟨w_lp, by decide +kernel⟩⟩
theorem met_HbpControlAndHostReset :
    (∃ (s : State), s.coreDomains = true) ∧
    (∃ (s : State), s.sys.mode ≠ .off ∧ s.sys.mode ≠ .save ∧ s.sys.mode ≠ .shutDown) ∧
    (∃ (s : State), s.sys.mode = .service ∧ (∀ e ∈ s.pkt.exec, pktField e.bytes 0 1 ≠ 9)) ∧
    (∃ (s : State), s.sys.mode = .off ∧ (∀ e ∈ s.pkt.exec, pktField e.bytes 0 1 ≠ 9)) :=
  ⟨⟨(up .attach), by decide +kernel⟩,
   ⟨(up .powerUp), by decide +kernel⟩,
   ⟨(up .service), by decide +kernel⟩,
   ⟨(up .off), by decide +kernel⟩⟩
theorem met_HostTraining :
    (∃ (c : CaCmd) (s : State) (v : Byte), CwOpen s c ∧ ((s.sys.mode = .attach ∧ s.sys.phase = .train ∧ s.flag TRN_STS_DRAM_READY = true) ∨ s.sys.mode = .rebound ∨ (s.sys.mode = .keeper ∧ (s.sys.keeperTraining = true ∨ s.sys.keeperFrom = .rebound))) ∧ v.getLsbD 0 = true) ∧
    (∃ (c : CaCmd) (s : State) (v : Byte) (p : _), let six := (fun (v : Byte) => [((0 : Fin 6), Instr.caTrainingMode c v), (1, .csTrainingMode c v), (2, .readEnableMode c v), (3, .writeLevelingMode c v), (4, .readDqMode c v), (5, .writeDqMode c v)]); CwOpen s c ∧ ((s.sys.mode = .attach ∧ s.sys.phase = .train ∧ s.flag TRN_STS_DRAM_READY = true) ∨ s.sys.mode = .rebound ∨ (s.sys.mode = .keeper ∧ (s.sys.keeperTraining = true ∨ s.sys.keeperFrom = .rebound))) ∧ v.getLsbD 0 = false ∧ p ∈ six v ∧ s.hbp.train = some (trainModeOf p.1)) ∧
    (∃ (c : CaCmd) (s : State) (v : Byte) (p : _), let six := (fun (v : Byte) => [((0 : Fin 6), Instr.caTrainingMode c v), (1, .csTrainingMode c v), (2, .readEnableMode c v), (3, .writeLevelingMode c v), (4, .readDqMode c v), (5, .writeDqMode c v)]); CwOpen s c ∧ ((s.sys.mode = .attach ∧ s.sys.phase = .train ∧ s.flag TRN_STS_DRAM_READY = true) ∨ s.sys.mode = .rebound ∨ (s.sys.mode = .keeper ∧ (s.sys.keeperTraining = true ∨ s.sys.keeperFrom = .rebound))) ∧ v.getLsbD 0 = false ∧ p ∈ six v ∧ s.hbp.train ≠ some (trainModeOf p.1)) ∧
    (∃ (c : CaCmd) (s : State) (i : Fin 6), CwOpen s c ∧ ((s.sys.mode = .attach ∧ s.sys.phase = .train ∧ s.flag TRN_STS_DRAM_READY = true) ∨ s.sys.mode = .rebound ∨ (s.sys.mode = .keeper ∧ (s.sys.keeperTraining = true ∨ s.sys.keeperFrom = .rebound))) ∧ s.hbp.train = some (trainModeOf i)) ∧
    (∃ (c : CaCmd) (s : State) (i : Fin 6), CwOpen s c ∧ ((s.sys.mode = .attach ∧ s.sys.phase = .train ∧ s.flag TRN_STS_DRAM_READY = true) ∨ s.sys.mode = .rebound ∨ (s.sys.mode = .keeper ∧ (s.sys.keeperTraining = true ∨ s.sys.keeperFrom = .rebound))) ∧ s.hbp.train ≠ some (trainModeOf i)) ∧
    (∃ (c : CaCmd) (s : State) (v : Byte) (p : _), let six := (fun (v : Byte) => [((0 : Fin 6), Instr.caTrainingMode c v), (1, .csTrainingMode c v), (2, .readEnableMode c v), (3, .writeLevelingMode c v), (4, .readDqMode c v), (5, .writeDqMode c v)]); CwOpen s c ∧ (s.sys.mode = .service ∨ s.sys.mode = .lull) ∧ p ∈ six v) ∧
    (∃ (c : CaCmd) (s : State), s.hbp.train = some .ca ∧ s.hbp.trainSub = c.sub) ∧
    (∃ (c : CaCmd) (cs : BitVec 2) (s : State), s.hbp.train = some .cs ∧ s.hbp.trainSub = c.sub) ∧
    (∃ (s : State), s.hbp.train = some .writeLevel) ∧
    (∃ (s : State), s.hbp.train = none) :=
  ⟨⟨(good .a), (up .rebound), (0x01#8), by unfold CwOpen CwMode CaOpen; decide +kernel⟩,
   ⟨(good .a), w_ca, (0x00#8), ((0, Instr.caTrainingMode { sub := Sub.a, rank := 0, lrank := 0, uis := [(0x05#7, false), (0x41#7, false)] } 0x00#8)), by unfold CwOpen CwMode CaOpen; dsimp only; decide +kernel⟩,
   ⟨(good .a), (up .rebound), (0x00#8), ((0, Instr.caTrainingMode { sub := Sub.a, rank := 0, lrank := 0, uis := [(0x05#7, false), (0x41#7, false)] } 0x00#8)), by unfold CwOpen CwMode CaOpen; dsimp only; decide +kernel⟩,
   ⟨(good .a), w_ca, (0), by unfold CwOpen CwMode CaOpen; decide +kernel⟩,
   ⟨(good .a), (up .rebound), (0), by unfold CwOpen CwMode CaOpen; decide +kernel⟩,
   ⟨(good .a), (up .service), (0x00#8), ((0, Instr.caTrainingMode { sub := Sub.a, rank := 0, lrank := 0, uis := [(0x05#7, false), (0x41#7, false)] } 0x00#8)), by unfold CwOpen CwMode CaOpen; dsimp only; decide +kernel⟩,
   ⟨(good .a), w_ca, by decide +kernel⟩,
   ⟨(good .a), (0x0#2), w_cs, by decide +kernel⟩,
   ⟨w_wl, by decide +kernel⟩,
   ⟨(up .off), by decide +kernel⟩⟩
theorem met_PacketCaptureChecks :
    (∃ (s : State) (e : TapEntry) (rest : List TapEntry), s.hbp.packetQ = e :: rest ∧ s.sys.mode ≠ .service ∧ s.sys.mode ≠ .lull ∧ s.sys.mode ≠ .keeper) ∧
    (∃ (s : State) (e : TapEntry) (rest : List TapEntry), s.hbp.packetQ = e :: rest ∧ (s.sys.mode = .service ∨ s.sys.mode = .lull ∨ s.sys.mode = .keeper) ∧ s.pktFenced = false ∧ s.fld CLN_STS_STATE ≠ 4) ∧
    (∃ (s : State) (e : TapEntry) (rest : List TapEntry), let r := (e.ma - s.papBase.getD 0) / 1024 % 32768; let v := s.ring r; s.hbp.packetQ = e :: rest ∧ (s.sys.mode = .service ∨ s.sys.mode = .lull ∨ s.sys.mode = .keeper) ∧ s.pktFenced = false ∧ s.fld CLN_STS_STATE = 4 ∧ v.en = false) ∧
    (∃ (s : State) (e : TapEntry) (rest : List TapEntry), let r := (e.ma - s.papBase.getD 0) / 1024 % 32768; let v := s.ring r; s.hbp.packetQ = e :: rest ∧ (s.sys.mode = .service ∨ s.sys.mode = .lull ∨ s.sys.mode = .keeper) ∧ s.pktFenced = false ∧ s.fld CLN_STS_STATE = 4 ∧ v.en = true ∧ s.inGap = false ∧ s.flag PKT_CTL_CHK_HOST = true ∧ s.predict e.ma e.data ≠ e.chk) ∧
    (∃ (s : State) (e : TapEntry) (rest : List TapEntry), let r := (e.ma - s.papBase.getD 0) / 1024 % 32768; let bs := leBytes 64 e.data.toNat; let v := s.ring r; s.hbp.packetQ = e :: rest ∧ (s.sys.mode = .service ∨ s.sys.mode = .lull ∨ s.sys.mode = .keeper) ∧ s.pktFenced = false ∧ s.fld CLN_STS_STATE = 4 ∧ v.en = true ∧ s.inGap = false ∧ (s.flag PKT_CTL_CHK_HOST = false ∨ s.predict e.ma e.data = e.chk) ∧ (crc32c (bs.take 60)).toNat ≠ pktField bs 60 4) ∧
    (∃ (s : State) (e : TapEntry) (rest : List TapEntry), let r := (e.ma - s.papBase.getD 0) / 1024 % 32768; let bs := leBytes 64 e.data.toNat; let v := s.ring r; s.hbp.packetQ = e :: rest ∧ (s.sys.mode = .service ∨ s.sys.mode = .lull ∨ s.sys.mode = .keeper) ∧ s.pktFenced = false ∧ s.fld CLN_STS_STATE = 4 ∧ v.en = true ∧ s.inGap = false ∧ (s.flag PKT_CTL_CHK_HOST = false ∨ s.predict e.ma e.data = e.chk) ∧ (crc32c (bs.take 60)).toNat = pktField bs 60 4 ∧ pktField bs 4 2 % 32768 ≠ r) ∧
    (∃ (s : State) (e : TapEntry) (rest : List TapEntry), let r := (e.ma - s.papBase.getD 0) / 1024 % 32768; let slot := (e.ma - s.papBase.getD 0) % 1024 / 64; let bs := leBytes 64 e.data.toNat; let v := s.ring r; let seq := pktField bs 2 2; s.hbp.packetQ = e :: rest ∧ (s.sys.mode = .service ∨ s.sys.mode = .lull ∨ s.sys.mode = .keeper) ∧ s.pktFenced = false ∧ s.fld CLN_STS_STATE = 4 ∧ v.en = true ∧ s.inGap = false ∧ (s.flag PKT_CTL_CHK_HOST = false ∨ s.predict e.ma e.data = e.chk) ∧ (crc32c (bs.take 60)).toNat = pktField bs 60 4 ∧ pktField bs 4 2 % 32768 = r ∧ slot ≠ seq % 2 ^ v.depth) ∧
    (∃ (s : State) (e : TapEntry) (rest : List TapEntry), let r := (e.ma - s.papBase.getD 0) / 1024 % 32768; let slot := (e.ma - s.papBase.getD 0) % 1024 / 64; let bs := leBytes 64 e.data.toNat; let v := s.ring r; let seq := pktField bs 2 2; s.hbp.packetQ = e :: rest ∧ (s.sys.mode = .service ∨ s.sys.mode = .lull ∨ s.sys.mode = .keeper) ∧ s.pktFenced = false ∧ s.fld CLN_STS_STATE = 4 ∧ v.en = true ∧ s.inGap = false ∧ (s.flag PKT_CTL_CHK_HOST = false ∨ s.predict e.ma e.data = e.chk) ∧ (crc32c (bs.take 60)).toNat = pktField bs 60 4 ∧ pktField bs 4 2 % 32768 = r ∧ slot = seq % 2 ^ v.depth ∧ v.depth ≤ 4 ∧ (seq + 65536 - v.nextSeq) % 65536 < 2 ^ v.depth ∧ (∀ h ∈ s.pkt.held, ¬ (h.ring = r ∧ h.seq = seq)) ∧ (∀ x ∈ s.pkt.exec, ¬ (x.src = .ring (Fin.ofNat 32768 r) ∧ x.seq = seq))) ∧
    (∃ (s : State) (e : TapEntry) (rest : List TapEntry), let r := (e.ma - s.papBase.getD 0) / 1024 % 32768; let slot := (e.ma - s.papBase.getD 0) % 1024 / 64; let bs := leBytes 64 e.data.toNat; let v := s.ring r; let seq := pktField bs 2 2; s.hbp.packetQ = e :: rest ∧ (s.sys.mode = .service ∨ s.sys.mode = .lull ∨ s.sys.mode = .keeper) ∧ s.pktFenced = false ∧ s.fld CLN_STS_STATE = 4 ∧ v.en = true ∧ s.inGap = false ∧ (s.flag PKT_CTL_CHK_HOST = false ∨ s.predict e.ma e.data = e.chk) ∧ (crc32c (bs.take 60)).toNat = pktField bs 60 4 ∧ pktField bs 4 2 % 32768 = r ∧ slot = seq % 2 ^ v.depth ∧ ((∃ h ∈ s.pkt.held, h.ring = r ∧ h.seq = seq) ∨ 65536 ≤ (seq + 65536 - v.nextSeq) % 65536 + 2 ^ v.depth)) ∧
    (∃ (s : State) (e : TapEntry) (rest : List TapEntry), let r := (e.ma - s.papBase.getD 0) / 1024 % 32768; let slot := (e.ma - s.papBase.getD 0) % 1024 / 64; let bs := leBytes 64 e.data.toNat; let v := s.ring r; let seq := pktField bs 2 2; s.hbp.packetQ = e :: rest ∧ (s.sys.mode = .service ∨ s.sys.mode = .lull ∨ s.sys.mode = .keeper) ∧ s.pktFenced = false ∧ s.fld CLN_STS_STATE = 4 ∧ v.en = true ∧ s.inGap = false ∧ (s.flag PKT_CTL_CHK_HOST = false ∨ s.predict e.ma e.data = e.chk) ∧ (crc32c (bs.take 60)).toNat = pktField bs 60 4 ∧ pktField bs 4 2 % 32768 = r ∧ slot = seq % 2 ^ v.depth ∧ 2 ^ v.depth ≤ (seq + 65536 - v.nextSeq) % 65536 ∧ (seq + 65536 - v.nextSeq) % 65536 + 2 ^ v.depth < 65536 ∧ (∀ h ∈ s.pkt.held, ¬ (h.ring = r ∧ h.seq = seq)) ∧ (∀ x ∈ s.pkt.exec, ¬ (x.src = .ring (Fin.ofNat 32768 r) ∧ x.seq = seq))) :=
  ⟨⟨w_pcmode, (w_pcmode.hbp.packetQ[0]'(by decide +kernel)), ((w_pcmode).hbp.packetQ.drop 1), by decide +kernel⟩,
   ⟨w_pcunl, (w_pcunl.hbp.packetQ[0]'(by decide +kernel)), ((w_pcunl).hbp.packetQ.drop 1), by decide +kernel⟩,
   ⟨w_pcdis, (w_pcdis.hbp.packetQ[0]'(by decide +kernel)), ((w_pcdis).hbp.packetQ.drop 1), by dsimp only; decide +kernel⟩,
   ⟨w_pchk, (w_pchk.hbp.packetQ[0]'(by decide +kernel)), ((w_pchk).hbp.packetQ.drop 1), by dsimp only; decide +kernel⟩,
   ⟨w_pcbad, (w_pcbad.hbp.packetQ[0]'(by decide +kernel)), ((w_pcbad).hbp.packetQ.drop 1), by dsimp only; decide +kernel⟩,
   ⟨w_pcring, (w_pcring.hbp.packetQ[0]'(by decide +kernel)), ((w_pcring).hbp.packetQ.drop 1), by dsimp only; decide +kernel⟩,
   ⟨w_pcslot, (w_pcslot.hbp.packetQ[0]'(by decide +kernel)), ((w_pcslot).hbp.packetQ.drop 1), by dsimp only; decide +kernel⟩,
   ⟨w_pcok, (w_pcok.hbp.packetQ[0]'(by decide +kernel)), ((w_pcok).hbp.packetQ.drop 1), by dsimp only; decide +kernel⟩,
   ⟨w_pdup, (w_pdup.hbp.packetQ[0]'(by decide +kernel)), ((w_pdup).hbp.packetQ.drop 1), by dsimp only; decide +kernel⟩,
   ⟨w_pahead, (w_pahead.hbp.packetQ[0]'(by decide +kernel)), ((w_pahead).hbp.packetQ.drop 1), by dsimp only; decide +kernel⟩⟩
theorem met_PacketDispatch :
    (∃ (s : State) (h : HeldPkt), s.sys.mode = .service ∧ s.pkt.halted = false ∧ s.pktFenced = false ∧ s.coreServes = true ∧ h ∈ s.pkt.held ∧ (s.ring h.ring).en = true ∧ h.seq = (s.ring h.ring).nextSeq ∧ (∀ e ∈ s.pkt.exec, e.src ≠ .ring (Fin.ofNat 32768 h.ring)) ∧ (∀ p ∈ s.pkt.withheld, p.src ≠ .ring (Fin.ofNat 32768 h.ring)) ∧ (∀ k ∈ s.pkt.held, k = h ∨ h.stamp < k.stamp) ∧ s.pkt.held.count h = 1 ∧ s.dispatchCheck h.bytes false (s.ring h.ring).priv = none) ∧
    (∃ (s : State), s.pkt.halted = true) ∧
    (∃ (s : State) (ring : Fin 32768), s.pkt.halted = false ∧ (∃ h ∈ s.pkt.held, h.ring = ring.val) ∧ (∀ e ∈ s.hbp.packetQ, s.lineRing e = ring.val → pktField (leBytes 64 e.data.toNat) 2 2 = (s.ring ring.val).nextSeq → s.lineStop e ≠ none) ∧ (∀ h ∈ s.pkt.held, h.ring = ring.val → h.seq ≠ (s.ring ring.val).nextSeq)) :=
  ⟨⟨w_disp, (w_disp.pkt.held[1]'(by decide +kernel)), by decide +kernel⟩,
   ⟨w_halt, by decide +kernel⟩,
   ⟨w_gapr, (5), by decide +kernel⟩⟩
theorem met_RingAndMailbox :
    (∃ (s : State), s.coreDomains = false) ∧
    (∃ (s : State) (w : Word), s.coreDomains = true ∧ s.pkt.ringWrites = [] ∧ natBits w.toNat 24 3 > 4) ∧
    (∃ (s : State) (ring : Fin 32768) (w : Word), s.coreDomains = true ∧ s.pkt.ringWrites = [] ∧ natBits w.toNat 24 3 ≤ 4 ∧ (∀ e ∈ s.pkt.exec, e.src ≠ .ring ring) ∧ w.getLsbD 31 = true ∧ (s.ring ring.val).en = false ∧ s.fld PKT_STS_DEPTH_USED + 2 ^ natBits w.toNat 24 3 ≤ 32768) ∧
    (∃ (s : State) (ring : Fin 32768) (w : Word), s.coreDomains = true ∧ s.pkt.ringWrites = [] ∧ natBits w.toNat 24 3 ≤ 4 ∧ (∀ e ∈ s.pkt.exec, e.src ≠ .ring ring) ∧ w.getLsbD 31 = true ∧ (s.ring ring.val).en = false ∧ 32768 < s.fld PKT_STS_DEPTH_USED + 2 ^ natBits w.toNat 24 3) ∧
    (∃ (s : State) (ring : Fin 32768) (w : Word), s.coreDomains = true ∧ s.pkt.ringWrites = [] ∧ natBits w.toNat 24 3 ≤ 4 ∧ (∀ e ∈ s.pkt.exec, e.src ≠ .ring ring) ∧ w.getLsbD 31 = false ∧ (s.ring ring.val).en = true) ∧
    (∃ (s : State) (ring : Fin 32768) (w : Word), s.coreDomains = true ∧ s.pkt.ringWrites = [] ∧ natBits w.toNat 24 3 ≤ 4 ∧ (∃ e ∈ s.pkt.exec, e.src = .ring ring) ∧ w.getLsbD 31 = false) ∧
    (∃ (s : State), s.sys.mode = .off) ∧
    (∃ (s : State), s.sys.mode ≠ .off ∧ s.flag PKT_MBX_STS_BUSY = true) ∧
    (∃ (s : State), let bs := s.getBytes 0x5100 16; s.sys.mode ≠ .off ∧ s.sys.mode ≠ .powerUp ∧ s.flag PKT_MBX_STS_BUSY = false ∧ (crc32c (bs.take 60)).toNat ≠ pktField bs 60 4 ∧ s.inGap = false) ∧
    (∃ (s : State) (c : _) (d : _), let bs := s.getBytes 0x5100 16; s.sys.mode ≠ .off ∧ s.sys.mode ≠ .powerUp ∧ s.flag PKT_MBX_STS_BUSY = false ∧ (crc32c (bs.take 60)).toNat = pktField bs 60 4 ∧ s.dispatchCheck bs true true = some (c, d) ∧ s.inGap = false) ∧
    (∃ (s : State), let bs := s.getBytes 0x5100 16; s.sys.mode ≠ .off ∧ s.sys.mode ≠ .powerUp ∧ s.flag PKT_MBX_STS_BUSY = false ∧ (crc32c (bs.take 60)).toNat = pktField bs 60 4 ∧ s.dispatchCheck bs true true = none) :=
  ⟨⟨(up .off), by decide +kernel⟩,
   ⟨(up .attach), (0xffffffff#32), by decide +kernel⟩,
   ⟨(up .attach), (1), (0x80000000#32), by decide +kernel⟩,
   ⟨w_rfull, (1), (0x80000000#32), by decide +kernel⟩,
   ⟨(up .attach), (0), (0x00000000#32), by decide +kernel⟩,
   ⟨w_nop, (5), (0x00000000#32), by decide +kernel⟩,
   ⟨(up .off), by decide +kernel⟩,
   ⟨w_mbxbusy, by decide +kernel⟩,
   ⟨(up .attach), by dsimp only; decide +kernel⟩,
   ⟨w_mbxr, (7), (4278190080), by dsimp only; decide +kernel⟩,
   ⟨w_mbx, by dsimp only; decide +kernel⟩⟩
theorem met_RegisterAndQueryOpcodes :
    (∃ (s : State) (src : PktSrc) (e : ExecPkt), s.findExec src 0x01 = some e ∧ e.discard = false ∧ s.inGap = true) ∧
    (∃ (s : State) (src : PktSrc) (e : ExecPkt) (r : _), s.findExec src 0x01 = some e ∧ e.discard = false ∧ s.inGap = false ∧ src = .ring r) ∧
    (∃ (s : State) (src : PktSrc) (e : ExecPkt), s.findExec src 0x01 = some e ∧ e.discard = false ∧ s.inGap = false ∧ src = .mailbox) ∧
    (∃ (s : State) (src : PktSrc) (e : ExecPkt), s.findExec src 0x02 = some e ∧ (pktField e.bytes 8 1 = 0 ∨ 4 < pktField e.bytes 8 1)) ∧
    (∃ (s : State) (src : PktSrc) (e : ExecPkt) (i : Nat), s.findExec src 0x02 = some e ∧ 1 ≤ pktField e.bytes 8 1 ∧ pktField e.bytes 8 1 ≤ 4 ∧ i < pktField e.bytes 8 1 ∧ (∀ j < i, addrOk (pktField e.bytes (12 + 4 * j) 4) = true) ∧ addrOk (pktField e.bytes (12 + 4 * i) 4) = false) ∧
    (∃ (s : State) (src : PktSrc) (e : ExecPkt), s.findExec src 0x02 = some e ∧ 1 ≤ pktField e.bytes 8 1 ∧ pktField e.bytes 8 1 ≤ 4 ∧ (∀ i < pktField e.bytes 8 1, addrOk (pktField e.bytes (12 + 4 * i) 4) = true)) ∧
    (∃ (s : State) (src : PktSrc) (e : ExecPkt), s.findExec src 0x03 = some e ∧ (pktField e.bytes 8 1 = 0 ∨ 4 < pktField e.bytes 8 1)) ∧
    (∃ (s : State) (src : PktSrc) (e : ExecPkt) (i : Nat), s.findExec src 0x03 = some e ∧ 1 ≤ pktField e.bytes 8 1 ∧ pktField e.bytes 8 1 ≤ 4 ∧ i < pktField e.bytes 8 1 ∧ (∀ x ∈ (Machine.writePairs e).take i, addrOk x.1 = true ∧ s.mayWrite none x.1 = true) ∧ (addrOk (pktField e.bytes (12 + 8 * i) 4) = false ∨ s.mayWrite none (pktField e.bytes (12 + 8 * i) 4) = false)) ∧
    (∃ (s : State) (src : PktSrc) (e : ExecPkt), s.findExec src 0x03 = some e ∧ 1 ≤ pktField e.bytes 8 1 ∧ pktField e.bytes 8 1 ≤ 4 ∧ (∀ x ∈ Machine.writePairs e, addrOk x.1 = true ∧ s.mayWrite none x.1 = true ∧ inRings x.1 = false ∧ ¬ (0x10000 ≤ x.1 ∧ x.1 < 0x21000 ∧ [8, 12, 16].contains (x.1 % 0x1000) = true))) ∧
    (∃ (s : State) (src : PktSrc) (e : ExecPkt) (x : _) (xs : _), s.findExec src 0x03 = some e ∧ 1 ≤ pktField e.bytes 8 1 ∧ pktField e.bytes 8 1 ≤ 4 ∧ Machine.writePairs e = x :: xs ∧ (∀ y ∈ x :: xs, addrOk y.1 = true ∧ s.mayWrite none y.1 = true) ∧ s.ringRefuses x = true) ∧
    (∃ (s : State) (src : PktSrc) (e : ExecPkt) (x : _) (xs : _), s.findExec src 0x03 = some e ∧ 1 ≤ pktField e.bytes 8 1 ∧ pktField e.bytes 8 1 ≤ 4 ∧ Machine.writePairs e = x :: xs ∧ (∀ y ∈ x :: xs, addrOk y.1 = true ∧ s.mayWrite none y.1 = true) ∧ s.ringRefuses x = false ∧ s.ifRefuses x = true) ∧
    (∃ (s : State) (src : PktSrc) (e : ExecPkt), s.findExec src 0x0A = some e ∧ 1 < pktField e.bytes 8 1) ∧
    (∃ (s : State) (src : PktSrc) (e : ExecPkt), s.findExec src 0x0A = some e ∧ pktField e.bytes 8 1 = 0 ∧ s.flash.images = []) ∧
    (∃ (s : State) (src : PktSrc) (e : ExecPkt) (is : List Image) (i : Image), s.findExec src 0x0A = some e ∧ pktField e.bytes 8 1 = 0 ∧ s.flash.images = is ++ [i]) ∧
    (∃ (s : State) (src : PktSrc) (e : ExecPkt), s.findExec src 0x0A = some e ∧ pktField e.bytes 8 1 = 1) ∧
    (∃ (s : State) (src : PktSrc) (e : ExecPkt), s.findExec src 0x0F = some e ∧ s.flag EVR_STS_FENCED = true ∧ pktField e.bytes 14 2 = 0xFFFF) ∧
    (∃ (s : State) (src : PktSrc) (e : ExecPkt), s.findExec src 0x0F = some e ∧ s.flag EVR_STS_FENCED = false ∧ s.evr.base = none ∧ pktField e.bytes 14 2 = 0xFFFF) ∧
    (∃ (s : State) (src : PktSrc) (e : ExecPkt) (l : List LogRec) (l' : List LogRec) (r : LogRec), s.findExec src 0x0F = some e ∧ s.flag EVR_STS_FENCED = false ∧ s.evr.base ≠ none ∧ s.evr.log = l ++ r :: l' ∧ (∀ x ∈ s.evr.log, x.chaff = false) ∧ pktField e.bytes 14 2 = 0xFFFF ∧ (∀ x ∈ l, x.seq.getD 0 < pktField e.bytes 8 6) ∧ pktField e.bytes 8 6 ≤ r.seq.getD 0) ∧
    (∃ (s : State) (src : PktSrc) (e : ExecPkt) (l : List LogRec) (l' : List LogRec) (r : LogRec), s.findExec src 0x0F = some e ∧ s.flag EVR_STS_FENCED = false ∧ s.evr.base ≠ none ∧ s.evr.log = l ++ r :: l' ∧ (∀ x ∈ s.evr.log, x.chaff = false) ∧ pktField e.bytes 14 2 % 16 = 0 ∧ pktField e.bytes 14 2 < recLen r.ev * 16 ∧ pktField e.bytes 8 6 ≠ 0 ∧ r.seq = some (pktField e.bytes 8 6) ∧ (∀ x ∈ l, x.seq ≠ r.seq)) :=
  ⟨⟨w_nopgap, (PktSrc.ring 5), (w_nopgap.pkt.exec[0]'(by decide +kernel)), by decide +kernel⟩,
   ⟨w_nop, (PktSrc.ring 5), (w_nop.pkt.exec[0]'(by decide +kernel)), (5), by decide +kernel⟩,
   ⟨w_nop, (PktSrc.mailbox), (w_nop.pkt.exec[1]'(by decide +kernel)), by decide +kernel⟩,
   ⟨w_rd0, (PktSrc.mailbox), (w_rd0.pkt.exec[0]'(by decide +kernel)), by decide +kernel⟩,
   ⟨w_rd2b, (PktSrc.mailbox), (w_rd2b.pkt.exec[0]'(by decide +kernel)), (1), by decide +kernel⟩,
   ⟨w_rd2, (PktSrc.mailbox), (w_rd2.pkt.exec[0]'(by decide +kernel)), by decide +kernel⟩,
   ⟨w_wr0, (PktSrc.mailbox), (w_wr0.pkt.exec[0]'(by decide +kernel)), by decide +kernel⟩,
   ⟨w_wr2b, (PktSrc.mailbox), (w_wr2b.pkt.exec[0]'(by decide +kernel)), (1), by decide +kernel⟩,
   ⟨w_wr2, (PktSrc.mailbox), (w_wr2.pkt.exec[0]'(by decide +kernel)), by decide +kernel⟩,
   ⟨w_wrr, (PktSrc.mailbox), (w_wrr.pkt.exec[0]'(by decide +kernel)), ((262200, 0x87000000#32)), ([]), by decide +kernel⟩,
   ⟨w_wri, (PktSrc.mailbox), (w_wri.pkt.exec[0]'(by decide +kernel)), ((77832, 0xffffffff#32)), ([]), by decide +kernel⟩,
   ⟨w_iq2, (PktSrc.mailbox), (w_iq2.pkt.exec[0]'(by decide +kernel)), by decide +kernel⟩,
   ⟨w_iq0, (PktSrc.mailbox), (w_iq0.pkt.exec[0]'(by decide +kernel)), by decide +kernel⟩,
   ⟨w_img, (PktSrc.mailbox), (w_img.pkt.exec[0]'(by decide +kernel)), ((w_img).flash.images.dropLast), (w_img.flash.images[1]'(by decide +kernel)), by decide +kernel⟩,
   ⟨w_iq1, (PktSrc.mailbox), (w_iq1.pkt.exec[0]'(by decide +kernel)), by decide +kernel⟩,
   ⟨w_lrhf, (PktSrc.mailbox), (w_lrhf.pkt.exec[0]'(by decide +kernel)), by decide +kernel⟩,
   ⟨w_lrh, (PktSrc.mailbox), (w_lrh.pkt.exec[0]'(by decide +kernel)), by decide +kernel⟩,
   ⟨w_lrhl, (PktSrc.mailbox), (w_lrhl.pkt.exec[0]'(by decide +kernel)), ((w_lrhl).evr.log.take 1), ((w_lrhl).evr.log.drop 2), (w_lrhl.evr.log[1]'(by decide +kernel)), by decide +kernel⟩,
   ⟨w_lrdl, (PktSrc.mailbox), (w_lrdl.pkt.exec[0]'(by decide +kernel)), ((w_lrdl).evr.log.take 1), ((w_lrdl).evr.log.drop 2), (w_lrdl.evr.log[1]'(by decide +kernel)), by decide +kernel⟩⟩
theorem met_DirtyMarks :
    (∃ (s : State) (g : Nat) (st : Nat) (rest : List (Nat × Nat)), s.hbp.dirtyQ = (g, st) :: rest ∧ s.present g = true ∧ s.per.confirms = []) ∧
    (∃ (s : State), s.coreDomains = false) ∧
    (∃ (s : State), s.coreDomains = true) :=
  ⟨⟨w_dmark, (5), (9), ([(6, 10)]), by decide +kernel⟩,
   ⟨(up .off), by decide +kernel⟩,
   ⟨(up .attach), by decide +kernel⟩⟩
theorem met_RegionAndTimeOpcodes :
    (∃ (s : State) (src : PktSrc) (e : ExecPkt), let r := pktField e.bytes 8 2; let first := pktField e.bytes 12 4; let count := pktField e.bytes 16 4; s.findExec src 0x04 = some e ∧ pktField e.bytes 10 1 = 0 ∧ r < 1024 ∧ (s.region r).st = .free ∧ (s.region r).releasing = false ∧ 0 < count ∧ count ≤ 524288 ∧ pktField e.bytes 11 1 ≤ 7 ∧ first + count ≤ s.granuleCount ∧ s.overlapsAperture first count = false ∧ s.overlapsRegion first count = false ∧ LedgerReady s ∧ OnePacket s e) ∧
    (∃ (s : State) (src : PktSrc) (e : ExecPkt), let r := pktField e.bytes 8 2; s.findExec src 0x04 = some e ∧ pktField e.bytes 10 1 = 1 ∧ (s.region r).st = .capturing ∧ (s.region r).releasing = false ∧ s.per.confirms = []) ∧
    (∃ (s : State) (src : PktSrc) (e : ExecPkt), let first := pktField e.bytes 8 4; let count := pktField e.bytes 12 4; s.findExec src 0x08 = some e ∧ (count = 0 ∨ 524288 < count ∨ s.rangePresent first count = false)) ∧
    (∃ (s : State) (src : PktSrc) (e : ExecPkt), let first := pktField e.bytes 8 4; let count := pktField e.bytes 12 4; s.findExec src 0x08 = some e ∧ 0 < count ∧ count ≤ 524288 ∧ s.rangePresent first count = true) ∧
    (∃ (s : State) (src : PktSrc) (e : ExecPkt), let w := pktField e.bytes 8 8; s.findExec src 0x0B = some e ∧ s.waiting 0x0B = [] ∧ (s.evr.wall = none ∨ s.wallNow ≤ w) ∧ OnePacket s e) ∧
    (∃ (s : State) (src : PktSrc) (e : ExecPkt), let w := pktField e.bytes 8 8; s.findExec src 0x0B = some e ∧ s.waiting 0x0B = [] ∧ s.evr.wall ≠ none ∧ w < s.wallNow ∧ s.pkt.halted = false ∧ s.seqBlocked = false) ∧
    (∃ (s : State) (n : Nat) (bs : List Byte) (m : SMap Nat) (w : Nat) (e : ExecPkt), s.sea.flight = some ⟨n, bs, m, .timeStep w e⟩ ∧ OnePacket s e) :=
  ⟨⟨w_cdefl, (PktSrc.mailbox), (w_cdefl.pkt.exec[0]'(by decide +kernel)), by unfold OnePacket LedgerReady; dsimp only; decide +kernel⟩,
   ⟨w_cdel, (PktSrc.mailbox), (w_cdel.pkt.exec[0]'(by decide +kernel)), by dsimp only; decide +kernel⟩,
   ⟨w_flu0, (PktSrc.mailbox), (w_flu0.pkt.exec[0]'(by decide +kernel)), by dsimp only; decide +kernel⟩,
   ⟨w_flu, (PktSrc.mailbox), (w_flu.pkt.exec[0]'(by decide +kernel)), by dsimp only; decide +kernel⟩,
   ⟨w_ts, (PktSrc.mailbox), (w_ts.pkt.exec[0]'(by decide +kernel)), by unfold OnePacket; dsimp only; decide +kernel⟩,
   ⟨w_ts3, (PktSrc.mailbox), (w_ts3.pkt.exec[0]'(by decide +kernel)), by dsimp only; decide +kernel⟩,
   ⟨w_tsc, (4), (w_tsc.sea.flight.get (by decide +kernel)).bytes, ([]), (77), (w_tsc.pkt.exec[0]'(by decide +kernel)), by unfold OnePacket; decide +kernel⟩⟩
theorem met_SetPointTraining :
    (∃ (s : State), s.coreDomains = false) ∧
    (∃ (s : State) (v : Word), s.coreDomains = true ∧ v.getLsbD 0 = false) ∧
    (∃ (s : State) (v : Word), let sp := v.toNat / 256 % 8; let coast := s.flag CLK_STS_COAST || s.flag CLK_STS_SLEWING || s.flag CLK_STS_DISCONT; let here := (s.sys.mode = .attach ∧ (s.sys.phase = .train ∨ s.sys.phase = .learn)) ∨ s.sys.mode = .rebound ∨ s.sys.mode = .lull; s.coreDomains = true ∧ v.getLsbD 0 = true ∧ (¬ here ∨ s.spRate sp = 0 ∨ coast = true)) ∧
    (∃ (s : State) (v : Word), let sp := v.toNat / 256 % 8; let coast := s.flag CLK_STS_COAST || s.flag CLK_STS_SLEWING || s.flag CLK_STS_DISCONT; let here := (s.sys.mode = .attach ∧ (s.sys.phase = .train ∨ s.sys.phase = .learn)) ∨ s.sys.mode = .rebound ∨ s.sys.mode = .lull; s.coreDomains = true ∧ v.getLsbD 0 = true ∧ here ∧ s.spRate sp ≠ 0 ∧ coast = false) ∧
    (∃ (s : State), (s.fld TRN_STS_STEP = 0 ∨ s.trn.hop = true ∨ s.trn.retrain.isSome = true)) ∧
    (∃ (s : State), s.fld TRN_STS_STEP ≠ 0 ∧ s.trn.hop = false ∧ s.trn.retrain = none ∧ s.trn.check = true) ∧
    (∃ (s : State), s.fld TRN_STS_STEP ≠ 0 ∧ s.trn.hop = false ∧ s.trn.retrain = none ∧ s.trn.check = false) :=
  ⟨⟨(up .off), by decide +kernel⟩,
   ⟨(up .attach), (0x00000000#32), by decide +kernel⟩,
   ⟨(up .attach), (0x00000001#32), by dsimp only; decide +kernel⟩,
   ⟨(up .lull), (0x00000001#32), by dsimp only; decide +kernel⟩,
   ⟨(up .off), by decide +kernel⟩,
   ⟨w_trck, by decide +kernel⟩,
   ⟨w_step1, by decide +kernel⟩⟩
theorem met_CodeLearning :
    (∃ (s : State) (src : PktSrc) (e : ExecPkt), s.findExec src 0x14 = some e ∧ s.sys.mode ≠ .attach) ∧
    (∃ (s : State) (src : PktSrc) (e : ExecPkt), s.findExec src 0x14 = some e ∧ s.sys.mode = .attach ∧ (s.sys.phase = .train ∨ s.sys.phase = .learn) ∧ s.flag TRN_STS_DRAM_READY = true ∧ 1 ≤ s.fld CLN_STS_STATE ∧ s.fld CLN_STS_STATE ≤ 3) ∧
    (∃ (s : State) (src : PktSrc) (e : ExecPkt), s.findExec src 0x14 = some e ∧ s.sys.mode = .attach ∧ (s.sys.phase = .train ∨ s.sys.phase = .learn) ∧ s.flag TRN_STS_DRAM_READY = true ∧ (s.fld CLN_STS_STATE = 0 ∨ 4 ≤ s.fld CLN_STS_STATE) ∧ s.baseOk = true ∧ s.inPap s.clnBase = false ∧ s.inSap s.clnBase = false ∧ s.unitOut .learner = false) ∧
    (∃ (s : State) (e : LearnEntry) (rest : List LearnEntry), s.cln.fifo = e :: rest ∧ s.fld CLN_STS_STATE = 2) ∧
    (∃ (s : State) (e : LearnEntry) (rest : List LearnEntry), s.cln.fifo = e :: rest ∧ s.fld CLN_STS_STATE = 1 ∧ e.solving = false ∧ e.data = 0 ∧ maLine e.ma = maLine s.cln.base ∧ s.cln.zero = none ∧ s.cln.units.length < 512) ∧
    (∃ (s : State) (e : LearnEntry) (rest : List LearnEntry) (c : _), s.cln.fifo = e :: rest ∧ s.fld CLN_STS_STATE = 1 ∧ e.solving = false ∧ e.data = 0 ∧ maLine e.ma = maLine s.cln.base ∧ s.cln.zero = some c ∧ c ≠ e.chk) ∧
    (∃ (s : State) (e : LearnEntry) (rest : List LearnEntry), s.cln.fifo = e :: rest ∧ s.fld CLN_STS_STATE = 1 ∧ e.solving = false ∧ e.data = 0 ∧ maLine e.ma ≠ maLine s.cln.base ∧ (∀ k < 40, maLine e.ma ≠ maLine (s.cln.base ^^^ classMask k)) ∧ s.cln.units.length < 512) ∧
    (∃ (s : State) (e : LearnEntry) (rest : List LearnEntry), s.cln.fifo = e :: rest ∧ s.fld CLN_STS_STATE = 3 ∧ e.solving = false ∧ predict s.cln.work e.ma e.data ≠ e.chk) ∧
    (∃ (s : State), s.fld CLN_STS_STATE = 2 ∧ s.pairsAgree s.solve = true) ∧
    (∃ (s : State), s.fld CLN_STS_STATE = 2 ∧ s.pairsAgree s.solve = false) :=
  ⟨⟨w_lsx, (PktSrc.mailbox), (w_lsx.pkt.exec[0]'(by decide +kernel)), by decide +kernel⟩,
   ⟨w_lsb, (PktSrc.mailbox), (w_lsb.pkt.exec[0]'(by decide +kernel)), by decide +kernel⟩,
   ⟨w_ls, (PktSrc.mailbox), (w_ls.pkt.exec[0]'(by decide +kernel)), by decide +kernel⟩,
   ⟨w_lf2, (w_lf2.cln.fifo[0]'(by decide +kernel)), ((w_lf2).cln.fifo.drop 1), by decide +kernel⟩,
   ⟨w_lf1, (w_lf1.cln.fifo[0]'(by decide +kernel)), ((w_lf1).cln.fifo.drop 1), by decide +kernel⟩,
   ⟨w_lf1b, (w_lf1b.cln.fifo[0]'(by decide +kernel)), ((w_lf1b).cln.fifo.drop 1), (0x00000000000000000000000000000007#128), by decide +kernel⟩,
   ⟨w_lf1s, (w_lf1s.cln.fifo[0]'(by decide +kernel)), ((w_lf1s).cln.fifo.drop 1), by decide +kernel⟩,
   ⟨w_lf3, (w_lf3.cln.fifo[0]'(by decide +kernel)), ((w_lf3).cln.fifo.drop 1), by decide +kernel⟩,
   ⟨w_lsb, by decide +kernel⟩,
   ⟨w_lf2x, by decide +kernel⟩⟩
theorem met_HostClock :
    (∃ (s : State), (s.sys.mode = .off ∨ s.clk.present = false)) ∧
    (∃ (s : State), s.sys.mode ≠ .off ∧ s.clk.present = true ∧ (s.sys.mode = .powerUp ∨ s.sys.mode = .save ∨ s.sys.mode = .shutDown)) ∧
    (∃ (s : State), let expected := s.allSelfRef = true ∧ (s.sys.mode = .service ∨ s.sys.mode = .lull ∨ s.sys.mode = .keeper); s.sys.mode ≠ .off ∧ s.clk.present = true ∧ s.sys.mode ≠ .powerUp ∧ s.sys.mode ≠ .save ∧ s.sys.mode ≠ .shutDown ∧ expected) ∧
    (∃ (s : State), let expected := s.allSelfRef = true ∧ (s.sys.mode = .service ∨ s.sys.mode = .lull ∨ s.sys.mode = .keeper); s.sys.mode ≠ .off ∧ s.clk.present = true ∧ s.sys.mode ≠ .powerUp ∧ s.sys.mode ≠ .save ∧ s.sys.mode ≠ .shutDown ∧ ¬ expected) ∧
    (∃ (s : State), s.clk.present = false ∧ s.flag CLK_STS_COAST = false ∧ s.sys.mode = .off) ∧
    (∃ (s : State), s.clk.present = false ∧ s.flag CLK_STS_COAST = false ∧ s.sys.mode ≠ .off) ∧
    (∃ (s : State), let recordOnly := s.sys.mode = .powerUp ∨ s.sys.mode = .save ∨ s.sys.mode = .shutDown; s.sys.mode ≠ .off ∧ s.clk.present = false ∧ s.flag CLK_STS_COAST = true ∧ recordOnly) ∧
    (∃ (s : State), let recordOnly := s.sys.mode = .powerUp ∨ s.sys.mode = .save ∨ s.sys.mode = .shutDown; s.sys.mode ≠ .off ∧ s.clk.present = false ∧ s.flag CLK_STS_COAST = true ∧ ¬ recordOnly ∧ s.clk.h = .locked) ∧
    (∃ (s : State), (s.flag CLK_STS_H_LOCK = false ∨ s.flag CLK_STS_DISCONT = false)) ∧
    (∃ (s : State), s.flag CLK_STS_H_LOCK = true ∧ s.flag CLK_STS_DISCONT = true ∧ s.preHandover = true) ∧
    (∃ (s : State), s.flag CLK_STS_H_LOCK = true ∧ s.flag CLK_STS_DISCONT = true ∧ s.preHandover = false) ∧
    (∃ (s : State), s.bdc.handbackWait = none ∧ s.flag CLK_STS_COAST = true ∧ s.clk.timedOut = false ∧ s.clk.present = false ∧ s.sys.mode ≠ .powerUp ∧ s.sys.mode ≠ .save ∧ s.sys.mode ≠ .shutDown ∧ s.flag PWR_FEED_STS_A_GOOD = true) :=
  ⟨⟨(up .off), by decide +kernel⟩,
   ⟨(up .powerUp), by decide +kernel⟩,
   ⟨w_sref, by dsimp only; decide +kernel⟩,
   ⟨(up .attach), by dsimp only; decide +kernel⟩,
   ⟨w_offc, by decide +kernel⟩,
   ⟨w_stop, by decide +kernel⟩,
   ⟨w_svCo, by dsimp only; decide +kernel⟩,
   ⟨w_coast2, by dsimp only; decide +kernel⟩,
   ⟨(up .off), by decide +kernel⟩,
   ⟨w_dcpre, by decide +kernel⟩,
   ⟨w_disc, by decide +kernel⟩,
   ⟨w_coast3, by decide +kernel⟩⟩
theorem met_ClockLoops :
    (∃ (s : State), (s.clk.h = .loading ∨ s.clk.h = .searching) ∧ s.clk.present = true ∧ s.bdc.handbackWait = none ∧ s.flag SAV_STS_REBOUND_WAIT = false ∧ s.sys.phase ≠ .restore) ∧
    (∃ (s : State), s.clk.d = .searching ∧ s.flag SAV_STS_REBOUND_WAIT = false ∧ s.bdc.handbackWait = none ∧ s.sys.phase ≠ .restore) ∧
    (∃ (s : State), (s.clk.f = .loading ∨ s.clk.f = .searching) ∧ s.flag SAV_STS_REBOUND_WAIT = false ∧ s.bdc.handbackWait = none ∧ s.sys.phase ≠ .restore) ∧
    (∃ (s : State), s.clk.h = .loading) ∧
    (∃ (s : State), s.clk.d = .loading) ∧
    (∃ (s : State), s.clk.f = .loading) ∧
    (∃ (s : State), s.clk.h = .searching) ∧
    (∃ (s : State), s.clk.f = .searching) ∧
    (∃ (s : State), s.clk.h = .locked) ∧
    (∃ (s : State), s.coreDomains = false) ∧
    (∃ (s : State) (u : Fin 3) (v : Word), let r := v.toNat % 8192; let ok := r = 0 ∨ (3200 ≤ r ∧ r ≤ 8000 ∧ r % 100 = 0); s.coreDomains = true ∧ (s.fld TRN_STS_ACTIVE_SP = u.val + 5 ∨ ¬ ok)) ∧
    (∃ (s : State) (u : Fin 3) (v : Word), let r := v.toNat % 8192; let ok := r = 0 ∨ (3200 ≤ r ∧ r ≤ 8000 ∧ r % 100 = 0); s.coreDomains = true ∧ s.fld TRN_STS_ACTIVE_SP ≠ u.val + 5 ∧ ok) :=
  ⟨⟨w_ldh, by decide +kernel⟩,
   ⟨w_sdh, by decide +kernel⟩,
   ⟨w_ldh, by decide +kernel⟩,
   ⟨w_ldh, by decide +kernel⟩,
   ⟨w_ldh, by decide +kernel⟩,
   ⟨w_ldh, by decide +kernel⟩,
   ⟨w_sdh, by decide +kernel⟩,
   ⟨w_sdh, by decide +kernel⟩,
   ⟨w_lck, by decide +kernel⟩,
   ⟨(up .off), by decide +kernel⟩,
   ⟨(up .attach), (0), (0x00000001#32), by dsimp only; decide +kernel⟩,
   ⟨(up .attach), (0), (0x00000000#32), by dsimp only; decide +kernel⟩⟩
theorem met_SealOpcodes :
    (∃ (s : State) (src : PktSrc) (e : ExecPkt), s.findExec src 0x05 = some e ∧ s.sealClosed = true) ∧
    (∃ (s : State) (src : PktSrc) (e : ExecPkt), let r := pktField e.bytes 8 2; s.findExec src 0x05 = some e ∧ s.sealClosed = false ∧ 1024 ≤ r) ∧
    (∃ (s : State) (src : PktSrc) (e : ExecPkt), let r := pktField e.bytes 8 2; let v := s.region r; s.findExec src 0x05 = some e ∧ s.sealClosed = false ∧ r < 1024 ∧ v.releasing = true) ∧
    (∃ (s : State) (src : PktSrc) (e : ExecPkt), let r := pktField e.bytes 8 2; let v := s.region r; s.findExec src 0x05 = some e ∧ s.sealClosed = false ∧ r < 1024 ∧ v.releasing = false ∧ v.st ≠ .capturing) ∧
    (∃ (s : State) (src : PktSrc) (e : ExecPkt), let r := pktField e.bytes 8 2; let v := s.region r; let on := s.learned && s.flag CLN_CTL_VERIFY_GLEAN; s.findExec src 0x05 = some e ∧ s.sealClosed = false ∧ r < 1024 ∧ v.st = .capturing ∧ v.releasing = false ∧ natBits (pktField e.bytes 10 1) 0 1 = 1 ∧ on = false) ∧
    (∃ (s : State) (src : PktSrc) (e : ExecPkt), let r := pktField e.bytes 8 2; let v := s.region r; let on := s.learned && s.flag CLN_CTL_VERIFY_GLEAN; s.findExec src 0x05 = some e ∧ s.sealClosed = false ∧ r < 1024 ∧ v.st = .capturing ∧ v.releasing = false ∧ (natBits (pktField e.bytes 10 1) 0 1 = 0 ∨ on = true) ∧ LedgerReady s ∧ OnePacket s e) ∧
    (∃ (s : State) (src : PktSrc) (e : ExecPkt), s.findExec src 0x06 = some e ∧ s.sealClosed = true) ∧
    (∃ (s : State) (src : PktSrc) (e : ExecPkt), let r := pktField e.bytes 8 2; let v := s.region r; s.findExec src 0x06 = some e ∧ s.sealClosed = false ∧ v.st = .opened ∧ v.releasing = false) ∧
    (∃ (s : State) (src : PktSrc) (e : ExecPkt), s.findExec src 0x07 = some e ∧ s.sealClosed = true) ∧
    (∃ (s : State) (src : PktSrc) (e : ExecPkt), let r := pktField e.bytes 8 2; let v := s.region r; s.findExec src 0x07 = some e ∧ s.sealClosed = false ∧ v.releasing = false ∧ (v.st ≠ .sealed ∨ v.sealSeq ≠ pktField e.bytes 10 6)) ∧
    (∃ (s : State) (src : PktSrc) (e : ExecPkt), let r := pktField e.bytes 8 2; let v := s.region r; s.findExec src 0x07 = some e ∧ s.sealClosed = false ∧ v.releasing = false ∧ v.st = .sealed ∧ v.sealSeq = pktField e.bytes 10 6) :=
  ⟨⟨w_sof, (PktSrc.mailbox), (w_sof.pkt.exec[0]'(by decide +kernel)), by decide +kernel⟩,
   ⟨w_soD, (PktSrc.mailbox), (w_soD.pkt.exec[0]'(by decide +kernel)), by dsimp only; decide +kernel⟩,
   ⟨w_soB, (PktSrc.mailbox), (w_soB.pkt.exec[0]'(by decide +kernel)), by dsimp only; decide +kernel⟩,
   ⟨w_soC, (PktSrc.mailbox), (w_soC.pkt.exec[0]'(by decide +kernel)), by dsimp only; decide +kernel⟩,
   ⟨w_soA2, (PktSrc.mailbox), (w_soA2.pkt.exec[0]'(by decide +kernel)), by dsimp only; decide +kernel⟩,
   ⟨w_soA, (PktSrc.mailbox), (w_soA.pkt.exec[0]'(by decide +kernel)), by unfold OnePacket LedgerReady; dsimp only; decide +kernel⟩,
   ⟨w_scf, (PktSrc.mailbox), (w_scf.pkt.exec[0]'(by decide +kernel)), by decide +kernel⟩,
   ⟨w_sc, (PktSrc.mailbox), (w_sc.pkt.exec[0]'(by decide +kernel)), by dsimp only; decide +kernel⟩,
   ⟨w_grf, (PktSrc.mailbox), (w_grf.pkt.exec[0]'(by decide +kernel)), by decide +kernel⟩,
   ⟨w_grn, (PktSrc.mailbox), (w_grn.pkt.exec[0]'(by decide +kernel)), by dsimp only; decide +kernel⟩,
   ⟨w_gr, (PktSrc.mailbox), (w_gr.pkt.exec[0]'(by decide +kernel)), by dsimp only; decide +kernel⟩⟩
theorem met_SealChain :
    (∃ (s : State) (region : Fin 1024) (c : Nat) (e : ExecPkt), s.sea.closes = [(region.val, c, e, false)] ∧ (∃ x ∈ s.gln.fifo, x.stamp < c ∧ (s.region region.val).has (maGranule x.ma) = true)) ∧
    (∃ (s : State) (region : Fin 1024) (c : Nat) (e : ExecPkt), s.sea.closes = [(region.val, c, e, false)] ∧ (∀ x ∈ s.gln.fifo, (s.region region.val).has (maGranule x.ma) = true → c ≤ x.stamp) ∧ (∀ x ∈ s.gln.slots, (s.region region.val).has x.g = false) ∧ s.coveredBroken (s.region region.val) = false) ∧
    (∃ (s : State) (region : Fin 1024) (c : Nat) (e : ExecPkt), s.sea.closes = [(region.val, c, e, true)] ∧ s.sea.flight = none ∧ s.sea.queue = [] ∧ s.seqBlocked = false ∧ s.evr.nextSeq % 2 ^ 24 ≠ 0 ∧ (∀ x ∈ s.gln.slots, (s.region region.val).has x.g = false) ∧ s.coveredBroken (s.region region.val) = false ∧ (∀ g ∈ s.coveredOf (s.region region.val), (s.sheafBelow g c).isSome = true)) ∧
    (∃ (s : State) (n : Nat) (bs : List Byte) (m : SMap Nat) (r : Nat) (c : Nat) (e : ExecPkt), s.sea.flight = some ⟨n, bs, m, .close r c e⟩ ∧ r < 1024 ∧ OnePacket s e) ∧
    (∃ (s : State) (n : Nat) (bs : List Byte) (m : SMap Nat) (r : Nat) (q : Nat) (e : ExecPkt), s.sea.flight = some ⟨n, bs, m, .release r q e⟩ ∧ OnePacket s e) ∧
    (∃ (s : State), s.coreDomains = false) ∧
    (∃ (s : State), s.coreDomains = true) ∧
    (∃ (s : State) (q : Nat), s.sea.fetch = some q ∧ (∀ c ∈ s.flash.chain, c.seq ≠ q)) ∧
    (∃ (s : State) (q : Nat) (l : List ChainEnt) (l' : List ChainEnt) (c : ChainEnt), s.sea.fetch = some q ∧ s.flash.chain = l ++ c :: l' ∧ c.seq = q ∧ (∀ x ∈ l, x.seq ≠ q)) :=
  ⟨⟨w_barw, (5), (40), (w_barw.pkt.exec[0]'(by decide +kernel)), by decide +kernel⟩,
   ⟨w_bar, (5), (40), (w_bar.pkt.exec[0]'(by decide +kernel)), by decide +kernel⟩,
   ⟨w_cont, (5), (40), (w_cont.pkt.exec[0]'(by decide +kernel)), by decide +kernel⟩,
   ⟨w_scd2, (9), (w_scd2.sea.flight.get (by decide +kernel)).bytes, ([(5, 77)]), (5), (40), (w_scd2.pkt.exec[0]'(by decide +kernel)), by unfold OnePacket; decide +kernel⟩,
   ⟨w_rcd, (9), (w_rcd.sea.flight.get (by decide +kernel)).bytes, ([(5, 77)]), (5), (4), (w_rcd.pkt.exec[0]'(by decide +kernel)), by unfold OnePacket; decide +kernel⟩,
   ⟨(up .off), by decide +kernel⟩,
   ⟨(up .attach), by decide +kernel⟩,
   ⟨w_fet, (4), by decide +kernel⟩,
   ⟨w_fet2, (4), ((w_fet2).flash.chain.take 1), ((w_fet2).flash.chain.take 0), (w_fet2.flash.chain[1]'(by decide +kernel)), by decide +kernel⟩⟩
theorem met_Gleaning :
    (∃ (s : State) (e : TapEntry) (rest : List TapEntry), s.gln.fifo = e :: rest ∧ s.markApplied e.stamp = false) ∧
    (∃ (s : State) (e : TapEntry) (rest : List TapEntry) (x : _), s.gln.fifo = e :: rest ∧ s.markApplied e.stamp = true ∧ s.dstate (maGranule e.ma) = .gleanPending ∧ s.per.confirms = [] ∧ s.slotFor (maGranule e.ma) = some x ∧ s.gleanBuffers < 26 ∧ s.sea.closes = [] ∧ (∀ y ∈ s.gln.slots, y.id = x.id → y = x) ∧ (smapPut x.lines (maLine e.ma % 16384) (e.data, e.chk)).length < 16384) ∧
    (∃ (s : State) (e : TapEntry) (rest : List TapEntry), s.gln.fifo = e :: rest ∧ s.markApplied e.stamp = true ∧ s.dstate (maGranule e.ma) = .dirty ∧ s.per.confirms = []) ∧
    (∃ (s : State) (e : TapEntry) (rest : List TapEntry), s.gln.fifo = e :: rest ∧ s.markApplied e.stamp = true ∧ s.dstate (maGranule e.ma) = .gleanPending ∧ ((s.readySlot (maGranule e.ma) e.stamp).placeCapture e).isSome = true ∧ s.flag GLN_STS_RESERVE_EMPTY = false) ∧
    (∃ (s : State) (e : TapEntry) (rest : List TapEntry), s.gln.fifo = e :: rest ∧ s.markApplied e.stamp = true ∧ s.dstate (maGranule e.ma) = .gleanPending ∧ (((s.readySlot (maGranule e.ma) e.stamp).placeCapture e).isSome = false ∨ s.flag GLN_STS_RESERVE_EMPTY = true) ∧ s.per.confirms = []) ∧
    (∃ (s : State) (g : Fin 0x80000), s.slotFor g.val = none) ∧
    (∃ (s : State) (g : Fin 0x80000) (x : _), s.slotFor g.val = some x) ∧
    (∃ (s : State) (x : Slot) (ear : Fin 17), s.gln.slots.find? (fun y => decide (y.id = x.id)) = some x ∧ (x.handed ear.val = false ∨ x.done.getLsbD ear.val = true)) ∧
    (∃ (s : State) (x : Slot) (ear : Fin 17) (a : Nat), s.gln.slots.find? (fun y => decide (y.id = x.id)) = some x ∧ x.handed ear.val = true ∧ x.done.getLsbD ear.val = false ∧ x.sheaf = some a) ∧
    (∃ (s : State) (x : Slot) (a : Nat), s.gln.slots.find? (fun y => decide (y.id = x.id)) = some x ∧ x.sheaf = some a ∧ x.closed = true ∧ x.done = BitVec.allOnes 17 ∧ (∀ y ∈ s.gln.slots, y.g = x.g → x.id ≤ y.id) ∧ s.per.confirms = [] ∧ s.gleanCaughtUp = false ∧ smapSorted x.lines = true) :=
  ⟨⟨w_g1, (w_g1.gln.fifo[0]'(by decide +kernel)), ((w_g1).gln.fifo.drop 1), by decide +kernel⟩,
   ⟨w_g3, (w_g3.gln.fifo[0]'(by decide +kernel)), ((w_g3).gln.fifo.drop 1), (w_g3.gln.slots[0]'(by decide +kernel)), by decide +kernel⟩,
   ⟨w_g4, (w_g4.gln.fifo[0]'(by decide +kernel)), ((w_g4).gln.fifo.drop 1), by decide +kernel⟩,
   ⟨w_g3, (w_g3.gln.fifo[0]'(by decide +kernel)), ((w_g3).gln.fifo.drop 1), by decide +kernel⟩,
   ⟨w_g3r, (w_g3r.gln.fifo[0]'(by decide +kernel)), ((w_g3r).gln.fifo.drop 1), by decide +kernel⟩,
   ⟨(up .off), (0), by decide +kernel⟩,
   ⟨w_g3, (5), (w_g3.gln.slots[0]'(by decide +kernel)), by decide +kernel⟩,
   ⟨w_g3, (w_g3.gln.slots[0]'(by decide +kernel)), (0), by decide +kernel⟩,
   ⟨w_g9, (w_g9.gln.slots[0]'(by decide +kernel)), (0), (100), by decide +kernel⟩,
   ⟨w_g10c, (w_g10c.gln.slots[0]'(by decide +kernel)), (100), by decide +kernel⟩⟩
theorem met_RepairFoldRation :
    (∃ (s : State) (g : Fin 0x80000), s.hbp.dirtyQ.any (fun x => decide (x.1 = g.val)) = true) ∧
    (∃ (s : State) (g : Fin 0x80000) (old : Sheaf) (a : Nat) (u : State), (s.sys.mode = .service ∨ s.sys.mode = .lull) ∧ s.gleanFenced = false ∧ s.flag GLN_CTL_REPAIR_EN = true ∧ s.dstate g.val = .clean ∧ (s.smapOf g.val).kind ≠ 0 ∧ (∃ o, smapFind s.gln.repair g.val = some o ∧ o ≤ s.ord s.horizon) ∧ s.hbp.dirtyQ.any (fun x => decide (x.1 = g.val)) = false ∧ s.sheaf (s.smapOf g.val).sheaf = some old ∧ s.takeGlean = some (a, u)) ∧
    (∃ (s : State) (w : Word) (x : Sheaf), s.sheaf w.toNat = some x ∧ s.foldable w.toNat x = false) ∧
    (∃ (s : State) (w : Word) (x : Sheaf) (b : Nat) (u : State), (s.sys.mode = .service ∨ s.sys.mode = .lull) ∧ s.sheaf w.toNat = some x ∧ s.foldable w.toNat x = true ∧ (∀ e ∈ s.flash.sheaves, s.foldable e.1 e.2 = true → ordOf x.epoch x.stamp ≤ ordOf e.2.epoch e.2.stamp) ∧ s.allocTlc = some (b, u)) ∧
    (∃ (s : State), s.sys.mode ≠ .off) :=
  ⟨⟨w_dmark, (5), by decide +kernel⟩,
   ⟨w_rep, 5, (w_rep.flash.sheaves[0]'(by decide +kernel)).2, (w_rep.takeGlean.get (by decide +kernel)).1, (w_rep.takeGlean.get (by decide +kernel)).2, by decide +kernel, by decide +kernel, by decide +kernel, by decide +kernel, by decide +kernel, ⟨0, by decide +kernel⟩, by decide +kernel, by decide +kernel, some_pair _⟩,
   ⟨w_cont2, (0x00000058#32), (w_cont2.flash.sheaves[0]'(by decide +kernel)).2, by decide +kernel⟩,
   ⟨w_fold, 0x58#32, (w_fold.flash.sheaves[0]'(by decide +kernel)).2, (w_fold.allocTlc.get (by decide +kernel)).1, (w_fold.allocTlc.get (by decide +kernel)).2, by decide +kernel, by decide +kernel, by decide +kernel, by decide +kernel, some_pair _⟩,
   ⟨(up .powerUp), by decide +kernel⟩⟩
theorem met_SavesBegin :
    (∃ (s : State), s.sys.mode = .off) ∧
    (∃ (s : State), Deciding s ∧ s.flag CFG_MODE_NO_PLAN = false ∧ SaveFits s 2) ∧
    (∃ (s : State), Deciding s ∧ s.flag CFG_MODE_NO_PLAN = false ∧ SaveFits s.feedALow s.feedACode) ∧
    (∃ (s : State), Deciding s ∧ s.flag CFG_MODE_NO_PLAN = false ∧ SaveFits s.feedAHigh 5) ∧
    (∃ (s : State), Deciding s ∧ s.flag CFG_MODE_NO_PLAN = false ∧ ¬ SaveFits s 2) ∧
    (∃ (s : State), Deciding s ∧ s.flag CFG_MODE_NO_PLAN = false ∧ ¬ SaveFits s.feedALow s.feedACode) ∧
    (∃ (s : State), Deciding s ∧ s.flag CFG_MODE_NO_PLAN = false ∧ ¬ SaveFits s.feedAHigh 5) ∧
    (∃ (s : State), Deciding s ∧ s.flag CFG_MODE_NO_PLAN = true) ∧
    (∃ (s : State), Early s ∧ s.sys.mode ≠ .powerUp ∧ s.flag CFG_MODE_NO_PLAN = false) ∧
    (∃ (s : State), Early s ∧ (s.sys.mode = .powerUp ∨ s.flag CFG_MODE_NO_PLAN = true)) ∧
    (∃ (s : State), (s.sys.mode = .save ∨ s.sys.mode = .shutDown)) ∧
    (∃ (s : State) (src : PktSrc), s.findExec src 0x09 = none) ∧
    (∃ (s : State) (src : PktSrc) (e : ExecPkt), s.findExec src 0x09 = some e ∧ (s.sys.mode = .service ∨ s.sys.mode = .lull ∨ s.sys.mode = .rebound) ∧ s.flag CFG_MODE_NO_PLAN = false ∧ SaveFits (s.startExec e 0) 3) ∧
    (∃ (s : State) (src : PktSrc) (e : ExecPkt), s.findExec src 0x09 = some e ∧ (s.sys.mode = .service ∨ s.sys.mode = .lull ∨ s.sys.mode = .rebound) ∧ s.flag CFG_MODE_NO_PLAN = false ∧ ¬ SaveFits (s.startExec e 0) 3) ∧
    (∃ (s : State) (src : PktSrc) (e : ExecPkt), s.findExec src 0x09 = some e ∧ (s.sys.mode = .service ∨ s.sys.mode = .lull ∨ s.sys.mode = .rebound) ∧ s.flag CFG_MODE_NO_PLAN = true ∧ OnePacket s e) :=
  ⟨⟨w_e_off, by decide +kernel⟩,
   ⟨w_ft_svc, by unfold Deciding; decide +kernel, by decide +kernel, by unfold SaveFits State.saveTaken; exact begin_fits _ _ (by decide +kernel) (by decide +kernel) (by decide +kernel) (by decide +kernel) (by decide +kernel) (by decide +kernel) (by decide +kernel)⟩,
   ⟨w_ft_svc, by unfold Deciding; decide +kernel, by decide +kernel, by unfold SaveFits State.saveTaken; exact begin_fits _ _ (by decide +kernel) (by decide +kernel) (by decide +kernel) (by decide +kernel) (by decide +kernel) (by decide +kernel) (by decide +kernel)⟩,
   ⟨w_ft_svc, by unfold Deciding; decide +kernel, by decide +kernel, by unfold SaveFits State.saveTaken; exact begin_fits _ _ (by decide +kernel) (by decide +kernel) (by decide +kernel) (by decide +kernel) (by decide +kernel) (by decide +kernel) (by decide +kernel)⟩,
   ⟨w_nf_sn, by unfold Deciding; decide +kernel, by decide +kernel, by unfold SaveFits State.saveTaken; exact begin_tight _ _ (by decide +kernel) (by decide +kernel)⟩,
   ⟨w_nf_sn, by unfold Deciding; decide +kernel, by decide +kernel, by unfold SaveFits State.saveTaken; exact begin_tight _ _ (by decide +kernel) (by decide +kernel)⟩,
   ⟨w_nf_sn, by unfold Deciding; decide +kernel, by decide +kernel, by unfold SaveFits State.saveTaken; exact begin_tight _ _ (by decide +kernel) (by decide +kernel)⟩,
   ⟨w_np_sn, by unfold Deciding; decide +kernel⟩,
   ⟨w_e_k, by unfold Early; decide +kernel⟩,
   ⟨w_e_an, by unfold Early; decide +kernel⟩,
   ⟨w_e_sv, by decide +kernel⟩,
   ⟨w_ft_svc, (PktSrc.mailbox), by decide +kernel⟩,
   ⟨w_ft_sn, (PktSrc.mailbox), (w_ft_sn.pkt.exec[0]'(by decide +kernel)), by decide +kernel, by decide +kernel, by decide +kernel, by unfold SaveFits State.saveTaken; exact begin_fits _ _ (by decide +kernel) (by decide +kernel) (by decide +kernel) (by decide +kernel) (by decide +kernel) (by decide +kernel) (by decide +kernel)⟩,
   ⟨w_nf_sn, (PktSrc.mailbox), (w_nf_sn.pkt.exec[0]'(by decide +kernel)), by decide +kernel, by decide +kernel, by decide +kernel, by unfold SaveFits State.saveTaken; exact begin_tight _ _ (by decide +kernel) (by decide +kernel)⟩,
   ⟨w_np_sn, (PktSrc.mailbox), (w_np_sn.pkt.exec[0]'(by decide +kernel)), by unfold OnePacket; decide +kernel⟩⟩
theorem met_SaveSheaves :
    (∃ (s : State), s.Inv ∧ s.sav.run = none) ∧
    (∃ (s : State) (r : SaveRun), s.Inv ∧ s.sav.run = some r ∧ r.handed = false ∧ r.flight = none) ∧
    (∃ (s : State) (r : SaveRun) (f : SaveFlight) (rest : List SaveItem) (g : _), s.Inv ∧ s.sav.run = some r ∧ r.handed = true ∧ (r.flight = some f ∨ (r.flight = none ∧ ∃ r1 u, s.allocSave r = some (f, r1, u))) ∧ r.work = .gran g :: rest) ∧
    (∃ (s : State) (r : SaveRun) (f : SaveFlight) (rest : List SaveItem) (c : _), s.Inv ∧ s.sav.run = some r ∧ r.handed = true ∧ (r.flight = some f ∨ (r.flight = none ∧ ∃ r1 u, s.allocSave r = some (f, r1, u))) ∧ r.work = .group c :: rest) :=
  ⟨⟨(up .off), by unfold State.Inv; decide +kernel⟩,
   ⟨w_sv1, (w_sv1.sav.run.get (by decide +kernel)), by unfold State.Inv; decide +kernel⟩,
   ⟨w_sv6f, (w_sv6f.sav.run.get (by decide +kernel)), ⟨70000, [], 0⟩, [.group 1, .metadata, .index 0], 5, by unfold State.Inv; decide +kernel, by decide +kernel, by decide +kernel, Or.inl (by decide +kernel), by decide +kernel⟩,
   ⟨w_sv7f, (w_sv7f.sav.run.get (by decide +kernel)), ⟨70000, [], 0⟩, [.metadata], 1, by unfold State.Inv; decide +kernel, by decide +kernel, by decide +kernel, Or.inl (by decide +kernel), by decide +kernel⟩⟩
theorem met_SaveEnds :
    (∃ (s : State) (r : SaveRun), s.sav.run = some r ∧ (r.handed = false ∨ r.work ≠ [])) ∧
    (∃ (s : State) (r : SaveRun), s.sav.run = some r ∧ r.handed = true ∧ r.work = [] ∧ s.sys.mode = .save ∧ s.flag PWR_FEED_STS_A_GOOD = true ∧ s.flag CFG_MODE_KEEPER = false) ∧
    (∃ (s : State) (r : SaveRun), s.sav.run = some r ∧ r.handed = true ∧ r.work = [] ∧ s.sys.mode = .save ∧ (s.flag PWR_FEED_STS_A_GOOD = false ∨ s.flag CFG_MODE_KEEPER = true) ∧ s.pwr.offAtAnchor = 0) ∧
    (∃ (s : State), (s.sav.second = none ∨ s.sav.copyAt = none)) ∧
    (∃ (s : State) (g : Nat) (p : Nat), s.sav.second = some g ∧ s.sav.copyAt = some p) :=
  ⟨⟨w_sv1, (w_sv1.sav.run.get (by decide +kernel)), by decide +kernel⟩,
   ⟨w_sv4a, (w_sv4a.sav.run.get (by decide +kernel)), by decide +kernel⟩,
   ⟨w_sv4, (w_sv4.sav.run.get (by decide +kernel)), by decide +kernel⟩,
   ⟨(up .off), by decide +kernel⟩,
   ⟨w_sac, (4), (5), by decide +kernel⟩⟩
theorem met_HandoverMoves :
    (∃ (s : State), s.flag TRN_STS_DRAM_FAIL = true) ∧
    (∃ (s : State), s.sys.mode ≠ .attach ∧ s.preHandover = false) ∧
    (∃ (s : State), s.sys.mode = .attach ∧ s.sys.phase ≠ .train ∧ s.sys.phase ≠ .learn) ∧
    (∃ (s : State), s.flag TRN_STS_DRAM_FAIL = false ∧ s.sys.mode = .attach ∧ (s.sys.phase = .train ∨ s.sys.phase = .learn) ∧ s.sys.attempt = false) ∧
    (∃ (s : State), s.flag TRN_STS_DRAM_FAIL = false ∧ s.sys.mode = .attach ∧ (s.sys.phase = .train ∨ s.sys.phase = .learn) ∧ s.sys.attempt = true ∧ (s.fld SAV_RST_DEC_CODE ≠ 1 ∨ s.flag SAV_CTL_RST_DISCARD = true)) ∧
    (∃ (s : State) (i : _), s.flag TRN_STS_DRAM_FAIL = false ∧ s.sys.mode = .attach ∧ (s.sys.phase = .train ∨ s.sys.phase = .learn) ∧ s.sys.attempt = true ∧ s.fld SAV_RST_DEC_CODE = 1 ∧ s.flag SAV_CTL_RST_DISCARD = false ∧ s.flash.images.find? (fun (i : Image) => decide (i.gen = s.fld SAV_RST_GEN)) = some i) ∧
    (∃ (s : State), s.flag TRN_STS_DRAM_FAIL = false ∧ s.preHandover = true ∧ s.reboundOk = false) ∧
    (∃ (s : State), s.flag TRN_STS_DRAM_FAIL = false ∧ s.preHandover = true ∧ s.reboundOk = true ∧ s.hReady = false) ∧
    (∃ (s : State), s.flag TRN_STS_DRAM_FAIL = false ∧ s.preHandover = true ∧ s.reboundOk = true ∧ s.hReady = true ∧ s.sys.mode = .rebound) ∧
    (∃ (s : State), s.flag TRN_STS_DRAM_FAIL = false ∧ s.preHandover = true ∧ s.reboundOk = true ∧ s.hReady = true ∧ s.sys.mode = .keeper) :=
  ⟨⟨w_hof, by decide +kernel⟩,
   ⟨(up .off), by decide +kernel⟩,
   ⟨(up .attach), by decide +kernel⟩,
   ⟨w_train, by decide +kernel⟩,
   ⟨w_ho, by decide +kernel⟩,
   ⟨w_hor, (w_hor.flash.images[0]'(by decide +kernel)), by decide +kernel⟩,
   ⟨(up .rebound), by decide +kernel⟩,
   ⟨w_hrb, by decide +kernel⟩,
   ⟨w_hrbl, by decide +kernel⟩,
   ⟨w_hkr, by decide +kernel⟩⟩
theorem met_RestoreFillsDram :
    (∃ (s : State), (s.sys.phase ≠ .restore ∨ s.flag DCT_STS_OWNED = false)) ∧
    (∃ (s : State) (i : Image), s.sys.phase = .restore ∧ s.flag DCT_STS_OWNED = true ∧ s.flash.images.find? (fun (i : Image) => decide (i.gen = s.fld SAV_RST_GEN)) = some i) :=
  ⟨⟨w_hkr, by decide +kernel⟩,
   ⟨w_rst2, (w_rst2.flash.images[0]'(by decide +kernel)), by decide +kernel⟩⟩
theorem met_ShutDownStages :
    (∃ (s : State) (r : Fin 33), (s.sys.mode ≠ .shutDown ∨ railIn s.pwr.waiting r.val = false)) ∧
    (∃ (s : State) (r : Fin 33), s.sys.mode = .shutDown ∧ railIn s.pwr.waiting r.val = true ∧ s.pwr.waiting &&& ~~~(railBit r.val) ≠ 0) ∧
    (∃ (s : State) (r : Fin 33), s.sys.mode = .shutDown ∧ railIn s.pwr.waiting r.val = true ∧ s.pwr.waiting &&& ~~~(railBit r.val) = 0 ∧ s.fld PWR_SEQ_STS_STAGE ≠ 0 ∧ s.stageRails (s.fld PWR_SEQ_STS_STAGE - 1) &&& s.pwr.en ≠ 0) ∧
    (∃ (s : State) (r : Fin 33), s.sys.mode = .shutDown ∧ railIn s.pwr.waiting r.val = true ∧ s.pwr.waiting &&& ~~~(railBit r.val) = 0 ∧ s.fld PWR_SEQ_STS_STAGE = 0) ∧
    (∃ (s : State), s.flag PWR_FEED_STS_GATE_A = false) ∧
    (∃ (s : State), s.flag PWR_FEED_STS_GATE_A = true ∧ s.flag SAV_STS_REBOUND_WAIT = false) ∧
    (∃ (s : State), (s.preHandover = false ∨ s.flag PWR_FEED_STS_GATE_A = false ∨ (s.fld PWR_SEQ_STS_STATE ≠ 2 ∧ s.fld PWR_SEQ_STS_STATE ≠ 4) ∨ s.persistGood = true)) ∧
    (∃ (s : State), s.preHandover = true ∧ s.flag PWR_FEED_STS_GATE_A = true ∧ (s.fld PWR_SEQ_STS_STATE = 2 ∨ s.fld PWR_SEQ_STS_STATE = 4) ∧ s.persistGood = false) :=
  ⟨⟨(up .off), (0), by decide +kernel⟩,
   ⟨w_sd2d, (5), by decide +kernel⟩,
   ⟨w_sd2b, (16), by decide +kernel⟩,
   ⟨w_sd0, (1), by decide +kernel⟩,
   ⟨(up .off), by decide +kernel⟩,
   ⟨w_gb, by decide +kernel⟩,
   ⟨(up .off), by decide +kernel⟩,
   ⟨w_gatep2, by decide +kernel⟩⟩
theorem met_ThreshRuns :
    (∃ (s : State) (l : List Image) (i : Image), s.flash.images = l ++ [i] ∧ (s.sys.mode ≠ .lull ∨ s.flag SAV_CTL_THRESH_EN = false ∨ s.sav.run ≠ none)) ∧
    (∃ (s : State) (l : List Image) (i : Image), s.flash.images = l ++ [i] ∧ s.sys.mode = .lull ∧ s.flag SAV_CTL_THRESH_EN = true ∧ s.flag CFG_MODE_NO_PLAN = false ∧ s.sav.run = none ∧ s.sav.thresh = some i.gen) ∧
    (∃ (s : State) (l : List Image) (i : Image), s.flash.images = l ++ [i] ∧ s.sys.mode = .lull ∧ s.flag SAV_CTL_THRESH_EN = true ∧ s.flag CFG_MODE_NO_PLAN = false ∧ s.sav.run = none ∧ s.sav.thresh = none ∧ s.fld SAV_CTL_THRESH_AT ≤ i.pos ∧ i.threshed = false ∧ s.sav.threshed ≠ i.gen) ∧
    (∃ (s : State) (l : List Image) (i : Image) (a : _) (x : _) (b : _) (y : _) (u : _), s.flash.images = l ++ [i] ∧ s.threshing = some i ∧ s.threshNext i = some a ∧ s.sheaf a = some x ∧ (earsLost s.fencedMask [] a x).length < 2 ∧ s.threshPlace { x with typ := copyType x.typ, gen := i.gen } = some (b, y, u) ∧ a ≠ b) ∧
    (∃ (s : State) (l : List Image) (i : Image), s.flash.images = l ++ [i] ∧ s.threshing ≠ some i) ∧
    (∃ (s : State) (l : List Image) (i : Image), let u := s.threshRest (s.threshSources i).length; s.flash.images = l ++ [i] ∧ s.threshing = some i ∧ u.threshNext i ≠ none) ∧
    (∃ (s : State) (l : List Image) (i : Image) (idx : List Nat) (v : State), let u := s.threshRest (s.threshSources i).length; let gran := i.gran.map (fun e => (e.1, u.threshEntry u.sav.threshCopies e.2)); let group := i.group.map (fun e => (e.1, u.threshEntry u.sav.threshCopies e.2)); let es := u.presentGranules.map (fun g => smapGet (fun _ => IndexEntry.none) gran g) ++ u.presentGroups.map (fun c => smapGet (fun _ => IndexEntry.none) group c); s.flash.images = l ++ [i] ∧ s.threshing = some i ∧ u.threshNext i = none ∧ u.threshIndex i (u.flash.imageGen + 1) (es.map (fun e => leNat (indexBytes e))) [] (List.range u.indexSheaves) = some (idx, v)) :=
  ⟨⟨w_sa, ((w_sa).flash.images.dropLast), (w_sa.flash.images[1]'(by decide +kernel)), by decide +kernel⟩,
   ⟨w_th1, ((w_th1).flash.images.dropLast), (w_th1.flash.images[0]'(by decide +kernel)), by decide +kernel⟩,
   ⟨w_th2b, ((w_th2b).flash.images.dropLast), (w_th2b.flash.images[0]'(by decide +kernel)), by decide +kernel⟩,
   ⟨w_thr1, (w_thr1.flash.images.dropLast), (w_thr1.flash.images[1]'(by decide +kernel)), ((w_thr1.threshNext (w_thr1.flash.images[1]'(by decide +kernel))).get (by decide +kernel)), ((w_thr1.sheaf ((w_thr1.threshNext (w_thr1.flash.images[1]'(by decide +kernel))).get (by decide +kernel))).get (by decide +kernel)), ((w_thr1.threshPlace { ((w_thr1.sheaf ((w_thr1.threshNext (w_thr1.flash.images[1]'(by decide +kernel))).get (by decide +kernel))).get (by decide +kernel)) with typ := copyType ((w_thr1.sheaf ((w_thr1.threshNext (w_thr1.flash.images[1]'(by decide +kernel))).get (by decide +kernel))).get (by decide +kernel)).typ, gen := (w_thr1.flash.images[1]'(by decide +kernel)).gen }).get (by decide +kernel)).1, ((w_thr1.threshPlace { ((w_thr1.sheaf ((w_thr1.threshNext (w_thr1.flash.images[1]'(by decide +kernel))).get (by decide +kernel))).get (by decide +kernel)) with typ := copyType ((w_thr1.sheaf ((w_thr1.threshNext (w_thr1.flash.images[1]'(by decide +kernel))).get (by decide +kernel))).get (by decide +kernel)).typ, gen := (w_thr1.flash.images[1]'(by decide +kernel)).gen }).get (by decide +kernel)).2.1, ((w_thr1.threshPlace { ((w_thr1.sheaf ((w_thr1.threshNext (w_thr1.flash.images[1]'(by decide +kernel))).get (by decide +kernel))).get (by decide +kernel)) with typ := copyType ((w_thr1.sheaf ((w_thr1.threshNext (w_thr1.flash.images[1]'(by decide +kernel))).get (by decide +kernel))).get (by decide +kernel)).typ, gen := (w_thr1.flash.images[1]'(by decide +kernel)).gen }).get (by decide +kernel)).2.2, by decide +kernel, by decide +kernel, (Option.some_get _).symm, (Option.some_get _).symm, by decide +kernel, some_triple _, by decide +kernel⟩,
   ⟨w_sa, ((w_sa).flash.images.dropLast), (w_sa.flash.images[1]'(by decide +kernel)), by decide +kernel⟩,
   ⟨w_thr3, ((w_thr3).flash.images.dropLast), (w_thr3.flash.images[1]'(by decide +kernel)), by dsimp only; decide +kernel⟩,
   (thr_index _).elim fun idx h => h.elim fun v h => ⟨w_th35, [], img0, idx, v, by dsimp only; exact ⟨by decide +kernel, by decide +kernel, by decide +kernel, h⟩⟩⟩
theorem met_PowerUpAndSupplyLoss :
    (∃ (s : State), (s.sys.mode ≠ .off ∨ (s.pwr.vaon = true ∧ s.pwr.startExpired = false))) ∧
    (∃ (s : State), s.sys.mode = .off ∧ (s.pwr.vaon = false ∨ s.pwr.startExpired = true) ∧ s.ptabIsBlank = true) ∧
    (∃ (s : State), s.sys.mode = .off ∧ (s.pwr.vaon = false ∨ s.pwr.startExpired = true) ∧ s.ptabIsBlank = false ∧ s.ptabGood = false) ∧
    (∃ (s : State), s.sys.mode = .off ∧ (s.pwr.vaon = false ∨ s.pwr.startExpired = true) ∧ s.ptabIsBlank = false ∧ s.ptabGood = true) ∧
    (∃ (s : State), s.sys.mode ≠ .off) :=
  ⟨⟨(up .powerUp), by decide +kernel⟩,
   ⟨(up .off), by decide +kernel⟩,
   ⟨w_por0, by decide +kernel, by decide +kernel, by decide +kernel, bad_of rfl⟩,
   ⟨w_por1, by decide +kernel, by decide +kernel, by decide +kernel, por1_good⟩,
   ⟨(up .powerUp), by decide +kernel⟩⟩
theorem met_Feeds :
    (∃ (s : State), s.sys.mode = .off) ∧
    (∃ (s : State), s.sys.mode ≠ .off ∧ s.sys.mode ≠ .shutDown ∧ s.preHandover = false ∧ (s.pwr.periodicDue = none ∨ (s.sys.mode ≠ .service ∧ s.sys.mode ≠ .lull))) ∧
    (∃ (s : State) (a : _), s.pwr.periodicDue = some a ∧ (s.sys.mode = .service ∨ s.sys.mode = .lull) ∧ s.pwr.test = none) ∧
    (∃ (s : State), s.sys.mode = .shutDown ∧ (s.pwr.dramPoint = true ∨ s.flag CFG_MODE_KEEPER = true)) ∧
    (∃ (s : State), s.sys.mode = .shutDown ∧ s.pwr.dramPoint = false ∧ s.flag CFG_MODE_KEEPER = false) ∧
    (∃ (s : State), s.preHandover = true) ∧
    (∃ (s : State), s.pwr.test ≠ none) ∧
    (∃ (s : State), (s.sys.mode = .save ∨ s.sys.mode = .shutDown)) ∧
    (∃ (s : State), s.sys.mode ≠ .off ∧ s.sys.mode ≠ .save ∧ s.sys.mode ≠ .shutDown) :=
  ⟨⟨(up .off), by decide +kernel⟩,
   ⟨(up .powerUp), by decide +kernel⟩,
   ⟨w_fdp1, (some { charged := true, charging := false, fault := false }), by decide +kernel⟩,
   ⟨w_sdp, by decide +kernel⟩,
   ⟨(up .shutDown), by decide +kernel⟩,
   ⟨(up .rebound), by decide +kernel⟩,
   ⟨w_tst, by decide +kernel⟩,
   ⟨(up .save), by decide +kernel⟩,
   ⟨(up .powerUp), by decide +kernel⟩⟩
theorem met_RailsAndBoot :
    (∃ (s : State) (r : Fin 33), let on := railIn s.pwr.en r.val = true ∧ (16 ≤ r.val ∨ s.pwr.armed.getLsbD r.val = true) ∧ s.sys.mode ≠ .shutDown; s.fld SPT_STS_SEQ ≠ 7 ∧ ¬ on) ∧
    (∃ (s : State) (r : Fin 33), let on := railIn s.pwr.en r.val = true ∧ (16 ≤ r.val ∨ s.pwr.armed.getLsbD r.val = true) ∧ s.sys.mode ≠ .shutDown; s.fld SPT_STS_SEQ ≠ 7 ∧ on ∧ railIn s.pwr.waiting r.val = false) ∧
    (∃ (s : State), s.fld SPT_STS_SEQ = 7) ∧
    (∃ (s : State) (r : Fin 33), RailAwaited s r.val ∧ smapFind s.pwr.retries r.val ≠ none) ∧
    (∃ (s : State) (r : Fin 33), RailAwaited s r.val ∧ smapFind s.pwr.retries r.val = none ∧ s.pwr.waiting &&& ~~~(railBit r.val) ≠ 0) ∧
    (∃ (s : State) (r : Fin 33), let failed := s.pwr.failed &&& 0x3FFF#33 ≠ 0; RailAwaited s r.val ∧ smapFind s.pwr.retries r.val = none ∧ s.pwr.waiting &&& ~~~(railBit r.val) = 0 ∧ s.fld PWR_SEQ_STS_STATE = 1 ∧ (s.sys.mode = .powerUp ∨ (s.sys.mode = .rebound ∧ ¬ failed)) ∧ s.fld PWR_SEQ_STS_STAGE < 7 ∧ (∃ k, k ≠ r.val ∧ s.railExists k = true ∧ k < 33 ∧ railStage k = s.fld PWR_SEQ_STS_STAGE + 1 ∧ s.railGood k = false)) ∧
    (∃ (s : State) (r : Fin 33), let failed := s.pwr.failed &&& 0x3FFF#33 ≠ 0; RailAwaited s r.val ∧ smapFind s.pwr.retries r.val = none ∧ s.pwr.waiting &&& ~~~(railBit r.val) = 0 ∧ s.fld PWR_SEQ_STS_STATE = 1 ∧ s.sys.mode = .rebound ∧ failed) ∧
    (∃ (s : State) (r : Fin 33), let failed := s.pwr.failed &&& 0x3FFF#33 ≠ 0; RailAwaited s r.val ∧ smapFind s.pwr.retries r.val = none ∧ s.pwr.waiting &&& ~~~(railBit r.val) = 0 ∧ s.fld PWR_SEQ_STS_STATE = 1 ∧ s.sys.mode = .rebound ∧ s.fld PWR_SEQ_STS_STAGE = 7 ∧ ¬ failed) ∧
    (∃ (s : State) (r : Fin 33) (boot : BootEnv), RailAwaited s r.val ∧ smapFind s.pwr.retries r.val = none ∧ s.pwr.waiting &&& ~~~(railBit r.val) = 0 ∧ s.fld PWR_SEQ_STS_STATE = 1 ∧ s.sys.mode = .powerUp ∧ s.fld PWR_SEQ_STS_STAGE = 7 ∧ s.bootPick boot.anchorBad = none) ∧
    (∃ (s : State) (r : Fin 33) (boot : BootEnv) (b : BootAnchor), RailAwaited s r.val ∧ smapFind s.pwr.retries r.val = none ∧ s.pwr.waiting &&& ~~~(railBit r.val) = 0 ∧ s.fld PWR_SEQ_STS_STATE = 1 ∧ s.sys.mode = .powerUp ∧ s.fld PWR_SEQ_STS_STAGE = 7 ∧ s.bootPick boot.anchorBad = some b ∧ 2 ≤ b.fails ∧ b.prev ≠ 0) ∧
    (∃ (s : State) (r : Fin 33) (boot : BootEnv) (b : BootAnchor), RailAwaited s r.val ∧ smapFind s.pwr.retries r.val = none ∧ s.pwr.waiting &&& ~~~(railBit r.val) = 0 ∧ s.fld PWR_SEQ_STS_STATE = 1 ∧ s.sys.mode = .powerUp ∧ s.fld PWR_SEQ_STS_STAGE = 7 ∧ s.bootPick boot.anchorBad = some b ∧ b.fails < 2 ∧ b.active = 0) ∧
    (∃ (s : State) (r : Fin 33) (boot : BootEnv) (b : BootAnchor) (m : _) (fw : _), RailAwaited s r.val ∧ smapFind s.pwr.retries r.val = none ∧ s.pwr.waiting &&& ~~~(railBit r.val) = 0 ∧ s.fld PWR_SEQ_STS_STATE = 1 ∧ s.sys.mode = .powerUp ∧ s.fld PWR_SEQ_STS_STAGE = 7 ∧ s.bootPick boot.anchorBad = some b ∧ b.fails < 2 ∧ b.active ≠ 0 ∧ s.bootImage b boot.twinBad = some m ∧ s.bootFw b boot.twinBad = some fw) ∧
    (∃ (s : State) (r : Fin 33) (boot : BootEnv) (b : BootAnchor), RailAwaited s r.val ∧ smapFind s.pwr.retries r.val = none ∧ s.pwr.waiting &&& ~~~(railBit r.val) = 0 ∧ s.fld PWR_SEQ_STS_STATE = 1 ∧ s.sys.mode = .powerUp ∧ s.fld PWR_SEQ_STS_STAGE = 7 ∧ s.bootPick boot.anchorBad = some b ∧ b.fails < 2 ∧ b.active ≠ 0 ∧ s.bootImage b boot.twinBad = none) :=
  ⟨⟨(up .off), (20), by dsimp only; decide +kernel⟩,
   ⟨w_rr1, (4), by dsimp only; decide +kernel⟩,
   ⟨w_seq7, by decide +kernel⟩,
   ⟨w_rr1, (14), by unfold RailAwaited; decide +kernel⟩,
   ⟨w_rf1, (16), by unfold RailAwaited; decide +kernel⟩,
   ⟨w_wr, (1), by unfold RailAwaited; decide +kernel, by decide +kernel, by decide +kernel, by decide +kernel, by decide +kernel, by decide +kernel, ⟨2, by decide +kernel⟩⟩,
   ⟨w_rr3, (4), by unfold RailAwaited; dsimp only; decide +kernel⟩,
   ⟨w_wr3, (16), by unfold RailAwaited; dsimp only; decide +kernel⟩,
   ⟨w_bt0, (20), ({ twinBad := 0x00#6, dies := 1, factoryBad := [], anchorBad := [] }), by unfold RailAwaited; decide +kernel⟩,
   ⟨w_bl4, (16), ({ twinBad := 0x00#6, dies := 1, factoryBad := [], anchorBad := [] }), (w_bl4.flash.boot.get (by decide +kernel)), by unfold RailAwaited; decide +kernel⟩,
   ⟨w_bl1, (16), ({ twinBad := 0x00#6, dies := 1, factoryBad := [], anchorBad := [] }), (w_bl1.flash.boot.get (by decide +kernel)), by unfold RailAwaited; decide +kernel⟩,
   ⟨w_bl2, (16), ({ twinBad := 0x00#6, dies := 1, factoryBad := [], anchorBad := [] }), (w_bl2.flash.boot.get (by decide +kernel)), ([0x01#8, 0x02#8, 0x03#8, 0x04#8]), ([0x01#8, 0x02#8, 0x03#8]), by unfold RailAwaited; decide +kernel⟩,
   ⟨w_bl3, (16), ({ twinBad := 0x00#6, dies := 1, factoryBad := [], anchorBad := [] }), (w_bl3.flash.boot.get (by decide +kernel)), by unfold RailAwaited; decide +kernel⟩⟩
theorem met_RailFailures :
    (∃ (s : State) (r : Fin 33), (railIn s.pwr.waiting r.val = false ∨ s.sys.mode = .shutDown)) ∧
    (∃ (s : State) (r : Fin 33), railIn s.pwr.waiting r.val = true ∧ s.sys.mode ≠ .shutDown ∧ smapFind s.pwr.retries r.val = none ∧ s.sys.mode = .powerUp ∧ railPersist r.val = true) ∧
    (∃ (s : State) (r : Fin 33), let rest := s.pwr.waiting &&& ~~~(railBit r.val); railIn s.pwr.waiting r.val = true ∧ s.sys.mode ≠ .shutDown ∧ smapFind s.pwr.retries r.val = none ∧ s.sys.mode ≠ .powerUp ∧ railPersist r.val = true ∧ rest ≠ 0) ∧
    (∃ (s : State) (r : Fin 33), let rest := s.pwr.waiting &&& ~~~(railBit r.val); railIn s.pwr.waiting r.val = true ∧ s.sys.mode ≠ .shutDown ∧ smapFind s.pwr.retries r.val = none ∧ s.sys.mode = .rebound ∧ railPersist r.val = true ∧ rest = 0 ∧ s.fld PWR_SEQ_STS_STATE = 1) ∧
    (∃ (s : State) (r : Fin 33), let rest := s.pwr.waiting &&& ~~~(railBit r.val); railIn s.pwr.waiting r.val = true ∧ s.sys.mode ≠ .shutDown ∧ smapFind s.pwr.retries r.val = none ∧ (r.val = 14 ∨ r.val = 15) ∧ (rest ≠ 0 ∨ s.fld PWR_SEQ_STS_STATE ≠ 1)) ∧
    (∃ (s : State) (r : Fin 33), let rest := s.pwr.waiting &&& ~~~(railBit r.val); railIn s.pwr.waiting r.val = true ∧ s.sys.mode ≠ .shutDown ∧ smapFind s.pwr.retries r.val = none ∧ 16 ≤ r.val ∧ s.sys.mode ≠ .save ∧ (rest ≠ 0 ∨ s.fld PWR_SEQ_STS_STATE ≠ 1)) ∧
    (∃ (s : State) (r : Fin 33) (n : _), railIn s.pwr.waiting r.val = true ∧ s.sys.mode ≠ .shutDown ∧ smapFind s.pwr.retries r.val = some n ∧ 1 < n) ∧
    (∃ (s : State) (r : Fin 33) (n : _), railIn s.pwr.waiting r.val = true ∧ s.sys.mode ≠ .shutDown ∧ smapFind s.pwr.retries r.val = some n ∧ n ≤ 1 ∧ s.sys.mode ≠ .save) ∧
    (∃ (s : State) (r : Fin 33), (smapFind s.pwr.retries r.val = none ∨ railIn s.pwr.waiting r.val = true)) ∧
    (∃ (s : State) (r : Fin 33), smapFind s.pwr.retries r.val ≠ none ∧ railIn s.pwr.waiting r.val = false) ∧
    (∃ (s : State) (r : Fin 33), s.railGood r.val = false) ∧
    (∃ (s : State) (r : Fin 33), s.railGood r.val = true ∧ s.sys.mode ≠ .shutDown) ∧
    (∃ (s : State) (r : Fin 33), s.railGood r.val = true ∧ s.sys.mode = .shutDown) :=
  ⟨⟨(up .off), (15), by decide +kernel⟩,
   ⟨w_rf1, (5), by decide +kernel⟩,
   ⟨w_rf2, (5), by dsimp only; decide +kernel⟩,
   ⟨w_rr3, (4), by dsimp only; decide +kernel⟩,
   ⟨w_rf3, (15), by dsimp only; decide +kernel⟩,
   ⟨w_rf1, (16), by dsimp only; decide +kernel⟩,
   ⟨w_rr1, (14), (3), by decide +kernel⟩,
   ⟨w_rr2, (16), (1), by decide +kernel⟩,
   ⟨(up .off), (15), by decide +kernel⟩,
   ⟨w_rfr, (15), by decide +kernel⟩,
   ⟨(up .off), (15), by decide +kernel⟩,
   ⟨w_hrb, (15), by decide +kernel⟩,
   ⟨w_rgs, (15), by decide +kernel⟩⟩
theorem met_TelemetryAndResets :
    (∃ (s : State), (s.sys.mode = .off ∨ (s.sys.mode = .powerUp ∧ s.pwr.mbEnv ≠ none) ∨ s.fld SPT_STS_SEQ = 7)) ∧
    (∃ (s : State) (c : Fin 16), s.sys.mode ≠ .off ∧ (s.sys.mode ≠ .powerUp ∨ s.pwr.mbEnv = none) ∧ s.fld SPT_STS_SEQ ≠ 7 ∧ s.railExists c.val = true) ∧
    (∃ (s : State), (s.sys.mode = .off ∨ s.gatesSet = false)) ∧
    (∃ (s : State), let five := (s.sys.mode = .powerUp ∨ s.sys.mode = .keeper) ∧ s.pwr.mbEnv ≠ none; s.sys.mode ≠ .off ∧ s.gatesSet = true ∧ (s.flag PWR_RSTO_PACK_LOW = true ∨ ¬ five)) ∧
    (∃ (s : State), let five := (s.sys.mode = .powerUp ∨ s.sys.mode = .keeper) ∧ s.pwr.mbEnv ≠ none; s.sys.mode ≠ .off ∧ s.gatesSet = true ∧ (s.flag PWR_RSTO_PMIC_LOW = true ∨ ¬ five)) ∧
    (∃ (s : State), let five := (s.sys.mode = .powerUp ∨ s.sys.mode = .keeper) ∧ s.pwr.mbEnv ≠ none; s.sys.mode ≠ .off ∧ s.gatesSet = true ∧ s.flag PWR_RSTO_PACK_LOW = false ∧ five) ∧
    (∃ (s : State), let five := (s.sys.mode = .powerUp ∨ s.sys.mode = .keeper) ∧ s.pwr.mbEnv ≠ none; s.sys.mode ≠ .off ∧ s.gatesSet = true ∧ s.flag PWR_RSTO_PMIC_LOW = false ∧ five) ∧
    (∃ (s : State), let waits := s.sys.mode = .shutDown ∨ ((s.sys.mode = .powerUp ∨ s.sys.mode = .rebound ∨ s.sys.mode = .keeper) ∧ s.fld PWR_SEQ_STS_STATE ≠ 2); s.sys.mode ≠ .off ∧ s.gatesSet = true ∧ waits) ∧
    (∃ (s : State), let waits := s.sys.mode = .shutDown ∨ ((s.sys.mode = .powerUp ∨ s.sys.mode = .rebound ∨ s.sys.mode = .keeper) ∧ s.fld PWR_SEQ_STS_STATE ≠ 2); s.sys.mode ≠ .off ∧ s.gatesSet = true ∧ ¬ waits) ∧
    (∃ (s : State), s.sys.mode = .off) :=
  ⟨⟨(up .off), by decide +kernel⟩,
   ⟨w_rr1, (3), by decide +kernel⟩,
   ⟨(up .off), by decide +kernel⟩,
   ⟨w_sfive2, by dsimp only; decide +kernel⟩,
   ⟨w_sfive, by dsimp only; decide +kernel⟩,
   ⟨w_sfive, by dsimp only; decide +kernel⟩,
   ⟨w_sfive2, by dsimp only; decide +kernel⟩,
   ⟨w_sfive, by dsimp only; decide +kernel⟩,
   ⟨w_gate, by dsimp only; decide +kernel⟩,
   ⟨(up .off), by decide +kernel⟩⟩
theorem met_FirstKite :
    (∃ (s : State) (core : CoreId), (s.sys.mode ≠ .powerUp ∨ s.sys.attempt = false ∨ s.pwr.bootDone = false ∨ s.firstCore ≠ some core)) ∧
    (∃ (s : State) (core : CoreId), s.sys.mode = .powerUp ∧ s.sys.attempt = true ∧ s.pwr.bootDone = true ∧ (s.flag SPT_HB_A_ALIVE = true ∧ core = .a ∨ s.flag SPT_HB_A_ALIVE = false ∧ s.flag SPT_HB_B_ALIVE = true ∧ core = .b)) :=
  ⟨⟨(up .off), (CoreId.a), by decide +kernel⟩,
   ⟨w_kg, (CoreId.a), by decide +kernel⟩⟩
theorem met_PackTests :
    (∃ (s : State), (s.sys.mode ≠ .powerUp ∨ s.flag PWR_RSTO_PACK_LOW = true ∨ s.pwr.bootDone = true ∨ s.flag PWR_FEED_STS_A_GOOD = false)) ∧
    (∃ (s : State), s.sys.mode = .off) ∧
    (∃ (s : State), s.sys.mode ≠ .off ∧ s.sys.mode ≠ .service ∧ s.sys.mode ≠ .lull) ∧
    (∃ (s : State), (s.sys.mode = .service ∨ s.sys.mode = .lull) ∧ s.pwr.test = none ∧ s.flag PWR_FEED_STS_A_GOOD = false) ∧
    (∃ (s : State), (s.sys.mode = .service ∨ s.sys.mode = .lull) ∧ s.pwr.test ≠ none) ∧
    (∃ (s : State), (s.pwr.catchUp = false ∨ s.flag PWR_FEED_STS_A_GOOD = false)) ∧
    (∃ (s : State) (src : _), s.findExec src 0x13 = none) ∧
    (∃ (s : State) (src : _) (e : _), s.findExec src 0x13 = some e ∧ pktField e.bytes 8 1 ≠ 0) ∧
    (∃ (s : State) (src : _) (e : _), s.findExec src 0x13 = some e ∧ pktField e.bytes 8 1 = 0 ∧ s.pwr.test ≠ none) ∧
    (∃ (s : State) (src : _) (e : _), s.findExec src 0x13 = some e ∧ pktField e.bytes 8 1 = 0 ∧ s.pwr.test = none ∧ s.flag PWR_FEED_STS_A_GOOD = false) ∧
    (∃ (s : State), s.pwr.test = none ∧ s.flag PWR_FEED_STS_A_GOOD = true ∧ s.sys.mode = .powerUp ∧ s.flag PWR_RSTO_PACK_LOW = false ∧ s.pwr.bootDone = false) ∧
    (∃ (s : State), s.pwr.test = none ∧ s.flag PWR_FEED_STS_A_GOOD = true ∧ (s.sys.mode = .service ∨ s.sys.mode = .lull)) ∧
    (∃ (s : State), s.pwr.test = none ∧ s.flag PWR_FEED_STS_A_GOOD = true ∧ s.pwr.catchUp = true) ∧
    (∃ (s : State) (src : _) (e : _), s.pwr.test = none ∧ s.flag PWR_FEED_STS_A_GOOD = true ∧ s.findExec src 0x13 = some e ∧ pktField e.bytes 8 1 = 0) ∧
    (∃ (s : State) (v : BitVec 16) (k : _), let floor := vFloor (if s.pwr.capOk then s.fld PWR_PACK_ESR else 0); s.pwr.test = some (k, .settling) ∧ floor < v.toNat) ∧
    (∃ (s : State) (v : BitVec 16) (k : _), let floor := vFloor (if s.pwr.capOk then s.fld PWR_PACK_ESR else 0); s.pwr.test = some (k, .settling) ∧ v.toNat ≤ floor) ∧
    (∃ (s : State) (k : PackTestKind) (v0 : Nat), s.pwr.test = some (k, .loaded v0)) ∧
    (∃ (s : State), (∀ k v0 v1, s.pwr.test ≠ some (k, .v1 v0 v1))) ∧
    (∃ (s : State) (k : _) (v0 : _) (v1 : _) (i : BitVec 16), s.pwr.test = some (k, .v1 v0 v1) ∧ (i.toNat < 1000 ∨ 10000 < i.toNat)) ∧
    (∃ (s : State) (v : BitVec 16) (k : _) (v0 : _) (v1 : _) (i : BitVec 16), s.pwr.test = some (k, .v1 v0 v1) ∧ 1000 ≤ i.toNat ∧ i.toNat ≤ 10000 ∧ v1 < v.toNat + 20) ∧
    (∃ (s : State) (v : BitVec 16) (k : _) (v0 : _) (v1 : _) (i : BitVec 16), s.pwr.test = some (k, .v1 v0 v1) ∧ 1000 ≤ i.toNat ∧ i.toNat ≤ 10000 ∧ v.toNat + 20 ≤ v1 ∧ v1 ≤ v0 ∧ v0 < 65536) ∧
    (∃ (s : State), (s.sys.mode = .off ∨ s.sys.mode = .save ∨ s.flag PWR_PACK_STS_C_VALID = false ∨ s.pwr.test ≠ none)) ∧
    (∃ (s : State), s.sys.mode ≠ .off ∧ s.sys.mode ≠ .save ∧ s.flag PWR_PACK_STS_C_VALID = true ∧ s.pwr.test = none) :=
  ⟨⟨(up .off), by decide +kernel⟩,
   ⟨(up .off), by decide +kernel⟩,
   ⟨(up .powerUp), by decide +kernel⟩,
   ⟨(up .service), by decide +kernel⟩,
   ⟨w_tst, by decide +kernel⟩,
   ⟨(up .off), by decide +kernel⟩,
   ⟨w_nop, (PktSrc.ring 5), by decide +kernel⟩,
   ⟨w_pt1, (PktSrc.mailbox), (w_pt1.pkt.exec[0]'(by decide +kernel)), by decide +kernel⟩,
   ⟨w_pt2, (PktSrc.mailbox), (w_pt2.pkt.exec[0]'(by decide +kernel)), by decide +kernel⟩,
   ⟨w_pt3, (PktSrc.mailbox), (w_pt3.pkt.exec[0]'(by decide +kernel)), by decide +kernel⟩,
   ⟨w_pt5, by decide +kernel⟩,
   ⟨w_coast3, by decide +kernel⟩,
   ⟨w_pt6, by decide +kernel⟩,
   ⟨w_pt4, (PktSrc.mailbox), (w_pt4.pkt.exec[0]'(by decide +kernel)), by decide +kernel⟩,
   ⟨w_tst, (0x5054#16), (PackTestKind.packet), by dsimp only; decide +kernel⟩,
   ⟨w_tst, (0x0000#16), (PackTestKind.packet), by dsimp only; decide +kernel⟩,
   ⟨w_pt8, (PackTestKind.packet), (12500), by decide +kernel⟩,
   ⟨(up .off), fun _ _ _ h => nomatch (show (none : Option (PackTestKind × PackStep)) = some _ from h)⟩,
   ⟨w_pt9, (PackTestKind.packet), (12500), (12400), (0x03e7#16), by decide +kernel⟩,
   ⟨w_pv1, (0x2aee#16), (PackTestKind.packet), (12000), (11000), (0x03e8#16), by decide +kernel⟩,
   ⟨w_pt9, (0x2a94#16), (PackTestKind.packet), (12500), (12400), (0x03e8#16), by decide +kernel⟩,
   ⟨(up .off), by decide +kernel⟩,
   ⟨w_pt10, by decide +kernel⟩⟩
theorem met_Generations :
    (∃ (s : State) (src : PktSrc), s.findExec src 0x0C = none) ∧
    (∃ (s : State) (src : PktSrc), s.findExec src 0x0D = none) ∧
    (∃ (s : State) (src : PktSrc), s.findExec src 0x0E = none) ∧
    (∃ (s : State) (src : PktSrc) (e : _), s.findExec src 0x0C = some e ∧ s.configFirst e = true) ∧
    (∃ (s : State) (src : PktSrc) (e : _), let off := pktField e.bytes 8 4; let tot := pktField e.bytes 12 4; s.findExec src 0x0C = some e ∧ s.configFirst e = false ∧ off = 0 ∧ (tot = 0 ∨ 524288 < tot)) ∧
    (∃ (s : State) (src : PktSrc) (e : _), let off := pktField e.bytes 8 4; let tot := pktField e.bytes 12 4; s.findExec src 0x0C = some e ∧ s.configFirst e = false ∧ off = 0 ∧ 0 < tot ∧ tot ≤ 524288 ∧ s.flash.boot = none) ∧
    (∃ (s : State) (src : PktSrc) (e : _) (b : _), let off := pktField e.bytes 8 4; let tot := pktField e.bytes 12 4; s.findExec src 0x0C = some e ∧ s.configFirst e = false ∧ off = 0 ∧ 0 < tot ∧ tot ≤ 524288 ∧ s.flash.boot = some b) ∧
    (∃ (s : State) (src : PktSrc) (e : _), let off := pktField e.bytes 8 4; s.findExec src 0x0C = some e ∧ s.configFirst e = false ∧ off ≠ 0 ∧ s.pln.staging = none) ∧
    (∃ (s : State) (src : PktSrc) (e : _) (g : _), let off := pktField e.bytes 8 4; s.findExec src 0x0C = some e ∧ s.configFirst e = false ∧ off ≠ 0 ∧ s.pln.staging = some g ∧ off ≠ g.got) ∧
    (∃ (s : State) (src : PktSrc) (e : _) (g : _), let off := pktField e.bytes 8 4; let tot := pktField e.bytes 12 4; s.findExec src 0x0C = some e ∧ s.configFirst e = false ∧ off ≠ 0 ∧ s.pln.staging = some g ∧ off = g.got ∧ tot ≠ g.total) ∧
    (∃ (s : State) (src : PktSrc) (e : _) (g : _) (b : _), let off := pktField e.bytes 8 4; let tot := pktField e.bytes 12 4; let bs := sliceBytes e.bytes 16 (min 40 (g.total - g.got)); let h : Staging := { g with got := g.got + bs.length, buf := g.buf ++ bs }; s.findExec src 0x0C = some e ∧ s.configFirst e = false ∧ off ≠ 0 ∧ s.pln.staging = some g ∧ off = g.got ∧ tot = g.total ∧ s.flash.boot = some b ∧ h.got < g.total ∧ h.buf.length < 65536) ∧
    (∃ (s : State) (src : PktSrc) (e : _) (g : _) (b : _), let off := pktField e.bytes 8 4; let tot := pktField e.bytes 12 4; let bs := sliceBytes e.bytes 16 (min 40 (g.total - g.got)); let h : Staging := { g with got := g.got + bs.length, buf := g.buf ++ bs }; s.findExec src 0x0C = some e ∧ s.configFirst e = false ∧ off ≠ 0 ∧ s.pln.staging = some g ∧ off = g.got ∧ tot = g.total ∧ s.flash.boot = some b ∧ h.got < g.total ∧ 65536 ≤ h.buf.length) ∧
    (∃ (s : State) (src : PktSrc) (e : _) (g : _) (b : _), let off := pktField e.bytes 8 4; let tot := pktField e.bytes 12 4; let bs := sliceBytes e.bytes 16 (min 40 (g.total - g.got)); let h : Staging := { g with got := g.got + bs.length, buf := g.buf ++ bs }; s.findExec src 0x0C = some e ∧ s.configFirst e = false ∧ off ≠ 0 ∧ s.pln.staging = some g ∧ off = g.got ∧ tot = g.total ∧ s.flash.boot = some b ∧ g.total ≤ h.got ∧ b.twin ≤ 1) ∧
    (∃ (s : State) (src : PktSrc) (e : _), s.findExec src 0x0D = some e ∧ s.configFirst e = true) ∧
    (∃ (s : State) (src : PktSrc) (e : _) (b : _), s.findExec src 0x0D = some e ∧ s.configFirst e = false ∧ s.flash.boot = some b ∧ (s.stagedGen b = 0 ∨ pktField e.bytes 8 4 ≠ s.stagedGen b ∨ s.stagedImage b = none)) ∧
    (∃ (s : State) (src : PktSrc) (e : _) (b : _) (m : _), s.findExec src 0x0D = some e ∧ s.configFirst e = false ∧ s.flash.boot = some b ∧ s.stagedGen b ≠ 0 ∧ pktField e.bytes 8 4 = s.stagedGen b ∧ s.stagedImage b = some m ∧ s.flag PLN_STS_PACK_SHORT = true) ∧
    (∃ (s : State) (src : PktSrc) (e : _) (b : _) (m : _), s.findExec src 0x0D = some e ∧ s.configFirst e = false ∧ s.flash.boot = some b ∧ s.stagedGen b ≠ 0 ∧ pktField e.bytes 8 4 = s.stagedGen b ∧ s.stagedImage b = some m ∧ s.flag PLN_STS_PACK_SHORT = false ∧ (s.judge m s.usableEnergy).code ≠ stOk) ∧
    (∃ (s : State) (src : PktSrc) (e : _) (b : _) (m : _), s.findExec src 0x0D = some e ∧ s.configFirst e = false ∧ s.flash.boot = some b ∧ s.stagedGen b ≠ 0 ∧ pktField e.bytes 8 4 = s.stagedGen b ∧ s.stagedImage b = some m ∧ s.flag PLN_STS_PACK_SHORT = false ∧ (s.judge m s.usableEnergy).code = stOk) ∧
    (∃ (s : State) (src : PktSrc) (e : _), s.findExec src 0x0E = some e ∧ s.configFirst e = true) ∧
    (∃ (s : State) (src : PktSrc) (e : _) (b : _), let named := pktField e.bytes 8 4 = 0 ∨ pktField e.bytes 8 4 = b.active; s.findExec src 0x0E = some e ∧ s.configFirst e = false ∧ s.flash.boot = some b ∧ (b.prev = 0 ∨ ¬ named ∨ smapFind s.flash.twins (b.twin * 3 + 2) = none)) ∧
    (∃ (s : State) (src : PktSrc) (e : _) (b : _) (m : _), let named := pktField e.bytes 8 4 = 0 ∨ pktField e.bytes 8 4 = b.active; s.findExec src 0x0E = some e ∧ s.configFirst e = false ∧ s.flash.boot = some b ∧ b.prev ≠ 0 ∧ named ∧ smapFind s.flash.twins (b.twin * 3 + 2) = some m) :=
  ⟨⟨w_svc, (PktSrc.mailbox), by decide +kernel⟩,
   ⟨w_svc, (PktSrc.mailbox), by decide +kernel⟩,
   ⟨w_svc, (PktSrc.mailbox), by decide +kernel⟩,
   ⟨w_csb, (PktSrc.ring 0), (w_csb.pkt.exec[1]'(by decide +kernel)), by decide +kernel⟩,
   ⟨w_cs0, (PktSrc.mailbox), (w_cs0.pkt.exec[0]'(by decide +kernel)), by dsimp only; decide +kernel⟩,
   ⟨w_gnb, (PktSrc.mailbox), (w_gnb.pkt.exec[0]'(by decide +kernel)), by dsimp only; decide +kernel⟩,
   ⟨w_cs1, (PktSrc.mailbox), (w_cs1.pkt.exec[0]'(by decide +kernel)), (w_cs1.flash.boot.get (by decide +kernel)), by dsimp only; decide +kernel⟩,
   ⟨w_cs2, (PktSrc.mailbox), (w_cs2.pkt.exec[0]'(by decide +kernel)), by dsimp only; decide +kernel⟩,
   ⟨w_cs3, (PktSrc.mailbox), (w_cs3.pkt.exec[0]'(by decide +kernel)), (w_cs3.pln.staging.get (by decide +kernel)), by dsimp only; decide +kernel⟩,
   ⟨w_cs4, (PktSrc.mailbox), (w_cs4.pkt.exec[0]'(by decide +kernel)), (w_cs4.pln.staging.get (by decide +kernel)), by dsimp only; decide +kernel⟩,
   ⟨w_cs5, (PktSrc.mailbox), (w_cs5.pkt.exec[0]'(by decide +kernel)), (w_cs5.pln.staging.get (by decide +kernel)), (w_cs5.flash.boot.get (by decide +kernel)), by dsimp only; decide +kernel⟩,
   ⟨w_cse, .mailbox, (w_cse.pkt.exec[0]'(by decide +kernel)), ⟨200000, 65520, List.replicate 65520 3, 0, [], 0, false, 9⟩, (w_cse.flash.boot.get (by decide +kernel)), by decide +kernel, by decide +kernel, by decide +kernel, rfl, by decide +kernel, by decide +kernel, by decide +kernel, by decide +kernel, buf_long _ (by decide +kernel)⟩,
   ⟨w_cs6, (PktSrc.mailbox), (w_cs6.pkt.exec[0]'(by decide +kernel)), (w_cs6.pln.staging.get (by decide +kernel)), (w_cs6.flash.boot.get (by decide +kernel)), by dsimp only; decide +kernel⟩,
   ⟨w_gab, (PktSrc.ring 0), (w_gab.pkt.exec[1]'(by decide +kernel)), by decide +kernel⟩,
   ⟨w_csb, (PktSrc.mailbox), (w_csb.pkt.exec[0]'(by decide +kernel)), (w_csb.flash.boot.get (by decide +kernel)), by decide +kernel⟩,
   ⟨w_gpk, .mailbox, (w_gpk.pkt.exec[0]'(by decide +kernel)), (w_gpk.flash.boot.get (by decide +kernel)), planM, by decide +kernel, by decide +kernel, by decide +kernel, by decide +kernel, by decide +kernel, staged_of (x := 4) (l := 280) (y := 10) (by decide +kernel) (by decide +kernel) (by decide +kernel) plan_sha, by decide +kernel⟩,
   ⟨w_ca9, (PktSrc.mailbox), (w_ca9.pkt.exec[0]'(by decide +kernel)), (w_ca9.flash.boot.get (by decide +kernel)), ([0x01#8, 0x02#8, 0x03#8, 0x04#8]), by decide +kernel⟩,
   ⟨w_gok, .mailbox, (w_gok.pkt.exec[0]'(by decide +kernel)), (w_gok.flash.boot.get (by decide +kernel)), planM, by decide +kernel, by decide +kernel, by decide +kernel, by decide +kernel, by decide +kernel, staged_of (x := 4) (l := 280) (y := 10) (by decide +kernel) (by decide +kernel) (by decide +kernel) plan_sha, by decide +kernel, judge_passes plan_structural (ps := (List.range 19).map (fun p => (p, 0, 0, 0, 1020))) (by decide +kernel) (by decide +kernel) (by decide +kernel)⟩,
   ⟨w_grb, (PktSrc.ring 0), (w_grb.pkt.exec[1]'(by decide +kernel)), by decide +kernel⟩,
   ⟨w_cr0, (PktSrc.mailbox), (w_cr0.pkt.exec[0]'(by decide +kernel)), (w_cr0.flash.boot.get (by decide +kernel)), by dsimp only; decide +kernel⟩,
   ⟨w_cr1, (PktSrc.mailbox), (w_cr1.pkt.exec[0]'(by decide +kernel)), (w_cr1.flash.boot.get (by decide +kernel)), ([0x01#8, 0x02#8, 0x03#8, 0x04#8]), by dsimp only; decide +kernel⟩⟩
theorem met_PaceWindow :
    (∃ (s : State), s.sys.mode = .off) ∧
    (∃ (s : State) (env : PaceEnv) (v : _) (k : _), s.sys.mode ≠ .off ∧ paceV env.vdd.toNat = some v ∧ paceT env.temp.toInt = some k) :=
  ⟨⟨(up .off), by decide +kernel⟩,
   ⟨(up .powerUp), ({ count := 0xc350#16, vdd := 0x0320#16, temp := 0x0028#16, xtal := 0x0019#16, stopped := false, feedA := 0x2ee0#16, feedB := 0x251c#16 }), (4), (2), by decide +kernel⟩⟩
theorem met_FlashStarts :
    (∃ (s : State) (ch : Fin 17) (die : Fin 4) (low : Bool) (x : List Byte), let v := s.die ch.val die.val; FceGranted s ch.val die.val low x ∧ dOp x = 1 ∧ v.st = .idle) ∧
    (∃ (s : State) (ch : Fin 17) (die : Fin 4) (low : Bool) (x : List Byte), let v := s.die ch.val die.val; FceGranted s ch.val die.val low x ∧ dOp x = 1 ∧ v.st = .suspended ∧ v.eraseBlock ≠ some (dBlock x)) ∧
    (∃ (s : State) (ch : Fin 17) (die : Fin 4) (low : Bool) (x : List Byte), let v := s.die ch.val die.val; FceGranted s ch.val die.val low x ∧ dOp x = 1 ∧ v.st = .suspended ∧ v.eraseBlock = some (dBlock x)) ∧
    (∃ (s : State) (ch : Fin 17) (die : Fin 4) (low : Bool) (x : List Byte), let v := s.die ch.val die.val; FceGranted s ch.val die.val low x ∧ dOp x = 1 ∧ (v.st = .programming ∨ v.st = .erasing)) ∧
    (∃ (s : State) (ch : Fin 17) (die : Fin 4) (low : Bool) (x : List Byte), let v := s.die ch.val die.val; FceGranted s ch.val die.val low x ∧ dOp x = 2 ∧ v.st = .idle ∧ dTlc x = false ∧ s.programCheck ch.val die.val x = none) ∧
    (∃ (s : State) (ch : Fin 17) (die : Fin 4) (low : Bool) (x : List Byte), let v := s.die ch.val die.val; FceGranted s ch.val die.val low x ∧ dOp x = 2 ∧ v.st = .idle ∧ dTlc x = true ∧ dPage x % 3 ≠ 2 ∧ s.programCheck ch.val die.val x = none) ∧
    (∃ (s : State) (ch : Fin 17) (die : Fin 4) (low : Bool) (x : List Byte), let v := s.die ch.val die.val; FceGranted s ch.val die.val low x ∧ dOp x = 2 ∧ v.st = .suspended ∧ v.eraseBlock ≠ some (dBlock x) ∧ dTlc x = false ∧ s.programCheck ch.val die.val x = none) ∧
    (∃ (s : State) (ch : Fin 17) (die : Fin 4) (low : Bool) (x : List Byte), let v := s.die ch.val die.val; FceGranted s ch.val die.val low x ∧ dOp x = 2 ∧ v.st = .suspended ∧ v.eraseBlock = some (dBlock x)) ∧
    (∃ (s : State) (ch : Fin 17) (die : Fin 4) (low : Bool) (x : List Byte) (code : _), let v := s.die ch.val die.val; FceGranted s ch.val die.val low x ∧ dOp x = 2 ∧ v.st = .idle ∧ s.programCheck ch.val die.val x = some code) ∧
    (∃ (s : State) (ch : Fin 17) (die : Fin 4) (low : Bool) (x : List Byte), FceGranted s ch.val die.val low x ∧ dOp x = 3) ∧
    (∃ (s : State) (ch : Fin 17) (die : Fin 4) (low : Bool) (x : List Byte) (r : _), let v := s.die ch.val die.val; FceGranted s ch.val die.val low x ∧ dOp x = 4 ∧ v.st = .erasing ∧ v.erase = some r ∧ v.susp ≠ 8) ∧
    (∃ (s : State) (ch : Fin 17) (die : Fin 4) (low : Bool) (x : List Byte) (r : _), let v := s.die ch.val die.val; FceGranted s ch.val die.val low x ∧ dOp x = 4 ∧ v.st = .erasing ∧ v.erase = some r ∧ v.susp = 8) ∧
    (∃ (s : State) (ch : Fin 17) (die : Fin 4) (low : Bool) (x : List Byte), let v := s.die ch.val die.val; FceGranted s ch.val die.val low x ∧ dOp x = 4 ∧ v.st ≠ .erasing) ∧
    (∃ (s : State) (ch : Fin 17) (die : Fin 4) (low : Bool) (x : List Byte), let v := s.die ch.val die.val; FceGranted s ch.val die.val low x ∧ dOp x = 5 ∧ v.st = .suspended) ∧
    (∃ (s : State) (ch : Fin 17) (die : Fin 4) (low : Bool) (x : List Byte), let v := s.die ch.val die.val; FceGranted s ch.val die.val low x ∧ dOp x = 5 ∧ (v.st = .idle ∨ v.st = .reading ∨ v.st = .programming ∨ v.st = .erasing)) ∧
    (∃ (s : State) (ch : Fin 17) (die : Fin 4) (low : Bool) (x : List Byte), FceGranted s ch.val die.val low x ∧ dOp x = 6 ∧ s.abortAt ch.val (dTarget x) = .none) ∧
    (∃ (s : State) (ch : Fin 17) (die : Fin 4) (low : Bool) (x : List Byte) (k : Fin 4) (lo : _) (y : _), FceGranted s ch.val die.val low x ∧ dOp x = 6 ∧ s.abortAt ch.val (dTarget x) = .queued k.val lo y ∧ (s.die ch.val k.val).held = []) ∧
    (∃ (s : State) (ch : Fin 17) (die : Fin 4) (low : Bool) (x : List Byte) (k : Fin 4), FceGranted s ch.val die.val low x ∧ dOp x = 6 ∧ s.abortAt ch.val (dTarget x) = .held k.val) ∧
    (∃ (s : State) (ch : Fin 17) (die : Fin 4) (low : Bool) (x : List Byte) (k : Fin 4), FceGranted s ch.val die.val low x ∧ dOp x = 6 ∧ s.abortAt ch.val (dTarget x) = .running k.val) ∧
    (∃ (s : State) (ch : Fin 17) (die : Fin 4) (low : Bool) (x : List Byte) (k : Fin 4), FceGranted s ch.val die.val low x ∧ dOp x = 6 ∧ s.abortAt ch.val (dTarget x) = .erase k.val) ∧
    (∃ (s : State) (ch : Fin 17) (die : Fin 4) (low : Bool) (x : List Byte), FceGranted s ch.val die.val low x ∧ dOp x = 7) ∧
    (∃ (s : State) (ch : Fin 17) (die : Fin 4) (low : Bool) (x : List Byte), FceGranted s ch.val die.val low x ∧ dOp x = 8) ∧
    (∃ (s : State) (ch : Fin 17) (die : Fin 4) (low : Bool) (p : Option Poll) (c : _), (s.grant ch.val ≠ some (die.val, low) ∨ s.flag (FCE_STS_FENCED ch.val) = true ∨ s.cplStall ch.val = true ∨ (s.startsHeld ch.val = true ∧ s.fceRunning ch.val ≠ 0) ∨ s.sys.mode = .off ∨ s.sys.mode = .powerUp) ∧ c ∈ [Instr.fceRead ch die low, .fceProgram ch die low, .fceErase ch die low, .fceSuspend ch die low p, .fceResume ch die low, .fceAbort ch die low p, .fceStatus ch die low, .fceParam ch die low]) :=
  ⟨⟨w_f1, (3), (1), (false), ((w_f1.die 3 1).hi.head?.get (by decide +kernel)), by unfold FceGranted; dsimp only; decide +kernel⟩,
   ⟨w_f2, (3), (1), (false), ((w_f2.die 3 1).hi.head?.get (by decide +kernel)), by unfold FceGranted; dsimp only; decide +kernel⟩,
   ⟨w_f3, (3), (1), (false), ((w_f3.die 3 1).hi.head?.get (by decide +kernel)), by unfold FceGranted; dsimp only; decide +kernel⟩,
   ⟨w_f4, (3), (1), (false), ((w_f4.die 3 1).hi.head?.get (by decide +kernel)), by unfold FceGranted; dsimp only; decide +kernel⟩,
   ⟨w_f5, (3), (1), (false), ((w_f5.die 3 1).hi.head?.get (by decide +kernel)), by unfold FceGranted; dsimp only; decide +kernel⟩,
   ⟨w_f6, (3), (1), (false), ((w_f6.die 3 1).hi.head?.get (by decide +kernel)), by unfold FceGranted; dsimp only; decide +kernel⟩,
   ⟨w_n1, (3), (1), (false), ((w_n1.die 3 1).hi.head?.get (by decide +kernel)), by unfold FceGranted; dsimp only; decide +kernel⟩,
   ⟨w_n2, (3), (1), (false), ((w_n2.die 3 1).hi.head?.get (by decide +kernel)), by unfold FceGranted; dsimp only; decide +kernel⟩,
   ⟨w_f7, (3), (1), (false), ((w_f7.die 3 1).hi.head?.get (by decide +kernel)), (6), by unfold FceGranted; dsimp only; decide +kernel⟩,
   ⟨w_f8, (3), (1), (false), ((w_f8.die 3 1).hi.head?.get (by decide +kernel)), by unfold FceGranted; decide +kernel⟩,
   ⟨w_f9, (3), (1), (false), ((w_f9.die 3 1).hi.head?.get (by decide +kernel)), ((w_f9.die 3 1).erase.get (by decide +kernel)), by unfold FceGranted; dsimp only; decide +kernel⟩,
   ⟨w_f10, (3), (1), (false), ((w_f10.die 3 1).hi.head?.get (by decide +kernel)), ((w_f10.die 3 1).erase.get (by decide +kernel)), by unfold FceGranted; dsimp only; decide +kernel⟩,
   ⟨w_f11, (3), (1), (false), ((w_f11.die 3 1).hi.head?.get (by decide +kernel)), by unfold FceGranted; dsimp only; decide +kernel⟩,
   ⟨w_f12, (3), (1), (false), ((w_f12.die 3 1).hi.head?.get (by decide +kernel)), by unfold FceGranted; dsimp only; decide +kernel⟩,
   ⟨w_f13, (3), (1), (false), ((w_f13.die 3 1).hi.head?.get (by decide +kernel)), by unfold FceGranted; dsimp only; decide +kernel⟩,
   ⟨w_f14, (3), (1), (false), ((w_f14.die 3 1).hi.head?.get (by decide +kernel)), by unfold FceGranted; decide +kernel⟩,
   ⟨w_n3, (3), (1), (false), ((w_n3.die 3 1).hi.head?.get (by decide +kernel)), (1), (true), ((w_n3.die 3 1).lo.head?.get (by decide +kernel)), by unfold FceGranted; decide +kernel⟩,
   ⟨w_n4, (3), (1), (false), ((w_n4.die 3 1).hi.head?.get (by decide +kernel)), (1), by unfold FceGranted; decide +kernel⟩,
   ⟨w_f15, (3), (1), (false), ((w_f15.die 3 1).hi.head?.get (by decide +kernel)), (1), by unfold FceGranted; decide +kernel⟩,
   ⟨w_n5, (3), (1), (false), ((w_n5.die 3 1).hi.head?.get (by decide +kernel)), (1), by unfold FceGranted; decide +kernel⟩,
   ⟨w_f16, (3), (1), (false), ((w_f16.die 3 1).hi.head?.get (by decide +kernel)), by unfold FceGranted; decide +kernel⟩,
   ⟨w_f17, (3), (1), (false), ((w_f17.die 3 1).hi.head?.get (by decide +kernel)), by unfold FceGranted; decide +kernel⟩,
   ⟨(up .off), (3), (1), (false), (none), (Instr.fceRead 3 1 false), by decide +kernel⟩⟩
theorem met_FlashFinishes :
    (∃ (s : State), (s.sys.mode = .off ∨ s.sys.mode = .powerUp)) ∧
    (∃ (s : State) (ch : Fin 17), s.sys.mode ≠ .off ∧ s.sys.mode ≠ .powerUp ∧ s.flag (FCE_STS_FENCED ch.val) = true) ∧
    (∃ (s : State) (ch : Fin 17) (die : Fin 4) (r : _), let v := s.die ch.val die.val; v.st = .reading ∧ v.op = some r ∧ v.erase = none ∧ v.resumeD = none ∧ (dOp r.desc = 1 ∨ dOp r.desc = 8)) ∧
    (∃ (s : State) (ch : Fin 17) (die : Fin 4) (p : Poll) (r : _), let v := s.die ch.val die.val; v.st = .programming ∧ v.op = some r ∧ v.erase = none ∧ v.resumeD = none ∧ v.held = [] ∧ dOp r.desc = 2 ∧ p.mismatch = none) ∧
    (∃ (s : State) (ch : Fin 17) (die : Fin 4) (r : _) (er : _), let v := s.die ch.val die.val; v.st = .nestedRead ∧ v.op = some r ∧ v.erase = some er ∧ v.resumeD = none ∧ dOp r.desc = 1) ∧
    (∃ (s : State) (ch : Fin 17) (die : Fin 4) (r : _) (er : _) (q : _), let v := s.die ch.val die.val; v.st = .resumePending ∧ v.op = some r ∧ v.erase = some er ∧ v.resumeD = some q ∧ dOp r.desc = 1) ∧
    (∃ (s : State) (ch : Fin 17) (die : Fin 4) (r : _) (ab : _), let v := s.die ch.val die.val; v.st = .aborting ∧ v.op = some r ∧ v.abortD = some ab ∧ v.erase = none ∧ v.held = [] ∧ v.suspendD = none ∧ v.resumeD = none) ∧
    (∃ (s : State) (ch : Fin 17) (die : Fin 4) (p : Poll) (r : _) (q : _), let v := s.die ch.val die.val; v.st = .suspending ∧ v.erase = some r ∧ v.suspendD = some q ∧ p.suspended = true) ∧
    (∃ (s : State) (ch : Fin 17) (die : Fin 4), let v := s.die ch.val die.val; (v.st = .idle ∨ v.st = .suspended ∨ v.st = .fenced)) ∧
    (∃ (s : State) (ch : Fin 17) (die : Fin 4), let v := s.die ch.val die.val; (v.st = .idle ∨ v.st = .suspended ∨ v.st = .aborting ∨ v.st = .fenced)) ∧
    (∃ (s : State) (ch : Fin 17) (die : Fin 4) (r : _), let v := s.die ch.val die.val; (v.st = .reading ∨ v.st = .programming) ∧ v.op = some r ∧ v.erase = none ∧ v.held = [] ∧ v.resumeD = none) ∧
    (∃ (s : State) (ch : Fin 17) (die : Fin 4) (r : _), let v := s.die ch.val die.val; v.st = .erasing ∧ v.erase = some r ∧ v.op = none ∧ v.held = [] ∧ v.resumeD = none ∧ v.suspendD = none) ∧
    (∃ (s : State) (ch : Fin 17) (die : Fin 4) (r : _) (q : _), let v := s.die ch.val die.val; v.st = .suspending ∧ v.erase = some r ∧ v.suspendD = some q ∧ v.op = none ∧ v.held = [] ∧ v.resumeD = none) ∧
    (∃ (s : State) (ch : Fin 17) (die : Fin 4), let v := s.die ch.val die.val; (s.sys.mode = .save ∨ v.lo = [])) ∧
    (∃ (s : State) (ch : Fin 17) (die : Fin 4), let v := s.die ch.val die.val; s.sys.mode ≠ .save ∧ v.lo ≠ []) ∧
    (∃ (s : State), (s.sys.mode = .off ∨ s.sys.mode = .powerUp)) ∧
    (∃ (s : State) (ch : Fin 17), s.sys.mode ≠ .off ∧ s.sys.mode ≠ .powerUp ∧ s.sys.mode ≠ .save ∧ s.flag (FCE_STS_FENCED ch.val) = false) ∧
    (∃ (s : State) (ch : Fin 17), s.sys.mode = .save ∧ s.flag (FCE_STS_FENCED ch.val) = false) ∧
    (∃ (s : State) (ch : Fin 17), s.flag (FCE_STS_SOFT_FENCE ch.val) = false) ∧
    (∃ (s : State) (ch : Fin 17), s.flag (FCE_STS_SOFT_FENCE ch.val) = true) ∧
    (∃ (s : State), s.coreDomains = false) ∧
    (∃ (s : State) (ch : Fin 17) (reg : Fin 3) (v : Word), s.coreDomains = true ∧ s.ifTakes ch.val reg.val v = true ∧ s.fceRunning ch.val = 0 ∧ (s.chan ch.val).ifWrites = []) ∧
    (∃ (s : State) (ch : Fin 17) (reg : Fin 3) (v : Word), s.coreDomains = true ∧ s.ifTakes ch.val reg.val v = true ∧ s.fceRunning ch.val ≠ 0) ∧
    (∃ (s : State) (ch : Fin 17) (reg : Fin 3) (v : Word), s.coreDomains = true ∧ s.ifTakes ch.val reg.val v = false) ∧
    (∃ (s : State) (n : Fin 8192), ((s.flo.erases.find? (fun j => decide (j.stook = n.val) && !j.issued)) = none ∨ s.sys.mode = .save ∨ s.sys.mode = .shutDown ∨ s.intentPending n.val = true)) ∧
    (∃ (s : State) (n : Fin 8192) (j : EraseJob), (s.flo.erases.find? (fun j => decide (j.stook = n.val) && !j.issued)) = some j ∧ s.intentPending n.val = false ∧ (s.sys.mode = .service ∨ s.sys.mode = .lull) ∧ (s.stook n.val).half = false ∧ (s.stook n.val).role ∉ [0, 6, 7, 8]) ∧
    (∃ (s : State) (n : Fin 8192) (j : EraseJob) (u : _), (s.flo.erases.find? (fun j => decide (j.stook = n.val) && !j.issued)) = some j ∧ s.intentPending n.val = false ∧ (s.sys.mode = .service ∨ s.sys.mode = .lull) ∧ ((s.stook n.val).half = true ∨ (s.stook n.val).role ∈ [0, 6, 7, 8]) ∧ s.remapWorn n.val = (u, true)) ∧
    (∃ (s : State) (n : Fin 8192) (j : EraseJob) (u : _), (s.flo.erases.find? (fun j => decide (j.stook = n.val) && !j.issued)) = some j ∧ s.intentPending n.val = false ∧ (s.sys.mode = .service ∨ s.sys.mode = .lull) ∧ (s.stook n.val).rotation = true ∧ ((s.stook n.val).half = true ∨ (s.stook n.val).role ∈ [0, 6, 7, 8]) ∧ s.remapWorn n.val = (u, false)) ∧
    (∃ (s : State) (src : PktSrc), s.findExec src 0x12 = none) ∧
    (∃ (s : State) (src : PktSrc) (e : ExecPkt), let c := pktField e.bytes 40 1; let d := pktField e.bytes 41 1; let pri := pktField e.bytes 42 1; s.findExec src 0x12 = some e ∧ (16 < c ∨ 3 < d ∨ 1 < pri)) ∧
    (∃ (s : State) (src : PktSrc) (e : ExecPkt) (code : _), let c := pktField e.bytes 40 1; let d := pktField e.bytes 41 1; let pri := pktField e.bytes 42 1; let x := rawDesc e; s.findExec src 0x12 = some e ∧ c ≤ 16 ∧ d ≤ 3 ∧ pri ≤ 1 ∧ s.rawCheck c d x = some code) ∧
    (∃ (s : State) (src : PktSrc) (e : ExecPkt), let c := pktField e.bytes 40 1; let d := pktField e.bytes 41 1; let pri := pktField e.bytes 42 1; let x := rawDesc e; s.findExec src 0x12 = some e ∧ c ≤ 16 ∧ d ≤ 3 ∧ pri ≤ 1 ∧ s.rawCheck c d x = none ∧ s.flag (FCE_STS_FENCED c) = false) :=
  ⟨⟨(up .off), by decide +kernel⟩,
   ⟨w_ffc, (3), by decide +kernel⟩,
   ⟨w_r5, (3), (1), ((w_r5.die 3 1).op.get (by decide +kernel)), by dsimp only; decide +kernel⟩,
   ⟨w_f4, (3), (1), ({ status := 0xe0#8, fail := false, suspended := false, busyNs := 0x00000064#32, maxCorr := 3, bad := 0x0000#16, erased := 0x0000#16, mismatch := none }), ((w_f4.die 3 1).op.get (by decide +kernel)), by dsimp only; decide +kernel⟩,
   ⟨w_n6, (3), (1), ((w_n6.die 3 1).op.get (by decide +kernel)), ((w_n6.die 3 1).erase.get (by decide +kernel)), by dsimp only; decide +kernel⟩,
   ⟨w_n7, 3, 1, ((w_n7.die 3 1).op.get (by decide +kernel)), ((w_n7.die 3 1).erase.get (by decide +kernel)), ((w_n7.die 3 1).resumeD.get (by decide +kernel)), by dsimp only; decide +kernel⟩,
   ⟨w_n8, 3, 1, ((w_n8.die 3 1).op.get (by decide +kernel)), ((w_n8.die 3 1).abortD.get (by decide +kernel)), by dsimp only; decide +kernel⟩,
   ⟨w_r8, (3), (1), ({ status := 0xe0#8, fail := false, suspended := true, busyNs := 0x00000064#32, maxCorr := 3, bad := 0x0000#16, erased := 0x0000#16, mismatch := none }), ((w_r8.die 3 1).erase.get (by decide +kernel)), ((w_r8.die 3 1).suspendD.get (by decide +kernel)), by dsimp only; decide +kernel⟩,
   ⟨(up .off), (3), (1), by dsimp only; decide +kernel⟩,
   ⟨(up .off), (3), (1), by dsimp only; decide +kernel⟩,
   ⟨w_f4, (3), (1), ((w_f4.die 3 1).op.get (by decide +kernel)), by dsimp only; decide +kernel⟩,
   ⟨w_f4e, (3), (1), ((w_f4e.die 3 1).erase.get (by decide +kernel)), by dsimp only; decide +kernel⟩,
   ⟨w_r8, (3), (1), ((w_r8.die 3 1).erase.get (by decide +kernel)), ((w_r8.die 3 1).suspendD.get (by decide +kernel)), by dsimp only; decide +kernel⟩,
   ⟨(up .off), (3), (1), by dsimp only; decide +kernel⟩,
   ⟨w_f1l, (3), (1), by dsimp only; decide +kernel⟩,
   ⟨(up .off), by decide +kernel⟩,
   ⟨(up .attach), (3), by decide +kernel⟩,
   ⟨(up .save), (3), by decide +kernel⟩,
   ⟨(up .off), (3), by decide +kernel⟩,
   ⟨w_ffs, (3), by decide +kernel⟩,
   ⟨(up .off), by decide +kernel⟩,
   ⟨(up .attach), (3), (0), (0x000000c8#32), by decide +kernel⟩,
   ⟨w_f2, (3), (0), (0x000000c8#32), by decide +kernel⟩,
   ⟨(up .attach), (3), (0), (0x00000000#32), by decide +kernel⟩,
   ⟨(up .off), (5), by decide +kernel⟩,
   ⟨w_er, (5), (w_er.flo.erases[0]'(by decide +kernel)), by decide +kernel⟩,
   ⟨w_er4, 5, (w_er4.flo.erases[0]'(by decide +kernel)), (w_er4.remapWorn ((5 : Fin 8192)).val).1, by decide +kernel, by decide +kernel, by decide +kernel, by decide +kernel, Prod.ext rfl (by decide +kernel)⟩,
   ⟨w_er6, 5, (w_er6.flo.erases[0]'(by decide +kernel)), (w_er6.remapWorn ((5 : Fin 8192)).val).1, by decide +kernel, by decide +kernel, by decide +kernel, by decide +kernel, by decide +kernel, Prod.ext rfl (by decide +kernel)⟩,
   ⟨(up .off), (PktSrc.mailbox), by decide +kernel⟩,
   ⟨w_fd0, (PktSrc.mailbox), (w_fd0.pkt.exec[0]'(by decide +kernel)), by dsimp only; decide +kernel⟩,
   ⟨w_fd1, (PktSrc.mailbox), (w_fd1.pkt.exec[0]'(by decide +kernel)), (7), by dsimp only; decide +kernel⟩,
   ⟨w_fd2, (PktSrc.mailbox), (w_fd2.pkt.exec[0]'(by decide +kernel)), by dsimp only; decide +kernel⟩⟩
theorem met_LedgerCommits :
    (∃ (s : State), (s.sys.mode = .off ∨ s.sys.mode = .powerUp ∨ s.sys.mode = .save ∨ s.sys.mode = .shutDown ∨ s.flag FLO_STS_READY = false)) ∧
    (∃ (s : State) (j : _), s.sys.mode ≠ .off ∧ s.sys.mode ≠ .powerUp ∧ s.sys.mode ≠ .save ∧ s.sys.mode ≠ .shutDown ∧ s.flag FLO_STS_READY = true ∧ s.flo.pendingRecs ≠ [] ∧ (∀ e ∈ s.flo.pendingRecs, e.seq ≠ 0) ∧ (s.flo.pendingRecs.map (·.slotCount)).sum ≤ 1024 ∧ s.commitNext 8 s.flash.commits = j ∧ j < 1984 ∧ s.waiting 0x0C = []) :=
  ⟨⟨(up .off), by decide +kernel⟩,
   ⟨w_led, (0), by decide +kernel⟩⟩
theorem met_BdcServes :
    (∃ (s : State) (port : Fin 21), s.portActive port.val = false) ∧
    (∃ (s : State) (port : Fin 21) (line : BitVec 33), let x : BdcReq := ⟨port.val, line.toNat * 64, s.tick, false, false⟩; s.portActive port.val = true ∧ (∀ q ∈ s.bdc.reqs ++ [x], s.actHeld q = true)) ∧
    (∃ (s : State) (port : Fin 21) (line : BitVec 33), let x : BdcReq := ⟨port.val, line.toNat * 64, s.tick, false, false⟩; s.portActive port.val = true ∧ (∃ q ∈ s.bdc.reqs ++ [x], s.actHeld q = false) ∧ (∀ j ∈ s.bdc.jobs, j.read = true)) ∧
    (∃ (s : State), s.bdc.reqs.find? (fun r => !r.late && !r.split && decide (s.twoT r.port ≤ s.tick - r.tick)) = none) ∧
    (∃ (s : State) (r : _), s.bdc.reqs.find? (fun r => !r.late && !r.split && decide (s.twoT r.port ≤ s.tick - r.tick)) = some r) ∧
    (∃ (s : State), s.flag DCT_STS_OWNED = false) ∧
    (∃ (s : State) (k : Fin 4), s.flag DCT_STS_OWNED = true ∧ (s.fld DCT_STS_OWNER = 1 ∨ s.fld DCT_STS_OWNER = 2) ∧ s.owed k.val = 0) ∧
    (∃ (s : State) (k : Fin 4), s.flag DCT_STS_OWNED = true ∧ (s.fld DCT_STS_OWNER = 1 ∨ s.fld DCT_STS_OWNER = 2) ∧ 0 < s.owed k.val) ∧
    (∃ (s : State) (k : Fin 4), s.flag DCT_STS_OWNED = true ∧ (s.fld DCT_STS_OWNER = 1 ∨ s.fld DCT_STS_OWNER = 2) ∧ s.owed k.val < 4) ∧
    (∃ (s : State) (k : Fin 4), s.flag DCT_STS_OWNED = true ∧ (s.fld DCT_STS_OWNER = 1 ∨ s.fld DCT_STS_OWNER = 2) ∧ 4 ≤ s.owed k.val) ∧
    (∃ (s : State), s.flag DCT_STS_OWNED = true ∧ s.fld DCT_STS_OWNER ≠ 1 ∧ s.fld DCT_STS_OWNER ≠ 2) ∧
    (∃ (s : State), s.coreDomains = false) ∧
    (∃ (s : State), s.coreDomains = true) :=
  ⟨⟨(up .off), (0), by decide +kernel⟩,
   ⟨w_bpt, (20), (0x000000000#33), by dsimp only; decide +kernel⟩,
   ⟨w_bp, (20), (0x000000000#33), by dsimp only; decide +kernel⟩,
   ⟨(up .off), by decide +kernel⟩,
   ⟨w_bp2, (w_bp2.bdc.reqs[0]'(by decide +kernel)), by decide +kernel⟩,
   ⟨(up .off), by decide +kernel⟩,
   ⟨w_bp1, (0), by decide +kernel⟩,
   ⟨w_bow, (0), by decide +kernel⟩,
   ⟨w_bp1, (0), by decide +kernel⟩,
   ⟨w_bow, (1), by decide +kernel⟩,
   ⟨w_bp, by decide +kernel⟩,
   ⟨(up .off), by decide +kernel⟩,
   ⟨(up .attach), by decide +kernel⟩⟩
theorem met_Harvest :
    (∃ (s : State), (s.harvestAllowed = false ∨ s.harvestWork = false ∨ s.flag DCT_STS_OWNED = true)) ∧
    (∃ (s : State), s.harvestAllowed = true ∧ s.flag DCT_STS_OWNED = false ∧ s.harvestWork = true ∧ (s.toRepair ≠ [] ∨ s.toFlush ≠ []) ∧ s.clk.dSp ≠ s.fld TRN_STS_ACTIVE_SP ∧ bandValid (s.bandOf 1 (s.fld TRN_STS_ACTIVE_SP)) = false) ∧
    (∃ (s : State) (g : _) (gs : _), s.harvestAllowed = true ∧ s.flag DCT_STS_OWNED = false ∧ s.gln.repair = [] ∧ s.toFlush = g :: gs ∧ s.bdc.jobs = [] ∧ s.trn.retrain = none ∧ s.bdc.handbackWait = none ∧ s.hopReady (s.fld TRN_STS_ACTIVE_SP) = true) ∧
    (∃ (s : State) (sp : _), s.harvestAllowed = true ∧ s.flag DCT_STS_OWNED = false ∧ s.gln.repair = [] ∧ s.toFlush = [] ∧ s.toRetrain = some sp ∧ s.hopReady sp = true) ∧
    (∃ (s : State) (line : BitVec 33) (j : HarvestJob), s.harvestOn = true ∧ s.bdc.reqs = [] ∧ s.bdc.throttled = [] ∧ s.bdc.jobs = [j] ∧ maGranule (line.toNat * 64) = j.g ∧ j.read = false ∧ (smapPut j.lines (line.toNat % 16384) (s.line (line.toNat * 64))).length < 16384) ∧
    (∃ (s : State) (line : BitVec 33) (j : HarvestJob), s.harvestOn = true ∧ s.bdc.reqs = [] ∧ s.bdc.throttled = [] ∧ s.bdc.jobs = [j] ∧ maGranule (line.toNat * 64) = j.g ∧ j.read = true ∧ j.repair = true ∧ j.rechecked = false ∧ (smapPut j.again (line.toNat % 16384) (s.line (line.toNat * 64))).length < 16384) ∧
    (∃ (s : State), (s.flag DCT_STS_HARVESTING = false ∨ s.bdc.handbackWait ≠ none ∨ (s.harvestAllowed = true ∧ (s.workHere = true ∨ s.trn.retrain ≠ none)))) ∧
    (∃ (s : State), s.flag DCT_STS_HARVESTING = true ∧ s.bdc.handbackWait = none ∧ s.trn.retrain = none ∧ (s.harvestAllowed = false ∨ s.workHere = false)) ∧
    (∃ (s : State) (g : Fin 0x80000), (∀ j ∈ s.bdc.jobs, j.g ≠ g.val)) ∧
    (∃ (s : State) (g : Fin 0x80000) (j : HarvestJob), s.bdc.jobs = [j] ∧ j.g = g.val ∧ j.read = true ∧ j.repair = true ∧ j.rechecked = false ∧ j.reread = true ∧ s.harvestOn = true ∧ jobAgrees j = true) ∧
    (∃ (s : State) (g : Fin 0x80000) (j : HarvestJob), s.bdc.jobs = [j] ∧ j.g = g.val ∧ j.read = true ∧ s.dstate g.val ≠ .flushing ∧ (j.repair = false ∨ j.rechecked = true) ∧ j.sheaf ≠ none) ∧
    (∃ (s : State) (g : Fin 0x80000) (j : HarvestJob), s.bdc.jobs = [j] ∧ j.g = g.val ∧ j.read = true ∧ s.dstate g.val = .flushing ∧ j.repair = false ∧ j.sheaf = none ∧ s.swathSheaves < s.swathTarget + 2) ∧
    (∃ (s : State) (g : Fin 0x80000) (j : HarvestJob) (a : _) (w : _) (x : _), s.bdc.jobs = [j] ∧ j.g = g.val ∧ j.read = true ∧ s.dstate g.val = .flushing ∧ j.repair = false ∧ (s.harvestPlace g.val).bdc.jobs = [x] ∧ x.sheaf = some a ∧ (State.putSheaf { s.harvestPlace g.val with bdc := { (s.harvestPlace g.val).bdc with jobs := [] } } a ⟨5, 0, [], 0, [], g.val, 0, 0, 0, [], false, jobData j, []⟩).writeCheckSwath (g.val / 4) [(g.val, jobChk j)] = some w) ∧
    (∃ (s : State) (g : Fin 0x80000) (j : HarvestJob) (a : _) (w : _) (x : _), s.bdc.jobs = [j] ∧ j.g = g.val ∧ j.read = true ∧ s.dstate g.val = .flushing ∧ j.repair = true ∧ j.rechecked = true ∧ (s.harvestPlace g.val).bdc.jobs = [x] ∧ x.sheaf = some a ∧ (State.gleanSheaf { s.harvestPlace g.val with bdc := { (s.harvestPlace g.val).bdc with jobs := [] } } a g.val j.stamp false true (jobData j) (jobChk j)).writeCheck (g.val / 4) 4 2 [(g.val, jobChk j)] = some w) ∧
    (∃ (s : State) (sp : _), sp < 8 ∧ s.trn.retrain = some sp ∧ (s.harvestAllowed = false ∨ s.bdc.handbackWait ≠ none)) ∧
    (∃ (s : State) (sp : _), sp < 8 ∧ s.trn.retrain = some sp ∧ s.toRepair = [] ∧ s.toFlush = [] ∧ s.scrubDue = false ∧ (∀ j ∈ s.bdc.jobs, j.read = true) ∧ (∀ k, k < 8 → k ≠ sp → s.fld (dramRec k) ≠ 2)) ∧
    (∃ (s : State) (sp : _) (g : _) (gs : _), sp < 8 ∧ s.trn.retrain = some sp ∧ s.harvestAllowed = true ∧ s.bdc.handbackWait = none ∧ s.hopReady (s.fld TRN_STS_ACTIVE_SP) = true ∧ s.gln.repair = [] ∧ s.toFlush = g :: gs ∧ s.bdc.jobs = []) ∧
    (∃ (s : State), s.coreDomains = false) ∧
    (∃ (s : State), s.coreDomains = true ∧ s.harvestOn = false) ∧
    (∃ (s : State), s.coreDomains = true ∧ s.harvestOn = true) ∧
    (∃ (s : State), s.bdc.window = none) ∧
    (∃ (s : State) (k : _), s.bdc.window = some k ∧ s.actHeld ⟨20, k * 64, s.tick, false, false⟩ = false) :=
  ⟨⟨(up .off), by decide +kernel⟩,
   ⟨w_hop, by decide +kernel⟩,
   ⟨w_hfl, (5), ([]), by decide +kernel⟩,
   ⟨w_hrt, (0), by decide +kernel⟩,
   ⟨w_hu1, (0x000014009#33), (w_hu1.bdc.jobs[0]'(by decide +kernel)), by decide +kernel⟩,
   ⟨w_hj2, (0x000014009#33), (w_hj2.bdc.jobs[0]'(by decide +kernel)), by decide +kernel⟩,
   ⟨(up .off), by decide +kernel⟩,
   ⟨w_bp, by decide +kernel⟩,
   ⟨(up .off), (5), by decide +kernel⟩,
   ⟨w_hrr, (5), (w_hrr.bdc.jobs[0]'(by decide +kernel)), by decide +kernel⟩,
   ⟨w_hrr3, (5), (w_hrr3.bdc.jobs[0]'(by decide +kernel)), by decide +kernel⟩,
   ⟨w_hj4, (5), (w_hj4.bdc.jobs[0]'(by decide +kernel)), by decide +kernel⟩,
   ⟨w_hrr4, 5, (w_hrr4.bdc.jobs[0]'(by decide +kernel)), 88, ((State.putSheaf ({ w_hrr4.harvestPlace (5 : Fin 0x80000).val with bdc := { (w_hrr4.harvestPlace (5 : Fin 0x80000).val).bdc with jobs := [] } } : State) 88 ⟨5, 0, [], 0, [], (5 : Fin 0x80000).val, 0, 0, 0, [], false, jobData (w_hrr4.bdc.jobs[0]'(by decide +kernel)), []⟩).writeCheckSwath ((5 : Fin 0x80000).val / 4) [((5 : Fin 0x80000).val, jobChk (w_hrr4.bdc.jobs[0]'(by decide +kernel)))] |>.get (by decide +kernel)), (w_hrr4.bdc.jobs[0]'(by decide +kernel)), by decide +kernel, by decide +kernel, by decide +kernel, by decide +kernel, by decide +kernel, by decide +kernel, by decide +kernel, (Option.some_get _).symm⟩,
   ⟨w_hrr5, 5, (w_hrr5.bdc.jobs[0]'(by decide +kernel)), 88, ((State.gleanSheaf ({ w_hrr5.harvestPlace (5 : Fin 0x80000).val with bdc := { (w_hrr5.harvestPlace (5 : Fin 0x80000).val).bdc with jobs := [] } } : State) 88 (5 : Fin 0x80000).val (w_hrr5.bdc.jobs[0]'(by decide +kernel)).stamp false true (jobData (w_hrr5.bdc.jobs[0]'(by decide +kernel))) (jobChk (w_hrr5.bdc.jobs[0]'(by decide +kernel)))).writeCheck ((5 : Fin 0x80000).val / 4) 4 2 [((5 : Fin 0x80000).val, jobChk (w_hrr5.bdc.jobs[0]'(by decide +kernel)))] |>.get (by decide +kernel)), (w_hrr5.bdc.jobs[0]'(by decide +kernel)), by decide +kernel, by decide +kernel, by decide +kernel, by decide +kernel, by decide +kernel, by decide +kernel, by decide +kernel, by decide +kernel, (Option.some_get _).symm⟩,
   ⟨w_are, (2), by decide +kernel⟩,
   ⟨w_hrn, (2), by decide +kernel⟩,
   ⟨w_hlr1, (2), (5), ([]), by decide +kernel⟩,
   ⟨(up .off), by decide +kernel⟩,
   ⟨(up .attach), by decide +kernel⟩,
   ⟨w_bp, by decide +kernel⟩,
   ⟨(up .off), by decide +kernel⟩,
   ⟨w_win, (9), by decide +kernel⟩⟩
theorem met_FaultMessages :
    (∃ (s : State), s.sys.mode = .off) ∧
    (∃ (s : State), s.sys.mode ≠ .off ∧ s.flt.slots = [] ∧ s.flt.inflight = []) ∧
    (∃ (s : State) (m : FaultMsg) (b : Bool) (rest : List (FaultMsg × Bool)), s.sys.mode ≠ .off ∧ s.flt.slots = [] ∧ s.flt.inflight = (m, b) :: rest ∧ (m.sev = .trace ∨ m.sev = .note)) ∧
    (∃ (s : State) (m : FaultMsg), s.sys.mode ≠ .off ∧ s.flt.slots = [] ∧ s.flt.shadows = [] ∧ s.flag FLT_STS_BYPASS = false ∧ (m.sev = .fault ∨ m.sev = .critical) ∧ m.source.val ≠ 144 ∧ m.kind ∉ [FaultKind.sptSelf, .feedAOv, .coreLost, .coresLost, .linkDown, .sramUe, .railNoStart, .railFault] ∧ s.flag EVR_STS_FENCED = false ∧ s.configured m.kind = .log ∧ s.causeOf false m = true) ∧
    (∃ (s : State) (m : FaultMsg), s.sys.mode ≠ .off ∧ s.flt.slots = [] ∧ s.flt.shadows = [] ∧ s.flag FLT_STS_BYPASS = false ∧ (m.sev = .fault ∨ m.sev = .critical) ∧ m.source.val ≠ 144 ∧ m.kind ∉ [FaultKind.sptSelf, .feedAOv, .coreLost, .coresLost, .linkDown, .sramUe, .railNoStart, .railFault] ∧ s.flag EVR_STS_FENCED = false ∧ s.configured m.kind = .log ∧ s.causeOf false m = false ∧ s.flag FLT_CTL_AUTOCLR = false) ∧
    (∃ (s : State) (m : FaultMsg), s.sys.mode ≠ .off ∧ s.flt.slots = [] ∧ s.flt.shadows = [] ∧ s.flag FLT_STS_BYPASS = false ∧ (m.sev = .fault ∨ m.sev = .critical) ∧ m.source.val ≠ 144 ∧ m.kind ∉ [FaultKind.sptSelf, .feedAOv, .coreLost, .coresLost, .linkDown, .sramUe, .railNoStart, .railFault] ∧ s.flag EVR_STS_FENCED = false ∧ s.configured m.kind = .log ∧ s.causeOf false m = false ∧ s.flag FLT_CTL_AUTOCLR = true ∧ m.inj = false ∧ s.flt.fenced = []) ∧
    (∃ (s : State) (m : FaultMsg) (u : _), s.sys.mode ≠ .off ∧ s.flt.slots = [] ∧ s.flt.shadows = [] ∧ s.flag FLT_STS_BYPASS = false ∧ (m.sev = .fault ∨ m.sev = .critical) ∧ m.source.val ≠ 144 ∧ m.kind ∉ [FaultKind.sptSelf, .feedAOv, .coreLost, .coresLost, .linkDown, .sramUe, .railNoStart, .railFault] ∧ s.flag EVR_STS_FENCED = false ∧ u ∈ [UnitRow.packet, .scrubber, .sideband] ∧ s.sys.mode ≠ .shutDown ∧ unitOf m.source.val = some u ∧ (s.configured m.kind = .fence ∨ s.configured m.kind = .fenceDegraded)) ∧
    (∃ (s : State) (m : FaultMsg), s.sys.mode = .service ∧ s.flt.slots = [] ∧ s.flt.shadows = [] ∧ s.flag FLT_STS_BYPASS = false ∧ m.sev = .critical ∧ m.kind = .coresLost) ∧
    (∃ (s : State) (m : FaultMsg) (i : Incident), s.sys.mode = .service ∧ s.flt.slots = [(0, i)] ∧ s.flt.shadows = [] ∧ s.flag FLT_STS_BYPASS = false ∧ m.sev = .critical ∧ m.kind = .paceLow ∧ m.source.val ≠ 144 ∧ s.configured .paceLow = .keeper ∧ i.first.source = m.source ∧ i.first.kind = .paceLow ∧ i.first.inj = m.inj) ∧
    (∃ (s : State) (m : FaultMsg) (i : Incident), s.sys.mode ≠ .off ∧ s.flt.slots = [(0, i)] ∧ s.flag FLT_STS_BYPASS = false ∧ s.flag EVR_STS_FENCED = false ∧ (m.sev = .fault ∨ m.sev = .critical) ∧ m.source.val ≠ 144 ∧ neverShadowed m.kind = false ∧ i.first.source = m.source ∧ i.first.kind = m.kind ∧ i.first.inj = m.inj ∧ i.state = .held ∧ i.cons.length < 16 ∧ s.causeOf (i.causeGone && decide (m.kind ≠ .unitNotReady)) i.first = true) :=
  ⟨⟨(up .off), by decide +kernel⟩,
   ⟨(up .powerUp), by decide +kernel⟩,
   ⟨w_fm, ({ source := 3, kind := FaultKind.paceLow, sev := Sev.note, qual := 1, follow := 0x00000002#32, inj := false }), (false), ([({ source := 20, kind := FaultKind.unitError, sev := Sev.fault, qual := 0, follow := 0x00000000#32, inj := false }, false)]), by decide +kernel⟩,
   ⟨w_fme0, ({ source := 12, kind := FaultKind.unitError, sev := Sev.critical, qual := 0, follow := 0x00000000#32, inj := false }), by decide +kernel⟩,
   ⟨w_fme, ({ source := 0, kind := FaultKind.laneFault, sev := Sev.fault, qual := 5, follow := 0x00000007#32, inj := false }), by decide +kernel⟩,
   ⟨(up .powerUp), ({ source := 0, kind := FaultKind.laneFault, sev := Sev.fault, qual := 5, follow := 0x00000007#32, inj := false }), by decide +kernel⟩,
   ⟨(up .powerUp), ({ source := 132, kind := FaultKind.checkMismatch, sev := Sev.fault, qual := 0, follow := 0x00000000#32, inj := false }), (UnitRow.packet), by decide +kernel⟩,
   ⟨(up .service), ({ source := 20, kind := FaultKind.coresLost, sev := Sev.critical, qual := 0, follow := 0x00000000#32, inj := false }), by decide +kernel⟩,
   ⟨w_fcl, ({ source := 20, kind := FaultKind.paceLow, sev := Sev.critical, qual := 0, follow := 0x00000000#32, inj := false }), (w_fcl.flt.slots[0]'(by decide +kernel)).2, by decide +kernel⟩,
   ⟨w_sh3, ({ source := 20, kind := FaultKind.unitError, sev := Sev.fault, qual := 4, follow := 0x00000000#32, inj := false }), (w_sh3.flt.slots[0]'(by decide +kernel)).2, by decide +kernel⟩⟩
theorem met_FaultUnits :
    (∃ (s : State) (d : Fin 148), (s.sys.mode = .off ∨ s.domOn d.val = false ∨ s.pairSampled d.val = false)) ∧
    (∃ (s : State) (d : Fin 148), s.sys.mode ≠ .off ∧ s.domOn d.val = true ∧ s.pairSampled d.val = true) ∧
    (∃ (s : State) (d : Fin 148), (s.sys.mode = .powerUp ∨ s.sys.mode = .attach) ∧ s.domOn d.val = true ∧ s.flt.slots = [] ∧ s.flt.shadows = [] ∧ s.flag FLT_STS_BYPASS = false ∧ s.configured .pairWire = .log ∧ s.configured .unitError = .log) ∧
    (∃ (s : State) (d : Fin 148), (s.sys.mode = .off ∨ d.val ∉ s.flt.errLines)) ∧
    (∃ (s : State) (d : Fin 148), s.sys.mode ≠ .off ∧ d.val ∈ s.flt.errLines ∧ s.flt.slots = [] ∧ s.flt.shadows = [] ∧ s.flag FLT_STS_BYPASS = false ∧ s.configured .unitError = .log) ∧
    (∃ (s : State) (n : BitVec 32), (∀ x ∈ s.flt.shadows, x.owner ≠ n.toNat)) ∧
    (∃ (s : State) (n : BitVec 32) (u : UnitRow), s.flt.shadows = [⟨n.toNat, u, [], false⟩] ∧ s.flt.slots = [] ∧ u ∈ [UnitRow.learner, .training, .glean, .seal, .sideband] ∧ s.flt.fenced = [(u, n.toNat, false)]) ∧
    (∃ (s : State) (n : BitVec 32) (u : UnitRow), s.flt.shadows = [⟨n.toNat, u, [], false⟩] ∧ s.flt.slots = [] ∧ u ∈ [UnitRow.learner, .training, .glean, .seal, .sideband] ∧ s.flt.fenced = [(u, n.toNat, true)]) ∧
    (∃ (s : State) (n : BitVec 32) (u : UnitRow), s.flt.shadows = [⟨n.toNat, u, [], false⟩] ∧ s.flt.slots = [] ∧ u ∈ [UnitRow.hmover, .scrubber]) ∧
    (∃ (s : State) (n : BitVec 32) (u : UnitRow) (i : Incident), s.flt.shadows = [⟨n.toNat, u, [], false⟩] ∧ s.flt.slots = [(0, i)] ∧ s.flt.fenced = [(u, n.toNat, false)] ∧ i.num = n.toNat ∧ s.flag FLT_STS_BYPASS = false ∧ i.cons.length < 16 ∧ s.causeOf false i.first = true) ∧
    (∃ (s : State) (k : Fin 64) (i : Incident), s.flt.slots = [(k.val, i)] ∧ i.state = .held ∧ i.first.kind = .unitError ∧ (k.val < 63 ∨ i.cons = []) ∧ s.flag FLT_CTL_AUTOCLR = false) ∧
    (∃ (s : State), s.coreDomains = false) ∧
    (∃ (s : State), s.coreDomains = true) ∧
    (∃ (s : State), s.sys.mode = .off) ∧
    (∃ (s : State) (f : Fin 5), s.sys.mode ≠ .off ∧ f ≠ 0) :=
  ⟨⟨(up .off), (0), by decide +kernel⟩,
   ⟨(up .powerUp), (0), by decide +kernel⟩,
   ⟨(up .powerUp), (0), by decide +kernel⟩,
   ⟨(up .off), (0), by decide +kernel⟩,
   ⟨w_ue, (3), by decide +kernel⟩,
   ⟨(up .off), (0x0000004d#32), by decide +kernel⟩,
   ⟨w_sh, (0x0000004d#32), (UnitRow.glean), by decide +kernel⟩,
   ⟨w_sh2, (0x0000004d#32), (UnitRow.seal), by decide +kernel⟩,
   ⟨w_fhm, (0x0000004d#32), (UnitRow.hmover), by decide +kernel⟩,
   ⟨w_sh3, (0x0000004d#32), (UnitRow.glean), (w_sh3.flt.slots[0]'(by decide +kernel)).2, by decide +kernel⟩,
   ⟨w_sh3, (0), (w_sh3.flt.slots[0]'(by decide +kernel)).2, by decide +kernel⟩,
   ⟨(up .off), by decide +kernel⟩,
   ⟨(up .attach), by decide +kernel⟩,
   ⟨(up .off), by decide +kernel⟩,
   ⟨(up .powerUp), (1), by decide +kernel⟩⟩
theorem met_FaultOpcodes :
    (∃ (s : State) (src : PktSrc), s.findExec src 0x10 = none) ∧
    (∃ (s : State) (src : PktSrc) (e : ExecPkt) (k : Nat) (i : Incident), s.findExec src 0x10 = some e ∧ OnePacket s e ∧ s.flt.slots = [(k, i)] ∧ k < 63 ∧ s.flag FLT_CTL_AUTOCLR = false ∧ s.flt.fenced = [] ∧ s.flt.shadows = [] ∧ i.overtaken = false ∧ pktField e.bytes 8 4 = i.num ∧ i.num ≠ 0 ∧ i.first.kind ≠ .linkDown ∧ s.causeOf i.causeGone i.first = false) ∧
    (∃ (s : State) (src : PktSrc) (e : ExecPkt) (k : Nat) (i : Incident), s.findExec src 0x10 = some e ∧ OnePacket s e ∧ s.flt.slots = [(k, i)] ∧ k < 63 ∧ s.flag FLT_CTL_AUTOCLR = false ∧ s.flt.fenced = [] ∧ s.flt.shadows = [] ∧ i.overtaken = false ∧ pktField e.bytes 8 4 = i.num ∧ i.num ≠ 0 ∧ i.first.kind ≠ .linkDown ∧ s.causeOf i.causeGone i.first = true) ∧
    (∃ (s : State) (src : PktSrc), s.findExec src 0x11 = none) ∧
    (∃ (s : State) (src : PktSrc) (e : ExecPkt) (b : Nat), s.findExec src 0x11 = some e ∧ s.injectBad e = some b) ∧
    (∃ (s : State) (src : PktSrc) (e : ExecPkt) (k : FaultKind), s.findExec src 0x11 = some e ∧ OnePacket s e ∧ s.injectBad e = none ∧ kindOfCode (pktField e.bytes 10 1) = some k ∧ natBits (pktField e.bytes 14 1) 0 1 = 1 ∧ s.flt.slots = [] ∧ s.flt.shadows = [] ∧ s.flag FLT_STS_BYPASS = false) :=
  ⟨⟨(up .off), (PktSrc.mailbox), by decide +kernel⟩,
   ⟨w_fc0, (PktSrc.mailbox), (w_fc0.pkt.exec[0]'(by decide +kernel)), (3), (w_fc0.flt.slots[0]'(by decide +kernel)).2, by unfold OnePacket; decide +kernel⟩,
   ⟨w_fc1, (PktSrc.mailbox), (w_fc1.pkt.exec[0]'(by decide +kernel)), (3), (w_fc1.flt.slots[0]'(by decide +kernel)).2, by unfold OnePacket; decide +kernel⟩,
   ⟨(up .off), (PktSrc.mailbox), by decide +kernel⟩,
   ⟨w_fi0, (PktSrc.mailbox), (w_fi0.pkt.exec[0]'(by decide +kernel)), (255), by decide +kernel⟩,
   ⟨w_fi1, (PktSrc.mailbox), (w_fi1.pkt.exec[0]'(by decide +kernel)), (FaultKind.unitError), by unfold OnePacket; decide +kernel⟩⟩
theorem met_Kite :
    (∃ (s : State) (c : CoreId), (s.sys.mode = .off ∨ s.coreRuns c = false)) ∧
    (∃ (s : State) (c : CoreId), s.sys.mode ≠ .off ∧ s.coreRuns c = true ∧ (s.kite.request = none ∨ s.holder ≠ some c) ∧ (s.kite.holderDead = false ∨ s.holder ≠ some (otherCore c) ∨ s.fld SPT_KITE_LEASE_LEFT ≠ 0)) ∧
    (∃ (s : State) (c : CoreId), s.sys.mode ≠ .off ∧ s.coreRuns c = true ∧ s.kite.holderDead = true ∧ s.holder = some (otherCore c) ∧ s.fld SPT_KITE_LEASE_LEFT = 0) ∧
    (∃ (s : State) (c : CoreId), s.sys.mode ≠ .off ∧ s.coreRuns c = true ∧ s.holder = some c ∧ s.kite.request = some (otherCore c)) ∧
    (∃ (s : State) (c : CoreId), (s.sys.mode = .off ∨ s.flag (coreAliveFld c) = false)) ∧
    (∃ (s : State) (c : CoreId), (s.sys.mode = .off ∨ s.fld (coreStateFld c) ≠ 1)) ∧
    (∃ (s : State) (c : CoreId), s.sys.mode ≠ .off ∧ s.flag (coreAliveFld c) = true) ∧
    (∃ (s : State) (c : CoreId), s.sys.mode ≠ .off ∧ s.fld (coreStateFld c) = 1) ∧
    (∃ (s : State) (c : CoreId), s.sys.mode ≠ .off ∧ s.coreRuns c = true ∧ s.holder = some c ∧ s.kite.holderDead = false) ∧
    (∃ (s : State) (c : CoreId), s.sys.mode ≠ .off ∧ s.coreRuns c = true ∧ (s.holder ≠ some c ∨ s.kite.holderDead = true)) ∧
    (∃ (s : State) (c : CoreId), (s.sys.mode = .off ∨ s.fld (coreStateFld c) ≠ 3 ∨ s.holder ≠ some (otherCore c) ∨ s.kite.holderDead = true)) ∧
    (∃ (s : State) (c : CoreId), s.sys.mode ≠ .off ∧ s.fld (coreStateFld c) = 3 ∧ s.holder = some (otherCore c) ∧ s.kite.holderDead = false) ∧
    (∃ (s : State), s.holder = none) ∧
    (∃ (s : State) (c : CoreId), s.holder = some c ∧ s.flag (coreAliveFld (otherCore c)) = false) ∧
    (∃ (s : State) (c : CoreId), s.holder = some c ∧ s.flag (coreAliveFld (otherCore c)) = true) ∧
    (∃ (s : State), s.flt.slots = []) ∧
    (∃ (s : State), (s.flag SPT_KITE_GAP = false ∨ s.kite.holderDead = true)) ∧
    (∃ (s : State), s.flag SPT_KITE_GAP = true ∧ s.kite.holderDead = false) :=
  ⟨⟨(up .off), (CoreId.a), by decide +kernel⟩,
   ⟨w_svc, (CoreId.a), by decide +kernel⟩,
   ⟨w_kd, (CoreId.b), by decide +kernel⟩,
   ⟨w_kr, (CoreId.a), by decide +kernel⟩,
   ⟨(up .off), (CoreId.a), by decide +kernel⟩,
   ⟨(up .off), (CoreId.a), by decide +kernel⟩,
   ⟨w_svc, (CoreId.a), by decide +kernel⟩,
   ⟨w_cst, (CoreId.a), by decide +kernel⟩,
   ⟨w_svc, (CoreId.a), by decide +kernel⟩,
   ⟨w_kd, (CoreId.a), by decide +kernel⟩,
   ⟨(up .off), (CoreId.a), by decide +kernel⟩,
   ⟨w_kr, (CoreId.b), by decide +kernel⟩,
   ⟨(up .off), by decide +kernel⟩,
   ⟨w_svc, (CoreId.a), by decide +kernel⟩,
   ⟨w_kl, (CoreId.a), by decide +kernel⟩,
   ⟨(up .off), by decide +kernel⟩,
   ⟨(up .off), by decide +kernel⟩,
   ⟨w_gapr2, by decide +kernel⟩⟩
theorem met_RecordArrives :
    (∃ (s : State), s.sys.mode = .off) ∧
    (∃ (s : State), s.sys.mode ≠ .off ∧ s.evr.fresh = [] ∧ s.evr.inflight = []) ∧
    (∃ (s : State) (e : _) (rest : _), s.sys.mode ≠ .off ∧ s.evr.fresh = [] ∧ s.evr.inflight = e :: rest) ∧
    (∃ (s : State), s.sys.mode ≠ .off ∧ s.evr.fresh = [] ∧ s.flag EVR_STS_FENCED = true) ∧
    (∃ (s : State) (e : EvRecord), let r : LogRec := ⟨e, false, false, some s.evr.nextSeq, s.epoch, s.horizon, s.wallNow, false⟩; s.sys.mode ≠ .off ∧ s.evr.fresh = [] ∧ s.flag EVR_STS_FENCED = false ∧ e.code ∉ [0x40, 0x41, 0x44, 0x45, 0x46, 0x47] ∧ s.evr.base = none ∧ s.evr.markOpen = false ∧ s.logUnits + recUnits { r with seq := none } ≤ 4096 ∧ s.flag EVR_CTL_SNAP_EN = false) ∧
    (∃ (s : State) (e : EvRecord) (b : _), let r : LogRec := ⟨e, false, false, some s.evr.nextSeq, s.epoch, s.horizon, s.wallNow, false⟩; s.sys.mode ≠ .off ∧ s.evr.fresh = [] ∧ s.flag EVR_STS_FENCED = false ∧ e.code ∉ [0x40, 0x41, 0x44, 0x45, 0x46, 0x47] ∧ s.evr.base = some b ∧ s.evr.nextSeq % 2 ^ 24 ≠ 0 ∧ sevCode e.sev < s.fld EVR_CTL_MIRROR_SEV ∧ s.logUnits + recUnits r + 2 ≤ 4096 ∧ (s.flag EVR_CTL_SNAP_EN = false ∨ ∀ k : Fin 64, s.flag (EVR_SNAP_CTL_EN k.val) = false)) ∧
    (∃ (s : State) (w : BitVec 64) (e : EvRecord) (b : _) (k : Fin 64), let r : LogRec := ⟨e, false, false, some s.evr.nextSeq, s.epoch, s.horizon, s.wallNow, false⟩; s.sys.mode ≠ .off ∧ s.evr.fresh = [] ∧ s.flag EVR_STS_FENCED = false ∧ e.code ∉ [0x40, 0x41, 0x44, 0x45, 0x46, 0x47] ∧ s.evr.base = some b ∧ s.evr.nextSeq % 2 ^ 24 ≠ 0 ∧ sevCode e.sev < s.fld EVR_CTL_MIRROR_SEV ∧ s.logUnits + recUnits r + 2 ≤ 4096 ∧ s.flag EVR_CTL_SNAP_EN = true ∧ (∀ j : Fin 64, s.flag (EVR_SNAP_CTL_EN j.val) = decide (j = k)) ∧ s.fld (EVR_SNAP_CTL_CODE k.val) = e.code ∧ e.code ≠ 0x43 ∧ (s.flag (EVR_SNAP_CTL_ANY_SRC k.val) = true ∨ s.fld (EVR_SNAP_CTL_SOURCE k.val) = e.source.val) ∧ (s.evr.nextSeq + 1) % 2 ^ 24 ≠ 0 ∧ w.getLsbD k.val = false) ∧
    (∃ (s : State) (w : BitVec 64) (e : EvRecord) (b : _) (k : Fin 64), let r : LogRec := ⟨e, false, false, some s.evr.nextSeq, s.epoch, s.horizon, s.wallNow, false⟩; s.sys.mode ≠ .off ∧ s.evr.fresh = [] ∧ s.flag EVR_STS_FENCED = false ∧ e.code ∉ [0x40, 0x41, 0x44, 0x45, 0x46, 0x47] ∧ s.evr.base = some b ∧ s.evr.nextSeq % 2 ^ 24 ≠ 0 ∧ sevCode e.sev < s.fld EVR_CTL_MIRROR_SEV ∧ s.logUnits + recUnits r + 2 ≤ 4096 ∧ s.flag EVR_CTL_SNAP_EN = true ∧ (∀ j : Fin 64, s.flag (EVR_SNAP_CTL_EN j.val) = decide (j = k)) ∧ s.fld (EVR_SNAP_CTL_CODE k.val) = e.code ∧ e.code ≠ 0x43 ∧ (s.flag (EVR_SNAP_CTL_ANY_SRC k.val) = true ∨ s.fld (EVR_SNAP_CTL_SOURCE k.val) = e.source.val) ∧ (s.evr.nextSeq + 1) % 2 ^ 24 ≠ 0 ∧ w.getLsbD k.val = true) ∧
    (∃ (s : State) (e : EvRecord) (b : _), let r : LogRec := ⟨e, false, false, some s.evr.nextSeq, s.epoch, s.horizon, s.wallNow, false⟩; s.sys.mode ≠ .off ∧ s.evr.fresh = [] ∧ s.flag EVR_STS_FENCED = false ∧ e.code ∉ [0x40, 0x41, 0x44, 0x45, 0x46, 0x47] ∧ s.evr.base = some b ∧ s.evr.nextSeq % 2 ^ 24 ≠ 0 ∧ s.logRoom r = false) :=
  ⟨⟨(up .off), by decide +kernel⟩,
   ⟨(up .powerUp), by decide +kernel⟩,
   ⟨w_inflight, (w_inflight.evr.inflight[0]'(by decide +kernel)), [], by decide +kernel⟩,
   ⟨w_lrhf, by decide +kernel⟩,
   ⟨w_re0, ({ sev := Sev.note, inj := false, code := 80, source := 3, tick := 0x0000000000000009#64, payload := [0x01#8, 0x02#8, 0x03#8] }), by dsimp only; decide +kernel⟩,
   ⟨w_lrhl, ({ sev := Sev.note, inj := false, code := 80, source := 3, tick := 0x0000000000000009#64, payload := [0x01#8, 0x02#8, 0x03#8] }), (3), by dsimp only; decide +kernel⟩,
   ⟨w_re1, (0x0000000000000000#64), ({ sev := Sev.note, inj := false, code := 80, source := 3, tick := 0x0000000000000009#64, payload := [0x01#8, 0x02#8, 0x03#8] }), (0), (3), by dsimp only; decide +kernel⟩,
   ⟨w_re1, (0xffffffffffffffff#64), ({ sev := Sev.note, inj := false, code := 80, source := 3, tick := 0x0000000000000009#64, payload := [0x01#8, 0x02#8, 0x03#8] }), (0), (3), by dsimp only; decide +kernel⟩,
   ⟨w_re2, ({ sev := Sev.note, inj := false, code := 80, source := 3, tick := 0x0000000000000009#64, payload := [0x01#8, 0x02#8, 0x03#8] }), (0), by dsimp only; decide +kernel⟩⟩
theorem met_RegisterPaths :
    (∃ (s : State), s.sbUp = false) ∧
    (∃ (s : State) (a : BitVec 32), s.sbUp = true ∧ (a.toNat % 4 ≠ 0 ∨ insideBlock a.toNat = false)) ∧
    (∃ (s : State) (a : BitVec 32), s.sbUp = true ∧ a.toNat % 4 = 0 ∧ insideBlock a.toNat = true ∧ s.sbServes a.toNat = true) ∧
    (∃ (s : State) (a : BitVec 32) (c : CoreId), (s.coreRuns c = false ∨ a.toNat % 4 ≠ 0 ∨ insideBlock a.toNat = false)) ∧
    (∃ (s : State) (a : BitVec 32) (c : CoreId), s.coreRuns c = true ∧ a.toNat % 4 = 0 ∧ insideBlock a.toNat = true ∧ 0x40000 ≤ a.toNat) ∧
    (∃ (s : State) (a : BitVec 32) (c : CoreId), s.coreRuns c = true ∧ a.toNat % 4 = 0 ∧ insideBlock a.toNat = true ∧ a.toNat < 0x40000 ∧ (∀ p ∈ hiPairs, p.1 ≠ a.toNat ∧ p.2 ≠ a.toNat)) ∧
    (∃ (s : State) (a : BitVec 32) (c : CoreId), s.coreRuns c = true ∧ a.toNat % 4 = 0 ∧ insideBlock a.toNat = true ∧ (s.holder ≠ some c ∨ s.kite.holderDead = true) ∧ a.toNat ≠ 0x22004 ∧ a.toNat ≠ 0x22008) ∧
    (∃ (s : State) (p : RegPath), ((p = .sideband ∧ s.sbUp = true ∧ s.fld SPT_STS_SEQ ≠ 7) ∨ ∃ c, p = .core c ∧ s.coreRuns c = true ∧ s.holder = some c ∧ s.kite.holderDead = false)) ∧
    (∃ (s : State) (addr : BitVec 7), s.sbAnswers addr.toNat = false) ∧
    (∃ (s : State) (addr : BitVec 7) (bs : List Byte), s.sbAnswers addr.toNat = true ∧ 0 < bs.length ∧ bs.length < 4) ∧
    (∃ (s : State) (addr : BitVec 7), s.sbAnswers addr.toNat = true ∧ s.sb.ptr < 2 ^ 32) ∧
    (∃ (s : State) (v : Word), (s.fld SPT_STS_SEQ ≠ 7 ∨ v.toNat % 65536 ≠ 0x5054 ∨ s.flag SPT_PTAB_CTL_BURNING = true)) ∧
    (∃ (s : State) (v : Word), let table := (List.range 32).map (fun i => s.word (0x24200 + 4 * i)); let keys := (List.range 8).map (fun i => s.word (0x24020 + 4 * i)); s.fld SPT_STS_SEQ = 7 ∧ v.toNat % 65536 = 0x5054 ∧ s.flag SPT_PTAB_CTL_BURNING = false ∧ (s.nv.wsWritten ≠ BitVec.allOnes 40 ∨ ptabOk table = false ∨ ∀ k ∈ keys, k = 0)) ∧
    (∃ (s : State) (v : Word), let table := (List.range 32).map (fun i => s.word (0x24200 + 4 * i)); let keys := (List.range 8).map (fun i => s.word (0x24020 + 4 * i)); s.fld SPT_STS_SEQ = 7 ∧ v.toNat % 65536 = 0x5054 ∧ s.flag SPT_PTAB_CTL_BURNING = false ∧ s.nv.wsWritten = BitVec.allOnes 40 ∧ ptabOk table = true ∧ (∃ k ∈ keys, k ≠ 0)) :=
  ⟨⟨(up .off), by decide +kernel⟩,
   ⟨(up .attach), (0x00000001#32), by decide +kernel⟩,
   ⟨(up .attach), (0x00000000#32), by decide +kernel⟩,
   ⟨(up .off), (0x00000000#32), (CoreId.a), by decide +kernel⟩,
   ⟨w_svc, (0x00040000#32), (CoreId.a), by decide +kernel⟩,
   ⟨w_svc, (0x00000000#32), (CoreId.a), by decide +kernel⟩,
   ⟨w_rp, (0x00000000#32), (CoreId.b), by decide +kernel⟩,
   ⟨(up .attach), (RegPath.sideband), Or.inl (by decide +kernel)⟩,
   ⟨(up .off), (0x00#7), by decide +kernel⟩,
   ⟨(up .attach), (0x00#7), ([0x01#8]), by decide +kernel⟩,
   ⟨(up .attach), (0x00#7), by decide +kernel⟩,
   ⟨w_svc, 0, by decide +kernel⟩,
   ⟨w_pb0, 0x5054, by decide +kernel, by decide +kernel, by decide +kernel, Or.inl (by decide +kernel)⟩,
   ⟨w_pb2, 0x5054, by decide +kernel, by decide +kernel, by decide +kernel, by decide +kernel, (by rw [pb2_table]; exact tab_ok), ⟨5, by decide +kernel, by decide +kernel⟩⟩⟩
theorem met_SidebandAndTap :
    (∃ (s : State) (addr : BitVec 7), (s.sbUp = false ∨ s.fld CFG_SB_ADDR_DYN ≠ 0 ∨ addr = 0)) ∧
    (∃ (s : State) (addr : BitVec 7) (old : BitVec 7), s.sbUp = true ∧ s.fld CFG_SB_ADDR_DYN = 0 ∧ old.toNat = s.sbStatic ∧ addr ≠ 0) ∧
    (∃ (s : State) (addr : BitVec 7) (old : BitVec 7), (s.sbUp = false ∨ s.fld CFG_SB_ADDR_DYN ≠ 0 ∨ old.toNat ≠ s.sbStatic ∨ addr = 0)) ∧
    (∃ (s : State) (addr : BitVec 7) (old : BitVec 7), s.sbUp = true ∧ old ≠ 0 ∧ s.fld CFG_SB_ADDR_DYN = old.toNat ∧ addr ≠ 0) ∧
    (∃ (s : State) (addr : BitVec 7) (old : BitVec 7), (s.sbUp = false ∨ s.fld CFG_SB_ADDR_DYN = 0 ∨ s.fld CFG_SB_ADDR_DYN ≠ old.toNat ∨ addr = 0)) ∧
    (∃ (s : State), s.sbUp = false) ∧
    (∃ (s : State), s.sbUp = true ∧ s.fld CFG_SB_ADDR_DYN ≠ 0) ∧
    (∃ (s : State) (c : _), (s.sbUp = false ∨ s.fld CFG_SB_ADDR_DYN = 0) ∧ c ∈ [Instr.getpid, .getbcr, .getdcr, .getmwl, .getmrl, .getstatus]) ∧
    (∃ (s : State), s.sys.mode ≠ .save) ∧
    (∃ (s : State), s.sys.mode = .save) :=
  ⟨⟨(up .off), (0x00#7), by decide +kernel⟩,
   ⟨(up .attach), (0x01#7), (0x00#7), by decide +kernel⟩,
   ⟨(up .off), (0x00#7), (0x00#7), by decide +kernel⟩,
   ⟨w_sb, (0x01#7), (0x05#7), by decide +kernel⟩,
   ⟨(up .off), (0x00#7), (0x00#7), by decide +kernel⟩,
   ⟨(up .off), by decide +kernel⟩,
   ⟨w_sb, by decide +kernel⟩,
   ⟨(up .off), (Instr.getpid), by decide +kernel⟩,
   ⟨(up .off), by decide +kernel⟩,
   ⟨(up .save), by decide +kernel⟩⟩
theorem met_IdleTickPasses :
    (∃ (s : State), s.pending = [] ∧ s.sys.mode = .off) ∧
    (∃ (s : State), s.pending = [] ∧ s.sys.mode ≠ .off ∧ s.fce = [] ∧ s.flt.slots = [] ∧ s.evr.fresh = [] ∧ s.pln.staging = none ∧ s.pkt.exec = [] ∧ s.flag SPT_PTAB_CTL_BURNING = false ∧ s.pwr.capOk = false ∧ s.fld SAV_STS_STAGE ≠ 5 ∧ s.fld SAV_STS_STAGE ≠ 7 ∧ s.fld TRN_STS_STEP = 0 ∧ s.harvestOn = false ∧ s.per.confirms = [] ∧ s.flag FLO_STS_FORMATTING = false) :=
  ⟨⟨(up .off), by decide +kernel⟩,
   ⟨(up .powerUp), by decide +kernel⟩⟩
theorem met_ResetState :
    ∃ (e : _), e ∈ [(HBP_CTL_ALERT_WIDTH, 2), (HBP_CTL_PAR_POLICY, 1), (HBP_CTL_PAR_EN, 1), (HBP_CTL_CA_LAT, 1), (HBP_LANE_CTL_WINDOW_MS, 1000), (CLN_CTL_TIMEOUT_MS, 500), (PKT_CTL_GAP_US, 100), (GLN_CTL_IDLE_US, 200), (SAV_CTL_THRESH_AT, 4), (FLO_WEAR_CTL_COUNT_LIMIT, 50000), (DCT_HARV_CTL_ENTRY_US, 50), (DCT_RD_CTL_THRESH, 262144), (CLK_CTL_H_BW, 2), (PWR_CTL_TEL_MS, 10), (FLT_PIN_PIN_SEV, 2), (FLT_CTL_AUTOCLR, 1), (EVR_CTL_MIRROR_SEV, 2), (HBP_LAT_SET_POINT, 0), (CFG_SB_STS_I2C, 1), (SPT_STS_SEQ, 0), (CFG_MODE_KEEPER, 0)] :=
  ⟨(({ addr := 8192, lo := 8, w := 3 }, 2)), by decide +kernel⟩
theorem por_step : step w_por = .next ((((w_por.setPending []).coldReset.setFlag PWR_FEED_STS_A_GOOD true).setMode .powerUp).powerUpSteps false 0 0) := by
  show execPowerOnResetRelease false 0 0 (w_por.setPending []) = _
  unfold execPowerOnResetRelease
  rw [if_neg (by decide +kernel)]
theorem met_PowerUpEnteredOnlyByRelease : ∃ s t : State, step s = .next t ∧ s.sys.mode ≠ .powerUp ∧ t.sys.mode = .powerUp :=
  ⟨w_por, _, por_step, by decide +kernel, (congrArg Sys.mode (blank_powerUp (((w_por.setPending []).coldReset.setFlag PWR_FEED_STS_A_GOOD true).setMode .powerUp) false 0 0 (by decide +kernel) (by decide +kernel))).trans (by decide +kernel)⟩
theorem met_CommandsKeepTheQueue : ∃ (c : Instr) (s t : State), exec c s = .next t :=
  ⟨.hostRefresh (good .a), svc, _, eq_next_of_isNext svc (by decide +kernel)⟩
theorem met_EveryStepKeepsTheInvariant : ∃ s t : State, s.Inv ∧ step s = .next t :=
  ⟨svc, nextOf (step svc) svc, by unfold State.Inv; decide +kernel, eq_next_of_isNext svc (by decide +kernel)⟩
theorem foldl_xor_zero (q : Nat → Bool) (l : List Nat) (a : CheckBytes) : l.foldl (fun acc i => if q i then acc ^^^ 0 else acc) a = a := by
  induction l generalizing a with
  | nil => rfl
  | cons x t ih => simp [List.foldl_cons, ih]
/-- A code that gives every burst the check bytes 5. -/
def w_learner : State := { svc with cln := { svc.cln with base := 0x10000, zero := some 5, units := (List.range 512).map (fun i => (i, 5)), classes := [] } }
theorem met_LearnerRecoversCode : ∃ (s : State) (c0 : CheckBytes) (g f : Nat → CheckBytes) (p : Nat → Bool), (∀ k, p k = false → f k = 0) ∧
    (let check := fun (ma : Nat) (d : LineData) => (List.range 33).foldl (fun acc k => if ma.testBit (k + 6) then acc ^^^ f k else acc)
        ((List.range 512).foldl (fun acc i => if d.getLsbD i then acc ^^^ g i else acc) c0)
     s.cln.zero = some (check s.cln.base 0) ∧ s.cln.units = (List.range 512).map (fun i => (i, check s.cln.base (1#512 <<< i))) ∧
     s.cln.classes.filter (fun e => decide (e.1 < 33)) = ((List.range 33).filter p).map (fun k => (k, check (s.cln.base ^^^ 2 ^ (k + 6)) 0))) := by
  refine ⟨w_learner, 5, fun _ => 0, fun _ => 0, fun _ => false, fun _ _ => rfl, ?_⟩
  dsimp only
  simp only [foldl_xor_zero]
  refine ⟨by unfold w_learner; dsimp only, by unfold w_learner; dsimp only, ?_⟩
  unfold w_learner
  dsimp only
  rw [List.filter_eq_nil_iff.2 (by simp)]
  rfl


end Sys2Proof.Tests
end

/-! PROOF. What the gate of the host port drops (R44 to R48), and what a READ returns while no host code is learned (R63). -/

namespace Sys2Proof.Proofs

open Sys2Proof.Machine Sys2Proof.Machine.Reg Sys2Proof.Laws

/-! A command that the gate drops has no effect of its own. -/

/-- The gate drops every command with these operands and leaves `t`; `ends` marks the write that R45 takes on a blocked sub-channel. -/
def GateDrops (s t : State) (c : CaCmd) (ends : Bool) : Prop :=
  ∀ cw exit served, s.hostGate c cw ends exit served = (t, false)

section Dropped

variable {s t : State} {c : CaCmd}

theorem forward_dropped (h : GateDrops s t c false) (k : State → State) : s.forward c k = .next t := by
  simp [State.forward, h false false false]

theorem trainCw_dropped (h : GateDrops s t c false) (m : TrainMode) (index : Nat) (v : Byte) : s.trainCw m index c v = .next t := by
  simp [State.trainCw, h true false false]

theorem execHostWrite_dropped (h : GateDrops s t c false) (b : BankAddr) (col : BitVec 7) (burst : Burst) (ap : Bool)
    (data : LineData) (chk : CheckBytes) (full : TapFull) : execHostWrite c b col burst ap data chk full s = .next t := by
  unfold execHostWrite
  split
  · simp [h false false _]
  · exact forward_dropped h _

theorem execHostRead_dropped (h : GateDrops s t c false) (b : BankAddr) (col : BitVec 7) (burst : Burst) (ap : Bool) :
    execHostRead c b col burst ap s = .next t := by
  unfold execHostRead
  split
  · simp [h false false _]
  · exact forward_dropped h _

theorem execHostMrr_dropped (h : GateDrops s t c false) (toRegister : Bool) (ret : LineData) :
    execHostMrr c toRegister ret s = .next t := by
  unfold execHostMrr
  split
  · simp [h false false false]
  · exact forward_dropped h _

theorem execSelfRefreshExit_dropped (h : GateDrops s t c false) (ns : BitVec 16) : execSelfRefreshExit c ns s = .next t := by
  simp [execSelfRefreshExit, h false _ false]

theorem execCwParityConfig_dropped (h : GateDrops s t c false) (v : Byte) : execCwParityConfig c v s = .next t := by
  simp [execCwParityConfig, h true false false]

theorem execCwCaLatency_dropped (h : GateDrops s t c false) (v : Byte) : execCwCaLatency c v s = .next t := by
  simp [execCwCaLatency, h true false false]

theorem execCwAlertWidth_dropped (h : GateDrops s t c false) (v : Byte) : execCwAlertWidth c v s = .next t := by
  simp [execCwAlertWidth, h true false false]

theorem execCwIgnored_dropped (h : GateDrops s t c false) (index v : Byte) : execCwIgnored c index v s = .next t := by
  simp [execCwIgnored, h true false false]

theorem execCwEndParityBlock_dropped {v : Byte} (h : GateDrops s t c (v.getLsbD 0)) : execCwEndParityBlock c v s = .next t := by
  unfold execCwEndParityBlock
  rw [h true false false]
  rfl

/-- Every command of the host port but a training sample crosses the gate: where the gate drops it, its answer is the gate's. -/
theorem exec_dropped {i : Instr} (hc : i.caCmd = some c) (hs : ∀ c' x y, i ≠ .hostTrainingSample c' x y)
    (h : GateDrops s t c false)
    (hend : ∀ v : Byte, v.getLsbD 0 = true → i = .cwEndParityBlock c v → GateDrops s t c true) : exec i s = .next t := by
  cases i with
  | hostWrite => cases hc; exact execHostWrite_dropped h ..
  | hostRead => cases hc; exact execHostRead_dropped h ..
  | hostMrr => cases hc; exact execHostMrr_dropped h ..
  | hostWritePattern _ b col ap full => cases hc; exact (forward_dropped h _ : execHostWritePattern c b col ap full s = _)
  | hostAct _ b row => cases hc; exact (forward_dropped h _ : execHostAct c b row s = _)
  | hostPrecharge _ kind b => cases hc; exact (forward_dropped h _ : execHostPrecharge c kind b s = _)
  | hostMrw _ mr op lane => cases hc; exact (forward_dropped h _ : execHostMrw c mr op lane s = _)
  | selfRefreshEntry => cases hc; exact (forward_dropped h _ : execSelfRefreshEntry c s = _)
  | hostRefresh | hostRfm | hostMpc | hostPowerDown => cases hc; exact forward_dropped h id
  | selfRefreshExit => cases hc; exact execSelfRefreshExit_dropped h _
  | cwParityConfig => cases hc; exact execCwParityConfig_dropped h _
  | cwCaLatency => cases hc; exact execCwCaLatency_dropped h _
  | cwAlertWidth => cases hc; exact execCwAlertWidth_dropped h _
  | cwIgnored => cases hc; exact execCwIgnored_dropped h _ _
  | cwEndParityBlock _ v =>
    cases hc
    cases hv : v.getLsbD 0 with
    | false => exact execCwEndParityBlock_dropped (hv ▸ h)
    | true => exact execCwEndParityBlock_dropped (hv ▸ hend v hv rfl)
  | caTrainingMode | csTrainingMode | readEnableMode | writeLevelingMode | readDqMode | writeDqMode | hostTrainingModeExit =>
    cases hc; exact trainCw_dropped h ..
  | hostTrainingSample c' x y => exact absurd rfl (hs c' x y)
  | _ => cases hc

end Dropped

/-! The parity registers of a sub-channel (Tables 2-10, 2-11). -/

theorem blocked_eq (s : State) (x : Sub) : s.blocked x = s.flag (blockField x) := by cases x <;> rfl

theorem setBlock_eq (s : State) (x : Sub) (b : Bool) : s.setBlock x b = s.setFlag (blockField x) b := by cases x <;> rfl

theorem setParErr_eq (s : State) (x : Sub) (b : Bool) : s.setParErr x b = s.setFlag (errField x) b := by cases x <;> rfl

theorem blocked_setFlag_blockField (s : State) (x : Sub) (b : Bool) : (s.setFlag (blockField x) b).blocked x = b := by
  rw [blocked_eq]
  exact flag_setFlag_same s b (by cases x <;> rfl) (by cases x <;> decide)

theorem fld_setFlag_errField (s : State) (x : Sub) (b : Bool) : (s.setFlag (errField x) b).fld (errField x) = if b then 1 else 0 := by
  have h : (s.setFlag (errField x) b).fld (errField x) = (if b then 1 else 0) % 2 ^ (errField x).w :=
    fld_setFld_same s _ (by cases x <;> decide)
  rw [h]
  cases x <;> cases b <;> rfl

/-- A write of all 32 bits of a register leaves nothing of the old word. -/
theorem fldIns_whole (w : Word) (a v : Nat) : fldIns w ⟨a, 0, 32⟩ v = BitVec.ofNat 32 v := by
  apply BitVec.eq_of_getLsbD_eq
  intro i hi
  rw [fldIns_getLsbD, if_pos (by simpa using hi), BitVec.getLsbD_ofNat, Nat.sub_zero]

/-- A counter reads as one more, up to the top of its field. -/
theorem fld_bump_same (s : State) {f : Fld} (n : Nat) (h : f.lo + f.w ≤ 32) : (s.bump f n).fld f = min (s.fld f + n) (2 ^ f.w - 1) := by
  have hpos : 0 < 2 ^ f.w := Nat.two_pow_pos _
  rw [State.bump, fld_setFld_same _ _ h, satAdd]
  exact Nat.mod_eq_of_lt (by omega)

/-- Two fields that share no bit of a register. -/
abbrev Apart (g f : Fld) : Prop := g.addr ≠ f.addr ∨ g.lo + g.w ≤ f.lo ∨ f.lo + f.w ≤ g.lo

/-- What a parity error does to the registers of its sub-channel under either policy: the error bit, the count and the log. -/
def parityLogged (s : State) (x : Sub) (w : Nat) : State :=
  ((s.setFlag (errField x) true).bump (parCount x) 1).setFld (HBP_PAR_LOG (subNum x)) w

/-- ALERT_n pulses (R47). -/
def alerted (s : State) : State := { s with hbp := { s.hbp with alertPulse := true } }

theorem fld_alerted (s : State) (f : Fld) : (alerted s).fld f = s.fld f := rfl

theorem word_alerted (s : State) (a : Nat) : (alerted s).word a = s.word a := rfl

theorem flag_alerted (s : State) (f : Fld) : (alerted s).flag f = s.flag f := rfl

theorem onlyFields_alerted {fs : List Fld} {s t : State} (h : OnlyFields fs s t) : OnlyFields fs (alerted s) (alerted t) := by
  obtain ⟨h1, h2⟩ := h
  refine ⟨?_, h2⟩
  rw [h1]
  rfl

theorem parityError_eq (s : State) (c : CaCmd) (k : Nat) :
    s.parityError c k =
      if (alerted (parityLogged s c.sub (parLogWord c.uis k))).flag HBP_CTL_PAR_POLICY
      then (alerted (parityLogged s c.sub (parLogWord c.uis k))).setFlag (blockField c.sub) true
      else alerted (parityLogged s c.sub (parLogWord c.uis k)) := by
  unfold State.parityError
  simp only [setParErr_eq, setBlock_eq, parityLogged]
  cases c.sub <;> rfl

section ParityLogged

variable (s : State) (x : Sub) (w : Nat)

/-- A field of another register, or of other bits of the status register, is as before. -/
theorem fld_parityLogged_ne {g : Fld} (h1 : Apart g (errField x)) (h2 : Apart g (parCount x)) (h3 : Apart g (HBP_PAR_LOG (subNum x))) :
    (parityLogged s x w).fld g = s.fld g := by
  rw [parityLogged, fld_setFld_ne _ _ h3, State.bump, fld_setFld_ne _ _ h2, State.setFlag, fld_setFld_ne _ _ h1]

theorem policy_parityLogged : (parityLogged s x w).flag HBP_CTL_PAR_POLICY = s.flag HBP_CTL_PAR_POLICY := by
  have h : (parityLogged s x w).fld HBP_CTL_PAR_POLICY = s.fld HBP_CTL_PAR_POLICY := by
    cases x <;> exact fld_parityLogged_ne s _ w (by decide) (by decide) (by decide)
  rw [State.flag, State.flag, h]

theorem blockFlag_parityLogged : (parityLogged s x w).flag (blockField x) = s.flag (blockField x) := by
  have h : (parityLogged s x w).fld (blockField x) = s.fld (blockField x) := by
    cases x <;> exact fld_parityLogged_ne s _ w (by decide) (by decide) (by decide)
  rw [State.flag, State.flag, h]

theorem errField_parityLogged : (parityLogged s x w).fld (errField x) = 1 := by
  rw [parityLogged, fld_setFld_ne _ _ (by cases x <;> decide), State.bump, fld_setFld_ne _ _ (by cases x <;> decide)]
  exact fld_setFlag_errField s x true

theorem parCount_parityLogged : (parityLogged s x w).fld (parCount x) = min (s.fld (parCount x) + 1) 255 := by
  rw [parityLogged, fld_setFld_ne _ _ (by cases x <;> decide), fld_bump_same _ _ (by cases x <;> decide), State.setFlag,
    fld_setFld_ne _ _ (by cases x <;> decide)]
  cases x <;> rfl

theorem parLog_parityLogged : (parityLogged s x w).word (HBP_PAR_LOG (subNum x)).addr = BitVec.ofNat 32 w := by
  rw [parityLogged, word_setFld, if_pos rfl]
  exact fldIns_whole _ _ _

theorem onlyFields_parityLogged :
    OnlyFields [errField x, blockField x, parCount x, HBP_PAR_LOG (subNum x)] s (parityLogged s x w) :=
  onlyFields_setFld (onlyFields_bump (onlyFields_setFlag (onlyFields_refl _ s) true (by simp)) 1 (by simp)) w (by simp)

end ParityLogged

section ParityError

variable (s : State) (c : CaCmd) (k : Nat)

/-- The block is the only difference between the two policies. -/
theorem parityError_cases :
    (s.flag HBP_CTL_PAR_POLICY = true ∧
      s.parityError c k = (alerted (parityLogged s c.sub (parLogWord c.uis k))).setFlag (blockField c.sub) true) ∨
    (s.flag HBP_CTL_PAR_POLICY = false ∧ s.parityError c k = alerted (parityLogged s c.sub (parLogWord c.uis k))) := by
  rw [parityError_eq, flag_alerted, policy_parityLogged]
  cases h : s.flag HBP_CTL_PAR_POLICY with
  | true => exact .inl ⟨rfl, if_pos rfl⟩
  | false => exact .inr ⟨rfl, if_neg Bool.false_ne_true⟩

theorem word_parityError {a : Nat} (h : a ≠ (blockField c.sub).addr) :
    (s.parityError c k).word a = (parityLogged s c.sub (parLogWord c.uis k)).word a := by
  rcases parityError_cases s c k with ⟨-, e⟩ | ⟨-, e⟩
  · rw [e, State.setFlag, word_setFld, if_neg h, word_alerted]
  · rw [e, word_alerted]

theorem fld_parityError {g : Fld} (h : Apart g (blockField c.sub)) :
    (s.parityError c k).fld g = (parityLogged s c.sub (parLogWord c.uis k)).fld g := by
  rcases parityError_cases s c k with ⟨-, e⟩ | ⟨-, e⟩
  · rw [e, State.setFlag, fld_setFld_ne _ _ h, fld_alerted]
  · rw [e, fld_alerted]

theorem errField_parityError : (s.parityError c k).fld (errField c.sub) = 1 := by
  rw [fld_parityError s c k (by cases c.sub <;> decide), errField_parityLogged]

theorem parCount_parityError : (s.parityError c k).fld (parCount c.sub) = min (s.fld (parCount c.sub) + 1) 255 := by
  rw [fld_parityError s c k (by cases c.sub <;> decide), parCount_parityLogged]

theorem parLog_parityError :
    (s.parityError c k).word (HBP_PAR_LOG (subNum c.sub)).addr = BitVec.ofNat 32 (parLogWord c.uis k) := by
  rw [word_parityError s c k (by cases c.sub <;> decide), parLog_parityLogged]

theorem blocked_parityError : (s.parityError c k).blocked c.sub = (s.flag HBP_CTL_PAR_POLICY || s.blocked c.sub) := by
  rcases parityError_cases s c k with ⟨hp, e⟩ | ⟨hp, e⟩
  · rw [e, blocked_setFlag_blockField, hp, Bool.true_or]
  · rw [e, blocked_eq, flag_alerted, blockFlag_parityLogged, blocked_eq, hp, Bool.false_or]

theorem onlyFields_parityError :
    OnlyFields [errField c.sub, blockField c.sub, parCount c.sub, HBP_PAR_LOG (subNum c.sub)] (alerted s) (s.parityError c k) := by
  have h := onlyFields_alerted (onlyFields_parityLogged s c.sub (parLogWord c.uis k))
  rcases parityError_cases s c k with ⟨-, e⟩ | ⟨-, e⟩
  · rw [e]
    exact onlyFields_setFlag h true (by simp)
  · rw [e]
    exact h

end ParityError

/-! The end of a block (R45): by control word 0x03, or by a write of 1 to the error bit. -/

/-- The block of a sub-channel has ended and its error bit is clear; nothing else has changed. -/
def BlockEnded (x : Sub) (s t : State) : Prop :=
  t.blocked x = false ∧ t.fld (errField x) = 0 ∧ OnlyFields [blockField x, errField x] s t

theorem blockEnded_block_then_err (s : State) (x : Sub) : BlockEnded x s ((s.setBlock x false).setParErr x false) := by
  rw [setBlock_eq, setParErr_eq]
  refine ⟨?_, fld_setFlag_errField _ x false, ?_⟩
  · rw [blocked_eq, flag_setFlag_ne _ _ (by cases x <;> decide), ← blocked_eq]
    exact blocked_setFlag_blockField s x false
  · exact onlyFields_setFlag (onlyFields_setFlag (onlyFields_refl _ s) _ (by simp)) _ (by simp)

theorem blockEnded_err_then_block (s : State) (x : Sub) : BlockEnded x s ((s.setParErr x false).setBlock x false) := by
  rw [setBlock_eq, setParErr_eq]
  refine ⟨blocked_setFlag_blockField _ x false, ?_, ?_⟩
  · rw [State.setFlag, fld_setFld_ne _ _ (by cases x <;> decide)]
    exact fld_setFlag_errField s x false
  · exact onlyFields_setFlag (onlyFields_setFlag (onlyFields_refl _ s) _ (by simp)) _ (by simp)

/-- Settles O2: the gate drops the command, whichever it is, and what it leaves is the parity error's mark or the state as it was. -/
theorem parityErrorsDropAndBlock : Obligations.ParityErrorsDropAndBlock := by
  refine ⟨?_, ?_, ?_, ?_⟩
  · intro i c s k hc hs hm h1 h2 h3 hp hk
    have hdrop (e : Bool) : GateDrops s (s.parityError c k) c e := fun cw => hostGate_parity hm h1 h2 h3 hp hk cw e
    exact answers_of (exec_dropped hc hs (hdrop false) fun _ _ _ => hdrop true) ⟨errField_parityError s c k, parCount_parityError s c k,
      parLog_parityError s c k, blocked_parityError s c k, onlyFields_parityError s c k⟩
  · intro i c s hc hs hend hm h1 h2 h3 hk hb
    have hdrop : GateDrops s s c false := fun cw => hostGate_blocked hm h1 h2 h3 hk hb cw
    exact answers_of (exec_dropped hc hs hdrop fun v hv hi => absurd hi (hend v hv)) rfl
  · intro c v s hm hd h1 h2 h3 hk hv
    have hexec : execCwEndParityBlock c v s = .next ((s.setBlock c.sub false).setParErr c.sub false) := by
      simp only [execCwEndParityBlock, hv, hostGate_ends hm h1 h2 h3 hk hd]
      rfl
    exact answers_of hexec (blockEnded_block_then_err s c.sub)
  · intro x s
    exact answers_of (i := .parErrClear x) rfl (blockEnded_err_then_block s x)

/-! A READ while no host code is learned (R63). -/

theorem fld_setBit_ne (s : State) {f g : Fld} (i : Nat) (b : Bool) (h : g.addr ≠ f.addr) : (s.setBit f i b).fld g = s.fld g := by
  unfold State.setBit
  dsimp only
  split
  · rfl
  · split <;> exact fld_setFld_ne _ _ (.inl h)

/-- ALL_DIRTY shows in PER_STS alone (Table 5-8). -/
theorem fld_setAllDirty_ne (s : State) (i : Nat) {g : Fld} (h : g.addr ≠ PER_STS_ALL_DIRTY.addr) : (s.setAllDirty i).fld g = s.fld g := by
  rw [State.setAllDirty, fld_setBit_ne (f := PER_STS_CAUSE) _ _ _ h, State.setFlag, fld_setFld_ne _ _ (.inl h)]

theorem setAllDirty_changes_regs (s : State) (i : Nat) : s.setAllDirty i = { s with regs := (s.setAllDirty i).regs } :=
  (onlyFields_setBit (onlyFields_setFlag (onlyFields_refl [PER_STS_ALL_DIRTY, PER_STS_CAUSE] s) true (by simp)) i true (by simp)).1

section OddLength

variable (s : State) (c : CaCmd)

theorem fld_oddLength_ne {g : Fld} (h : g.addr ≠ PER_STS_ALL_DIRTY.addr) : (s.oddLength c).fld g = s.fld g :=
  fld_setAllDirty_ne _ _ h

theorem hbp_oddLength : (s.oddLength c).hbp = s.hbp := by
  rw [State.oddLength, setAllDirty_changes_regs]
  rfl

theorem dram_oddLength : (s.oddLength c).dram = s.dram := by
  rw [State.oddLength, setAllDirty_changes_regs]
  rfl

end OddLength

/-- The module address turns on the geometry alone (Table 2-5). -/
theorem mkMa_of_geometry {s t : State} (h : ∀ g ∈ [HBP_GEOM_LRANKS, HBP_GEOM_ROW17, HBP_GEOM_RANK2], t.fld g = s.fld g) :
    t.mkMa = s.mkMa := by
  obtain ⟨h1, h2, h3⟩ : t.fld HBP_GEOM_LRANKS = s.fld HBP_GEOM_LRANKS ∧ t.fld HBP_GEOM_ROW17 = s.fld HBP_GEOM_ROW17 ∧
      t.fld HBP_GEOM_RANK2 = s.fld HBP_GEOM_RANK2 := by simpa using h
  unfold State.mkMa State.rankBits State.lrankBits State.rowBits State.flag
  rw [h1, h2, h3]

theorem mkMa_oddLength (s : State) (c : CaCmd) : (s.oddLength c).mkMa = s.mkMa :=
  mkMa_of_geometry fun g hg => fld_oddLength_ne s c (by revert g; decide)

/-- With no learned code nothing stands in for the DRAM's line, in the status aperture or elsewhere. -/
theorem readReturn_unlearned {s : State} (h : s.fld CLN_STS_STATE = 0) (ma : Nat) : s.readReturn ma = s.line ma := by
  have hl : s.learned = false := by
    rw [State.learned, h]
    rfl
  simp [State.readReturn, hl]

theorem line_of_dram {s t : State} (h : t.dram = s.dram) (ma : Nat) : t.line ma = s.line ma := by
  rw [State.line, State.line, h]

theorem lateWrite_changes_sea (s : State) (r : Nat) (v : Region) (g : Option Nat) (st : Nat) (checked bad : Bool) :
    ∃ sea, s.lateWrite r v g st checked bad = { s with sea := sea } := by
  unfold State.lateWrite
  split
  · exact ⟨_, rfl⟩
  · exact ⟨s.sea, rfl⟩

theorem coverWrite_changes_gln_sea (s : State) (g st : Nat) : ∃ gln sea, s.coverWrite g st = { s with gln := gln, sea := sea } := by
  unfold State.coverWrite
  split
  · split
    · exact ⟨_, s.sea, rfl⟩
    · obtain ⟨sea, h⟩ := lateWrite_changes_sea s _ _ (some g) st true false
      exact ⟨s.gln, sea, h⟩
  · exact ⟨s.gln, s.sea, rfl⟩

/-- The flag of an incomplete capture belongs to the glean unit and the seal unit (R61). -/
theorem flagIncomplete_changes_gln_sea (s : State) (g : Nat) : ∃ gln sea, s.flagIncomplete g = { s with gln := gln, sea := sea } := by
  unfold State.flagIncomplete State.flagAt
  split
  · obtain ⟨gln, sea, h⟩ := coverWrite_changes_gln_sea (s.setRepair g s.horizon) g s.horizon
    exact ⟨gln, sea, h⟩
  · exact ⟨s.gln, s.sea, rfl⟩

/-- The burst is driven to the host, and the DRAM is as it was (R62). -/
def Drives (s t : State) (v : LineData × CheckBytes) : Prop := t.hbp.hostOut = some v ∧ t.dram = s.dram

theorem drives_driveOut (s : State) (v : LineData × CheckBytes) : Drives s (s.driveOut v) v := ⟨rfl, rfl⟩

theorem drives_flagIncomplete {s t : State} {v : LineData × CheckBytes} (h : Drives s t v) (g : Nat) : Drives s (t.flagIncomplete g) v := by
  obtain ⟨gln, sea, e⟩ := flagIncomplete_changes_gln_sea t g
  rw [e]
  exact h

theorem drives_autoPre {s t : State} {v : LineData × CheckBytes} (h : Drives s t v) (ap : Bool) (i : Nat) : Drives s (t.autoPre ap i) v := by
  unfold State.autoPre
  split <;> exact h

/-- The module address of a column command to a row (R55). -/
abbrev columnMa (s : State) (c : CaCmd) (b : BankAddr) (row : Nat) (col : BitVec 7) : Nat :=
  s.mkMa (subNum c.sub) c.rank.val c.lrank.val b.bg.val b.ba.val row col.toNat

theorem cmdMa_of_openRow {s : State} {c : CaCmd} {b : BankAddr} {row : Nat} (h : s.openRow (cmdBank c b) = some row) (col : BitVec 7) :
    s.cmdMa c b col = some (columnMa s c b row col) := by
  rw [State.cmdMa, h]
  rfl

section Read

variable {s : State} {c : CaCmd} {b : BankAddr} {row : Nat}

theorem train_of_hostOpen (h : HostOpen s c) : s.hbp.train = none := by
  obtain ⟨-, -, -, ht, -⟩ := h
  exact ht

/-- A forwarded BL16 READ of an open row drives what the row's line returns. -/
theorem execHostRead_bl16 (h : HostOpen s c) (hr : s.openRow (cmdBank c b) = some row) (col : BitVec 7) (ap : Bool) :
    execHostRead c b col .bl16 ap s =
      .next ((s.crossed.driveOut (s.crossed.readReturn (columnMa s c b row col))).autoPre ap (cmdBank c b)) := by
  have ht : s.hbp.train = none := train_of_hostOpen h
  have hma : s.crossed.cmdMa c b col = some (columnMa s c b row col) := cmdMa_of_openRow (s := s.crossed) hr col
  unfold execHostRead
  rw [if_neg (by simp [ht]), forward_open h]
  simp [hma]

/-- A forwarded READ of an unsupported burst length drives a free value of what the row's line returns (Table 2-6). -/
theorem execHostRead_odd {burst : Burst} (hb : burst ≠ .bl16) (h : HostOpen s c) (hr : s.openRow (cmdBank c b) = some row)
    (col : BitVec 7) (ap : Bool) :
    execHostRead c b col burst ap s =
      let ma := columnMa s c b row col
      let t := s.crossed.oddLength c
      .next (((t.driveOut (Config.oddRead (if burst = .bc8 then 8 else 32) (t.readReturn ma))).flagIncomplete (maGranule ma)).autoPre
        ap (cmdBank c b)) := by
  have ht : s.hbp.train = none := train_of_hostOpen h
  have hrow : (s.crossed.oddLength c).openRow (cmdBank c b) = some row := by
    rw [State.openRow, hbp_oddLength]
    exact hr
  have hma : (s.crossed.oddLength c).cmdMa c b col = some (columnMa s c b row col) := by
    rw [cmdMa_of_openRow hrow, columnMa, mkMa_oddLength]
    rfl
  unfold execHostRead
  rw [if_neg (by simp [ht]), forward_open h]
  simp [hma, hb]

theorem unlearned_read_bl16 (h : HostOpen s c) (hr : s.openRow (cmdBank c b) = some row) (hl : s.fld CLN_STS_STATE = 0)
    (col : BitVec 7) (ap : Bool) :
    Answers (.hostRead c b col .bl16 ap) s (fun t => Drives s t (s.line (columnMa s c b row col))) := by
  refine answers_of (execHostRead_bl16 h hr col ap) (drives_autoPre ?_ ap _)
  rw [readReturn_unlearned (s := s.crossed) hl]
  exact drives_driveOut _ _

theorem unlearned_read_odd {burst : Burst} (hb : burst ≠ .bl16) (h : HostOpen s c) (hr : s.openRow (cmdBank c b) = some row)
    (hl : s.fld CLN_STS_STATE = 0) (col : BitVec 7) (ap : Bool) :
    Answers (.hostRead c b col burst ap) s (fun t =>
      Drives s t (Config.oddRead (if burst = .bc8 then 8 else 32) (s.line (columnMa s c b row col)))) := by
  refine answers_of (execHostRead_odd hb h hr col ap) (drives_autoPre (drives_flagIncomplete ?_ _) ap _)
  have hodd : (s.crossed.oddLength c).fld CLN_STS_STATE = 0 := (fld_oddLength_ne s.crossed c (by decide)).trans hl
  have hdram : (s.crossed.oddLength c).dram = s.dram := dram_oddLength s.crossed c
  rw [readReturn_unlearned hodd, line_of_dram hdram]
  exact ⟨rfl, hdram⟩

end Read

/-- Settles O6: with no learned code `readReturn` is the DRAM's own line, whatever the burst length. -/
theorem unlearnedReadsPassThrough : Obligations.UnlearnedReadsPassThrough := by
  intro c b col burst ap s row h hr hl
  cases burst with
  | bl16 => exact unlearned_read_bl16 h hr hl col ap
  | bc8 => exact unlearned_read_odd (by decide) h hr hl col ap
  | bl32 => exact unlearned_read_odd (by decide) h hr hl col ap

end Sys2Proof.Proofs

/-! PROOF. Telemetry polls, the rise of the reset outputs and failed domain checks (R376 to R379, R383, R390, R398). -/

namespace Sys2Proof.Proofs

open Sys2Proof.Machine Sys2Proof.Machine.Reg Sys2Proof.Laws

/-! The bits of a field that is a bit vector, and of a rail set. -/

theorem add_two_pow_eq_or {v i : Nat} (h : v.testBit i = false) : v + 2 ^ i = v ||| 2 ^ i := by
  apply Nat.eq_of_testBit_eq
  intro j
  rw [Nat.testBit_or, Nat.testBit_two_pow, Nat.add_comm]
  rcases Nat.lt_trichotomy j i with hj | rfl | hj
  · simp [Nat.testBit_two_pow_add_gt hj, hj.ne']
  · simp [Nat.testBit_two_pow_add_eq, h]
  · -- without a carry out of bit i, what lies above it is as before
    have hi : v / 2 ^ i % 2 = 0 := by simpa [Nat.testBit_eq_decide_div_mod_eq] using h
    have hdiv : (2 ^ i + v) / 2 ^ (i + 1) = v / 2 ^ (i + 1) := by
      rw [Nat.pow_succ, ← Nat.div_div_eq_div_mul, ← Nat.div_div_eq_div_mul, Nat.add_div_left _ (Nat.two_pow_pos i)]
      omega
    obtain ⟨k, rfl⟩ := Nat.exists_eq_add_of_lt hj
    have hne : i ≠ i + k + 1 := by omega
    rw [decide_eq_false hne, Bool.or_false, show i + k + 1 = k + (i + 1) by omega, Nat.testBit_add, Nat.testBit_add, hdiv]

theorem or_two_pow_eq_self {v i : Nat} (h : v.testBit i = true) : v ||| 2 ^ i = v := by
  apply Nat.eq_of_testBit_eq
  intro j
  rw [Nat.testBit_or, Nat.testBit_two_pow]
  by_cases hj : i = j
  · simp [← hj, h]
  · simp [hj]

theorem bit_eq_testBit (s : State) (f : Fld) (i : Nat) : s.bit f i = (s.fld f).testBit i := by
  rw [State.bit, Nat.testBit_eq_decide_div_mod_eq]

theorem bit_of_fld {s t : State} {f : Fld} (h : t.fld f = s.fld f) (i : Nat) : t.bit f i = s.bit f i := by
  rw [State.bit, State.bit, h]

theorem fld_setBit_true (s : State) {f : Fld} {i : Nat} (hf : f.lo + f.w ≤ 32) (hi : i < f.w) :
    (s.setBit f i true).fld f = s.fld f ||| 2 ^ i := by
  have hlt : s.fld f ||| 2 ^ i < 2 ^ f.w := Nat.or_lt_two_pow (fld_lt s f) (Nat.pow_lt_pow_right (by decide) hi)
  unfold State.setBit
  dsimp only
  cases h : (s.fld f).testBit i with
  | true =>
    have h2 : s.fld f / 2 ^ i % 2 = 1 := by simpa [Nat.testBit_eq_decide_div_mod_eq] using h
    rw [if_pos (by simp [h2]), or_two_pow_eq_self h]
  | false =>
    have h2 : s.fld f / 2 ^ i % 2 ≠ 1 := by simpa [Nat.testBit_eq_decide_div_mod_eq] using h
    rw [if_neg (by simp [h2]), if_pos rfl, fld_setFld_same _ _ hf, add_two_pow_eq_or h, Nat.mod_eq_of_lt hlt]

theorem bit_setBit_true (s : State) {f : Fld} {i : Nat} (hf : f.lo + f.w ≤ 32) (hi : i < f.w) (j : Nat) :
    (s.setBit f i true).bit f j = (s.bit f j || decide (i = j)) := by
  rw [bit_eq_testBit, bit_eq_testBit, fld_setBit_true s hf hi, Nat.testBit_or, Nat.testBit_two_pow]

/-- The set of those of the first `n` numbers that a condition takes. -/
theorem getLsbD_foldl_or {w : Nat} (p : Nat → Bool) (n k : Nat) (hk : k < w) :
    ((List.range n).foldl (fun (acc : BitVec w) r => if p r then acc ||| (1#w <<< r) else acc) 0).getLsbD k = (decide (k < n) && p k) := by
  induction n with
  | zero => simp
  | succ n ih =>
    have hbit : (1#w <<< n).getLsbD k = decide (k = n) := by
      rw [← BitVec.twoPow_eq, BitVec.getLsbD_twoPow]
      by_cases h : n = k
      · simp [h, hk]
      · simp [h, Ne.symm h]
    have hlt : decide (k < n + 1) = (decide (k < n) || decide (k = n)) := by
      rw [← Bool.decide_or, decide_eq_decide]
      omega
    have hp : (decide (k = n) && p k) = (decide (k = n) && p n) := by by_cases h : k = n <;> simp [h]
    rw [List.range_succ, List.foldl_concat, hlt, Bool.and_or_distrib_right, ← ih, hp]
    cases p n with
    | true => simp [hbit]
    | false => simp

/-! What says which rails there are, which marionette serves each, and which of them are good (Tables 13-16, 13-18). -/

/-- A register that the existence, the marionette or the power-good of a rail is read from. -/
abbrev RailReg (a : Nat) : Prop := a = PWR_RAIL_STS.addr ∨ a = PWR_FSW_STS.addr ∨ (PWR_RAIL_CFG_MB 0).addr ≤ a

/-- The two states agree on the rails' existence, marionettes and power-good. -/
structure SameRails (s t : State) : Prop where
  ex : ∀ r, t.railExists r = s.railExists r
  mb : ∀ r, t.fld (PWR_RAIL_CFG_MB r) = s.fld (PWR_RAIL_CFG_MB r)
  good : ∀ r, t.railGood r = s.railGood r

theorem sameRails_of_fld {s t : State} (h : ∀ g : Fld, RailReg g.addr → t.fld g = s.fld g) : SameRails s t := by
  refine ⟨fun r => ?_, fun r => h _ (.inr (.inr (by simp [PWR_RAIL_CFG_MB]))), fun r => ?_⟩
  · rw [State.railExists, State.railExists, h _ (.inr (.inr (by simp [PWR_RAIL_CFG_MB, PWR_RAIL_CFG_SET_MV])))]
  · rw [State.railGood, State.railGood, bit_of_fld (h _ (.inl rfl)), bit_of_fld (h _ (.inr (.inl rfl)))]

theorem sameRails_of_fld_ne {s t : State} {a : Nat} (ha : ¬ RailReg a) (h : ∀ g : Fld, g.addr ≠ a → t.fld g = s.fld g) : SameRails s t :=
  sameRails_of_fld fun g hg => h g fun e => ha (e ▸ hg)

theorem sameRails_setFlag (s : State) {f : Fld} (b : Bool) (hf : ¬ RailReg f.addr) : SameRails s (s.setFlag f b) :=
  sameRails_of_fld_ne hf fun _ hg => fld_setFld_ne _ _ (.inl hg)

theorem stageRails_of_sameRails {s t : State} (h : SameRails s t) (st : Nat) : t.stageRails st = s.stageRails st := by
  simp only [State.stageRails, h.ex]

theorem armed_disarm_of_sameRails {s t : State} (h : SameRails s t) (ha : t.pwr.armed = s.pwr.armed) (bad : Nat) :
    (t.disarm bad).pwr.armed = (s.disarm bad).pwr.armed := by
  simp only [State.disarm, h.ex, h.mb, h.good, ha]

/-! The marionettes' registers (R377). -/

/-- The marionettes of a set that did not answer are reported (R377). -/
def mbReports (bad : Nat) (s : State) : State :=
  (List.range 6).foldl (fun (u : State) k => if bad.testBit k then u.report .mbFault (0x130 + k) 0 0 else u) s

theorem mbReports_changes_flt (bad : Nat) (s : State) : ∃ flt, mbReports bad s = { s with flt := flt } := by
  refine List.foldlRecOn (motive := fun u : State => ∃ flt, u = { s with flt := flt }) _ _ ⟨s.flt, rfl⟩ fun u hu k _ => ?_
  obtain ⟨flt, rfl⟩ := hu
  split
  · exact ⟨_, rfl⟩
  · exact ⟨flt, rfl⟩

theorem fld_of_regs {s t : State} (h : t.regs = s.regs) (g : Fld) : t.fld g = s.fld g := by
  rw [fld_regs, fld_regs, h]

theorem fld_mbReports (bad : Nat) (s : State) (g : Fld) : (mbReports bad s).fld g = s.fld g := by
  obtain ⟨flt, h⟩ := mbReports_changes_flt bad s
  exact fld_of_regs (by rw [h]) g

theorem sys_mbReports (bad : Nat) (s : State) : (mbReports bad s).sys = s.sys := by
  obtain ⟨flt, h⟩ := mbReports_changes_flt bad s
  rw [h]

theorem dram_mbReports (bad : Nat) (s : State) : (mbReports bad s).dram = s.dram := by
  obtain ⟨flt, h⟩ := mbReports_changes_flt bad s
  rw [h]

theorem pwr_mbReports (bad : Nat) (s : State) : (mbReports bad s).pwr = s.pwr := by
  obtain ⟨flt, h⟩ := mbReports_changes_flt bad s
  rw [h]

/-- The outcome of a transfer in PWR_MB_STS: who has faulted, and the retries. -/
def transfersMarked (s : State) (faulted retries : Nat) : State :=
  (s.setFld PWR_MB_STS_FAULTED faulted).bump PWR_MB_STS_RETRIES retries

section TransfersMarked

variable (s : State) (faulted retries : Nat)

theorem fld_transfersMarked_ne {g : Fld} (h : g.addr ≠ PWR_MB_STS_FAULTED.addr) : (transfersMarked s faulted retries).fld g = s.fld g := by
  rw [transfersMarked, State.bump, fld_setFld_ne (f := PWR_MB_STS_RETRIES) _ _ (.inl h), fld_setFld_ne _ _ (.inl h)]

theorem faulted_transfersMarked (h : faulted < 2 ^ 6) : (transfersMarked s faulted retries).fld PWR_MB_STS_FAULTED = faulted := by
  rw [transfersMarked, State.bump, fld_setFld_ne _ _ (by decide), fld_setFld_same _ _ (by decide)]
  exact Nat.mod_eq_of_lt h

theorem onlyFields_transfersMarked : OnlyFields [PWR_MB_STS_FAULTED, PWR_MB_STS_RETRIES] s (transfersMarked s faulted retries) :=
  onlyFields_bump (onlyFields_setFld (onlyFields_refl _ s) _ (by simp)) _ (by simp)

end TransfersMarked

/-! The samples of a telemetry poll (R378). -/

/-- The channel, the voltage and the current of each sample of a poll. -/
abbrev Samples := List (Fin 16 × BitVec 16 × BitVec 16)

/-- The samples after one more: the one of a rail that exists is kept. -/
def keepSample (s : State) (m : SMap (Nat × Nat)) (x : Fin 16 × BitVec 16 × BitVec 16) : SMap (Nat × Nat) :=
  if s.railExists x.1.val then smapPut m x.1.val (x.2.1.toNat, x.2.2.toNat) else m

/-- The samples that stand after a poll. -/
def keepSamples (s : State) (xs : Samples) : SMap (Nat × Nat) := xs.foldl (keepSample s) s.pwr.telem

/-- The model's pass over the samples changes the samples alone. -/
theorem foldl_samples_changes_telem (s : State) (xs : Samples) :
    xs.foldl (fun (u : State) x =>
      if u.railExists x.1.val then { u with pwr := { u.pwr with telem := smapPut u.pwr.telem x.1.val (x.2.1.toNat, x.2.2.toNat) } } else u) s =
    { s with pwr := { s.pwr with telem := keepSamples s xs } } := by
  induction xs generalizing s with
  | nil => rfl
  | cons x xs ih =>
    rw [List.foldl_cons, ih, keepSamples, keepSamples, List.foldl_cons, keepSample]
    split <;> rfl

section Samples

variable {s : State} {xs : Samples} {c : Fin 16} {v i : BitVec 16}

theorem smapFind_keepSamples_last (hc : s.railExists c.val = true) :
    smapFind (keepSamples s (xs ++ [(c, v, i)])) c.val = some (v.toNat, i.toNat) := by
  rw [keepSamples, List.foldl_concat, keepSample, if_pos hc, smapFind_put_same]

theorem smapFind_keepSamples_ne {k : Nat} (h : ∀ x ∈ xs, x.1.val ≠ k) : smapFind (keepSamples s xs) k = smapFind s.pwr.telem k := by
  refine List.foldlRecOn (motive := fun m => smapFind m k = smapFind s.pwr.telem k) xs _ rfl fun m hm x hx => ?_
  rw [keepSample]
  split
  · rw [smapFind_put_ne _ _ (h x hx).symm, hm]
  · exact hm

end Samples

/-! The latched STATUS bits of a telemetry poll (R383). -/

/-- What running faults of PMIC rails that a latched bit alone shows leave of a state. -/
structure FailsMarked (s t : State) : Prop where
  pwr : t.pwr = s.pwr
  sys : t.sys = s.sys
  fld : ∀ g : Fld, g.addr ≠ PWR_RAIL_FAIL.addr → g.addr ≠ PWR_SEQ_STS_GLITCH.addr → t.fld g = s.fld g
  fails : ∀ k, s.bit PWR_RAIL_FAIL k = true → t.bit PWR_RAIL_FAIL k = true

theorem failsMarked_refl (s : State) : FailsMarked s s := ⟨rfl, rfl, fun _ _ _ => rfl, fun _ => id⟩

theorem failsMarked_trans {s t u : State} (h : FailsMarked s t) (k : FailsMarked t u) : FailsMarked s u :=
  ⟨k.pwr.trans h.pwr, k.sys.trans h.sys, fun g h1 h2 => (k.fld g h1 h2).trans (h.fld g h1 h2), fun i hi => k.fails i (h.fails i hi)⟩

theorem railGood_of_failsMarked {s t : State} (h : FailsMarked s t) (r : Nat) : t.railGood r = s.railGood r := by
  have hrails : SameRails s t := sameRails_of_fld fun g hg =>
    h.fld g (fun e => absurd (e ▸ hg : RailReg PWR_RAIL_FAIL.addr) (by decide)) fun e => absurd (e ▸ hg : RailReg PWR_SEQ_STS_GLITCH.addr) (by decide)
  exact hrails.good r

theorem setBit_changes_regs (s : State) (f : Fld) (i : Nat) (b : Bool) : s.setBit f i b = { s with regs := (s.setBit f i b).regs } :=
  (onlyFields_setBit (onlyFields_refl [f] s) i b (by simp)).1

/-- Outside shut-down a fault of a PMIC rail that a latched bit shows sets the rail's fail bit and is reported. -/
theorem railRunningFault_latched {s : State} {r : Nat} (hr : r < 16) (hm : s.sys.mode ≠ .shutDown) :
    s.railRunningFault r true = (s.setBit PWR_RAIL_FAIL r true).reportSev (if railPersist r then .critical else .fault)
      .railFault (railSource r) (railQual r + 256) 0 := by
  rw [State.railRunningFault, if_neg hm, if_pos rfl, State.setRailFail, if_pos hr, if_pos rfl]

theorem bit_railRunningFault_latched {s : State} {r : Nat} (hr : r < 16) (hm : s.sys.mode ≠ .shutDown) (k : Nat) :
    (s.railRunningFault r true).bit PWR_RAIL_FAIL k = (s.bit PWR_RAIL_FAIL k || decide (r = k)) := by
  rw [railRunningFault_latched hr hm, bit_of_fld (fld_reportSev ..), bit_setBit_true s (by decide) hr]

theorem failsMarked_railRunningFault (s : State) {r : Nat} (hr : r < 16) : FailsMarked s (s.railRunningFault r true) := by
  by_cases hm : s.sys.mode = .shutDown
  · rw [State.railRunningFault, if_pos hm]
    exact ⟨rfl, rfl, fun g _ hg => fld_setFld_ne _ _ (.inl hg), fun k hk => (bit_of_fld (fld_setFld_ne _ _ (.inl (by decide))) k).trans hk⟩
  · refine ⟨?_, ?_, fun g hg _ => ?_, fun k hk => by rw [bit_railRunningFault_latched hr hm, hk, Bool.true_or]⟩
    · rw [railRunningFault_latched hr hm, setBit_changes_regs]
      rfl
    · rw [railRunningFault_latched hr hm, setBit_changes_regs]
      rfl
    · rw [railRunningFault_latched hr hm, fld_reportSev, fld_setBit_ne _ _ _ hg]

/-- A latched bit on the channel of a rail. -/
def latchedFault (latched : BitVec 16) (s : State) (r : Nat) : State :=
  if latched.getLsbD r && s.railGood r then s.railRunningFault r true else s

theorem failsMarked_latchedFaults (latched : BitVec 16) (s : State) {rs : List Nat} (h : ∀ r ∈ rs, r < 16) :
    FailsMarked s (rs.foldl (latchedFault latched) s) := by
  refine List.foldlRecOn _ _ (failsMarked_refl s) fun u hu r hr => failsMarked_trans hu ?_
  rw [latchedFault]
  split
  · exact failsMarked_railRunningFault u (h r hr)
  · exact failsMarked_refl u

/-- The fail bit of a good rail whose bit is latched is set in its turn, and stays set. -/
theorem bit_latchedFaults {latched : BitVec 16} {s : State} {rs : List Nat} (h : ∀ r ∈ rs, r < 16) {k : Nat} (hk : k ∈ rs)
    (hl : latched.getLsbD k = true) (hg : s.railGood k = true) (hm : s.sys.mode ≠ .shutDown) :
    (rs.foldl (latchedFault latched) s).bit PWR_RAIL_FAIL k = true := by
  obtain ⟨before, after, rfl⟩ := List.append_of_mem hk
  have hb : FailsMarked s (before.foldl (latchedFault latched) s) := failsMarked_latchedFaults _ _ fun r hr => h r (by simp [hr])
  have hset : (latchedFault latched (before.foldl (latchedFault latched) s) k).bit PWR_RAIL_FAIL k = true := by
    rw [latchedFault, if_pos (by rw [hl, railGood_of_failsMarked hb, hg, Bool.true_and]),
      bit_railRunningFault_latched (h k hk) (hb.sys ▸ hm), decide_eq_true rfl, Bool.or_true]
  rw [List.foldl_append, List.foldl_cons]
  exact (failsMarked_latchedFaults _ _ fun r hr => h r (by simp [hr])).fails k hset

theorem latchedFaults_none (s : State) (rs : List Nat) : rs.foldl (latchedFault 0) s = s := by
  refine List.foldlRecOn (motive := fun u => u = s) rs _ rfl fun u hu r _ => ?_
  rw [latchedFault, if_neg (by simp), hu]

/-! A telemetry poll (R377, R378, R383). -/

/-- The marionettes of a set did not answer: they are marked and reported, and in power-up their rails are disarmed. -/
def transfersFailed (s : State) (out retries : Nat) : State :=
  let t := mbReports out (transfersMarked s (s.fld PWR_MB_STS_FAULTED ||| out) retries)
  if t.sys.mode = .powerUp then t.disarm out else t

/-- The rails that stay armed where the marionettes of a set did not answer. -/
def stillArmed (s : State) (out : Nat) : BitVec 16 := if s.sys.mode = .powerUp then (s.disarm out).pwr.armed else s.pwr.armed

theorem transfersFailed_eq (s : State) (out retries : Nat) :
    ∃ flt, transfersFailed s out retries =
      { transfersMarked s (s.fld PWR_MB_STS_FAULTED ||| out) retries with pwr := { s.pwr with armed := stillArmed s out }, flt := flt } := by
  obtain ⟨flt, h⟩ := mbReports_changes_flt out (transfersMarked s (s.fld PWR_MB_STS_FAULTED ||| out) retries)
  refine ⟨flt, ?_⟩
  unfold transfersFailed stillArmed
  generalize mbReports out _ = m at h ⊢
  have hrails : SameRails s m := sameRails_of_fld_ne (a := PWR_MB_STS_FAULTED.addr) (by decide) fun g hg =>
    (fld_of_regs (by rw [h]) g).trans (fld_transfersMarked_ne s _ retries hg)
  have harmed : (m.disarm out).pwr.armed = (s.disarm out).pwr.armed := armed_disarm_of_sameRails hrails (by rw [h]; rfl) out
  have hmode : m.sys.mode = s.sys.mode := by rw [h]; rfl
  dsimp only
  rw [hmode]
  split
  · calc m.disarm out = { m with pwr := { m.pwr with armed := (m.disarm out).pwr.armed } } := rfl
      _ = _ := by rw [harmed, h]; rfl
  · rw [h]
    rfl

/-- A poll before its latched bits are looked at. -/
def polled (s : State) (xs : Samples) (out retries : Nat) : State :=
  transfersFailed { s with pwr := { s.pwr with telem := keepSamples s xs } } out retries

section Polled

variable (s : State) (xs : Samples) (out retries : Nat)

theorem polled_eq : ∃ flt, polled s xs out retries =
    { transfersMarked s (s.fld PWR_MB_STS_FAULTED ||| out) retries with
      pwr := { s.pwr with telem := keepSamples s xs, armed := stillArmed s out }, flt := flt } :=
  transfersFailed_eq { s with pwr := { s.pwr with telem := keepSamples s xs } } out retries

theorem sys_polled : (polled s xs out retries).sys = s.sys := by
  obtain ⟨flt, h⟩ := polled_eq s xs out retries
  rw [h]
  rfl

theorem pwr_polled : (polled s xs out retries).pwr = { s.pwr with telem := keepSamples s xs, armed := stillArmed s out } := by
  obtain ⟨flt, h⟩ := polled_eq s xs out retries
  rw [h]

theorem fld_polled (g : Fld) : (polled s xs out retries).fld g = (transfersMarked s (s.fld PWR_MB_STS_FAULTED ||| out) retries).fld g := by
  obtain ⟨flt, h⟩ := polled_eq s xs out retries
  rw [h]
  rfl

theorem faulted_polled (h : out < 2 ^ 6) : (polled s xs out retries).fld PWR_MB_STS_FAULTED = s.fld PWR_MB_STS_FAULTED ||| out := by
  rw [fld_polled, faulted_transfersMarked _ _ _ (Nat.or_lt_two_pow (fld_lt s _) h)]

theorem railGood_polled (r : Nat) : (polled s xs out retries).railGood r = s.railGood r :=
  (sameRails_of_fld_ne (by decide) fun g hg => (fld_polled s xs out retries g).trans (fld_transfersMarked_ne s _ retries hg)).good r

theorem onlyFields_polled :
    let t := polled s xs out retries
    OnlyFields [PWR_MB_STS_FAULTED, PWR_MB_STS_RETRIES]
      { s with pwr := { s.pwr with telem := t.pwr.telem, armed := t.pwr.armed }, flt := t.flt } t := by
  obtain ⟨flt, h⟩ := polled_eq s xs out retries
  obtain ⟨h1, h2⟩ := onlyFields_transfersMarked s (s.fld PWR_MB_STS_FAULTED ||| out) retries
  rw [h]
  refine ⟨?_, h2⟩
  rw [h1]

end Polled

theorem execTelemetryPoll_idle {s : State} (h : s.sys.mode = .off ∨ (s.sys.mode = .powerUp ∧ s.pwr.mbEnv ≠ none) ∨ s.fld SPT_STS_SEQ = 7)
    (xs : Samples) (latched : BitVec 16) (bad : BitVec 6) (n : BitVec 16) :
    execTelemetryPoll xs latched bad n s = .next s := by
  rw [execTelemetryPoll, if_pos]
  simpa [or_assoc, Option.isSome_iff_ne_none] using h

theorem execTelemetryPoll_eq {s : State} (h1 : s.sys.mode ≠ .off) (h2 : s.sys.mode ≠ .powerUp ∨ s.pwr.mbEnv = none)
    (h3 : s.fld SPT_STS_SEQ ≠ 7) (xs : Samples) (latched : BitVec 16) (bad : BitVec 6) (n : BitVec 16) :
    execTelemetryPoll xs latched bad n s =
      .next ((List.range 16).foldl (latchedFault latched) (polled s xs (bad.toNat &&& s.fld PWR_MB_STS_PRESENT) n.toNat)) := by
  have hgo : ¬ (s.sys.mode = .off || (s.sys.mode = .powerUp && s.pwr.mbEnv.isSome) || decide (s.fld SPT_STS_SEQ = 7)) = true := by
    rcases h2 with h2 | h2 <;> simp [h1, h2, h3]
  unfold execTelemetryPoll
  rw [if_neg hgo, foldl_samples_changes_telem]
  rfl

/-- What a poll leaves whose last sample is of a rail that exists (R377, R378, R383). -/
theorem poll_outcome {s : State} {xs : Samples} {c : Fin 16} {v i latched : BitVec 16} {out retries : Nat}
    (hout : out < 2 ^ 6) (hc : s.railExists c.val = true) :
    let t := (List.range 16).foldl (latchedFault latched) (polled s (xs ++ [(c, v, i)]) out retries)
    smapFind t.pwr.telem c.val = some (v.toNat, i.toNat) ∧ t.fld PWR_MB_STS_FAULTED = s.fld PWR_MB_STS_FAULTED ||| out ∧
    (∀ k, (∀ x ∈ xs, x.1.val ≠ k) → k ≠ c.val → smapFind t.pwr.telem k = smapFind s.pwr.telem k) ∧
    (∀ k < 16, latched.getLsbD k = true → s.railGood k = true → s.sys.mode ≠ .shutDown → t.bit PWR_RAIL_FAIL k = true) ∧
    t.pwr.armed = stillArmed s out ∧
    (latched = 0 → OnlyFields [PWR_MB_STS_FAULTED, PWR_MB_STS_RETRIES]
      { s with pwr := { s.pwr with telem := t.pwr.telem, armed := t.pwr.armed }, flt := t.flt } t) := by
  intro t
  have hmarked : FailsMarked (polled s (xs ++ [(c, v, i)]) out retries) t := failsMarked_latchedFaults _ _ fun _ => List.mem_range.1
  have hpwr : t.pwr = { s.pwr with telem := keepSamples s (xs ++ [(c, v, i)]), armed := stillArmed s out } := hmarked.pwr.trans (pwr_polled ..)
  refine ⟨?_, ?_, fun k hxs hk => ?_, fun k hk hl hg hm => ?_, by rw [hpwr], ?_⟩
  · rw [hpwr]
    exact smapFind_keepSamples_last hc
  · rw [hmarked.fld _ (by decide) (by decide), faulted_polled _ _ _ _ hout]
  · rw [hpwr]
    refine smapFind_keepSamples_ne fun x hx => ?_
    rcases List.mem_append.1 hx with hx | hx
    · exact hxs x hx
    · rw [List.mem_singleton.1 hx]
      exact hk.symm
  · exact bit_latchedFaults (fun _ => List.mem_range.1) (List.mem_range.2 hk) hl ((railGood_polled ..).trans hg) ((sys_polled ..).symm ▸ hm)
  · rintro rfl
    have ht : t = polled s (xs ++ [(c, v, i)]) out retries := latchedFaults_none _ _
    rw [ht]
    exact onlyFields_polled ..

/-! The second of RSTO_PMIC_n and RSTO_PACK_n to rise (R376, R377, R379 step 5). -/

/-- The rails whose marionette answers step 5. -/
def answeringRails (s : State) (bad : BitVec 6) : BitVec 16 :=
  (List.range 16).foldl (fun acc r => if s.railExists r && !bad.getLsbD (s.fld (PWR_RAIL_CFG_MB r)) then acc ||| (1#16 <<< r) else acc) 0

/-- Step 5 before the enables of stage 0 rise: the marionettes were addressed, those of a set did not answer, and the rails of the others are armed. -/
structure Addressed (s : State) (bad : BitVec 6) (t : State) : Prop where
  sys : t.sys = s.sys
  dram : t.dram = s.dram
  env : t.pwr.mbEnv = none
  en : t.pwr.en = s.pwr.en
  armed : t.pwr.armed = answeringRails s bad
  faulted : t.fld PWR_MB_STS_FAULTED = bad.toNat
  fld : ∀ g : Fld, g.addr ≠ PWR_MB_STS_FAULTED.addr → t.fld g = s.fld g

/-- Every marionette has been addressed, and those of a set did not answer. -/
def answered (s : State) (bad : BitVec 6) (present retries : Nat) : State :=
  mbReports bad.toNat (transfersMarked (({ s with pwr := { s.pwr with mbEnv := none } } : State).setFld PWR_MB_STS_PRESENT present) bad.toNat retries)

theorem fld_answered_ne (s : State) (bad : BitVec 6) (present retries : Nat) {g : Fld} (hg : g.addr ≠ PWR_MB_STS_FAULTED.addr) :
    (answered s bad present retries).fld g = s.fld g := by
  rw [answered, fld_mbReports, fld_transfersMarked_ne _ _ _ hg, fld_setFld_ne (f := PWR_MB_STS_PRESENT) _ _ (.inl hg)]
  rfl

theorem sys_answered (s : State) (bad : BitVec 6) (present retries : Nat) : (answered s bad present retries).sys = s.sys := by
  rw [answered, sys_mbReports]
  rfl

theorem dram_answered (s : State) (bad : BitVec 6) (present retries : Nat) : (answered s bad present retries).dram = s.dram := by
  rw [answered, dram_mbReports]
  rfl

theorem pwr_answered (s : State) (bad : BitVec 6) (present retries : Nat) :
    (answered s bad present retries).pwr = { s.pwr with mbEnv := none } := by
  rw [answered, pwr_mbReports]
  rfl

/-- The rails' settings are sent, and the rails of the marionettes that answered are armed. -/
def settingsSent (s : State) (bad : BitVec 6) : State :=
  { s.mbBatch with pwr := { s.mbBatch.pwr with armed := answeringRails s bad } }

theorem answeringRails_of_sameRails {s t : State} (h : SameRails s t) (bad : BitVec 6) : answeringRails t bad = answeringRails s bad := by
  simp only [answeringRails, h.ex, h.mb]

theorem getLsbD_answeringRails (s : State) (bad : BitVec 6) {k : Nat} (hk : k < 16) :
    (answeringRails s bad).getLsbD k = (s.railExists k && !bad.toNat.testBit (s.fld (PWR_RAIL_CFG_MB k))) := by
  rw [answeringRails, getLsbD_foldl_or _ _ _ hk, decide_eq_true hk, Bool.true_and]
  rfl

theorem addressed_answered (s : State) (bad : BitVec 6) (present retries : Nat) :
    Addressed s bad (settingsSent (answered s bad present retries) bad) := by
  have hsys := sys_answered s bad present retries
  have hdram := dram_answered s bad present retries
  have hpwr := pwr_answered s bad present retries
  have hfaulted : (answered s bad present retries).fld PWR_MB_STS_FAULTED = bad.toNat := by
    rw [answered, fld_mbReports, faulted_transfersMarked _ bad.toNat retries bad.isLt]
  have hfld (g : Fld) (hg : g.addr ≠ PWR_MB_STS_FAULTED.addr) : (answered s bad present retries).fld g = s.fld g :=
    fld_answered_ne s bad present retries hg
  generalize answered s bad present retries = t at hsys hdram hpwr hfaulted hfld ⊢
  have henv : t.pwr.mbEnv = none := by rw [hpwr]
  have hen : t.pwr.en = s.pwr.en := by rw [hpwr]
  exact ⟨hsys, hdram, henv, hen, answeringRails_of_sameRails (sameRails_of_fld_ne (by decide) hfld) bad, hfaulted, hfld⟩

/-- The mode has a step 5 of Table 13-6, and it is still to come. -/
abbrev FiveToCome (s : State) : Prop := (s.sys.mode = .powerUp ∨ s.sys.mode = .keeper) ∧ s.pwr.mbEnv ≠ none

/-- Step 5 takes place: it is still to come, and both reset outputs are high. -/
def StepFiveDue (s : State) : Prop := FiveToCome s ∧ s.flag PWR_RSTO_PMIC_LOW = false ∧ s.flag PWR_RSTO_PACK_LOW = false

theorem stepFive_of_not_due {s : State} (h : ¬ StepFiveDue s) : s.stepFive = s := by
  unfold State.stepFive
  split
  · rfl
  · rename_i hb
    rw [if_pos]
    by_contra hc
    exact h (by simpa [StepFiveDue, State.inMode, hb, and_assoc, or_iff_not_imp_left] using hc)

theorem stepFive_of_due {s : State} (h : StepFiveDue s) : ∃ bad t, s.stepFive = t.raiseStage 0 ∧ Addressed s bad t := by
  obtain ⟨⟨hm, he⟩, h1, h2⟩ := h
  obtain ⟨⟨mbBad, retries⟩, hb⟩ := Option.ne_none_iff_exists'.1 he
  have hgo : ¬ (!s.inMode [.powerUp, .keeper] || s.flag PWR_RSTO_PMIC_LOW || s.flag PWR_RSTO_PACK_LOW) = true := by
    rcases hm with hm | hm <;> simp [State.inMode, hm, h1, h2]
  unfold State.stepFive
  rw [hb]
  dsimp only
  rw [if_neg hgo]
  exact ⟨_, settingsSent (answered s _ _ _) _, rfl, addressed_answered ..⟩

/-! The first stage is raised (R380). -/

theorem fld_raiseStage_ne (s : State) (st : Nat) {g : Fld} (h : g.addr ≠ PWR_SEQ_STS_STAGE.addr) : (s.raiseStage st).fld g = s.fld g := by
  rw [State.raiseStage, fld_setFld_ne _ _ (.inl h), fld_setFld_ne (f := PWR_SEQ_STS_STATE) _ _ (.inl h)]
  rfl

theorem seqState_raiseStage (s : State) (st : Nat) : (s.raiseStage st).fld PWR_SEQ_STS_STATE = 1 := by
  rw [State.raiseStage, fld_setFld_ne _ _ (by decide), fld_setFld_same _ _ (by decide)]
  rfl

theorem seqStage_raiseStage (s : State) (st : Nat) : (s.raiseStage st).fld PWR_SEQ_STS_STAGE = st % 2 ^ 4 := by
  rw [State.raiseStage, fld_setFld_same _ _ (by decide)]
  rfl

/-- Step 5 has taken place: both reset outputs are high, the rails of the marionettes that answered are armed, and the enables of stage 0 are raised. -/
def StageZeroUp (s t : State) : Prop :=
  t.flag PWR_RSTO_PMIC_LOW = false ∧ t.flag PWR_RSTO_PACK_LOW = false ∧ t.pwr.mbEnv = none ∧ t.fld PWR_SEQ_STS_STATE = 1 ∧
    t.fld PWR_SEQ_STS_STAGE = 0 ∧ t.pwr.en = s.pwr.en ||| s.stageRails 0 ∧ t.sys = s.sys ∧ t.dram = s.dram ∧
    (∀ k < 16, t.pwr.armed.getLsbD k = (s.railExists k && !(t.fld PWR_MB_STS_FAULTED).testBit (s.fld (PWR_RAIL_CFG_MB k))))

theorem stageZeroUp_stepFive {s : State} (h : StepFiveDue s) : StageZeroUp s s.stepFive := by
  obtain ⟨bad, t, hstep, ht⟩ := stepFive_of_due h
  obtain ⟨-, hpmic, hpack⟩ := h
  have hfld (g : Fld) (h1 : g.addr ≠ PWR_SEQ_STS_STAGE.addr) (h2 : g.addr ≠ PWR_MB_STS_FAULTED.addr) :
      s.stepFive.fld g = s.fld g := by rw [hstep, fld_raiseStage_ne _ _ h1, ht.fld g h2]
  have hfaulted : s.stepFive.fld PWR_MB_STS_FAULTED = bad.toNat := by rw [hstep, fld_raiseStage_ne _ _ (by decide), ht.faulted]
  have hrails : SameRails s t := sameRails_of_fld_ne (by decide) ht.fld
  refine ⟨?_, ?_, ?_, ?_, ?_, ?_, ?_, ?_, fun k hk => ?_⟩
  · rw [← hpmic, State.flag, State.flag, hfld _ (by decide) (by decide)]
  · rw [← hpack, State.flag, State.flag, hfld _ (by decide) (by decide)]
  · rw [hstep]
    exact ht.env
  · rw [hstep, seqState_raiseStage]
  · exact hstep ▸ seqStage_raiseStage t 0
  · rw [hstep, ← ht.en, ← stageRails_of_sameRails hrails]
    rfl
  · rw [hstep]
    exact ht.sys
  · rw [hstep]
    exact ht.dram
  · rw [hfaulted, ← getLsbD_answeringRails s bad hk, ← ht.armed, hstep]
    rfl

/-- The rise of an output is no part of what step 5 is measured against. -/
theorem stageZeroUp_of_setFlag {s t : State} {f : Fld} {b : Bool} (hf : ¬ RailReg f.addr) (h : StageZeroUp (s.setFlag f b) t) : StageZeroUp s t := by
  have hrails := sameRails_setFlag s b hf
  simpa only [StageZeroUp, pwr_setFlag, sys_setFlag, dram_setFlag, stageRails_of_sameRails hrails, hrails.ex, hrails.mb] using h

/-! The rise of a reset output (R390, Table 13-8). -/

theorem stepFiveDue_pmic (s : State) :
    StepFiveDue (s.setFlag PWR_RSTO_PMIC_LOW false) ↔ FiveToCome s ∧ s.flag PWR_RSTO_PACK_LOW = false := by
  rw [StepFiveDue, flag_setFlag_same s _ rfl (by decide), flag_setFlag_ne s _ (by decide)]
  simp [FiveToCome]

theorem stepFiveDue_pack (s : State) :
    StepFiveDue (s.setFlag PWR_RSTO_PACK_LOW false) ↔ FiveToCome s ∧ s.flag PWR_RSTO_PMIC_LOW = false := by
  rw [StepFiveDue, flag_setFlag_same s _ rfl (by decide), flag_setFlag_ne s _ (by decide)]
  simp [FiveToCome]

/-- One of the two outputs that step 5 waits for rises: alone, or as the second of them, with the other's LOW bit `g` clear. -/
theorem answers_firstOrSecondRise {s : State} {p : ResetPin} {f g : Fld} (hf : ¬ RailReg f.addr)
    (hexec : execResetOutputRise p s = .next (s.setFlag f false).stepFive)
    (hdue : StepFiveDue (s.setFlag f false) ↔ FiveToCome s ∧ s.flag g = false) :
    (s.flag g = true ∨ ¬ FiveToCome s → Answers (.resetOutputRise p) s (fun t => t = s.setFlag f false)) ∧
    (s.flag g = false → FiveToCome s → Answers (.resetOutputRise p) s (StageZeroUp s)) := by
  refine ⟨fun h => answers_of hexec (stepFive_of_not_due ?_), fun hl h5 =>
    answers_of hexec (stageZeroUp_of_setFlag hf (stageZeroUp_stepFive (hdue.2 ⟨h5, hl⟩)))⟩
  rw [hdue]
  rintro ⟨h5, hl⟩
  exact h.elim (by simp [hl]) (absurd h5)

/-- The sequence that RSTO_AUX_n waits for is under way. -/
abbrev AuxWaits (s : State) : Prop :=
  s.sys.mode = .shutDown ∨ ((s.sys.mode = .powerUp ∨ s.sys.mode = .rebound ∨ s.sys.mode = .keeper) ∧ s.fld PWR_SEQ_STS_STATE ≠ 2)

theorem execResetOutputRise_held {s : State} (h : s.sys.mode = .off ∨ s.gatesSet = false) (p : ResetPin) :
    execResetOutputRise p s = .next s := by
  unfold execResetOutputRise
  rw [if_pos (by simpa using h)]

section Rise

variable {s : State} (hm : s.sys.mode ≠ .off) (hg : s.gatesSet = true)
include hm hg

theorem execResetOutputRise_pmic : execResetOutputRise .pmic s = .next (s.setFlag PWR_RSTO_PMIC_LOW false).stepFive := by
  rw [execResetOutputRise, if_neg (by simp [hm, hg])]

theorem execResetOutputRise_pack : execResetOutputRise .pack s = .next (s.setFlag PWR_RSTO_PACK_LOW false).stepFive := by
  rw [execResetOutputRise, if_neg (by simp [hm, hg])]

theorem execResetOutputRise_aux :
    execResetOutputRise .aux s = if AuxWaits s then .next s else .next (s.setFlag PWR_RSTO_AUX_LOW false) := by
  have hc : (s.sys.mode = .shutDown || (s.inMode [.powerUp, .rebound, .keeper] && s.fld PWR_SEQ_STS_STATE ≠ 2)) = true ↔ AuxWaits s := by
    simp [AuxWaits, State.inMode]
  rw [execResetOutputRise, if_neg (by simp [hm, hg])]
  exact if_congr hc rfl rfl

end Rise

/-! A domain's check fails (R398). -/

/-- A domain whose check has failed: its bit is set and the failure is reported. -/
def domainFailed (s : State) (d : Fin 148) : State :=
  let t := s.setBit (DOM_FLT (d.val / 32)) (d.val % 32) true
  ({ t with flt := { t.flt with domBad := d.val :: t.flt.domBad } } : State).report .domainFault d.val d.val 0

theorem execDomainFault_on {s : State} (h : s.sys.mode ≠ .off) (d : Fin 148) : execDomainFault d s = .next (domainFailed s d) := if_neg h

section DomainFailed

variable (s : State) (d : Fin 148)

theorem bit_domainFailed (i : Nat) :
    (domainFailed s d).bit (DOM_FLT (d.val / 32)) i = (s.bit (DOM_FLT (d.val / 32)) i || decide (d.val % 32 = i)) := by
  have hregs : (domainFailed s d).regs = (s.setBit (DOM_FLT (d.val / 32)) (d.val % 32) true).regs := rfl
  have hlt : d.val % 32 < 32 := Nat.mod_lt _ (by decide)
  rw [bit_of_fld (fld_of_regs hregs _), bit_setBit_true (f := DOM_FLT (d.val / 32)) s (Nat.le_refl 32) hlt]

theorem inflight_domainFailed : (domainFailed s d).flt.inflight = (s.report .domainFault d.val d.val 0).flt.inflight := by
  rw [domainFailed, setBit_changes_regs]
  rfl

theorem onlyFields_domainFailed : OnlyFields [DOM_FLT (d.val / 32)] { s with flt := (domainFailed s d).flt } (domainFailed s d) := by
  obtain ⟨h1, h2⟩ := onlyFields_setBit (onlyFields_refl [DOM_FLT (d.val / 32)] s) (d.val % 32) true (List.mem_singleton_self _)
  refine ⟨?_, h2⟩
  rw [domainFailed, h1]
  rfl

end DomainFailed

/-- Settles O36: each command's meaning is one of the states above, and their lemmas give the clauses. -/
theorem telemetryAndResets : Obligations.TelemetryAndResets := by
  intro s
  refine ⟨fun xs c v i latched n bad => ⟨fun h => answers_of (execTelemetryPoll_idle h ..) rfl, fun h1 h2 h3 hc => ?_⟩,
    fun p h => answers_of (execResetOutputRise_held h p) rfl, fun hm hg => ?_,
    fun d => ⟨fun hm => answers_of (i := .domainFault d) (if_pos hm) rfl, fun hm => ?_⟩⟩
  · have hout : bad.toNat &&& s.fld PWR_MB_STS_PRESENT < 2 ^ 6 := Nat.and_lt_two_pow _ (fld_lt s _)
    exact answers_of (execTelemetryPoll_eq h1 h2 h3 ..) (poll_outcome hout hc)
  · obtain ⟨hpmic, hpmicUp⟩ := answers_firstOrSecondRise (by decide) (execResetOutputRise_pmic hm hg) (stepFiveDue_pmic s)
    obtain ⟨hpack, hpackUp⟩ := answers_firstOrSecondRise (by decide) (execResetOutputRise_pack hm hg) (stepFiveDue_pack s)
    have haux := execResetOutputRise_aux hm hg
    exact ⟨hpmic, hpack, hpmicUp, hpackUp, fun hw => answers_of (haux.trans (if_pos hw)) rfl,
      fun hw => answers_of (haux.trans (if_neg hw)) rfl⟩
  · refine answers_of (execDomainFault_on hm d) ⟨?_, inflight_domainFailed s d, fun i hi => ?_, onlyFields_domainFailed s d⟩
    · rw [bit_domainFailed, decide_eq_true rfl, Bool.or_true]
    · rw [bit_domainFailed, decide_eq_false (Ne.symm hi), Bool.or_false]

end Sys2Proof.Proofs

/-! PROOF. What every command and every tick keeps: the queue, the invariant, and that only the release of the power-on reset enters power-up. -/

namespace Sys2Proof.Proofs
open Sys2Proof Sys2Proof.Machine Sys2Proof.Machine.Reg Sys2Proof.Laws

/-- What a command answers is a next state, and it leaves the queue and the invariant as `Keeps` says. -/
def Runs (s : State) (o : Host.Outcome State Fault Refusal) : Prop := ∃ t, o = .next t ∧ Keeps s t

theorem runs_next {s t : State} (h : Keeps s t) : Runs s (.next t) := ⟨t, rfl, h⟩

theorem runs_forward {s : State} (c : CaCmd) {k : State → State} (hk : ∀ u, Keeps s u → Keeps s (k u)) (h : Keeps s s) :
    Runs s (s.forward c k) := ⟨_, rfl, keeps_forward c hk h _ rfl⟩

theorem runs_forward_id (s : State) (c : CaCmd) : Runs s (s.forward c id) := runs_forward c (fun _ h => h) (keeps_refl s)

theorem runs_trainCw {s : State} (m : TrainMode) (index : Nat) (c : CaCmd) (v : Byte) (h : Keeps s s) :
    Runs s (s.trainCw m index c v) := ⟨_, rfl, keeps_trainCw m index c v h _ rfl⟩

/-! What a restore puts into the DRAM is in canonical form. -/

theorem smapWf_setAll {α : Type} [DecidableEq α] {d : Nat → α} (l m : SMap α) (h : smapWf d m = true) :
    smapWf d (l.foldl (fun m e => smapSet d m e.1 e.2) m) = true :=
  List.foldlRecOn (motive := fun m => smapWf d m = true) l _ h fun _ hm e _ => smapWf_set e.1 e.2 hm

theorem smapWf_restoredLines (gs : List (SMap (LineData × CheckBytes))) : smapWf (fun _ => (0, 0)) (restoredLines gs) = true :=
  List.foldlRecOn (motive := fun m => smapWf (fun _ => (0, 0)) m = true) gs _ rfl fun _ hm g _ => smapWf_setAll g _ hm

theorem keeps_dram {z s : State} {lines : SMap (LineData × CheckBytes)} (per : Per) (hw : smapWf (fun _ => (0, 0)) lines = true) (h : Keeps z s) :
    Keeps z { s with dram := ⟨lines⟩, per := per } := by
  refine keeps_trans h ⟨rfl, id, fun hi => ?_⟩
  obtain ⟨hregs, -, hphase⟩ := hi
  exact ⟨hregs, hw, hphase⟩

theorem runs_restoreDone (bad : List (Word × BitVec 17)) (s : State) : Runs s (execRestoreDone bad s) := by
  unfold execRestoreDone
  split
  · exact runs_next (keeps_refl s)
  · refine runs_next (keeps_enterService (keeps_giveDram (keeps_lodgeBad _ ?_)))
    refine keeps_setFld _ _ (keeps_setFld _ _ (keeps_setFlag _ _ (keeps_note _ _ _ ?_)))
    with_reducible apply keeps_lit
    have hsheaves := keeps_restoreSheaves bad 1 s.per.cmap.kv (keeps_restoreSheaves bad 0 s.per.smap.kv (keeps_refl s))
    have hshown := fun per gs n m i => keeps_showImage i (keeps_setFld SAV_RST_LOST n (keeps_setFld SAV_RST_DONE m
      (keeps_dram per (smapWf_restoredLines gs) hsheaves)))
    split
    · exact keeps_setAllDirty _ (hshown ..)
    · exact hshown ..

theorem runs_gleanEarProgrammed (slot : Nat) (ear : Fin 17) (s : State) : Runs s (execGleanEarProgrammed slot ear s) := by
  have hs := keeps_refl s
  unfold execGleanEarProgrammed
  split
  · exact runs_next hs
  · split
    · exact runs_next hs
    · dsimp only
      split
      · exact runs_next hs
      · rename_i hpos
        refine runs_next (keeps_handOver (keeps_landed _ (keeps_putSlot _ ?_)))
        split at hpos
        · cases hpos
          exact hs
        · exact keeps_takeGlean_pair hpos hs

/-- The commands of the host port. -/
def hostPortCommand (i : Instr) : Bool :=
  match i with
  | .hostWrite .. | .hostWritePattern .. | .hostRead .. | .hostAct .. | .hostPrecharge .. | .hostRefresh .. | .hostRfm .. | .hostMpc ..
  | .hostMrw .. | .hostMrr .. | .hostPowerDown .. | .selfRefreshEntry .. | .selfRefreshExit .. | .hostResetAssert | .hostResetDeassert
  | .alertPulseEnd | .parityBlockLong .. | .dramAlert .. | .cwParityConfig .. | .cwCaLatency .. | .cwAlertWidth .. | .cwEndParityBlock ..
  | .cwIgnored .. | .laneFault .. | .loopbackStart | .loopbackEnd .. | .hbpCtlWrite .. | .parErrClear .. | .caTrainingMode ..
  | .csTrainingMode .. | .readEnableMode .. | .writeLevelingMode .. | .readDqMode .. | .writeDqMode .. | .hostTrainingModeExit ..
  | .hostTrainingSample .. => true
  | _ => false

theorem runs_hostPort {i : Instr} (hi : hostPortCommand i = true) (s : State) : Runs s (exec i s) := by
  have hs := keeps_refl s
  cases i with
  | hostWrite | hostWritePattern | hostRead | hostAct | hostPrecharge | hostRefresh | hostRfm | hostMpc | hostMrw | hostMrr | hostPowerDown
  | selfRefreshEntry | selfRefreshExit | hostResetAssert | hostResetDeassert | alertPulseEnd | parityBlockLong | dramAlert | cwParityConfig
  | cwCaLatency | cwAlertWidth | cwEndParityBlock | cwIgnored | laneFault | loopbackStart | loopbackEnd | hbpCtlWrite | parErrClear
  | caTrainingMode | csTrainingMode | readEnableMode | writeLevelingMode | readDqMode | writeDqMode | hostTrainingModeExit
  | hostTrainingSample =>
    simp only [exec, execHostWrite, execHostWritePattern, execHostRead, execHostAct, execHostPrecharge, execHostRefresh, execHostRfm, execHostMpc,
      execHostMrw, execHostMrr, execHostPowerDown, execSelfRefreshEntry, execSelfRefreshExit, execHostResetAssert, execHostResetDeassert,
      execAlertPulseEnd, execParityBlockLong, execDramAlert, execCwParityConfig, execCwCaLatency, execCwAlertWidth, execCwEndParityBlock,
      execCwIgnored, execLaneFault, execLoopbackStart, execLoopbackEnd, execHbpCtlWrite, execParErrClear, execCaTrainingMode,
      execCsTrainingMode, execReadEnableMode, execWriteLevelingMode, execReadDqMode, execWriteDqMode, execHostTrainingModeExit,
      execHostTrainingSample]
    with_reducible repeat' first
      | assumption | refine keeps_hostGate_pair (by assumption) ?_ | apply keeps_applyCaLat | apply keeps_autoPre | apply keeps_bump
      | apply keeps_clockBack | apply keeps_closeRow | apply keeps_countHostAct | apply keeps_dramReset | apply keeps_driveOut
      | apply keeps_emit | refine keeps_enterMode _ (by decide) ?_ | apply keeps_flagIncomplete | apply runs_forward_id
      | refine runs_forward _ (fun u hu => ?_) ?_ | apply keeps_harvestHandback | apply keeps_hbpReset | apply keeps_hostGate
      | apply keeps_laneJudge | apply keeps_learnStop | apply keeps_learnerTap | apply keeps_loopAbort | apply keeps_lullEntry
      | apply keeps_lullExit | apply keeps_note | apply keeps_oddLength | apply keeps_rankExit | apply keeps_report
      | apply keeps_resetHandback | apply keeps_resetSaves | apply keeps_resetStaging | apply keeps_ringsReset | apply keeps_setAllDirty
      | apply keeps_setBlock | apply keeps_setFlag | apply keeps_setFld | apply keeps_setLine | apply keeps_setParErr | apply keeps_setPhase
      | apply keeps_stampNext | apply keeps_statusLost | apply keeps_storeReg | apply keeps_threshPause | apply runs_trainCw
      | apply keeps_trainHalt | apply keeps_trainLeave | apply keeps_trainOrWait | apply keeps_trainRead | apply keeps_trainWrite
      | apply keeps_writeNoRow | apply keeps_writeTaps | apply runs_next | refine keeps_foldl (fun u x hu => ?_) ?_
      | refine keeps_foldl_fst (fun u x hu => ?_) ?_ | refine keeps_foldl_snd (fun u x hu => ?_) ?_ | split
      | fail_if_no_progress (apply keeps_lit) | fail_if_no_progress (apply keeps_sys)
  | _ => cases hi

/-- The commands of the power supervisor. -/
def powerCommand (i : Instr) : Bool :=
  match i with
  | .startTimerExpiry | .vaonFall | .feedAGood | .feedAGoodLost | .feedALowTrigger | .feedAOv | .feedBLow | .feedBOv | .feedBOvRecovery
  | .supplyLost | .saveNAsserted | .railDischarged .. | .dischargeStuck .. | .gateBOffDelay | .reboundStageRetry | .railGood ..
  | .railNoStart .. | .railChatter .. | .railFault .. | .railGlitch .. | .railRetryTry .. | .telemetryPoll .. | .resetOutputRise ..
  | .domainFault .. | .bootTest .. | .capTestPeriodic .. | .packCharged .. | .capTestSettled .. | .capTestV1Sample .. | .capTestV2Sample ..
  | .voltageTest .. | .cValidExpiry => true
  | _ => false

theorem runs_power {i : Instr} (hi : powerCommand i = true) (s : State) : Runs s (exec i s) := by
  have hs := keeps_refl s
  cases i with
  | startTimerExpiry | vaonFall | feedAGood | feedAGoodLost | feedALowTrigger | feedAOv | feedBLow | feedBOv | feedBOvRecovery | supplyLost
  | saveNAsserted | railDischarged | dischargeStuck | gateBOffDelay | reboundStageRetry | railGood | railNoStart | railChatter | railFault
  | railGlitch | railRetryTry | telemetryPoll | resetOutputRise | domainFault | bootTest | capTestPeriodic | packCharged | capTestSettled
  | capTestV1Sample | capTestV2Sample | voltageTest | cValidExpiry =>
    simp only [exec, execStartTimerExpiry, execVaonFall, execFeedAGood, execFeedAGoodLost, execFeedALowTrigger, execFeedAOv, execFeedBLow, execFeedBOv,
      execFeedBOvRecovery, execSupplyLost, execSaveNAsserted, execRailDischarged, execDischargeStuck, execGateBOffDelay,
      execReboundStageRetry, execRailGood, execRailNoStart, execRailChatter, execRailFault, execRailGlitch, execRailRetryTry,
      execTelemetryPoll, execResetOutputRise, execDomainFault, execBootTest, execCapTestPeriodic, execPackCharged, execCapTestSettled,
      execCapTestV1Sample, execCapTestV2Sample, execVoltageTest, execCValidExpiry]
    with_reducible repeat' first
      | assumption | apply keeps_bump | apply keeps_clearCValid | apply keeps_coldReset | apply keeps_disarm | apply keeps_domain0Reset
      | apply keeps_emit | apply keeps_enterOff | apply keeps_feedBIn | apply keeps_gateBOn | apply keeps_packRecheck
      | apply keeps_packTestEnd | apply keeps_packTestFail | apply keeps_packTestStart | apply keeps_partialBurn | apply keeps_periodicStart
      | apply keeps_powerUpSteps | apply keeps_railDown | apply keeps_railNoStart | apply keeps_railRetryOk | apply keeps_railRunningFault
      | apply keeps_raiseRail | apply keeps_raiseStage | apply keeps_reboundEntry | apply keeps_reboundReady | apply keeps_report
      | apply keeps_resequence | apply keeps_seqAdvance | apply keeps_setBit | apply keeps_setFlag | apply keeps_setFld
      | refine keeps_setMode _ (by decide) ?_ | apply keeps_setRailGood | apply keeps_stepFive | apply keeps_storeEnergy
      | apply keeps_storePackSample | apply keeps_supplyLost | apply keeps_trigger | apply runs_next
      | refine keeps_foldl (fun u x hu => ?_) ?_ | refine keeps_foldl_fst (fun u x hu => ?_) ?_
      | refine keeps_foldl_snd (fun u x hu => ?_) ?_ | split | fail_if_no_progress (apply keeps_lit)
  | _ => cases hi

/-- The commands of the sideband, the register paths and the test access port. -/
def pathsCommand (i : Instr) : Bool :=
  match i with
  | .sbPrivateWrite .. | .sbPrivateRead .. | .loRegisterRead .. | .registerWrite .. | .ptabBurn .. | .entdaa .. | .setdasa ..
  | .setnewda .. | .rstdaa | .getpid | .getbcr | .getdcr | .getstatus | .getmwl | .getmrl | .setmwl .. | .setmrl .. | .bypass | .idcode
  | .samplePreload .. | .extest => true
  | _ => false

theorem runs_paths {i : Instr} (hi : pathsCommand i = true) (s : State) : Runs s (exec i s) := by
  have hs := keeps_refl s
  cases i with
  | sbPrivateWrite | sbPrivateRead | loRegisterRead | registerWrite | ptabBurn | entdaa | setdasa | setnewda | rstdaa | getpid | getbcr
  | getdcr | getstatus | getmwl | getmrl | setmwl | setmrl | bypass | idcode | samplePreload | extest =>
    simp only [exec, execSbPrivateWrite, execSbPrivateRead, execLoRegisterRead, execRegisterWrite, execPtabBurn, execEntdaa, execSetdasa, execSetnewda,
      execRstdaa, execGetpid, execGetbcr, execGetdcr, execGetstatus, execGetmwl, execGetmrl, execSetmwl, execSetmrl, execBypass,
      execIdcode, execSamplePreload, execExtest]
    with_reducible repeat' first
      | assumption | apply keeps_bump | apply keeps_burn | apply keeps_cccGet | apply keeps_coreRead | apply keeps_coreRefused
      | apply keeps_sbAddress | apply keeps_sbEnd | apply keeps_sbReadWord | apply keeps_sbReadWords | apply keeps_sbWriteWord
      | apply keeps_sbWriteWords | apply keeps_writeReg | apply runs_next | refine keeps_foldl (fun u x hu => ?_) ?_
      | refine keeps_foldl_fst (fun u x hu => ?_) ?_ | refine keeps_foldl_snd (fun u x hu => ?_) ?_ | split
      | fail_if_no_progress (apply keeps_lit)
  | _ => cases hi

/-- The commands of the attach, save and restore flow. -/
def flowCommand (i : Instr) : Bool :=
  match i with
  | .dramHandoverToBdc | .imageAnchored | .firstKiteGrant .. | .handover | .restoreDone .. | .discEnd | .pllLock .. | .hostClockLossTimeout
  | .fceFence .. | .paceWindowEnd .. | .ledgerCommit | .saveSheafConfirmed | .secondAnchorConfirmed | .threshStart | .threshCopiesDone
  | .dramTrainingDone .. => true
  | _ => false

theorem runs_flow {i : Instr} (hi : flowCommand i = true) (s : State) : Runs s (exec i s) := by
  have hs := keeps_refl s
  cases i with
  | dramHandoverToBdc | imageAnchored | firstKiteGrant | handover | discEnd | pllLock | hostClockLossTimeout | fceFence | paceWindowEnd
  | ledgerCommit | saveSheafConfirmed | secondAnchorConfirmed | threshStart | threshCopiesDone | dramTrainingDone =>
    simp only [exec, execDramHandoverToBdc, execImageAnchored, execFirstKiteGrant, execHandover, execDiscEnd, execPllLock, execHostClockLossTimeout,
      execFceFence, execPaceWindowEnd, execLedgerCommit, execSaveSheafConfirmed, execSecondAnchorConfirmed, execThreshStart, execThreshCopiesDone,
      execDramTrainingDone]
    with_reducible repeat' first
      | assumption | apply keeps_anchorPos_snd | refine keeps_mkImage_pair (by assumption) ?_ | apply keeps_takeSeq_snd
      | refine keeps_threshIndex_pair (by assumption) ?_ | refine keeps_anchorPos (by assumption) ?_ | apply keeps_anchorRails
      | apply keeps_applyImage | apply keeps_areaBack | apply keeps_bump | apply keeps_channelsReturn | apply keeps_commitAll
      | apply keeps_crystalWindow | apply keeps_decidePhase | apply keeps_discontinuityEnd | apply keeps_dramRest | apply keeps_emit
      | apply keeps_enterSelfRef | apply keeps_feedWindow | apply keeps_fenceChannel | apply keeps_giveDram | apply keeps_grantKite
      | apply keeps_handbackReady | apply keeps_handover | apply keeps_harvestStop | apply keeps_hostClockLost | apply keeps_leaveSelfRef
      | apply keeps_logPut | apply keeps_logSwitch | apply keeps_mkImage | apply keeps_pllLocked | apply keeps_putSheaf
      | apply keeps_reboundEntry | apply keeps_reboundReady | apply keeps_report | apply keeps_resequence | apply keeps_restoreTake
      | apply keeps_runFrom | apply keeps_setFlag | apply keeps_setFld | refine keeps_setMode _ (by decide) ?_ | apply keeps_setPhase
      | apply keeps_setRun | apply keeps_settle | apply keeps_shutDownStart | apply keeps_stagePump | apply keeps_takeAnchor
      | apply keeps_takeDram | apply keeps_takeFlight | refine keeps_takeSeq (by assumption) ?_ | apply keeps_threshAnchored
      | apply keeps_threshIndex | apply keeps_threshRest | apply keeps_trainFail | apply keeps_trainHalt | apply keeps_trainPass
      | apply keeps_trainPhase | apply runs_next | refine keeps_foldl (fun u x hu => ?_) ?_ | refine keeps_foldl_fst (fun u x hu => ?_) ?_
      | refine keeps_foldl_snd (fun u x hu => ?_) ?_ | split | fail_if_no_progress (apply keeps_lit)
  | restoreDone bad => exact runs_restoreDone bad s
  | _ => cases hi

/-- The commands of the backside controller and the clocks. -/
def bdcClockCommand (i : Instr) : Bool :=
  match i with
  | .refreshDue .. | .mr4Poll .. | .bdcPortRequest .. | .bdcRequestLate | .rdWindowEnd | .hostActHigh | .harvestEntryCheck | .harvestReturn
  | .harvestRecheck .. | .harvestSheafConfirmed .. | .lullRetrainDone .. | .dctWindowRead .. | .dctWindowReadDone | .slewDone
  | .hostClockStop | .hostClockLoss | .hostClockRestart | .hostClockReturn .. | .pllLockTimeout .. | .pllNoLock .. | .clkSpUserWrite ..
  | .spGo .. => true
  | _ => false

theorem runs_bdcClock {i : Instr} (hi : bdcClockCommand i = true) (s : State) : Runs s (exec i s) := by
  have hs := keeps_refl s
  cases i with
  | refreshDue | mr4Poll | bdcPortRequest | bdcRequestLate | rdWindowEnd | hostActHigh | harvestEntryCheck | harvestReturn | harvestRecheck
  | harvestSheafConfirmed | lullRetrainDone | dctWindowRead | dctWindowReadDone | slewDone | hostClockStop | hostClockLoss
  | hostClockRestart | hostClockReturn | pllLockTimeout | pllNoLock | clkSpUserWrite | spGo =>
    simp only [exec, execRefreshDue, execMr4Poll, execBdcPortRequest, execBdcRequestLate, execRdWindowEnd, execHostActHigh, execHarvestEntryCheck,
      execHarvestReturn, execHarvestRecheck, execHarvestSheafConfirmed, execLullRetrainDone, execDctWindowRead, execDctWindowReadDone,
      execSlewDone, execHostClockStop, execHostClockLoss, execHostClockRestart, execHostClockReturn, execPllLockTimeout, execPllNoLock,
      execClkSpUserWrite, execSpGo]
    with_reducible repeat' first
      | assumption | apply keeps_bump | apply keeps_clockGone | apply keeps_countAct | apply keeps_discontinuityEntry | apply keeps_giveDram
      | apply keeps_gleanSheaf | apply keeps_hLocked | apply keeps_harvestLine | apply keeps_harvestNext | apply keeps_harvestPlace
      | apply keeps_harvestStop | apply keeps_hasherLine | apply keeps_hopD | apply keeps_intervalTaken | apply keeps_landed
      | apply keeps_lockH | apply keeps_nextJob | apply keeps_note | apply keeps_planDeviation | apply keeps_putSheaf
      | apply keeps_refreshed | apply keeps_report | apply keeps_restoreLine | apply keeps_retrainBegin | apply keeps_retrainEnd
      | apply keeps_scrubLine | apply keeps_searchFlag | apply keeps_setBytes | apply keeps_setD | apply keeps_setFlag | apply keeps_setFld
      | apply keeps_setOwed | apply keeps_setSmap | apply keeps_spGo | apply keeps_takeDram | apply keeps_trainFail | apply keeps_trainPass
      | apply keeps_window | refine keeps_writeCheck (by assumption) ?_ | refine keeps_writeCheckSwath (by assumption) ?_
      | apply keeps_writeUserSp | apply runs_next | refine keeps_foldl (fun u x hu => ?_) ?_ | refine keeps_foldl_fst (fun u x hu => ?_) ?_
      | refine keeps_foldl_snd (fun u x hu => ?_) ?_ | split | fail_if_no_progress (apply keeps_lit)
  | _ => cases hi

/-- The commands of the fault collector, the kite and the recorder. -/
def faultsCommand (i : Instr) : Bool :=
  match i with
  | .faultMessageArrival .. | .unitErrorPair .. | .unitError .. | .shadowClose .. | .unitNotReady .. | .incidentCauseGone ..
  | .faultPulseEnd | .fltPinWrite .. | .sptSelf .. | .coreHb .. | .coreDead .. | .coreStartTimeout .. | .kiteRenew .. | .kiteRequest ..
  | .kiteLeaseExpiry | .linkTestPass | .switchoverComplete | .recordArrival .. | .logReadHeader .. | .logReadData .. => true
  | _ => false

theorem runs_faults {i : Instr} (hi : faultsCommand i = true) (s : State) : Runs s (exec i s) := by
  have hs := keeps_refl s
  cases i with
  | faultMessageArrival | unitErrorPair | unitError | shadowClose | unitNotReady | incidentCauseGone | faultPulseEnd | fltPinWrite
  | sptSelf | coreHb | coreDead | coreStartTimeout | kiteRenew | kiteRequest | kiteLeaseExpiry | linkTestPass | switchoverComplete
  | recordArrival | logReadHeader | logReadData =>
    simp only [exec, execFaultMessageArrival, execUnitErrorPair, execUnitError, execShadowClose, execUnitNotReady, execIncidentCauseGone,
      execFaultPulseEnd, execFltPinWrite, execSptSelf, execCoreHb, execCoreDead, execCoreStartTimeout, execKiteRenew, execKiteRequest,
      execKiteLeaseExpiry, execLinkTestPass, execSwitchoverComplete, execRecordArrival, execLogReadHeader, execLogReadData]
    with_reducible repeat' first
      | assumption | refine keeps_arrivalSeq_pair (by assumption) ?_ | refine keeps_closeShadow_pair (by assumption) ?_
      | apply keeps_arrivalSeq | apply keeps_arrive | apply keeps_arriveRecord | apply keeps_bump | apply keeps_causeEnds
      | apply keeps_coldStandby | apply keeps_complete | apply keeps_coreJudgedDead | apply keeps_fenceReturned | apply keeps_kiteRenew
      | apply keeps_kiteRequest | apply keeps_logRead | apply keeps_mergeInto | apply keeps_openIncident | apply keeps_postWithheld
      | apply keeps_report | apply keeps_setBit | apply keeps_setFlag | apply keeps_setFld | apply keeps_settle | apply keeps_storeReg
      | apply keeps_switchOver | apply keeps_takeFresh | apply keeps_wrap | apply runs_next | refine keeps_foldl (fun u x hu => ?_) ?_
      | refine keeps_foldl_fst (fun u x hu => ?_) ?_ | refine keeps_foldl_snd (fun u x hu => ?_) ?_ | split
      | fail_if_no_progress (apply keeps_lit)
  | _ => cases hi

/-- The commands of the channel engines. -/
def enginesCommand (i : Instr) : Bool :=
  match i with
  | .fceRead .. | .fceProgram .. | .fceErase .. | .fceStatus .. | .fceParam .. | .fceResume .. | .fceSuspend .. | .fceAbort ..
  | .fceReadySample .. | .fceTimeout .. | .fceAgePromote .. | .fceDescriptorQueue .. | .fceIfWrite .. | .fceUnfence .. | .strayCycle ..
  | .flashDesc .. | .eraseIntentConfirmed .. => true
  | _ => false

theorem runs_engines {i : Instr} (hi : enginesCommand i = true) (s : State) : Runs s (exec i s) := by
  have hs := keeps_refl s
  cases i with
  | fceRead | fceProgram | fceErase | fceStatus | fceParam | fceResume | fceSuspend | fceAbort | fceReadySample | fceTimeout
  | fceAgePromote | fceDescriptorQueue | fceIfWrite | fceUnfence | strayCycle | flashDesc | eraseIntentConfirmed =>
    simp only [exec, execFceRead, execFceProgram, execFceErase, execFceStatus, execFceParam, execFceResume, execFceSuspend, execFceAbort,
      execFceReadySample, execFceTimeout, execFceAgePromote, execFceDescriptorQueue, execFceIfWrite, execFceUnfence, execStrayCycle,
      execFlashDesc, execEraseIntentConfirmed]
    with_reducible repeat' first
      | assumption | refine keeps_remapWorn_pair (by assumption) ?_ | refine keeps_startHead_pair (by assumption) ?_
      | refine keeps_writeIf_pair (by assumption) ?_ | apply keeps_abortMismatch | apply keeps_abortedErase | apply keeps_bump
      | apply keeps_checkMismatch | apply keeps_completeCode | apply keeps_endOp | apply keeps_eraseWins | apply keeps_finishAbort
      | apply keeps_finishErase | apply keeps_finishOp | apply keeps_gleanStarted | apply keeps_ledger | apply keeps_pollMismatch
      | apply keeps_polled | apply keeps_postCpl | apply keeps_postRas | apply keeps_ptrUnknown | apply keeps_putEar | apply keeps_queueDesc
      | apply keeps_rawTaint | apply keeps_remapWorn | apply keeps_report | apply keeps_saveStarted | apply keeps_setChan
      | apply keeps_setDie | apply keeps_setPtr | refine keeps_startCheck _ _ _ (fun u hu => ?_) ?_ | apply keeps_startExec
      | apply keeps_startHead | apply keeps_suspendTaken | apply keeps_withdraw | apply keeps_withdrawOne | apply keeps_writeIf
      | apply runs_next | refine keeps_foldl (fun u x hu => ?_) ?_ | refine keeps_foldl_fst (fun u x hu => ?_) ?_
      | refine keeps_foldl_snd (fun u x hu => ?_) ?_ | split | fail_if_no_progress (apply keeps_lit)
  | _ => cases hi

/-- The commands of the packets and opcodes. -/
def packetsCommand (i : Instr) : Bool :=
  match i with
  | .configStage .. | .configActivate .. | .configRevert .. | .learnerCapture | .learnSolveDone | .learnTimeout | .learnAbort | .nop ..
  | .regRead .. | .regWrite .. | .saveNow .. | .imageQueryNewest .. | .imageQueryDirtyMap .. | .faultClear .. | .faultInject ..
  | .packTest .. | .learnStart .. | .packetCapture | .ringGap .. | .packetDispatch | .mailboxGo | .ringCfgWrite .. | .dirtyMarkApply
  | .forceFull | .perMapSelWrite .. | .flushGranules .. => true
  | _ => false

theorem runs_packets {i : Instr} (hi : packetsCommand i = true) (s : State) : Runs s (exec i s) := by
  have hs := keeps_refl s
  cases i with
  | configStage | configActivate | configRevert | learnerCapture | learnSolveDone | learnTimeout | learnAbort | nop | regRead | regWrite
  | saveNow | imageQueryNewest | imageQueryDirtyMap | faultClear | faultInject | packTest | learnStart | packetCapture | ringGap
  | packetDispatch | mailboxGo | ringCfgWrite | dirtyMarkApply | forceFull | perMapSelWrite | flushGranules =>
    simp only [exec, execConfigStage, execConfigActivate, execConfigRevert, execLearnerCapture, execLearnSolveDone, execLearnTimeout, execLearnAbort,
      execNop, execRegRead, execRegWrite, execSaveNow, execImageQueryNewest, execImageQueryDirtyMap, execFaultClear, execFaultInject,
      execPackTest, execLearnStart, execPacketCapture, execRingGap, execPacketDispatch, execMailboxGo, execRingCfgWrite,
      execDirtyMarkApply, execForceFull, execPerMapSelWrite, execFlushGranules]
    with_reducible repeat' first
      | assumption | refine keeps_flushRange_pair (by assumption) ?_ | refine keeps_writePairs_pair (by assumption) ?_
      | apply keeps_activate | apply keeps_applyConfirms | apply keeps_arrive | apply keeps_bump | apply keeps_clearGone
      | apply keeps_clearNamed | apply keeps_collect | apply keeps_complete | apply keeps_completeCode | apply keeps_completeLive
      | apply keeps_dispatch | apply keeps_flushRange | apply keeps_learnBegin | apply keeps_learnFail | apply keeps_learnStop
      | apply keeps_mark | apply keeps_note | apply keeps_noteRefusal | apply keeps_packTestEnd | apply keeps_packTestFail
      | apply keeps_packTestStart | apply keeps_post | apply keeps_postAt | apply keeps_refuseConfig | apply keeps_reportAdmission
      | apply keeps_revert | apply keeps_saveNowRun | apply keeps_setAllDirty | apply keeps_setFlag | apply keeps_setFld
      | apply keeps_setRing | apply keeps_settle | apply keeps_stageStart | apply keeps_startExec | apply keeps_takeChunk
      | apply keeps_traced | apply keeps_verify | apply keeps_window | apply keeps_writePairs | apply keeps_writeRing | apply runs_next
      | refine keeps_foldl (fun u x hu => ?_) ?_ | refine keeps_foldl_fst (fun u x hu => ?_) ?_
      | refine keeps_foldl_snd (fun u x hu => ?_) ?_ | split | fail_if_no_progress (apply keeps_lit)
  | _ => cases hi

/-- The commands of the glean and seal units. -/
def gleanSealCommand (i : Instr) : Bool :=
  match i with
  | .gleanCaptureApply | .stagingOverflow | .slotIdleClose .. | .gleanEarProgrammed .. | .gleanSheafProgrammed .. | .flashRepair ..
  | .foldComplete .. | .rationHour | .captureDefineDefine .. | .captureDefineDelete .. | .sealOpen .. | .sealClose .. | .sealBarrierPass ..
  | .sealContentReady .. | .sealCommitDone | .gleanRelease .. | .releaseCommitDone | .timeSet .. | .timeStepCommit | .seaEntFetch ..
  | .seaEntFetchDone => true
  | _ => false

theorem runs_gleanSeal {i : Instr} (hi : gleanSealCommand i = true) (s : State) : Runs s (exec i s) := by
  have hs := keeps_refl s
  cases i with
  | gleanCaptureApply | stagingOverflow | slotIdleClose | gleanSheafProgrammed | flashRepair | foldComplete | rationHour
  | captureDefineDefine | captureDefineDelete | sealOpen | sealClose | sealBarrierPass | sealContentReady | sealCommitDone | gleanRelease
  | releaseCommitDone | timeSet | timeStepCommit | seaEntFetch | seaEntFetchDone =>
    simp only [exec, execGleanCaptureApply, execStagingOverflow, execSlotIdleClose, execGleanSheafProgrammed, execFlashRepair, execFoldComplete,
      execRationHour, execCaptureDefineDefine, execCaptureDefineDelete, execSealOpen, execSealClose, execSealBarrierPass,
      execSealContentReady, execSealCommitDone, execGleanRelease, execReleaseCommitDone, execTimeSet, execTimeStepCommit, execSeaEntFetch,
      execSeaEntFetchDone]
    with_reducible repeat' first
      | assumption | refine keeps_allocTlc_pair (by assumption) ?_ | refine keeps_flushRange_pair (by assumption) ?_
      | refine keeps_takeGlean_pair (by assumption) ?_ | refine keeps_allocTlc (by assumption) ?_ | apply keeps_applyConfirms
      | apply keeps_bump | apply keeps_chainAppend | apply keeps_chainJob | apply keeps_chainPump | apply keeps_closeSlot
      | apply keeps_commitAll | apply keeps_complete | apply keeps_completeCode | apply keeps_completeLive | apply keeps_coverWrite
      | apply keeps_failClose | apply keeps_flushRange | apply keeps_gleanSheaf | apply keeps_gleanVerify | apply keeps_handOver
      | apply keeps_hold | apply keeps_holdAs | apply keeps_landed | apply keeps_ledger | apply keeps_manifestUpdate
      | apply keeps_markSealed | apply keeps_mirror | apply keeps_note | refine keeps_placeCapture (by assumption) ?_ | apply keeps_putSheaf
      | apply keeps_readySlot | apply keeps_refill | apply keeps_regionsHeld | apply keeps_report | apply keeps_setBytes | apply keeps_setD
      | apply keeps_setFlag | apply keeps_setFld | apply keeps_setRegion | apply keeps_setRegionLater | apply keeps_setRepair
      | apply keeps_setSmap | apply keeps_setWall | apply keeps_splitSlot | apply keeps_startExec
      | refine keeps_takeGlean (by assumption) ?_ | apply keeps_tuneRegion | apply keeps_wrap | apply keeps_writeLoss | apply runs_next
      | refine keeps_foldl (fun u x hu => ?_) ?_ | refine keeps_foldl_fst (fun u x hu => ?_) ?_
      | refine keeps_foldl_snd (fun u x hu => ?_) ?_ | split | fail_if_no_progress (apply keeps_lit)
  | gleanEarProgrammed slot ear => exact runs_gleanEarProgrammed slot ear s
  | _ => cases hi


/-! The release of the power-on reset alone enters power-up (R367). -/

/-- Entering a mode other than attach keeps the queue and the invariant, since it ends every attach phase. -/
theorem enterMode_keeps_queue_and_inv (s : State) (m : Mode) : (s.enterMode m).pending = s.pending ∧ (s.Inv → (s.enterMode m).Inv) := by
  refine ⟨rfl, fun h => ?_⟩
  obtain ⟨hregs, hdram, -⟩ := h
  exact ⟨smapWf_set _ _ hregs, hdram, .inl rfl⟩

theorem setMode_keeps_queue_and_inv (s : State) (m : Mode) : (s.setMode m).pending = s.pending ∧ (s.Inv → (s.setMode m).Inv) := by
  unfold State.setMode
  split
  · exact ⟨rfl, id⟩
  · exact enterMode_keeps_queue_and_inv s m

theorem powerOnResetRelease_keeps_queue_and_inv (bGood : Bool) (mbBad : BitVec 6) (mbRetries : BitVec 16) (s : State) :
    ∃ t, execPowerOnResetRelease bGood mbBad mbRetries s = .next t ∧ t.pending = s.pending ∧ (s.Inv → t.Inv) := by
  unfold execPowerOnResetRelease
  split
  · exact ⟨s, rfl, rfl, id⟩
  · obtain ⟨hq, -, hi⟩ := keeps_setFlag PWR_FEED_STS_A_GOOD true (keeps_coldReset (keeps_refl s))
    obtain ⟨hqm, him⟩ := setMode_keeps_queue_and_inv (s.coldReset.setFlag PWR_FEED_STS_A_GOOD true) .powerUp
    obtain ⟨hqs, -, his⟩ := keeps_powerUpSteps bGood mbBad mbRetries
      (keeps_refl ((s.coldReset.setFlag PWR_FEED_STS_A_GOOD true).setMode .powerUp))
    exact ⟨_, rfl, hqs.trans (hqm.trans hq), fun h => his (him (hi h))⟩

/-- Every command is one of a unit's, or the release of the power-on reset. -/
theorem exec_runs {i : Instr} (hi : ∀ b m r, i ≠ .powerOnResetRelease b m r) (s : State) : Runs s (exec i s) := by
  cases i with
  | powerOnResetRelease b m r => exact absurd rfl (hi b m r)
  | hostWrite | hostWritePattern | hostRead | hostAct | hostPrecharge | hostRefresh | hostRfm | hostMpc | hostMrw | hostMrr | hostPowerDown
  | selfRefreshEntry | selfRefreshExit | hostResetAssert | hostResetDeassert | alertPulseEnd | parityBlockLong | dramAlert | cwParityConfig
  | cwCaLatency | cwAlertWidth | cwEndParityBlock | cwIgnored | laneFault | loopbackStart | loopbackEnd | hbpCtlWrite | parErrClear
  | caTrainingMode | csTrainingMode | readEnableMode | writeLevelingMode | readDqMode | writeDqMode | hostTrainingModeExit
  | hostTrainingSample => exact runs_hostPort rfl s
  | startTimerExpiry | vaonFall | feedAGood | feedAGoodLost | feedALowTrigger | feedAOv | feedBLow | feedBOv | feedBOvRecovery | supplyLost
  | saveNAsserted | railDischarged | dischargeStuck | gateBOffDelay | reboundStageRetry | railGood | railNoStart | railChatter | railFault
  | railGlitch | railRetryTry | telemetryPoll | resetOutputRise | domainFault | bootTest | capTestPeriodic | packCharged | capTestSettled
  | capTestV1Sample | capTestV2Sample | voltageTest | cValidExpiry => exact runs_power rfl s
  | sbPrivateWrite | sbPrivateRead | loRegisterRead | registerWrite | ptabBurn | entdaa | setdasa | setnewda | rstdaa | getpid | getbcr
  | getdcr | getstatus | getmwl | getmrl | setmwl | setmrl | bypass | idcode | samplePreload | extest => exact runs_paths rfl s
  | dramHandoverToBdc | imageAnchored | firstKiteGrant | handover | discEnd | pllLock | hostClockLossTimeout | fceFence | paceWindowEnd
  | ledgerCommit | saveSheafConfirmed | secondAnchorConfirmed | threshStart | threshCopiesDone | dramTrainingDone | restoreDone => exact runs_flow rfl s
  | refreshDue | mr4Poll | bdcPortRequest | bdcRequestLate | rdWindowEnd | hostActHigh | harvestEntryCheck | harvestReturn | harvestRecheck
  | harvestSheafConfirmed | lullRetrainDone | dctWindowRead | dctWindowReadDone | slewDone | hostClockStop | hostClockLoss
  | hostClockRestart | hostClockReturn | pllLockTimeout | pllNoLock | clkSpUserWrite | spGo => exact runs_bdcClock rfl s
  | faultMessageArrival | unitErrorPair | unitError | shadowClose | unitNotReady | incidentCauseGone | faultPulseEnd | fltPinWrite
  | sptSelf | coreHb | coreDead | coreStartTimeout | kiteRenew | kiteRequest | kiteLeaseExpiry | linkTestPass | switchoverComplete
  | recordArrival | logReadHeader | logReadData => exact runs_faults rfl s
  | fceRead | fceProgram | fceErase | fceStatus | fceParam | fceResume | fceSuspend | fceAbort | fceReadySample | fceTimeout
  | fceAgePromote | fceDescriptorQueue | fceIfWrite | fceUnfence | strayCycle | flashDesc | eraseIntentConfirmed => exact runs_engines rfl s
  | configStage | configActivate | configRevert | learnerCapture | learnSolveDone | learnTimeout | learnAbort | nop | regRead | regWrite
  | saveNow | imageQueryNewest | imageQueryDirtyMap | faultClear | faultInject | packTest | learnStart | packetCapture | ringGap
  | packetDispatch | mailboxGo | ringCfgWrite | dirtyMarkApply | forceFull | perMapSelWrite | flushGranules => exact runs_packets rfl s
  | gleanCaptureApply | stagingOverflow | slotIdleClose | gleanSheafProgrammed | flashRepair | foldComplete | rationHour
  | captureDefineDefine | captureDefineDelete | sealOpen | sealClose | sealBarrierPass | sealContentReady | sealCommitDone | gleanRelease
  | releaseCommitDone | timeSet | timeStepCommit | seaEntFetch | seaEntFetchDone | gleanEarProgrammed => exact runs_gleanSeal rfl s

theorem exec_answers_and_keeps (i : Instr) (s : State) : ∃ t, exec i s = .next t ∧ t.pending = s.pending ∧ (s.Inv → t.Inv) := by
  by_cases hi : ∃ b m r, i = .powerOnResetRelease b m r
  · obtain ⟨b, m, r, rfl⟩ := hi
    exact powerOnResetRelease_keeps_queue_and_inv b m r s
  · obtain ⟨t, ht, hk⟩ := exec_runs (fun b m r h => hi ⟨b, m, r, h⟩) s
    exact ⟨t, ht, hk.pending, hk.inv⟩

/-- Settles O53: `step` takes the front of the queue. -/
theorem stepRunsFrontCommand : Obligations.StepRunsFrontCommand := fun _ _ _ => rfl

/-- Settles O55. -/
theorem commandsKeepTheQueue : Obligations.CommandsKeepTheQueue := by
  intro c s t h
  obtain ⟨u, hu, hq, -⟩ := exec_answers_and_keeps c s
  cases h.symm.trans hu
  exact hq

/-- Settles O56. -/
theorem everyCommandAnswers : Obligations.EveryCommandAnswers := by
  intro c s
  obtain ⟨t, ht, -⟩ := exec_answers_and_keeps c s
  exact ⟨t, ht⟩

/-- A step is a tick on an empty queue, and else the front command. -/
theorem step_cases {s t : State} (h : step s = .next t) :
    (s.pending = [] ∧ t = s.idleTick) ∨ ∃ c q, s.pending = c :: q ∧ exec c (s.setPending q) = .next t := by
  unfold step at h
  split at h
  case h_1 hq =>
    cases h
    exact .inl ⟨hq, rfl⟩
  case h_2 c q hq => exact .inr ⟨c, q, hq, h⟩

/-- Settles O57: the commands and the tick keep the invariant, of which the queue is no part. -/
theorem everyStepKeepsTheInvariant : Obligations.EveryStepKeepsTheInvariant := by
  intro s t hs h
  rcases step_cases h with ⟨-, rfl⟩ | ⟨c, q, -, hc⟩
  · exact (keeps_idleTick (keeps_refl s)).inv hs
  · obtain ⟨u, hu, -, hi⟩ := exec_answers_and_keeps c (s.setPending q)
    cases hc.symm.trans hu
    exact hi hs

/-- Settles O58: the reset state lists no register and no line. -/
theorem resetMeetsTheInvariant : Obligations.ResetMeetsTheInvariant := ⟨rfl, rfl, .inl rfl⟩

/-- Settles O59: `Keeps` holds of the tick and of every other command, and it does not enter power-up. -/
theorem powerUpEnteredOnlyByRelease : Obligations.PowerUpEnteredOnlyByRelease := by
  intro s t h hs ht
  rcases step_cases h with ⟨-, rfl⟩ | ⟨c, q, hq, hc⟩
  · exact absurd ((keeps_idleTick (keeps_refl s)).up ht) hs
  · by_contra hne
    obtain ⟨u, hu, hk⟩ := exec_runs (i := c) (fun b m r e => hne ⟨b, m, r, q, e ▸ hq⟩) (s.setPending q)
    cases hc.symm.trans hu
    exact hs (hk.up ht)

/-- Refutes O60: the Reset column of SPT_STS (Table 16-6) gives its field SEQ the value 1, which the reset state holds, and not 0. -/
theorem not_resetState : ¬ Obligations.ResetState := by
  intro h
  obtain ⟨-, -, -, -, -, -, -, hfields⟩ := h
  have hseq : State.reset.fld SPT_STS_SEQ = 0 := hfields (SPT_STS_SEQ, 0) (by simp)
  exact absurd hseq (by decide)

end Sys2Proof.Proofs

/-! PROOF. The learner recovers every affine host code (R86 to R91). -/

namespace Sys2Proof.Proofs

open Sys2Proof.Machine Sys2Proof.Machine.Reg Sys2Proof.Laws

/-! Sums over GF(2). -/

/-- The sum over GF(2) of those vectors of a list that a condition takes. -/
def xorSum {α : Type} (l : List α) (b : α → Bool) (v : α → CheckBytes) : CheckBytes :=
  l.foldr (fun e acc => (if b e then v e else 0) ^^^ acc) 0

section XorSum

variable {α β : Type} (l : List α) (b b' : α → Bool) (v : α → CheckBytes)

@[simp] theorem xorSum_nil : xorSum [] b v = 0 := rfl

@[simp] theorem xorSum_cons (e : α) : xorSum (e :: l) b v = (if b e then v e else 0) ^^^ xorSum l b v := rfl

/-- The model's running sums are sums over GF(2) on top of what they begin with. -/
theorem foldl_eq_xorSum (c : CheckBytes) : l.foldl (fun acc e => if b e then acc ^^^ v e else acc) c = c ^^^ xorSum l b v := by
  induction l generalizing c with
  | nil => simp
  | cons e l ih =>
    rw [List.foldl_cons, ih, xorSum_cons]
    cases b e <;> simp [BitVec.xor_assoc]

theorem xorSum_append (l' : List α) : xorSum (l ++ l') b v = xorSum l b v ^^^ xorSum l' b v := by
  induction l with
  | nil => simp
  | cons e l ih => simp [ih, BitVec.xor_assoc]

theorem xorSum_map (h : β → α) (m : List β) : xorSum (m.map h) b v = xorSum m (fun e => b (h e)) (fun e => v (h e)) := by
  induction m with
  | nil => rfl
  | cons e m ih => simp [ih]

/-- A sum is linear in its condition. -/
theorem xorSum_xor : xorSum l (fun e => b e ^^ b' e) v = xorSum l b v ^^^ xorSum l b' v := by
  induction l with
  | nil => simp
  | cons e l ih =>
    have he : (if (b e ^^ b' e) = true then v e else 0) = (if b e then v e else 0) ^^^ (if b' e then v e else 0) := by
      cases b e <;> cases b' e <;> simp
    simp only [xorSum_cons, ih, he]
    ac_rfl

/-- Vectors that are zero can be left out. -/
theorem xorSum_filter (p : α → Bool) (h : ∀ e ∈ l, p e = false → v e = 0) : xorSum (l.filter p) b v = xorSum l b v := by
  induction l with
  | nil => rfl
  | cons e l ih =>
    have hl := ih fun x hx => h x (List.mem_cons_of_mem _ hx)
    cases hp : p e with
    | true => simp [hp, hl]
    | false => simp [hp, hl, h e List.mem_cons_self hp]

theorem xorSum_congr {b b' : α → Bool} (h : ∀ e ∈ l, b e = b' e) : xorSum l b v = xorSum l b' v := by
  induction l with
  | nil => rfl
  | cons e l ih => simp [h e List.mem_cons_self, ih fun x hx => h x (List.mem_cons_of_mem _ hx)]

theorem xorSum_congr_vec {v v' : α → CheckBytes} (h : ∀ e ∈ l, v e = v' e) : xorSum l b v = xorSum l b v' := by
  induction l with
  | nil => rfl
  | cons e l ih => simp [h e List.mem_cons_self, ih fun x hx => h x (List.mem_cons_of_mem _ hx)]

end XorSum

theorem xorSum_range_false (n : Nat) {b : Nat → Bool} (v : Nat → CheckBytes) (h : ∀ k < n, b k = false) : xorSum (List.range n) b v = 0 := by
  rw [xorSum_congr _ v (b' := fun _ => false) fun k hk => h k (List.mem_range.1 hk)]
  induction List.range n with
  | nil => rfl
  | cons e l ih => simp [ih]

/-- A condition that takes one number of a range alone gives its vector. -/
theorem xorSum_range_single {n i : Nat} {b : Nat → Bool} (v : Nat → CheckBytes) (hi : i < n) (h : ∀ k < n, b k = decide (k = i)) :
    xorSum (List.range n) b v = v i := by
  induction n with
  | zero => omega
  | succ n ih =>
    rw [List.range_succ, xorSum_append, xorSum_cons, xorSum_nil, h n (Nat.lt_succ_self n)]
    by_cases hn : n = i
    · rw [xorSum_range_false n v fun k hk => by rw [h k (by omega)]; simp; omega]
      simp [hn]
    · rw [ih (by omega) fun k hk => h k (by omega)]
      simp [hn]

/-! The affine code. -/

/-- The check bytes of an affine host code (R86): `c0` at line zero for zero data, `g` for the data bits and `f` for the address bits above the line. -/
def affineCheck (c0 : CheckBytes) (g f : Nat → CheckBytes) (ma : Nat) (d : LineData) : CheckBytes :=
  c0 ^^^ xorSum (List.range 512) (fun i => d.getLsbD i) g ^^^ xorSum (List.range 33) (fun k => ma.testBit (k + 6)) f

section Affine

variable (c0 : CheckBytes) (g f : Nat → CheckBytes) (base : Nat)

theorem affineCheck_eq_folds (ma : Nat) (d : LineData) :
    (List.range 33).foldl (fun acc k => if ma.testBit (k + 6) then acc ^^^ f k else acc)
      ((List.range 512).foldl (fun acc i => if d.getLsbD i then acc ^^^ g i else acc) c0) = affineCheck c0 g f ma d := by
  rw [foldl_eq_xorSum, foldl_eq_xorSum, affineCheck]

theorem affineCheck_zero : affineCheck c0 g f base 0 = c0 ^^^ xorSum (List.range 33) (fun k => base.testBit (k + 6)) f := by
  rw [affineCheck, xorSum_range_false 512 (b := fun i => (0 : LineData).getLsbD i) g fun i _ => BitVec.getLsbD_zero, show c0 ^^^ 0 = c0 from BitVec.xor_zero]

theorem xor_xor_xor_cancel (a b c : CheckBytes) : a ^^^ b ^^^ c ^^^ (a ^^^ c) = b := by
  rw [show a ^^^ b ^^^ c ^^^ (a ^^^ c) = b ^^^ ((a ^^^ a) ^^^ (c ^^^ c)) by ac_rfl]
  simp

/-- A unit pattern differs from the zero pattern by the column of its data bit. -/
theorem affineCheck_unit {i : Nat} (hi : i < 512) : affineCheck c0 g f base (1#512 <<< i) ^^^ affineCheck c0 g f base 0 = g i := by
  have hbit : ∀ k < 512, (1#512 <<< i).getLsbD k = decide (k = i) := fun k hk => by
    rw [← BitVec.twoPow_eq, BitVec.getLsbD_twoPow]
    simp [eq_comm]; omega
  rw [affineCheck_zero, affineCheck, xorSum_range_single g hi hbit]
  exact xor_xor_xor_cancel ..

/-- A fold pattern differs from the zero pattern by the column of its address bit. -/
theorem affineCheck_fold {k : Nat} (hk : k < 33) : affineCheck c0 g f (base ^^^ 2 ^ (k + 6)) 0 ^^^ affineCheck c0 g f base 0 = f k := by
  have hbit : ∀ j < 33, decide (j = k) = decide (k + 6 = j + 6) := fun j _ => by simp [eq_comm]
  rw [affineCheck_zero, affineCheck_zero]
  simp only [Nat.testBit_xor, Nat.testBit_two_pow, xorSum_xor]
  rw [xorSum_range_single f hk fun j hj => (hbit j hj).symm]
  rw [BitVec.xor_comm _ (f k), ← BitVec.xor_assoc c0 (f k)]
  exact xor_xor_xor_cancel ..

/-- What the learner forms from the patterns that a pass has collected (R91). -/
theorem solve_predicts {s : State} {p : Nat → Bool} (hp : ∀ k, p k = false → f k = 0) (hz : s.cln.zero = some (affineCheck c0 g f s.cln.base 0))
    (hu : s.cln.units = (List.range 512).map fun i => (i, affineCheck c0 g f s.cln.base (1#512 <<< i)))
    (hc : s.cln.classes.filter (fun e => decide (e.1 < 33)) =
      ((List.range 33).filter p).map fun k => (k, affineCheck c0 g f (s.cln.base ^^^ 2 ^ (k + 6)) 0)) (ma : Nat) (d : LineData) :
    predict s.solve ma d = affineCheck c0 g f ma d := by
  have hcols := fun (b : Nat × CheckBytes → Bool) (l : List (Nat × CheckBytes)) =>
    xorSum_filter l b (fun e => e.2) (fun e => decide (e.2 ≠ 0)) fun e _ he => by simpa using he
  have hg (b : Nat → Bool) : xorSum (s.solve.g) (fun e => b e.1) (fun e => e.2) = xorSum (List.range 512) b g := by
    rw [State.solve, hz, hu]
    dsimp only [Option.getD_some]
    rw [hcols, xorSum_map, xorSum_map]
    exact xorSum_congr_vec _ _ fun i hi => affineCheck_unit c0 g f s.cln.base (List.mem_range.1 hi)
  have hf (b : Nat → Bool) : xorSum (s.solve.f) (fun e => b e.1) (fun e => e.2) = xorSum (List.range 33) b f := by
    rw [State.solve, hz, hc]
    dsimp only [Option.getD_some]
    rw [hcols, xorSum_map, xorSum_map, ← xorSum_filter (List.range 33) b f p fun k _ => hp k]
    exact xorSum_congr_vec _ _ fun k hk => affineCheck_fold c0 g f s.cln.base (List.mem_range.1 (List.mem_filter.1 hk).1)
  have hzero : s.solve.c0 = c0 := by
    have h : s.solve.c0 = affineCheck c0 g f s.cln.base 0 ^^^ xorSum (s.solve.f) (fun e => s.cln.base.testBit (e.1 + 6)) (fun e => e.2) := by
      rw [← foldl_eq_xorSum, ← Option.getD_some (a := affineCheck c0 g f s.cln.base 0) (b := 0), ← hz]
      rfl
    rw [h, hf fun k => s.cln.base.testBit (k + 6), affineCheck_zero, BitVec.xor_assoc, BitVec.xor_self, BitVec.xor_zero]
  rw [predict, foldl_eq_xorSum, foldl_eq_xorSum, hg fun i => d.getLsbD i, hf fun k => ma.testBit (k + 6), hzero, affineCheck]

end Affine

/-- Settles O18: the columns that the learner forms are those of the code, and the sum of the base line's fold columns cancels in c0. -/
theorem learnerRecoversCode : Obligations.LearnerRecoversCode := by
  intro s c0 g f p hp check hz hu hc ma d
  have hcheck : check = affineCheck c0 g f := funext fun ma => funext fun d => affineCheck_eq_folds c0 g f ma d
  rw [hcheck] at hz hu hc ⊢
  exact solve_predicts c0 g f hp hz hu hc ma d

end Sys2Proof.Proofs

/-! PROOF. A device tick with nothing under way (R348, R426, R427). -/

namespace Sys2Proof.Proofs

open Sys2Proof.Machine Sys2Proof.Machine.Reg Sys2Proof.Laws

/-! What each part of a tick leaves alone when it has nothing to do. -/

section Quiet

variable {s : State}

theorem threshStep_quiet (h : s.fld SAV_STS_STAGE ≠ 7) : s.threshStep = s := by
  have hnone : s.threshing = none := by
    unfold State.threshing
    split <;> simp [h]
  rw [State.threshStep, hnone]

theorem restoreTick_quiet (h : s.fld SAV_STS_STAGE ≠ 5) : s.restoreTick = s := if_neg h

theorem nextJob_quiet (h : s.harvestOn = false) : s.nextJob = s := by simp [State.nextJob, h]

theorem harvestNext_quiet (h : s.harvestOn = false) : s.harvestNext = s := by simp [State.harvestNext, h, nextJob_quiet h]

theorem agePack_quiet (h : s.pwr.capOk = false) : s.agePack = s := by simp [State.agePack, h]

theorem formatDone_quiet (h : s.flag FLO_STS_FORMATTING = false) : s.formatDone = s := by simp [State.formatDone, h]

theorem burnDone_quiet (h : s.flag SPT_PTAB_CTL_BURNING = false) : s.burnDone = s := by simp [State.burnDone, h]

theorem takeCompletions_quiet (h : s.fce = []) : s.takeCompletions = s := by simp [State.takeCompletions, h]

theorem settle_quiet (h : s.flt.slots = []) : s.settle = s := by simp [State.settle, h]

theorem takeFresh_quiet (h : s.evr.fresh = []) (running : BitVec 64) : s.takeFresh running = s := by
  have hevr : ({ s.evr with fresh := [] } : Evr) = s.evr := by rw [← h]
  rw [State.takeFresh, h]
  simp only [List.foldl_nil, hevr]

theorem stagePump_quiet (hexec : s.pkt.exec = []) (hstaging : s.pln.staging = none) : s.stagePump = s := by
  unfold State.stagePump
  split
  · rfl
  · simp [State.waiting, hexec, hstaging]

theorem trainTick_quiet (h : s.fld TRN_STS_STEP = 0) : s.trainTick = s := if_pos h

end Quiet

/-! The ages that a tick counts (R426, R427). -/

section Ages

variable (s : State) (c : CoreId)

theorem fld_ageCore_ne {g : Fld} (h : Apart g (coreAgeFld c)) : (s.ageCore c).fld g = s.fld g := by
  unfold State.ageCore
  split
  · exact fld_setFld_ne _ _ h
  · exact fld_setFld_ne _ _ h

theorem fld_ageCore_same : (s.ageCore c).fld (coreAgeFld c) = if s.coreRuns c then min (s.fld (coreAgeFld c) + 1) 255 else 255 := by
  have hw : (coreAgeFld c).lo + (coreAgeFld c).w ≤ 32 := by cases c <;> decide
  have h8 : (coreAgeFld c).w = 8 := by cases c <;> rfl
  unfold State.ageCore
  split
  · rw [fld_bump_same _ _ hw, h8]
    rfl
  · rw [fld_setFld_same _ _ hw, h8]
    rfl

theorem coreRuns_ageCore (d : CoreId) : (s.ageCore c).coreRuns d = s.coreRuns d := by
  rw [State.coreRuns, State.coreRuns, fld_ageCore_ne s c (by cases c <;> cases d <;> decide)]

theorem fld_ageLease_ne {g : Fld} (h : Apart g SPT_KITE_LEASE_LEFT) : s.ageLease.fld g = s.fld g := fld_setFld_ne _ _ h

theorem fld_ageLease_same : s.ageLease.fld SPT_KITE_LEASE_LEFT = s.fld SPT_KITE_LEASE_LEFT - 1 := by
  have hlt := fld_lt s SPT_KITE_LEASE_LEFT
  rw [State.ageLease, fld_setFld_same _ _ (by decide)]
  exact Nat.mod_eq_of_lt (by omega)

theorem onlyFields_ageCore {fs : List Fld} {t : State} (h : OnlyFields fs s t) (hf : coreAgeFld c ∈ fs) : OnlyFields fs s (t.ageCore c) := by
  unfold State.ageCore
  split
  · exact onlyFields_bump h _ hf
  · exact onlyFields_setFld h _ hf

end Ages

/-- The ages of both cores and of the lease, and nothing else. -/
def aged (s : State) : State := ((s.ageCore .a).ageCore .b).ageLease

section Aged

variable (s : State)

theorem onlyFields_aged : OnlyFields [coreAgeFld .a, coreAgeFld .b, SPT_KITE_LEASE_LEFT] s (aged s) :=
  onlyFields_setFld (onlyFields_ageCore s .b (onlyFields_ageCore s .a (onlyFields_refl _ s) (by simp)) (by simp)) _ (by simp)

theorem aged_changes_regs : aged s = { s with regs := (aged s).regs } := (onlyFields_aged s).1

theorem fld_aged_ne {g : Fld} (ha : Apart g (coreAgeFld .a)) (hb : Apart g (coreAgeFld .b)) (hl : Apart g SPT_KITE_LEASE_LEFT) :
    (aged s).fld g = s.fld g := by
  rw [aged, fld_ageLease_ne _ hl, fld_ageCore_ne _ _ hb, fld_ageCore_ne _ _ ha]

theorem flag_aged_ne {g : Fld} (ha : Apart g (coreAgeFld .a)) (hb : Apart g (coreAgeFld .b)) (hl : Apart g SPT_KITE_LEASE_LEFT) :
    (aged s).flag g = s.flag g := by
  rw [State.flag, State.flag, fld_aged_ne s ha hb hl]

theorem lease_aged : (aged s).fld SPT_KITE_LEASE_LEFT = s.fld SPT_KITE_LEASE_LEFT - 1 := by
  rw [aged, fld_ageLease_same, fld_ageCore_ne _ _ (by decide), fld_ageCore_ne _ _ (by decide)]

theorem age_aged (c : CoreId) : (aged s).fld (coreAgeFld c) = if s.coreRuns c then min (s.fld (coreAgeFld c) + 1) 255 else 255 := by
  rw [aged, fld_ageLease_ne _ (by cases c <;> decide)]
  cases c with
  | a => rw [fld_ageCore_ne _ .b (by decide), fld_ageCore_same]
  | b => rw [fld_ageCore_same, coreRuns_ageCore, fld_ageCore_ne _ .a (by decide)]

end Aged

/-- Settles O54: each part of the tick but the ages finds nothing to do. -/
theorem idleTickPasses : Obligations.IdleTickPasses := by
  intro s hq
  have hstep : step s = .next s.idleTick := by rw [step, hq]
  refine ⟨fun hoff => hstep.trans (congrArg _ (if_pos hoff)), ?_⟩
  intro hon hfce hslots hfresh hstaging hexec hburn hcap h5 h7 htrain hharvest hconf hformat
  let u : State := { s with tick := s.tick + 1 }
  have htick : s.idleTick = aged u := by
    have hregs := aged_changes_regs u
    have hc : (aged u).per.confirms.isEmpty = true := by rw [hregs, List.isEmpty_iff]; exact hconf
    rw [State.idleTick, if_neg hon, threshStep_quiet (s := u) h7, restoreTick_quiet (s := u) h5, harvestNext_quiet (s := u) hharvest]
    dsimp only
    rw [show ((u.ageCore .a).ageCore .b).ageLease = aged u from rfl, agePack_quiet (by rw [hregs]; exact hcap)]
    rw [if_pos hc, formatDone_quiet ((flag_aged_ne u (by decide) (by decide) (by decide)).trans hformat),
      burnDone_quiet ((flag_aged_ne u (by decide) (by decide) (by decide)).trans hburn), takeCompletions_quiet (by rw [hregs]; exact hfce),
      settle_quiet (by rw [hregs]; exact hslots), takeFresh_quiet (by rw [hregs]; exact hfresh),
      stagePump_quiet (by rw [hregs]; exact hexec) (by rw [hregs]; exact hstaging),
      trainTick_quiet ((fld_aged_ne u (by decide) (by decide) (by decide)).trans htrain)]
  refine ⟨aged u, hstep.trans (congrArg _ htick), ?_, lease_aged u, age_aged u, onlyFields_aged u⟩
  rw [aged_changes_regs u]

end Sys2Proof.Proofs

/-! PROOF. What an operation leaves alone: a footprint names the components and the registers that it may change. -/

namespace Sys2Proof.Proofs

open Sys2Proof.Machine Sys2Proof.Machine.Reg Sys2Proof.Laws

/-- The components of the state, and the parts of them that statements single out. -/
inductive Part where
  | mode | sys | stamp | dirtyQ | rows | selfRef | hbp | dram | area | trn | cln | exec | held | pkt | dirty | flushQ | per | gln | sea | run | sav | image | pln
  | images | sheaves | boot | twins | chain | commitLog | commits | flash | flo | fce | bdc | clk | sb | tap | sram | tick | fresh | wall | evr | slots | fenced
  | flt | kite | en | pwr | nv | pending
deriving DecidableEq

/-- The two states agree on a part. -/
@[reducible] def Part.Same (p : Part) (s t : State) : Prop :=
  match p with
  | .mode => t.sys.mode = s.sys.mode
  | .sys => t.sys = s.sys
  | .stamp => t.hbp.stamp = s.hbp.stamp
  | .dirtyQ => t.hbp.dirtyQ = s.hbp.dirtyQ
  | .rows => t.hbp.rows = s.hbp.rows
  | .selfRef => t.hbp.selfRef = s.hbp.selfRef
  | .hbp => t.hbp = s.hbp
  | .dram => t.dram = s.dram
  | .area => t.trn.area = s.trn.area
  | .trn => t.trn = s.trn
  | .cln => t.cln = s.cln
  | .exec => t.pkt.exec = s.pkt.exec
  | .held => t.pkt.held = s.pkt.held
  | .pkt => t.pkt = s.pkt
  | .dirty => t.per.dirty = s.per.dirty
  | .flushQ => t.per.flushQ = s.per.flushQ
  | .per => t.per = s.per
  | .gln => t.gln = s.gln
  | .sea => t.sea = s.sea
  | .run => t.sav.run = s.sav.run
  | .sav => t.sav = s.sav
  | .image => t.pln.image = s.pln.image
  | .pln => t.pln = s.pln
  | .images => t.flash.images = s.flash.images
  | .sheaves => t.flash.sheaves = s.flash.sheaves
  | .boot => t.flash.boot = s.flash.boot
  | .twins => t.flash.twins = s.flash.twins
  | .chain => t.flash.chain = s.flash.chain
  | .commitLog => t.flash.commitLog = s.flash.commitLog
  | .commits => t.flash.commits = s.flash.commits
  | .flash => t.flash = s.flash
  | .flo => t.flo = s.flo
  | .fce => t.fce = s.fce
  | .bdc => t.bdc = s.bdc
  | .clk => t.clk = s.clk
  | .sb => t.sb = s.sb
  | .tap => t.tap = s.tap
  | .sram => t.sram = s.sram
  | .tick => t.tick = s.tick
  | .fresh => t.evr.fresh = s.evr.fresh
  | .wall => t.evr.wall = s.evr.wall
  | .evr => t.evr = s.evr
  | .slots => t.flt.slots = s.flt.slots
  | .fenced => t.flt.fenced = s.flt.fenced
  | .flt => t.flt = s.flt
  | .kite => t.kite = s.kite
  | .en => t.pwr.en = s.pwr.en
  | .pwr => t.pwr = s.pwr
  | .nv => t.nv = s.nv
  | .pending => t.pending = s.pending

theorem Part.same_refl (p : Part) (s : State) : p.Same s s := by cases p <;> rfl

theorem Part.same_trans {p : Part} {s t u : State} (h : p.Same s t) (k : p.Same t u) : p.Same s u := by
  cases p <;> exact Eq.trans k h

/-- A footprint: the parts that may change, and the addresses of the registers that may, `highRegs` among them for every register at 0x10000 and above; with none, any register may. -/
structure Foot where
  parts : List Part
  regs : Option (List Nat)

/-- One list is got from another by leaving entries out: for lists in one common order, inclusion. -/
def within {α : Type} (eq : α → α → Bool) : List α → List α → Bool
  | [], _ => true
  | _ :: _, [] => false
  | a :: as, b :: bs => bif eq a b then within eq as bs else within eq (a :: as) bs

theorem mem_of_within {α : Type} {eq : α → α → Bool} (heq : ∀ a b, eq a b = true → a = b) {as bs : List α} (h : within eq as bs = true) {x : α} (hx : x ∈ as) : x ∈ bs := by
  induction bs generalizing as with
  | nil => cases as with
    | nil => cases hx
    | cons a as => cases h
  | cons b bs ih => cases as with
    | nil => cases hx
    | cons a as =>
      rw [within] at h
      cases hab : eq a b with
      | true =>
        rw [hab] at h
        rcases List.mem_cons.1 hx with rfl | hm
        · exact heq _ _ hab ▸ List.mem_cons_self
        · exact List.mem_cons_of_mem _ (ih h hm)
      | false =>
        rw [hab] at h
        exact List.mem_cons_of_mem _ (ih h hx)

/-- The places of the parts in the order in which footprints list them. -/
def Part.beq (p q : Part) : Bool := Nat.beq p.ctorIdx q.ctorIdx

theorem Part.eq_of_beq (p q : Part) (h : p.beq q = true) : p = q := by
  have := Nat.eq_of_beq_eq_true h
  cases p <;> cases q <;> first | rfl | cases this

/-- One footprint lies within another; both list their parts in the order of `Part` and their registers in the order of the addresses. -/
def Foot.le (F G : Foot) : Bool :=
  within Part.beq F.parts G.parts &&
  match F.regs, G.regs with
  | _, none => true
  | none, some _ => false
  | some as, some bs => within Nat.beq as bs

/-- Stands in a footprint for the registers of the channel engines and all above them. -/
@[reducible] def highRegs : Nat := 0xFFFFFFFF

/-- A register lies outside a footprint. -/
def Foot.spares (F : Foot) (a : Nat) : Bool :=
  match F.regs with
  | none => false
  | some as => !as.contains a && (decide (a < 0x10000) || !as.contains highRegs)

/-- A register outside a footprint that names no high registers. -/
theorem Foot.spares_of_notMem {ps : List Part} {as : List Nat} {a : Nat} (h : a ∉ as) (hh : highRegs ∉ as) : (Foot.mk ps (some as)).spares a = true := by
  simp [Foot.spares, h, hh]

theorem Foot.notMem_of_spares {ps : List Part} {as : List Nat} {a : Nat} (h : (Foot.mk ps (some as)).spares a = true) : a ∉ as := by
  simp only [Foot.spares, Bool.and_eq_true, Bool.not_eq_true', List.contains_eq_mem, decide_eq_false_iff_not] at h
  exact h.1

/-- What lies outside the footprint is as before. -/
structure Frame (F : Foot) (s t : State) : Prop where
  same : ∀ p, p ∉ F.parts → p.Same s t
  word : ∀ a, F.spares a = true → t.word a = s.word a

theorem Frame.refl (F : Foot) (s : State) : Frame F s s := ⟨fun p _ => p.same_refl s, fun _ _ => rfl⟩

theorem Foot.spares_of_le {F G : Foot} (h : F.le G = true) {a : Nat} (ha : G.spares a = true) : F.spares a = true := by
  obtain ⟨ps, as⟩ := F
  obtain ⟨qs, bs⟩ := G
  cases bs with
  | none => cases ha
  | some bs =>
    cases as with
    | none => simp [Foot.le] at h
    | some as =>
      simp only [Foot.le, Foot.spares, Bool.and_eq_true, Bool.or_eq_true, List.contains_iff_mem, Bool.not_eq_true', ← Bool.not_eq_true] at h ha ⊢
      have hsub : ∀ {x : Nat}, x ∈ as → x ∈ bs := fun hm => mem_of_within (fun _ _ => Nat.eq_of_beq_eq_true) h.2 hm
      exact ⟨fun hm => ha.1 (hsub hm), ha.2.imp_right fun hh hm => hh (hsub hm)⟩

/-- An operation with a smaller footprint goes on from a state within the footprint. -/
theorem Frame.step {F G : Foot} {z s t : State} (hle : F.le G = true) (h : Frame F s t) (hz : Frame G z s) : Frame G z t := by
  refine ⟨fun p hp => Part.same_trans (hz.same p hp) (h.same p fun hf => hp ?_), fun a ha => ?_⟩
  · simp only [Foot.le, Bool.and_eq_true] at hle
    exact mem_of_within Part.eq_of_beq hle.1 hf
  · rw [h.word a (Foot.spares_of_le hle ha), hz.word a ha]

theorem Frame.mono {F G : Foot} {s t : State} (h : Frame F s t) (hle : F.le G = true) : Frame G s t := .step hle h (.refl G s)

theorem Frame.fld {F : Foot} {s t : State} (h : Frame F s t) (f : Fld) (hf : F.spares f.addr = true) : t.fld f = s.fld f := by
  rw [State.fld, State.fld, h.word _ hf]

theorem Frame.flag {F : Foot} {s t : State} (h : Frame F s t) (f : Fld) (hf : F.spares f.addr = true) : t.flag f = s.flag f := by
  rw [State.flag, State.flag, h.fld f hf]

/-- A change of components alone. -/
theorem Frame.comps {G : Foot} {z s t : State} (hs : ∀ p, p ∉ G.parts → p.Same s t) (hr : t.regs = s.regs) (hz : Frame G z s) : Frame G z t :=
  ⟨fun p hp => Part.same_trans (hz.same p hp) (hs p hp), fun a ha => by rw [word_regs, hr, ← word_regs, hz.word a ha]⟩

/-- The same of a written-out state, whose registers tell from which state it comes. -/
theorem Frame.lit {G : Foot} {z : State} (u : State) {x_sys x_hbp x_dram x_trn x_cln x_pkt x_per x_gln x_sea x_sav x_pln x_flash x_flo x_fce x_bdc x_clk x_sb x_tap x_sram x_tick x_evr x_flt x_kite x_pwr x_nv x_pending}
    (hs : ∀ p, p ∉ G.parts → p.Same u (State.mk x_sys x_hbp x_dram x_trn x_cln x_pkt x_per x_gln x_sea x_sav x_pln x_flash x_flo x_fce x_bdc x_clk x_sb x_tap x_sram u.regs x_tick x_evr x_flt x_kite x_pwr x_nv x_pending))
    (hz : Frame G z u) : Frame G z (State.mk x_sys x_hbp x_dram x_trn x_cln x_pkt x_per x_gln x_sea x_sav x_pln x_flash x_flo x_fce x_bdc x_clk x_sb x_tap x_sram u.regs x_tick x_evr x_flt x_kite x_pwr x_nv x_pending) :=
  .comps hs rfl hz

theorem frame_foldl {α : Type} {G : Foot} {z s : State} {f : State → α → State} {l : List α} (hf : ∀ u x, Frame G z u → Frame G z (f u x))
    (h : Frame G z s) : Frame G z (l.foldl f s) :=
  List.foldlRecOn (motive := Frame G z) l f h fun u hu x _ => hf u x hu

theorem frame_foldl_fst {α β : Type} {G : Foot} {z : State} {f : State × β → α → State × β} {l : List α} {s : State × β}
    (hf : ∀ u x, Frame G z u.1 → Frame G z (f u x).1) (h : Frame G z s.1) : Frame G z (l.foldl f s).1 :=
  List.foldlRecOn (motive := fun u => Frame G z u.1) l f h fun u hu x _ => hf u x hu

theorem frame_foldl_snd {α β : Type} {G : Foot} {z : State} {f : β × State → α → β × State} {l : List α} {s : β × State}
    (hf : ∀ u x, Frame G z u.2 → Frame G z (f u x).2) (h : Frame G z s.2) : Frame G z (l.foldl f s).2 :=
  List.foldlRecOn (motive := fun u => Frame G z u.2) l f h fun u hu x _ => hf u x hu

theorem frame_setWord (s : State) (a : Nat) (w : Word) : Frame ⟨[], some [a]⟩ s (s.setWord a w) := by
  refine ⟨fun p _ => by cases p <;> rfl, fun b hb => ?_⟩
  have hne : b ≠ a := fun he => Foot.notMem_of_spares hb (he ▸ List.mem_singleton_self a)
  rw [word_setWord, if_neg hne]

theorem frame_setWord_hi (s : State) (a : Nat) (w : Word) (h : 0x10000 ≤ a) : Frame ⟨[], some [highRegs]⟩ s (s.setWord a w) := by
  refine ⟨fun p _ => by cases p <;> rfl, fun b hb => ?_⟩
  have hlt : b < 0x10000 := by
    simp [Foot.spares] at hb
    exact hb.2
  rw [word_setWord, if_neg (by omega)]

theorem frame_setFld (s : State) (f : Fld) (v : Nat) : Frame ⟨[], some [f.addr]⟩ s (s.setFld f v) := frame_setWord s _ _

theorem frame_setFld_hi (s : State) (f : Fld) (v : Nat) (h : 0x10000 ≤ f.addr) : Frame ⟨[], some [highRegs]⟩ s (s.setFld f v) := frame_setWord_hi s _ _ h

theorem frame_setFld_at (s : State) (f : Fld) (v : Nat) {a : Nat} (h : f.addr = a) : Frame ⟨[], some [a]⟩ s (s.setFld f v) := h ▸ frame_setFld s f v

theorem frame_setFlag_hi (s : State) (f : Fld) (b : Bool) (h : 0x10000 ≤ f.addr) : Frame ⟨[], some [highRegs]⟩ s (s.setFlag f b) := frame_setFld_hi s f _ h

theorem frame_setFlag_at (s : State) (f : Fld) (b : Bool) {a : Nat} (h : f.addr = a) : Frame ⟨[], some [a]⟩ s (s.setFlag f b) := frame_setFld_at s f _ h

theorem frame_bump_hi (s : State) (f : Fld) (n : Nat) (h : 0x10000 ≤ f.addr) : Frame ⟨[], some [highRegs]⟩ s (s.bump f n) := frame_setFld_hi s f _ h

theorem frame_bump_at (s : State) (f : Fld) (n : Nat) {a : Nat} (h : f.addr = a) : Frame ⟨[], some [a]⟩ s (s.bump f n) := frame_setFld_at s f _ h

theorem frame_wrap_hi (s : State) (f : Fld) (n : Nat) (h : 0x10000 ≤ f.addr) : Frame ⟨[], some [highRegs]⟩ s (s.wrap f n) := frame_setFld_hi s f _ h

theorem addr_coreStateFld (c : CoreId) : (coreStateFld c).addr = 0x24004 := by cases c <;> rfl

theorem addr_coreAliveFld (c : CoreId) : (coreAliveFld c).addr = 0x24004 := by cases c <;> rfl

theorem addr_coreAgeFld (c : CoreId) : (coreAgeFld c).addr = 0x24004 := by cases c <;> rfl

theorem addr_coreColdFld (c : CoreId) : (coreColdFld c).addr = 0x24000 := by cases c <;> rfl

theorem addr_dropFld (v : Sev) : (dropFld v).addr = EVR_DROP_CRITICAL.addr := by cases v <;> rfl

theorem frame_setFlag (s : State) (f : Fld) (b : Bool) : Frame ⟨[], some [f.addr]⟩ s (s.setFlag f b) := frame_setFld s _ _

theorem frame_bump (s : State) (f : Fld) (n : Nat) : Frame ⟨[], some [f.addr]⟩ s (s.bump f n) := frame_setFld s _ _

theorem frame_wrap (s : State) (f : Fld) (n : Nat) : Frame ⟨[], some [f.addr]⟩ s (s.wrap f n) := frame_setFld s _ _

theorem frame_setBit (s : State) (f : Fld) (i : Nat) (b : Bool) : Frame ⟨[], some [f.addr]⟩ s (s.setBit f i b) := by
  unfold State.setBit
  dsimp only
  split
  · exact .refl _ s
  · split <;> exact frame_setFld s _ _

theorem frame_emitTagged (s : State) (v : Sev) (i : Bool) (c r : Nat) (p : List Byte) : Frame ⟨[.fresh, .evr], some []⟩ s (s.emitTagged v i c r p) :=
  .comps (s := s) (fun p hp => by cases p <;> first | rfl | exact absurd (by decide) hp) rfl (.refl _ s)

theorem frame_emit (s : State) (v : Sev) (c r : Nat) (p : List Byte) : Frame ⟨[.fresh, .evr], some []⟩ s (s.emit v c r p) := frame_emitTagged s ..

theorem frame_note (s : State) (c r : Nat) (p : List Byte) : Frame ⟨[.fresh, .evr], some []⟩ s (s.note c r p) := frame_emitTagged s ..

theorem frame_reportSev (s : State) (v : Sev) (k : FaultKind) (r q w : Nat) : Frame ⟨[.flt], some []⟩ s (s.reportSev v k r q w) :=
  .comps (s := s) (fun p hp => by cases p <;> first | rfl | exact absurd (by decide) hp) rfl (.refl _ s)

theorem frame_report (s : State) (k : FaultKind) (r q w : Nat) : Frame ⟨[.flt], some []⟩ s (s.report k r q w) := frame_reportSev s ..

end Sys2Proof.Proofs

/-! PROOF. What each operation of the model leaves alone. -/

namespace Sys2Proof.Proofs

open Sys2Proof.Machine Sys2Proof.Machine.Reg Sys2Proof.Laws

theorem frame_tuneRegion (s : State) (r : Nat) (v : Region) : Frame ⟨[.gln], some []⟩ s (s.tuneRegion r v) := by
  unfold State.tuneRegion
  dsimp only
  repeat' first
    | with_reducible (apply Frame.refl)
    | split
    | exact rfl
    | (fail_if_no_progress (with_reducible (apply Frame.lit)); next => intro p hp; cases p <;> first | with_reducible rfl | exact absurd (by decide) hp)

theorem frame_ledgerLater (s : State) (b : LedgerRec) : Frame ⟨[.flo], some []⟩ s (s.ledgerLater b) := by
  unfold State.ledgerLater
  dsimp only
  repeat' first
    | with_reducible (apply Frame.refl)
    | split
    | exact rfl
    | (fail_if_no_progress (with_reducible (apply Frame.lit)); next => intro p hp; cases p <;> first | with_reducible rfl | exact absurd (by decide) hp)

theorem frame_rawSeq (s : State) : Frame ⟨[.evr], some []⟩ s (s.rawSeq).2 := by
  unfold State.rawSeq
  dsimp only
  repeat' first
    | with_reducible (apply Frame.refl)
    | split
    | exact rfl
    | (fail_if_no_progress (with_reducible (apply Frame.lit)); next => intro p hp; cases p <;> first | with_reducible rfl | exact absurd (by decide) hp)

theorem frame_logPlace (s : State) (r : LogRec) : Frame ⟨[.evr], some []⟩ s (s.logPlace r) := by
  unfold State.logPlace
  dsimp only
  repeat' first
    | with_reducible (apply Frame.refl)
    | split
    | exact rfl
    | (fail_if_no_progress (with_reducible (apply Frame.lit)); next => intro p hp; cases p <;> first | with_reducible rfl | exact absurd (by decide) hp)

theorem frame_incidentSeq (s : State) (r : LogRec) : Frame ⟨[.slots, .flt], some []⟩ s (s.incidentSeq r) := by
  unfold State.incidentSeq
  dsimp only
  repeat' first
    | with_reducible (apply Frame.refl)
    | split
    | exact rfl
    | (fail_if_no_progress (with_reducible (apply Frame.lit)); next => intro p hp; cases p <;> first | with_reducible rfl | exact absurd (by decide) hp)

theorem frame_logArrive (s : State) (r : LogRec) : Frame ⟨[.fresh, .evr, .slots, .flt], some []⟩ s (s.logArrive r) := by
  unfold State.logArrive
  dsimp only
  repeat' first
    | with_reducible (apply Frame.refl)
    | with_reducible (apply Frame.step ?_ (frame_logPlace ..))
    | with_reducible (apply Frame.step ?_ (frame_incidentSeq ..))
    | split
    | exact rfl
    | (fail_if_no_progress (with_reducible (apply Frame.lit)); next => intro p hp; cases p <;> first | with_reducible rfl | exact absurd (by decide) hp)

theorem frame_rawLedger (s : State) (b : LedgerRec) : Frame ⟨[.flo, .evr], some []⟩ s (s.rawLedger b) := by
  unfold State.rawLedger
  dsimp only
  repeat' first
    | with_reducible (apply Frame.refl)
    | with_reducible (apply Frame.step ?_ (frame_rawSeq ..))
    | split
    | exact rfl
    | (fail_if_no_progress (with_reducible (apply Frame.lit)); next => intro p hp; cases p <;> first | with_reducible rfl | exact absurd (by decide) hp)

theorem frame_ensureMark (s : State) : Frame ⟨[.flo, .fresh, .evr, .slots, .flt], some [EVR_DROP_CRITICAL.addr, EVR_FENCED_CNT.addr]⟩ s (s.ensureMark) := by
  unfold State.ensureMark
  dsimp only
  repeat' first
    | with_reducible (apply Frame.refl)
    | with_reducible (apply Frame.step ?_ (frame_rawSeq ..))
    | with_reducible (apply Frame.step ?_ (frame_bump ..))
    | with_reducible (apply Frame.step ?_ (frame_logArrive ..))
    | with_reducible (apply Frame.step ?_ (frame_rawLedger ..))
    | split
    | exact rfl
    | (fail_if_no_progress (with_reducible (apply Frame.lit)); next => intro p hp; cases p <;> first | with_reducible rfl | exact absurd (by decide) hp)

theorem frame_ledger (s : State) (b : LedgerRec) : Frame ⟨[.flo, .fresh, .evr, .slots, .flt], some [EVR_DROP_CRITICAL.addr, EVR_FENCED_CNT.addr]⟩ s (s.ledger b) := by
  unfold State.ledger
  repeat' first
    | with_reducible (apply Frame.refl)
    | with_reducible (apply Frame.step ?_ (frame_ledgerLater ..))
    | with_reducible (apply Frame.step ?_ (frame_ensureMark ..))
    | with_reducible (apply Frame.step ?_ (frame_rawLedger ..))
    | split
    | exact rfl

theorem frame_numberLedger (s : State) : Frame ⟨[.flo, .evr], some []⟩ s (s.numberLedger) := by
  unfold State.numberLedger
  dsimp only
  repeat' first
    | with_reducible (apply Frame.refl)
    | with_reducible assumption
    | with_reducible (refine frame_foldl (fun u x hu => ?_) ?_)
    | split
    | exact rfl
    | (fail_if_no_progress (with_reducible (apply Frame.lit)); next => intro p hp; cases p <;> first | with_reducible rfl | exact absurd (by decide) hp)

theorem frame_writeCommit (s : State) (es : List LedgerEntry) : Frame ⟨[.commitLog, .commits, .flash], some [FLO_LEDGER_INDEX.addr]⟩ s (s.writeCommit es) := by
  unfold State.writeCommit
  dsimp only
  repeat' first
    | with_reducible (apply Frame.refl)
    | with_reducible (apply Frame.step ?_ (frame_setFld ..))
    | split
    | exact rfl
    | (fail_if_no_progress (with_reducible (apply Frame.lit)); next => intro p hp; cases p <;> first | with_reducible rfl | exact absurd (by decide) hp)

theorem frame_setUsed (s : State) (n k : Nat) : Frame ⟨[.flash], some []⟩ s (s.setUsed n k) := by
  unfold State.setUsed
  dsimp only
  repeat' first
    | with_reducible (apply Frame.refl)
    | split
    | exact rfl
    | (fail_if_no_progress (with_reducible (apply Frame.lit)); next => intro p hp; cases p <;> first | with_reducible rfl | exact absurd (by decide) hp)

theorem frame_spareCheck (s : State) : Frame ⟨[], some [FLO_STS_DIE_RETIRED.addr]⟩ s (s.spareCheck) := by
  unfold State.spareCheck
  dsimp only
  repeat' first
    | with_reducible (apply Frame.refl)
    | with_reducible (apply Frame.step ?_ (frame_setFlag ..))
    | split
    | exact rfl

theorem frame_remapColumn (s : State) (n ch page reason : Nat) : Frame ⟨[.flo, .fresh, .evr, .slots, .flt], some [FLO_STS_DIE_RETIRED.addr, EVR_DROP_CRITICAL.addr, EVR_FENCED_CNT.addr]⟩ s (s.remapColumn n ch page reason).1 := by
  unfold State.remapColumn
  split
  · exact .refl _ s
  · exact .step rfl (frame_spareCheck ..) (.step rfl (frame_ledger ..) (.refl _ s))

theorem frame_of_remapColumn {G : Foot} {z s t : State} {n ch page reason : Nat} {b : Bool} (h : s.remapColumn n ch page reason = (t, b))
    (hle : Foot.le ⟨[.flo, .fresh, .evr, .slots, .flt], some [FLO_STS_DIE_RETIRED.addr, EVR_DROP_CRITICAL.addr, EVR_FENCED_CNT.addr]⟩ G = true) (hz : Frame G z s) : Frame G z t := by
  have hf := frame_remapColumn s n ch page reason
  rw [h] at hf
  exact .step hle hf hz

theorem frame_remapWorn (s : State) (n : Nat) : Frame ⟨[.flo, .fresh, .evr, .slots, .flt], some [FLO_STS_DIE_RETIRED.addr, EVR_DROP_CRITICAL.addr, EVR_FENCED_CNT.addr]⟩ s (s.remapWorn n).1 := by
  refine frame_foldl_fst (fun acc ch h => ?_) (.refl _ s)
  dsimp only
  split
  · exact h
  · split
    · exact .step rfl (frame_remapColumn ..) h
    · split
      · exact .step rfl (frame_remapColumn ..) h
      · exact h

theorem frame_setRole (s : State) (n role : Nat) : Frame ⟨[.flo, .fresh, .evr, .slots, .flt], some [EVR_DROP_CRITICAL.addr, EVR_FENCED_CNT.addr]⟩ s (s.setRole n role) := by
  unfold State.setRole
  repeat' first
    | with_reducible (apply Frame.refl)
    | with_reducible (apply Frame.step ?_ (frame_ledger ..))
    | split
    | exact rfl

theorem frame_withdraw (s : State) (n : Nat) : Frame ⟨[.flo, .fresh, .evr, .slots, .flt], some [FLO_STS_DIE_RETIRED.addr, EVR_DROP_CRITICAL.addr, EVR_FENCED_CNT.addr]⟩ s (s.withdraw n) := by
  unfold State.withdraw
  repeat' first
    | with_reducible (apply Frame.refl)
    | with_reducible (apply Frame.step ?_ (frame_setRole ..))
    | with_reducible (apply Frame.step ?_ (frame_setFlag ..))
    | with_reducible (apply Frame.step ?_ (frame_spareCheck ..))
    | split
    | exact rfl

theorem frame_planErase (s : State) (n : Nat) (tlc : Bool) : Frame ⟨[.flo, .fresh, .evr, .slots, .flt], some [FLO_STS_DIE_RETIRED.addr, EVR_DROP_CRITICAL.addr, EVR_FENCED_CNT.addr]⟩ s (s.planErase n tlc) := by
  unfold State.planErase
  dsimp only
  repeat' first
    | with_reducible (apply Frame.refl)
    | with_reducible (apply Frame.step ?_ (frame_remapWorn ..))
    | with_reducible (apply Frame.step ?_ (frame_withdraw ..))
    | with_reducible (apply Frame.step ?_ (frame_ledger ..))
    | split
    | exact rfl
    | (fail_if_no_progress (with_reducible (apply Frame.lit)); next => intro p hp; cases p <;> first | with_reducible rfl | exact absurd (by decide) hp)

theorem frame_fillReserve (s : State) (above : Bool) (n : Nat) : Frame ⟨[.flo, .fresh, .evr, .slots, .flt], some [EVR_DROP_CRITICAL.addr, EVR_FENCED_CNT.addr]⟩ s (s.fillReserve above n) := by
  induction n generalizing s with
  | zero => exact .refl _ s
  | succ n ih =>
    unfold State.fillReserve
    split
    · split
      · exact .step rfl (ih ..) (.step rfl (frame_setRole ..) (.refl _ s))
      · exact .refl _ s
    · exact .refl _ s

theorem frame_reserveFlag (s : State) : Frame ⟨[], some [GLN_STS_ACTIVE.addr]⟩ s (s.reserveFlag) := by
  unfold State.reserveFlag
  repeat' first
    | with_reducible (apply Frame.refl)
    | with_reducible (apply Frame.step ?_ (frame_setFlag ..))
    | split
    | exact rfl

theorem frame_swathCheck (s : State) : Frame ⟨[.flt], some [FLO_STS_DIE_RETIRED.addr]⟩ s (s.swathCheck) := by
  unfold State.swathCheck
  dsimp only
  repeat' first
    | with_reducible (apply Frame.refl)
    | with_reducible (apply Frame.step ?_ (frame_setFlag ..))
    | with_reducible (apply Frame.step ?_ (frame_report ..))
    | split
    | exact rfl

theorem frame_joinPool (s : State) (n : Nat) (tlc : Bool) : Frame ⟨[.sheaves, .flash, .flo, .fresh, .evr, .slots, .flt], some [GLN_STS_ACTIVE.addr, FLO_STS_DIE_RETIRED.addr, EVR_DROP_CRITICAL.addr, EVR_FENCED_CNT.addr]⟩ s (s.joinPool n tlc) := by
  unfold State.joinPool
  dsimp only
  repeat' first
    | with_reducible (apply Frame.refl)
    | with_reducible (apply Frame.step ?_ (frame_setUsed ..))
    | with_reducible (apply Frame.step ?_ (frame_planErase ..))
    | with_reducible (apply Frame.step ?_ (frame_setRole ..))
    | with_reducible (apply Frame.step ?_ (frame_fillReserve ..))
    | with_reducible (apply Frame.step ?_ (frame_setFlag ..))
    | with_reducible (apply Frame.step ?_ (frame_reserveFlag ..))
    | with_reducible (apply Frame.step ?_ (frame_swathCheck ..))
    | split
    | exact rfl
    | (fail_if_no_progress (with_reducible (apply Frame.lit)); next => intro p hp; cases p <;> first | with_reducible rfl | exact absurd (by decide) hp)

theorem frame_confirmRecs (s : State) (es : List LedgerEntry) : Frame ⟨[.sheaves, .flash, .flo, .fresh, .evr, .slots, .flt], some [GLN_STS_ACTIVE.addr, FLO_STS_DIE_RETIRED.addr, EVR_DROP_CRITICAL.addr, EVR_FENCED_CNT.addr, EVR_MIRROR_DONE.addr]⟩ s (s.confirmRecs es) := by
  unfold State.confirmRecs
  dsimp only
  repeat' first
    | with_reducible (apply Frame.refl)
    | with_reducible (apply Frame.step ?_ (frame_wrap ..))
    | with_reducible (apply Frame.step ?_ (frame_joinPool ..))
    | with_reducible assumption
    | with_reducible (refine frame_foldl (fun u x hu => ?_) ?_)
    | split
    | exact rfl
    | (fail_if_no_progress (with_reducible (apply Frame.lit)); next => intro p hp; cases p <;> first | with_reducible rfl | exact absurd (by decide) hp)

theorem frame_takeSeq (s : State) : Frame ⟨[.flo, .fresh, .evr, .slots, .flt], some [EVR_DROP_CRITICAL.addr, EVR_FENCED_CNT.addr]⟩ s (s.takeSeq).2 := by
  unfold State.takeSeq
  repeat' first
    | with_reducible (apply Frame.refl)
    | with_reducible (apply Frame.step ?_ (frame_ensureMark ..))
    | with_reducible (apply Frame.step ?_ (frame_rawSeq ..))
    | split
    | exact rfl

theorem frame_checkpointRecs (s : State) : Frame ⟨[.flo, .fresh, .evr, .slots, .flt], some [EVR_DROP_CRITICAL.addr, EVR_FENCED_CNT.addr]⟩ s (s.checkpointRecs).2 :=
  frame_foldl_snd (fun _ _ h => .step rfl (frame_takeSeq ..) h) (.refl _ s)

theorem frame_logTake (s : State) : Frame ⟨[.flash], some []⟩ s (s.logTake).2 := by
  unfold State.logTake
  dsimp only
  repeat' first
    | with_reducible (apply Frame.refl)
    | split
    | exact rfl
    | (fail_if_no_progress (with_reducible (apply Frame.lit)); next => intro p hp; cases p <;> first | with_reducible rfl | exact absurd (by decide) hp)

theorem frame_logPut (s : State) (at' : Nat) (bs : List Byte) : Frame ⟨[.flash], some []⟩ s (s.logPut at' bs) := by
  unfold State.logPut
  dsimp only
  repeat' first
    | with_reducible (apply Frame.refl)
    | split
    | exact rfl
    | (fail_if_no_progress (with_reducible (apply Frame.lit)); next => intro p hp; cases p <;> first | with_reducible rfl | exact absurd (by decide) hp)

theorem frame_logTwice (s : State) (bs : List Byte) : Frame ⟨[.flash], some []⟩ s (s.logTwice bs).2 := by
  unfold State.logTwice
  dsimp only
  repeat' first
    | with_reducible (apply Frame.refl)
    | with_reducible (apply Frame.step ?_ (frame_logTake ..))
    | with_reducible (apply Frame.step ?_ (frame_logPut ..))
    | split
    | exact rfl

theorem frame_anchorWrite (s : State) (b : BootAnchor) : Frame ⟨[.boot, .flash], some []⟩ s (s.anchorWrite b) := by
  unfold State.anchorWrite
  dsimp only
  repeat' first
    | with_reducible (apply Frame.refl)
    | with_reducible (apply Frame.step ?_ (frame_logTwice ..))
    | split
    | exact rfl
    | (fail_if_no_progress (with_reducible (apply Frame.lit)); next => intro p hp; cases p <;> first | with_reducible rfl | exact absurd (by decide) hp)

theorem frame_logSwitch (s : State) : Frame ⟨[.images, .boot, .flash, .flo, .fresh, .evr, .slots, .flt], some [FLO_STS_DIE_RETIRED.addr, EVR_DROP_CRITICAL.addr, EVR_FENCED_CNT.addr]⟩ s (s.logSwitch) := by
  unfold State.logSwitch
  dsimp only
  repeat' first
    | with_reducible (apply Frame.refl)
    | with_reducible (apply Frame.step ?_ (frame_logTwice ..))
    | with_reducible (apply Frame.step ?_ (frame_anchorWrite ..))
    | with_reducible (apply Frame.step ?_ (frame_planErase ..))
    | with_reducible assumption
    | with_reducible (refine frame_foldl (fun u x hu => ?_) ?_)
    | split
    | exact rfl
    | (fail_if_no_progress (with_reducible (apply Frame.lit)); next => intro p hp; cases p <;> first | with_reducible rfl | exact absurd (by decide) hp)

theorem frame_writeBoot (s : State) (f : BootAnchor → BootAnchor) : Frame ⟨[.images, .boot, .flash, .flo, .fresh, .evr, .slots, .flt], some [FLO_STS_DIE_RETIRED.addr, FLO_BOOT.addr, EVR_DROP_CRITICAL.addr, EVR_FENCED_CNT.addr]⟩ s (s.writeBoot f) := by
  unfold State.writeBoot
  dsimp only
  repeat' first
    | with_reducible (apply Frame.refl)
    | with_reducible (apply Frame.step ?_ (frame_anchorWrite ..))
    | with_reducible (apply Frame.step ?_ (frame_logSwitch ..))
    | with_reducible (apply Frame.step ?_ (frame_setFld ..))
    | split
    | exact rfl

theorem frame_exchangeLedger (s : State) (n : Nat) : Frame ⟨[.flo, .fresh, .evr, .slots, .flt], some [EVR_DROP_CRITICAL.addr, EVR_FENCED_CNT.addr]⟩ s (s.exchangeLedger n) := by
  unfold State.exchangeLedger
  repeat' first
    | with_reducible (apply Frame.refl)
    | with_reducible (apply Frame.step ?_ (frame_setRole ..))
    | split
    | exact rfl

theorem frame_linkLedger (s : State) : Frame ⟨[.images, .boot, .commitLog, .commits, .flash, .flo, .fresh, .evr, .slots, .flt], some [FLO_STS_DIE_RETIRED.addr, FLO_LEDGER_INDEX.addr, FLO_BOOT.addr, EVR_DROP_CRITICAL.addr, EVR_FENCED_CNT.addr]⟩ s (s.linkLedger) := by
  unfold State.linkLedger
  dsimp only
  repeat' first
    | with_reducible (apply Frame.refl)
    | with_reducible (apply Frame.step ?_ (frame_takeSeq ..))
    | with_reducible (apply Frame.step ?_ (frame_writeCommit ..))
    | with_reducible (apply Frame.step ?_ (frame_checkpointRecs ..))
    | with_reducible (apply Frame.step ?_ (frame_setFld ..))
    | with_reducible (apply Frame.step ?_ (frame_writeBoot ..))
    | with_reducible (apply Frame.step ?_ (frame_planErase ..))
    | with_reducible (apply Frame.step ?_ (frame_exchangeLedger ..))
    | with_reducible assumption
    | with_reducible (refine frame_foldl (fun u x hu => ?_) ?_)
    | split
    | exact rfl
    | (fail_if_no_progress (with_reducible (apply Frame.lit)); next => intro p hp; cases p <;> first | with_reducible rfl | exact absurd (by decide) hp)

theorem frame_commitLedger (s : State) : Frame ⟨[.images, .sheaves, .boot, .commitLog, .commits, .flash, .flo, .fresh, .evr, .slots, .flt], some [GLN_STS_ACTIVE.addr, FLO_STS_DIE_RETIRED.addr, FLO_LEDGER_INDEX.addr, FLO_BOOT.addr, EVR_DROP_CRITICAL.addr, EVR_FENCED_CNT.addr, EVR_MIRROR_DONE.addr]⟩ s (s.commitLedger) := by
  unfold State.commitLedger
  dsimp only
  repeat' first
    | with_reducible (apply Frame.refl)
    | with_reducible (apply Frame.step ?_ (frame_numberLedger ..))
    | with_reducible (apply Frame.step ?_ (frame_writeCommit ..))
    | with_reducible (apply Frame.step ?_ (frame_confirmRecs ..))
    | with_reducible (apply Frame.step ?_ (frame_linkLedger ..))
    | with_reducible assumption
    | with_reducible (refine frame_foldl (fun u x hu => ?_) ?_)
    | split
    | exact rfl
    | (fail_if_no_progress (with_reducible (apply Frame.lit)); next => intro p hp; cases p <;> first | with_reducible rfl | exact absurd (by decide) hp)

theorem frame_commitNow (s : State) (b : LedgerRec) : Frame ⟨[.images, .sheaves, .boot, .commitLog, .commits, .flash, .flo, .fresh, .evr, .slots, .flt], some [GLN_STS_ACTIVE.addr, FLO_STS_DIE_RETIRED.addr, FLO_LEDGER_INDEX.addr, FLO_BOOT.addr, EVR_DROP_CRITICAL.addr, EVR_FENCED_CNT.addr, EVR_MIRROR_DONE.addr]⟩ s (s.commitNow b) := by
  unfold State.commitNow
  dsimp only
  repeat' first
    | with_reducible (apply Frame.refl)
    | with_reducible (apply Frame.step ?_ (frame_ledger ..))
    | with_reducible (apply Frame.step ?_ (frame_commitLedger ..))
    | split
    | exact rfl

theorem frame_setRegion (s : State) (r : Nat) (v : Region) : Frame ⟨[.gln, .images, .sheaves, .boot, .commitLog, .commits, .flash, .flo, .fresh, .evr, .slots, .flt], some [GLN_STS_ACTIVE.addr, FLO_STS_DIE_RETIRED.addr, FLO_LEDGER_INDEX.addr, FLO_BOOT.addr, EVR_DROP_CRITICAL.addr, EVR_FENCED_CNT.addr, EVR_MIRROR_DONE.addr]⟩ s (s.setRegion r v) := by
  unfold State.setRegion
  repeat' first
    | with_reducible (apply Frame.refl)
    | with_reducible (apply Frame.step ?_ (frame_tuneRegion ..))
    | with_reducible (apply Frame.step ?_ (frame_commitNow ..))
    | split
    | exact rfl

theorem frame_abandonSeals (s : State) : Frame ⟨[.gln, .sea, .images, .sheaves, .boot, .commitLog, .commits, .flash, .flo, .fresh, .evr, .slots, .flt], some [GLN_STS_ACTIVE.addr, FLO_STS_DIE_RETIRED.addr, FLO_LEDGER_INDEX.addr, FLO_BOOT.addr, EVR_DROP_CRITICAL.addr, EVR_FENCED_CNT.addr, EVR_MIRROR_DONE.addr]⟩ s (s.abandonSeals) := by
  unfold State.abandonSeals
  dsimp only
  repeat' first
    | with_reducible (apply Frame.refl)
    | with_reducible (apply Frame.step ?_ (frame_setRegion ..))
    | with_reducible (apply Frame.step ?_ (frame_note ..))
    | with_reducible assumption
    | with_reducible (refine frame_foldl (fun u x hu => ?_) ?_)
    | split
    | exact rfl
    | (fail_if_no_progress (with_reducible (apply Frame.lit)); next => intro p hp; cases p <;> first | with_reducible rfl | exact absurd (by decide) hp)

theorem frame_anchorFence (s : State) (n : Nat) : Frame ⟨[.sav, .flash], some []⟩ s (s.anchorFence n) := by
  unfold State.anchorFence
  dsimp only
  repeat' first
    | with_reducible (apply Frame.refl)
    | with_reducible (apply Frame.step ?_ (frame_logTake ..))
    | split
    | exact rfl
    | (fail_if_no_progress (with_reducible (apply Frame.lit)); next => intro p hp; cases p <;> first | with_reducible rfl | exact absurd (by decide) hp)

theorem frame_anchorPos (s : State) : Frame ⟨[.flash], some []⟩ s (s.anchorPos).2 := by
  unfold State.anchorPos
  repeat' first
    | with_reducible (apply Frame.refl)
    | with_reducible (apply Frame.step ?_ (frame_logTake ..))
    | split
    | exact rfl

theorem frame_setRailGood (s : State) (r : Nat) (b : Bool) : Frame ⟨[], some [PWR_RAIL_STS.addr, PWR_FSW_STS.addr]⟩ s (s.setRailGood r b) := by
  unfold State.setRailGood
  repeat' first
    | with_reducible (apply Frame.refl)
    | with_reducible (apply Frame.step ?_ (frame_setBit ..))
    | split
    | exact rfl

theorem frame_dropRail (s : State) (r : Nat) : Frame ⟨[.en, .pwr], some [PWR_RAIL_STS.addr, PWR_FSW_STS.addr]⟩ s (s.dropRail r) := by
  unfold State.dropRail
  dsimp only
  repeat' first
    | with_reducible (apply Frame.refl)
    | with_reducible (apply Frame.step ?_ (frame_setRailGood ..))
    | split
    | exact rfl
    | (fail_if_no_progress (with_reducible (apply Frame.lit)); next => intro p hp; cases p <;> first | with_reducible rfl | exact absurd (by decide) hp)

theorem frame_anchorRails (s : State) : Frame ⟨[.en, .pwr], some [PWR_RAIL_STS.addr, PWR_FSW_STS.addr]⟩ s (s.anchorRails) := by
  unfold State.anchorRails
  dsimp only
  repeat' first
    | with_reducible (apply Frame.refl)
    | with_reducible (apply Frame.step ?_ (frame_dropRail ..))
    | with_reducible assumption
    | with_reducible (refine frame_foldl (fun u x hu => ?_) ?_)
    | split
    | exact rfl
    | (fail_if_no_progress (with_reducible (apply Frame.lit)); next => intro p hp; cases p <;> first | with_reducible rfl | exact absurd (by decide) hp)

theorem frame_setLat (s : State) (sp : Nat) : Frame ⟨[], some [HBP_LAT_CA_LAT_EFF.addr]⟩ s (s.setLat sp) := by
  unfold State.setLat
  dsimp only
  repeat' first
    | with_reducible (apply Frame.refl)
    | with_reducible (apply Frame.step ?_ (frame_setFld ..))
    | split
    | exact rfl

theorem frame_applyCaLat (s : State) : Frame ⟨[.hbp], some [HBP_LAT_CA_LAT_EFF.addr]⟩ s (s.applyCaLat) := by
  unfold State.applyCaLat
  dsimp only
  repeat' first
    | with_reducible (apply Frame.refl)
    | with_reducible (apply Frame.step ?_ (frame_setLat ..))
    | split
    | exact rfl
    | (fail_if_no_progress (with_reducible (apply Frame.lit)); next => intro p hp; cases p <;> first | with_reducible rfl | exact absurd (by decide) hp)

theorem frame_anchorFirst (s : State) (i : Image) : Frame ⟨[.sav, .images, .flash], some []⟩ s (s.anchorFirst i) := by
  unfold State.anchorFirst
  dsimp only
  repeat' first
    | with_reducible (apply Frame.refl)
    | with_reducible (apply Frame.step ?_ (frame_logPut ..))
    | with_reducible (apply Frame.step ?_ (frame_logTake ..))
    | split
    | exact rfl
    | (fail_if_no_progress (with_reducible (apply Frame.lit)); next => intro p hp; cases p <;> first | with_reducible rfl | exact absurd (by decide) hp)

theorem frame_setD (s : State) (g : Nat) (d : Dirty) : Frame ⟨[.dirty, .flushQ, .per, .bdc], some []⟩ s (s.setD g d) := by
  unfold State.setD
  dsimp only
  repeat' first
    | with_reducible (apply Frame.refl)
    | split
    | exact rfl
    | (fail_if_no_progress (with_reducible (apply Frame.lit)); next => intro p hp; cases p <;> first | with_reducible rfl | exact absurd (by decide) hp)

theorem frame_setSmap (s : State) (g : Nat) (e : MapEntry) : Frame ⟨[.per, .gln], some []⟩ s (s.setSmap g e) := by
  unfold State.setSmap
  dsimp only
  repeat' first
    | with_reducible (apply Frame.refl)
    | split
    | exact rfl
    | (fail_if_no_progress (with_reducible (apply Frame.lit)); next => intro p hp; cases p <;> first | with_reducible rfl | exact absurd (by decide) hp)

theorem frame_setCmap (s : State) (c : Nat) (e : MapEntry) : Frame ⟨[.per], some []⟩ s (s.setCmap c e) := by
  unfold State.setCmap
  dsimp only
  repeat' first
    | with_reducible (apply Frame.refl)
    | split
    | exact rfl
    | (fail_if_no_progress (with_reducible (apply Frame.lit)); next => intro p hp; cases p <;> first | with_reducible rfl | exact absurd (by decide) hp)

theorem frame_clearAllDirty (s : State) : Frame ⟨[], some [PER_STS_ALL_DIRTY.addr]⟩ s (s.clearAllDirty) := by
  unfold State.clearAllDirty
  repeat' first
    | with_reducible (apply Frame.refl)
    | with_reducible (apply Frame.step ?_ (frame_setFlag ..))
    | with_reducible (apply Frame.step ?_ (frame_setFld ..))
    | split
    | exact rfl

theorem frame_showImage (s : State) (i : Image) : Frame ⟨[], some [PER_STS_ALL_DIRTY.addr, PER_IMG_GEN.addr, PER_IMG_EPOCH.addr, PER_IMG_F_LO.addr, PER_IMG_F_HI.addr, PER_OMITTED.addr]⟩ s (s.showImage i) := by
  unfold State.showImage
  dsimp only
  repeat' first
    | with_reducible (apply Frame.refl)
    | with_reducible (apply Frame.step ?_ (frame_setFld ..))
    | split
    | exact rfl

theorem frame_saveNowTake (s : State) (i : Image) : Frame ⟨[.exec, .pkt], some []⟩ s (s.saveNowTake i) := by
  unfold State.saveNowTake
  dsimp only
  repeat' first
    | with_reducible (apply Frame.refl)
    | split
    | exact rfl
    | (fail_if_no_progress (with_reducible (apply Frame.lit)); next => intro p hp; cases p <;> first | with_reducible rfl | exact absurd (by decide) hp)

theorem frame_channelTrained (s : State) (ch : Nat) (found : Option Word) : Frame ⟨[.flt], some [highRegs]⟩ s (s.channelTrained ch found) := by
  unfold State.channelTrained
  repeat' first
    | with_reducible (apply Frame.refl)
    | with_reducible (apply Frame.step ?_ (frame_setWord_hi _ _ _ ?_))
    | omega
    | with_reducible (apply Frame.step ?_ (frame_setFlag_hi _ (FCE_STS_TRAINED _) _ (Nat.le_add_right_of_le (by decide))))
    | with_reducible (apply Frame.step ?_ (frame_setFlag_hi _ (FCE_STS_TRAIN_FAIL _) _ (Nat.le_add_right_of_le (by decide))))
    | with_reducible (apply Frame.step ?_ (frame_setWord ..))
    | with_reducible (apply Frame.step ?_ (frame_setFlag ..))
    | with_reducible (apply Frame.step ?_ (frame_report ..))
    | split
    | exact rfl

theorem frame_setChan (s : State) (ch : Nat) (c : Chan) : Frame ⟨[.fce], some []⟩ s (s.setChan ch c) := by
  unfold State.setChan
  repeat' first
    | with_reducible (apply Frame.refl)
    | split
    | exact rfl
    | (fail_if_no_progress (with_reducible (apply Frame.lit)); next => intro p hp; cases p <;> first | with_reducible rfl | exact absurd (by decide) hp)

theorem frame_channelShadow (s : State) (ch : Nat) : Frame ⟨[.fenced, .flt], some []⟩ s (s.channelShadow ch) := by
  unfold State.channelShadow
  dsimp only
  repeat' first
    | with_reducible (apply Frame.refl)
    | split
    | exact rfl
    | (fail_if_no_progress (with_reducible (apply Frame.lit)); next => intro p hp; cases p <;> first | with_reducible rfl | exact absurd (by decide) hp)

theorem frame_channelReturn (s : State) (ch : Nat) : Frame ⟨[.fce, .fenced, .flt], some [highRegs]⟩ s (s.channelReturn ch) := by
  unfold State.channelReturn
  dsimp only
  repeat' first
    | with_reducible (apply Frame.refl)
    | with_reducible (apply Frame.step ?_ (frame_setFlag_hi _ (FCE_STS_SOFT_FENCE _) _ (Nat.le_add_right_of_le (by decide))))
    | with_reducible (apply Frame.step ?_ (frame_setFlag_hi _ (FCE_STS_FENCED _) _ (Nat.le_add_right_of_le (by decide))))
    | with_reducible (apply Frame.step ?_ (frame_setFlag ..))
    | with_reducible (apply Frame.step ?_ (frame_channelTrained ..))
    | with_reducible (apply Frame.step ?_ (frame_setChan ..))
    | with_reducible (apply Frame.step ?_ (frame_channelShadow ..))
    | split
    | exact rfl

theorem frame_channelsReturn (s : State) : Frame ⟨[.fce, .fenced, .flt], some [highRegs]⟩ s (s.channelsReturn) := by
  unfold State.channelsReturn
  repeat' first
    | with_reducible (apply Frame.refl)
    | with_reducible (apply Frame.step ?_ (frame_channelReturn ..))
    | with_reducible assumption
    | with_reducible (refine frame_foldl (fun u x hu => ?_) ?_)
    | split
    | exact rfl

theorem frame_freeStooks (s : State) : Frame ⟨[.flo, .fresh, .evr, .slots, .flt], some [EVR_DROP_CRITICAL.addr, EVR_FENCED_CNT.addr]⟩ s (s.freeStooks) := by
  unfold State.freeStooks
  dsimp only
  repeat' first
    | with_reducible (apply Frame.refl)
    | with_reducible (apply Frame.step ?_ (frame_setRole ..))
    | with_reducible assumption
    | with_reducible (refine frame_foldl (fun u x hu => ?_) ?_)
    | split
    | exact rfl

theorem frame_refill (s : State) : Frame ⟨[.flo, .fresh, .evr, .slots, .flt], some [GLN_STS_ACTIVE.addr, FLO_STS_DIE_RETIRED.addr, EVR_DROP_CRITICAL.addr, EVR_FENCED_CNT.addr]⟩ s (s.refill) := by
  unfold State.refill
  dsimp only
  repeat' first
    | with_reducible (apply Frame.refl)
    | with_reducible (apply Frame.step ?_ (frame_freeStooks ..))
    | with_reducible (apply Frame.step ?_ (frame_fillReserve ..))
    | with_reducible (apply Frame.step ?_ (frame_planErase ..))
    | with_reducible (apply Frame.step ?_ (frame_swathCheck ..))
    | with_reducible (apply Frame.step ?_ (frame_reserveFlag ..))
    | with_reducible assumption
    | with_reducible (refine frame_foldl (fun u x hu => ?_) ?_)
    | split
    | exact rfl

theorem frame_applyImage (s : State) (r : SaveRun) (i : Image) : Frame ⟨[.exec, .pkt, .dirty, .flushQ, .per, .gln, .run, .sav, .images, .flash, .flo, .fce, .bdc, .fresh, .evr, .slots, .fenced, .flt], some [PER_STS_ALL_DIRTY.addr, PER_IMG_GEN.addr, PER_IMG_EPOCH.addr, PER_IMG_F_LO.addr, PER_IMG_F_HI.addr, PER_OMITTED.addr, GLN_STS_ACTIVE.addr, SAV_STS_ABANDONED.addr, SAV_T_ANCHOR.addr, SAV_THR_GEN.addr, FLO_STS_DIE_RETIRED.addr, EVR_DROP_CRITICAL.addr, EVR_FENCED_CNT.addr, highRegs]⟩ s (s.applyImage r i) := by
  unfold State.applyImage
  dsimp only
  repeat' first
    | with_reducible (apply Frame.refl)
    | with_reducible (apply Frame.step ?_ (frame_anchorFirst ..))
    | with_reducible (apply Frame.step ?_ (frame_setD ..))
    | with_reducible (apply Frame.step ?_ (frame_setSmap ..))
    | with_reducible (apply Frame.step ?_ (frame_setCmap ..))
    | with_reducible (apply Frame.step ?_ (frame_clearAllDirty ..))
    | with_reducible (apply Frame.step ?_ (frame_showImage ..))
    | with_reducible (apply Frame.step ?_ (frame_saveNowTake ..))
    | with_reducible (apply Frame.step ?_ (frame_setFlag ..))
    | with_reducible (apply Frame.step ?_ (frame_setFld ..))
    | with_reducible (apply Frame.step ?_ (frame_channelsReturn ..))
    | with_reducible (apply Frame.step ?_ (frame_refill ..))
    | with_reducible assumption
    | with_reducible (refine frame_foldl (fun u x hu => ?_) ?_)
    | split
    | exact rfl
    | (fail_if_no_progress (with_reducible (apply Frame.lit)); next => intro p hp; cases p <;> first | with_reducible rfl | exact absurd (by decide) hp)

theorem frame_arrivalSeq (s : State) : Frame ⟨[.flo, .fresh, .evr, .slots, .flt], some [EVR_DROP_CRITICAL.addr, EVR_FENCED_CNT.addr]⟩ s (s.arrivalSeq).2 := by
  unfold State.arrivalSeq
  repeat' first
    | with_reducible (apply Frame.refl)
    | with_reducible (apply Frame.step ?_ (frame_takeSeq ..))
    | split
    | exact rfl

theorem frame_attachAttemptFailed (s : State) : Frame ⟨[.sys, .images, .sheaves, .boot, .commitLog, .commits, .flash, .flo, .fresh, .evr, .slots, .flt], some [GLN_STS_ACTIVE.addr, FLO_STS_DIE_RETIRED.addr, FLO_LEDGER_INDEX.addr, FLO_BOOT.addr, EVR_DROP_CRITICAL.addr, EVR_FENCED_CNT.addr, EVR_MIRROR_DONE.addr]⟩ s (s.attachAttemptFailed) := by
  unfold State.attachAttemptFailed
  dsimp only
  repeat' first
    | with_reducible (apply Frame.refl)
    | with_reducible (apply Frame.step ?_ (frame_commitNow ..))
    | split
    | exact rfl
    | (fail_if_no_progress (with_reducible (apply Frame.lit)); next => intro p hp; cases p <;> first | with_reducible rfl | exact absurd (by decide) hp)

theorem frame_closeRow (s : State) (i : Nat) : Frame ⟨[.rows, .hbp], some []⟩ s (s.closeRow i) := by
  unfold State.closeRow
  dsimp only
  repeat' first
    | with_reducible (apply Frame.refl)
    | split
    | exact rfl
    | (fail_if_no_progress (with_reducible (apply Frame.lit)); next => intro p hp; cases p <;> first | with_reducible rfl | exact absurd (by decide) hp)

theorem frame_autoPre (s : State) (ap : Bool) (i : Nat) : Frame ⟨[.rows, .hbp], some []⟩ s (s.autoPre ap i) := by
  unfold State.autoPre
  repeat' first
    | with_reducible (apply Frame.refl)
    | with_reducible (apply Frame.step ?_ (frame_closeRow ..))
    | split
    | exact rfl

theorem frame_dropCause (s : State) (ch : Nat) (x : FenceCause) : Frame ⟨[.fce], some []⟩ s (s.dropCause ch x) := by
  unfold State.dropCause
  dsimp only
  repeat' first
    | with_reducible (apply Frame.refl)
    | with_reducible (apply Frame.step ?_ (frame_setChan ..))
    | split
    | exact rfl

theorem frame_claimFence (s : State) (m : FaultMsg) (inc : Option Nat) : Frame ⟨[.fce], some []⟩ s (s.claimFence m inc) := by
  unfold State.claimFence
  dsimp only
  repeat' first
    | with_reducible (apply Frame.refl)
    | with_reducible (apply Frame.step ?_ (frame_dropCause ..))
    | with_reducible (apply Frame.step ?_ (frame_setChan ..))
    | split
    | exact rfl

theorem frame_clearBlocks (s : State) : Frame ⟨[], some [HBP_PAR_STS_BLOCK_A.addr]⟩ s (s.clearBlocks) := by
  unfold State.clearBlocks
  repeat' first
    | with_reducible (apply Frame.refl)
    | with_reducible (apply Frame.step ?_ (frame_setFlag ..))
    | split
    | exact rfl

theorem frame_clockBack (s : State) : Frame ⟨[], some [CLK_STS_COAST.addr]⟩ s (s.clockBack) := by
  unfold State.clockBack
  dsimp only
  repeat' first
    | with_reducible (apply Frame.refl)
    | with_reducible (apply Frame.step ?_ (frame_setFlag ..))
    | split
    | exact rfl

theorem frame_putSlot (s : State) (x : Slot) : Frame ⟨[.gln], some []⟩ s (s.putSlot x) := by
  unfold State.putSlot
  dsimp only
  repeat' first
    | with_reducible (apply Frame.refl)
    | split
    | exact rfl
    | (fail_if_no_progress (with_reducible (apply Frame.lit)); next => intro p hp; cases p <;> first | with_reducible rfl | exact absurd (by decide) hp)

theorem frame_giveAccumulators (s : State) : Frame ⟨[.gln], some []⟩ s (s.giveAccumulators) := by
  unfold State.giveAccumulators
  dsimp only
  repeat' first
    | with_reducible (apply Frame.refl)
    | split
    | exact rfl
    | (fail_if_no_progress (with_reducible (apply Frame.lit)); next => intro p hp; cases p <;> first | with_reducible rfl | exact absurd (by decide) hp)

theorem frame_takePage (s : State) (n : Nat) : Frame ⟨[.flash, .flo, .fresh, .evr, .slots, .flt], some [EVR_DROP_CRITICAL.addr, EVR_FENCED_CNT.addr]⟩ s (s.takePage n).2 := by
  unfold State.takePage
  dsimp only
  repeat' first
    | with_reducible (apply Frame.refl)
    | with_reducible (apply Frame.step ?_ (frame_setUsed ..))
    | with_reducible (apply Frame.step ?_ (frame_setRole ..))
    | split
    | exact rfl

theorem frame_allocGlean {s : State} {r : Nat × State} (h : s.allocGlean = some r) : Frame ⟨[.flash, .flo, .fresh, .evr, .slots, .flt], some [EVR_DROP_CRITICAL.addr, EVR_FENCED_CNT.addr]⟩ s r.2 := by
  unfold State.allocGlean at h
  split at h
  · cases h
    exact .step rfl (frame_takePage ..) (.refl _ s)
  · split at h
    · cases h
      exact .step rfl (frame_takePage ..) (.step rfl (frame_setRole ..) (.refl _ s))
    · cases h

theorem frame_takeGlean {s : State} {r : Nat × State} (h : s.takeGlean = some r) : Frame ⟨[.flash, .flo, .fresh, .evr, .slots, .flt], some [GLN_STS_ACTIVE.addr, EVR_DROP_CRITICAL.addr, EVR_FENCED_CNT.addr]⟩ s r.2 := by
  obtain ⟨x, hx, rfl⟩ := Option.map_eq_some_iff.1 h
  exact .step rfl (frame_reserveFlag ..) (.step rfl (frame_allocGlean hx) (.refl _ s))

theorem frame_placeSlots (s : State) : Frame ⟨[.gln, .flash, .flo, .fresh, .evr, .slots, .flt], some [GLN_STS_ACTIVE.addr, EVR_DROP_CRITICAL.addr, EVR_FENCED_CNT.addr]⟩ s s.placeSlots := by
  refine frame_foldl (fun u x hu => ?_) (.refl _ s)
  split
  · next h => exact .step rfl (frame_putSlot ..) (.step rfl (frame_takeGlean h) hu)
  · exact hu

theorem frame_handOver (s : State) : Frame ⟨[.gln, .flash, .flo, .fresh, .evr, .slots, .flt], some [GLN_STS_ACTIVE.addr, EVR_DROP_CRITICAL.addr, EVR_FENCED_CNT.addr]⟩ s (s.handOver) := by
  unfold State.handOver
  repeat' first
    | with_reducible (apply Frame.refl)
    | with_reducible (apply Frame.step ?_ (frame_giveAccumulators ..))
    | with_reducible (apply Frame.step ?_ (frame_placeSlots ..))
    | split
    | exact rfl

theorem frame_closeSlot (s : State) (x : Slot) : Frame ⟨[.gln, .flash, .flo, .fresh, .evr, .slots, .flt], some [GLN_STS_ACTIVE.addr, GLN_CNT_MERGE.addr, EVR_DROP_CRITICAL.addr, EVR_FENCED_CNT.addr]⟩ s (s.closeSlot x) := by
  unfold State.closeSlot
  dsimp only
  repeat' first
    | with_reducible (apply Frame.refl)
    | with_reducible (apply Frame.step ?_ (frame_putSlot ..))
    | with_reducible (apply Frame.step ?_ (frame_handOver ..))
    | with_reducible (apply Frame.step ?_ (frame_bump ..))
    | split
    | exact rfl

theorem frame_closeSlots (s : State) : Frame ⟨[.gln, .flash, .flo, .fresh, .evr, .slots, .flt], some [GLN_STS_ACTIVE.addr, GLN_CNT_MERGE.addr, EVR_DROP_CRITICAL.addr, EVR_FENCED_CNT.addr]⟩ s (s.closeSlots) := by
  unfold State.closeSlots
  repeat' first
    | with_reducible (apply Frame.refl)
    | with_reducible (apply Frame.step ?_ (frame_closeSlot ..))
    | with_reducible assumption
    | with_reducible (refine frame_foldl (fun u x hu => ?_) ?_)
    | split
    | exact rfl

theorem frame_coldStandby (s : State) : Frame ⟨[], some [SPT_KITE_COLD_A.addr, SPT_HB_A_AGE.addr]⟩ s (s.coldStandby) := by
  unfold State.coldStandby
  dsimp only
  repeat' first
    | with_reducible (apply Frame.refl)
    | with_reducible (apply Frame.step ?_ (frame_setFld_at _ (coreStateFld _) _ (addr_coreStateFld _)))
    | with_reducible (apply Frame.step ?_ (frame_setFlag_at _ (coreColdFld _) _ (addr_coreColdFld _)))
    | with_reducible (apply Frame.step ?_ (frame_setFld ..))
    | with_reducible (apply Frame.step ?_ (frame_setFlag ..))
    | split
    | exact rfl

theorem frame_journalled (s : State) (e : ExecPkt) (code : Nat) : Frame ⟨[.kite], some []⟩ s (s.journalled e code) := by
  unfold State.journalled
  dsimp only
  repeat' first
    | with_reducible (apply Frame.refl)
    | split
    | exact rfl
    | (fail_if_no_progress (with_reducible (apply Frame.lit)); next => intro p hp; cases p <;> first | with_reducible rfl | exact absurd (by decide) hp)

/-- The addresses of `n` consecutive registers. -/
def regRun (a : Nat) : Nat → List Nat
  | 0 => []
  | n + 1 => a :: regRun (a + 4) n

theorem frame_setBytes (s : State) (a : Nat) (bs : List Byte) (n : Nat) : Frame ⟨[], some (regRun a n)⟩ s (s.setBytes a bs n) := by
  induction n generalizing s a bs with
  | zero => exact .refl _ s
  | succ n ih =>
    refine ⟨fun p hp => Part.same_trans ((frame_setWord s a _).same p (by simp)) ((ih ..).same p (by simp)), fun b hb => ?_⟩
    have hm : b ∉ a :: regRun (a + 4) n := Foot.notMem_of_spares hb
    have hsub : ∀ l : List Nat, (∀ x ∈ l, x ∈ a :: regRun (a + 4) n) → (Foot.mk [] (some l)).spares b = true := fun l hl => by
      simp only [Foot.spares, regRun, Bool.and_eq_true, Bool.or_eq_true, Bool.not_eq_true', ← Bool.not_eq_true, List.contains_iff_mem] at hb ⊢
      exact ⟨fun h => hb.1 (hl _ h), hb.2.imp_right fun h h' => h (hl _ h')⟩
    rw [State.setBytes, (ih ..).word b (hsub _ fun x h => List.mem_cons_of_mem _ h), (frame_setWord s a _).word b (hsub _ fun x h => List.mem_singleton.1 h ▸ List.mem_cons_self)]

theorem frame_writeStatus (s : State) (p : PostStatus) : Frame ⟨[.pkt], some [PKT_MBX_STS_BUSY.addr, 0x5180, 0x5184, 0x5188, 0x518c, 0x5190, 0x5194, 0x5198, 0x519c]⟩ s (s.writeStatus p) := by
  unfold State.writeStatus
  dsimp only
  repeat' first
    | with_reducible (apply Frame.refl)
    | with_reducible (apply Frame.step ?_ (frame_setBytes ..))
    | with_reducible (apply Frame.step ?_ (frame_setFlag ..))
    | split
    | exact rfl
    | (fail_if_no_progress (with_reducible (apply Frame.lit)); next => intro p hp; cases p <;> first | with_reducible rfl | exact absurd (by decide) hp)

theorem frame_post (s : State) (p : PostStatus) : Frame ⟨[.pkt], some [PKT_MBX_STS_BUSY.addr, 0x5180, 0x5184, 0x5188, 0x518c, 0x5190, 0x5194, 0x5198, 0x519c]⟩ s (s.post p) := by
  unfold State.post
  dsimp only
  repeat' first
    | with_reducible (apply Frame.refl)
    | with_reducible (apply Frame.step ?_ (frame_writeStatus ..))
    | split
    | exact rfl
    | (fail_if_no_progress (with_reducible (apply Frame.lit)); next => intro p hp; cases p <;> first | with_reducible rfl | exact absurd (by decide) hp)

theorem frame_clearSlots (s : State) (r : Nat) : Frame ⟨[.pkt], some []⟩ s (s.clearSlots r) := by
  unfold State.clearSlots
  dsimp only
  repeat' first
    | with_reducible (apply Frame.refl)
    | split
    | exact rfl
    | (fail_if_no_progress (with_reducible (apply Frame.lit)); next => intro p hp; cases p <;> first | with_reducible rfl | exact absurd (by decide) hp)

theorem frame_setRing (s : State) (r : Nat) (v : Ring) : Frame ⟨[.pkt], some []⟩ s (s.setRing r v) := by
  unfold State.setRing
  dsimp only
  repeat' first
    | with_reducible (apply Frame.refl)
    | split
    | exact rfl
    | (fail_if_no_progress (with_reducible (apply Frame.lit)); next => intro p hp; cases p <;> first | with_reducible rfl | exact absurd (by decide) hp)

theorem frame_setRingCfg (s : State) (r : Nat) (w : Word) : Frame ⟨[.held, .pkt], some [PKT_STS_DEPTH_USED.addr]⟩ s (s.setRingCfg r w) := by
  unfold State.setRingCfg
  dsimp only
  repeat' first
    | with_reducible (apply Frame.refl)
    | with_reducible (apply Frame.step ?_ (frame_clearSlots ..))
    | with_reducible (apply Frame.step ?_ (frame_setFld ..))
    | with_reducible (apply Frame.step ?_ (frame_setRing ..))
    | split
    | exact rfl
    | (fail_if_no_progress (with_reducible (apply Frame.lit)); next => intro p hp; cases p <;> first | with_reducible rfl | exact absurd (by decide) hp)

theorem frame_ringStep (acc : State × List (Nat × Word)) (x : Nat × Word) : Frame ⟨[.held, .pkt], some [PKT_STS_DEPTH_USED.addr]⟩ acc.1 (ringStep acc x).1 := by
  unfold ringStep
  split
  · exact .refl _ _
  · exact frame_setRingCfg ..

theorem frame_ringDrain (s : State) : Frame ⟨[.held, .pkt], some [PKT_STS_DEPTH_USED.addr]⟩ s s.ringDrain :=
  .lit _ (fun p hp => by cases p <;> first | with_reducible rfl | exact absurd (by decide) hp)
    (frame_foldl_fst (fun _ _ h => .step rfl (frame_ringStep ..) h) (.refl _ s))

theorem frame_complete (s : State) (e : ExecPkt) (code : Nat) (result : List Byte) (detail : Nat) : Frame ⟨[.exec, .held, .pkt, .kite], some [PKT_STS_DEPTH_USED.addr, PKT_MBX_STS_BUSY.addr, 0x5180, 0x5184, 0x5188, 0x518c, 0x5190, 0x5194, 0x5198, 0x519c]⟩ s (s.complete e code result detail) := by
  unfold State.complete
  dsimp only
  repeat' first
    | with_reducible (apply Frame.refl)
    | with_reducible (apply Frame.step ?_ (frame_journalled ..))
    | with_reducible (apply Frame.step ?_ (frame_setFlag ..))
    | with_reducible (apply Frame.step ?_ (frame_post ..))
    | with_reducible (apply Frame.step ?_ (frame_ringDrain ..))
    | split
    | exact rfl
    | (fail_if_no_progress (with_reducible (apply Frame.lit)); next => intro p hp; cases p <;> first | with_reducible rfl | exact absurd (by decide) hp)

theorem frame_completeLive (s : State) (e : ExecPkt) (code : Nat) (result : List Byte) (detail : Nat) : Frame ⟨[.exec, .held, .pkt, .kite], some [PKT_STS_DEPTH_USED.addr, PKT_MBX_STS_BUSY.addr, 0x5180, 0x5184, 0x5188, 0x518c, 0x5190, 0x5194, 0x5198, 0x519c]⟩ s (s.completeLive e code result detail) := by
  unfold State.completeLive
  repeat' first
    | with_reducible (apply Frame.refl)
    | with_reducible (apply Frame.step ?_ (frame_complete ..))
    | split
    | exact rfl

theorem frame_planDeviation (s : State) (target port : Nat) : Frame ⟨[.fresh, .evr], some []⟩ s (s.planDeviation target port) := by
  unfold State.planDeviation
  repeat' first
    | with_reducible (apply Frame.refl)
    | with_reducible (apply Frame.step ?_ (frame_emit ..))
    | split
    | exact rfl

theorem frame_countAct (s : State) (r : BdcReq) : Frame ⟨[.bdc, .fresh, .evr], some [DCT_STS_DOUBLE_REF.addr]⟩ s (s.countAct r) := by
  unfold State.countAct
  dsimp only
  repeat' first
    | with_reducible (apply Frame.refl)
    | with_reducible (apply Frame.step ?_ (frame_setFlag ..))
    | with_reducible (apply Frame.step ?_ (frame_note ..))
    | with_reducible (apply Frame.step ?_ (frame_planDeviation ..))
    | split
    | exact rfl
    | (fail_if_no_progress (with_reducible (apply Frame.lit)); next => intro p hp; cases p <;> first | with_reducible rfl | exact absurd (by decide) hp)

theorem frame_crystalWindow (s : State) (e : PaceEnv) : Frame ⟨[.flt], some [CLK_STS_COAST.addr, CLK_XTAL.addr]⟩ s (s.crystalWindow e) := by
  unfold State.crystalWindow
  dsimp only
  repeat' first
    | with_reducible (apply Frame.refl)
    | with_reducible (apply Frame.step ?_ (frame_setFld ..))
    | with_reducible (apply Frame.step ?_ (frame_setFlag ..))
    | with_reducible (apply Frame.step ?_ (frame_report ..))
    | split
    | exact rfl

theorem frame_dramReset (s : State) : Frame ⟨[.rows, .selfRef, .hbp], some []⟩ s (s.dramReset) := by
  unfold State.dramReset
  dsimp only
  repeat' first
    | with_reducible (apply Frame.refl)
    | split
    | exact rfl
    | (fail_if_no_progress (with_reducible (apply Frame.lit)); next => intro p hp; cases p <;> first | with_reducible rfl | exact absurd (by decide) hp)

theorem frame_driveOut (s : State) (v : LineData × CheckBytes) : Frame ⟨[.hbp], some []⟩ s (s.driveOut v) := by
  unfold State.driveOut
  dsimp only
  repeat' first
    | with_reducible (apply Frame.refl)
    | split
    | exact rfl
    | (fail_if_no_progress (with_reducible (apply Frame.lit)); next => intro p hp; cases p <;> first | with_reducible rfl | exact absurd (by decide) hp)

theorem frame_endFences (s : State) (n : Nat) : Frame ⟨[.fce], some []⟩ s (s.endFences n) := by
  unfold State.endFences
  repeat' first
    | with_reducible (apply Frame.refl)
    | with_reducible (apply Frame.step ?_ (frame_dropCause ..))
    | with_reducible assumption
    | with_reducible (refine frame_foldl (fun u x hu => ?_) ?_)
    | split
    | exact rfl

theorem frame_enterMode (s : State) (m : Mode) : Frame ⟨[.mode, .sys, .fresh, .evr], some [CFG_MODE_ATTACH_PHASE.addr]⟩ s (s.enterMode m) := by
  unfold State.enterMode
  dsimp only
  repeat' first
    | with_reducible (apply Frame.refl)
    | with_reducible (apply Frame.step ?_ (frame_setFld ..))
    | with_reducible (apply Frame.step ?_ (frame_note ..))
    | split
    | exact rfl
    | (fail_if_no_progress (with_reducible (apply Frame.lit)); next => intro p hp; cases p <;> first | with_reducible rfl | exact absurd (by decide) hp)

theorem frame_enterSelfRef (s : State) : Frame ⟨[.selfRef, .hbp], some []⟩ s (s.enterSelfRef) := by
  unfold State.enterSelfRef
  dsimp only
  repeat' first
    | with_reducible (apply Frame.refl)
    | split
    | exact rfl
    | (fail_if_no_progress (with_reducible (apply Frame.lit)); next => intro p hp; cases p <;> first | with_reducible rfl | exact absurd (by decide) hp)

theorem frame_setMode (s : State) (m : Mode) : Frame ⟨[.mode, .sys, .fresh, .evr], some [CFG_MODE_ATTACH_PHASE.addr]⟩ s (s.setMode m) := by
  unfold State.setMode
  repeat' first
    | with_reducible (apply Frame.refl)
    | with_reducible (apply Frame.step ?_ (frame_enterMode ..))
    | split
    | exact rfl

theorem frame_showFails (s : State) : Frame ⟨[], some [PLN_ATTACH.addr]⟩ s (s.showFails) := by
  unfold State.showFails
  repeat' first
    | with_reducible (apply Frame.refl)
    | with_reducible (apply Frame.step ?_ (frame_setFld ..))
    | split
    | exact rfl

theorem frame_setDie (s : State) (ch d : Nat) (v : Die) : Frame ⟨[.fce], some []⟩ s (s.setDie ch d v) := by
  unfold State.setDie
  dsimp only
  repeat' first
    | with_reducible (apply Frame.refl)
    | with_reducible (apply Frame.step ?_ (frame_setChan ..))
    | split
    | exact rfl

theorem frame_fceResumeAll (s : State) : Frame ⟨[.fce], some []⟩ s (s.fceResumeAll) := by
  unfold State.fceResumeAll
  dsimp only
  repeat' first
    | with_reducible (apply Frame.refl)
    | with_reducible (apply Frame.step ?_ (frame_setDie ..))
    | with_reducible assumption
    | with_reducible (refine frame_foldl (fun u x hu => ?_) ?_)
    | split
    | exact rfl

theorem frame_packTestFail (s : State) (reason : Nat) : Frame ⟨[.flt, .pwr], some [PWR_PACK_STS_CHARGED.addr]⟩ s (s.packTestFail reason) := by
  unfold State.packTestFail
  dsimp only
  repeat' first
    | with_reducible (apply Frame.refl)
    | with_reducible (apply Frame.step ?_ (frame_setFlag ..))
    | with_reducible (apply Frame.step ?_ (frame_setFld ..))
    | with_reducible (apply Frame.step ?_ (frame_report ..))
    | split
    | exact rfl
    | (fail_if_no_progress (with_reducible (apply Frame.lit)); next => intro p hp; cases p <;> first | with_reducible rfl | exact absurd (by decide) hp)

theorem frame_packTestEnd (s : State) (reason : Nat) : Frame ⟨[.exec, .held, .pkt, .kite, .pwr], some [PKT_STS_DEPTH_USED.addr, PKT_MBX_STS_BUSY.addr, 0x5180, 0x5184, 0x5188, 0x518c, 0x5190, 0x5194, 0x5198, 0x519c]⟩ s (s.packTestEnd reason) := by
  unfold State.packTestEnd
  dsimp only
  repeat' first
    | with_reducible (apply Frame.refl)
    | with_reducible (apply Frame.step ?_ (frame_complete ..))
    | with_reducible assumption
    | with_reducible (refine frame_foldl (fun u x hu => ?_) ?_)
    | split
    | exact rfl
    | (fail_if_no_progress (with_reducible (apply Frame.lit)); next => intro p hp; cases p <;> first | with_reducible rfl | exact absurd (by decide) hp)

theorem frame_packTestStart (s : State) (k : PackTestKind) (answer : Option PackStatus) : Frame ⟨[.exec, .held, .pkt, .flt, .kite, .pwr], some [PKT_STS_DEPTH_USED.addr, PKT_MBX_STS_BUSY.addr, 0x5180, 0x5184, 0x5188, 0x518c, 0x5190, 0x5194, 0x5198, 0x519c, PWR_PACK_STS_CHARGED.addr]⟩ s (s.packTestStart k answer) := by
  unfold State.packTestStart
  dsimp only
  repeat' first
    | with_reducible (apply Frame.refl)
    | with_reducible (apply Frame.step ?_ (frame_packTestFail ..))
    | with_reducible (apply Frame.step ?_ (frame_packTestEnd ..))
    | with_reducible (apply Frame.step ?_ (frame_setFlag ..))
    | split
    | exact rfl
    | (fail_if_no_progress (with_reducible (apply Frame.lit)); next => intro p hp; cases p <;> first | with_reducible rfl | exact absurd (by decide) hp)

theorem frame_periodicStart (s : State) : Frame ⟨[.exec, .held, .pkt, .flt, .kite, .pwr], some [PKT_STS_DEPTH_USED.addr, PKT_MBX_STS_BUSY.addr, 0x5180, 0x5184, 0x5188, 0x518c, 0x5190, 0x5194, 0x5198, 0x519c, PWR_PACK_STS_CHARGED.addr]⟩ s (s.periodicStart) := by
  unfold State.periodicStart
  dsimp only
  repeat' first
    | with_reducible (apply Frame.refl)
    | with_reducible (apply Frame.step ?_ (frame_packTestStart ..))
    | split
    | exact rfl
    | (fail_if_no_progress (with_reducible (apply Frame.lit)); next => intro p hp; cases p <;> first | with_reducible rfl | exact absurd (by decide) hp)

theorem frame_enterService (s : State) : Frame ⟨[.mode, .sys, .exec, .held, .pkt, .images, .sheaves, .boot, .commitLog, .commits, .flash, .flo, .fce, .fresh, .evr, .slots, .flt, .kite, .pwr], some [CFG_MODE_ATTACH_PHASE.addr, PKT_STS_DEPTH_USED.addr, PKT_MBX_STS_BUSY.addr, 0x5180, 0x5184, 0x5188, 0x518c, 0x5190, 0x5194, 0x5198, 0x519c, GLN_STS_ACTIVE.addr, SAV_CTL_RST_DISCARD.addr, PLN_ATTACH.addr, FLO_STS_DIE_RETIRED.addr, FLO_LEDGER_INDEX.addr, FLO_BOOT.addr, PWR_PACK_STS_CHARGED.addr, EVR_DROP_CRITICAL.addr, EVR_FENCED_CNT.addr, EVR_MIRROR_DONE.addr]⟩ s (s.enterService) := by
  unfold State.enterService
  dsimp only
  repeat' first
    | with_reducible (apply Frame.refl)
    | with_reducible (apply Frame.step ?_ (frame_setMode ..))
    | with_reducible (apply Frame.step ?_ (frame_setFlag ..))
    | with_reducible (apply Frame.step ?_ (frame_ledger ..))
    | with_reducible (apply Frame.step ?_ (frame_writeBoot ..))
    | with_reducible (apply Frame.step ?_ (frame_showFails ..))
    | with_reducible (apply Frame.step ?_ (frame_commitNow ..))
    | with_reducible (apply Frame.step ?_ (frame_fceResumeAll ..))
    | with_reducible (apply Frame.step ?_ (frame_periodicStart ..))
    | split
    | exact rfl
    | (fail_if_no_progress (with_reducible (apply Frame.lit)); next => intro p hp; cases p <;> first | with_reducible rfl | exact absurd (by decide) hp)

theorem frame_mbBatch (s : State) : Frame ⟨[.pwr], some []⟩ s (s.mbBatch) := by
  unfold State.mbBatch
  dsimp only
  repeat' first
    | with_reducible (apply Frame.refl)
    | with_reducible assumption
    | with_reducible (refine frame_foldl (fun u x hu => ?_) ?_)
    | split
    | exact rfl
    | (fail_if_no_progress (with_reducible (apply Frame.lit)); next => intro p hp; cases p <;> first | with_reducible rfl | exact absurd (by decide) hp)

theorem frame_raiseStage (s : State) (st : Nat) : Frame ⟨[.en, .pwr], some [PWR_SEQ_STS_BACKOFF.addr]⟩ s (s.raiseStage st) := by
  unfold State.raiseStage
  dsimp only
  repeat' first
    | with_reducible (apply Frame.refl)
    | with_reducible (apply Frame.step ?_ (frame_setFld ..))
    | with_reducible assumption
    | with_reducible (refine frame_foldl (fun u x hu => ?_) ?_)
    | split
    | exact rfl
    | (fail_if_no_progress (with_reducible (apply Frame.lit)); next => intro p hp; cases p <;> first | with_reducible rfl | exact absurd (by decide) hp)

theorem frame_showHead (s : State) : Frame ⟨[], some [SEA_HEAD_SEQ_LO.addr, SEA_HEAD_SEQ_HI.addr, 0x8070, 0x8074, 0x8078, 0x807c, 0x8080, 0x8084, 0x8088, 0x808c]⟩ s (s.showHead) := by
  unfold State.showHead
  repeat' first
    | with_reducible (apply Frame.refl)
    | with_reducible (apply Frame.step ?_ (frame_setFld ..))
    | with_reducible (apply Frame.step ?_ (frame_setBytes ..))
    | split
    | exact rfl

theorem frame_format (s : State) (e : BootEnv) : Frame ⟨[.images, .sheaves, .boot, .twins, .chain, .commitLog, .commits, .flash, .flo, .fresh, .evr, .slots, .flt], some [SEA_HEAD_SEQ_LO.addr, SEA_HEAD_SEQ_HI.addr, 0x8070, 0x8074, 0x8078, 0x807c, 0x8080, 0x8084, 0x8088, 0x808c, FLO_STS_DIE_RETIRED.addr, FLO_LEDGER_INDEX.addr, FLO_BOOT.addr, EVR_DROP_CRITICAL.addr, EVR_FENCED_CNT.addr]⟩ s (s.format e) := by
  unfold State.format
  dsimp only
  repeat' first
    | with_reducible (apply Frame.refl)
    | with_reducible (apply Frame.step ?_ (frame_ledger ..))
    | with_reducible (apply Frame.step ?_ (frame_remapColumn ..))
    | with_reducible (apply Frame.step ?_ (frame_withdraw ..))
    | with_reducible (apply Frame.step ?_ (frame_writeCommit ..))
    | with_reducible (apply Frame.step ?_ (frame_setFld ..))
    | with_reducible (apply Frame.step ?_ (frame_anchorWrite ..))
    | with_reducible (apply Frame.step ?_ (frame_showHead ..))
    | with_reducible (apply Frame.step ?_ (frame_setFlag ..))
    | with_reducible assumption
    | with_reducible (refine frame_foldl (fun u x hu => ?_) ?_)
    | split
    | exact rfl
    | (fail_if_no_progress (with_reducible (apply Frame.lit)); next => intro p hp; cases p <;> first | with_reducible rfl | exact absurd (by decide) hp)
    | refine frame_of_remapColumn (by assumption) rfl ?_

theorem frame_fixEpoch (s : State) (n : Nat) : Frame ⟨[.evr], some [EVR_STS_EPOCH_SET.addr, EVR_EPOCH.addr]⟩ s (s.fixEpoch n) := by
  unfold State.fixEpoch
  dsimp only
  repeat' first
    | with_reducible (apply Frame.refl)
    | with_reducible (apply Frame.step ?_ (frame_setFld ..))
    | with_reducible (apply Frame.step ?_ (frame_setFlag ..))
    | split
    | exact rfl
    | (fail_if_no_progress (with_reducible (apply Frame.lit)); next => intro p hp; cases p <;> first | with_reducible rfl | exact absurd (by decide) hp)

theorem frame_showGens (s : State) : Frame ⟨[], some [PLN_STS_ACTIVATING.addr, PLN_GEN_ACTIVE.addr, PLN_GEN_PREV.addr, PLN_GEN_STAGED.addr, PLN_GEN_HIGH.addr, PLN_ATTACH.addr]⟩ s (s.showGens) := by
  unfold State.showGens
  dsimp only
  repeat' first
    | with_reducible (apply Frame.refl)
    | with_reducible (apply Frame.step ?_ (frame_setFld ..))
    | with_reducible (apply Frame.step ?_ (frame_setFlag ..))
    | split
    | exact rfl

theorem frame_searchFlag (s : State) : Frame ⟨[], some [CLK_STS_COAST.addr]⟩ s (s.searchFlag) := by
  unfold State.searchFlag
  repeat' first
    | with_reducible (apply Frame.refl)
    | with_reducible (apply Frame.step ?_ (frame_setFlag ..))
    | split
    | exact rfl

theorem frame_lockF (s : State) : Frame ⟨[.clk], some [CLK_STS_COAST.addr]⟩ s (s.lockF) := by
  unfold State.lockF
  dsimp only
  repeat' first
    | with_reducible (apply Frame.refl)
    | with_reducible (apply Frame.step ?_ (frame_setFlag ..))
    | with_reducible (apply Frame.step ?_ (frame_searchFlag ..))
    | split
    | exact rfl
    | (fail_if_no_progress (with_reducible (apply Frame.lit)); next => intro p hp; cases p <;> first | with_reducible rfl | exact absurd (by decide) hp)

theorem frame_releaseCores (s : State) : Frame ⟨[.sys, .clk, .kite], some [CLK_STS_COAST.addr, SPT_HB_A_AGE.addr]⟩ s (s.releaseCores) := by
  unfold State.releaseCores
  dsimp only
  repeat' first
    | with_reducible (apply Frame.refl)
    | with_reducible (apply Frame.step ?_ (frame_setFld ..))
    | with_reducible (apply Frame.step ?_ (frame_lockF ..))
    | split
    | exact rfl
    | (fail_if_no_progress (with_reducible (apply Frame.lit)); next => intro p hp; cases p <;> first | with_reducible rfl | exact absurd (by decide) hp)

theorem frame_autoRevert (s : State) (b : BootAnchor) : Frame ⟨[.fresh, .evr, .flt], some [PLN_STS_ACTIVATING.addr]⟩ s (s.autoRevert b).1 := by
  unfold State.autoRevert
  dsimp only
  repeat' first
    | with_reducible (apply Frame.refl)
    | with_reducible (apply Frame.step ?_ (frame_report ..))
    | with_reducible (apply Frame.step ?_ (frame_setFlag ..))
    | with_reducible (apply Frame.step ?_ (frame_emit ..))
    | split
    | exact rfl

theorem frame_applyIf (s : State) (ch : Nat) : Frame ⟨[.fce], some [highRegs]⟩ s (s.applyIf ch) := by
  unfold State.applyIf
  dsimp only
  repeat' first
    | with_reducible (apply Frame.refl)
    | with_reducible (apply Frame.step ?_ (frame_setWord_hi _ _ _ ?_))
    | omega
    | with_reducible (apply Frame.step ?_ (frame_setWord ..))
    | with_reducible (apply Frame.step ?_ (frame_setChan ..))
    | with_reducible assumption
    | with_reducible (refine frame_foldl (fun u x hu => ?_) ?_)
    | split
    | exact rfl

theorem frame_writeIf (s : State) (ch reg : Nat) (v : Word) : Frame ⟨[.fce], some [highRegs]⟩ s (s.writeIf ch reg v).1 := by
  unfold State.writeIf
  dsimp only
  repeat' first
    | with_reducible (apply Frame.refl)
    | with_reducible (apply Frame.step ?_ (frame_setFlag_hi _ (FCE_STS_WAIT_REFUSED _) _ (Nat.le_add_right_of_le (by decide))))
    | with_reducible (apply Frame.step ?_ (frame_setChan ..))
    | with_reducible (apply Frame.step ?_ (frame_applyIf ..))
    | with_reducible (apply Frame.step ?_ (frame_setFlag ..))
    | split
    | exact rfl

theorem frame_writeUserSp (s : State) (u : Nat) (v : Word) : Frame ⟨[.trn, .clk], none⟩ s (s.writeUserSp u v) := by
  unfold State.writeUserSp
  dsimp only
  repeat' first
    | with_reducible (apply Frame.refl)
    | with_reducible (apply Frame.step ?_ (frame_setFld_at _ (hostRec _) _ rfl))
    | with_reducible (apply Frame.step ?_ (frame_setFld_at _ (dramRec _) _ rfl))
    | with_reducible (apply Frame.step ?_ (frame_setFld ..))
    | split
    | exact rfl
    | (fail_if_no_progress (with_reducible (apply Frame.lit)); next => intro p hp; cases p <;> first | with_reducible rfl | exact absurd (by decide) hp)

theorem frame_storeWord (s : State) (sp : Bool) (a : Nat) (v : Word) : Frame ⟨[], none⟩ s (s.storeWord sp a v) := by
  unfold State.storeWord
  dsimp only
  repeat' first
    | with_reducible (apply Frame.refl)
    | with_reducible (apply Frame.step ?_ (frame_setWord ..))
    | with_reducible assumption
    | with_reducible (refine frame_foldl (fun u x hu => ?_) ?_)
    | split
    | exact rfl

theorem frame_unverifySeals (s : State) : Frame ⟨[.gln], some []⟩ s (s.unverifySeals) := by
  unfold State.unverifySeals
  dsimp only
  repeat' first
    | with_reducible (apply Frame.refl)
    | split
    | exact rfl
    | (fail_if_no_progress (with_reducible (apply Frame.lit)); next => intro p hp; cases p <;> first | with_reducible rfl | exact absurd (by decide) hp)

theorem frame_verifyKept (s : State) (was : Bool) : Frame ⟨[.gln], some []⟩ s (s.verifyKept was) := by
  unfold State.verifyKept
  dsimp only
  repeat' first
    | with_reducible (apply Frame.refl)
    | with_reducible (apply Frame.step ?_ (frame_unverifySeals ..))
    | split
    | exact rfl
    | (fail_if_no_progress (with_reducible (apply Frame.lit)); next => intro p hp; cases p <;> first | with_reducible rfl | exact absurd (by decide) hp)

theorem frame_loadSetting (s : State) (x : Nat × Word) : Frame ⟨[.trn, .gln, .fce, .clk, .flt], none⟩ s (s.loadSetting x) := by
  unfold State.loadSetting
  dsimp only
  repeat' first
    | with_reducible (apply Frame.refl)
    | with_reducible (apply Frame.step ?_ (frame_writeIf ..))
    | with_reducible (apply Frame.step ?_ (frame_report ..))
    | with_reducible (apply Frame.step ?_ (frame_writeUserSp ..))
    | with_reducible (apply Frame.step ?_ (frame_storeWord ..))
    | with_reducible (apply Frame.step ?_ (frame_verifyKept ..))
    | split
    | exact rfl

theorem frame_loadConfig (s : State) (m : List Byte) : Frame ⟨[.trn, .gln, .image, .pln, .fce, .clk, .flt], none⟩ s (s.loadConfig m) := by
  unfold State.loadConfig
  dsimp only
  repeat' first
    | with_reducible (apply Frame.refl)
    | with_reducible (apply Frame.step ?_ (frame_setFld ..))
    | with_reducible (apply Frame.step ?_ (frame_loadSetting ..))
    | with_reducible assumption
    | with_reducible (refine frame_foldl (fun u x hu => ?_) ?_)
    | split
    | exact rfl
    | (fail_if_no_progress (with_reducible (apply Frame.lit)); next => intro p hp; cases p <;> first | with_reducible rfl | exact absurd (by decide) hp)

theorem frame_loadSsc (s : State) (v : Word) : Frame ⟨[.flt], some [CLK_STS_COAST.addr, CLK_SSC_D_DEPTH.addr]⟩ s (s.loadSsc v) := by
  unfold State.loadSsc
  dsimp only
  repeat' first
    | with_reducible (apply Frame.refl)
    | with_reducible (apply Frame.step ?_ (frame_setFld ..))
    | with_reducible (apply Frame.step ?_ (frame_setFlag ..))
    | with_reducible (apply Frame.step ?_ (frame_report ..))
    | split
    | exact rfl

theorem frame_loadCold (s : State) (m : List Byte) : Frame ⟨[.flt], some [PKT_PAP_BASE.addr, PKT_SAP_BASE.addr, GLN_RESERVE_FREE.addr, CLK_STS_COAST.addr, CLK_SSC_D_DEPTH.addr]⟩ s (s.loadCold m) := by
  unfold State.loadCold
  dsimp only
  repeat' first
    | with_reducible (apply Frame.refl)
    | with_reducible (apply Frame.step ?_ (frame_setFlag ..))
    | with_reducible (apply Frame.step ?_ (frame_setFld ..))
    | with_reducible (apply Frame.step ?_ (frame_loadSsc ..))
    | split
    | exact rfl

theorem frame_bootFrom (s : State) (b : BootAnchor) (bad : BitVec 6) : Frame ⟨[.sys, .trn, .gln, .image, .pln, .images, .sheaves, .boot, .commitLog, .commits, .flash, .flo, .fce, .clk, .fresh, .evr, .slots, .flt, .kite], none⟩ s (s.bootFrom b bad) := by
  unfold State.bootFrom
  dsimp only
  repeat' first
    | with_reducible (apply Frame.refl)
    | with_reducible (apply Frame.step ?_ (frame_setFlag ..))
    | with_reducible (apply Frame.step ?_ (frame_releaseCores ..))
    | with_reducible (apply Frame.step ?_ (frame_loadConfig ..))
    | with_reducible (apply Frame.step ?_ (frame_loadCold ..))
    | with_reducible (apply Frame.step ?_ (frame_commitNow ..))
    | split
    | exact rfl
    | (fail_if_no_progress (with_reducible (apply Frame.lit)); next => intro p hp; cases p <;> first | with_reducible rfl | exact absurd (by decide) hp)

theorem frame_showDeadline (s : State) (code d dk e : Nat) (keeper : Bool) : Frame ⟨[], some [PLN_STS_ACTIVATING.addr, PLN_DEADLINE.addr, PLN_DEADLINE_K.addr, PLN_ENERGY.addr]⟩ s (s.showDeadline code d dk e keeper) := by
  unfold State.showDeadline
  repeat' first
    | with_reducible (apply Frame.refl)
    | with_reducible (apply Frame.step ?_ (frame_setFld ..))
    | with_reducible (apply Frame.step ?_ (frame_setFlag ..))
    | split
    | exact rfl

theorem frame_noteRefusal (s : State) (code detail : Nat) : Frame ⟨[], some [PLN_REFUSE_CODE.addr]⟩ s (s.noteRefusal code detail) := by
  unfold State.noteRefusal
  repeat' first
    | with_reducible (apply Frame.refl)
    | with_reducible (apply Frame.step ?_ (frame_setFld ..))
    | split
    | exact rfl

theorem frame_reportAdmission (s : State) (m : List Byte) (v : Verdict) : Frame ⟨[.pln, .fresh, .evr], some [GLN_LIFE_PROJ.addr, PLN_STS_ACTIVATING.addr, PLN_DEADLINE.addr, PLN_DEADLINE_K.addr, PLN_ENERGY.addr, PLN_REFUSE_CODE.addr]⟩ s (s.reportAdmission m v) := by
  unfold State.reportAdmission
  dsimp only
  repeat' first
    | with_reducible (apply Frame.refl)
    | with_reducible (apply Frame.step ?_ (frame_showDeadline ..))
    | with_reducible (apply Frame.step ?_ (frame_setFld ..))
    | with_reducible (apply Frame.step ?_ (frame_noteRefusal ..))
    | with_reducible (apply Frame.step ?_ (frame_emit ..))
    | with_reducible (apply Frame.step ?_ (frame_note ..))
    | split
    | exact rfl
    | (fail_if_no_progress (with_reducible (apply Frame.lit)); next => intro p hp; cases p <;> first | with_reducible rfl | exact absurd (by decide) hp)

theorem frame_setPackShort (s : State) (short : Bool) (ps : SMap (Nat × Nat × Nat × Nat)) (d dk : Nat) : Frame ⟨[.flt], some [PER_STS_ALL_DIRTY.addr, PLN_STS_ACTIVATING.addr, PLN_BUDGET.addr, PLN_BUDGET_K.addr]⟩ s (s.setPackShort short ps d dk) := by
  unfold State.setPackShort
  dsimp only
  repeat' first
    | with_reducible (apply Frame.refl)
    | with_reducible (apply Frame.step ?_ (frame_setFlag ..))
    | with_reducible (apply Frame.step ?_ (frame_setFld ..))
    | with_reducible (apply Frame.step ?_ (frame_report ..))
    | split
    | exact rfl

theorem frame_inForce (s : State) (v : Verdict) : Frame ⟨[.flt], some [CFG_MODE_ATTACH_PHASE.addr, PER_STS_ALL_DIRTY.addr, PLN_STS_ACTIVATING.addr, PLN_BUDGET.addr, PLN_BUDGET_K.addr]⟩ s (s.inForce v) := by
  unfold State.inForce
  dsimp only
  repeat' first
    | with_reducible (apply Frame.refl)
    | with_reducible (apply Frame.step ?_ (frame_setFlag ..))
    | with_reducible (apply Frame.step ?_ (frame_report ..))
    | with_reducible (apply Frame.step ?_ (frame_setPackShort ..))
    | split
    | exact rfl

theorem frame_admitActive (s : State) : Frame ⟨[.pln, .fresh, .evr, .flt], some [CFG_MODE_ATTACH_PHASE.addr, PER_STS_ALL_DIRTY.addr, GLN_LIFE_PROJ.addr, PLN_STS_ACTIVATING.addr, PLN_DEADLINE.addr, PLN_DEADLINE_K.addr, PLN_ENERGY.addr, PLN_BUDGET.addr, PLN_BUDGET_K.addr, PLN_REFUSE_CODE.addr]⟩ s (s.admitActive) := by
  unfold State.admitActive
  dsimp only
  repeat' first
    | with_reducible (apply Frame.refl)
    | with_reducible (apply Frame.step ?_ (frame_setFlag ..))
    | with_reducible (apply Frame.step ?_ (frame_reportAdmission ..))
    | with_reducible (apply Frame.step ?_ (frame_inForce ..))
    | split
    | exact rfl

theorem frame_revertAdmit (s : State) : Frame ⟨[.pln, .images, .sheaves, .boot, .commitLog, .commits, .flash, .flo, .fresh, .evr, .slots, .flt], some [CFG_MODE_ATTACH_PHASE.addr, PER_STS_ALL_DIRTY.addr, GLN_STS_ACTIVE.addr, GLN_LIFE_PROJ.addr, PLN_STS_ACTIVATING.addr, PLN_DEADLINE.addr, PLN_DEADLINE_K.addr, PLN_ENERGY.addr, PLN_BUDGET.addr, PLN_BUDGET_K.addr, PLN_REFUSE_CODE.addr, FLO_STS_DIE_RETIRED.addr, FLO_LEDGER_INDEX.addr, FLO_BOOT.addr, EVR_DROP_CRITICAL.addr, EVR_FENCED_CNT.addr, EVR_MIRROR_DONE.addr]⟩ s (s.revertAdmit) := by
  unfold State.revertAdmit
  dsimp only
  repeat' first
    | with_reducible (apply Frame.refl)
    | with_reducible (apply Frame.step ?_ (frame_admitActive ..))
    | with_reducible (apply Frame.step ?_ (frame_commitNow ..))
    | split
    | exact rfl

theorem frame_bootLoad (s : State) (e : BootEnv) : Frame ⟨[.sys, .trn, .gln, .image, .pln, .images, .sheaves, .boot, .twins, .chain, .commitLog, .commits, .flash, .flo, .fce, .clk, .fresh, .evr, .slots, .flt, .kite], none⟩ s (s.bootLoad e) := by
  unfold State.bootLoad
  dsimp only
  repeat' first
    | with_reducible (apply Frame.refl)
    | with_reducible (apply Frame.step ?_ (frame_setFld ..))
    | with_reducible (apply Frame.step ?_ (frame_format ..))
    | with_reducible (apply Frame.step ?_ (frame_fixEpoch ..))
    | with_reducible (apply Frame.step ?_ (frame_showGens ..))
    | with_reducible (apply Frame.step ?_ (frame_setFlag ..))
    | with_reducible (apply Frame.step ?_ (frame_releaseCores ..))
    | with_reducible (apply Frame.step ?_ (frame_autoRevert ..))
    | with_reducible (apply Frame.step ?_ (frame_anchorWrite ..))
    | with_reducible (apply Frame.step ?_ (frame_bootFrom ..))
    | with_reducible (apply Frame.step ?_ (frame_revertAdmit ..))
    | split
    | exact rfl

theorem frame_seqDone (s : State) (boot : BootEnv) : Frame ⟨[.sys, .trn, .gln, .image, .pln, .images, .sheaves, .boot, .twins, .chain, .commitLog, .commits, .flash, .flo, .fce, .clk, .fresh, .evr, .slots, .flt, .kite, .pwr], none⟩ s (s.seqDone boot) := by
  unfold State.seqDone
  dsimp only
  repeat' first
    | with_reducible (apply Frame.refl)
    | with_reducible (apply Frame.step ?_ (frame_setFld ..))
    | with_reducible (apply Frame.step ?_ (frame_bootLoad ..))
    | split
    | exact rfl
    | (fail_if_no_progress (with_reducible (apply Frame.lit)); next => intro p hp; cases p <;> first | with_reducible rfl | exact absurd (by decide) hp)

theorem frame_seqAdvance (s : State) (boot : BootEnv) (n : Nat) : Frame ⟨[.sys, .trn, .gln, .image, .pln, .images, .sheaves, .boot, .twins, .chain, .commitLog, .commits, .flash, .flo, .fce, .clk, .fresh, .evr, .slots, .flt, .kite, .en, .pwr], none⟩ s (s.seqAdvance boot n) := by
  induction n generalizing s with
  | zero => exact .refl _ s
  | succ n ih =>
    unfold State.seqAdvance
    dsimp only
    split
    · exact .refl _ s
    · split
      · exact .step rfl (frame_setFld ..) (.refl _ s)
      · split
        · exact .step rfl (frame_seqDone ..) (.refl _ s)
        · exact .step rfl (ih ..) (.step rfl (frame_raiseStage ..) (.refl _ s))

theorem frame_resequence (s : State) : Frame ⟨[.sys, .trn, .gln, .image, .pln, .images, .sheaves, .boot, .twins, .chain, .commitLog, .commits, .flash, .flo, .fce, .clk, .fresh, .evr, .slots, .flt, .kite, .en, .pwr], none⟩ s (s.resequence) := by
  unfold State.resequence
  dsimp only
  repeat' first
    | with_reducible (apply Frame.refl)
    | with_reducible (apply Frame.step ?_ (frame_setFlag ..))
    | with_reducible (apply Frame.step ?_ (frame_mbBatch ..))
    | with_reducible (apply Frame.step ?_ (frame_raiseStage ..))
    | with_reducible (apply Frame.step ?_ (frame_seqAdvance ..))
    | with_reducible (apply Frame.step ?_ (frame_setFld ..))
    | split
    | exact rfl

/-- Outside power-up the sequencer brings no boot. -/
theorem frame_seqAdvance_running (s : State) (boot : BootEnv) (n : Nat) (hm : s.sys.mode ≠ .powerUp) :
    Frame ⟨[.en, .pwr], some [PWR_SEQ_STS_STAGE.addr]⟩ s (s.seqAdvance boot n) := by
  induction n generalizing s with
  | zero => exact .refl _ s
  | succ n ih =>
    have hdone : Frame ⟨[.en, .pwr], some [PWR_SEQ_STS_STAGE.addr]⟩ s (s.seqDone boot) := by
      have hin : ∀ t : State, t.sys.mode = s.sys.mode → t.inMode [.powerUp] = false := fun t ht => by simp [State.inMode, ht, hm]
      rw [State.seqDone]
      dsimp only
      split
      · next h => exact absurd h (Bool.eq_false_iff.1 (hin _ rfl))
      · exact .step rfl (frame_setFld ..) (.lit s (fun p hp => by cases p <;> first | with_reducible rfl | exact absurd (by decide) hp) (.refl _ s))
    rw [State.seqAdvance]
    dsimp only
    split
    · exact .refl _ s
    · split
      · exact .step rfl (frame_setFld ..) (.refl _ s)
      · split
        · exact hdone
        · exact .step rfl (ih _ hm) (.step rfl (frame_raiseStage ..) (.refl _ s))

/-- In rebound the sequence is taken up again without a boot (R388). -/
theorem frame_resequence_running (s : State) (hm : s.sys.mode ≠ .powerUp) :
    Frame ⟨[.en, .pwr], some [PWR_FEED_STS_A_BELOW.addr, PWR_SEQ_STS_STAGE.addr]⟩ s s.resequence := by
  rw [State.resequence]
  split
  · exact .refl _ s
  · dsimp only
    split
    · exact .step rfl (frame_seqAdvance_running _ noBoot 9 hm) (.step rfl (frame_raiseStage ..) (.step rfl (frame_mbBatch ..) (.step rfl (frame_setFlag ..) (.refl _ s))))
    · exact .step rfl (frame_setFld ..) (.step rfl (frame_mbBatch ..) (.step rfl (frame_setFlag ..) (.refl _ s)))

theorem preHandover_mode {s : State} (h : s.preHandover = true) : s.sys.mode ≠ .powerUp := by
  intro hm
  simp [State.preHandover, hm] at h

theorem frame_feedAIn (s : State) : Frame ⟨[.en, .pwr], some [PWR_FEED_STS_A_BELOW.addr, PWR_SEQ_STS_STAGE.addr]⟩ s (s.feedAIn) := by
  have hu : Frame ⟨[.en, .pwr], some [PWR_FEED_STS_A_BELOW.addr, PWR_SEQ_STS_STAGE.addr]⟩ s { s with pwr := { s.pwr with aHigh := false } } :=
    .lit s (fun p hp => by cases p <;> first | with_reducible rfl | exact absurd (by decide) hp) (.refl _ s)
  rw [State.feedAIn]
  dsimp only
  split
  · next h =>
    simp only [Bool.and_eq_true] at h
    obtain ⟨⟨⟨-, hpre⟩, -⟩, -⟩ := h
    exact .step rfl (frame_resequence_running _ (preHandover_mode hpre)) hu
  · exact hu

theorem frame_gateBOn (s : State) : Frame ⟨[], some [PWR_FEED_STS_A_BELOW.addr]⟩ s (s.gateBOn) := by
  unfold State.gateBOn
  repeat' first
    | with_reducible (apply Frame.refl)
    | with_reducible (apply Frame.step ?_ (frame_setFlag ..))
    | split
    | exact rfl

theorem frame_feedBIn (s : State) : Frame ⟨[], some [PWR_FEED_STS_A_BELOW.addr]⟩ s (s.feedBIn) := by
  unfold State.feedBIn
  dsimp only
  repeat' first
    | with_reducible (apply Frame.refl)
    | with_reducible (apply Frame.step ?_ (frame_setFlag ..))
    | with_reducible (apply Frame.step ?_ (frame_gateBOn ..))
    | split
    | exact rfl

theorem frame_setPtr (s : State) (ch d b : Nat) (m : Bool) (p : Option Nat) : Frame ⟨[.fce], some []⟩ s (s.setPtr ch d b m p) := by
  unfold State.setPtr
  dsimp only
  repeat' first
    | with_reducible (apply Frame.refl)
    | with_reducible (apply Frame.step ?_ (frame_setDie ..))
    | split
    | exact rfl

theorem frame_ptrUnknown (s : State) (ch d b : Nat) : Frame ⟨[.fce], some []⟩ s (s.ptrUnknown ch d b) := by
  unfold State.ptrUnknown
  repeat' first
    | with_reducible (apply Frame.refl)
    | with_reducible (apply Frame.step ?_ (frame_setPtr ..))
    | split
    | exact rfl

theorem frame_putEar (s : State) (key : Nat) (e : Ear) : Frame ⟨[.flash], some []⟩ s (s.putEar key e) := by
  unfold State.putEar
  dsimp only
  repeat' first
    | with_reducible (apply Frame.refl)
    | split
    | exact rfl
    | (fail_if_no_progress (with_reducible (apply Frame.lit)); next => intro p hp; cases p <;> first | with_reducible rfl | exact absurd (by decide) hp)

theorem frame_voidEar (s : State) (key : Nat) : Frame ⟨[.flash], some []⟩ s (s.voidEar key) := by
  unfold State.voidEar
  repeat' first
    | with_reducible (apply Frame.refl)
    | with_reducible (apply Frame.step ?_ (frame_putEar ..))
    | split
    | exact rfl

theorem frame_rawComplete (s : State) (ch : Nat) (desc bytes : List Byte) : Frame ⟨[.exec, .held, .pkt, .kite], some [PKT_STS_DEPTH_USED.addr, PKT_MBX_STS_BUSY.addr, 0x5180, 0x5184, 0x5188, 0x518c, 0x5190, 0x5194, 0x5198, 0x519c]⟩ s (s.rawComplete ch desc bytes) := by
  unfold State.rawComplete
  repeat' first
    | with_reducible (apply Frame.refl)
    | with_reducible (apply Frame.step ?_ (frame_complete ..))
    | split
    | exact rfl

theorem frame_postCpl (s : State) (ch d : Nat) (desc : List Byte) (c : Cpl) : Frame ⟨[.exec, .held, .pkt, .fce, .kite], some [PKT_STS_DEPTH_USED.addr, PKT_MBX_STS_BUSY.addr, 0x5180, 0x5184, 0x5188, 0x518c, 0x5190, 0x5194, 0x5198, 0x519c, highRegs]⟩ s (s.postCpl ch d desc c) := by
  have hc : ∀ (f : Fld) (code : Nat), cplCounter ch code = some f → 0x10000 ≤ f.addr := by
    intro f code h
    unfold cplCounter at h
    split at h <;> cases h <;> exact Nat.le_add_right_of_le (by decide)
  have hk : ∀ (t : State) (code : Nat), Frame ⟨[.exec, .held, .pkt, .fce, .kite], some [PKT_STS_DEPTH_USED.addr, PKT_MBX_STS_BUSY.addr, 0x5180, 0x5184, 0x5188, 0x518c, 0x5190, 0x5194, 0x5198, 0x519c, highRegs]⟩ s t → Frame ⟨[.exec, .held, .pkt, .fce, .kite], some [PKT_STS_DEPTH_USED.addr, PKT_MBX_STS_BUSY.addr, 0x5180, 0x5184, 0x5188, 0x518c, 0x5190, 0x5194, 0x5198, 0x519c, highRegs]⟩ s (match cplCounter ch code with | some f => t.bump f 1 | none => t) := by
    intro t code ht
    cases h : cplCounter ch code with
    | none => exact ht
    | some f => exact .step rfl (frame_bump_hi _ f _ (hc f code h)) ht
  unfold State.postCpl
  dsimp only
  generalize (ite (c.status = 0) _ _ : Cpl) = x
  refine Frame.step ?_ (frame_rawComplete ..) ?_
  · exact rfl
  split
  · refine Frame.step ?_ (frame_setFld_hi _ (FCE_MAXCORR_HIGH ch) _ (Nat.le_add_right_of_le (by decide))) (Frame.step ?_ (frame_setFld_hi _ (FCE_MAXCORR_LAST ch) _ (Nat.le_add_right_of_le (by decide))) (hk _ _ ?_))
    · exact rfl
    · exact rfl
    · exact Frame.step rfl (frame_wrap_hi _ (FCE_CNT_CPL ch) _ (Nat.le_add_right_of_le (by decide))) (Frame.step rfl (frame_setChan ..) (.refl _ s))
  · exact hk _ _ (Frame.step rfl (frame_wrap_hi _ (FCE_CNT_CPL ch) _ (Nat.le_add_right_of_le (by decide))) (Frame.step rfl (frame_setChan ..) (.refl _ s)))

theorem frame_fenceEngine (s : State) (ch : Nat) : Frame ⟨[.exec, .held, .pkt, .flash, .fce, .kite], some [PKT_STS_DEPTH_USED.addr, PKT_MBX_STS_BUSY.addr, 0x5180, 0x5184, 0x5188, 0x518c, 0x5190, 0x5194, 0x5198, 0x519c, highRegs]⟩ s (s.fenceEngine ch) := by
  unfold State.fenceEngine
  dsimp only
  repeat' first
    | with_reducible (apply Frame.refl)
    | with_reducible (apply Frame.step ?_ (frame_setFlag_hi _ (FCE_STS_FENCED _) _ (Nat.le_add_right_of_le (by decide))))
    | with_reducible (apply Frame.step ?_ (frame_setFlag ..))
    | with_reducible (apply Frame.step ?_ (frame_setDie ..))
    | with_reducible (apply Frame.step ?_ (frame_ptrUnknown ..))
    | with_reducible (apply Frame.step ?_ (frame_voidEar ..))
    | with_reducible (apply Frame.step ?_ (frame_postCpl ..))
    | with_reducible assumption
    | with_reducible (refine frame_foldl (fun u x hu => ?_) ?_)
    | split
    | exact rfl

theorem frame_turnFrom (s : State) (die : Nat) : Frame ⟨[.flash], some []⟩ s (s.turnFrom die) := by
  unfold State.turnFrom
  dsimp only
  repeat' first
    | with_reducible (apply Frame.refl)
    | split
    | exact rfl
    | (fail_if_no_progress (with_reducible (apply Frame.lit)); next => intro p hp; cases p <;> first | with_reducible rfl | exact absurd (by decide) hp)

theorem frame_allocNarrow {s t : State} {tlc : Bool} {kmap : List Nat} {j a : Nat} {m m' : SMap Nat} {rows : List Nat}
    (h : s.allocNarrow tlc kmap j m = some (a, rows, m', t)) : Frame ⟨[.flash, .flo, .fresh, .evr, .slots, .flt], some [EVR_DROP_CRITICAL.addr, EVR_FENCED_CNT.addr]⟩ s t := by
  obtain ⟨x, -, hx⟩ := Option.map_eq_some_iff.1 h
  obtain ⟨-, -, -, rfl⟩ : _ ∧ _ ∧ _ ∧ _ := by simpa only [Prod.mk.injEq] using hx
  split
  · exact .step rfl (frame_setRole ..) (.step rfl (frame_turnFrom ..) (.step rfl (frame_setUsed ..) (.refl _ s)))
  · exact .step rfl (frame_turnFrom ..) (.step rfl (frame_setUsed ..) (.refl _ s))

theorem frame_allocSwath {s t : State} {a : Nat} (h : s.allocSwath = some (a, t)) : Frame ⟨[.flash, .flo, .fresh, .evr, .slots, .flt], some [EVR_DROP_CRITICAL.addr, EVR_FENCED_CNT.addr]⟩ s t := by
  obtain ⟨x, -, hx⟩ := Option.map_eq_some_iff.1 h
  obtain ⟨-, rfl⟩ := Prod.mk.inj hx
  exact .step rfl (frame_turnFrom ..) (.step rfl (frame_takePage ..) (.refl _ s))

theorem frame_formRecord (s : State) (plan : Nat) (kmap : List Nat) (j : Nat) (m : SMap Nat) : Frame ⟨[.flash, .flo, .fresh, .evr, .slots, .flt], some [EVR_DROP_CRITICAL.addr, EVR_FENCED_CNT.addr]⟩ s (s.formRecord plan kmap j m) := by
  unfold State.formRecord
  repeat' first
    | with_reducible (apply Frame.refl)
    | with_reducible (apply Frame.step ?_ (frame_ledger ..))
    | split
    | exact rfl

theorem frame_payOwed (s : State) : Frame ⟨[], some [DCT_CNT_REF_ISSUED.addr]⟩ s (s.payOwed) := by
  unfold State.payOwed
  repeat' first
    | with_reducible (apply Frame.refl)
    | with_reducible (apply Frame.step ?_ (frame_wrap ..))
    | split
    | exact rfl

theorem frame_giveDram (s : State) : Frame ⟨[.bdc], some [DCT_STS_DOUBLE_REF.addr, DCT_CNT_REF_ISSUED.addr, CLK_STS_COAST.addr]⟩ s (s.giveDram) := by
  unfold State.giveDram
  dsimp only
  repeat' first
    | with_reducible (apply Frame.refl)
    | with_reducible (apply Frame.step ?_ (frame_payOwed ..))
    | with_reducible (apply Frame.step ?_ (frame_setFld ..))
    | with_reducible (apply Frame.step ?_ (frame_setFlag ..))
    | with_reducible (apply Frame.step ?_ (frame_clockBack ..))
    | split
    | exact rfl
    | (fail_if_no_progress (with_reducible (apply Frame.lit)); next => intro p hp; cases p <;> first | with_reducible rfl | exact absurd (by decide) hp)

theorem frame_dropSlots (s : State) (g : Nat) : Frame ⟨[.gln], some []⟩ s (s.dropSlots g) := by
  unfold State.dropSlots
  dsimp only
  repeat' first
    | with_reducible (apply Frame.refl)
    | split
    | exact rfl
    | (fail_if_no_progress (with_reducible (apply Frame.lit)); next => intro p hp; cases p <;> first | with_reducible rfl | exact absurd (by decide) hp)

theorem frame_setRepair (s : State) (g st : Nat) : Frame ⟨[.gln], some []⟩ s (s.setRepair g st) := by
  unfold State.setRepair
  dsimp only
  repeat' first
    | with_reducible (apply Frame.refl)
    | split
    | exact rfl
    | (fail_if_no_progress (with_reducible (apply Frame.lit)); next => intro p hp; cases p <;> first | with_reducible rfl | exact absurd (by decide) hp)

theorem frame_failClose (s : State) (r code detail : Nat) : Frame ⟨[.exec, .held, .pkt, .gln, .sea, .images, .sheaves, .boot, .commitLog, .commits, .flash, .flo, .fresh, .evr, .slots, .flt, .kite], some [PKT_STS_DEPTH_USED.addr, PKT_MBX_STS_BUSY.addr, 0x5180, 0x5184, 0x5188, 0x518c, 0x5190, 0x5194, 0x5198, 0x519c, GLN_STS_ACTIVE.addr, FLO_STS_DIE_RETIRED.addr, FLO_LEDGER_INDEX.addr, FLO_BOOT.addr, EVR_DROP_CRITICAL.addr, EVR_FENCED_CNT.addr, EVR_MIRROR_DONE.addr]⟩ s (s.failClose r code detail) := by
  unfold State.failClose
  dsimp only
  repeat' first
    | with_reducible (apply Frame.refl)
    | with_reducible (apply Frame.step ?_ (frame_setRegion ..))
    | with_reducible (apply Frame.step ?_ (frame_completeLive ..))
    | with_reducible assumption
    | with_reducible (refine frame_foldl (fun u x hu => ?_) ?_)
    | split
    | exact rfl
    | (fail_if_no_progress (with_reducible (apply Frame.lit)); next => intro p hp; cases p <;> first | with_reducible rfl | exact absurd (by decide) hp)

theorem frame_sealLoss (s : State) (g : Nat) : Frame ⟨[.exec, .held, .pkt, .gln, .sea, .images, .sheaves, .boot, .commitLog, .commits, .flash, .flo, .fresh, .evr, .slots, .flt, .kite], some [PKT_STS_DEPTH_USED.addr, PKT_MBX_STS_BUSY.addr, 0x5180, 0x5184, 0x5188, 0x518c, 0x5190, 0x5194, 0x5198, 0x519c, GLN_STS_ACTIVE.addr, FLO_STS_DIE_RETIRED.addr, FLO_LEDGER_INDEX.addr, FLO_BOOT.addr, EVR_DROP_CRITICAL.addr, EVR_FENCED_CNT.addr, EVR_MIRROR_DONE.addr]⟩ s (s.sealLoss g) := by
  unfold State.sealLoss
  repeat' first
    | with_reducible (apply Frame.refl)
    | with_reducible (apply Frame.step ?_ (frame_failClose ..))
    | with_reducible assumption
    | with_reducible (refine frame_foldl (fun u x hu => ?_) ?_)
    | split
    | exact rfl

theorem frame_gleanLoss (s : State) (g st : Nat) (move : Bool) : Frame ⟨[.exec, .held, .pkt, .dirty, .flushQ, .per, .gln, .sea, .images, .sheaves, .boot, .commitLog, .commits, .flash, .flo, .bdc, .fresh, .evr, .slots, .flt, .kite], some [PKT_STS_DEPTH_USED.addr, PKT_MBX_STS_BUSY.addr, 0x5180, 0x5184, 0x5188, 0x518c, 0x5190, 0x5194, 0x5198, 0x519c, GLN_STS_ACTIVE.addr, FLO_STS_DIE_RETIRED.addr, FLO_LEDGER_INDEX.addr, FLO_BOOT.addr, EVR_DROP_CRITICAL.addr, EVR_FENCED_CNT.addr, EVR_MIRROR_DONE.addr]⟩ s (s.gleanLoss g st move) := by
  unfold State.gleanLoss
  dsimp only
  repeat' first
    | with_reducible (apply Frame.refl)
    | with_reducible (apply Frame.step ?_ (frame_dropSlots ..))
    | with_reducible (apply Frame.step ?_ (frame_setRepair ..))
    | with_reducible (apply Frame.step ?_ (frame_note ..))
    | with_reducible (apply Frame.step ?_ (frame_setD ..))
    | with_reducible (apply Frame.step ?_ (frame_sealLoss ..))
    | split
    | exact rfl

theorem frame_gleanFenceChannel (s : State) (ch : Nat) : Frame ⟨[.exec, .held, .pkt, .dirty, .flushQ, .per, .gln, .sea, .images, .sheaves, .boot, .commitLog, .commits, .flash, .flo, .bdc, .fresh, .evr, .slots, .flt, .kite], some [PKT_STS_DEPTH_USED.addr, PKT_MBX_STS_BUSY.addr, 0x5180, 0x5184, 0x5188, 0x518c, 0x5190, 0x5194, 0x5198, 0x519c, GLN_STS_ACTIVE.addr, FLO_STS_DIE_RETIRED.addr, FLO_LEDGER_INDEX.addr, FLO_BOOT.addr, EVR_DROP_CRITICAL.addr, EVR_FENCED_CNT.addr, EVR_MIRROR_DONE.addr]⟩ s (s.gleanFenceChannel ch) := by
  unfold State.gleanFenceChannel
  dsimp only
  repeat' first
    | with_reducible (apply Frame.refl)
    | with_reducible (apply Frame.step ?_ (frame_gleanLoss ..))
    | with_reducible assumption
    | with_reducible (refine frame_foldl (fun u x hu => ?_) ?_)
    | split
    | exact rfl

theorem frame_putSheaf (s : State) (a : Nat) (v : Sheaf) : Frame ⟨[.sheaves, .flash], some []⟩ s (s.putSheaf a v) := by
  unfold State.putSheaf
  dsimp only
  repeat' first
    | with_reducible (apply Frame.refl)
    | split
    | exact rfl
    | (fail_if_no_progress (with_reducible (apply Frame.lit)); next => intro p hp; cases p <;> first | with_reducible rfl | exact absurd (by decide) hp)

theorem frame_gleanSheaf (s : State) (a g st : Nat) (strict rep : Bool) (data : SMap LineData) (chk : SMap CheckBytes) : Frame ⟨[.gln, .sheaves, .flash], some []⟩ s (s.gleanSheaf a g st strict rep data chk) := by
  unfold State.gleanSheaf
  dsimp only
  repeat' first
    | with_reducible (apply Frame.refl)
    | with_reducible (apply Frame.step ?_ (frame_putSheaf ..))
    | split
    | exact rfl
    | (fail_if_no_progress (with_reducible (apply Frame.lit)); next => intro p hp; cases p <;> first | with_reducible rfl | exact absurd (by decide) hp)

theorem frame_runFrom (s : State) (check : Bool) : Frame ⟨[.trn], some [TRN_STS_ABANDONED.addr]⟩ s (s.runFrom check) := by
  unfold State.runFrom
  dsimp only
  repeat' first
    | with_reducible (apply Frame.refl)
    | with_reducible (apply Frame.step ?_ (frame_setFld ..))
    | with_reducible (apply Frame.step ?_ (frame_setFlag ..))
    | split
    | exact rfl
    | (fail_if_no_progress (with_reducible (apply Frame.lit)); next => intro p hp; cases p <;> first | with_reducible rfl | exact absurd (by decide) hp)

theorem frame_trainRun (s : State) : Frame ⟨[.trn], some [TRN_STS_ABANDONED.addr]⟩ s (s.trainRun) := by
  unfold State.trainRun
  dsimp only
  repeat' first
    | with_reducible (apply Frame.refl)
    | with_reducible (apply Frame.step ?_ (frame_setFlag ..))
    | with_reducible (apply Frame.step ?_ (frame_runFrom ..))
    | split
    | exact rfl
    | (fail_if_no_progress (with_reducible (apply Frame.lit)); next => intro p hp; cases p <;> first | with_reducible rfl | exact absurd (by decide) hp)

theorem frame_hLocked (s : State) : Frame ⟨[.trn], some [TRN_STS_ABANDONED.addr, CLK_STS_COAST.addr]⟩ s (s.hLocked) := by
  unfold State.hLocked
  dsimp only
  repeat' first
    | with_reducible (apply Frame.refl)
    | with_reducible (apply Frame.step ?_ (frame_setFlag ..))
    | with_reducible (apply Frame.step ?_ (frame_clockBack ..))
    | with_reducible (apply Frame.step ?_ (frame_trainRun ..))
    | split
    | exact rfl
    | (fail_if_no_progress (with_reducible (apply Frame.lit)); next => intro p hp; cases p <;> first | with_reducible rfl | exact absurd (by decide) hp)

theorem frame_harvestFence (s : State) (ch : Nat) : Frame ⟨[.dirty, .flushQ, .per, .bdc], some []⟩ s (s.harvestFence ch) := by
  unfold State.harvestFence
  dsimp only
  repeat' first
    | with_reducible (apply Frame.refl)
    | with_reducible (apply Frame.step ?_ (frame_setD ..))
    | with_reducible assumption
    | with_reducible (refine frame_foldl (fun u x hu => ?_) ?_)
    | split
    | exact rfl
    | (fail_if_no_progress (with_reducible (apply Frame.lit)); next => intro p hp; cases p <;> first | with_reducible rfl | exact absurd (by decide) hp)

theorem frame_hasherLine (s : State) (ma : Nat) : Frame ⟨[.bdc], some []⟩ s (s.hasherLine ma) := by
  unfold State.hasherLine
  dsimp only
  repeat' first
    | with_reducible (apply Frame.refl)
    | split
    | exact rfl
    | (fail_if_no_progress (with_reducible (apply Frame.lit)); next => intro p hp; cases p <;> first | with_reducible rfl | exact absurd (by decide) hp)

theorem frame_lockDAt (s : State) (sp : Nat) : Frame ⟨[.clk], some [CLK_STS_COAST.addr]⟩ s (s.lockDAt sp) := by
  unfold State.lockDAt
  dsimp only
  repeat' first
    | with_reducible (apply Frame.refl)
    | with_reducible (apply Frame.step ?_ (frame_setFlag ..))
    | with_reducible (apply Frame.step ?_ (frame_searchFlag ..))
    | split
    | exact rfl
    | (fail_if_no_progress (with_reducible (apply Frame.lit)); next => intro p hp; cases p <;> first | with_reducible rfl | exact absurd (by decide) hp)

theorem frame_hopD (s : State) (sp : Nat) : Frame ⟨[.clk], some [CLK_STS_COAST.addr]⟩ s (s.hopD sp) := by
  unfold State.hopD
  dsimp only
  repeat' first
    | with_reducible (apply Frame.refl)
    | with_reducible (apply Frame.step ?_ (frame_lockDAt ..))
    | split
    | exact rfl
    | (fail_if_no_progress (with_reducible (apply Frame.lit)); next => intro p hp; cases p <;> first | with_reducible rfl | exact absurd (by decide) hp)

theorem frame_incidentRecord (s : State) (code : Nat) (i : Incident) (st : Nat) : Frame ⟨[.fresh, .evr], some []⟩ s (s.incidentRecord code i st) := by
  unfold State.incidentRecord
  repeat' first
    | with_reducible (apply Frame.refl)
    | with_reducible (apply Frame.step ?_ (frame_emitTagged ..))
    | split
    | exact rfl

theorem frame_intervalTaken (s : State) (t : Nat) : Frame ⟨[.bdc], some [DCT_STS_DOUBLE_REF.addr]⟩ s (s.intervalTaken t) := by
  unfold State.intervalTaken
  dsimp only
  repeat' first
    | with_reducible (apply Frame.refl)
    | with_reducible (apply Frame.step ?_ (frame_setFlag ..))
    | split
    | exact rfl
    | (fail_if_no_progress (with_reducible (apply Frame.lit)); next => intro p hp; cases p <;> first | with_reducible rfl | exact absurd (by decide) hp)

theorem frame_takeHostWork (s : State) : Frame ⟨[.trn], some []⟩ s (s.takeHostWork) := by
  unfold State.takeHostWork
  dsimp only
  repeat' first
    | with_reducible (apply Frame.refl)
    | with_reducible assumption
    | with_reducible (refine frame_foldl (fun u x hu => ?_) ?_)
    | split
    | exact rfl
    | (fail_if_no_progress (with_reducible (apply Frame.lit)); next => intro p hp; cases p <;> first | with_reducible rfl | exact absurd (by decide) hp)

theorem frame_ledgerTraining (s : State) (sp side : Nat) : Frame ⟨[.flo, .fresh, .evr, .slots, .flt], some [EVR_DROP_CRITICAL.addr, EVR_FENCED_CNT.addr]⟩ s (s.ledgerTraining sp side) := by
  unfold State.ledgerTraining
  repeat' first
    | with_reducible (apply Frame.refl)
    | with_reducible (apply Frame.step ?_ (frame_ledger ..))
    | split
    | exact rfl

theorem frame_setRecord (s : State) (f : Fld) (v : Nat) : Frame ⟨[.flo, .fresh, .evr, .slots, .flt], none⟩ s (s.setRecord f v) := by
  unfold State.setRecord
  dsimp only
  repeat' first
    | with_reducible (apply Frame.refl)
    | with_reducible (apply Frame.step ?_ (frame_setFld ..))
    | with_reducible (apply Frame.step ?_ (frame_ledgerTraining ..))
    | split
    | exact rfl

theorem frame_judgeHost (s : State) : Frame ⟨[.trn, .flo, .fresh, .evr, .slots, .flt], none⟩ s (s.judgeHost) := by
  unfold State.judgeHost
  repeat' first
    | with_reducible (apply Frame.refl)
    | with_reducible (apply Frame.step ?_ (frame_takeHostWork ..))
    | with_reducible (apply Frame.step ?_ (frame_setRecord ..))
    | split
    | exact rfl

theorem frame_landed (s : State) (n : Nat) : Frame ⟨[.gln], some []⟩ s (s.landed n) := by
  unfold State.landed
  dsimp only
  repeat' first
    | with_reducible (apply Frame.refl)
    | split
    | exact rfl
    | (fail_if_no_progress (with_reducible (apply Frame.lit)); next => intro p hp; cases p <;> first | with_reducible rfl | exact absurd (by decide) hp)

theorem frame_setPhase (s : State) (p : Phase) : Frame ⟨[.sys], some []⟩ s (s.setPhase p) := by
  unfold State.setPhase
  dsimp only
  repeat' first
    | with_reducible (apply Frame.refl)
    | split
    | exact rfl
    | (fail_if_no_progress (with_reducible (apply Frame.lit)); next => intro p hp; cases p <;> first | with_reducible rfl | exact absurd (by decide) hp)

theorem frame_learnBegin (s : State) : Frame ⟨[.sys, .cln, .gln], some [CLN_STS_AFFINE.addr, CLN_PROGRESS_FOLDS.addr, CLN_FOLD_PRES.addr, CLN_FOLD_NZ.addr, CLN_FOLD_HI_NZ32.addr, CLN_DIGEST.addr]⟩ s (s.learnBegin) := by
  unfold State.learnBegin
  dsimp only
  repeat' first
    | with_reducible (apply Frame.refl)
    | with_reducible (apply Frame.step ?_ (frame_unverifySeals ..))
    | with_reducible (apply Frame.step ?_ (frame_setPhase ..))
    | with_reducible (apply Frame.step ?_ (frame_setWord ..))
    | with_reducible (apply Frame.step ?_ (frame_setFld ..))
    | with_reducible assumption
    | with_reducible (refine frame_foldl (fun u x hu => ?_) ?_)
    | split
    | exact rfl
    | (fail_if_no_progress (with_reducible (apply Frame.lit)); next => intro p hp; cases p <;> first | with_reducible rfl | exact absurd (by decide) hp)

theorem frame_learnFail (s : State) (reason : Nat) : Frame ⟨[.cln, .fresh, .evr], some [CLN_STS_AFFINE.addr]⟩ s (s.learnFail reason) := by
  unfold State.learnFail
  dsimp only
  repeat' first
    | with_reducible (apply Frame.refl)
    | with_reducible (apply Frame.step ?_ (frame_setFld ..))
    | with_reducible (apply Frame.step ?_ (frame_note ..))
    | split
    | exact rfl
    | (fail_if_no_progress (with_reducible (apply Frame.lit)); next => intro p hp; cases p <;> first | with_reducible rfl | exact absurd (by decide) hp)

theorem frame_learnStop (s : State) (reason : Nat) : Frame ⟨[.cln, .fresh, .evr], some [CLN_STS_AFFINE.addr]⟩ s (s.learnStop reason) := by
  unfold State.learnStop
  repeat' first
    | with_reducible (apply Frame.refl)
    | with_reducible (apply Frame.step ?_ (frame_learnFail ..))
    | split
    | exact rfl

theorem frame_leaveSelfRef (s : State) : Frame ⟨[.selfRef, .hbp], some []⟩ s (s.leaveSelfRef) := by
  unfold State.leaveSelfRef
  dsimp only
  repeat' first
    | with_reducible (apply Frame.refl)
    | split
    | exact rfl
    | (fail_if_no_progress (with_reducible (apply Frame.lit)); next => intro p hp; cases p <;> first | with_reducible rfl | exact absurd (by decide) hp)

theorem frame_loadMaps (s : State) (i : Image) : Frame ⟨[.per, .gln], some []⟩ s (s.loadMaps i) := by
  unfold State.loadMaps
  dsimp only
  repeat' first
    | with_reducible (apply Frame.refl)
    | split
    | exact rfl
    | (fail_if_no_progress (with_reducible (apply Frame.lit)); next => intro p hp; cases p <;> first | with_reducible rfl | exact absurd (by decide) hp)

theorem frame_lockH (s : State) : Frame ⟨[.clk], some [CLK_STS_COAST.addr]⟩ s (s.lockH) := by
  unfold State.lockH
  dsimp only
  repeat' first
    | with_reducible (apply Frame.refl)
    | with_reducible (apply Frame.step ?_ (frame_setFlag ..))
    | with_reducible (apply Frame.step ?_ (frame_searchFlag ..))
    | split
    | exact rfl
    | (fail_if_no_progress (with_reducible (apply Frame.lit)); next => intro p hp; cases p <;> first | with_reducible rfl | exact absurd (by decide) hp)

theorem frame_loopAbort (s : State) : Frame ⟨[.hbp], some [HBP_LOOP_STS_BUSY.addr, CLK_STS_COAST.addr]⟩ s (s.loopAbort) := by
  unfold State.loopAbort
  dsimp only
  repeat' first
    | with_reducible (apply Frame.refl)
    | with_reducible (apply Frame.step ?_ (frame_setFlag ..))
    | with_reducible (apply Frame.step ?_ (frame_clockBack ..))
    | split
    | exact rfl
    | (fail_if_no_progress (with_reducible (apply Frame.lit)); next => intro p hp; cases p <;> first | with_reducible rfl | exact absurd (by decide) hp)

theorem frame_loopHome (s : State) : Frame ⟨[.clk], some [CLK_STS_COAST.addr]⟩ s (s.loopHome) := by
  unfold State.loopHome
  repeat' first
    | with_reducible (apply Frame.refl)
    | with_reducible (apply Frame.step ?_ (frame_hopD ..))
    | split
    | exact rfl

theorem frame_lowerStage (s : State) (st : Nat) : Frame ⟨[.en, .pwr], some [PWR_RAIL_STS.addr, PWR_FSW_STS.addr, PWR_SEQ_STS_BACKOFF.addr]⟩ s (s.lowerStage st) := by
  unfold State.lowerStage
  dsimp only
  repeat' first
    | with_reducible (apply Frame.refl)
    | with_reducible (apply Frame.step ?_ (frame_setRailGood ..))
    | with_reducible (apply Frame.step ?_ (frame_setFld ..))
    | with_reducible assumption
    | with_reducible (refine frame_foldl (fun u x hu => ?_) ?_)
    | split
    | exact rfl
    | (fail_if_no_progress (with_reducible (apply Frame.lit)); next => intro p hp; cases p <;> first | with_reducible rfl | exact absurd (by decide) hp)

theorem frame_lullEntry (s : State) (f : Nat) : Frame ⟨[.mode, .sys, .per, .gln, .flash, .flo, .fresh, .evr, .slots, .fenced, .flt], some [CFG_MODE_ATTACH_PHASE.addr, GLN_STS_ACTIVE.addr, GLN_CNT_MERGE.addr, EVR_DROP_CRITICAL.addr, EVR_FENCED_CNT.addr]⟩ s (s.lullEntry f) := by
  unfold State.lullEntry
  dsimp only
  repeat' first
    | with_reducible (apply Frame.refl)
    | with_reducible (apply Frame.step ?_ (frame_setMode ..))
    | with_reducible (apply Frame.step ?_ (frame_closeSlots ..))
    | split
    | exact rfl
    | (fail_if_no_progress (with_reducible (apply Frame.lit)); next => intro p hp; cases p <;> first | with_reducible rfl | exact absurd (by decide) hp)

theorem frame_threshPause (s : State) : Frame ⟨[], some [SAV_STS_ABANDONED.addr]⟩ s (s.threshPause) := by
  unfold State.threshPause
  repeat' first
    | with_reducible (apply Frame.refl)
    | with_reducible (apply Frame.step ?_ (frame_setFld ..))
    | split
    | exact rfl

theorem frame_lullExit (s : State) : Frame ⟨[.mode, .sys, .hbp, .clk, .fresh, .evr], some [CFG_MODE_ATTACH_PHASE.addr, HBP_LAT_CA_LAT_EFF.addr, HBP_LOOP_STS_BUSY.addr, SAV_STS_ABANDONED.addr, CLK_STS_COAST.addr]⟩ s (s.lullExit) := by
  unfold State.lullExit
  repeat' first
    | with_reducible (apply Frame.refl)
    | with_reducible (apply Frame.step ?_ (frame_loopAbort ..))
    | with_reducible (apply Frame.step ?_ (frame_threshPause ..))
    | with_reducible (apply Frame.step ?_ (frame_setMode ..))
    | with_reducible (apply Frame.step ?_ (frame_loopHome ..))
    | with_reducible (apply Frame.step ?_ (frame_applyCaLat ..))
    | split
    | exact rfl

theorem frame_chainTake (s : State) (n : Nat) : Frame ⟨[.flash], some []⟩ s (s.chainTake n).2 := by
  induction n generalizing s with
  | zero => exact .refl _ s
  | succ n ih => exact .step rfl (ih ..) (.lit s (fun p hp => by cases p <;> first | with_reducible rfl | exact absurd (by decide) hp) (.refl _ s))

theorem frame_chainRoom (s : State) : Frame ⟨[.flo, .fresh, .evr, .slots, .flt], some [EVR_DROP_CRITICAL.addr, EVR_FENCED_CNT.addr]⟩ s (s.chainRoom) := by
  unfold State.chainRoom
  dsimp only
  repeat' first
    | with_reducible (apply Frame.refl)
    | with_reducible (apply Frame.step ?_ (frame_ledger ..))
    | split
    | exact rfl

theorem frame_manifestUpdate (s : State) (g a b : Nat) : Frame ⟨[.flash, .flo, .fresh, .evr, .slots, .flt], some [EVR_DROP_CRITICAL.addr, EVR_FENCED_CNT.addr]⟩ s (s.manifestUpdate g a b) := by
  unfold State.manifestUpdate
  dsimp only
  repeat' first
    | with_reducible (apply Frame.refl)
    | with_reducible (apply Frame.step ?_ (frame_chainTake ..))
    | with_reducible (apply Frame.step ?_ (frame_chainRoom ..))
    | split
    | exact rfl
    | (fail_if_no_progress (with_reducible (apply Frame.lit)); next => intro p hp; cases p <;> first | with_reducible rfl | exact absurd (by decide) hp)

theorem frame_mkImage (s : State) (r : SaveRun) (at' : Nat) : Frame ⟨[.flo, .fresh, .evr, .slots, .flt], some [EVR_DROP_CRITICAL.addr, EVR_FENCED_CNT.addr]⟩ s (s.mkImage r at').2 := by
  unfold State.mkImage
  dsimp only
  repeat' first
    | with_reducible (apply Frame.refl)
    | with_reducible (apply Frame.step ?_ (frame_takeSeq ..))
    | split
    | exact rfl

theorem frame_setAllDirty (s : State) (i : Nat) : Frame ⟨[], some [PER_STS_ALL_DIRTY.addr]⟩ s (s.setAllDirty i) := by
  unfold State.setAllDirty
  repeat' first
    | with_reducible (apply Frame.refl)
    | with_reducible (apply Frame.step ?_ (frame_setFlag ..))
    | with_reducible (apply Frame.step ?_ (frame_setBit ..))
    | split
    | exact rfl

theorem frame_noRestore (s : State) : Frame ⟨[.dirty, .per, .gln, .sea, .images, .sheaves, .boot, .commitLog, .commits, .flash, .flo, .fresh, .evr, .slots, .flt], some [PER_STS_ALL_DIRTY.addr, GLN_STS_ACTIVE.addr, FLO_STS_DIE_RETIRED.addr, FLO_LEDGER_INDEX.addr, FLO_BOOT.addr, EVR_DROP_CRITICAL.addr, EVR_FENCED_CNT.addr, EVR_MIRROR_DONE.addr]⟩ s (s.noRestore) := by
  unfold State.noRestore
  dsimp only
  repeat' first
    | with_reducible (apply Frame.refl)
    | with_reducible (apply Frame.step ?_ (frame_setAllDirty ..))
    | with_reducible (apply Frame.step ?_ (frame_abandonSeals ..))
    | split
    | exact rfl
    | (fail_if_no_progress (with_reducible (apply Frame.lit)); next => intro p hp; cases p <;> first | with_reducible rfl | exact absurd (by decide) hp)

theorem frame_oddLength (s : State) (c : CaCmd) : Frame ⟨[.fresh, .evr], some [PER_STS_ALL_DIRTY.addr]⟩ s (s.oddLength c) := by
  unfold State.oddLength
  repeat' first
    | with_reducible (apply Frame.refl)
    | with_reducible (apply Frame.step ?_ (frame_note ..))
    | with_reducible (apply Frame.step ?_ (frame_setAllDirty ..))
    | split
    | exact rfl

theorem frame_packRecheck (s : State) : Frame ⟨[.flt], some [PER_STS_ALL_DIRTY.addr, PLN_STS_ACTIVATING.addr, PLN_DEADLINE.addr, PLN_DEADLINE_K.addr, PLN_ENERGY.addr, PLN_BUDGET.addr, PLN_BUDGET_K.addr]⟩ s (s.packRecheck) := by
  unfold State.packRecheck
  dsimp only
  repeat' first
    | with_reducible (apply Frame.refl)
    | with_reducible (apply Frame.step ?_ (frame_showDeadline ..))
    | with_reducible (apply Frame.step ?_ (frame_setPackShort ..))
    | split
    | exact rfl

theorem frame_packetsLost (s : State) : Frame ⟨[.hbp, .exec, .held, .pkt], some [PKT_STS_DEPTH_USED.addr, PKT_MBX_STS_BUSY.addr]⟩ s (s.packetsLost) := by
  unfold State.packetsLost
  dsimp only
  repeat' first
    | with_reducible (apply Frame.refl)
    | with_reducible (apply Frame.step ?_ (frame_ringDrain ..))
    | with_reducible (apply Frame.step ?_ (frame_setFlag ..))
    | split
    | exact rfl
    | (fail_if_no_progress (with_reducible (apply Frame.lit)); next => intro p hp; cases p <;> first | with_reducible rfl | exact absurd (by decide) hp)

theorem frame_pulse (s : State) : Frame ⟨[], some [FLT_PIN_LEVEL.addr]⟩ s (s.pulse) := by
  unfold State.pulse
  repeat' first
    | with_reducible (apply Frame.refl)
    | with_reducible (apply Frame.step ?_ (frame_setFlag ..))
    | split
    | exact rfl

theorem frame_pinCause (s : State) (sev : Sev) : Frame ⟨[], some [FLT_PIN_LEVEL.addr]⟩ s (s.pinCause sev) := by
  unfold State.pinCause
  repeat' first
    | with_reducible (apply Frame.refl)
    | with_reducible (apply Frame.step ?_ (frame_pulse ..))
    | split
    | exact rfl

theorem frame_searched (s : State) (lp sp : Nat) (band : BitVec 6) (fine : BitVec 10) (temp : Byte) : Frame ⟨[.flo, .clk, .fresh, .evr, .slots, .flt], some [CLK_CNT_DISCONT.addr, EVR_DROP_CRITICAL.addr, EVR_FENCED_CNT.addr]⟩ s (s.searched lp sp band fine temp) := by
  unfold State.searched
  dsimp only
  repeat' first
    | with_reducible (apply Frame.refl)
    | with_reducible (apply Frame.step ?_ (frame_bump ..))
    | with_reducible (apply Frame.step ?_ (frame_ledgerTraining ..))
    | split
    | exact rfl
    | (fail_if_no_progress (with_reducible (apply Frame.lit)); next => intro p hp; cases p <;> first | with_reducible rfl | exact absurd (by decide) hp)

theorem frame_pllLocked (s : State) (loop : PllLoop) (band : BitVec 6) (fine : BitVec 10) (temp : Byte) : Frame ⟨[.trn, .flo, .clk, .fresh, .evr, .slots, .flt], some [TRN_STS_ABANDONED.addr, CLK_STS_COAST.addr, CLK_CNT_DISCONT.addr, EVR_DROP_CRITICAL.addr, EVR_FENCED_CNT.addr]⟩ s (s.pllLocked loop band fine temp) := by
  unfold State.pllLocked
  dsimp only
  repeat' first
    | with_reducible (apply Frame.refl)
    | with_reducible (apply Frame.step ?_ (frame_searched ..))
    | with_reducible (apply Frame.step ?_ (frame_searchFlag ..))
    | with_reducible (apply Frame.step ?_ (frame_hLocked ..))
    | with_reducible (apply Frame.step ?_ (frame_setFlag ..))
    | split
    | exact rfl
    | (fail_if_no_progress (with_reducible (apply Frame.lit)); next => intro p hp; cases p <;> first | with_reducible rfl | exact absurd (by decide) hp)

theorem frame_postWithheld (s : State) : Frame ⟨[.pkt], some [PKT_MBX_STS_BUSY.addr, 0x5180, 0x5184, 0x5188, 0x518c, 0x5190, 0x5194, 0x5198, 0x519c]⟩ s (s.postWithheld) := by
  unfold State.postWithheld
  dsimp only
  repeat' first
    | with_reducible (apply Frame.refl)
    | with_reducible (apply Frame.step ?_ (frame_writeStatus ..))
    | with_reducible assumption
    | with_reducible (refine frame_foldl (fun u x hu => ?_) ?_)
    | split
    | exact rfl
    | (fail_if_no_progress (with_reducible (apply Frame.lit)); next => intro p hp; cases p <;> first | with_reducible rfl | exact absurd (by decide) hp)

theorem frame_reboundEntry (s : State) : Frame ⟨[.mode, .sys, .selfRef, .hbp, .bdc, .clk, .fresh, .evr], some [CFG_MODE_ATTACH_PHASE.addr, DCT_STS_DOUBLE_REF.addr, DCT_CNT_REF_ISSUED.addr, CLK_STS_COAST.addr, PWR_RSTO_AUX_LOW.addr, SPT_STS_CORNER_OK.addr]⟩ s (s.reboundEntry) := by
  unfold State.reboundEntry
  dsimp only
  repeat' first
    | with_reducible (apply Frame.refl)
    | with_reducible (apply Frame.step ?_ (frame_setMode ..))
    | with_reducible (apply Frame.step ?_ (frame_giveDram ..))
    | with_reducible (apply Frame.step ?_ (frame_enterSelfRef ..))
    | with_reducible (apply Frame.step ?_ (frame_setFlag ..))
    | with_reducible (apply Frame.step ?_ (frame_setFld ..))
    | with_reducible (apply Frame.step ?_ (frame_lockH ..))
    | split
    | exact rfl

theorem frame_regionsHeld (s : State) : Frame ⟨[.exec, .held, .pkt, .gln, .kite], some [PKT_STS_DEPTH_USED.addr, PKT_MBX_STS_BUSY.addr, 0x5180, 0x5184, 0x5188, 0x518c, 0x5190, 0x5194, 0x5198, 0x519c]⟩ s (s.regionsHeld) := by
  unfold State.regionsHeld
  dsimp only
  repeat' first
    | with_reducible (apply Frame.refl)
    | with_reducible (apply Frame.step ?_ (frame_complete ..))
    | with_reducible assumption
    | with_reducible (refine frame_foldl (fun u x hu => ?_) ?_)
    | split
    | exact rfl
    | (fail_if_no_progress (with_reducible (apply Frame.lit)); next => intro p hp; cases p <;> first | with_reducible rfl | exact absurd (by decide) hp)

theorem frame_setLine (s : State) (ma : Nat) (v : LineData × CheckBytes) : Frame ⟨[.dram], some []⟩ s (s.setLine ma v) := by
  unfold State.setLine
  dsimp only
  repeat' first
    | with_reducible (apply Frame.refl)
    | split
    | exact rfl
    | (fail_if_no_progress (with_reducible (apply Frame.lit)); next => intro p hp; cases p <;> first | with_reducible rfl | exact absurd (by decide) hp)

theorem frame_areaBack (s : State) : Frame ⟨[.dram, .area, .trn], some []⟩ s (s.areaBack) := by
  unfold State.areaBack
  dsimp only
  repeat' first
    | with_reducible (apply Frame.refl)
    | with_reducible (apply Frame.step ?_ (frame_setLine ..))
    | with_reducible assumption
    | with_reducible (refine frame_foldl (fun u x hu => ?_) ?_)
    | split
    | exact rfl
    | (fail_if_no_progress (with_reducible (apply Frame.lit)); next => intro p hp; cases p <;> first | with_reducible rfl | exact absurd (by decide) hp)

theorem frame_trainHalt (s : State) : Frame ⟨[.dram, .area, .trn], some [TRN_STS_ABANDONED.addr]⟩ s (s.trainHalt) := by
  unfold State.trainHalt
  dsimp only
  repeat' first
    | with_reducible (apply Frame.refl)
    | with_reducible (apply Frame.step ?_ (frame_areaBack ..))
    | with_reducible (apply Frame.step ?_ (frame_setFld ..))
    | with_reducible (apply Frame.step ?_ (frame_setFlag ..))
    | split
    | exact rfl

theorem frame_retrainEnd (s : State) : Frame ⟨[.dram, .area, .trn, .clk], some [TRN_STS_ABANDONED.addr, DCT_STS_DOUBLE_REF.addr, CLK_STS_COAST.addr]⟩ s (s.retrainEnd) := by
  unfold State.retrainEnd
  dsimp only
  repeat' first
    | with_reducible (apply Frame.refl)
    | with_reducible (apply Frame.step ?_ (frame_trainHalt ..))
    | with_reducible (apply Frame.step ?_ (frame_setFlag ..))
    | with_reducible (apply Frame.step ?_ (frame_hopD ..))
    | split
    | exact rfl
    | (fail_if_no_progress (with_reducible (apply Frame.lit)); next => intro p hp; cases p <;> first | with_reducible rfl | exact absurd (by decide) hp)

theorem frame_harvestStop (s : State) : Frame ⟨[.dram, .area, .trn, .dirty, .flushQ, .per, .bdc, .clk], some [TRN_STS_ABANDONED.addr, DCT_STS_DOUBLE_REF.addr, DCT_WIN_STS_READY.addr, CLK_STS_COAST.addr]⟩ s (s.harvestStop) := by
  unfold State.harvestStop
  dsimp only
  repeat' first
    | with_reducible (apply Frame.refl)
    | with_reducible (apply Frame.step ?_ (frame_setD ..))
    | with_reducible (apply Frame.step ?_ (frame_setFlag ..))
    | with_reducible (apply Frame.step ?_ (frame_retrainEnd ..))
    | with_reducible assumption
    | with_reducible (refine frame_foldl (fun u x hu => ?_) ?_)
    | split
    | exact rfl
    | (fail_if_no_progress (with_reducible (apply Frame.lit)); next => intro p hp; cases p <;> first | with_reducible rfl | exact absurd (by decide) hp)

theorem frame_restoreStop (s : State) : Frame ⟨[.sav, .bdc], some [SAV_STS_ABANDONED.addr, DCT_STS_DOUBLE_REF.addr, DCT_CNT_REF_ISSUED.addr, CLK_STS_COAST.addr]⟩ s (s.restoreStop) := by
  unfold State.restoreStop
  dsimp only
  repeat' first
    | with_reducible (apply Frame.refl)
    | with_reducible (apply Frame.step ?_ (frame_setFlag ..))
    | with_reducible (apply Frame.step ?_ (frame_setFld ..))
    | with_reducible (apply Frame.step ?_ (frame_giveDram ..))
    | split
    | exact rfl
    | (fail_if_no_progress (with_reducible (apply Frame.lit)); next => intro p hp; cases p <;> first | with_reducible rfl | exact absurd (by decide) hp)

theorem frame_resetHandback (s : State) : Frame ⟨[.dram, .area, .trn, .dirty, .flushQ, .per, .sav, .bdc, .clk], some [TRN_STS_ABANDONED.addr, SAV_STS_ABANDONED.addr, DCT_STS_DOUBLE_REF.addr, DCT_CNT_REF_ISSUED.addr, DCT_WIN_STS_READY.addr, CLK_STS_COAST.addr]⟩ s (s.resetHandback) := by
  unfold State.resetHandback
  dsimp only
  repeat' first
    | with_reducible (apply Frame.refl)
    | with_reducible (apply Frame.step ?_ (frame_harvestStop ..))
    | with_reducible (apply Frame.step ?_ (frame_giveDram ..))
    | with_reducible (apply Frame.step ?_ (frame_loopHome ..))
    | with_reducible (apply Frame.step ?_ (frame_restoreStop ..))
    | with_reducible (apply Frame.step ?_ (frame_setFlag ..))
    | split
    | exact rfl
    | (fail_if_no_progress (with_reducible (apply Frame.lit)); next => intro p hp; cases p <;> first | with_reducible rfl | exact absurd (by decide) hp)

theorem frame_resetStaging (s : State) : Frame ⟨[.pln], some []⟩ s (s.resetStaging) := by
  unfold State.resetStaging
  dsimp only
  repeat' first
    | with_reducible (apply Frame.refl)
    | split
    | exact rfl
    | (fail_if_no_progress (with_reducible (apply Frame.lit)); next => intro p hp; cases p <;> first | with_reducible rfl | exact absurd (by decide) hp)

theorem frame_restoreFence (s : State) (n : Nat) : Frame ⟨[.sav], some [SAV_STS_ABANDONED.addr, SAV_FENCED.addr]⟩ s (s.restoreFence n) := by
  unfold State.restoreFence
  dsimp only
  repeat' first
    | with_reducible (apply Frame.refl)
    | with_reducible (apply Frame.step ?_ (frame_setFld ..))
    | split
    | exact rfl
    | (fail_if_no_progress (with_reducible (apply Frame.lit)); next => intro p hp; cases p <;> first | with_reducible rfl | exact absurd (by decide) hp)

theorem frame_restoreLine (s : State) (ma : Nat) : Frame ⟨[], some [SAV_STS_ABANDONED.addr, SAV_RST_DONE.addr]⟩ s (s.restoreLine ma) := by
  unfold State.restoreLine
  dsimp only
  repeat' first
    | with_reducible (apply Frame.refl)
    | with_reducible (apply Frame.step ?_ (frame_setFld ..))
    | split
    | exact rfl

theorem frame_takeDram (s : State) (owner : Nat) : Frame ⟨[.bdc], some [DCT_STS_DOUBLE_REF.addr, CLK_STS_COAST.addr]⟩ s (s.takeDram owner) := by
  unfold State.takeDram
  dsimp only
  repeat' first
    | with_reducible (apply Frame.refl)
    | with_reducible (apply Frame.step ?_ (frame_setFld ..))
    | with_reducible (apply Frame.step ?_ (frame_setFlag ..))
    | split
    | exact rfl
    | (fail_if_no_progress (with_reducible (apply Frame.lit)); next => intro p hp; cases p <;> first | with_reducible rfl | exact absurd (by decide) hp)

theorem frame_restoreTake (s : State) : Frame ⟨[.selfRef, .hbp, .bdc], some [DCT_STS_DOUBLE_REF.addr, CLK_STS_COAST.addr]⟩ s (s.restoreTake) := by
  unfold State.restoreTake
  repeat' first
    | with_reducible (apply Frame.refl)
    | with_reducible (apply Frame.step ?_ (frame_takeDram ..))
    | with_reducible (apply Frame.step ?_ (frame_leaveSelfRef ..))
    | split
    | exact rfl

theorem frame_restoreStart (s : State) (i : Image) : Frame ⟨[.sys, .rows, .selfRef, .hbp, .per, .gln, .sav, .bdc], some [SAV_STS_ABANDONED.addr, SAV_FENCED.addr, SAV_RST_DONE.addr, SAV_RST_LOST.addr, SAV_RST_REBUILT.addr, DCT_STS_DOUBLE_REF.addr, CLK_STS_COAST.addr]⟩ s (s.restoreStart i) := by
  unfold State.restoreStart
  dsimp only
  repeat' first
    | with_reducible (apply Frame.refl)
    | with_reducible (apply Frame.step ?_ (frame_setPhase ..))
    | with_reducible (apply Frame.step ?_ (frame_restoreTake ..))
    | with_reducible (apply Frame.step ?_ (frame_setFlag ..))
    | with_reducible (apply Frame.step ?_ (frame_setFld ..))
    | with_reducible (apply Frame.step ?_ (frame_loadMaps ..))
    | split
    | exact rfl
    | (fail_if_no_progress (with_reducible (apply Frame.lit)); next => intro p hp; cases p <;> first | with_reducible rfl | exact absurd (by decide) hp)

theorem frame_ringsReset (s : State) : Frame ⟨[.hbp, .held, .pkt], some [PKT_STS_DEPTH_USED.addr]⟩ s (s.ringsReset) := by
  unfold State.ringsReset
  dsimp only
  repeat' first
    | with_reducible (apply Frame.refl)
    | with_reducible (apply Frame.step ?_ (frame_setFld ..))
    | split
    | exact rfl
    | (fail_if_no_progress (with_reducible (apply Frame.lit)); next => intro p hp; cases p <;> first | with_reducible rfl | exact absurd (by decide) hp)

theorem frame_scrubLine (s : State) (ma : Nat) : Frame ⟨[.bdc, .fresh, .evr], some [DCT_SCRUB_PTR.addr, DCT_SCRUB_CNT_BAD.addr]⟩ s (s.scrubLine ma) := by
  unfold State.scrubLine
  dsimp only
  repeat' first
    | with_reducible (apply Frame.refl)
    | with_reducible (apply Frame.step ?_ (frame_bump ..))
    | with_reducible (apply Frame.step ?_ (frame_note ..))
    | with_reducible (apply Frame.step ?_ (frame_setFld ..))
    | split
    | exact rfl
    | (fail_if_no_progress (with_reducible (apply Frame.lit)); next => intro p hp; cases p <;> first | with_reducible rfl | exact absurd (by decide) hp)

theorem frame_setRailFail (s : State) (r : Nat) : Frame ⟨[], some [PWR_RAIL_FAIL.addr, PWR_FSW_FAIL.addr]⟩ s (s.setRailFail r) := by
  unfold State.setRailFail
  repeat' first
    | with_reducible (apply Frame.refl)
    | with_reducible (apply Frame.step ?_ (frame_setBit ..))
    | split
    | exact rfl

theorem frame_putIncident (s : State) (k : Nat) (i : Incident) : Frame ⟨[.slots, .flt], some []⟩ s (s.putIncident k i) := by
  unfold State.putIncident
  dsimp only
  repeat' first
    | with_reducible (apply Frame.refl)
    | split
    | exact rfl
    | (fail_if_no_progress (with_reducible (apply Frame.lit)); next => intro p hp; cases p <;> first | with_reducible rfl | exact absurd (by decide) hp)

theorem frame_hotStandby (s : State) : Frame ⟨[.kite], some [SPT_KITE_COLD_A.addr, SPT_HB_A_AGE.addr]⟩ s (s.hotStandby) := by
  unfold State.hotStandby
  dsimp only
  repeat' first
    | with_reducible (apply Frame.refl)
    | with_reducible (apply Frame.step ?_ (frame_setFld_at _ (coreStateFld _) _ (addr_coreStateFld _)))
    | with_reducible (apply Frame.step ?_ (frame_setFlag_at _ (coreColdFld _) _ (addr_coreColdFld _)))
    | with_reducible (apply Frame.step ?_ (frame_setFld ..))
    | with_reducible (apply Frame.step ?_ (frame_setFlag ..))
    | with_reducible assumption
    | with_reducible (refine frame_foldl (fun u x hu => ?_) ?_)
    | split
    | exact rfl
    | (fail_if_no_progress (with_reducible (apply Frame.lit)); next => intro p hp; cases p <;> first | with_reducible rfl | exact absurd (by decide) hp)

theorem frame_coreBoot (s : State) (c : CoreId) : Frame ⟨[.kite], some [SPT_HB_A_AGE.addr]⟩ s (s.coreBoot c) := by
  unfold State.coreBoot
  dsimp only
  repeat' first
    | with_reducible (apply Frame.refl)
    | with_reducible (apply Frame.step ?_ (frame_setFld_at _ (coreStateFld _) _ (addr_coreStateFld _)))
    | with_reducible (apply Frame.step ?_ (frame_setFld_at _ (coreAgeFld _) _ (addr_coreAgeFld _)))
    | with_reducible (apply Frame.step ?_ (frame_setFld ..))
    | split
    | exact rfl
    | (fail_if_no_progress (with_reducible (apply Frame.lit)); next => intro p hp; cases p <;> first | with_reducible rfl | exact absurd (by decide) hp)

theorem frame_unitReturn (s : State) (u : UnitRow) : Frame ⟨[.hbp, .held, .pkt, .kite], some [PKT_STS_DEPTH_USED.addr, SPT_HB_A_AGE.addr]⟩ s (s.unitReturn u) := by
  unfold State.unitReturn
  repeat' first
    | with_reducible (apply Frame.refl)
    | with_reducible (apply Frame.step ?_ (frame_ringsReset ..))
    | with_reducible (apply Frame.step ?_ (frame_coreBoot ..))
    | split
    | exact rfl

theorem frame_returnUnits (s : State) (n : Nat) : Frame ⟨[.hbp, .held, .pkt, .fenced, .flt, .kite], some [PKT_STS_DEPTH_USED.addr, SPT_HB_A_AGE.addr]⟩ s (s.returnUnits n) := by
  unfold State.returnUnits
  dsimp only
  repeat' first
    | with_reducible (apply Frame.refl)
    | with_reducible (apply Frame.step ?_ (frame_unitReturn ..))
    | with_reducible assumption
    | with_reducible (refine frame_foldl (fun u x hu => ?_) ?_)
    | split
    | exact rfl
    | (fail_if_no_progress (with_reducible (apply Frame.lit)); next => intro p hp; cases p <;> first | with_reducible rfl | exact absurd (by decide) hp)

theorem frame_freeIncident (s : State) (k : Nat) : Frame ⟨[.hbp, .held, .pkt, .fce, .fresh, .evr, .slots, .fenced, .flt, .kite], some [PKT_STS_DEPTH_USED.addr, SPT_KITE_COLD_A.addr, SPT_HB_A_AGE.addr]⟩ s (s.freeIncident k) := by
  unfold State.freeIncident
  dsimp only
  repeat' first
    | with_reducible (apply Frame.refl)
    | with_reducible (apply Frame.step ?_ (frame_incidentRecord ..))
    | with_reducible (apply Frame.step ?_ (frame_hotStandby ..))
    | with_reducible (apply Frame.step ?_ (frame_returnUnits ..))
    | with_reducible (apply Frame.step ?_ (frame_endFences ..))
    | split
    | exact rfl
    | (fail_if_no_progress (with_reducible (apply Frame.lit)); next => intro p hp; cases p <;> first | with_reducible rfl | exact absurd (by decide) hp)

theorem frame_settleSlot (s : State) (k : Nat) : Frame ⟨[.hbp, .held, .pkt, .fce, .fresh, .evr, .slots, .fenced, .flt, .kite], some [PKT_STS_DEPTH_USED.addr, SPT_KITE_COLD_A.addr, SPT_HB_A_AGE.addr]⟩ s (s.settleSlot k) := by
  unfold State.settleSlot
  dsimp only
  repeat' first
    | with_reducible (apply Frame.refl)
    | with_reducible (apply Frame.step ?_ (frame_putIncident ..))
    | with_reducible (apply Frame.step ?_ (frame_freeIncident ..))
    | split
    | exact rfl

theorem frame_settle (s : State) : Frame ⟨[.hbp, .held, .pkt, .fce, .fresh, .evr, .slots, .fenced, .flt, .kite], some [PKT_STS_DEPTH_USED.addr, SPT_KITE_COLD_A.addr, SPT_HB_A_AGE.addr]⟩ s (s.settle) := by
  unfold State.settle
  repeat' first
    | with_reducible (apply Frame.refl)
    | with_reducible (apply Frame.step ?_ (frame_settleSlot ..))
    | with_reducible assumption
    | with_reducible (refine frame_foldl (fun u x hu => ?_) ?_)
    | split
    | exact rfl

theorem frame_showKmap (s : State) (k : List Nat) : Frame ⟨[], some [SAV_KMAP0_P0.addr, SAV_KMAP1_P6.addr]⟩ s (s.showKmap k) := by
  unfold State.showKmap
  dsimp only
  repeat' first
    | with_reducible (apply Frame.refl)
    | with_reducible (apply Frame.step ?_ (frame_setFld ..))
    | split
    | exact rfl

theorem frame_trainLeave (s : State) : Frame ⟨[.hbp, .trn], some [TRN_STS_ABANDONED.addr]⟩ s (s.trainLeave) := by
  unfold State.trainLeave
  dsimp only
  repeat' first
    | with_reducible (apply Frame.refl)
    | with_reducible (apply Frame.step ?_ (frame_setFlag ..))
    | split
    | exact rfl
    | (fail_if_no_progress (with_reducible (apply Frame.lit)); next => intro p hp; cases p <;> first | with_reducible rfl | exact absurd (by decide) hp)

theorem frame_tornPrograms (s : State) : Frame ⟨[.flash], some []⟩ s (s.tornPrograms) := by
  unfold State.tornPrograms
  repeat' first
    | with_reducible (apply Frame.refl)
    | with_reducible (apply Frame.step ?_ (frame_voidEar ..))
    | with_reducible assumption
    | with_reducible (refine frame_foldl (fun u x hu => ?_) ?_)
    | split
    | exact rfl

theorem frame_wiped (s : State) : Frame ⟨[.mode, .sys, .stamp, .dirtyQ, .rows, .selfRef, .hbp, .dram, .area, .trn, .cln, .exec, .held, .pkt, .dirty, .flushQ, .per, .gln, .sea, .run, .sav, .image, .pln, .commits, .flo, .fce, .bdc, .clk, .sb, .sram, .tick, .fresh, .wall, .evr, .slots, .fenced, .flt, .kite, .en, .pwr, .nv], none⟩ s s.wiped := by
  unfold State.wiped
  refine ⟨fun p hp => ?_, fun a ha => by cases ha⟩
  cases p <;> first | rfl | exact absurd (by decide) hp

theorem frame_enterOff (s : State) (cause : Nat) : Frame ⟨[.mode, .sys, .stamp, .dirtyQ, .rows, .selfRef, .hbp, .dram, .area, .trn, .cln, .exec, .held, .pkt, .dirty, .flushQ, .per, .gln, .sea, .run, .sav, .image, .pln, .commits, .flash, .flo, .fce, .bdc, .clk, .sb, .sram, .tick, .fresh, .wall, .evr, .slots, .fenced, .flt, .kite, .en, .pwr, .nv], none⟩ s (s.enterOff cause) := by
  unfold State.enterOff
  dsimp only
  repeat' first
    | with_reducible (apply Frame.refl)
    | with_reducible (apply Frame.step ?_ (frame_setFld ..))
    | with_reducible (apply Frame.step ?_ (frame_tornPrograms ..))
    | with_reducible (apply Frame.step ?_ (frame_wiped ..))
    | split
    | exact rfl
    | (fail_if_no_progress (with_reducible (apply Frame.lit)); next => intro p hp; cases p <;> first | with_reducible rfl | exact absurd (by decide) hp)

theorem frame_shutAdvance (s : State) (n : Nat) : Frame ⟨[.mode, .sys, .stamp, .dirtyQ, .rows, .selfRef, .hbp, .dram, .area, .trn, .cln, .exec, .held, .pkt, .dirty, .flushQ, .per, .gln, .sea, .run, .sav, .image, .pln, .commits, .flash, .flo, .fce, .bdc, .clk, .sb, .sram, .tick, .fresh, .wall, .evr, .slots, .fenced, .flt, .kite, .en, .pwr, .nv], none⟩ s (s.shutAdvance n) := by
  induction n generalizing s with
  | zero => exact .refl _ s
  | succ n ih =>
    unfold State.shutAdvance
    dsimp only
    split
    · exact .refl _ s
    · split
      · exact .step rfl (frame_enterOff ..) (.refl _ s)
      · exact .step rfl (ih ..) (.step rfl (frame_lowerStage ..) (.refl _ s))

theorem frame_shutDownStart (s : State) (cause : Nat) (past : Bool) : Frame ⟨[.mode, .sys, .stamp, .dirtyQ, .rows, .selfRef, .hbp, .dram, .area, .trn, .cln, .exec, .held, .pkt, .dirty, .flushQ, .per, .gln, .sea, .run, .sav, .image, .pln, .commits, .flash, .flo, .fce, .bdc, .clk, .sb, .sram, .tick, .fresh, .wall, .evr, .slots, .fenced, .flt, .kite, .en, .pwr, .nv], none⟩ s (s.shutDownStart cause past) := by
  unfold State.shutDownStart
  dsimp only
  repeat' first
    | with_reducible (apply Frame.refl)
    | with_reducible (apply Frame.step ?_ (frame_restoreStop ..))
    | with_reducible (apply Frame.step ?_ (frame_learnStop ..))
    | with_reducible (apply Frame.step ?_ (frame_loopAbort ..))
    | with_reducible (apply Frame.step ?_ (frame_trainHalt ..))
    | with_reducible (apply Frame.step ?_ (frame_trainLeave ..))
    | with_reducible (apply Frame.step ?_ (frame_setMode ..))
    | with_reducible (apply Frame.step ?_ (frame_setFlag ..))
    | with_reducible (apply Frame.step ?_ (frame_setFld ..))
    | with_reducible (apply Frame.step ?_ (frame_packetsLost ..))
    | with_reducible (apply Frame.step ?_ (frame_giveDram ..))
    | with_reducible (apply Frame.step ?_ (frame_enterSelfRef ..))
    | with_reducible (apply Frame.step ?_ (frame_gateBOn ..))
    | with_reducible (apply Frame.step ?_ (frame_lowerStage ..))
    | with_reducible (apply Frame.step ?_ (frame_shutAdvance ..))
    | split
    | exact rfl
    | (fail_if_no_progress (with_reducible (apply Frame.lit)); next => intro p hp; cases p <;> first | with_reducible rfl | exact absurd (by decide) hp)

theorem frame_statusLost (s : State) : Frame ⟨[.exec, .pkt], some []⟩ s (s.statusLost) := by
  unfold State.statusLost
  dsimp only
  repeat' first
    | with_reducible (apply Frame.refl)
    | split
    | exact rfl
    | (fail_if_no_progress (with_reducible (apply Frame.lit)); next => intro p hp; cases p <;> first | with_reducible rfl | exact absurd (by decide) hp)

theorem frame_storeEnergy (s : State) (v0 : Nat) : Frame ⟨[], some [PWR_PACK_STS_CHARGED.addr, PWR_PACK_E.addr, PWR_PACK_V0_FLOOR.addr]⟩ s (s.storeEnergy v0) := by
  unfold State.storeEnergy
  dsimp only
  repeat' first
    | with_reducible (apply Frame.refl)
    | with_reducible (apply Frame.step ?_ (frame_setFld ..))
    | with_reducible (apply Frame.step ?_ (frame_setFlag ..))
    | split
    | exact rfl

theorem frame_storePackSample (s : State) (iT temp : Nat) : Frame ⟨[], some [PWR_PACK_IT_MA.addr]⟩ s (s.storePackSample iT temp) := by
  unfold State.storePackSample
  repeat' first
    | with_reducible (apply Frame.refl)
    | with_reducible (apply Frame.step ?_ (frame_setFld ..))
    | split
    | exact rfl

theorem frame_grantKite (s : State) (c : CoreId) : Frame ⟨[.kite], some [SPT_KITE_COLD_A.addr, SPT_HB_A_AGE.addr]⟩ s (s.grantKite c) := by
  unfold State.grantKite
  dsimp only
  repeat' first
    | with_reducible (apply Frame.refl)
    | with_reducible (apply Frame.step ?_ (frame_setFld ..))
    | with_reducible (apply Frame.step ?_ (frame_bump ..))
    | with_reducible (apply Frame.step ?_ (frame_setFlag ..))
    | split
    | exact rfl
    | (fail_if_no_progress (with_reducible (apply Frame.lit)); next => intro p hp; cases p <;> first | with_reducible rfl | exact absurd (by decide) hp)

theorem frame_switchOver (s : State) (c : CoreId) : Frame ⟨[.kite], some [CORE_CNT_LINK.addr, SPT_KITE_COLD_A.addr, SPT_HB_A_AGE.addr]⟩ s (s.switchOver c) := by
  unfold State.switchOver
  dsimp only
  repeat' first
    | with_reducible (apply Frame.refl)
    | with_reducible (apply Frame.step ?_ (frame_setFld_at _ (coreStateFld _) _ (addr_coreStateFld _)))
    | with_reducible (apply Frame.step ?_ (frame_setFlag_at _ (coreAliveFld _) _ (addr_coreAliveFld _)))
    | with_reducible (apply Frame.step ?_ (frame_setFld ..))
    | with_reducible (apply Frame.step ?_ (frame_setFlag ..))
    | with_reducible (apply Frame.step ?_ (frame_grantKite ..))
    | with_reducible (apply Frame.step ?_ (frame_bump ..))
    | split
    | exact rfl

theorem frame_threshFence (s : State) : Frame ⟨[], some [SAV_FENCED.addr]⟩ s (s.threshFence) := by
  unfold State.threshFence
  repeat' first
    | with_reducible (apply Frame.refl)
    | with_reducible (apply Frame.step ?_ (frame_setFld ..))
    | split
    | exact rfl

theorem frame_traced (s : State) (ring seq stamp : Nat) (bs : List Byte) : Frame ⟨[.fresh, .evr], some []⟩ s (s.traced ring seq stamp bs) := by
  unfold State.traced
  repeat' first
    | with_reducible (apply Frame.refl)
    | with_reducible (apply Frame.step ?_ (frame_emit ..))
    | split
    | exact rfl

theorem frame_trainAbandon (s : State) : Frame ⟨[.dram, .area, .trn], some [TRN_STS_ABANDONED.addr, TRN_SP_STS_DRAM0.addr]⟩ s (s.trainAbandon) := by
  unfold State.trainAbandon
  dsimp only
  repeat' first
    | with_reducible (apply Frame.refl)
    | with_reducible (apply Frame.step ?_ (frame_setFld_at _ (dramRec _) _ rfl))
    | with_reducible (apply Frame.step ?_ (frame_setFld_at _ (hostRec _) _ rfl))
    | with_reducible (apply Frame.step ?_ (frame_setFld ..))
    | with_reducible (apply Frame.step ?_ (frame_trainHalt ..))
    | with_reducible (apply Frame.step ?_ (frame_setFlag ..))
    | split
    | exact rfl
    | (fail_if_no_progress (with_reducible (apply Frame.lit)); next => intro p hp; cases p <;> first | with_reducible rfl | exact absurd (by decide) hp)

theorem frame_trainOrWait (s : State) : Frame ⟨[.trn], some [TRN_STS_ABANDONED.addr]⟩ s (s.trainOrWait) := by
  unfold State.trainOrWait
  dsimp only
  repeat' first
    | with_reducible (apply Frame.refl)
    | with_reducible (apply Frame.step ?_ (frame_trainRun ..))
    | with_reducible (apply Frame.step ?_ (frame_setFlag ..))
    | split
    | exact rfl
    | (fail_if_no_progress (with_reducible (apply Frame.lit)); next => intro p hp; cases p <;> first | with_reducible rfl | exact absurd (by decide) hp)

end Sys2Proof.Proofs

/-! PROOF. The control words of the register function (R41, R51, R31, R342). -/

namespace Sys2Proof.Proofs

open Sys2Proof.Machine Sys2Proof.Machine.Reg Sys2Proof.Laws

section ControlWords

variable {s t : State} {c : CaCmd}

/-- In harvest a control-word write breaks the handback (R342). -/
theorem hostGate_holds (hm : CwMode s) (h : CaOpen s c) (hd : s.bdcHolds = true) (ends exit served : Bool) :
    s.hostGate c true ends exit served = (s.handbackBroken c.sub, false) := by
  obtain ⟨h1, h2, h3, hp, hb⟩ := h
  simp [State.hostGate, inMode_four hm, hm.2.2.2.2, caLive_of h1 h2 h3, parity_none hp, hb, hd]

/-- The control-word writes of one operand. -/
def controlWords (c : CaCmd) (index v : Byte) : List Instr :=
  [.cwParityConfig c v, .cwCaLatency c v, .cwAlertWidth c v, .cwEndParityBlock c v, .cwIgnored c index v, .caTrainingMode c v,
    .csTrainingMode c v, .readEnableMode c v, .writeLevelingMode c v, .readDqMode c v, .writeDqMode c v]

/-- A control-word write that the gate drops has no effect of its own. -/
theorem exec_controlWord_dropped (h : ∀ ends exit served, s.hostGate c true ends exit served = (t, false)) (index v : Byte) :
    ∀ i ∈ controlWords c index v, exec i s = .next t := by
  have htrain (m : TrainMode) (k : Nat) : s.trainCw m k c v = .next t := by simp [State.trainCw, h]
  intro i hi
  simp only [controlWords, List.mem_cons, List.not_mem_nil, or_false] at hi
  rcases hi with rfl | rfl | rfl | rfl | rfl | rfl | rfl | rfl | rfl | rfl | rfl
  · show execCwParityConfig c v s = _
    simp [execCwParityConfig, h]
  · show execCwCaLatency c v s = _
    simp [execCwCaLatency, h]
  · show execCwAlertWidth c v s = _
    simp [execCwAlertWidth, h]
  · show execCwEndParityBlock c v s = _
    simp [execCwEndParityBlock, h]
  · show execCwIgnored c index v s = _
    simp [execCwIgnored, h]
  all_goals exact htrain _ _

/-- In restore the gate drops and logs every command (R31). -/
theorem hostGate_in_restore (hm : s.sys.mode = .attach) (hp : s.sys.phase = .restore) (h1 : s.flag CLK_STS_H_LOCK = true)
    (h2 : s.flag CLK_STS_COAST = false) (h3 : s.flag CLK_STS_DISCONT = false) (cw ends exit served : Bool) :
    s.hostGate c cw ends exit served = (s.note 0x0051 (subSource c.sub) [], false) :=
  hostGate_restore (by simp [State.inMode, hm]) hp (caLive_of h1 h2 h3) cw ends served

theorem execCwParityConfig_open (h : CwOpen s c) (v : Byte) :
    exec (.cwParityConfig c v) s = .next ((s.setFlag HBP_CTL_PAR_EN (v.getLsbD 0)).setFlag HBP_CTL_PAR_POLICY (v.getLsbD 1)) := by
  show execCwParityConfig c v s = _
  rw [execCwParityConfig, hostGate_cw h]
  rfl

theorem execCwCaLatency_open (h : CwOpen s c) (v : Byte) :
    exec (.cwCaLatency c v) s = .next ((s.setFlag HBP_CTL_CA_LAT (v.getLsbD 0)).setFlag HBP_CTL_CMD_2N (v.getLsbD 1)) := by
  show execCwCaLatency c v s = _
  rw [execCwCaLatency, hostGate_cw h]
  rfl

theorem execCwAlertWidth_open (h : CwOpen s c) (v : Byte) :
    exec (.cwAlertWidth c v) s = .next (s.setFld HBP_CTL_ALERT_WIDTH (v.toNat % 8)) := by
  show execCwAlertWidth c v s = _
  rw [execCwAlertWidth, hostGate_cw h]
  rfl

theorem execCwIgnored_open (h : CwOpen s c) (index v : Byte) :
    exec (.cwIgnored c index v) s = .next (s.emit .trace 0x0055 (subSource c.sub) [index, v]) := by
  show execCwIgnored c index v s = _
  rw [execCwIgnored, hostGate_cw h]
  rfl

end ControlWords

/-- Two one-bit fields of other bits that are written one after the other. -/
theorem setFlags_pair (s : State) {f g : Fld} (a b : Bool) (hf : f.w = 1 ∧ f.lo + f.w ≤ 32) (hg : g.w = 1 ∧ g.lo + g.w ≤ 32)
    (hfg : f.addr ≠ g.addr ∨ f.lo + f.w ≤ g.lo ∨ g.lo + g.w ≤ f.lo) :
    ((s.setFlag f a).setFlag g b).flag f = a ∧ ((s.setFlag f a).setFlag g b).flag g = b ∧ OnlyFields [f, g] s ((s.setFlag f a).setFlag g b) :=
  ⟨by rw [flag_setFlag_ne _ _ hfg, flag_setFlag_same _ _ hf.1 hf.2], flag_setFlag_same _ _ hg.1 hg.2,
    onlyFields_setFlag (onlyFields_setFlag (onlyFields_refl _ s) _ (by simp)) _ (by simp)⟩

/-- Settles O1: the gate passes a control word that is taken unchanged, drops it in restore, and breaks the handback in harvest. -/
theorem controlWordsMirror : Obligations.ControlWordsMirror := by
  intro c v index s
  refine ⟨fun h => ⟨?_, ?_, ?_, execCwIgnored_open h index v⟩, fun hm hp h1 h2 h3 => ?_, fun hm ho hd => ?_⟩
  · exact answers_of (execCwParityConfig_open h v) (setFlags_pair s _ _ (by decide) (by decide) (by decide))
  · exact answers_of (execCwCaLatency_open h v) (setFlags_pair s _ _ (by decide) (by decide) (by decide))
  · refine answers_of (execCwAlertWidth_open h v) ⟨?_, onlyFields_setFld (onlyFields_refl _ s) _ (by simp)⟩
    rw [fld_setFld_same _ _ (by decide)]
    exact Nat.mod_mod _ _
  · exact exec_controlWord_dropped (hostGate_in_restore hm hp h1 h2 h3 true) index v
  · exact exec_controlWord_dropped (hostGate_holds hm ho hd) index v

end Sys2Proof.Proofs

/-! PROOF. The forwarded commands of the host port: order stamps, open rows and self-refresh (R23, R39, R41, R42, R51, R73). -/

namespace Sys2Proof.Proofs

open Sys2Proof.Machine Sys2Proof.Machine.Reg Sys2Proof.Laws

section Forwarded

variable {s : State} {c : CaCmd}

/-- A forwarded command answers what its effect makes of the stamped state. -/
theorem answers_forward {i : Instr} {k : State → State} {P : State → Prop} (h : HostOpen s c) (hi : exec i s = s.forward c k) (hP : P (k s.crossed)) :
    Answers i s P := answers_of (hi.trans (forward_open h k)) hP

theorem openRow_rows (s : State) (m : SMap Nat) (i : Nat) : ({ s with hbp := { s.hbp with rows := m } } : State).openRow i = smapFind m i := rfl

/-- Closing banks one after the other closes those of the list and leaves the rest. -/
theorem closeRows_eq {α : Type} (f : α → Nat) (l : List α) (s : State) :
    l.foldl (fun (u : State) x => u.closeRow (f x)) s = { s with hbp := { s.hbp with rows := (l.foldl (fun (u : State) x => u.closeRow (f x)) s).hbp.rows } } ∧
    ∀ i, (l.foldl (fun (u : State) x => u.closeRow (f x)) s).openRow i = if i ∈ l.map f then none else s.openRow i := by
  induction l generalizing s with
  | nil => exact ⟨rfl, fun i => by simp⟩
  | cons x l ih =>
    obtain ⟨h1, h2⟩ := ih (s.closeRow (f x))
    refine ⟨h1, fun i => ?_⟩
    rw [List.foldl_cons, h2]
    simp only [List.map_cons, List.mem_cons]
    by_cases hx : i = f x
    · simp [hx, State.closeRow, State.openRow, smapFind_del_same]
    · simp [hx, State.closeRow, State.openRow, smapFind_del_ne]

/-- PRE, PREsb and PREab close the banks that they name. -/
def closedBanks (c : CaCmd) (kind : PreKind) (b : BankAddr) : List Nat :=
  match kind with
  | .one => [cmdBank c b]
  | .sameBank => (List.range 8).map (fun g => bankIndex (subNum c.sub) c.rank.val c.lrank.val g b.ba.val)
  | .allBanks => (List.range 32).map (fun k => bankIndex (subNum c.sub) c.rank.val c.lrank.val 0 0 + k)

theorem hostPrecharge_closes (h : HostOpen s c) (kind : PreKind) (b : BankAddr) :
    Answers (.hostPrecharge c kind b) s (fun t => t = { s.crossed with hbp := { s.crossed.hbp with rows := t.hbp.rows } } ∧
      ∀ i, t.openRow i = if i ∈ closedBanks c kind b then none else s.openRow i) := by
  refine answers_forward h (show execHostPrecharge c kind b s = s.forward c _ from rfl) ?_
  cases kind with
  | one => exact closeRows_eq id [cmdBank c b] s.crossed
  | sameBank => exact closeRows_eq _ _ s.crossed
  | allBanks => exact closeRows_eq _ _ s.crossed

theorem countHostAct_service (hm : s.sys.mode = .service) (b : Nat) :
    s.countHostAct b = { s with bdc := { s.bdc with hostActs := smapPut s.bdc.hostActs b (smapGet (fun _ => 0) s.bdc.hostActs b + 1) } } := by
  rw [State.countHostAct, if_pos (by simp [State.inMode, hm])]

theorem hostAct_opens (h : HostOpen s c) (b : BankAddr) (row : BitVec 17) :
    Answers (.hostAct c b row) s (fun t => t.hbp = { s.crossed.hbp with rows := t.hbp.rows } ∧
      (∀ i, t.openRow i = if i = cmdBank c b then some row.toNat else s.openRow i) ∧
      t = { s.crossed with hbp := t.hbp, bdc := { s.bdc with hostActs := t.bdc.hostActs } } ∧
      smapGet (fun _ => 0) t.bdc.hostActs (cmdBank c b) = smapGet (fun _ => 0) s.bdc.hostActs (cmdBank c b) + 1) := by
  refine answers_forward h (show execHostAct c b row s = s.forward c _ from rfl) ?_
  rw [countHostAct_service]
  swap
  · exact h.1
  refine ⟨rfl, fun i => ?_, rfl, ?_⟩
  · show smapFind (smapPut s.hbp.rows _ _) i = if i = cmdBank c b then _ else smapFind s.hbp.rows i
    split
    · next hi => rw [hi, smapFind_put_same]
    · next hi => exact smapFind_put_ne _ _ hi
  · rw [smapGet, smapFind_put_same]
    rfl

theorem hostMrr_register (h : HostOpen s c) (ret : LineData) :
    Answers (.hostMrr c true ret) s (fun t => t = { s with sys := { s.sys with keeperTraining := false }, hbp := { s.hbp with hostOut := none } }) := by
  refine answers_of (t := _) ?_ rfl
  show execHostMrr c true ret s = _
  simp [execHostMrr, hostGate_open h]

/-- The rank of the command is marked. -/
def rankEntered (s : State) (c : CaCmd) : State :=
  { s with hbp := { s.hbp with selfRef := s.hbp.selfRef ||| (1#4 <<< (subNum c.sub * 2 + c.rank.val)) } }

theorem selfRefreshEntry_moves (h : HostOpen s c) :
    Answers (.selfRefreshEntry c) s (fun t =>
      t.hbp.selfRef = s.hbp.selfRef ||| (1#4 <<< (subNum c.sub * 2 + c.rank.val)) ∧ t.hbp.stamp = s.hbp.stamp + 1 ∧ t.dram = s.dram ∧
      t.sys.mode = if (List.range 4).all (fun k => t.hbp.selfRef.getLsbD k || (decide (k % 2 = 1) && !s.flag HBP_GEOM_RANK2))
        then .lull else .service) := by
  refine answers_forward h (k := fun t => if (rankEntered t c).sys.mode = .service && (rankEntered t c).allSelfRef
    then (rankEntered t c).lullEntry s.horizon else rankEntered t c) rfl ?_
  have hm : (rankEntered s.crossed c).sys.mode = .service := h.1
  rw [hm]
  cases hall : (rankEntered s.crossed c).allSelfRef with
  | false => exact ⟨rfl, rfl, rfl, hm.trans (if_neg (by rw [← Bool.not_eq_true] at hall; exact hall)).symm⟩
  | true =>
    have hf := frame_lullEntry (rankEntered s.crossed c) s.horizon
    have hself := hf.same .selfRef (by decide)
    refine ⟨hself, hf.same .stamp (by decide), hf.same .dram (by decide), ?_⟩
    dsimp only [Part.Same] at hself
    simp only [decide_true, Bool.and_self, if_true]
    rw [hself]
    refine Eq.trans ?_ (if_pos hall).symm
    exact Eq.trans ((frame_closeSlots _).same .mode (by decide)) (setMode_mode _ _)

theorem hbp_applyCaLat (s : State) : s.applyCaLat.hbp = { s.hbp with caLat := s.fld HBP_CTL_CA_LAT + 1, cmd2n := s.flag HBP_CTL_CMD_2N } := rfl

/-- Lull ends in service, with the settings of the next self-refresh exit in force. -/
theorem lullExit_serves (s : State) :
    s.lullExit.sys.mode = .service ∧ s.lullExit.hbp.stamp = s.hbp.stamp ∧ s.lullExit.dram = s.dram ∧ s.lullExit.hbp.selfRef = s.hbp.selfRef ∧
      s.lullExit.hbp.caLat = s.fld HBP_CTL_CA_LAT + 1 ∧ s.lullExit.hbp.cmd2n = s.flag HBP_CTL_CMD_2N := by
  have hf := frame_lullExit s
  have hmode : ((s.loopAbort.threshPause.setMode .service).loopHome).applyCaLat.sys.mode = .service :=
    Eq.trans ((frame_applyCaLat _).same .mode (by decide)) (Eq.trans ((frame_loopHome _).same .mode (by decide)) (setMode_mode _ _))
  have hctl : Frame ⟨[.mode, .sys, .hbp, .clk, .fresh, .evr], some [CFG_MODE_ATTACH_PHASE.addr, HBP_LOOP_STS_BUSY.addr, SAV_STS_ABANDONED.addr, CLK_STS_COAST.addr]⟩ s
      (s.loopAbort.threshPause.setMode .service).loopHome :=
    .step rfl (frame_loopHome _) (.step rfl (frame_setMode ..) (.step rfl (frame_threshPause _) (.step rfl (frame_loopAbort s) (.refl _ s))))
  refine ⟨hmode, hf.same .stamp (by decide), hf.same .dram (by decide), hf.same .selfRef (by decide), ?_, ?_⟩
  · exact congrArg (· + 1) (hctl.fld HBP_CTL_CA_LAT rfl)
  · exact hctl.flag HBP_CTL_CMD_2N rfl

theorem selfRefreshExit_serves {ns : BitVec 16} (hm : s.sys.mode = .lull) (hr : s.sys.phase ≠ .restore) (h : CaOpen s c) (ht : s.hbp.train = none)
    (hh : s.flag DCT_STS_HARVESTING = false) : exec (.selfRefreshExit c ns) s = .next (s.stampNext.rankExit c).lullExit := by
  show execSelfRefreshExit c ns s = _
  rw [execSelfRefreshExit, hm, show decide (Mode.lull = Mode.lull) = true from rfl, hostGate_exit hm hr h]
  have h1 : (s.stampNext.rankExit c).sys.mode = .lull := hm
  have h2 : (s.stampNext.rankExit c).flag DCT_STS_HARVESTING = false := hh
  simp [ht, h1, h2]

end Forwarded

/-- Settles O3: each forwarded command on the stamped state. -/
theorem hostCommandsForwarded : Obligations.HostCommandsForwarded := by
  refine ⟨fun c s h => ⟨?_, ?_, fun op => ?_, ?_, fun ret => ?_, fun ret => hostMrr_register h ret⟩,
    fun c b s h => ⟨hostAct_opens h b, fun kind => ?_⟩, fun c s h => selfRefreshEntry_moves h, fun c ns s hm hr h ht hh => ?_⟩
  · exact answers_forward h (k := id) rfl rfl
  · exact answers_forward h (k := id) rfl rfl
  · exact answers_forward h (k := id) rfl rfl
  · exact answers_forward h (k := id) rfl rfl
  · exact answers_forward h (k := fun t => t.driveOut (ret, Config.mrrCheck t.hbp.stamp)) rfl rfl
  · cases kind <;> exact hostPrecharge_closes h _ b
  · refine answers_of (selfRefreshExit_serves hm hr h ht hh) ?_
    obtain ⟨h1, h2, h3, h4, h5, h6⟩ := lullExit_serves (s.stampNext.rankExit c)
    exact ⟨h1, h2, h3, h4, h5, h6⟩

end Sys2Proof.Proofs

/-! PROOF. What a forwarded READ returns (R62, R63). -/

namespace Sys2Proof.Proofs

open Sys2Proof.Machine Sys2Proof.Machine.Reg Sys2Proof.Laws

section ReadReturns

variable {s t : State} {c : CaCmd} {b : BankAddr} {row : Nat}

/-- What a READ returns rests on the DRAM, the learned code, the packet unit and the units that are out. -/
theorem readReturn_of_frame {F : Foot} (h : Frame F s t)
    (hp : ∀ p ∈ [Part.dram, .cln, .pkt, .fenced], p ∉ F.parts) (hr : ∀ f ∈ [CLN_STS_STATE, PKT_SAP_EN, PKT_SAP_BASE, SPT_KITE_GAP], F.spares f.addr = true)
    (ma : Nat) : t.readReturn ma = s.readReturn ma := by
  have hdram : t.dram = s.dram := h.same .dram (hp _ (by simp))
  have hcln : t.cln = s.cln := h.same .cln (hp _ (by simp))
  have hpkt : t.pkt = s.pkt := h.same .pkt (hp _ (by simp))
  have hout : t.flt.fenced = s.flt.fenced := h.same .fenced (hp _ (by simp))
  have h1 := h.fld CLN_STS_STATE (hr _ (by simp))
  have h2 := h.flag PKT_SAP_EN (hr _ (by simp))
  have h3 := h.fld PKT_SAP_BASE (hr _ (by simp))
  have h4 := h.flag SPT_KITE_GAP (hr _ (by simp))
  simp only [State.readReturn, State.learned, State.inSap, State.sapBase, State.statusLine, State.inGap, State.pktFenced, State.unitOut, State.slot,
    State.ring, State.predict, State.line, hdram, hcln, hpkt, hout, h1, h2, h3, h4]
  rfl

/-- What a READ of a line returns, as the statement writes it. -/
theorem readReturn_eq (s : State) (ma : Nat) :
    s.readReturn ma = if s.fld CLN_STS_STATE = 4 ∧ s.inSap ma = true then (s.statusLine ma, predict s.cln.store ma (s.statusLine ma)) else s.line ma := by
  by_cases h : s.fld CLN_STS_STATE = 4 <;> simp [State.readReturn, State.learned, clnLearned, State.predict, h]

theorem openRow_autoPre (s : State) (ap : Bool) (j i : Nat) : (s.autoPre ap j).openRow i = if ap = true ∧ i = j then none else s.openRow i := by
  cases ap with
  | false => simp [State.autoPre]
  | true =>
    by_cases hi : i = j
    · simp [State.autoPre, State.closeRow, State.openRow, hi, smapFind_del_same]
    · simp [State.autoPre, State.closeRow, State.openRow, hi, smapFind_del_ne]

theorem hostRead_bl16_returns (h : HostOpen s c) (hr : s.openRow (cmdBank c b) = some row) (col : BitVec 7) (ap : Bool) :
    Answers (.hostRead c b col .bl16 ap) s (fun t => t.hbp.hostOut = some (s.readReturn (columnMa s c b row col)) ∧
      t = { s.crossed with hbp := { s.crossed.hbp with hostOut := t.hbp.hostOut, rows := t.hbp.rows } } ∧
      ∀ i, t.openRow i = if ap = true ∧ i = cmdBank c b then none else s.openRow i) := by
  refine answers_of (execHostRead_bl16 h hr col ap) ⟨?_, ?_, fun i => openRow_autoPre _ ap _ i⟩
  · cases ap <;> rfl
  · cases ap <;> rfl

/-- The parts of the state that a READ of a burst length that the part does not support reaches. -/
theorem frame_odd_read (s : State) (c : CaCmd) (v : LineData × CheckBytes) (g : Nat) (ap : Bool) (i : Nat) :
    Frame ⟨[.rows, .hbp, .gln, .sea, .fresh, .evr], some [PER_STS_ALL_DIRTY.addr]⟩ s ((((s.oddLength c).driveOut v).flagIncomplete g).autoPre ap i) := by
  obtain ⟨gln, sea, e⟩ := flagIncomplete_changes_gln_sea ((s.oddLength c).driveOut v) g
  rw [e]
  refine .step rfl (frame_autoPre ..) (.lit ((s.oddLength c).driveOut v) (fun p hp => ?_) (.step rfl (frame_driveOut ..) (.step rfl (frame_oddLength ..) (.refl _ s))))
  cases p <;> first | with_reducible rfl | exact absurd (by decide) hp

theorem allDirty_setAllDirty (s : State) (i : Nat) : (s.setAllDirty i).flag PER_STS_ALL_DIRTY = true := by
  unfold State.setAllDirty State.setBit
  dsimp only
  have h : (s.setFlag PER_STS_ALL_DIRTY true).flag PER_STS_ALL_DIRTY = true := flag_setFlag_same _ _ (by decide) (by decide)
  split
  · exact h
  · split <;> exact (congrArg (fun n => decide (n ≠ 0)) (fld_setFld_ne _ _ (by decide))).trans h

theorem hostRead_odd_returns {burst : Burst} (hb : burst ≠ .bl16) (h : HostOpen s c) (hr : s.openRow (cmdBank c b) = some row)
    (col : BitVec 7) (ap : Bool) :
    Answers (.hostRead c b col burst ap) s (fun t =>
      t.hbp.hostOut = some (Config.oddRead (if burst = .bc8 then 8 else 32) (s.readReturn (columnMa s c b row col))) ∧
      t.dram = s.dram ∧ t.hbp.stamp = s.hbp.stamp + 1 ∧ t.flag PER_STS_ALL_DIRTY = true ∧
      ∀ i, t.openRow i = if ap = true ∧ i = cmdBank c b then none else s.openRow i) := by
  refine answers_of (execHostRead_odd hb h hr col ap) ?_
  have hread : (s.crossed.oddLength c).readReturn = s.readReturn :=
    funext fun ma => (readReturn_of_frame (frame_oddLength s.crossed c) (by decide) (by decide) ma).trans rfl
  rw [hread]
  generalize hv : Config.oddRead _ _ = v
  have hf := frame_odd_read s.crossed c v (maGranule (columnMa s c b row col)) ap (cmdBank c b)
  obtain ⟨gln, sea, e⟩ := flagIncomplete_changes_gln_sea ((s.crossed.oddLength c).driveOut v) (maGranule (columnMa s c b row col))
  refine ⟨?_, hf.same .dram (by decide), hf.same .stamp (by decide), ?_, fun i => ?_⟩
  · rw [e]
    cases ap <;> rfl
  · rw [e]
    have hall : (s.crossed.oddLength c).flag PER_STS_ALL_DIRTY = true := allDirty_setAllDirty _ _
    cases ap <;> exact hall
  · rw [openRow_autoPre, e]
    have hrow : (s.crossed.oddLength c).openRow i = s.openRow i := by
      rw [State.openRow, hbp_oddLength]
      rfl
    exact if_congr Iff.rfl rfl hrow

end ReadReturns

/-- Settles O5: what `readReturn` gives is driven, and nothing is stored. -/
theorem hostReadReturns : Obligations.HostReadReturns := by
  intro c b col burst ap s row h hr
  have hline := readReturn_eq s (columnMa s c b row col)
  cases burst with
  | bl16 =>
    obtain ⟨t, ht, hout, hsame, hrows⟩ := hostRead_bl16_returns h hr col ap
    rw [hline] at hout
    exact ⟨t, ht, hout, by rw [hsame]; rfl, by rw [hsame]; rfl, fun _ => hsame, fun hne => absurd rfl hne, hrows⟩
  | bc8 =>
    obtain ⟨t, ht, hout, hdram, hstamp, hall, hrows⟩ := hostRead_odd_returns (burst := .bc8) (by decide) h hr col ap
    rw [hline] at hout
    exact ⟨t, ht, hout, hdram, hstamp, fun he => (nomatch he), fun _ => hall, hrows⟩
  | bl32 =>
    obtain ⟨t, ht, hout, hdram, hstamp, hall, hrows⟩ := hostRead_odd_returns (burst := .bl32) (by decide) h hr col ap
    rw [hline] at hout
    exact ⟨t, ht, hout, hdram, hstamp, fun he => (nomatch he), fun _ => hall, hrows⟩

end Sys2Proof.Proofs

/-! PROOF. A host write can commit a ledger record: a loss that ends a waiting close (Table 6-4, step 5) records the region's change on flash at once (R274). -/

namespace Sys2Proof.Proofs

open Sys2Proof.Machine Sys2Proof.Machine.Reg Sys2Proof.Laws

-- Each kernel evaluation below waits for the checks before it: in order they need no thread each.
set_option Elab.async false

/-- Region 0 is CLOSING over granule 0. -/
def closingRegion : Region := { Region.none with st := .closing, first := 0, count := 1 }

/-- The SEAL_CLOSE that waits for region 0, its barrier passed. -/
def waitingClose : Nat × Nat × ExecPkt × Bool := (0, 0, ⟨.mailbox, 0, 0, [], true, false, 0⟩, true)

/-- In service with row 0 of bank 0 open, a close of region 0 waits over the covered granule 0, and the glean unit is out, so that a captured write is a loss. -/
def closeUnderWrite : State :=
  { State.reset.setFlag CLK_STS_H_LOCK true with
    sys := { State.reset.sys with mode := .service }
    hbp := { State.reset.hbp with rows := [(0, 0)] }
    gln := { State.reset.gln with regions := [(0, closingRegion)], cover := [(0, true)] }
    sea := { State.reset.sea with closes := [waitingClose] }
    evr := { State.reset.evr with base := some 0, nextSeq := 1 }
    flt := { State.reset.flt with fenced := [(.glean, 0, true)] } }

/-- A command to rank 0 of sub-channel A. -/
def toBankZero : CaCmd := ⟨.a, 0, 0, []⟩

/-- The number of ledger commits on flash after an outcome. -/
def commitsAfter (o : Host.Outcome State Fault Refusal) : Option Nat :=
  match o with
  | .next t => some t.flash.commits
  | _ => none

theorem hostOpen_closeUnderWrite : HostOpen closeUnderWrite toBankZero := by
  unfold HostOpen CaOpen
  decide +kernel

theorem closeUnderWrite_commits :
    commitsAfter (exec (.hostWrite toBankZero ⟨0, 0⟩ 0 .bl16 false 0 0 ⟨false, false⟩) closeUnderWrite) = some 1 := by
  decide +kernel

/-- Refutes O4: the clause that a forwarded WRITE leaves flash alone fails where its loss ends a waiting close, whose REGION record is committed at once. -/
theorem not_hostWrites : ¬ Obligations.HostWrites := by
  intro h
  obtain ⟨hopen, -⟩ := h
  obtain ⟨t, ht, -, -, -, -, -, -, -, hflash, -⟩ :=
    hopen toBankZero ⟨0, 0⟩ 0 .bl16 false 0 0 ⟨false, false⟩ closeUnderWrite 0 hostOpen_closeUnderWrite (by decide +kernel)
  have hcommits := closeUnderWrite_commits
  rw [ht, commitsAfter, hflash] at hcommits
  exact absurd hcommits (by decide +kernel)

end Sys2Proof.Proofs

/-! PROOF. ALERT_n, the lanes and the loopback (R47, R49, R50, R66 to R68). -/

namespace Sys2Proof.Proofs

open Sys2Proof.Machine Sys2Proof.Machine.Reg Sys2Proof.Laws

section Lanes

variable {s : State} {k n : Nat}

/-- The events of a lane within its window, the new ones included (R66). -/
def laneEvents (s : State) (k n : Nat) : Nat :=
  (if s.fld HBP_LANE_CTL_WINDOW_MS * 1000 < s.tick - ((smapFind s.hbp.laneWin k).getD (s.tick, 0)).1 then 0
    else ((smapFind s.hbp.laneWin k).getD (s.tick, 0)).2) + n

/-- The fault register of a lane's side, and the lane's bit in it. -/
def laneField (k : Nat) : Fld := if k < 20 then HBP_LANE_FLT_H else HBP_LANE_FLT_D

def laneBit (k : Nat) : Nat := if k < 20 then k else k - 20

/-- The state with other lane windows. -/
def withWindows (s : State) (m : SMap (Nat × Nat)) : State := { s with hbp := { s.hbp with laneWin := m } }

/-- The lane's fault bit is set and reported. -/
def laneFaulted (s : State) (k : Nat) : State :=
  (s.setBit (laneField k) (laneBit k) true).report .laneFault (4 + k) ((if k < 20 then 0 else 1) * 32 + k % 20) 0

theorem laneJudge_over (h : s.fld HBP_LANE_CTL_THRESH < laneEvents s k n) : ∃ m, s.laneJudge k n = laneFaulted (withWindows s m) k := by
  refine ⟨smapDel s.hbp.laneWin k, ?_⟩
  unfold laneEvents at h
  unfold State.laneJudge laneFaulted laneField laneBit
  dsimp only
  rw [if_pos (by simpa only [apply_ite Prod.snd] using h)]
  split <;> rfl

theorem laneJudge_under (h : laneEvents s k n ≤ s.fld HBP_LANE_CTL_THRESH) : ∃ m, s.laneJudge k n = withWindows s m := by
  unfold laneEvents at h
  unfold State.laneJudge
  dsimp only
  rw [if_neg (by simpa only [apply_ite Prod.snd, Nat.not_lt] using h)]
  split
  · exact ⟨s.hbp.laneWin, rfl⟩
  · exact ⟨_, rfl⟩

theorem laneBit_lt (hk : k < 40) : laneBit k < (laneField k).w := by
  unfold laneBit laneField
  split
  · assumption
  · show k - 20 < 20
    omega

theorem bit_laneFaulted (s : State) (hk : k < 40) : (laneFaulted s k).bit (laneField k) (laneBit k) = true := by
  have h : (s.setBit (laneField k) (laneBit k) true).bit (laneField k) (laneBit k) = true := by
    rw [bit_setBit_true s _ (laneBit_lt hk)]
    · simp
    · unfold laneField
      split <;> decide
  exact h

theorem bits_of_laneField {t : State} (h : t.bit (laneField k) (laneBit k) = true) :
    (k < 20 → t.bit HBP_LANE_FLT_H k = true) ∧ (20 ≤ k → t.bit HBP_LANE_FLT_D (k - 20) = true) := by
  unfold laneField laneBit at h
  constructor
  · intro hk
    rwa [if_pos hk, if_pos hk] at h
  · intro hk
    rwa [if_neg (by omega), if_neg (by omega)] at h

/-- The lane's counters lie apart from every other register that a judgement reads or writes. -/
theorem laneCount_apart (hk : k < 40) {f : Fld} (hf : f.addr < 0x2100 ∨ 0x21A0 ≤ f.addr) : f.addr ≠ (HBP_LANE_CNT_SLIP k).addr ∧ f.addr ≠ (HBP_LANE_CNT_LOOP k).addr := by
  simp only [HBP_LANE_CNT_SLIP, HBP_LANE_CNT_LOOP]
  omega

theorem fld_bump_ne (s : State) {f g : Fld} (n : Nat) (h : g.addr ≠ f.addr) : (s.bump f n).fld g = s.fld g := fld_setFld_ne _ _ (.inl h)

theorem laneEvents_bump {f : Fld} (m : Nat) (hf : f.addr ≠ HBP_LANE_CTL_WINDOW_MS.addr) : laneEvents (s.bump f m) k n = laneEvents s k n := by
  unfold laneEvents
  rw [fld_bump_ne s m hf.symm]
  rfl

theorem onlyFields_withWindows {fs : List Fld} {t : State} (h : OnlyFields fs s t) (m : SMap (Nat × Nat)) :
    OnlyFields fs (withWindows s m) (withWindows t m) := by
  obtain ⟨h1, h2⟩ := h
  exact ⟨by rw [h1]; rfl, h2⟩

theorem onlyFields_trans {fs : List Fld} {t u : State} (h : OnlyFields fs s t) (h' : OnlyFields fs t u) : OnlyFields fs s u := by
  obtain ⟨h1, h2⟩ := h
  obtain ⟨h3, h4⟩ := h'
  exact ⟨by rw [h3, h1], fun a i hi => (h4 a i hi).trans (h2 a i hi)⟩

theorem onlyFields_mono {fs gs : List Fld} {t : State} (h : OnlyFields fs s t) (hs : ∀ f ∈ fs, f ∈ gs) : OnlyFields gs s t := by
  obtain ⟨h1, h2⟩ := h
  exact ⟨h1, fun a i hi => h2 a i fun f hf => hi f (hs f hf)⟩

/-- What a judged lane counter leaves: the counter, the lane's fault, and the windows. -/
theorem counted_lane (s : State) (hk : k < 40) (n : Nat) {f : Fld} (hf : f.addr = 0x2100 + 4 * k) :
    ∃ m, ((s.bump f n).laneJudge k n = laneFaulted (withWindows (s.bump f n) m) k ∧ s.fld HBP_LANE_CTL_THRESH < laneEvents s k n) ∨
      ((s.bump f n).laneJudge k n = withWindows (s.bump f n) m ∧ laneEvents s k n ≤ s.fld HBP_LANE_CTL_THRESH) := by
  have hne : ∀ g : Fld, g.addr < 0x2100 → g.addr ≠ f.addr := fun g hg => by omega
  have hev : laneEvents (s.bump f n) k n = laneEvents s k n := laneEvents_bump n (hne HBP_LANE_CTL_WINDOW_MS (by decide)).symm
  have hth : (s.bump f n).fld HBP_LANE_CTL_THRESH = s.fld HBP_LANE_CTL_THRESH := fld_bump_ne s n (hne _ (by decide))
  rcases Nat.lt_or_ge (s.fld HBP_LANE_CTL_THRESH) (laneEvents s k n) with h | h
  · obtain ⟨m, hm⟩ := laneJudge_over (s := s.bump f n) (k := k) (n := n) (by rw [hev, hth]; exact h)
    exact ⟨m, .inl ⟨hm, h⟩⟩
  · obtain ⟨m, hm⟩ := laneJudge_under (s := s.bump f n) (k := k) (n := n) (by rw [hev, hth]; exact h)
    exact ⟨m, .inr ⟨hm, h⟩⟩

theorem fld_laneFaulted_ne (s : State) {g : Fld} (h : g.addr ≠ (laneField k).addr) : (laneFaulted s k).fld g = s.fld g :=
  fld_setBit_ne s _ _ h

theorem laneField_addr_lt : (laneField k).addr < 0x2100 := by
  unfold laneField
  split <;> decide

theorem hbp_laneFaulted (s : State) : (laneFaulted s k).hbp = s.hbp := by
  show (s.setBit (laneField k) (laneBit k) true).hbp = s.hbp
  rw [setBit_changes_regs]

theorem onlyFields_laneFaulted (s : State) {fs : List Fld} (hf : laneField k ∈ fs) :
    OnlyFields fs (s.report .laneFault (4 + k) ((if k < 20 then 0 else 1) * 32 + k % 20) 0) (laneFaulted s k) :=
  onlyFields_report (onlyFields_setBit (onlyFields_refl fs s) _ _ hf) _ _ _ _

theorem laneFault_counted (s : State) (hk : k < 40) (n : Nat) :
    let t := (s.bump (HBP_LANE_CNT_SLIP k) n).laneJudge k n
    t.fld (HBP_LANE_CNT_SLIP k) = min (s.fld (HBP_LANE_CNT_SLIP k) + n) 65535 ∧ t.hbp = { s.hbp with laneWin := t.hbp.laneWin } ∧
    (s.fld HBP_LANE_CTL_THRESH < laneEvents s k n → t.bit (laneField k) (laneBit k) = true ∧
      OnlyFields [HBP_LANE_CNT_SLIP k, laneField k]
        { s.report .laneFault (4 + k) ((if k < 20 then 0 else 1) * 32 + k % 20) 0 with hbp := t.hbp } t) ∧
    (laneEvents s k n ≤ s.fld HBP_LANE_CTL_THRESH → OnlyFields [HBP_LANE_CNT_SLIP k] { s with hbp := t.hbp } t) := by
  have hcount : (s.bump (HBP_LANE_CNT_SLIP k) n).fld (HBP_LANE_CNT_SLIP k) = min (s.fld (HBP_LANE_CNT_SLIP k) + n) 65535 :=
    fld_bump_same s n (by show 16 + 16 ≤ 32; decide)
  have hbump : ∀ fs m, HBP_LANE_CNT_SLIP k ∈ fs → OnlyFields fs (withWindows s m) (withWindows (s.bump (HBP_LANE_CNT_SLIP k) n) m) :=
    fun fs m hm => onlyFields_withWindows (onlyFields_bump (onlyFields_refl fs s) n hm) m
  obtain ⟨m, ⟨ht, hev⟩ | ⟨ht, hev⟩⟩ := counted_lane s hk n (f := HBP_LANE_CNT_SLIP k) rfl
  · intro t
    have hbp : t.hbp = { s.hbp with laneWin := m } := by
      show ((s.bump (HBP_LANE_CNT_SLIP k) n).laneJudge k n).hbp = _
      rw [ht, hbp_laneFaulted]
      rfl
    refine ⟨?_, by rw [hbp], fun _ => ⟨?_, ?_⟩, fun h => absurd h (by omega)⟩
    · show ((s.bump (HBP_LANE_CNT_SLIP k) n).laneJudge k n).fld _ = _
      rw [ht, fld_laneFaulted_ne]
      · exact hcount
      · have := laneField_addr_lt (k := k)
        show 0x2100 + 4 * k ≠ _
        omega
    · show ((s.bump (HBP_LANE_CNT_SLIP k) n).laneJudge k n).bit _ _ = _
      rw [ht]
      exact bit_laneFaulted _ hk
    · rw [hbp]
      show OnlyFields _ _ ((s.bump (HBP_LANE_CNT_SLIP k) n).laneJudge k n)
      rw [ht]
      exact onlyFields_trans (onlyFields_report (hbump _ m (by simp)) ..) (onlyFields_laneFaulted _ (by simp))
  · intro t
    have hbp : t = withWindows (s.bump (HBP_LANE_CNT_SLIP k) n) m := ht
    rw [hbp]
    exact ⟨hcount, rfl, fun h => absurd h (by omega), fun _ => hbump _ m (by simp)⟩

/-! The loopback. -/

/-- The lanes' errors are taken, and the loopback stands on no side. -/
def loopStopped (s : State) : State := { s with hbp := { s.hbp with loopHost := false, loopDram := false } }

/-- The end of a loopback run whose errors have been taken (R67). -/
def loopEnded (s : State) : State :=
  ((((loopStopped s).clockBack).setFlag HBP_LOOP_STS_BUSY false).setFlag HBP_LOOP_STS_LAST_ABORTED false).bump HBP_LOOP_STS_RUNS 1

/-- The errors of one lane of a side that ran are counted and judged. -/
def loopErrors (s : State) (k n : Nat) : State :=
  if (if k < 20 then s.hbp.loopHost else s.hbp.loopDram) then (s.bump (HBP_LANE_CNT_LOOP k) n).laneJudge k n else s

theorem execLoopbackEnd_one (h : s.hbp.loopHost = true ∨ s.hbp.loopDram = true) (k : Fin 40) (n : BitVec 16) :
    execLoopbackEnd [(k, n)] s = .next (loopEnded (loopErrors s k.val n.toNat)) := by
  rw [execLoopbackEnd, if_neg (by rcases h with h | h <;> simp [h])]
  rfl

theorem onlyFields_loopStopped {fs : List Fld} {t : State} (h : OnlyFields fs s t) : OnlyFields fs (loopStopped s) (loopStopped t) := by
  obtain ⟨h1, h2⟩ := h
  exact ⟨by rw [h1]; rfl, h2⟩

theorem onlyFields_loopEnded (s : State) :
    OnlyFields [CLK_STS_D_SRC, HBP_LOOP_STS_BUSY, HBP_LOOP_STS_LAST_ABORTED, HBP_LOOP_STS_RUNS] (loopStopped s) (loopEnded s) :=
  onlyFields_bump (onlyFields_setFlag (onlyFields_setFlag (onlyFields_setFlag (onlyFields_refl _ _) _ (by simp)) _ (by simp)) _ (by simp)) _ (by simp)

theorem word_loopEnded_ne (s : State) {a : Nat} (h1 : a ≠ CLK_STS_D_SRC.addr) (h2 : a ≠ HBP_LOOP_STS_BUSY.addr) : (loopEnded s).word a = s.word a := by
  have hf : Frame ⟨[.hbp], some [HBP_LOOP_STS_BUSY.addr, CLK_STS_D_SRC.addr]⟩ s (loopEnded s) :=
    .step rfl (frame_bump ..) (.step rfl (frame_setFlag ..) (.step rfl (frame_setFlag ..) (.step rfl (frame_clockBack ..)
      (.lit s (fun p hp => by cases p <;> first | with_reducible rfl | exact absurd (by decide) hp) (.refl _ s)))))
  exact hf.word a (Foot.spares_of_notMem (by simp [h1, h2]) (by decide))

theorem fld_loopEnded_ne (s : State) {g : Fld} (h1 : g.addr ≠ CLK_STS_D_SRC.addr) (h2 : g.addr ≠ HBP_LOOP_STS_BUSY.addr) : (loopEnded s).fld g = s.fld g := by
  rw [State.fld, State.fld, word_loopEnded_ne s h1 h2]

theorem flags_loopEnded (s : State) :
    (loopEnded s).flag HBP_LOOP_STS_BUSY = false ∧ (loopEnded s).flag HBP_LOOP_STS_LAST_ABORTED = false ∧
      (loopEnded s).fld HBP_LOOP_STS_RUNS = min (s.fld HBP_LOOP_STS_RUNS + 1) 65535 := by
  have hbump : ∀ (u : State) (g : Fld), (g.lo + g.w ≤ 16 ∧ g.addr = HBP_LOOP_STS_RUNS.addr) → (u.bump HBP_LOOP_STS_RUNS 1).flag g = u.flag g := by
    intro u g hg
    exact congrArg (fun n => decide (n ≠ 0)) (fld_setFld_ne _ _ (.inr (.inl hg.1)))
  unfold loopEnded
  refine ⟨?_, ?_, ?_⟩
  · rw [hbump _ _ (by decide), flag_setFlag_ne _ _ (by decide), flag_setFlag_same _ _ (by decide) (by decide)]
  · rw [hbump _ _ (by decide), flag_setFlag_same _ _ (by decide) (by decide)]
  · rw [fld_bump_same _ _ (by decide)]
    refine congrArg (fun n => min (n + 1) 65535) ?_
    rw [State.setFlag, fld_setFld_ne _ _ (by decide), State.setFlag, fld_setFld_ne _ _ (by decide), State.clockBack]
    exact fld_setFld_ne _ _ (by decide)

/-- What the errors of one lane leave. -/
theorem loopErrors_counted (s : State) (hk : k < 40) (n : Nat) :
    let ran := if k < 20 then s.hbp.loopHost else s.hbp.loopDram
    let fault := ran = true ∧ s.fld HBP_LANE_CTL_THRESH < laneEvents s k n
    let t := loopErrors s k n
    t.hbp = { s.hbp with laneWin := t.hbp.laneWin } ∧
    t.fld (HBP_LANE_CNT_LOOP k) = (if ran = true then min (s.fld (HBP_LANE_CNT_LOOP k) + n) 65535 else s.fld (HBP_LANE_CNT_LOOP k)) ∧
    (fault → t.bit (laneField k) (laneBit k) = true) ∧
    (¬ fault → t.flt = s.flt ∧ t.word HBP_LANE_FLT_H.addr = s.word HBP_LANE_FLT_H.addr ∧ t.word HBP_LANE_FLT_D.addr = s.word HBP_LANE_FLT_D.addr) ∧
    OnlyFields [HBP_LANE_CNT_LOOP k, HBP_LANE_FLT_H, HBP_LANE_FLT_D] { s with hbp := t.hbp, flt := t.flt } t ∧
    t.fld HBP_LOOP_STS_RUNS = s.fld HBP_LOOP_STS_RUNS := by
  intro ran fault t
  cases hran : ran with
  | false =>
    have ht : t = s := if_neg (by show ¬ ran = true; rw [hran]; decide)
    have hno : ¬ fault := fun h => absurd (hran.symm.trans h.1) (by decide)
    rw [ht]
    exact ⟨rfl, rfl, fun h => absurd h hno, fun _ => ⟨rfl, rfl, rfl⟩, onlyFields_refl _ _, rfl⟩
  | true =>
    have ht0 : t = (s.bump (HBP_LANE_CNT_LOOP k) n).laneJudge k n := if_pos hran
    have hcount : (s.bump (HBP_LANE_CNT_LOOP k) n).fld (HBP_LANE_CNT_LOOP k) = min (s.fld (HBP_LANE_CNT_LOOP k) + n) 65535 :=
      fld_bump_same s n (by show 0 + 16 ≤ 32; decide)
    have hruns : (s.bump (HBP_LANE_CNT_LOOP k) n).fld HBP_LOOP_STS_RUNS = s.fld HBP_LOOP_STS_RUNS :=
      fld_bump_ne s n (laneCount_apart hk (by decide)).2
    have hbump : ∀ fs m, HBP_LANE_CNT_LOOP k ∈ fs → OnlyFields fs (withWindows s m) (withWindows (s.bump (HBP_LANE_CNT_LOOP k) n) m) :=
      fun fs m hm => onlyFields_withWindows (onlyFields_bump (onlyFields_refl fs s) n hm) m
    obtain ⟨m, ⟨ht, hev⟩ | ⟨ht, hev⟩⟩ := counted_lane s hk n (f := HBP_LANE_CNT_LOOP k) rfl
    · rw [ht] at ht0
      have hfield := laneField_addr_lt (k := k)
      have hbp : t.hbp = { s.hbp with laneWin := m } := by rw [ht0, hbp_laneFaulted]; rfl
      have hne1 : (HBP_LANE_CNT_LOOP k).addr ≠ (laneField k).addr := by
        show 0x2100 + 4 * k ≠ _
        omega
      have hne2 : HBP_LOOP_STS_RUNS.addr ≠ (laneField k).addr := by
        unfold laneField
        split <;> decide
      refine ⟨by rw [hbp], ?_, fun _ => ?_, fun h => absurd ⟨hran, hev⟩ h, ?_, ?_⟩
      · rw [ht0, fld_laneFaulted_ne _ hne1]
        exact hcount
      · rw [ht0]
        exact bit_laneFaulted _ hk
      · have h := onlyFields_trans (fs := [HBP_LANE_CNT_LOOP k, HBP_LANE_FLT_H, HBP_LANE_FLT_D])
          (onlyFields_report (hbump _ m (by simp)) .laneFault (4 + k) ((if k < 20 then 0 else 1) * 32 + k % 20) 0)
          (onlyFields_laneFaulted (k := k) _ (by unfold laneField; split <;> simp))
        rw [← ht0] at h
        obtain ⟨h1, h2⟩ := h
        refine ⟨?_, h2⟩
        conv_lhs => rw [h1]
        rw [hbp]
        have hflt : t.flt = (s.report .laneFault (4 + k) ((if k < 20 then 0 else 1) * 32 + k % 20) 0).flt := by rw [h1]; rfl
        rw [hflt]
        rfl
      · rw [ht0, fld_laneFaulted_ne _ hne2]
        exact hruns
    · rw [ht] at ht0
      rw [ht0]
      have hw : ∀ a, a < 0x2100 → (s.bump (HBP_LANE_CNT_LOOP k) n).word a = s.word a := fun a ha => by
        rw [State.bump, word_setFld, if_neg (by show a ≠ 0x2100 + 4 * k; omega)]
      exact ⟨rfl, hcount, fun h => absurd h.2 (by omega), fun _ => ⟨rfl, hw _ (by decide), hw _ (by decide)⟩, hbump _ m (by simp), hruns⟩

end Lanes

theorem execDramAlert_on {s : State} (h1 : s.sys.mode ≠ .off) (h2 : s.sys.mode ≠ .powerUp) (x : Sub) (r : Fin 2) :
    execDramAlert x r s = .next { s.note 0x0054 (subSource x) (leBytes 1 (subNum x) ++ leBytes 1 r.val) with
      hbp := { (s.note 0x0054 (subSource x) (leBytes 1 (subNum x) ++ leBytes 1 r.val)).hbp with alertPulse := true } } :=
  if_neg (by simp [State.inMode, h1, h2])

theorem execLaneFault_on {s : State} (h1 : s.sys.mode ≠ .off) (h2 : s.sys.mode ≠ .powerUp) (k : Fin 40) (n : BitVec 16) :
    execLaneFault k n s = .next ((s.bump (HBP_LANE_CNT_SLIP k.val) n.toNat).laneJudge k.val n.toNat) :=
  if_neg (by simp [State.inMode, h1, h2])

/-- A loopback starts in lull on the enabled sides (R67, R68). -/
theorem loopbackStart_starts (s : State) : Answers .loopbackStart s (fun t =>
    if s.sys.mode = .lull ∧ (s.flag HBP_LOOP_CTL_HOST_EN = true ∨ (s.flag HBP_LOOP_CTL_DRAM_EN = true ∧ s.flag DCT_STS_HARVESTING = false)) then
      t.hbp = { s.hbp with loopHost := s.flag HBP_LOOP_CTL_HOST_EN, loopDram := s.flag HBP_LOOP_CTL_DRAM_EN && !s.flag DCT_STS_HARVESTING } ∧
      t.flag HBP_LOOP_STS_BUSY = true ∧ OnlyFields [HBP_LOOP_STS_BUSY, CLK_STS_D_SRC] { s with hbp := t.hbp } t
    else t = s) := by
  split
  · next h =>
    refine answers_of (if_pos (by simpa using h)) ⟨rfl, ?_, ?_⟩
    · rw [flag_setFlag_ne _ _ (by decide), flag_setFlag_same _ _ (by decide) (by decide)]
    · exact onlyFields_setFlag (onlyFields_setFlag (onlyFields_refl _ _) _ (by simp)) _ (by simp)
  · next h => exact answers_of (if_neg (by simpa using h)) rfl

/-- Settles O7: alerts, lane faults by `laneFault_counted`, and the loopback by `loopErrors_counted` and the end of the run. -/
theorem alertsLanesAndLoopback : Obligations.AlertsLanesAndLoopback := by
  refine ⟨fun s => ⟨answers_of rfl rfl, fun x => ?_, fun h1 h2 => ⟨fun x r => ?_, fun k n => ?_⟩⟩, fun s => ⟨loopbackStart_starts s, fun k n h => ?_⟩⟩
  · refine ⟨_, ?_, rfl⟩
    show execParityBlockLong x s = _
    unfold execParityBlockLong
    split <;> rfl
  · exact answers_of (execDramAlert_on h1 h2 x r) ⟨rfl, rfl, rfl⟩
  · obtain ⟨hc, hh, ho, hu⟩ := laneFault_counted s k.isLt n.toNat
    refine answers_of (execLaneFault_on h1 h2 k n) ⟨hc, hh, fun hev => ?_, hu⟩
    obtain ⟨hb, hf⟩ := ho hev
    obtain ⟨hH, hD⟩ := bits_of_laneField hb
    exact ⟨hH, hD, hf⟩
  · obtain ⟨hh, hc, hb, hn, hf, hr⟩ := loopErrors_counted s k.isLt n.toNat
    obtain ⟨e1, e2, e3⟩ := flags_loopEnded (loopErrors s k.val n.toNat)
    have hapart := fun g hg => laneCount_apart (f := g) k.isLt hg
    refine answers_of (execLoopbackEnd_one h k n) ⟨?_, e1, e2, ?_, ?_, fun hev => ?_, fun hev => ?_, ?_⟩
    · show (loopStopped (loopErrors s k.val n.toNat)).hbp = _
      show ({ (loopErrors s k.val n.toNat).hbp with loopHost := false, loopDram := false } : Hbp) = _
      rw [hh]
      rfl
    · rw [e3, hr]
    · rw [fld_loopEnded_ne _ (hapart _ (by decide)).2.symm (hapart _ (by decide)).2.symm]
      exact hc
    · have hbit := hb hev
      refine bits_of_laneField ?_
      rw [bit_of_fld (fld_loopEnded_ne _ ?_ ?_)]
      · exact hbit
      all_goals
        unfold laneField
        split <;> decide
    · obtain ⟨f1, f2, f3⟩ := hn hev
      refine ⟨f1, ?_, ?_⟩
      · rw [word_loopEnded_ne _ (by decide) (by decide)]
        exact f2
      · rw [word_loopEnded_ne _ (by decide) (by decide)]
        exact f3
    · have hstop := onlyFields_mono (gs := [HBP_LANE_CNT_LOOP k.val, HBP_LANE_FLT_H, HBP_LANE_FLT_D, CLK_STS_D_SRC, HBP_LOOP_STS_BUSY,
        HBP_LOOP_STS_LAST_ABORTED, HBP_LOOP_STS_RUNS]) (onlyFields_loopStopped hf) (by simp)
      exact onlyFields_trans hstop (onlyFields_mono (onlyFields_loopEnded _) (by simp))

end Sys2Proof.Proofs

/-! PROOF. The host training modes (R82, R83, Table 3-3). -/

namespace Sys2Proof.Proofs

open Sys2Proof.Machine Sys2Proof.Machine.Reg Sys2Proof.Laws

section TrainModes

variable {s : State} {c : CaCmd}

theorem hostRec_fits (s : State) : (hostRec (s.fld TRN_STS_ACTIVE_SP)).lo + (hostRec (s.fld TRN_STS_ACTIVE_SP)).w ≤ 32 := by
  have := fld_lt s TRN_STS_ACTIVE_SP
  show 4 * s.fld TRN_STS_ACTIVE_SP + 2 + 2 ≤ 32
  simp only [TRN_STS_ACTIVE_SP] at this ⊢
  omega

theorem fld_setRecord (s : State) {f : Fld} (v : Nat) (ha : f.addr = 0x3008) (hf : f.lo + f.w ≤ 32) : (s.setRecord f v).fld f = v % 2 ^ f.w := by
  have hspare : (⟨[.flo, .fresh, .evr, .slots, .flt], some [EVR_DROP_CRITICAL.addr, EVR_FENCED_CNT.addr]⟩ : Foot).spares f.addr = true := by rw [ha]; rfl
  unfold State.setRecord
  dsimp only
  split
  · rw [(frame_ledgerTraining ..).fld f hspare, fld_setFld_same _ _ hf]
  · exact fld_setFld_same _ _ hf

/-- The judgement of mode 0x15 (R83). -/
theorem fld_judgeHost (s : State) : s.judgeHost.fld (hostRec (s.fld TRN_STS_ACTIVE_SP)) =
    if s.hbp.train = some .writeDq ∧ 64 ≤ s.trn.centred then (if s.trn.fullMatch = true then 1 else 3) else s.fld (hostRec (s.fld TRN_STS_ACTIVE_SP)) := by
  unfold State.judgeHost
  by_cases h : s.hbp.train = some .writeDq ∧ 64 ≤ s.trn.centred
  · rw [if_pos (by simpa using h), if_pos h, fld_setRecord _ _ rfl (hostRec_fits s)]
    show (if s.trn.fullMatch = true then 1 else 3) % 4 = _
    split <;> rfl
  · rw [if_neg (by simpa using h), if_neg h]

theorem fld_trainLeave_ne (s : State) {g : Fld} (h : g.addr ≠ TRN_STS_ABANDONED.addr) : s.trainLeave.fld g = s.fld g :=
  (frame_trainLeave s).fld g (Foot.spares_of_notMem (by simpa using h) (by decide))

theorem trainLeave_left (s : State) : s.trainLeave.hbp = { s.hbp with train := none } ∧ s.trainLeave.flag TRN_STS_HOST_MODE = false ∧
    s.trainLeave.trn = { s.trn with centred := 0, fullMatch := false, matched := [], beats := [], hostWork := [] } := by
  unfold State.trainLeave
  dsimp only
  split
  · exact ⟨rfl, by rw [flag_setFlag_ne _ _ (by decide), flag_setFlag_same _ _ (by decide) (by decide)], rfl⟩
  · exact ⟨rfl, flag_setFlag_same _ _ (by decide) (by decide), rfl⟩

/-- A mode that is entered or left takes the judgement with it, and its sequence starts anew. -/
def Restarted (s t : State) : Prop :=
  t.trn.centred = 0 ∧ t.trn.beats = [] ∧ t.trn.fullMatch = false ∧ t.sys = s.sys ∧ t.dram = s.dram ∧
    t.fld (hostRec (s.fld TRN_STS_ACTIVE_SP)) =
      if s.hbp.train = some .writeDq ∧ 64 ≤ s.trn.centred then (if s.trn.fullMatch = true then 1 else 3) else s.fld (hostRec (s.fld TRN_STS_ACTIVE_SP))

theorem judged_leaves (s : State) :
    Restarted s s.judgeHost.trainLeave ∧ s.judgeHost.trainLeave.hbp = { s.hbp with train := none } ∧ s.judgeHost.trainLeave.flag TRN_STS_HOST_MODE = false := by
  obtain ⟨h1, h2, h3⟩ := trainLeave_left s.judgeHost
  have hj := frame_judgeHost s
  have hl := frame_trainLeave s.judgeHost
  refine ⟨⟨by rw [h3], by rw [h3], by rw [h3], Part.same_trans (p := .sys) (hj.same .sys (by decide)) (hl.same .sys (by decide)),
    Part.same_trans (p := .dram) (hj.same .dram (by decide)) (hl.same .dram (by decide)), ?_⟩, ?_, h2⟩
  · rw [fld_trainLeave_ne _ (by show 0x3008 ≠ _; decide), fld_judgeHost]
  · rw [h1, show s.judgeHost.hbp = s.hbp from hj.same .hbp (by decide)]

/-- The mode is entered on a sub-channel, after what was active has been judged and left. -/
theorem trainEnter_enters (s : State) (m : TrainMode) (x : Sub) (v : Byte) :
    Restarted s (s.trainEnter m x v) ∧ (s.trainEnter m x v).hbp = { s.hbp with train := some m, trainSub := x } ∧
      (s.trainEnter m x v).flag TRN_STS_HOST_MODE = true := by
  obtain ⟨⟨h1, h2, h3, h4, h5, h6⟩, h7, -⟩ := judged_leaves s
  have hbp : ({ s.judgeHost.trainLeave.hbp with train := some m, trainSub := x } : Hbp) = { s.hbp with train := some m, trainSub := x } := by rw [h7]
  have hrec : ∀ (u : State) (f : Fld) (b : Bool), f.addr = TRN_STS_HOST_MODE.addr →
      (u.setFlag f b).fld (hostRec (s.fld TRN_STS_ACTIVE_SP)) = u.fld (hostRec (s.fld TRN_STS_ACTIVE_SP)) := fun u f b hf =>
    fld_setFld_ne _ _ (.inl (by rw [hf]; show 0x3008 ≠ _; decide))
  unfold State.trainEnter
  dsimp only
  split
  · refine ⟨⟨h1, h2, h3, h4, h5, ?_⟩, hbp, ?_⟩
    · rw [hrec _ TRN_STS_GATHERING _ rfl, hrec _ TRN_STS_HOST_MODE _ rfl]
      exact h6
    · rw [flag_setFlag_ne _ _ (by decide), flag_setFlag_same _ _ (by decide) (by decide)]
  · refine ⟨⟨h1, h2, h3, h4, h5, ?_⟩, hbp, flag_setFlag_same _ _ (by decide) (by decide)⟩
    rw [hrec _ _ _ rfl]
    exact h6

theorem trainCw_open (h : CwOpen s c) (m : TrainMode) (index : Nat) (v : Byte) :
    s.trainCw m index c v = .next (if !s.trainHonoured then s.emit .trace 0x0055 (subSource c.sub) [BitVec.ofNat 8 index, v]
      else if v.getLsbD 0 then s.trainEnter m c.sub v else if s.hbp.train = some m then s.judgeHost.trainLeave else s) := by
  rw [State.trainCw, hostGate_cw h]
  rfl

theorem trainHonoured_iff (s : State) : s.trainHonoured = true ↔
    ((s.sys.mode = .attach ∧ s.sys.phase = .train ∧ s.flag TRN_STS_DRAM_READY = true) ∨ s.sys.mode = .rebound ∨
      (s.sys.mode = .keeper ∧ (s.sys.keeperTraining = true ∨ s.sys.keeperFrom = .rebound))) := by
  simp [State.trainHonoured, and_assoc, or_assoc]

/-- Where the modes are honoured, bit [0] = 1 enters. -/
theorem trainCw_enters (h : CwOpen s c) (ht : s.trainHonoured = true) (m : TrainMode) (index : Nat) {v : Byte} (hv : v.getLsbD 0 = true) :
    s.trainCw m index c v = .next (s.trainEnter m c.sub v) := by
  rw [trainCw_open h, ht, hv]
  rfl

/-- Where the modes are honoured, bit [0] = 0 leaves the mode if it is active. -/
theorem trainCw_leaves (h : CwOpen s c) (ht : s.trainHonoured = true) (m : TrainMode) (index : Nat) {v : Byte} (hv : v.getLsbD 0 = false) :
    s.trainCw m index c v = .next (if s.hbp.train = some m then s.judgeHost.trainLeave else s) := by
  rw [trainCw_open h, ht, hv]
  rfl

theorem trainCw_ignored (h : CwOpen s c) (ht : s.trainHonoured = false) (m : TrainMode) (index : Nat) (v : Byte) :
    s.trainCw m index c v = .next (s.emit .trace 0x0055 (subSource c.sub) [BitVec.ofNat 8 index, v]) := by
  rw [trainCw_open h, ht]
  rfl

/-- The control words of the six modes. -/
def sixModes (c : CaCmd) (v : Byte) : List (Fin 6 × Instr) :=
  [((0 : Fin 6), Instr.caTrainingMode c v), (1, .csTrainingMode c v), (2, .readEnableMode c v),
    (3, .writeLevelingMode c v), (4, .readDqMode c v), (5, .writeDqMode c v)]

theorem exec_sixModes (v : Byte) {p : Fin 6 × Instr} (hp : p ∈ sixModes c v) :
    exec p.2 s = s.trainCw (trainModeOf p.1) (16 + p.1.val) c v := by
  simp only [sixModes, List.mem_cons, List.not_mem_nil, or_false] at hp
  rcases hp with rfl | rfl | rfl | rfl | rfl | rfl <;> rfl

end TrainModes

/-! What a training sample returns. -/

theorem testBit_leBits (bs : List Bool) (i : Nat) : (leBits bs).testBit i = bs.getD i false := by
  induction bs generalizing i with
  | nil => simp [leBits]
  | cons b bs ih =>
    have hb : (if b then 1 else 0) + 2 * leBits bs = Nat.bit b (leBits bs) := by cases b <;> simp [Nat.bit, Nat.add_comm]
    rw [leBits, hb]
    cases i with
    | zero => simp
    | succ i => rw [Nat.testBit_bit_succ, ih]; rfl

theorem odd_count_eq_xor (w : BitVec 7) (l : List Nat) (n : Nat) (b : Bool) (h : decide (n % 2 = 1) = b) :
    decide (l.foldl (fun n i => if w.getLsbD i then n + 1 else n) n % 2 = 1) = l.foldl (fun b k => b ^^ w.getLsbD k) b := by
  induction l generalizing n b with
  | nil => exact h
  | cons k l ih =>
    refine ih _ _ ?_
    subst h
    cases hk : w.getLsbD k with
    | false => simp [hk]
    | true =>
      have h2 : n % 2 = 0 ∨ n % 2 = 1 := by omega
      rcases h2 with h2 | h2 <;> simp [hk, h2, Nat.add_mod]

theorem testBit_caXor (uis : List (BitVec 7 × Bool)) (i : Nat) :
    (caXor uis).testBit i = (uis.map (fun u => (List.range 7).foldl (fun b k => b ^^ u.1.getLsbD k) false)).getD i false := by
  rw [caXor, testBit_leBits]
  exact congrArg (fun l : List Bool => l.getD i false) (List.map_congr_left fun u _ => odd_count_eq_xor u.1 _ 0 false rfl)

theorem testBit_leveling (ck : BitVec 20) (i : Nat) :
    (leBits ((List.range 80).map (fun i => ck.getLsbD (i / 4)))).testBit i = (decide (i < 80) && ck.getLsbD (i / 4)) := by
  rw [testBit_leBits]
  by_cases h : i < 80
  · simp [h]
  · simp [h]

/-- Settles O9: control words by `trainCw_enters`, `trainCw_leaves` and `trainCw_ignored`; samples by what the sampled bits fold to. -/
theorem hostTraining : Obligations.HostTraining := by
  refine ⟨fun c s h => ⟨fun hh => ?_, fun hm => ?_⟩, fun c cs ck s => ⟨fun ht hs => ?_, fun ht hs => ?_, fun ht => ?_, fun ht => ?_⟩⟩
  · have ht := (trainHonoured_iff s).2 hh
    have hleave : ∀ (i : Instr) (m : TrainMode) (k : Nat) (v : Byte), v.getLsbD 0 = false → exec i s = s.trainCw m k c v →
        (s.hbp.train = some m → Answers i s (fun t => t.hbp = { s.hbp with train := none } ∧ t.flag TRN_STS_HOST_MODE = false ∧ Restarted s t)) ∧
        (s.hbp.train ≠ some m → exec i s = .next s) := by
      intro i m k v hv hi
      rw [trainCw_leaves h ht m k hv] at hi
      refine ⟨fun htm => answers_of (hi.trans (congrArg _ (if_pos htm))) ?_, fun htm => hi.trans (congrArg _ (if_neg htm))⟩
      obtain ⟨hr, hb, hf⟩ := judged_leaves s
      exact ⟨hb, hf, hr⟩
    have hleft : ∀ t : State, t.hbp = { s.hbp with train := none } ∧ t.flag TRN_STS_HOST_MODE = false ∧ Restarted s t →
        t.hbp = { s.hbp with train := none } ∧ t.flag TRN_STS_HOST_MODE = false ∧ t.trn.beats = [] ∧ t.sys = s.sys ∧ t.dram = s.dram ∧
          t.fld (hostRec (s.fld TRN_STS_ACTIVE_SP)) = if s.hbp.train = some .writeDq ∧ 64 ≤ s.trn.centred then (if s.trn.fullMatch = true then 1 else 3)
            else s.fld (hostRec (s.fld TRN_STS_ACTIVE_SP)) :=
      fun t ⟨hb, hf, _, r2, _, r4, r5, r6⟩ => ⟨hb, hf, r2, r4, r5, r6⟩
    refine ⟨fun v hv => ?_, fun v hv p hp => ?_, fun i => ?_⟩
    · have henter : ∀ (i : Instr) (m : TrainMode) (k : Nat), exec i s = s.trainCw m k c v → Answers i s (fun t =>
          t.hbp = { s.hbp with train := some m, trainSub := c.sub } ∧ t.flag TRN_STS_HOST_MODE = true ∧ Restarted s t) := by
        intro i m k hi
        rw [trainCw_enters h ht m k hv] at hi
        obtain ⟨hr, hb, hf⟩ := trainEnter_enters s m c.sub v
        exact answers_of hi ⟨hb, hf, hr⟩
      exact ⟨henter _ .ca 0x10 rfl, henter _ .cs 0x11 rfl, henter _ .readEnable 0x12 rfl, henter _ .writeLevel 0x13 rfl, henter _ .readDq 0x14 rfl,
        henter _ .writeDq 0x15 rfl⟩
    · obtain ⟨h1, h2⟩ := hleave p.2 (trainModeOf p.1) _ v hv (exec_sixModes v hp)
      refine ⟨fun htm => ?_, h2⟩
      obtain ⟨t, hx, hP⟩ := h1 htm
      exact ⟨t, hx, hleft t hP⟩
    · obtain ⟨h1, h2⟩ := hleave (.hostTrainingModeExit c i) (trainModeOf i) (0x10 + i.val) 0 rfl rfl
      refine ⟨fun htm => ?_, h2⟩
      obtain ⟨t, hx, hP⟩ := h1 htm
      exact ⟨t, hx, hleft t hP⟩
  · have ht : s.trainHonoured = false := by rcases hm with hm | hm <;> simp [State.trainHonoured, hm]
    exact ⟨fun v p hp => (exec_sixModes v hp).trans (trainCw_ignored h ht _ _ v), fun i => trainCw_ignored h ht _ _ 0⟩
  · refine answers_of (t := { s with hbp := { s.hbp with trainOut := caXor c.uis } }) ?_ ⟨rfl, testBit_caXor c.uis⟩
    show execHostTrainingSample c cs ck s = _
    simp [execHostTrainingSample, ht, hs]
  · refine answers_of ?_ rfl
    show execHostTrainingSample c cs ck s = _
    cases hb : cs.getLsbD s.trn.csSel <;> simp [execHostTrainingSample, ht, hs, hb]
  · refine answers_of (t := { s with hbp := { s.hbp with trainOut := leBits ((List.range 80).map (fun i => ck.getLsbD (i / 4))) } }) ?_ ⟨rfl, testBit_leveling ck⟩
    show execHostTrainingSample c cs ck s = _
    simp [execHostTrainingSample, ht]
  · refine answers_of ?_ rfl
    show execHostTrainingSample c cs ck s = _
    simp [execHostTrainingSample, ht]

end Sys2Proof.Proofs

/-! PROOF. HBP_CTL and the host's reset pin (R25, R41, R72, R74, R107, R151). -/

namespace Sys2Proof.Proofs

open Sys2Proof.Machine Sys2Proof.Machine.Reg Sys2Proof.Laws

-- Each kernel evaluation below waits for the checks before it: in order they need no thread each.
set_option Elab.async false

section Control

variable {s : State}

/-- HBP_CTL after a write of `v`: each RW field takes its bits. -/
def ctlWord (w v : Word) : Word :=
  fldIns (fldIns (fldIns (fldIns (fldIns w HBP_CTL_ALERT_WIDTH (fldOf v HBP_CTL_ALERT_WIDTH)) HBP_CTL_CMD_2N (fldOf v HBP_CTL_CMD_2N))
    HBP_CTL_CA_LAT (fldOf v HBP_CTL_CA_LAT)) HBP_CTL_PAR_POLICY (fldOf v HBP_CTL_PAR_POLICY)) HBP_CTL_PAR_EN (fldOf v HBP_CTL_PAR_EN)

theorem fldOf_lt (w : Word) (f : Fld) : fldOf w f < 2 ^ f.w := Nat.mod_lt _ (Nat.two_pow_pos _)

/-- A RW row whose range is its whole width takes every value. -/
theorem storeField_rw (a : Nat) (v w : Word) (r : FRow) (hacc : r.acc = .rw) (hmin : r.vmin = 0) (hmax : 2 ^ r.fld.w ≤ r.vmax + 1) :
    storeField false a v w r = fldIns w ⟨a, r.fld.lo, r.fld.w⟩ (fldOf v ⟨a, r.fld.lo, r.fld.w⟩) := by
  have : fldOf v ⟨a, r.fld.lo, r.fld.w⟩ < 2 ^ r.fld.w := fldOf_lt v ⟨a, r.fld.lo, r.fld.w⟩
  simp only [storeField, hacc, hmin]
  rw [if_pos]
  simp only [Nat.zero_le, decide_true, Bool.true_and, decide_eq_true_eq]
  omega

theorem rowsAt_ctl : rowsAt 0x2000 = [⟨HBP_CTL_ALERT_WIDTH, 1, 4, .rw, 2, 0, 7⟩, ⟨HBP_CTL_CMD_2N, 1, 4, .rw, 0, 0, 1⟩, ⟨HBP_CTL_CA_LAT, 1, 4, .rw, 1, 0, 1⟩,
    ⟨HBP_CTL_PAR_POLICY, 1, 4, .rw, 1, 0, 1⟩, ⟨HBP_CTL_PAR_EN, 1, 4, .rw, 1, 0, 1⟩] := by decide +kernel

theorem storeReg_ctl (s : State) (v : Word) : s.storeReg 0x2000 v = s.setWord 0x2000 (ctlWord (s.word 0x2000) v) := by
  have htaken : ∀ old w : Word, takenAs 0x2000 old w = w := fun _ _ => rfl
  rw [State.storeReg, State.storeWord, rowsAt_ctl, htaken, if_neg (by simp)]
  simp only [List.foldl_cons, List.foldl_nil]
  rw [storeField_rw _ _ _ _ rfl rfl (by decide), storeField_rw _ _ _ _ rfl rfl (by decide), storeField_rw _ _ _ _ rfl rfl (by decide),
    storeField_rw _ _ _ _ rfl rfl (by decide), storeField_rw _ _ _ _ rfl rfl (by decide)]
  rfl

theorem fld_setWord_same (s : State) (a : Nat) (w : Word) {f : Fld} (h : f.addr = a) : (s.setWord a w).fld f = fldOf w f := by
  rw [State.fld, word_setWord, if_pos h]

theorem ctlWord_fields (w v : Word) : ∀ f ∈ [HBP_CTL_PAR_EN, HBP_CTL_PAR_POLICY, HBP_CTL_CA_LAT, HBP_CTL_CMD_2N, HBP_CTL_ALERT_WIDTH],
    fldOf (ctlWord w v) f = fldOf v f := by
  intro f hf
  have hmod := fldOf_lt v f
  rw [← Nat.mod_eq_of_lt hmod]
  simp only [List.mem_cons, List.not_mem_nil, or_false] at hf
  unfold ctlWord
  rcases hf with rfl | rfl | rfl | rfl | rfl
  · rw [fldOf_fldIns_same _ _ (by decide)]
  · rw [fldOf_fldIns_disj _ _ (by decide), fldOf_fldIns_same _ _ (by decide)]
  · rw [fldOf_fldIns_disj _ _ (by decide), fldOf_fldIns_disj _ _ (by decide), fldOf_fldIns_same _ _ (by decide)]
  · rw [fldOf_fldIns_disj _ _ (by decide), fldOf_fldIns_disj _ _ (by decide), fldOf_fldIns_disj _ _ (by decide), fldOf_fldIns_same _ _ (by decide)]
  · rw [fldOf_fldIns_disj _ _ (by decide), fldOf_fldIns_disj _ _ (by decide), fldOf_fldIns_disj _ _ (by decide), fldOf_fldIns_disj _ _ (by decide),
      fldOf_fldIns_same _ _ (by decide)]

theorem onlyFields_setWord {fs : List Fld} {a : Nat} {w : Word}
    (h : ∀ i, (∀ f ∈ fs, ¬ (f.addr = a ∧ f.lo ≤ i ∧ i < f.lo + f.w)) → w.getLsbD i = (s.word a).getLsbD i) : OnlyFields fs s (s.setWord a w) := by
  refine ⟨rfl, fun b i hi => ?_⟩
  rw [word_setWord]
  split
  · next hb => subst hb; exact h i hi
  · rfl

theorem onlyFields_ctlWord (s : State) (v : Word) :
    OnlyFields [HBP_CTL_PAR_EN, HBP_CTL_PAR_POLICY, HBP_CTL_CA_LAT, HBP_CTL_CMD_2N, HBP_CTL_ALERT_WIDTH] s (s.setWord 0x2000 (ctlWord (s.word 0x2000) v)) := by
  refine onlyFields_setWord fun i hi => ?_
  have hout : ∀ f ∈ [HBP_CTL_PAR_EN, HBP_CTL_PAR_POLICY, HBP_CTL_CA_LAT, HBP_CTL_CMD_2N, HBP_CTL_ALERT_WIDTH], ∀ (w : Word) (x : Nat),
      (fldIns w f x).getLsbD i = w.getLsbD i := fun f hf w x => by
    rw [fldIns_getLsbD, if_neg]
    intro hr
    refine hi f hf ⟨?_, hr⟩
    simp only [List.mem_cons, List.not_mem_nil, or_false] at hf
    rcases hf with rfl | rfl | rfl | rfl | rfl <;> rfl
  unfold ctlWord
  rw [hout _ (by simp), hout _ (by simp), hout _ (by simp), hout _ (by simp), hout _ (by simp)]

theorem flag_of_bit {t : State} {v : Word} {f : Fld} (h : t.fld f = fldOf v f) (hw : f.w = 1) : t.flag f = v.getLsbD f.lo := by
  have hbit : v.getLsbD f.lo = (fldOf v f).testBit 0 := by
    rw [fldOf_testBit]
    simp [hw]
  have hlt := fldOf_lt v f
  rw [hw] at hlt
  rw [State.flag, h, hbit]
  have h2 : fldOf v f = 0 ∨ fldOf v f = 1 := by omega
  rcases h2 with h2 | h2 <;> simp [h2]

theorem hbpCtlWrite_writes (h : s.coreDomains = true) (v : Word) : Answers (.hbpCtlWrite v) s (fun t =>
    t.flag HBP_CTL_PAR_EN = v.getLsbD 0 ∧ t.flag HBP_CTL_PAR_POLICY = v.getLsbD 1 ∧ t.flag HBP_CTL_CA_LAT = v.getLsbD 4 ∧
    t.flag HBP_CTL_CMD_2N = v.getLsbD 5 ∧ t.fld HBP_CTL_ALERT_WIDTH = v.toNat / 256 % 8 ∧
    OnlyFields [HBP_CTL_PAR_EN, HBP_CTL_PAR_POLICY, HBP_CTL_CA_LAT, HBP_CTL_CMD_2N, HBP_CTL_ALERT_WIDTH] s t) := by
  have hx : exec (.hbpCtlWrite v) s = .next (s.setWord 0x2000 (ctlWord (s.word 0x2000) v)) := by
    show execHbpCtlWrite v s = _
    rw [execHbpCtlWrite, h, if_pos rfl, storeReg_ctl]
  have hfld := ctlWord_fields (s.word 0x2000) v
  have hset : ∀ f ∈ [HBP_CTL_PAR_EN, HBP_CTL_PAR_POLICY, HBP_CTL_CA_LAT, HBP_CTL_CMD_2N, HBP_CTL_ALERT_WIDTH], f.addr = 0x2000 → 
      (s.setWord 0x2000 (ctlWord (s.word 0x2000) v)).fld f = fldOf v f := fun f hf ha => (fld_setWord_same _ _ _ ha).trans (hfld f hf)
  refine answers_of hx ⟨flag_of_bit (hset _ (by simp) rfl) rfl, flag_of_bit (hset _ (by simp) rfl) rfl, flag_of_bit (hset _ (by simp) rfl) rfl,
    flag_of_bit (hset _ (by simp) rfl) rfl, ?_, onlyFields_ctlWord s v⟩
  rw [hset _ (by simp) rfl]
  simp [fldOf, HBP_CTL_ALERT_WIDTH]

end Control

section Reset

variable {s : State}

/-- The lines of a retrain area in their places. -/
def areaLines (m : SMap (LineData × CheckBytes)) (area : SMap (LineData × CheckBytes)) : SMap (LineData × CheckBytes) :=
  area.foldl (fun m e => smapSet (fun _ => (0, 0)) m (maLine (e.1 * 64)) e.2) m

theorem setLines_dram (l : SMap (LineData × CheckBytes)) (s : State) :
    (l.foldl (fun (u : State) e => u.setLine (e.1 * 64) e.2) s).dram = { s.dram with lines := areaLines s.dram.lines l } ∧
    (l.foldl (fun (u : State) e => u.setLine (e.1 * 64) e.2) s).trn = s.trn := by
  induction l generalizing s with
  | nil => exact ⟨rfl, rfl⟩
  | cons e l ih => exact ih (s.setLine (e.1 * 64) e.2)

theorem dram_areaBack (s : State) : s.areaBack.dram = { s.dram with lines := areaLines s.dram.lines s.trn.area } := (setLines_dram s.trn.area _).1

theorem area_areaBack (s : State) : s.areaBack.trn.area = [] := congrArg Trn.area (setLines_dram s.trn.area _).2

/-- The DRAM with the lines of the retrain area back is the same. -/
def SameHome (s t : State) : Prop := t.areaBack.dram = s.areaBack.dram

theorem SameHome.trans {t u : State} (h : SameHome s t) (k : SameHome t u) : SameHome s u := Eq.trans k h

theorem sameHome_of_frame {F : Foot} {t : State} (h : Frame F s t) (hd : Part.dram ∉ F.parts) (ha : Part.area ∉ F.parts) : SameHome s t := by
  have h1 : t.dram = s.dram := h.same .dram hd
  have h2 : t.trn.area = s.trn.area := h.same .area ha
  rw [SameHome, dram_areaBack, dram_areaBack, h1, h2]

theorem sameHome_areaBack (s : State) : SameHome s s.areaBack := by
  rw [SameHome, dram_areaBack s.areaBack, area_areaBack]
  rfl

theorem sameHome_trainHalt (s : State) : SameHome s s.trainHalt := by
  refine (sameHome_areaBack s).trans ?_
  unfold State.trainHalt
  dsimp only
  split
  · exact sameHome_of_frame (.refl ⟨[], some []⟩ _) (by decide) (by decide)
  · exact (sameHome_of_frame (frame_setFld ..) (by simp) (by simp)).trans (sameHome_of_frame (frame_setFlag ..) (by simp) (by simp))

theorem dram_trainHalt (s : State) : s.trainHalt.dram = s.areaBack.dram := by
  unfold State.trainHalt
  dsimp only
  split <;> rfl

theorem sameHome_retrainEnd (s : State) : SameHome s s.retrainEnd := by
  unfold State.retrainEnd
  split
  · exact sameHome_of_frame (.refl ⟨[], some []⟩ _) (by decide) (by decide)
  · refine (sameHome_trainHalt s).trans (sameHome_of_frame (F := ⟨[.trn, .clk], none⟩) ?_ (by decide) (by decide))
    exact .step rfl (frame_hopD ..) (.step rfl (frame_setFlag ..) (.step rfl (frame_setFlag ..)
      (.lit s.trainHalt (fun p hp => by cases p <;> first | with_reducible rfl | exact absurd (by decide) hp) (.refl _ _))))

theorem sameHome_harvestStop (s : State) : SameHome s s.harvestStop := by
  unfold State.harvestStop
  refine SameHome.trans ?_ (sameHome_retrainEnd _)
  refine sameHome_of_frame (F := ⟨[.dirty, .flushQ, .per, .bdc], none⟩) ?_ (by decide) (by decide)
  dsimp only
  repeat' first
    | with_reducible (apply Frame.refl)
    | with_reducible (apply Frame.step ?_ (frame_setFlag ..))
    | with_reducible (apply Frame.step ?_ (frame_setD ..))
    | with_reducible assumption
    | with_reducible (refine frame_foldl (fun u x hu => ?_) ?_)
    | split
    | exact rfl
    | (fail_if_no_progress (with_reducible (apply Frame.lit)); next => intro p hp; cases p <;> first | with_reducible rfl | exact absurd (by decide) hp)

theorem sameHome_resetHandback (s : State) : SameHome s s.resetHandback := by
  have h1 : SameHome s (if s.flag DCT_STS_HARVESTING then s.harvestStop.giveDram else s) := by
    split
    · exact (sameHome_harvestStop s).trans (sameHome_of_frame (frame_giveDram _) (by decide) (by decide))
    · exact sameHome_of_frame (.refl ⟨[], some []⟩ _) (by decide) (by decide)
  refine h1.trans (sameHome_of_frame (F := ⟨[.sav, .bdc, .clk], none⟩) ?_ (by decide) (by decide))
  unfold State.resetHandback
  generalize (if s.flag DCT_STS_HARVESTING then s.harvestStop.giveDram else s) = u
  dsimp only
  repeat' first
    | with_reducible (apply Frame.refl)
    | with_reducible (apply Frame.step ?_ (frame_setFlag ..))
    | with_reducible (apply Frame.step ?_ (frame_giveDram ..))
    | with_reducible (apply Frame.step ?_ (frame_restoreStop ..))
    | with_reducible (apply Frame.step ?_ (frame_loopHome ..))
    | split
    | exact rfl
    | (fail_if_no_progress (with_reducible (apply Frame.lit)); next => intro p hp; cases p <;> first | with_reducible rfl | exact absurd (by decide) hp)

/-- With no SAVE_NOW in execution no save begins at the reset. -/
theorem resetSaves_none (h : ∀ e ∈ s.pkt.exec, pktField e.bytes 0 1 ≠ 9) : s.resetSaves = s := by
  rw [State.resetSaves, List.filter_eq_nil_iff.2 (fun e he => by simp [h e he])]
  rfl

/-- The host's reset is seen, in service: what is under way at the DRAM ends, the host buffer path is reset, and TRAIN of attach is entered. -/
def resetSeen (s : State) : State := { s.resetStaging with sys := { s.resetStaging.sys with hReset := true } }

def resetTaken (s : State) : State := ((s.resetHandback.loopAbort.trainHalt).dramReset.statusLost.hbpReset.ringsReset).setAllDirty 4

def attachAgain (s : State) : State := ((((s.learnStop 5).threshPause).enterMode .attach).setPhase .train).trainOrWait

theorem execHostResetAssert_service (hm : s.sys.mode = .service) (h : ∀ e ∈ s.pkt.exec, pktField e.bytes 0 1 ≠ 9) :
    exec .hostResetAssert s = .next (attachAgain (resetTaken (resetSeen s))) := by
  have h1 : s.resetStaging.sys.mode = .service := Eq.trans ((frame_resetStaging s).same .mode (by decide)) hm
  show execHostResetAssert s = _
  unfold execHostResetAssert
  rw [resetSaves_none h]
  show (match (resetSeen s).sys.mode with | .off | .save | .shutDown => _ | .rebound => _ | m => _ : Host.Outcome State Fault Refusal) = _
  rw [show (resetSeen s).sys.mode = .service from h1]
  dsimp only
  rw [if_neg (by simp [State.keeperEarly, h1]), if_neg (by simp), if_neg (by decide), if_neg (by decide)]
  rfl

theorem frame_attachAgain (s : State) : Frame ⟨[.mode, .sys, .trn, .cln, .fresh, .evr],
    some [CFG_MODE_ATTACH_PHASE.addr, TRN_STS_ABANDONED.addr, CLN_STS_AFFINE.addr, SAV_STS_ABANDONED.addr]⟩ s (attachAgain s) :=
  .step rfl (frame_trainOrWait ..) (.step rfl (frame_setPhase ..) (.step rfl (frame_enterMode ..) (.step rfl (frame_threshPause ..)
    (.step rfl (frame_learnStop ..) (.refl _ s)))))

theorem lastMode_enterMode (s : State) (m : Mode) : (s.enterMode m).fld CFG_MODE_LAST_MODE = modeCode s.sys.mode := by
  unfold State.enterMode
  dsimp only
  rw [(frame_note ..).fld CFG_MODE_LAST_MODE rfl, fld_setFld_same _ _ (by decide)]
  cases s.sys.mode <;> rfl

/-- Attach is entered in its TRAIN phase, from the mode that was left. -/
theorem attachAgain_enters (s : State) : (attachAgain s).sys = { s.sys with mode := .attach, phase := .train } ∧
    (attachAgain s).fld CFG_MODE_LAST_MODE = modeCode s.sys.mode := by
  have hsys : (s.learnStop 5).threshPause.sys = s.sys :=
    Part.same_trans (p := .sys) ((frame_learnStop s 5).same .sys (by decide)) ((frame_threshPause _).same .sys (by decide))
  have hphase : (((s.learnStop 5).threshPause).enterMode .attach).setPhase .train =
      { ((s.learnStop 5).threshPause).enterMode .attach with sys := { (((s.learnStop 5).threshPause).enterMode .attach).sys with phase := .train } } := if_pos rfl
  have hwait := frame_trainOrWait ((((s.learnStop 5).threshPause).enterMode .attach).setPhase .train)
  constructor
  · refine Eq.trans (hwait.same .sys (by decide)) ?_
    rw [hphase]
    show ({ (s.learnStop 5).threshPause.sys with mode := .attach, phase := .train } : Sys) = _
    rw [hsys]
  · refine Eq.trans (hwait.fld CFG_MODE_LAST_MODE rfl) ?_
    rw [hphase]
    refine Eq.trans (lastMode_enterMode _ .attach) ?_
    rw [hsys]

/-- What the reset of the host buffer path leaves. -/
theorem resetTaken_reset (s : State) :
    (resetTaken s).word 0x2000 = resetWord 0x2000 ∧ (resetTaken s).blocked .a = false ∧ (resetTaken s).blocked .b = false ∧
    (resetTaken s).hbp.rows = [] ∧ (resetTaken s).hbp.selfRef = 0 ∧ (resetTaken s).hbp.train = none ∧ (resetTaken s).hbp.packetQ = [] ∧
    (resetTaken s).pkt.rings = [] ∧ (resetTaken s).pkt.held = [] ∧ (resetTaken s).pkt.slots = [] ∧ (resetTaken s).flag PER_STS_ALL_DIRTY = true ∧
    (resetTaken s).dram = s.areaBack.dram ∧ (resetTaken s).flash = s.flash ∧ (resetTaken s).pln = s.pln ∧ (resetTaken s).sys = s.sys := by
  obtain ⟨u, hu⟩ : ∃ u, u = (s.resetHandback.loopAbort.trainHalt).dramReset.statusLost := ⟨_, rfl⟩
  have h1 : Frame ⟨[.rows, .selfRef, .hbp, .dram, .area, .trn, .exec, .pkt, .dirty, .flushQ, .per, .sav, .bdc, .clk], none⟩ s u :=
    hu ▸ .step rfl (frame_statusLost ..) (.step rfl (frame_dramReset ..) (.step rfl (frame_trainHalt ..) (.step rfl (frame_loopAbort ..)
      (.step rfl (frame_resetHandback ..) (.refl _ s)))))
  have hdram : u.dram = s.areaBack.dram := by
    rw [hu]
    show s.resetHandback.loopAbort.trainHalt.dram = _
    rw [dram_trainHalt]
    exact (sameHome_resetHandback s).trans (sameHome_of_frame (frame_loopAbort _) (by decide) (by decide))
  obtain ⟨v, hv⟩ : ∃ v, v = (u.setWord 0x2000 (resetWord 0x2000)).clearBlocks := ⟨_, rfl⟩
  have ht : resetTaken s = v.trainLeave.ringsReset.setAllDirty 4 := by rw [hv, hu]; rfl
  have h2 : Frame ⟨[], some [HBP_CTL_PAR_EN.addr, HBP_PAR_STS_BLOCK_A.addr]⟩ u v := hv ▸ .step rfl (frame_clearBlocks ..) (.step rfl (frame_setWord ..) (.refl _ u))
  have h3 : Frame ⟨[.hbp, .trn, .held, .pkt], some [TRN_STS_ABANDONED.addr, PKT_STS_DEPTH_USED.addr, PER_STS_ALL_DIRTY.addr]⟩ v (v.trainLeave.ringsReset.setAllDirty 4) :=
    .step rfl (frame_setAllDirty ..) (.step rfl (frame_ringsReset ..) (.step rfl (frame_trainLeave ..) (.refl _ v)))
  have hword : v.word 0x2000 = resetWord 0x2000 := by
    rw [hv, (frame_clearBlocks _).word 0x2000 rfl]
    exact (word_setWord _ _ _ _).trans (if_pos rfl)
  have hblockA : v.flag HBP_PAR_STS_BLOCK_A = false := by
    rw [hv, State.clearBlocks, flag_setFlag_ne _ _ (by decide), flag_setFlag_same _ _ (by decide) (by decide)]
  have hblockB : v.flag HBP_PAR_STS_BLOCK_B = false := by
    rw [hv, State.clearBlocks, flag_setFlag_same _ _ (by decide) (by decide)]
  have hbp : (v.trainLeave.ringsReset.setAllDirty 4).hbp = { v.hbp with train := none, packetQ := [] } := by
    rw [show (v.trainLeave.ringsReset.setAllDirty 4).hbp = v.trainLeave.ringsReset.hbp from (frame_setAllDirty _ 4).same .hbp (by decide)]
    show ({ v.trainLeave.hbp with packetQ := [] } : Hbp) = _
    rw [(trainLeave_left v).1]
  have hpkt : (v.trainLeave.ringsReset.setAllDirty 4).pkt = v.trainLeave.ringsReset.pkt := (frame_setAllDirty _ 4).same .pkt (by decide)
  have hrows : v.hbp.rows = [] ∧ v.hbp.selfRef = 0 := by
    have e : v.hbp = u.hbp := h2.same .hbp (by decide)
    rw [e, hu]
    exact ⟨rfl, rfl⟩
  have hsame : ∀ p ∈ [Part.flash, .pln, .sys], p.Same s (v.trainLeave.ringsReset.setAllDirty 4) := by
    intro p hp
    simp only [List.mem_cons, List.not_mem_nil, or_false] at hp
    rcases hp with rfl | rfl | rfl <;>
      exact Part.same_trans (h1.same _ (by decide)) (Part.same_trans (h2.same _ (by decide)) (h3.same _ (by decide)))
  rw [ht]
  refine ⟨(h3.word 0x2000 rfl).trans hword, ?_, ?_, by rw [hbp]; exact hrows.1, by rw [hbp]; exact hrows.2, by rw [hbp], by rw [hbp],
    by rw [hpkt]; rfl, by rw [hpkt]; rfl, by rw [hpkt]; rfl, allDirty_setAllDirty _ _, ?_, hsame .flash (by simp), hsame .pln (by simp), hsame .sys (by simp)⟩
  · exact (h3.flag HBP_PAR_STS_BLOCK_A rfl).trans hblockA
  · exact (h3.flag HBP_PAR_STS_BLOCK_B rfl).trans hblockB
  · exact Eq.trans (h3.same .dram (by decide)) (Eq.trans (h2.same .dram (by decide)) hdram)

theorem hostResetAssert_attaches (hm : s.sys.mode = .service) (h : ∀ e ∈ s.pkt.exec, pktField e.bytes 0 1 ≠ 9) :
    Answers .hostResetAssert s (fun t =>
       t.sys.mode = .attach ∧ t.sys.phase = .train ∧ t.sys.hReset = true ∧ t.fld CFG_MODE_LAST_MODE = modeCode .service ∧
       t.word 0x2000 = resetWord 0x2000 ∧ t.blocked .a = false ∧ t.blocked .b = false ∧
       t.hbp.rows = [] ∧ t.hbp.selfRef = 0 ∧ t.hbp.train = none ∧ t.hbp.packetQ = [] ∧
       t.pkt.rings = [] ∧ t.pkt.held = [] ∧ t.pkt.slots = [] ∧ t.flag PER_STS_ALL_DIRTY = true ∧ t.pln.staging = none ∧
       t.dram = s.areaBack.dram ∧ t.flash = s.flash) := by
  refine answers_of (execHostResetAssert_service hm h) ?_
  have hseen : resetSeen s = { s with pln := { s.pln with staging := none }, sys := { s.sys with hReset := true } } := by
    rw [resetSeen, State.resetStaging, if_neg (by simp [State.inMode, hm])]
  obtain ⟨e1, e2, e3, e4, e5, e6, e7, e8, e9, e10, e11, e12, e13, e14, e15⟩ := resetTaken_reset (resetSeen s)
  obtain ⟨a1, a2⟩ := attachAgain_enters (resetTaken (resetSeen s))
  have hf := frame_attachAgain (resetTaken (resetSeen s))
  have hbp := hf.same .hbp (by decide)
  have hpkt := hf.same .pkt (by decide)
  dsimp only [Part.Same] at hbp hpkt
  rw [e15] at a1 a2
  refine ⟨by rw [a1], by rw [a1], by rw [a1]; exact congrArg (fun u => u.sys.hReset) hseen, ?_, (hf.word _ rfl).trans e1, (hf.flag HBP_PAR_STS_BLOCK_A rfl).trans e2,
    (hf.flag HBP_PAR_STS_BLOCK_B rfl).trans e3, by rw [hbp, e4], by rw [hbp, e5], by rw [hbp, e6], by rw [hbp, e7], by rw [hpkt, e8], by rw [hpkt, e9],
    by rw [hpkt, e10], (hf.flag PER_STS_ALL_DIRTY rfl).trans e11, ?_, Eq.trans (hf.same .dram (by decide)) (e12.trans ?_),
    Eq.trans (hf.same .flash (by decide)) (e13.trans ?_)⟩
  · rw [a2, hseen]
    exact congrArg modeCode hm
  · rw [show (attachAgain (resetTaken (resetSeen s))).pln = (resetTaken (resetSeen s)).pln from hf.same .pln (by decide), e14, hseen]
  · rw [dram_areaBack, dram_areaBack, hseen]
  · rw [hseen]

/-- The delays of Table 2-1 for a set point. -/
theorem setLat_delays (s : State) (sp : Nat) (h : s.hbp.caLat < 16) :
    (s.setLat sp).fld HBP_LAT_CA_LAT_EFF = max s.hbp.caLat (latMin (s.latRow sp)) ∧
    (s.setLat sp).fld HBP_LAT_WR_DELAY = max s.hbp.caLat (latMin (s.latRow sp)) ∧ (s.setLat sp).fld HBP_LAT_RD_ADD = rdAdd (s.latRow sp) := by
  have hmin : latMin (s.latRow sp) < 16 := by unfold latMin; split <;> decide
  have hadd : rdAdd (s.latRow sp) < 16 := by unfold rdAdd; split <;> [decide; (split <;> decide)]
  have heff : max s.hbp.caLat (latMin (s.latRow sp)) < 16 := by omega
  unfold State.setLat
  refine ⟨?_, ?_, ?_⟩
  · rw [fld_setFld_ne _ _ (by decide), fld_setFld_ne _ _ (by decide), fld_setFld_same _ _ (by decide)]
    exact Nat.mod_eq_of_lt heff
  · rw [fld_setFld_ne _ _ (by decide), fld_setFld_same _ _ (by decide)]
    exact Nat.mod_eq_of_lt heff
  · rw [fld_setFld_same _ _ (by decide)]
    exact Nat.mod_eq_of_lt hadd

/-- CA_LAT and CMD_2N are in force. -/
def latencyTaken (s : State) : State :=
  { s with sys := { s.sys with hReset := false }, hbp := { s.hbp with caLat := s.fld HBP_CTL_CA_LAT + 1, cmd2n := s.flag HBP_CTL_CMD_2N } }

theorem hostResetDeassert_latency (h1 : s.sys.mode ≠ .off) (h2 : s.sys.mode ≠ .save) (h3 : s.sys.mode ≠ .shutDown) :
    Answers .hostResetDeassert s (fun t =>
       t.sys = { s.sys with hReset := false } ∧ t.hbp = { s.hbp with caLat := s.fld HBP_CTL_CA_LAT + 1, cmd2n := s.flag HBP_CTL_CMD_2N } ∧
       t.fld HBP_LAT_CA_LAT_EFF = max (s.fld HBP_CTL_CA_LAT + 1) (latMin (s.latRow (s.fld HBP_LAT_SET_POINT))) ∧
       t.fld HBP_LAT_WR_DELAY = t.fld HBP_LAT_CA_LAT_EFF ∧ t.fld HBP_LAT_RD_ADD = rdAdd (s.latRow (s.fld HBP_LAT_SET_POINT)) ∧
       OnlyFields [HBP_LAT_SET_POINT, HBP_LAT_CA_LAT_EFF, HBP_LAT_WR_DELAY, HBP_LAT_RD_ADD] { s with sys := t.sys, hbp := t.hbp } t) := by
  refine answers_of (t := ({ s with sys := { s.sys with hReset := false } } : State).applyCaLat) ?_ ?_
  · exact congrArg Host.Outcome.next (if_neg (by simp [State.inMode, h1, h2, h3]))
  · have hlat : ({ s with sys := { s.sys with hReset := false } } : State).applyCaLat = (latencyTaken s).setLat (s.fld HBP_LAT_SET_POINT) := rfl
    rw [hlat]
    obtain ⟨e1, e2, e3⟩ := setLat_delays (latencyTaken s) (s.fld HBP_LAT_SET_POINT)
      (Nat.lt_of_le_of_lt (Nat.succ_le_of_lt (fld_lt s HBP_CTL_CA_LAT)) (by decide))
    refine ⟨rfl, rfl, e1, e2.trans e1.symm, e3, ?_⟩
    · exact onlyFields_setFld (onlyFields_setFld (onlyFields_setFld (onlyFields_setFld (onlyFields_refl _ _) _ (by simp)) _ (by simp)) _ (by simp)) _ (by simp)

end Reset

/-- Settles O8: writes of HBP_CTL, and the reset of the host buffer path step by step. -/
theorem hbpControlAndHostReset : Obligations.HbpControlAndHostReset := by
  refine ⟨fun s => ⟨fun h v => hbpCtlWrite_writes h v, fun h1 h2 h3 => hostResetDeassert_latency h1 h2 h3⟩,
    fun s => ⟨fun hm h => hostResetAssert_attaches hm h, fun hm h => ?_⟩⟩
  refine answers_of ?_ rfl
  show execHostResetAssert s = _
  unfold execHostResetAssert
  rw [resetSaves_none h, State.resetStaging, if_pos (by simp [State.inMode, hm])]
  simp only [hm]

end Sys2Proof.Proofs

/-! PROOF. The packet engine: what the checks of Table 4-3 make of a captured line. -/

namespace Sys2Proof.Proofs

open Sys2Proof.Machine Sys2Proof.Machine.Reg Sys2Proof.Laws

/-- The slots with the status that a check of Table 4-3 posts to a slot of a ring. -/
def posted (s : State) (r slot : Nat) (bs : List Byte) (code detail : Nat) : SMap SlotBits :=
  smapPut s.pkt.slots (r * 16 + slot) (slotOf (statusBytes ⟨.ring (Fin.ofNat 32768 r), pktField bs 2 2, code, pktField bs 0 1,
    pktField bs 6 2, [], detail, some slot⟩ (s.ring r).nextSeq))

/-- The status that a check posts while no gap lasts stands in the addressed slot, and nothing else moves (R105). -/
theorem postAt_noGap {s : State} {r : Nat} (slot : Nat) (bs : List Byte) (code detail : Nat) (hr : r < 32768) (hg : s.inGap = false) :
    s.postAt r slot bs code detail = { s with pkt := { s.pkt with slots := posted s r slot bs code detail } } := by
  have hv : (Fin.ofNat 32768 r).val = r := Nat.mod_eq_of_lt hr
  rw [State.postAt, State.post, hg]
  show { s with pkt := { s.pkt with slots := smapPut s.pkt.slots ((Fin.ofNat 32768 r).val * 16 + slot) (slotOf (statusBytes _
    (s.ring (Fin.ofNat 32768 r).val).nextSeq)) } } = _
  rw [hv]
  rfl

theorem ring_setRing_same (s : State) (r : Nat) (v : Ring) : (s.setRing r v).ring r = v :=
  smapGet_set_same ..

theorem ring_setRing_ne (s : State) {r q : Nat} (v : Ring) (h : q ≠ r) : (s.setRing r v).ring q = s.ring q :=
  smapGet_set_ne _ _ v h

theorem satAdd_one (v : Nat) : satAdd v 1 255 = min (v + 1) 255 := rfl

section
variable {s : State} {e : TapEntry} {rest : List TapEntry}

theorem lineStop_mode (h : ¬ (s.sys.mode = .service ∨ s.sys.mode = .lull ∨ s.sys.mode = .keeper)) : s.lineStop e = some 1 := by
  simp [State.lineStop, State.inMode, h]

theorem inMode_packets (h : s.sys.mode = .service ∨ s.sys.mode = .lull ∨ s.sys.mode = .keeper) :
    s.inMode [.service, .lull, .keeper] = true := by
  simp [State.inMode, h]

variable (hm : s.sys.mode = .service ∨ s.sys.mode = .lull ∨ s.sys.mode = .keeper) (hf : s.pktFenced = false)
include hm hf

theorem lineStop_unlearned (hl : s.fld CLN_STS_STATE ≠ 4) : s.lineStop e = some 2 := by
  have hl : s.learned = false := decide_eq_false hl
  simp [State.lineStop, inMode_packets hm, hf, hl]

variable (hl : s.fld CLN_STS_STATE = 4)
include hl

/-- Past the checks of mode and code, the ring decides first (Table 4-3, check 3). -/
theorem lineStop_learned : s.lineStop e =
    let off := e.ma - s.papBase.getD 0
    let r := off / 1024 % 32768
    let bs := leBytes 64 e.data.toNat
    if !(s.ring r).en then some 3
    else if s.flag PKT_CTL_CHK_HOST && s.predict e.ma e.data ≠ e.chk then some 4
    else if (crc32c (bs.take 60)).toNat ≠ pktField bs 60 4 then some 5
    else if pktField bs 4 2 % 32768 ≠ r then some 6
    else if off % 1024 / 64 ≠ pktField bs 2 2 % ringDepth (s.ring r) then some 7
    else none := by
  have hl : s.learned = true := decide_eq_true hl
  simp only [State.lineStop, inMode_packets hm, hf, hl, Bool.not_true, Bool.or_false, Bool.false_eq_true, if_false]

end

/-- The lines of the window of R116: in hand or behind it, in it, or ahead of it. -/
theorem window_dup {s : State} {r : Nat} {bs : List Byte} (stamp : Nat)
    (h : (∃ k ∈ s.pkt.held, k.ring = r ∧ k.seq = pktField bs 2 2) ∨
      65536 ≤ (pktField bs 2 2 + 65536 - (s.ring r).nextSeq) % 65536 + 2 ^ (s.ring r).depth) :
    s.window r bs stamp = s.setRing r { s.ring r with dup := min ((s.ring r).dup + 1) 255 } := by
  rw [State.window, if_pos, satAdd_one]
  rcases h with ⟨k, hk, he⟩ | h
  · have : s.pkt.held.any (fun h => decide (h.ring = r) && decide (h.seq = pktField bs 2 2)) = true :=
      List.any_eq_true.2 ⟨k, hk, by simp [he]⟩
    simp [this]
  · exact Bool.or_eq_true_iff.2 (.inr (decide_eq_true (Nat.sub_le_of_le_add h)))

section
variable {s : State} {r : Nat} {bs : List Byte}
  (hh : ∀ k ∈ s.pkt.held, ¬ (k.ring = r ∧ k.seq = pktField bs 2 2))
  (hx : ∀ x ∈ s.pkt.exec, ¬ (x.src = .ring (Fin.ofNat 32768 r) ∧ x.seq = pktField bs 2 2))
include hh hx

/-- A line that is neither held nor in execution is not in hand: its place in the window decides. -/
theorem window_notInHand (stamp : Nat) (hr : r < 32768) :
    s.window r bs stamp =
      let d := (pktField bs 2 2 + 65536 - (s.ring r).nextSeq) % 65536
      if 65536 - 2 ^ (s.ring r).depth ≤ d then s.setRing r { s.ring r with dup := min ((s.ring r).dup + 1) 255 }
      else if d < 2 ^ (s.ring r).depth then { s with pkt := { s.pkt with held := s.pkt.held ++ [⟨r, pktField bs 2 2, stamp, bs⟩] } }
      else (s.postAt r (pktField bs 2 2 % 2 ^ (s.ring r).depth) bs stOutOfOrder (atByte 2)).setRing r
        { s.ring r with outOfOrder := min ((s.ring r).outOfOrder + 1) 255 } := by
  rw [State.window, List.any_eq_false.2 ?held, List.any_eq_false.2 ?exec]
  · simp only [Bool.false_or, Bool.or_self, decide_eq_true_eq]
    rfl
  case held => exact fun k hk => by simpa using hh k hk
  case exec =>
    intro x hmem hc
    cases hs : x.src with
    | mailbox => simp [hs] at hc
    | ring q =>
      simp only [hs, Bool.and_eq_true, decide_eq_true_eq] at hc
      refine hx x hmem ⟨hs.trans ?_, hc.1.2⟩
      rw [Fin.ext (a := q) (b := Fin.ofNat 32768 r) (hc.1.1.trans (Nat.mod_eq_of_lt hr).symm)]

theorem window_held (stamp : Nat) (hr : r < 32768) (hd : (s.ring r).depth ≤ 4)
    (hw : (pktField bs 2 2 + 65536 - (s.ring r).nextSeq) % 65536 < 2 ^ (s.ring r).depth) :
    s.window r bs stamp = { s with pkt := { s.pkt with held := s.pkt.held ++ [⟨r, pktField bs 2 2, stamp, bs⟩] } } := by
  have h16 : 2 ^ (s.ring r).depth ≤ 16 := Nat.pow_le_pow_right (by decide) hd
  rw [window_notInHand hh hx stamp hr, if_neg (by omega), if_pos hw]

theorem window_ahead (stamp : Nat) (hr : r < 32768)
    (hlo : 2 ^ (s.ring r).depth ≤ (pktField bs 2 2 + 65536 - (s.ring r).nextSeq) % 65536)
    (hhi : (pktField bs 2 2 + 65536 - (s.ring r).nextSeq) % 65536 + 2 ^ (s.ring r).depth < 65536) :
    s.window r bs stamp = (s.postAt r (pktField bs 2 2 % 2 ^ (s.ring r).depth) bs stOutOfOrder (atByte 2)).setRing r
      { s.ring r with outOfOrder := min ((s.ring r).outOfOrder + 1) 255 } := by
  rw [window_notInHand hh hx stamp hr, if_neg (by omega), if_neg (by omega)]

end

/-- What the check that stops a line makes of it (Table 4-3). -/
theorem execPacketCapture_of {s : State} {e : TapEntry} {rest : List TapEntry} (hq : s.hbp.packetQ = e :: rest) :
    execPacketCapture s =
      let u : State := { s with hbp := { s.hbp with packetQ := rest } }
      let r := s.lineRing e
      let slot := (e.ma - s.papBase.getD 0) % 1024 / 64
      let bs := leBytes 64 e.data.toNat
      let v := s.ring r
      match s.lineStop e with
      | none => .next (u.window r bs e.stamp)
      | some 1 => .next (u.bump PKT_DISCARD_MODE 1)
      | some 2 => .next (u.bump PKT_DISCARD_UNLEARNED 1)
      | some 3 => .next (u.bump PKT_DISCARD_DISABLED_RING 1)
      | some 4 => .next ((u.postAt r slot bs stBadCrc (noByte + 0x400000)).setRing r { v with badCrc := satAdd v.badCrc 1 255 })
      | some 5 => .next ((u.postAt r slot bs stBadCrc noByte).setRing r { v with badCrc := satAdd v.badCrc 1 255 })
      | some 6 => .next (u.postAt r slot bs stNotPermitted (atByte 4))
      | some _ => .next ((u.postAt r slot bs stOutOfOrder (atByte 2)).setRing r { v with outOfOrder := satAdd v.outOfOrder 1 255 }) := by
  simp only [execPacketCapture, hq]
  rfl

/-- A line that a check refuses with a count: its status stands, its ring has the new counters, and no line or packet moves. -/
theorem posted_counted {u : State} {r : Nat} (slot : Nat) (bs : List Byte) (code detail : Nat) (w : Ring) (hr : r < 32768) (hg : u.inGap = false) :
    let t := (u.postAt r slot bs code detail).setRing r w
    t = { u with pkt := t.pkt } ∧
    t.pkt.slots = posted u r slot bs code detail ∧
    t.ring r = w ∧ t.pkt.held = u.pkt.held ∧ t.pkt.exec = u.pkt.exec := by
  rw [postAt_noGap slot bs code detail hr hg]
  exact ⟨rfl, rfl, ring_setRing_same .., rfl, rfl⟩

/-- Settles O10, check by check of Table 4-3, then by the place of the line in the window. -/
theorem packetCaptureChecks : Obligations.PacketCaptureChecks := by
  intro s e rest hq u r slot bs v seq posts
  have hr : r < 32768 := Nat.mod_lt _ (by decide)
  have run : execPacketCapture s = _ := execPacketCapture_of hq
  refine ⟨fun ⟨h1, h2, h3⟩ => ?_, fun hm hf => ⟨fun hl => ?_, fun hl => ⟨fun he => ?_, fun he hg hk hp => ?_, fun he hg hk => ?_⟩⟩⟩
  · rw [lineStop_mode (by simp [h1, h2, h3])] at run
    exact answers_of run rfl
  · rw [lineStop_unlearned hm hf hl] at run
    exact answers_of run rfl
  · have he : (s.ring ((e.ma - s.papBase.getD 0) / 1024 % 32768)).en = false := he
    rw [lineStop_learned hm hf hl] at run
    simp only [he] at run
    exact answers_of run rfl
  · have stop : s.lineStop e = some 4 := by
      have he : (s.ring ((e.ma - s.papBase.getD 0) / 1024 % 32768)).en = true := he
      simp [lineStop_learned hm hf hl, he, hk, hp]
    rw [stop] at run
    exact answers_of run (posted_counted slot bs _ _ _ hr hg)
  have check : s.lineStop e = if (crc32c (bs.take 60)).toNat ≠ pktField bs 60 4 then some 5
      else if pktField bs 4 2 % 32768 ≠ r then some 6
      else if slot ≠ seq % 2 ^ v.depth then some 7 else none := by
    have he : (s.ring ((e.ma - s.papBase.getD 0) / 1024 % 32768)).en = true := he
    rw [lineStop_learned hm hf hl]
    simp only [he, Bool.not_true, Bool.false_eq_true, if_false]
    rw [if_neg]
    · rfl
    · rcases hk with hk | hk <;> simp [hk]
  refine ⟨fun hc => ?_, fun hc => ⟨fun hn => ?_, fun hn => ⟨fun hs => ?_, fun hs hd hw hh hx => ?_, fun hs hd => ?_,
    fun hs hlo hhi hh hx => ?_⟩⟩⟩
  · rw [check, if_pos hc] at run
    exact answers_of run (posted_counted slot bs _ _ _ hr hg)
  · rw [check, if_neg (by simpa using hc), if_pos hn] at run
    exact answers_of run (postAt_noGap slot bs _ _ hr hg)
  · rw [check, if_neg (by simpa using hc), if_neg (by simpa using hn), if_pos hs] at run
    exact answers_of run (posted_counted slot bs _ _ _ hr hg)
  all_goals
    rw [check, if_neg (by simpa using hc), if_neg (by simpa using hn), if_neg (by simpa using hs)] at run
  · exact answers_of run (window_held (s := u) hh hx _ hr hd hw)
  · exact answers_of run (window_dup (s := u) _ hd)
  · refine answers_of run ?_
    have ahead : u.window r bs e.stamp = (u.postAt r slot bs stOutOfOrder (atByte 2)).setRing r _ :=
      hs ▸ window_ahead (s := u) hh hx e.stamp hr hlo hhi
    rw [show u.window (s.lineRing e) _ e.stamp = _ from ahead]
    exact posted_counted slot bs _ _ _ hr hg

end Sys2Proof.Proofs

/-! PROOF. The packet engine dispatches the line of the lowest stamp, and gives up the lines of a ring with a gap. -/

namespace Sys2Proof.Proofs

open Sys2Proof.Machine Sys2Proof.Machine.Reg Sys2Proof.Laws

/-- The checks of R121 look at the mode and NO_PLAN alone. -/
theorem dispatchCheck_of {s t : State} (hs : t.sys = s.sys) (hp : t.flag CFG_MODE_NO_PLAN = s.flag CFG_MODE_NO_PLAN) (bs : List Byte) (mailbox priv : Bool) :
    t.dispatchCheck bs mailbox priv = s.dispatchCheck bs mailbox priv := by
  simp only [State.dispatchCheck, State.modeCheck, hs, hp]

/-- What a packet remembers at dispatch depends on the kite and on the packets in execution alone. -/
theorem dispatchAux_of {s t : State} (hk : t.fld SPT_KITE_HOLDER = s.fld SPT_KITE_HOLDER) (hg : t.flag SPT_KITE_GAP = s.flag SPT_KITE_GAP)
    (he : t.pkt.exec = s.pkt.exec) (bs : List Byte) (mailbox : Bool) : t.dispatchAux bs mailbox = s.dispatchAux bs mailbox := by
  simp only [State.dispatchAux, State.coreServes, State.kiteHeld, State.inGap, hk, hg, he]
  rfl

/-- The line that is below all the others is the one of the lowest stamp. -/
theorem lowestStamp_eq {h : HeldPkt} {l : List HeldPkt} (hm : h ∈ l) (hlow : ∀ k ∈ l, k = h ∨ h.stamp < k.stamp) : lowestStamp l = some h := by
  have key : ∀ l : List HeldPkt, (∀ k ∈ l, k = h ∨ h.stamp < k.stamp) →
      (lowestStamp l = some h) ∨ (h ∉ l ∧ ∀ k, lowestStamp l = some k → h.stamp < k.stamp) := by
    intro l
    induction l with
    | nil => exact fun _ => .inr ⟨List.not_mem_nil, fun k hk => nomatch hk⟩
    | cons a l ih =>
      intro hl
      obtain ⟨ha, hl⟩ := List.forall_mem_cons.1 hl
      rw [lowestStamp]
      rcases ha with rfl | ha <;> rcases ih hl with hr | ⟨hn, hr⟩
      · exact .inl (by simp [hr])
      · refine .inl ?_
        cases hk : lowestStamp l with
        | none => rfl
        | some k => simp [Nat.le_of_lt (hr k hk)]
      · exact .inl (by simp [hr, ha])
      · refine .inr ⟨fun hm => (List.mem_cons.1 hm).elim (fun e => Nat.lt_irrefl _ (e ▸ ha)) hn, fun k hk => ?_⟩
        cases hj : lowestStamp l with
        | none => simp [hj] at hk; exact hk ▸ ha
        | some j =>
          rw [hj] at hk
          dsimp only at hk
          split at hk <;> cases hk
          · exact ha
          · exact hr _ hj
  exact (key l hlow).resolve_right fun hr => hr.1 hm

/-- Where a core serves, the lowest dispatchable line is dispatched (R17, R120). -/
theorem execPacketDispatch_of {s : State} {h : HeldPkt} (hmode : s.sys.mode = .service) (hh : s.pkt.halted = false) (hf : s.pktFenced = false)
    (hc : s.coreServes = true) (hd : h ∈ s.dispatchable) (hlow : ∀ k ∈ s.pkt.held, k = h ∨ h.stamp < k.stamp) :
    execPacketDispatch s = .next (s.dispatch h) := by
  have hnk : s.dispatchable.filter (fun h => !s.noKiteFor h.bytes) = s.dispatchable :=
    List.filter_eq_self.2 fun k _ => by simp [State.noKiteFor, hc]
  rw [execPacketDispatch, hh, hf, inMode_packets (.inl hmode), hnk,
    lowestStamp_eq hd fun k hk => hlow k (List.mem_filter.1 hk).1]
  rfl

theorem mem_dispatchable {s : State} {h : HeldPkt} (hm : h ∈ s.pkt.held) (hen : (s.ring h.ring).en = true) (hseq : h.seq = (s.ring h.ring).nextSeq)
    (hx : ∀ e ∈ s.pkt.exec, e.src ≠ .ring (Fin.ofNat 32768 h.ring)) (hw : ∀ p ∈ s.pkt.withheld, p.src ≠ .ring (Fin.ofNat 32768 h.ring)) :
    h ∈ s.dispatchable := by
  refine List.mem_filter.2 ⟨hm, ?_⟩
  have hb : s.ringBusy h.ring = false := by simpa [State.ringBusy] using hx
  have hw : s.pkt.withheld.any (fun p => decide (p.src = .ring (Fin.ofNat 32768 h.ring))) = false := by simpa using hw
  simp only [hen, ← hseq, hb, hw, decide_true, Bool.not_false, Bool.and_self]

/-- A traced packet writes a record and nothing else. -/
theorem traced_eq (s : State) (ring seq stamp : Nat) (bs : List Byte) :
    s.traced ring seq stamp bs = { s with evr := (if natBits (pktField bs 1 1) 0 1 = 1 ∨ s.flag PKT_CTL_TRACE_ALL = true then
      (s.emit .trace 0x0059 132 (leBytes 2 ring ++ leBytes 2 seq ++ sliceBytes bs 0 1 ++ sliceBytes bs 6 2 ++ leBytes 8 stamp)).evr
      else s.evr) } := by
  simp only [State.traced, Bool.or_eq_true, decide_eq_true_eq]
  split <;> rfl

/-- The line leaves the held lines, its ring goes on to the next number, and the dispatch is counted (R110). -/
def taken (s : State) (h : HeldPkt) : State :=
  (({ s with pkt := { s.pkt with held := s.pkt.held.erase h } } : State).setRing h.ring
    { s.ring h.ring with nextSeq := ((s.ring h.ring).nextSeq + 1) % 65536 }).wrap PKT_DISPATCHED 1

theorem fld_taken (s : State) (h : HeldPkt) {f : Fld} (hf : f.addr ≠ PKT_DISPATCHED.addr) : (taken s h).fld f = s.fld f :=
  (frame_wrap _ _ _).fld f (Foot.spares_of_notMem (by simpa using hf) (by decide))

theorem flag_taken (s : State) (h : HeldPkt) {f : Fld} (hf : f.addr ≠ PKT_DISPATCHED.addr) : (taken s h).flag f = s.flag f := by
  rw [State.flag, fld_taken s h hf, State.flag]

/-- A line that passes the checks of R121 goes into execution (R110, R120). -/
theorem dispatch_passes {s : State} {h : HeldPkt} (hok : s.dispatchCheck h.bytes false (s.ring h.ring).priv = none) :
    s.dispatch h =
      let t := (taken s h).traced h.ring h.seq h.stamp h.bytes
      { t with pkt := { t.pkt with exec := t.pkt.exec ++
        [⟨.ring (Fin.ofNat 32768 h.ring), h.seq, h.stamp, h.bytes, false, false, s.dispatchAux h.bytes false⟩] } } := by
  have haux : (taken s h).dispatchAux h.bytes false = s.dispatchAux h.bytes false :=
    dispatchAux_of (fld_taken s h (by decide)) (flag_taken s h (by decide)) rfl ..
  have hck : ((taken s h).traced h.ring h.seq h.stamp h.bytes).dispatchCheck h.bytes false (s.ring h.ring).priv = none := by
    rw [← hok, dispatchCheck_of ((frame_traced ..).same .sys (by decide)) ((frame_traced ..).flag _ rfl)]
    exact dispatchCheck_of (s := s) (t := taken s h) rfl (flag_taken s h (by decide)) ..
  rw [← haux]
  change (match ((taken s h).traced h.ring h.seq h.stamp h.bytes).dispatchCheck h.bytes false (s.ring h.ring).priv with
    | some (c, d) => _ | none => _) = _
  rw [hck]
  rfl

/-- A status of a ring moves nothing but the status slots and the withheld statuses. -/
theorem postAt_moves (s : State) (r slot : Nat) (bs : List Byte) (code detail : Nat) :
    ∃ x y, s.postAt r slot bs code detail = { s with pkt := { s.pkt with slots := x, withheld := y } } := by
  rw [State.postAt, State.post]
  split
  · exact ⟨s.pkt.slots, _, rfl⟩
  · exact ⟨_, s.pkt.withheld, rfl⟩

/-- The statuses of the lines that a gap drops (R119). -/
def gapPosted (s : State) (r depth : Nat) (l : List HeldPkt) : State :=
  l.foldl (fun u h => u.postAt r (h.seq % depth) h.bytes stOutOfOrder noByte) s

theorem gapPosted_moves (s : State) (r depth : Nat) (l : List HeldPkt) :
    ∃ x y, gapPosted s r depth l = { s with pkt := { s.pkt with slots := x, withheld := y } } := by
  induction l generalizing s with
  | nil => exact ⟨_, _, rfl⟩
  | cons h l ih =>
    obtain ⟨x, y, he⟩ := postAt_moves s r (h.seq % depth) h.bytes stOutOfOrder noByte
    obtain ⟨x', y', he'⟩ := ih (s.postAt r (h.seq % depth) h.bytes stOutOfOrder noByte)
    exact ⟨x', y', by rw [gapPosted, List.foldl_cons, ← gapPosted, he', he]⟩

theorem isSome_smapFind_put {α : Type} (m : SMap α) (k j : Nat) (v : α) (h : j = k ∨ (smapFind m j).isSome) : (smapFind (smapPut m k v) j).isSome := by
  by_cases hj : j = k
  · rw [hj, smapFind_put_same]
    rfl
  · rw [smapFind_put_ne _ _ hj]
    exact h.resolve_left hj

/-- Outside a gap of the kite every dropped line has its status in the slot that its number selects. -/
theorem gapPosted_slots {s : State} {r : Nat} (depth : Nat) (l : List HeldPkt) (hr : r < 32768) (hg : s.inGap = false) (k : Nat)
    (hk : (∃ h ∈ l, k = r * 16 + h.seq % depth) ∨ (smapFind s.pkt.slots k).isSome) :
    (smapFind (gapPosted s r depth l).pkt.slots k).isSome := by
  induction l generalizing s with
  | nil => exact hk.resolve_left fun ⟨_, hm, _⟩ => nomatch hm
  | cons h l ih =>
    rw [gapPosted, List.foldl_cons, ← gapPosted, postAt_noGap _ _ _ _ hr hg]
    refine ih hg ?_
    rcases hk with ⟨j, hj, hk⟩ | hk
    · rcases List.mem_cons.1 hj with rfl | hj
      · exact .inr (isSome_smapFind_put _ _ _ _ (.inl hk))
      · exact .inl ⟨j, hj, hk⟩
    · exact .inr (isSome_smapFind_put _ _ _ _ (.inr hk))

/-- The gap timer drops the lines of its ring (R118, R119). -/
theorem execRingGap_drops {s : State} {ring : Fin 32768} (hh : s.pkt.halted = false) (hm : ∃ h ∈ s.pkt.held, h.ring = ring.val)
    (hq : ∀ e ∈ s.hbp.packetQ, s.lineRing e = ring.val → pktField (leBytes 64 e.data.toNat) 2 2 = (s.ring ring.val).nextSeq → s.lineStop e ≠ none)
    (hs : ∀ h ∈ s.pkt.held, h.ring = ring.val → h.seq ≠ (s.ring ring.val).nextSeq) :
    execRingGap ring s = .next (((gapPosted { s with pkt := { s.pkt with held := s.pkt.held.filter (fun h => decide (h.ring ≠ ring.val)) } } ring.val
      (2 ^ (s.ring ring.val).depth) (s.pkt.held.filter (fun h => decide (h.ring = ring.val)))).setRing ring.val
      { s.ring ring.val with gap := min ((s.ring ring.val).gap + 1) 255 }).note 0x005A 132 (leBytes 2 ring.val ++ leBytes 2 (s.ring ring.val).nextSeq)) := by
  have h1 : (s.pkt.held.filter (fun h => decide (h.ring = ring.val))).isEmpty = false := by
    simpa using hm
  have h2 : (s.pkt.held.filter (fun h => decide (h.ring = ring.val))).any (fun h => decide (h.seq = (s.ring ring.val).nextSeq)) = false := by
    simpa [List.any_eq_false] using hs
  have h3 : s.missingQueued ring.val = false := by
    rw [State.missingQueued, List.any_eq_false]
    intro e he hc
    simp only [Bool.and_eq_true, decide_eq_true_eq, Option.isNone_iff_eq_none] at hc
    exact hq e he hc.1.1 hc.1.2 hc.2
  rw [execRingGap]
  simp only [hh, h1, h2, h3]
  rfl

/-- Settles O11: the line of the lowest stamp goes into execution, and a gap drops the lines of its ring. -/
theorem packetDispatch : Obligations.PacketDispatch := by
  refine ⟨?_, fun s ring => ⟨fun hh => ?_, fun hh hm hq hs => ?_⟩⟩
  · intro s h hmode hh hf hc hm hen hseq hx hw hlow _ hok asked
    refine answers_of (t := s.dispatch h) (execPacketDispatch_of hmode hh hf hc (mem_dispatchable hm hen hseq hx hw) hlow) ?_
    rw [dispatch_passes hok]
    have hring : ∀ q, (taken s h).ring q = if q = h.ring then { s.ring h.ring with nextSeq := (h.seq + 1) % 65536 } else s.ring q := by
      intro q
      rw [hseq]
      split
      · next e => rw [e]; exact ring_setRing_same ..
      · next e => exact ring_setRing_ne _ _ e
    have hflag : (taken s h).flag PKT_CTL_TRACE_ALL = s.flag PKT_CTL_TRACE_ALL := flag_taken s h (by decide)
    dsimp only
    rw [traced_eq, hflag]
    refine ⟨rfl, (hring _).trans (if_pos rfl), fun r hr => (hring r).trans (if_neg hr), rfl, ?_, rfl, ?_⟩
    · exact fld_setFld_same _ _ (by decide)
    · exact onlyFields_wrap (onlyFields_refl [PKT_DISPATCHED] _) 1 (by simp)
  · exact answers_of (t := s) (by show execRingGap ring s = _; rw [execRingGap, hh]; rfl) rfl
  · refine answers_of (execRingGap_drops hh hm hq hs) ?_
    obtain ⟨x, y, hp⟩ := gapPosted_moves { s with pkt := { s.pkt with held := s.pkt.held.filter (fun h => decide (h.ring ≠ ring.val)) } } ring.val
      (2 ^ (s.ring ring.val).depth) (s.pkt.held.filter (fun h => decide (h.ring = ring.val)))
    have slots := gapPosted_slots (s := { s with pkt := { s.pkt with held := s.pkt.held.filter (fun h => decide (h.ring ≠ ring.val)) } })
      (2 ^ (s.ring ring.val).depth) (s.pkt.held.filter (fun h => decide (h.ring = ring.val))) ring.isLt
    rw [hp] at slots ⊢
    exact ⟨rfl, ring_setRing_same .., rfl, rfl, rfl, fun hg h hm hr =>
      slots hg _ (.inl ⟨h, List.mem_filter.2 ⟨hm, decide_eq_true hr⟩, rfl⟩)⟩

end Sys2Proof.Proofs

/-! PROOF. Rings open and close (R106 to R109), and the mailbox takes a packet (R133). -/

namespace Sys2Proof.Proofs

open Sys2Proof.Machine Sys2Proof.Machine.Reg Sys2Proof.Laws

/-! Bytes in registers at consecutive addresses. -/

theorem leBytes_leNat (bs : List Byte) : leBytes bs.length (leNat bs) = bs := by
  induction bs with
  | nil => rfl
  | cons b bs ih =>
    have hb := b.isLt
    have h1 : BitVec.ofNat 8 (b.toNat + 256 * leNat bs) = b := BitVec.eq_of_toNat_eq (by rw [BitVec.toNat_ofNat]; omega)
    have h2 : (b.toNat + 256 * leNat bs) / 256 = leNat bs := by omega
    rw [List.length_cons, leNat, leBytes, h1, h2, ih]

theorem leNat_lt (bs : List Byte) : leNat bs < 256 ^ bs.length := by
  induction bs with
  | nil => exact Nat.one_pos
  | cons b bs ih =>
    have hb := b.isLt
    rw [leNat, List.length_cons, Nat.pow_succ]
    omega

theorem length_leBytes (n x : Nat) : (leBytes n x).length = n := by
  induction n generalizing x with
  | zero => rfl
  | succ n ih => rw [leBytes, List.length_cons, ih]

theorem length_sliceBytes (bs : List Byte) (off n : Nat) : (sliceBytes bs off n).length = n := by
  simp only [sliceBytes, List.length_append, List.length_take, List.length_drop, List.length_replicate]
  omega

theorem length_statusBytes (p : PostStatus) (n : Nat) : (statusBytes p n).length = 32 := by
  simp [statusBytes, length_leBytes, length_sliceBytes]

/-- A slice that the list holds in full. -/
theorem sliceBytes_eq_take {bs : List Byte} {n : Nat} (h : n ≤ bs.length) : sliceBytes bs 0 n = bs.take n := by
  simp [sliceBytes, Nat.min_eq_left h]

theorem word_setBytes_lt (s : State) (a : Nat) (bs : List Byte) (n : Nat) {b : Nat} (hb : b < a) : (s.setBytes a bs n).word b = s.word b := by
  induction n generalizing s a bs with
  | zero => rfl
  | succ n ih => rw [State.setBytes, ih _ _ _ (by omega), word_setWord, if_neg (by omega)]

theorem word_setBytes_ge (s : State) (a : Nat) (bs : List Byte) (n : Nat) {b : Nat} (hb : a + 4 * n ≤ b) : (s.setBytes a bs n).word b = s.word b := by
  induction n generalizing s a bs with
  | zero => rfl
  | succ n ih => rw [State.setBytes, ih _ _ _ (by omega), word_setWord, if_neg (by omega)]

/-- The registers return the bytes stored. -/
theorem getBytes_setBytes (s : State) (a : Nat) {bs : List Byte} {n : Nat} (h : bs.length = 4 * n) : (s.setBytes a bs n).getBytes a n = bs := by
  induction n generalizing s a bs with
  | zero => exact (List.length_eq_zero_iff.1 h).symm
  | succ n ih =>
    have h4 : (bs.take 4).length = 4 := by rw [List.length_take]; omega
    have hlt : leNat (bs.take 4) < 2 ^ 32 := lt_of_lt_of_eq (leNat_lt _) (by rw [h4]; rfl)
    rw [State.setBytes, State.getBytes, ih _ _ (by rw [List.length_drop]; omega), word_setBytes_lt _ _ _ _ (Nat.lt_add_of_pos_right (by decide)),
      word_setWord, if_pos rfl, leField, sliceBytes_eq_take (by omega), BitVec.toNat_ofNat, Nat.mod_eq_of_lt hlt]
    conv => lhs; lhs; lhs; rw [← h4]
    rw [leBytes_leNat, List.take_append_drop]

theorem getBytes_congr {s t : State} {a n : Nat} (h : ∀ b, a ≤ b → b < a + 4 * n → t.word b = s.word b) : t.getBytes a n = s.getBytes a n := by
  induction n generalizing a with
  | zero => rfl
  | succ n ih => rw [State.getBytes, State.getBytes, h a (by omega) (by omega), ih fun b h1 h2 => h b (by omega) (by omega)]

/-- A status of the mailbox, while no gap lasts, is in PKT_MBX_OUT with BUSY clear and DONE set (R133). -/
theorem post_mailbox {s : State} {p : PostStatus} (hp : p.src = .mailbox) (hg : s.inGap = false) :
    (s.post p).flag PKT_MBX_STS_BUSY = false ∧ (s.post p).flag PKT_MBX_STS_DONE = true ∧ (s.post p).pkt = s.pkt ∧
    (s.post p).getBytes 0x5180 8 = statusBytes p 0 := by
  have hpost : s.post p = ((s.setBytes 0x5180 (statusBytes p 0) 8).setFlag PKT_MBX_STS_BUSY false).setFlag PKT_MBX_STS_DONE true := by
    simp [State.post, hg, State.writeStatus, hp]
  rw [hpost]
  refine ⟨?_, flag_setFlag_same _ _ (by decide) (by decide), ?_, ?_⟩
  · rw [flag_setFlag_ne _ _ (by decide), flag_setFlag_same _ _ (by decide) (by decide)]
  · exact Part.same_trans (p := .pkt) ((frame_setBytes s _ _ _).same .pkt (by decide))
      (Part.same_trans (p := .pkt) ((frame_setFlag _ _ _).same .pkt (by decide)) ((frame_setFlag _ _ _).same .pkt (by decide)))
  · refine (getBytes_congr fun b h1 h2 => ?_).trans (getBytes_setBytes s 0x5180 (length_statusBytes p 0))
    have hb : (Foot.spares ⟨[], some [PKT_MBX_STS_BUSY.addr]⟩ b) = true := by
      simp [Foot.spares, PKT_MBX_STS_BUSY]; omega
    rw [(frame_setFlag _ PKT_MBX_STS_DONE _).word b hb, (frame_setFlag _ PKT_MBX_STS_BUSY _).word b hb]

/-! Writes of RING_CFG. -/

/-- A key of a filtered map, where the filter looks at the key alone. -/
theorem smapFind_filter {α : Type} (m : SMap α) (p : Nat → Bool) (k : Nat) :
    smapFind (m.filter fun e => p e.1) k = if p k then smapFind m k else none := by
  induction m with
  | nil => simp
  | cons e m ih =>
    obtain ⟨j, v⟩ := e
    rw [List.filter_cons]
    by_cases hj : j = k
    · subst hj
      by_cases hp : p j = true <;> simp [hp, smapFind, ih]
    · split <;> simp [smapFind, hj, ih]

theorem slots_clearSlots (s : State) (r k : Nat) :
    smapFind (s.clearSlots r).pkt.slots k = if k / 16 = r then none else smapFind s.pkt.slots k := by
  rw [State.clearSlots]
  refine (smapFind_filter s.pkt.slots (fun j => decide (j / 16 ≠ r)) k).trans ?_
  simp only [decide_not, Bool.not_eq_true', decide_eq_false_iff_not, ite_not]

section
variable {s : State} {ring : Fin 32768} {w : Word}

theorem ringBusy_of (ring : Fin 32768) : s.ringBusy ring.val = s.pkt.exec.any fun e => decide (e.src = .ring ring) := by
  simp [State.ringBusy]

theorem ringFits_deep (r : Nat) (hd : natBits w.toNat 24 3 > 4) : s.ringFits r w = false := by
  simp [State.ringFits, hd]

theorem ringFits_off (r : Nat) (hd : natBits w.toNat 24 3 ≤ 4) (hw : w.getLsbD 31 = false) : s.ringFits r w = true := by
  simp only [State.ringFits, hw, if_neg (Nat.not_lt.2 hd), Bool.not_false, if_true]

theorem ringFits_on {r : Nat} (hd : natBits w.toNat 24 3 ≤ 4) (hw : w.getLsbD 31 = true) (he : (s.ring r).en = false) :
    s.ringFits r w = decide (s.fld PKT_STS_DEPTH_USED + 2 ^ natBits w.toNat 24 3 ≤ 32768) := by
  simp only [State.ringFits, hw, he, if_neg (Nat.not_lt.2 hd), Bool.not_true, Bool.false_eq_true, if_false]

/-- With no write waiting, a write that does not fit its ring changes nothing. -/
theorem writeRing_refused {r : Nat} (hq : s.pkt.ringWrites = []) (hf : s.ringFits r w = false) : s.writeRing r w = s := by
  simp [State.writeRing, State.ringWriteOk, State.applyRings, hq, hf]

/-- One that fits takes effect at once where no packet of the ring is in execution. -/
theorem writeRing_taken (hq : s.pkt.ringWrites = []) (hf : s.ringFits ring.val w = true) (hx : ∀ e ∈ s.pkt.exec, e.src ≠ .ring ring) :
    s.writeRing ring.val w = s.setRingCfg ring.val w := by
  have hb : s.ringBusy ring.val = false := by rw [ringBusy_of]; simpa using hx
  simp [State.writeRing, State.ringWriteOk, State.applyRings, hq, hf, hb]

/-- One that disables the ring of a packet in execution waits, and discards that packet's status (R108). -/
theorem writeRing_waits (hq : s.pkt.ringWrites = []) (hd : natBits w.toNat 24 3 ≤ 4) (hw : w.getLsbD 31 = false) (hx : ∃ e ∈ s.pkt.exec, e.src = .ring ring) :
    s.writeRing ring.val w = { s with pkt := { s.pkt with ringWrites := [(ring.val, w)], exec := s.pkt.exec.map (fun (e : ExecPkt) => if (s.ring ring.val).en = true ∧ e.src = .ring ring then { e with discard := true } else e) } } := by
  have hb : s.ringBusy ring.val = true := by rw [ringBusy_of]; simpa using hx
  simp only [State.writeRing, State.ringWriteOk, State.applyRings, hq, List.foldl_nil, ringFits_off ring.val hd hw, hb, hw, Bool.not_true,
    Bool.not_false, Bool.true_and, Bool.false_and, Bool.false_eq_true, if_false, List.nil_append,
    show Fin.ofNat 32768 ring.val = ring from Fin.ofNat_val_eq_self ring]

theorem execRingCfgWrite_on (hd : s.coreDomains = true) : execRingCfgWrite ring w s = .next (s.writeRing ring.val w) := by
  rw [execRingCfgWrite, hd]
  rfl

/-- An enabled ring as the word gives it. -/
def ringOpened (w : Word) : Ring := ⟨true, w.getLsbD 30, natBits w.toNat 24 3, natBits w.toNat 0 16, 0, 0, 0, 0⟩

theorem setRingCfg_opens {r : Nat} (hf : s.ringFits r w = true) (hw : w.getLsbD 31 = true) (he : (s.ring r).en = false) :
    s.setRingCfg r w = ((s.clearSlots r).setRing r (ringOpened w)).setFld PKT_STS_DEPTH_USED (s.fld PKT_STS_DEPTH_USED + 2 ^ natBits w.toNat 24 3) := by
  simp only [State.setRingCfg, hf, hw, he, Bool.not_true, Bool.and_false, Bool.or_self, Bool.false_eq_true, if_false, if_true]
  rfl

/-- The lines of a ring, held or with a status withheld, are gone. -/
def linesDropped (s : State) (r : Nat) : State :=
  { s with pkt := { s.pkt with
      held := s.pkt.held.filter (fun h => decide (h.ring ≠ r)),
      withheld := s.pkt.withheld.filter (fun p => decide (p.src ≠ .ring (Fin.ofNat 32768 r))) } }

/-- A disabled ring as the word gives it, its counters kept. -/
def ringClosed (v : Ring) (w : Word) : Ring := ⟨false, w.getLsbD 30, natBits w.toNat 24 3, natBits w.toNat 0 16, v.badCrc, v.outOfOrder, v.gap, v.dup⟩

theorem setRingCfg_closes {r : Nat} (hf : s.ringFits r w = true) (hw : w.getLsbD 31 = false) (he : (s.ring r).en = true) :
    s.setRingCfg r w = (((linesDropped s r).clearSlots r).setFld PKT_STS_DEPTH_USED (s.fld PKT_STS_DEPTH_USED - 2 ^ (s.ring r).depth)).setRing r
      (ringClosed (s.ring r) w) := by
  rw [State.setRingCfg]
  simp only [hf, hw, he, Bool.not_true, Bool.false_and, Bool.or_self, Bool.false_eq_true, if_false, if_true]
  rfl

end

/-! A mailbox packet. -/

section
variable {s : State}

/-- The mailbox is taken (R133). -/
def boxTaken (s : State) : State := (s.setFlag PKT_MBX_STS_BUSY true).setFlag PKT_MBX_STS_DONE false

theorem flag_boxTaken (s : State) {f : Fld} (hf : f.addr ≠ PKT_MBX_STS_BUSY.addr) : (boxTaken s).flag f = s.flag f := by
  rw [boxTaken, (frame_setFlag _ PKT_MBX_STS_DONE _).flag f (Foot.spares_of_notMem (by simpa using (show f.addr ≠ PKT_MBX_STS_DONE.addr from hf)) (by decide)), (frame_setFlag _ _ _).flag f (Foot.spares_of_notMem (by simpa using hf) (by decide))]

theorem fld_boxTaken (s : State) {f : Fld} (hf : f.addr ≠ PKT_MBX_STS_BUSY.addr) : (boxTaken s).fld f = s.fld f := by
  rw [boxTaken, (frame_setFlag _ PKT_MBX_STS_DONE _).fld f (Foot.spares_of_notMem (by simpa using (show f.addr ≠ PKT_MBX_STS_DONE.addr from hf)) (by decide)), (frame_setFlag _ _ _).fld f (Foot.spares_of_notMem (by simpa using hf) (by decide))]

/-- A mailbox packet as it goes into execution. -/
def boxExec (s : State) (aux : Nat) : ExecPkt := ⟨.mailbox, pktField (s.getBytes 0x5100 16) 2 2, s.hbp.stamp, s.getBytes 0x5100 16, false, false, aux⟩

/-- A traced mailbox packet. -/
def boxTraced (s : State) : State :=
  (boxTaken s).traced (pktField (s.getBytes 0x5100 16) 4 2) (pktField (s.getBytes 0x5100 16) 2 2) s.hbp.stamp (s.getBytes 0x5100 16)

/-- What a GO does outside off and power-up with the mailbox free (R110, R121, R133). -/
theorem execMailboxGo_of (ho : s.sys.mode ≠ .off) (hp : s.sys.mode ≠ .powerUp) (hb : s.flag PKT_MBX_STS_BUSY = false) :
    execMailboxGo s =
      let bs := s.getBytes 0x5100 16
      if (crc32c (bs.take 60)).toNat ≠ pktField bs 60 4 then .next ((boxTaken s).post (execStatus (boxExec s 0) stBadCrc [] noByte))
      else match s.dispatchCheck bs true true with
        | some (c, d) => .next ((boxTraced s).post (execStatus (boxExec s 0) c [] d))
        | none => .next { boxTraced s with pkt := { s.pkt with exec := s.pkt.exec ++ [boxExec s (s.dispatchAux bs true)] } } := by
  have hck : (boxTraced s).dispatchCheck (s.getBytes 0x5100 16) true true = s.dispatchCheck (s.getBytes 0x5100 16) true true := by
    rw [boxTraced, dispatchCheck_of ((frame_traced ..).same .sys (by decide)) ((frame_traced ..).flag _ rfl)]
    exact dispatchCheck_of (s := s) (t := boxTaken s) rfl (flag_boxTaken s (by decide)) ..
  have haux : (boxTraced s).dispatchAux (s.getBytes 0x5100 16) true = s.dispatchAux (s.getBytes 0x5100 16) true := by
    rw [boxTraced, dispatchAux_of ((frame_traced ..).fld _ rfl) ((frame_traced ..).flag _ rfl) ((frame_traced ..).same .exec (by decide))]
    exact dispatchAux_of (s := s) (t := boxTaken s) (fld_boxTaken s (by decide)) (flag_boxTaken s (by decide)) rfl ..
  rw [execMailboxGo, if_neg ho, if_neg (by simp [hb])]
  dsimp only
  rw [← boxTaken, if_neg (show ¬ (boxTaken s).sys.mode = .powerUp from hp)]
  split
  · rfl
  · rw [← hck, ← haux]
    change (match (boxTraced s).dispatchCheck (s.getBytes 0x5100 16) true true with | some (c, d) => _ | none => _) = _
    have hx : (boxTraced s).pkt = s.pkt := (frame_traced ..).same .pkt (by decide)
    rw [← hx]
    split <;> rfl

end

/-- Settles O12: RING_CFG by what it asks of the ring as it stands, the mailbox by what the checks make of its packet. -/
theorem ringAndMailbox : Obligations.RingAndMailbox := by
  refine ⟨fun s ring w => ⟨fun hd => ?_, fun hd hq => ⟨fun hdeep => ?_, fun hdeep hx => ⟨fun hw he hfit => ?_, fun hw he hfit => ?_,
    fun hw he => ?_⟩, fun hdeep hx hw => ?_⟩⟩, fun s => ⟨fun ho => ?_, fun ho hb => ?_, fun ho hp hb => ?_⟩⟩
  · exact answers_of (t := s) (show execRingCfgWrite ring w s = _ by rw [execRingCfgWrite, hd]; rfl) rfl
  · exact answers_of (execRingCfgWrite_on hd) (writeRing_refused hq (ringFits_deep _ hdeep))
  · have hf : s.ringFits ring.val w = true := (ringFits_on hdeep hw he).trans (decide_eq_true hfit)
    have run := execRingCfgWrite_on (ring := ring) (w := w) hd
    rw [writeRing_taken hq hf hx, setRingCfg_opens hf hw he] at run
    refine answers_of run ⟨ring_setRing_same .., fun r hr => ring_setRing_ne _ _ hr, rfl, rfl, ?_, fun k => slots_clearSlots s _ k,
      onlyFields_setFld (onlyFields_refl [PKT_STS_DEPTH_USED] _) _ (by simp)⟩
    rw [fld_setFld_same _ _ (by decide)]
    exact Nat.mod_eq_of_lt (Nat.lt_of_le_of_lt hfit (by decide))
  · exact answers_of (execRingCfgWrite_on hd) (writeRing_refused hq ((ringFits_on hdeep hw he).trans (decide_eq_false (Nat.not_le.2 hfit))))
  · have hf : s.ringFits ring.val w = true := ringFits_off _ hdeep hw
    have run := execRingCfgWrite_on (ring := ring) (w := w) hd
    rw [writeRing_taken hq hf hx, setRingCfg_closes hf hw he] at run
    refine answers_of run ⟨congrArg Ring.en (ring_setRing_same ..), fun r hr => ring_setRing_ne _ _ hr, rfl, ?_, fun k => slots_clearSlots _ _ k,
      onlyFields_setFld (onlyFields_refl [PKT_STS_DEPTH_USED] _) _ (by simp)⟩
    refine (fld_setFld_same _ _ (by decide)).trans (Nat.mod_eq_of_lt (Nat.lt_of_le_of_lt (Nat.sub_le ..) (fld_lt s _)))
  · have run := execRingCfgWrite_on (ring := ring) (w := w) hd
    rw [writeRing_waits hq hdeep hw hx] at run
    exact answers_of run ⟨rfl, rfl⟩
  · exact answers_of (t := s) (show execMailboxGo s = _ by rw [execMailboxGo, if_pos ho]) rfl
  · refine answers_of (t := s.setFlag PKT_MBX_STS_OVERRUN true) (show execMailboxGo s = _ by rw [execMailboxGo, if_neg ho, if_pos hb]) ⟨?_, ?_⟩
    · exact flag_setFlag_same _ _ (by decide) (by decide)
    · exact onlyFields_setFlag (onlyFields_refl _ s) _ (by simp)
  · intro bs asked
    have run : execMailboxGo s = _ := execMailboxGo_of ho hp hb
    have gap : (boxTaken s).inGap = s.inGap := flag_boxTaken s (by decide)
    refine ⟨fun hc hg => ?_, fun c d hc hk hg => ?_, fun hc hk => ?_⟩
    · dsimp only at run
      rw [if_pos hc] at run
      exact answers_of run (post_mailbox rfl (gap.trans hg))
    · dsimp only at run
      rw [if_neg (by simpa using hc), hk] at run
      have gap' : (boxTraced s).inGap = s.inGap := ((frame_traced ..).flag _ rfl).trans gap
      obtain ⟨h1, h2, h3, h4⟩ := post_mailbox (s := boxTraced s) (p := execStatus (boxExec s 0) c [] d) rfl (gap'.trans hg)
      exact answers_of run ⟨h1, h2, h3.trans ((frame_traced ..).same .pkt (by decide)), h4⟩
    · dsimp only at run
      rw [if_neg (by simpa using hc), hk, boxTraced, traced_eq, flag_boxTaken s (by decide)] at run
      refine answers_of run ⟨?_, flag_setFlag_same _ _ (by decide) (by decide), rfl, rfl, ?_⟩
      · exact (flag_setFlag_ne _ _ (by decide)).trans (flag_setFlag_same _ _ (by decide) (by decide))
      · exact onlyFields_setFlag (onlyFields_setFlag (onlyFields_refl [PKT_MBX_STS_BUSY, PKT_MBX_STS_DONE] _) _ (by simp)) _ (by simp)

end Sys2Proof.Proofs

/-! PROOF. The end of a packet lets the writes of RING_CFG that waited for it take effect (R108): a NOP does more than complete. -/

namespace Sys2Proof.Proofs

open Sys2Proof.Machine Sys2Proof.Machine.Reg Sys2Proof.Laws

-- Each kernel evaluation below waits for the checks before it: in order they need no thread each.
set_option Elab.async false

/-- A NOP of ring 0 in execution. -/
def nopInHand : ExecPkt := ⟨.ring 0, 65535, 1, [0x01], false, false, 0⟩

/-- In service a NOP of ring 0 is in execution, and a write of RING_CFG that gives ring 0 the configuration it has waits for its end. -/
def ringWriteWaits : State :=
  { State.reset with
    sys := { State.reset.sys with mode := .service }
    pkt := { State.reset.pkt with exec := [nopInHand], ringWrites := [(0, 0xC4000000)] } }

/-- The number of writes of RING_CFG that wait after an outcome. -/
def waitingAfter (o : Host.Outcome State Fault Refusal) : Option Nat :=
  match o with
  | .next t => some t.pkt.ringWrites.length
  | _ => none

theorem ringWriteWaits_drains : waitingAfter (exec (.nop (.ring 0)) ringWriteWaits) = some 0 := by decide +kernel

/-- Refutes O13: a NOP that completes also ends the wait of a RING_CFG write of its ring, so that more of the packet engine changes than its packet and its slot. -/
theorem not_registerAndQueryOpcodes : ¬ Obligations.RegisterAndQueryOpcodes := by
  intro h
  obtain ⟨hnop, -⟩ := h
  obtain ⟨-, hposts⟩ := hnop ringWriteWaits (.ring 0) nopInHand (by decide +kernel) rfl
  obtain ⟨hring, -⟩ := hposts (by decide +kernel)
  obtain ⟨t, ht, heq⟩ := hring 0 rfl
  have hdrains := ringWriteWaits_drains
  rw [ht, waitingAfter, heq] at hdrains
  exact absurd hdrains (by decide +kernel)

end Sys2Proof.Proofs

/-! PROOF. Dirty marks (Table 5-5), FORCE_FULL and the map sample (R149 to R151, R162). -/

namespace Sys2Proof.Proofs

open Sys2Proof.Machine Sys2Proof.Machine.Reg Sys2Proof.Laws

variable {s : State} {g : Nat}

/-- Which granules are present is told by HBP_GEOM alone (R57). -/
theorem present_of_geom {t : State} (h : t.word 0x2008 = s.word 0x2008) (g : Nat) : t.present g = s.present g := by
  have hf : ∀ f : Fld, f.addr = 0x2008 → t.fld f = s.fld f := fun f hf => by rw [State.fld, State.fld, hf, h]
  simp only [State.present, State.granuleCount, State.maWidth, State.rankBits, State.lrankBits, State.rowBits, State.flag, hf HBP_GEOM_ROW3Q rfl,
    hf HBP_GEOM_ROW17 rfl, hf HBP_GEOM_LRANKS rfl, hf HBP_GEOM_RANK2 rfl]
  rfl

theorem present_setD (s : State) (g : Nat) (d : Dirty) (x : Nat) : (s.setD g d).present x = s.present x :=
  present_of_geom ((frame_setD s g d).word _ rfl) x

theorem dirty_setD (hg : s.present g = true) (d : Dirty) : (s.setD g d).per.dirty = fmapSet s.per.dirty g d := by
  rw [State.setD, if_neg (by simp [hg])]
  dsimp only
  split <;> split <;> rfl

theorem confirms_setD (s : State) (g : Nat) (d : Dirty) : (s.setD g d).per.confirms = s.per.confirms := by
  rw [State.setD]
  split
  · rfl
  · dsimp only
    split <;> split <;> rfl

theorem regs_setD (s : State) (g : Nat) (d : Dirty) : (s.setD g d).regs = s.regs := by
  rw [State.setD]
  split <;> rfl

/-- The state that a granule is moved to, and the states of the others. -/
theorem dstate_setD (hg : s.present g = true) (d : Dirty) (x : Nat) : (s.setD g d).dstate x = if x = g then d else s.dstate x := by
  rw [State.dstate, present_setD, dirty_setD hg, fmapGet_set]
  by_cases hx : x = g
  · rw [if_pos hx, if_pos hx, hx, hg, if_pos rfl]
  · rw [if_neg hx, if_neg hx, State.dstate]

/-- Whether a write is captured and none of its capture was lost before its mark. -/
def captured (s : State) (g st : Nat) : Bool :=
  s.capturing g st && !(match smapFind s.gln.repair g with | some o => decide (s.ord st ≤ o) | none => false)

/-- The state that a mark gives a granule (Table 5-5). -/
def markTo (d : Dirty) (cap : Bool) : Dirty :=
  match d with
  | .clean | .gleanPending => if cap then .gleanPending else .dirty
  | .dirty | .flushing => .dirty

/-- The stamps that a mark leaves behind. -/
def markNoted (s : State) (g st : Nat) : State :=
  { s with per := { s.per with marked := max s.per.marked st, lastMark := smapPut s.per.lastMark g st } }

theorem mark_eq (hg : s.present g = true) (st : Nat) : s.mark g st = (markNoted s g st).setD g (markTo (s.dstate g) (captured s g st)) := by
  have hp : ({ s with per := { s.per with marked := max s.per.marked st } } : State).present g = true := hg
  have hmatch : ∀ (d : Dirty) (cap : Bool) (t : State), (match d with
      | .clean | .gleanPending => t.setD g (if cap then .gleanPending else .dirty)
      | .dirty | .flushing => t.setD g .dirty) = t.setD g (markTo d cap) := fun d _ _ => by cases d <;> rfl
  rw [State.mark, if_neg (by rw [hp]; decide)]
  exact hmatch (s.dstate g) (captured s g st) (markNoted s g st)

/-- The oldest mark is taken from its FIFO. -/
def popped (s : State) (rest : List (Nat × Nat)) : State := { s with hbp := { s.hbp with dirtyQ := rest } }

/-- With no confirmation waiting none is applied. -/
theorem applyConfirms_none (h : s.per.confirms = []) : s.applyConfirms = s := by
  have he : ({ s with per := { s.per with confirms := [] } } : State) = s := by rw [← h]
  rw [State.applyConfirms]
  simp only [h, List.filter_nil, he, List.map_nil, List.dedup_nil, List.foldl_nil, ite_self]

theorem onlyFields_setAllDirty (s : State) (i : Nat) : OnlyFields [PER_STS_ALL_DIRTY, PER_STS_CAUSE] s (s.setAllDirty i) :=
  onlyFields_setBit (onlyFields_setFlag (onlyFields_refl _ s) _ (by simp)) _ _ (by simp)

/-- The sample of the map that a write of PER_MAP_SEL takes. -/
theorem execPerMapSelWrite_on (v : Word) (hd : s.coreDomains = true) :
    execPerMapSelWrite v s =
      let g := v.toNat % 2 ^ 19
      .next ((((((s.setFld PER_MAP_SEL v.toNat).setFld PER_MAP_STATE (dirtyCode (s.dstate g))).setFld PER_SMAP_LO (entryBits (s.smapOf g))).setFld PER_SMAP_HI
        (entryBits (s.smapOf g) / 2 ^ 32)).setFld PER_CMAP_LO (entryBits (s.cmapOf (g / 4)))).setFld PER_CMAP_HI (entryBits (s.cmapOf (g / 4)) / 2 ^ 32)) := by
  have hsel : (s.setFld PER_MAP_SEL v.toNat).fld PER_MAP_SEL = v.toNat % 2 ^ 19 := fld_setFld_same _ _ (by decide)
  have hp : ∀ x, (s.setFld PER_MAP_SEL v.toNat).present x = s.present x := present_of_geom ((frame_setFld ..).word _ rfl)
  have hd' : ∀ x, (s.setFld PER_MAP_SEL v.toNat).dstate x = s.dstate x := fun x => by rw [State.dstate, hp]; rfl
  have hs : ∀ x, (s.setFld PER_MAP_SEL v.toNat).smapOf x = s.smapOf x := fun x => by rw [State.smapOf, hp]; rfl
  have hc : ∀ x, (s.setFld PER_MAP_SEL v.toNat).cmapOf x = s.cmapOf x := fun x => by rw [State.cmapOf, hp]; rfl
  rw [execPerMapSelWrite]
  simp only [hd, hsel, hd', hs, hc, Bool.not_true, Bool.false_eq_true, if_false]

theorem dirtyCode_lt (d : Dirty) : dirtyCode d < 2 ^ 2 := by cases d <;> decide

/-- Two registers hold the low and the high half of a number of 48 bits. -/
theorem halves (n : Nat) : n % 2 ^ 32 + n / 2 ^ 32 % 2 ^ 16 * 2 ^ 32 = n % 2 ^ 48 := by omega

/-- Settles O14, state by state of Table 5-5. -/
theorem dirtyMarks : Obligations.DirtyMarks := by
  refine ⟨fun s g st rest hq hg hc => ?_, fun s v => ⟨fun hd => ?_, fun hd => ?_, fun hd => ?_, fun hd => ?_⟩⟩
  · have hg' : (popped s rest).present g = true := hg
    have run : execDirtyMarkApply s = .next ((markNoted (popped s rest) g st).setD g (markTo (s.dstate g) (captured s g st))) := by
      rw [execDirtyMarkApply, hq]
      change Host.Outcome.next (((popped s rest).mark g st).applyConfirms) = _
      rw [mark_eq hg' st, applyConfirms_none ((confirms_setD (markNoted (popped s rest) g st) ..).trans hc)]
      rfl
    have fr := frame_setD (markNoted (popped s rest) g st) g (markTo (s.dstate g) (captured s g st))
    have hd := dstate_setD (s := markNoted (popped s rest) g st) hg' (markTo (s.dstate g) (captured s g st))
    refine answers_of run ⟨fr.same .hbp (by decide), fun x hx => (hd x).trans (if_neg hx), fun h => (hd g).trans ((if_pos rfl).trans ?_),
      fun h hr => (hd g).trans ((if_pos rfl).trans ?_), fr.same .dram (by decide), fr.same .flash (by decide), regs_setD ..⟩
    · rcases h with h | h <;> rw [h] <;> rfl
    · have hcap : captured s g st = s.capturing g st := by rw [captured, hr, Bool.not_false, Bool.and_true]
      rcases h with h | h <;> rw [h, hcap] <;> rfl
  · exact answers_of (t := s) (show execForceFull s = _ by rw [execForceFull, hd]; rfl) rfl
  · exact answers_of (t := s) (show execPerMapSelWrite v s = _ by rw [execPerMapSelWrite, hd]; rfl) rfl
  · refine answers_of (t := s.setAllDirty 5) (show execForceFull s = _ by rw [execForceFull, hd]; rfl) ⟨allDirty_setAllDirty s 5, ?_, onlyFields_setAllDirty s 5⟩
    rw [State.setAllDirty, bit_setBit_true _ (by decide) (by decide), decide_eq_true rfl, Bool.or_true]
  · refine answers_of (execPerMapSelWrite_on v hd) ⟨?_, ?_, ?_, ?_, ?_⟩
    · iterate 5 rw [fld_setFld_ne _ _ (by decide)]
      exact fld_setFld_same _ _ (by decide)
    · iterate 4 rw [fld_setFld_ne _ _ (by decide)]
      rw [fld_setFld_same _ _ (by decide)]
      exact Nat.mod_eq_of_lt (dirtyCode_lt _)
    · iterate 3 rw [fld_setFld_ne (g := PER_SMAP_LO) _ _ (by decide)]
      iterate 2 rw [fld_setFld_ne (g := PER_SMAP_HI) _ _ (by decide)]
      rw [fld_setFld_same _ _ (by decide), fld_setFld_same _ _ (by decide)]
      exact halves _
    · rw [fld_setFld_ne (g := PER_CMAP_LO) _ _ (by decide), fld_setFld_same _ _ (by decide), fld_setFld_same _ _ (by decide)]
      exact halves _
    · iterate 6 with_reducible refine onlyFields_setFld ?_ _ (by simp)
      exact onlyFields_refl _ s

end Sys2Proof.Proofs

/-! PROOF. The code learner, step by step (R88 to R94). -/

namespace Sys2Proof.Proofs

open Sys2Proof.Machine Sys2Proof.Machine.Reg Sys2Proof.Laws

variable {s : State}

theorem learning_of (h : 1 ≤ s.fld CLN_STS_STATE ∧ s.fld CLN_STS_STATE ≤ 3) : s.learning = true := by
  simp [State.learning, h]

theorem not_learning_of (h : s.fld CLN_STS_STATE = 0 ∨ 4 ≤ s.fld CLN_STS_STATE) : s.learning = false := by
  simp only [State.learning, Bool.and_eq_false_iff, decide_eq_false_iff_not]
  omega

/-- What the failure of a pass leaves: UNLEARNED with its reason, and an empty FIFO (R94). -/
theorem learnFail_ends (s : State) {reason : Nat} (hr : reason < 16) :
    (s.learnFail reason).fld CLN_STS_STATE = 0 ∧ (s.learnFail reason).fld CLN_STS_REASON = reason ∧
    (s.learnFail reason).cln = { s.cln with fifo := [] } ∧
    OnlyFields [CLN_STS_STATE, CLN_STS_REASON] { s with cln := (s.learnFail reason).cln, evr := (s.learnFail reason).evr } (s.learnFail reason) := by
  refine ⟨?_, ?_, rfl, ?_⟩
  · rw [State.learnFail, (frame_note ..).fld _ rfl, fld_setFld_ne _ _ (by decide), fld_setFld_same _ _ (by decide)]
    rfl
  · rw [State.learnFail, (frame_note ..).fld _ rfl, fld_setFld_same _ _ (by decide)]
    exact Nat.mod_eq_of_lt hr
  · exact onlyFields_note (onlyFields_setFld (onlyFields_setFld (onlyFields_refl _ { s with cln := { s.cln with fifo := [] } }) _ (by simp)) _ (by simp)) ..

theorem learnFail_dram (s : State) (reason : Nat) : (s.learnFail reason).dram = s.dram := rfl

/-- What the start of a pass leaves (R89). -/
theorem learnBegin_begins (hm : s.sys.mode = .attach) :
    (s.learnBegin).fld CLN_STS_STATE = 1 ∧ (s.learnBegin).fld CLN_DIGEST = 0 ∧ (s.learnBegin).sys = { s.sys with phase := .learn } ∧
    (s.learnBegin).cln = ⟨[], s.clnBase, none, [], [], ⟨[], [], 0, 0⟩, ⟨[], [], 0, 0⟩, 0, 0⟩ := by
  have hm : s.unverifySeals.sys.mode = .attach := hm
  rw [State.learnBegin]
  dsimp only
  rw [State.setPhase, if_pos hm]
  refine ⟨?_, ?_, rfl, rfl⟩
  · iterate 5 rw [fld_setFld_ne _ _ (by decide)]
    exact fld_setFld_same _ _ (by decide)
  · iterate 4 rw [fld_setFld_ne _ _ (by decide)]
    exact fld_setFld_same _ _ (by decide)

/-! What the learner makes of a captured burst. -/

/-- The oldest burst is taken from the FIFO. -/
def burstTaken (s : State) (rest : List LearnEntry) : State := { s with cln := { s.cln with fifo := rest } }

/-- A pass that lacks a unit pattern is not complete. -/
theorem collectedAll_short (h : s.cln.units.length < 512) : s.collectedAll = false := by
  simp [State.collectedAll, Nat.ne_of_lt h]

section
variable {e : LearnEntry} {rest : List LearnEntry}

/-- What the learner does in COLLECTING with a burst that does not end the collection (R90). -/
theorem execLearnerCapture_collects {u : State} (hf : s.cln.fifo = e :: rest) (hst : s.fld CLN_STS_STATE = 1) (hs : e.solving = false)
    (hu : (burstTaken s rest).collect ((burstTaken s rest).classify e.ma e.data) e.chk = u) (hend : u.fld CLN_STS_STATE ≠ 1 ∨ u.collectedAll = false) :
    execLearnerCapture s = .next u := by
  have hend : (decide (u.fld CLN_STS_STATE = 1) && u.collectedAll) = false := by
    rcases hend with h | h <;> simp [h]
  have hif : (if (decide (u.fld CLN_STS_STATE = 1) && u.collectedAll) = true then u.setFld CLN_STS_STATE 2 else u) = u := by
    rw [hend]
    rfl
  conv => rhs; rw [← hif, ← hu]
  simp only [execLearnerCapture, hf, hst, hs]
  rfl

theorem classify_zero (hd : e.data = 0) (hm : maLine e.ma = maLine s.cln.base) : s.classify e.ma e.data = .zero := by
  simp [State.classify, hd, hm]

/-- A zero burst at neither the base line nor a line of a class is a stray (R90). -/
theorem classify_stray (hd : e.data = 0) (hm : maLine e.ma ≠ maLine s.cln.base) (hk : ∀ k < 40, maLine e.ma ≠ maLine (s.cln.base ^^^ classMask k)) :
    s.classify e.ma e.data = .stray := by
  have hfind : (List.range 40).find? (fun k => s.classPresent k && decide (maLine e.ma = maLine (s.cln.base ^^^ classMask k))) = none :=
    List.find?_eq_none.2 fun k hk' => by simp [hk k (List.mem_range.1 hk')]
  simp only [State.classify, hm, hd, hfind, if_true, if_false]

theorem collect_zero_first {c : CheckBytes} (h : s.cln.zero = none) :
    s.collect .zero c = ({ s with cln := { s.cln with zero := some c } } : State).setFld CLN_PROGRESS_ZERO 1 := by
  simp only [State.collect, h]

theorem collect_zero_differs {c c' : CheckBytes} (h : s.cln.zero = some c') (hne : c' ≠ c) : s.collect .zero c = s.learnFail 1 := by
  simp only [State.collect, h, if_neg hne]

/-- What the learner does with a burst that VERIFYING does not predict (R92). -/
theorem execLearnerCapture_differs (hf : s.cln.fifo = e :: rest) (hst : s.fld CLN_STS_STATE = 3) (hs : e.solving = false)
    (hp : predict s.cln.work e.ma e.data ≠ e.chk) :
    execLearnerCapture s = .next ((((burstTaken s rest).setFld CLN_FAIL_MA_LO (natBits e.ma 6 26)).setFld CLN_FAIL_MA_HI (natBits e.ma 32 7)).learnFail 3) := by
  have hv : (burstTaken s rest).verify e = _ := if_pos hp
  rw [← hv]
  simp only [execLearnerCapture, hf, hst, hs]
  rfl

end

/-- The state of a pass that goes on to VERIFYING with the code of its patterns (R91). -/
def solvedState (s : State) : State :=
  let nz := s.solve.f.foldl (fun acc e => acc + 2 ^ e.1) 0
  (((((({ s with cln := { s.cln with work := s.solve, verA := 0, verB := 0 } } : State).setFld CLN_FOLD_NZ (nz % 2 ^ 32)).setFld CLN_FOLD_HI_NZ32
    (nz / 2 ^ 32)).setFlag CLN_STS_FOLDED (decide (nz ≠ 0))).setFlag CLN_STS_AFFINE (decide (s.solve.c0 ≠ 0))).setFld CLN_STS_STATE 3)

/-- SOLVING ends in VERIFYING with the code of the patterns where the pair classes agree (R91). -/
theorem execLearnSolveDone_agrees (hst : s.fld CLN_STS_STATE = 2) (hp : s.pairsAgree s.solve = true) :
    Answers .learnSolveDone s fun t => t.fld CLN_STS_STATE = 3 ∧ t.cln = { s.cln with work := s.solve, verA := 0, verB := 0 } ∧
      OnlyFields [CLN_FOLD_NZ, CLN_FOLD_HI_NZ32, CLN_STS_FOLDED, CLN_STS_AFFINE, CLN_STS_STATE] { s with cln := t.cln } t := by
  refine answers_of (show execLearnSolveDone s = .next (solvedState s) by
    rw [execLearnSolveDone, if_neg (by simp [hst])]
    dsimp only
    rw [if_neg (by simp [hp])]
    rfl) ⟨fld_setFld_same _ _ (by decide), rfl, ?_⟩
  exact onlyFields_setFld (onlyFields_setFlag (onlyFields_setFlag (onlyFields_setFld (onlyFields_setFld (onlyFields_refl _ _) _ (by simp)) _
    (by simp)) _ (by simp)) _ (by simp)) _ (by simp)

/-- Settles O17, opcode by opcode and state by state. -/
theorem codeLearning : Obligations.CodeLearning := by
  refine ⟨fun s => ⟨fun src e he => ⟨fun hm => ?_, fun hm hp hr => ⟨fun hl => ?_, fun hl hb hpap hsap hu => ?_⟩⟩, fun hl => ⟨?_, ?_⟩, fun hl => ⟨?_, ?_⟩⟩,
    fun s => ⟨fun e rest hf => ⟨fun hst => ?_, fun hst hs hd => ⟨fun hm hz hu => ?_, fun c hm hz hne => ?_, fun hm hk hu => ?_⟩, fun hst hs hp => ?_⟩,
      fun hst => ⟨fun hp => ?_, fun hp => ?_⟩⟩⟩
  · refine answers_of (t := s.complete e stNotPermitted [] noByte) (show execLearnStart src s = _ from ?_) rfl
    simp [execLearnStart, he, hm, State.completeCode]
  · refine answers_of (t := s.complete e stBusy [] noByte) (show execLearnStart src s = _ from ?_) rfl
    rcases hp with hp | hp <;> simp [execLearnStart, he, hm, hp, hr, learning_of hl, State.completeCode]
  · refine answers_of (t := s.learnBegin.completeLive e stOk [] noByte) (show execLearnStart src s = _ from ?_) ?_
    · rcases hp with hp | hp <;> simp [execLearnStart, he, hm, hp, hr, not_learning_of hl, hb, hpap, hsap, hu]
    · obtain ⟨h1, h2, h3, h4⟩ := learnBegin_begins hm
      have fr := frame_completeLive s.learnBegin e stOk [] noByte
      have fb := frame_learnBegin s
      have hsys := (fr.same .sys (by decide)).trans h3
      have hcln := (fr.same .cln (by decide)).trans h4
      exact ⟨(fr.fld _ rfl).trans h1, congrArg Sys.phase hsys, (congrArg Sys.mode hsys).trans hm, congrArg Cln.base hcln, congrArg Cln.zero hcln,
        congrArg Cln.units hcln, congrArg Cln.classes hcln, congrArg Cln.fifo hcln, (fr.fld _ rfl).trans h2,
        (fr.same .dram (by decide)).trans (fb.same .dram (by decide)), (fr.same .flash (by decide)).trans (fb.same .flash (by decide))⟩
  · exact answers_of (t := s.learnFail 4) (show execLearnTimeout s = _ by simp [execLearnTimeout, State.learnStop, learning_of hl]) (learnFail_ends s (by decide))
  · exact answers_of (t := s.learnFail 5) (show execLearnAbort s = _ by simp [execLearnAbort, State.learnStop, learning_of hl]) (learnFail_ends s (by decide))
  · exact answers_of (t := s) (show execLearnTimeout s = _ by simp [execLearnTimeout, State.learnStop, not_learning_of hl]) rfl
  · exact answers_of (t := s) (show execLearnAbort s = _ by simp [execLearnAbort, State.learnStop, not_learning_of hl]) rfl
  · exact answers_of (t := s) (show execLearnerCapture s = _ by simp [execLearnerCapture, hf, hst]) rfl
  · have hu' := (congrArg ((burstTaken s rest).collect · e.chk) (classify_zero (s := burstTaken s rest) hd hm)).trans (collect_zero_first (s := burstTaken s rest) hz)
    exact answers_of (execLearnerCapture_collects hf hst hs hu' (.inr (collectedAll_short hu))) ⟨rfl, fld_setFld_same _ _ (by decide),
      (fld_setFld_ne _ _ (by decide)).trans hst, onlyFields_setFld (onlyFields_refl _ _) _ (by simp)⟩
  · have hu' := (congrArg ((burstTaken s rest).collect · e.chk) (classify_zero (s := burstTaken s rest) hd hm)).trans (collect_zero_differs (s := burstTaken s rest) hz hne)
    obtain ⟨h1, h2, -⟩ := learnFail_ends (burstTaken s rest) (reason := 1) (by decide)
    exact answers_of (execLearnerCapture_collects hf hst hs hu' (.inl (by rw [h1]; decide))) ⟨h1, h2, rfl⟩
  · have hu' := congrArg ((burstTaken s rest).collect · e.chk) (classify_stray (s := burstTaken s rest) hd hm hk)
    exact answers_of (execLearnerCapture_collects hf hst hs (hu'.trans rfl) (.inr (collectedAll_short (s := (burstTaken s rest).bump CLN_PROGRESS_STRAY 1) hu)))
      ⟨rfl, fld_bump_same _ _ (by decide), onlyFields_bump (onlyFields_refl _ _) _ (by simp)⟩
  · obtain ⟨h1, h2, -⟩ := learnFail_ends (((burstTaken s rest).setFld CLN_FAIL_MA_LO (natBits e.ma 6 26)).setFld CLN_FAIL_MA_HI (natBits e.ma 32 7))
      (reason := 3) (by decide)
    exact answers_of (execLearnerCapture_differs hf hst hs hp) ⟨h1, h2, rfl⟩
  · exact execLearnSolveDone_agrees hst hp
  · obtain ⟨h1, h2, -⟩ := learnFail_ends s (reason := 2) (by decide)
    exact answers_of (t := s.learnFail 2) (show execLearnSolveDone s = _ by simp [execLearnSolveDone, hst, hp]) ⟨h1, h2, rfl⟩

end Sys2Proof.Proofs

/-! PROOF. The loops lock, load and search; user set points (R352 to R356). -/

namespace Sys2Proof.Proofs

open Sys2Proof.Machine Sys2Proof.Machine.Reg Sys2Proof.Laws

/-! What a lock of PLL_H leaves. -/

/-- The clock status once PLL_H is locked and the DRAM clock has moved back. -/
def lockShown (s : State) : State := ((s.setFlag CLK_STS_H_LOCK true).setFlag CLK_STS_H_STOPPED false).clockBack

/-- What the lock lets go on touches the training status alone (R502). -/
theorem frame_hLocked_lockShown (s : State) : Frame ⟨[.trn], some [TRN_STS_DRAM_READY.addr]⟩ (lockShown s) s.hLocked := by
  have hu : Frame ⟨[.trn], some [TRN_STS_DRAM_READY.addr]⟩ (lockShown s) { lockShown s with trn := { (lockShown s).trn with hop := false } } :=
    .lit (lockShown s) (fun p hp => by cases p <;> first | with_reducible rfl | exact absurd (by decide) hp) (.refl _ _)
  rw [State.hLocked]
  dsimp only
  split
  · exact hu
  · split
    · exact .step rfl (frame_trainRun _) hu
    · split
      · exact .step rfl (frame_setFlag ..) hu
      · exact hu

theorem hop_trainRun (s : State) : s.trainRun.trn.hop = s.trn.hop := by
  rw [State.trainRun]
  split <;> rfl

theorem hop_hLocked (s : State) : s.hLocked.trn.hop = false := by
  rw [State.hLocked]
  dsimp only
  split
  · rfl
  · split
    · exact hop_trainRun _
    · split <;> rfl

theorem flag_hLocked (s : State) : s.hLocked.flag CLK_STS_H_LOCK = true ∧ s.hLocked.flag CLK_STS_H_STOPPED = false := by
  have fr := frame_hLocked_lockShown s
  rw [fr.flag CLK_STS_H_LOCK rfl, fr.flag CLK_STS_H_STOPPED rfl, lockShown, State.clockBack]
  rw [flag_setFlag_ne _ _ (by decide), flag_setFlag_ne _ _ (by decide), flag_setFlag_same _ _ (by decide) (by decide),
    flag_setFlag_ne _ _ (by decide), flag_setFlag_same _ _ (by decide) (by decide)]
  exact ⟨rfl, rfl⟩

section
variable {s : State}

/-- A lock that nothing waits for changes nothing but its loop's own state. -/
theorem execPllLock_quiet (loop : PllLoop) (band : BitVec 6) (fine : BitVec 10) (temp : Byte) (hb : s.bdc.handbackWait = none)
    (hw : s.flag SAV_STS_REBOUND_WAIT = false) (hp : s.sys.phase ≠ .restore) :
    execPllLock loop band fine temp s = .next (s.pllLocked loop band fine temp) := by
  have fr := frame_pllLocked s loop band fine temp
  have h1 : (s.pllLocked loop band fine temp).handbackReady = s.pllLocked loop band fine temp := by
    rw [State.handbackReady, fr.same .bdc (by decide), hb]
  have h2 : (s.pllLocked loop band fine temp).reboundReady = s.pllLocked loop band fine temp := by
    rw [State.reboundReady, fr.flag SAV_STS_REBOUND_WAIT rfl, hw]
    rfl
  have h3 : (s.pllLocked loop band fine temp).restoreTake = s.pllLocked loop band fine temp := by
    rw [State.restoreTake, fr.same .sys (by decide), decide_eq_false hp]
    rfl
  rw [execPllLock, h1, h2, h3]

/-- A lock of PLL_H with the host clock there. -/
theorem pllLocked_h (band : BitVec 6) (fine : BitVec 10) (temp : Byte) (hc : s.clk.h = .loading ∨ s.clk.h = .searching) (hp : s.clk.present = true) :
    let t := s.pllLocked .h band fine temp
    t.clk.h = .locked ∧ t.flag CLK_STS_H_LOCK = true ∧ t.flag CLK_STS_H_STOPPED = false ∧ t.trn.hop = false := by
  have key : ∀ u : State, u.clk.h = .locked → (u.searchFlag.hLocked).clk.h = .locked ∧ (u.searchFlag.hLocked).flag CLK_STS_H_LOCK = true ∧
      (u.searchFlag.hLocked).flag CLK_STS_H_STOPPED = false ∧ (u.searchFlag.hLocked).trn.hop = false := fun u hu =>
    ⟨(congrArg Clk.h ((frame_hLocked u.searchFlag).same .clk (by decide))).trans hu, (flag_hLocked _).1, (flag_hLocked _).2, hop_hLocked _⟩
  simp only [State.pllLocked]
  rw [if_neg (by rcases hc with hc | hc <;> simp [hc, hp])]
  apply key
  split
  · exact congrArg Clk.h ((frame_ledgerTraining ..).same .clk (by decide))
  · rfl

/-- A search of the DRAM loop that ends in lock. -/
theorem pllLocked_d (band : BitVec 6) (fine : BitVec 10) (temp : Byte) (hd : s.clk.d = .searching) :
    s.pllLocked .d band fine temp =
      ((({ s with clk := { s.clk with d := .locked } } : State).searched 1 s.clk.dSp band fine temp).setFlag CLK_STS_D_LOCK true).searchFlag := by
  simp [State.pllLocked, hd]

/-- The band record of a loop at a set point is written (R356). -/
def bandWritten (s : State) (lp sp : Nat) (w : Word) : State :=
  { s with clk := { s.clk with band := smapSet (fun _ => 0) s.clk.band (lp * 8 + sp) w } }

theorem fld_withClk (s : State) (c : Clk) (f : Fld) : ({ s with clk := c } : State).fld f = s.fld f := rfl

theorem searched_eq (lp sp : Nat) (band : BitVec 6) (fine : BitVec 10) (temp : Byte) :
    s.searched lp sp band fine temp = ((bandWritten s lp sp (bandWord (s.spRate sp) band fine temp)).bump CLK_CNT_SEARCHES 1).ledgerTraining sp lp := rfl

theorem clk_searched (lp sp : Nat) (band : BitVec 6) (fine : BitVec 10) (temp : Byte) :
    (s.searched lp sp band fine temp).clk = (bandWritten s lp sp (bandWord (s.spRate sp) band fine temp)).clk := by
  rw [searched_eq, (frame_ledgerTraining ..).same .clk (by decide), clk_bump]

theorem searches_searched (lp sp : Nat) (band : BitVec 6) (fine : BitVec 10) (temp : Byte) :
    (s.searched lp sp band fine temp).fld CLK_CNT_SEARCHES = min (s.fld CLK_CNT_SEARCHES + 1) (2 ^ CLK_CNT_SEARCHES.w - 1) := by
  rw [searched_eq, (frame_ledgerTraining ..).fld _ rfl, fld_bump_same _ _ (by decide), bandWritten, fld_withClk]

theorem clk_pllLocked_d (band : BitVec 6) (fine : BitVec 10) (temp : Byte) (hd : s.clk.d = .searching) :
    (s.pllLocked .d band fine temp).clk =
      { s.clk with d := .locked, band := smapSet (fun _ => 0) s.clk.band (1 * 8 + s.clk.dSp) (bandWord (s.spRate s.clk.dSp) band fine temp) } := by
  have hr : ({ s with clk := { s.clk with d := .locked } } : State).spRate s.clk.dSp = s.spRate s.clk.dSp := rfl
  rw [pllLocked_d band fine temp hd, State.searchFlag, clk_setFlag, clk_setFlag, clk_searched, hr]
  generalize bandWord (s.spRate s.clk.dSp) band fine temp = w
  rfl

theorem bandOf_pllLocked_d (band : BitVec 6) (fine : BitVec 10) (temp : Byte) (hd : s.clk.d = .searching) :
    (s.pllLocked .d band fine temp).bandOf 1 s.clk.dSp = bandWord (s.spRate s.clk.dSp) band fine temp := by
  rw [State.bandOf, clk_pllLocked_d band fine temp hd]
  exact smapGet_set_same ..

theorem searches_pllLocked_d (band : BitVec 6) (fine : BitVec 10) (temp : Byte) (hd : s.clk.d = .searching) :
    (s.pllLocked .d band fine temp).fld CLK_CNT_SEARCHES = min (s.fld CLK_CNT_SEARCHES + 1) (2 ^ CLK_CNT_SEARCHES.w - 1) := by
  rw [pllLocked_d band fine temp hd, (frame_searchFlag _).fld _ rfl, (frame_setFlag ..).fld _ rfl, searches_searched, fld_withClk]

/-- The fields of a written band record (Table 12-3). -/
theorem bandWord_digits {b f d t : Nat} (hb : b < 64) (hf : f < 1024) (hd : d = 8192 ∨ d = 0) (ht : t < 256) :
    let w := (1073741824 + b * 16777216 + f * 16384 + d + t) % 4294967296
    w / 1073741824 = 1 ∧ w / 16777216 % 64 = b ∧ w / 16384 % 1024 = f := by
  omega

theorem bandWord_fields (rate : Nat) (band : BitVec 6) (fine : BitVec 10) (temp : Byte) :
    bandValid (bandWord rate band fine temp) = true ∧ (bandWord rate band fine temp).toNat / 2 ^ 24 % 64 = band.toNat ∧
    (bandWord rate band fine temp).toNat / 2 ^ 14 % 1024 = fine.toNat := by
  have hw : (bandWord rate band fine temp).toNat =
      (1073741824 + band.toNat * 16777216 + fine.toNat * 16384 + (if rate ≤ 6400 then 8192 else 0) + temp.toNat) % 4294967296 := BitVec.toNat_ofNat ..
  rw [bandValid, decide_eq_true_eq, hw]
  refine bandWord_digits band.isLt fine.isLt ?_ temp.isLt
  split
  · exact .inl rfl
  · exact .inr rfl

end

/-! User set points. -/

/-- The set point's rate and its training records are written (R354). -/
def userSpWritten (s : State) (u r : Nat) : State := ((s.setFld (CLK_SP_USER u) r).setFld (hostRec (u + 5)) 0).setFld (dramRec (u + 5)) 0

/-- The band records and the results of the set point are gone. -/
def userSpCleared (t : State) (sp : Nat) : State :=
  { t with clk := { t.clk with band := smapDel (smapDel t.clk.band sp) (8 + sp) },
           trn := { t.trn with results := t.trn.results.filter (fun e => decide (e.1 / 2 ^ 16 ≠ sp)) } }

theorem writeUserSp_taken {s : State} {u : Nat} {v : Word} (ha : s.fld TRN_STS_ACTIVE_SP ≠ u + 5) (hr : userRateOk (v.toNat % 8192) = true) :
    s.writeUserSp u v = userSpCleared (userSpWritten s u (v.toNat % 8192)) (u + 5) := by
  rw [State.writeUserSp, show (2 ^ 13 : Nat) = 8192 from rfl, if_neg (by rw [decide_eq_false ha, hr]; decide)]
  rfl

theorem writeUserSp_refused {s : State} {u : Nat} {v : Word} (h : (decide (s.fld TRN_STS_ACTIVE_SP = u + 5) || !userRateOk (v.toNat % 8192)) = true) :
    s.writeUserSp u v = s := by
  rw [State.writeUserSp, show (2 ^ 13 : Nat) = 8192 from rfl, if_pos h]

theorem fld_userSpWritten (s : State) {u : Nat} (hu : u < 3) {r : Nat} (hr : r < 8192) :
    (userSpWritten s u r).fld (CLK_SP_USER u) = r ∧ (userSpWritten s u r).fld (hostRec (u + 5)) = 0 ∧ (userSpWritten s u r).fld (dramRec (u + 5)) = 0 := by
  have h1 : (CLK_SP_USER u).addr ≠ (hostRec (u + 5)).addr := by simp only [CLK_SP_USER, hostRec]; omega
  have h2 : (CLK_SP_USER u).lo + (CLK_SP_USER u).w ≤ 32 := by simp only [CLK_SP_USER]; omega
  have h3 : (hostRec (u + 5)).lo + (hostRec (u + 5)).w ≤ 32 := by simp only [hostRec]; omega
  have h6 : (CLK_SP_USER u).addr ≠ (dramRec (u + 5)).addr := by simp only [CLK_SP_USER, dramRec]; omega
  have h4 : (dramRec (u + 5)).lo + (dramRec (u + 5)).w ≤ 32 := by simp only [dramRec]; omega
  have h5 : (dramRec (u + 5)).lo + (dramRec (u + 5)).w ≤ (hostRec (u + 5)).lo := by simp only [dramRec, hostRec]; omega
  refine ⟨?_, ?_, ?_⟩
  · rw [userSpWritten, fld_setFld_ne _ _ (.inl h6), fld_setFld_ne _ _ (.inl h1), fld_setFld_same _ _ h2]
    exact Nat.mod_eq_of_lt hr
  · rw [userSpWritten, fld_setFld_ne _ _ (.inr (.inr h5)), fld_setFld_same _ _ h3, Nat.zero_mod]
  · rw [userSpWritten, fld_setFld_same _ _ h4, Nat.zero_mod]

theorem word_userSpCleared (t : State) (sp a : Nat) : (userSpCleared t sp).word a = t.word a := by
  rw [word_regs, word_regs]
  rfl

theorem word_withClkTrn (s : State) (c : Clk) (d : Trn) (a : Nat) : ({ s with clk := c, trn := d } : State).word a = s.word a := rfl

theorem fld_userSpCleared (t : State) (sp : Nat) (f : Fld) : (userSpCleared t sp).fld f = t.fld f := fld_of_regs rfl f

theorem bandOf_userSpCleared (t : State) (sp : Nat) : (userSpCleared t sp).bandOf 0 sp = 0 ∧ (userSpCleared t sp).bandOf 1 sp = 0 := by
  refine ⟨?_, ?_⟩
  · rw [State.bandOf, smapGet, userSpCleared, Nat.zero_mul, Nat.zero_add, smapFind_del_ne _ (by omega), smapFind_del_same]
    rfl
  · rw [State.bandOf, smapGet, userSpCleared, Nat.one_mul, smapFind_del_same]
    rfl

theorem onlyFields_userSpWritten (s : State) (u r : Nat) :
    OnlyFields [CLK_SP_USER u, hostRec (u + 5), dramRec (u + 5)] { s with clk := (userSpCleared (userSpWritten s u r) (u + 5)).clk, trn := (userSpCleared (userSpWritten s u r) (u + 5)).trn } (userSpCleared (userSpWritten s u r) (u + 5)) := by
  have h : OnlyFields [CLK_SP_USER u, hostRec (u + 5), dramRec (u + 5)] s (userSpWritten s u r) :=
    onlyFields_setFld (onlyFields_setFld (onlyFields_setFld (onlyFields_refl _ s) _ (by simp)) _ (by simp)) _ (by simp)
  obtain ⟨-, hbits⟩ := h
  refine ⟨rfl, fun a i hf => ?_⟩
  rw [word_userSpCleared, hbits a i hf]
  generalize (userSpCleared (userSpWritten s u r) (u + 5)).clk = c, (userSpCleared (userSpWritten s u r) (u + 5)).trn = d
  exact congrArg (·.getLsbD i) (word_withClkTrn s c d a).symm

theorem userRateOk_iff (r : Nat) : userRateOk r = true ↔ (r = 0 ∨ (3200 ≤ r ∧ r ≤ 8000 ∧ r % 100 = 0)) := by
  simp [userRateOk, and_assoc]

/-! The ends of a load and of a search. -/

section
variable {s : State}

theorem searching_searchFlag (h : s.clk.h = .searching ∨ s.clk.d = .searching ∨ s.clk.f = .searching) : s.searchFlag.flag CLK_STS_SEARCHING = true := by
  refine (flag_setFlag_same _ _ (by decide) (by decide)).trans ?_
  rcases h with h | h | h <;> simp [h]

end

/-- A search of the DRAM loop that ends in lock, with nothing that waits for it (R356). -/
theorem pllLock_d_searched {s : State} (band : BitVec 6) (fine : BitVec 10) (temp : Byte) (hd : s.clk.d = .searching) (hw : s.flag SAV_STS_REBOUND_WAIT = false)
    (hb : s.bdc.handbackWait = none) (hph : s.sys.phase ≠ .restore) :
    Answers (.pllLock .d band fine temp) s fun t =>
      t.clk.d = .locked ∧ t.flag CLK_STS_D_LOCK = true ∧ bandValid (t.bandOf 1 s.clk.dSp) = true ∧ (t.bandOf 1 s.clk.dSp).toNat / 2 ^ 24 % 64 = band.toNat ∧
      (t.bandOf 1 s.clk.dSp).toNat / 2 ^ 14 % 1024 = fine.toNat ∧ t.fld CLK_CNT_SEARCHES = min (s.fld CLK_CNT_SEARCHES + 1) (2 ^ CLK_CNT_SEARCHES.w - 1) ∧
      t.sys = s.sys ∧ t.dram = s.dram := by
  have fr := frame_pllLocked s .d band fine temp
  have hband := bandOf_pllLocked_d band fine temp hd
  obtain ⟨hv, hbd, hfn⟩ := bandWord_fields (s.spRate s.clk.dSp) band fine temp
  refine answers_of (execPllLock_quiet .d band fine temp hb hw hph) ⟨?_, ?_, by rw [hband]; exact hv, by rw [hband]; exact hbd, by rw [hband]; exact hfn, ?_, fr.same .sys (by decide), fr.same .dram (by decide)⟩
  · rw [clk_pllLocked_d band fine temp hd]
  · rw [pllLocked_d band fine temp hd, State.searchFlag, flag_setFlag_ne _ _ (by decide), flag_setFlag_same _ _ (by decide) (by decide)]
  · exact searches_pllLocked_d band fine temp hd

/-- Settles O20, loop by loop. -/
theorem clockLoops : Obligations.ClockLoops := by
  intro s band fine temp
  refine ⟨fun hc hp hb hw hph => ?_, fun hd hw hb hph => ?_, fun hf hw hb hph => ?_, fun h => ?_, fun h => ?_, fun h => ?_, fun h => ?_, fun h => ?_, fun h => ?_,
    fun h => ⟨?_, ?_⟩, fun u v hd => ?_, fun u v hd => ⟨fun hr => ?_, fun ha hr => ?_⟩⟩
  · have fr := frame_pllLocked s .h band fine temp
    obtain ⟨h1, h2, h3, h4⟩ := pllLocked_h band fine temp hc hp
    exact answers_of (execPllLock_quiet .h band fine temp hb hw hph) ⟨h1, h2, h3, h4, fr.same .sys (by decide), fr.same .dram (by decide)⟩
  · exact pllLock_d_searched band fine temp hd hw hb hph
  · have he : s.pllLocked .f band fine temp = (({ s with clk := { s.clk with f := .locked } } : State).setFlag CLK_STS_F_LOCK true).searchFlag := by
      rcases hf with hf | hf <;> simp [State.pllLocked, hf]
    refine answers_of (execPllLock_quiet .f band fine temp hb hw hph) ?_
    rw [he]
    exact ⟨rfl, (flag_setFlag_ne _ _ (by decide)).trans (flag_setFlag_same _ _ (by decide) (by decide)),
      onlyFields_setFlag (onlyFields_setFlag (onlyFields_refl _ _) _ (by simp)) _ (by simp)⟩
  · exact answers_of (i := .pllLockTimeout .h) (if_pos h) ⟨rfl, searching_searchFlag (.inl rfl), onlyFields_setFlag (onlyFields_refl _ _) _ (by simp)⟩
  · exact answers_of (i := .pllLockTimeout .d) (if_pos h) ⟨rfl, searching_searchFlag (.inr (.inl rfl))⟩
  · exact answers_of (i := .pllLockTimeout .f) (if_pos h) ⟨rfl, searching_searchFlag (.inr (.inr rfl))⟩
  · exact answers_of (i := .pllNoLock .h) (if_neg (not_not_intro h)) ⟨rfl, rfl, rfl, rfl⟩
  · exact answers_of (i := .pllNoLock .d) (if_neg (not_not_intro h)) ⟨rfl, rfl⟩
  · exact answers_of (i := .pllNoLock .f) (if_neg (not_not_intro h)) ⟨rfl, rfl⟩
  · exact answers_of (i := .pllLockTimeout .h) (if_neg (by rw [h]; decide)) rfl
  · exact answers_of (i := .pllNoLock .h) (if_pos (by rw [h]; decide)) rfl
  · exact answers_of (t := s) (show execClkSpUserWrite u v s = _ by rw [execClkSpUserWrite, hd]; rfl) rfl
  · refine answers_of (t := s.writeUserSp u.val v) (show execClkSpUserWrite u v s = _ by rw [execClkSpUserWrite, hd]; rfl) (writeUserSp_refused ?_)
    rcases hr with hr | hr
    · rw [decide_eq_true hr, Bool.true_or]
    · rw [Bool.eq_false_iff.2 fun h => hr ((userRateOk_iff _).1 h), Bool.not_false, Bool.or_true]
  · refine answers_of (t := s.writeUserSp u.val v) (show execClkSpUserWrite u v s = _ by rw [execClkSpUserWrite, hd]; rfl) ?_
    rw [writeUserSp_taken ha ((userRateOk_iff _).2 hr)]
    obtain ⟨h1, h2, h3⟩ := fld_userSpWritten s u.isLt (r := v.toNat % 8192) (Nat.mod_lt _ (by decide))
    obtain ⟨h4, h5⟩ := bandOf_userSpCleared (userSpWritten s u.val (v.toNat % 8192)) (u.val + 5)
    exact ⟨(fld_userSpCleared ..).trans h1, (fld_userSpCleared ..).trans h2, (fld_userSpCleared ..).trans h3, h4, h5, onlyFields_userSpWritten s u.val _⟩

end Sys2Proof.Proofs

/-! PROOF. DECIDE drops the images whose anchors cannot be read (R26): the first kite does not leave the list of images as it is. -/

namespace Sys2Proof.Proofs

open Sys2Proof.Machine Sys2Proof.Machine.Reg Sys2Proof.Laws

-- Each kernel evaluation below waits for the checks before it: in order they need no thread each.
set_option Elab.async false

/-- An image whose one anchor copy stands at position 5 of the anchor log. -/
def anchoredAtFive : Image :=
  { plan := 0, pos := 0, threshed := false, narrowed := false, keeper := false, degraded := false, gen := 1, epoch := 0, f := 0, configGen := 0, geom := 0
    rev := 0, prevGen := 0, indexAddr := 0, indexSheaves := 0, omitted := 0, sheaves := 0, tick := 0, wall := 0, seq := 0, indexDigest := [], contentSeq := 0
    chain := 1, copies := 1, copyAt := [5], gran := [], group := [], regions := [], cover := [], repair := [], recs := [], own := [] }

/-- In power-up the boot is done and core A is alive, with one image on flash. -/
def kiteDue : State :=
  { State.reset.setFlag SPT_HB_A_ALIVE true with
    sys := { State.reset.sys with mode := .powerUp, attempt := true }
    flash := { State.reset.flash with images := [anchoredAtFive] }
    pwr := { State.reset.pwr with bootDone := true } }

/-- A DECIDE phase that cannot read position 5 of the anchor log. -/
def fiveUnread : DecideEnv :=
  { dies := [], trainFail := 0, trn := [], chaff := [], indexUnread := [], indexBad := [], anchorBad := [5], chainBad := false }

/-- The number of images on flash after an outcome. -/
def imagesAfter (o : Host.Outcome State Fault Refusal) : Option Nat :=
  match o with
  | .next t => some t.flash.images.length
  | _ => none

theorem kiteDue_drops : imagesAfter (exec (.firstKiteGrant .a fiveUnread) kiteDue) = some 0 := by decide +kernel

/-- Refutes O37: the clause that the images stay fails where DECIDE finds an image whose anchor has no valid copy. -/
theorem not_firstKite : ¬ Obligations.FirstKite := by
  intro h
  obtain ⟨-, hgrant⟩ := h kiteDue .a fiveUnread
  obtain ⟨t, ht, -, -, -, -, -, -, -, himages⟩ := hgrant rfl rfl rfl (.inl ⟨by decide +kernel, rfl⟩)
  have hdrops := kiteDue_drops
  rw [ht, imagesAfter, himages] at hdrops
  exact absurd hdrops (by decide +kernel)

end Sys2Proof.Proofs

/-! PROOF. The pace monitor's window (R237, R347). -/

namespace Sys2Proof.Proofs

open Sys2Proof.Machine Sys2Proof.Machine.Reg Sys2Proof.Laws

/-- What a window makes of the feeds, once their voltages are shown, stays within the power path. -/
theorem frame_feedWindow_shown (s : State) (e : PaceEnv) :
    Frame ⟨[.en, .pwr], some [PWR_FEED_STS_A_BELOW.addr, PWR_SEQ_STS_STAGE.addr]⟩
      ((s.setFld PWR_FEED_V_A e.feedA.toNat).setFld PWR_FEED_V_B e.feedB.toNat) (s.feedWindow e) := by
  unfold State.feedWindow
  dsimp only
  repeat' first
    | with_reducible (apply Frame.refl)
    | with_reducible (apply Frame.step ?_ (frame_feedBIn ..))
    | with_reducible (apply Frame.step ?_ (frame_feedAIn ..))
    | with_reducible (apply Frame.step ?_ (frame_setFlag _ PWR_FEED_STS_A_BELOW _))
    | with_reducible (apply Frame.step ?_ (frame_setFlag _ PWR_FEED_STS_B_LOW _))
    | split
    | exact rfl

section
variable {s : State} {env : PaceEnv}

/-- The count and what it is judged against, as a window shows them (R237). -/
def paceShown (s : State) (env : PaceEnv) : State :=
  let p := s.pacePromise env
  let n := env.count.toNat
  (((((((s.setFld PLN_PACE_COUNT n).setFld PLN_PACE_PROMISE p.1).setFld PLN_PACE_STS_MIN_COUNT (min n (s.fld PLN_PACE_STS_MIN_COUNT))).setFld PLN_PACE_STS_T_IDX
    p.2.2).setFld PLN_PACE_STS_V_IDX p.2.1).setFlag PLN_PACE_STS_LOCAL_LOW (decide (n < p.1))).setFlag PLN_PACE_STS_CORNER_LOW
    (decide (n < s.corner 0xD1 % 65536))).setFlag PLN_PACE_STS_RANGE (decide (env.vdd.toNat < 600) || decide (110 < env.temp.toInt))

/-- What follows the judgement of a window: the feeds, the crystal, a message and the incidents. -/
def paceFeet : Foot :=
  ⟨[.hbp, .held, .pkt, .fce, .fresh, .evr, .slots, .fenced, .flt, .kite, .en, .pwr], some [PKT_STS_DEPTH_USED.addr, CLK_STS_COAST.addr, CLK_XTAL.addr,
    PWR_FEED_STS_A_BELOW.addr, PWR_SEQ_STS_STAGE.addr, SPT_KITE_COLD_A.addr, SPT_HB_A_AGE.addr]⟩

/-- The feeds' voltages over what the window shows of the count and the crystal. -/
def feedsShown (s : State) (env : PaceEnv) : State :=
  (((paceShown s env).crystalWindow env).setFld PWR_FEED_V_A env.feedA.toNat).setFld PWR_FEED_V_B env.feedB.toNat

theorem execPaceWindowEnd_on (hm : s.sys.mode ≠ .off) : ∃ t, execPaceWindowEnd env s = .next t ∧ Frame paceFeet (feedsShown s env) t := by
  have run : ∃ q, execPaceWindowEnd env s = .next ((if q = 0 then ((paceShown s env).crystalWindow env).feedWindow env
      else (((paceShown s env).crystalWindow env).feedWindow env).report .paceLow 0 q 0).settle) :=
    ⟨_, (if_neg hm).trans rfl⟩
  obtain ⟨q, run⟩ := run
  have h : Frame paceFeet (feedsShown s env) (((paceShown s env).crystalWindow env).feedWindow env) := (frame_feedWindow_shown ..).mono rfl
  refine ⟨_, run, .step rfl (frame_settle _) ?_⟩
  split
  · exact h
  · exact .step rfl (frame_report ..) h

/-- A register that neither the feeds nor the crystal own shows what the judgement left there. -/
theorem fld_paceShown {t : State} (fr : Frame paceFeet (feedsShown s env) t) {f : Fld} (hp : paceFeet.spares f.addr = true)
    (ha : f.addr ≠ PWR_FEED_V_A.addr) (hx : (Foot.mk [.flt] (some [CLK_STS_COAST.addr, CLK_XTAL.addr])).spares f.addr = true) : t.fld f = (paceShown s env).fld f := by
  rw [fr.fld f hp, feedsShown, fld_setFld_ne (f := PWR_FEED_V_B) _ _ (.inl ha), fld_setFld_ne _ _ (.inl ha), (frame_crystalWindow ..).fld f hx]

theorem flag_paceShown {t : State} (fr : Frame paceFeet (feedsShown s env) t) {f : Fld} (hp : paceFeet.spares f.addr = true)
    (ha : f.addr ≠ PWR_FEED_V_A.addr) (hx : (Foot.mk [.flt] (some [CLK_STS_COAST.addr, CLK_XTAL.addr])).spares f.addr = true) : t.flag f = (paceShown s env).flag f := by
  rw [State.flag, fld_paceShown fr hp ha hx, State.flag]

/-- Within the grid the promise is that of the corner table (Table 8-6). -/
theorem pacePromise_grid {v k : Nat} (hv : paceV env.vdd.toNat = some v) (hk : paceT env.temp.toInt = some k) :
    s.pacePromise env = (s.corner (0xC0 + 6 * v + k) % 65536, v, k) := by
  rw [State.pacePromise, hv, hk]

theorem paceV_lt {mv v : Nat} (h : paceV mv = some v) : v < 6 := by
  unfold paceV at h
  (repeat' split at h) <;> cases h <;> decide

theorem paceT_lt {c : Int} {k : Nat} (h : paceT c = some k) : k < 6 := by
  unfold paceT at h
  (repeat' split at h) <;> cases h <;> decide

/-- The fields of the judgement (Tables 8-4, 8-6). -/
theorem fld_paceShown_fields :
    (paceShown s env).fld PLN_PACE_COUNT = env.count.toNat % 2 ^ PLN_PACE_COUNT.w ∧ (paceShown s env).fld PLN_PACE_PROMISE = (s.pacePromise env).1 % 65536 ∧
    (paceShown s env).fld PLN_PACE_STS_V_IDX = (s.pacePromise env).2.1 % 16 ∧ (paceShown s env).fld PLN_PACE_STS_T_IDX = (s.pacePromise env).2.2 % 16 := by
  unfold paceShown State.setFlag
  dsimp only
  refine ⟨?_, ?_, ?_, ?_⟩
  · iterate 7 rw [fld_setFld_ne _ _ (by decide)]
    rw [fld_setFld_same _ _ (by decide)]
  · iterate 6 rw [fld_setFld_ne _ _ (by decide)]
    exact fld_setFld_same _ _ (by decide)
  · iterate 3 rw [fld_setFld_ne _ _ (by decide)]
    exact fld_setFld_same _ _ (by decide)
  · iterate 4 rw [fld_setFld_ne _ _ (by decide)]
    exact fld_setFld_same _ _ (by decide)

theorem flag_paceShown_flags :
    (paceShown s env).flag PLN_PACE_STS_LOCAL_LOW = decide (env.count.toNat < (s.pacePromise env).1) ∧
    (paceShown s env).flag PLN_PACE_STS_CORNER_LOW = decide (env.count.toNat < s.corner 0xD1 % 65536) ∧
    (paceShown s env).flag PLN_PACE_STS_RANGE = (decide (env.vdd.toNat < 600) || decide (110 < env.temp.toInt)) := by
  unfold paceShown
  dsimp only
  refine ⟨?_, ?_, flag_setFlag_same _ _ (by decide) (by decide)⟩
  · iterate 2 rw [flag_setFlag_ne _ _ (by decide)]
    exact flag_setFlag_same _ _ (by decide) (by decide)
  · rw [flag_setFlag_ne _ _ (by decide)]
    exact flag_setFlag_same _ _ (by decide) (by decide)

/-- The footprint of a window. -/
def paceFoot : Foot :=
  ⟨paceFeet.parts, some [PKT_STS_DEPTH_USED.addr, PLN_PACE_COUNT.addr, PLN_PACE_STS_MIN_COUNT.addr, CLK_STS_COAST.addr, CLK_XTAL.addr, PWR_FEED_STS_A_BELOW.addr,
    PWR_FEED_V_A.addr, PWR_SEQ_STS_STAGE.addr, SPT_KITE_COLD_A.addr, SPT_HB_A_AGE.addr]⟩

theorem frame_feedsShown (s : State) (env : PaceEnv) : Frame paceFoot s (feedsShown s env) := by
  unfold feedsShown paceShown
  dsimp only
  refine .step rfl (frame_setFld ..) (.step rfl (frame_setFld ..) (.step rfl (frame_crystalWindow ..) ?_))
  iterate 3 refine .step rfl (frame_setFlag ..) ?_
  iterate 5 refine .step rfl (frame_setFld ..) ?_
  exact .refl _ s

/-- Nothing outside the power path, the faults and what their reactions own moves. -/
theorem frame_pace {t : State} (fr : Frame paceFeet (feedsShown s env) t) : Frame paceFoot s t := .step rfl fr (frame_feedsShown s env)

end

/-- Settles O40: what the window shows stands where neither the feeds nor the incidents reach. -/
theorem paceWindow : Obligations.PaceWindow := by
  refine fun s env => ⟨fun ho => ?_, fun hm => ?_, fun v k hm hv hk => ?_⟩
  · exact answers_of (t := s) (show execPaceWindowEnd env s = _ from if_pos ho) rfl
  · obtain ⟨t, run, fr⟩ := execPaceWindowEnd_on (env := env) hm
    obtain ⟨hcount, -, -, -⟩ := fld_paceShown_fields (s := s) (env := env)
    obtain ⟨-, hcorner, hrange⟩ := flag_paceShown_flags (s := s) (env := env)
    refine answers_of run ⟨(fld_paceShown fr rfl (by decide) rfl).trans hcount, (flag_paceShown fr rfl (by decide) rfl).trans hcorner,
      (flag_paceShown fr rfl (by decide) rfl).trans hrange, ?_, ?_, (frame_pace fr).same .sys (by decide), (frame_pace fr).same .dram (by decide),
      (frame_pace fr).same .flash (by decide)⟩
    · rw [fr.fld _ rfl, feedsShown, fld_setFld_ne _ _ (by decide), fld_setFld_same _ _ (by decide)]
    · rw [fr.fld _ rfl, feedsShown, fld_setFld_same _ _ (by decide)]
  · obtain ⟨t, run, fr⟩ := execPaceWindowEnd_on (env := env) hm
    obtain ⟨-, hp, hvi, hki⟩ := fld_paceShown_fields (s := s) (env := env)
    obtain ⟨hlow, -, -⟩ := flag_paceShown_flags (s := s) (env := env)
    rw [pacePromise_grid hv hk] at hp hvi hki hlow
    have hv6 := paceV_lt hv
    have hk6 := paceT_lt hk
    exact answers_of run ⟨((fld_paceShown fr rfl (by decide) rfl).trans hp).trans (Nat.mod_mod ..),
      ((fld_paceShown fr rfl (by decide) rfl).trans hvi).trans (Nat.mod_eq_of_lt (show v < 16 by omega)),
      ((fld_paceShown fr rfl (by decide) rfl).trans hki).trans (Nat.mod_eq_of_lt (show k < 16 by omega)), (flag_paceShown fr rfl (by decide) rfl).trans hlow⟩

end Sys2Proof.Proofs

/-! PROOF. A ledger commit writes the numbered records at the next place of the head stook (R274). -/

namespace Sys2Proof.Proofs

open Sys2Proof.Machine Sys2Proof.Machine.Reg Sys2Proof.Laws

/-! Packets that complete leave execution and bring none in. -/

theorem exec_complete (s : State) (e : ExecPkt) (code : Nat) (result : List Byte) (detail : Nat) :
    (s.complete e code result detail).pkt.exec = s.pkt.exec.erase e := by
  have hj : (({ s with pkt := { s.pkt with exec := s.pkt.exec.erase e } } : State).journalled e code).pkt.exec = s.pkt.exec.erase e :=
    (frame_journalled ..).same .exec (by decide)
  have hd : ∀ t : State, (if t.pkt.ringWrites.isEmpty then t else t.ringDrain).pkt.exec = t.pkt.exec := by
    intro t
    split
    · rfl
    · exact (frame_ringDrain t).same .exec (by decide)
  unfold State.complete
  dsimp only
  rw [hd]
  split
  · split <;> exact hj
  · rw [(frame_post ..).same .exec (by decide), hj]

theorem waiting_complete {s : State} {op : Nat} (h : s.waiting op = []) (e : ExecPkt) (code : Nat) (result : List Byte) (detail : Nat) :
    (s.complete e code result detail).waiting op = [] := by
  rw [State.waiting, exec_complete, List.filter_eq_nil_iff]
  exact fun x hx => List.filter_eq_nil_iff.1 h x (List.mem_of_mem_erase hx)

theorem waiting_regionsHeld {s : State} {op : Nat} (h : s.waiting op = []) : s.regionsHeld.waiting op = [] := by
  refine List.foldlRecOn (motive := fun u : State => u.waiting op = []) _ _ h fun u hu e _ => ?_
  dsimp only
  split
  · exact hu
  · have hg : ∀ g : Gln, ({ u with gln := g } : State).waiting op = [] := fun _ => hu
    with_reducible apply waiting_complete
    exact hg _

section
variable {s : State}

/-- With every pending record numbered there is none to number (R440). -/
theorem numberLedger_numbered (h : ∀ e ∈ s.flo.pendingRecs, e.seq ≠ 0) : s.numberLedger = s := by
  have key : ∀ (l out : List LedgerEntry) (n : Nat), (∀ e ∈ l, e.seq ≠ 0) → l.foldl (fun (acc : List LedgerEntry × Nat) e =>
      if e.seq = 0 then (acc.1 ++ [{ e with seq := acc.2 }], acc.2 + 1) else (acc.1 ++ [e], acc.2)) (out, n) = (out ++ l, n) := by
    intro l
    induction l with
    | nil => exact fun out n _ => by rw [List.foldl_nil, List.append_nil]
    | cons e l ih =>
      intro out n hl
      obtain ⟨he, hl⟩ := List.forall_mem_cons.1 hl
      rw [List.foldl_cons, if_neg he, ih _ _ hl, List.append_assoc]
      rfl
  rw [State.numberLedger]
  split
  · rfl
  · have hk := key s.flo.pendingRecs [] s.evr.nextSeq h
    simp only [hk, List.nil_append]

/-- Records that fit into one commit are not cut (R274). -/
theorem commitParts_one {es : List LedgerEntry} (hne : es ≠ []) (h : (es.map (·.slotCount)).sum ≤ 1024) : commitParts es = [es] := by
  induction es with
  | nil => exact absurd rfl hne
  | cons e es ih =>
    rw [List.map_cons, List.sum_cons] at h
    cases es with
    | nil => rfl
    | cons e' es =>
      have ih := ih (by simp) (by omega)
      have hc : commitParts (e :: e' :: es) = match commitParts (e' :: es) with
        | [] => [[e]]
        | p :: ps => if e.slotCount + (p.map (·.slotCount)).sum ≤ 1024 then (e :: p) :: ps else [e] :: p :: ps := rfl
      rw [hc, ih]
      exact if_pos h

/-- The pending records are written as commit `j`. -/
def committed (s : State) (j : Nat) : State :=
  ({ s with
    flo := { s.flo with pendingRecs := s.flo.pendingRecs.filter (fun e => decide (e.seq = 0)) },
    flash := { s.flash with commitLog := s.flash.commitLog ++ [⟨j, s.commitChans j, s.flo.pendingRecs⟩], commits := j + 1 } } : State).setFld
      FLO_LEDGER_INDEX (j + 1)

theorem ledgerIndex_committed {j : Nat} (hlow : j < 1984) : (committed s j).fld FLO_LEDGER_INDEX = j + 1 := by
  rw [committed, fld_setFld_same _ _ (by decide)]
  exact Nat.mod_eq_of_lt (by rw [show (2 ^ FLO_LEDGER_INDEX.w : Nat) = 2048 from rfl]; omega)

/-- The commit of pending records that are all numbered and fit into one commit, with positions left for the next (R274). -/
theorem commitLedger_one {j : Nat} (hne : s.flo.pendingRecs ≠ []) (hseq : ∀ e ∈ s.flo.pendingRecs, e.seq ≠ 0)
    (hfit : (s.flo.pendingRecs.map (·.slotCount)).sum ≤ 1024) (hj : s.commitNext 8 s.flash.commits = j) (hlow : j < 1984) :
    s.commitLedger = (committed s j).confirmRecs s.flo.pendingRecs := by
  have hes : s.flo.pendingRecs.filter (fun e => decide (e.seq ≠ 0)) = s.flo.pendingRecs := List.filter_eq_self.2 fun e he => decide_eq_true (hseq e he)
  have hpos : s.flo.pendingRecs.isEmpty = false := by simpa using hne
  have hidx : ((committed s j).confirmRecs s.flo.pendingRecs).fld FLO_LEDGER_INDEX = j + 1 := by
    rw [(frame_confirmRecs ..).fld _ rfl, ledgerIndex_committed hlow]
  have hw : ({ s with flo := { s.flo with pendingRecs := s.flo.pendingRecs.filter (fun e => decide (e.seq = 0)) } } : State).writeCommit s.flo.pendingRecs =
      committed s j := by
    subst hj
    rfl
  rw [State.commitLedger, numberLedger_numbered hseq]
  dsimp only
  rw [hes, hpos, commitParts_one hne hfit]
  dsimp only [List.foldl_cons, List.foldl_nil]
  refine (if_neg Bool.false_ne_true).trans ((if_neg ?_).trans (congrArg (State.confirmRecs · s.flo.pendingRecs) hw))
  rw [hw, hidx]
  omega

/-- With no staging packet that waits, the pump moves nothing but the staging itself (R248). -/
theorem stagePump_idle (h : s.waiting 0x0C = []) : ∃ p, s.stagePump = { s with pln := p } := by
  unfold State.stagePump
  split
  · exact ⟨s.pln, rfl⟩
  · dsimp only
    split
    · exact ⟨s.pln, rfl⟩
    · rw [h]
      exact ⟨_, rfl⟩

end

/-- Settles O43: the commit itself, and what its confirmation and the packets that waited for it leave alone. -/
theorem ledgerCommits : Obligations.LedgerCommits := by
  refine fun s => ⟨fun h => ?_, fun j h1 h2 h3 h4 hr hne hseq hfit hj hlow hw => ?_⟩
  · refine answers_of (t := s) (show execLedgerCommit s = _ from if_pos ?_) rfl
    rcases h with h | h | h | h | h <;> simp [State.inMode, h]
  · have hin : (s.inMode [.off, .powerUp, .save, .shutDown] || !s.flag FLO_STS_READY) = false := by simp [State.inMode, h1, h2, h3, h4, hr]
    have hc := commitLedger_one hne hseq hfit hj hlow
    have fc := frame_confirmRecs (committed s j) s.flo.pendingRecs
    rw [← hc] at fc
    have fr := frame_regionsHeld s.commitLedger
    have hwait : s.commitLedger.regionsHeld.waiting 0x0C = [] := waiting_regionsHeld (by rw [State.waiting, fc.same .exec (by decide)]; exact hw)
    obtain ⟨p, hp⟩ := stagePump_idle hwait
    have hflash := fr.same .flash (by decide)
    refine answers_of (t := { s.commitLedger.regionsHeld with pln := p }) (show execLedgerCommit s = _ from ?_) ⟨?_, ?_, ?_, ?_, ?_, ?_⟩
    · rw [execLedgerCommit, hin, ← hp]
      rfl
    · exact (congrArg Flash.commitLog hflash).trans (fc.same .commitLog (by decide))
    · exact (congrArg Flash.commits hflash).trans (fc.same .commits (by decide))
    · exact (fr.fld FLO_LEDGER_INDEX rfl).trans ((fc.fld _ rfl).trans (ledgerIndex_committed hlow))
    · exact (congrArg Flash.images hflash).trans (fc.same .images (by decide))
    · exact (fr.same .sys (by decide)).trans (fc.same .sys (by decide))
    · exact (fr.same .dram (by decide)).trans (fc.same .dram (by decide))

end Sys2Proof.Proofs

/-! PROOF. The sideband's common command codes and the test access port (R473, R497). -/

namespace Sys2Proof.Proofs

open Sys2Proof.Machine Sys2Proof.Machine.Reg Sys2Proof.Laws

section
variable {s : State}

/-- An address is assigned, or dropped where it is 0 (R473). -/
theorem sbAddress_assigns (n : Nat) (hn : n < 128) :
    (s.sbAddress n).fld CFG_SB_ADDR_DYN = n ∧ (s.sbAddress n).flag CFG_SB_STS_I2C = decide (n = 0) ∧
    (s.sbAddress n).sb = { s.sb with ptr := 0, latch := [], acked := true, out := [] } ∧
    OnlyFields [CFG_SB_ADDR_DYN, CFG_SB_STS_I2C] { s with sb := (s.sbAddress n).sb } (s.sbAddress n) := by
  refine ⟨?_, ?_, rfl, ?_⟩
  · refine (fld_of_regs rfl _).trans ((fld_setFld_ne _ _ (by decide)).trans ((fld_setFld_same s n (by decide)).trans (Nat.mod_eq_of_lt hn)))
  · exact flag_setFlag_same (s.setFld CFG_SB_ADDR_DYN n) _ (by decide) (by decide)
  · exact onlyFields_setFlag (onlyFields_setFld (onlyFields_refl _ _) _ (by simp)) _ (by simp)

theorem execEntdaa_taken {addr : BitVec 7} (hu : s.sbUp = true) (hd : s.fld CFG_SB_ADDR_DYN = 0) (ha : addr ≠ 0) :
    execEntdaa addr s = .next (s.sbAddress addr.toNat) :=
  if_pos (by simpa [hu, hd] using ha)

theorem execEntdaa_refused {addr : BitVec 7} (h : s.sbUp = false ∨ s.fld CFG_SB_ADDR_DYN ≠ 0 ∨ addr = 0) : execEntdaa addr s = .next (s.sbEnd false []) :=
  if_neg (by rcases h with h | h | h <;> simp [h])

theorem execSetdasa_taken {old addr : BitVec 7} (hu : s.sbUp = true) (hd : s.fld CFG_SB_ADDR_DYN = 0) (ho : old.toNat = s.sbStatic) (ha : addr ≠ 0) :
    execSetdasa old addr s = .next (s.sbAddress addr.toNat) :=
  if_pos (by simpa [hu, hd, ho] using ha)

theorem execSetdasa_refused {old addr : BitVec 7} (h : s.sbUp = false ∨ s.fld CFG_SB_ADDR_DYN ≠ 0 ∨ old.toNat ≠ s.sbStatic ∨ addr = 0) :
    execSetdasa old addr s = .next (s.sbEnd false []) :=
  if_neg (by rcases h with h | h | h | h <;> simp [h])

theorem execSetnewda_taken {old addr : BitVec 7} (hu : s.sbUp = true) (ho : old ≠ 0) (hd : s.fld CFG_SB_ADDR_DYN = old.toNat) (ha : addr ≠ 0) :
    execSetnewda old addr s = .next (s.sbAddress addr.toNat) := by
  have ho : old.toNat ≠ 0 := fun h => ho (BitVec.eq_of_toNat_eq h)
  exact if_pos (by simpa [hu, hd, ho] using ha)

theorem execSetnewda_refused {old addr : BitVec 7} (h : s.sbUp = false ∨ s.fld CFG_SB_ADDR_DYN = 0 ∨ s.fld CFG_SB_ADDR_DYN ≠ old.toNat ∨ addr = 0) :
    execSetnewda old addr s = .next (s.sbEnd false []) :=
  if_neg (by rcases h with h | h | h | h <;> simp [h])

theorem cccGet_up {out : List Byte} (hu : s.sbUp = true) (hd : s.fld CFG_SB_ADDR_DYN ≠ 0) : s.cccGet out = s.sbEnd true out :=
  if_pos (by simp [hu, hd])

theorem cccGet_down {out : List Byte} (h : s.sbUp = false ∨ s.fld CFG_SB_ADDR_DYN = 0) : s.cccGet out = s.sbEnd false [] :=
  if_neg (by rcases h with h | h <;> simp [h])

end

/-- The six bytes of a number that carries 1 above its 32 bits. -/
theorem leBytes_six (w : BitVec 32) : (leBytes 6 (2 ^ 32 + w.toNat)).reverse = [0x00, 0x01] ++ (leBytes 4 w.toNat).reverse := by
  have hw := w.isLt
  have byte : ∀ a b : Nat, a % 256 = b % 256 → BitVec.ofNat 8 a = BitVec.ofNat 8 b := fun a b h => BitVec.eq_of_toNat_eq (by simpa using h)
  have b0 := byte (2 ^ 32 + w.toNat) w.toNat (by omega)
  have b1 := byte ((2 ^ 32 + w.toNat) / 256) (w.toNat / 256) (by omega)
  have b2 := byte ((2 ^ 32 + w.toNat) / 256 / 256) (w.toNat / 256 / 256) (by omega)
  have b3 := byte ((2 ^ 32 + w.toNat) / 256 / 256 / 256) (w.toNat / 256 / 256 / 256) (by omega)
  have b4 : (2 ^ 32 + w.toNat) / 256 / 256 / 256 / 256 = 1 := by omega
  simp only [leBytes, b0, b1, b2, b3, b4]
  rfl

/-- The bits of IDCODE leave least significant first (R497). -/
theorem idcode_bits (i : Nat) (hi : i < 32) : ((List.range 32).map idcodeWord.getLsbD)[i]? = some ((0x29716001#32).getLsbD i) := by
  rw [List.getElem?_map, List.getElem?_range hi]
  rfl

/-- Settles O52, code by code and instruction by instruction. -/
theorem sidebandAndTap : Obligations.SidebandAndTap := by
  intro s addr old w
  refine ⟨fun hu hd ha => ?_, fun h => ?_, fun hu hd ho ha => ?_, fun h => ?_, fun hu ho hd ha => ?_, fun h => ?_, fun hu => ?_, fun hu => ?_,
    fun hu hd => ⟨?_, ?_, ?_, ?_, ?_, ?_⟩, fun h c hc => ?_, ?_, ?_, ?_, ?_, fun x y => ?_, fun hm => ?_, fun hm => ?_⟩
  · exact answers_of (i := .entdaa addr) (execEntdaa_taken hu hd ha) (sbAddress_assigns _ addr.isLt)
  · exact answers_of (i := .entdaa addr) (execEntdaa_refused h) rfl
  · exact answers_of (i := .setdasa old addr) (execSetdasa_taken hu hd ho ha) (sbAddress_assigns _ addr.isLt)
  · exact answers_of (i := .setdasa old addr) (execSetdasa_refused h) rfl
  · exact answers_of (i := .setnewda old addr) (execSetnewda_taken hu ho hd ha) (sbAddress_assigns _ addr.isLt)
  · exact answers_of (i := .setnewda old addr) (execSetnewda_refused h) rfl
  · exact answers_of (i := .rstdaa) (if_pos hu) (sbAddress_assigns 0 (by decide))
  · exact answers_of (i := .rstdaa) (if_neg (by rw [hu]; decide)) rfl
  · refine answers_of (i := .getpid) rfl ?_
    rw [cccGet_up hu hd, leBytes_six]
    rfl
  · exact answers_of (i := .getbcr) rfl (cccGet_up hu hd)
  · exact answers_of (i := .getdcr) rfl (cccGet_up hu hd)
  · exact answers_of (i := .getmwl) rfl (cccGet_up hu hd)
  · exact answers_of (i := .getmrl) rfl (cccGet_up hu hd)
  · refine answers_of (i := .getstatus) rfl ((cccGet_up hu hd).trans ?_)
    simp [State.sbEnd, State.inMode]
  · have down : ∀ {i : Instr} {out : List Byte}, exec i s = .next (s.cccGet out) → Answers i s (fun t => t = { s with sb := { s.sb with acked := false, out := [] } }) :=
      fun he => answers_of he (cccGet_down h)
    simp only [List.mem_cons, List.not_mem_nil, or_false] at hc
    rcases hc with rfl | rfl | rfl | rfl | rfl | rfl <;> exact down rfl
  · exact answers_of (i := .setmwl w) rfl rfl
  · exact answers_of (i := .setmrl w) rfl rfl
  · exact answers_of (i := .bypass) rfl rfl
  · exact answers_of (i := .idcode) rfl ⟨rfl, rfl, rfl, idcode_bits, rfl⟩
  · exact answers_of (i := .samplePreload x y) rfl rfl
  · exact answers_of (i := .extest) (if_neg hm) rfl
  · exact answers_of (i := .extest) (if_pos hm) rfl

end Sys2Proof.Proofs

/-! PROOF. The end of a restore that ends an attach attempt writes a boot anchor, and an anchor log that is full then gives the images new copies (R283): the list of images does not stay as it is. -/

namespace Sys2Proof.Proofs

open Sys2Proof.Machine Sys2Proof.Machine.Reg Sys2Proof.Laws

-- Each kernel evaluation below waits for the checks before it: in order they need no thread each.
set_option Elab.async false

/-- The image that the restore takes, with one anchor copy. -/
def restoredImage : Image := { anchoredAtFive with gen := 0 }

/-- At the end of a restore within an attach attempt, on the smallest geometry, the anchor log has fewer than 32 free positions. -/
def logNearlyFull : State :=
  { (State.reset.setWord 0x2008 0).setFlag DCT_STS_OWNED true with
    sys := { State.reset.sys with mode := .attach, phase := .restore, attempt := true }
    flash := { State.reset.flash with images := [restoredImage], logPos := 4340, boot := some ⟨0, 0, 0, 0, 0, 0, 0, []⟩ } }

/-- Where the copies of the images on flash stand after an outcome. -/
def copiesAfter (o : Host.Outcome State Fault Refusal) : Option (List (List Nat)) :=
  match o with
  | .next t => some (t.flash.images.map (fun i => i.copyAt))
  | _ => none

/-- What the end of a restore makes of each present granule. -/
def restoredGranules (s : State) (bad : List (Word × BitVec 17)) : List (Nat × (SMap (LineData × CheckBytes) × Bool × Bool)) :=
  s.presentGranules.map (fun g => (g, s.restoreGran bad g))

/-- The granules that a restore loses. -/
def lostGranules (s : State) (bad : List (Word × BitVec 17)) : List Nat :=
  ((restoredGranules s bad).filter (fun (e : Nat × (SMap (LineData × CheckBytes) × Bool × Bool)) => e.2.2.1)).map (·.1)

/-- The DRAM and the maps at the end of a restore (R217 to R220). -/
def refilled (s : State) (bad : List (Word × BitVec 17)) (lost : List Nat) : State :=
  let gs := restoredGranules s bad
  let keep := (gs.filter (fun (e : Nat × (SMap (LineData × CheckBytes) × Bool × Bool)) => e.2.2.2)).map (·.1)
  let t := (s.restoreSheaves bad 0 s.per.smap.kv).restoreSheaves bad 1 s.per.cmap.kv
  let okG := fun (c : Nat) (e : MapEntry) => (s.readSheaf (s.restoreMask (4 * c + 3)) bad e.sheaf c).isSome
  { t with dram := ⟨restoredLines (gs.map (fun (e : Nat × (SMap (LineData × CheckBytes) × Bool × Bool)) => e.2.1))⟩,
           per := { t.per with dirty := fmapAll .clean, lastMark := [], confirms := [], flushQ := [], lost := lost.map (fun g => (g, true)),
                               smap := ⟨MapEntry.none, t.per.smap.kv.filter (fun e => keep.contains e.1)⟩,
                               cmap := ⟨MapEntry.none, t.per.cmap.kv.filter (fun e => okG e.1 e.2)⟩ } }

/-- The registers at the end of a restore, and the entry into service. -/
def restoreOver (s : State) (bad : List (Word × BitVec 17)) (i : Image) (n : Nat) (lost : List Nat) : State :=
  let t := (((refilled s bad lost).setFld SAV_RST_DONE (min n 0xFFFFF)).setFld SAV_RST_LOST (min lost.length 0xFFFFF)).showImage i
  let t := if t.sav.older then t.setAllDirty 5 else t
  let t := { t with sav := { t.sav with rstMasks := [] } }
  let t := t.note 0x0061 139 (leBytes 4 i.gen ++ leBytes 4 lost.length ++ leBytes 4 (t.fld SAV_RST_REBUILT))
  let t := ((t.setFlag SAV_STS_RESTORING false).setFld SAV_STS_STAGE 0).setFld SAV_STS_PLAN 0x1F
  ((t.lodgeBad bad).giveDram).enterService

theorem execRestoreDone_of {s : State} {bad : List (Word × BitVec 17)} {i : Image} (hp : s.sys.phase = .restore) (hf : s.flag DCT_STS_OWNED = true)
    (hi : s.flash.images.find? (fun i => decide (i.gen = s.fld SAV_RST_GEN)) = some i) :
    exec (.restoreDone bad) s = .next (restoreOver s bad i (restoredGranules s bad).length (lostGranules s bad)) := by
  change execRestoreDone bad s = _
  unfold execRestoreDone
  rw [hp, hf, hi]
  rfl

/-- Without omitted rows every granule of the geometry is present. -/
theorem length_restoredGranules {s : State} (h : s.flag HBP_GEOM_ROW3Q = false) (bad : List (Word × BitVec 17)) : (restoredGranules s bad).length = s.granuleCount := by
  have hall : s.presentGranules = List.range s.granuleCount := by
    refine List.filter_eq_self.mpr fun g hg => ?_
    rw [State.present, h, decide_eq_true (List.mem_range.mp hg)]
    rfl
  rw [restoredGranules, List.length_map, hall, List.length_range]

/-- An image without granules loses none. -/
theorem lostGranules_empty {s : State} (h : ∀ g, (s.smapOf g).kind = 0) (hl : s.per.lost = []) (bad : List (Word × BitVec 17)) : lostGranules s bad = [] := by
  refine (congrArg _ (List.filter_eq_nil_iff.mpr fun e he => ?_)).trans List.map_nil
  obtain ⟨g, -, rfl⟩ := List.mem_map.mp he
  rw [State.restoreGran, if_pos (h g), hl]
  exact Bool.false_ne_true

theorem logNearlyFull_ends : exec (.restoreDone []) logNearlyFull = .next (restoreOver logNearlyFull [] restoredImage 32768 []) := by
  have hcount : logNearlyFull.granuleCount = 32768 := by decide +kernel
  have hkind : ∀ g, (logNearlyFull.smapOf g).kind = 0 := fun g => by
    rw [State.smapOf]
    split
    · rfl
    · rfl
  rw [execRestoreDone_of (i := restoredImage) rfl (by decide +kernel) (by decide +kernel), length_restoredGranules (by decide +kernel), hcount, lostGranules_empty hkind rfl]

theorem logNearlyFull_rewrites : copiesAfter (exec (.restoreDone []) logNearlyFull) = some [[4352, 4353]] := by
  rw [logNearlyFull_ends]
  decide +kernel

/-- Refutes O29: the clause that the images stay fails where the end of the attach attempt switches the anchor log. -/
theorem not_restoreFillsDram : ¬ Obligations.RestoreFillsDram := by
  intro h
  obtain ⟨-, hdone⟩ := h logNearlyFull []
  obtain ⟨t, ht, -, -, himages, -⟩ := hdone restoredImage rfl (by decide +kernel) (by decide +kernel)
  have hcopies := logNearlyFull_rewrites
  rw [ht, copiesAfter, himages] at hcopies
  exact absurd hcopies (by decide +kernel)

end Sys2Proof.Proofs

/-! PROOF. A set-point change abandons the run of a lull retrain; a state that holds a retrain of a set point that no record has keeps no record of it as STALE. -/

namespace Sys2Proof.Proofs

open Sys2Proof.Machine Sys2Proof.Machine.Reg Sys2Proof.Laws

-- Each kernel evaluation below waits for the checks before it: in order they need no thread each.
set_option Elab.async false

/-- In lull a run is at step 1 for a retrain of set point 8, beyond the eight records. -/
def retrainBeyondRecords : State :=
  { State.reset.setFld TRN_STS_STEP 1 with
    sys := { State.reset.sys with mode := .lull }
    trn := { State.reset.trn with retrain := some 8 } }

/-- The DRAM-side record of set point 8, as a field of the records' word, after an outcome. -/
def recordOfEightAfter (o : Host.Outcome State Fault Refusal) : Option Nat :=
  match o with
  | .next t => some (t.fld (dramRec 8))
  | _ => none

theorem retrainBeyondRecords_unmarked : recordOfEightAfter (exec (.spGo 1) retrainBeyondRecords) = some 0 := by decide +kernel

/-- Refutes O16: an accepted SP_GO makes no record STALE where the retrain in progress is of a set point that has none. -/
theorem not_setPointTraining : ¬ Obligations.SetPointTraining := by
  intro h
  obtain ⟨-, hgo, -⟩ := h retrainBeyondRecords
  obtain ⟨-, -, htaken⟩ := hgo 1 (by decide +kernel)
  obtain ⟨t, ht, -, -, -, -, -, -, -, hstale, -⟩ := htaken (by decide) (.inr (.inr rfl)) (by decide +kernel) (by decide +kernel)
  obtain ⟨-, -, hrecord⟩ := hstale (by decide +kernel)
  have hunmarked := retrainBeyondRecords_unmarked
  rw [ht, recordOfEightAfter] at hunmarked
  have hrecord : t.fld (dramRec 8) = 2 := hrecord
  rw [hrecord] at hunmarked
  exact absurd hunmarked (by decide)

end Sys2Proof.Proofs

/-! PROOF. An unexpected loss of the host clock abandons the run in progress; of a retrain of a set point that no record has, no record is made STALE. -/

namespace Sys2Proof.Proofs

open Sys2Proof.Machine Sys2Proof.Machine.Reg Sys2Proof.Laws

-- Each kernel evaluation below waits for the checks before it: in order they need no thread each.
set_option Elab.async false

/-- In lull, with the host clock present, a run is at step 1 for a retrain of set point 8, beyond the eight records. -/
def clockedRetrainBeyondRecords : State :=
  { retrainBeyondRecords with clk := { retrainBeyondRecords.clk with present := true } }

theorem clockedRetrainBeyondRecords_unmarked : recordOfEightAfter (exec .hostClockLoss clockedRetrainBeyondRecords) = some 0 := by decide +kernel

/-- Refutes O19: an unexpected loss makes no record STALE where the retrain in progress is of a set point that has none. -/
theorem not_hostClock : ¬ Obligations.HostClock := by
  intro h
  obtain ⟨hgone, -⟩ := h
  obtain ⟨-, hpresent, -⟩ := hgone clockedRetrainBeyondRecords
  obtain ⟨-, hlost⟩ := hpresent (by decide) rfl
  obtain ⟨-, hcoasts⟩ := hlost (by decide) (by decide) (by decide)
  obtain ⟨-, hloss⟩ := hcoasts (fun hexpected => absurd hexpected.1 (by decide +kernel))
  obtain ⟨t, ht, -, -, -, -, -, -, -, hstale⟩ := hloss
  obtain ⟨-, -, hrecord⟩ := hstale (by decide +kernel)
  have hunmarked := clockedRetrainBeyondRecords_unmarked
  rw [ht, recordOfEightAfter] at hunmarked
  have hrecord : t.fld (dramRec 8) = 2 := hrecord
  rw [hrecord] at hunmarked
  exact absurd hunmarked (by decide)

end Sys2Proof.Proofs

/-! PROOF. A ledger commit completes every packet that waits for a REGION record (R274). A ring whose depth code is above 4 posts into the slots of the ring above it, so that the status of the one packet can overwrite that of the other. -/

namespace Sys2Proof.Proofs

open Sys2Proof.Machine Sys2Proof.Machine.Reg Sys2Proof.Laws

-- Each kernel evaluation below waits for the checks before it: in order they need no thread each.
set_option Elab.async false

/-- A CAPTURE_DEFINE of ring 1 that defines region 0 over granule 0; its status belongs to slot 16. -/
def defineInHand : ExecPkt := ⟨.ring 1, 0, 1, [4, 0, 0, 0, 0, 0, 0, 0, 0, 0, 0, 0, 0, 0, 0, 0, 1], false, false, 0⟩

/-- A CAPTURE_DEFINE of ring 0 that waits for the record of region 1; with 32 slots to its ring its status goes to slot 16. -/
def defineWaits : ExecPkt := ⟨.ring 0, 16, 1, [4], true, false, 1⟩

/-- In service the two CAPTURE_DEFINEs are in execution, and ring 0 has the depth code 5. -/
def ringsOverlap : State :=
  { ((State.reset.setWord 0x2008 0).setFld SPT_KITE_HOLDER 1).setFlag SPT_HB_A_ALIVE true with
    sys := { State.reset.sys with mode := .service }
    evr := { State.reset.evr with base := some 0, nextSeq := 1 }
    pkt := { State.reset.pkt with exec := [defineInHand, defineWaits], rings := [(0, ⟨true, true, 5, 0, 0, 0, 0, 0⟩)] } }

/-- The status in slot 16 after an outcome. -/
def slotSixteenAfter (o : Host.Outcome State Fault Refusal) : Option (Option SlotBits) :=
  match o with
  | .next t => some (smapFind t.pkt.slots 16)
  | _ => none

theorem ringsOverlap_overwrites : slotSixteenAfter (exec (.captureDefineDefine (.ring 1)) ringsOverlap) =
    some (some (slotOf (statusBytes (execStatus defineWaits stOk (leBytes 8 0) noByte) 0))) := by decide +kernel

theorem statuses_differ : slotOf (statusBytes (execStatus defineInHand stOk (leBytes 8 1) noByte) 0) ≠
    slotOf (statusBytes (execStatus defineWaits stOk (leBytes 8 0) noByte) 0) := by decide +kernel

/-- Refutes O15: the slot of a CAPTURE_DEFINE that the ledger commits at once does not hold its status where a deeper ring's waiting packet completes with the same commit. -/
theorem not_regionAndTimeOpcodes : ¬ Obligations.RegionAndTimeOpcodes := by
  intro h
  obtain ⟨hregion, -⟩ := h
  obtain ⟨hdefine, -⟩ := hregion ringsOverlap (.ring 1) defineInHand
  obtain ⟨htaken, -⟩ := hdefine (by decide +kernel)
  obtain ⟨t, ht, -, -, -, -, -, hdone⟩ := htaken rfl (by decide) rfl rfl (by decide) (by decide) (by decide) (by decide +kernel) (by decide +kernel) (by decide +kernel)
    ⟨by decide, by decide, by decide, rfl⟩ rfl
  obtain ⟨-, hstatus⟩ := hdone
  have hstatus : smapFind t.pkt.slots 16 = some (slotOf (statusBytes (execStatus defineInHand stOk (leBytes 8 1) noByte) 0)) := hstatus rfl (by decide +kernel) rfl
  have hoverwrites := ringsOverlap_overwrites
  rw [ht, slotSixteenAfter, hstatus] at hoverwrites
  exact statuses_differ (Option.some.inj (Option.some.inj hoverwrites))

end Sys2Proof.Proofs

/-! PROOF. A ledger commit completes the packets that wait for a REGION record (R274). Where the packet of a close in flight is itself such a packet, the commit of the chain entry's own records completes it first, and with another status than the entry's. -/

namespace Sys2Proof.Proofs

open Sys2Proof.Machine Sys2Proof.Machine.Reg Sys2Proof.Laws

-- Each kernel evaluation below waits for the checks before it: in order they need no thread each.
set_option Elab.async false

/-- A packet of ring 1 with the opcode of SEAL_OPEN whose own step has begun; its status belongs to slot 16. -/
def sealOpenWaits : ExecPkt := ⟨.ring 1, 0, 7, [5], true, false, 1⟩

/-- In service chain entry 1 is in flight for the close of region 0 by that packet. -/
def closeInFlight : State :=
  { State.reset with
    sys := { State.reset.sys with mode := .service }
    pkt := { State.reset.pkt with exec := [sealOpenWaits] }
    sea := { State.reset.sea with flight := some ⟨1, [], [], .close 0 0 sealOpenWaits⟩ } }

theorem closeInFlight_answersStamp : slotSixteenAfter (exec .sealCommitDone closeInFlight) =
    some (some (slotOf (statusBytes (execStatus sealOpenWaits stOk (leBytes 8 7) noByte) 0))) := by decide +kernel

theorem openStatus_ne_closeStatus : slotOf (statusBytes (execStatus sealOpenWaits stOk (leBytes 6 1 ++ leBytes 2 0 ++ sliceBytes [] 80 8) noByte) 0) ≠
    slotOf (statusBytes (execStatus sealOpenWaits stOk (leBytes 8 7) noByte) 0) := by decide +kernel

/-- Refutes O22: the confirmation of a close's entry does not answer the packet with the entry's number where that packet waits for a REGION record. -/
theorem not_sealChain : ¬ Obligations.SealChain := by
  intro h
  obtain ⟨hchain, -⟩ := h
  obtain ⟨-, -, hcommit, -⟩ := hchain closeInFlight 0
  obtain ⟨t, ht, -, -, -, -, -, -, hdone, -⟩ := hcommit 1 [] [] 0 0 sealOpenWaits rfl (by decide) rfl
  obtain ⟨-, hstatus⟩ := hdone
  have hstatus : smapFind t.pkt.slots 16 = some (slotOf (statusBytes (execStatus sealOpenWaits stOk (leBytes 6 1 ++ leBytes 2 0 ++ sliceBytes [] 80 8) noByte) 0)) :=
    hstatus rfl (by decide +kernel) rfl
  have hstamp := closeInFlight_answersStamp
  rw [ht, slotSixteenAfter, hstatus] at hstamp
  exact openStatus_ne_closeStatus (Option.some.inj (Option.some.inj hstamp))

end Sys2Proof.Proofs

/-! PROOF. A SEAL_OPEN that the ledger commits at once shares its commit with the packets that wait (R274): where a deeper ring posts into its slot, the status of the waiting packet overwrites its own. -/

namespace Sys2Proof.Proofs

open Sys2Proof.Machine Sys2Proof.Machine.Reg Sys2Proof.Laws

-- Each kernel evaluation below waits for the checks before it: in order they need no thread each.
set_option Elab.async false

/-- A SEAL_OPEN of region 0 from ring 1 at stamp 1; its status belongs to slot 16. -/
def sealOpenInHand : ExecPkt := ⟨.ring 1, 0, 1, [5], false, false, 0⟩

/-- A SEAL_OPEN of ring 0 at stamp 7 that waits for the record of region 1; with 32 slots to its ring its status goes to slot 16. -/
def sealOpenWaitsBelow : ExecPkt := ⟨.ring 0, 16, 7, [5], true, false, 1⟩

/-- In service the two SEAL_OPENs are in execution, region 0 captures, and ring 0 has the depth code 5. -/
def sealOpensOverlap : State :=
  { ringsOverlap with
    pkt := { ringsOverlap.pkt with exec := [sealOpenInHand, sealOpenWaitsBelow] }
    gln := { ringsOverlap.gln with regions := [(0, { Region.none with st := .capturing })] } }

theorem sealOpensOverlap_overwrites : slotSixteenAfter (exec (.sealOpen (.ring 1)) sealOpensOverlap) =
    some (some (slotOf (statusBytes (execStatus sealOpenWaitsBelow stOk (leBytes 8 7) noByte) 0))) := by decide +kernel

theorem sealOpenStatuses_differ : slotOf (statusBytes (execStatus sealOpenInHand stOk (leBytes 8 1) noByte) 0) ≠
    slotOf (statusBytes (execStatus sealOpenWaitsBelow stOk (leBytes 8 7) noByte) 0) := by decide +kernel

/-- Refutes O21: the slot of a SEAL_OPEN that the ledger commits at once does not hold its stamp where a deeper ring's waiting packet completes with the same commit. -/
theorem not_sealOpcodes : ¬ Obligations.SealOpcodes := by
  intro h
  obtain ⟨hopen, -⟩ := h sealOpensOverlap (.ring 1) sealOpenInHand
  obtain ⟨-, -, -, -, -, htaken⟩ := hopen (by decide +kernel)
  obtain ⟨t, ht, -, -, -, -, hdone, -⟩ := htaken (by decide +kernel) (by decide) rfl rfl (.inl rfl) ⟨by decide, by decide, by decide, rfl⟩ rfl
  obtain ⟨-, hstatus⟩ := hdone
  have hstatus : smapFind t.pkt.slots 16 = some (slotOf (statusBytes (execStatus sealOpenInHand stOk (leBytes 8 1) noByte) 0)) := hstatus rfl (by decide +kernel) rfl
  have hoverwrites := sealOpensOverlap_overwrites
  rw [ht, slotSixteenAfter, hstatus] at hoverwrites
  exact sealOpenStatuses_differ (Option.some.inj (Option.some.inj hoverwrites))

end Sys2Proof.Proofs

/-! PROOF. A glean sheaf waits while a slot of its granule stands before its own in the list of slots (R169), whatever the numbers of the two. -/

namespace Sys2Proof.Proofs

open Sys2Proof.Machine Sys2Proof.Machine.Reg Sys2Proof.Laws

-- Each kernel evaluation below waits for the checks before it: in order they need no thread each.
set_option Elab.async false

/-- A closed slot of granule 0 with all seventeen ears programmed at sheaf position 0. -/
def slotProgrammed : Slot := ⟨3, 0, [], 0, 0, true, some 0, true, BitVec.allOnes 17, BitVec.allOnes 17, []⟩

/-- In service an open slot of granule 0 with a higher number stands before the programmed one, and a capture whose mark has been applied is in the FIFO. -/
def laterSlotFirst : State :=
  { State.reset with
    sys := { State.reset.sys with mode := .service }
    gln := { State.reset.gln with slots := [{ slotProgrammed with id := 5, closed := false }, slotProgrammed], fifo := [⟨0, 0, 0, 0⟩] } }

/-- The numbers of the slots after an outcome. -/
def slotsAfter (o : Host.Outcome State Fault Refusal) : Option (List Nat) :=
  match o with
  | .next t => some (t.gln.slots.map (fun x => x.id))
  | _ => none

theorem laterSlotFirst_waits : slotsAfter (exec (.gleanSheafProgrammed 3) laterSlotFirst) = some [5, 3] := by decide +kernel

/-- Refutes O23: a closed slot with all its ears programmed and the lowest number of its granule stays where a slot with a higher number stands before it. -/
theorem not_gleaning : ¬ Obligations.Gleaning := by
  intro h
  obtain ⟨-, hslot⟩ := h
  obtain ⟨-, -, hsheaf⟩ := hslot laterSlotFirst slotProgrammed (by decide +kernel)
  obtain ⟨t, ht, -, hgone, -⟩ := hsheaf 0 rfl rfl rfl (by decide) rfl (by decide +kernel) rfl
  have hwaits : slotsAfter (exec (.gleanSheafProgrammed slotProgrammed.id) laterSlotFirst) = some [5, 3] := laterSlotFirst_waits
  rw [ht, slotsAfter, Option.some.injEq] at hwaits
  obtain ⟨y, hy, hid⟩ := List.mem_map.1 (hwaits ▸ (by decide) : 3 ∈ t.gln.slots.map (fun x => x.id))
  exact hgone y hy hid

end Sys2Proof.Proofs

/-! PROOF. A flash repair and a fold copy a sheaf and move the references (R173, R177); the hour's bytes join the wear ration (R178). -/

namespace Sys2Proof.Proofs

open Sys2Proof.Machine Sys2Proof.Machine.Reg Sys2Proof.Laws

section
variable {s : State}

/-- The save map that a state shows of a granule turns on the stored map and on HBP_GEOM. -/
theorem smapOf_of {t : State} (hm : t.per.smap = s.per.smap) (hw : t.word 0x2008 = s.word 0x2008) (g : Nat) : t.smapOf g = s.smapOf g := by
  rw [State.smapOf, State.smapOf, hm, present_of_geom hw]

theorem present_of_smapKind {g : Nat} (h : (s.smapOf g).kind ≠ 0) : s.present g = true := by
  by_contra hp
  rw [State.smapOf, if_neg hp] at h
  exact h rfl

theorem smapOf_setSmap_same {g : Nat} (h : s.present g = true) (e : MapEntry) : (s.setSmap g e).smapOf g = e := by
  have hp : (s.setSmap g e).present g = true := (present_of_geom ((frame_setSmap ..).word _ rfl) g).trans h
  rw [State.smapOf, if_pos hp, State.setSmap, if_neg (by simp [h])]
  exact (fmapGet_set s.per.smap g g e).trans (if_pos rfl)

theorem smapOf_landed (n g : Nat) : (s.landed n).smapOf g = s.smapOf g := smapOf_of rfl rfl g

theorem sheaf_putSheaf (s : State) (a : Nat) (v : Sheaf) : (s.putSheaf a v).sheaf a = some v := smapFind_put_same ..

/-- The seal open over a repaired granule is no longer VERIFIED (R182). -/
def unverified (t : State) (g : Nat) : State :=
  match t.regionOf g with
  | some (r, v) => if v.st = RegionSt.opened ∨ v.st = RegionSt.closing then t.tuneRegion r { v with verified := false } else t
  | none => t

theorem unverified_tunes (t : State) (g : Nat) : unverified t g = t ∨ ∃ r v, unverified t g = t.tuneRegion r v := by
  unfold unverified
  split
  · split
    · exact .inr ⟨_, _, rfl⟩
    · exact .inl rfl
  · exact .inl rfl

theorem frame_unverified (t : State) (g : Nat) : Frame ⟨[.gln], some []⟩ t (unverified t g) := by
  rcases unverified_tunes t g with h | ⟨r, v, h⟩ <;> rw [h]
  · exact .refl _ t
  · exact frame_tuneRegion ..

theorem repair_unverified (t : State) (g : Nat) : (unverified t g).gln.repair = t.gln.repair := by
  rcases unverified_tunes t g with h | ⟨r, v, h⟩
  · exact congrArg (fun u : State => u.gln.repair) h
  · exact (congrArg (fun u : State => u.gln.repair) h).trans rfl

/-- A repair copies the sheaf to the position it has taken (R173). -/
theorem execFlashRepair_copies {g : Fin 0x80000} {old : Sheaf} {a : Nat} {t : State} (hm : s.sys.mode = .service ∨ s.sys.mode = .lull) (hf : s.gleanFenced = false)
    (hen : s.flag GLN_CTL_REPAIR_EN = true) (hd : s.dstate g.val = .clean) (hk : (s.smapOf g.val).kind ≠ 0) (hr : (smapFind s.gln.repair g.val).isSome = true)
    (hq : s.hbp.dirtyQ.any (fun x => decide (x.1 = g.val)) = false) (ho : s.sheaf (s.smapOf g.val).sheaf = some old) (ht : s.takeGlean = some (a, t)) :
    execFlashRepair g s = .next (((unverified (t.gleanSheaf a g.val t.horizon false true old.data []) g.val).setSmap g.val ⟨2, false, 0, a⟩).landed 17) := by
  have hin : s.inMode [.service, .lull] = true := by rcases hm with h | h <;> simp [State.inMode, h]
  have hnone : (smapFind s.gln.repair g.val).isNone = false := by rw [← Option.not_isSome, hr]; rfl
  rw [execFlashRepair]
  dsimp only
  rw [if_neg (by simp [hin, hf, hen, hd, hk, hnone, hq]), ho, ht]
  dsimp only
  generalize t.gleanSheaf a g.val t.horizon false true old.data [] = u
  rfl

/-- A granule whose repair bit lies at or below the stamp of its new sheaf has none (R173). -/
theorem repair_gleanSheaf {a g st o : Nat} {rep : Bool} {data : SMap LineData} {chk : SMap CheckBytes} (h : smapFind s.gln.repair g = some o)
    (ho : o ≤ s.ord st) : smapFind (s.gleanSheaf a g st false rep data chk).gln.repair g = none := by
  have hord : (s.putSheaf a ⟨3, 0, [], 0, [], g, 0, st, s.epoch, granuleDigest data, rep, data, chk⟩).ord st = s.ord st := rfl
  have hfind : smapFind (s.putSheaf a ⟨3, 0, [], 0, [], g, 0, st, s.epoch, granuleDigest data, rep, data, chk⟩).gln.repair g = some o := h
  rw [State.gleanSheaf]
  simp only [hfind, hord, Bool.false_eq_true, if_false, ho, decide_true, if_true]
  exact smapFind_del_same ..

/-- The copy of a folded sheaf stands in the TLC pool, and the granule's entry that named the sheaf names the copy (R177). -/
def folded (t : State) (x : Sheaf) (a b : Nat) : State :=
  let t := t.putSheaf b x
  let e := t.smapOf x.object
  if e.kind ≠ 0 && e.sheaf = a then t.setSmap x.object { e with sheaf := b } else t

/-- The glean unit names the copy of a folded sheaf as the newest where it named the sheaf. -/
def newestMoved (t : State) (x : Sheaf) (a b : Nat) : State :=
  if smapFind t.gln.newest x.object = some a then { t with gln := { t.gln with newest := smapPut t.gln.newest x.object b } } else t

/-- The manifests and the entry in flight name the copy of a folded sheaf (R177, R279). -/
def manifestsMoved (t : State) (x : Sheaf) (a b : Nat) : State :=
  let named := t.flash.chain.any (fun c => !c.released && (t.manifestOf c).any (fun m => decide (m.2 = a)))
  let t := if named then t.manifestUpdate x.object a b else t
  { t with sea := { t.sea with flight := t.sea.flight.map (fun (f : ChainFlight) => { f with manifest := f.manifest.map (fun (m : Nat × Nat) => if m.2 = a then (m.1, b) else m) }) } }

theorem frame_newestMoved (t : State) (x : Sheaf) (a b : Nat) : Frame ⟨[.gln], some []⟩ t (newestMoved t x a b) := by
  rw [newestMoved]
  split
  · exact .lit t (fun p hp => by cases p <;> first | with_reducible rfl | exact absurd (by decide) hp) (.refl _ t)
  · exact .refl _ t

theorem frame_manifestsMoved (t : State) (x : Sheaf) (a b : Nat) :
    Frame ⟨[.sea, .flash, .flo, .fresh, .evr, .slots, .flt], some [EVR_DROP_CRITICAL.addr, EVR_FENCED_CNT.addr]⟩ t (manifestsMoved t x a b) := by
  rw [manifestsMoved]
  refine .lit _ (fun p hp => by cases p <;> first | with_reducible rfl | exact absurd (by decide) hp) ?_
  split
  · exact .step rfl (frame_manifestUpdate ..) (.refl _ t)
  · exact .refl _ t

/-- A fold of the oldest sheaf that a reference still needs (R177). -/
theorem execFoldComplete_moves {w : Word} {x : Sheaf} {b : Nat} {t : State} (hm : s.sys.mode = .service ∨ s.sys.mode = .lull) (hx : s.sheaf w.toNat = some x)
    (hf : s.foldable w.toNat x = true) (hfirst : ∀ e ∈ s.flash.sheaves, s.foldable e.1 e.2 = true → ordOf x.epoch x.stamp ≤ ordOf e.2.epoch e.2.stamp)
    (ht : s.allocTlc = some (b, t)) : execFoldComplete w s = .next (manifestsMoved (newestMoved (folded t x w.toNat b) x w.toNat b) x w.toNat b).refill := by
  have hin : s.inMode [.service, .lull] = true := by rcases hm with h | h <;> simp [State.inMode, h]
  have hall : s.flash.sheaves.all (fun e => !s.foldable e.1 e.2 || decide (ordOf x.epoch x.stamp ≤ ordOf e.2.epoch e.2.stamp)) = true := by
    simp only [List.all_eq_true, Bool.or_eq_true, Bool.not_eq_true', decide_eq_true_eq]
    exact fun e he => (Bool.eq_false_or_eq_true (s.foldable e.1 e.2)).symm.imp_right (hfirst e he)
  rw [execFoldComplete]
  dsimp only
  rw [hx]
  dsimp only
  rw [if_neg (by simp [hin, hf, hall]), ht]
  dsimp only [manifestsMoved, newestMoved, folded]

theorem smapOf_folded (t : State) (x : Sheaf) (a b : Nat) (hk : (t.smapOf x.object).kind ≠ 0) (ha : (t.smapOf x.object).sheaf = a) :
    (folded t x a b).smapOf x.object = { t.smapOf x.object with sheaf := b } := by
  have hsame : (t.putSheaf b x).smapOf x.object = t.smapOf x.object := smapOf_of rfl rfl _
  rw [folded]
  dsimp only
  rw [hsame, if_pos (by simp [hk, ha]), smapOf_setSmap_same (s := t.putSheaf b x) (present_of_smapKind (hsame.symm ▸ hk))]

theorem sheaf_folded (t : State) (x : Sheaf) (a b : Nat) : (folded t x a b).sheaf b = some x := by
  unfold folded
  extract_lets t' e
  split
  · exact (congrArg (fun l => smapFind l b) ((frame_setSmap ..).same .sheaves (by decide))).trans (sheaf_putSheaf t b x)
  · exact sheaf_putSheaf t b x

/-- The hour's bytes have joined the window of the last 24, and the average is shown (R178). -/
def hourTaken (s : State) (hours : List Nat) (avg : Nat) : State :=
  (({ s with gln := { s.gln with hours := hours, hourBytes := 0 } } : State).setFld GLN_RATION_USED_HOURS hours.length).setFld GLN_RATION_USED_AVG (min avg 65535)

theorem execRationHour_takes (h : s.sys.mode ≠ .off) {hours : List Nat} {avg : Nat} (hh : hours = (s.gln.hourBytes :: s.gln.hours).take 24)
    (ha : avg = (hours.sum + 86400 * 1000000 - 1) / (86400 * 1000000)) :
    execRationHour s = .next (if s.fld GLN_RATION_MBS < avg then ((hourTaken s hours avg).setFlag GLN_STS_RATION_OVER true).report .rationExceeded 136 0 0 else hourTaken s hours avg) := by
  have hmbs : (hourTaken s hours avg).fld GLN_RATION_MBS = s.fld GLN_RATION_MBS :=
    (fld_setFld_ne _ _ (by decide)).trans ((fld_setFld_ne _ _ (by decide)).trans (fld_of_regs rfl _))
  rw [execRationHour, if_neg h, ← hmbs]
  subst hh ha
  exact (apply_ite (f := Host.Outcome.next) ..).symm

theorem repair_setSmap (g : Nat) (e : MapEntry) : (s.setSmap g e).gln.repair = s.gln.repair := by
  unfold State.setSmap
  split <;> rfl

theorem sheaf_gleanSheaf (a g st : Nat) (strict rep : Bool) (data : SMap LineData) (chk : SMap CheckBytes) :
    (s.gleanSheaf a g st strict rep data chk).sheaf a = some ⟨3, 0, [], 0, [], g, 0, st, s.epoch, granuleDigest data, rep, data, chk⟩ := sheaf_putSheaf ..

theorem frame_allocTlc {b : Nat} {t : State} (h : s.allocTlc = some (b, t)) : Frame ⟨[.flash], some []⟩ s t := by
  unfold State.allocTlc at h
  split at h
  · cases h
    exact frame_setUsed ..
  · cases h

theorem frame_folded (t : State) (x : Sheaf) (a b : Nat) : Frame ⟨[.per, .gln, .sheaves, .flash], some []⟩ t (folded t x a b) := by
  unfold folded
  extract_lets t' e
  split
  · exact .step rfl (frame_setSmap ..) (.step rfl (frame_putSheaf ..) (.refl _ t))
  · exact .step rfl (frame_putSheaf ..) (.refl _ t)

theorem hourTaken_onlyFields (hours : List Nat) (avg : Nat) :
    OnlyFields [GLN_RATION_USED_HOURS, GLN_RATION_USED_AVG, GLN_STS_RATION_OVER] { s with gln := { s.gln with hours := hours, hourBytes := 0 } } (hourTaken s hours avg) :=
  onlyFields_setFld (onlyFields_setFld (onlyFields_refl _ _) _ (by simp)) _ (by simp)

theorem flag_of_fld {t : State} {f : Fld} (h : t.fld f = s.fld f) : t.flag f = s.flag f := by rw [State.flag, State.flag, h]

/-- The hour joins the window, and an average above the ration is reported (R178). -/
theorem rationHour_averages (hoff : s.sys.mode ≠ .off) {hours : List Nat} {avg : Nat} (hh : hours = (s.gln.hourBytes :: s.gln.hours).take 24)
    (ha : avg = (hours.sum + 86400 * 1000000 - 1) / (86400 * 1000000)) : Answers .rationHour s (fun t =>
      t.gln = { s.gln with hours := hours, hourBytes := 0 } ∧ t.fld GLN_RATION_USED_AVG = min avg 65535 ∧
      (avg ≤ s.fld GLN_RATION_MBS → t.flt = s.flt ∧ t.flag GLN_STS_RATION_OVER = s.flag GLN_STS_RATION_OVER) ∧
      (s.fld GLN_RATION_MBS < avg → t.flag GLN_STS_RATION_OVER = true ∧ t.flt = (s.report .rationExceeded 136 0 0).flt) ∧
      OnlyFields [GLN_RATION_USED_HOURS, GLN_RATION_USED_AVG, GLN_STS_RATION_OVER] { s with gln := t.gln, flt := t.flt } t) := by
  have hrun := execRationHour_takes hoff hh ha
  have honly := hourTaken_onlyFields (s := s) hours avg
  have havg : (hourTaken s hours avg).fld GLN_RATION_USED_AVG = min avg 65535 :=
    (fld_setFld_same _ _ (by decide)).trans (Nat.mod_eq_of_lt (Nat.lt_succ_of_le (Nat.min_le_right ..)))
  by_cases hover : s.fld GLN_RATION_MBS < avg
  · rw [if_pos hover] at hrun
    refine answers_of (i := .rationHour) hrun ⟨rfl, ?_, fun hle => absurd hover (Nat.not_lt.2 hle), fun _ => ⟨?_, rfl⟩, ?_⟩
    · exact (fld_of_regs rfl _).trans ((fld_setFld_ne (hourTaken s hours avg) 1 (by decide)).trans havg)
    · exact (flag_of_fld (fld_of_regs rfl _)).trans (flag_setFlag_same (hourTaken s hours avg) true (by decide) (by decide))
    · exact onlyFields_report (onlyFields_setFlag honly true (by simp)) ..
  · rw [if_neg hover] at hrun
    refine answers_of (i := .rationHour) hrun ⟨rfl, havg, fun _ => ⟨rfl, ?_⟩, fun h => absurd h hover, ?_⟩
    · exact flag_of_fld ((fld_setFld_ne _ _ (by decide)).trans ((fld_setFld_ne _ _ (by decide)).trans (fld_of_regs rfl _)))
    · exact honly

/-- A fold leaves the copy on flash and in the save map. -/
theorem foldComplete_moves {w : Word} {x : Sheaf} {b : Nat} {u : State} (hm : s.sys.mode = .service ∨ s.sys.mode = .lull) (hx : s.sheaf w.toNat = some x)
    (hf : s.foldable w.toNat x = true) (hfirst : ∀ e ∈ s.flash.sheaves, s.foldable e.1 e.2 = true → ordOf x.epoch x.stamp ≤ ordOf e.2.epoch e.2.stamp)
    (htlc : s.allocTlc = some (b, u)) : Answers (.foldComplete w) s (fun t =>
      t.sheaf b = some x ∧
      ((s.smapOf x.object).kind ≠ 0 → (s.smapOf x.object).sheaf = w.toNat → t.smapOf x.object = { s.smapOf x.object with sheaf := b }) ∧
      t.dram = s.dram ∧ t.hbp = s.hbp) := by
  have hu := frame_allocTlc htlc
  have hrun := execFoldComplete_moves hm hx hf hfirst htlc
  have hfold := frame_folded u x w.toNat b
  have hsheaf := sheaf_folded u x w.toNat b
  have hmap := smapOf_folded u x w.toNat b
  have hsame : u.smapOf x.object = s.smapOf x.object := smapOf_of (congrArg Per.smap (hu.same .per (by decide))) (hu.word _ rfl) _
  generalize folded u x w.toNat b = y at hrun hfold hsheaf hmap
  have htail : Frame ⟨[.gln, .sea, .flash, .flo, .fresh, .evr, .slots, .flt], some [GLN_STS_ACTIVE.addr, FLO_STS_DIE_RETIRED.addr, EVR_DROP_CRITICAL.addr, EVR_FENCED_CNT.addr]⟩ y
      (manifestsMoved (newestMoved y x w.toNat b) x w.toNat b).refill :=
    .step rfl (frame_refill ..) (.step rfl (frame_manifestsMoved ..) (.step rfl (frame_newestMoved ..) (.refl _ _)))
  generalize (manifestsMoved (newestMoved y x w.toNat b) x w.toNat b).refill = z at hrun htail
  refine answers_of (i := .foldComplete w) hrun ⟨(congrArg (fun l => smapFind l b) (htail.same .sheaves (by decide))).trans hsheaf, fun hk ha => ?_, ?_, ?_⟩
  · have hz : z.smapOf x.object = y.smapOf x.object := smapOf_of (congrArg Per.smap (htail.same .per (by decide))) (htail.word _ rfl) _
    rw [← hsame] at hk ha ⊢
    exact hz.trans (hmap hk ha)
  · exact (htail.same .dram (by decide)).trans ((hfold.same .dram (by decide)).trans (hu.same .dram (by decide)))
  · exact (htail.same .hbp (by decide)).trans ((hfold.same .hbp (by decide)).trans (hu.same .hbp (by decide)))

end

/-- Settles O24: the repair's and the fold's new references stand under everything that follows them, and the ration compares the average with a register that the window does not touch. -/
theorem repairFoldRation : Obligations.RepairFoldRation := by
  intro s
  refine ⟨fun g hq => ?_, fun g old a u hm hf hen hd hk hrep hq hold htake => ?_, fun w x hx hf => ?_, fun w x b u hm hx hf hfirst htlc => ?_, fun hoff => ?_⟩
  · have hstay : execFlashRepair g s = .next s := by
      rw [execFlashRepair]
      dsimp only
      exact if_pos (by simp [hq])
    exact answers_of (i := .flashRepair g) hstay rfl
  · obtain ⟨o, hfind, hle⟩ := hrep
    have hru := frame_takeGlean htake
    have hord : u.ord u.horizon = s.ord s.horizon := by
      have hepoch : u.epoch = s.epoch := hru.fld EVR_EPOCH rfl
      have hstamp : u.horizon = s.horizon := congrArg Hbp.stamp (hru.same .hbp (by decide))
      rw [State.ord, State.ord, hepoch, hstamp]
    have hnone : smapFind (u.gleanSheaf a g.val u.horizon false true old.data []).gln.repair g.val = none :=
      repair_gleanSheaf ((congrArg (fun r => smapFind r.repair g.val) (hru.same .gln (by decide))).trans hfind) (hle.trans hord.ge)
    have hput := sheaf_gleanSheaf (s := u) a g.val u.horizon false true old.data []
    have hglean := frame_gleanSheaf u a g.val u.horizon false true old.data []
    have hrun := execFlashRepair_copies hm hf hen hd hk (Option.isSome_iff_exists.2 ⟨o, hfind⟩) hq hold htake
    generalize u.gleanSheaf a g.val u.horizon false true old.data [] = v at hnone hput hglean hrun
    have hpresent : (unverified v g.val).present g.val = true :=
      (present_of_geom ((frame_unverified ..).word _ rfl) _).trans ((present_of_geom ((hglean.word _ rfl).trans (hru.word _ rfl)) _).trans (present_of_smapKind hk))
    have htail : Frame ⟨[.per, .gln], some []⟩ v (((unverified v g.val).setSmap g.val ⟨2, false, 0, a⟩).landed 17) :=
      .step rfl (frame_landed ..) (.step rfl (frame_setSmap ..) (.step rfl (frame_unverified ..) (.refl _ v)))
    refine answers_of (i := .flashRepair g) hrun ⟨⟨_, (congrArg (fun l => smapFind l a) (htail.same .sheaves (by decide))).trans hput, rfl, rfl, rfl, rfl⟩,
      (smapOf_landed ..).trans (smapOf_setSmap_same hpresent _), ?_, ?_, ?_⟩
    · exact (congrArg (fun l => smapFind l g.val) ((repair_setSmap ..).trans (repair_unverified ..))).trans hnone
    · exact (htail.same .dram (by decide)).trans ((hglean.same .dram (by decide)).trans (hru.same .dram (by decide)))
    · exact (htail.same .hbp (by decide)).trans ((hglean.same .hbp (by decide)).trans (hru.same .hbp (by decide)))
  · have hstay : execFoldComplete w s = .next s := by
      rw [execFoldComplete]
      dsimp only
      rw [hx]
      exact if_pos (by simp [hf])
    exact answers_of (i := .foldComplete w) hstay rfl
  · exact foldComplete_moves hm hx hf hfirst htlc
  · exact rationHour_averages hoff rfl rfl

end Sys2Proof.Proofs

/-! PROOF. With the last sheaf that is read from the DRAM confirmed, the backside controller brings the DRAM into self-refresh and gives it up (R323), so that the confirmation changes the host buffer path. -/

namespace Sys2Proof.Proofs

open Sys2Proof.Machine Sys2Proof.Machine.Reg Sys2Proof.Laws

-- Each kernel evaluation below waits for the checks before it: in order they need no thread each.
set_option Elab.async false

/-- The position in flight. -/
def firstPosition : SaveFlight := ⟨0, [], 0⟩

/-- A run whose last granule is in flight, with the metadata sheaf behind it. -/
def lastGranule : SaveRun := ⟨4, 50, 0, true, false, 0, [], 0, [.gran 0, .metadata], [], [], 0, [], [], 0, 0, false, [], [], [], true, [], [], some firstPosition, 0, []⟩

/-- A save in which the backside controller owns the DRAM, out of self-refresh. -/
def lastGranuleInFlight : State :=
  { State.reset.setFlag DCT_STS_OWNED true with
    sys := { State.reset.sys with mode := .save }
    sav := { State.reset.sav with run := some lastGranule } }

/-- The ranks in self-refresh after an outcome. -/
def selfRefAfter (o : Host.Outcome State Fault Refusal) : Option (BitVec 4) :=
  match o with
  | .next t => some t.hbp.selfRef
  | _ => none

theorem lastGranuleInFlight_rests : selfRefAfter (exec .saveSheafConfirmed lastGranuleInFlight) = some 15 := by decide +kernel

/-- Refutes O26: the confirmation of the last sheaf read from the DRAM puts the ranks in self-refresh. -/
theorem not_saveSheaves : ¬ Obligations.SaveSheaves := by
  intro h
  obtain ⟨-, hrun⟩ := h lastGranuleInFlight ⟨by decide +kernel, rfl, .inl rfl⟩
  obtain ⟨-, hhanded⟩ := hrun lastGranule rfl
  obtain ⟨-, hconfirmed⟩ := hhanded rfl
  obtain ⟨hgran, -⟩ := hconfirmed firstPosition [.metadata] (.inl rfl)
  obtain ⟨t, ht, -, -, -, hhbp, -⟩ := hgran 0 rfl
  have hrests := lastGranuleInFlight_rests
  rw [ht, selfRefAfter, hhbp] at hrests
  exact absurd hrests (by decide +kernel)

end Sys2Proof.Proofs

/-! PROOF. The entry to off tears the programs that are in execution (R387, Table 10-5): their ears are void, so that the flash array does not stay as it is. -/

namespace Sys2Proof.Proofs

open Sys2Proof.Machine Sys2Proof.Machine.Reg Sys2Proof.Laws

-- Each kernel evaluation below waits for the checks before it: in order they need no thread each.
set_option Elab.async false

/-- The channels with a program in execution on die 0 of channel 0. -/
def programRuns : SMap Chan := [(0, { Chan.reset with dies := [(0, { Die.idle with st := .programming, op := some ⟨[2], false, 0⟩ })] })]

/-- In shut-down one rail of stage 0 is left, with a program in execution. -/
def lastRailDischarges : State :=
  { State.reset with
    sys := { State.reset.sys with mode := .shutDown }
    pwr := { State.reset.pwr with waiting := railBit 0 }
    fce := programRuns }

/-- In a save a program is in execution. -/
def saveProgramRuns : State :=
  { State.reset with
    sys := { State.reset.sys with mode := .save }
    fce := programRuns }

/-- The number of programmed ears after an outcome. -/
def earsAfter (o : Host.Outcome State Fault Refusal) : Option Nat :=
  match o with
  | .next t => some t.flash.ears.length
  | _ => none

theorem lastRailDischarges_tears : earsAfter (exec (.railDischarged 0) lastRailDischarges) = some 1 := by decide +kernel

theorem saveProgramRuns_tears : earsAfter (exec .feedBLow saveProgramRuns) = some 1 := by decide +kernel

/-- Refutes O30: the end of shut-down with a program in execution leaves its ear void on the flash array. -/
theorem not_shutDownStages : ¬ Obligations.ShutDownStages := by
  intro h
  obtain ⟨-, hshut, -⟩ := h lastRailDischarges 0
  obtain ⟨-, -, hoff⟩ := hshut rfl (by decide)
  obtain ⟨t, ht, -, -, -, -, hflash⟩ := hoff (by decide) (by decide +kernel)
  have htears := lastRailDischarges_tears
  rw [ht, earsAfter, hflash] at htears
  exact absurd htears (by decide +kernel)

/-- Refutes O33: a low feed B in a save with a program in execution leaves its ear void on the flash array. -/
theorem not_feeds : ¬ Obligations.Feeds := by
  intro h
  obtain ⟨-, hfeedB⟩ := h
  obtain ⟨-, hlow, -⟩ := hfeedB saveProgramRuns
  obtain ⟨t, ht, -, -, -, -, hflash⟩ := hlow (.inl rfl)
  have htears := saveProgramRuns_tears
  rw [ht, earsAfter, hflash] at htears
  exact absurd htears (by decide +kernel)

end Sys2Proof.Proofs

/-! PROOF. A loss of supply within an attach attempt writes a boot anchor (R252, log entry 46), and an anchor log that is full then gives the images new copies (R283). -/

namespace Sys2Proof.Proofs

open Sys2Proof.Machine Sys2Proof.Machine.Reg Sys2Proof.Laws

-- Each kernel evaluation below waits for the checks before it: in order they need no thread each.
set_option Elab.async false

theorem logNearlyFull_rewritesAtLoss : copiesAfter (exec .supplyLost logNearlyFull) = some [[4352, 4353]] := by decide +kernel

/-- Refutes O32: the clause that the images stay fails where the loss of supply switches the anchor log. -/
theorem not_powerUpAndSupplyLoss : ¬ Obligations.PowerUpAndSupplyLoss := by
  intro h
  obtain ⟨-, hloss⟩ := h
  obtain ⟨-, -, hlost, -⟩ := hloss logNearlyFull
  obtain ⟨t, ht, -, -, -, -, -, himages, -⟩ := hlost (by decide)
  have hcopies := logNearlyFull_rewritesAtLoss
  rw [ht, copiesAfter, himages] at hcopies
  exact absurd hcopies (by decide +kernel)

end Sys2Proof.Proofs

/-! PROOF. A boot whose image cannot be had in either twin fails, and records it; whether an attach attempt is open it leaves as it was. -/

namespace Sys2Proof.Proofs

open Sys2Proof.Machine Sys2Proof.Machine.Reg Sys2Proof.Laws

-- Each kernel evaluation below waits for the checks before it: in order they need no thread each.
set_option Elab.async false

/-- A boot anchor that selects generation 3 of twin A, whose sheaf is nowhere. -/
def anchorWithoutTwin : BootAnchor := ⟨0, 0, 1, 0, 3, 0, 0, [(1, (0, 0, 3, []))]⟩

/-- In power-up the last rail of stage 7 is awaited, with an attach attempt open. -/
def lastRailAwaited : State :=
  { (State.reset.setFld PWR_SEQ_STS_STATE 1).setFld PWR_SEQ_STS_STAGE 7 with
    sys := { State.reset.sys with mode := .powerUp, attempt := true }
    pwr := { State.reset.pwr with en := railBit 16, waiting := railBit 16 }
    flash := { State.reset.flash with anchors := [(anchorWithoutTwin, [0])] } }

/-- A boot that reads every position and every twin sheaf that is there. -/
def bootReadsAll : BootEnv := ⟨0, 0, [], []⟩

/-- Whether an attach attempt is open after an outcome. -/
def attemptAfter (o : Host.Outcome State Fault Refusal) : Option Bool :=
  match o with
  | .next t => some t.sys.attempt
  | _ => none

theorem lastRailAwaited_keepsAttempt : attemptAfter (exec (.railGood 16 bootReadsAll) lastRailAwaited) = some true := by decide +kernel

/-- Refutes O34: a boot that fails leaves an attach attempt open where one was open. -/
theorem not_railsAndBoot : ¬ Obligations.RailsAndBoot := by
  intro h
  obtain ⟨-, hboot⟩ := h
  obtain ⟨-, -, hload⟩ := hboot lastRailAwaited 16 bootReadsAll ⟨by decide, by decide, .inl (by decide), by decide, by decide +kernel⟩ rfl (by decide)
    (by decide +kernel) rfl (by decide +kernel)
  obtain ⟨-, -, hfails⟩ := hload anchorWithoutTwin (by decide +kernel) (by decide)
  obtain ⟨t, ht, -, hattempt, -⟩ := hfails (by decide +kernel) (by decide +kernel)
  have hkeeps := lastRailAwaited_keepsAttempt
  rw [ht, attemptAfter, hattempt] at hkeeps
  exact absurd hkeeps (by decide)

end Sys2Proof.Proofs

/-! PROOF. A generation's ledger record that fills the head ledger stook links the ledger, which writes a boot anchor of its own (R275): a revert then takes two anchor numbers. -/

namespace Sys2Proof.Proofs

open Sys2Proof.Machine Sys2Proof.Machine.Reg Sys2Proof.Laws

-- Each kernel evaluation below waits for the checks before it: in order they need no thread each.
set_option Elab.async false

/-- A boot anchor whose twin A holds generation 4 in slot 0 and generation 3 in slot 1. -/
def anchorWithPrevious : BootAnchor := ⟨0, 0, 1, 0, 4, 0, 0, [(1, (0, 0, 4, [])), (2, (0, 0, 3, []))]⟩

/-- A CONFIG_REVERT of the active generation from ring 0. -/
def revertInHand : ExecPkt := ⟨.ring 0, 0, 1, [0x0E], false, false, 0⟩

/-- In service the revert is in execution, with 2,000 commits in the head ledger stook. -/
def ledgerNearlyFull : State :=
  { (State.reset.setFld SPT_KITE_HOLDER 1).setFlag SPT_HB_A_ALIVE true with
    sys := { State.reset.sys with mode := .service }
    evr := { State.reset.evr with base := some 0, nextSeq := 1 }
    pkt := { State.reset.pkt with exec := [revertInHand] }
    flash := { State.reset.flash with boot := some anchorWithPrevious, twins := [(2, [])], commits := 2000 } }

/-- The number of the boot anchor in force after an outcome. -/
def anchorNumberAfter (o : Host.Outcome State Fault Refusal) : Option (Option Nat) :=
  match o with
  | .next t => some (t.flash.boot.map (fun b => b.no))
  | _ => none

theorem ledgerNearlyFull_links : anchorNumberAfter (exec (.configRevert (.ring 0)) ledgerNearlyFull) = some (some 3) := by decide +kernel

/-- Refutes O39: a revert whose ledger record links the ledger leaves the boot anchor two numbers on. -/
theorem not_generations : ¬ Obligations.Generations := by
  intro h
  obtain ⟨-, -, -, -, -, -, -, hrevert⟩ := h ledgerNearlyFull (.ring 0)
  obtain ⟨-, htaken⟩ := hrevert revertInHand (by decide +kernel) (by decide +kernel) anchorWithPrevious rfl
  obtain ⟨t, ht, hboot, -⟩ := htaken [] (by decide +kernel) (.inl (by decide +kernel)) rfl
  obtain ⟨c, hc, -, -, hno⟩ := hboot
  have hlinks := ledgerNearlyFull_links
  rw [ht, anchorNumberAfter, hc, Option.map_some, hno] at hlinks
  exact absurd hlinks (by decide)

end Sys2Proof.Proofs

/-! PROOF. An erase that is resumed has its start moved by the time for which it was suspended (Table 10-6): more of its die changes than the state. -/

namespace Sys2Proof.Proofs

open Sys2Proof.Machine Sys2Proof.Machine.Reg Sys2Proof.Laws

-- Each kernel evaluation below waits for the checks before it: in order they need no thread each.
set_option Elab.async false

/-- A RESUME descriptor, all of its other fields 0, with its CRC. -/
def resumeDesc : List Byte := 5 :: List.replicate 27 0 ++ leBytes 4 (crc32c (5 :: List.replicate 27 0)).toNat

/-- Die 0 with an erase that was suspended at tick 0 and a RESUME at the head of its high queue. -/
def suspendedDie : Die := { Die.idle with st := .suspended, erase := some ⟨[3], false, 0⟩, hi := [resumeDesc] }

/-- In service, at tick 7, die 0 of channel 0 is suspended. -/
def eraseSuspended : State :=
  { State.reset with
    sys := { State.reset.sys with mode := .service }
    tick := 7
    fce := [(0, { Chan.reset with dies := [(0, suspendedDie)] })]
    flo := { State.reset.flo with dieTable := [(0, (true, []))] } }

/-- The start of the erase on die 0 of channel 0 after an outcome. -/
def eraseStartAfter (o : Host.Outcome State Fault Refusal) : Option (Option Nat) :=
  match o with
  | .next t => some ((t.die 0 0).erase.map (fun r => r.start))
  | _ => none

theorem eraseSuspended_moves : eraseStartAfter (exec (.fceResume 0 0 false) eraseSuspended) = some (some 7) := by decide +kernel

/-- Refutes O41: a RESUME of a suspended erase also moves the start of the erase. -/
theorem not_flashStarts : ¬ Obligations.FlashStarts := by
  intro h
  obtain ⟨hstarts, -⟩ := h
  obtain ⟨-, -, -, -, -, -, -, -, -, -, -, -, -, -, hresume, -⟩ := hstarts eraseSuspended 0 0 false resumeDesc
    ⟨by decide, by decide, by decide +kernel, by decide +kernel, rfl, by decide +kernel, rfl, by decide +kernel, by decide +kernel⟩
  obtain ⟨t, ht, hdie, -⟩ := hresume (by decide +kernel) rfl
  have hmoves := eraseSuspended_moves
  have hdie : t.die 0 0 = { (eraseSuspended.die 0 0).pop false with st := .erasing } := hdie
  rw [ht, eraseStartAfter, hdie] at hmoves
  exact absurd hmoves (by decide +kernel)

end Sys2Proof.Proofs

/-! PROOF. A time-out answers every descriptor that waits on its die (R316): where a SUSPEND stands on a die that reads, it completes as well. -/

namespace Sys2Proof.Proofs

open Sys2Proof.Machine Sys2Proof.Machine.Reg Sys2Proof.Laws

-- Each kernel evaluation below waits for the checks before it: in order they need no thread each.
set_option Elab.async false

/-- A die that reads, with a SUSPEND that waits. -/
def readingDieSuspends : Die := { Die.idle with st := .reading, op := some ⟨[1], false, 0⟩, suspendD := some ⟨[4], false, 0⟩ }

/-- In service die 0 of channel 0 reads. -/
def readTimesOut : State :=
  { State.reset with
    sys := { State.reset.sys with mode := .service }
    fce := [(0, { Chan.reset with dies := [(0, readingDieSuspends)] })] }

/-- The number of completions of channel 0 after an outcome. -/
def completionsAfter (o : Host.Outcome State Fault Refusal) : Option Nat :=
  match o with
  | .next t => some (t.chan 0).cpl.length
  | _ => none

theorem readTimesOut_answersBoth : completionsAfter (exec (.fceTimeout 0 0) readTimesOut) = some 2 := by decide +kernel

/-- Refutes O42: the time-out of a read posts a second completion where a SUSPEND waits on the die. -/
theorem not_flashFinishes : ¬ Obligations.FlashFinishes := by
  intro h
  obtain ⟨hdies, -⟩ := h
  obtain ⟨-, -, -, -, -, -, -, -, -, -, -, -, htimeout, -⟩ := hdies readTimesOut 0 0 ⟨0, false, false, 0, 0, 0, 0, none⟩
  obtain ⟨t, ht, -, -, -, -, hposted, -⟩ := htimeout ⟨[1], false, 0⟩ (.inl rfl) rfl rfl rfl rfl
  obtain ⟨bs, hcpl, hcodes⟩ := hposted
  have hboth := readTimesOut_answersBoth
  have hone : bs.length = 1 := by rw [← List.length_map (f := fun b => leField b 0 1), hcodes]; rfl
  have hcpl : (t.chan 0).cpl = bs := hcpl
  rw [ht, completionsAfter, hcpl, hone] at hboth
  exact absurd hboth (by decide)

end Sys2Proof.Proofs

/-! PROOF. The backside DRAM controller serves its ports by urgency, counts row activations, and refreshes (R325 to R332). -/

namespace Sys2Proof.Proofs

open Sys2Proof.Machine Sys2Proof.Machine.Reg Sys2Proof.Laws

section
variable {s : State}

theorem bestReq_eq_none {l : List BdcReq} (h : s.bestReq l = none) : l = [] := by
  cases l with
  | nil => rfl
  | cons r rs =>
    rw [State.bestReq] at h
    split at h
    · cases h
    · split at h <;> cases h

/-- The request that is granted stands in the list, and none of the list is more urgent (R326). -/
theorem bestReq_most_urgent {l : List BdcReq} : ∀ {r : BdcReq}, s.bestReq l = some r → r ∈ l ∧ ∀ q ∈ l, s.urgency q ≤ s.urgency r := by
  induction l with
  | nil => exact fun h => nomatch h
  | cons x rs ih =>
    intro r h
    rw [State.bestReq] at h
    cases hrs : s.bestReq rs with
    | none =>
      rw [hrs] at h
      obtain rfl : x = r := Option.some.inj h
      simp [bestReq_eq_none hrs]
    | some q =>
      rw [hrs] at h
      obtain ⟨hmem, hmax⟩ := ih hrs
      dsimp only at h
      split at h
      case isTrue hx =>
        obtain rfl : x = r := Option.some.inj h
        have hle : s.urgency q ≤ s.urgency x := by
          simp only [Bool.or_eq_true, Bool.and_eq_true, decide_eq_true_eq] at hx
          omega
        exact ⟨by simp, by simpa using fun y hy => (hmax y hy).trans hle⟩
      case isFalse hx =>
        obtain rfl : q = r := Option.some.inj h
        simp only [Bool.or_eq_true, Bool.and_eq_true, decide_eq_true_eq, not_or] at hx
        exact ⟨by simp [hmem], by simpa using ⟨by omega, hmax⟩⟩

/-- A grant that opens a row counts its activation (R331). -/
theorem countAct_opened {r : BdcReq} (h : smapFind s.bdc.rows (s.maBank r.ma) ≠ some (s.maRow r.ma)) :
    (s.countAct r).bdc.rows = smapPut s.bdc.rows (s.maBank r.ma) (s.maRow r.ma) ∧
    (s.countAct r).bdc.acts = smapPut s.bdc.acts (s.maBank r.ma) ((smapGet (fun _ => (0, 0)) s.bdc.acts (s.maBank r.ma)).1 + 1, r.port) ∧
    (s.countAct r).bdc.reqs = s.bdc.reqs ∧ (s.countAct r).bdc.jobs = s.bdc.jobs := by
  rw [State.countAct, if_neg h]
  dsimp only
  refine ⟨?_, ?_, ?_, ?_⟩ <;>
  · repeat' split
    all_goals rfl

/-- The rows, the activation counts and the requests after a grant (R331). -/
theorem countAct_opens (s : State) (r : BdcReq) : smapFind (s.countAct r).bdc.rows (s.maBank r.ma) = some (s.maRow r.ma) ∧
    (smapFind s.bdc.rows (s.maBank r.ma) ≠ some (s.maRow r.ma) →
      smapFind (s.countAct r).bdc.acts (s.maBank r.ma) = some ((smapGet (fun _ => (0, 0)) s.bdc.acts (s.maBank r.ma)).1 + 1, r.port)) ∧
    (s.countAct r).bdc.reqs = s.bdc.reqs ∧ (s.countAct r).bdc.jobs = s.bdc.jobs := by
  by_cases h : smapFind s.bdc.rows (s.maBank r.ma) = some (s.maRow r.ma)
  · rw [State.countAct, if_pos h]
    exact ⟨h, fun hn => absurd h hn, rfl, rfl⟩
  · obtain ⟨hrows, hacts, hreqs, hjobs⟩ := countAct_opened h
    exact ⟨by rw [hrows]; exact smapFind_put_same .., fun _ => by rw [hacts]; exact smapFind_put_same .., hreqs, hjobs⟩

/-- What a grant does for its requester leaves the rows, the counts and the requests as they are. -/
def SameQueues (s t : State) : Prop := t.bdc.rows = s.bdc.rows ∧ t.bdc.acts = s.bdc.acts ∧ t.bdc.reqs = s.bdc.reqs

theorem sameQueues_hasherLine (s : State) (ma : Nat) : SameQueues s (s.hasherLine ma) := by
  rw [State.hasherLine]
  split <;> exact ⟨rfl, rfl, rfl⟩

theorem sameQueues_scrubLine (s : State) (ma : Nat) : SameQueues s (s.scrubLine ma) := by
  rw [State.scrubLine]
  dsimp only
  split
  · exact ⟨rfl, rfl, rfl⟩
  · refine ⟨?_, ?_, ?_⟩ <;>
    · split
      all_goals split
      all_goals first | rfl | (split <;> rfl)

theorem sameQueues_restoreLine (s : State) (ma : Nat) : SameQueues s (s.restoreLine ma) := by
  rw [State.restoreLine]
  split <;> exact ⟨rfl, rfl, rfl⟩

/-- With every granule under way read through, the harvest mover has no line to take. -/
theorem harvestLine_idle {ma : Nat} (h : ∀ j ∈ s.bdc.jobs, j.read = true) : s.harvestLine ma = s := by
  have : s.bdc.jobs.find? (fun j => !j.read) = none := by
    rw [List.find?_eq_none]
    intro j hj
    simp [h j hj]
  rw [State.harvestLine, this]

/-- What the requester of a granted request does with its line. -/
def served (u : State) (r : BdcReq) : State :=
  if r.port = 17 then u.harvestLine r.ma else if r.port = 18 then u.hasherLine r.ma else if r.port = 19 then u.scrubLine r.ma
  else if r.port < 17 then u.restoreLine r.ma else u

theorem served_frame {r : BdcReq} (h : ∀ j ∈ s.bdc.jobs, j.read = true) :
    SameQueues s (served s r) ∧ Frame ⟨[.bdc, .fresh, .evr], some [DCT_SCRUB_PTR.addr, DCT_SCRUB_CNT_BAD.addr, SAV_STS_ABANDONED.addr, SAV_RST_DONE.addr]⟩ s (served s r) := by
  unfold served
  split
  · rw [harvestLine_idle h]
    exact ⟨⟨rfl, rfl, rfl⟩, .refl _ s⟩
  split
  · exact ⟨sameQueues_hasherLine .., (frame_hasherLine ..).mono rfl⟩
  split
  · exact ⟨sameQueues_scrubLine .., (frame_scrubLine ..).mono rfl⟩
  split
  · exact ⟨sameQueues_restoreLine .., (frame_restoreLine ..).mono rfl⟩
  · exact ⟨⟨rfl, rfl, rfl⟩, .refl _ s⟩

section
variable {port : Fin 21} {line : BitVec 33}

/-- A request joins the others. -/
def asked (s : State) (port : Fin 21) (line : BitVec 33) : State :=
  { s with bdc := { s.bdc with reqs := s.bdc.reqs ++ [⟨port.val, line.toNat * 64, s.tick, false, false⟩] } }

theorem execBdcPortRequest_idle {w : Bool} (h : s.portActive port.val = false) : execBdcPortRequest port line w s = .next s :=
  if_pos (by simp [h])

theorem execBdcPortRequest_waits (h : s.portActive port.val = true) : execBdcPortRequest port line true s = .next (asked s port line) :=
  (if_neg (by simp [h])).trans (if_pos rfl)

theorem execBdcPortRequest_picks (h : s.portActive port.val = true) :
    execBdcPortRequest port line false s = match (asked s port line).bestReq ((asked s port line).bdc.reqs.filter (fun r => !(asked s port line).actHeld r)) with
      | none => .next (asked s port line)
      | some r => .next (served (({ asked s port line with bdc := { (asked s port line).bdc with reqs := (asked s port line).bdc.reqs.erase r } } : State).countAct r) r) :=
  (if_neg (by simp [h])).trans ((if_neg Bool.false_ne_true).trans rfl)

theorem execBdcPortRequest_held (h : s.portActive port.val = true) (hheld : ∀ q ∈ (asked s port line).bdc.reqs, s.actHeld q = true) :
    execBdcPortRequest port line false s = .next (asked s port line) := by
  have hnone : (asked s port line).bdc.reqs.filter (fun r => !(asked s port line).actHeld r) = [] := by
    rw [List.filter_eq_nil_iff]
    intro q hq
    have hsame : (asked s port line).actHeld q = true := hheld q hq
    simp [hsame]
  rw [execBdcPortRequest_picks h, hnone]
  rfl

/-- The most urgent of the requests that no throttle holds is granted (R326). -/
theorem execBdcPortRequest_grants (h : s.portActive port.val = true) (hfree : ∃ q ∈ (asked s port line).bdc.reqs, s.actHeld q = false) :
    ∃ r ∈ (asked s port line).bdc.reqs, s.actHeld r = false ∧
      (∀ q ∈ (asked s port line).bdc.reqs, s.actHeld q = false → s.urgency q ≤ s.urgency r) ∧
      execBdcPortRequest port line false s = .next (served (({ asked s port line with
        bdc := { (asked s port line).bdc with reqs := (asked s port line).bdc.reqs.erase r } } : State).countAct r) r) := by
  rw [execBdcPortRequest_picks h]
  cases hbest : (asked s port line).bestReq ((asked s port line).bdc.reqs.filter (fun r => !(asked s port line).actHeld r)) with
  | none =>
    obtain ⟨q, hq, hqfree⟩ := hfree
    have hsame : (asked s port line).actHeld q = false := hqfree
    have := List.filter_eq_nil_iff.mp (bestReq_eq_none hbest) q hq
    simp [hsame] at this
  | some r =>
    obtain ⟨hr, hmax⟩ := bestReq_most_urgent hbest
    simp only [List.mem_filter, Bool.not_eq_eq_eq_not, Bool.not_true, and_imp] at hr hmax
    exact ⟨r, hr.1, hr.2, hmax, rfl⟩

end

/-! Refreshes (R327, R329). -/

theorem owed_setOwed (s : State) (k n j : Nat) : (s.setOwed k n).owed j = if j = k then n else s.owed j := smapGet_set ..

theorem owed_refreshed (s : State) (k j : Nat) : (s.refreshed k).owed j = s.owed j := rfl

theorem issued_refreshed (s : State) (k : Nat) : (s.refreshed k).fld DCT_CNT_REF_ISSUED = (s.fld DCT_CNT_REF_ISSUED + 1) % 65536 :=
  fld_setFld_same _ _ (by decide)

/-- The interval of a target follows what its last MR4 read asked for (R327). -/
theorem getLsbD_replaceAt (x y : BitVec 4) (k : Fin 4) (j : Nat) :
    ((x &&& ~~~(1#4 <<< k.val)) ||| (y &&& (1#4 <<< k.val))).getLsbD j = if j = k.val then y.getLsbD j else x.getLsbD j := by
  have hbit : (1#4 <<< k.val).getLsbD j = decide (j = k.val) := by
    rw [← BitVec.twoPow_eq, BitVec.getLsbD_twoPow]
    simp [k.isLt, eq_comm]
  rw [BitVec.getLsbD_or, BitVec.getLsbD_and, BitVec.getLsbD_and, BitVec.getLsbD_not, hbit]
  by_cases hj : j = k.val
  · simp [hj]
  · rcases Nat.lt_or_ge j 4 with h | h
    · simp [hj, h]
    · simp [hj, BitVec.getLsbD_of_ge _ _ h]

section
variable {k : Fin 4}

/-- The interval of the target after its boundary, and what DOUBLE_REF shows of it (R327). -/
theorem intervalTaken_shown {t : State} (hd : t.bdc.double = (s.intervalTaken k.val).bdc.double)
    (hf : t.fld DCT_STS_DOUBLE_REF = (s.intervalTaken k.val).fld DCT_STS_DOUBLE_REF) :
    t.bdc.double.getLsbD k.val = s.bdc.doubleNext.getLsbD k.val ∧ (∀ j : Nat, j ≠ k.val → t.bdc.double.getLsbD j = s.bdc.double.getLsbD j) ∧
      t.flag DCT_STS_DOUBLE_REF = decide (t.bdc.double ≠ 0) := by
  have hbits : ∀ j, t.bdc.double.getLsbD j = if j = k.val then s.bdc.doubleNext.getLsbD j else s.bdc.double.getLsbD j := fun j =>
    (congrArg (BitVec.getLsbD · j) hd).trans (getLsbD_replaceAt ..)
  refine ⟨(hbits _).trans (if_pos rfl), fun j hj => (hbits j).trans (if_neg hj), ?_⟩
  rw [flag_of_fld hf, hd]
  exact flag_setFlag_same _ _ (by decide) (by decide)

theorem execRefreshDue_released {p : Bool} (h : s.flag DCT_STS_OWNED = false) : execRefreshDue k p s = .next s := if_pos (by simp [h])

theorem execRefreshDue_planned (h : s.flag DCT_STS_OWNED = true) : execRefreshDue k true s =
    .next (if (s.fld DCT_STS_OWNER = 1 ∨ s.fld DCT_STS_OWNER = 2) ∧ s.owed k.val ≠ 0 then (s.setOwed k.val (s.owed k.val - 1)).refreshed k.val else s) :=
  (if_neg (by simp [h])).trans (if_pos rfl)

/-- The fifth owed refresh is issued at once, and splits a burst (R330). -/
def fifthIssued (s : State) (k port : Nat) (reqs : List BdcReq) : State :=
  let u := (s.setOwed k 5).setOwed k 4
  ((((({ u with bdc := { u.bdc with reqs := reqs } } : State).refreshed k).bump DCT_CNT_REF_SPLITS 1).setFlag DCT_STS_SPLIT true).planDeviation k port)

theorem execRefreshDue_postpones (h : s.flag DCT_STS_OWNED = true) (ho : s.fld DCT_STS_OWNER = 1 ∨ s.fld DCT_STS_OWNER = 2) (hn : s.owed k.val < 4) :
    execRefreshDue k false s = .next ((s.intervalTaken k.val).setOwed k.val (s.owed k.val + 1)) :=
  (if_neg (by simp [h])).trans ((if_neg Bool.false_ne_true).trans ((if_pos ho).trans (if_pos hn)))

theorem execRefreshDue_fifth (h : s.flag DCT_STS_OWNED = true) (ho : s.fld DCT_STS_OWNER = 1 ∨ s.fld DCT_STS_OWNER = 2) (hn : 4 ≤ s.owed k.val) :
    ∃ port reqs, execRefreshDue k false s = .next (fifthIssued (s.intervalTaken k.val) k.val port reqs) :=
  ⟨_, _, (if_neg (by simp [h])).trans ((if_neg Bool.false_ne_true).trans ((if_pos ho).trans ((if_neg (Nat.not_lt.mpr hn)).trans rfl)))⟩

theorem execRefreshDue_issues (h : s.flag DCT_STS_OWNED = true) (h1 : s.fld DCT_STS_OWNER ≠ 1) (h2 : s.fld DCT_STS_OWNER ≠ 2) :
    execRefreshDue k false s = .next ((((s.intervalTaken k.val).setOwed k.val 1).setOwed k.val 0).refreshed k.val) :=
  (if_neg (by simp [h])).trans ((if_neg Bool.false_ne_true).trans (if_neg (by simp [h1, h2])))

theorem double_setOwed (s : State) (k n : Nat) : (s.setOwed k n).bdc.double = s.bdc.double ∧
    (s.setOwed k n).fld DCT_STS_DOUBLE_REF = s.fld DCT_STS_DOUBLE_REF := ⟨rfl, fld_setFld_ne _ _ (by decide)⟩

theorem double_refreshed (s : State) (k : Nat) : (s.refreshed k).bdc.double = s.bdc.double ∧
    (s.refreshed k).fld DCT_STS_DOUBLE_REF = s.fld DCT_STS_DOUBLE_REF := ⟨rfl, fld_setFld_ne _ _ (by decide)⟩

/-- What the fifth refresh leaves of the target's count, of the counter and of the flags. -/
theorem fifthIssued_shows (s : State) (k port : Nat) (reqs : List BdcReq) :
    (∀ j, (fifthIssued s k port reqs).owed j = if j = k then 4 else s.owed j) ∧
    (fifthIssued s k port reqs).fld DCT_CNT_REF_ISSUED = (s.fld DCT_CNT_REF_ISSUED + 1) % 65536 ∧
    (fifthIssued s k port reqs).flag DCT_STS_SPLIT = true ∧ (fifthIssued s k port reqs).dram = s.dram ∧
    (fifthIssued s k port reqs).bdc.double = s.bdc.double ∧ (fifthIssued s k port reqs).fld DCT_STS_DOUBLE_REF = s.fld DCT_STS_DOUBLE_REF := by
  unfold fifthIssued
  have howed : ∀ j, ((s.setOwed k 5).setOwed k 4).owed j = if j = k then 4 else s.owed j := fun j => by
    rw [owed_setOwed, owed_setOwed]
    split <;> rfl
  have hdouble : ((s.setOwed k 5).setOwed k 4).fld DCT_STS_DOUBLE_REF = s.fld DCT_STS_DOUBLE_REF :=
    (double_setOwed ..).2.trans (double_setOwed ..).2
  have hissued : ((s.setOwed k 5).setOwed k 4).fld DCT_CNT_REF_ISSUED = s.fld DCT_CNT_REF_ISSUED :=
    (fld_setFld_ne _ _ (by decide)).trans (fld_setFld_ne _ _ (by decide))
  have hdram : ((s.setOwed k 5).setOwed k 4).dram = s.dram := rfl
  have hbits : ((s.setOwed k 5).setOwed k 4).bdc.double = s.bdc.double := rfl
  generalize (s.setOwed k 5).setOwed k 4 = u at howed hdouble hissued hdram hbits ⊢
  refine ⟨howed, ?_, ?_, hdram, hbits, ?_⟩
  · rw [(frame_planDeviation ..).fld _ rfl, State.setFlag, fld_setFld_ne _ _ (by decide), State.bump, fld_setFld_ne _ _ (by decide), issued_refreshed, ← hissued]
    rfl
  · rw [(frame_planDeviation ..).flag _ rfl]
    exact flag_setFlag_same _ true (by decide) (by decide)
  · rw [(frame_planDeviation ..).fld _ rfl, State.setFlag, fld_setFld_ne _ _ (by decide), State.bump, fld_setFld_ne _ _ (by decide), (double_refreshed ..).2, ← hdouble]
    rfl

end

/-! Late requests (R326). -/

theorem fld_bump_self (s : State) (f : Fld) (n : Nat) (h : f.lo + f.w ≤ 32) : (s.bump f n).fld f = min (s.fld f + n) (2 ^ f.w - 1) := by
  rw [State.bump, fld_setFld_same _ _ h, satAdd]
  exact Nat.mod_eq_of_lt (by have := Nat.two_pow_pos f.w; omega)

/-- The late request is marked, and its class counted; the first of a save is noted. -/
def lateCounted (s : State) (r : BdcReq) : State :=
  let t := { s with bdc := { s.bdc with reqs := s.bdc.reqs.map (fun (x : BdcReq) => if x = r then { x with late := true } else x) } }
  if 17 ≤ r.port then t.bump DCT_CNT_LATE_OTHER 1 else t.bump DCT_CNT_LATE_RT 1

theorem lateCounted_counts (s : State) (r : BdcReq) :
    (lateCounted s r).fld DCT_CNT_LATE_RT = min (s.fld DCT_CNT_LATE_RT + (if r.port < 17 then 1 else 0)) 65535 ∧
    (lateCounted s r).fld DCT_CNT_LATE_OTHER = min (s.fld DCT_CNT_LATE_OTHER + (if r.port < 17 then 0 else 1)) 65535 := by
  have hrt : s.fld DCT_CNT_LATE_RT < 65536 := fld_lt s _
  have hother : s.fld DCT_CNT_LATE_OTHER < 65536 := fld_lt s _
  rw [lateCounted]
  by_cases h : 17 ≤ r.port
  · rw [if_pos h, if_neg (Nat.not_lt.mpr h), if_neg (Nat.not_lt.mpr h)]
    refine ⟨?_, fld_bump_self _ _ _ (by decide)⟩
    rw [State.bump, fld_setFld_ne _ _ (by decide)]
    exact (Nat.min_eq_left (by omega : s.fld DCT_CNT_LATE_RT + 0 ≤ 65535)).symm
  · rw [if_neg h, if_pos (Nat.not_le.mp h), if_pos (Nat.not_le.mp h)]
    refine ⟨fld_bump_self _ _ _ (by decide), ?_⟩
    rw [State.bump, fld_setFld_ne _ _ (by decide)]
    exact (Nat.min_eq_left (by omega : s.fld DCT_CNT_LATE_OTHER + 0 ≤ 65535)).symm

theorem execBdcRequestLate_none (h : s.bdc.reqs.find? (fun r => !r.late && !r.split && decide (s.twoT r.port ≤ s.tick - r.tick)) = none) :
    execBdcRequestLate s = .next s := by
  rw [execBdcRequestLate, h]

section
variable {r : BdcReq}

theorem execBdcRequestLate_counts (h : s.bdc.reqs.find? (fun r => !r.late && !r.split && decide (s.twoT r.port ≤ s.tick - r.tick)) = some r)
    (hr : 17 ≤ r.port ∨ s.sys.mode ≠ .save ∨ s.bdc.lateNoted = true) : execBdcRequestLate s = .next (lateCounted s r) := by
  rw [execBdcRequestLate, h, lateCounted]
  dsimp only
  by_cases hp : 17 ≤ r.port
  · rw [if_pos hp, if_pos hp]
  · rw [if_neg hp, if_neg hp]
    have hmode : (State.bump { s with bdc := { s.bdc with reqs := s.bdc.reqs.map (fun (x : BdcReq) => if x = r then { x with late := true } else x) } } DCT_CNT_LATE_RT 1).sys.mode
      = s.sys.mode := rfl
    have hnoted : (State.bump { s with bdc := { s.bdc with reqs := s.bdc.reqs.map (fun (x : BdcReq) => if x = r then { x with late := true } else x) } } DCT_CNT_LATE_RT 1).bdc.lateNoted
      = s.bdc.lateNoted := rfl
    refine if_neg ?_
    rw [hmode, hnoted]
    rcases hr with hr | hr | hr
    · exact absurd hr hp
    · simp [hr]
    · simp [hr]

/-- The first late real-time request of a save is noted (R326). -/
theorem execBdcRequestLate_notes (h : s.bdc.reqs.find? (fun r => !r.late && !r.split && decide (s.twoT r.port ≤ s.tick - r.tick)) = some r)
    (hr : r.port < 17) (hm : s.sys.mode = .save) (hn : s.bdc.lateNoted = false) :
    ∃ p, execBdcRequestLate s = .next (({ lateCounted s r with bdc := { (lateCounted s r).bdc with lateNoted := true } } : State).note 0x0067 140 p) := by
  refine ⟨leBytes 1 r.port ++ leBytes 1 (((lateCounted s r)).maTarget r.ma % 2), ?_⟩
  rw [execBdcRequestLate, h, lateCounted]
  dsimp only
  rw [if_neg (Nat.not_le.mpr hr), if_neg (Nat.not_le.mpr hr)]
  generalize hu : State.bump { s with bdc := { s.bdc with reqs := s.bdc.reqs.map (fun (x : BdcReq) => if x = r then { x with late := true } else x) } } DCT_CNT_LATE_RT 1 = u
  have hmode : u.sys.mode = .save := by rw [← hu]; exact hm
  have hnoted : u.bdc.lateNoted = false := by rw [← hu]; exact hn
  exact (if_pos (by simp [hmode, hnoted])).trans rfl

end

/-! Row-activation windows (R331, R332). -/

/-- The highest count is not below any of the list. -/
theorem le_topCount (m : SMap (Nat × Nat)) : ∀ e ∈ m, e.2.1 ≤ (topCount m).1 := by
  have rises : ∀ (l : SMap (Nat × Nat)) (a : Nat × Nat × Nat),
      a.1 ≤ (l.foldl (fun acc e => if acc.1 < e.2.1 then (e.2.1, e.1, e.2.2) else acc) a).1 ∧
      ∀ e ∈ l, e.2.1 ≤ (l.foldl (fun acc e => if acc.1 < e.2.1 then (e.2.1, e.1, e.2.2) else acc) a).1 := by
    intro l
    induction l with
    | nil => simp
    | cons x xs ih =>
      intro a
      obtain ⟨hbase, hrest⟩ := ih (if a.1 < x.2.1 then (x.2.1, x.1, x.2.2) else a)
      rw [List.foldl_cons]
      have hstep : a.1 ≤ (if a.1 < x.2.1 then (x.2.1, x.1, x.2.2) else a).1 ∧ x.2.1 ≤ (if a.1 < x.2.1 then (x.2.1, x.1, x.2.2) else a).1 := by
        by_cases hlt : a.1 < x.2.1
        · simp [hlt, hlt.le]
        · simp [hlt, Nat.not_lt.mp hlt]
      refine ⟨hstep.1.trans hbase, fun e he => ?_⟩
      rcases List.mem_cons.mp he with rfl | he
      · exact hstep.2.trans hbase
      · exact hrest e he
  exact (rises m (0, 0, 0)).2

/-- The highest count is one of the list's, or none was counted. -/
theorem topCount_lt {m : SMap (Nat × Nat)} {n : Nat} (hn : 0 < n) (h : ∀ e ∈ m, e.2.1 < n) : (topCount m).1 < n := by
  have stays : ∀ (l : SMap (Nat × Nat)) (a : Nat × Nat × Nat), a.1 < n → (∀ e ∈ l, e.2.1 < n) →
      (l.foldl (fun acc e => if acc.1 < e.2.1 then (e.2.1, e.1, e.2.2) else acc) a).1 < n := by
    intro l
    induction l with
    | nil => exact fun a ha _ => ha
    | cons x xs ih =>
      intro a ha hl
      refine ih _ ?_ fun e he => hl e (List.mem_cons_of_mem _ he)
      dsimp only
      split
      · exact hl x List.mem_cons_self
      · exact ha
  exact stays m _ hn h

section
variable {k : Fin 4} {b : Byte} {a1 a2 : Bool}

/-- The MR4 field of a target. -/
def mr4Fld (k : Fin 4) : Fld := match k with | 0 => DCT_MR4_A0 | 1 => DCT_MR4_A1 | 2 => DCT_MR4_B0 | 3 => DCT_MR4_B1

/-- An MR4 read is kept, with what it asks of the interval from its next boundary (R327). -/
def mr4Kept (s : State) (k : Fin 4) (b : Byte) (above : Bool) : State :=
  ({ s with bdc := { s.bdc with doubleNext := if above then s.bdc.doubleNext ||| (1#4 <<< k.val) else s.bdc.doubleNext &&& ~~~(1#4 <<< k.val) } } : State).setFld (mr4Fld k) b.toNat

theorem execMr4Poll_kept (h : s.flag DCT_STS_OWNED = true) : execMr4Poll k b a1 a2 s =
    .next (if a2 then ((mr4Kept s k b (a1 || a2)).setFlag DCT_STS_HOT true).report .dramHot 140 0 0 else mr4Kept s k b (a1 || a2)) := by
  refine (if_neg (by simp [h])).trans ?_
  match k with
  | 0 => rfl
  | 1 => rfl
  | 2 => rfl
  | 3 => rfl

theorem mr4Fld_ok (k : Fin 4) : (mr4Fld k).lo + (mr4Fld k).w ≤ 32 ∧ (mr4Fld k).w = 8 ∧ (mr4Fld k).addr ≠ DCT_STS_HOT.addr := by
  match k with
  | 0 => decide
  | 1 => decide
  | 2 => decide
  | 3 => decide

/-- What an MR4 read leaves of the fields and of the interval's next value. -/
theorem mr4Kept_shows (s : State) (k : Fin 4) (b : Byte) (above : Bool) :
    (mr4Kept s k b above).fld (mr4Fld k) = b.toNat ∧ (mr4Kept s k b above).bdc.doubleNext.getLsbD k.val = above ∧
    (∀ j : Nat, j ≠ k.val → (mr4Kept s k b above).bdc.doubleNext.getLsbD j = s.bdc.doubleNext.getLsbD j) ∧
    ∀ f, f.addr = DCT_STS_HOT.addr → (mr4Kept s k b above).fld f = s.fld f := by
  obtain ⟨hlo, hw, hne⟩ := mr4Fld_ok k
  have hbits : ∀ j, (mr4Kept s k b above).bdc.doubleNext.getLsbD j = if j = k.val then above else s.bdc.doubleNext.getLsbD j := by
    intro j
    cases above with
    | true =>
      refine (?_ : (s.bdc.doubleNext ||| (1#4 <<< k.val)).getLsbD j = _)
      rw [← BitVec.twoPow_eq, BitVec.getLsbD_or, BitVec.getLsbD_twoPow]
      by_cases hj : j = k.val <;> simp [hj, k.isLt, eq_comm]
    | false =>
      have hclear := getLsbD_replaceAt s.bdc.doubleNext 0#4 k j
      refine (?_ : (s.bdc.doubleNext &&& ~~~(1#4 <<< k.val)).getLsbD j = _)
      simpa using hclear
  refine ⟨?_, (hbits _).trans (if_pos rfl), fun j hj => (hbits j).trans (if_neg hj), fun f hf => ?_⟩
  · rw [mr4Kept, fld_setFld_same _ _ hlo, hw]
    exact Nat.mod_eq_of_lt b.isLt
  · exact fld_setFld_ne _ _ (.inl (hf.trans_ne hne.symm))

end

theorem execRdWindowEnd_keeps (h : s.coreDomains = true) : execRdWindowEnd s =
    .next (((({ s with bdc := { s.bdc with acts := [], throttled := [] } } : State).setFld DCT_RD_INT_MAX (min (topCount s.bdc.acts).1 0xFFFFF)).setFld DCT_RD_INT_PORT
      (topCount s.bdc.acts).2.2).setFlag DCT_STS_THROTTLED false) := (if_neg (by simp [h])).trans rfl

/-- The host's counts in the form that `topCount` reads. -/
def hostCounts (s : State) : SMap (Nat × Nat) := s.bdc.hostActs.map (fun e => (e.1, (e.2, 0)))

/-- The highest host count and its bank stand in the registers, and the counts start anew (R332). -/
def hostWindow (s : State) : State :=
  ((({ s with bdc := { s.bdc with hostActs := [] } } : State).setFld DCT_RD_HOST_MAX (min (topCount (hostCounts s)).1 0xFFFFF)).setFld DCT_RD_HOST_BANK (topCount (hostCounts s)).2.1)

theorem execHostActHigh_keeps (h : s.coreDomains = true) : ∃ p, execHostActHigh s =
    .next (if (hostWindow s).fld DCT_RD_CTL_THRESH ≤ (topCount (hostCounts s)).1 then (hostWindow s).note 0x0069 3 p else hostWindow s) :=
  ⟨_, (if_neg (by simp [h])).trans rfl⟩

end

/-- Ports are served by urgency, and a grant opens its row (R325, R326, R331). -/
theorem bdcPortRequest_serves (s : State) (port : Fin 21) (line : BitVec 33) (hact : s.portActive port.val = true)
    (hfree : ∃ q ∈ (asked s port line).bdc.reqs, s.actHeld q = false) (hjobs : ∀ j ∈ s.bdc.jobs, j.read = true) :
    Answers (.bdcPortRequest port line false) s (fun t =>
        (∃ r ∈ (asked s port line).bdc.reqs, s.actHeld r = false ∧ t.bdc.reqs = (asked s port line).bdc.reqs.erase r ∧
          (∀ q ∈ (asked s port line).bdc.reqs, s.actHeld q = false → s.urgency q ≤ s.urgency r) ∧
          smapFind t.bdc.rows (s.maBank r.ma) = some (s.maRow r.ma) ∧
          (smapFind s.bdc.rows (s.maBank r.ma) ≠ some (s.maRow r.ma) →
            smapFind t.bdc.acts (s.maBank r.ma) = some ((smapGet (fun _ => (0, 0)) s.bdc.acts (s.maBank r.ma)).1 + 1, r.port))) ∧
        t.sys = s.sys ∧ t.dram = s.dram ∧ t.hbp = s.hbp) := by
  obtain ⟨r, hr, hheld, hmax, hrun⟩ := execBdcPortRequest_grants hact hfree
  let u : State := { asked s port line with bdc := { (asked s port line).bdc with reqs := (asked s port line).bdc.reqs.erase r } }
  obtain ⟨hrow, hcount, hreqs, hjobs'⟩ := countAct_opens u r
  have hact' := frame_countAct u r
  obtain ⟨⟨hrows, hacts, hq⟩, hf⟩ := served_frame (s := u.countAct r) (r := r) (by rw [hjobs']; exact hjobs)
  refine answers_of (i := .bdcPortRequest port line false) hrun ⟨⟨r, hr, hheld, hq.trans hreqs, hmax, ?_, fun hne => ?_⟩, ?_, ?_, ?_⟩
  · rw [hrows]; exact hrow
  · rw [hacts]; exact hcount hne
  · exact (hf.same .sys (by decide)).trans (hact'.same .sys (by decide))
  · exact (hf.same .dram (by decide)).trans (hact'.same .dram (by decide))
  · exact (hf.same .hbp (by decide)).trans (hact'.same .hbp (by decide))

/-- The oldest request that passes 2T is marked, counted, and noted as the first of a save (R326). -/
theorem bdcRequestLate_marks (s : State) (r : BdcReq)
    (h : s.bdc.reqs.find? (fun r => !r.late && !r.split && decide (s.twoT r.port ≤ s.tick - r.tick)) = some r) :
    Answers .bdcRequestLate s (fun t =>
      t.bdc.reqs = s.bdc.reqs.map (fun x => if x = r then { x with late := true } else x) ∧
      t.fld DCT_CNT_LATE_RT = min (s.fld DCT_CNT_LATE_RT + (if r.port < 17 then 1 else 0)) 65535 ∧
      t.fld DCT_CNT_LATE_OTHER = min (s.fld DCT_CNT_LATE_OTHER + (if r.port < 17 then 0 else 1)) 65535 ∧
      (r.port < 17 → s.sys.mode = .save → t.bdc.lateNoted = true) ∧
      (17 ≤ r.port ∨ s.sys.mode ≠ .save ∨ s.bdc.lateNoted = true → OnlyFields [DCT_CNT_LATE_RT, DCT_CNT_LATE_OTHER] { s with bdc := { s.bdc with reqs := t.bdc.reqs } } t) ∧
      t.sys = s.sys ∧ t.dram = s.dram ∧ t.hbp = s.hbp) := by
  obtain ⟨hrt, hother⟩ := lateCounted_counts s r
  have hshape : (lateCounted s r).bdc = { s.bdc with reqs := s.bdc.reqs.map (fun x => if x = r then { x with late := true } else x) } ∧
      (lateCounted s r).sys = s.sys ∧ (lateCounted s r).dram = s.dram ∧ (lateCounted s r).hbp = s.hbp := by
    rw [lateCounted]
    dsimp only
    split <;> exact ⟨rfl, rfl, rfl, rfl⟩
  have honly : OnlyFields [DCT_CNT_LATE_RT, DCT_CNT_LATE_OTHER] { s with bdc := { s.bdc with reqs := (lateCounted s r).bdc.reqs } } (lateCounted s r) := by
    rw [hshape.1, lateCounted]
    dsimp only
    split
    · exact onlyFields_bump (onlyFields_refl ..) _ (by simp)
    · exact onlyFields_bump (onlyFields_refl ..) _ (by simp)
  obtain ⟨hbdc, hsys, hdram, hhbp⟩ := hshape
  by_cases hr : 17 ≤ r.port ∨ s.sys.mode ≠ .save ∨ s.bdc.lateNoted = true
  · refine answers_of (i := .bdcRequestLate) (execBdcRequestLate_counts h hr) ?_
    generalize lateCounted s r = t at *
    refine ⟨by rw [hbdc], hrt, hother, fun hp hm => ?_, fun _ => honly, hsys, hdram, hhbp⟩
    rw [hbdc]
    rcases hr with hr | hr | hr
    · exact absurd hr (Nat.not_le.mpr hp)
    · exact absurd hm hr
    · exact hr
  · simp only [not_or, Nat.not_le, ne_eq, not_not, Bool.not_eq_true] at hr
    obtain ⟨hp, hm, hn⟩ := hr
    obtain ⟨p, hrun⟩ := execBdcRequestLate_notes h hp hm hn
    refine answers_of (i := .bdcRequestLate) hrun ?_
    generalize lateCounted s r = t at *
    refine ⟨congrArg Bdc.reqs hbdc, hrt, hother, fun _ _ => rfl, fun hc => ?_, hsys, hdram, hhbp⟩
    rcases hc with hc | hc | hc
    · exact absurd hc (Nat.not_le.mpr hp)
    · exact absurd hm hc
    · exact absurd hc (by simp [hn])

/-- The highest counts of a window are kept, those of the host too (R331, R332). -/
theorem windows_keep (s : State) (h : s.coreDomains = true) :
    Answers .rdWindowEnd s (fun t =>
      t.bdc = { s.bdc with acts := [], throttled := [] } ∧ t.flag DCT_STS_THROTTLED = false ∧
      (∀ e ∈ s.bdc.acts, min e.2.1 0xFFFFF ≤ t.fld DCT_RD_INT_MAX) ∧ OnlyFields [DCT_RD_INT_MAX, DCT_RD_INT_PORT, DCT_STS_THROTTLED] { s with bdc := t.bdc } t) ∧
    Answers .hostActHigh s (fun t =>
      t.bdc = { s.bdc with hostActs := [] } ∧ (∀ e ∈ s.bdc.hostActs, min e.2 0xFFFFF ≤ t.fld DCT_RD_HOST_MAX) ∧ t.sys = s.sys ∧ t.dram = s.dram ∧
      (0 < s.fld DCT_RD_CTL_THRESH → (∀ e ∈ s.bdc.hostActs, e.2 < s.fld DCT_RD_CTL_THRESH) →
        OnlyFields [DCT_RD_HOST_MAX, DCT_RD_HOST_BANK] { s with bdc := t.bdc } t)) := by
  constructor
  · refine answers_of (i := .rdWindowEnd) (execRdWindowEnd_keeps h) ⟨rfl, flag_setFlag_same _ _ (by decide) (by decide), fun e he => ?_, ?_⟩
    · rw [State.setFlag, fld_setFld_ne _ _ (by decide), fld_setFld_ne _ _ (by decide), fld_setFld_same _ _ (by decide)]
      have := le_topCount _ e he
      have hm : min (topCount s.bdc.acts).1 0xFFFFF < 2 ^ DCT_RD_INT_MAX.w := Nat.lt_of_le_of_lt (Nat.min_le_right ..) (by decide)
      rw [Nat.mod_eq_of_lt hm]
      omega
    · exact onlyFields_setFlag (onlyFields_setFld (onlyFields_setFld (onlyFields_refl ..) _ (by simp)) _ (by simp)) _ (by simp)
  · obtain ⟨p, hrun⟩ := execHostActHigh_keeps h
    have hmax : ∀ e ∈ s.bdc.hostActs, min e.2 0xFFFFF ≤ (hostWindow s).fld DCT_RD_HOST_MAX := by
      intro e he
      have hle : e.2 ≤ (topCount (hostCounts s)).1 := le_topCount _ (e.1, (e.2, 0)) (List.mem_map.mpr ⟨e, he, rfl⟩)
      have hm : min (topCount (hostCounts s)).1 0xFFFFF < 2 ^ DCT_RD_HOST_MAX.w := Nat.lt_of_le_of_lt (Nat.min_le_right ..) (by decide)
      rw [hostWindow, fld_setFld_ne _ _ (by decide), fld_setFld_same _ _ (by decide), Nat.mod_eq_of_lt hm]
      omega
    have hthresh : (hostWindow s).fld DCT_RD_CTL_THRESH = s.fld DCT_RD_CTL_THRESH := by
      rw [hostWindow, fld_setFld_ne _ _ (by decide), fld_setFld_ne _ _ (by decide)]
      rfl
    have honly : OnlyFields [DCT_RD_HOST_MAX, DCT_RD_HOST_BANK] { s with bdc := { s.bdc with hostActs := [] } } (hostWindow s) :=
      onlyFields_setFld (onlyFields_setFld (onlyFields_refl ..) _ (by simp)) _ (by simp)
    have hbdc : (hostWindow s).bdc = { s.bdc with hostActs := [] } := rfl
    have hsys : (hostWindow s).sys = s.sys := rfl
    have hdram : (hostWindow s).dram = s.dram := rfl
    rw [hthresh] at hrun
    generalize hostWindow s = u at *
    by_cases hhigh : s.fld DCT_RD_CTL_THRESH ≤ (topCount (hostCounts s)).1
    · rw [if_pos hhigh] at hrun
      refine answers_of (i := .hostActHigh) hrun ⟨hbdc, hmax, hsys, hdram, fun hpos hlow => ?_⟩
      have hlt : (topCount (hostCounts s)).1 < s.fld DCT_RD_CTL_THRESH := by
        refine topCount_lt hpos fun e he => ?_
        obtain ⟨x, hx, rfl⟩ := List.mem_map.mp he
        exact hlow x hx
      omega
    · rw [if_neg hhigh] at hrun
      refine answers_of (i := .hostActHigh) hrun ⟨hbdc, hmax, hsys, hdram, fun _ _ => ?_⟩
      rw [hbdc]
      exact honly

/-- A refresh that falls due moves the target's interval, and is owed or issued (R327, R329). -/
theorem refreshDue_due (s : State) (k : Fin 4) (h : s.flag DCT_STS_OWNED = true) :
    Answers (.refreshDue k false) s (fun t =>
        t.bdc.double.getLsbD k.val = s.bdc.doubleNext.getLsbD k.val ∧ (∀ j : Nat, j ≠ k.val → t.bdc.double.getLsbD j = s.bdc.double.getLsbD j) ∧
        t.flag DCT_STS_DOUBLE_REF = decide (t.bdc.double ≠ 0)) := by
  by_cases ho : s.fld DCT_STS_OWNER = 1 ∨ s.fld DCT_STS_OWNER = 2
  · rcases Nat.lt_or_ge (s.owed k.val) 4 with hn | hn
    · obtain ⟨hd, hf⟩ := double_setOwed (s.intervalTaken k.val) k.val (s.owed k.val + 1)
      exact answers_of (i := .refreshDue k false) (execRefreshDue_postpones h ho hn) (intervalTaken_shown hd hf)
    · obtain ⟨port, reqs, hrun⟩ := execRefreshDue_fifth (k := k) h ho hn
      obtain ⟨-, -, -, -, hd, hf⟩ := fifthIssued_shows (s.intervalTaken k.val) k.val port reqs
      exact answers_of (i := .refreshDue k false) hrun (intervalTaken_shown hd hf)
  · rw [not_or] at ho
    refine answers_of (i := .refreshDue k false) (execRefreshDue_issues h ho.1 ho.2) (intervalTaken_shown ?_ ?_)
    · rfl
    · exact (double_refreshed ..).2.trans ((double_setOwed ..).2.trans (double_setOwed ..).2)

/-- In a save or a restore a refresh is owed up to four times, the fifth is issued at once, and a REFRESH step issues one (R329, R330). -/
theorem refreshDue_owed (s : State) (k : Fin 4) (h : s.flag DCT_STS_OWNED = true) (ho : s.fld DCT_STS_OWNER = 1 ∨ s.fld DCT_STS_OWNER = 2) :
    (s.owed k.val = 0 → Answers (.refreshDue k true) s (fun t => t = s)) ∧
    (0 < s.owed k.val → Answers (.refreshDue k true) s (fun t =>
      t.owed k.val = s.owed k.val - 1 ∧ (∀ j, j ≠ k.val → t.owed j = s.owed j) ∧ t.fld DCT_CNT_REF_ISSUED = (s.fld DCT_CNT_REF_ISSUED + 1) % 65536 ∧ t.dram = s.dram)) ∧
    (s.owed k.val < 4 → Answers (.refreshDue k false) s (fun t =>
      t.owed k.val = s.owed k.val + 1 ∧ (∀ j, j ≠ k.val → t.owed j = s.owed j) ∧ t.fld DCT_CNT_REF_ISSUED = s.fld DCT_CNT_REF_ISSUED ∧ t.dram = s.dram)) ∧
    (4 ≤ s.owed k.val → Answers (.refreshDue k false) s (fun t =>
      t.owed k.val = 4 ∧ (∀ j, j ≠ k.val → t.owed j = s.owed j) ∧ t.fld DCT_CNT_REF_ISSUED = (s.fld DCT_CNT_REF_ISSUED + 1) % 65536 ∧
      t.flag DCT_STS_SPLIT = true ∧ t.dram = s.dram)) := by
  have hinterval : (s.intervalTaken k.val).fld DCT_CNT_REF_ISSUED = s.fld DCT_CNT_REF_ISSUED := (frame_intervalTaken ..).fld _ rfl
  have hstays : ∀ (u : State) n, (u.setOwed k.val n).fld DCT_CNT_REF_ISSUED = u.fld DCT_CNT_REF_ISSUED := fun u n => fld_setFld_ne _ _ (by decide)
  refine ⟨fun hn => ?_, fun hn => ?_, fun hn => ?_, fun hn => ?_⟩
  · refine answers_of (i := .refreshDue k true) (execRefreshDue_planned h) ?_
    rw [if_neg (by simp [hn])]
  · refine answers_of (i := .refreshDue k true) (execRefreshDue_planned h) ?_
    rw [if_pos ⟨ho, by omega⟩]
    refine ⟨?_, fun j hj => ?_, ?_, rfl⟩
    · rw [owed_refreshed, owed_setOwed, if_pos rfl]
    · rw [owed_refreshed, owed_setOwed, if_neg hj]
    · rw [issued_refreshed, hstays]
  · refine answers_of (i := .refreshDue k false) (execRefreshDue_postpones h ho hn) ⟨?_, fun j hj => ?_, (hstays ..).trans hinterval, rfl⟩
    · rw [owed_setOwed, if_pos rfl]
    · rw [owed_setOwed, if_neg hj]
      rfl
  · obtain ⟨port, reqs, hrun⟩ := execRefreshDue_fifth (k := k) h ho hn
    obtain ⟨howed, hissued, hsplit, hdram, -, -⟩ := fifthIssued_shows (s.intervalTaken k.val) k.val port reqs
    refine answers_of (i := .refreshDue k false) hrun ⟨?_, fun j hj => ?_, ?_, hsplit, hdram⟩
    · rw [howed, if_pos rfl]
    · rw [howed, if_neg hj]
      rfl
    · rw [hissued, hinterval]

/-- In harvest and lull retrain a refresh that falls due is issued at once (R329). -/
theorem refreshDue_issued (s : State) (k : Fin 4) (h : s.flag DCT_STS_OWNED = true) (h1 : s.fld DCT_STS_OWNER ≠ 1) (h2 : s.fld DCT_STS_OWNER ≠ 2) :
    Answers (.refreshDue k true) s (fun t => t = s) ∧
    Answers (.refreshDue k false) s (fun t => t.owed k.val = 0 ∧ t.fld DCT_CNT_REF_ISSUED = (s.fld DCT_CNT_REF_ISSUED + 1) % 65536 ∧ t.dram = s.dram) := by
  constructor
  · refine answers_of (i := .refreshDue k true) (execRefreshDue_planned h) ?_
    rw [if_neg (by simp [h1, h2])]
  · refine answers_of (i := .refreshDue k false) (execRefreshDue_issues h h1 h2) ⟨?_, ?_, rfl⟩
    · rw [owed_refreshed, owed_setOwed, if_pos rfl]
    · have hinterval : (s.intervalTaken k.val).fld DCT_CNT_REF_ISSUED = s.fld DCT_CNT_REF_ISSUED := (frame_intervalTaken ..).fld _ rfl
      have hstays : ∀ (u : State) n, (u.setOwed k.val n).fld DCT_CNT_REF_ISSUED = u.fld DCT_CNT_REF_ISSUED := fun u n => fld_setFld_ne _ _ (by decide)
      rw [issued_refreshed, hstays, hstays, hinterval]

/-- An MR4 read is kept, and a need above the double rate sets HOT and is reported (R327, R328). -/
theorem mr4Poll_keeps (s : State) (k : Fin 4) (b : Byte) (a1 a2 : Bool) (h : s.flag DCT_STS_OWNED = true) :
    Answers (.mr4Poll k b a1 a2) s (fun t =>
        t.fld (mr4Fld k) = b.toNat ∧
        t.bdc.doubleNext.getLsbD k.val = (a1 || a2) ∧ (∀ j : Nat, j ≠ k.val → t.bdc.doubleNext.getLsbD j = s.bdc.doubleNext.getLsbD j) ∧
        t.bdc.double = s.bdc.double ∧ t.flag DCT_STS_DOUBLE_REF = s.flag DCT_STS_DOUBLE_REF ∧ t.flag DCT_STS_HOT = (s.flag DCT_STS_HOT || a2) ∧
        t.flt = (if a2 then (s.report .dramHot 140 0 0).flt else s.flt) ∧ t.dram = s.dram ∧ t.hbp = s.hbp) := by
  refine answers_of (i := .mr4Poll k b a1 a2) (execMr4Poll_kept h) ?_
  obtain ⟨hmr4, hnext, hothers, hsts⟩ := mr4Kept_shows s k b (a1 || a2)
  have hne := (mr4Fld_ok k).2.2
  have hshape : (mr4Kept s k b (a1 || a2)).bdc.double = s.bdc.double ∧ (mr4Kept s k b (a1 || a2)).flt = s.flt ∧
      (mr4Kept s k b (a1 || a2)).dram = s.dram ∧ (mr4Kept s k b (a1 || a2)).hbp = s.hbp := ⟨rfl, rfl, rfl, rfl⟩
  obtain ⟨hdouble, hflt, hdram, hhbp⟩ := hshape
  generalize mr4Kept s k b (a1 || a2) = u at *
  cases a2 with
  | false => exact ⟨hmr4, hnext, hothers, hdouble, flag_of_fld (hsts _ rfl), (flag_of_fld (hsts _ rfl)).trans (Bool.or_false _).symm, hflt, hdram, hhbp⟩
  | true =>
    refine ⟨?_, hnext, hothers, hdouble, ?_, ?_, ?_, hdram, hhbp⟩
    · exact (fld_setFld_ne u _ (.inl hne) : (u.setFlag DCT_STS_HOT true).fld (mr4Fld k) = u.fld (mr4Fld k)).trans hmr4
    · exact (flag_setFlag_ne u _ (by decide) : (u.setFlag DCT_STS_HOT true).flag DCT_STS_DOUBLE_REF = u.flag DCT_STS_DOUBLE_REF).trans (flag_of_fld (hsts _ rfl))
    · exact (flag_setFlag_same u true (by decide) (by decide) : (u.setFlag DCT_STS_HOT true).flag DCT_STS_HOT = true).trans (Bool.or_true _).symm
    · have hsame : (u.setFlag DCT_STS_HOT true).flt = s.flt := hflt
      rw [if_pos rfl, if_pos rfl, State.report, State.reportSev, State.report, State.reportSev, hsame]

/-- Settles O44: requests are granted by urgency, refreshes are owed and issued, MR4 reads are kept, and the windows keep the highest counts. -/
theorem bdcServes : Obligations.BdcServes := by
  unfold Obligations.BdcServes
  intro s
  refine ⟨fun port line w h => answers_of (i := .bdcPortRequest port line w) (execBdcPortRequest_idle h) rfl,
    fun port line h => ⟨answers_of (i := .bdcPortRequest port line true) (execBdcPortRequest_waits h) rfl,
      fun hheld => answers_of (i := .bdcPortRequest port line false) (execBdcPortRequest_held h hheld) rfl,
      fun hfree hjobs => bdcPortRequest_serves s port line h hfree hjobs⟩,
    fun h => answers_of (i := .bdcRequestLate) (execBdcRequestLate_none h) rfl,
    fun r h => bdcRequestLate_marks s r h,
    fun k p => ⟨fun h => answers_of (i := .refreshDue k p) (execRefreshDue_released h) rfl, refreshDue_due s k, refreshDue_owed s k, refreshDue_issued s k⟩,
    fun k b a1 a2 => ⟨fun h => answers_of (i := .mr4Poll k b a1 a2) (if_pos (by simp [h])) rfl, mr4Poll_keeps s k b a1 a2⟩,
    fun h => ⟨answers_of (i := .rdWindowEnd) (if_pos (by simp [h])) rfl, answers_of (i := .hostActHigh) (if_pos (by simp [h])) rfl⟩,
    fun h => (windows_keep s h).1, fun h => (windows_keep s h).2⟩

end Sys2Proof.Proofs

/-! PROOF. A granule that leaves FLUSHING loses every harvest job of its own, one that has been read through as well (Table 5-5): where two jobs name one granule, the return of the DRAM drops both. -/

namespace Sys2Proof.Proofs

open Sys2Proof.Machine Sys2Proof.Machine.Reg Sys2Proof.Laws

-- Each kernel evaluation below waits for the checks before it: in order they need no thread each.
set_option Elab.async false

/-- A flush of granule 0 whose read is complete, or not. -/
def flushOfGranule0 (read : Bool) : HarvestJob := ⟨0, false, 0, read, false, [], [], false, none, 0⟩

/-- Harvest holds the DRAM where it may no longer run, with two jobs of a FLUSHING granule 0. -/
def twoJobsOfOneGranule : State :=
  { (State.reset.setFlag DCT_STS_HARVESTING true).setFlag DCT_STS_OWNED true with
    sys := { State.reset.sys with mode := .service }
    per := { State.reset.per with dirty := fmapAll .flushing }
    bdc := { State.reset.bdc with jobs := [flushOfGranule0 true, flushOfGranule0 false] } }

/-- The harvest jobs after an outcome. -/
def jobsAfter (o : Host.Outcome State Fault Refusal) : Option Nat :=
  match o with
  | .next t => some t.bdc.jobs.length
  | _ => none

theorem twoJobsOfOneGranule_dropsBoth : jobsAfter (exec .harvestReturn twoJobsOfOneGranule) = some 0 := by decide +kernel

/-- Refutes O45: the return of the DRAM drops a job that has been read through with another of the same granule. -/
theorem not_harvest : ¬ Obligations.Harvest := by
  intro h
  obtain ⟨-, -, -, -, hreturn, -⟩ := h twoJobsOfOneGranule
  obtain ⟨t, ht, -, -, -, hjobs, -⟩ := hreturn (by decide +kernel) rfl rfl (.inl (by decide +kernel))
  have hnone := twoJobsOfOneGranule_dropsBoth
  rw [ht, jobsAfter, hjobs] at hnone
  exact absurd hnone (by decide +kernel)

end Sys2Proof.Proofs

/-! PROOF. The entry to keeper mode stops a DRAM-side run and writes the lines under its pattern back (R144, R434), so that CORES_LOST in service changes the DRAM where such lines are held. -/

namespace Sys2Proof.Proofs

open Sys2Proof.Machine Sys2Proof.Machine.Reg Sys2Proof.Laws

-- Each kernel evaluation below waits for the checks before it: in order they need no thread each.
set_option Elab.async false

/-- In service line 0 is kept from under a training pattern. -/
def lineUnderPattern : State :=
  { State.reset with
    sys := { State.reset.sys with mode := .service }
    trn := { State.reset.trn with area := [(0, (1, 0))] } }

/-- CORES_LOST from the safety partition. -/
def bothCoresLost : FaultMsg := ⟨0, .coresLost, .critical, 0, 0, false⟩

/-- Line 0 of the DRAM after an outcome. -/
def lineZeroAfter (o : Host.Outcome State Fault Refusal) : Option (LineData × CheckBytes) :=
  match o with
  | .next t => some (t.line 0)
  | _ => none

theorem lineUnderPattern_returns : lineZeroAfter (exec (.faultMessageArrival (some bothCoresLost) .retried) lineUnderPattern) = some (1, 0) := by decide +kernel

/-- Refutes O46: CORES_LOST in service puts the lines under a training pattern back into the DRAM. -/
theorem not_faultMessages : ¬ Obligations.FaultMessages := by
  intro h
  obtain ⟨-, -, -, hlost, -⟩ := h lineUnderPattern .retried
  obtain ⟨t, ht, -, -, -, hdram⟩ := hlost bothCoresLost rfl rfl rfl (by decide +kernel) rfl rfl
  have hback := lineUnderPattern_returns
  rw [ht, lineZeroAfter, State.line, hdram] at hback
  exact absurd hback (by decide +kernel)

end Sys2Proof.Proofs

/-! PROOF. The kite and the control cores: heartbeats, leases, the judgement of a dead core, and the switch-over (R18, R131, R426 to R431). -/

namespace Sys2Proof.Proofs

open Sys2Proof.Machine Sys2Proof.Machine.Reg Sys2Proof.Laws

section
variable {s : State} {c : CoreId}

theorem report_flt_of {t : State} (h : t.flt = s.flt) (k : FaultKind) (a q w : Nat) : (t.report k a q w).flt = (s.report k a q w).flt := by
  rw [State.report, State.reportSev, State.report, State.reportSev, h]

theorem holder_of {t : State} (h : t.fld SPT_KITE_HOLDER = s.fld SPT_KITE_HOLDER) : t.holder = s.holder := by
  rw [State.holder, State.holder, h]

theorem otherCore_ne (c : CoreId) : otherCore c ≠ c := by cases c <;> decide

theorem otherCore_otherCore (c : CoreId) : otherCore (otherCore c) = c := by cases c <;> rfl

/-! Heartbeats (R426, R428). -/

/-- The core's heartbeat counts: its age starts anew, it is alive, and a starting core becomes a standby. -/
def heard (s : State) (c : CoreId) : State :=
  let t := (s.setFld (coreAgeFld c) 0).setFlag (coreAliveFld c) true
  if t.fld (coreStateFld c) = 1 then t.setFld (coreStateFld c) 3 else t

theorem fld_state_beat (s : State) (c : CoreId) : ((s.setFld (coreAgeFld c) 0).setFlag (coreAliveFld c) true).fld (coreStateFld c) = s.fld (coreStateFld c) := by
  rw [State.setFlag, fld_setFld_ne _ _ (by cases c <;> decide), fld_setFld_ne _ _ (by cases c <;> decide)]

theorem heard_shows (s : State) (c : CoreId) : (heard s c).fld (coreAgeFld c) = 0 ∧ (heard s c).flag (coreAliveFld c) = true ∧
    (heard s c).fld (coreStateFld c) = (if s.fld (coreStateFld c) = 1 then 3 else s.fld (coreStateFld c)) ∧
    OnlyFields [coreAgeFld c, coreAliveFld c, coreStateFld c] s (heard s c) := by
  have hbeat : OnlyFields [coreAgeFld c, coreAliveFld c, coreStateFld c] s ((s.setFld (coreAgeFld c) 0).setFlag (coreAliveFld c) true) :=
    onlyFields_setFlag (onlyFields_setFld (onlyFields_refl ..) _ (by simp)) _ (by simp)
  have hage : ((s.setFld (coreAgeFld c) 0).setFlag (coreAliveFld c) true).fld (coreAgeFld c) = 0 := by
    rw [State.setFlag, fld_setFld_ne _ _ (by cases c <;> decide), fld_setFld_same _ _ (by cases c <;> decide)]
    exact Nat.zero_mod _
  have halive : ((s.setFld (coreAgeFld c) 0).setFlag (coreAliveFld c) true).flag (coreAliveFld c) = true :=
    flag_setFlag_same _ _ (by cases c <;> decide) (by cases c <;> decide)
  unfold heard
  dsimp only
  rw [fld_state_beat]
  by_cases h : s.fld (coreStateFld c) = 1
  · rw [if_pos h, if_pos h]
    refine ⟨?_, ?_, ?_, onlyFields_setFld hbeat _ (by simp)⟩
    · rw [fld_setFld_ne _ _ (by cases c <;> decide), hage]
    · rw [flag_of_fld (fld_setFld_ne _ _ (by cases c <;> decide)), halive]
    · rw [fld_setFld_same _ _ (by cases c <;> decide)]
      cases c <;> rfl
  · rw [if_neg h, if_neg h]
    exact ⟨hage, halive, fld_state_beat s c, hbeat⟩

/-- The kite, the fault collector, the mode and the DRAM of two states are the same. -/
def SameKite (s t : State) : Prop := t.kite = s.kite ∧ t.flt = s.flt ∧ t.sys = s.sys ∧ t.dram = s.dram

theorem sameKite_setFld (s : State) (f : Fld) (v : Nat) : SameKite s (s.setFld f v) := ⟨rfl, rfl, rfl, rfl⟩

theorem SameKite.trans {t u : State} (h : SameKite s t) (h' : SameKite t u) : SameKite s u := by
  obtain ⟨hkite, hflt, hsys, hdram⟩ := h
  obtain ⟨hkite', hflt', hsys', hdram'⟩ := h'
  exact ⟨hkite'.trans hkite, hflt'.trans hflt, hsys'.trans hsys, hdram'.trans hdram⟩

/-- A heartbeat leaves the kite as it is. -/
theorem heard_keeps (s : State) (c : CoreId) : (heard s c).kite = s.kite ∧ (heard s c).flt = s.flt ∧ (heard s c).sys = s.sys ∧ (heard s c).dram = s.dram ∧
    (∀ f : Fld, f.addr = SPT_KITE_HOLDER.addr → (heard s c).fld f = s.fld f) ∧ (heard s c).fld (coreStateFld (otherCore c)) = s.fld (coreStateFld (otherCore c)) := by
  have hout : ∀ f : Fld, f.addr = SPT_KITE_HOLDER.addr → f.addr ≠ (coreAgeFld c).addr ∧ f.addr ≠ (coreAliveFld c).addr ∧ f.addr ≠ (coreStateFld c).addr := fun f hf => by
    rw [hf]
    cases c <;> decide
  have hbeat : SameKite s ((s.setFld (coreAgeFld c) 0).setFlag (coreAliveFld c) true) := (sameKite_setFld ..).trans (sameKite_setFld ..)
  have hfld : ∀ f : Fld, f.addr = SPT_KITE_HOLDER.addr → ((s.setFld (coreAgeFld c) 0).setFlag (coreAliveFld c) true).fld f = s.fld f := fun f hf => by
    obtain ⟨hage, halive, -⟩ := hout f hf
    rw [State.setFlag, fld_setFld_ne _ _ (.inl halive), fld_setFld_ne _ _ (.inl hage)]
  have hother : ((s.setFld (coreAgeFld c) 0).setFlag (coreAliveFld c) true).fld (coreStateFld (otherCore c)) = s.fld (coreStateFld (otherCore c)) := by
    rw [State.setFlag, fld_setFld_ne _ _ (by cases c <;> decide), fld_setFld_ne _ _ (by cases c <;> decide)]
  unfold heard
  generalize (s.setFld (coreAgeFld c) 0).setFlag (coreAliveFld c) true = u at *
  dsimp only
  split
  · obtain ⟨hkite, hflt, hsys, hdram⟩ := hbeat.trans (sameKite_setFld u (coreStateFld c) 3)
    refine ⟨hkite, hflt, hsys, hdram, fun f hf => ?_, ?_⟩
    · rw [fld_setFld_ne _ _ (.inl (hout f hf).2.2), hfld f hf]
    · rw [fld_setFld_ne _ _ (by cases c <;> decide), hother]
  · obtain ⟨hkite, hflt, hsys, hdram⟩ := hbeat
    exact ⟨hkite, hflt, hsys, hdram, hfld, hother⟩

theorem execCoreHb_runs (hm : s.sys.mode ≠ .off) (hr : s.coreRuns c = true) : execCoreHb c s =
    if (heard s c).holder = some c && (heard s c).kite.request.isSome then
      .next ((((({ heard s c with kite := { (heard s c).kite with request := none } } : State).setFlag SPT_KITE_LINK_DOWN true).coldStandby).report .linkDown (coreSource (otherCore c)) 0 0))
    else if (heard s c).kite.holderDead && (heard s c).holder = some (otherCore c) && (heard s c).fld SPT_KITE_LEASE_LEFT = 0 then .next ((heard s c).switchOver c)
    else .next (heard s c) := by
  unfold execCoreHb heard
  dsimp only
  exact if_neg (by simp [hm, hr])

/-! The switch-over (R427, R428, Table 14-8). -/

/-- The kite as a core is granted it. -/
def granted (s : State) (c : CoreId) : State :=
  (({ (((s.setFld SPT_KITE_HOLDER (coreCode c)).setFld SPT_KITE_LEASE_LEFT 200).bump SPT_KITE_GRANTS 1) with
    kite := { s.kite with request := none, holderDead := false, journal := [] } } : State).setFld (coreStateFld c) 2).setFlag (coreColdFld c) false

theorem grantKite_eq (s : State) (c : CoreId) : s.grantKite c = granted s c := by cases c <;> rfl

theorem fld_withKite (s : State) (k : Kite) (f : Fld) : ({ s with kite := k } : State).fld f = s.fld f := rfl

/-- The registers and the kite once it is granted (R427, R430). -/
theorem grantKite_shows (s : State) (c : CoreId) : (s.grantKite c).holder = some c ∧ (s.grantKite c).fld SPT_KITE_LEASE_LEFT = 200 ∧
    (s.grantKite c).fld (coreStateFld c) = 2 ∧ (∀ f ∈ [coreStateFld (otherCore c), coreAliveFld (otherCore c), CORE_CNT_SWITCH], (s.grantKite c).fld f = s.fld f) ∧
    (s.grantKite c).kite.request = none ∧ (s.grantKite c).kite.holderDead = false := by
  rw [grantKite_eq]
  refine ⟨?_, ?_, ?_, fun f hf => ?_, rfl, rfl⟩
  · have hcode : (granted s c).fld SPT_KITE_HOLDER = coreCode c := by
      rw [granted, State.setFlag, fld_setFld_ne _ _ (by cases c <;> decide), fld_setFld_ne _ _ (by cases c <;> decide), fld_withKite, State.bump,
        fld_setFld_ne _ _ (by decide), fld_setFld_ne _ _ (by decide), fld_setFld_same _ _ (by decide)]
      cases c <;> rfl
    rw [State.holder, hcode]
    cases c <;> rfl
  · rw [granted, State.setFlag, fld_setFld_ne _ _ (by cases c <;> decide), fld_setFld_ne _ _ (by cases c <;> decide), fld_withKite, State.bump,
      fld_setFld_ne _ _ (by decide), fld_setFld_same _ _ (by decide)]
    rfl
  · rw [granted, State.setFlag, fld_setFld_ne _ _ (by cases c <;> decide), fld_setFld_same _ _ (by cases c <;> decide)]
    cases c <;> rfl
  · have hout : f.addr ≠ SPT_KITE_HOLDER.addr ∧ (f.addr ≠ (coreStateFld c).addr ∨ f.lo + f.w ≤ (coreStateFld c).lo ∨ (coreStateFld c).lo + (coreStateFld c).w ≤ f.lo) := by
      simp only [List.mem_cons, List.not_mem_nil, or_false] at hf
      rcases hf with rfl | rfl | rfl <;> cases c <;> decide
    obtain ⟨hkite, hstate⟩ := hout
    have hcold : f.addr ≠ (coreColdFld c).addr := by cases c <;> exact hkite
    rw [granted, State.setFlag, fld_setFld_ne _ _ (.inl hcold), fld_setFld_ne _ _ hstate, fld_withKite, State.bump, fld_setFld_ne _ _ (.inl (show f.addr ≠ SPT_KITE_GRANTS.addr from hkite)),
      fld_setFld_ne _ _ (.inl (show f.addr ≠ SPT_KITE_LEASE_LEFT.addr from hkite)), fld_setFld_ne _ _ (.inl hkite)]

/-- The former holder, where it lives, is held in reset (Table 14-8 step 4). -/
def formerHeld (s : State) (o : CoreId) : State := if s.kite.holderDead then s else (s.setFld (coreStateFld o) 5).setFlag (coreAliveFld o) false

theorem switchOver_eq (s : State) (c : CoreId) : s.switchOver c = (((formerHeld s (otherCore c)).grantKite c).bump CORE_CNT_SWITCH 1).setFlag SPT_KITE_GAP true := rfl

/-- What a switch-over leaves of the kite, of the two cores and of the counter. -/
theorem switchOver_shows (s : State) (c : CoreId) : (s.switchOver c).holder = some c ∧ (s.switchOver c).fld SPT_KITE_LEASE_LEFT = 200 ∧
    (s.switchOver c).fld (coreStateFld c) = 2 ∧ (s.switchOver c).flag SPT_KITE_GAP = true ∧ (s.switchOver c).kite.request = none ∧ (s.switchOver c).kite.holderDead = false ∧
    (s.switchOver c).fld (coreStateFld (otherCore c)) = (if s.kite.holderDead then s.fld (coreStateFld (otherCore c)) else 5) ∧
    (s.switchOver c).flag (coreAliveFld (otherCore c)) = (if s.kite.holderDead then s.flag (coreAliveFld (otherCore c)) else false) ∧
    (s.switchOver c).fld CORE_CNT_SWITCH = min (s.fld CORE_CNT_SWITCH + 1) 65535 := by
  have hformer : (formerHeld s (otherCore c)).fld (coreStateFld (otherCore c)) = (if s.kite.holderDead then s.fld (coreStateFld (otherCore c)) else 5) ∧
      (formerHeld s (otherCore c)).flag (coreAliveFld (otherCore c)) = (if s.kite.holderDead then s.flag (coreAliveFld (otherCore c)) else false) ∧
      (formerHeld s (otherCore c)).fld CORE_CNT_SWITCH = s.fld CORE_CNT_SWITCH := by
    rw [formerHeld]
    split
    · exact ⟨rfl, rfl, rfl⟩
    · refine ⟨?_, flag_setFlag_same _ _ (by cases c <;> decide) (by cases c <;> decide), ?_⟩
      · rw [State.setFlag, fld_setFld_ne _ _ (by cases c <;> decide), fld_setFld_same _ _ (by cases c <;> decide)]
        cases c <;> rfl
      · rw [State.setFlag, fld_setFld_ne _ _ (by cases c <;> decide), fld_setFld_ne _ _ (by cases c <;> decide)]
  obtain ⟨hstate, halive, hswitch⟩ := hformer
  obtain ⟨hholder, hlease, hmine, hout, hreq, hdead⟩ := grantKite_shows (formerHeld s (otherCore c)) c
  have hos := hout (coreStateFld (otherCore c)) (by simp)
  have hoa := hout (coreAliveFld (otherCore c)) (by simp)
  have hsw := hout CORE_CNT_SWITCH (by simp)
  rw [switchOver_eq]
  generalize (formerHeld s (otherCore c)).grantKite c = u at *
  refine ⟨?_, ?_, ?_, flag_setFlag_same _ _ (by decide) (by decide), hreq, hdead, ?_, ?_, ?_⟩
  · rw [holder_of, hholder]
    rw [State.setFlag, fld_setFld_ne _ _ (by decide), State.bump, fld_setFld_ne _ _ (by decide)]
  · rw [State.setFlag, fld_setFld_ne _ _ (by decide), State.bump, fld_setFld_ne _ _ (by decide), hlease]
  · rw [State.setFlag, fld_setFld_ne _ _ (by cases c <;> decide), State.bump, fld_setFld_ne _ _ (by cases c <;> decide), hmine]
  · rw [State.setFlag, fld_setFld_ne _ _ (by cases c <;> decide), State.bump, fld_setFld_ne _ _ (by cases c <;> decide), hos, hstate]
  · rw [← halive, ← flag_of_fld hoa]
    refine flag_of_fld ?_
    rw [State.setFlag, fld_setFld_ne _ _ (by cases c <;> decide), State.bump, fld_setFld_ne _ _ (by cases c <;> decide)]
  · rw [State.setFlag, fld_setFld_ne _ _ (by decide), fld_bump_self _ _ _ (by decide), hsw, hswitch]
    rfl

/-- A switch-over leaves the fault collector, the mode and the DRAM as they are. -/
theorem switchOver_keeps (s : State) (c : CoreId) : (s.switchOver c).flt = s.flt ∧ (s.switchOver c).sys = s.sys ∧ (s.switchOver c).dram = s.dram := by
  have h := frame_switchOver s c
  exact ⟨h.same .flt (by decide), h.same .sys (by decide), h.same .dram (by decide)⟩

/-! A core judged dead (R426, Table 14-7). -/

/-- Whether the core that is judged dead holds the kite, and is not yet taken for lost. -/
def losesKite (s : State) (c : CoreId) : Bool := decide (s.holder = some c) && !s.kite.holderDead

/-- The registers as a core is judged dead: it is not alive, its state is dead, and a gap begins where it held the kite. -/
def deadRegs (s : State) (c : CoreId) : State :=
  let t := (s.setFlag (coreAliveFld c) false).setFld (coreStateFld c) 5
  if losesKite s c then t.setFlag SPT_KITE_GAP true else t

/-- The kite as a core is judged dead. -/
def deadKite (s : State) (c : CoreId) : Kite :=
  let request := if s.kite.request = some c then none else s.kite.request
  if losesKite s c then { s.kite with request := none, holderDead := true } else { s.kite with request := request }

theorem deadRegs_kept (s : State) (c : CoreId) (f : Fld) (h : f ∈ [coreAliveFld (otherCore c), coreStateFld (otherCore c), SPT_KITE_HOLDER]) :
    ((s.setFlag (coreAliveFld c) false).setFld (coreStateFld c) 5).fld f = s.fld f := by
  have hout : ∀ g ∈ [coreAliveFld c, coreStateFld c], f.addr ≠ g.addr ∨ f.lo + f.w ≤ g.lo ∨ g.lo + g.w ≤ f.lo := by
    simp only [List.mem_cons, List.not_mem_nil, or_false] at h
    rintro g hg
    simp only [List.mem_cons, List.not_mem_nil, or_false] at hg
    rcases h with rfl | rfl | rfl <;> rcases hg with rfl | rfl <;> cases c <;> decide
  rw [fld_setFld_ne _ _ (hout _ (by simp)), State.setFlag, fld_setFld_ne _ _ (hout _ (by simp))]

theorem coreJudgedDead_eq (s : State) (c : CoreId) (q : Nat) : s.coreJudgedDead c q =
    if s.coreDeadNow (otherCore c) then ({ deadRegs s c with kite := deadKite s c } : State).report .coresLost 0 0 0
    else ({ deadRegs s c with kite := deadKite s c } : State).report .coreLost (coreSource c) q 0 := by
  have halive : ((s.setFlag (coreAliveFld c) false).setFld (coreStateFld c) 5).flag (coreAliveFld (otherCore c)) = s.flag (coreAliveFld (otherCore c)) :=
    flag_of_fld (deadRegs_kept s c _ (by simp))
  have hstate := deadRegs_kept s c (coreStateFld (otherCore c)) (by simp)
  have hholder : ((s.setFlag (coreAliveFld c) false).setFld (coreStateFld c) 5).holder = s.holder := holder_of (deadRegs_kept s c SPT_KITE_HOLDER (by simp))
  have hkite : ((s.setFlag (coreAliveFld c) false).setFld (coreStateFld c) 5).kite = s.kite := rfl
  unfold State.coreJudgedDead deadRegs deadKite losesKite
  dsimp only
  generalize (s.setFlag (coreAliveFld c) false).setFld (coreStateFld c) 5 = u at *
  have hgap : (u.setFlag SPT_KITE_GAP true).coreDeadNow (otherCore c) = s.coreDeadNow (otherCore c) := by
    rw [State.coreDeadNow, State.coreDeadNow, flag_setFlag_ne _ _ (by cases c <;> decide), State.setFlag, fld_setFld_ne _ _ (by cases c <;> decide), halive, hstate]
  have hdead : u.coreDeadNow (otherCore c) = s.coreDeadNow (otherCore c) := by rw [State.coreDeadNow, State.coreDeadNow, halive, hstate]
  have hlost : ∀ k, ({ u with kite := k } : State).holderLost = { u.setFlag SPT_KITE_GAP true with kite := { k with request := none, holderDead := true } } := fun _ => rfl
  have hpass : (if u.kite.request = some c then ({ u with kite := { u.kite with request := none } } : State) else u) =
      { u with kite := { s.kite with request := if s.kite.request = some c then none else s.kite.request } } := by
    rw [hkite]
    split
    · rfl
    · rw [← hkite]
  have hsees : (({ u with kite := { s.kite with request := if s.kite.request = some c then none else s.kite.request } } : State).holder = some c) = (s.holder = some c) :=
    congrArg (· = some c) hholder
  rw [hpass, hlost]
  dsimp only
  simp only [hsees]
  by_cases h : (decide (s.holder = some c) && !s.kite.holderDead) = true
  · rw [if_pos h, if_pos h, if_pos h]
    exact congrArg (fun x : Bool => if x then _ else _) hgap
  · rw [if_neg h, if_neg h, if_neg h]
    exact congrArg (fun x : Bool => if x then _ else _) hdead

/-- What the judgement leaves (R426, Table 14-7). -/
def JudgedDead (s : State) (c : CoreId) (t : State) : Prop :=
  t.flag (coreAliveFld c) = false ∧ t.fld (coreStateFld c) = 5 ∧
  ((s.flag (coreAliveFld (otherCore c)) = true ∨ s.fld (coreStateFld (otherCore c)) = 1) → t.flt = (s.report .coreLost (coreSource c) 0 0).flt) ∧
  (s.flag (coreAliveFld (otherCore c)) = false → s.fld (coreStateFld (otherCore c)) ≠ 1 → t.flt = (s.report .coresLost 0 0 0).flt) ∧
  (s.holder = some c → s.kite.holderDead = false → t.flag SPT_KITE_GAP = true ∧ t.kite.holderDead = true) ∧
  OnlyFields [coreAliveFld c, coreStateFld c, SPT_KITE_GAP] { s with kite := t.kite, flt := t.flt } t

theorem deadRegs_shows (s : State) (c : CoreId) : (deadRegs s c).flag (coreAliveFld c) = false ∧ (deadRegs s c).fld (coreStateFld c) = 5 ∧
    (losesKite s c = true → (deadRegs s c).flag SPT_KITE_GAP = true) ∧ OnlyFields [coreAliveFld c, coreStateFld c, SPT_KITE_GAP] s (deadRegs s c) ∧ (deadRegs s c).flt = s.flt := by
  have halive : ((s.setFlag (coreAliveFld c) false).setFld (coreStateFld c) 5).flag (coreAliveFld c) = false := by
    rw [flag_of_fld (fld_setFld_ne _ _ (by cases c <;> decide))]
    exact flag_setFlag_same _ _ (by cases c <;> decide) (by cases c <;> decide)
  have hstate : ((s.setFlag (coreAliveFld c) false).setFld (coreStateFld c) 5).fld (coreStateFld c) = 5 := by
    rw [fld_setFld_same _ _ (by cases c <;> decide)]
    cases c <;> rfl
  have honly : OnlyFields [coreAliveFld c, coreStateFld c, SPT_KITE_GAP] s ((s.setFlag (coreAliveFld c) false).setFld (coreStateFld c) 5) :=
    onlyFields_setFld (onlyFields_setFlag (onlyFields_refl ..) _ (by simp)) _ (by simp)
  unfold deadRegs
  dsimp only
  by_cases h : losesKite s c = true
  · rw [if_pos h]
    refine ⟨?_, ?_, fun _ => flag_setFlag_same _ _ (by decide) (by decide), onlyFields_setFlag honly _ (by simp), rfl⟩
    · rw [flag_setFlag_ne _ _ (by cases c <;> decide), halive]
    · rw [State.setFlag, fld_setFld_ne _ _ (by cases c <;> decide), hstate]
  · rw [if_neg h]
    exact ⟨halive, hstate, fun hl => absurd hl h, honly, rfl⟩

theorem judgedDead (s : State) (c : CoreId) : JudgedDead s c (s.coreJudgedDead c 0) := by
  obtain ⟨halive, hstate, hgap, ⟨hrest, hbits⟩, hflt⟩ := deadRegs_shows s c
  have hkite : losesKite s c = true → (deadKite s c).holderDead = true := fun h => by rw [deadKite, if_pos h]
  have honly : ∀ (k : FaultKind) (a q w : Nat), OnlyFields [coreAliveFld c, coreStateFld c, SPT_KITE_GAP]
      { s with kite := deadKite s c, flt := (({ deadRegs s c with kite := deadKite s c } : State).report k a q w).flt }
      (({ deadRegs s c with kite := deadKite s c } : State).report k a q w) := fun k a q w => by
    refine ⟨?_, hbits⟩
    generalize deadRegs s c = u at hrest ⊢
    rw [hrest]
    rfl
  rw [coreJudgedDead_eq]
  generalize deadRegs s c = u at *
  generalize deadKite s c = k at *
  have hlost : s.holder = some c → s.kite.holderDead = false → losesKite s c = true := fun hh hd => by simp [losesKite, hh, hd]
  by_cases h : s.coreDeadNow (otherCore c) = true
  · rw [if_pos h]
    simp only [State.coreDeadNow, Bool.and_eq_true, Bool.not_eq_eq_eq_not, Bool.not_true, decide_eq_true_eq] at h
    refine ⟨halive, hstate, fun ho => ?_, fun _ _ => report_flt_of hflt .., fun hh hd => ⟨hgap (hlost hh hd), hkite (hlost hh hd)⟩, honly ..⟩
    rcases ho with ho | ho
    · exact absurd (ho.symm.trans h.1) (by decide)
    · exact absurd ho h.2
  · rw [if_neg h]
    simp only [State.coreDeadNow, Bool.and_eq_true, Bool.not_eq_eq_eq_not, Bool.not_true, decide_eq_true_eq, not_and] at h
    exact ⟨halive, hstate, fun _ => report_flt_of hflt .., fun ha hs => absurd hs (h ha), fun hh hd => ⟨hgap (hlost hh hd), hkite (hlost hh hd)⟩, honly ..⟩

/-! LINK_DOWN (R428, R429). -/

theorem coldStandby_of (h : s.holder = some c) : s.coldStandby =
    if s.fld (coreStateFld (otherCore c)) = 3 then (s.setFld (coreStateFld (otherCore c)) 4).setFlag (coreColdFld (otherCore c)) true else s := by
  rw [State.coldStandby, h]

theorem coldStandby_shows (h : s.holder = some c) : s.coldStandby.flag SPT_KITE_LINK_DOWN = s.flag SPT_KITE_LINK_DOWN ∧
    (s.fld (coreStateFld (otherCore c)) = 3 → s.coldStandby.fld (coreStateFld (otherCore c)) = 4) := by
  rw [coldStandby_of h]
  split
  · refine ⟨?_, fun _ => ?_⟩
    · rw [flag_setFlag_ne _ _ (by cases c <;> decide), flag_of_fld (fld_setFld_ne _ _ (by cases c <;> decide))]
    · rw [State.setFlag, fld_setFld_ne _ _ (by cases c <;> decide), fld_setFld_same _ _ (by cases c <;> decide)]
      cases c <;> rfl
  · next hn => exact ⟨rfl, fun hs => absurd hs hn⟩

/-- LINK_DOWN as it is reported: the standby is cold, and the rest stays (R428, R429). -/
theorem linkDown_shows {z : State} {k : FaultKind} {a q w : Nat} (hh : s.holder = some c) (hkite : s.kite.request = none) (hflt : s.flt = z.flt)
    (hsys : s.sys = z.sys) (hdram : s.dram = z.dram) (hstate : s.fld (coreStateFld (otherCore c)) = z.fld (coreStateFld (otherCore c)))
    (hlink : s.flag SPT_KITE_LINK_DOWN = true) :
    (s.coldStandby.report k a q w).flag SPT_KITE_LINK_DOWN = true ∧ (s.coldStandby.report k a q w).kite.request = none ∧
    (z.fld (coreStateFld (otherCore c)) = 3 → (s.coldStandby.report k a q w).fld (coreStateFld (otherCore c)) = 4) ∧
    (s.coldStandby.report k a q w).flt = (z.report k a q w).flt ∧ (s.coldStandby.report k a q w).sys = z.sys ∧ (s.coldStandby.report k a q w).dram = z.dram := by
  obtain ⟨hlinks, hcold⟩ := coldStandby_shows hh
  have hf := frame_coldStandby s
  exact ⟨hlinks.trans hlink, (congrArg Kite.request (hf.same .kite (by decide))).trans hkite, fun h3 => hcold (hstate.trans h3),
    report_flt_of ((hf.same .flt (by decide)).trans hflt) .., (hf.same .sys (by decide)).trans hsys, (hf.same .dram (by decide)).trans hdram⟩

/-- The holder's heartbeat turns a held request into LINK_DOWN. -/
theorem coreHb_linkDown (hm : s.sys.mode ≠ .off) (hr : s.coreRuns c = true) (hh : s.holder = some c) (hq : s.kite.request = some (otherCore c)) :
    Answers (.coreHb c) s (fun t =>
      t.flag SPT_KITE_LINK_DOWN = true ∧ t.kite.request = none ∧ (s.fld (coreStateFld (otherCore c)) = 3 → t.fld (coreStateFld (otherCore c)) = 4) ∧
      t.flt = (s.report .linkDown (coreSource (otherCore c)) 0 0).flt ∧ t.sys = s.sys ∧ t.dram = s.dram) := by
  obtain ⟨hkite, hflt, hsys, hdram, hregs, hother⟩ := heard_keeps s c
  have hholder : (heard s c).holder = some c := (holder_of (hregs SPT_KITE_HOLDER rfl)).trans hh
  have hrun : exec (.coreHb c) s = _ := (execCoreHb_runs hm hr).trans (if_pos (by simp [hholder, hkite, hq]))
  exact answers_of hrun (linkDown_shows ((holder_of (fld_setFld_ne _ _ (by decide))).trans hholder) rfl hflt hsys hdram
    ((fld_setFld_ne _ _ (by cases c <;> decide)).trans hother) (flag_setFlag_same _ _ (by decide) (by decide)))

/-- A core that comes alive once the dead holder's lease has run out takes the kite. -/
theorem coreHb_takes (hm : s.sys.mode ≠ .off) (hr : s.coreRuns c = true) (hd : s.kite.holderDead = true) (hh : s.holder = some (otherCore c))
    (hl : s.fld SPT_KITE_LEASE_LEFT = 0) :
    Answers (.coreHb c) s (fun t =>
      t.holder = some c ∧ t.fld SPT_KITE_LEASE_LEFT = 200 ∧ t.fld (coreStateFld c) = 2 ∧ t.flag SPT_KITE_GAP = true ∧ t.kite.request = none ∧
      t.kite.holderDead = false ∧ t.flt = s.flt ∧ t.sys = s.sys ∧ t.dram = s.dram) := by
  obtain ⟨hkite, hflt, hsys, hdram, hregs, -⟩ := heard_keeps s c
  have hholder : (heard s c).holder = some (otherCore c) := (holder_of (hregs SPT_KITE_HOLDER rfl)).trans hh
  have hlease : (heard s c).fld SPT_KITE_LEASE_LEFT = 0 := (hregs SPT_KITE_LEASE_LEFT rfl).trans hl
  have hrun : exec (.coreHb c) s = .next ((heard s c).switchOver c) :=
    (execCoreHb_runs hm hr).trans ((if_neg (by simp [hholder, otherCore_ne])).trans (if_pos (by simp [hholder, hkite, hd, hlease])))
  obtain ⟨hc, hleft, hstate, hgap, hreq, hdead, -⟩ := switchOver_shows (heard s c) c
  obtain ⟨hf, hs, hdr⟩ := switchOver_keeps (heard s c) c
  exact answers_of hrun ⟨hc, hleft, hstate, hgap, hreq, hdead, hf.trans hflt, hs.trans hsys, hdr.trans hdram⟩

/-- With neither a request to answer nor a dead holder to follow, a heartbeat touches its own core alone. -/
theorem coreHb_heard (hm : s.sys.mode ≠ .off) (hr : s.coreRuns c = true) (hq : s.kite.request = none ∨ s.holder ≠ some c)
    (hd : s.kite.holderDead = false ∨ s.holder ≠ some (otherCore c) ∨ s.fld SPT_KITE_LEASE_LEFT ≠ 0) : exec (.coreHb c) s = .next (heard s c) := by
  obtain ⟨hkite, -, -, -, hregs, -⟩ := heard_keeps s c
  have hholder : (heard s c).holder = s.holder := holder_of (hregs SPT_KITE_HOLDER rfl)
  refine (execCoreHb_runs hm hr).trans ((if_neg ?_).trans (if_neg ?_))
  · rw [hholder, hkite]
    rcases hq with h | h <;> simp [h]
  · rw [hholder, hkite, hregs SPT_KITE_LEASE_LEFT rfl]
    rcases hd with h | h | h <;> simp [h]

/-! The lease and the switch-over's end (R427, R428, R431). -/

/-- A lease that runs out passes the kite to the other core where that is alive (R428, R430). -/
theorem leaseExpiry_passes (hh : s.holder = some c) (ha : s.flag (coreAliveFld (otherCore c)) = true) : Answers .kiteLeaseExpiry s (fun t =>
      t.holder = some (otherCore c) ∧ t.fld SPT_KITE_LEASE_LEFT = 200 ∧ t.fld (coreStateFld (otherCore c)) = 2 ∧
      (s.kite.holderDead = false → t.fld (coreStateFld c) = 5 ∧ t.flag (coreAliveFld c) = false) ∧
      (s.kite.holderDead = true → t.fld (coreStateFld c) = s.fld (coreStateFld c) ∧ t.flag (coreAliveFld c) = s.flag (coreAliveFld c)) ∧
      t.flag SPT_KITE_GAP = true ∧ t.kite.request = none ∧ t.kite.holderDead = false ∧ t.fld CORE_CNT_SWITCH = min (s.fld CORE_CNT_SWITCH + 1) 65535 ∧
      t.flt = (if s.kite.holderDead then s.flt else (s.report .coreLost (coreSource c) 1 0).flt) ∧ t.sys = s.sys ∧ t.dram = s.dram) := by
  have hrun : exec .kiteLeaseExpiry s = (if s.kite.holderDead then .next ((s.setFld SPT_KITE_LEASE_LEFT 0).switchOver (otherCore c))
      else .next (((s.setFld SPT_KITE_LEASE_LEFT 0).switchOver (otherCore c)).report .coreLost (coreSource c) 1 0)) := by
    change execKiteLeaseExpiry s = _
    unfold execKiteLeaseExpiry
    rw [hh]
    exact if_neg (by rw [flag_of_fld (fld_setFld_ne _ _ (by cases c <;> decide)), ha]; decide)
  obtain ⟨hholder, hleft, hnew, hgap, hreq, hdead, hold, holdAlive, hswitch⟩ := switchOver_shows (s.setFld SPT_KITE_LEASE_LEFT 0) (otherCore c)
  obtain ⟨hf, hs, hdr⟩ := switchOver_keeps (s.setFld SPT_KITE_LEASE_LEFT 0) (otherCore c)
  rw [otherCore_otherCore, fld_setFld_ne _ _ (by cases c <;> decide)] at hold
  rw [otherCore_otherCore, flag_of_fld (fld_setFld_ne _ _ (by cases c <;> decide))] at holdAlive
  rw [fld_setFld_ne _ _ (by decide)] at hswitch
  have hkite : (s.setFld SPT_KITE_LEASE_LEFT 0).kite = s.kite := rfl
  have hflt : (s.setFld SPT_KITE_LEASE_LEFT 0).flt = s.flt := rfl
  have hsys : (s.setFld SPT_KITE_LEASE_LEFT 0).sys = s.sys := rfl
  have hdram : (s.setFld SPT_KITE_LEASE_LEFT 0).dram = s.dram := rfl
  rw [hkite] at hold holdAlive
  rw [hflt] at hf
  rw [hsys] at hs
  rw [hdram] at hdr
  generalize (s.setFld SPT_KITE_LEASE_LEFT 0).switchOver (otherCore c) = u at *
  by_cases h : s.kite.holderDead = true
  · rw [if_pos h] at hrun hold holdAlive
    refine answers_of hrun ⟨hholder, hleft, hnew, fun hn => absurd (h.symm.trans hn) (by decide), fun _ => ⟨hold, holdAlive⟩, hgap, hreq, hdead, hswitch, ?_, hs, hdr⟩
    rw [if_pos h]
    exact hf
  · rw [if_neg h] at hrun hold holdAlive
    refine answers_of hrun ⟨hholder, hleft, hnew, fun _ => ⟨hold, holdAlive⟩, fun hn => absurd hn h, hgap, hreq, hdead, hswitch, ?_, hs, hdr⟩
    rw [if_neg h]
    exact report_flt_of hf ..

theorem writeStatus_keeps (s : State) (p : PostStatus) : (s.writeStatus p).pkt.exec = s.pkt.exec ∧ (s.writeStatus p).pkt.withheld = s.pkt.withheld := by
  rw [State.writeStatus]
  split
  · have hpkt : (s.setBytes 0x5180 (statusBytes p 0) 8).pkt = s.pkt := (frame_setBytes s 0x5180 (statusBytes p 0) 8).same .pkt List.not_mem_nil
    generalize s.setBytes 0x5180 (statusBytes p 0) 8 = u at *
    exact ⟨congrArg Pkt.exec hpkt, congrArg Pkt.withheld hpkt⟩
  · exact ⟨rfl, rfl⟩

/-- Posting what was withheld leaves nothing withheld, and the packets in execution as they are (R18). -/
theorem postWithheld_shows (s : State) : s.postWithheld.pkt.exec = s.pkt.exec ∧ s.postWithheld.pkt.withheld = [] := by
  have hfold : ∀ (ps : List PostStatus) (u : State), (ps.foldl (fun (u : State) p => u.writeStatus p) u).pkt.exec = u.pkt.exec ∧
      (ps.foldl (fun (u : State) p => u.writeStatus p) u).pkt.withheld = u.pkt.withheld := by
    intro ps
    induction ps with
    | nil => exact fun u => ⟨rfl, rfl⟩
    | cons p ps ih =>
      intro u
      obtain ⟨hexec, hheld⟩ := writeStatus_keeps u p
      exact ⟨(ih _).1.trans hexec, (ih _).2.trans hheld⟩
  exact hfold s.pkt.withheld { s with pkt := { s.pkt with withheld := [] } }

/-- The packets of a switch-over that complete with BUSY (R431). -/
def isBroken (e : ExecPkt) : Bool :=
  coreOp (pktField e.bytes 0 1) && decide (pktField e.bytes 0 1 ≠ 0x02) && decide (pktField e.bytes 0 1 ≠ 0x0A) && (e.started || decide (e.aux % 2 ≠ 1))

def brokenOff (s : State) : State := (s.pkt.exec.filter isBroken).foldl (fun (u : State) e => u.complete e stBusy [] (noByte + detInterrupted)) s

theorem execSwitchoverComplete_of (hg : s.flag SPT_KITE_GAP = true) (hd : s.kite.holderDead = false) : exec .switchoverComplete s =
    .next (({ brokenOff s with pkt := { (brokenOff s).pkt with exec := (brokenOff s).pkt.exec.map (fun (e : ExecPkt) => if e.started then e else { e with aux := e.aux / 2 * 2 }) } } : State).setFlag
      SPT_KITE_GAP false).postWithheld :=
  if_neg (by simp [State.inGap, hg, hd])

/-- Completing packets one after the other takes each of them out of execution. -/
theorem exec_completeAll (l : List ExecPkt) (code : Nat) (result : List Byte) (detail : Nat) (s : State) :
    (l.foldl (fun (u : State) e => u.complete e code result detail) s).pkt.exec = s.pkt.exec.diff l := by
  induction l generalizing s with
  | nil => exact (List.diff_nil _).symm
  | cons e l ih => rw [List.foldl_cons, ih, exec_complete, List.diff_cons]

/-- None of the packets that a switch-over breaks off stays in execution. -/
theorem brokenOff_exec {e : ExecPkt} (h : e ∈ (brokenOff s).pkt.exec) : isBroken e = false := by
  rw [brokenOff, exec_completeAll] at h
  by_contra hb
  have hcount : List.count e (s.pkt.exec.diff (s.pkt.exec.filter isBroken)) = 0 := by
    rw [List.count_diff, List.count_filter (by simpa using hb), Nat.sub_self]
  exact (List.count_eq_zero.mp hcount) h

theorem brokenOff_keeps (s : State) : (brokenOff s).sys = s.sys ∧ (brokenOff s).dram = s.dram := by
  have hfold : ∀ (l : List ExecPkt) (u : State), (l.foldl (fun (u : State) e => u.complete e stBusy [] (noByte + detInterrupted)) u).sys = u.sys ∧
      (l.foldl (fun (u : State) e => u.complete e stBusy [] (noByte + detInterrupted)) u).dram = u.dram := by
    intro l
    induction l with
    | nil => exact fun u => ⟨rfl, rfl⟩
    | cons e l ih =>
      intro u
      have hf := frame_complete u e stBusy [] (noByte + detInterrupted)
      exact ⟨(ih _).1.trans (hf.same .sys (by decide)), (ih _).2.trans (hf.same .dram (by decide))⟩
  exact hfold _ s

/-- The end of a switch-over (R431). -/
theorem switchoverComplete_ends (hg : s.flag SPT_KITE_GAP = true) (hd : s.kite.holderDead = false) : Answers .switchoverComplete s (fun t =>
      t.flag SPT_KITE_GAP = false ∧ t.pkt.withheld = [] ∧
      (∀ e ∈ t.pkt.exec, coreOp (pktField e.bytes 0 1) = true → pktField e.bytes 0 1 ≠ 0x02 → pktField e.bytes 0 1 ≠ 0x0A → e.started = false) ∧ t.sys = s.sys ∧ t.dram = s.dram) := by
  refine answers_of (execSwitchoverComplete_of hg hd) ?_
  have hexec := fun e => brokenOff_exec (s := s) (e := e)
  obtain ⟨hsys, hdram⟩ := brokenOff_keeps s
  generalize brokenOff s = u at *
  obtain ⟨v, hv⟩ : ∃ v, v = ({ u with pkt := { u.pkt with exec := u.pkt.exec.map (fun (e : ExecPkt) => if e.started then e else { e with aux := e.aux / 2 * 2 }) } } : State).setFlag SPT_KITE_GAP false := ⟨_, rfl⟩
  have hgap : v.flag SPT_KITE_GAP = false := by rw [hv]; exact flag_setFlag_same _ _ (by decide) (by decide)
  have hvexec : v.pkt.exec = u.pkt.exec.map (fun (e : ExecPkt) => if e.started then e else { e with aux := e.aux / 2 * 2 }) := by rw [hv]; rfl
  have hvsys : v.sys = u.sys := by rw [hv]; rfl
  have hvdram : v.dram = u.dram := by rw [hv]; rfl
  rw [← hv]
  clear hv
  obtain ⟨hpexec, hheld⟩ := postWithheld_shows v
  have hf := frame_postWithheld v
  refine ⟨(flag_of_fld (hf.fld _ (by decide))).trans hgap, hheld, ?_, ((hf.same .sys (by decide)).trans hvsys).trans hsys, ((hf.same .dram (by decide)).trans hvdram).trans hdram⟩
  rw [hpexec, hvexec]
  intro e he hop h2 ha
  obtain ⟨x, hx, rfl⟩ := List.mem_map.mp he
  by_cases hs : x.started = true
  · have hbroken := hexec x hx
    rw [if_pos hs] at hop h2 ha
    simp [isBroken, hop, h2, ha, hs] at hbroken
  · rw [if_neg hs]
    simpa using hs

/-- Settles O49, command by command: a heartbeat, a core judged dead, the lease and its renewal, the link test, and the end of a switch-over. -/
theorem kite : Obligations.Kite := by
  unfold Obligations.Kite
  intro s c
  refine ⟨fun hidle => ⟨?_, ?_⟩, fun hm hr hq hd => ?_, coreHb_takes, coreHb_linkDown, fun hidle => ?_, fun hidle => ?_, fun hm ha => ?_, fun hm hst => ?_,
    fun hm hr => ⟨fun hh hd => ?_, fun hh => ?_⟩, fun hidle => ?_, fun hm hst hh hd => ?_, fun hh => ?_, fun hh ha => ?_, leaseExpiry_passes, fun hs => ?_, fun hidle => ?_, switchoverComplete_ends⟩
  · exact answers_of (i := .coreHb c) (if_pos (by simpa using hidle)) rfl
  · by_cases hm : s.sys.mode = .off
    · exact answers_of (i := .kiteRenew c) (if_pos hm) rfl
    · exact answers_of (i := .kiteRenew c) (if_neg hm) (if_pos (by simp [hidle.resolve_left hm]))
  · exact answers_of (coreHb_heard hm hr hq hd) (heard_shows s c)
  · exact answers_of (i := .coreDead c) (if_pos (by simpa using hidle)) rfl
  · exact answers_of (i := .coreStartTimeout c) (if_pos (by simpa using hidle)) rfl
  · exact answers_of (i := .coreDead c) (if_neg (by simp [hm, ha])) (judgedDead s c)
  · exact answers_of (i := .coreStartTimeout c) (if_neg (by simp [hm, hst])) (judgedDead s c)
  · exact answers_of (i := .kiteRenew c) (if_neg hm) ((if_neg (by simp [hr])).trans (if_pos (by simp [hh, hd])))
  · exact answers_of (i := .kiteRenew c) (if_neg hm) ((if_neg (by simp [hr])).trans (if_neg (by rcases hh with hh | hh <;> simp [hh])))
  · by_cases hm : s.sys.mode = .off
    · exact answers_of (i := .kiteRequest c) (if_pos hm) rfl
    · exact answers_of (i := .kiteRequest c) (if_neg hm) (if_neg (by rcases hidle.resolve_left hm with h | h | h <;> simp [h]))
  · exact answers_of (i := .kiteRequest c) (if_neg hm) (if_pos (by simp [hst, hh, hd]))
  · have hrun : exec .kiteLeaseExpiry s = .next s := by
      change execKiteLeaseExpiry s = _
      rw [execKiteLeaseExpiry, hh]
    exact answers_of hrun rfl
  · have hrun : exec .kiteLeaseExpiry s = .next (s.setFld SPT_KITE_LEASE_LEFT 0) := by
      change execKiteLeaseExpiry s = _
      unfold execKiteLeaseExpiry
      rw [hh]
      exact if_pos (by rw [flag_of_fld (fld_setFld_ne _ _ (by cases c <;> decide)), ha]; rfl)
    exact answers_of hrun rfl
  · have hrun : exec .linkTestPass s = .next (s.setFlag SPT_KITE_LINK_DOWN false).settle := rfl
    have hslots : (s.setFlag SPT_KITE_LINK_DOWN false).flt.slots = [] := hs
    refine answers_of hrun ?_
    rw [State.settle, hslots]
    rfl
  · exact answers_of (i := .switchoverComplete) (if_pos (by rcases hidle with h | h <;> simp [State.inGap, h])) rfl

end

end Sys2Proof.Proofs

/-! PROOF. A record arrives: it is held under the next number, held as chaff, or dropped and counted, and the snapshot triggers see it (R443 to R448, R453). -/

namespace Sys2Proof.Proofs

open Sys2Proof.Machine Sys2Proof.Machine.Reg Sys2Proof.Laws

section
variable {s : State} {e : EvRecord} {r : LogRec} {w : BitVec 64}

/-! Room in the log (R445). -/

theorem freeOldest_zero (k : Nat) (l : List LogRec) : freeOldest k 0 l = l := by
  cases l with
  | nil => rfl
  | cons r l => exact if_pos rfl

/-- A record that needs no room made for it stands behind those that are held, and the triggers are still to see it (R445, R448). -/
def placed (s : State) (r : LogRec) : State := { s with evr := { s.evr with log := s.evr.log ++ [r], fresh := s.evr.fresh ++ [r] } }

theorem logRoom_of (h : s.logUnits + recUnits r ≤ 4096) : s.logRoom r = true := by
  rw [State.logRoom]
  exact decide_eq_true (by omega)

theorem logArrive_placed (h : s.logUnits + recUnits r ≤ 4096) (hc : r.seq = none ∨ (r.ev.code ≠ 0x40 ∧ r.ev.code ≠ 0x41)) : s.logArrive r = placed s r := by
  have hplace : s.logPlace r = { s with evr := { s.evr with log := s.evr.log ++ [r] } } := by
    rw [State.logPlace, Nat.sub_eq_zero_of_le h, freeOldest_zero]
  have hkeeps : ∀ u : State, u.incidentSeq r = u := fun u => by
    rw [State.incidentSeq]
    split
    · rfl
    · next n hn =>
      rcases hc with hc | ⟨h40, h41⟩
      · exact absurd (hc.symm.trans hn) (by simp)
      · exact if_neg (by simp [h40, h41])
  rw [State.logArrive, hplace, hkeeps]
  rfl

/-! A record is held (R445, R453). -/

theorem hold_unnumbered (hf : s.flag EVR_STS_FENCED = false) (hb : s.evr.base = none) (hm : s.evr.markOpen = false)
    (hroom : s.logUnits + recUnits (s.held e none) ≤ 4096) : s.hold e = placed s (s.held e none) := by
  rw [State.hold, if_neg (by simp [hf]), if_neg (by simp [State.seqBlocked, hm]), if_pos (by simp [hb])]
  exact (if_pos (logRoom_of hroom)).trans (logArrive_placed hroom (.inl rfl))

section
variable {b : Nat} (hf : s.flag EVR_STS_FENCED = false) (hb : s.evr.base = some b) (hn : s.evr.nextSeq % 2 ^ 24 ≠ 0)
include hf hb hn

/-- Between two marks a number is issued at once (R440, R445). -/
theorem hold_takes : s.hold e =
    if !s.logRoom (s.held e (some s.evr.nextSeq)) then s.bump (dropFld e.sev) 1
    else
      let u := s.rawSeq.2.logArrive (s.held e (some s.evr.nextSeq))
      if u.mirrors e then u.mirror (s.held e (some s.evr.nextSeq)) else u := by
  have hnext : decide (s.evr.nextSeq % 2 ^ 24 = 0) = false := decide_eq_false hn
  have hmark : s.ensureMark = s := by rw [State.ensureMark, hnext, if_neg (by simp)]
  rw [State.hold, if_neg (by simp [hf]), if_neg (by rw [State.seqBlocked, hnext]; simp), if_neg (by simp [hb]), hmark]
  rfl

/-- A record that finds room, and is not mirrored, takes the next number (R445, R451). -/
theorem hold_numbered (hcode : e.code ∉ [0x40, 0x41, 0x44, 0x45, 0x46, 0x47]) (hsev : sevCode e.sev < s.fld EVR_CTL_MIRROR_SEV)
    (hroom : s.logUnits + recUnits (s.held e (some s.evr.nextSeq)) ≤ 4096) : s.hold e = placed s.rawSeq.2 (s.held e (some s.evr.nextSeq)) := by
  have hopens : e.code ≠ 0x40 ∧ e.code ≠ 0x41 := ⟨fun h => hcode (by simp [h]), fun h => hcode (by simp [h])⟩
  have hmirrors : (placed s.rawSeq.2 (s.held e (some s.evr.nextSeq))).mirrors e = false := by
    have hlow : ¬ (placed s.rawSeq.2 (s.held e (some s.evr.nextSeq))).fld EVR_CTL_MIRROR_SEV ≤ sevCode e.sev := Nat.not_le.mpr hsev
    have hown : [0x44, 0x45, 0x46, 0x47].contains e.code = false := by
      simp only [List.mem_cons, List.not_mem_nil, or_false, not_or] at hcode
      simp [hcode]
    rw [State.mirrors, decide_eq_false hlow, hown]
    rfl
  rw [hold_takes hf hb hn, logRoom_of hroom, if_neg (by decide)]
  dsimp only
  rw [logArrive_placed (s := s.rawSeq.2) hroom (.inr hopens), if_neg (by rw [hmirrors]; decide)]

end

/-! The snapshot triggers (R448). -/

theorem foldl_only {α β : Type} {f : β → α → β} {k : α} (I : β → Prop) {l : List α} (hl : l.Nodup) (hk : k ∈ l) (hI : ∀ u, I u → ∀ j ∈ l, j ≠ k → f u j = u)
    {u : β} (hu : I u) (hfu : I (f u k)) : l.foldl f u = f u k := by
  have hkept : ∀ m : List α, (∀ j ∈ m, j ∈ l ∧ j ≠ k) → ∀ v, I v → m.foldl f v = v := by
    intro m
    induction m with
    | nil => exact fun _ _ _ => rfl
    | cons a m ih =>
      intro hm v hv
      obtain ⟨ha, hne⟩ := hm a List.mem_cons_self
      rw [List.foldl_cons, hI v hv a ha hne]
      exact ih (fun j hj => hm j (List.mem_cons_of_mem _ hj)) v hv
  obtain ⟨l₁, l₂, rfl⟩ := List.append_of_mem hk
  have hne := List.nodup_append.mp hl
  obtain ⟨-, hl₂, hdisj⟩ := hne
  have hk₂ : k ∉ l₂ := (List.nodup_cons.mp hl₂).1
  rw [List.foldl_append, List.foldl_cons,
    hkept l₁ (fun j hj => ⟨List.mem_append_left _ hj, hdisj j hj k List.mem_cons_self⟩) u hu,
    hkept l₂ (fun j hj => ⟨List.mem_append_right _ (List.mem_cons_of_mem _ hj), fun h => hk₂ (h ▸ hj)⟩) _ hfu]

/-- Only trigger k is enabled. -/
def OnlyTrigger (k : Fin 64) (u : State) : Prop := ∀ j : Fin 64, u.flag (EVR_SNAP_CTL_EN j.val) = decide (j = k)

theorem snapshots_off (h : s.flag EVR_CTL_SNAP_EN = false ∨ ∀ k : Fin 64, s.flag (EVR_SNAP_CTL_EN k.val) = false) : s.snapshots w r = s := by
  by_cases hen : s.flag EVR_CTL_SNAP_EN = true
  · have hall := h.resolve_left (by simp [hen])
    rw [State.snapshots, if_neg (by simp [hen])]
    have hfold : ∀ l : List Nat, (∀ j ∈ l, j < 64) → l.foldl (fun (u : State) k => if !u.snapMatch k r then u else if w.getLsbD k then u.bump EVR_SNAP_MISS 1 else u.hold (u.snapRecord k r)) s = s := by
      intro l
      induction l with
      | nil => exact fun _ => rfl
      | cons j l ih =>
        intro hj
        have hmiss : s.snapMatch j r = false := by
          rw [State.snapMatch, hall ⟨j, hj j List.mem_cons_self⟩]
          rfl
        rw [List.foldl_cons, hmiss, if_pos (by decide)]
        exact ih (fun i hi => hj i (List.mem_cons_of_mem _ hi))
    exact hfold _ (fun j hj => List.mem_range.mp hj)
  · rw [State.snapshots, if_pos (by simpa using hen)]

/-- What a trigger that matches does of the record: a snapshot, or a miss while its last one still runs (R448). -/
def triggered (s : State) (w : BitVec 64) (k : Nat) (r : LogRec) : State := if w.getLsbD k then s.bump EVR_SNAP_MISS 1 else s.hold (s.snapRecord k r)

theorem snapshots_one {k : Fin 64} (hen : s.flag EVR_CTL_SNAP_EN = true) (hk : OnlyTrigger k s) (hcode : s.fld (EVR_SNAP_CTL_CODE k.val) = r.ev.code)
    (hown : r.ev.code ≠ 0x43) (hsrc : s.flag (EVR_SNAP_CTL_ANY_SRC k.val) = true ∨ s.fld (EVR_SNAP_CTL_SOURCE k.val) = r.ev.source.val)
    (hafter : OnlyTrigger k (triggered s w k.val r)) : s.snapshots w r = triggered s w k.val r := by
  have hmatch : s.snapMatch k.val r = true := by
    rw [State.snapMatch, hk k, hcode]
    rcases hsrc with h | h <;> simp [hown, h]
  have hfires : (if !s.snapMatch k.val r then s else if w.getLsbD k.val then s.bump EVR_SNAP_MISS 1 else s.hold (s.snapRecord k.val r)) = triggered s w k.val r := by
    rw [hmatch]
    rfl
  rw [State.snapshots, if_neg (by simp [hen]), ← hfires]
  refine foldl_only (OnlyTrigger k) List.nodup_range (List.mem_range.mpr k.isLt) (fun u hu j hj hne => ?_) hk (by rw [hfires]; exact hafter)
  have hmiss : u.snapMatch j r = false := by
    have hoff := hu ⟨j, List.mem_range.mp hj⟩
    rw [decide_eq_false (fun h => hne (congrArg Fin.val h))] at hoff
    rw [State.snapMatch, hoff]
    rfl
  rw [hmiss]
  rfl

/-- The SNAPSHOT record has LEN 8 (R448). -/
theorem recLen_snapRecord (s : State) (k : Nat) (r : LogRec) : recLen (s.snapRecord k r) = 8 := by
  rw [recLen, State.snapRecord, length_sliceBytes]
  rfl

/-- Nothing is left for the triggers to see. -/
def seen (s : State) : State := { s with evr := { s.evr with fresh := [] } }

theorem takeFresh_nil (h : s.evr.fresh = []) : s.takeFresh w = s := by
  have hsame : ∀ u : State, u.evr.fresh = [] → ({ u with evr := { u.evr with fresh := [] } } : State) = u := fun u hu => by rw [← hu]
  rw [State.takeFresh, h]
  exact (hsame _ rfl).trans (hsame s h)

theorem takeFresh_one (h : s.evr.fresh = [r]) : s.takeFresh w = seen ((seen s).snapshots w r) := by
  rw [State.takeFresh, h]
  rfl

/-! A record arrives (R443, R445, R446). -/

/-- A record as it is held, once the triggers have seen it. -/
def logged (s : State) (r : LogRec) : State := { s with evr := { s.evr with log := s.evr.log ++ [r] } }

theorem execRecordArrival_own (hm : s.sys.mode ≠ .off) (q c : Bool) : exec (.recordArrival (some e) q c w) s = .next ((s.arriveRecord e q c).takeFresh w) := if_neg hm

theorem arriveRecord_full (c : Bool) : s.arriveRecord e true c = if s.flag EVR_STS_FENCED then s.bump EVR_FENCED_CNT 1 else s.bump (dropFld e.sev) 1 := rfl

theorem arriveRecord_plain : s.arriveRecord e false false = s.hold e := by
  rw [State.arriveRecord, if_neg (by decide)]
  exact if_neg (by simp)

/-- A record that was held and fails its CRC: the log holds it as chaff (R446). -/
def chaffed (s : State) (r : LogRec) : State := { placed s r with evr := { (placed s r).evr with log := s.evr.log ++ [{ r with chaff := true }] } }

theorem arriveRecord_chaff {u : State} (hev : r.ev = e) (hu : u.evr.fresh = s.evr.fresh) (h : s.hold e = placed u r) :
    s.arriveRecord e false true = chaffed u r := by
  have hlast : (placed u r).evr.log.getLast? = some r := List.getLast?_concat
  rw [State.arriveRecord, if_neg (by decide), h]
  refine (if_pos ?_).trans ?_
  · simp [placed, hev, hu]
  · rw [State.markChaff, hlast]
    dsimp only [chaffed, placed]
    rw [List.dropLast_concat]

theorem seen_placed (hfresh : s.evr.fresh = []) : seen (placed s r) = logged s r := by
  have hsame : ∀ x, x = s.evr.fresh → ({ s with evr := { s.evr with log := s.evr.log ++ [r], fresh := x } } : State) = logged s r := by
    rintro x rfl
    rfl
  exact hsame [] hfresh.symm

/-- A record that arrives with no trigger to see it stands in the log. -/
theorem takeFresh_off (hfresh : s.evr.fresh = []) (h : s.flag EVR_CTL_SNAP_EN = false ∨ ∀ k : Fin 64, s.flag (EVR_SNAP_CTL_EN k.val) = false) :
    (placed s r).takeFresh w = logged s r := by
  rw [takeFresh_one (s := placed s r) (r := r) (by rw [placed, hfresh]; rfl), snapshots_off (s := seen (placed s r)) h]
  exact seen_placed hfresh

/-- The drop counter of a record's severity counts it, and nothing else changes. -/
theorem dropped_shows (s : State) (v : Sev) : (s.bump (dropFld v) 1).fld (dropFld v) = min (s.fld (dropFld v) + 1) 255 ∧ OnlyFields [dropFld v] s (s.bump (dropFld v) 1) :=
  ⟨(fld_bump_self _ _ _ (by cases v <;> decide)).trans (by cases v <;> rfl), onlyFields_bump (onlyFields_refl ..) _ (by simp)⟩

theorem fencedCount_shows (s : State) : (s.bump EVR_FENCED_CNT 1).fld EVR_FENCED_CNT = min (s.fld EVR_FENCED_CNT + 1) (2 ^ 32 - 1) ∧
    OnlyFields [EVR_FENCED_CNT] s (s.bump EVR_FENCED_CNT 1) :=
  ⟨fld_bump_self _ _ _ (by decide), onlyFields_bump (onlyFields_refl ..) _ (by simp)⟩

/-- A record that is held under the next number, with the triggers still to see it. -/
theorem hold_next {b : Nat} (hf : s.flag EVR_STS_FENCED = false) (hb : s.evr.base = some b) (hn : s.evr.nextSeq % 2 ^ 24 ≠ 0)
    (hcode : e.code ∉ [0x40, 0x41, 0x44, 0x45, 0x46, 0x47]) (hsev : sevCode e.sev < s.fld EVR_CTL_MIRROR_SEV)
    (hroom : s.logUnits + recUnits (s.held e (some s.evr.nextSeq)) + 2 ≤ 4096) :
    s.hold e = placed { s with evr := { s.evr with nextSeq := s.evr.nextSeq + 1 } } (s.held e (some s.evr.nextSeq)) :=
  hold_numbered hf hb hn hcode hsev (by omega)

theorem logUnits_placed (s : State) (r : LogRec) : (seen (placed s r)).logUnits = s.logUnits + recUnits r := by
  change ((s.evr.log ++ [r]).map recUnits).sum = _
  rw [List.map_append, List.sum_append, List.map_cons, List.map_nil, List.sum_cons, List.sum_nil, Nat.add_zero]
  rfl

/-- A snapshot of a record that was just held: it is held in its turn under the number after it (R448). -/
theorem snapshot_held {z : State} {b k : Nat} (hz : z = seen (placed { s with evr := { s.evr with nextSeq := s.evr.nextSeq + 1 } } r))
    (hf : s.flag EVR_STS_FENCED = false) (hb : s.evr.base = some b) (hn : (s.evr.nextSeq + 1) % 2 ^ 24 ≠ 0)
    (hsev : sevCode r.ev.sev < s.fld EVR_CTL_MIRROR_SEV) (hroom : s.logUnits + recUnits r + 2 ≤ 4096) :
    z.hold (z.snapRecord k r) = placed { z with evr := { z.evr with nextSeq := s.evr.nextSeq + 2 } } (z.held (z.snapRecord k r) (some (s.evr.nextSeq + 1))) := by
  have hnext : z.evr.nextSeq = s.evr.nextSeq + 1 := by rw [hz]; rfl
  have hunits : z.logUnits = s.logUnits + recUnits r := by rw [hz]; exact logUnits_placed ..
  have hsnap : recUnits (z.held (z.snapRecord k r) (some z.evr.nextSeq)) = 2 := by
    change ceilDiv (recLen (z.snapRecord k r)) 4 = 2
    rw [recLen_snapRecord]
    rfl
  have hheld := hold_numbered (s := z) (e := z.snapRecord k r) (b := b) (by rw [hz]; exact hf) (by rw [hz]; exact hb) (by rw [hnext]; exact hn) (by change (67 : Nat) ∉ _; decide)
    (by rw [hz]; exact hsev) (by rw [hunits, hsnap]; omega)
  rw [hheld, State.rawSeq, hnext]

/-- Chaff stands in the log as the record that the triggers see does (R446). -/
theorem takeFresh_chaff (hfresh : s.evr.fresh = []) (h : s.flag EVR_CTL_SNAP_EN = false ∨ ∀ k : Fin 64, s.flag (EVR_SNAP_CTL_EN k.val) = false) :
    (chaffed s r).takeFresh w = logged s { r with chaff := true } := by
  rw [takeFresh_one (s := chaffed s r) (r := r) (by change s.evr.fresh ++ [r] = [r]; rw [hfresh]; rfl), snapshots_off (s := seen (chaffed s r)) h]
  exact seen_placed hfresh

/-- The record that a trigger sees is in the log, and the trigger takes what it finds there (R448). -/
theorem takeFresh_on {k : Fin 64} {z : State} (hfresh : s.evr.fresh = []) (hz : z = logged s r) (hen : s.flag EVR_CTL_SNAP_EN = true) (hk : OnlyTrigger k s)
    (hcode : s.fld (EVR_SNAP_CTL_CODE k.val) = r.ev.code) (hown : r.ev.code ≠ 0x43)
    (hsrc : s.flag (EVR_SNAP_CTL_ANY_SRC k.val) = true ∨ s.fld (EVR_SNAP_CTL_SOURCE k.val) = r.ev.source.val)
    (hafter : OnlyTrigger k (triggered z w k.val r)) : (placed s r).takeFresh w = seen (triggered z w k.val r) := by
  rw [takeFresh_one (s := placed s r) (r := r) (by rw [placed, hfresh]; rfl), seen_placed hfresh, ← hz]
  rw [snapshots_one (by rw [hz]; exact hen) (by rw [hz]; exact hk) (by rw [hz]; exact hcode) hown (by rw [hz]; exact hsrc) hafter]

/-- A trigger whose last snapshot still runs misses the record, and is counted (R448). -/
theorem takeFresh_miss {k : Fin 64} (hfresh : s.evr.fresh = []) (hen : s.flag EVR_CTL_SNAP_EN = true) (hk : OnlyTrigger k s)
    (hcode : s.fld (EVR_SNAP_CTL_CODE k.val) = r.ev.code) (hown : r.ev.code ≠ 0x43)
    (hsrc : s.flag (EVR_SNAP_CTL_ANY_SRC k.val) = true ∨ s.fld (EVR_SNAP_CTL_SOURCE k.val) = r.ev.source.val) (hw : w.getLsbD k.val = true) :
    (placed s r).takeFresh w = (logged s r).bump EVR_SNAP_MISS 1 := by
  obtain ⟨z, hz⟩ : ∃ z, z = logged s r := ⟨_, rfl⟩
  have hrun : triggered z w k.val r = z.bump EVR_SNAP_MISS 1 := if_pos hw
  have hzk : OnlyTrigger k z := by rw [hz]; exact hk
  have hafter : OnlyTrigger k (triggered z w k.val r) := fun j => by
    rw [hrun, State.bump, flag_of_fld (fld_setFld_ne _ _ (.inl (by change 0x23100 + 4 * j.val ≠ 0x23034; omega)))]
    exact hzk j
  rw [takeFresh_on hfresh hz hen hk hcode hown hsrc hafter, hrun, ← hz]
  have hseen : z.evr.fresh = [] := by rw [hz]; exact hfresh
  have hsame : ∀ u : State, u.evr.fresh = [] → seen u = u := fun u hu => by rw [seen, ← hu]
  exact hsame _ hseen

/-- A trigger that is free writes its SNAPSHOT record under the number after the record that fired it (R448). -/
theorem takeFresh_snap {k : Fin 64} {b : Nat} (hfresh : s.evr.fresh = []) (hen : s.flag EVR_CTL_SNAP_EN = true) (hk : OnlyTrigger k s)
    (hcode : s.fld (EVR_SNAP_CTL_CODE k.val) = r.ev.code) (hown : r.ev.code ≠ 0x43)
    (hsrc : s.flag (EVR_SNAP_CTL_ANY_SRC k.val) = true ∨ s.fld (EVR_SNAP_CTL_SOURCE k.val) = r.ev.source.val) (hw : w.getLsbD k.val = false)
    (hf : s.flag EVR_STS_FENCED = false) (hb : s.evr.base = some b) (hn : (s.evr.nextSeq + 1) % 2 ^ 24 ≠ 0)
    (hsev : sevCode r.ev.sev < s.fld EVR_CTL_MIRROR_SEV) (hroom : s.logUnits + recUnits r + 2 ≤ 4096) :
    ∃ x : LogRec, x.ev.code = 0x43 ∧ x.ev.sev = r.ev.sev ∧ x.ev.source.val = 145 ∧ recLen x.ev = 8 ∧ x.seq = some (s.evr.nextSeq + 1) ∧
      (placed { s with evr := { s.evr with nextSeq := s.evr.nextSeq + 1 } } r).takeFresh w =
        { s with evr := { s.evr with log := s.evr.log ++ [r, x], nextSeq := s.evr.nextSeq + 2 } } := by
  obtain ⟨z, hz⟩ : ∃ z, z = logged { s with evr := { s.evr with nextSeq := s.evr.nextSeq + 1 } } r := ⟨_, rfl⟩
  have hzseen : z = seen (placed { s with evr := { s.evr with nextSeq := s.evr.nextSeq + 1 } } r) := hz.trans (seen_placed (s := { s with evr := { s.evr with nextSeq := s.evr.nextSeq + 1 } }) hfresh).symm
  have hrun : triggered z w k.val r = _ := (if_neg (by rw [hw]; decide)).trans (snapshot_held (k := k.val) hzseen hf hb hn hsev hroom)
  have hafter : OnlyTrigger k (triggered z w k.val r) := fun j => by
    rw [hrun, hz]
    exact hk j
  refine ⟨z.held (z.snapRecord k.val r) (some (s.evr.nextSeq + 1)), rfl, rfl, rfl, recLen_snapRecord .., rfl, ?_⟩
  rw [takeFresh_on (s := { s with evr := { s.evr with nextSeq := s.evr.nextSeq + 1 } }) hfresh hz hen hk hcode hown hsrc hafter, hrun]
  generalize z.held (z.snapRecord k.val r) (some (s.evr.nextSeq + 1)) = x
  rw [seen_placed (s := { z with evr := { z.evr with nextSeq := s.evr.nextSeq + 2 } }) (by rw [hz]; exact hfresh), hz]
  have hlog : s.evr.log ++ [r, x] = (s.evr.log ++ [r]) ++ [x] := by simp
  rw [hlog]
  rfl

/-- Settles O50, along the arrival of a record: the queue, the fence, the number and the room in the log, and then the triggers. -/
theorem recordArrives : Obligations.RecordArrives := by
  unfold Obligations.RecordArrives
  intro s q c w
  refine ⟨fun own hm => answers_of (i := .recordArrival own q c w) (if_pos hm) rfl, fun hm hfresh => ⟨fun hq => ?_, fun e rest P hq => ?_, fun e hf => ?_, fun e hf => ?_, fun e hf hcode => ?_⟩⟩
  · have hrun : exec (.recordArrival none q c w) s = .next (s.takeFresh w) := (if_neg hm).trans (by rw [hq])
    exact answers_of hrun (takeFresh_nil hfresh)
  · have hrun : exec (.recordArrival none q c w) s = exec (.recordArrival (some e) q c w) { s with evr := { s.evr with inflight := rest } } :=
      (if_neg hm).trans (Eq.trans (by rw [hq]) (if_neg (show ¬ s.sys.mode = .off from hm)).symm)
    rw [Answers, Answers, hrun]
  · refine answers_of (execRecordArrival_own hm true c) ?_
    rw [arriveRecord_full, hf, if_neg (by decide), takeFresh_nil (s := s.bump (dropFld e.sev) 1) hfresh]
    exact dropped_shows s e.sev
  · have hcount : s.arriveRecord e q c = s.bump EVR_FENCED_CNT 1 := by
      have hhold : s.hold e = s.bump EVR_FENCED_CNT 1 := if_pos hf
      cases q with
      | true => rw [arriveRecord_full, if_pos hf]
      | false =>
        rw [State.arriveRecord, if_neg (by decide), hhold]
        exact if_neg (by rw [show (s.bump EVR_FENCED_CNT 1).evr = s.evr from rfl]; simp)
    refine answers_of (execRecordArrival_own hm q c) ?_
    rw [hcount, takeFresh_nil (s := s.bump EVR_FENCED_CNT 1) hfresh]
    exact fencedCount_shows s
  · refine ⟨fun hb hmark hroom hen => ?_, fun b hb hn hsev hroom => ⟨fun hoff => ⟨?_, ?_⟩, fun k hen hk hkc hown hsrc hn2 => ⟨fun hw => ?_, fun hw => ?_⟩⟩, fun b hb hn hroom => ?_⟩
    · refine answers_of (execRecordArrival_own hm false false) ?_
      rw [arriveRecord_plain, hold_unnumbered hf hb hmark hroom, takeFresh_off hfresh (.inl hen)]
      rfl
    · refine answers_of (execRecordArrival_own hm false false) ?_
      rw [arriveRecord_plain, hold_next hf hb hn hcode hsev hroom, takeFresh_off (s := { s with evr := { s.evr with nextSeq := s.evr.nextSeq + 1 } }) hfresh hoff]
      rfl
    · refine answers_of (execRecordArrival_own hm false true) ?_
      obtain ⟨u, hu⟩ : ∃ u : State, u = { s with evr := { s.evr with nextSeq := s.evr.nextSeq + 1 } } := ⟨_, rfl⟩
      have hheld := hold_next hf hb hn hcode hsev hroom
      rw [← hu] at hheld
      have hsame : u.evr.fresh = s.evr.fresh := by rw [hu]
      rw [arriveRecord_chaff (e := e) (r := s.held e (some s.evr.nextSeq)) rfl hsame hheld, takeFresh_chaff (by rw [hu]; exact hfresh) (by rw [hu]; exact hoff), hu]
      rfl
    · refine answers_of (execRecordArrival_own hm false false) ?_
      rw [arriveRecord_plain, hold_next hf hb hn hcode hsev hroom]
      obtain ⟨x, hxc, hxs, hxsrc, hxl, hxq, ht⟩ := takeFresh_snap (r := s.held e (some s.evr.nextSeq)) hfresh hen hk hkc hown hsrc hw hf hb hn2 hsev hroom
      rw [ht]
      exact ⟨⟨x, rfl, hxc, hxs, hxsrc, hxl, hxq⟩, rfl⟩
    · refine answers_of (execRecordArrival_own hm false false) ?_
      rw [arriveRecord_plain, hold_next hf hb hn hcode hsev hroom, takeFresh_miss (s := { s with evr := { s.evr with nextSeq := s.evr.nextSeq + 1 } }) (r := s.held e (some s.evr.nextSeq)) hfresh hen hk hkc hown hsrc hw]
      exact ⟨rfl, fld_bump_self _ _ _ (by decide), onlyFields_bump (onlyFields_refl ..) _ (by simp)⟩
    · refine answers_of (execRecordArrival_own hm false false) ?_
      have hheld : s.logRoom (s.held e (some s.evr.nextSeq)) = false := hroom
      rw [arriveRecord_plain, hold_takes hf hb hn, hheld, if_pos (by decide), takeFresh_nil (s := s.bump (dropFld e.sev) 1) hfresh]
      exact dropped_shows s e.sev

end

end Sys2Proof.Proofs

/-! PROOF. Registers are read and written by sideband and by the control cores: access codes, latches, the pointer and the kite; the power table burns in blank hold alone (R9, R463, R470, R474 to R477). -/

namespace Sys2Proof.Proofs

open Sys2Proof.Machine Sys2Proof.Machine.Reg Sys2Proof.Laws

-- Each kernel evaluation below waits for the checks before it: in order they need no thread each.
set_option Elab.async false

section
variable {s : State}

/-! What a write makes of a register's fields, by their access codes (R9, R463). -/

/-- The rows whose access code is RW, RO, or W1C of one bit. -/
def plainRow (r : FRow) : Bool := decide (r.fld.lo + r.fld.w ≤ 32) && (decide (r.acc = .rw) || decide (r.acc = .ro) || (decide (r.acc = .w1c) && decide (r.fld.w = 1)))

/-- What a write of `x` makes of a field that holds `old`. -/
def fieldAfter (r : FRow) (x old : Nat) : Nat :=
  match r.acc with
  | .rw => if r.vmin ≤ x ∧ x ≤ r.vmax then x else old
  | .w1c => if x = 1 then 0 else old
  | _ => old

/-- The place of a row's field in the word at an address. -/
def rowFld (a : Nat) (r : FRow) : Fld := ⟨a, r.fld.lo, r.fld.w⟩

theorem plainRow_cases {r : FRow} (h : plainRow r = true) : r.fld.lo + r.fld.w ≤ 32 ∧ (r.acc = .rw ∨ r.acc = .ro ∨ (r.acc = .w1c ∧ r.fld.w = 1)) := by
  simpa [plainRow, or_assoc] using h

/-- A W1C field of one bit: the mask clears it where the bit is written as 1, and no other bit. -/
theorem w1c_getLsbD (v w : Word) (f : Fld) (i : Nat) :
    (w &&& ~~~(v &&& fldMask f)).getLsbD i = (w.getLsbD i && (!(decide (f.lo ≤ i ∧ i < f.lo + f.w)) || !v.getLsbD i)) := by
  rw [BitVec.getLsbD_and, BitVec.getLsbD_not, BitVec.getLsbD_and, fldMask_getLsbD]
  by_cases hi : i < 32
  · by_cases hr : f.lo ≤ i ∧ i < f.lo + f.w
    · simp [hi, hr]
    · have hmask : (decide (i < 32) && decide (f.lo ≤ i) && decide (i < f.lo + f.w)) = false := by simpa [hi] using hr
      rw [hmask, decide_eq_false hr]
      simp [hi]
  · simp [BitVec.getLsbD_of_ge _ _ (Nat.le_of_not_lt hi)]

theorem fldOf_ext {w w' : Word} {f g : Fld} (h : ∀ j < g.w, w.getLsbD (f.lo + j) = w'.getLsbD (g.lo + j)) (hw : f.w = g.w) : fldOf w f = fldOf w' g := by
  apply Nat.eq_of_testBit_eq
  intro j
  rw [fldOf_testBit, fldOf_testBit, hw]
  by_cases hj : j < g.w
  · rw [h j hj]
  · simp [hj]

theorem fldOf_bit {w : Word} {f : Fld} (h : f.w = 1) : fldOf w f = (w.getLsbD f.lo).toNat := by
  rw [fldOf, h, BitVec.getLsbD, Nat.testBit_eq_decide_div_mod_eq, Nat.pow_one]
  rcases Nat.mod_two_eq_zero_or_one (w.toNat / 2 ^ f.lo) with h | h <;> simp [h]

/-- A field after a write of its own row. -/
theorem storeField_self {r : FRow} (h : plainRow r = true) (a : Nat) (v w : Word) :
    fldOf (storeField false a v w r) (rowFld a r) = fieldAfter r (fldOf v (rowFld a r)) (fldOf w (rowFld a r)) := by
  obtain ⟨hfit, hacc | hacc | ⟨hacc, hw⟩⟩ := plainRow_cases h
  · simp only [storeField, fieldAfter, hacc, Bool.and_eq_true, decide_eq_true_eq]
    change fldOf (if r.vmin ≤ fldOf v (rowFld a r) ∧ fldOf v (rowFld a r) ≤ r.vmax then fldIns w (rowFld a r) (fldOf v (rowFld a r)) else w) (rowFld a r) = _
    split
    · rw [fldOf_fldIns_same (f := rowFld a r) _ _ hfit, Nat.mod_eq_of_lt (fldOf_lt v (rowFld a r))]
    · rfl
  · simp only [storeField, fieldAfter, hacc]
  · have hbit : (rowFld a r).w = 1 := hw
    simp only [storeField, fieldAfter, hacc]
    change fldOf (w &&& ~~~(v &&& fldMask (rowFld a r))) (rowFld a r) = _
    rw [fldOf_bit hbit, fldOf_bit hbit, fldOf_bit hbit, w1c_getLsbD, hbit]
    cases v.getLsbD (rowFld a r).lo <;> cases w.getLsbD (rowFld a r).lo <;> simp

/-- A bit outside a row is as before. -/
theorem storeField_bit {r : FRow} (h : plainRow r = true) (a : Nat) (v w : Word) {i : Nat} (hi : r.acc = .ro ∨ ¬ (r.fld.lo ≤ i ∧ i < r.fld.lo + r.fld.w)) :
    (storeField false a v w r).getLsbD i = w.getLsbD i := by
  obtain ⟨-, hacc | hacc | ⟨hacc, -⟩⟩ := plainRow_cases h
  · have hout := hi.resolve_left (by rw [hacc]; decide)
    simp only [storeField, hacc]
    split
    · rw [fldIns_getLsbD, if_neg hout]
    · rfl
  · simp only [storeField, hacc]
  · have hout := hi.resolve_left (by rw [hacc]; decide)
    simp only [storeField, hacc]
    rw [w1c_getLsbD, decide_eq_false hout]
    simp

/-- Two rows with no bit in common. -/
def rowsApart (q r : FRow) : Bool := decide (q.fld.lo + q.fld.w ≤ r.fld.lo) || decide (r.fld.lo + r.fld.w ≤ q.fld.lo)

theorem storeField_apart {q r : FRow} (hq : plainRow q = true) (h : rowsApart q r = true) (a : Nat) (v w : Word) :
    fldOf (storeField false a v w q) (rowFld a r) = fldOf w (rowFld a r) := by
  refine fldOf_ext (fun j hj => storeField_bit hq a v w (.inr ?_)) rfl
  simp only [rowsApart, Bool.or_eq_true, decide_eq_true_eq] at h
  change j < r.fld.w at hj
  change ¬ (q.fld.lo ≤ r.fld.lo + j ∧ r.fld.lo + j < q.fld.lo + q.fld.w)
  omega

/-- A field after a write of the whole register. -/
theorem storeFields_row {rows : List FRow} {r : FRow} (hr : r ∈ rows) (hplain : ∀ q ∈ rows, plainRow q = true) (hnd : rows.Nodup)
    (hapart : ∀ q ∈ rows, q = r ∨ rowsApart q r = true) (a : Nat) (v w : Word) :
    fldOf (rows.foldl (storeField false a v) w) (rowFld a r) = fieldAfter r (fldOf v (rowFld a r)) (fldOf w (rowFld a r)) := by
  have hrest : ∀ l : List FRow, (∀ q ∈ l, plainRow q = true ∧ rowsApart q r = true) → ∀ w : Word, fldOf (l.foldl (storeField false a v) w) (rowFld a r) = fldOf w (rowFld a r) := by
    intro l
    induction l with
    | nil => exact fun _ _ => rfl
    | cons q l ih =>
      intro hl w
      obtain ⟨hq, hqr⟩ := hl q List.mem_cons_self
      rw [List.foldl_cons, ih (fun q' hq' => hl q' (List.mem_cons_of_mem _ hq')), storeField_apart hq hqr]
  obtain ⟨l₁, l₂, rfl⟩ := List.append_of_mem hr
  obtain ⟨-, hl₂, hdisj⟩ := List.nodup_append.mp hnd
  have hne₂ : r ∉ l₂ := (List.nodup_cons.mp hl₂).1
  rw [List.foldl_append, List.foldl_cons]
  rw [hrest l₂ (fun q hq => ?_), storeField_self (hplain r hr), hrest l₁ (fun q hq => ?_)]
  · have hmem : q ∈ l₁ ++ r :: l₂ := List.mem_append_left _ hq
    exact ⟨hplain q hmem, (hapart q hmem).resolve_left (hdisj q hq r List.mem_cons_self)⟩
  · have hmem : q ∈ l₁ ++ r :: l₂ := List.mem_append_right _ (List.mem_cons_of_mem _ hq)
    exact ⟨hplain q hmem, (hapart q hmem).resolve_left (fun h => hne₂ (h ▸ hq))⟩

/-- A write changes the bits of the rows that are not RO alone. -/
theorem storeFields_bit {rows : List FRow} (hplain : ∀ q ∈ rows, plainRow q = true) (a : Nat) (v : Word) {i : Nat}
    (hi : ∀ q ∈ rows, q.acc = .ro ∨ ¬ (q.fld.lo ≤ i ∧ i < q.fld.lo + q.fld.w)) (w : Word) : (rows.foldl (storeField false a v) w).getLsbD i = w.getLsbD i := by
  induction rows generalizing w with
  | nil => rfl
  | cons q rows ih =>
    rw [List.foldl_cons, ih (fun q' hq' => hplain q' (List.mem_cons_of_mem _ hq')) (fun q' hq' => hi q' (List.mem_cons_of_mem _ hq')),
      storeField_bit (hplain q List.mem_cons_self) a v w (hi q List.mem_cons_self)]

/-- What a write of a register whose rows are plain makes of one of its fields, and of the rest. -/
theorem storeReg_shows {rows : List FRow} {a : Nat} (hrows : rowsAt a = rows) (htaken : ∀ old w, takenAs a old w = w) (ha : a ≠ 0x9000)
    (hplain : ∀ q ∈ rows, plainRow q = true) (v : Word) :
    (∀ r ∈ rows, rows.Nodup → (∀ q ∈ rows, q = r ∨ rowsApart q r = true) → (s.storeReg a v).fld (rowFld a r) = fieldAfter r (fldOf v (rowFld a r)) (s.fld (rowFld a r))) ∧
    OnlyFields ((rows.filter (fun r => decide (r.acc ≠ .ro))).map (rowFld a)) s (s.storeReg a v) := by
  have hstore : s.storeReg a v = s.setWord a (rows.foldl (storeField false a v) (s.word a)) := by
    rw [State.storeReg, State.storeWord, hrows, htaken, if_neg (by simp [ha])]
  rw [hstore]
  refine ⟨fun r hr hnd hapart => ?_, onlyFields_setWord fun i hi => storeFields_bit hplain a v (fun q hq => ?_) _⟩
  · exact (fld_setWord_same s a _ rfl).trans (storeFields_row hr hplain hnd hapart a v _)
  · by_cases hro : q.acc = .ro
    · exact .inl hro
    · exact .inr fun h => hi (rowFld a q) (List.mem_map.mpr ⟨q, List.mem_filter.mpr ⟨hq, by simpa using hro⟩, rfl⟩) ⟨rfl, h.1, h.2⟩

/-! Harvest's control and the DRAM controller's status (Tables 11-8, 11-9). -/

def harvRows : List FRow := [⟨DCT_HARV_CTL_ENTRY_US, 1, 4, .rw, 50, 1, 65535⟩, ⟨DCT_HARV_CTL_SCRUB_H, 1, 4, .rw, 24, 1, 255⟩, ⟨DCT_HARV_CTL_RETRAIN_EN, 1, 4, .rw, 1, 0, 1⟩,
  ⟨DCT_HARV_CTL_SCRUB_EN, 1, 4, .rw, 1, 0, 1⟩, ⟨DCT_HARV_CTL_FLUSH_EN, 1, 4, .rw, 1, 0, 1⟩, ⟨DCT_HARV_CTL_HREPAIR_EN, 1, 4, .rw, 1, 0, 1⟩, ⟨DCT_HARV_CTL_EN, 1, 4, .rw, 1, 0, 1⟩]

theorem rowsAt_harv : rowsAt 0xD008 = harvRows := by decide +kernel

def dctRows : List FRow := [⟨DCT_STS_OWNER, 1, 4, .ro, 0, 0, 15⟩, ⟨DCT_STS_POSTPONED_MAX, 1, 4, .ro, 0, 0, 7⟩, ⟨DCT_STS_DOUBLE_REF, 1, 4, .ro, 0, 0, 1⟩,
  ⟨DCT_STS_HOT, 1, 4, .w1c, 0, 0, 1⟩, ⟨DCT_STS_THROTTLED, 1, 4, .ro, 0, 0, 1⟩, ⟨DCT_STS_HANDBACK_LATE, 1, 4, .w1c, 0, 0, 1⟩, ⟨DCT_STS_HANDBACK_EARLY, 1, 4, .w1c, 0, 0, 1⟩,
  ⟨DCT_STS_SPLIT, 1, 4, .w1c, 0, 0, 1⟩, ⟨DCT_STS_RETRAINING, 1, 4, .ro, 0, 0, 1⟩, ⟨DCT_STS_HARVESTING, 1, 4, .ro, 0, 0, 1⟩, ⟨DCT_STS_OWNED, 1, 4, .ro, 0, 0, 1⟩]

theorem rowsAt_dct : rowsAt 0xD004 = dctRows := by decide +kernel

theorem fieldAfter_one {f : Fld} {c d rst x old : Nat} (hx : x < 2) : fieldAfter ⟨f, c, d, .rw, rst, 0, 1⟩ x old = x := if_pos ⟨Nat.zero_le _, Nat.le_of_lt_succ hx⟩

/-- A write of DCT_HARV_CTL (Table 11-9). -/
theorem storeReg_harv (s : State) (v : Word) :
    (s.storeReg 0xD008 v).fld DCT_HARV_CTL_ENTRY_US = (if fldOf v DCT_HARV_CTL_ENTRY_US = 0 then s.fld DCT_HARV_CTL_ENTRY_US else fldOf v DCT_HARV_CTL_ENTRY_US) ∧
    (s.storeReg 0xD008 v).fld DCT_HARV_CTL_SCRUB_H = (if fldOf v DCT_HARV_CTL_SCRUB_H = 0 then s.fld DCT_HARV_CTL_SCRUB_H else fldOf v DCT_HARV_CTL_SCRUB_H) ∧
    (∀ f ∈ [DCT_HARV_CTL_EN, DCT_HARV_CTL_HREPAIR_EN, DCT_HARV_CTL_FLUSH_EN, DCT_HARV_CTL_SCRUB_EN, DCT_HARV_CTL_RETRAIN_EN], (s.storeReg 0xD008 v).fld f = fldOf v f) ∧
    OnlyFields [DCT_HARV_CTL_ENTRY_US, DCT_HARV_CTL_SCRUB_H, DCT_HARV_CTL_EN, DCT_HARV_CTL_HREPAIR_EN, DCT_HARV_CTL_FLUSH_EN, DCT_HARV_CTL_SCRUB_EN, DCT_HARV_CTL_RETRAIN_EN] s (s.storeReg 0xD008 v) := by
  obtain ⟨hrow, honly⟩ := storeReg_shows (s := s) rowsAt_harv (fun _ _ => rfl) (by decide) (by decide) v
  have hfld : ∀ r ∈ harvRows, (s.storeReg 0xD008 v).fld (rowFld 0xD008 r) = fieldAfter r (fldOf v (rowFld 0xD008 r)) (s.fld (rowFld 0xD008 r)) :=
    fun r hr => hrow r hr (by decide) (by revert r; decide)
  have hzero : ∀ (x old top : Nat), x ≤ top → (if 1 ≤ x ∧ x ≤ top then x else old) = if x = 0 then old else x := fun x old top hx => by
    by_cases h0 : x = 0
    · rw [if_neg (by omega), if_pos h0]
    · rw [if_pos ⟨by omega, hx⟩, if_neg h0]
  refine ⟨?_, ?_, fun f hf => ?_, onlyFields_mono honly (by decide)⟩
  · exact (hfld _ (.head _)).trans (hzero _ _ _ (Nat.le_of_lt_succ (fldOf_lt v DCT_HARV_CTL_ENTRY_US)))
  · exact (hfld _ (.tail _ (.head _))).trans (hzero _ _ _ (Nat.le_of_lt_succ (fldOf_lt v DCT_HARV_CTL_SCRUB_H)))
  · have hmem : ⟨f, 1, 4, .rw, 1, 0, 1⟩ ∈ harvRows ∧ f.addr = 0xD008 ∧ f.w = 1 := by
      revert f
      decide
    obtain ⟨hr, ha, hw⟩ := hmem
    have hplace : rowFld 0xD008 ⟨f, 1, 4, .rw, 1, 0, 1⟩ = f := by rw [rowFld, ← ha]
    have hf1 := hfld _ hr
    rw [hplace] at hf1
    exact hf1.trans (fieldAfter_one (by have := fldOf_lt v f; rwa [hw] at this))

/-- A write of DCT_STS (Table 11-8). -/
theorem storeReg_dct (s : State) (v : Word) :
    (∀ f ∈ [DCT_STS_HOT, DCT_STS_HANDBACK_LATE, DCT_STS_HANDBACK_EARLY, DCT_STS_SPLIT], (s.storeReg 0xD004 v).fld f = (if fldOf v f = 1 then 0 else s.fld f)) ∧
    OnlyFields [DCT_STS_HOT, DCT_STS_HANDBACK_LATE, DCT_STS_HANDBACK_EARLY, DCT_STS_SPLIT] s (s.storeReg 0xD004 v) := by
  obtain ⟨hrow, honly⟩ := storeReg_shows (s := s) rowsAt_dct (fun _ _ => rfl) (by decide) (by decide) v
  refine ⟨fun f hf => ?_, onlyFields_mono honly (by decide)⟩
  have hmem : ⟨f, 1, 4, .w1c, 0, 0, 1⟩ ∈ dctRows ∧ f.addr = 0xD004 := by
    revert f
    decide
  obtain ⟨hr, ha⟩ := hmem
  have hplace : rowFld 0xD004 ⟨f, 1, 4, .w1c, 0, 0, 1⟩ = f := by rw [rowFld, ← ha]
  have hf1 := hrow _ hr (by decide) (by revert f; decide)
  rwa [hplace] at hf1

theorem writeReg_harv (p : RegPath) (s : State) (v : Word) : s.writeReg (some p) 0xD008 v = s.storeReg 0xD008 v ∧ s.writeReg (some p) 0xD004 v = s.storeReg 0xD004 v := by
  cases p <;> exact ⟨rfl, rfl⟩

/-! Reads (R463, R474, R475). -/

theorem find_of_mem {α : Type} {p : α → Bool} {l : List α} {x : α} (hx : x ∈ l) (hp : p x = true) (huniq : ∀ y ∈ l, p y = true → y = x) : l.find? p = some x := by
  obtain ⟨y, hy⟩ := Option.isSome_iff_exists.mp (List.find?_isSome.mpr ⟨x, hx, hp⟩)
  rw [hy, huniq y (List.mem_of_find?_eq_some hy) (List.find?_some hy)]

theorem find_hiPairs_none {f : Nat × Nat → Nat} {a : Nat} (h : ∀ p ∈ hiPairs, f p ≠ a) : hiPairs.find? (fun p => decide (f p = a)) = none :=
  List.find?_eq_none.mpr fun p hp => by simpa using h p hp

theorem readLatched_plain {core : Option CoreId} {lat : SMap Word} {a : Nat} (h : ∀ p ∈ hiPairs, p.1 ≠ a ∧ p.2 ≠ a) :
    s.readLatched core false lat a = (s.readReg core a, lat) := by
  rw [State.readLatched, find_hiPairs_none (f := Prod.fst) (fun p hp => (h p hp).1), find_hiPairs_none (f := Prod.snd) (fun p hp => (h p hp).2)]

theorem readLatched_lo {core : Option CoreId} {lat : SMap Word} {p : Nat × Nat} (hp : p ∈ hiPairs) :
    s.readLatched core false lat p.1 = (s.readReg core p.1, smapPut lat p.2 (s.readReg core p.2)) := by
  have hfind : hiPairs.find? (fun q => decide (q.1 = p.1)) = some p := find_of_mem hp (by simp) (by revert p; decide)
  rw [State.readLatched, hfind]

theorem readLatched_hi {core : Option CoreId} {lat : SMap Word} {p : Nat × Nat} (hp : p ∈ hiPairs) :
    s.readLatched core false lat p.2 = ((smapFind lat p.2).getD 0, lat) := by
  have hlo : hiPairs.find? (fun q => decide (q.1 = p.2)) = none := find_hiPairs_none (f := Prod.fst) (by revert p; decide)
  have hhi : hiPairs.find? (fun q => decide (q.2 = p.2)) = some p := find_of_mem hp (by simp) (by revert p; decide)
  rw [State.readLatched, hlo, hhi]
  rfl

/-- The state with the sideband's pointer at an address. -/
def pointed (s : State) (a : Nat) : State := { s with sb := { s.sb with ptr := a } }

theorem execLoRegisterRead_sideband (h : s.sbUp = true) (a : BitVec 32) :
    exec (.loRegisterRead .sideband a) s = .next ((pointed s a.toNat).sbReadWord.2.sbEnd true (leBytes 4 (pointed s a.toNat).sbReadWord.1.toNat)) :=
  if_neg (by simp [h])

theorem execRegisterWrite_sideband (h : s.sbUp = true) (a : BitVec 32) (v : Word) :
    exec (.registerWrite .sideband a v) s = .next (((pointed s a.toNat).sbWriteWord v).sbEnd true []) :=
  if_neg (by simp [h])

theorem sbGood_false {a : Nat} (h : a % 4 ≠ 0 ∨ insideBlock a = false) : sbGood a = false := by
  rcases h with h | h <;> simp [sbGood, h]

theorem sbGood_true {a : Nat} (h : a % 4 = 0) (hin : insideBlock a = true) : sbGood a = true := by simp [sbGood, h, hin]

/-- A word at an address that is not aligned or in no block (R475). -/
theorem sbWord_bad (h : sbGood s.sb.ptr = false) (v : Word) :
    s.sbReadWord = (0xFFFFFFFF, (s.bump CFG_SB_STS_BAD_ADDR 1).sbStep) ∧ s.sbWriteWord v = (s.bump CFG_SB_STS_BAD_ADDR 1).sbStep :=
  ⟨if_pos (by simp [h]), if_pos (by simp [h])⟩

/-- A counted transfer: its counter and the sideband alone change. -/
theorem sbCounted {z : State} {f : Fld} (hf : f.lo + f.w ≤ 32) (sb : Sb) (hz : z = s.bump f 1) :
    ({ z with sb := sb } : State).fld f = min (s.fld f + 1) (2 ^ f.w - 1) ∧ OnlyFields [f] { s with sb := sb } { z with sb := sb } := by
  rw [hz]
  exact ⟨fld_bump_self s f 1 hf, onlyFields_bump (s := { s with sb := sb }) (onlyFields_refl ..) 1 (by simp)⟩

/-- A sideband transfer at a bad address reads as ones, is counted, and advances the pointer (R475). -/
theorem sideband_bad (h : s.sbUp = true) {a : BitVec 32} (hbad : a.toNat % 4 ≠ 0 ∨ insideBlock a.toNat = false) (v : Word) :
    Answers (.loRegisterRead .sideband a) s (fun t =>
      t.sb = { s.sb with out := [0xFF, 0xFF, 0xFF, 0xFF], acked := true, ptr := (a.toNat + 4) % 2 ^ 32 } ∧
      t.fld CFG_SB_STS_BAD_ADDR = min (s.fld CFG_SB_STS_BAD_ADDR + 1) 255 ∧ OnlyFields [CFG_SB_STS_BAD_ADDR] { s with sb := t.sb } t) ∧
    Answers (.registerWrite .sideband a v) s (fun t =>
      t.sb = { s.sb with out := [], acked := true, ptr := (a.toNat + 4) % 2 ^ 32 } ∧
      t.fld CFG_SB_STS_BAD_ADDR = min (s.fld CFG_SB_STS_BAD_ADDR + 1) 255 ∧ OnlyFields [CFG_SB_STS_BAD_ADDR] { s with sb := t.sb } t) := by
  obtain ⟨hread, hwrite⟩ := sbWord_bad (s := pointed s a.toNat) (sbGood_false hbad) v
  refine ⟨answers_of (execLoRegisterRead_sideband h a) ?_, answers_of (execRegisterWrite_sideband h a v) ?_⟩
  · have hones : leBytes 4 (0xFFFFFFFF : Word).toNat = [0xFF, 0xFF, 0xFF, 0xFF] := by decide
    rw [hread]
    dsimp only
    rw [hones]
    exact ⟨rfl, sbCounted (z := s.bump CFG_SB_STS_BAD_ADDR 1) (by decide) _ rfl⟩
  · rw [hwrite]
    exact ⟨rfl, sbCounted (z := s.bump CFG_SB_STS_BAD_ADDR 1) (by decide) _ rfl⟩

/-- A sideband read of a register that is served (R463, R474). -/
theorem sideband_read (h : s.sbUp = true) {a : BitVec 32} (ha : a.toNat % 4 = 0) (hin : insideBlock a.toNat = true) (hserves : s.sbServes a.toNat = true) :
    Answers (.loRegisterRead .sideband a) s (fun t =>
      t.sb.acked = true ∧ t.sb.ptr = (a.toNat + 4) % 2 ^ 32 ∧ t = { s with sb := { s.sb with ptr := t.sb.ptr, acked := t.sb.acked, out := t.sb.out, latch := t.sb.latch } } ∧
      ((∀ p ∈ hiPairs, p.1 ≠ a.toNat ∧ p.2 ≠ a.toNat) → t.sb.out = leBytes 4 (s.readReg none a.toNat).toNat ∧ t.sb.latch = s.sb.latch) ∧
      (∀ p ∈ hiPairs, p.1 = a.toNat → t.sb.out = leBytes 4 (s.readReg none a.toNat).toNat ∧ t.sb.latch = smapPut s.sb.latch p.2 (s.readReg none p.2)) ∧
      (∀ p ∈ hiPairs, p.2 = a.toNat → t.sb.out = leBytes 4 ((smapFind s.sb.latch a.toNat).getD 0).toNat ∧ t.sb.latch = s.sb.latch)) := by
  have hread : (pointed s a.toNat).sbReadWord = (((pointed s a.toNat).readLatched none false s.sb.latch a.toNat).1,
      ({ pointed s a.toNat with sb := { (pointed s a.toNat).sb with latch := ((pointed s a.toNat).readLatched none false s.sb.latch a.toNat).2 } } : State).sbStep) := by
    have hgood : sbGood a.toNat = true := sbGood_true ha hin
    rw [State.sbReadWord]
    exact (if_neg (by change ¬ (!sbGood a.toNat) = true; rw [hgood]; decide)).trans (if_neg (by change ¬ (!s.sbServes a.toNat) = true; rw [hserves]; decide))
  have hregs : ∀ b, (pointed s a.toNat).readReg none b = s.readReg none b := fun _ => rfl
  refine answers_of (execLoRegisterRead_sideband h a) ?_
  rw [hread]
  refine ⟨rfl, rfl, rfl, fun hp => ?_, fun p hp hpa => ?_, fun p hp hpa => ?_⟩
  · rw [readLatched_plain hp]
    exact ⟨rfl, rfl⟩
  · rw [← hpa, readLatched_lo hp]
    exact ⟨rfl, rfl⟩
  · rw [← hpa, readLatched_hi hp]
    exact ⟨rfl, rfl⟩

/-! A control core's accesses (R463, R477, Table 16-2). -/

theorem core_bad {c : CoreId} {a : BitVec 32} (h : s.coreRuns c = false ∨ a.toNat % 4 ≠ 0 ∨ insideBlock a.toNat = false) (v : Word) :
    Answers (.loRegisterRead (.core c) a) s (fun t => t = s) ∧ Answers (.registerWrite (.core c) a v) s (fun t => t = s) := by
  have hbad : (!s.coreRuns c || !sbGood a.toNat) = true := by
    rcases h with h | h
    · simp [h]
    · simp [sbGood_false h]
  exact ⟨answers_of (i := .loRegisterRead (.core c) a) (if_pos hbad) rfl, answers_of (i := .registerWrite (.core c) a v) (if_pos hbad) rfl⟩

theorem coreRead_plain {c : CoreId} {a : Nat} (ha : a < 0x40000) (h : ∀ p ∈ hiPairs, p.1 ≠ a ∧ p.2 ≠ a) :
    s.coreRead c a = { s with sb := { s.sb with coreOut := s.readReg (some c) a } } := by
  have hrings : inRings a = false := by
    rw [inRings, decide_eq_false (by omega)]
    rfl
  unfold State.coreRead
  rw [hrings, if_neg (by decide)]
  cases c <;> (dsimp only; rw [readLatched_plain h])

section Core
variable {c : CoreId} {a : BitVec 32} (hr : s.coreRuns c = true) (ha : a.toNat % 4 = 0) (hin : insideBlock a.toNat = true)
include hr ha hin

theorem core_good : (!s.coreRuns c || !sbGood a.toNat) = false := by simp [hr, sbGood_true ha hin]

theorem core_rings (h : 0x40000 ≤ a.toNat) : Answers (.loRegisterRead (.core c) a) s (fun t => t = s.report .coreNoKite (coreSource c) 0 0) := by
  have hrings : inRings a.toNat = true := by
    simp only [insideBlock, Bool.or_eq_true, Bool.and_eq_true, decide_eq_true_eq] at hin
    simp only [inRings, Bool.and_eq_true, decide_eq_true_eq]
    omega
  have hread : s.coreRead c a.toNat = s.report .coreNoKite (coreSource c) 0 0 := by
    unfold State.coreRead
    rw [hrings, if_pos rfl]
    rfl
  exact answers_of (i := .loRegisterRead (.core c) a) (if_neg (by rw [core_good hr ha hin]; decide)) hread

/-- A write by a core that does not hold the kite is refused (Table 16-2). -/
theorem core_noKite (h : s.holder ≠ some c ∨ s.kite.holderDead = true) (h4 : a.toNat ≠ 0x22004) (h8 : a.toNat ≠ 0x22008) (v : Word) :
    Answers (.registerWrite (.core c) a v) s (fun t => t = s.report .coreNoKite (coreSource c) 0 0) := by
  have hmay : s.mayWrite (some (.core c)) a.toNat = false := by
    have hkite : kiteReg a.toNat = false := by simp [kiteReg, h4, h8]
    rcases h with h | h <;> simp [State.mayWrite, hkite, h]
  exact answers_of (i := .registerWrite (.core c) a v) ((if_neg (by rw [core_good hr ha hin]; decide)).trans (if_neg (by rw [hmay]; decide))) rfl

end Core

/-- The paths that have the right to write the DRAM controller's registers: the sideband outside blank hold, and the core that holds the kite. -/
theorem registerWrite_taken {p : RegPath} (hp : (p = .sideband ∧ s.sbUp = true ∧ s.fld SPT_STS_SEQ ≠ 7) ∨ ∃ c, p = .core c ∧ s.coreRuns c = true ∧ s.holder = some c ∧ s.kite.holderDead = false)
    {a : BitVec 32} {v : Word} (hgood : sbGood a.toNat = true) (hfree : kiteReg a.toNat = false ∧ mailboxReg a.toNat = false ∧ ptabWord a.toNat = none ∧ inRings a.toNat = false)
    (hw : ∀ (q : RegPath) (u : State), u.writeReg (some q) a.toNat v = u.storeReg a.toNat v) {P : State → Prop}
    (hP : ∀ sb : Sb, P { s.storeReg a.toNat v with sb := sb }) : Answers (.registerWrite p a v) s P := by
  obtain ⟨hkite, hmail, hptab, hrings⟩ := hfree
  rcases hp with ⟨rfl, hup, hseq⟩ | ⟨c, rfl, hrun, hholder, hlive⟩
  · have hserves : s.sbServes a.toNat = true := by simp [State.sbServes, hseq]
    have hmay : (pointed s a.toNat).mayWrite (some .sideband) a.toNat = true := by simp [State.mayWrite, hkite]
    have hword : (pointed s a.toNat).sbWriteWord v = ((pointed s a.toNat).storeReg a.toNat v).sbStep := by
      rw [State.sbWriteWord]
      change (if !sbGood a.toNat then _ else if s.sbServes a.toNat && (pointed s a.toNat).mayWrite (some .sideband) a.toNat then ((pointed s a.toNat).writeReg (some .sideband) a.toNat v).sbStep else _) = _
      rw [hgood, hserves, hmay, hw]
      rfl
    refine answers_of (execRegisterWrite_sideband hup a v) ?_
    rw [hword]
    exact hP _
  · have hmay : s.mayWrite (some (.core c)) a.toNat = true := by simp [State.mayWrite, hkite, hmail, hptab, hrings, hholder, hlive]
    have hrunw : exec (.registerWrite (.core c) a v) s = .next (s.storeReg a.toNat v) := by
      rw [← hw (.core c) s]
      exact (if_neg (by simp [hrun, hgood])).trans (if_pos hmay)
    exact answers_of hrunw (hP (s.storeReg a.toNat v).sb)

/-! Directed transfers on the sideband (R474 to R476). -/

theorem leNat_four_lt (b0 b1 b2 b3 : Byte) : leNat [b0, b1, b2, b3] < 2 ^ 32 := by
  have h0 := b0.isLt
  have h1 := b1.isLt
  have h2 := b2.isLt
  have h3 := b3.isLt
  simp only [leNat]
  omega

/-- A word that is read leaves all but the sideband and the registers, and advances the pointer (R474). -/
theorem sbReadWord_keeps (s : State) : s.sbReadWord.2.sb.ptr = (s.sb.ptr + 4) % 2 ^ 32 ∧ s.sbReadWord.2.dram = s.dram ∧ s.sbReadWord.2.sys = s.sys ∧ s.sbReadWord.2.hbp = s.hbp := by
  rw [State.sbReadWord]
  dsimp only
  split
  · exact ⟨rfl, rfl, rfl, rfl⟩
  · split
    · exact ⟨rfl, rfl, rfl, rfl⟩
    · exact ⟨rfl, rfl, rfl, rfl⟩

theorem sbReadWords_shows (s : State) (n : Nat) : (s.sbReadWords n).1.length = 4 * n ∧ (s.sbReadWords n).2.sb.ptr = (if n = 0 then s.sb.ptr else (s.sb.ptr + 4 * n) % 2 ^ 32) ∧
    (s.sbReadWords n).2.dram = s.dram ∧ (s.sbReadWords n).2.sys = s.sys ∧ (s.sbReadWords n).2.hbp = s.hbp := by
  induction n generalizing s with
  | zero => exact ⟨rfl, rfl, rfl, rfl, rfl⟩
  | succ n ih =>
    obtain ⟨hptr, hdram, hsys, hhbp⟩ := sbReadWord_keeps s
    obtain ⟨hlen, hptrs, hdrams, hsyss, hhbps⟩ := ih s.sbReadWord.2
    rw [State.sbReadWords]
    dsimp only
    refine ⟨?_, ?_, hdrams.trans hdram, hsyss.trans hsys, hhbps.trans hhbp⟩
    · rw [List.length_append, length_leBytes, hlen]
      omega
    · rw [hptrs, hptr, if_neg (Nat.succ_ne_zero n)]
      by_cases h0 : n = 0
      · rw [if_pos h0, h0]
      · rw [if_neg h0]
        omega

section Directed
variable {addr : BitVec 7} (ha : s.sbAnswers addr.toNat = true)
include ha

theorem sbUp_of_answers : s.sbUp = true := by
  rw [State.sbAnswers, Bool.and_eq_true] at ha
  exact ha.1

theorem execSbPrivateRead_late (n : Fin 65) : exec (.sbPrivateRead addr n false) s = .next ((s.sbReadWords n.val).2.sbEnd true (s.sbReadWords n.val).1) :=
  (if_neg (by rw [ha]; decide)).trans (if_neg (by decide))

/-- A directed write of an address and one word is a write of that register (R474). -/
theorem sbPrivateWrite_word (b0 b1 b2 b3 v0 v1 v2 v3 : Byte) : exec (.sbPrivateWrite addr [b0, b1, b2, b3, v0, v1, v2, v3]) s =
    exec (.registerWrite .sideband (BitVec.ofNat 32 (leNat [b0, b1, b2, b3])) (BitVec.ofNat 32 (leNat [v0, v1, v2, v3]))) s := by
  have haddr : (BitVec.ofNat 32 (leNat [b0, b1, b2, b3])).toNat = leNat [b0, b1, b2, b3] := Nat.mod_eq_of_lt (leNat_four_lt ..)
  rw [execRegisterWrite_sideband (sbUp_of_answers ha), haddr]
  exact (if_neg (by rw [ha]; decide)).trans rfl

/-- A directed read of one word is a read of the register at the pointer (R474). -/
theorem sbPrivateRead_word (hp : s.sb.ptr < 2 ^ 32) : exec (.sbPrivateRead addr 1 false) s = exec (.loRegisterRead .sideband (BitVec.ofNat 32 s.sb.ptr)) s := by
  have haddr : (BitVec.ofNat 32 s.sb.ptr).toNat = s.sb.ptr := Nat.mod_eq_of_lt hp
  have hone : s.sbReadWords 1 = (leBytes 4 s.sbReadWord.1.toNat, s.sbReadWord.2) := Prod.ext (List.append_nil _) rfl
  rw [execLoRegisterRead_sideband (sbUp_of_answers ha), haddr, execSbPrivateRead_late ha]
  change Host.Outcome.next ((s.sbReadWords 1).2.sbEnd true (s.sbReadWords 1).1) = _
  rw [hone]
  rfl

end Directed

/-- A transfer that is counted by one of the sideband's counters. -/
theorem sbEnd_counted {f : Fld} (hf : f.lo + f.w ≤ 32) (hw : f.w = 8) (ack : Bool) (out : List Byte) :
    ((s.bump f 1).sbEnd ack out).sb = { s.sb with acked := ack, out := out } ∧ ((s.bump f 1).sbEnd ack out).fld f = min (s.fld f + 1) 255 ∧
    OnlyFields [f] { s with sb := ((s.bump f 1).sbEnd ack out).sb } ((s.bump f 1).sbEnd ack out) := by
  have h := sbCounted (s := s) hf { s.sb with acked := ack, out := out } rfl
  rw [hw] at h
  exact ⟨rfl, h⟩

theorem sbPrivateWrite_answers {addr : BitVec 7} (ha : s.sbAnswers addr.toNat = true) :
    Answers (.sbPrivateWrite addr []) s (fun t => t = { s with sb := { s.sb with acked := true, out := [] } }) ∧
    (∀ bs : List Byte, 0 < bs.length → bs.length < 4 → Answers (.sbPrivateWrite addr bs) s (fun t =>
      t.sb = { s.sb with acked := true, out := [] } ∧ t.fld CFG_SB_STS_SHORT_WR = min (s.fld CFG_SB_STS_SHORT_WR + 1) 255 ∧ OnlyFields [CFG_SB_STS_SHORT_WR] { s with sb := t.sb } t)) ∧
    (∀ b0 b1 b2 b3 : Byte, Answers (.sbPrivateWrite addr [b0, b1, b2, b3]) s (fun t =>
      t = { s with sb := { s.sb with ptr := leNat [b0, b1, b2, b3], acked := true, out := [] } })) := by
  have hrun : (!s.sbAnswers addr.toNat) = false := by rw [ha]; rfl
  refine ⟨answers_of (i := .sbPrivateWrite addr []) (if_neg (by rw [hrun]; decide)) rfl, fun bs h0 h4 => ?_, fun b0 b1 b2 b3 =>
    answers_of (i := .sbPrivateWrite addr [b0, b1, b2, b3]) (if_neg (by rw [hrun]; decide)) rfl⟩
  have hshort : exec (.sbPrivateWrite addr bs) s = .next ((s.bump CFG_SB_STS_SHORT_WR 1).sbEnd true []) := by
    refine (if_neg (by rw [hrun]; decide)).trans ?_
    match bs with
    | [] => exact absurd h0 (by decide)
    | [_] => rfl
    | [_, _] => rfl
    | [_, _, _] => rfl
    | _ :: _ :: _ :: _ :: _ => simp only [List.length_cons] at h4; omega
  exact answers_of hshort (sbEnd_counted (by decide) rfl true [])

/-! The burn of the power table (R470). -/

/-- A burn that is asked for in blank hold. -/
theorem burn_begins {v : Word} (hseq : s.fld SPT_STS_SEQ = 7) (hv : v.toNat % 65536 = 0x5054) (hb : s.flag SPT_PTAB_CTL_BURNING = false) :
    s.burn v = if s.nv.wsWritten ≠ BitVec.allOnes 40 || !ptabOk ((List.range 32).map (fun i => s.word (0x24200 + 4 * i))) ||
        ((List.range 8).map (fun i => s.word (0x24020 + 4 * i))).all (fun k => decide (k = 0))
      then (s.setFlag SPT_PTAB_CTL_REJECTED false).setFlag SPT_PTAB_CTL_REJECTED true else (s.setFlag SPT_PTAB_CTL_REJECTED false).setFlag SPT_PTAB_CTL_BURNING true := by
  have hkey : natBits v.toNat 0 16 = 0x5054 := by rw [natBits, Nat.pow_zero, Nat.div_one]; exact hv
  have hword : ∀ a, a ≠ 0x24014 → (s.setFlag SPT_PTAB_CTL_REJECTED false).word a = s.word a := fun a h => (word_setWord ..).trans (if_neg h)
  have htable : (List.range 32).map (fun i => (s.setFlag SPT_PTAB_CTL_REJECTED false).word (0x24200 + 4 * i)) = (List.range 32).map (fun i => s.word (0x24200 + 4 * i)) :=
    List.map_congr_left fun i _ => hword _ (by omega)
  have hkeys : (List.range 8).map (fun i => (s.setFlag SPT_PTAB_CTL_REJECTED false).word (0x24020 + 4 * i)) = (List.range 8).map (fun i => s.word (0x24020 + 4 * i)) :=
    List.map_congr_left fun i _ => hword _ (by omega)
  rw [State.burn, if_neg (by simp [hseq, hkey, hb])]
  dsimp only
  rw [htable, hkeys]
  rfl

/-- Settles O51, path by path: the sideband's transfers, the cores' accesses, the fields of two registers, directed transfers, and the power table's burn. -/
theorem registerPaths : Obligations.RegisterPaths := by
  unfold Obligations.RegisterPaths
  intro s a v
  refine ⟨fun h => ?_, fun h hbad => sideband_bad h hbad v, fun h ha hin hserves => sideband_read h ha hin hserves, fun c h => core_bad h v,
    fun c hr ha hin => ⟨core_rings hr ha hin, fun hlt hp => ?_, fun hk h4 h8 => core_noKite hr ha hin hk h4 h8 v⟩, fun p hp => ⟨?_, ?_⟩, fun addr bs n early h => ?_,
    fun addr ha => ?_, fun h => ?_, fun hseq hv hb => ⟨fun hbad => ?_, fun hws htable hkeys => ?_⟩⟩
  · exact ⟨answers_of (i := .loRegisterRead .sideband a) (if_pos (by simp [h])) rfl, answers_of (i := .registerWrite .sideband a v) (if_pos (by simp [h])) rfl⟩
  · exact answers_of (i := .loRegisterRead (.core c) a) (if_neg (by rw [core_good hr ha hin]; decide)) (coreRead_plain hlt hp)
  · refine registerWrite_taken hp (a := 0xD008) (by decide) (by decide) (fun q u => (writeReg_harv q u v).1) fun sb => ?_
    obtain ⟨hentry, hscrub, hflags, hrest, hbits⟩ := storeReg_harv s v
    exact ⟨hentry, hscrub, hflags, congrArg (fun u : State => { u with sb := sb }) hrest, hbits⟩
  · refine registerWrite_taken hp (a := 0xD004) (by decide) (by decide) (fun q u => (writeReg_harv q u v).2) fun sb => ?_
    obtain ⟨hflags, hrest, hbits⟩ := storeReg_dct s v
    exact ⟨hflags, congrArg (fun u : State => { u with sb := sb }) hrest, hbits⟩
  · exact ⟨answers_of (i := .sbPrivateWrite addr bs) (if_pos (by simp [h])) rfl, answers_of (i := .sbPrivateRead addr n early) (if_pos (by simp [h])) rfl⟩
  · obtain ⟨hempty, hshort, hpoint⟩ := sbPrivateWrite_answers ha
    refine ⟨hempty, hshort, hpoint, fun b0 b1 b2 b3 v0 v1 v2 v3 P => ?_, fun n => ?_, fun n => ?_, fun hp P => ?_⟩
    · rw [Answers, Answers, sbPrivateWrite_word ha]
    · exact answers_of (i := .sbPrivateRead addr n true) ((if_neg (by rw [ha]; decide)).trans (if_pos rfl)) (sbEnd_counted (by decide) rfl false [])
    · obtain ⟨hlen, hptr, hdram, hsys, hhbp⟩ := sbReadWords_shows s n.val
      have hzero : (n = 0) = (n.val = 0) := propext Fin.ext_iff
      refine answers_of (execSbPrivateRead_late ha n) ⟨rfl, hlen, ?_, hdram, hsys, hhbp⟩
      simp only [hzero]
      exact hptr
    · rw [Answers, Answers, sbPrivateRead_word ha hp]
  · exact answers_of (i := .ptabBurn v) rfl (if_pos (by
      have hkey : natBits v.toNat 0 16 = v.toNat % 65536 := by rw [natBits, Nat.pow_zero, Nat.div_one]; rfl
      rcases h with h | h | h <;> simp [h, hkey]))
  · refine answers_of (i := .ptabBurn v) rfl ?_
    rw [burn_begins hseq hv hb, if_pos (by rcases hbad with h | h | h <;> simp_all)]
    exact ⟨flag_setFlag_same _ _ (by decide) (by decide), onlyFields_setFlag (onlyFields_setFlag (onlyFields_refl ..) _ (by simp)) _ (by simp)⟩
  · refine answers_of (i := .ptabBurn v) rfl ?_
    rw [burn_begins hseq hv hb, if_neg (by simp_all)]
    refine ⟨flag_setFlag_same _ _ (by decide) (by decide), ?_, onlyFields_setFlag (onlyFields_setFlag (onlyFields_refl ..) _ (by simp)) _ (by simp)⟩
    rw [flag_setFlag_ne _ _ (by decide)]
    exact flag_setFlag_same _ _ (by decide) (by decide)

end

end Sys2Proof.Proofs

/-! PROOF. FAULT_CLEAR and FAULT_INJECT: an incident that is GONE is freed, one whose cause is present stays, and an injected one opens (R421 to R425). -/

namespace Sys2Proof.Proofs

open Sys2Proof.Machine Sys2Proof.Machine.Reg Sys2Proof.Laws

section
variable {s t : State} {e : ExecPkt}

/-! The status of a packet that completes (Table 4-2, R105, R133). -/

/-- The state that the fault collector leaves of what it does not serve. -/
def Aside (s t : State) : Prop := t.pkt = s.pkt ∧ t.sys = s.sys ∧ t.dram = s.dram ∧ t.flag SPT_KITE_GAP = s.flag SPT_KITE_GAP

theorem Aside.trans {u : State} (h : Aside s t) (h' : Aside t u) : Aside s u := by
  obtain ⟨hpkt, hsys, hdram, hgap⟩ := h
  obtain ⟨hpkt', hsys', hdram', hgap'⟩ := h'
  exact ⟨hpkt'.trans hpkt, hsys'.trans hsys, hdram'.trans hdram, hgap'.trans hgap⟩

theorem aside_of {z : Foot} (hf : Frame z s t) (hpkt : Part.pkt ∉ z.parts) (hsys : Part.sys ∉ z.parts) (hdram : Part.dram ∉ z.parts)
    (hgap : z.spares SPT_KITE_GAP.addr = true) : Aside s t :=
  ⟨hf.same .pkt hpkt, hf.same .sys hsys, hf.same .dram hdram, flag_of_fld (hf.fld _ hgap)⟩

/-- The one packet of its source that is in execution is the one that waits. -/
theorem live_one (h : OnePacket s e) : s.live e = some e := by
  have hmem : e ∈ s.pkt.exec.filter (fun x => decide (x.src = e.src)) := by
    rw [h]
    exact List.mem_singleton_self e
  have hsrc := List.mem_filter.mp hmem
  refine find_of_mem hsrc.1 (by simp) fun y hy hp => ?_
  have hyone : y ∈ s.pkt.exec.filter (fun x => decide (x.src = e.src)) := by
    simp only [Bool.and_eq_true, decide_eq_true_eq] at hp
    exact List.mem_filter.mpr ⟨hy, by simpa using hp.1.1.1⟩
  rw [h] at hyone
  exact List.mem_singleton.mp hyone

/-- Once the one packet of its source leaves execution, none of the source is left. -/
theorem exec_erase_one (h : OnePacket s e) : ∀ x ∈ s.pkt.exec.erase e, x.src ≠ e.src := by
  intro x hx hsrc
  have hone : s.pkt.exec.countP (fun x => decide (x.src = e.src)) = 1 := by
    rw [List.countP_eq_length_filter, h]
    rfl
  have hmem : e ∈ s.pkt.exec := by
    have : e ∈ s.pkt.exec.filter (fun x => decide (x.src = e.src)) := by rw [h]; exact List.mem_singleton_self e
    exact (List.mem_filter.mp this).1
  have herase := List.countP_erase (fun x : ExecPkt => decide (x.src = e.src)) s.pkt.exec e
  rw [hone, if_pos ⟨hmem, by simp⟩] at herase
  exact absurd (List.countP_eq_zero.mp herase x hx) (by simp [hsrc])

theorem complete_live (h : OnePacket s e) (code : Nat) (result : List Byte) (detail : Nat) : s.completeLive e code result detail = s.complete e code result detail := by
  rw [State.completeLive, live_one h]

/-- A packet leaves execution. -/
def leaving (s : State) (e : ExecPkt) : State := { s with pkt := { s.pkt with exec := s.pkt.exec.erase e } }

theorem ringWrites_writeStatus (s : State) (p : PostStatus) : (s.writeStatus p).pkt.ringWrites = s.pkt.ringWrites := by
  rw [State.writeStatus]
  split
  · have hpkt : (s.setBytes 0x5180 (statusBytes p 0) 8).pkt = s.pkt := (frame_setBytes s 0x5180 (statusBytes p 0) 8).same .pkt List.not_mem_nil
    generalize s.setBytes 0x5180 (statusBytes p 0) 8 = u at *
    exact congrArg Pkt.ringWrites hpkt
  · rfl

theorem ringWrites_post (s : State) (p : PostStatus) : (s.post p).pkt.ringWrites = s.pkt.ringWrites := by
  rw [State.post]
  split
  · rfl
  · exact ringWrites_writeStatus ..

/-- A packet that completes with no write of its ring waiting: its status is posted (R18, R105). -/
theorem complete_posts (hd : e.discard = false) (hw : s.pkt.ringWrites = []) (code : Nat) (result : List Byte) (detail : Nat) :
    s.complete e code result detail = ((leaving s e).journalled e code).post (execStatus e code result detail) := by
  have hj : ((leaving s e).journalled e code).pkt = (leaving s e).pkt := (frame_journalled (leaving s e) e code).same .pkt (by decide)
  have hwrites : (((leaving s e).journalled e code).post (execStatus e code result detail)).pkt.ringWrites = [] := by
    rw [ringWrites_post, hj]
    exact hw
  have hcomplete : s.complete e code result detail = (if (((leaving s e).journalled e code).post (execStatus e code result detail)).pkt.ringWrites.isEmpty
      then ((leaving s e).journalled e code).post (execStatus e code result detail) else (((leaving s e).journalled e code).post (execStatus e code result detail)).ringDrain) := by
    rw [State.complete, hd]
    rfl
  rw [hcomplete, hwrites]
  rfl

/-- A status that is posted while no gap lasts stands in the mailbox, or in its slot (Table 4-2, R105, R133). -/
theorem post_shows {p : PostStatus} (hg : s.inGap = false) (hslot : p.slot = none) :
    match p.src with
    | .mailbox => (s.post p).getBytes 0x5180 8 = statusBytes p 0 ∧ (s.post p).flag PKT_MBX_STS_BUSY = false ∧ (s.post p).flag PKT_MBX_STS_DONE = true
    | .ring r => smapFind (s.post p).pkt.slots (r.val * 16 + p.seq % 2 ^ (s.ring r.val).depth) = some (slotOf (statusBytes p (s.ring r.val).nextSeq)) := by
  split
  · next hsrc =>
    obtain ⟨hbusy, hdone, -, hbytes⟩ := post_mailbox hsrc hg
    exact ⟨hbytes, hbusy, hdone⟩
  · next r hsrc =>
    have hpost : s.post p = s.writeStatus p := by rw [State.post, hg, if_neg (by decide)]
    rw [hpost, State.writeStatus, hsrc, hslot]
    exact smapFind_put_same ..

/-- A packet that completes with its state set aside from the collector's work has the status of its source (R105, R133). -/
theorem completed_of (h : OnePacket s e) (ha : Aside s t) (code : Nat) (result : List Byte) (detail : Nat) :
    Completed s (t.completeLive e code result detail) e code result detail := by
  obtain ⟨hpkt, -, -, hgap⟩ := ha
  have hone : OnePacket t e := by rw [OnePacket, hpkt]; exact h
  rw [complete_live hone]
  refine ⟨?_, fun hd hg hw => ?_⟩
  · rw [exec_complete]
    exact exec_erase_one hone
  · rw [complete_posts hd (by rw [hpkt]; exact hw)]
    have hj := frame_journalled (leaving t e) e code
    have hjpkt : ((leaving t e).journalled e code).pkt = (leaving t e).pkt := hj.same .pkt (by decide)
    have hjgap : ((leaving t e).journalled e code).inGap = false := (flag_of_fld (hj.fld _ (by decide))).trans (hgap.trans hg)
    have hring : ∀ r, ((leaving t e).journalled e code).ring r = s.ring r := fun r => by
      have hrings : (leaving t e).pkt.rings = s.pkt.rings := (show t.pkt.rings = s.pkt.rings from congrArg Pkt.rings hpkt)
      rw [State.ring, State.ring, hjpkt, hrings]
    have hshows := post_shows (p := execStatus e code result detail) hjgap rfl
    simp only [hring] at hshows
    exact hshows

/-! FAULT_CLEAR of the one incident that is open (R421, R422). -/

/-- The state that an incident's cause gives it (R410). -/
def settledAs (s : State) (i : Incident) : Incident := { i with state := if s.causeOf i.causeGone i.first then .held else .gone }

section Clear
variable {k : Nat} {i : Incident}

theorem settle_one (hs : s.flt.slots = [(k, i)]) (hk : k < 63) (ha : s.flag FLT_CTL_AUTOCLR = false ∨ i.first.inj = true) (hsh : s.flt.shadows = []) :
    s.settle = s.putIncident k (settledAs s i) := by
  have hinc : s.incident k = some i := by rw [State.incident, hs]; exact if_pos rfl
  have hopen : s.shadowOpen i.num = false := by rw [State.shadowOpen, hsh]; rfl
  have hcause : s.incidentCause k i = s.causeOf i.causeGone i.first := by
    rw [State.incidentCause, decide_eq_false (by omega)]
    simp
  have hfold : s.settle = s.settleSlot k := by rw [State.settle, hs]; rfl
  have hfree : ((s.putIncident k (settledAs s i)).flag FLT_CTL_AUTOCLR && !i.first.inj) = false := by
    rcases ha with h | h
    · rw [show (s.putIncident k (settledAs s i)).flag FLT_CTL_AUTOCLR = s.flag FLT_CTL_AUTOCLR from rfl, h]
      rfl
    · rw [h]
      simp
  rw [hfold, State.settleSlot, hinc]
  dsimp only
  rw [hopen, if_neg (by simp), hcause]
  refine if_neg ?_
  rw [Bool.and_assoc (decide _), ]
  change ¬ ((decide _ && ((s.putIncident k (settledAs s i)).flag FLT_CTL_AUTOCLR && !i.first.inj)) && i.logOnly) = true
  rw [hfree]
  simp

theorem putIncident_one (hs : s.flt.slots = [(k, i)]) (j : Incident) : (s.putIncident k j).flt.slots = [(k, j)] := by
  change smapPut s.flt.slots k j = _
  rw [hs]
  exact (if_neg (Nat.lt_irrefl k)).trans (if_pos rfl)

/-- The one incident is listed no more, and its record is in transit. -/
def unlisted (s : State) (i : Incident) : State := { s.incidentRecord 0x0042 i 0 with flt := { s.flt with slots := [] } }

/-- The one incident is freed, with its record (R421, R422). -/
theorem freeIncident_one (hs : s.flt.slots = [(k, i)]) (hf : s.flt.fenced = []) (hl : i.first.kind ≠ .linkDown) :
    s.freeIncident k = (unlisted s i).endFences i.num := by
  have hinc : s.incident k = some i := by rw [State.incident, hs]; exact if_pos rfl
  have hdel : smapDel s.flt.slots k = [] := by
    rw [hs, smapDel]
    exact List.filter_eq_nil_iff.mpr (by simp)
  have hback : ∀ u : State, u.flt.fenced = [] → ∀ n, u.returnUnits n = u := fun u hu n => by rw [State.returnUnits, hu]; rfl
  rw [State.freeIncident, hinc]
  dsimp only
  rw [if_neg hl]
  have hslots : smapDel (s.incidentRecord 0x0042 i 0).flt.slots k = [] := hdel
  rw [hslots]
  exact congrArg (fun u : State => u.endFences i.num) (hback (unlisted s i) hf i.num)

theorem freed_shows (hs : s.flt.slots = [(k, i)]) (hf : s.flt.fenced = []) (hl : i.first.kind ≠ .linkDown) :
    (s.freeIncident k).flt.slots = [] ∧ Aside s (s.freeIncident k) ∧ (s.freeIncident k).evr.inflight.getLast?.map (fun r => r.code) = some 0x0042 := by
  rw [freeIncident_one hs hf hl]
  have hf' := frame_endFences (unlisted s i) i.num
  refine ⟨?_, ?_, ?_⟩
  · exact (congrArg Flt.slots (hf'.same .flt (by decide))).trans rfl
  · have hfirst : Aside s (unlisted s i) := ⟨rfl, rfl, rfl, rfl⟩
    exact hfirst.trans (aside_of hf' (by decide) (by decide) (by decide) (by decide))
  · have hevr := hf'.same .evr (by decide)
    have hlast : ((unlisted s i).endFences i.num).evr = (s.incidentRecord 0x0042 i 0).evr := hevr
    rw [hlast]
    change (s.evr.inflight ++ [_]).getLast?.map _ = _
    rw [List.getLast?_concat]
    rfl

end Clear

/-- FAULT_CLEAR of the one incident by its number (R421, R425). -/
theorem faultClear_one {src : PktSrc} {k : Nat} {i : Incident} (hfind : s.findExec src 0x10 = some e) (hs : s.flt.slots = [(k, i)]) (hk : k < 63)
    (ha : s.flag FLT_CTL_AUTOCLR = false) (hsh : s.flt.shadows = []) (hov : i.overtaken = false) (hn : pktField e.bytes 8 4 = i.num) (hn0 : i.num ≠ 0) :
    exec (.faultClear src) s = .next (
      if (settledAs s i).state = .gone then ((s.putIncident k (settledAs s i)).freeIncident k).completeLive e stOk (((s.putIncident k (settledAs s i)).freeIncident k).clearResult 1) noByte
      else (s.putIncident k (settledAs s i)).completeLive e stCausePresent ((s.putIncident k (settledAs s i)).clearResult 0) noByte) := by
  have hput := putIncident_one hs (settledAs s i)
  have hpick : (s.putIncident k (settledAs s i)).findIncident (fun j => decide (j.num = i.num)) = some (k, settledAs s i) := by
    rw [State.findIncident, hput]
    exact List.find?_cons_of_pos (by simp [settledAs])
  have hover : (settledAs s i).overtaken = false := hov
  change execFaultClear src s = _
  rw [execFaultClear, hfind]
  dsimp only
  rw [hn, if_neg hn0, settle_one hs hk (.inl ha) hsh]
  generalize s.putIncident k (settledAs s i) = u at *
  generalize settledAs s i = j at *
  rw [State.clearNamed, hpick]
  dsimp only
  rw [hover]
  by_cases hg : j.state = .gone
  · rw [if_pos hg, if_pos hg, if_pos hg, if_pos hg]
    rfl
  · rw [if_neg hg, if_neg hg, if_neg hg, if_neg hg]
    rfl

/-! FAULT_INJECT (R424). -/

theorem flt_logArrive {r : LogRec} (h : r.ev.code = 0x45) (u : State) : (u.logArrive r).flt = u.flt := by
  have hkeeps : ∀ u : State, u.incidentSeq r = u := fun u => by
    rw [State.incidentSeq]
    split
    · rfl
    · exact if_neg (by simp [h])
  rw [State.logArrive, hkeeps]
  rfl

/-- A number that is taken, with its mark, leaves the incidents as they are (R440). -/
theorem flt_arrivalSeq (s : State) : s.arrivalSeq.2.flt = s.flt := by
  have hmark : s.ensureMark.flt = s.flt := by
    rw [State.ensureMark]
    split
    · dsimp only
      split
      · rfl
      · split
        · exact flt_logArrive rfl _
        · rfl
    · rfl
  rw [State.arrivalSeq]
  split
  · rfl
  · exact hmark

/-- An incident as it opens (R409). -/
def opening (s : State) (m : FaultMsg) (link seq : Nat) : Incident := ⟨s.fld FLT_NEXT_INC, .acting, m, seq, s.tick, [], 0, link, false, false, .log, true, false⟩

/-- The state with the incident in its slot, before its record. -/
def opened (s : State) (k : Nat) (m : FaultMsg) (link seq : Nat) : State :=
  ((s.setFld FLT_NEXT_INC (s.fld FLT_NEXT_INC + 1)).bump FLT_CNT_OPENED 1).putIncident k (opening s m link seq)

/-- The records, the pulse, the counter and the fence of a message that opens an incident. -/
def told (u : State) (m : FaultMsg) (n : Nat) (i : Incident) : State :=
  let t := (u.incidentRecord 0x0040 i 1).pinCause m.sev
  let t := if m.sev = .critical && t.flag EVR_STS_FENCED then t.lastLog 3 m.sev m.source.val else t
  let t := if m.kind = .linkDown then t.bump CORE_CNT_LINK 1 else t
  t.claimFence m (some n)

/-- An incident opens in the first slot that is free (R409). -/
theorem openIncident_in {k : Nat} (hslot : (List.range 63).find? (fun k => (s.incident k).isNone) = some k) (m : FaultMsg) (sup : Bool) (h : SramUse) (made : Bool) (link seq : Nat) :
    s.openIncident m sup h made link seq = (told (opened s k m link seq) m (s.fld FLT_NEXT_INC) (opening s m link seq)).startReaction k m sup h made := by
  have hk : k ≠ 63 := Nat.ne_of_lt (List.mem_range.mp (List.mem_of_find?_eq_some hslot))
  have hfree : s.incident k = none := by simpa using List.find?_some hslot
  rw [State.openIncident, hslot]
  dsimp only [Option.getD_some]
  rw [if_neg hk, hfree]
  rfl

theorem firstSlot_nil (hs : s.flt.slots = []) : (List.range 63).find? (fun k => (s.incident k).isNone) = some 0 := by
  have hfree : ∀ k, s.incident k = none := fun k => by rw [State.incident, hs]; rfl
  simp only [hfree]
  rfl

/-- What the messages and records of an incident leave: the packets, the mode, the DRAM, the incidents and the next number. -/
def Recorded (s t : State) : Prop := Aside s t ∧ t.flt = s.flt ∧ t.fld FLT_NEXT_INC = s.fld FLT_NEXT_INC

theorem Recorded.trans {u : State} (h : Recorded s t) (h' : Recorded t u) : Recorded s u :=
  ⟨h.1.trans h'.1, h'.2.1.trans h.2.1, h'.2.2.trans h.2.2⟩

theorem recorded_refl (s : State) : Recorded s s := ⟨⟨rfl, rfl, rfl, rfl⟩, rfl, rfl⟩

theorem recorded_of {z : Foot} (hf : Frame z s t) (hpkt : Part.pkt ∉ z.parts) (hsys : Part.sys ∉ z.parts) (hdram : Part.dram ∉ z.parts) (hflt : Part.flt ∉ z.parts)
    (hgap : z.spares SPT_KITE_GAP.addr = true) (hnext : z.spares FLT_NEXT_INC.addr = true) : Recorded s t :=
  ⟨aside_of hf hpkt hsys hdram hgap, hf.same .flt hflt, hf.fld _ hnext⟩

/-- A write of a field outside SPT_KITE and FLT_NEXT_INC. -/
theorem recorded_setFld (s : State) {f : Fld} (hgap : SPT_KITE_GAP.addr ≠ f.addr) (hnext : FLT_NEXT_INC.addr ≠ f.addr) (v : Nat) : Recorded s (s.setFld f v) :=
  ⟨⟨rfl, rfl, rfl, flag_of_fld (fld_setFld_ne _ _ (.inl hgap))⟩, rfl, fld_setFld_ne _ _ (.inl hnext)⟩

theorem recorded_lastLog (s : State) (cause : Nat) (v : Sev) (src : Nat) : Recorded s (s.lastLog cause v src) := by
  refine ((recorded_setFld s ?_ ?_ _).trans (recorded_setFld _ (f := SPT_LASTLOG_STS_NEXT) (by decide) (by decide) _)).trans
    ((recorded_setFld _ (f := SPT_LASTLOG_STS_COUNT) (by decide) (by decide) _).trans (recorded_setFld _ (f := FLT_PIN_PULSING) (by decide) (by decide) _))
  · change 0x24000 ≠ 0x24100 + 4 * s.fld SPT_LASTLOG_STS_NEXT
    omega
  · change 0x21010 ≠ 0x24100 + 4 * s.fld SPT_LASTLOG_STS_NEXT
    omega

theorem recorded_told (u : State) (m : FaultMsg) (n : Nat) (i : Incident) : Recorded u (told u m n i) := by
  have hrecord : Recorded u (u.incidentRecord 0x0040 i 1) := recorded_of (frame_incidentRecord ..) (by decide) (by decide) (by decide) (by decide) (by decide) (by decide)
  have hpin : Recorded (u.incidentRecord 0x0040 i 1) ((u.incidentRecord 0x0040 i 1).pinCause m.sev) :=
    recorded_of (frame_pinCause ..) (by decide) (by decide) (by decide) (by decide) (by decide) (by decide)
  have hlog : ∀ t : State, Recorded t (if m.sev = .critical && t.flag EVR_STS_FENCED then t.lastLog 3 m.sev m.source.val else t) := fun t => by
    split
    · exact recorded_lastLog ..
    · exact recorded_refl t
  have hlink : ∀ t : State, Recorded t (if m.kind = .linkDown then t.bump CORE_CNT_LINK 1 else t) := fun t => by
    split
    · exact recorded_setFld t (f := CORE_CNT_LINK) (by decide) (by decide) _
    · exact recorded_refl t
  have hclaim : ∀ t : State, Recorded t (t.claimFence m (some n)) := fun t =>
    recorded_of (frame_claimFence ..) (by decide) (by decide) (by decide) (by decide) (by decide) (by decide)
  exact (hrecord.trans hpin).trans (((hlog _).trans (hlink _)).trans (hclaim _))

/-- An injected incident is GONE as it settles (R424). -/
theorem settleSlot_injected {k : Nat} {i : Incident} (hi : s.incident k = some i) (hinj : i.first.inj = true) (hk : k ≠ 63) (hsh : s.flt.shadows = []) :
    s.settleSlot k = s.putIncident k { i with state := .gone } := by
  have hopen : s.shadowOpen i.num = false := by rw [State.shadowOpen, hsh]; rfl
  have hcause : s.incidentCause k i = false := by
    rw [State.incidentCause, State.causeOf, hinj, decide_eq_false hk]
    rfl
  rw [State.settleSlot, hi]
  dsimp only
  rw [hopen, hcause, hinj, if_neg (by simp)]
  exact if_neg (by simp)

/-- The state as an injected message is taken (R424). -/
def injected (s : State) (m : FaultMsg) (link seq : Nat) : State :=
  (told (opened s 0 m link seq) m (s.fld FLT_NEXT_INC) (opening s m link seq)).putIncident 0 { opening s m link seq with state := .gone }

theorem openIncident_injected (hs : s.flt.slots = []) (hsh : s.flt.shadows = []) {m : FaultMsg} (hinj : m.inj = true) (h : SramUse) (made : Bool) (link seq : Nat) :
    s.openIncident m true h made link seq = injected s m link seq := by
  obtain ⟨-, hflt, -⟩ := recorded_told (opened s 0 m link seq) m (s.fld FLT_NEXT_INC) (opening s m link seq)
  have hopened : (opened s 0 m link seq).flt = { s.flt with slots := [(0, opening s m link seq)] } := by
    change ({ s.flt with slots := smapPut s.flt.slots 0 (opening s m link seq) } : Flt) = _
    rw [hs]
    rfl
  rw [hopened] at hflt
  have hinc : (told (opened s 0 m link seq) m (s.fld FLT_NEXT_INC) (opening s m link seq)).incident 0 = some (opening s m link seq) := by
    rw [State.incident, hflt]
    rfl
  rw [openIncident_in (firstSlot_nil hs), State.startReaction, hinc]
  dsimp only
  rw [hinj, if_pos (by decide)]
  exact settleSlot_injected hinc hinj (by decide) (by rw [hflt]; exact hsh)

theorem aside_setFld (s : State) {f : Fld} (hgap : SPT_KITE_GAP.addr ≠ f.addr) (v : Nat) : Aside s (s.setFld f v) :=
  ⟨rfl, rfl, rfl, flag_of_fld (fld_setFld_ne _ _ (.inl hgap))⟩

theorem aside_putIncident (s : State) (k : Nat) (i : Incident) : Aside s (s.putIncident k i) := ⟨rfl, rfl, rfl, rfl⟩

/-- What an injected message leaves: one incident that is GONE, under the next number (R424). -/
theorem injected_shows (hs : s.flt.slots = []) (m : FaultMsg) (link seq : Nat) :
    (injected s m link seq).flt.slots = [(0, { opening s m link seq with state := .gone })] ∧ (injected s m link seq).flt.shadows = s.flt.shadows ∧
    Aside s (injected s m link seq) ∧ (injected s m link seq).fld FLT_NEXT_INC = (s.fld FLT_NEXT_INC + 1) % 2 ^ 32 := by
  obtain ⟨haside, hflt, hnext⟩ := recorded_told (opened s 0 m link seq) m (s.fld FLT_NEXT_INC) (opening s m link seq)
  have hopened : Aside s (opened s 0 m link seq) ∧ (opened s 0 m link seq).fld FLT_NEXT_INC = (s.fld FLT_NEXT_INC + 1) % 2 ^ 32 := by
    refine ⟨?_, ?_⟩
    · exact ((aside_setFld s (f := FLT_NEXT_INC) (by decide) _).trans (aside_setFld _ (f := FLT_CNT_OPENED) (by decide) _)).trans (aside_putIncident ..)
    · have hopen : ∀ u : State, (u.bump FLT_CNT_OPENED 1).fld FLT_NEXT_INC = u.fld FLT_NEXT_INC := fun u => fld_setFld_ne _ _ (by decide)
      exact (hopen _).trans (fld_setFld_same s _ (by decide))
  have hslots : (opened s 0 m link seq).flt.slots = [(0, opening s m link seq)] := by
    change smapPut s.flt.slots 0 (opening s m link seq) = _
    rw [hs]
    rfl
  have hshadows : (opened s 0 m link seq).flt.shadows = s.flt.shadows := rfl
  rw [injected]
  generalize told (opened s 0 m link seq) m (s.fld FLT_NEXT_INC) (opening s m link seq) = u at *
  refine ⟨?_, ?_, hopened.1.trans (haside.trans (aside_putIncident ..)), hnext.trans hopened.2⟩
  · exact putIncident_one (by rw [hflt]; exact hslots) _
  · exact (congrArg Flt.shadows hflt).trans hshadows

/-- With no incident open and nothing shadowed, an injected message opens one (R408, R424). -/
theorem placeMessage_injected (hs : s.flt.slots = []) (hsh : s.flt.shadows = []) (hb : s.flag FLT_STS_BYPASS = false) {m : FaultMsg} (hinj : m.inj = true) (h : SramUse) (seq : Nat) :
    s.placeMessage m true h true seq = injected s m 0 seq := by
  have hnone : ∀ p, s.findIncident p = none := fun p => by rw [State.findIncident, hs]; rfl
  have hshadow : ∀ p, newestShadow p s.flt.shadows = none := fun p => by rw [hsh]; rfl
  have hfirst : (if m.inj then none else s.findIncident (fun i => i.first.inj && decide (i.first.source = m.source))) = none := if_pos hinj
  have hcover : (if neverShadowed m.kind then none else newestShadow (fun x => (s.covers x m.source.val m.kind).1 && (s.covers x m.source.val m.kind).2) s.flt.shadows) = none := by
    rw [hshadow]
    exact ite_self _
  have hpace : (if m.kind = .dirtyTapOverrun then s.findIncident (fun i => decide (i.first.kind = .paceLow)) else none) = none := by
    rw [hnone]
    exact ite_self _
  rw [State.placeMessage, hb, if_neg (by decide), hnone, hfirst, hcover, hpace, hshadow]
  exact openIncident_injected hs hsh hinj h true _ seq

/-- What an accepted FAULT_INJECT with its reaction suppressed makes of the collector (R424). -/
theorem arrive_injected (hs : s.flt.slots = []) (hsh : s.flt.shadows = []) (hb : s.flag FLT_STS_BYPASS = false) {m : FaultMsg} (hinj : m.inj = true)
    (hsev : m.sev = .critical ∨ m.sev = .fault) (h : SramUse) :
    ∃ i : Incident, (s.arrive m true h true).flt.slots = [(0, i)] ∧ i.first = m ∧ i.state = .gone ∧ i.num = s.fld FLT_NEXT_INC ∧
      (s.arrive m true h true).flt.shadows = [] ∧ Aside s (s.arrive m true h true) ∧ (s.arrive m true h true).fld FLT_NEXT_INC = (s.fld FLT_NEXT_INC + 1) % 2 ^ 32 := by
  have hf := frame_arrivalSeq s
  have hflt := flt_arrivalSeq s
  have haside : Aside s s.arrivalSeq.2 := aside_of hf (by decide) (by decide) (by decide) (by decide)
  have hnext : s.arrivalSeq.2.fld FLT_NEXT_INC = s.fld FLT_NEXT_INC := hf.fld _ (by decide)
  have hbypass : s.arrivalSeq.2.flag FLT_STS_BYPASS = false := (flag_of_fld (hf.fld _ (by decide))).trans hb
  have harrive : s.arrive m true h true = if m.source.val = 144 && unitKind m.kind then (s.arrivalSeq.2.placeMessage m true h true s.arrivalSeq.1).setFlag FLT_STS_BYPASS true
      else s.arrivalSeq.2.placeMessage m true h true s.arrivalSeq.1 :=
    if_neg (by rcases hsev with h | h <;> simp [h])
  generalize s.arrivalSeq.1 = n at *
  generalize s.arrivalSeq.2 = u at *
  rw [placeMessage_injected (by rw [hflt]; exact hs) (by rw [hflt]; exact hsh) hbypass hinj] at harrive
  obtain ⟨hslots, hshadows, hkeeps, hnum⟩ := injected_shows (s := u) (by rw [hflt]; exact hs) m 0 n
  rw [harrive]
  have hshadows' : (injected u m 0 n).flt.shadows = [] := by rw [hshadows, hflt, hsh]
  rw [hnext] at hnum
  refine ⟨{ opening u m 0 n with state := .gone }, ?_, rfl, rfl, hnext, ?_⟩
  · split
    · exact hslots
    · exact hslots
  · split
    · exact ⟨hshadows', (haside.trans hkeeps).trans (aside_setFld _ (f := FLT_STS_BYPASS) (by decide) _), (fld_setFld_ne _ _ (by decide)).trans hnum⟩
    · exact ⟨hshadows', haside.trans hkeeps, hnum⟩

theorem execFaultInject_of {src : PktSrc} {k : FaultKind} (hfind : s.findExec src 0x11 = some e) (hbad : s.injectBad e = none) (hk : kindOfCode (pktField e.bytes 10 1) = some k)
    (hsup : natBits (pktField e.bytes 14 1) 0 1 = 1) : exec (.faultInject src) s =
      .next ((s.arrive (injectMessage e k) true (.other (Fin.ofNat 148 (injectMessage e k).source.val)) true).settle.completeLive e stOk
        (leBytes 4 (s.tookMessage (s.arrive (injectMessage e k) true (.other (Fin.ofNat 148 (injectMessage e k).source.val)) true))) noByte) := by
  change execFaultInject src s = _
  rw [execFaultInject, hfind]
  dsimp only
  rw [hbad, hk]
  dsimp only
  rw [decide_eq_true hsup]

/-- FAULT_INJECT with its reaction suppressed opens one incident, which is GONE (R424). -/
theorem faultInject_opens {src : PktSrc} {k : FaultKind} (hfind : s.findExec src 0x11 = some e) (hone : OnePacket s e) (hbad : s.injectBad e = none)
    (hk : kindOfCode (pktField e.bytes 10 1) = some k) (hsup : natBits (pktField e.bytes 14 1) 0 1 = 1) (hs : s.flt.slots = []) (hsh : s.flt.shadows = [])
    (hb : s.flag FLT_STS_BYPASS = false) : Answers (.faultInject src) s (fun t =>
      (∃ i, t.flt.slots = [(0, i)] ∧ i.first = injectMessage e k ∧ i.state = .gone ∧ i.num = s.fld FLT_NEXT_INC) ∧
      Completed s t e stOk (leBytes 4 (s.fld FLT_NEXT_INC)) noByte ∧ t.sys = s.sys ∧ t.dram = s.dram) := by
  have hrun := execFaultInject_of hfind hbad hk hsup
  have hsev : (injectMessage e k).sev = .critical ∨ (injectMessage e k).sev = .fault := by
    change (if _ then Sev.critical else Sev.fault) = _ ∨ (if _ then Sev.critical else Sev.fault) = _
    split
    · exact .inl rfl
    · exact .inr rfl
  obtain ⟨i, hslots, hfirst, hgone, hnum, hshadows, haside, hnext⟩ :=
    arrive_injected hs hsh hb (m := injectMessage e k) rfl hsev (.other (Fin.ofNat 148 (injectMessage e k).source.val))
  generalize s.arrive (injectMessage e k) true (.other (Fin.ofNat 148 (injectMessage e k).source.val)) true = u at *
  have htook : s.tookMessage u = s.fld FLT_NEXT_INC := by
    have hlt := fld_lt s FLT_NEXT_INC
    have hw : FLT_NEXT_INC.w = 32 := rfl
    rw [hw] at hlt
    exact if_pos (by rw [hnext]; omega)
  have hinj : i.first.inj = true := by rw [hfirst]; rfl
  have hsettled : settledAs u i = i := by
    have hcause : u.causeOf i.causeGone i.first = false := by rw [State.causeOf, hinj]; rfl
    rw [settledAs, hcause, if_neg (by decide), ← hgone]
  rw [htook, settle_one hslots (by decide) (.inr hinj) hshadows, hsettled] at hrun
  have hput := putIncident_one hslots i
  have haput := haside.trans (aside_putIncident u 0 i)
  generalize u.putIncident 0 i = v at *
  have hf := frame_completeLive v e stOk (leBytes 4 (s.fld FLT_NEXT_INC)) noByte
  obtain ⟨-, hsys, hdram, -⟩ := id haput
  exact answers_of hrun ⟨⟨i, (congrArg Flt.slots (hf.same .flt (by decide))).trans hput, hfirst, hgone, hnum⟩, completed_of hone haput .., (hf.same .sys (by decide)).trans hsys,
    (hf.same .dram (by decide)).trans hdram⟩

/-- FAULT_CLEAR of an incident whose cause is over frees it, and of one whose cause is present does not (R421, R422). -/
theorem faultClear_named {src : PktSrc} {k : Nat} {i : Incident} (hfind : s.findExec src 0x10 = some e) (hone : OnePacket s e) (hs : s.flt.slots = [(k, i)]) (hk : k < 63)
    (ha : s.flag FLT_CTL_AUTOCLR = false) (hfen : s.flt.fenced = []) (hsh : s.flt.shadows = []) (hov : i.overtaken = false) (hn : pktField e.bytes 8 4 = i.num) (hn0 : i.num ≠ 0)
    (hl : i.first.kind ≠ .linkDown) :
    (s.causeOf i.causeGone i.first = false → Answers (.faultClear src) s (fun t =>
      t.flt.slots = [] ∧ Completed s t e stOk (leBytes 4 1 ++ leBytes 4 0) noByte ∧
      t.evr.inflight.getLast?.map (fun r => r.code) = some 0x0042 ∧ t.sys = s.sys ∧ t.dram = s.dram)) ∧
    (s.causeOf i.causeGone i.first = true → Answers (.faultClear src) s (fun t =>
      t.flt.slots = [(k, { i with state := .held })] ∧ Completed s t e stCausePresent (leBytes 4 0 ++ leBytes 4 1) noByte ∧
      t.evr = s.evr ∧ t.sys = s.sys ∧ t.dram = s.dram)) := by
  have hrun := faultClear_one hfind hs hk ha hsh hov hn hn0
  have hput := putIncident_one hs (settledAs s i)
  have haside := aside_putIncident s k (settledAs s i)
  have hfenced : (s.putIncident k (settledAs s i)).flt.fenced = [] := hfen
  have hevr : (s.putIncident k (settledAs s i)).evr = s.evr := rfl
  have hkind : (settledAs s i).first.kind ≠ .linkDown := hl
  refine ⟨fun hc => ?_, fun hc => ?_⟩
  · have hgone : (settledAs s i).state = .gone := if_neg (by simp [hc])
    rw [if_pos hgone] at hrun
    generalize s.putIncident k (settledAs s i) = u at *
    obtain ⟨hslots, hafter, hlast⟩ := freed_shows hput hfenced hkind
    have haall := haside.trans hafter
    generalize u.freeIncident k = v at *
    have hresult : v.clearResult 1 = leBytes 4 1 ++ leBytes 4 0 := by rw [State.clearResult, hslots]; rfl
    rw [hresult] at hrun
    have hf := frame_completeLive v e stOk (leBytes 4 1 ++ leBytes 4 0) noByte
    obtain ⟨-, hsys, hdram, -⟩ := id haall
    refine answers_of hrun ⟨(congrArg Flt.slots (hf.same .flt (by decide))).trans hslots, completed_of hone haall .., ?_, (hf.same .sys (by decide)).trans hsys, (hf.same .dram (by decide)).trans hdram⟩
    rw [show (v.completeLive e stOk (leBytes 4 1 ++ leBytes 4 0) noByte).evr = v.evr from hf.same .evr (by decide)]
    exact hlast
  · have hheld : settledAs s i = { i with state := .held } := by rw [settledAs, hc, if_pos rfl]
    rw [if_neg (by simp [hheld])] at hrun
    generalize s.putIncident k (settledAs s i) = u at *
    rw [hheld] at hput
    have hresult : u.clearResult 0 = leBytes 4 0 ++ leBytes 4 1 := by rw [State.clearResult, hput]; rfl
    rw [hresult] at hrun
    have hf := frame_completeLive u e stCausePresent (leBytes 4 0 ++ leBytes 4 1) noByte
    obtain ⟨-, hsys, hdram, -⟩ := id haside
    exact answers_of hrun ⟨(congrArg Flt.slots (hf.same .flt (by decide))).trans hput, completed_of hone haside .., (hf.same .evr (by decide)).trans hevr,
      (hf.same .sys (by decide)).trans hsys, (hf.same .dram (by decide)).trans hdram⟩

/-- Settles O48: FAULT_CLEAR by the cause of the named incident, FAULT_INJECT by what R424 refuses. -/
theorem faultOpcodes : Obligations.FaultOpcodes := by
  unfold Obligations.FaultOpcodes
  refine fun s src => ⟨fun hnone => ?_, fun e k i hfind hone hs hk ha hfen hsh hov hn hn0 hl => faultClear_named hfind hone hs hk ha hfen hsh hov hn hn0 hl,
    fun hnone => ?_, fun e b hfind hbad => ?_, fun e k hfind hone hbad hk hsup hs hsh hb => faultInject_opens hfind hone hbad hk hsup hs hsh hb⟩
  · have hrun : exec (.faultClear src) s = .next s := by
      change execFaultClear src s = _
      rw [execFaultClear, hnone]
    exact answers_of hrun rfl
  · have hrun : exec (.faultInject src) s = .next s := by
      change execFaultInject src s = _
      rw [execFaultInject, hnone]
    exact answers_of hrun rfl
  · have hrun : exec (.faultInject src) s = .next (s.complete e stNotPermitted [] (atByte b)) := by
      change execFaultInject src s = _
      rw [execFaultInject, hfind]
      dsimp only
      rw [hbad]
    exact answers_of hrun rfl

end

end Sys2Proof.Proofs

/-! PROOF. Units in fault: error pairs and levels, shadows that close, causes that end, FLT_PIN and the self-check (R403 to R420). -/

namespace Sys2Proof.Proofs

open Sys2Proof.Machine Sys2Proof.Machine.Reg Sys2Proof.Laws

-- Each kernel evaluation below waits for the checks before it: in order they need no thread each.
set_option Elab.async false

section
variable {s t : State} {m : FaultMsg}

/-! What an incident's opening writes beside the incident (R409, R419). -/

/-- The registers below the recorder's that a message to the collector may write: FLT_STS, FLT_PIN, FLT_NEXT_INC, FLT_CNT and CORE_CNT. -/
def collectorRegs : List Nat := [0x21004, 0x21008, 0x21010, 0x21014, 0x2200C]

/-- The mode, the DRAM and the registers that a message to the collector leaves. -/
def Calm (s t : State) : Prop := t.sys = s.sys ∧ t.dram = s.dram ∧ ∀ a < 0x23000, a ∉ collectorRegs → t.word a = s.word a

theorem Calm.trans {u : State} (h : Calm s t) (h' : Calm t u) : Calm s u := by
  obtain ⟨hsys, hdram, hregs⟩ := h
  obtain ⟨hsys', hdram', hregs'⟩ := h'
  exact ⟨hsys'.trans hsys, hdram'.trans hdram, fun a ha hn => (hregs' a ha hn).trans (hregs a ha hn)⟩

theorem calm_refl (s : State) : Calm s s := ⟨rfl, rfl, fun _ _ _ => rfl⟩

theorem calm_of {ps : List Part} {as : List Nat} (hf : Frame ⟨ps, some as⟩ s t) (hsys : Part.sys ∉ ps) (hdram : Part.dram ∉ ps)
    (has : ∀ x ∈ as, x ≠ highRegs ∧ (x ∈ collectorRegs ∨ 0x23000 ≤ x)) : Calm s t := by
  refine ⟨hf.same .sys hsys, hf.same .dram hdram, fun a ha hn => hf.word a (Foot.spares_of_notMem (fun hm => ?_) (fun hm => (has _ hm).1 rfl))⟩
  rcases (has a hm).2 with h | h
  · exact hn h
  · omega

theorem calm_setFld (s : State) {f : Fld} (h : f.addr ∈ collectorRegs ∨ 0x23000 ≤ f.addr) (v : Nat) : Calm s (s.setFld f v) := by
  refine ⟨rfl, rfl, fun a ha hn => (word_setWord ..).trans (if_neg fun he => ?_)⟩
  rcases h with h | h
  · exact hn (he ▸ h)
  · omega

theorem calm_putIncident (s : State) (k : Nat) (i : Incident) : Calm s (s.putIncident k i) := ⟨rfl, rfl, fun _ _ _ => rfl⟩

theorem calm_lastLog (s : State) (cause : Nat) (v : Sev) (src : Nat) : Calm s (s.lastLog cause v src) :=
  (((calm_setFld s (.inr (by change 0x23000 ≤ 0x24100 + 4 * s.fld SPT_LASTLOG_STS_NEXT; omega)) _).trans (calm_setFld _ (f := SPT_LASTLOG_STS_NEXT) (by decide) _)).trans
    (calm_setFld _ (f := SPT_LASTLOG_STS_COUNT) (by decide) _)).trans (calm_setFld _ (f := FLT_PIN_PULSING) (by decide) _)

theorem calm_told (u : State) (m : FaultMsg) (n : Nat) (i : Incident) : Calm u (told u m n i) := by
  have hrecord : Calm u (u.incidentRecord 0x0040 i 1) := calm_of (frame_incidentRecord ..) (by decide) (by decide) (by decide)
  have hpin : Calm (u.incidentRecord 0x0040 i 1) ((u.incidentRecord 0x0040 i 1).pinCause m.sev) := calm_of (frame_pinCause ..) (by decide) (by decide) (by decide)
  have hlog : ∀ t : State, Calm t (if m.sev = .critical && t.flag EVR_STS_FENCED then t.lastLog 3 m.sev m.source.val else t) := fun t => by
    split
    · exact calm_lastLog ..
    · exact calm_refl t
  have hlink : ∀ t : State, Calm t (if m.kind = .linkDown then t.bump CORE_CNT_LINK 1 else t) := fun t => by
    split
    · exact calm_setFld t (f := CORE_CNT_LINK) (by decide) _
    · exact calm_refl t
  have hclaim : ∀ t : State, Calm t (t.claimFence m (some n)) := fun t => calm_of (frame_claimFence ..) (by decide) (by decide) (by decide)
  exact (hrecord.trans hpin).trans (((hlog _).trans (hlink _)).trans (hclaim _))

theorem calm_opened (s : State) (k : Nat) (m : FaultMsg) (link seq : Nat) : Calm s (opened s k m link seq) :=
  ((calm_setFld s (f := FLT_NEXT_INC) (by decide) _).trans (calm_setFld _ (f := FLT_CNT_OPENED) (by decide) _)).trans (calm_putIncident ..)

/-! A message whose reaction is LOG, and whose cause is present, opens an incident that is HELD (R409 to R413). -/

/-- The reaction of a message is LOG, whatever the collector has written. -/
def ReactsLog (s : State) (m : FaultMsg) : Prop := ∀ v : State, Calm s v → ∀ (n : Nat) (h : SramUse) (made : Bool), v.react n m h made = (v, .log, false)

/-- The cause of a message is present as long as the levels and pairs that the collector keeps stand. -/
def CauseKept (s : State) (m : FaultMsg) : Prop := ∀ v : State, v.flt.errLines = s.flt.errLines → v.flt.pairLines = s.flt.pairLines → v.causeOf false m = true

theorem smapPut_put {α : Type} (l : SMap α) (k : Nat) (x y : α) : smapPut (smapPut l k x) k y = smapPut l k y := by
  induction l with
  | nil => simp [smapPut]
  | cons p l ih =>
    obtain ⟨j, z⟩ := p
    rcases Nat.lt_trichotomy k j with h | h | h
    · simp [smapPut, h]
    · simp [smapPut, h]
    · simp [smapPut, Nat.not_lt.mpr (Nat.le_of_lt h), Nat.ne_of_gt h, ih]

/-- An incident as it is HELD under LOG. -/
def heldUnderLog (i : Incident) (logs : Bool) : Incident := { i with state := .held, react := .log, subst := i.subst || false, logOnly := logs }

theorem startReaction_log {u : State} {k : Nat} {i : Incident} (hi : u.incident k = some i) (hfirst : i.first = m) (hinj : m.inj = false) (hgone : i.causeGone = false)
    (hsh : u.flt.shadows = []) {h : SramUse} {made : Bool} (hreact : u.react i.num m h made = (u, .log, false)) (hcause : ∀ j : Incident, (u.putIncident k j).causeOf false m = true) :
    u.startReaction k m false h made = (u.putIncident k { i with state := .acting, react := .log, subst := i.subst || false, logOnly := u.logsOnly m .log false }).putIncident k
      (heldUnderLog i (u.logsOnly m .log false)) := by
  have hfree : ∀ n, (u.putIncident k { i with state := .acting, react := .log, subst := i.subst || false, logOnly := u.logsOnly m .log false }).shadowOpen n = false := fun n => by
    change u.flt.shadows.any _ = false
    rw [hsh]
    rfl
  have hplace : ∀ j : Incident, (u.putIncident k j).incident k = some j := fun j => smapFind_put_same ..
  rw [State.startReaction, hi]
  dsimp only
  rw [hinj, if_neg (by decide), hreact]
  dsimp only
  rw [hi]
  dsimp only
  rw [decide_eq_true hfirst, Bool.true_or, Bool.and_true]
  simp only [if_true]
  rw [State.settleSlot, hplace]
  dsimp only
  rw [hfree, if_neg (by simp)]
  have hpresent : ∀ j : Incident, (u.putIncident k j).causeOf i.causeGone i.first = true := fun j => by rw [hgone, hfirst]; exact hcause j
  rw [State.incidentCause]
  dsimp only
  rw [hpresent]
  rfl

/-- A message that opens an incident under LOG (R409 to R413). -/
theorem openIncident_log {k : Nat} (hslot : (List.range 63).find? (fun k => (s.incident k).isNone) = some k) (hsh : s.flt.shadows = []) (hinj : m.inj = false)
    (hreact : ReactsLog s m) (hcause : CauseKept s m) (h : SramUse) (made : Bool) (link seq : Nat) :
    ∃ i : Incident, i.first = m ∧ i.state = .held ∧ i.causeGone = false ∧
      (s.openIncident m false h made link seq).flt = { s.flt with slots := smapPut s.flt.slots k i } ∧ Calm s (s.openIncident m false h made link seq) := by
  obtain ⟨-, hflt, -⟩ := recorded_told (opened s k m link seq) m (s.fld FLT_NEXT_INC) (opening s m link seq)
  have hcalm := (calm_opened s k m link seq).trans (calm_told (opened s k m link seq) m (s.fld FLT_NEXT_INC) (opening s m link seq))
  have hopened : (opened s k m link seq).flt = { s.flt with slots := smapPut s.flt.slots k (opening s m link seq) } := rfl
  rw [hopened] at hflt
  rw [openIncident_in hslot]
  generalize told (opened s k m link seq) m (s.fld FLT_NEXT_INC) (opening s m link seq) = u at *
  have hinc : u.incident k = some (opening s m link seq) := by
    rw [State.incident, hflt]
    exact smapFind_put_same ..
  have herr : u.flt.errLines = s.flt.errLines := by rw [hflt]
  have hpair : u.flt.pairLines = s.flt.pairLines := by rw [hflt]
  have hstart := startReaction_log (m := m) (h := h) (made := made) hinc rfl hinj rfl (by rw [hflt]; exact hsh) (hreact u hcalm _ h made)
    (fun j => hcause (u.putIncident k j) herr hpair)
  rw [hstart]
  refine ⟨heldUnderLog (opening s m link seq) (u.logsOnly m .log false), rfl, rfl, rfl, ?_, (hcalm.trans (calm_putIncident ..)).trans (calm_putIncident ..)⟩
  change ({ u.flt with slots := smapPut (smapPut u.flt.slots k _) k (heldUnderLog (opening s m link seq) (u.logsOnly m .log false)) } : Flt) = _
  rw [hflt, smapPut_put]
  dsimp only
  rw [smapPut_put]

/-- A message that no incident, shadow or pace takes opens one of its own, with BYPASS set or not (R408, R417). -/
theorem placeMessage_opens (hother : ∀ x ∈ s.flt.slots, x.2.first.kind ≠ m.kind ∧ x.2.first.inj = false) (hsh : s.flt.shadows = []) (hk : m.kind ≠ .dirtyTapOverrun)
    (sup : Bool) (h : SramUse) (made : Bool) (seq : Nat) : ∃ link, s.placeMessage m sup h made seq = s.openIncident m sup h made link seq := by
  have hsame : s.findIncident (fun i => decide (i.first.source = m.source) && decide (i.first.kind = m.kind) && decide (i.first.inj = m.inj)) = none :=
    List.find?_eq_none.mpr fun x hx => by simp [(hother x hx).1]
  have hinjected : (if m.inj then none else s.findIncident (fun i => i.first.inj && decide (i.first.source = m.source))) = none := by
    have hnone : s.findIncident (fun i => i.first.inj && decide (i.first.source = m.source)) = none := List.find?_eq_none.mpr fun x hx => by simp [(hother x hx).2]
    rw [hnone]
    exact ite_self _
  have hshadow : ∀ p, newestShadow p s.flt.shadows = none := fun p => by rw [hsh]; rfl
  by_cases hb : s.flag FLT_STS_BYPASS = true
  · exact ⟨0, if_pos hb⟩
  · refine ⟨0, ?_⟩
    rw [State.placeMessage, if_neg hb, hsame, hinjected, hshadow, hshadow, ite_self, if_neg hk]
    rfl

/-- A message of a FAULT kind whose reaction is LOG arrives (R408 to R413). -/
theorem arrive_log {k : Nat} (hslot : (List.range 63).find? (fun k => (s.incident k).isNone) = some k) (hother : ∀ x ∈ s.flt.slots, x.2.first.kind ≠ m.kind ∧ x.2.first.inj = false)
    (hsh : s.flt.shadows = []) (hk : m.kind ≠ .dirtyTapOverrun) (hsev : m.sev = .fault) (hinj : m.inj = false) (hreact : ReactsLog s m) (hcause : CauseKept s m) :
    ∃ i : Incident, i.first = m ∧ i.state = .held ∧ i.causeGone = false ∧
      (s.arrive m false .retried false).flt = { s.flt with slots := smapPut s.flt.slots k i } ∧ Calm s (s.arrive m false .retried false) := by
  have harrive : s.arrive m false .retried false = if m.source.val = 144 && unitKind m.kind then (s.arrivalSeq.2.placeMessage m false .retried false s.arrivalSeq.1).setFlag FLT_STS_BYPASS true
      else s.arrivalSeq.2.placeMessage m false .retried false s.arrivalSeq.1 := if_neg (by simp [hsev])
  have hflt := flt_arrivalSeq s
  have hcalm : Calm s s.arrivalSeq.2 := calm_of (frame_arrivalSeq s) (by decide) (by decide) (by decide)
  have hslot' : (List.range 63).find? (fun k => (s.arrivalSeq.2.incident k).isNone) = some k := by
    have hinc : ∀ k, s.arrivalSeq.2.incident k = s.incident k := fun k => by rw [State.incident, hflt]; rfl
    simp only [hinc]
    exact hslot
  generalize s.arrivalSeq.1 = n at *
  generalize s.arrivalSeq.2 = u at *
  obtain ⟨link, hopens⟩ := placeMessage_opens (s := u) (m := m) (by rw [hflt]; exact hother) (by rw [hflt]; exact hsh) hk false .retried false n
  obtain ⟨i, hfirst, hstate, hgone, hifl, hicalm⟩ := openIncident_log (s := u) hslot' (by rw [hflt]; exact hsh) hinj (fun v hv => hreact v (hcalm.trans hv))
    (fun v he hp => hcause v (he.trans (by rw [hflt])) (hp.trans (by rw [hflt]))) .retried false link n
  rw [hopens] at harrive
  rw [hflt] at hifl
  refine ⟨i, hfirst, hstate, hgone, ?_, ?_⟩
  · rw [harrive]
    split
    · exact hifl
    · exact hifl
  · rw [harrive]
    split
    · exact (hcalm.trans hicalm).trans (calm_setFld _ (f := FLT_STS_BYPASS) (by decide) _)
    · exact hcalm.trans hicalm

/-- An incident that is HELD with its cause present settles as it is (R410). -/
theorem settleSlot_held {k : Nat} {i : Incident} (hi : s.incident k = some i) (hstate : i.state = .held) (hcause : s.causeOf i.causeGone i.first = true)
    (hself : smapPut s.flt.slots k i = s.flt.slots) : s.settleSlot k = s := by
  have hpresent : s.incidentCause k i = true := by rw [State.incidentCause, hcause]; rfl
  have hput : s.putIncident k i = s := by rw [State.putIncident, hself]
  have hsame : ({ i with state := .held } : Incident) = i := by rw [← hstate]
  rw [State.settleSlot, hi]
  dsimp only
  rw [hstate, hpresent, if_neg (by simp)]
  refine (if_neg (by simp)).trans ?_
  exact (congrArg (s.putIncident k) hsame).trans hput

/-! Error pairs and levels (R405, R406). -/

/-- The two kinds that the collector forms about a unit's error pair. -/
theorem reactsLog_unit {k : FaultKind} (hk : k = .pairWire ∨ k = .unitError) (hlog : s.configured k = .log ∨ s.sys.mode = .shutDown) (d : Nat) : ReactsLog s (unitMessage k d) := by
  rintro v ⟨hsys, -, hregs⟩ n h made
  have hmode : v.inMode [.off, .shutDown] = s.inMode [.off, .shutDown] := by rw [State.inMode, State.inMode, hsys]
  have hword : ∀ k, k = FaultKind.pairWire ∨ k = FaultKind.unitError → v.configured k = s.configured k := fun k hk => by
    rw [State.configured, State.configured, State.fld, State.fld]
    rcases hk with rfl | rfl
    · rw [hregs _ (by decide) (by decide)]
    · rw [hregs _ (by decide) (by decide)]
  rw [State.react]
  dsimp only
  rcases hlog with hlog | hdown
  · split
    · rfl
    · have hconf := (hword k hk).trans hlog
      rcases hk with rfl | rfl
      · change (match v.configured .pairWire with | .log => (v, Reaction.log, false) | .fence => _ | .fenceDegraded => _ | .keeper => _ | .saveNow => _) = _
        rw [hconf]
      · change (match v.configured .unitError with | .log => (v, Reaction.log, false) | .fence => _ | .fenceDegraded => _ | .keeper => _ | .saveNow => _) = _
        rw [hconf]
  · rw [hmode, if_pos (by simp [State.inMode, hdown])]

section Unit
variable {d : Fin 148}

theorem source_unitMessage (k : FaultKind) (d : Fin 148) : (unitMessage k d.val).source.val = d.val := Nat.mod_eq_of_lt (by omega)

theorem causeKept_unitError (h : d.val ∈ s.flt.errLines) : CauseKept s (unitMessage .unitError d.val) := fun v he _ => by
  change v.flt.errLines.contains (unitMessage .unitError d.val).source.val = true
  rw [source_unitMessage, he]
  simpa using h

theorem causeKept_pairWire (h : d.val ∈ s.flt.pairLines) : CauseKept s (unitMessage .pairWire d.val) := fun v _ hp => by
  change v.flt.pairLines.contains (unitMessage .pairWire d.val).source.val = true
  rw [source_unitMessage, hp]
  simpa using h

/-- An error level that no coded message follows: UNIT_ERROR opens an incident (R406). -/
theorem unitError_opens (hm : s.sys.mode ≠ .off) (hd : d.val ∈ s.flt.errLines) (hs : s.flt.slots = []) (hsh : s.flt.shadows = []) (hlog : s.configured .unitError = .log) :
    Answers (.unitError d) s (fun t => (∃ i, t.flt.slots = [(0, i)] ∧ i.first.kind = .unitError ∧ i.first.source.val = d.val ∧ i.state = .held) ∧ t.sys = s.sys ∧ t.dram = s.dram) := by
  have hrun : exec (.unitError d) s = .next (s.arrive (unitMessage .unitError d.val) false .retried false).settle := if_neg (by simp [hm, hd])
  obtain ⟨i, hfirst, hstate, hgone, hflt, hsys, hdram, -⟩ := arrive_log (m := unitMessage .unitError d.val) (firstSlot_nil hs) (by rw [hs]; simp) hsh (show FaultKind.unitError ≠ _ by decide) rfl rfl
    (reactsLog_unit (.inr rfl) (.inl hlog) d.val) (causeKept_unitError hd)
  have hcause := causeKept_unitError hd
  generalize s.arrive (unitMessage .unitError d.val) false .retried false = u at *
  have hslots : u.flt.slots = [(0, i)] := by
    rw [hflt, hs]
    rfl
  have hsettle : u.settle = u := by
    have hone : u.settle = u.settleSlot 0 := by rw [State.settle, hslots]; rfl
    rw [hone]
    refine settleSlot_held (i := i) (by rw [State.incident, hslots]; rfl) hstate ?_ (by rw [hslots]; rfl)
    rw [hgone, hfirst]
    exact hcause u (by rw [hflt]) (by rw [hflt])
  rw [hsettle] at hrun
  exact answers_of hrun ⟨⟨i, hslots, by rw [hfirst]; rfl, by rw [hfirst]; exact source_unitMessage .., hstate⟩, hsys, hdram⟩

/-- The levels of a unit's error pair as they are kept (R405, R406). -/
def levelKept (s : State) (d : Nat) : State := { s with flt := { s.flt with errLines := if s.flt.errLines.contains d then s.flt.errLines else d :: s.flt.errLines } }

theorem mem_kept (l : List Nat) (d : Nat) : d ∈ (if l.contains d then l else d :: l) ∧ ∀ x ∈ l, x ∈ (if l.contains d then l else d :: l) := by
  split
  · next h => exact ⟨by simpa using h, fun _ hx => hx⟩
  · exact ⟨List.mem_cons_self, fun _ hx => List.mem_cons_of_mem _ hx⟩

/-- Equal levels: the pair is kept too (R406). -/
def linesKept (s : State) (d : Nat) : State :=
  { levelKept s d with flt := { (levelKept s d).flt with pairLines := if s.flt.pairLines.contains d then s.flt.pairLines else d :: s.flt.pairLines } }

/-- Equal levels set the source's bit (R406). -/
def pairKept (s : State) (d : Nat) : State := (linesKept s d).setBit (FLT_PAIR (d / 32)) (d % 32) true

theorem execUnitErrorPair_of (hm : s.sys.mode ≠ .off) (hon : s.domOn d.val = true) (hp : s.pairSampled d.val = true) (equal : Bool) :
    exec (.unitErrorPair d equal) s = if !equal then .next (levelKept s d.val)
      else .next (((pairKept s d.val).arrive (unitMessage .pairWire d.val) false .retried false).arrive (unitMessage .unitError d.val) false .retried false).settle :=
  if_neg (by simp [hm, hon, hp])

theorem setBit_keeps (s : State) (f : Fld) (i : Nat) (b : Bool) : (s.setBit f i b).flt = s.flt ∧ (s.setBit f i b).sys = s.sys ∧ (s.setBit f i b).dram = s.dram ∧
    ∀ a, a ≠ f.addr → (s.setBit f i b).word a = s.word a := by
  unfold State.setBit
  dsimp only
  split
  · exact ⟨rfl, rfl, rfl, fun _ _ => rfl⟩
  · split
    · exact ⟨rfl, rfl, rfl, fun a ha => (word_setWord ..).trans (if_neg ha)⟩
    · exact ⟨rfl, rfl, rfl, fun a ha => (word_setWord ..).trans (if_neg ha)⟩

/-- What equal levels leave before the messages. -/
theorem pairKept_shows (s : State) (d : Fin 148) : (pairKept s d.val).flt.slots = s.flt.slots ∧ (pairKept s d.val).flt.shadows = s.flt.shadows ∧
    d.val ∈ (pairKept s d.val).flt.errLines ∧ d.val ∈ (pairKept s d.val).flt.pairLines ∧ (pairKept s d.val).sys = s.sys ∧ (pairKept s d.val).dram = s.dram ∧
    (pairKept s d.val).bit (FLT_PAIR (d.val / 32)) (d.val % 32) = true ∧ (∀ k, k = FaultKind.pairWire ∨ k = FaultKind.unitError → (pairKept s d.val).configured k = s.configured k) := by
  have hset := bit_setBit_true (linesKept s d.val) (f := FLT_PAIR (d.val / 32)) (i := d.val % 32) (Nat.le_refl 32) (Nat.mod_lt _ (by decide)) (d.val % 32)
  obtain ⟨hflt, hsys, hdram, hregs⟩ := setBit_keeps (linesKept s d.val) (FLT_PAIR (d.val / 32)) (d.val % 32) true
  rw [pairKept]
  generalize (linesKept s d.val).setBit (FLT_PAIR (d.val / 32)) (d.val % 32) true = u at *
  refine ⟨(congrArg Flt.slots hflt).trans rfl, (congrArg Flt.shadows hflt).trans rfl, ?_, ?_, hsys, hdram, ?_, fun k hk => ?_⟩
  · rw [hflt]
    exact (mem_kept s.flt.errLines d.val).1
  · rw [hflt]
    exact (mem_kept s.flt.pairLines d.val).1
  · rw [hset]
    simp
  · have hword : ∀ a, a < 0x21120 → u.word a = s.word a := fun a ha => hregs a (by change a ≠ 0x21120 + 4 * (d.val / 32); omega)
    rw [State.configured, State.configured, State.fld, State.fld]
    rcases hk with rfl | rfl
    · rw [hword _ (by decide)]
    · rw [hword _ (by decide)]

/-- Equal levels open PAIR_WIRE and UNIT_ERROR (R406). -/
theorem unitErrorPair_equal (hm : s.sys.mode = .powerUp ∨ s.sys.mode = .attach) (hon : s.domOn d.val = true) (hs : s.flt.slots = []) (hsh : s.flt.shadows = [])
    (hpair : s.configured .pairWire = .log) (hunit : s.configured .unitError = .log) : Answers (.unitErrorPair d true) s (fun t =>
      t.bit (FLT_PAIR (d.val / 32)) (d.val % 32) = true ∧ d.val ∈ t.flt.errLines ∧ d.val ∈ t.flt.pairLines ∧
      (∃ i j, t.flt.slots = [(0, i), (1, j)] ∧ i.first.kind = .pairWire ∧ j.first.kind = .unitError ∧ i.state = .held ∧ j.state = .held) ∧ t.sys = s.sys ∧ t.dram = s.dram) := by
  have hsampled : s.pairSampled d.val = true := by rcases hm with h | h <;> simp [State.pairSampled, State.inMode, h]
  have hrun := execUnitErrorPair_of (by rcases hm with h | h <;> simp [h]) hon hsampled true
  rw [if_neg (by decide)] at hrun
  obtain ⟨hslots, hshadows, herr, hpl, hsys, hdram, hbit, hconf⟩ := pairKept_shows s d
  rw [hs] at hslots
  rw [hsh] at hshadows
  generalize pairKept s d.val = p at *
  obtain ⟨i, hifirst, hist, higone, hiflt, hicalm⟩ := arrive_log (s := p) (m := unitMessage .pairWire d.val) (firstSlot_nil hslots) (by rw [hslots]; simp) hshadows
    (show FaultKind.pairWire ≠ _ by decide) rfl rfl (reactsLog_unit (.inl rfl) (.inl ((hconf _ (.inl rfl)).trans hpair)) d.val) (causeKept_pairWire hpl)
  generalize p.arrive (unitMessage .pairWire d.val) false .retried false = u at *
  have huslots : u.flt.slots = [(0, i)] := by rw [hiflt, hslots]; rfl
  have huerr : d.val ∈ u.flt.errLines := by rw [hiflt]; exact herr
  have hupl : d.val ∈ u.flt.pairLines := by rw [hiflt]; exact hpl
  have huconf : u.configured .unitError = .log := by
    obtain ⟨-, -, hregs⟩ := hicalm
    rw [State.configured, State.fld, hregs _ (by decide) (by decide)]
    exact (hconf _ (.inr rfl)).trans hunit
  have hsecond : (List.range 63).find? (fun k => (u.incident k).isNone) = some 1 := by
    have hinc : ∀ k, u.incident k = if 0 = k then some i else none := fun k => by rw [State.incident, huslots]; rfl
    simp only [hinc]
    rfl
  obtain ⟨j, hjfirst, hjst, hjgone, hjflt, hjcalm⟩ := arrive_log (s := u) (m := unitMessage .unitError d.val) hsecond
    (by rw [huslots]; intro x hx; rw [List.mem_singleton.mp hx]; exact ⟨by change i.first.kind ≠ FaultKind.unitError; rw [hifirst]; change FaultKind.pairWire ≠ _; decide, by change i.first.inj = _; rw [hifirst]; rfl⟩)
    (by rw [hiflt]; exact hshadows) (show FaultKind.unitError ≠ _ by decide) rfl rfl (reactsLog_unit (.inr rfl) (.inl huconf) d.val) (causeKept_unitError huerr)
  generalize u.arrive (unitMessage .unitError d.val) false .retried false = v at *
  have hvslots : v.flt.slots = [(0, i), (1, j)] := by rw [hjflt, huslots]; rfl
  have hverr : d.val ∈ v.flt.errLines := by rw [hjflt]; exact huerr
  have hvpl : d.val ∈ v.flt.pairLines := by rw [hjflt]; exact hupl
  have hzero : v.settleSlot 0 = v := by
    refine settleSlot_held (i := i) (by rw [State.incident, hvslots]; rfl) hist ?_ (by rw [hvslots]; rfl)
    rw [higone, hifirst]
    exact causeKept_pairWire hvpl v rfl rfl
  have hone : v.settleSlot 1 = v := by
    refine settleSlot_held (i := j) (by rw [State.incident, hvslots]; rfl) hjst ?_ (by rw [hvslots]; rfl)
    rw [hjgone, hjfirst]
    exact causeKept_unitError hverr v rfl rfl
  have hsettle : v.settle = v := by
    have hboth : v.settle = (v.settleSlot 0).settleSlot 1 := by rw [State.settle, hvslots]; rfl
    rw [hboth, hzero, hone]
  rw [hsettle] at hrun
  obtain ⟨hvsys, hvdram, hvregs⟩ := hicalm.trans hjcalm
  refine answers_of hrun ⟨?_, hverr, hvpl, ⟨i, j, hvslots, by rw [hifirst]; rfl, by rw [hjfirst]; rfl, hist, hjst⟩, hvsys.trans hsys, hvdram.trans hdram⟩
  have hd := d.isLt
  rw [State.bit, State.fld, hvregs _ (by change 0x21120 + 4 * (d.val / 32) < 0x23000; omega)
    (by change 0x21120 + 4 * (d.val / 32) ∉ [0x21004, 0x21008, 0x21010, 0x21014, 0x2200C]; simp only [List.mem_cons, List.not_mem_nil, or_false, not_or]; omega)]
  exact hbit

end Unit

/-! Shadows that close (R414). -/

theorem settle_nil (h : s.flt.slots = []) : s.settle = s := by rw [State.settle, h]; rfl

theorem closeShadow_none {n : Nat} (h : ∀ x ∈ s.flt.shadows, x.owner ≠ n) : s.closeShadow n = none := by
  have hfind : s.flt.shadows.find? (fun x => decide (x.owner = n)) = none := List.find?_eq_none.mpr fun x hx => by simpa using h x hx
  rw [State.closeShadow, hfind]
  rfl

theorem closeShadow_one {n : Nat} {u : UnitRow} (h : s.flt.shadows = [⟨n, u, [], false⟩]) :
    s.closeShadow n = some (⟨n, u, [], false⟩, { s with flt := { s.flt with shadows := [] } }) := by
  have hfind : s.flt.shadows.find? (fun x => decide (x.owner = n)) = some ⟨n, u, [], false⟩ := by
    rw [h]
    exact List.find?_cons_of_pos (by simp)
  have herase : s.flt.shadows.erase ⟨n, u, [], false⟩ = [] := by
    rw [h]
    exact List.erase_cons_head ..
  rw [State.closeShadow, hfind, Option.map_some, herase]

theorem execShadowClose_one {n : BitVec 32} {u : UnitRow} (h : s.flt.shadows = [⟨n.toNat, u, [], false⟩]) :
    exec (.shadowClose n) s = .next (({ s with flt := { s.flt with shadows := [] } } : State).fenceReturned ⟨n.toNat, u, [], false⟩).settle := by
  change execShadowClose n s = _
  rw [execShadowClose, closeShadow_one h]

/-- A unit that returns by itself returns once its shadow closes (R414, Table 14-6). -/
theorem shadowClose_returns {n : BitVec 32} {u : UnitRow} (h : s.flt.shadows = [⟨n.toNat, u, [], false⟩]) (hs : s.flt.slots = [])
    (hu : u ∈ [UnitRow.learner, .training, .glean, .seal, .sideband]) :
    (s.flt.fenced = [(u, n.toNat, false)] → Answers (.shadowClose n) s (fun t => t = { s with flt := { s.flt with shadows := [], fenced := [] } })) ∧
    (s.flt.fenced = [(u, n.toNat, true)] → Answers (.shadowClose n) s (fun t => t = { s with flt := { s.flt with shadows := [] } })) := by
  have hlate : (decide (u = .hmover) || decide (u = .scrubber)) = false := by
    revert u
    simp only [List.mem_cons, List.not_mem_nil, or_false]
    rintro u - (rfl | rfl | rfl | rfl | rfl) <;> rfl
  have hback : ∀ v : State, v.unitReturn u = v := fun v => by
    simp only [List.mem_cons, List.not_mem_nil, or_false] at hu
    rcases hu with rfl | rfl | rfl | rfl | rfl <;> rfl
  refine ⟨fun hf => ?_, fun hf => ?_⟩
  · refine answers_of (execShadowClose_one h) ?_
    have hmine : s.flt.fenced.any (fun y => decide (y.1 = u) && decide (y.2.1 = n.toNat) && !y.2.2) = true := by rw [hf]; simp
    have hnone : s.flt.fenced.filter (fun y => !(decide (y.1 = u) && decide (y.2.1 = n.toNat) && !y.2.2)) = [] := by rw [hf]; simp
    rw [State.fenceReturned]
    dsimp only
    rw [hlate, hmine, hnone, hback, if_neg (by decide)]
    exact settle_nil hs
  · refine answers_of (execShadowClose_one h) ?_
    have hmine : s.flt.fenced.any (fun y => decide (y.1 = u) && decide (y.2.1 = n.toNat) && !y.2.2) = false := by rw [hf]; simp
    rw [State.fenceReturned]
    dsimp only
    rw [hlate, hmine, if_pos (by decide)]
    exact settle_nil hs

/-- A mover and a scrubber wait for the next lull (Table 14-6). -/
theorem shadowClose_waits {n : BitVec 32} {u : UnitRow} (h : s.flt.shadows = [⟨n.toNat, u, [], false⟩]) (hs : s.flt.slots = []) (hu : u ∈ [UnitRow.hmover, .scrubber]) :
    Answers (.shadowClose n) s (fun t => t = { s with flt := { s.flt with shadows := [] } }) := by
  refine answers_of (execShadowClose_one h) ?_
  have hlate : (decide (u = .hmover) || decide (u = .scrubber)) = true := by simpa using hu
  rw [State.fenceReturned]
  dsimp only
  rw [hlate, if_pos (by simp)]
  exact settle_nil hs

/-- What the causes of Table 14-3 read of the state. -/
def CauseSeen (s t : State) : Prop := t.pwr = s.pwr ∧ t.clk = s.clk ∧ t.flash = s.flash ∧ t.flt.selfBad = s.flt.selfBad ∧ t.flt.errLines = s.flt.errLines ∧ t.flt.pairLines = s.flt.pairLines ∧
  t.flt.domBad = s.flt.domBad ∧ ∀ a, a ∉ [0x21014, 0x23008, 0x23010] → t.word a = s.word a

theorem causeOf_seen (h : CauseSeen s t) (told : Bool) (m : FaultMsg) : t.causeOf told m = s.causeOf told m := by
  obtain ⟨hpwr, hclk, hflash, hself, herr, hpair, hdom, hregs⟩ := h
  have hflag : ∀ f : Fld, f.addr ∉ [0x21014, 0x23008, 0x23010] → t.flag f = s.flag f := fun f hf => flag_of_fld (by rw [State.fld, State.fld, hregs _ hf])
  have hbit : ∀ (f : Fld) (i : Nat), f.addr ∉ [0x21014, 0x23008, 0x23010] → t.bit f i = s.bit f i := fun f i hf => by rw [State.bit, State.bit, State.fld, State.fld, hregs _ hf]
  have htrain : ∀ c, t.flag (FCE_STS_TRAIN_FAIL (c % 17)) = s.flag (FCE_STS_TRAIN_FAIL (c % 17)) := fun c => hflag _ (by
    change 0x10004 + 0x1000 * (c % 17) ∉ [0x21014, 0x23008, 0x23010]
    simp only [List.mem_cons, List.not_mem_nil, or_false, not_or]
    omega)
  simp only [State.causeOf, State.railGood, hpwr, hclk, hflash, hself, herr, hpair, hdom, htrain,
    hflag PLN_PACE_STS_LOCAL_LOW (by decide), hflag PLN_PACE_STS_CORNER_LOW (by decide), hflag PLN_PACE_STS_RANGE (by decide), hflag PWR_FEED_STS_B_LOW (by decide), hflag SPT_KITE_LINK_DOWN (by decide), hflag HBP_PAR_STS_BLOCK_LONG (by decide), hflag TRN_STS_DRAM_FAIL (by decide), hflag CLK_STS_DISCONT (by decide), hflag DCT_STS_HOT (by decide), hflag GLN_STS_RATION_OVER (by decide), hflag FLO_STS_UNSUPPORTED (by decide), hflag FLO_STS_SWATH_SHORT (by decide), hflag PLN_STS_WEAR_SHORT (by decide), hflag PLN_STS_PACK_SHORT (by decide),
    hbit HBP_LANE_FLT_H _ (by decide), hbit HBP_LANE_FLT_D _ (by decide), hbit PWR_RAIL_STS _ (by decide), hbit PWR_FSW_STS _ (by decide), hbit PWR_MB_STS_FAULTED _ (by decide)]

theorem CauseSeen.trans {u : State} (h : CauseSeen s t) (h' : CauseSeen t u) : CauseSeen s u := by
  obtain ⟨hpwr, hclk, hflash, hself, herr, hpair, hdom, hregs⟩ := h
  obtain ⟨hpwr', hclk', hflash', hself', herr', hpair', hdom', hregs'⟩ := h'
  exact ⟨hpwr'.trans hpwr, hclk'.trans hclk, hflash'.trans hflash, hself'.trans hself, herr'.trans herr, hpair'.trans hpair, hdom'.trans hdom,
    fun a ha => (hregs' a ha).trans (hregs a ha)⟩

/-- An incident with a consequent more (R408). -/
def withCons (i : Incident) (m : FaultMsg) : Incident :=
  { i with cons := if i.cons.length < 16 then i.cons ++ [m] else i.cons, consCount := satAdd i.consCount 1 65535, causeGone := i.causeGone && decide (m.kind ≠ .unitNotReady) }

/-- The fences of which a unit's is kept until its incident is cleared (R414). -/
def fenceKept (l : List (UnitRow × Nat × Bool)) (u : UnitRow) (n : Nat) : List (UnitRow × Nat × Bool) :=
  l.map (fun (y : UnitRow × Nat × Bool) => if y.1 = u && y.2.1 = n then (y.1, y.2.1, true) else y)

/-- A consequent is merged into the incident in slot 0 (R408). -/
def merged (s : State) (m : FaultMsg) (i : Incident) : State := ((s.putIncident 0 (withCons i m)).bump FLT_CNT_MERGED 1).claimFence m (some i.num)

/-- The collector's state as a consequent is merged, and the unit stays out (R408, R414). -/
def notReturned (s : State) (m : FaultMsg) (i : Incident) (u : UnitRow) (n : Nat) : State :=
  { merged s m i with flt := { (merged s m i).flt with fenced := fenceKept (merged s m i).flt.fenced u n } }

theorem merged_shows (s : State) (m : FaultMsg) (i : Incident) : (merged s m i).flt = { s.flt with slots := smapPut s.flt.slots 0 (withCons i m) } ∧
    CauseSeen s (merged s m i) ∧ (merged s m i).sys = s.sys ∧ (merged s m i).dram = s.dram := by
  have hf := frame_claimFence ((s.putIncident 0 (withCons i m)).bump FLT_CNT_MERGED 1) m (some i.num)
  have hword : ∀ a, a ≠ 0x21014 → ((s.putIncident 0 (withCons i m)).bump FLT_CNT_MERGED 1).word a = s.word a := fun a ha => (word_setWord ..).trans (if_neg ha)
  have hflt : (merged s m i).flt = { s.flt with slots := smapPut s.flt.slots 0 (withCons i m) } := hf.same .flt (by decide)
  refine ⟨hflt, ⟨hf.same .pwr (by decide), hf.same .clk (by decide), hf.same .flash (by decide), ?_, ?_, ?_, ?_, fun a ha => ?_⟩, hf.same .sys (by decide), hf.same .dram (by decide)⟩
  · rw [hflt]
  · rw [hflt]
  · rw [hflt]
  · rw [hflt]
  · exact (hf.word a (Foot.spares_of_notMem List.not_mem_nil List.not_mem_nil)).trans (hword a (fun h => ha (by simp [h])))

/-- A unit that is not ready within its shadow (R414). -/
theorem execUnitNotReady_one {n : BitVec 32} {u : UnitRow} {i : Incident} {z : State} (h : s.flt.shadows = [⟨n.toNat, u, [], false⟩]) (hs : s.flt.slots = [(0, i)])
    (hn : i.num = n.toNat) (hb : s.flag FLT_STS_BYPASS = false) (hz : z = ({ s with flt := { s.flt with shadows := [] } } : State).arrivalSeq.2) :
    exec (.unitNotReady n) s = .next (notReturned z (unitMessage .unitNotReady (unitSource u)) i u n.toNat).settle := by
  have hflt : z.flt = { s.flt with shadows := [] } := by rw [hz]; exact flt_arrivalSeq _
  have hbypass : z.flag FLT_STS_BYPASS = false := by
    rw [hz]
    exact (flag_of_fld ((frame_arrivalSeq ({ s with flt := { s.flt with shadows := [] } } : State)).fld _ (by decide))).trans hb
  have hpick : z.findIncident (fun j => decide (j.num = n.toNat)) = some (0, i) := by
    rw [State.findIncident, hflt, hs]
    exact List.find?_cons_of_pos (by simp [hn])
  have hinc : z.incident 0 = some i := by rw [State.incident, hflt, hs]; rfl
  change execUnitNotReady n s = _
  rw [execUnitNotReady, closeShadow_one h]
  dsimp only
  rw [← hz, hbypass, if_neg (by decide), hpick]
  dsimp only
  rw [State.mergeInto, hinc]
  rfl

theorem unitNotReady_merges {n : BitVec 32} {u : UnitRow} {i : Incident} (h : s.flt.shadows = [⟨n.toNat, u, [], false⟩]) (hs : s.flt.slots = [(0, i)])
    (hf : s.flt.fenced = [(u, n.toNat, false)]) (hn : i.num = n.toNat) (hb : s.flag FLT_STS_BYPASS = false) (hc : i.cons.length < 16) (hcause : s.causeOf false i.first = true) :
    Answers (.unitNotReady n) s (fun t => t.flt.shadows = [] ∧ t.flt.fenced = [(u, n.toNat, true)] ∧
      (∃ j m, t.flt.slots = [(0, j)] ∧ j.num = i.num ∧ j.cons = i.cons ++ [m] ∧ m.kind = .unitNotReady ∧ j.state = .held) ∧ t.sys = s.sys ∧ t.dram = s.dram) := by
  obtain ⟨z, hz⟩ : ∃ z, z = ({ s with flt := { s.flt with shadows := [] } } : State).arrivalSeq.2 := ⟨_, rfl⟩
  have hrun := execUnitNotReady_one h hs hn hb hz
  have hzflt : z.flt = { s.flt with shadows := [] } := by rw [hz]; exact flt_arrivalSeq _
  have hzf := frame_arrivalSeq ({ s with flt := { s.flt with shadows := [] } } : State)
  rw [← hz] at hzf
  have hzseen : CauseSeen s z := by
    refine ⟨hzf.same .pwr (by decide), hzf.same .clk (by decide), hzf.same .flash (by decide), ?_, ?_, ?_, ?_, fun a ha => ?_⟩
    · rw [hzflt]
    · rw [hzflt]
    · rw [hzflt]
    · rw [hzflt]
    · simp only [List.mem_cons, List.not_mem_nil, or_false, not_or] at ha
      exact hzf.word a (Foot.spares_of_notMem (by simp only [List.mem_cons, List.not_mem_nil, or_false, not_or]; exact ⟨ha.2.1, ha.2.2⟩) (by decide))
  have hzsys : z.sys = s.sys := hzf.same .sys (by decide)
  have hzdram : z.dram = s.dram := hzf.same .dram (by decide)
  clear hz hzf
  obtain ⟨hmflt, hmseen, hmsys, hmdram⟩ := merged_shows z (unitMessage .unitNotReady (unitSource u)) i
  have hkind : (unitMessage .unitNotReady (unitSource u)).kind = .unitNotReady := rfl
  rw [notReturned] at hrun
  generalize merged z (unitMessage .unitNotReady (unitSource u)) i = v at *
  generalize unitMessage .unitNotReady (unitSource u) = m at *
  obtain ⟨w, hw⟩ : ∃ w : State, w = { v with flt := { v.flt with fenced := fenceKept v.flt.fenced u n.toNat } } := ⟨_, rfl⟩
  rw [← hw] at hrun
  have hwseen : CauseSeen v w := by rw [hw]; exact ⟨rfl, rfl, rfl, rfl, rfl, rfl, rfl, fun _ _ => rfl⟩
  have hwsys : w.sys = v.sys := by rw [hw]
  have hwdram : w.dram = v.dram := by rw [hw]
  have hwslots : w.flt.slots = [(0, withCons i m)] := by
    rw [hw]
    change v.flt.slots = _
    rw [hmflt, hzflt]
    change smapPut s.flt.slots 0 _ = _
    rw [hs]
    rfl
  have hwshadows : w.flt.shadows = [] := by
    rw [hw]
    change v.flt.shadows = _
    rw [hmflt, hzflt]
  have hwfenced : w.flt.fenced = [(u, n.toNat, true)] := by
    rw [hw]
    change fenceKept v.flt.fenced u n.toNat = _
    rw [hmflt, hzflt]
    change fenceKept s.flt.fenced u n.toNat = _
    rw [hf]
    simp [fenceKept]
  clear hw
  have hpresent : w.causeOf (withCons i m).causeGone (withCons i m).first = true := by
    have hgone : (withCons i m).causeGone = false := by simp [withCons, hkind]
    rw [hgone, causeOf_seen ((hzseen.trans hmseen).trans hwseen)]
    exact hcause
  have hsettle : w.settle = w.putIncident 0 { withCons i m with state := .held } := by
    have hone : w.settle = w.settleSlot 0 := by rw [State.settle, hwslots]; rfl
    have hopen : ∀ n, w.shadowOpen n = false := fun n => by rw [State.shadowOpen, hwshadows]; rfl
    have hinc : w.incident 0 = some (withCons i m) := by rw [State.incident, hwslots]; rfl
    have hic : w.incidentCause 0 (withCons i m) = true := by rw [State.incidentCause, hpresent]; rfl
    rw [hone, State.settleSlot, hinc]
    dsimp only
    rw [hopen, hic, if_neg (by simp)]
    exact if_neg (by simp)
  rw [hsettle] at hrun
  refine answers_of hrun ⟨hwshadows, hwfenced, ⟨{ withCons i m with state := .held }, m, putIncident_one hwslots _, rfl, if_pos hc, hkind, rfl⟩,
    hwsys.trans (hmsys.trans hzsys), hwdram.trans (hmdram.trans hzdram)⟩

/-! Causes that end, FLT_PIN and the self-check (R403, R410, R420). -/

/-- The cause of a unit's error level ends (R410). -/
theorem incidentCauseGone_unit {k : Fin 64} {i : Incident} (hs : s.flt.slots = [(k.val, i)]) (hst : i.state = .held) (hk : i.first.kind = .unitError) (hc : k.val < 63 ∨ i.cons = [])
    (ha : s.flag FLT_CTL_AUTOCLR = false) : Answers (.incidentCauseGone k) s (fun t =>
      t.flt.slots = [(k.val, { i with state := .gone, causeGone := true })] ∧ i.first.source.val ∉ t.flt.errLines ∧ t = { s with flt := t.flt }) := by
  have hinc : s.incident k.val = some i := by rw [State.incident, hs]; exact if_pos rfl
  obtain ⟨v, hv⟩ : ∃ v : State, v = { s.putIncident k.val { i with causeGone := true } with
      flt := { (s.putIncident k.val { i with causeGone := true }).flt with errLines := s.flt.errLines.filter (fun d => decide (d ≠ i.first.source.val)) } } := ⟨_, rfl⟩
  have hends : s.causeEnds k.val i = v := by
    rw [State.causeEnds, hk, hv]
    rfl
  have hrun : exec (.incidentCauseGone k) s = .next v.settle := by
    change execIncidentCauseGone k s = _
    rw [execIncidentCauseGone, hinc]
    dsimp only
    rw [hends]
  have hslots : v.flt.slots = [(k.val, { i with causeGone := true })] := by
    rw [hv]
    exact putIncident_one hs _
  have herr : i.first.source.val ∉ v.flt.errLines := by
    rw [hv]
    change i.first.source.val ∉ s.flt.errLines.filter _
    simp
  have hflt : v = { s with flt := v.flt } := by rw [hv]; rfl
  have hclr : v.flag FLT_CTL_AUTOCLR = false := by rw [hv]; exact ha
  clear hends hv
  have hover : v.incidentCause k.val { i with causeGone := true } = false := by
    have hcause : v.causeOf true i.first = false := by
      have hline : v.flt.errLines.contains i.first.source.val = false := by
        rw [← Bool.not_eq_true, List.contains_iff_mem]
        exact herr
      rw [State.causeOf, hk]
      dsimp only
      rw [hline]
      exact ite_self _
    rw [State.incidentCause]
    dsimp only
    rw [hcause]
    rcases hc with h | h
    · rw [decide_eq_false (by omega)]
      rfl
    · rw [h]
      simp
  have hsettle : v.settle = v.putIncident k.val { i with state := .gone, causeGone := true } := by
    have hone : v.settle = v.settleSlot k.val := by rw [State.settle, hslots]; rfl
    have hvinc : v.incident k.val = some { i with causeGone := true } := by rw [State.incident, hslots]; exact if_pos rfl
    have hkeep : (v.putIncident k.val { i with state := .gone, causeGone := true }).flag FLT_CTL_AUTOCLR = false := hclr
    rw [hone, State.settleSlot, hvinc]
    dsimp only
    rw [hover, if_neg (by simp [hst])]
    refine if_neg ?_
    change ¬ (_ && (v.putIncident k.val { i with state := .gone, causeGone := true }).flag FLT_CTL_AUTOCLR && _ && _) = true
    rw [hkeep]
    simp
  rw [hsettle] at hrun
  refine answers_of hrun ⟨putIncident_one hslots _, herr, ?_⟩
  rw [hflt]
  rfl

def pinRows : List FRow := [⟨FLT_PIN_LEVEL, 1, 4, .ro, 1, 0, 1⟩, ⟨FLT_PIN_PULSING, 1, 4, .ro, 0, 0, 1⟩, ⟨FLT_PIN_PIN_SEV, 1, 4, .rw, 2, 0, 3⟩, ⟨FLT_PIN_MODE, 1, 4, .rw, 1, 0, 3⟩]

theorem rowsAt_pin : rowsAt 0x21008 = pinRows := by decide +kernel

/-- A write of FLT_PIN: PIN_SEV 0 or 1 is taken as 2 (Table 14-12). -/
theorem storeReg_pin (s : State) (v : Word) : (s.storeReg 0x21008 v).fld FLT_PIN_PIN_SEV = max 2 (fldOf v FLT_PIN_PIN_SEV) ∧ (s.storeReg 0x21008 v).fld FLT_PIN_MODE = fldOf v FLT_PIN_MODE ∧
    OnlyFields [FLT_PIN_PIN_SEV, FLT_PIN_MODE] s (s.storeReg 0x21008 v) := by
  obtain ⟨w, hw⟩ : ∃ w, w = pinRows.foldl (storeField false 0x21008 v) (s.word 0x21008) := ⟨_, rfl⟩
  have hplain : ∀ q ∈ pinRows, plainRow q = true := by decide
  have hwhole : ∀ (x old : Nat), x < 4 → (if 0 ≤ x ∧ x ≤ 3 then x else old) = x := fun x old hx => if_pos ⟨Nat.zero_le _, Nat.le_of_lt_succ hx⟩
  have hsev : fldOf w FLT_PIN_PIN_SEV = fldOf v FLT_PIN_PIN_SEV := by
    rw [hw]
    exact (storeFields_row (r := ⟨FLT_PIN_PIN_SEV, 1, 4, .rw, 2, 0, 3⟩) (by decide) hplain (by decide) (by decide) 0x21008 v _).trans (hwhole _ _ (fldOf_lt v FLT_PIN_PIN_SEV))
  have hmode : fldOf w FLT_PIN_MODE = fldOf v FLT_PIN_MODE := by
    rw [hw]
    exact (storeFields_row (r := ⟨FLT_PIN_MODE, 1, 4, .rw, 1, 0, 3⟩) (by decide) hplain (by decide) (by decide) 0x21008 v _).trans (hwhole _ _ (fldOf_lt v FLT_PIN_MODE))
  have hbits : ∀ i, (∀ f ∈ [FLT_PIN_PIN_SEV, FLT_PIN_MODE], ¬ (f.addr = 0x21008 ∧ f.lo ≤ i ∧ i < f.lo + f.w)) → w.getLsbD i = (s.word 0x21008).getLsbD i := fun i hi => by
    rw [hw]
    refine storeFields_bit hplain 0x21008 v (fun q hq => ?_) _
    simp only [pinRows, List.mem_cons, List.not_mem_nil, or_false] at hq
    rcases hq with rfl | rfl | rfl | rfl
    · exact .inl rfl
    · exact .inl rfl
    · exact .inr fun h => hi FLT_PIN_PIN_SEV (by simp) ⟨rfl, h⟩
    · exact .inr fun h => hi FLT_PIN_MODE (by simp) ⟨rfl, h⟩
  have hstore : s.storeReg 0x21008 v = s.setWord 0x21008 (if fldOf w FLT_PIN_PIN_SEV < 2 then fldIns w FLT_PIN_PIN_SEV 2 else w) := by
    rw [State.storeReg, State.storeWord, rowsAt_pin, ← hw, if_neg (by simp)]
    rfl
  rw [hstore]
  refine ⟨?_, ?_, onlyFields_setWord fun i hi => ?_⟩
  · rw [fld_setWord_same s 0x21008 _ rfl]
    split
    · next h =>
      rw [fldOf_fldIns_same _ _ (by decide), Nat.max_eq_left (by omega)]
      rfl
    · next h => rw [hsev, Nat.max_eq_right (by omega)]
  · rw [fld_setWord_same s 0x21008 _ rfl]
    split
    · rw [fldOf_fldIns_disj _ _ (by decide), hmode]
    · exact hmode
  · split
    · rw [fldIns_getLsbD, if_neg fun h => hi FLT_PIN_PIN_SEV (by simp) ⟨rfl, h⟩, hbits i hi]
    · exact hbits i hi

/-- The self-check fails (R403). -/
theorem sptSelf_fails {f : Fin 5} (hm : s.sys.mode ≠ .off) (hf : f ≠ 0) : Answers (.sptSelf f) s (fun t =>
      t.fld SPT_SELF_RUNS = (s.fld SPT_SELF_RUNS + 1) % 65536 ∧ t.fld SPT_SELF_FAILS = min (s.fld SPT_SELF_FAILS + 1) 255 ∧ t.fld SPT_SELF_LAST = f.val ∧
      t.flt = { (s.report .sptSelf 0 0 0).flt with selfBad := true } ∧ OnlyFields [SPT_SELF_RUNS, SPT_SELF_FAILS, SPT_SELF_LAST] { s with flt := t.flt } t) := by
  obtain ⟨u, hu⟩ : ∃ u, u = ((s.wrap SPT_SELF_RUNS 1).bump SPT_SELF_FAILS 1).setFld SPT_SELF_LAST f.val := ⟨_, rfl⟩
  have hrun : exec (.sptSelf f) s = .next (({ u with flt := { u.flt with selfBad := true } } : State).report .sptSelf 0 0 0) := by
    rw [hu]
    exact (if_neg hm).trans (if_neg fun h => hf (Fin.ext h))
  have hlast : u.fld SPT_SELF_LAST = f.val := by
    have hlt := f.isLt
    rw [hu, fld_setFld_same _ _ (by decide)]
    exact Nat.mod_eq_of_lt (by change f.val < 8; omega)
  have hruns : u.fld SPT_SELF_RUNS = (s.fld SPT_SELF_RUNS + 1) % 65536 := by
    rw [hu, fld_setFld_ne _ _ (by decide), State.bump, fld_setFld_ne _ _ (by decide), State.wrap, fld_setFld_same _ _ (by decide)]
    rfl
  have hfails : u.fld SPT_SELF_FAILS = min (s.fld SPT_SELF_FAILS + 1) 255 := by
    rw [hu, fld_setFld_ne _ _ (by decide), fld_bump_self _ _ _ (by decide), State.wrap, fld_setFld_ne _ _ (by decide)]
    rfl
  have honly : OnlyFields [SPT_SELF_RUNS, SPT_SELF_FAILS, SPT_SELF_LAST] s u := by
    rw [hu]
    exact onlyFields_setFld (onlyFields_bump (onlyFields_wrap (onlyFields_refl ..) _ (by simp)) _ (by simp)) _ (by simp)
  have hflt : u.flt = s.flt := by rw [hu]; rfl
  obtain ⟨hrest, hbits⟩ := honly
  clear hu
  refine answers_of hrun ⟨hruns, hfails, hlast, ?_, ?_, hbits⟩
  · change ({ u.flt with selfBad := true, inflight := u.flt.inflight ++ _ } : Flt) = _
    rw [hflt]
    rfl
  · rw [hrest]
    rfl

/-- The self-check passes (R403). -/
theorem sptSelf_passes (hm : s.sys.mode ≠ .off) (hs : s.flt.slots = []) : Answers (.sptSelf 0) s (fun t =>
      t.fld SPT_SELF_RUNS = (s.fld SPT_SELF_RUNS + 1) % 65536 ∧ t.flt = { s.flt with selfBad := false } ∧ OnlyFields [SPT_SELF_RUNS] { s with flt := t.flt } t) := by
  have hrun : exec (.sptSelf 0) s = .next (({ s.wrap SPT_SELF_RUNS 1 with flt := { s.flt with selfBad := false } } : State).settle) := (if_neg hm).trans (if_pos rfl)
  have hsettle := settle_nil (s := { s.wrap SPT_SELF_RUNS 1 with flt := { s.flt with selfBad := false } }) hs
  obtain ⟨-, hbits⟩ := onlyFields_wrap (onlyFields_refl [SPT_SELF_RUNS] s) 1 (List.mem_singleton_self SPT_SELF_RUNS)
  exact answers_of (hrun.trans (congrArg _ hsettle)) ⟨(fld_setFld_same s _ (by decide)).trans rfl, rfl, rfl, hbits⟩

/-- Settles O47, command by command. -/
theorem faultUnits : Obligations.FaultUnits := by
  unfold Obligations.FaultUnits
  intro s
  refine ⟨fun d b hidle => ?_, fun d hm hon hp => ?_, fun d hm hon hs hsh _ hpair hunit => unitErrorPair_equal hm hon hs hsh hpair hunit, fun d hidle => ?_,
    fun d hm hd hs hsh _ hlog => unitError_opens hm hd hs hsh hlog, fun n hn => ⟨?_, ?_⟩, fun n u h hs hu => shadowClose_returns h hs hu, fun n u h hs hu => shadowClose_waits h hs hu,
    fun n u i h hs hf hn hb hc hcause => unitNotReady_merges h hs hf hn hb hc hcause, fun k hs => ?_, fun k i hs hst hk hc ha => incidentCauseGone_unit hs hst hk hc ha,
    answers_of (i := .faultPulseEnd) rfl rfl, fun v h => answers_of (i := .fltPinWrite v) (if_pos (by simp [h])) rfl,
    fun v h => answers_of (i := .fltPinWrite v) (if_neg (by simp [h])) (storeReg_pin s v), fun f hm => answers_of (i := .sptSelf f) (if_pos hm) rfl, sptSelf_passes, fun f hm hf => sptSelf_fails hm hf⟩
  · exact answers_of (i := .unitErrorPair d b) (if_pos (by rcases hidle with h | h | h <;> simp [h])) rfl
  · have hkept := mem_kept s.flt.errLines d.val
    exact answers_of ((execUnitErrorPair_of hm hon hp false).trans (if_pos rfl)) ⟨hkept.1, hkept.2, rfl⟩
  · exact answers_of (i := .unitError d) (if_pos (by rcases hidle with h | h <;> simp [h])) rfl
  · have hrun : exec (.shadowClose n) s = .next s := by
      change execShadowClose n s = _
      rw [execShadowClose, closeShadow_none hn]
    exact answers_of hrun rfl
  · have hrun : exec (.unitNotReady n) s = .next s := by
      change execUnitNotReady n s = _
      rw [execUnitNotReady, closeShadow_none hn]
    exact answers_of hrun rfl
  · have hrun : exec (.incidentCauseGone k) s = .next s.settle := by
      have hnone : s.incident k.val = none := by rw [State.incident, hs]; rfl
      change execIncidentCauseGone k s = _
      rw [execIncidentCauseGone, hnone]
    exact answers_of hrun (settle_nil hs)

end

end Sys2Proof.Proofs

/-! PROOF. Capacitance tests of the pack: how they start, sample and end, and the energy that follows (R391 to R396, Tables 13-1, 13-10). -/

namespace Sys2Proof.Proofs

open Sys2Proof.Machine Sys2Proof.Machine.Reg Sys2Proof.Laws

section
variable {s : State}

/-! A test ends without results (R394). -/

/-- The registers of a test that ends without results. -/
theorem packTestFail_shows (s : State) {r : Nat} (hr : r < 256) : (s.packTestFail r).pwr = { s.pwr with test := none, load := false } ∧
    (s.packTestFail r).fld PWR_PACK_STS_FAIL = r ∧ (s.packTestFail r).flag PWR_PACK_STS_TESTING = false ∧ (r ≠ 6 → (s.packTestFail r).flag PWR_PACK_STS_TEST_FAIL = true) := by
  obtain ⟨u, hu⟩ : ∃ u : State, u = (({ s with pwr := { s.pwr with test := none, load := false } } : State).setFlag PWR_PACK_STS_TESTING false).setFld PWR_PACK_STS_FAIL r := ⟨_, rfl⟩
  have hend : s.packTestFail r = if r = 6 then u else (u.setFlag PWR_PACK_STS_TEST_FAIL true).report .packTestFail 0x138 r 0 := by
    rw [State.packTestFail, hu]
  have hpwr : u.pwr = { s.pwr with test := none, load := false } := by rw [hu]; rfl
  have hfail : u.fld PWR_PACK_STS_FAIL = r := by
    rw [hu, fld_setFld_same _ _ (by decide)]
    exact Nat.mod_eq_of_lt hr
  have htest : u.flag PWR_PACK_STS_TESTING = false := by
    rw [hu, flag_of_fld (fld_setFld_ne _ _ (by decide))]
    exact flag_setFlag_same _ _ (by decide) (by decide)
  clear hu
  rw [hend]
  split
  · next h6 => exact ⟨hpwr, hfail, htest, fun h => absurd h6 h⟩
  · exact ⟨hpwr, (fld_setFld_ne u _ (by decide)).trans hfail, (flag_setFlag_ne u _ (by decide)).trans htest, fun _ => flag_setFlag_same u _ (by decide) (by decide)⟩

/-- The packets that wait for a test complete; of the supervisor only the boot test's end is noted (R394, R396). -/
theorem packTestEnd_pwr (s : State) (r : Nat) : (s.packTestEnd r).pwr = (if s.sys.mode = .powerUp then { s.pwr with bootDone := true } else s.pwr) := by
  have hfold : ∀ (l : List ExecPkt) (f : State → ExecPkt → State), (∀ u e, (f u e).pwr = u.pwr) → ∀ u : State, (l.foldl f u).pwr = u.pwr := by
    intro l f hf
    induction l with
    | nil => exact fun _ => rfl
    | cons e l ih => exact fun u => (ih _).trans (hf u e)
  have hcomplete : ∀ (u : State) (e : ExecPkt) (c : Nat) (res : List Byte) (d : Nat), (u.complete e c res d).pwr = u.pwr := fun u e c res d =>
    (frame_complete u e c res d).same .pwr (by decide)
  have hstart : (if s.sys.mode = .powerUp then { s with pwr := { s.pwr with bootDone := true } } else s : State).pwr = (if s.sys.mode = .powerUp then { s.pwr with bootDone := true } else s.pwr) := by
    split
    · rfl
    · rfl
  rw [State.packTestEnd, ← hstart]
  refine hfold _ _ (fun u e => ?_) _
  split
  · split
    · exact hcomplete ..
    · exact hcomplete ..
  · exact hcomplete ..

/-- What a test that ends without results leaves: the reason, and the charger, the capacitance and the ESR as they were (R394). -/
theorem packTestFailed (s : State) {r : Nat} (hr : r < 256) : ((s.packTestFail r).packTestEnd r).pwr.test = none ∧ ((s.packTestFail r).packTestEnd r).pwr.load = false ∧
    ((s.packTestFail r).packTestEnd r).pwr.charger = s.pwr.charger ∧ ((s.packTestFail r).packTestEnd r).pwr.periodicDue = s.pwr.periodicDue ∧
    ((s.packTestFail r).packTestEnd r).pwr.catchUp = s.pwr.catchUp ∧ ((s.packTestFail r).packTestEnd r).fld PWR_PACK_STS_FAIL = r ∧
    ((s.packTestFail r).packTestEnd r).flag PWR_PACK_STS_TESTING = false ∧ (r ≠ 6 → ((s.packTestFail r).packTestEnd r).flag PWR_PACK_STS_TEST_FAIL = true) ∧
    (∀ f ∈ [PWR_PACK_C, PWR_PACK_ESR], ((s.packTestFail r).packTestEnd r).fld f = s.fld f) ∧
    ((s.packTestFail r).packTestEnd r).sys = s.sys ∧ ((s.packTestFail r).packTestEnd r).dram = s.dram ∧ ((s.packTestFail r).packTestEnd r).flash = s.flash := by
  obtain ⟨hpwr, hfail, htesting, htf⟩ := packTestFail_shows s hr
  have hf := frame_packTestFail s r
  have hvals : ∀ f ∈ [PWR_PACK_C, PWR_PACK_ESR], (s.packTestFail r).fld f = s.fld f := fun f hm => by
    simp only [List.mem_cons, List.not_mem_nil, or_false] at hm
    rcases hm with rfl | rfl
    · exact hf.fld _ (by decide)
    · exact hf.fld _ (by decide)
  have hsys : (s.packTestFail r).sys = s.sys := hf.same .sys (by decide)
  have hdram : (s.packTestFail r).dram = s.dram := hf.same .dram (by decide)
  have hflash : (s.packTestFail r).flash = s.flash := hf.same .flash (by decide)
  clear hf
  generalize s.packTestFail r = u at *
  have he := frame_packTestEnd u r
  have hep := packTestEnd_pwr u r
  have hpart : (u.packTestEnd r).pwr.test = none ∧ (u.packTestEnd r).pwr.load = false ∧ (u.packTestEnd r).pwr.charger = s.pwr.charger ∧ (u.packTestEnd r).pwr.periodicDue = s.pwr.periodicDue ∧
      (u.packTestEnd r).pwr.catchUp = s.pwr.catchUp := by
    rw [hep, hpwr]
    split
    · exact ⟨rfl, rfl, rfl, rfl, rfl⟩
    · exact ⟨rfl, rfl, rfl, rfl, rfl⟩
  obtain ⟨htest, hload, hcharger, hdue, hcatch⟩ := hpart
  refine ⟨htest, hload, hcharger, hdue, hcatch, (he.fld _ (by decide)).trans hfail, (flag_of_fld (he.fld _ (by decide))).trans htesting,
    fun h => (flag_of_fld (he.fld _ (by decide))).trans (htf h), fun f hm => ?_, (he.same .sys (by decide)).trans hsys, (he.same .dram (by decide)).trans hdram,
    (he.same .flash (by decide)).trans hflash⟩
  rw [← hvals f hm]
  simp only [List.mem_cons, List.not_mem_nil, or_false] at hm
  rcases hm with rfl | rfl
  · exact he.fld _ (by decide)
  · exact he.fld _ (by decide)

/-! A test starts (R392, Table 13-10). -/

/-- A capacitance test starts by the pack's answer. -/
theorem packTestStart_from {k : PackTestKind} {answer : Option PackStatus} (ht : s.pwr.test = none) (ha : s.flag PWR_FEED_STS_A_GOOD = true) :
    PackTestFrom k answer (s.packTestStart k answer) ∧ (s.packTestStart k answer).pwr.periodicDue = s.pwr.periodicDue ∧ (s.packTestStart k answer).pwr.catchUp = s.pwr.catchUp := by
  have hgo : (s.pwr.test.isSome || !s.flag PWR_FEED_STS_A_GOOD) = false := by rw [ht, ha]; rfl
  unfold State.packTestStart
  rw [hgo, if_neg (by decide)]
  cases answer with
  | none =>
    obtain ⟨htest, -, -, hdue, hcatch, hfail, -, htf, -⟩ := packTestFailed s (r := 1) (by decide)
    exact ⟨⟨htest, hfail, htf (by decide)⟩, hdue, hcatch⟩
  | some a =>
    obtain ⟨u, hu⟩ : ∃ u, u = (s.setFlag PWR_PACK_STS_CHARGED a.charged).setFlag PWR_PACK_STS_PACK_FAULT a.fault := ⟨_, rfl⟩
    have hpwr : u.pwr = s.pwr := by rw [hu]; rfl
    have hcharged : u.flag PWR_PACK_STS_CHARGED = a.charged := by
      rw [hu, flag_setFlag_ne _ _ (by decide)]
      exact flag_setFlag_same _ _ (by decide) (by decide)
    dsimp only
    rw [← hu]
    clear hu
    by_cases hfault : a.fault = true
    · obtain ⟨htest, -, -, hdue, hcatch, hfail, -, htf, -⟩ := packTestFailed u (r := 2) (by decide)
      rw [if_pos hfault, PackTestFrom, if_pos hfault]
      exact ⟨⟨htest, hfail, htf (by decide)⟩, hdue.trans (by rw [hpwr]), hcatch.trans (by rw [hpwr])⟩
    · rw [if_neg hfault, PackTestFrom, if_neg hfault]
      have hset : (u.setFlag PWR_PACK_STS_TESTING true).flag PWR_PACK_STS_TESTING = true := flag_setFlag_same _ _ (by decide) (by decide)
      have hkeep : (u.setFlag PWR_PACK_STS_TESTING true).flag PWR_PACK_STS_CHARGED = a.charged := (flag_setFlag_ne _ _ (by decide)).trans hcharged
      have hup : (u.setFlag PWR_PACK_STS_TESTING true).pwr = s.pwr := hpwr
      generalize u.setFlag PWR_PACK_STS_TESTING true = v at *
      exact ⟨⟨rfl, rfl, hset, hkeep⟩, by rw [hup], by rw [hup]⟩

/-- What the start of a test leaves of the mode, the DRAM and the flash. -/
theorem packTestStart_keeps (s : State) (k : PackTestKind) (answer : Option PackStatus) :
    (s.packTestStart k answer).sys = s.sys ∧ (s.packTestStart k answer).dram = s.dram ∧ (s.packTestStart k answer).flash = s.flash := by
  have hf := frame_packTestStart s k answer
  exact ⟨hf.same .sys (by decide), hf.same .dram (by decide), hf.same .flash (by decide)⟩

/-- The boot test starts (R379 step 7). -/
theorem bootTest_starts {answer : Option PackStatus} (ht : s.pwr.test = none) (ha : s.flag PWR_FEED_STS_A_GOOD = true) (hm : s.sys.mode = .powerUp)
    (hl : s.flag PWR_RSTO_PACK_LOW = false) (hd : s.pwr.bootDone = false) : Answers (.bootTest answer) s (fun t =>
      PackTestFrom .boot answer t ∧ t.pwr.bootDone = t.pwr.test.isNone ∧ t.sys = s.sys ∧ t.dram = s.dram ∧ t.flash = s.flash) := by
  have hrun : exec (.bootTest answer) s = .next { s.packTestStart .boot answer with pwr := { (s.packTestStart .boot answer).pwr with bootDone := (s.packTestStart .boot answer).pwr.test.isNone } } :=
    if_pos (by simp [hm, hl, hd, ha])
  obtain ⟨hfrom, -, -⟩ := packTestStart_from (k := .boot) (answer := answer) ht ha
  obtain ⟨hsys, hdram, hflash⟩ := packTestStart_keeps s .boot answer
  generalize s.packTestStart .boot answer = u at *
  refine answers_of hrun ⟨?_, rfl, hsys, hdram, hflash⟩
  cases answer with
  | none => exact hfrom
  | some a => exact hfrom

/-- The periodic test falls due in service or lull (R392). -/
theorem capTestPeriodic_due {answer : Option PackStatus} (hm : s.sys.mode = .service ∨ s.sys.mode = .lull) : exec (.capTestPeriodic answer) s =
    .next (if s.pwr.test.isSome then { s with pwr := { s.pwr with periodicDue := none } }
      else if s.flag PWR_FEED_STS_A_GOOD then ({ s with pwr := { s.pwr with periodicDue := none } } : State).packTestStart .periodic answer
      else { s with pwr := { s.pwr with periodicDue := some answer } }) := by
  have hoff : s.inMode [.off] = false := by rcases hm with h | h <;> simp [State.inMode, h]
  have hin : s.inMode [.service, .lull] = true := by rcases hm with h | h <;> simp [State.inMode, h]
  exact (if_neg (by rw [hoff]; decide)).trans (congrArg Host.Outcome.next ((if_pos hin).trans rfl))

theorem execCapTestPeriodic_waits {answer : Option PackStatus} (hm : s.sys.mode ≠ .off) (h1 : s.sys.mode ≠ .service) (h2 : s.sys.mode ≠ .lull) :
    exec (.capTestPeriodic answer) s = .next { s with pwr := { s.pwr with periodicDue := some answer } } := by
  have hoff : s.inMode [.off] = false := by simp [State.inMode, hm]
  have hin : ¬ s.inMode [.service, .lull] = true := by simp [State.inMode, h1, h2]
  exact (if_neg (by rw [hoff]; decide)).trans (congrArg Host.Outcome.next (if_neg hin))

theorem execPackTest_of {src : PktSrc} {answer : Option PackStatus} {e : ExecPkt} (hf : s.findExec src 0x13 = some e) (hb : pktField e.bytes 8 1 = 0) :
    exec (.packTest src answer) s = if s.pwr.test.isSome then .next (s.startExec e 0)
      else if !s.flag PWR_FEED_STS_A_GOOD then .next (((s.startExec e 0).packTestFail 3).packTestEnd 3) else .next ((s.startExec e 0).packTestStart .packet answer) := by
  change execPackTest src answer s = _
  rw [execPackTest, hf]
  dsimp only
  rw [if_neg (by simp [hb])]
  rfl

/-! The energy (R393 to R395). -/

/-- The registers that a pack's voltage gives. -/
theorem storeEnergy_shows (s : State) (v : Nat) : (s.storeEnergy v).pwr = s.pwr ∧ (s.storeEnergy v).fld PWR_PACK_V0_V0 = v % 65536 ∧
    (s.flag PWR_PACK_STS_C_VALID = true → (s.storeEnergy v).fld PWR_PACK_E = packEnergy (s.fld PWR_PACK_C) (s.fld PWR_PACK_ESR) v % 2 ^ 32) ∧
    (∀ f ∈ [PWR_PACK_C, PWR_PACK_ESR, PWR_PACK_STS_FAIL, PWR_PACK_STS_TESTING, PWR_PACK_STS_C_VALID], (s.storeEnergy v).fld f = s.fld f) := by
  have hpwr : (s.storeEnergy v).pwr = s.pwr := (frame_storeEnergy s v).same .pwr (by decide)
  refine ⟨hpwr, ?_⟩
  rw [State.storeEnergy]
  refine ⟨?_, fun hc => ?_, fun f hf => ?_⟩
  · rw [State.setFlag, fld_setFld_ne _ _ (by decide), fld_setFld_ne _ _ (by decide), fld_setFld_same _ _ (by decide)]
    rfl
  · rw [hc, if_pos rfl, State.setFlag, fld_setFld_ne _ _ (by decide), fld_setFld_same _ _ (by decide)]
    rfl
  · have hout : ∀ g ∈ [PWR_PACK_V0_FLOOR, PWR_PACK_V0_V0, PWR_PACK_E, PWR_PACK_STS_ZERO_E], f.addr ≠ g.addr ∨ f.lo + f.w ≤ g.lo ∨ g.lo + g.w ≤ f.lo := by
      revert f
      decide
    rw [State.setFlag, fld_setFld_ne _ _ (hout _ (by simp)), fld_setFld_ne _ _ (hout _ (by simp)), fld_setFld_ne _ _ (hout _ (by simp)), fld_setFld_ne _ _ (hout _ (by simp))]

/-- The recheck of the deadline leaves the pack's registers (R245). -/
theorem packRecheck_keeps (s : State) : (s.packRecheck).pwr = s.pwr ∧ s.packRecheck.sys = s.sys ∧ s.packRecheck.dram = s.dram ∧
    (∀ f ∈ [PWR_PACK_C, PWR_PACK_ESR, PWR_PACK_STS_FAIL, PWR_PACK_STS_TESTING, PWR_PACK_STS_C_VALID, PWR_PACK_V0_V0, PWR_PACK_E], s.packRecheck.fld f = s.fld f) := by
  have hf := frame_packRecheck s
  refine ⟨hf.same .pwr (by decide), hf.same .sys (by decide), hf.same .dram (by decide), fun f hm => hf.fld f ?_⟩
  revert f
  decide

/-- The end of a test for the packets that wait leaves the pack's registers. -/
theorem packTestEnd_keeps (s : State) (r : Nat) : (s.packTestEnd r).sys = s.sys ∧ (s.packTestEnd r).dram = s.dram ∧
    (∀ f ∈ [PWR_PACK_C, PWR_PACK_ESR, PWR_PACK_STS_FAIL, PWR_PACK_STS_TESTING, PWR_PACK_STS_C_VALID, PWR_PACK_V0_V0, PWR_PACK_E], (s.packTestEnd r).fld f = s.fld f) ∧
    (s.packTestEnd r).pwr.test = s.pwr.test ∧ (s.packTestEnd r).pwr.load = s.pwr.load ∧ (s.packTestEnd r).pwr.charger = s.pwr.charger ∧ (s.packTestEnd r).pwr.capOk = s.pwr.capOk := by
  have hf := frame_packTestEnd s r
  have hpwr := packTestEnd_pwr s r
  refine ⟨hf.same .sys (by decide), hf.same .dram (by decide), fun f hm => hf.fld f (by revert f; decide), ?_⟩
  rw [hpwr]
  split
  · exact ⟨rfl, rfl, rfl, rfl⟩
  · exact ⟨rfl, rfl, rfl, rfl⟩

/-! The samples of a test (R391 to R394, Table 13-10). -/

section Samples
variable {v : BitVec 16} {k : PackTestKind}

/-- V0 above V_floor with a pack that does not answer (R391). -/
theorem capTestSettled_silent (ht : s.pwr.test = some (k, .settling)) (hv : vFloor (if s.pwr.capOk then s.fld PWR_PACK_ESR else 0) < v.toNat) :
    Answers (.capTestSettled ⟨v, false⟩) s (fun t => t.pwr.test = none ∧ t.pwr.load = false ∧ t.fld PWR_PACK_STS_FAIL = 1 ∧ t.flag PWR_PACK_STS_TESTING = false ∧ t.sys = s.sys ∧ t.dram = s.dram) := by
  have hrun : exec (.capTestSettled ⟨v, false⟩) s = .next ((s.packTestFail 1).packTestEnd 1) := by
    change execCapTestSettled ⟨v, false⟩ s = _
    rw [execCapTestSettled, ht]
    dsimp only
    rw [if_neg (Nat.not_le.mpr hv), if_pos (by decide)]
  obtain ⟨htest, hload, -, -, -, hfail, htesting, -, -, hsys, hdram, -⟩ := packTestFailed s (r := 1) (by decide)
  exact answers_of hrun ⟨htest, hload, hfail, htesting, hsys, hdram⟩

/-- The state in which the catch-up test is due where a condition holds (R392). -/
def withCatchUp (s : State) (b : Bool) : State := { s with pwr := { s.pwr with catchUp := s.pwr.catchUp || b } }

/-- Only the catch-up flag differs. -/
theorem withCatchUp_keeps (s : State) (b : Bool) : (withCatchUp s b).pwr.test = s.pwr.test ∧ (withCatchUp s b).pwr.load = s.pwr.load ∧
    (withCatchUp s b).pwr.charger = s.pwr.charger ∧ (withCatchUp s b).pwr.capOk = s.pwr.capOk ∧ (withCatchUp s b).sys = s.sys ∧ (withCatchUp s b).dram = s.dram ∧
    ∀ f, (withCatchUp s b).fld f = s.fld f := ⟨rfl, rfl, rfl, rfl, rfl, rfl, fun _ => rfl⟩

/-- The energy of the last voltage changes no more than its registers. -/
theorem storeEnergy_keeps (s : State) (v : Nat) : (s.storeEnergy v).pwr = s.pwr ∧ (s.storeEnergy v).sys = s.sys ∧ (s.storeEnergy v).dram = s.dram := by
  have hf := frame_storeEnergy s v
  exact ⟨hf.same .pwr (by decide), hf.same .sys (by decide), hf.same .dram (by decide)⟩

/-- What a test that ends without results leaves of the mode and the DRAM. -/
theorem packTestFail_keeps (s : State) (r : Nat) : (s.packTestFail r).sys = s.sys ∧ (s.packTestFail r).dram = s.dram := by
  have hf := frame_packTestFail s r
  exact ⟨hf.same .sys (by decide), hf.same .dram (by decide)⟩

/-- The registers of a state after a test that ended for a reason, a stored voltage and the mark of the catch-up test. -/
theorem storedLow_shows {u w : State} {r : Nat} (v : Nat) (b : Bool) (hpwr : u.pwr = { w.pwr with test := none, load := false }) (hsys : u.sys = w.sys) (hdram : u.dram = w.dram)
    (hfail : u.fld PWR_PACK_STS_FAIL = r) (htesting : u.flag PWR_PACK_STS_TESTING = false) :
    (withCatchUp (u.storeEnergy v) b).fld PWR_PACK_STS_FAIL = r ∧ (withCatchUp (u.storeEnergy v) b).flag PWR_PACK_STS_TESTING = false ∧
    (withCatchUp (u.storeEnergy v) b).pwr.test = none ∧ (withCatchUp (u.storeEnergy v) b).pwr.load = false ∧ (withCatchUp (u.storeEnergy v) b).pwr.charger = w.pwr.charger ∧
    (withCatchUp (u.storeEnergy v) b).sys = w.sys ∧ (withCatchUp (u.storeEnergy v) b).dram = w.dram := by
  obtain ⟨hepwr, hesys, hedram⟩ := storeEnergy_keeps u v
  obtain ⟨-, -, -, hefld⟩ := storeEnergy_shows u v
  have hfail' := (hefld PWR_PACK_STS_FAIL (by simp)).trans hfail
  have htesting' := (flag_of_fld (hefld PWR_PACK_STS_TESTING (by simp))).trans htesting
  rw [hpwr] at hepwr
  rw [hsys] at hesys
  rw [hdram] at hedram
  clear hefld
  generalize u.storeEnergy v = x at *
  obtain ⟨htest, hload, hcharger, -, hxsys, hxdram, hfld⟩ := withCatchUp_keeps x b
  rw [hepwr] at htest hload hcharger
  exact ⟨(hfld _).trans hfail', (flag_of_fld (hfld _)).trans htesting', htest, hload, hcharger, hxsys.trans hesys, hxdram.trans hedram⟩

/-- The recheck and the end of a test leave the pack's registers as they are (R245, R394). -/
theorem rechecked_keeps (s : State) (r : Nat) : (s.packRecheck.packTestEnd r).sys = s.sys ∧ (s.packRecheck.packTestEnd r).dram = s.dram ∧
    (∀ f ∈ [PWR_PACK_C, PWR_PACK_ESR, PWR_PACK_STS_FAIL, PWR_PACK_STS_TESTING, PWR_PACK_STS_C_VALID, PWR_PACK_V0_V0, PWR_PACK_E], (s.packRecheck.packTestEnd r).fld f = s.fld f) ∧
    (s.packRecheck.packTestEnd r).pwr.test = s.pwr.test ∧ (s.packRecheck.packTestEnd r).pwr.load = s.pwr.load ∧ (s.packRecheck.packTestEnd r).pwr.charger = s.pwr.charger ∧
    (s.packRecheck.packTestEnd r).pwr.capOk = s.pwr.capOk := by
  obtain ⟨hrpwr, hrsys, hrdram, hrfld⟩ := packRecheck_keeps s
  obtain ⟨hxsys, hxdram, hxfld, hxtest, hxload, hxcharger, hxcap⟩ := packTestEnd_keeps s.packRecheck r
  rw [hrpwr] at hxtest hxload hxcharger hxcap
  exact ⟨hxsys.trans hrsys, hxdram.trans hrdram, fun f hf => (hxfld f hf).trans (hrfld f hf), hxtest, hxload, hxcharger, hxcap⟩

/-- V0 at or below V_floor ends the test LOW, with the charger off as it was (R392). -/
theorem capTestSettled_low {ans : Bool} (ht : s.pwr.test = some (k, .settling)) (hv : v.toNat ≤ vFloor (if s.pwr.capOk then s.fld PWR_PACK_ESR else 0)) :
    Answers (.capTestSettled ⟨v, ans⟩) s (fun t => t.pwr.test = none ∧ t.pwr.load = false ∧ t.pwr.charger = s.pwr.charger ∧ t.fld PWR_PACK_STS_FAIL = 6 ∧
      t.flag PWR_PACK_STS_TESTING = false ∧ t.sys = s.sys ∧ t.dram = s.dram) := by
  have hrun : exec (.capTestSettled ⟨v, ans⟩) s = .next ((withCatchUp ((s.packTestFail 6).storeEnergy v.toNat) (decide (k = PackTestKind.boot))).packRecheck.packTestEnd 6) := by
    change execCapTestSettled ⟨v, ans⟩ s = _
    rw [execCapTestSettled, ht]
    exact if_pos hv
  obtain ⟨hpwr, hfail, htesting, -⟩ := packTestFail_shows s (r := 6) (by decide)
  obtain ⟨hsys, hdram⟩ := packTestFail_keeps s 6
  generalize s.packTestFail 6 = u at *
  obtain ⟨hfail', htesting', htest, hload, hcharger, hsys', hdram'⟩ := storedLow_shows v.toNat (decide (k = PackTestKind.boot)) hpwr hsys hdram hfail htesting
  generalize withCatchUp (u.storeEnergy v.toNat) (decide (k = PackTestKind.boot)) = w at *
  obtain ⟨hxsys, hxdram, hxfld, hxtest, hxload, hxcharger, -⟩ := rechecked_keeps w 6
  exact answers_of hrun ⟨hxtest.trans htest, hxload.trans hload, hxcharger.trans hcharger, (hxfld _ (by simp)).trans hfail', (flag_of_fld (hxfld _ (by simp))).trans htesting',
    hxsys.trans hsys', hxdram.trans hdram'⟩

/-- The state with the charger on again and the load off after the loaded samples (Table 13-10). -/
def unloaded (s : State) (k : PackTestKind) : State :=
  { s with pwr := { s.pwr with charger := true, load := false, catchUp := s.pwr.catchUp && decide (k ≠ PackTestKind.catchUp) } }

/-- The state after the sample of the loaded pack. -/
def sampled (s : State) (k : PackTestKind) (i c : BitVec 16) : State := unloaded (s.storePackSample i.toNat c.toNat) k

/-- Only the supervisor's part differs. -/
theorem unloaded_keeps (s : State) (k : PackTestKind) : (unloaded s k).sys = s.sys ∧ (unloaded s k).dram = s.dram ∧ (∀ f, (unloaded s k).fld f = s.fld f) ∧
    (unloaded s k).pwr.charger = true ∧ (unloaded s k).pwr.load = false := ⟨rfl, rfl, fun _ => rfl, rfl, rfl⟩

theorem sampled_keeps (s : State) (k : PackTestKind) (i c : BitVec 16) : (sampled s k i c).dram = s.dram ∧ (sampled s k i c).pwr.charger = true ∧ (sampled s k i c).pwr.load = false ∧
    ∀ f : Fld, f.addr ≠ 0xF04C → (sampled s k i c).fld f = s.fld f := by
  have hdram : (s.storePackSample i.toNat c.toNat).dram = s.dram := (frame_storePackSample s i.toNat c.toNat).same .dram (by decide)
  have hfld : ∀ f : Fld, f.addr ≠ 0xF04C → (s.storePackSample i.toNat c.toNat).fld f = s.fld f := fun f ha => by
    rw [State.storePackSample, fld_setFld_ne _ _ (.inl ha), fld_setFld_ne _ _ (.inl ha)]
  rw [sampled]
  generalize s.storePackSample i.toNat c.toNat = u at *
  obtain ⟨-, hu, huf, huc, hul⟩ := unloaded_keeps u k
  exact ⟨hu.trans hdram, huc, hul, fun f ha => (huf f).trans (hfld f ha)⟩

/-- A pack that does not answer to the current ends the test (R391). -/
theorem capTestV2Sample_silent {v0 v1 : Nat} {c : BitVec 16} (ht : s.pwr.test = some (k, .v1 v0 v1)) : Answers (.capTestV2Sample v none c) s (fun t =>
    t.pwr.test = none ∧ t.fld PWR_PACK_STS_FAIL = 1 ∧ t.fld PWR_PACK_C = s.fld PWR_PACK_C ∧ t.fld PWR_PACK_ESR = s.fld PWR_PACK_ESR ∧ t.dram = s.dram) := by
  have hrun : exec (.capTestV2Sample v none c) s = .next ((s.packTestFail 1).packTestEnd 1) := by
    change execCapTestV2Sample v none c s = _
    unfold execCapTestV2Sample
    rw [ht]
    rfl
  obtain ⟨htest, -, -, -, -, hfail, -, -, hvals, -, hdram, -⟩ := packTestFailed s (r := 1) (by decide)
  exact answers_of hrun ⟨htest, hfail, hvals _ (by simp), hvals _ (by simp), hdram⟩

/-- What a test that ends without results after its samples shows (R394). -/
theorem sampledFailed (s : State) (k : PackTestKind) (i c : BitVec 16) {r : Nat} (hr : r < 256) : (((sampled s k i c).packTestFail r).packTestEnd r).pwr.test = none ∧
    (((sampled s k i c).packTestFail r).packTestEnd r).pwr.charger = true ∧ (((sampled s k i c).packTestFail r).packTestEnd r).fld PWR_PACK_STS_FAIL = r ∧
    (((sampled s k i c).packTestFail r).packTestEnd r).fld PWR_PACK_C = s.fld PWR_PACK_C ∧
    (((sampled s k i c).packTestFail r).packTestEnd r).fld PWR_PACK_ESR = s.fld PWR_PACK_ESR ∧ (((sampled s k i c).packTestFail r).packTestEnd r).dram = s.dram := by
  obtain ⟨hdram, hcharger, -, hfld⟩ := sampled_keeps s k i c
  generalize sampled s k i c = u at *
  obtain ⟨htest, -, hch, -, -, hfail, -, -, hvals, -, hd, -⟩ := packTestFailed u hr
  exact ⟨htest, hch.trans hcharger, hfail, (hvals _ (by simp)).trans (hfld _ (by decide)), (hvals _ (by simp)).trans (hfld _ (by decide)), hd.trans hdram⟩

/-- The registers of the results (R393, R394). -/
def storeResults (s : State) (esr c : Nat) : State :=
  ((((s.setFld PWR_PACK_ESR esr).setFld PWR_PACK_C c).setFlag PWR_PACK_STS_C_VALID true).setFld PWR_PACK_AGE 0).setFlag PWR_PACK_STS_TESTING false

theorem storeResults_shows (s : State) {esr c : Nat} (he : esr < 2 ^ 32) (hc : c < 2 ^ 32) : (storeResults s esr c).fld PWR_PACK_ESR = esr ∧ (storeResults s esr c).fld PWR_PACK_C = c ∧
    (storeResults s esr c).flag PWR_PACK_STS_C_VALID = true ∧ (storeResults s esr c).pwr = s.pwr ∧ (storeResults s esr c).dram = s.dram := by
  refine ⟨?_, ?_, ?_, by simp [storeResults], by simp [storeResults]⟩
  · rw [storeResults, State.setFlag, fld_setFld_ne _ _ (by decide), fld_setFld_ne _ _ (by decide), State.setFlag, fld_setFld_ne _ _ (by decide), fld_setFld_ne _ _ (by decide),
      fld_setFld_same _ _ (by decide)]
    exact Nat.mod_eq_of_lt he
  · rw [storeResults, State.setFlag, fld_setFld_ne _ _ (by decide), fld_setFld_ne _ _ (by decide), State.setFlag, fld_setFld_ne _ _ (by decide), fld_setFld_same _ _ (by decide)]
    exact Nat.mod_eq_of_lt hc
  · rw [storeResults, flag_setFlag_ne _ _ (by decide), flag_of_fld (fld_setFld_ne _ _ (by decide))]
    exact flag_setFlag_same _ _ (by decide) (by decide)

/-- The test is over with results (R393). -/
def concluded (s : State) : State := { s with pwr := { s.pwr with test := none, capOk := true, capTick := s.tick } }

theorem concluded_shows (s : State) : (concluded s).pwr.test = none ∧ (concluded s).pwr.capOk = true ∧ (concluded s).pwr.load = s.pwr.load ∧
    (concluded s).pwr.charger = s.pwr.charger ∧ (concluded s).dram = s.dram := ⟨rfl, rfl, rfl, rfl, rfl⟩

/-- The reason of a test with results: LOW or none (R392, R394). -/
def lowReason (low : Bool) : Nat := if low then 6 else 0

/-- The state of a test that ends with results, before the recheck of the deadline (R393, R394). -/
def finished (s : State) (k : PackTestKind) (v0 esr c : Nat) (low : Bool) : State :=
  withCatchUp (((storeResults (concluded s) esr c).storeEnergy v0).setFld PWR_PACK_STS_FAIL (lowReason low)) (low && decide (k = PackTestKind.boot))

/-- What a test that ends with results shows. -/
theorem finished_shows (s : State) (k : PackTestKind) {v0 esr c : Nat} (low : Bool) (he : esr < 2 ^ 32) (hc : c < 2 ^ 32) (hv : v0 < 65536) :
    (finished s k v0 esr c low).pwr.test = none ∧ (finished s k v0 esr c low).pwr.load = s.pwr.load ∧ (finished s k v0 esr c low).pwr.charger = s.pwr.charger ∧
    (finished s k v0 esr c low).pwr.capOk = true ∧ (finished s k v0 esr c low).flag PWR_PACK_STS_C_VALID = true ∧ (finished s k v0 esr c low).fld PWR_PACK_ESR = esr ∧
    (finished s k v0 esr c low).fld PWR_PACK_C = c ∧ (finished s k v0 esr c low).fld PWR_PACK_V0_V0 = v0 ∧
    (finished s k v0 esr c low).fld PWR_PACK_E = packEnergy c esr v0 % 2 ^ 32 ∧ (finished s k v0 esr c low).fld PWR_PACK_STS_FAIL = lowReason low ∧
    (finished s k v0 esr c low).dram = s.dram := by
  obtain ⟨htest, hok, hload, hcharger, hdram⟩ := concluded_shows s
  rw [finished]
  generalize concluded s = u at *
  obtain ⟨hesr, hcap, hvalid, hrpwr, hrdram⟩ := storeResults_shows u he hc
  generalize storeResults u esr c = w at *
  obtain ⟨hepwr, -, hedram⟩ := storeEnergy_keeps w v0
  obtain ⟨-, hev, hee, hefld⟩ := storeEnergy_shows w v0
  have hee := hee hvalid
  have hec := hefld PWR_PACK_C (by simp)
  have her := hefld PWR_PACK_ESR (by simp)
  have hecv := flag_of_fld (hefld PWR_PACK_STS_C_VALID (by simp))
  rw [hcap, hesr] at hee
  generalize packEnergy c esr v0 = en at *
  clear hefld
  generalize w.storeEnergy v0 = x at *
  have hn : lowReason low < 256 := by cases low <;> decide
  generalize lowReason low = n at *
  generalize (low && decide (k = PackTestKind.boot)) = b at *
  have hypwr : (x.setFld PWR_PACK_STS_FAIL n).pwr = x.pwr := pwr_setFld ..
  have hydram : (x.setFld PWR_PACK_STS_FAIL n).dram = x.dram := dram_setFld ..
  have hyf : (x.setFld PWR_PACK_STS_FAIL n).fld PWR_PACK_STS_FAIL = n := (fld_setFld_same _ _ (by decide)).trans (Nat.mod_eq_of_lt hn)
  have hyc : (x.setFld PWR_PACK_STS_FAIL n).fld PWR_PACK_C = c := (fld_setFld_ne _ _ (by decide)).trans (hec.trans hcap)
  have hyr : (x.setFld PWR_PACK_STS_FAIL n).fld PWR_PACK_ESR = esr := (fld_setFld_ne _ _ (by decide)).trans (her.trans hesr)
  have hyv : (x.setFld PWR_PACK_STS_FAIL n).fld PWR_PACK_V0_V0 = v0 := (fld_setFld_ne _ _ (by decide)).trans (hev.trans (Nat.mod_eq_of_lt hv))
  have hye : (x.setFld PWR_PACK_STS_FAIL n).fld PWR_PACK_E = en % 2 ^ 32 := (fld_setFld_ne _ _ (by decide)).trans hee
  have hycv : (x.setFld PWR_PACK_STS_FAIL n).flag PWR_PACK_STS_C_VALID = true := (flag_of_fld (fld_setFld_ne _ _ (by decide))).trans (hecv.trans hvalid)
  generalize x.setFld PWR_PACK_STS_FAIL n = y at *
  obtain ⟨hztest, hzload, hzcharger, hzcap, -, hzdram, hzf⟩ := withCatchUp_keeps y b
  rw [hypwr, hepwr, hrpwr] at hztest hzload hzcharger hzcap
  exact ⟨hztest.trans htest, hzload.trans hload, hzcharger.trans hcharger, hzcap.trans hok, (flag_of_fld (hzf _)).trans hycv, (hzf _).trans hyr, (hzf _).trans hyc, (hzf _).trans hyv,
    (hzf _).trans hye, (hzf _).trans hyf, hzdram.trans (hydram.trans (hedram.trans (hrdram.trans hdram)))⟩

/-- V2 ends a test after its loaded sample, by the current and the droop (R393, R394). -/
theorem execCapTestV2Sample_of {v0 v1 : Nat} {i c : BitVec 16} (ht : s.pwr.test = some (k, .v1 v0 v1)) : execCapTestV2Sample v (some i) c s =
    if i.toNat < 1000 || 10000 < i.toNat then .next (((sampled s k i c).packTestFail 4).packTestEnd 4)
    else if v1 < v.toNat + 20 then .next (((sampled s k i c).packTestFail 5).packTestEnd 5)
    else .next ((finished (sampled s k i c) k v0 (packEsr v0 v1 i.toNat) (i.toNat * (sampled s k i c).fld PWR_PACK_CTL_T_MS / (v1 - v.toNat) / 10 * 10)
      (decide (v0 ≤ vFloor (packEsr v0 v1 i.toNat)))).packRecheck.packTestEnd (lowReason (decide (v0 ≤ vFloor (packEsr v0 v1 i.toNat))))) := by
  unfold execCapTestV2Sample
  rw [ht]
  rfl

/-- A current out of range ends the test LOAD (R394). -/
theorem capTestV2Sample_load {v0 v1 : Nat} {i c : BitVec 16} (ht : s.pwr.test = some (k, .v1 v0 v1)) (hi : i.toNat < 1000 ∨ 10000 < i.toNat) :
    Answers (.capTestV2Sample v (some i) c) s (fun t => t.pwr.test = none ∧ t.pwr.charger = true ∧ t.fld PWR_PACK_STS_FAIL = 4 ∧ t.fld PWR_PACK_C = s.fld PWR_PACK_C ∧
      t.fld PWR_PACK_ESR = s.fld PWR_PACK_ESR ∧ t.dram = s.dram) :=
  answers_of (i := .capTestV2Sample v (some i) c) ((execCapTestV2Sample_of ht).trans (if_pos (by simpa using hi))) (sampledFailed s k i c (r := 4) (by decide))

/-- A droop below 20 mV ends the test SAG (R394). -/
theorem capTestV2Sample_sag {v0 v1 : Nat} {i c : BitVec 16} (ht : s.pwr.test = some (k, .v1 v0 v1)) (h1 : 1000 ≤ i.toNat) (h2 : i.toNat ≤ 10000) (hd : v1 < v.toNat + 20) :
    Answers (.capTestV2Sample v (some i) c) s (fun t => t.pwr.test = none ∧ t.pwr.charger = true ∧ t.fld PWR_PACK_STS_FAIL = 5 ∧ t.fld PWR_PACK_C = s.fld PWR_PACK_C ∧
      t.fld PWR_PACK_ESR = s.fld PWR_PACK_ESR ∧ t.dram = s.dram) :=
  answers_of (i := .capTestV2Sample v (some i) c) ((execCapTestV2Sample_of ht).trans ((if_neg (by simp; omega)).trans (if_pos hd))) (sampledFailed s k i c (r := 5) (by decide))

/-- The ESR of a sampled droop fits its register (R393). -/
theorem packEsr_lt {v0 v1 i : Nat} (hv : v0 < 65536) (h : v1 ≤ v0) (hi : 1000 ≤ i) : packEsr v0 v1 i = (v0 - v1) * 1000000 / i ∧ packEsr v0 v1 i < 2 ^ 32 := by
  refine ⟨if_pos h, ?_⟩
  rw [packEsr, if_pos h]
  calc (v0 - v1) * 1000000 / i ≤ (v0 - v1) * 1000000 / 1000 := Nat.div_le_div_left hi (by decide)
    _ < 2 ^ 32 := by omega

/-- The capacitance of a sampled droop fits its register (R393). -/
theorem packC_lt {i t d : Nat} (hi : i ≤ 10000) (ht : t < 65536) (hd : 20 ≤ d) : i * t / d / 10 * 10 < 2 ^ 32 := by
  have hprod : i * t ≤ 10000 * 65536 := Nat.mul_le_mul hi ht.le
  have hdiv : i * t / d ≤ i * t := Nat.div_le_self _ _
  omega

/-- V2 with a current and a droop in range ends the test with ESR, C and the energy (R393). -/
theorem capTestV2Sample_ends {v0 v1 : Nat} {i c : BitVec 16} (ht : s.pwr.test = some (k, .v1 v0 v1)) (h1 : 1000 ≤ i.toNat) (h2 : i.toNat ≤ 10000) (hd : v.toNat + 20 ≤ v1) (hv : v1 ≤ v0)
    (h0 : v0 < 65536) : Answers (.capTestV2Sample v (some i) c) s (fun t =>
      t.pwr.test = none ∧ t.pwr.load = false ∧ t.pwr.charger = true ∧ t.pwr.capOk = true ∧ t.flag PWR_PACK_STS_C_VALID = true ∧
      t.fld PWR_PACK_ESR = (v0 - v1) * 1000000 / i.toNat ∧ t.fld PWR_PACK_C = i.toNat * s.fld PWR_PACK_CTL_T_MS / (v1 - v.toNat) / 10 * 10 ∧
      t.fld PWR_PACK_V0_V0 = v0 ∧ t.fld PWR_PACK_E = packEnergy (t.fld PWR_PACK_C) (t.fld PWR_PACK_ESR) v0 % 2 ^ 32 ∧
      t.fld PWR_PACK_STS_FAIL = (if v0 ≤ vFloor (t.fld PWR_PACK_ESR) then 6 else 0) ∧ t.dram = s.dram) := by
  have hrun := (execCapTestV2Sample_of (v := v) (i := i) (c := c) ht).trans ((if_neg (by simp; omega)).trans (if_neg (by omega)))
  obtain ⟨hdram, hcharger, hload, hfld⟩ := sampled_keeps s k i c
  have hT := hfld PWR_PACK_CTL_T_MS (by decide)
  obtain ⟨hesr, hel⟩ := packEsr_lt h0 hv h1
  have hcl : i.toNat * s.fld PWR_PACK_CTL_T_MS / (v1 - v.toNat) / 10 * 10 < 2 ^ 32 := packC_lt h2 (fld_lt s _) (by omega)
  rw [hT] at hrun
  rw [← hesr]
  clear hfld hT hesr
  generalize sampled s k i c = u at *
  generalize packEsr v0 v1 i.toNat = esr at *
  generalize i.toNat * s.fld PWR_PACK_CTL_T_MS / (v1 - v.toNat) / 10 * 10 = cap at *
  have hlow : lowReason (decide (v0 ≤ vFloor esr)) = if v0 ≤ vFloor esr then 6 else 0 := by simp [lowReason]
  generalize decide (v0 ≤ vFloor esr) = low at *
  obtain ⟨hft, hfl, hfc, hfo, hfv, hfe, hfcap, hfv0, hfen, hff, hfd⟩ := finished_shows u k low hel hcl h0
  generalize finished u k v0 esr cap low = w at *
  obtain ⟨-, hxdram, hxfld, hxtest, hxload, hxcharger, hxcap⟩ := rechecked_keeps w (lowReason low)
  have hxe := (hxfld PWR_PACK_ESR (by simp)).trans hfe
  have hxc := (hxfld PWR_PACK_C (by simp)).trans hfcap
  refine answers_of (i := .capTestV2Sample v (some i) c) hrun ⟨hxtest.trans hft, hxload.trans (hfl.trans hload), hxcharger.trans (hfc.trans hcharger), hxcap.trans hfo,
    (flag_of_fld (hxfld _ (by simp))).trans hfv, hxe, hxc, (hxfld _ (by simp)).trans hfv0, ?_, ?_, hxdram.trans (hfd.trans hdram)⟩
  · rw [hxe, hxc]
    exact (hxfld _ (by simp)).trans hfen
  · rw [hxe, ← hlow]
    exact (hxfld _ (by simp)).trans hff

/-- A voltage test computes the energy anew (R395, R396). -/
theorem voltageTest_computes (h1 : s.sys.mode ≠ .off) (h2 : s.sys.mode ≠ .save) (hc : s.flag PWR_PACK_STS_C_VALID = true) (ht : s.pwr.test = none) : Answers (.voltageTest v) s (fun t =>
      t.fld PWR_PACK_V0_V0 = v.toNat ∧ t.fld PWR_PACK_E = packEnergy (s.fld PWR_PACK_C) (s.fld PWR_PACK_ESR) v.toNat % 2 ^ 32 ∧
      t.fld PWR_PACK_C = s.fld PWR_PACK_C ∧ t.pwr = s.pwr ∧ t.sys = s.sys ∧ t.dram = s.dram) := by
  have hrun : exec (.voltageTest v) s = .next (s.storeEnergy v.toNat).packRecheck := if_neg (by simp [State.inMode, h1, h2, hc, ht])
  obtain ⟨hpwr, hsys, hdram⟩ := storeEnergy_keeps s v.toNat
  obtain ⟨-, hv, he, hfld⟩ := storeEnergy_shows s v.toNat
  have he := he hc
  have hcap := hfld PWR_PACK_C (by simp)
  clear hfld
  generalize s.storeEnergy v.toNat = u at *
  obtain ⟨hrpwr, hrsys, hrdram, hrfld⟩ := packRecheck_keeps u
  exact answers_of hrun ⟨(hrfld _ (by simp)).trans (hv.trans (Nat.mod_eq_of_lt v.isLt)), (hrfld _ (by simp)).trans he, (hrfld _ (by simp)).trans hcap, hrpwr.trans hpwr, hrsys.trans hsys,
    hrdram.trans hdram⟩

end Samples

/-- The expiry of C_VALID clears it and the energy (R394). -/
theorem cValidExpiry_clears (s : State) : Answers .cValidExpiry s (fun t => t.flag PWR_PACK_STS_C_VALID = false ∧ t.fld PWR_PACK_E = 0 ∧ t.flag PWR_PACK_STS_ZERO_E = true ∧
    OnlyFields [PWR_PACK_STS_C_VALID, PWR_PACK_E, PWR_PACK_STS_ZERO_E] s t) := by
  refine answers_of (i := .cValidExpiry) (t := s.clearCValid) rfl ⟨?_, ?_, flag_setFlag_same _ _ (by decide) (by decide), ?_⟩
  · rw [State.clearCValid, flag_setFlag_ne _ _ (by decide), flag_of_fld (fld_setFld_ne _ _ (by decide))]
    exact flag_setFlag_same _ _ (by decide) (by decide)
  · rw [State.clearCValid, State.setFlag, fld_setFld_ne _ _ (by decide)]
    exact fld_setFld_same _ _ (by decide)
  · exact onlyFields_setFlag (onlyFields_setFld (onlyFields_setFlag (onlyFields_refl _ s) _ (by simp)) _ (by simp)) _ (by simp)

end

/-! The statement. -/

/-- How the tests start and what overtakes them. -/
theorem packTests_start (s : State) (answer : Option PackStatus) :
     ((s.sys.mode ≠ .powerUp ∨ s.flag PWR_RSTO_PACK_LOW = true ∨ s.pwr.bootDone = true ∨ s.flag PWR_FEED_STS_A_GOOD = false) → Answers (.bootTest answer) s (fun t => t = s)) ∧
     ((s.pwr.catchUp = false ∨ s.flag PWR_FEED_STS_A_GOOD = false) → Answers (.packCharged answer) s (fun t => t = s.setFlag PWR_PACK_STS_CHARGED true)) ∧
     (s.pwr.test = none → s.flag PWR_FEED_STS_A_GOOD = true → s.pwr.catchUp = true → Answers (.packCharged answer) s (fun t =>
         PackTestFrom .catchUp answer t ∧ t.pwr.catchUp = false ∧ t.sys = s.sys ∧ t.dram = s.dram ∧ t.flash = s.flash)) := by
  have hgood : (s.setFlag PWR_PACK_STS_CHARGED true).flag PWR_FEED_STS_A_GOOD = s.flag PWR_FEED_STS_A_GOOD := flag_setFlag_ne _ _ (by decide)
  have hpwr : (s.setFlag PWR_PACK_STS_CHARGED true).pwr = s.pwr := rfl
  refine ⟨fun h => ?_, fun h => ?_, fun ht ha hc => ?_⟩
  · refine answers_of (i := .bootTest answer) (if_neg ?_) rfl
    rcases h with h | h | h | h <;> simp [h]
  · refine answers_of (i := .packCharged answer) (if_neg ?_) rfl
    rw [hgood, hpwr]
    rcases h with h | h <;> simp [h]
  · obtain ⟨u, hu⟩ : ∃ u : State, u = { s.setFlag PWR_PACK_STS_CHARGED true with pwr := { s.pwr with catchUp := false } } := ⟨_, rfl⟩
    have hrun : exec (.packCharged answer) s = .next (u.packTestStart .catchUp answer) := by
      rw [hu]
      exact if_pos (by rw [hgood, hpwr, ha, hc]; rfl)
    have hut : u.pwr.test = none ∧ u.pwr.catchUp = false ∧ u.sys = s.sys ∧ u.dram = s.dram ∧ u.flash = s.flash := by
      rw [hu]
      exact ⟨ht, rfl, rfl, rfl, rfl⟩
    have hua : u.flag PWR_FEED_STS_A_GOOD = true := by
      rw [hu]
      exact hgood.trans ha
    obtain ⟨hnone, hcatch, hsys, hdram, hflash⟩ := hut
    obtain ⟨hfrom, -, hk⟩ := packTestStart_from (k := .catchUp) (answer := answer) hnone hua
    obtain ⟨hksys, hkdram, hkflash⟩ := packTestStart_keeps u .catchUp answer
    exact answers_of hrun ⟨hfrom, hk.trans hcatch, hksys.trans hsys, hkdram.trans hdram, hkflash.trans hflash⟩

/-- The periodic test by mode, by feed A and by a test under way. -/
theorem packTests_periodic (s : State) (answer : Option PackStatus) :
     (s.sys.mode = .off → Answers (.capTestPeriodic answer) s (fun t => t = s)) ∧
     (s.sys.mode ≠ .off → s.sys.mode ≠ .service → s.sys.mode ≠ .lull →
       Answers (.capTestPeriodic answer) s (fun t => t = { s with pwr := { s.pwr with periodicDue := some answer } })) ∧
     ((s.sys.mode = .service ∨ s.sys.mode = .lull) → s.pwr.test = none → s.flag PWR_FEED_STS_A_GOOD = false →
       Answers (.capTestPeriodic answer) s (fun t => t = { s with pwr := { s.pwr with periodicDue := some answer } })) ∧
     ((s.sys.mode = .service ∨ s.sys.mode = .lull) → s.pwr.test ≠ none → Answers (.capTestPeriodic answer) s (fun t => t = { s with pwr := { s.pwr with periodicDue := none } })) ∧
     (s.pwr.test = none → s.flag PWR_FEED_STS_A_GOOD = true → (s.sys.mode = .service ∨ s.sys.mode = .lull) → Answers (.capTestPeriodic answer) s (fun t =>
         PackTestFrom .periodic answer t ∧ t.pwr.periodicDue = none ∧ t.sys = s.sys ∧ t.dram = s.dram ∧ t.flash = s.flash)) := by
  refine ⟨fun hm => ?_, fun h1 h2 h3 => answers_of (execCapTestPeriodic_waits h1 h2 h3) rfl, fun hm ht ha => ?_, fun hm ht => ?_, fun ht ha hm => ?_⟩
  · exact answers_of (i := .capTestPeriodic answer) (if_pos (by simp [State.inMode, hm])) rfl
  · refine answers_of (capTestPeriodic_due hm) ?_
    rw [ht, ha]
    rfl
  · refine answers_of (capTestPeriodic_due hm) (if_pos ?_)
    exact Option.isSome_iff_ne_none.mpr ht
  · have hrun := capTestPeriodic_due (answer := answer) hm
    rw [if_neg (by rw [ht]; decide), if_pos ha] at hrun
    obtain ⟨u, hu⟩ : ∃ u : State, u = { s with pwr := { s.pwr with periodicDue := none } } := ⟨_, rfl⟩
    rw [← hu] at hrun
    have hut : u.pwr.test = none ∧ u.pwr.periodicDue = none ∧ u.sys = s.sys ∧ u.dram = s.dram ∧ u.flash = s.flash ∧ u.flag PWR_FEED_STS_A_GOOD = true := by
      rw [hu]
      exact ⟨ht, rfl, rfl, rfl, rfl, ha⟩
    obtain ⟨hnone, hdue, hsys, hdram, hflash, hua⟩ := hut
    obtain ⟨hfrom, hk, -⟩ := packTestStart_from (k := .periodic) (answer := answer) hnone hua
    obtain ⟨hksys, hkdram, hkflash⟩ := packTestStart_keeps u .periodic answer
    exact answers_of hrun ⟨hfrom, hk.trans hdue, hksys.trans hsys, hkdram.trans hdram, hkflash.trans hflash⟩

/-- PACK_TEST by its packet, by a test under way and by feed A. -/
theorem packTests_packet (s : State) (answer : Option PackStatus) (src : PktSrc) :
     (s.findExec src 0x13 = none → Answers (.packTest src answer) s (fun t => t = s)) ∧
     (∀ e, s.findExec src 0x13 = some e → pktField e.bytes 8 1 ≠ 0 → Answers (.packTest src answer) s (fun t => t = s.complete e stNotPermitted [] (atByte 8))) ∧
     (∀ e, s.findExec src 0x13 = some e → pktField e.bytes 8 1 = 0 → s.pwr.test ≠ none →
       Answers (.packTest src answer) s (fun t => t = s.setExec e { e with started := true, aux := 0 })) ∧
     (∀ e, s.findExec src 0x13 = some e → pktField e.bytes 8 1 = 0 → s.pwr.test = none → s.flag PWR_FEED_STS_A_GOOD = false →
       Answers (.packTest src answer) s (fun t => t.pwr.test = none ∧ t.fld PWR_PACK_STS_FAIL = 3 ∧ t.flag PWR_PACK_STS_TEST_FAIL = true ∧ t.dram = s.dram)) ∧
     (∀ e, s.findExec src 0x13 = some e → pktField e.bytes 8 1 = 0 → s.pwr.test = none → s.flag PWR_FEED_STS_A_GOOD = true → Answers (.packTest src answer) s (fun t =>
         PackTestFrom .packet answer t ∧ t.sys = s.sys ∧ t.dram = s.dram ∧ t.flash = s.flash)) := by
  refine ⟨fun hf => ?_, fun e hf hb => ?_, fun e hf hb ht => ?_, fun e hf hb ht ha => ?_, fun e hf hb ht ha => ?_⟩
  · refine answers_of (i := .packTest src answer) (t := s) ?_ rfl
    change execPackTest src answer s = _
    rw [execPackTest, hf]
  · refine answers_of (i := .packTest src answer) (t := s.complete e stNotPermitted [] (atByte 8)) ?_ rfl
    change execPackTest src answer s = _
    rw [execPackTest, hf]
    exact if_pos hb
  · exact answers_of ((execPackTest_of hf hb).trans (if_pos (Option.isSome_iff_ne_none.mpr ht))) rfl
  · have hrun := (execPackTest_of (answer := answer) hf hb).trans ((if_neg (by rw [ht]; decide)).trans (if_pos (by rw [ha]; rfl)))
    have hdram : (s.startExec e 0).dram = s.dram := rfl
    generalize s.startExec e 0 = u at *
    obtain ⟨htest, -, -, -, -, hfail, -, htf, -, -, hd, -⟩ := packTestFailed u (r := 3) (by decide)
    exact answers_of hrun ⟨htest, hfail, htf (by decide), hd.trans hdram⟩
  · have hrun := (execPackTest_of (answer := answer) hf hb).trans ((if_neg (by rw [ht]; decide)).trans (if_neg (by rw [ha]; decide)))
    have hu : (s.startExec e 0).pwr = s.pwr ∧ (s.startExec e 0).sys = s.sys ∧ (s.startExec e 0).dram = s.dram ∧ (s.startExec e 0).flash = s.flash ∧
      (s.startExec e 0).flag PWR_FEED_STS_A_GOOD = s.flag PWR_FEED_STS_A_GOOD := ⟨rfl, rfl, rfl, rfl, rfl⟩
    generalize s.startExec e 0 = u at *
    obtain ⟨hpwr, hsys, hdram, hflash, hua⟩ := hu
    obtain ⟨hfrom, -, -⟩ := packTestStart_from (k := .packet) (answer := answer) (by rw [hpwr]; exact ht) (hua.trans ha)
    obtain ⟨hksys, hkdram, hkflash⟩ := packTestStart_keeps u .packet answer
    exact answers_of hrun ⟨hfrom, hksys.trans hsys, hkdram.trans hdram, hkflash.trans hflash⟩

/-- Settles O38: the tests of the capacitance start, sample and end as Table 13-10 gives, with the energy that follows. -/
theorem packTests : Obligations.PackTests := by
  refine ⟨fun s answer => ?_, fun s v => ⟨fun k ans ht => ⟨fun hv => ?_, capTestSettled_silent ht, capTestSettled_low ht, ?_⟩, fun k v0 ans ht => ⟨?_, ?_⟩, fun i c hn => ?_,
    fun k v0 v1 c ht => capTestV2Sample_silent ht,
    fun k v0 v1 i c ht => ⟨capTestV2Sample_load ht, capTestV2Sample_sag ht, capTestV2Sample_ends ht⟩, fun h => ?_, voltageTest_computes, cValidExpiry_clears s⟩⟩
  · obtain ⟨hboot, hcharged, hcatch⟩ := packTests_start s answer
    obtain ⟨hoff, hwaits, hnoFeed, hunderWay, hstarts⟩ := packTests_periodic s answer
    have hp := packTests_packet s answer
    exact ⟨hboot, hoff, hwaits, hnoFeed, hunderWay, hcharged, fun src => (hp src).1, fun src => (hp src).2.1, fun src => (hp src).2.2.1, fun src => (hp src).2.2.2.1,
      fun ht ha => ⟨bootTest_starts ht ha, hstarts ht ha, hcatch ht ha, fun src e hf hb => (hp src).2.2.2.2 e hf hb ht ha⟩⟩
  · refine answers_of (i := .capTestSettled ⟨v, true⟩) (t := { s with pwr := { s.pwr with test := some (k, .loaded v.toNat), load := true } }) ?_ rfl
    change execCapTestSettled ⟨v, true⟩ s = _
    rw [execCapTestSettled, ht]
    exact (if_neg (Nat.not_le.mpr hv)).trans (if_neg Bool.false_ne_true)
  · refine answers_of (i := .capTestV1Sample v) (t := s) ?_ rfl
    change execCapTestV1Sample v s = _
    rw [execCapTestV1Sample, ht]
  · refine answers_of (i := .capTestSettled ⟨v, ans⟩) (t := s) ?_ rfl
    change execCapTestSettled ⟨v, ans⟩ s = _
    rw [execCapTestSettled, ht]
  · refine answers_of (i := .capTestV1Sample v) (t := { s with pwr := { s.pwr with test := some (k, .v1 v0 v.toNat) } }) ?_ rfl
    change execCapTestV1Sample v s = _
    rw [execCapTestV1Sample, ht]
  · refine answers_of (i := .capTestV2Sample v i c) (t := s) ?_ rfl
    change execCapTestV2Sample v i c s = _
    unfold execCapTestV2Sample
    split
    · next p ht =>
      refine congrArg Host.Outcome.next (if_neg ?_)
      rw [ht]
      obtain ⟨k, st⟩ := p
      cases st with
      | v1 v0 v1 => exact absurd ht (hn k v0 v1)
      | settling => exact Bool.false_ne_true
      | loaded v0 => exact Bool.false_ne_true
    · next k v0 v1 i ht => exact absurd ht (hn k v0 v1)
    · rfl
  · refine answers_of (i := .voltageTest v) (if_pos ?_) rfl
    rcases h with h | h | h | h
    · simp [State.inMode, h]
    · simp [State.inMode, h]
    · simp [h]
    · simp [Option.isSome_iff_ne_none.mpr h]

end Sys2Proof.Proofs

/-! PROOF. How a shut-down starts: its stages are lowered till an enabled rail stands in one, and with none the part is off (R384, R385, R368). -/

namespace Sys2Proof.Proofs

open Sys2Proof.Machine Sys2Proof.Machine.Reg Sys2Proof.Laws

section
variable {s t : State} {cause : Nat} {past : Bool}

/-! The state before the first stage is lowered. -/

/-- The units stop, the packets are lost, and the ranks are in self-refresh (R130, R370). -/
def silenced (s : State) : State :=
  ((((((((s.restoreStop.learnStop 5).loopAbort.trainHalt).trainLeave).setMode .shutDown).setFlag SAV_CTL_RST_DISCARD false).setFld SPT_STS_SEQ 6).packetsLost).giveDram).enterSelfRef

/-- The sequencer's own state at the start of a shut-down (R384, R385). -/
def sequenced (s : State) (cause : Nat) (past : Bool) : State :=
  ({ s with pwr := { s.pwr with waiting := 0, failed := 0, retries := [], lowest := 8, dramPoint := past, offCause := cause } } : State).setFlag PWR_RSTO_AUX_LOW true
    |>.setFld PWR_SEQ_STS_STATE 3

/-- GATE_B stands as GATE_A's opposite (Table 13-1). -/
def gated (s : State) : State := if s.flag PWR_FEED_STS_GATE_A then s.setFlag PWR_FEED_STS_GATE_B false else s.gateBOn

theorem shutDownStart_eq (s : State) (cause : Nat) (past : Bool) : s.shutDownStart cause past = ((gated (sequenced (silenced s) cause past)).lowerStage 7).shutAdvance 9 := rfl

/-- What the stop of the units may change. -/
abbrev silencedFoot : Foot :=
  ⟨[.mode, .sys, .selfRef, .hbp, .dram, .area, .trn, .cln, .exec, .held, .pkt, .sav, .bdc, .fresh, .evr],
    some [CFG_MODE_ATTACH_PHASE.addr, HBP_LOOP_STS_BUSY.addr, TRN_STS_ABANDONED.addr, CLN_STS_AFFINE.addr, PKT_STS_DEPTH_USED.addr, PKT_MBX_STS_BUSY.addr, SAV_CTL_RST_DISCARD.addr,
      SAV_STS_ABANDONED.addr, DCT_STS_DOUBLE_REF.addr, DCT_CNT_REF_ISSUED.addr, CLK_STS_COAST.addr, SPT_STS_SEQ.addr]⟩

theorem frame_silenced (s : State) : Frame silencedFoot s (silenced s) :=
  .step rfl (frame_enterSelfRef _) <| .step rfl (frame_giveDram _) <| .step rfl (frame_packetsLost _) <| .step rfl (frame_setFld _ _ _) <| .step rfl (frame_setFlag _ _ _) <|
    .step rfl (frame_setMode _ _) <| .step rfl (frame_trainLeave _) <| .step rfl (frame_trainHalt _) <| .step rfl (frame_loopAbort _) <| .step rfl (frame_learnStop _ _) <|
    .step rfl (frame_restoreStop _) (.refl _ s)

theorem silenced_shows (s : State) : (silenced s).sys.mode = .shutDown ∧ (silenced s).hbp.selfRef = 15 := by
  rw [silenced]
  obtain ⟨u, hu⟩ : ∃ u : State, u = (((((s.restoreStop.learnStop 5).loopAbort.trainHalt).trainLeave).setMode .shutDown).setFlag SAV_CTL_RST_DISCARD false).setFld SPT_STS_SEQ 6 := ⟨_, rfl⟩
  have hmode : u.sys.mode = .shutDown := by
    rw [hu, sys_setFld, sys_setFlag, setMode_mode]
  rw [← hu]
  clear hu
  have hp : u.packetsLost.sys = u.sys := (frame_packetsLost u).same .sys (by decide)
  have hg : u.packetsLost.giveDram.sys = u.packetsLost.sys := (frame_giveDram u.packetsLost).same .sys (by decide)
  generalize u.packetsLost.giveDram = w at *
  exact ⟨(congrArg _ (hg.trans hp)).trans hmode, rfl⟩

theorem frame_sequenced (s : State) (cause : Nat) (past : Bool) : Frame ⟨[.pwr], some [PWR_SEQ_STS_STATE.addr, PWR_RSTO_AUX_LOW.addr]⟩ s (sequenced s cause past) :=
  .step rfl (frame_setFld _ _ _) <| .step rfl (frame_setFlag _ _ _) <| .lit s (fun p hp => by cases p <;> first | rfl | exact absurd (by decide) hp) (.refl _ s)

theorem sequenced_shows (s : State) (cause : Nat) (past : Bool) : (sequenced s cause past).pwr.offCause = cause ∧ (sequenced s cause past).pwr.dramPoint = past ∧
    (sequenced s cause past).fld PWR_SEQ_STS_STATE = 3 :=
  ⟨rfl, rfl, fld_setFld_same _ _ (by decide)⟩

theorem frame_gated (s : State) : Frame ⟨[], some [PWR_FEED_STS_GATE_A.addr]⟩ s (gated s) := by
  rw [gated]
  split
  · exact .step rfl (frame_setFlag _ _ _) (.refl _ s)
  · exact .step rfl (frame_gateBOn _) (.refl _ s)

/-! The stages. -/

/-- A shut-down started from a state stands: its mode, its sequencer, its cause, its DRAM point and its self-refresh, with the rails' existence as it was. -/
structure Standing (s t : State) (cause : Nat) (past : Bool) : Prop where
  mode : t.sys.mode = .shutDown
  state : t.fld PWR_SEQ_STS_STATE = 3
  cause : t.pwr.offCause = cause
  point : past = true → t.pwr.dramPoint = true
  ranks : t.hbp.selfRef = 15
  rails : ∀ st, t.stageRails st = s.stageRails st

/-- The rails of the stages are told by the voltages of the power table alone. -/
theorem stageRails_of {F : Foot} (h : Frame F s t) (hF : ∀ r < 16, F.spares (PWR_RAIL_CFG_SET_MV r).addr = true) (st : Nat) : t.stageRails st = s.stageRails st := by
  have hex : ∀ r, t.railExists r = s.railExists r := fun r => by
    rw [State.railExists, State.railExists]
    split
    · next hr => rw [h.fld _ (hF r hr)]
    · rfl
  simp only [State.stageRails, hex]

/-- What the start of a shut-down may change before its first stage is lowered. -/
abbrev preparedFoot : Foot :=
  ⟨[.mode, .sys, .selfRef, .hbp, .dram, .area, .trn, .cln, .exec, .held, .pkt, .sav, .bdc, .fresh, .evr, .pwr],
    some [CFG_MODE_ATTACH_PHASE.addr, HBP_LOOP_STS_BUSY.addr, TRN_STS_ABANDONED.addr, CLN_STS_AFFINE.addr, PKT_STS_DEPTH_USED.addr, PKT_MBX_STS_BUSY.addr, SAV_CTL_RST_DISCARD.addr,
      SAV_STS_ABANDONED.addr, DCT_STS_DOUBLE_REF.addr, DCT_CNT_REF_ISSUED.addr, CLK_STS_COAST.addr, PWR_FEED_STS_GATE_A.addr, PWR_SEQ_STS_STATE.addr, PWR_RSTO_AUX_LOW.addr,
      SPT_STS_SEQ.addr]⟩

/-- The state before the first stage is lowered. -/
theorem prepared_shows (s : State) (cause : Nat) (past : Bool) : Standing s (gated (sequenced (silenced s) cause past)) cause past ∧
    Frame preparedFoot s (gated (sequenced (silenced s) cause past)) := by
  have hframe : Frame preparedFoot s (gated (sequenced (silenced s) cause past)) :=
    .step rfl (frame_gated _) <| .step rfl (frame_sequenced _ _ _) <| .step rfl (frame_silenced s) (.refl _ s)
  obtain ⟨hmode, hranks⟩ := silenced_shows s
  obtain ⟨hcause, hpoint, hstate⟩ := sequenced_shows (silenced s) cause past
  have hq := frame_sequenced (silenced s) cause past
  have hqs := hq.same .sys (by decide)
  have hqh := hq.same .hbp (by decide)
  refine ⟨?_, hframe⟩
  generalize silenced s = u at *
  generalize sequenced u cause past = v at *
  have hg := frame_gated v
  have hgs := hg.same .sys (by decide)
  have hgh := hg.same .hbp (by decide)
  have hgp := hg.same .pwr (by decide)
  have hgf := hg.fld PWR_SEQ_STS_STATE (by decide)
  have hrails := fun st => stageRails_of hframe (by decide) st
  clear hframe hg hq
  generalize gated v = w at *
  exact ⟨by rw [hgs, hqs, hmode], hgf.trans hstate, by rw [hgp, hcause], fun h => by rw [hgp, hpoint, h], by rw [hgh, hqh, hranks], hrails⟩

/-- What a stage's lowering makes of the supervisor's part. -/
theorem pwr_lowerStage (s : State) (st : Nat) : (s.lowerStage st).pwr = { s.pwr with
    en := s.pwr.en &&& ~~~(s.stageRails st), waiting := s.stageRails st &&& s.pwr.en, lowest := st, dramPoint := s.pwr.dramPoint || decide (st ≤ 5) } := by
  have hfold : ∀ (rails : BitVec 33) (u : State), ((List.range 33).foldl (fun (u : State) r => if railIn rails r then u.setRailGood r false else u) u).pwr = u.pwr := fun rails u =>
    (frame_foldl (G := ⟨[], none⟩) (fun v r hv => by split <;> [exact .step rfl (frame_setRailGood _ _ _) hv; exact hv]) (.refl _ u)).same .pwr (by decide)
  unfold State.lowerStage
  exact (pwr_setFld ..).trans (hfold _ _)

theorem stage_lowerStage (s : State) {st : Nat} (h : st < 16) : (s.lowerStage st).fld PWR_SEQ_STS_STAGE = st :=
  (fld_setFld_same _ _ (by decide)).trans (Nat.mod_eq_of_lt h)

theorem state_lowerStage (s : State) (st : Nat) : (s.lowerStage st).fld PWR_SEQ_STS_STATE = s.fld PWR_SEQ_STS_STATE := by
  rw [State.lowerStage, fld_setFld_ne _ _ (by decide)]
  exact (frame_foldl (G := ⟨[], some [PWR_RAIL_STS.addr, PWR_FSW_STS.addr]⟩) (fun v r hv => by split <;> [exact .step rfl (frame_setRailGood _ _ _) hv; exact hv]) (.refl _ _)).fld
    PWR_SEQ_STS_STATE (by decide)

/-- A lowered stage leaves a shut-down standing. -/
theorem Standing.lower (h : Standing s t cause past) (st : Nat) : Standing s (t.lowerStage st) cause past := by
  have hf := frame_lowerStage t st
  have hp := pwr_lowerStage t st
  exact ⟨(hf.same .mode (by decide)).trans h.mode, (state_lowerStage t st).trans h.state, by rw [hp, ← h.cause], fun hpast => by rw [hp, h.point hpast]; rfl,
    (hf.same .selfRef (by decide)).trans h.ranks, fun k => (stageRails_of hf (by decide) k).trans (h.rails k)⟩

/-- With no enabled rail in it, a stage's lowering leaves the enables. -/
theorem en_lowerStage {st : Nat} (h : t.stageRails st &&& t.pwr.en = 0) : (t.lowerStage st).pwr.en = t.pwr.en := by
  rw [pwr_lowerStage]
  refine BitVec.eq_of_getLsbD_eq fun i _ => ?_
  have hi := congrArg (fun b : BitVec 33 => b.getLsbD i) h
  simp only [BitVec.getLsbD_and, BitVec.getLsbD_zero] at hi
  simp only [BitVec.getLsbD_and, BitVec.getLsbD_not]
  cases hr : (t.stageRails st).getLsbD i <;> cases he : t.pwr.en.getLsbD i <;> simp_all

/-- The register of the cause outlives the loss of everything else (R460, R466). -/
theorem fld_wiped_cause (s : State) : s.wiped.fld CFG_CAUSE_OFF_CAUSE = s.fld CFG_CAUSE_OFF_CAUSE := by
  have hword : s.wiped.word 0x1004 = s.word 0x1004 := by
    unfold State.wiped
    rw [(frame_setFlag _ _ _).word _ (by decide), (frame_setFlag _ _ _).word _ (by decide), (frame_setFlag _ _ _).word _ (by decide), (frame_setFlag _ _ _).word _ (by decide),
      (frame_setFlag _ _ _).word _ (by decide), (frame_setFlag _ _ _).word _ (by decide), word_setWord, if_neg (by decide), word_setWord, if_neg (by decide), word_regs, word_regs]
    rw [smapGet, smapGet, smapFind_filter s.regs keptReg 0x1004, if_pos (by decide)]
  exact congrArg (fldOf · CFG_CAUSE_OFF_CAUSE) hword

/-- Off keeps the cause (R368, R466). -/
theorem enterOff_shows (s : State) {cause : Nat} (h : cause < 16) : (s.enterOff cause).sys.mode = .off ∧ (s.enterOff cause).fld CFG_CAUSE_OFF_CAUSE = cause ∧
    (s.enterOff cause).sav.run = none := by
  rw [State.enterOff]
  obtain ⟨u, hu⟩ : ∃ u : State, u = ((s.setFld CFG_CAUSE_OFF_MODE (modeCode s.sys.mode)).setFld CFG_CAUSE_OFF_CAUSE cause).tornPrograms := ⟨_, rfl⟩
  have hcause : u.fld CFG_CAUSE_OFF_CAUSE = cause := by
    rw [hu, (frame_tornPrograms _).fld _ (by decide), fld_setFld_same _ _ (by decide)]
    exact Nat.mod_eq_of_lt h
  rw [← hu]
  clear hu
  have hwiped := (fld_wiped_cause u).trans hcause
  have hmode : u.wiped.sys.mode = .off := rfl
  have hrun : u.wiped.sav.run = none := rfl
  generalize u.wiped = w at *
  exact ⟨hmode, (fld_setFld_ne _ _ (by decide)).trans hwiped, hrun⟩

/-- One more step of the lowering. -/
theorem shutAdvance_succ (s : State) (n : Nat) : s.shutAdvance (n + 1) = if s.pwr.waiting ≠ 0 then s else if s.fld PWR_SEQ_STS_STAGE = 0 then s.enterOff s.pwr.offCause else
    (s.lowerStage (s.fld PWR_SEQ_STS_STAGE - 1)).shutAdvance n := rfl

/-- A stage with an enabled rail holds the lowering; one with none is passed (R384). -/
theorem lowered_once {k : Nat} (hk : k < 8) (m : Nat) (h : Standing s t cause past) (he : t.pwr.en = s.pwr.en) :
    (s.stageRails k &&& s.pwr.en ≠ 0 → (t.lowerStage k).shutAdvance (m + 1) = t.lowerStage k) ∧
    (s.stageRails k &&& s.pwr.en = 0 → (t.lowerStage k).pwr.en = s.pwr.en ∧
      (t.lowerStage k).shutAdvance (m + 1) = if k = 0 then (t.lowerStage k).enterOff cause else ((t.lowerStage k).lowerStage (k - 1)).shutAdvance m) := by
  have hw : (t.lowerStage k).pwr.waiting = s.stageRails k &&& s.pwr.en := by rw [pwr_lowerStage, h.rails k, he]
  rw [shutAdvance_succ, hw, stage_lowerStage t (by omega), (h.lower k).cause]
  exact ⟨fun hon => if_pos hon, fun hon => ⟨(en_lowerStage (by rw [h.rails k, he]; exact hon)).trans he, if_neg (not_not_intro hon)⟩⟩

/-- The lowering of the stages from one on stands where an enabled rail is left, and ends in off with none (R384). -/
theorem lowered {k : Nat} (hk : k < 8) {n : Nat} (hn : k < n) (h : Standing s t cause past) (he : t.pwr.en = s.pwr.en) :
    ((∃ j ≤ k, s.stageRails j &&& s.pwr.en ≠ 0) → Standing s ((t.lowerStage k).shutAdvance n) cause past ∧
      Frame ⟨[.en, .pwr], some [PWR_RAIL_STS.addr, PWR_FSW_STS.addr, PWR_SEQ_STS_BACKOFF.addr]⟩ t ((t.lowerStage k).shutAdvance n)) ∧
    ((∀ j ≤ k, s.stageRails j &&& s.pwr.en = 0) → cause < 16 → ((t.lowerStage k).shutAdvance n).sys.mode = .off ∧ ((t.lowerStage k).shutAdvance n).fld CFG_CAUSE_OFF_CAUSE = cause ∧
      ((t.lowerStage k).shutAdvance n).sav.run = none) := by
  induction k generalizing t n with
  | zero =>
    obtain ⟨m, rfl⟩ : ∃ m, n = m + 1 := ⟨n - 1, by omega⟩
    obtain ⟨hstay, hpass⟩ := lowered_once hk m h he
    refine ⟨fun ⟨j, hj, hne⟩ => ?_, fun hall hc => ?_⟩
    · obtain rfl : j = 0 := by omega
      rw [hstay hne]
      exact ⟨h.lower 0, frame_lowerStage t 0⟩
    · rw [(hpass (hall 0 (Nat.le_refl 0))).2, if_pos rfl]
      exact enterOff_shows _ hc
  | succ k ih =>
    obtain ⟨m, rfl⟩ : ∃ m, n = m + 1 := ⟨n - 1, by omega⟩
    obtain ⟨hstay, hpass⟩ := lowered_once hk m h he
    by_cases hon : s.stageRails (k + 1) &&& s.pwr.en = 0
    · obtain ⟨hen, hrun⟩ := hpass hon
      rw [if_neg (by omega), Nat.add_sub_cancel] at hrun
      obtain ⟨hup, hdown⟩ := ih (by omega) (n := m) (by omega) (h.lower (k + 1)) hen
      rw [hrun]
      refine ⟨fun ⟨j, hj, hne⟩ => ?_, fun hall hc => hdown (fun j hj => hall j (by omega)) hc⟩
      have hj' : j ≤ k := by
        rcases Nat.lt_or_ge k j with hlt | hle
        · obtain rfl : j = k + 1 := by omega
          exact absurd hon hne
        · exact hle
      obtain ⟨hs, hf⟩ := hup ⟨j, hj', hne⟩
      exact ⟨hs, .step rfl hf (frame_lowerStage t (k + 1))⟩
    · rw [hstay hon]
      exact ⟨fun _ => ⟨h.lower (k + 1), frame_lowerStage t (k + 1)⟩, fun hall => absurd (hall (k + 1) (Nat.le_refl _)) hon⟩

/-- What a shut-down that stands may have changed. -/
abbrev standingFoot : Foot :=
  ⟨[.mode, .sys, .selfRef, .hbp, .dram, .area, .trn, .cln, .exec, .held, .pkt, .sav, .bdc, .fresh, .evr, .en, .pwr],
    some [CFG_MODE_ATTACH_PHASE.addr, HBP_LOOP_STS_BUSY.addr, TRN_STS_ABANDONED.addr, CLN_STS_AFFINE.addr, PKT_STS_DEPTH_USED.addr, PKT_MBX_STS_BUSY.addr, SAV_CTL_RST_DISCARD.addr,
      SAV_STS_ABANDONED.addr, DCT_STS_DOUBLE_REF.addr, DCT_CNT_REF_ISSUED.addr, CLK_STS_COAST.addr, PWR_FEED_STS_GATE_A.addr, PWR_RAIL_STS.addr, PWR_FSW_STS.addr,
      PWR_SEQ_STS_STATE.addr, PWR_RSTO_AUX_LOW.addr, SPT_STS_SEQ.addr]⟩

theorem railUp_iff : s.railUp = true ↔ ∃ j ≤ 7, s.stageRails j &&& s.pwr.en ≠ 0 := by
  simp only [State.railUp, List.any_eq_true, List.mem_range, decide_eq_true_eq]
  exact ⟨fun ⟨j, hj, h⟩ => ⟨j, by omega, h⟩, fun ⟨j, hj, h⟩ => ⟨j, by omega, h⟩⟩

/-- A shut-down goes on while an enabled rail is left, and with none the part is off (R384, R385, R368). -/
theorem shutDownStart_down (s : State) {cause : Nat} (past : Bool) (hc : cause < 16) : DownFrom s (s.shutDownStart cause past) cause past ∧
    (s.railUp = true → Frame standingFoot s (s.shutDownStart cause past)) ∧ (s.railUp = false → (s.shutDownStart cause past).sav.run = none) := by
  obtain ⟨hst, hframe⟩ := prepared_shows s cause past
  rw [shutDownStart_eq]
  have hen := hframe.same .en (by decide)
  generalize gated (sequenced (silenced s) cause past) = u at *
  obtain ⟨hup, hdown⟩ := lowered (k := 7) (n := 9) (by decide) (by decide) hst hen
  generalize (u.lowerStage 7).shutAdvance 9 = v at *
  have hnone : s.railUp = false → ∀ j ≤ 7, s.stageRails j &&& s.pwr.en = 0 := fun hr j hj => by
    by_contra hne
    exact absurd (railUp_iff.mpr ⟨j, hj, hne⟩) (by rw [hr]; exact Bool.false_ne_true)
  refine ⟨⟨fun hr => ?_, fun hr => ?_⟩, fun hr => ?_, fun hr => (hdown (hnone hr) hc).2.2⟩
  · obtain ⟨h, -⟩ := hup (railUp_iff.mp hr)
    exact ⟨h.mode, h.state, h.cause, h.point, h.ranks⟩
  · obtain ⟨hoff, hcause, -⟩ := hdown (hnone hr) hc
    exact ⟨hoff, hcause⟩
  · exact .step rfl (hup (railUp_iff.mp hr)).2 (.step rfl hframe (.refl _ s))

/-- With no run under way a shut-down has none. -/
theorem run_shutDownStart (h : s.sav.run = none) (past : Bool) {cause : Nat} (hc : cause < 16) : (s.shutDownStart cause past).sav.run = none := by
  obtain ⟨-, hup, hdown⟩ := shutDownStart_down s past hc
  by_cases hr : s.railUp = true
  · exact ((hup hr).same .run (by decide)).trans h
  · exact hdown (by simpa using hr)

/-- The existence of a rail in some stage is told by the power table and the enables alone. -/
theorem railUp_of {F : Foot} (h : Frame F s t) (hF : ∀ r < 16, F.spares (PWR_RAIL_CFG_SET_MV r).addr = true) (he : t.pwr.en = s.pwr.en) : t.railUp = s.railUp := by
  simp only [State.railUp, stageRails_of h hF, he]

/-- A shut-down that is started from a state with the rails of another is one from the other. -/
theorem downFrom_of {u : State} (h : DownFrom s t cause past) (hr : s.railUp = u.railUp) : DownFrom u t cause past := by
  rw [DownFrom, ← hr]
  exact h

end

end Sys2Proof.Proofs

/-! PROOF. How a save ends: the first anchor copy makes rebound or a shut-down, and the second ends SAVING (R195, R208, Table 1-6). -/

namespace Sys2Proof.Proofs

open Sys2Proof.Machine Sys2Proof.Machine.Reg Sys2Proof.Laws

section
variable {s : State}

/-! The second copy. -/

/-- The images keep their generations when the log is switched (R283). -/
theorem logSwitch_keeps_gens (s : State) : s.logSwitch.flash.images.map (·.gen) = s.flash.images.map (·.gen) := by
  have hfold : ∀ (l : List Image) (u : State), (l.foldl (fun (u : State) i =>
      let (ps, w) := u.logTwice i.payload
      { w with flash := { w.flash with images := w.flash.images.map (fun (x : Image) => if x.gen = i.gen then { x with copyAt := ps } else x) } }) u).flash.images.map (·.gen) =
      u.flash.images.map (·.gen) := by
    intro l
    induction l with
    | nil => exact fun _ => rfl
    | cons i l ih =>
      intro u
      refine (ih _).trans ?_
      have hi : (u.logTwice i.payload).2.flash.images = u.flash.images := (frame_logTwice u i.payload).same .images (by decide)
      change List.map _ (List.map _ (u.logTwice i.payload).2.flash.images) = _
      rw [hi, List.map_map]
      refine List.map_congr_left fun x _ => ?_
      simp only [Function.comp_apply]
      split <;> rfl
  unfold State.logSwitch
  split
  · rfl
  · dsimp only
    rw [(frame_planErase _ _ _).same .images (by decide)]
    split
    · rw [(frame_anchorWrite _ _).same .images (by decide)]
      exact hfold _ _
    · exact hfold _ _

/-- The flash after the second copy stands, before the log is switched (R208). -/
def copied (s : State) (g q : Nat) : State :=
  let put := match s.flash.images.find? (fun i => decide (i.gen = g)) with
    | some i => s.logPut q i.payload
    | none => s
  { put with sav := { put.sav with second := none, copyAt := none },
             flash := { put.flash with images := put.flash.images.map (fun (i : Image) => if i.gen = g then { i with copies := 2, copyAt := i.copyAt ++ [q] } else i) } }

theorem copied_shows (s : State) (g q : Nat) : (copied s g q).sav = { s.sav with second := none, copyAt := none } ∧ (copied s g q).sys = s.sys ∧ (copied s g q).dram = s.dram ∧
    (copied s g q).hbp = s.hbp ∧ (copied s g q).flash.sheaves = s.flash.sheaves ∧ (copied s g q).flash.logPos = s.flash.logPos ∧
    (copied s g q).flash.images = s.flash.images.map (fun (i : Image) => if i.gen = g then { i with copies := 2, copyAt := i.copyAt ++ [q] } else i) ∧
    copied s g q = { s with sav := (copied s g q).sav, flash := (copied s g q).flash } := by
  rw [copied]
  split
  · exact ⟨rfl, rfl, rfl, rfl, rfl, rfl, rfl, rfl⟩
  · exact ⟨rfl, rfl, rfl, rfl, rfl, rfl, rfl, rfl⟩

/-- SAVING ends where no other save runs (R208). -/
def savingOver (s : State) : State := if s.sav.run.isSome then s else ((s.setFlag SAV_STS_SAVING false).setFld SAV_STS_STAGE 0).setFld SAV_STS_PLAN 0x1F

theorem savingOver_shows (s : State) : (s.sav.run = none → (savingOver s).flag SAV_STS_SAVING = false ∧ (savingOver s).fld SAV_STS_STAGE = 0) ∧ (s.sav.run ≠ none → savingOver s = s) ∧
    OnlyFields [SAV_STS_SAVING, SAV_STS_STAGE, SAV_STS_PLAN] s (savingOver s) := by
  cases hr : s.sav.run with
  | none =>
    have hover : savingOver s = ((s.setFlag SAV_STS_SAVING false).setFld SAV_STS_STAGE 0).setFld SAV_STS_PLAN 0x1F := if_neg (by rw [hr]; decide)
    rw [hover]
    refine ⟨fun _ => ⟨?_, ?_⟩, fun h => absurd rfl h,
      onlyFields_setFld (onlyFields_setFld (onlyFields_setFlag (onlyFields_refl _ s) _ (by simp)) _ (by simp)) _ (by simp)⟩
    · rw [flag_of_fld ((fld_setFld_ne _ _ (by decide)).trans (fld_setFld_ne _ _ (by decide)))]
      exact flag_setFlag_same _ _ (by decide) (by decide)
    · rw [fld_setFld_ne _ _ (by decide)]
      exact fld_setFld_same _ _ (by decide)
  | some r =>
    have hover : savingOver s = s := if_pos (by rw [hr]; rfl)
    rw [hover]
    exact ⟨nofun, fun _ => rfl, onlyFields_refl _ s⟩

theorem frame_savingOver (s : State) : Frame ⟨[], some [SAV_STS_SAVING.addr]⟩ s (savingOver s) := by
  rw [savingOver]
  split
  · exact .refl _ s
  · exact .step rfl (frame_setFld _ _ _) <| .step rfl (frame_setFld _ _ _) <| .step rfl (frame_setFlag _ _ _) (.refl _ s)

theorem execSecondAnchorConfirmed_of {g q : Nat} (hg : s.sav.second = some g) (hq : s.sav.copyAt = some q) :
    exec .secondAnchorConfirmed s = .next (savingOver (copied s g q).logSwitch) := by
  change execSecondAnchorConfirmed s = _
  rw [execSecondAnchorConfirmed, hg, hq]
  rw [savingOver]
  exact (apply_ite Host.Outcome.next _ _ _).symm

/-- The second copy is counted, and the save is over where no other runs (R208). -/
theorem secondAnchorConfirmed_counts {g p : Nat} (hg : s.sav.second = some g) (hp : s.sav.copyAt = some p) : Answers .secondAnchorConfirmed s (fun t =>
      t.sav = { s.sav with second := none, copyAt := none } ∧
      (s.sav.run = none → t.flag SAV_STS_SAVING = false ∧ t.fld SAV_STS_STAGE = 0) ∧
      t.flash.images.map (·.gen) = s.flash.images.map (·.gen) ∧ t.flash.sheaves = s.flash.sheaves ∧ t.sys = s.sys ∧ t.dram = s.dram ∧ t.hbp = s.hbp ∧
      (s.flash.logPos + 32 ≤ logPositions →
        t.flash.images = s.flash.images.map (fun i => if i.gen = g then { i with copies := 2, copyAt := i.copyAt ++ [p] } else i) ∧
        (s.sav.run ≠ none → t.regs = s.regs) ∧
        OnlyFields [SAV_STS_SAVING, SAV_STS_STAGE, SAV_STS_PLAN] { s with sav := t.sav, flash := t.flash } t)) := by
  refine answers_of (execSecondAnchorConfirmed_of hg hp) ?_
  obtain ⟨hsav, hsys, hdram, hhbp, hsheaves, hpos, himages, hlit⟩ := copied_shows s g p
  have hgens : (copied s g p).flash.images.map (·.gen) = s.flash.images.map (·.gen) := by
    rw [himages, List.map_map]
    refine List.map_congr_left fun x _ => ?_
    simp only [Function.comp_apply]
    split <;> rfl
  generalize copied s g p = u at *
  have hl := frame_logSwitch u
  have hlg := logSwitch_keeps_gens u
  have hlid : s.flash.logPos + 32 ≤ logPositions → u.logSwitch = u := fun h => if_pos (by rw [hpos]; exact h)
  have hlsav : u.logSwitch.sav = u.sav := hl.same .sav (by decide)
  have hlsys : u.logSwitch.sys = u.sys := hl.same .sys (by decide)
  have hldram : u.logSwitch.dram = u.dram := hl.same .dram (by decide)
  have hlhbp : u.logSwitch.hbp = u.hbp := hl.same .hbp (by decide)
  have hlsheaves : u.logSwitch.flash.sheaves = u.flash.sheaves := hl.same .sheaves (by decide)
  clear hl
  generalize u.logSwitch = v at *
  obtain ⟨hover, hsame, honly⟩ := savingOver_shows v
  have ho := frame_savingOver v
  have hosav : (savingOver v).sav = v.sav := ho.same .sav (by decide)
  have hoflash : (savingOver v).flash = v.flash := ho.same .flash (by decide)
  have hosys : (savingOver v).sys = v.sys := ho.same .sys (by decide)
  have hodram : (savingOver v).dram = v.dram := ho.same .dram (by decide)
  have hohbp : (savingOver v).hbp = v.hbp := ho.same .hbp (by decide)
  have hvrun : v.sav.run = s.sav.run := by rw [hlsav, hsav]
  rw [hvrun] at hover hsame
  clear ho
  generalize savingOver v = w at *
  refine ⟨hosav.trans (hlsav.trans hsav), hover, ?_, ?_, hosys.trans (hlsys.trans hsys), hodram.trans (hldram.trans hdram), hohbp.trans (hlhbp.trans hhbp), fun h => ⟨?_, fun hr => ?_, ?_⟩⟩
  · rw [hoflash, hlg, hgens]
  · rw [hoflash, hlsheaves, hsheaves]
  · rw [hoflash, hlid h, himages]
  · rw [hsame hr, hlid h, hlit]
  · rw [hosav, hoflash, hlid h, ← hlit, ← hlid h]
    exact honly

/-! The first copy. -/

theorem anchorFirst_shows (s : State) (i : Image) : (s.anchorFirst i).flash.images = s.flash.images ++ [i] ∧ (s.anchorFirst i).sav.second = some i.gen := by
  refine ⟨?_, rfl⟩
  rw [State.anchorFirst]
  exact (frame_logTake _).same .images (by decide)

/-- The maps of an anchored image (Table 5-5, R228). -/
def mapsTaken (s : State) (r : SaveRun) (i : Image) : State :=
  let t := r.gran.foldl (fun (u : State) e => (u.setD e.1 .clean).setSmap e.1 ⟨1, false, i.pos, e.2.1⟩) s
  let t := r.group.foldl (fun (u : State) e => u.setCmap e.1 ⟨1, false, i.pos, e.2⟩) t
  let t := if r.full && r.omitted.isEmpty then t.clearAllDirty else t
  let t := ((t.showImage i).saveNowTake i).setFlag SAV_STS_DEGRADED i.degraded
  (t.setFld SAV_T_ANCHOR (min (t.tick - r.start) (2 ^ 32 - 1))).setFld SAV_STS_STAGE 4

/-- What the maps' turn may change. -/
abbrev mapsFoot : Foot :=
  ⟨[.exec, .pkt, .dirty, .flushQ, .per, .gln, .bdc],
    some [PER_STS_ALL_DIRTY.addr, PER_IMG_GEN.addr, PER_IMG_EPOCH.addr, PER_IMG_F_LO.addr, PER_IMG_F_HI.addr, PER_OMITTED.addr, SAV_STS_ABANDONED.addr, SAV_T_ANCHOR.addr]⟩

theorem frame_mapsTaken (s : State) (r : SaveRun) (i : Image) : Frame mapsFoot s (mapsTaken s r i) := by
  have hgran : Frame mapsFoot s (r.gran.foldl (fun (u : State) e => (u.setD e.1 .clean).setSmap e.1 ⟨1, false, i.pos, e.2.1⟩) s) :=
    frame_foldl (fun u e hu => .step rfl (frame_setSmap _ _ _) (.step rfl (frame_setD _ _ _) hu)) (.refl _ s)
  rw [mapsTaken]
  generalize r.gran.foldl (fun (u : State) e => (u.setD e.1 .clean).setSmap e.1 ⟨1, false, i.pos, e.2.1⟩) s = u at *
  have hgroup : Frame mapsFoot s (r.group.foldl (fun (u : State) e => u.setCmap e.1 ⟨1, false, i.pos, e.2⟩) u) :=
    frame_foldl (fun u e hu => .step rfl (frame_setCmap _ _ _) hu) hgran
  generalize r.group.foldl (fun (u : State) e => u.setCmap e.1 ⟨1, false, i.pos, e.2⟩) u = v at *
  have hclear : Frame mapsFoot s (if r.full && r.omitted.isEmpty then v.clearAllDirty else v) := by
    split
    · exact .step rfl (frame_clearAllDirty v) hgroup
    · exact hgroup
  generalize (if r.full && r.omitted.isEmpty then v.clearAllDirty else v) = w at *
  exact .step rfl (frame_setFld _ _ _) <| .step rfl (frame_setFld _ _ _) <| .step rfl (frame_setFlag _ _ _) <| .step rfl (frame_saveNowTake _ _) <| .step rfl (frame_showImage _ _) hclear

/-- The run of a save is over, and a thresh of an earlier image with it (R207, R228). -/
def runOver (s : State) : State :=
  let t := { s with sav := { s.sav with run := none, thresh := none, threshCopies := [], threshRows := [], threshJ := 0 } }
  ((t.setFlag SAV_STS_THRESHING false).setFld SAV_THR_GEN 0).channelsReturn.refill

theorem runOver_shows (s : State) : (runOver s).flash.images = s.flash.images ∧ (runOver s).sav.run = none ∧ (runOver s).sav.second = s.sav.second := by
  rw [runOver]
  obtain ⟨u, hu⟩ : ∃ u : State, u = { s with sav := { s.sav with run := none, thresh := none, threshCopies := [], threshRows := [], threshJ := 0 } } := ⟨_, rfl⟩
  have hbase : u.flash.images = s.flash.images ∧ u.sav.run = none ∧ u.sav.second = s.sav.second := by
    rw [hu]
    exact ⟨rfl, rfl, rfl⟩
  rw [← hu]
  have hf : Frame ⟨[.flo, .fce, .fresh, .evr, .slots, .fenced, .flt], none⟩ u ((u.setFlag SAV_STS_THRESHING false).setFld SAV_THR_GEN 0).channelsReturn.refill :=
    .step rfl (frame_refill _) <| .step rfl (frame_channelsReturn _) <| .step rfl (frame_setFld _ _ _) <| .step rfl (frame_setFlag _ _ _) (.refl _ u)
  have himages := hf.same .images (by decide)
  have hsav := hf.same .sav (by decide)
  obtain ⟨h1, h2, h3⟩ := hbase
  exact ⟨himages.trans h1, (congrArg _ hsav).trans h2, (congrArg _ hsav).trans h3⟩

theorem applyImage_shows (s : State) (r : SaveRun) (i : Image) : (s.applyImage r i).flash.images = s.flash.images ++ [i] ∧ (s.applyImage r i).sav.run = none ∧
    (s.applyImage r i).sav.second = some i.gen := by
  have heq : s.applyImage r i = runOver (mapsTaken (s.anchorFirst i) r i) := rfl
  rw [heq]
  obtain ⟨himages, hsecond⟩ := anchorFirst_shows s i
  generalize s.anchorFirst i = u at *
  have hm := frame_mapsTaken u r i
  have hmi : (mapsTaken u r i).flash = u.flash := hm.same .flash (by decide)
  have hms : (mapsTaken u r i).sav = u.sav := hm.same .sav (by decide)
  clear hm
  generalize mapsTaken u r i = v at *
  obtain ⟨h1, h2, h3⟩ := runOver_shows v
  exact ⟨h1.trans (by rw [hmi, himages]), h2, h3.trans (by rw [hms, hsecond])⟩

/-- The first anchor copy stands, the maps take the image, and the DRAM is in self-refresh (R208). -/
def firstAnchored (s : State) (r : SaveRun) : State :=
  ((((s.anchorPos.2.mkImage r s.anchorPos.1).2.applyImage r (s.anchorPos.2.mkImage r s.anchorPos.1).1).giveDram).enterSelfRef)

/-- What the first copy may change. -/
abbrev firstAnchoredFoot : Foot :=
  ⟨[.selfRef, .hbp, .exec, .pkt, .dirty, .flushQ, .per, .gln, .run, .sav, .images, .flash, .flo, .fce, .bdc, .fresh, .evr, .slots, .fenced, .flt],
    some [PER_STS_ALL_DIRTY.addr, PER_IMG_GEN.addr, PER_IMG_EPOCH.addr, PER_IMG_F_LO.addr, PER_IMG_F_HI.addr, PER_OMITTED.addr, GLN_STS_ACTIVE.addr, SAV_STS_ABANDONED.addr,
      SAV_T_ANCHOR.addr, SAV_THR_GEN.addr, FLO_STS_DIE_RETIRED.addr, DCT_STS_DOUBLE_REF.addr, DCT_CNT_REF_ISSUED.addr, CLK_STS_COAST.addr, EVR_DROP_CRITICAL.addr, EVR_FENCED_CNT.addr,
      highRegs]⟩

theorem firstAnchored_shows (s : State) (r : SaveRun) : Anchored s (firstAnchored s r) r ∧ (firstAnchored s r).sav.second = some r.gen ∧ Frame firstAnchoredFoot s (firstAnchored s r) := by
  have hframe : Frame firstAnchoredFoot s (firstAnchored s r) :=
    .step rfl (frame_enterSelfRef _) <| .step rfl (frame_giveDram _) <| .step rfl (frame_applyImage _ _ _) <| .step rfl (frame_mkImage _ _ _) <| .step rfl (frame_anchorPos s) (.refl _ s)
  rw [firstAnchored] at *
  have hp : s.anchorPos.2.flash.images = s.flash.images := (frame_anchorPos s).same .images (by decide)
  generalize s.anchorPos = ps at *
  obtain ⟨p, u⟩ := ps
  have hm : (u.mkImage r p).2.flash.images = u.flash.images := (frame_mkImage u r p).same .images (by decide)
  have hi : (u.mkImage r p).1.gen = r.gen ∧ (u.mkImage r p).1.f = r.f ∧ (u.mkImage r p).1.plan = r.plan ∧ (u.mkImage r p).1.copies = 1 := ⟨rfl, rfl, rfl, rfl⟩
  dsimp only at *
  generalize u.mkImage r p = iv at *
  obtain ⟨i, v⟩ := iv
  obtain ⟨himages, hrun, hsecond⟩ := applyImage_shows v r i
  dsimp only at *
  generalize v.applyImage r i = w at *
  have hg := frame_giveDram w
  have hgi : w.giveDram.flash = w.flash := hg.same .flash (by decide)
  have hgs : w.giveDram.sav = w.sav := hg.same .sav (by decide)
  generalize w.giveDram = x at *
  have hxi : x.enterSelfRef.flash = x.flash := rfl
  have hxs : x.enterSelfRef.sav = x.sav := rfl
  generalize x.enterSelfRef = y at *
  obtain ⟨hgen, hf, hplan, hcopies⟩ := hi
  exact ⟨⟨⟨i, by rw [hxi, hgi, himages, hm, hp], hgen, hf, hplan, hcopies⟩, by rw [hxs, hgs, hrun]⟩, by rw [hxs, hgs, hsecond, hgen], hframe⟩

/-- No rail is turned off at the anchor where none waits for it (Table 13-7). -/
theorem en_anchorRails (h : s.pwr.offAtAnchor = 0) : s.anchorRails.pwr.en = s.pwr.en := by
  have hnone : ∀ r, railIn s.pwr.offAtAnchor r = false := fun r => by rw [h]; simp [railIn]
  have hfold : ∀ l : List Nat, l.foldl (fun (u : State) r =>
      if railIn u.pwr.offAtAnchor r then
        let u := u.dropRail r
        { u with pwr := { u.pwr with shutByAction := u.pwr.shutByAction ||| railBit r } }
      else u) s = s := by
    intro l
    induction l with
    | nil => rfl
    | cons r l ih => rw [List.foldl_cons, hnone r, if_neg Bool.false_ne_true, ih]
  rw [State.anchorRails, hfold]

/-! Rebound. -/

theorem reboundEntry_shows (s : State) : s.reboundEntry.sys.mode = .rebound ∧ s.reboundEntry.hbp.selfRef = 15 := by
  rw [State.reboundEntry]
  obtain ⟨u, hu⟩ : ∃ u : State, u = ((s.setMode .rebound).giveDram).enterSelfRef := ⟨_, rfl⟩
  have hmode : u.sys.mode = .rebound := by
    rw [hu]
    exact (congrArg _ ((frame_giveDram (s.setMode .rebound)).same .sys (by decide))).trans (setMode_mode s .rebound)
  have hranks : u.hbp.selfRef = 15 := by rw [hu]; rfl
  rw [← hu]
  clear hu
  have haux : Frame ⟨[], none⟩ u (if u.reseqStage ≤ 7 then u.setFlag PWR_RSTO_AUX_LOW true else u) := by
    split
    · exact .step rfl (frame_setFlag _ _ _) (.refl _ u)
    · exact .refl _ u
  generalize (if u.reseqStage ≤ 7 then u.setFlag PWR_RSTO_AUX_LOW true else u) = v at *
  have hseq : Frame ⟨[.clk], none⟩ u ((v.setFld SPT_STS_SEQ 4).setFlag CLK_STS_COAST false) := .step rfl (frame_setFlag _ _ _) <| .step rfl (frame_setFld _ _ _) <| .step rfl haux (.refl _ u)
  generalize (v.setFld SPT_STS_SEQ 4).setFlag CLK_STS_COAST false = w at *
  split
  · have hl := Frame.step (G := ⟨[.clk], none⟩) rfl (frame_lockH w) hseq
    exact ⟨(hl.same .mode (by decide)).trans hmode, (hl.same .selfRef (by decide)).trans hranks⟩
  · exact ⟨(hseq.same .mode (by decide)).trans hmode, (hseq.same .selfRef (by decide)).trans hranks⟩

/-! The statement. -/

theorem execImageAnchored_of {r : SaveRun} (hr : s.sav.run = some r) (hh : r.handed = true) (hw : r.work = []) : exec .imageAnchored s =
    if (firstAnchored s r).anchorRails.flag PWR_FEED_STS_A_GOOD && !(firstAnchored s r).anchorRails.flag CFG_MODE_KEEPER
    then .next ((firstAnchored s r).anchorRails.reboundEntry.resequence)
    else .next ((firstAnchored s r).anchorRails.shutDownStart (if (firstAnchored s r).anchorRails.flag CFG_MODE_KEEPER then 7 else 1) false) := by
  change execImageAnchored s = _
  rw [execImageAnchored, hr]
  dsimp only
  rw [hh, hw]
  rfl

/-- The anchored state with its rails: what stands of the save, and the registers and the mode that are as before. -/
theorem anchoredRails_shows (s : State) (r : SaveRun) : Anchored s (firstAnchored s r).anchorRails r ∧ (firstAnchored s r).anchorRails.sav.second = some r.gen ∧
    (firstAnchored s r).anchorRails.dram = s.dram ∧ (firstAnchored s r).anchorRails.flag PWR_FEED_STS_A_GOOD = s.flag PWR_FEED_STS_A_GOOD ∧
    (firstAnchored s r).anchorRails.flag CFG_MODE_KEEPER = s.flag CFG_MODE_KEEPER ∧ (s.pwr.offAtAnchor = 0 → (firstAnchored s r).anchorRails.railUp = s.railUp) := by
  obtain ⟨⟨⟨i, himages, hi⟩, hrun⟩, hsecond, hf⟩ := firstAnchored_shows s r
  have hdram : (firstAnchored s r).dram = s.dram := hf.same .dram (by decide)
  have hpwr : (firstAnchored s r).pwr = s.pwr := hf.same .pwr (by decide)
  have hgood := hf.flag PWR_FEED_STS_A_GOOD (by decide)
  have hkeeper := hf.flag CFG_MODE_KEEPER (by decide)
  have hup : (firstAnchored s r).railUp = s.railUp := railUp_of hf (by decide) (by rw [hpwr])
  clear hf
  generalize firstAnchored s r = u at *
  have ha := frame_anchorRails u
  have hai : u.anchorRails.flash = u.flash := ha.same .flash (by decide)
  have has : u.anchorRails.sav = u.sav := ha.same .sav (by decide)
  have had : u.anchorRails.dram = u.dram := ha.same .dram (by decide)
  exact ⟨⟨⟨i, by rw [hai, himages], hi⟩, by rw [has, hrun]⟩, by rw [has, hsecond], had.trans hdram, (ha.flag _ (by decide)).trans hgood, (ha.flag _ (by decide)).trans hkeeper,
    fun h => (railUp_of ha (by decide) (en_anchorRails (by rw [hpwr]; exact h))).trans hup⟩

/-- An anchored save stays so while the images and the run do. -/
theorem anchored_of {t u : State} {r : SaveRun} (h : Anchored s t r) (hi : u.flash.images = t.flash.images) (hr : u.sav.run = none) : Anchored s u r := by
  obtain ⟨⟨i, himages, hi'⟩, -⟩ := h
  exact ⟨⟨i, hi.trans himages, hi'⟩, hr⟩

/-- The first copy makes rebound where feed A is good and KEEPER is 0 (R208, R222). -/
theorem imageAnchored_rebounds {r : SaveRun} (hr : s.sav.run = some r) (hh : r.handed = true) (hw : r.work = []) (ha : s.flag PWR_FEED_STS_A_GOOD = true) (hk : s.flag CFG_MODE_KEEPER = false) :
    Answers .imageAnchored s (fun t => Anchored s t r ∧ t.sys.mode = .rebound ∧ t.hbp.selfRef = 15 ∧ t.dram = s.dram ∧ t.sav.second = some r.gen) := by
  have hrun := execImageAnchored_of hr hh hw
  obtain ⟨hanch, hsecond, hdram, hgood, hkeeper, -⟩ := anchoredRails_shows s r
  rw [if_pos (by rw [hgood, hkeeper, ha, hk]; rfl)] at hrun
  refine answers_of hrun ?_
  clear hrun
  generalize (firstAnchored s r).anchorRails = u at *
  obtain ⟨hmode, hranks⟩ := reboundEntry_shows u
  have he := frame_reboundEntry u
  have hei : u.reboundEntry.flash = u.flash := he.same .flash (by decide)
  have hes : u.reboundEntry.sav = u.sav := he.same .sav (by decide)
  have hed : u.reboundEntry.dram = u.dram := he.same .dram (by decide)
  clear he
  generalize u.reboundEntry = v at *
  have hq := frame_resequence_running v (by rw [hmode]; decide)
  have hqi : v.resequence.flash = v.flash := hq.same .flash (by decide)
  have hqs : v.resequence.sav = v.sav := hq.same .sav (by decide)
  exact ⟨anchored_of hanch (by rw [hqi, hei]) (by rw [hqs, hes, hanch.2]), (hq.same .mode (by decide)).trans hmode, (hq.same .selfRef (by decide)).trans hranks,
    (hq.same .dram (by decide)).trans (hed.trans hdram), by rw [hqs, hes, hsecond]⟩

/-- The first copy makes shut-down without a good feed A, and with KEEPER 1 (R208). -/
theorem imageAnchored_shutsDown {r : SaveRun} (hr : s.sav.run = some r) (hh : r.handed = true) (hw : r.work = []) (ha : s.flag PWR_FEED_STS_A_GOOD = false ∨ s.flag CFG_MODE_KEEPER = true)
    (ho : s.pwr.offAtAnchor = 0) : Answers .imageAnchored s (fun t => Anchored s t r ∧ DownFrom s t (if s.flag CFG_MODE_KEEPER = true then 7 else 1) false) := by
  have hrun := execImageAnchored_of hr hh hw
  obtain ⟨hanch, -, -, hgood, hkeeper, hup⟩ := anchoredRails_shows s r
  rw [if_neg (by rw [hgood, hkeeper]; rcases ha with h | h <;> simp [h]), hkeeper] at hrun
  refine answers_of hrun ?_
  clear hrun hgood hkeeper
  have hup := hup ho
  have hc : (if s.flag CFG_MODE_KEEPER = true then 7 else 1) < 16 := by split <;> decide
  generalize (if s.flag CFG_MODE_KEEPER = true then 7 else 1) = c at *
  generalize (firstAnchored s r).anchorRails = u at *
  exact ⟨anchored_of hanch ((frame_shutDownStart u c false).same .images (by decide)) (run_shutDownStart hanch.2 false hc), downFrom_of (shutDownStart_down u false hc).1 hup⟩

end

/-- Settles O27: the first anchor copy adds the image and leads to rebound or shut-down; the second ends SAVING. -/
theorem saveEnds : Obligations.SaveEnds := by
  refine fun s => ⟨fun r hr h => ?_, fun r hr hh hw _ => ⟨imageAnchored_rebounds hr hh hw, imageAnchored_shutsDown hr hh hw⟩, fun h => ?_, fun g p hg hp => secondAnchorConfirmed_counts hg hp⟩
  · refine answers_of (i := .imageAnchored) (t := s) ?_ rfl
    change execImageAnchored s = _
    rw [execImageAnchored, hr]
    refine if_pos ?_
    rcases h with h | h
    · simp [h]
    · simp [h]
  · refine answers_of (i := .secondAnchorConfirmed) (t := s) ?_ rfl
    change execSecondAnchorConfirmed s = _
    unfold execSecondAnchorConfirmed
    split
    · next hg hq => rcases h with h | h <;> simp_all
    · rfl

end Sys2Proof.Proofs

/-! PROOF. The freeze of a save ends the SEAL_CLOSE packets in execution (R130, R184). A close that names the packet of the SAVE_NOW itself takes that packet out of execution with it. -/

namespace Sys2Proof.Proofs

open Sys2Proof.Machine Sys2Proof.Machine.Reg Sys2Proof.Laws

-- Each kernel evaluation below waits for the checks before it: in order they need no thread each.
set_option Elab.async false

/-! A save that the swath has room for. -/

/-- The work of a save takes no more than two sheaves for each granule kept, besides the further groups, the metadata and the index. -/
theorem length_saveWork_le (idx : Nat) (more gs : List Nat) : (saveWork idx more gs).length ≤ 2 * gs.length + more.length + idx + 1 := by
  induction gs with
  | nil =>
    simp only [saveWork, List.length_append, List.length_cons, List.length_map, List.length_range, List.length_nil]
    omega
  | cons g gs ih =>
    rw [saveWork]
    split
    · simp only [List.length_cons]
      omega
    · simp only [List.length_cons]
      omega

/-- What a save keeps without PACK_SHORT are granules of the geometry (R247). -/
theorem length_keptSet_le (s : State) (plan : Nat) (h : s.flag PLN_STS_PACK_SHORT = false) : (s.keptSet plan s.saveSet).2.1.length ≤ s.granuleCount := by
  rw [State.keptSet, if_neg (by rw [h]; exact Bool.false_ne_true)]
  calc s.saveSet.length ≤ s.presentGranules.length := List.length_filter_le _ _
    _ ≤ (List.range s.granuleCount).length := List.length_filter_le _ _
    _ = s.granuleCount := List.length_range

theorem length_moreGroups_le (s : State) (full : Bool) (kept : List Nat) : (s.moreGroups full kept).length ≤ s.granuleCount := by
  rw [State.moreGroups]
  split
  · exact Nat.zero_le _
  · exact (List.length_filter_le _ _).trans (by rw [List.length_range]; omega)

theorem presentCount_le (s : State) : s.presentCount ≤ s.granuleCount := by
  rw [State.presentCount]
  split
  · omega
  · exact Nat.le_refl _

theorem indexSheaves_le (s : State) : s.indexSheaves ≤ s.granuleCount := by
  have hgroups : ((List.range (s.granuleCount / 4)).filter (fun c => s.present (4 * c))).length ≤ s.granuleCount / 4 := by
    exact (List.length_filter_le _ _).trans (Nat.le_of_eq List.length_range)
  have hcount := presentCount_le s
  rw [State.indexSheaves, ceilDiv]
  generalize ((List.range (s.granuleCount / 4)).filter (fun c => s.present (4 * c))).length = n at *
  omega

/-- The run that a save begins with, and the length of its work. -/
theorem saveBegin_run (s : State) (keeper : Bool) (h : s.channelsReturn.flag PLN_STS_PACK_SHORT = false) :
    ∃ r, (s.saveBegin keeper).sav.run = some r ∧ r.plan = planFor s.channelsReturn.planFenced (keeper || decide (s.channelsReturn.tick < s.channelsReturn.pln.reloadEnd)) ∧
      r.work.length ≤ 4 * s.channelsReturn.granuleCount + 1 := by
  rw [State.saveBegin]
  generalize s.channelsReturn = u at *
  generalize planFor u.planFenced (keeper || decide (u.tick < u.pln.reloadEnd)) = plan
  have hkept := length_keptSet_le u plan h
  obtain ⟨⟨ranked, kept, om⟩, hk⟩ : ∃ k, k = u.keptSet plan u.saveSet := ⟨_, rfl⟩
  rw [← hk] at hkept
  dsimp only
  rw [← hk]
  dsimp only at hkept ⊢
  refine ⟨_, ((frame_formRecord _ _ _ _ _).same .run (by decide)).trans (((frame_showKmap _ _).same .run (by decide)).trans rfl), rfl, ?_⟩
  have hmore := length_moreGroups_le u u.fullNext kept
  have hindex := indexSheaves_le u
  have hwork := length_saveWork_le u.indexSheaves (u.moreGroups u.fullNext kept) kept
  dsimp only
  omega

/-- A swath with room for every sheaf that a save may write holds the save (R269). -/
theorem saveBegin_fits (s : State) (keeper : Bool) (h : s.channelsReturn.flag PLN_STS_PACK_SHORT = false)
    (hp : planFor s.channelsReturn.planFenced (keeper || decide (s.channelsReturn.tick < s.channelsReturn.pln.reloadEnd)) = 0)
    (hroom : 4 * s.channelsReturn.granuleCount + 1 ≤ (s.saveBegin keeper).swathRoom 0) : (s.saveBegin keeper).saveImpossible = none := by
  obtain ⟨r, hr, hplan, hwork⟩ := saveBegin_run s keeper h
  rw [State.saveImpossible, hr]
  dsimp only
  rw [hplan, hp, if_neg (by simp), if_neg (by omega)]

/-- A packet of the mailbox with the opcode of SAVE_NOW. -/
def saveNowPacket : ExecPkt := ⟨.mailbox, 0, 0, [9], false, false, 0⟩

/-- In service, with a formatted flash array, a close of region 0 names the packet of a SAVE_NOW. -/
def saveNowInClose : State :=
  { (State.reset.setFlag CFG_MODE_NO_PLAN false).setWord 0x2008 0 with
    sys := { State.reset.sys with mode := .service }
    pkt := { State.reset.pkt with exec := [saveNowPacket] }
    sea := { State.reset.sea with closes := [(0, 0, saveNowPacket, false)] }
    flo := { State.reset.flo with org := { State.reset.flo.org with dies := 1 } } }

/-- The trigger of a SAVE_NOW in service, with a plan loaded, decides a save (R24, R125). -/
theorem trigger_decides {s : State} (hm : s.sys.mode = .service) (hn : s.flag CFG_MODE_NO_PLAN = false) : s.trigger 3 = s.saveDecide 3 false := by
  unfold State.trigger
  rw [hm]
  simp [State.keeperEarly, hm, hn]

theorem saveDecide_of {s : State} {code : Nat} {keeper : Bool} (h : (s.saveTaken code keeper).saveImpossible = none) : s.saveDecide code keeper = s.saveTaken code keeper := by
  rw [State.saveDecide, h]

/-- The frozen state in which a save begins (R24, R140). -/
def saveFrozen (s : State) (code : Nat) : State :=
  let t := ((s.bump SPT_TRIG_DECISIONS 1).setFld SPT_TRIG_FIRST code).setFld SPT_TRIG_SEEN (2 ^ (code - 1))
  let t := { (t.setFlag SPT_STS_SAVE_DECIDED true) with tap := { s.tap with instr := .idcode } }
  let t := if t.pwr.test.isSome then (t.packTestFail 7).packTestEnd 7 else t
  ((t.switchToB.setMode .save).setFlag SAV_STS_REBOUND_WAIT false).freeze s.freezeStamp

theorem saveTaken_eq (s : State) (code : Nat) (keeper : Bool) : s.saveTaken code keeper = (saveFrozen s code).saveBegin keeper := rfl

/-- The state that the SAVE_NOW's save starts from. -/
def saveNowTaken : State := saveNowInClose.startExec saveNowPacket 0

theorem saveNowTaken_keepsAll : (saveFrozen saveNowTaken 3).channelsReturn.flag PLN_STS_PACK_SHORT = false := by decide +kernel

theorem saveNowTaken_basePlan : planFor (saveFrozen saveNowTaken 3).channelsReturn.planFenced
    (false || decide ((saveFrozen saveNowTaken 3).channelsReturn.tick < (saveFrozen saveNowTaken 3).channelsReturn.pln.reloadEnd)) = 0 := by decide +kernel

theorem saveNowTaken_room : 4 * (saveFrozen saveNowTaken 3).channelsReturn.granuleCount + 1 ≤ ((saveFrozen saveNowTaken 3).saveBegin false).swathRoom 0 := by decide +kernel

theorem saveNowTaken_fits : SaveFits saveNowTaken 3 := by
  have hkeeper : decide (saveNowTaken.sys.mode = .keeper) = false := by decide +kernel
  rw [SaveFits, hkeeper, saveTaken_eq]
  exact saveBegin_fits (saveFrozen saveNowTaken 3) false saveNowTaken_keepsAll saveNowTaken_basePlan saveNowTaken_room

theorem saveNowTaken_leaves : (saveNowTaken.saveTaken 3 false).pkt.exec = [] := by decide +kernel

theorem saveNowTaken_saves : (saveNowTaken.saveTaken 3 false).inMode [.save, .shutDown] = true := by decide +kernel

theorem saveNowInClose_runs : exec (.saveNow .mailbox) saveNowInClose = .next (saveNowTaken.saveTaken 3 false) := by
  have hfind : saveNowInClose.findExec .mailbox 9 = some saveNowPacket := by decide +kernel
  have htrigger : saveNowTaken.trigger 3 = saveNowTaken.saveTaken 3 false :=
    (trigger_decides (by decide +kernel) (by decide +kernel)).trans (saveDecide_of saveNowTaken_fits)
  change execSaveNow .mailbox saveNowInClose = _
  rw [execSaveNow, hfind]
  dsimp only
  rw [State.saveNowRun, ← saveNowTaken, htrigger]
  exact congrArg _ (if_pos saveNowTaken_saves)

/-- Refutes O25: the packet of the SAVE_NOW does not wait in execution where a close that names it ends at the freeze. -/
theorem not_savesBegin : ¬ Obligations.SavesBegin := by
  intro h
  obtain ⟨-, hnow⟩ := h
  obtain ⟨-, hnow⟩ := hnow saveNowInClose .mailbox
  obtain ⟨hfits, -⟩ := hnow saveNowPacket (by decide +kernel) (.inl (by decide +kernel))
  obtain ⟨t, ht, -, hwaits⟩ := hfits (by decide +kernel) saveNowTaken_fits
  rw [saveNowInClose_runs] at ht
  rw [← Host.Outcome.next.inj ht, saveNowTaken_leaves] at hwaits
  exact absurd hwaits List.not_mem_nil

end Sys2Proof.Proofs

/-! PROOF. Rails that do not start, chatter, or fail while running, by class and mode (R380, R381, R383, R384, R389, Table 13-7). -/

namespace Sys2Proof.Proofs

open Sys2Proof.Machine Sys2Proof.Machine.Reg Sys2Proof.Laws

/-! Bits and sets of rails. -/

section Bits
variable {s : State}

/-- A bit that is cleared reads 0. -/
theorem bit_setBit_false (s : State) {f : Fld} {i : Nat} (hf : f.lo + f.w ≤ 32) : (s.setBit f i false).bit f i = false := by
  rw [State.setBit]
  by_cases hb : s.fld f / 2 ^ i % 2 = 1
  · have hlt : s.fld f - 2 ^ i < 2 ^ f.w := Nat.lt_of_le_of_lt (Nat.sub_le _ _) (fld_lt s f)
    have hdiv : (s.fld f - 2 ^ i) / 2 ^ i = s.fld f / 2 ^ i - 1 := by
      simpa using Nat.sub_mul_div (s.fld f) (2 ^ i) 1
    rw [hb, if_neg (by decide), if_neg (by decide), State.bit, fld_setFld_same _ _ hf, Nat.mod_eq_of_lt hlt, hdiv]
    simp only [decide_eq_false_iff_not]
    omega
  · have hcur : (s.fld f / 2 ^ i % 2 == 1) = false := by simpa using hb
    rw [hcur, if_pos rfl, State.bit]
    simpa using hb

theorem railGood_setRailGood_false (s : State) (r : Nat) : (s.setRailGood r false).railGood r = false := by
  rw [State.railGood, State.setRailGood]
  split
  · exact bit_setBit_false s (by decide)
  · exact bit_setBit_false s (by decide)

theorem railFailBit_setRailFail (s : State) {r : Nat} (hr : r < 33) : (s.setRailFail r).railFailBit r = true := by
  rw [State.railFailBit, State.setRailFail]
  split
  · next h => rw [bit_setBit_true s (by decide) h, decide_eq_true rfl, Bool.or_true]
  · rw [bit_setBit_true s (by decide) (by change r - 16 < 17; omega), decide_eq_true rfl, Bool.or_true]

/-- The fail bits are told by their registers alone. -/
theorem railFailBit_of {F : Foot} {t : State} (h : Frame F s t) (h1 : F.spares PWR_RAIL_FAIL.addr = true) (h2 : F.spares PWR_FSW_FAIL.addr = true) (r : Nat) :
    t.railFailBit r = s.railFailBit r := by
  rw [State.railFailBit, State.railFailBit, bit_of_fld (h.fld _ h1), bit_of_fld (h.fld _ h2)]

/-- So are the rails' power-good bits. -/
theorem railGood_of {F : Foot} {t : State} (h : Frame F s t) (h1 : F.spares PWR_RAIL_STS.addr = true) (h2 : F.spares PWR_FSW_STS.addr = true) (r : Nat) :
    t.railGood r = s.railGood r := by
  rw [State.railGood, State.railGood, bit_of_fld (h.fld _ h1), bit_of_fld (h.fld _ h2)]

theorem onlyFields_setRailFail (s : State) (r : Nat) : OnlyFields [PWR_RAIL_FAIL, PWR_FSW_FAIL] s (s.setRailFail r) := by
  rw [State.setRailFail]
  split
  · exact onlyFields_setBit (onlyFields_refl _ s) _ _ (by simp)
  · exact onlyFields_setBit (onlyFields_refl _ s) _ _ (by simp)

theorem onlyFields_setRailGood (s : State) (r : Nat) (b : Bool) : OnlyFields [PWR_RAIL_STS, PWR_FSW_STS] s (s.setRailGood r b) := by
  rw [State.setRailGood]
  split
  · exact onlyFields_setBit (onlyFields_refl _ s) _ _ (by simp)
  · exact onlyFields_setBit (onlyFields_refl _ s) _ _ (by simp)

/-- A change of registers alone stays one beside the same changes of the supervisor's and the fault collector's parts. -/
theorem onlyFields_beside {fs : List Fld} {v : State} {p q : Pwr} {f : Flt} (h : OnlyFields fs { s with pwr := p } v) :
    OnlyFields fs { s with pwr := q, flt := f } { v with pwr := q, flt := f } :=
  ⟨congrArg (fun x : State => ({ x with pwr := q, flt := f } : State)) h.1, h.2⟩

theorem railIn_railBit {r k : Nat} (hk : k < 33) : railIn (railBit r) k = decide (k = r) := by
  rw [railIn, railBit, ← BitVec.twoPow_eq, BitVec.getLsbD_twoPow]
  by_cases h : r = k
  · simp [h, hk]
  · simp [h, Ne.symm h]

theorem railIn_dropped (b : BitVec 33) {r k : Nat} (hk : k < 33) : railIn (b &&& ~~~(railBit r)) k = (railIn b k && !decide (k = r)) := by
  have h := railIn_railBit (r := r) hk
  rw [railIn] at h ⊢
  rw [BitVec.getLsbD_and, BitVec.getLsbD_not, h]
  simp [hk, railIn]

end Bits

/-! A channel's fence outside a save (R320). -/

section Fence
variable {s : State}

/-- What a channel's fence may change outside a save. -/
abbrev fenceFoot : Foot :=
  ⟨[.exec, .held, .pkt, .dirty, .flushQ, .per, .gln, .sea, .run, .sav, .images, .sheaves, .boot, .commitLog, .commits, .flash, .flo, .fce, .bdc, .fresh, .evr, .slots, .flt, .kite],
    some [PKT_STS_DEPTH_USED.addr, PKT_MBX_STS_BUSY.addr, 0x5180, 0x5184, 0x5188, 0x518c, 0x5190, 0x5194, 0x5198, 0x519c, GLN_STS_ACTIVE.addr, SAV_STS_ABANDONED.addr, SAV_FENCED.addr,
      FLO_STS_DIE_RETIRED.addr, FLO_LEDGER_INDEX.addr, FLO_BOOT.addr, EVR_DROP_CRITICAL.addr, EVR_FENCED_CNT.addr, EVR_MIRROR_DONE.addr, highRegs]⟩

/-- The fence of a channel once its engine has stopped. -/
def fencedBehind (s : State) (n : Nat) : State := (((((s.gleanFenceChannel n).harvestFence n).anchorFence n).restoreFence n).threshFence)

/-- What follows the stop of the engine leaves the channels' registers. -/
abbrev behindFoot : Foot :=
  ⟨[.exec, .held, .pkt, .dirty, .flushQ, .per, .gln, .sea, .sav, .images, .sheaves, .boot, .commitLog, .commits, .flash, .flo, .bdc, .fresh, .evr, .slots, .flt, .kite],
    some [PKT_STS_DEPTH_USED.addr, PKT_MBX_STS_BUSY.addr, 0x5180, 0x5184, 0x5188, 0x518c, 0x5190, 0x5194, 0x5198, 0x519c, GLN_STS_ACTIVE.addr, SAV_STS_ABANDONED.addr, SAV_FENCED.addr,
      FLO_STS_DIE_RETIRED.addr, FLO_LEDGER_INDEX.addr, FLO_BOOT.addr, EVR_DROP_CRITICAL.addr, EVR_FENCED_CNT.addr, EVR_MIRROR_DONE.addr]⟩

theorem frame_fencedBehind (s : State) (n : Nat) : Frame behindFoot s (fencedBehind s n) :=
  .step rfl (frame_threshFence _) <| .step rfl (frame_restoreFence _ _) <| .step rfl (frame_anchorFence _ _) <| .step rfl (frame_harvestFence _ _) <|
    .step rfl (frame_gleanFenceChannel _ _) (.refl _ s)

/-- A fence's cause joins the channel's, and a channel that is not fenced stops. -/
theorem fenceChannel_of (n : Nat) (x : FenceCause) (hm : s.sys.mode ≠ .save) : ∃ c, s.fenceChannel n (some x) =
    if (s.setChan n c).flag (FCE_STS_FENCED n) then s.setChan n c else fencedBehind ((s.setChan n c).fenceEngine n) n := by
  refine ⟨{ s.chan n with causes := (s.chan n).causes ++ [x] }, ?_⟩
  rw [State.fenceChannel]
  generalize hu : s.setChan n { s.chan n with causes := (s.chan n).causes ++ [x] } = u
  have hus : u.sys = s.sys := by rw [← hu]; rfl
  have hb : (fencedBehind (u.fenceEngine n) n).sys = s.sys := ((frame_fencedBehind (u.fenceEngine n) n).same .sys (by decide)).trans (((frame_fenceEngine u n).same .sys (by decide)).trans hus)
  dsimp only
  split
  · rfl
  · exact if_pos (by change (fencedBehind (u.fenceEngine n) n).sys.mode ≠ .save; rw [hb]; exact hm)

theorem frame_fenceChannel_running (n : Nat) (x : FenceCause) (hm : s.sys.mode ≠ .save) : Frame fenceFoot s (s.fenceChannel n (some x)) := by
  obtain ⟨c, hc⟩ := fenceChannel_of n x hm
  rw [hc]
  split
  · exact .step rfl (frame_setChan _ _ _) (.refl _ s)
  · exact .step rfl (frame_fencedBehind _ n) <| .step rfl (frame_fenceEngine _ n) <| .step rfl (frame_setChan _ _ _) (.refl _ s)

/-- What a completion counts in its channel's registers (R297). -/
def counted (s : State) (ch : Nat) (desc : List Byte) (c : Cpl) : State :=
  let t := s.wrap (FCE_CNT_CPL ch) 1
  let t := match cplCounter ch c.code with
    | some f => t.bump f 1
    | none => t
  if dOp desc = 1 ∧ (c.code = 0 ∨ c.code = 3 ∨ c.code = 4) then
    (t.setFld (FCE_MAXCORR_LAST ch) c.corr).setFld (FCE_MAXCORR_HIGH ch) (max (t.fld (FCE_MAXCORR_HIGH ch)) c.corr)
  else t

theorem postCpl_of (s : State) (ch d : Nat) (desc : List Byte) (c : Cpl) :
    ∃ (e : Chan) (c' : Cpl) (bs : List Byte), s.postCpl ch d desc c = (counted (s.setChan ch e) ch desc c').rawComplete ch desc bs := ⟨_, _, _, rfl⟩

/-- The counts are in other registers than the channel's state. -/
theorem fenced_counted (s : State) (ch : Nat) (desc : List Byte) (c : Cpl) : (counted s ch desc c).fld (FCE_STS_FENCED ch) = s.fld (FCE_STS_FENCED ch) := by
  have hne : ∀ {f : Fld} (u : State) (v : Nat), (FCE_STS_FENCED ch).addr ≠ f.addr → (u.setFld f v).fld (FCE_STS_FENCED ch) = u.fld (FCE_STS_FENCED ch) := fun u v h => fld_setFld_ne u v (.inl h)
  have hcount : ∀ (code : Nat) (f : Fld), cplCounter ch code = some f → (FCE_STS_FENCED ch).addr ≠ f.addr := by
    intro code f hf
    unfold cplCounter at hf
    split at hf <;> simp only [Option.some.injEq, reduceCtorEq] at hf <;> subst hf <;>
      simp [FCE_STS_FENCED, FCE_CNT_ERR_PFAIL, FCE_CNT_ERR_EFAIL, FCE_CNT_ERR_UNCORR, FCE_CNT_ERR_TIMEOUT, FCE_CNT_MISC_DOUBLE, FCE_CNT_MISC_RAS, FCE_CNT_MISC_ABORTED, FCE_CNT_MISC_TOOLATE]
  have hwrap : (s.wrap (FCE_CNT_CPL ch) 1).fld (FCE_STS_FENCED ch) = s.fld (FCE_STS_FENCED ch) := hne s _ (by simp [FCE_STS_FENCED, FCE_CNT_CPL])
  have hcorr : ∀ (u : State) (a b : Nat), ((u.setFld (FCE_MAXCORR_LAST ch) a).setFld (FCE_MAXCORR_HIGH ch) b).fld (FCE_STS_FENCED ch) = u.fld (FCE_STS_FENCED ch) := fun u a b =>
    (hne _ _ (by simp [FCE_STS_FENCED, FCE_MAXCORR_HIGH])).trans (hne u _ (by simp [FCE_STS_FENCED, FCE_MAXCORR_LAST]))
  have hcode : (match cplCounter ch c.code with | some f => (s.wrap (FCE_CNT_CPL ch) 1).bump f 1 | none => s.wrap (FCE_CNT_CPL ch) 1).fld (FCE_STS_FENCED ch) = s.fld (FCE_STS_FENCED ch) := by
    split
    · next f hf => exact (hne _ _ (hcount _ f hf)).trans hwrap
    · exact hwrap
  rw [counted]
  split
  · exact (hcorr _ _ _).trans hcode
  · exact hcode

/-- A completion leaves the state register of its channel. -/
theorem fenced_postCpl (s : State) (ch d : Nat) (desc : List Byte) (c : Cpl) : (s.postCpl ch d desc c).fld (FCE_STS_FENCED ch) = s.fld (FCE_STS_FENCED ch) := by
  obtain ⟨e, c', bs, h⟩ := postCpl_of s ch d desc c
  have hset : (s.setChan ch e).fld (FCE_STS_FENCED ch) = s.fld (FCE_STS_FENCED ch) := rfl
  rw [h]
  generalize s.setChan ch e = u at *
  have hcounted := fenced_counted u ch desc c'
  generalize counted u ch desc c' = v at *
  exact ((frame_rawComplete v ch desc bs).fld _ (by simp [Foot.spares, FCE_STS_FENCED, PKT_STS_DEPTH_USED, PKT_MBX_STS_BUSY]; omega)).trans (hcounted.trans hset)

/-- A field that every step of a fold leaves is as before it. -/
theorem fld_foldl {α : Type} {f : Fld} {g : State → α → State} (hg : ∀ u x, (g u x).fld f = u.fld f) (l : List α) (u : State) : (l.foldl g u).fld f = u.fld f := by
  induction l generalizing u with
  | nil => rfl
  | cons x l ih => exact (ih _).trans (hg u x)

/-- An engine that stops is fenced (R320). -/
theorem fenced_fenceEngine (s : State) (ch : Nat) : (s.fenceEngine ch).flag (FCE_STS_FENCED ch) = true := by
  have hptr : ∀ (u : State) (d b : Nat), (u.ptrUnknown ch d b).fld (FCE_STS_FENCED ch) = u.fld (FCE_STS_FENCED ch) := fun _ _ _ => rfl
  have hvoid : ∀ (u : State) (k : Nat), (u.voidEar k).fld (FCE_STS_FENCED ch) = u.fld (FCE_STS_FENCED ch) := fun u k => (frame_voidEar u k).fld _ (by simp [Foot.spares])
  rw [State.fenceEngine]
  refine (flag_of_fld (fld_foldl (fun u d => ?_) _ _)).trans (flag_setFlag_same s _ (by simp [FCE_STS_FENCED]) (by simp [FCE_STS_FENCED]))
  refine (fld_foldl (fun w x => fenced_postCpl w ch d x _) _ _).trans ?_
  refine (fld_foldl (fun w x => fenced_postCpl w ch d _ _) _ _).trans ?_
  refine (fld_foldl (fun w x => hvoid w _) _ _).trans ?_
  refine (fld_foldl (fun w x => ?_) _ _).trans ?_
  · split
    · exact hvoid w _
    · rfl
  · exact fld_foldl (fun w b => hptr w d b) _ _

/-- A channel that a fence strikes is fenced (R320). -/
theorem fenced_fenceChannel {n : Nat} (hn : n < 17) (x : FenceCause) (hm : s.sys.mode ≠ .save) : (s.fenceChannel n (some x)).flag (FCE_STS_FENCED n) = true := by
  obtain ⟨c, hc⟩ := fenceChannel_of n x hm
  have hspares : ∀ n < 17, behindFoot.spares (FCE_STS_FENCED n).addr = true := by decide
  rw [hc]
  split
  · next h => exact h
  · exact ((frame_fencedBehind _ n).flag _ (hspares n hn)).trans (fenced_fenceEngine _ n)

end Fence

/-! A rail that does not start. -/

section NoStart
variable {s u : State} {r : Nat} {boot : BootEnv}

/-- A state that differs in a count of the sequencer's register alone. -/
structure Alike (s u : State) : Prop where
  frame : Frame ⟨[], some [PWR_SEQ_STS_STATE.addr]⟩ s u
  state : u.fld PWR_SEQ_STS_STATE = s.fld PWR_SEQ_STS_STATE

theorem alike_refl (s : State) : Alike s s := ⟨.refl _ s, rfl⟩

theorem alike_chatter (s : State) : Alike s (s.bump PWR_SEQ_STS_CHATTER 1) :=
  ⟨frame_bump s PWR_SEQ_STS_CHATTER 1, fld_setFld_ne _ _ (by decide)⟩

/-- Both verdicts on an awaited rail take it as one that does not start; a chatter is counted before (R380). -/
theorem railVerdicts {r : Fin 33} {P : State → State → Prop} (hw : railIn s.pwr.waiting r.val = true) (hm : s.sys.mode ≠ .shutDown)
    (h : ∀ u, Alike s u → P u (u.railNoStart r.val boot)) :
    Answers (.railNoStart r boot) s (P s) ∧ Answers (.railChatter r boot) s (P (s.bump PWR_SEQ_STS_CHATTER 1)) :=
  ⟨answers_of (i := .railNoStart r boot) (if_pos (by simp [hw, hm])) (h s (alike_refl s)),
    answers_of (i := .railChatter r boot) (if_pos (by simp [hw, hm])) (h _ (alike_chatter s))⟩

/-- The rail is no longer awaited. -/
def judged (s : State) (r : Nat) : State := { s with pwr := { s.pwr with waiting := s.pwr.waiting &&& ~~~(railBit r) } }

theorem frame_judged (s : State) (r : Nat) : Frame ⟨[.pwr], some []⟩ s (judged s r) :=
  .lit s (fun p hp => by cases p <;> first | rfl | exact absurd (by decide) hp) (.refl _ s)

/-- A failed persistence rail is marked and reported (R381). -/
def marked (s : State) (r : Nat) : State := ((judged s r).setRailFail r).reportSev .critical .railNoStart (railSource r) (railQual r) 0

theorem frame_marked (s : State) (r : Nat) : Frame ⟨[.flt, .pwr], some [PWR_RAIL_FAIL.addr, PWR_FSW_FAIL.addr]⟩ s (marked s r) :=
  .step rfl (frame_reportSev _ _ _ _ _ _) <| .step rfl (frame_setRailFail _ _) <| .step rfl (frame_judged s r) (.refl _ s)

/-- A failed capacity rail is off, marked and reported (R381). -/
def turnedOff (s : State) (r : Nat) : State := (((judged s r).dropRail r).setRailFail r).reportSev .fault .railNoStart (railSource r) (railQual r) 0

theorem railNoStart_persist (hr : smapFind u.pwr.retries r = none) (hp : railPersist r = true) : u.railNoStart r boot =
    if (marked u r).inMode [.powerUp] then (({ marked u r with pwr := { (marked u r).pwr with railFailed := true } } : State).attachAttemptFailed).shutDownStart 2 true
    else ({ marked u r with pwr := { (marked u r).pwr with failed := (marked u r).pwr.failed ||| railBit r } } : State).seqAdvance boot 9 := by
  rw [State.railNoStart]
  dsimp only
  rw [hr, if_neg (by decide), if_pos hp]
  rfl

theorem railNoStart_capacity (hr : smapFind u.pwr.retries r = none) (hp : railPersist r = false) : u.railNoStart r boot =
    (if 16 ≤ r then (turnedOff u r).fenceChannel (r - 16) (some (.told .railNoStart (railSource r))) else turnedOff u r).seqAdvance boot 9 := by
  rw [State.railNoStart]
  dsimp only
  rw [hr, if_neg (by decide), if_neg (by rw [hp]; decide)]
  rfl

theorem railNoStart_retried {n : Nat} (hr : smapFind u.pwr.retries r = some n) : u.railNoStart r boot = (judged u r).railRetryLost r := by
  rw [State.railNoStart]
  dsimp only
  rw [hr]
  rfl

/-- The sequencer stays where a rail is awaited, and where it does not wait (R380). -/
theorem seqAdvance_idle {t : State} (h : t.pwr.waiting ≠ 0 ∨ t.fld PWR_SEQ_STS_STATE ≠ 1) : t.seqAdvance boot 9 = t := by
  refine if_pos ?_
  simpa using h

/-- A message's report is told by the collector's part alone. -/
theorem flt_reportSev_of {v : State} (h : v.flt = u.flt) (sev : Sev) (k : FaultKind) (src qual follow : Nat) : (v.reportSev sev k src qual follow).flt = (u.reportSev sev k src qual follow).flt := by
  rw [State.reportSev, State.reportSev, h]

theorem marked_shows (u : State) (h : r < 33) : (marked u r).railFailBit r = true ∧ (marked u r).pwr = { u.pwr with waiting := u.pwr.waiting &&& ~~~(railBit r) } ∧
    (marked u r).flt = (u.reportSev .critical .railNoStart (railSource r) (railQual r) 0).flt ∧
    ∀ (q : Pwr) (f : Flt), OnlyFields [PWR_RAIL_FAIL, PWR_FSW_FAIL] { u with pwr := q, flt := f } { marked u r with pwr := q, flt := f } := by
  have hf := frame_setRailFail (judged u r) r
  have hpwr : ((judged u r).setRailFail r).pwr = (judged u r).pwr := hf.same .pwr (by decide)
  have hflt : ((judged u r).setRailFail r).flt = u.flt := hf.same .flt (by decide)
  have honly := onlyFields_setRailFail (judged u r) r
  have hbit := railFailBit_setRailFail (judged u r) h
  rw [marked]
  generalize (judged u r).setRailFail r = v at *
  refine ⟨(railFailBit_of (frame_reportSev v _ _ _ _ _) (by decide) (by decide) r).trans hbit, hpwr, flt_reportSev_of hflt _ _ _ _ _, fun q f => onlyFields_beside (s := u) (v := v) (p := (judged u r).pwr) honly⟩

/-- The marked state with the rail among the failed ones. -/
def withFailed (s : State) (r : Nat) : State := { s with pwr := { s.pwr with failed := s.pwr.failed ||| railBit r } }

theorem frame_withFailed (s : State) (r : Nat) : Frame ⟨[.pwr], some []⟩ s (withFailed s r) :=
  .lit s (fun p hp => by cases p <;> first | rfl | exact absurd (by decide) hp) (.refl _ s)

theorem mode_marked (u : State) (r : Nat) : (marked u r).sys = u.sys := (frame_marked u r).same .sys (by decide)

theorem railNoStart_running (hr : smapFind u.pwr.retries r = none) (hp : railPersist r = true) (hm : u.sys.mode ≠ .powerUp) :
    u.railNoStart r boot = (withFailed (marked u r) r).seqAdvance boot 9 := by
  rw [railNoStart_persist hr hp, if_neg (by rw [State.inMode, mode_marked]; simp [hm])]
  rfl

/-- Where other rails are awaited the failed persistence rail is marked and reported (R381, R389). -/
theorem railNoStart_marks (h : r < 33) (hr : smapFind u.pwr.retries r = none) (hp : railPersist r = true) (hm : u.sys.mode ≠ .powerUp) (hrest : u.pwr.waiting &&& ~~~(railBit r) ≠ 0) :
    (u.railNoStart r boot).railFailBit r = true ∧
    (u.railNoStart r boot).pwr = { u.pwr with waiting := u.pwr.waiting &&& ~~~(railBit r), failed := u.pwr.failed ||| railBit r } ∧
    (u.railNoStart r boot).flt = (u.reportSev .critical .railNoStart (railSource r) (railQual r) 0).flt ∧
    OnlyFields [PWR_RAIL_FAIL, PWR_FSW_FAIL] { u with pwr := (u.railNoStart r boot).pwr, flt := (u.railNoStart r boot).flt } (u.railNoStart r boot) := by
  rw [railNoStart_running hr hp hm]
  obtain ⟨hbit, hpwr, hflt, honly⟩ := marked_shows u h
  generalize marked u r = m at *
  have hwp : (withFailed m r).pwr = { u.pwr with waiting := u.pwr.waiting &&& ~~~(railBit r), failed := u.pwr.failed ||| railBit r } := by rw [withFailed, hpwr]
  rw [seqAdvance_idle (.inl (by rw [hwp]; exact hrest))]
  exact ⟨(railFailBit_of (frame_withFailed m r) (by decide) (by decide) r).trans hbit, hwp, hflt, honly _ _⟩

/-- In rebound the sequencer holds while a persistence rail of the judged stage has failed (R389). -/
theorem seqAdvance_holds {t : State} (hw : t.pwr.waiting = 0) (hs : t.fld PWR_SEQ_STS_STATE = 1) (hm : t.sys.mode = .rebound) (hf : t.pwr.failed &&& 0x3FFF#33 ≠ 0) :
    t.seqAdvance boot 9 = t.setFld PWR_SEQ_STS_STATE 4 :=
  (if_neg (by simp [hw, hs])).trans (if_pos (by rw [State.inMode, hm]; simpa using hf))

/-- A persistence rail's bit is among those of its class. -/
theorem failed_persist (b : BitVec 33) (hp : railPersist r = true) : (b ||| railBit r) &&& 0x3FFF#33 ≠ 0 := by
  have hr : r ≤ 13 := by simpa [railPersist] using hp
  intro h
  have hbit := congrArg (fun x : BitVec 33 => x.getLsbD r) h
  have hself : (railBit r).getLsbD r = true := (railIn_railBit (by omega)).trans (decide_eq_true rfl)
  have hmask : ∀ k ≤ 13, (0x3FFF#33).getLsbD k = true := by decide
  simp only [BitVec.getLsbD_and, BitVec.getLsbD_or, hself, hmask r hr, Bool.or_true, Bool.and_true, BitVec.getLsbD_zero] at hbit
  exact absurd hbit (by simp)

/-- With the last rail of its stage judged, a failed persistence rail of rebound holds the stage (R389). -/
theorem railNoStart_holds (h : r < 33) (hr : smapFind u.pwr.retries r = none) (hp : railPersist r = true) (hm : u.sys.mode = .rebound) (hrest : u.pwr.waiting &&& ~~~(railBit r) = 0)
    (hs : u.fld PWR_SEQ_STS_STATE = 1) : (u.railNoStart r boot).railFailBit r = true ∧ (u.railNoStart r boot).fld PWR_SEQ_STS_STATE = 4 ∧
    (u.railNoStart r boot).pwr = { u.pwr with waiting := u.pwr.waiting &&& ~~~(railBit r), failed := u.pwr.failed ||| railBit r } ∧
    (u.railNoStart r boot).sys = u.sys ∧ (u.railNoStart r boot).dram = u.dram ∧ (u.railNoStart r boot).flash = u.flash := by
  rw [railNoStart_running hr hp (by rw [hm]; decide)]
  obtain ⟨hbit, hpwr, -, -⟩ := marked_shows u h
  have hf := Frame.step (G := ⟨[.flt, .pwr], some [PWR_RAIL_FAIL.addr, PWR_FSW_FAIL.addr]⟩) rfl (frame_withFailed (marked u r) r) (frame_marked u r)
  have hwbit := (railFailBit_of (frame_withFailed (marked u r) r) (by decide) (by decide) r).trans hbit
  have hwp : (withFailed (marked u r) r).pwr = { u.pwr with waiting := u.pwr.waiting &&& ~~~(railBit r), failed := u.pwr.failed ||| railBit r } := by rw [withFailed, hpwr]
  generalize withFailed (marked u r) r = w at *
  have hws : w.sys = u.sys := hf.same .sys (by decide)
  rw [seqAdvance_holds (by rw [hwp]; exact hrest) ((hf.fld _ (by decide)).trans hs) (by rw [hws]; exact hm) (by rw [hwp]; exact failed_persist _ hp)]
  exact ⟨(railFailBit_of (frame_setFld w _ _) (by decide) (by decide) r).trans hwbit, fld_setFld_same _ _ (by decide), (pwr_setFld ..).trans hwp, (sys_setFld ..).trans hws,
    (dram_setFld ..).trans (hf.same .dram (by decide)), (flash_setFld ..).trans (hf.same .flash (by decide))⟩

/-- In power-up a failed persistence rail shuts the part down past its DRAM point (R381). -/
theorem railNoStart_down (ha : Alike s u) (hr : smapFind u.pwr.retries r = none) (hp : railPersist r = true) (hm : u.sys.mode = .powerUp) : DownFrom s (u.railNoStart r boot) 2 true := by
  rw [railNoStart_persist hr hp, if_pos (by rw [State.inMode, mode_marked]; simp [hm])]
  have hfailed : Frame ⟨[.pwr], some []⟩ (marked u r) ({ marked u r with pwr := { (marked u r).pwr with railFailed := true } } : State) :=
    .lit (marked u r) (fun p hp => by cases p <;> first | rfl | exact absurd (by decide) hp) (.refl _ _)
  obtain ⟨v, hv⟩ : ∃ v : State, v = { marked u r with pwr := { (marked u r).pwr with railFailed := true } } := ⟨_, rfl⟩
  rw [← hv] at hfailed ⊢
  have hall : Frame ⟨[.sys, .images, .sheaves, .boot, .commitLog, .commits, .flash, .flo, .fresh, .evr, .slots, .flt, .pwr],
      some [GLN_STS_ACTIVE.addr, FLO_STS_DIE_RETIRED.addr, FLO_LEDGER_INDEX.addr, FLO_BOOT.addr, PWR_RAIL_FAIL.addr, PWR_FSW_FAIL.addr, PWR_SEQ_STS_STATE.addr, EVR_DROP_CRITICAL.addr,
        EVR_FENCED_CNT.addr, EVR_MIRROR_DONE.addr]⟩ s v.attachAttemptFailed :=
    .step rfl (frame_attachAttemptFailed v) <| .step rfl hfailed <| .step rfl (frame_marked u r) <| .step rfl ha.frame (.refl _ s)
  exact downFrom_of (shutDownStart_down v.attachAttemptFailed true (by decide)).1 (railUp_of hall (by decide) (hall.same .en (by decide)))

/-! Capacity rails. -/

theorem turnedOff_shows (u : State) (h : r < 33) : (turnedOff u r).railFailBit r = true ∧ (turnedOff u r).railGood r = false ∧
    (turnedOff u r).pwr = { u.pwr with waiting := u.pwr.waiting &&& ~~~(railBit r), en := u.pwr.en &&& ~~~(railBit r) } ∧
    (turnedOff u r).flt = (u.reportSev .fault .railNoStart (railSource r) (railQual r) 0).flt ∧ (turnedOff u r).sys = u.sys ∧ (turnedOff u r).dram = u.dram ∧
    (turnedOff u r).fld PWR_SEQ_STS_STATE = u.fld PWR_SEQ_STS_STATE := by
  obtain ⟨x, hx⟩ : ∃ x : State, x = { judged u r with pwr := { (judged u r).pwr with en := (judged u r).pwr.en &&& ~~~(railBit r) } } := ⟨_, rfl⟩
  have hxs : x.pwr = { u.pwr with waiting := u.pwr.waiting &&& ~~~(railBit r), en := u.pwr.en &&& ~~~(railBit r) } ∧ x.flt = u.flt ∧ x.sys = u.sys ∧ x.dram = u.dram ∧
      x.fld PWR_SEQ_STS_STATE = u.fld PWR_SEQ_STS_STATE := by
    rw [hx]
    exact ⟨rfl, rfl, rfl, rfl, rfl⟩
  have hoff : turnedOff u r = (((x.setRailGood r false).setRailFail r).reportSev .fault .railNoStart (railSource r) (railQual r) 0) := by rw [hx]; rfl
  rw [hoff]
  clear hx hoff
  have hgood := railGood_setRailGood_false x r
  have hg := frame_setRailGood x r false
  have hgp := hg.same .pwr (by decide)
  have hgf := hg.same .flt (by decide)
  have hgs := hg.same .sys (by decide)
  have hgd := hg.same .dram (by decide)
  have hgst := hg.fld PWR_SEQ_STS_STATE (by decide)
  clear hg
  generalize x.setRailGood r false = y at *
  have hfail := railFailBit_setRailFail y h
  have hf := frame_setRailFail y r
  have hflt : (y.setRailFail r).flt = u.flt := (hf.same .flt (by decide)).trans (hgf.trans hxs.2.1)
  have hall : Frame ⟨[.flt], some [PWR_RAIL_FAIL.addr, PWR_FSW_FAIL.addr]⟩ y ((y.setRailFail r).reportSev .fault .railNoStart (railSource r) (railQual r) 0) :=
    .step rfl (frame_reportSev _ _ _ _ _ _) (.step rfl hf (.refl _ y))
  obtain ⟨hxp, -, hxsys, hxd, hxst⟩ := hxs
  exact ⟨(railFailBit_of (frame_reportSev (y.setRailFail r) _ _ _ _ _) (by decide) (by decide) r).trans hfail, (railGood_of hall (by decide) (by decide) r).trans hgood,
    (hall.same .pwr (by decide)).trans (hgp.trans hxp), flt_reportSev_of hflt _ _ _ _ _, (hall.same .sys (by decide)).trans (hgs.trans hxsys),
    (hall.same .dram (by decide)).trans (hgd.trans hxd), (hall.fld _ (by decide)).trans (hgst.trans hxst)⟩

/-- A failed PMIC capacity rail changes its own bits alone besides the supervisor's part and the report. -/
theorem turnedOff_onlyFields (u : State) (h : r < 16) : OnlyFields [PWR_RAIL_FAIL, PWR_RAIL_STS] { u with pwr := (turnedOff u r).pwr, flt := (turnedOff u r).flt } (turnedOff u r) := by
  obtain ⟨x, hx⟩ : ∃ x : State, x = { u with pwr := { u.pwr with waiting := u.pwr.waiting &&& ~~~(railBit r), en := u.pwr.en &&& ~~~(railBit r) } } := ⟨_, rfl⟩
  have hoff : turnedOff u r = (((x.setBit PWR_RAIL_STS r false).setBit PWR_RAIL_FAIL r true).reportSev .fault .railNoStart (railSource r) (railQual r) 0) := by
    rw [turnedOff, State.dropRail, State.setRailGood, if_pos h, State.setRailFail, if_pos h, hx]
    rfl
  have honly : OnlyFields [PWR_RAIL_FAIL, PWR_RAIL_STS] x ((x.setBit PWR_RAIL_STS r false).setBit PWR_RAIL_FAIL r true) :=
    onlyFields_setBit (onlyFields_setBit (onlyFields_refl _ x) _ _ (by simp)) _ _ (by simp)
  rw [hoff]
  generalize (x.setBit PWR_RAIL_STS r false).setBit PWR_RAIL_FAIL r true = v at *
  rw [hx] at honly
  exact onlyFields_beside honly

/-- A PMIC capacity rail that fails to come up is off, marked and reported, and the sequencer goes no further (R381). -/
theorem railNoStart_off (h : r = 14 ∨ r = 15) (hr : smapFind u.pwr.retries r = none) (hrest : u.pwr.waiting &&& ~~~(railBit r) ≠ 0 ∨ u.fld PWR_SEQ_STS_STATE ≠ 1) :
    (u.railNoStart r boot).railFailBit r = true ∧ (u.railNoStart r boot).railGood r = false ∧
    (u.railNoStart r boot).pwr = { u.pwr with waiting := u.pwr.waiting &&& ~~~(railBit r), en := u.pwr.en &&& ~~~(railBit r) } ∧
    (u.railNoStart r boot).flt = (u.reportSev .fault .railNoStart (railSource r) (railQual r) 0).flt ∧
    OnlyFields [PWR_RAIL_FAIL, PWR_RAIL_STS] { u with pwr := (u.railNoStart r boot).pwr, flt := (u.railNoStart r boot).flt } (u.railNoStart r boot) := by
  have hr16 : r < 16 := by omega
  obtain ⟨hbit, hgood, hpwr, hflt, -, -, hst⟩ := turnedOff_shows u (r := r) (by omega)
  have honly := turnedOff_onlyFields u hr16
  rw [railNoStart_capacity hr (by rw [railPersist]; exact decide_eq_false (by omega)), if_neg (by omega)]
  generalize turnedOff u r = w at *
  rw [seqAdvance_idle (by rw [hpwr, hst]; exact hrest)]
  exact ⟨hbit, hgood, hpwr, hflt, honly⟩

/-- A load switch that fails to come up takes its channel with it (R381, R384). -/
theorem railNoStart_fences (h : 16 ≤ r) (h33 : r < 33) (hr : smapFind u.pwr.retries r = none) (hm : u.sys.mode ≠ .save)
    (hrest : u.pwr.waiting &&& ~~~(railBit r) ≠ 0 ∨ u.fld PWR_SEQ_STS_STATE ≠ 1) :
    (u.railNoStart r boot).flag (FCE_STS_FENCED (r - 16)) = true ∧ (u.railNoStart r boot).railFailBit r = true ∧ railIn (u.railNoStart r boot).pwr.en r = false ∧
    (u.railNoStart r boot).pwr.waiting = u.pwr.waiting &&& ~~~(railBit r) ∧ (u.railNoStart r boot).sys = u.sys ∧ (u.railNoStart r boot).dram = u.dram := by
  obtain ⟨hbit, -, hpwr, -, hsys, hdram, hst⟩ := turnedOff_shows u h33
  rw [railNoStart_capacity hr (by rw [railPersist]; exact decide_eq_false (by omega)), if_pos h]
  generalize turnedOff u r = w at *
  have hwm : w.sys.mode ≠ .save := by rw [hsys]; exact hm
  have hf := frame_fenceChannel_running (r - 16) (.told .railNoStart (railSource r)) hwm
  have hfenced := fenced_fenceChannel (n := r - 16) (by omega) (.told .railNoStart (railSource r)) hwm
  generalize w.fenceChannel (r - 16) (some (.told .railNoStart (railSource r))) = x at *
  have hxp : x.pwr = w.pwr := hf.same .pwr (by decide)
  have hxst := hf.fld PWR_SEQ_STS_STATE (by decide)
  rw [seqAdvance_idle (by rw [hxp, hpwr, hxst, hst]; exact hrest)]
  refine ⟨hfenced, (railFailBit_of hf (by decide) (by decide) r).trans hbit, ?_, by rw [hxp, hpwr], (hf.same .sys (by decide)).trans hsys, (hf.same .dram (by decide)).trans hdram⟩
  rw [hxp, hpwr, railIn_dropped _ h33]
  simp

/-! Tries of a rail under RETRY (Table 13-7). -/

theorem dropRail_shows (u : State) (r : Nat) : (u.dropRail r).pwr = { u.pwr with en := u.pwr.en &&& ~~~(railBit r) } ∧ (u.dropRail r).railGood r = false ∧
    Frame ⟨[.en, .pwr], some [PWR_RAIL_STS.addr, PWR_FSW_STS.addr]⟩ u (u.dropRail r) := by
  obtain ⟨x, hx⟩ : ∃ x : State, x = { u with pwr := { u.pwr with en := u.pwr.en &&& ~~~(railBit r) } } := ⟨_, rfl⟩
  have hdrop : u.dropRail r = x.setRailGood r false := by rw [hx]; rfl
  have hxf : Frame ⟨[.en, .pwr], some []⟩ u x := by
    rw [hx]
    exact .lit u (fun p hp => by cases p <;> first | rfl | exact absurd (by decide) hp) (.refl _ u)
  have hxp : x.pwr = { u.pwr with en := u.pwr.en &&& ~~~(railBit r) } := by rw [hx]
  rw [hdrop]
  have hg := frame_setRailGood x r false
  exact ⟨(hg.same .pwr (by decide)).trans hxp, railGood_setRailGood_false x r, .step rfl hg (.step rfl hxf (.refl _ u))⟩

/-- A lost try leaves one less, with the rail off. -/
theorem railRetryLost_loses {n : Nat} (h33 : r < 33) (hr : smapFind u.pwr.retries r = some n) (hn : 1 < n) :
    smapFind (u.railRetryLost r).pwr.retries r = some (n - 1) ∧ railIn (u.railRetryLost r).pwr.en r = false ∧ (u.railRetryLost r).railGood r = false ∧
    (u.railRetryLost r).pwr.waiting = u.pwr.waiting ∧ (u.railRetryLost r).sys = u.sys ∧ (u.railRetryLost r).dram = u.dram := by
  have hlost : u.railRetryLost r = { u.dropRail r with pwr := { (u.dropRail r).pwr with retries := smapPut (u.dropRail r).pwr.retries r (n - 1) } } := by
    rw [State.railRetryLost]
    dsimp only
    rw [hr]
    exact if_pos hn
  obtain ⟨hpwr, hgood, hf⟩ := dropRail_shows u r
  rw [hlost]
  have hsys : (u.dropRail r).sys = u.sys := hf.same .sys (by decide)
  have hdram : (u.dropRail r).dram = u.dram := hf.same .dram (by decide)
  clear hlost hf
  generalize u.dropRail r = w at *
  refine ⟨smapFind_put_same _ _ _, ?_, hgood, ?_, hsys, hdram⟩
  · change railIn w.pwr.en r = false
    rw [hpwr, railIn_dropped _ h33]
    simp
  · change w.pwr.waiting = _
    rw [hpwr]

/-- A rail is turned off by an action (Table 13-7). -/
def actedOff (s : State) (r : Nat) : State := { s.dropRail r with pwr := { (s.dropRail r).pwr with shutByAction := (s.dropRail r).pwr.shutByAction ||| railBit r } }

/-- A load switch that is turned off takes its channel with it (Table 13-7). -/
def actedOn (s : State) (r : Nat) (x : FenceCause) : State := if 16 ≤ r then (actedOff s r).fenceChannel (r - 16) (some x) else actedOff s r

theorem railsOff_cons (s : State) (r : Nat) (rs : List Nat) (x : FenceCause) : s.railsOff (r :: rs) x = (actedOn s r x).railsOff rs x := rfl

theorem actedOn_shows (u : State) (r : Nat) (x : FenceCause) (hm : u.sys.mode ≠ .save) : (actedOn u r x).pwr.retries = u.pwr.retries ∧ (actedOn u r x).pwr.waiting = u.pwr.waiting ∧
    (actedOn u r x).pwr.en = u.pwr.en &&& ~~~(railBit r) ∧ (actedOn u r x).sys = u.sys ∧ (actedOn u r x).dram = u.dram := by
  obtain ⟨hpwr, -, hf⟩ := dropRail_shows u r
  have hsys : (u.dropRail r).sys = u.sys := hf.same .sys (by decide)
  have hdram : (u.dropRail r).dram = u.dram := hf.same .dram (by decide)
  rw [actedOn, actedOff]
  clear hf
  generalize u.dropRail r = w at *
  obtain ⟨v, hv⟩ : ∃ v : State, v = { w with pwr := { w.pwr with shutByAction := w.pwr.shutByAction ||| railBit r } } := ⟨_, rfl⟩
  have hvs : v.pwr.retries = w.pwr.retries ∧ v.pwr.waiting = w.pwr.waiting ∧ v.pwr.en = w.pwr.en ∧ v.sys = w.sys ∧ v.dram = w.dram := by
    rw [hv]
    exact ⟨rfl, rfl, rfl, rfl, rfl⟩
  rw [← hv]
  clear hv
  rw [hpwr, hsys, hdram] at hvs
  split
  · have hc := frame_fenceChannel_running (r - 16) x (s := v) (by rw [hvs.2.2.2.1]; exact hm)
    rw [hc.same .pwr (by decide), hc.same .sys (by decide), hc.same .dram (by decide)]
    exact hvs
  · exact hvs

/-- What the turning off of rails leaves of the supervisor's part outside a save. -/
theorem railsOff_shows (rs : List Nat) (x : FenceCause) : ∀ u : State, u.sys.mode ≠ .save → (u.railsOff rs x).pwr.retries = u.pwr.retries ∧ (u.railsOff rs x).pwr.waiting = u.pwr.waiting ∧
    (u.railsOff rs x).sys = u.sys ∧ (u.railsOff rs x).dram = u.dram ∧ ∀ k < 33, railIn (u.railsOff rs x).pwr.en k = (railIn u.pwr.en k && !decide (k ∈ rs)) := by
  induction rs with
  | nil => exact fun u _ => ⟨rfl, rfl, rfl, rfl, fun k _ => by simp [State.railsOff]⟩
  | cons r rs ih =>
    intro u hm
    obtain ⟨hretries, hwaiting, hen, hsys, hdram⟩ := actedOn_shows u r x hm
    rw [railsOff_cons]
    generalize actedOn u r x = w at *
    obtain ⟨h1, h2, h3, h4, h5⟩ := ih w (by rw [hsys]; exact hm)
    refine ⟨h1.trans hretries, h2.trans hwaiting, h3.trans hsys, h4.trans hdram, fun k hk => ?_⟩
    rw [h5 k hk, hen, railIn_dropped _ hk, Bool.and_assoc, ← Bool.not_or, ← Bool.decide_or]
    simp only [List.mem_cons]

/-- The rails of a group are told by the power table alone. -/
theorem groupRails_of {F : Foot} {t : State} (h : Frame F s t) (hF : ∀ r < 16, F.spares (PWR_RAIL_CFG_SET_MV r).addr = true) (r : Nat) : t.groupRails r = s.groupRails r := by
  have hset : ∀ k < 16, t.railExists k = s.railExists k := fun k hk => by rw [State.railExists, State.railExists, h.fld _ (hF k hk)]
  have hgroup : ∀ k < 16, t.fld (PWR_RAIL_CFG_GROUP k) = s.fld (PWR_RAIL_CFG_GROUP k) := fun k hk => h.fld _ (hF k hk)
  rw [State.groupRails, State.groupRails]
  split
  · rfl
  · simp only [List.filter_cons, List.filter_nil, hset 14 (by decide), hset 15 (by decide), hgroup 14 (by decide), hgroup 15 (by decide), hgroup r (by omega)]

theorem groupRails_lt (u : State) (h33 : r < 33) : ∀ k ∈ u.groupRails r, k < 33 := by
  intro k hk
  rw [State.groupRails] at hk
  split at hk
  · obtain rfl := List.mem_singleton.mp hk
    exact h33
  · have hm := (List.mem_filter.mp hk).1
    simp only [List.mem_cons, List.not_mem_nil, or_false] at hm
    omega

/-- The last lost try turns the rails of the group off (Table 13-7). -/
theorem railRetryLost_groups {n : Nat} (h33 : r < 33) (hr : smapFind u.pwr.retries r = some n) (hn : n ≤ 1) (hm : u.sys.mode ≠ .save) :
    smapFind (u.railRetryLost r).pwr.retries r = none ∧ (∀ k ∈ u.groupRails r, railIn (u.railRetryLost r).pwr.en k = false) ∧
    (u.railRetryLost r).pwr.waiting = u.pwr.waiting ∧ (u.railRetryLost r).sys = u.sys ∧ (u.railRetryLost r).dram = u.dram := by
  obtain ⟨hpwr, -, hf⟩ := dropRail_shows u r
  have hgroup := groupRails_of hf (by decide) r
  have hsys : (u.dropRail r).sys = u.sys := hf.same .sys (by decide)
  have hdram : (u.dropRail r).dram = u.dram := hf.same .dram (by decide)
  have hlost : ∃ (x : FenceCause) (f : Flt) (w : State), u.railRetryLost r = ({ w with pwr := { w.pwr with retries := smapDel w.pwr.retries r }, flt := f } : State).railsOff (u.groupRails r) x ∧
      w.pwr = (u.dropRail r).pwr ∧ w.sys = (u.dropRail r).sys ∧ w.dram = (u.dropRail r).dram := by
    rw [State.railRetryLost, hr, ← hgroup]
    generalize u.dropRail r = v
    rw [if_neg (by simpa using hn)]
    have hd : Frame ⟨[.fce], some []⟩ v (if 16 ≤ r then v.dropCause (r - 16) .retry else v) := by
      split
      · exact frame_dropCause v _ _
      · exact .refl _ v
    exact ⟨_, _, _, rfl, hd.same .pwr (by decide), hd.same .sys (by decide), hd.same .dram (by decide)⟩
  obtain ⟨x, f, w, hrun, hwp, hws, hwd⟩ := hlost
  rw [hrun]
  obtain ⟨v, hv⟩ : ∃ v : State, v = { w with pwr := { w.pwr with retries := smapDel w.pwr.retries r }, flt := f } := ⟨_, rfl⟩
  have hvs : v.pwr.retries = smapDel w.pwr.retries r ∧ v.pwr.waiting = w.pwr.waiting ∧ v.sys = w.sys ∧ v.dram = w.dram := by
    rw [hv]
    exact ⟨rfl, rfl, rfl, rfl⟩
  obtain ⟨hvr, hvw, hvsys, hvd⟩ := hvs
  rw [← hv]
  clear hv hrun
  obtain ⟨h1, h2, h3, h4, h5⟩ := railsOff_shows (u.groupRails r) x v (by rw [hvsys, hws, hsys]; exact hm)
  refine ⟨?_, fun k hk => ?_, ?_, ?_, ?_⟩
  · rw [h1, hvr]
    exact smapFind_del_same _ _
  · rw [h5 k (groupRails_lt u h33 k hk), decide_eq_true hk, Bool.not_true, Bool.and_false]
  · rw [h2, hvw, hwp, hpwr]
  · rw [h3, hvsys, hws, hsys]
  · rw [h4, hvd, hwd, hdram]

end NoStart

/-! The statement. -/

section Statement
variable (s : State) (r : Fin 33) (boot : BootEnv)

/-- The verdicts on a rail that is not awaited, and in shut-down, change nothing but the count of chatters (R380, R384). -/
theorem railVerdicts_idle (h : railIn s.pwr.waiting r.val = false ∨ s.sys.mode = .shutDown) :
    Answers (.railNoStart r boot) s (fun t => t = s) ∧ Answers (.railChatter r boot) s (fun t => t = s.bump PWR_SEQ_STS_CHATTER 1) := by
  have hcond : ¬ (railIn s.pwr.waiting r.val && decide (s.sys.mode ≠ .shutDown)) = true := by rcases h with h | h <;> simp [h]
  exact ⟨answers_of (i := .railNoStart r boot) (if_neg hcond) rfl, answers_of (i := .railChatter r boot) (if_neg hcond) rfl⟩

/-- A further try turns the rail on again and awaits it (Table 13-7). -/
theorem railRetryTry_tries :
    ((smapFind s.pwr.retries r.val = none ∨ railIn s.pwr.waiting r.val = true) → Answers (.railRetryTry r) s (fun t => t = s)) ∧
    (smapFind s.pwr.retries r.val ≠ none → railIn s.pwr.waiting r.val = false → Answers (.railRetryTry r) s (fun t =>
      t = { s with pwr := { s.pwr with waiting := s.pwr.waiting ||| railBit r.val, en := s.pwr.en ||| railBit r.val } })) := by
  refine ⟨fun h => answers_of (i := .railRetryTry r) (if_neg ?_) rfl, fun h hw => answers_of (i := .railRetryTry r) (if_pos ?_) rfl⟩
  · rcases h with h | h <;> simp [h]
  · simp [Option.isSome_iff_ne_none.mpr h, hw]

/-- Running faults and short losses of power-good (R383, R384, R500). -/
theorem runningFaults :
    (s.railGood r.val = false → Answers (.railFault r) s (fun t => t = s) ∧ Answers (.railGlitch r) s (fun t => t = s)) ∧
    (s.railGood r.val = true → Answers (.railGlitch r) s (fun t => t = s.bump PWR_SEQ_STS_GLITCH 1)) ∧
    (s.railGood r.val = true → s.sys.mode ≠ .shutDown → Answers (.railFault r) s (fun t =>
      t.railGood r.val = false ∧ t.railFailBit r.val = true ∧
      t.flt = (s.reportSev (if railPersist r.val then .critical else .fault) .railFault (railSource r.val) (railQual r.val) 0).flt ∧
      OnlyFields [PWR_RAIL_STS, PWR_FSW_STS, PWR_RAIL_FAIL, PWR_FSW_FAIL] { s with flt := t.flt } t)) ∧
    (s.railGood r.val = true → s.sys.mode = .shutDown → Answers (.railFault r) s (fun t => t = s.bump PWR_SEQ_STS_GLITCH 1)) := by
  refine ⟨fun h => ⟨answers_of (i := .railFault r) (if_neg (by rw [h]; decide)) rfl, answers_of (i := .railGlitch r) (if_neg (by rw [h]; decide)) rfl⟩,
    fun h => answers_of (i := .railGlitch r) (if_pos h) rfl, fun h hm => ?_, fun h hm => ?_⟩
  · have hrun : exec (.railFault r) s = .next (((s.setRailGood r.val false).setRailFail r.val).reportSev (if railPersist r.val then .critical else .fault) .railFault (railSource r.val)
        (railQual r.val) 0) := by
      change execRailFault r s = _
      rw [execRailFault, if_pos h, State.railRunningFault, if_neg hm]
      rfl
    refine answers_of hrun ?_
    clear hrun
    have hgood := railGood_setRailGood_false s r.val
    have hg := frame_setRailGood s r.val false
    have hflt : (s.setRailGood r.val false).flt = s.flt := hg.same .flt (by decide)
    have h1 := onlyFields_mono (gs := [PWR_RAIL_STS, PWR_FSW_STS, PWR_RAIL_FAIL, PWR_FSW_FAIL]) (onlyFields_setRailGood s r.val false) (by simp)
    clear hg
    generalize s.setRailGood r.val false = y at *
    have hfail := railFailBit_setRailFail y r.isLt
    have hf := frame_setRailFail y r.val
    have h2 := onlyFields_trans h1 (onlyFields_mono (gs := [PWR_RAIL_STS, PWR_FSW_STS, PWR_RAIL_FAIL, PWR_FSW_FAIL]) (onlyFields_setRailFail y r.val) (by simp))
    have hzg := (railGood_of hf (by decide) (by decide) r.val).trans hgood
    have hzf : (y.setRailFail r.val).flt = s.flt := (hf.same .flt (by decide)).trans hflt
    clear hf h1
    generalize y.setRailFail r.val = z at *
    generalize (if railPersist r.val then Sev.critical else Sev.fault) = sev
    have hrep := frame_reportSev z sev .railFault (railSource r.val) (railQual r.val) 0
    exact ⟨(railGood_of hrep (by decide) (by decide) r.val).trans hzg, (railFailBit_of hrep (by decide) (by decide) r.val).trans hfail, flt_reportSev_of hzf _ _ _ _ _,
      ⟨congrArg (fun x : State => ({ x with flt := (z.reportSev sev .railFault (railSource r.val) (railQual r.val) 0).flt } : State)) h2.1, h2.2⟩⟩
  · refine answers_of (i := .railFault r) (t := s.bump PWR_SEQ_STS_GLITCH 1) ?_ rfl
    change execRailFault r s = _
    rw [execRailFault, if_pos h, State.railRunningFault, if_pos hm]

end Statement

/-- Settles O35: rails that do not start, chatter or fail while running are marked and reported by class and mode. -/
theorem railFailures : Obligations.RailFailures := by
  refine ⟨fun s r boot => ?_, fun s r => runningFaults s r⟩
  intro c rest marked held off fenced lost grouped
  refine ⟨railVerdicts_idle s r boot, fun hw hm hr => ⟨fun hup hp => ?_, fun hup hp hrest => ?_, fun hreb hp hrest hs => ?_, fun h14 hrest => ?_, fun h16 hsave hrest => ?_⟩,
    fun n hw hm hr => ⟨fun hn => ?_, fun hn hsave => ?_⟩, (railRetryTry_tries s r).1, (railRetryTry_tries s r).2⟩
  · exact railVerdicts (P := fun _ t => DownFrom s t 2 true) hw hm fun u hu => by
      have hpwr : u.pwr = s.pwr := hu.frame.same .pwr (by decide)
      have hsys : u.sys = s.sys := hu.frame.same .sys (by decide)
      exact railNoStart_down hu (by rw [hpwr]; exact hr) hp (by rw [hsys]; exact hup)
  · exact railVerdicts (P := marked) hw hm fun u hu => by
      have hpwr : u.pwr = s.pwr := hu.frame.same .pwr (by decide)
      have hsys : u.sys = s.sys := hu.frame.same .sys (by decide)
      have h := railNoStart_marks (u := u) (boot := boot) r.isLt (by rw [hpwr]; exact hr) hp (by rw [hsys]; exact hup) (by rw [hpwr]; exact hrest)
      rw [hpwr] at h
      exact h
  · exact railVerdicts (P := fun _ => held) hw hm fun u hu => by
      have hpwr : u.pwr = s.pwr := hu.frame.same .pwr (by decide)
      have hsys : u.sys = s.sys := hu.frame.same .sys (by decide)
      have hdram : u.dram = s.dram := hu.frame.same .dram (by decide)
      have hflash : u.flash = s.flash := hu.frame.same .flash (by decide)
      have h := railNoStart_holds (u := u) (boot := boot) r.isLt (by rw [hpwr]; exact hr) hp (by rw [hsys]; exact hreb) (by rw [hpwr]; exact hrest) (hu.state.trans hs)
      rw [hpwr, hsys, hdram, hflash] at h
      exact h
  · exact railVerdicts (P := off) hw hm fun u hu => by
      have hpwr : u.pwr = s.pwr := hu.frame.same .pwr (by decide)
      have h := railNoStart_off (u := u) (boot := boot) h14 (by rw [hpwr]; exact hr) (by rw [hpwr, hu.state]; exact hrest)
      rw [hpwr] at h
      exact h
  · exact railVerdicts (P := fun _ => fenced) hw hm fun u hu => by
      have hpwr : u.pwr = s.pwr := hu.frame.same .pwr (by decide)
      have hsys : u.sys = s.sys := hu.frame.same .sys (by decide)
      have hdram : u.dram = s.dram := hu.frame.same .dram (by decide)
      have h := railNoStart_fences (u := u) (boot := boot) h16 r.isLt (by rw [hpwr]; exact hr) (by rw [hsys]; exact hsave) (by rw [hpwr, hu.state]; exact hrest)
      rw [hpwr, hsys, hdram] at h
      exact h
  · exact railVerdicts (P := fun _ => lost n) hw hm fun u hu => by
      have hpwr : u.pwr = s.pwr := hu.frame.same .pwr (by decide)
      have hj := (frame_judged u r.val).same
      have h := railRetryLost_loses (u := judged u r.val) r.isLt (n := n) (by change smapFind u.pwr.retries r.val = some n; rw [hpwr]; exact hr) hn
      rw [railNoStart_retried (n := n) (by rw [hpwr]; exact hr)]
      obtain ⟨h1, h2, h3, h4, h5, h6⟩ := h
      exact ⟨h1, h2, h3, h4.trans (by change u.pwr.waiting &&& _ = s.pwr.waiting &&& _; rw [hpwr]), h5.trans ((hj .sys (by decide)).trans (hu.frame.same .sys (by decide))),
        h6.trans ((hj .dram (by decide)).trans (hu.frame.same .dram (by decide)))⟩
  · exact railVerdicts (P := fun _ => grouped) hw hm fun u hu => by
      have hpwr : u.pwr = s.pwr := hu.frame.same .pwr (by decide)
      have hsys : u.sys = s.sys := hu.frame.same .sys (by decide)
      have hjf := frame_judged u r.val
      have hjs : (judged u r.val).sys = u.sys := hjf.same .sys (by decide)
      have hgroup : (judged u r.val).groupRails r.val = s.groupRails r.val := (groupRails_of hjf (by decide) r.val).trans (groupRails_of hu.frame (by decide) r.val)
      have h := railRetryLost_groups (u := judged u r.val) r.isLt (n := n) (by change smapFind u.pwr.retries r.val = some n; rw [hpwr]; exact hr) hn (by rw [hjs, hsys]; exact hsave)
      rw [railNoStart_retried (n := n) (by rw [hpwr]; exact hr)]
      obtain ⟨h1, h2, h3, h4, h5⟩ := h
      exact ⟨h1, fun k hk => h2 k (by rw [hgroup]; exact hk), h3.trans (by change u.pwr.waiting &&& _ = s.pwr.waiting &&& _; rw [hpwr]), h4.trans (hjs.trans hsys),
        h5.trans ((hjf.same .dram (by decide)).trans (hu.frame.same .dram (by decide)))⟩

end Sys2Proof.Proofs

/-! PROOF. HANDOVER (R213 to R215, R222): the restore that it starts, the service that it enters without one, and the return from rebound. -/

namespace Sys2Proof.Proofs

open Sys2Proof.Machine Sys2Proof.Machine.Reg Sys2Proof.Laws

/-- The DRAM is as it was, but that the lines under the pattern of a DRAM-side run are back in their places (R144). -/
def Homed (s t : State) : Prop := (s.fld TRN_STS_STEP = 0 → t.dram = s.dram) ∧ (s.fld TRN_STS_STEP ≠ 0 → t.dram = s.areaBack.dram)

theorem Homed.before {F : Foot} {s u t : State} (h : Homed u t) (f : Frame F s u) (hd : Part.dram ∉ F.parts) (ha : Part.area ∉ F.parts)
    (hs : F.spares TRN_STS_STEP.addr = true) : Homed s t := by
  obtain ⟨h0, h1⟩ := h
  rw [f.fld TRN_STS_STEP hs] at h0 h1
  exact ⟨fun h => (h0 h).trans (f.same .dram hd), fun h => (h1 h).trans (sameHome_of_frame f hd ha)⟩

theorem Homed.after {F : Foot} {s u t : State} (h : Homed s u) (f : Frame F u t) (hd : Part.dram ∉ F.parts) : Homed s t :=
  ⟨fun hs => (f.same .dram hd).trans (h.1 hs), fun hs => (f.same .dram hd).trans (h.2 hs)⟩

/-- The state of `trainAbandon` before its flags: a run has stopped. -/
def abandonRun (s : State) : State :=
  if s.fld TRN_STS_STEP ≠ 0 then (s.setFld (dramRec (s.trn.retrain.getD (s.fld TRN_STS_ACTIVE_SP))) 2).trainHalt else s

theorem homed_abandonRun (s : State) : Homed s (abandonRun s) := by
  unfold abandonRun
  constructor
  · intro h
    rw [if_neg (not_not.mpr h)]
  · intro h
    rw [if_pos h, dram_trainHalt]
    exact sameHome_of_frame (frame_setFld ..) (by simp) (by simp)

theorem dram_trainAbandon (s : State) : s.trainAbandon.dram = (abandonRun s).dram := by
  unfold State.trainAbandon abandonRun
  simp only [decide_eq_true_eq]
  split <;> split <;> split <;> rfl

theorem homed_trainAbandon (s : State) : Homed s s.trainAbandon := by
  have h := homed_abandonRun s
  rw [Homed, ← dram_trainAbandon] at h
  exact h

/-! Service entered: its record, the end of the attach attempt, and what goes on again. -/

/-- The SERVICE record is with the ledger. -/
def serviceRecord (s : State) : State :=
  let t := (s.setMode .service).setFlag SAV_CTL_RST_DISCARD false
  t.ledger (.service t.epoch t.tick)

/-- An open attach attempt has succeeded: the boot anchor's count of failures is 0 again (R252). -/
def attemptDone (t : State) : State :=
  if t.sys.attempt then
    (({ t with sys := { t.sys with attempt := false } } : State).writeBoot (fun (b : BootAnchor) => { b with fails := 0 })).showFails.commitNow (.attach 0 0)
  else t

/-- The charger, dispatch and, after a rebound, the erases go on, and a periodic test that fell due starts. -/
def serviceRuns (fromRebound : Bool) (t : State) : State :=
  let t := { t with pwr := { t.pwr with charger := t.pwr.charger || t.pwr.test.isNone }, pkt := { t.pkt with halted := false },
                    sys := { t.sys with keeperTraining := false } }
  let t := if fromRebound then t.fceResumeAll else t
  t.periodicStart

theorem enterService_eq (s : State) : s.enterService = serviceRuns (decide (s.sys.mode = .rebound)) (attemptDone (serviceRecord s)) := rfl

theorem frame_serviceRecord (s : State) : Frame ⟨[.flo, .fresh, .evr, .slots, .flt], none⟩ (s.setMode .service) (serviceRecord s) :=
  .step rfl (frame_ledger ..) <| .step rfl (frame_setFlag ..) <| .refl _ _

theorem frame_attemptDone (t : State) : Frame ⟨[.sys, .images, .sheaves, .boot, .commitLog, .commits, .flash, .flo, .fresh, .evr, .slots, .flt], none⟩ t (attemptDone t) := by
  unfold attemptDone
  split
  · exact .step rfl (frame_commitNow ..) <| .step rfl (frame_showFails ..) <| .step rfl (frame_writeBoot ..) <|
      .lit t (fun p hp => by cases p <;> first | with_reducible rfl | exact absurd (by decide) hp) (.refl _ t)
  · exact .refl _ t

theorem frame_serviceRuns (b : Bool) (t : State) : Frame ⟨[.sys, .exec, .held, .pkt, .fce, .flt, .kite, .pwr], none⟩ t (serviceRuns b t) := by
  unfold serviceRuns
  dsimp only
  refine .step rfl (frame_periodicStart ..) ?_
  split
  · exact .step rfl (frame_fceResumeAll ..) <|
      .lit t (fun p hp => by cases p <;> first | with_reducible rfl | exact absurd (by decide) hp) (.refl _ t)
  · exact .lit t (fun p hp => by cases p <;> first | with_reducible rfl | exact absurd (by decide) hp) (.refl _ t)

theorem enterService_mode (s : State) : s.enterService.sys.mode = .service := by
  rw [enterService_eq]
  exact ((frame_serviceRuns ..).same .mode (by decide)).trans (((frame_attemptDone _).same .mode (by decide)).trans
    (((frame_serviceRecord s).same .mode (by decide)).trans (setMode_mode s .service)))

theorem setMode_attempt (s : State) (m : Mode) : (s.setMode m).sys.attempt = s.sys.attempt := by
  unfold State.setMode
  split <;> rfl

theorem serviceRecord_attempt (s : State) : (serviceRecord s).sys.attempt = s.sys.attempt :=
  (congrArg Sys.attempt ((frame_serviceRecord s).same .sys (by decide))).trans (setMode_attempt s _)

/-- With no attach attempt open no boot anchor is written: the images stand. -/
theorem enterService_images (s : State) (h : s.sys.attempt = false) : s.enterService.flash.images = s.flash.images := by
  have hd : attemptDone (serviceRecord s) = serviceRecord s := if_neg (by rw [serviceRecord_attempt, h]; decide)
  rw [enterService_eq, hd]
  exact ((frame_serviceRuns ..).same .images (by decide)).trans (((frame_serviceRecord s).same .images (by decide)).trans
    ((frame_setMode s .service).same .images (by decide)))

/-! HANDOVER in attach. -/

/-- What a HANDOVER in attach does in every case: learning, training and the captured lines are over. -/
def attachClosed (s : State) : State :=
  let t := (((s.learnStop 5).trainAbandon).trainLeave).bump PKT_DISCARD_MODE s.hbp.packetQ.length
  { t with trn := { t.trn with hop := false }, hbp := { t.hbp with packetQ := [] } }

theorem attachClosed_lead (s : State) : Frame ⟨[.hbp, .trn], some [TRN_STS_ABANDONED.addr, PKT_DISCARD_DISABLED_RING.addr]⟩ (s.learnStop 5).trainAbandon (attachClosed s) :=
  .lit _ (fun p hp => by cases p <;> first | with_reducible rfl | exact absurd (by decide) hp) <| .step rfl (frame_bump ..) <| .step rfl (frame_trainLeave ..) <| .refl _ _

theorem homed_attachClosed (s : State) : Homed s (attachClosed s) :=
  ((homed_trainAbandon _).before (frame_learnStop ..) (by decide) (by decide) (by decide)).after (attachClosed_lead s) (by decide)

theorem attachClosed_frame (s : State) : Frame ⟨[.hbp, .dram, .area, .trn, .cln, .fresh, .evr],
    some [TRN_STS_ABANDONED.addr, TRN_SP_STS_DRAM0.addr, CLN_STS_AFFINE.addr, PKT_DISCARD_DISABLED_RING.addr]⟩ s (attachClosed s) :=
  .lit _ (fun p hp => by cases p <;> first | with_reducible rfl | exact absurd (by decide) hp) <| .step rfl (frame_bump ..) <| .step rfl (frame_trainLeave ..) <|
    .step rfl (frame_trainAbandon ..) <| .step rfl (frame_learnStop ..) <| .refl _ s

theorem trainLeave_selfRef (s : State) : s.trainLeave.hbp.selfRef = s.hbp.selfRef := by
  unfold State.trainLeave
  dsimp only
  split <;> rfl

theorem attachClosed_selfRef (s : State) : (attachClosed s).hbp.selfRef = s.hbp.selfRef := by
  have h1 : (attachClosed s).hbp.selfRef = (s.learnStop 5).trainAbandon.hbp.selfRef := trainLeave_selfRef _
  rw [h1, (frame_trainAbandon _).same .hbp (by decide), (frame_learnStop ..).same .hbp (by decide)]

/-- The image that a HANDOVER restores, as the decision stands (R213, R214). -/
def restoreChoice (t : State) : Option Image :=
  if t.fld SAV_RST_DEC_CODE = 1 then t.flash.images.find? (fun i => decide (i.gen = t.fld SAV_RST_GEN)) else none

/-- A host that discards the restore ends its decision. -/
def discardTaken (t : State) : State :=
  if t.flag SAV_CTL_RST_DISCARD then (t.setFld SAV_RST_DEC_CODE 5).setFlag SAV_STS_RESTORE_DECIDED false else t

/-- HANDOVER of an attach attempt: the restore of the image, or service without one. -/
def attemptHandover (t : State) : State :=
  match restoreChoice t with
  | some i => t.restoreStart i
  | none => t.noRestore.enterService

theorem attachHandover_eq (s : State) :
    s.attachHandover = if s.sys.attempt then attemptHandover (discardTaken (attachClosed s)) else (attachClosed s).enterService := by
  have ha : (attachClosed s).sys.attempt = s.sys.attempt := congrArg Sys.attempt ((attachClosed_frame s).same .sys (by decide))
  have h : s.attachHandover = if !(attachClosed s).sys.attempt then (attachClosed s).enterService else attemptHandover (discardTaken (attachClosed s)) := rfl
  rw [h, ha]
  cases s.sys.attempt <;> rfl

theorem frame_discardTaken (t : State) : Frame ⟨[], none⟩ t (discardTaken t) := by
  unfold discardTaken
  split
  · exact .step rfl (frame_setFlag ..) <| .step rfl (frame_setFld ..) <| .refl _ t
  · exact .refl _ t

theorem restoreChoice_none {t : State} (h : t.fld SAV_RST_DEC_CODE ≠ 1 ∨ t.flag SAV_CTL_RST_DISCARD = true) : restoreChoice (discardTaken t) = none := by
  unfold restoreChoice discardTaken
  refine if_neg ?_
  split
  · have h5 : ((t.setFld SAV_RST_DEC_CODE 5).setFlag SAV_STS_RESTORE_DECIDED false).fld SAV_RST_DEC_CODE = 5 :=
      (fld_setFld_ne _ _ (by decide)).trans (fld_setFld_same _ _ (by decide))
    rw [h5]
    decide
  · next hd => exact h.resolve_right hd

/-- A HANDOVER after an attach that H_RESET_n brought about. -/
theorem handover_hReset {s : State} (h : s.sys.attempt = false) :
    s.attachHandover.sys.mode = .service ∧ s.attachHandover.per.dirty = s.per.dirty ∧ s.attachHandover.flash.images = s.flash.images ∧ Homed s s.attachHandover := by
  have hc := attachClosed_frame s
  have ha : (attachClosed s).sys.attempt = false := (congrArg Sys.attempt (hc.same .sys (by decide))).trans h
  have he := frame_enterService (attachClosed s)
  rw [attachHandover_eq, h, if_neg (by decide)]
  exact ⟨enterService_mode _, (he.same .dirty (by decide)).trans (hc.same .dirty (by decide)),
    (enterService_images _ ha).trans (hc.same .images (by decide)), (homed_attachClosed s).after he (by decide)⟩

theorem dirty_noRestore (t : State) : t.noRestore.per.dirty = fmapAll .dirty :=
  ((frame_abandonSeals _).same .dirty (by decide)).trans (((frame_setAllDirty ..).same .dirty (by decide)))

/-- A HANDOVER with no image to restore. -/
theorem handover_noImage {s : State} (h : s.sys.attempt = true) (hd : s.fld SAV_RST_DEC_CODE ≠ 1 ∨ s.flag SAV_CTL_RST_DISCARD = true) :
    s.attachHandover.sys.mode = .service ∧ (∀ g, s.present g = true → fmapGet s.attachHandover.per.dirty g = .dirty) ∧ Homed s s.attachHandover := by
  have hc := attachClosed_frame s
  rw [← hc.fld SAV_RST_DEC_CODE (by decide), ← hc.flag SAV_CTL_RST_DISCARD (by decide)] at hd
  rw [attachHandover_eq, if_pos h, attemptHandover, restoreChoice_none hd]
  have he := frame_enterService (discardTaken (attachClosed s)).noRestore
  refine ⟨enterService_mode _, fun g _ => ?_, (((homed_attachClosed s).after (frame_discardTaken _) (by decide)).after (frame_noRestore _) (by decide)).after he (by decide)⟩
  rw [he.same .dirty (by decide), dirty_noRestore, fmapGet_all]

/-! The restore begins. -/

theorem takeDram_shows (t : State) (owner : Nat) (ho : owner < 16) :
    (t.takeDram owner).fld DCT_STS_OWNER = owner ∧ (t.takeDram owner).flag DCT_STS_OWNED = true := by
  unfold State.takeDram
  dsimp only
  refine ⟨(fld_setFld_ne _ _ (by decide)).trans ((fld_setFld_ne _ _ (by decide)).trans ((fld_setFld_ne _ _ (by decide)).trans
    ((fld_setFld_same _ _ (by decide)).trans (Nat.mod_eq_of_lt ho)))), ?_⟩
  exact (flag_of_fld (fld_setFld_ne _ _ (by decide))).trans ((flag_of_fld (fld_setFld_ne _ _ (by decide))).trans (flag_setFlag_same _ _ (by decide) (by decide)))

theorem restoreTake_locked {t : State} (hp : t.sys.phase = .restore) (hl : t.flag CLK_STS_D_LOCK = true) (ho : t.flag DCT_STS_OWNED = false) :
    t.restoreTake.fld DCT_STS_OWNER = 2 ∧ t.restoreTake.flag DCT_STS_OWNED = true ∧ t.restoreTake.hbp.selfRef = 0 := by
  have h : t.restoreTake = (t.takeDram 2).leaveSelfRef := if_pos (by simp [hp, hl, ho])
  obtain ⟨h1, h2⟩ := takeDram_shows t 2 (by decide)
  rw [h]
  exact ⟨h1, h2, rfl⟩

theorem restoreTake_unlocked {t : State} (hl : t.flag CLK_STS_D_LOCK = false) : t.restoreTake = t := if_neg (by simp [hl])

/-- The phase is entered, and the DRAM taken where its loop is locked. -/
def restoreEntered (s : State) : State := (({ s with hbp := { s.hbp with rows := [] } } : State).setPhase .restore).restoreTake

theorem restoreEntered_lead {s : State} (hm : s.sys.mode = .attach) :
    restoreEntered s = ({ s with hbp := { s.hbp with rows := [] }, sys := { s.sys with phase := .restore } } : State).restoreTake := by
  unfold restoreEntered
  exact congrArg State.restoreTake (if_pos hm)

theorem restoreStart_frame (s : State) (i : Image) : Frame ⟨[.per, .gln, .sav], some [SAV_STS_ABANDONED.addr, SAV_FENCED.addr, SAV_RST_DONE.addr, SAV_RST_LOST.addr, SAV_RST_REBUILT.addr]⟩ (restoreEntered s) (s.restoreStart i) :=
  .step rfl (frame_loadMaps ..) <| .step rfl (frame_setFld ..) <| .step rfl (frame_setFld ..) <| .step rfl (frame_setFld ..) <| .step rfl (frame_setFld ..) <|
    .step rfl (frame_setFld ..) <| .step rfl (frame_setFld ..) <| .step rfl (frame_setFlag ..) <|
    .lit _ (fun p hp => by cases p <;> first | with_reducible rfl | exact absurd (by decide) hp) (.refl _ _)

theorem restoreStart_flags (s : State) (i : Image) : (s.restoreStart i).flag SAV_STS_RESTORING = true ∧ (s.restoreStart i).fld SAV_STS_STAGE = 5 := by
  unfold State.restoreStart
  dsimp only
  have h (f : Fld) (v : State) : (v.loadMaps i).fld f = v.fld f := rfl
  constructor
  · refine (flag_of_fld (h _ _)).trans ?_
    iterate 6 refine (flag_of_fld (fld_setFld_ne _ _ (by decide))).trans ?_
    exact flag_setFlag_same _ _ (by decide) (by decide)
  · refine (h _ _).trans ?_
    iterate 5 refine (fld_setFld_ne _ _ (by decide)).trans ?_
    exact fld_setFld_same _ _ (by decide)

/-- The maps of the image are in force (R217 step 2). -/
theorem restoreStart_maps (s : State) (i : Image) :
    (s.restoreStart i).gln.regions = i.regions.map (fun x => (x.1, { x.2 with verified := false })) ∧
    (s.restoreStart i).gln.cover = i.cover ∧ (s.restoreStart i).gln.repair = i.repair := ⟨rfl, rfl, rfl⟩

/-- In attach the restore enters its phase and stays in attach. -/
theorem restoreStart_phase {s : State} (i : Image) (hm : s.sys.mode = .attach) :
    (s.restoreStart i).sys.mode = .attach ∧ (s.restoreStart i).sys.phase = .restore := by
  have h : (s.restoreStart i).sys = { s.sys with phase := .restore } := by
    rw [(restoreStart_frame s i).same .sys (by decide), restoreEntered_lead hm, (frame_restoreTake _).same .sys (by decide)]
  rw [h]
  exact ⟨hm, rfl⟩

/-- The DRAM is taken with its loop locked. -/
theorem restoreStart_locked {s : State} (i : Image) (hm : s.sys.mode = .attach) (hl : s.flag CLK_STS_D_LOCK = true) (ho : s.flag DCT_STS_OWNED = false) :
    (s.restoreStart i).fld DCT_STS_OWNER = 2 ∧ (s.restoreStart i).flag DCT_STS_OWNED = true ∧ (s.restoreStart i).hbp.selfRef = 0 := by
  have hf := restoreStart_frame s i
  rw [hf.fld DCT_STS_OWNER (by decide), hf.flag DCT_STS_OWNED (by decide), hf.same .selfRef (by decide), restoreEntered_lead hm]
  exact restoreTake_locked rfl hl ho

theorem restoreStart_unlocked {s : State} (i : Image) (hm : s.sys.mode = .attach) (hl : s.flag CLK_STS_D_LOCK = false) :
    (s.restoreStart i).fld DCT_STS_OWNER = s.fld DCT_STS_OWNER ∧ (s.restoreStart i).hbp.selfRef = s.hbp.selfRef := by
  have hf := restoreStart_frame s i
  rw [hf.fld DCT_STS_OWNER (by decide), hf.same .selfRef (by decide), restoreEntered_lead hm, restoreTake_unlocked (by exact hl)]
  exact ⟨rfl, rfl⟩

/-- A HANDOVER with an image to restore starts its restore. -/
theorem attachHandover_restore {s : State} {i : Image} (h : s.sys.attempt = true) (hd : s.fld SAV_RST_DEC_CODE = 1) (hk : s.flag SAV_CTL_RST_DISCARD = false)
    (hi : s.flash.images.find? (fun (i : Image) => decide (i.gen = s.fld SAV_RST_GEN)) = some i) : s.attachHandover = (attachClosed s).restoreStart i := by
  have hc := attachClosed_frame s
  rw [← hc.fld SAV_RST_DEC_CODE (by decide)] at hd
  rw [← hc.flag SAV_CTL_RST_DISCARD (by decide)] at hk
  rw [← hc.fld SAV_RST_GEN (by decide), ← hc.same .images (by decide)] at hi
  have hdt : discardTaken (attachClosed s) = attachClosed s := if_neg (by rw [hk]; decide)
  have hch : restoreChoice (attachClosed s) = some i := (if_pos hd).trans hi
  rw [attachHandover_eq, if_pos h, hdt, attemptHandover, hch]

/-! The return from rebound (R222). -/

theorem clockBack_fld (s : State) (f : Fld) (h : f.addr ≠ CLK_STS_D_SRC.addr) : s.clockBack.fld f = s.fld f := fld_setFld_ne _ _ (.inl h)

theorem giveDram_owner (s : State) : s.giveDram.fld DCT_STS_OWNER = 0 := by
  unfold State.giveDram
  dsimp only
  refine (clockBack_fld _ _ (by decide)).trans ?_
  iterate 3 refine (fld_setFld_ne _ _ (by decide)).trans ?_
  exact fld_setFld_same _ _ (by decide)

/-- Until service or keeper mode goes on: the DRAM is the HBP's and out of self-refresh. -/
def dramReturned (s : State) : State :=
  let s := s.trainAbandon
  let t : State := { s with trn := { s.trn with hop := false } }
  let t := ((t.giveDram).leaveSelfRef).applyCaLat
  (((t.setFlag SAV_STS_REBOUND_WAIT false).setFlag PER_STS_FROZEN false).setFlag SPT_STS_SAVE_DECIDED false).trainLeave

/-- In keeper mode entered from rebound: dispatch resumes (R436). -/
def keeperResumed (t : State) : State := { t with sys := { t.sys with keeperFrom := .service }, pkt := { t.pkt with halted := false } }

/-- In rebound: service, and each SAVE_NOW that waits is answered. -/
def serviceResumed (t : State) : State :=
  (t.enterService.waiting 0x09).foldl (fun (u : State) e => u.complete e stOk (saveNowResult e) noByte) t.enterService

theorem reboundDone_eq (s : State) : s.reboundDone = if (dramReturned s).sys.mode = .keeper then keeperResumed (dramReturned s) else serviceResumed (dramReturned s) := rfl

theorem dramReturned_tail (s : State) : Frame ⟨[.selfRef, .hbp, .trn, .bdc], none⟩ s.trainAbandon (dramReturned s) :=
  .step rfl (frame_trainLeave ..) <| .step rfl (frame_setFlag ..) <| .step rfl (frame_setFlag ..) <| .step rfl (frame_setFlag ..) <| .step rfl (frame_applyCaLat ..) <|
    .step rfl (frame_leaveSelfRef ..) <| .step rfl (frame_giveDram ..) <|
    .lit _ (fun p hp => by cases p <;> first | with_reducible rfl | exact absurd (by decide) hp) <| .refl _ _

theorem homed_dramReturned (s : State) : Homed s (dramReturned s) := (homed_trainAbandon s).after (dramReturned_tail s) (by decide)

theorem dramReturned_sys (s : State) : (dramReturned s).sys = s.sys :=
  ((dramReturned_tail s).same .sys (by decide)).trans ((frame_trainAbandon s).same .sys (by decide))

theorem dramReturned_dram (s : State) : (dramReturned s).hbp.selfRef = 0 ∧ (dramReturned s).fld DCT_STS_OWNER = 0 := by
  unfold dramReturned
  dsimp only
  refine ⟨?_, ?_⟩
  · rw [trainLeave_selfRef]
    rfl
  · refine ((frame_trainLeave _).fld _ (by decide)).trans ?_
    iterate 3 refine (fld_setFld_ne _ _ (by decide)).trans ?_
    exact ((frame_applyCaLat _).fld _ (by decide)).trans (((frame_leaveSelfRef _).fld _ (by decide)).trans (giveDram_owner _))

theorem frame_answered (t : State) : Frame ⟨[.exec, .held, .pkt, .kite], some [PKT_STS_DEPTH_USED.addr, PKT_MBX_STS_BUSY.addr, 0x5180, 0x5184, 0x5188, 0x518c, 0x5190, 0x5194, 0x5198, 0x519c]⟩
    t.enterService (serviceResumed t) :=
  frame_foldl (fun _ _ hu => .step rfl (frame_complete ..) hu) (.refl _ _)

theorem reboundDone_service {s : State} (hm : s.sys.mode = .rebound) :
    s.reboundDone.sys.mode = .service ∧ s.reboundDone.hbp.selfRef = 0 ∧ s.reboundDone.fld DCT_STS_OWNER = 0 ∧ Homed s s.reboundDone := by
  obtain ⟨hr, ho⟩ := dramReturned_dram s
  have he := frame_enterService (dramReturned s)
  have hf := frame_answered (dramReturned s)
  have hk : (dramReturned s).sys.mode ≠ .keeper := by rw [dramReturned_sys, hm]; decide
  rw [reboundDone_eq, if_neg hk]
  exact ⟨(hf.same .mode (by decide)).trans (enterService_mode _), (hf.same .selfRef (by decide)).trans ((he.same .selfRef (by decide)).trans hr),
    (hf.fld _ (by decide)).trans ((he.fld _ (by decide)).trans ho), ((homed_dramReturned s).after he (by decide)).after hf (by decide)⟩

theorem reboundDone_keeper {s : State} (hm : s.sys.mode = .keeper) :
    s.reboundDone.sys.mode = .keeper ∧ s.reboundDone.sys.keeperFrom = .service ∧ s.reboundDone.hbp.selfRef = 0 ∧ s.reboundDone.fld DCT_STS_OWNER = 0 ∧
    Homed s s.reboundDone := by
  obtain ⟨hr, ho⟩ := dramReturned_dram s
  have hk : (dramReturned s).sys.mode = .keeper := by rw [dramReturned_sys, hm]
  rw [reboundDone_eq, if_pos hk]
  exact ⟨hk, rfl, hr, ho, homed_dramReturned s⟩

/-! The branches of HANDOVER. -/

theorem handover_attach {s : State} (hf : s.flag TRN_STS_DRAM_FAIL = false) (hm : s.sys.mode = .attach) (hp : s.sys.phase = .train ∨ s.sys.phase = .learn) :
    s.handover = s.attachHandover := by
  unfold State.handover
  rw [if_neg (by rw [hf]; decide), if_pos (by simpa [hm] using hp)]

theorem preHandover_ne_attach {s : State} (h : s.preHandover = true) : s.sys.mode ≠ .attach := by
  intro hm
  simp [State.preHandover, hm] at h

theorem handover_rebound {s : State} (hf : s.flag TRN_STS_DRAM_FAIL = false) (hp : s.preHandover = true) :
    s.handover = if s.reboundOk then (if s.hReady then s.reboundDone else s.setFlag SAV_STS_REBOUND_WAIT true) else s := by
  have hm := preHandover_ne_attach hp
  have h : s.handover = if s.flag TRN_STS_DRAM_FAIL then s else if s.sys.mode = .attach && (s.sys.phase = .train || s.sys.phase = .learn) then s.attachHandover
      else if s.preHandover && s.reboundOk then (if s.hReady then s.reboundDone else s.setFlag SAV_STS_REBOUND_WAIT true) else s := rfl
  rw [h, if_neg (by rw [hf]; decide), if_neg (by simp [hm]), hp, Bool.true_and]

/-- HANDOVER has no effect: the phase of attach is another, or the mode neither attaches nor waits for it. -/
theorem handover_idle {s : State} (h1 : s.sys.mode ≠ .attach ∨ s.sys.phase ≠ .train ∧ s.sys.phase ≠ .learn) (h2 : s.preHandover = false) : s.handover = s := by
  have h : s.handover = if s.flag TRN_STS_DRAM_FAIL then s else if s.sys.mode = .attach && (s.sys.phase = .train || s.sys.phase = .learn) then s.attachHandover
      else if s.preHandover && s.reboundOk then (if s.hReady then s.reboundDone else s.setFlag SAV_STS_REBOUND_WAIT true) else s := rfl
  have hn : ¬ (s.sys.mode = .attach && (s.sys.phase = .train || s.sys.phase = .learn)) = true := by
    simp only [Bool.and_eq_true, Bool.or_eq_true, decide_eq_true_eq, not_and, not_or]
    exact fun hm => h1.resolve_left (not_not.mpr hm)
  rw [h, if_neg hn, h2, Bool.false_and, if_neg Bool.false_ne_true, ite_self]

theorem answers_handover {s : State} {p : State → Prop} (h : p s.handover) : Answers .handover s p := answers_of (i := .handover) rfl h

/-- Settles O28: in attach the training that runs stops with its lines back, and the image chosen is restored or service entered; from rebound the DRAM is given back first. -/
theorem handoverMoves : Obligations.HandoverMoves := by
  unfold Obligations.HandoverMoves
  intro s keeps
  refine ⟨fun h => answers_handover (if_pos h), fun hm hp => answers_handover (handover_idle (.inl hm) hp),
    fun hm ht hl => answers_handover (handover_idle (.inr ⟨ht, hl⟩) (by simp [State.preHandover, hm])), fun hf hm hp => ⟨fun ha => ?_, fun ha hd => ?_, fun ha i hd hk hi => ?_⟩,
    fun hf hp => ⟨fun ho => ?_, fun ho hh => ?_, fun ho hh hm => ?_, fun ho hh hm => ?_⟩⟩ <;> apply answers_handover
  · rw [handover_attach hf hm hp]
    exact handover_hReset ha
  · rw [handover_attach hf hm hp]
    exact handover_noImage ha hd
  · rw [handover_attach hf hm hp, attachHandover_restore ha hd hk hi]
    have hc := attachClosed_frame s
    have hr := frame_restoreStart (attachClosed s) i
    have hma : (attachClosed s).sys.mode = .attach := (hc.same .mode (by decide)).trans hm
    obtain ⟨hmode, hphase⟩ := restoreStart_phase i hma
    obtain ⟨hflag, hstage⟩ := restoreStart_flags (attachClosed s) i
    obtain ⟨hreg, hcov, hrep⟩ := restoreStart_maps (attachClosed s) i
    refine ⟨hmode, hphase, hflag, hstage, fun hl hown => ?_, fun hl => ?_, hreg, hcov, hrep, (homed_attachClosed s).after hr (by decide),
      (hr.same .images (by decide)).trans (hc.same .images (by decide))⟩
    · exact restoreStart_locked i hma ((hc.flag _ (by decide)).trans hl) ((hc.flag _ (by decide)).trans hown)
    · obtain ⟨ho, hs⟩ := restoreStart_unlocked i hma ((hc.flag _ (by decide)).trans hl)
      exact ⟨ho.trans (hc.fld _ (by decide)), hs.trans (attachClosed_selfRef s)⟩
  · rw [handover_rebound hf hp, ho, if_neg (by decide)]
  · rw [handover_rebound hf hp, ho, hh, if_pos rfl, if_neg (by decide)]
  · rw [handover_rebound hf hp, ho, hh, if_pos rfl, if_pos rfl]
    exact reboundDone_service hm
  · rw [handover_rebound hf hp, ho, hh, if_pos rfl, if_pos rfl]
    exact reboundDone_keeper hm

end Sys2Proof.Proofs
